-- ==== Sys2Proof/Word.lean ====
section
/-!
DEFINITION. The words of the model: what the manual treats as bits, and the plainest types everything else uses.
Bytes and 32-bit register words are bit vectors (R5); a stamp is a count of 0.25 ns units kept as a number below
`2 ^ 64` (R61); a binary32 or binary64 value is held as its bit pattern.
-/

namespace Sys2Proof

/-- One byte of a packet, frame or record (R5). -/
abbrev Byte := BitVec 8

/-- A register word of BAR0, BAR2 or an object (R113). -/
abbrev Word := BitVec 32

/-- A STAMP64: stamp units of 0.25 ns since the PTP epoch, below `2 ^ 64` (R61). -/
abbrev Stamp := Nat

/-- An IEEE 754 binary32 value, as its bit pattern (R204). -/
abbrev F32 := BitVec 32

/-- An IEEE 754 binary64 value, as its bit pattern (R81). -/
abbrev F64 := BitVec 64

/-- An angle: an unsigned fraction of one electrical revolution, `2 ^ 32` to the turn (R79). -/
abbrev Ang32 := BitVec 32

/-- Stamp units in one microsecond (R65). -/
abbrev usUnits : Nat := 4000

/-- Stamp units in one millisecond (R65). -/
abbrev msUnits : Nat := 4000000

/-- Stamp units in one second (R65). -/
abbrev sUnits : Nat := 4000000000

/-- A table of like units: key and value, keys rising; a key that is not listed has the unit's reset value. -/
abbrev Bank (α : Type) := List (Nat × α)

end Sys2Proof
end

