-- ==== Sys2Proof/Machine/Units.lean ====
section
/-!
DEFINITION. The state of the device's repeated units as plain data: slices, contexts, encoders, sensing channels,
auxiliary converters, gate links, CAN controllers, Ethernet ports and the Referee's view of a slice. The reset value
of every field is its default value here. Registers that the object dictionary holds (status words, counters,
configuration objects) live in the dictionary (`Dict` in State.lean) and are not repeated.
-/

namespace Sys2Proof.Machine

/-! ## Packets (R94) -/

/-- The link a packet came in on (R94, R114, R345). -/
inductive Link where
  | pcie (pair : Nat)
  | spi (k : Nat)
  | eth (p : Nat)
  | can (c : Nat)
  | mailbox
  | ring (node : Nat)
  deriving DecidableEq, Repr

/-- A command packet as a link delivered it: header fields and payload (Table 5.1). -/
structure Pkt where
  link : Link := .pcie 4
  version : BitVec 8 := 2#8
  flags : BitVec 8 := 0#8
  opcode : BitVec 16 := 0#16
  seq : BitVec 16 := 0#16
  session : BitVec 8 := 0xFF#8
  target : BitVec 8 := 0x0E#8
  len : BitVec 16 := 0#16
  status : BitVec 16 := 0#16
  crc : BitVec 32 := 0#32
  payload : List Byte := []
  deriving DecidableEq, Repr

/-- A reply packet waiting for, or standing in, its link's completion store (R96, R106). -/
structure Reply where
  link : Link
  flags : BitVec 8
  opcode : BitVec 16
  seq : BitVec 16
  session : BitVec 8
  target : BitVec 8
  status : BitVec 16
  crc : BitVec 32
  payload : List Byte
  entry : Nat := 0xFFFF      -- index of the SQ entry answered; 0xFFFF for a notification
  reexec : Bool := false
  deriving DecidableEq, Repr

/-- A stamped record: the header of Table 4.14 and its body. -/
structure Rec where
  stamp : Stamp
  boot : Nat
  seq : Nat
  src : Nat
  tq : Nat
  body : List Byte
  deriving DecidableEq, Repr

/-- A log record: the header of Table 4.14 and the body of Table 15.4. -/
structure LogRec where
  num : Nat
  stamp : Stamp
  boot : Nat
  seq : Nat
  src : Nat
  tq : Nat
  code : Nat
  sev : Nat
  unit : Nat
  data : Nat            -- bytes 24-31, little-endian
  deriving DecidableEq, Repr

/-- An object record (R127): index, type code, data length, data. -/
structure ObjRec where
  idx : Nat
  ty : Nat
  len : Nat
  data : Nat
  deriving DecidableEq, Repr

/-! ## Slices -/

/-- Slice states (Table 10.1). -/
inductive SliceState where
  | disabled | armed | catching | engaging | running | stopping | heldBlock | heldShort | discharging
  deriving DecidableEq, Repr

/-- What a slice's links are commanded to do (Table 10.1, R298). -/
inductive Pattern where
  | off            -- no EDGE frames
  | block          -- pulse block
  | shortCircuit   -- active short circuit
  | vectors        -- context outputs through the modulator
  | zeroVolt       -- zero fundamental, injection only
  | zeroVector     -- a catch pulse
  | discharge      -- discharge link on
  deriving DecidableEq, Repr

/-- A waiting setpoint (R237): speed or torque, applied at the first sample at or after `apply`. -/
structure Setpoint where
  torqueMode : Bool
  value : F32
  limit : F32
  apply : Stamp
  sess : Nat := 0xFE     -- session of its command (R130)
  deriving DecidableEq, Repr

/-- Stamp and session of an object's last change (R130). -/
structure Meta where
  stamp : Stamp := 0
  session : Nat := 0xFE
  deriving DecidableEq, Repr

/-- The angle predictor (R81). POS64 is kept modulo `2 ^ 64`. -/
structure Predictor where
  tRef : Stamp := 0
  pos : Nat := 0
  omega : F32 := 0#32
  alpha : F32 := 0#32
  valid : Bool := false
  phaseK : Nat := 0
  deriving DecidableEq, Repr

/-- Slice signals (Table 9.4). -/
structure Signals where
  iD : F32 := 0#32
  iQ : F32 := 0#32
  iD2 : F32 := 0#32
  iQ2 : F32 := 0#32
  iAlpha : F32 := 0#32
  iBeta : F32 := 0#32
  raw : List (F32 × F32 × F32 × F32) := []   -- dq currents of both sets at the latest samples, newest first
  omegaE : F32 := 0#32
  vDc : F32 := 0#32
  torqueRef : F32 := 0#32
  idRef : F32 := 0#32
  iqRef : F32 := 0#32
  vdApp : F32 := 0#32
  vqApp : F32 := 0#32
  vMargin : F32 := 0#32
  vAlpha : F32 := 0#32
  vBeta : F32 := 0#32
  vdCmd : F32 := 0#32
  vqCmd : F32 := 0#32
  vd2Cmd : F32 := 0#32
  vq2Cmd : F32 := 0#32
  idFw : F32 := 0#32
  obsEa : F32 := 0#32
  obsEb : F32 := 0#32
  innov0 : F32 := 0#32
  innov1 : F32 := 0#32
  deriving DecidableEq, Repr

/-- A phase-locked loop of the slice (R246, R247). -/
structure Pll where
  theta : Ang32 := 0#32
  omega : F32 := 0#32
  err : Int := 0           -- phase error in ANG32 units
  deriving DecidableEq, Repr

/-- The sensorless sources and their blend (R246 to R249). -/
structure Blend where
  b : F32 := 0#32
  target : Bool := false     -- true: observer (1), false: injection (0)
  injecting : Bool := false
  injFrom : Option Nat := none  -- tick of the carrier period start at which injection starts
  injTo : Option Nat := none    -- tick at which it stops
  settle : Nat := 0          -- samples for which b still holds
  obs : Pll := {}
  hf : Pll := {}
  sensorless : Bool := false -- an encoder fault has switched the slice to sensorless (R249)
  deriving DecidableEq, Repr

/-- Catch methods in the order of Table 10.5. -/
inductive CatchMethod where
  | asc | encoder | backEmf | pulses | hfStart
  deriving DecidableEq, Repr

/-- A catch in progress (R250 to R252). -/
structure CatchRun where
  method : CatchMethod := .encoder
  fromShort : Bool := false
  start : Stamp := 0
  begun : Bool := false
  first : Stamp := 0
  last : Stamp := 0
  lastAngle : Ang32 := 0#32
  turn : Int := 0            -- unwrapped turn, ANG32 units
  magOk : Bool := true
  magAny : Bool := false
  pulse0 : Stamp := 0
  pulseNo : Nat := 0
  pulseMags : Bank F32 := []    -- largest magnitude after each pulse
  pulseAngs : Bank Ang32 := []  -- and the angle of that current vector
  settle : Nat := 0
  polPhase : Nat := 0        -- 0 none, 1 to 4 the four phases of R251
  polFrom : Stamp := 0       -- start of the running polarity test
  polTries : Nat := 0
  pPlus : F32 := 0#32
  pMinus : F32 := 0#32
  deriving DecidableEq, Repr

/-- Observer loss and re-catch (R256, R257). -/
structure Loss where
  run : Nat := 0
  windowEnd : Option Stamp := none
  recatchAt : Option Stamp := none
  recatching : Bool := false
  lockout : Bool := false
  deriving DecidableEq, Repr

/-- A discharge in progress (R259). -/
structure Discharge where
  switchM : Bool
  start : Stamp
  threshold : Nat
  settle : Nat := 0        -- samples of the injection settling still to come
  deriving DecidableEq, Repr

/-- An update interval that the modulator has computed: what it brings when it starts (R11, R240, R241). -/
structure Plan where
  start : Stamp
  stop : Stamp
  pat : Pattern
  vd : F32
  vq : F32
  vLim : F32
  vAlpha : F32
  vBeta : F32
  deriving DecidableEq, Repr

/-- The modulator of a slice (R262 to R272). Carrier extremes are kept in ticks. -/
structure Modulator where
  running : Bool := false
  e0 : Nat := 0                    -- a valley from which the extremes are counted: its tick, or its edge of MCLK_IN (R262)
  period : Nat := 0                -- carrier period in force, counts
  grid : Nat := 0                  -- the decimation grid's origin, as `e0` (R144)
  gridEdge : Nat := 0              -- the edge of MCLK_IN at the grid's origin
  pendPeriod : List (Nat × Stamp) := []   -- periods written and not yet in force, with the least stamp of their valley
  since : Nat := 0                 -- tick of the enable
  sinceEdge : Nat := 0             -- first edge of MCLK_IN at or after it
  syncMode : Bool := false
  syncN : Nat := 0
  nextMode : Option (Bool × Nat × Stamp) := none   -- change at t_b
  target : Option (Bool × Nat) := none             -- target chosen at the last control sample
  syncSample : Option Stamp := none                -- latest ANGLE occurrence that samples (R270)
  plans : List Plan := []                          -- computed intervals that have not started, oldest first
  doneTo : Stamp := 0                              -- end of the latest computed interval
  pend : Option Pattern := none
  pendAt : Stamp := 0
  active : Pattern := .off
  vd : F32 := 0#32                                 -- voltage of the latest computed interval
  vq : F32 := 0#32
  vLim : F32 := 0#32
  deriving DecidableEq, Repr

/-- A rally entry's dynamic state (R85, R82, R83). -/
structure RallyDyn where
  occ : Nat := 0                       -- occurrences since the write
  next : Stamp := 0                    -- stamp of the next TIME or PWM_PHASE occurrence considered
  committed : Option Stamp := none
  writtenAt : Option Stamp := none     -- write tick, until the first refresh after it
  writtenAng : Nat := 0
  did : Bool := false                  -- a crossing was committed since the previous refresh
  deriving DecidableEq, Repr

/-- One result of a sensing channel. -/
structure SdRes where
  stamp : Stamp
  code : Int
  value : F32
  ovr : Bool
  deriving DecidableEq, Repr

/-- One drive slice. -/
structure Slice where
  st : SliceState := .disabled
  stAt : Stamp := 0                -- stamp of the latest change of state (R130)
  torqueMode : Bool := false
  target : F32 := 0#32             -- ramp target as commanded
  torqueCmd : F32 := 0#32
  torqueNeg : Bool := false        -- sign kept by a torque of exactly zero
  speedLim : F32 := 0#32
  modeBy : Meta := {}              -- latest change of mode, target and torque command (R130)
  targetBy : Meta := {}
  torqueBy : Meta := {}
  pendSet : List Setpoint := []    -- waiting setpoints in the order of their acceptance
  rampRef : F32 := 0#32
  rampAcc : F32 := 0#32
  lastSample : Stamp := 0
  samples : Nat := 0
  stopMode : Nat := 0              -- 0 RAMP, 1 COAST, 2 SHORT
  stopCause : Nat := 0             -- as DRV_STOPPED byte 25
  refresh : Stamp := 0             -- latest setpoint refresh (R15), timer clock
  pred : Predictor := {}
  sig : Signals := {}
  blend : Blend := {}
  catchRun : Option CatchRun := none
  loss : Loss := {}
  zeroSince : Option Stamp := none
  dis : Option Discharge := none
  engaged : List Nat := []         -- contexts triggered since the entry to ENGAGING
  engNormal : List Nat := []       -- contexts with a normal write since then
  groupNeg : Bool := false         -- direction sign s is -1
  winner : Nat := 0xFF
  groupAt : Stamp := 0             -- tick of the latest group decision (R130)
  modu : Modulator := {}
  rally : Bank RallyDyn := []
  slotRes : Bank SdRes := []       -- latest result per slot
  slotPrev : Bank SdRes := []      -- the result before it
  shadowRes : Bank SdRes := []
  shadowPrev : Bank SdRes := []
  shadowOvr : Bank Nat := []       -- results of the shadow filter that still carry OVR (R148)
  slotInterp : Bank SdRes := []    -- latest interpolated result of a control sample (R145)
  slotOld : Bank (List SdRes) := []   -- results that newer ones have displaced, newest first (R216)
  shadowOld : Bank (List SdRes) := []
  promoteAt : Bank Stamp := []     -- slots waiting for the first extreme at or after the loss stamp
  angQ : List (Nat × Nat × Stamp × Bool) := []   -- ANGLE occurrences whose reached angle comes with the next sample
  thermStop : Bool := false
  rearmAt : Option Nat := none     -- tick on which the latest re-arm passes through DISABLED (R234)
  actAt : Option Stamp := none     -- stamp of the latest change of state, and its rank in R236
  actRank : Nat := 0
  stopOpen : Bool := false         -- a stop whose DRV_STOPPED is still to come
  cpLost : Bool := false           -- the stop of R15 has been taken for this missed deadline
  vecAng : Option (Stamp × Ang32) := none  -- current vector angle at the latest sample
  before : Bank (Stamp × Nat) := []   -- objects written since the latest sample: stamp of the first write, value it replaced (R260)
  caughtBy : Nat := 0              -- method of the latest catch, as Table 10.5 orders them
  caughtW : F32 := 0#32
  iRefHist : List (Stamp × F32 × F32) := []  -- ID_REF, IQ_REF held, newest first, for SAF_TORQUE_LAG
  deriving DecidableEq, Repr

/-! ## Crucible contexts -/

/-- An evaluation of a context on its way through a matrix unit. -/
structure Eval where
  trigger : Stamp
  sample : Stamp
  ready : Stamp          -- inputs ready
  started : Option (Stamp × Stamp) := none   -- fetch stamp, ready stamp
  unit : Nat := 0
  result : Option (List F32 × List F32 × List F32 × Bool × Bool) := none -- u, xhat, z, limited, integrating stopped
  priming : Bool := false
  done : Bool := false   -- FIXED_PHASE result held until the output stamp
  tick : Nat := 0        -- tick of the trigger
  sig : Signals := {}    -- slice signals and ramp output as they stood at the sample stamp (R216)
  ramp : F32 := 0#32
  sigAt : Stamp := 0     -- the control sample those signals belong to
  pred : Predictor := {} -- the predictor as it stood at the sample stamp
  deriving DecidableEq, Repr

/-- One Crucible context: its running and staged definitions and its state. -/
structure Ctx where
  hdr : Nat := 0                       -- 256-bit header, 0 NU: undefined
  coef : Bank F32 := []                -- running image, unlisted entries zero
  pendCoef : Option (Bank F32) := none -- pending copy of a frozen context
  freezeSess : Nat := 0xFF
  pendWrites : Nat := 0
  release : Option Stamp := none
  waitCoef : List (Nat × F32 × Nat) := []  -- writes waiting for the end of a computing evaluation: position, value, session
  coefAll : Meta := {}                 -- latest change of the whole definition, and of single words since (R130)
  coefBy : Bank Meta := []
  waitSeed : Option (List F32) := none
  xhat : List F32 := [0#32,0#32,0#32,0#32,0#32,0#32,0#32,0#32]
  z : List F32 := [0#32,0#32,0#32,0#32]
  out : List F32 := [0#32,0#32,0#32,0#32]
  primeLeft : Nat := 0
  primed : Bool := false               -- has left PRIMING since the last entry
  seed : Option (List F32) := none
  fault : Bool := false
  consec : Nat := 0
  lastTrig : Option Stamp := none
  startTick : Option Nat := none       -- tick of the latest start by a rally list (R87)
  evals : List Eval := []              -- queued, computing or held, oldest first
  repeats : List (Stamp × Stamp × Bool × Bool) := []  -- output stamp, sample stamp, overrun, shed
  lastWon : Bool := true               -- won the latest group decision
  shedPhase : Bool := true             -- next trigger is kept while halved
  primeOnTrig : Bool := false          -- a commit changed the definition
  lastSample : Stamp := 0
  lastOutput : Stamp := 0
  outAt : Stamp := 0                   -- latest change of the outputs
  stateAt : Stamp := 0                 -- latest change of the observer state and the integrators (R130)
  deriving DecidableEq, Repr

/-- A staged context change (R219). -/
structure Staged where
  hdr : Nat
  coef : Bank F32
  deleted : Bool
  deriving DecidableEq, Repr

/-! ## Position interfaces -/

/-- One decoder: the device's own or the Referee's (R176 to R199). -/
structure Enc where
  a : Bool := true
  b : Bool := true
  raw : Int := 0                       -- signed 32-bit, wraps
  rep : Int := 0
  d : Int := 0
  m0 : Option Int := none
  refs : Nat := 0                      -- index references taken
  refRaw : Int := 0
  refDirChanged : Bool := false
  lcConsec : Nat := 0
  illegal : List Stamp := []           -- newest first, at most 16
  hist : List (Stamp × Int) := []      -- counted edges, newest first, at most 64
  edgesDir : Nat := 0                  -- counted edges in this direction since clear
  edgeAt : Stamp := 0                  -- stamp of the last counted edge (R331)
  filtOld : Nat × Nat := (0, 0)        -- FILT before its latest change, and the tick from which it is old (R177)
  valid : Bool := false
  speed : F32 := 0#32                  -- counts per second
  speedAt : Stamp := 0                 -- stamp of its latest evaluation (R130)
  hall : Nat := 7                      -- levels of H3, H2, H1
  sector : Option Nat := none
  hallAng : Option Ang32 := none
  hallAt : Stamp := 0                  -- stamp of the transition that gave it
  lastTrans : Option Nat := none       -- timer clock of the latest decoded transition
  standstill : Bool := false
  fault : Bool := false
  faultAt : Stamp := 0
  -- SSI
  frameStart : Option Stamp := none
  frameTick : Nat := 0                 -- tick of the trigger
  frameBHigh : Bool := true
  frameCut : Bool := false             -- a change of role has cut the running frame off (R190)
  monoEnd : Option Nat := none         -- end of the monoflop time, timer clock
  ssiPos : Option (Nat × Nat × Stamp) := none  -- singleturn, multiturn, stamp of the latest valid frame
  ssiBad : Nat := 0
  ssiGood : Nat := 0                   -- consecutive valid frames, saturating at 2
  -- probes and latches
  riseUnread : Bool := false
  fallUnread : Bool := false
  riseSeq : Nat := 0
  fallSeq : Nat := 0
  latchSeq : Nat := 0
  deriving DecidableEq, Repr

/-- What a reset of the unit leaves: the levels of its inputs (R445). -/
def Enc.pins (e : Enc) : Enc := { a := e.a, b := e.b, hall := e.hall }

/-! ## Sensing -/

/-- A request for a result between windows (R145): stamp and what asked for it. -/
structure InterpReq where
  at_ : Stamp
  slice : Nat
  slot : Nat
  snapshot : Bool
  deriving DecidableEq, Repr

/-- One sigma-delta channel. -/
structure Sd where
  stream : List Bool := []    -- captured bits of SD_D, newest first (R135)
  run : Nat := 0              -- equal bits at the end of the stream, up to 258 (R153)
  qualHi : Nat := 0           -- consecutive evaluations beyond a threshold (R150)
  qualLo : Nat := 0
  inHi : Bool := false        -- a comparator that stays tripped
  inLo : Bool := false
  since : Nat := 0            -- tick at which the channel started
  sinceEdge : Nat := 0        -- first edge of MCLK_IN at or after it
  last : Option SdRes := none
  prev : Option SdRes := none
  ovrLeft : Nat := 0
  results : Nat := 0
  reqs : List InterpReq := []
  tripsHi : Nat := 0          -- since FAST_HI was last cleared
  tripsLo : Nat := 0
  lost : Bool := false
  okSince : Option Stamp := none   -- results without STUCK since, for the Referee's recovery
  disRun : Nat := 0                -- consecutive disagreeing evaluations (R297)
  deriving DecidableEq, Repr

/-- A conversion of an auxiliary unit. -/
structure AuxConv where
  chan : Nat
  trigger : Stamp
  start : Nat                  -- timer clock
  cold : Bool
  pended : Bool
  host : Bool
  sampled : Option (Stamp × Int × F32) := none   -- sample stamp, input level, reference correction on that tick
  deriving DecidableEq, Repr

/-- A trigger in the pending slot (R161, R162); the deadline is on the timer clock. -/
structure AuxPend where
  chan : Nat
  trigger : Stamp
  deadline : Nat
  host : Bool
  deriving DecidableEq, Repr

/-- One auxiliary converter unit (R157 to R168). -/
structure Aux where
  conv : Option AuxConv := none
  pend : Option AuxPend := none
  ended : Option Stamp := none                 -- tick on which a conversion ended, warm on that tick
  settle : Bool := false
  cold : Bool := false                         -- re-initialised: the next conversion starts cold (R163)
  deriving DecidableEq, Repr

/-! ## Gate links -/

/-- An edge a link has to send or has sent (R273). -/
structure Edge where
  stamp : Stamp
  high : Bool
  on : Bool
  seq : Nat := 0
  deriving DecidableEq, Repr

/-- A frame sent on a gate link: start character and body (R275). -/
structure GlFrame where
  cut : Bool := false                -- a SAFE frame has abandoned it (R276)
  stamp : Stamp
  start : Byte
  body : BitVec 64
  crc : Byte
  deriving DecidableEq, Repr

/-- One gate link. -/
structure Gl where
  queue : List Edge := []            -- computed, not yet sent
  sent : List Edge := []             -- sent, stamp not yet reached (at most 32 outstanding)
  await : List Edge := []            -- sent, echo not yet judged
  missed : List Edge := []           -- echo missing, at most 32 (R290)
  nextSeq : Nat := 0
  lastSent : Nat := 0xFFFF           -- sequence of the last EDGE sent
  lastSync : Stamp := 0
  syncs : Nat := 0
  modeDue : Option Stamp := none     -- MODE must leave by this stamp
  restart : Bool := false
  safe : Option (Nat × Nat) := none  -- forced state and cause
  linkSafe : Bool := false           -- forced by the link's own fault or its slice's fence
  forcedBy : Option Nat := none      -- slice whose forced state the link carries
  releasing : Bool := false
  lastStatus : Option Nat := none    -- timer clock of the latest valid STATUS
  claimA : Nat := 0                  -- claim in the latest SYNC sent, and in the one before
  claimB : Nat := 0
  statusSeen : Bool := false
  claimMiss : Nat := 0
  claimOwn : Nat := 0                -- consecutive STATUS frames showing the own claim
  claimHigher : Nat := 0
  pathLoss : Nat := 0
  tx : List GlFrame := []            -- frames sent, newest first
  stepErr : Nat := 0
  lastHi : Stamp := 0                -- latest turn-on stamps (R265)
  lastLo : Stamp := 0
  hi : Bool := false                 -- switch states after the edges computed so far
  lo : Bool := false
  deriving DecidableEq, Repr

/-! ## CAN and Ethernet -/

/-- A CAN frame on the bus (R348). -/
structure CanFrame where
  id : Nat
  ide : Bool := false
  rtr : Bool := false
  fdf : Bool := false
  brs : Bool := false
  esi : Bool := false
  dlc : Nat := 0
  data : List Byte := []
  deriving DecidableEq, Repr

/-- A receive entry (Table 14.5). -/
structure CanRx where
  rcd : Rec
  frame : CanFrame
  mirror : Bool
  filt : Nat
  eof : Nat
  deriving DecidableEq, Repr

/-- A transmit entry. -/
structure CanTx where
  frame : CanFrame
  oneShot : Bool := false
  tag : Nat := 0
  expiry : Stamp := 0
  attempts : Nat := 0
  marked : Bool := false
  collided : Bool := false
  slot : Option Nat := none     -- publish slot
  sof : Option Stamp := none    -- SOF of the attempt on the bus
  index : Nat := 0
  deriving DecidableEq, Repr

/-- A transmit report entry (Table 14.9). -/
structure CanReport where
  rcd : Rec
  frame : CanFrame
  outcome : Nat
  tooLate : Bool
  collided : Bool
  tag : Nat
  attempts : Nat
  queue : Nat
  deriving DecidableEq, Repr

/-- One CAN controller. -/
structure Can where
  cfg : List Byte := []              -- stored configuration payload, empty before the first
  mode : Nat := 0                    -- mode in force: 0 OFF, 1 NORMAL, 2 LISTEN_ONLY, 3 AUTO_RATE
  filters : Bank Nat := []           -- 128-bit filter entries
  listLen : Nat := 0
  rx : Bank (List CanRx) := []       -- receive queues 0-7, oldest first
  rxIdx : Bank Nat := []             -- index the device writes next
  reports : List CanReport := []
  repIdx : Nat := 0
  tx : Bank (List CanTx) := []       -- transmit queues 0-3
  txIdx : Bank Nat := []
  tec : Nat := 0
  recCnt : Nat := 0
  busOff : Bool := false
  busOffAt : Stamp := 0              -- timer clock
  integrating : Bool := false        -- waits for bus integration
  integAt : Nat := 0                 -- timer clock at which that began
  ratePair : Nat := 0
  rateStart : Stamp := 0             -- timer clock
  rateSof : Bool := false
  rateGood : Nat := 0
  rateHeld : List (Stamp × Stamp × CanFrame) := []
  sameId : List (Nat × Stamp) := []  -- identifier with IDE in bit 31, newest first, at most 8
  tunnel : List Byte := []           -- packet being assembled
  tunnelNext : Option Nat := none    -- next frame index; none when idle
  tunnelStart : Stamp := 0
  ackErr : List Nat := []            -- queues with ACK_ERR set
  ackSet : Nat × List Nat := (0, []) -- tick on which ACK_ERR was last set, and its queues (R2)
  deriving DecidableEq, Repr

/-- A transmit-timestamp entry (Table 4.8). -/
structure TxStamp where
  stamp : Stamp
  tag : Nat
  tq : Nat
  deriving DecidableEq, Repr

/-- A frame waiting in a MAC transmit queue (R371). -/
structure EthTx where
  queue : Nat
  tag : Nat
  slot : Option Nat
  kind : Nat           -- 0 PTP, 1 command reply, 2 publish, 3 other
  payload : List Byte
  deriving DecidableEq, Repr

/-- One Ethernet port. -/
structure Eth where
  cfg : List Byte := []
  on : Bool := false
  link : Bool := false
  speed : Nat := 0
  txts : List TxStamp := []     -- oldest first, at most 16
  txq : List EthTx := []
  asCapable : Bool := false
  portState : Nat := 0          -- 0 disabled, 1 passive, 2 slave, 3 master
  gm : Bool := false
  bestPrio : Option Nat := none -- priority vector announced to this port
  parent : Nat := 0             -- port identity that announced it
  gmId : Nat := 0               -- its grandmaster
  logSync : Int := -3           -- log Sync interval last announced to it; 125 ms
  syncDue : Nat := 0            -- timer clock
  pubSeq : Bank Nat := []       -- next sequence of each publish slot
  subSeq : Bank Nat := []       -- sequence last received by each subscription
  drops : Nat := 0              -- TXTS DROPS
  ovf : Bool := false
  deriving DecidableEq, Repr

/-! ## The Referee's view of one slice -/

/-- A forced state (Table 12.2), in rising rank. -/
inductive Forced where
  | pulseBlock | ascFrame | ascHold
  deriving DecidableEq, Repr

/-- What the Referee and the protection path hold for one slice (R294 to R309). -/
structure RefSlice where
  forced : Option (Forced × Nat) := none     -- latched forced state and its cause
  lower : List (Forced × Nat) := []          -- requests that the one in force outranks or precedes, in the order of their coming
  holdOwner : Bool := false                  -- its trip asserted the hold line
  tripAt : Option Nat := none                -- timer clock of the latest tick on which the causing trip was present
  ss1 : Option (Nat × F32) := none           -- timer clock at the request, and |omega0|
  degCauses : List Nat := []                 -- standing causes: row of Table 12.6 times 256 plus the unit
  degAt : Stamp := 0                         -- stamp of the entry
  degSeen : Bool := false                    -- a cause has stood since the start
  atRest : Bool := false                     -- ASC conditions of R300 met at the latest evaluation
  degDeadline : Option Stamp := none
  degLeft : Option Nat := none               -- remaining stamp units kept by the MU; none: full time
  slsRun : Nat := 0
  unkRun : Nat := 0
  tmonSince : Option Nat := none             -- torque difference beyond tolerance since, on the timer clock
  stlSince : Option Nat := none
  curHist : List (Stamp × Ang32 × Bool) := []  -- monitor current vector angle and magnitude test, newest first
  enc : Enc := {}
  disDeadline : Option (Nat × Nat) := none     -- discharge watch: deadline on the timer clock, and threshold
  disFail : Bool := false
  deriving DecidableEq, Repr

end Sys2Proof.Machine
end

