-- ==== Sys2Proof/Syntax.lean ====
section
/-!
DEFINITION. The commands of the block: one constructor for each row of spec/opcode_table.json, in the table's order.
`dt` is the number of 2.5 ns ticks that pass between the previous command and this one; `p` is a command packet as
its link delivered it (R94). A row that stands for one opcode, or for one value of a selector byte of that opcode,
fixes those bytes of the packet. An event carries what a sensor, a self-test or a check of signatures found; so does MGT_BIND,
whose `check` is the first failing check of R396 (5: none).
-/

namespace Sys2Proof

open Sys2Proof.Machine

/-- What step 2 (R45) finds in one firmware bank: the verdict on signature and hash (0 passed, 1 signature, 2 hash) and the
manifest's version, rollback index and generations (command, ring-protocol and schema, one byte each). -/
structure BankRead where
  check : Nat
  version : Nat
  rollback : Nat
  gens : Nat
  deriving DecidableEq, Repr

/-- A configuration image as the MU finds it in the NOR (R401, R402). -/
structure CfgImage where
  gen : Nat
  schema : Nat
  sane : Bool          -- magic, length and CRC are correct
  signedOk : Bool      -- carries a signature whose chain ends at the anchor root
  recs : List ObjRec
  deriving DecidableEq, Repr

/-- A binding record as the MU finds it (R395): `check` is the first failing check of R396 as the UNBOUND record
codes it, 5 when none fails. -/
structure Binding where
  check : Nat
  systemId : Nat
  node : Nat
  partner : Nat
  deriving DecidableEq, Repr

/-- What the ingot checks found (Table 15.14): 0 for a pass, else the failing check's order. -/
structure IngotResult where
  failing : Nat
  version : Nat
  rollback : Nat
  gens : Nat           -- command, ring-protocol and schema generations, one byte each
  image : Option CfgImage
  deriving DecidableEq, Repr

/-- Bits that a sigma-delta channel captured, oldest first (R135). -/
structure SdBits where
  ch : Fin 64
  stream : List Bool
  deriving DecidableEq, Repr

/-- What start-up BIST found (Table 3.3): failing CP, failing Referee, failing comparator injection, units to fence
as a DIA_FENCE mask, and the block results in table order as (passed, duration in microseconds). -/
structure BistResult where
  cpFail : Bool
  refFail : Bool
  compareFail : Bool
  fences : Nat
  blocks : List (Bool × Nat)
  deriving DecidableEq, Repr

/-- The causes of MGT_RESET_CAUSE in its rank order (R50). -/
inductive ResetCause where
  | coldStart | supplyFault | clockFault | powerCycle | resetN | cpEscalation | muDecision | sysReset
  deriving DecidableEq, Repr

/-- An Ethernet command datagram (Table 5.15). `tagOk`: the GCM tag verifies. `frag`: the IPv4 identification, where the
datagram came in fragments. -/
structure Datagram where
  frag : Option Nat := none
  version : Nat
  session : Nat
  counter : Nat
  tagOk : Bool
  pkt : Pkt
  deriving DecidableEq, Repr

/-- A ring heartbeat payload (Table 13.10), and, in its last six fields, what the receiving node has read of the
sender's objects over the ring (R345): partner of its binding, SAF_SET_CRC, firmware version, TIM_SERVO_SEL, TIM_STATUS,
CLK_MARGIN. R324, R333, R344 and R411 use them, and no ring frame of Table 13.10 carries them (log entry 30). -/
structure Heartbeat where
  src : Nat := 0
  claim : Nat := 0
  step : Nat := 0
  throttle : Bool := false
  cpAlive : Bool := true
  mirrorSeq : Nat := 0
  validMask : Nat := 0
  gens : Nat := 0
  partner : Nat := 0
  setCrc : Nat := 0
  version : Nat := 0
  servo : Nat := 0
  tq : Nat := 0
  clkMargin : Bool := false
  deriving DecidableEq, Repr

/-- The content of a mirror item (Table 13.5). -/
inductive MirrorBody where
  | command (p : Pkt)
  | can (c : Nat) (sof : Stamp) (f : CanFrame)
  | eth (p : Nat) (node : Nat) (slot : Nat) (rx : Stamp) (data : List Byte)
  | aux (k : Nat) (code : Nat) (flags : Nat) (sample : Stamp) (value : F32)
  | probe (obj : Nat) (value : Nat)
  | increment (v : Nat)
  | stepBy (amount : Nat)
  | throttle (on : Bool)
  deriving DecidableEq, Repr

/-- One mirror item (R330). `whole`: its last fragment has arrived. -/
structure MirrorItem where
  arrival : Stamp
  apply : Stamp
  seq : Nat
  whole : Bool
  body : MirrorBody
  deriving DecidableEq, Repr

/-- The dynamic state that a resynchronisation transfers (R339 step 5). -/
structure Snapshot where
  slices : Bank Slice
  ctxs : Bank Ctx
  encs : Bank Enc
  seqs : Bank Nat        -- edge sequence of each link
  mclkEdges : Nat
  deriving DecidableEq, Repr

/-- On-chip SRAM owners (Table 1.4). -/
inductive SramOwner where
  | cp | crucible | canMem | trace | mu | referee | objectCache
  deriving DecidableEq, Repr

/-- Bus errors as ISO 11898-1 and R353, R366 tell them apart. -/
inductive CanError where
  | stuff | form | crc | ack | bit | bitInData
  deriving DecidableEq, Repr

/-- A failing cell that a pattern read (Table 16.4): how many ticks ago, element, row, word, bit, expected value. -/
structure CellFail where
  ago : Nat
  elem : Fin 10
  row : Fin 520
  word : Fin 64
  bit : Fin 72
  expected : Bool
  deriving DecidableEq, Repr

/-- A PTP timestamp (R61): seconds and nanoseconds, and a correction in 2^-16 ns. -/
structure PtpTime where
  seconds : Nat := 0
  nanos : Nat := 0
  corr : Int := 0
  deriving DecidableEq, Repr

/-- The commands, one per table row. -/
inductive Instr where
  -- supplies, reset and start-up
  | vstbyInRange (dt : Nat)
  | standbyBootDone (dt : Nat)
  | vstbyTrip (dt : Nat)
  | mainRailInRange (dt : Nat) (rail : Fin 5)
  | supplyFault (dt : Nat) (rail : Fin 5) (high : Bool)
  | supplyRestart (dt : Nat)
  | resetNLow (dt : Nat)
  | resetNRelease (dt : Nat)
  | deviceReset (dt : Nat) (cause : ResetCause)
  | bypassOpen (dt : Nat)
  | xtalDetect (dt : Nat) (edges : Nat)
  | deviceStart (dt : Nat)
  | romStartDone (dt : Nat) (otpOk : Bool) (norKiB : Nat)
  | bootIngotVerified (dt : Nat) (bankA bankB : BankRead)
  | startupBistDone (dt : Nat) (r : BistResult)
  | configLoaded (dt : Nat) (a b : Option CfgImage) (bind : Option Binding)
  | ready (dt : Nat)
  -- clock monitor
  | clockMonitorWindow (dt : Nat) (clk : Fin 4) (edges : Nat)
  | clockEdgeTimeout (dt : Nat) (clk : Fin 4)
  | clockStable (dt : Nat)
  | clockHoldTimeout (dt : Nat)
  | startFailTimeout (dt : Nat)
  -- power-cycle request
  | pwrcycAssert (dt : Nat)
  | pwrcycRelease (dt : Nat)
  | pwrcycNoResponse (dt : Nat)
  -- timeline
  | timSetIncrement (dt : Nat) (p : Pkt)
  | incrementApply (dt : Nat)
  | timStep (dt : Nat) (p : Pkt)
  | timeStepApply (dt : Nat)
  | timServoMode (dt : Nat) (p : Pkt)
  | servoModeApply (dt : Nat)
  | timRallyWrite (dt : Nat) (p : Pkt)
  | timTioConfig (dt : Nat) (p : Pkt)
  | ptpSyncRx (dt : Nat) (port : Fin 2) (source : Nat) (gmTime : PtpTime) (logSync : Int) (followUp : Bool)
  | gmTimeout (dt : Nat)
  | holdoverMaxExpire (dt : Nat)
  | hostWatchdogExpire (dt : Nat)
  | ringAlignTimeout (dt : Nat)
  | ethTxtsPop (dt : Nat) (port : Fin 2) (p : Pkt)
  | rallyTimeOccurrence (dt : Nat) (sl : Fin 6) (entry : Fin 64)
  | rallyPwmPhaseOccurrence (dt : Nat) (sl : Fin 6) (entry : Fin 64)
  | rallyAngleOccurrence (dt : Nat) (sl : Fin 6) (entry : Fin 64)
  | tioPulseTrailingEdge (dt : Nat) (pin : Fin 8)
  | tioCaptureEdge (dt : Nat) (pin : Fin 8) (level : Bool)
  -- queues, windows and links
  | sqTailDoorbell (dt : Nat) (n : Fin 16) (v : Word)
  | cqHeadDoorbell (dt : Nat) (n : Fin 16) (v : Word)
  | qcfgEnable (dt : Nat) (n : Fin 16) (v : Word)
  | qcfgDisable (dt : Nat) (n : Fin 16) (v : Word)
  | mbxGo (dt : Nat)
  | registerWrite (dt : Nat) (bar2 : Bool) (offset : Nat) (v : Word)
  | spiSubmit (dt : Nat) (pair : Nat) (p : Pkt) (clocked : Nat)
  | spiFetch (dt : Nat) (pair : Fin 4) (clocked : Nat)
  | spiStatus (dt : Nat)
  | spiUnknownInstruction (dt : Nat) (b : Byte)
  | cmdDatagramRx (dt : Nat) (port : Fin 2) (d : Datagram)
  | ipv4ReassemblyTimeout (dt : Nat) (slot : Fin 4)
  | canTunnelFrameRx (dt : Nat) (c : Fin 4) (data : List Byte)
  | canTunnelTimeout (dt : Nat) (c : Fin 4)
  | completionPost (dt : Nat) (q : Fin 16)
  | subscriptionNotify (dt : Nat) (sub : Fin 256)
  | sessionIdleTimeout (dt : Nat) (session : Fin 64)
  | perstAssert (dt : Nat)
  | pcieLinkDownTimeout (dt : Nat)
  | pcieHostMemoryError (dt : Nat) (q : Fin 16) (write : Bool)
  -- system opcodes
  | sysNop (dt : Nat) (p : Pkt)
  | sysOpenSession (dt : Nat) (p : Pkt)
  | sysCloseSession (dt : Nat) (p : Pkt)
  | sysGetInfo (dt : Nat) (p : Pkt)
  | sysReset (dt : Nat) (p : Pkt)
  | sysResetActivate (dt : Nat) (p : Pkt)
  | sysFuncReinitUnit (dt : Nat) (p : Pkt)
  | sysFuncReinitPair (dt : Nat) (p : Pkt)
  | sysFuncReinitContext (dt : Nat) (p : Pkt)
  | sysFuncReinitAux (dt : Nat) (p : Pkt)
  | sysFuncReinitEncoder (dt : Nat) (p : Pkt)
  | sysPwrcycleReq (dt : Nat) (p : Pkt)
  -- objects
  | objRead (dt : Nat) (p : Pkt)
  | objReadBlock (dt : Nat) (p : Pkt)
  | objSubscribe (dt : Nat) (p : Pkt)
  | objSubscribeCancel (dt : Nat) (p : Pkt)
  | objWrite (dt : Nat) (p : Pkt)
  | objWriteBlock (dt : Nat) (p : Pkt)
  | auxHostTrig (dt : Nat) (p : Pkt)
  | encSsiTrig (dt : Nat) (p : Pkt)
  | mgtLifecycleReq (dt : Nat) (p : Pkt)
  | mgtFeatureGate (dt : Nat) (p : Pkt)
  | encCfgWrite (dt : Nat) (n : Fin 8) (p : Pkt)
  | sdMclkDivApply (dt : Nat) (group : Fin 8)
  | pwmPeriodApply (dt : Nat) (sl : Fin 6)
  -- drive opcodes
  | drvEnable (dt : Nat) (p : Pkt)
  | drvDisable (dt : Nat) (p : Pkt)
  | drvSetSpeed (dt : Nat) (p : Pkt)
  | drvSetTorque (dt : Nat) (p : Pkt)
  | drvStopRamp (dt : Nat) (p : Pkt)
  | drvStopCoast (dt : Nat) (p : Pkt)
  | drvStopShort (dt : Nat) (p : Pkt)
  | drvStart (dt : Nat) (p : Pkt)
  | drvDischargeWinding (dt : Nat) (p : Pkt)
  | drvDischargeSwitch (dt : Nat) (p : Pkt)
  -- engine opcodes
  | engDefineContext (dt : Nat) (p : Pkt)
  | engDeleteContext (dt : Nat) (p : Pkt)
  | engWriteCoef (dt : Nat) (p : Pkt)
  | engFreeze (dt : Nat) (p : Pkt)
  | engRelease (dt : Nat) (p : Pkt)
  | engReleaseSwap (dt : Nat) (ctx : Fin 64)
  | engSeedState (dt : Nat) (p : Pkt)
  | engLink (dt : Nat) (p : Pkt)
  | engGroup (dt : Nat) (p : Pkt)
  | engCommit (dt : Nat) (p : Pkt)
  | engCommitDiscard (dt : Nat) (p : Pkt)
  -- network opcodes
  | netCanConfig (dt : Nat) (p : Pkt)
  | netCanConfigRead (dt : Nat) (p : Pkt)
  | netCanFilter (dt : Nat) (p : Pkt)
  | netCanFilterRead (dt : Nat) (p : Pkt)
  | netCanTx (dt : Nat) (p : Pkt)
  | netCanCancel (dt : Nat) (p : Pkt)
  | netCanAck (dt : Nat) (p : Pkt)
  | netEthConfig (dt : Nat) (p : Pkt)
  | netEthConfigRead (dt : Nat) (p : Pkt)
  -- safety opcodes
  | safLogin (dt : Nat) (p : Pkt)
  | safSetPassword (dt : Nat) (p : Pkt)
  | safCommit (dt : Nat) (p : Pkt)
  | safLogRead (dt : Nat) (p : Pkt)
  -- management opcodes
  | mgtIngotBegin (dt : Nat) (p : Pkt)
  | mgtIngotBeginConfig (dt : Nat) (p : Pkt)
  | mgtIngotData (dt : Nat) (p : Pkt)
  | mgtIngotEnd (dt : Nat) (p : Pkt)
  | ingotCheckDone (dt : Nat) (r : IngotResult)
  | ingotTransferTimeout (dt : Nat)
  | mgtActivate (dt : Nat) (p : Pkt)
  | mgtActivateApply (dt : Nat)
  | mgtBind (dt : Nat) (p : Pkt) (check : Fin 6)
  | mgtInstallAnchor (dt : Nat) (p : Pkt)
  | mgtRemoveBinding (dt : Nat) (p : Pkt)
  | mgtAttest (dt : Nat) (p : Pkt)
  | mgtLogRead (dt : Nat) (p : Pkt)
  -- diagnostic and Flask opcodes
  | diaBistRun (dt : Nat) (p : Pkt)
  | diaBistResult (dt : Nat) (p : Pkt)
  | diaRemapRow (dt : Nat) (p : Pkt)
  | diaTraceStop (dt : Nat) (p : Pkt)
  | diaTraceStartRing (dt : Nat) (p : Pkt)
  | diaTraceStartOnce (dt : Nat) (p : Pkt)
  | flkConfig (dt : Nat) (p : Pkt)
  | flkResync (dt : Nat) (p : Pkt)
  | flkHandover (dt : Nat) (p : Pkt)
  -- sensing
  | sdMainResult (dt : Nat) (ch : Fin 64) (shadow : Option (Fin 6 × Fin 16)) (stream : List Bool)
  | sdInterpResult (dt : Nat) (ch : Fin 64)
  | sdFastTrip (dt : Nat) (ch : Fin 64) (stream : List Bool) (last : Bool)
  | sdStuck (dt : Nat) (c : SdBits)
  | mclkInLost (dt : Nat)
  | mclkInFreqWindow (dt : Nat) (hertz : Nat) (margin : Bool)
  | sdMonitorRecover (dt : Nat) (ch : Fin 64)
  -- auxiliary converters and housekeeping
  | auxSampleEnd (dt : Nat) (u : Fin 4) (level : Int)
  | auxConversionEnd (dt : Nat) (u : Fin 4)
  | auxPowerDown (dt : Nat) (u : Fin 4)
  | hkSlot (dt : Nat) (v : F32)
  | hkRoundEnd (dt : Nat)
  | hkRoundLate (dt : Nat)
  | throttleEnforce (dt : Nat)
  | thermalStopDeadline (dt : Nat)
  | thermalHoldEntry (dt : Nat)
  -- encoders
  | encQuadTransition (dt : Nat) (n : Fin 8) (a b : Bool)
  | encHallTransition (dt : Nat) (n : Fin 8) (h : Fin 8)
  | encIndex (dt : Nat) (n : Fin 8) (rising : Bool)
  | encProbeEdge (dt : Nat) (n : Fin 8) (rising : Bool)
  | encStandstill (dt : Nat) (n : Fin 8)
  | encSpeedEval (dt : Nat) (n : Fin 8)
  | ssiFrameEnd (dt : Nat) (n : Fin 8) (bits : Nat) (parity : Bool)
  -- engine
  | engEvalStart (dt : Nat) (unit : Fin 2)
  | engEvalDone (dt : Nat) (unit : Fin 2)
  | engOutputWrite (dt : Nat) (ctx : Fin 64)
  -- machine control
  | controlSample (dt : Nat) (sl : Fin 6)
  | zeroSpeedHoldDone (dt : Nat) (sl : Fin 6)
  | catchPulse (dt : Nat) (sl : Fin 6)
  | catchTimeout (dt : Nat) (sl : Fin 6)
  | polarityTestPhaseEnd (dt : Nat) (sl : Fin 6)
  | recatchDelayExpire (dt : Nat) (sl : Fin 6)
  | recatchWindowExpire (dt : Nat) (sl : Fin 6)
  | dischargeTimeout (dt : Nat) (sl : Fin 6)
  | setpointRefresh (dt : Nat)
  | setpointTimeout (dt : Nat) (sl : Fin 6)
  -- modulator and gate links
  | updateIntervalStart (dt : Nat) (sl : Fin 6)
  | modulatorComputeDone (dt : Nat) (sl : Fin 6)
  | modulationModeBoundary (dt : Nat) (sl : Fin 6)
  | edgeSend (dt : Nat) (l : Fin 24)
  | glSyncSend (dt : Nat) (l : Fin 24)
  | glModeSend (dt : Nat) (l : Fin 24)
  | glStatusRx (dt : Nat) (l : Fin 24) (body : BitVec 64) (crc : Byte)
  | glExecRx (dt : Nat) (l : Fin 24) (body : BitVec 64) (crc : Byte)
  | glEchoTimeout (dt : Nat) (l : Fin 24)
  | glStatusTimeout (dt : Nat) (l : Fin 24)
  -- safety
  | stoInputChange (dt : Nat) (inputB : Bool) (level : Bool)
  | stoDiscrepancy (dt : Nat)
  | refereeEvaluation (dt : Nat)
  | ss1TmaxExpire (dt : Nat) (sl : Fin 6)
  | degradedTimeExpire (dt : Nat) (sl : Fin 6)
  | refereeHeartbeat (dt : Nat) (railsAgree : Bool)
  | refereeHeartbeatTimeout (dt : Nat)
  | refereeInjection (dt : Nat) (comparatorOk : Bool) (fastOk : Bool)
  | refereeLockstepMismatch (dt : Nat)
  | dischargeMonitorDeadline (dt : Nat) (sl : Fin 6)
  | safLoginLockExpire (dt : Nat)
  -- lockstep, memory and debug
  | cpLockstepMismatch (dt : Nat)
  | cpRestartDone (dt : Nat) (injectionOk : Bool)
  | cpCheckpoint (dt : Nat)
  | eccCorrectable (dt : Nat) (owner : SramOwner)
  | eccUncorrectable (dt : Nat) (owner : SramOwner) (detail : Nat)
  | muRestartDone (dt : Nat)
  | matrixDatapathError (dt : Nat) (unit : Fin 2)
  | debugHalt (dt : Nat)
  | debugResume (dt : Nat)
  | debugWrite (dt : Nat) (addr : Nat) (v : Word) (agree : Bool)
  -- Flask and ring
  | ringHeartbeatSend (dt : Nat)
  | ringHeartbeatRx (dt : Nat) (port : Fin 2) (hb : Heartbeat)
  | heartbeatFailure (dt : Nat)
  | joinWaitExpire (dt : Nat)
  | ringClaimSend (dt : Nat)
  | ringClaimRx (dt : Nat) (port : Fin 2) (src : Nat) (claim : Nat)
  | handoverBoundary (dt : Nat)
  | ringMirrorRx (dt : Nat) (port : Fin 2) (items : List MirrorItem)
  | mirrorApply (dt : Nat)
  | mirrorHoldExpire (dt : Nat)
  | ringNakRx (dt : Nat) (first count : Nat)
  | ringMirrorResetRx (dt : Nat)
  | ringDigestRx (dt : Nat) (sl : Fin 6) (sample : Stamp) (crc : Word)
  | ringAlignExchange (dt : Nat)
  | ringAlignRx (dt : Nat) (src : Nat) (response : Bool) (t1 t2 t3 : Stamp)
  | ringObjxRx (dt : Nat) (src : Nat) (p : Pkt)
  | ringResyncRx (dt : Nat) (offset : Nat) (recs : List ObjRec) (bytes : Nat)
  | ringPortLock (dt : Nat) (port : Fin 2)
  | ringPortUnlock (dt : Nat) (port : Fin 2)
  | resyncTimeAligned (dt : Nat) (activeTime : Stamp) (activeInc : Nat) (zeroOffset : Bool)
  | resyncImageDone (dt : Nat)
  | resyncSnapshot (dt : Nat)
  | resyncSnapshotDone (dt : Nat) (snap : Snapshot)
  | resyncLive (dt : Nat)
  | resyncLiveDeadline (dt : Nat)
  | resyncRetry (dt : Nat)
  -- CAN
  | canFrameRx (dt : Nat) (c : Fin 4) (f : CanFrame) (sofAgo : Nat) (eofAgo : Nat)
  | canTxSof (dt : Nat) (c : Fin 4)
  | canTxDone (dt : Nat) (c : Fin 4)
  | canArbitrationLost (dt : Nat) (c : Fin 4)
  | canBusError (dt : Nat) (c : Fin 4) (e : CanError) (dataPhase : Bool) (transmitting : Bool) (dominantAfterFlag : Bool)
  | canBusOffRecovery (dt : Nat) (c : Fin 4)
  | canTxExpire (dt : Nat) (c : Fin 4) (q : Fin 4)
  | canRateTimeout (dt : Nat) (c : Fin 4)
  | canPublish (dt : Nat) (slot : Fin 256)
  | canQackDoorbell (dt : Nat) (c : Fin 4) (q : Fin 9) (n : Nat)
  -- Ethernet
  | ethFrameRx (dt : Nat) (port : Fin 2) (kind : Nat) (len : Nat) (fcsOk : Bool) (body : List Byte)
  | ethFrameTx (dt : Nat) (port : Fin 2)
  | ethLinkChange (dt : Nat) (port : Fin 2) (up : Bool) (speed : Fin 4)
  | ptpPdelayExchange (dt : Nat) (port : Fin 2) (delayNs : Nat)
  | ptpAnnounceRx (dt : Nat) (port : Fin 2) (source gm prio : Nat) (utcOffset : Int) (logSync : Int)
  | ptpSyncTx (dt : Nat) (port : Fin 2)
  | ethPublish (dt : Nat) (slot : Fin 64)
  | ethPublishRx (dt : Nat) (port : Fin 2) (assembly : Stamp) (node slot : Nat) (tq seq : Nat) (data : List Byte)
  -- management, self-test and trace
  | norPersistWrite (dt : Nat) (idx : Nat) (ok : Bool)
  | logNorCopy (dt : Nat)
  | bistWindowStart (dt : Nat)
  | bistSliceStart (dt : Nat)
  | bistCopyInDone (dt : Nat)
  | bistMarchDone (dt : Nat) (fails : List CellFail)
  | bistSliceEnd (dt : Nat)
  | bistPreempt (dt : Nat) (fails : List CellFail)
  | bistBudgetExpire (dt : Nat) (fails : List CellFail)
  | refereeBistSlice (dt : Nat) (ok : Bool)
  | sdPatternCheck (dt : Nat) (ch : Fin 64) (ok : Bool)
  | glLoopbackCheck (dt : Nat) (l : Fin 24) (ok : Bool)
  | ringLoopbackCheck (dt : Nat) (port : Fin 2) (ok : Bool)
  | canLoopbackCheck (dt : Nat) (c : Fin 4) (ok : Bool)
  | traceCapture (dt : Nat)
  | mclkInReturn (dt : Nat)
  | pcieLinkChange (dt : Nat) (up : Bool)
  deriving DecidableEq, Repr

/-- Ticks between the command before it and a command. -/
def Instr.dt : Instr → Nat
  | .vstbyInRange dt | .standbyBootDone dt | .vstbyTrip dt | .mainRailInRange dt _ | .supplyFault dt _ _ | .supplyRestart dt
  | .resetNLow dt | .resetNRelease dt | .deviceReset dt _ | .bypassOpen dt | .xtalDetect dt _ | .deviceStart dt
  | .romStartDone dt _ _ | .bootIngotVerified dt _ _ | .startupBistDone dt _ | .configLoaded dt _ _ _ | .ready dt
  | .clockMonitorWindow dt _ _ | .clockEdgeTimeout dt _ | .clockStable dt | .clockHoldTimeout dt | .startFailTimeout dt
  | .pwrcycAssert dt | .pwrcycRelease dt | .pwrcycNoResponse dt | .timSetIncrement dt _ | .incrementApply dt | .timStep dt _
  | .timeStepApply dt | .timServoMode dt _ | .servoModeApply dt | .timRallyWrite dt _ | .timTioConfig dt _
  | .ptpSyncRx dt _ _ _ _ _ | .gmTimeout dt | .holdoverMaxExpire dt | .hostWatchdogExpire dt | .ringAlignTimeout dt
  | .ethTxtsPop dt _ _ | .rallyTimeOccurrence dt _ _ | .rallyPwmPhaseOccurrence dt _ _ | .rallyAngleOccurrence dt _ _
  | .tioPulseTrailingEdge dt _ | .tioCaptureEdge dt _ _ | .sqTailDoorbell dt _ _ | .cqHeadDoorbell dt _ _
  | .qcfgEnable dt _ _ | .qcfgDisable dt _ _ | .mbxGo dt | .registerWrite dt _ _ _ | .spiSubmit dt _ _ _ | .spiFetch dt _ _
  | .spiStatus dt | .spiUnknownInstruction dt _ | .cmdDatagramRx dt _ _ | .ipv4ReassemblyTimeout dt _
  | .canTunnelFrameRx dt _ _ | .canTunnelTimeout dt _ | .completionPost dt _ | .subscriptionNotify dt _
  | .sessionIdleTimeout dt _ | .perstAssert dt | .pcieLinkDownTimeout dt | .pcieHostMemoryError dt _ _ | .sysNop dt _
  | .sysOpenSession dt _ | .sysCloseSession dt _ | .sysGetInfo dt _ | .sysReset dt _ | .sysResetActivate dt _
  | .sysFuncReinitUnit dt _ | .sysFuncReinitPair dt _ | .sysFuncReinitContext dt _ | .sysFuncReinitAux dt _
  | .sysFuncReinitEncoder dt _ | .sysPwrcycleReq dt _ | .objRead dt _ | .objReadBlock dt _ | .objSubscribe dt _
  | .objSubscribeCancel dt _ | .objWrite dt _ | .objWriteBlock dt _ | .auxHostTrig dt _ | .encSsiTrig dt _
  | .mgtLifecycleReq dt _ | .mgtFeatureGate dt _ | .encCfgWrite dt _ _ | .sdMclkDivApply dt _ | .pwmPeriodApply dt _
  | .drvEnable dt _ | .drvDisable dt _ | .drvSetSpeed dt _ | .drvSetTorque dt _ | .drvStopRamp dt _ | .drvStopCoast dt _
  | .drvStopShort dt _ | .drvStart dt _ | .drvDischargeWinding dt _ | .drvDischargeSwitch dt _ | .engDefineContext dt _
  | .engDeleteContext dt _ | .engWriteCoef dt _ | .engFreeze dt _ | .engRelease dt _ | .engReleaseSwap dt _
  | .engSeedState dt _ | .engLink dt _ | .engGroup dt _ | .engCommit dt _ | .engCommitDiscard dt _ | .netCanConfig dt _
  | .netCanConfigRead dt _ | .netCanFilter dt _ | .netCanFilterRead dt _ | .netCanTx dt _ | .netCanCancel dt _
  | .netCanAck dt _ | .netEthConfig dt _ | .netEthConfigRead dt _ | .safLogin dt _ | .safSetPassword dt _ | .safCommit dt _
  | .safLogRead dt _ | .mgtIngotBegin dt _ | .mgtIngotBeginConfig dt _ | .mgtIngotData dt _ | .mgtIngotEnd dt _
  | .ingotCheckDone dt _ | .ingotTransferTimeout dt | .mgtActivate dt _ | .mgtActivateApply dt | .mgtBind dt _ _
  | .mgtInstallAnchor dt _ | .mgtRemoveBinding dt _ | .mgtAttest dt _ | .mgtLogRead dt _ | .diaBistRun dt _
  | .diaBistResult dt _ | .diaRemapRow dt _ | .diaTraceStop dt _ | .diaTraceStartRing dt _ | .diaTraceStartOnce dt _
  | .flkConfig dt _ | .flkResync dt _ | .flkHandover dt _ | .sdMainResult dt _ _ _ | .sdInterpResult dt _
  | .sdFastTrip dt _ _ _ | .sdStuck dt _ | .mclkInLost dt | .mclkInFreqWindow dt _ _ | .sdMonitorRecover dt _
  | .auxSampleEnd dt _ _ | .auxConversionEnd dt _ | .auxPowerDown dt _ | .hkSlot dt _ | .hkRoundEnd dt | .hkRoundLate dt
  | .throttleEnforce dt | .thermalStopDeadline dt | .thermalHoldEntry dt | .encQuadTransition dt _ _ _
  | .encHallTransition dt _ _ | .encIndex dt _ _ | .encProbeEdge dt _ _ | .encStandstill dt _ | .encSpeedEval dt _
  | .ssiFrameEnd dt _ _ _ | .engEvalStart dt _ | .engEvalDone dt _ | .engOutputWrite dt _ | .controlSample dt _
  | .zeroSpeedHoldDone dt _ | .catchPulse dt _ | .catchTimeout dt _ | .polarityTestPhaseEnd dt _ | .recatchDelayExpire dt _
  | .recatchWindowExpire dt _ | .dischargeTimeout dt _ | .setpointRefresh dt | .setpointTimeout dt _
  | .updateIntervalStart dt _ | .modulatorComputeDone dt _ | .modulationModeBoundary dt _ | .edgeSend dt _ | .glSyncSend dt _
  | .glModeSend dt _ | .glStatusRx dt _ _ _ | .glExecRx dt _ _ _ | .glEchoTimeout dt _ | .glStatusTimeout dt _
  | .stoInputChange dt _ _ | .stoDiscrepancy dt | .refereeEvaluation dt | .ss1TmaxExpire dt _ | .degradedTimeExpire dt _
  | .refereeHeartbeat dt _ | .refereeHeartbeatTimeout dt | .refereeInjection dt _ _ | .refereeLockstepMismatch dt
  | .dischargeMonitorDeadline dt _ | .safLoginLockExpire dt | .cpLockstepMismatch dt | .cpRestartDone dt _ | .cpCheckpoint dt
  | .eccCorrectable dt _ | .eccUncorrectable dt _ _ | .muRestartDone dt | .matrixDatapathError dt _ | .debugHalt dt
  | .debugResume dt | .debugWrite dt _ _ _ | .ringHeartbeatSend dt | .ringHeartbeatRx dt _ _ | .heartbeatFailure dt
  | .joinWaitExpire dt | .ringClaimSend dt | .ringClaimRx dt _ _ _ | .handoverBoundary dt | .ringMirrorRx dt _ _
  | .mirrorApply dt | .mirrorHoldExpire dt | .ringNakRx dt _ _ | .ringMirrorResetRx dt | .ringDigestRx dt _ _ _
  | .ringAlignExchange dt | .ringAlignRx dt _ _ _ _ _ | .ringObjxRx dt _ _ | .ringResyncRx dt _ _ _ | .ringPortLock dt _
  | .ringPortUnlock dt _ | .resyncTimeAligned dt _ _ _ | .resyncImageDone dt | .resyncSnapshot dt | .resyncSnapshotDone dt _
  | .resyncLive dt | .resyncLiveDeadline dt | .resyncRetry dt | .canFrameRx dt _ _ _ _ | .canTxSof dt _ | .canTxDone dt _
  | .canArbitrationLost dt _ | .canBusError dt _ _ _ _ _ | .canBusOffRecovery dt _ | .canTxExpire dt _ _
  | .canRateTimeout dt _ | .canPublish dt _ | .canQackDoorbell dt _ _ _ | .ethFrameRx dt _ _ _ _ _ | .ethFrameTx dt _
  | .ethLinkChange dt _ _ _ | .ptpPdelayExchange dt _ _ | .ptpAnnounceRx dt _ _ _ _ _ _ | .ptpSyncTx dt _ | .ethPublish dt _
  | .ethPublishRx dt _ _ _ _ _ _ _ | .norPersistWrite dt _ _ | .logNorCopy dt | .bistWindowStart dt | .bistSliceStart dt
  | .bistCopyInDone dt | .bistMarchDone dt _ | .bistSliceEnd dt | .bistPreempt dt _ | .bistBudgetExpire dt _
  | .refereeBistSlice dt _ | .sdPatternCheck dt _ _ | .glLoopbackCheck dt _ _ | .ringLoopbackCheck dt _ _
  | .canLoopbackCheck dt _ _ | .traceCapture dt | .mclkInReturn dt | .pcieLinkChange dt _ => dt

/-- The packet of a command that the CP takes from a link. -/
def Instr.pkt : Instr → Option Pkt
  | .timSetIncrement _ p | .timStep _ p | .timServoMode _ p | .timRallyWrite _ p | .timTioConfig _ p | .ethTxtsPop _ _ p
  | .sysNop _ p | .sysOpenSession _ p | .sysCloseSession _ p | .sysGetInfo _ p | .sysReset _ p | .sysResetActivate _ p
  | .sysFuncReinitUnit _ p | .sysFuncReinitPair _ p | .sysFuncReinitContext _ p | .sysFuncReinitAux _ p
  | .sysFuncReinitEncoder _ p | .sysPwrcycleReq _ p | .objRead _ p | .objReadBlock _ p | .objSubscribe _ p
  | .objSubscribeCancel _ p | .objWrite _ p | .objWriteBlock _ p | .auxHostTrig _ p | .encSsiTrig _ p | .mgtLifecycleReq _ p
  | .mgtFeatureGate _ p | .encCfgWrite _ _ p | .drvEnable _ p | .drvDisable _ p | .drvSetSpeed _ p | .drvSetTorque _ p
  | .drvStopRamp _ p | .drvStopCoast _ p | .drvStopShort _ p | .drvStart _ p | .drvDischargeWinding _ p
  | .drvDischargeSwitch _ p | .engDefineContext _ p | .engDeleteContext _ p | .engWriteCoef _ p | .engFreeze _ p
  | .engRelease _ p | .engSeedState _ p | .engLink _ p | .engGroup _ p | .engCommit _ p | .engCommitDiscard _ p
  | .netCanConfig _ p | .netCanConfigRead _ p | .netCanFilter _ p | .netCanFilterRead _ p | .netCanTx _ p | .netCanCancel _ p
  | .netCanAck _ p | .netEthConfig _ p | .netEthConfigRead _ p | .safLogin _ p | .safSetPassword _ p | .safCommit _ p
  | .safLogRead _ p | .mgtIngotBegin _ p | .mgtIngotBeginConfig _ p | .mgtIngotData _ p | .mgtIngotEnd _ p | .mgtActivate _ p
  | .mgtBind _ p _ | .mgtInstallAnchor _ p | .mgtRemoveBinding _ p | .mgtAttest _ p | .mgtLogRead _ p | .diaBistRun _ p
  | .diaBistResult _ p | .diaRemapRow _ p | .diaTraceStop _ p | .diaTraceStartRing _ p | .diaTraceStartOnce _ p
  | .flkConfig _ p | .flkResync _ p | .flkHandover _ p => some p
  | _ => none

end Sys2Proof
end

