-- ==== Sys2Proof/Decode.lean ====
section
/-!
DEFINITION. Commands from words. The opcode table gives no row any bits: a command is an event or a packet, and a packet's
opcode and operands are fields of `Pkt` (Table 5.1), so there is no word to decode.
-/

namespace Sys2Proof

/-- The command that a word spells by the table's bits: none. -/
def decodeTableWord (_nbits _w : Nat) : Option Instr := none

end Sys2Proof
end

