-- ==== Sys2Proof/Config.lean ====
section
/-!
DEFINITION. What one part or one run fixes and the spec does not state: free values, as constants without a body, so
that no proof can depend on one (log entries 1 to 3). `State.free` numbers the values that are drawn afresh.
-/

namespace Sys2Proof

/-- A fresh value the spec leaves open, by its number. -/
opaque Config.freeNat : Nat → Nat

/-- A fresh binary32 value the spec leaves open. -/
opaque Config.freeF32 : Nat → F32

/-- Sine of an angle as the transform unit's table gives it (R225). -/
opaque Config.sinF : Ang32 → F32

/-- Cosine of an angle as the transform unit's table gives it (R225). -/
opaque Config.cosF : Ang32 → F32

/-- Angle of a vector (abscissa, ordinate) as the device's arctangent gives it. -/
opaque Config.argF : F32 → F32 → Ang32

/-- The built-in servo's new INCREMENT and frequency estimate from its estimate, the measured offset and the band. -/
opaque Config.servo : Nat → Int → Bool → Nat × Nat

/-- Phase error, in ANG32 units, that a demodulated injection current stands for (R247). -/
opaque Config.hfError : F32 → Int

/-- Bytes that a cryptographic operation of the device yields: which operation, its input, which byte. -/
opaque Config.cryptoByte : Nat → List Byte → Nat → Byte

/-- Verdict of a check of a certificate or signature that the spec names without its bits: which check, its input. -/
opaque Config.cryptoOk : Nat → List Byte → Bool

/-- Whether a schema generation lies in the compatible range of the manifest with this firmware version (R402). -/
opaque Config.schemaOk : Nat → Nat → Bool

/-- Whether generations (command, ring, schema) lie in the compatible ranges of the manifest with this version (R410). -/
opaque Config.gensOk : Nat → Nat → Bool

/-- Whether the manifest of the first version names the second as pair-compatible (R324). -/
opaque Config.pairOk : Nat → Nat → Bool

/-- Items that the active's mirror buffer holds (R330). -/
opaque Config.mirrorRoom : Nat

/-- Stamp of the last change of an object whose value a unit's state holds (R130), by object and tick: the model keeps no
such stamp. -/
opaque Config.changeStamp : Nat → Nat → Stamp

/-- Where, within what its MAC resolves, a frame's SFD lies (R77), by port and tick, in stamp units. -/
opaque Config.sfdOffset : Nat → Nat → Nat

/-- Silicon revision (DEV_ID bits 7 to 0). -/
opaque Config.revision : Byte

/-- The device's serial number, byte by byte (R392). -/
opaque Config.serial : Nat → Byte

/-- The device's own public key and certificates, byte by byte (R392). -/
opaque Config.identity : Nat → Nat → Byte

/-- Lengths of the device certificate and of the Plaide intermediate certificate (R399). -/
opaque Config.certLen : Nat → Nat

/-- Firmware images written by an ingot: manifest hash bytes of the active bank (R399). -/
opaque Config.manifestHash : Nat → Nat → Byte

end Sys2Proof
end

