-- ==== Sys2Proof/Machine/Float.lean ====
section
/-!
DEFINITION. The device's floating-point arithmetic (R81, R146, R204, R239): exact dyadic numbers, one rounding to
nearest with ties to even, and the replacement of subnormal operands and results that R204 states.
A finite value is `man * 2 ^ exp`, so every operation is computed exactly and rounded once.
-/

namespace Sys2Proof.Machine

/-- An exact dyadic number `man * 2 ^ exp`. -/
structure Dy where
  man : Int
  exp : Int
  deriving DecidableEq, Repr

/-- The parameters of an IEEE format: significand bits and exponent bits. -/
structure FFmt where
  prec : Nat
  ebits : Nat
  deriving DecidableEq, Repr

def fmt32 : FFmt := { prec := 24, ebits := 8 }
def fmt64 : FFmt := { prec := 53, ebits := 11 }

/-- The exponent bias of a format. -/
def FFmt.bias (f : FFmt) : Nat := 2 ^ (f.ebits - 1) - 1

/-- Multiply by a power of two, the exponent taken as a whole number. -/
def shl (m : Int) (k : Int) : Int := m * (2 : Int) ^ k.toNat

def Dy.zero : Dy := { man := 0, exp := 0 }
def Dy.ofInt (n : Int) : Dy := { man := n, exp := 0 }
def Dy.neg (a : Dy) : Dy := { a with man := -a.man }
def Dy.mul (a b : Dy) : Dy := { man := a.man * b.man, exp := a.exp + b.exp }

def Dy.add (a b : Dy) : Dy :=
  if a.man = 0 then b else if b.man = 0 then a
  else
    let e := min a.exp b.exp
    { man := shl a.man (a.exp - e) + shl b.man (b.exp - e), exp := e }

def Dy.sub (a b : Dy) : Dy := a.add b.neg

/-- `a ≤ b`, exactly. -/
def Dy.le (a b : Dy) : Bool := decide ((b.sub a).man ≥ 0)

/-- Rounding of a non-negative ratio to the nearest whole number, ties to even. -/
def rneDiv (n d : Nat) : Nat :=
  let q := n / d
  let r := n % d
  if 2 * r > d ∨ (2 * r = d ∧ q % 2 = 1) then q + 1 else q

/-- Rounding of a ratio to the nearest whole number, halves away from zero (R141, R149). -/
def roundHalfAway (n : Int) (d : Nat) : Int :=
  let m := (2 * n.natAbs + d) / (2 * d)
  if n < 0 then -(m : Int) else m

/-- The bit pattern of infinity. -/
def FFmt.inf (f : FFmt) (s : Bool) : Nat :=
  (if s then 2 ^ (f.prec + f.ebits - 1) else 0) + (2 ^ f.ebits - 1) * 2 ^ (f.prec - 1)

/-- Round an exact value to a format, to nearest with ties to even; `sticky` says that a non-zero
part below the last bit of `man` was cut off. A result below the smallest normal number after rounding
becomes zero of the same sign when `flush` is set (R204 rule 5). -/
def FFmt.round (f : FFmt) (flush : Bool) (neg : Bool) (man : Nat) (exp : Int) (sticky : Bool) : Nat :=
  let signBit := if neg then 2 ^ (f.prec + f.ebits - 1) else 0
  if man = 0 ∧ !sticky then signBit
  else
    -- two guard bits keep the sticky part below every tie
    let m := 4 * man + (if sticky then 1 else 0)
    let e : Int := exp - 2
    let len : Int := (m.log2 : Int) + 1
    let emin : Int := 1 - (f.bias : Int)
    -- exponent of the last place of the rounded significand
    let lp : Int := max (e + len - f.prec) (emin - (f.prec - 1))
    let drop : Int := lp - e
    let r : Nat := if drop ≤ 0 then m * 2 ^ (-drop).toNat else rneDiv m (2 ^ drop.toNat)
    -- r * 2 ^ lp, with r at most 2 ^ prec
    let r' := if r ≥ 2 ^ f.prec then r / 2 else r
    let lp' := if r ≥ 2 ^ f.prec then lp + 1 else lp
    if r' < 2 ^ (f.prec - 1) then
      if flush then signBit else signBit + r'
    else
      let be : Int := lp' + (f.prec - 1) + f.bias
      if be ≥ (2 ^ f.ebits - 1 : Nat) then f.inf neg
      else signBit + be.toNat * 2 ^ (f.prec - 1) + (r' - 2 ^ (f.prec - 1))

/-- The parts of a bit pattern. -/
def FFmt.sign (f : FFmt) (b : Nat) : Bool := (b / 2 ^ (f.prec + f.ebits - 1)) % 2 = 1
def FFmt.expf (f : FFmt) (b : Nat) : Nat := (b / 2 ^ (f.prec - 1)) % 2 ^ f.ebits
def FFmt.frac (f : FFmt) (b : Nat) : Nat := b % 2 ^ (f.prec - 1)
def FFmt.isFinite (f : FFmt) (b : Nat) : Bool := f.expf b ≠ 2 ^ f.ebits - 1
def FFmt.isNaN (f : FFmt) (b : Nat) : Bool := f.expf b = 2 ^ f.ebits - 1 ∧ f.frac b ≠ 0

/-- The exact value of a finite pattern; subnormals read as zero when `flush` is set. -/
def FFmt.toDy (f : FFmt) (flush : Bool) (b : Nat) : Dy :=
  let e := f.expf b
  let m : Nat := if e = 0 then (if flush then 0 else f.frac b) else f.frac b + 2 ^ (f.prec - 1)
  let x : Int := (if e = 0 then 1 else (e : Int)) - f.bias - (f.prec - 1)
  { man := if f.sign b then -(m : Int) else m, exp := x }

/-! ## binary32 -/

def fFin (x : F32) : Bool := fmt32.isFinite x.toNat
def fNaN (x : F32) : Bool := fmt32.isNaN x.toNat
def fDy (x : F32) : Dy := fmt32.toDy true x.toNat
/-- The exact value of a finite pattern, its subnormals kept: what R204 says of them holds for the Crucible only. -/
def fDyS (x : F32) : Dy := fmt32.toDy false x.toNat
def fSgnB (x : F32) : Bool := x.getLsbD 31
def fNeg (x : F32) : F32 := x ^^^ 0x80000000#32
def fAbs (x : F32) : F32 := x &&& 0x7FFFFFFF#32
def f32One : F32 := 0x3F800000#32
def f32NaN : F32 := 0x7FC00000#32

/-- One rounding to binary32 of an exact value; `negZero` is the sign a zero result takes. -/
def f32OfDy (negZero : Bool) (d : Dy) : F32 :=
  if d.man = 0 then (if negZero then 0x80000000#32 else 0#32)
  else BitVec.ofNat 32 (fmt32.round true (decide (d.man < 0)) d.man.natAbs d.exp false)

def f32OfInt (n : Int) : F32 := f32OfDy false (Dy.ofInt n)

/-- One rounding to binary32 that keeps subnormal results. -/
def f32OfDyS (negZero : Bool) (d : Dy) : F32 :=
  if d.man = 0 then (if negZero then 0x80000000#32 else 0#32)
  else BitVec.ofNat 32 (fmt32.round false (decide (d.man < 0)) d.man.natAbs d.exp false)

/-- An exact value divided by another that is not zero, rounded to the nearest whole number, ties to even. -/
def Dy.divRne (a b : Dy) : Int :=
  let e := min a.exp b.exp
  let n := shl a.man (a.exp - e)
  let d := shl b.man (b.exp - e)
  let q : Int := rneDiv n.natAbs d.natAbs
  if (n < 0) = (d < 0) then q else -q

/-- Product and sum of finite values, each rounded once, subnormals kept (R146, R165). -/
def fMulS (a b : F32) : F32 := f32OfDyS (xor (fSgnB a) (fSgnB b)) ((fDyS a).mul (fDyS b))
def fAddS (a b : F32) : F32 := f32OfDyS (fSgnB a && fSgnB b) ((fDyS a).add (fDyS b))

/-- Binary32 of a ratio of whole numbers, rounded once. -/
def f32OfRatio (n : Int) (d : Nat) : F32 :=
  if n = 0 ∨ d = 0 then 0#32
  else
    let k := 64 + d.log2 + 1
    let a := n.natAbs * 2 ^ k
    BitVec.ofNat 32 (fmt32.round true (decide (n < 0)) (a / d) (-(k : Int)) (decide (a % d ≠ 0)))

/-- Fused multiply-add `a * b + c` with one rounding (R204). -/
def fFma (a b c : F32) : F32 :=
  if (fNaN a) || (fNaN b) || (fNaN c) then f32NaN
  else
    let sp := xor (fSgnB a) (fSgnB b)
    if !(fFin a) || !(fFin b) then
      if ((fFin a) && (fDy a).man = 0) || ((fFin b) && (fDy b).man = 0) then f32NaN
      else if !(fFin c) && xor (fSgnB c) sp then f32NaN
      else BitVec.ofNat 32 (fmt32.inf sp)
    else if !(fFin c) then c
    else
      let p := (fDy a).mul (fDy b)
      let r := p.add (fDy c)
      if r.man = 0 then
        (if p.man = 0 ∧ (fDy c).man = 0 then (if sp && (fSgnB c) then 0x80000000#32 else 0#32) else 0#32)
      else f32OfDy false r

def fAdd (a b : F32) : F32 := fFma a f32One b
def fSub (a b : F32) : F32 := fAdd a (fNeg b)

/-- The product, rounded once; a zero product takes the sign of the product. -/
def fMul (a b : F32) : F32 :=
  fFma a b (if xor (fSgnB a) (fSgnB b) then 0x80000000#32 else 0#32)

/-- The quotient, rounded once. -/
def fDiv (a b : F32) : F32 :=
  if (fNaN a) || (fNaN b) then f32NaN
  else
    let s := xor (fSgnB a) (fSgnB b)
    let zero : F32 := if s then 0x80000000#32 else 0#32
    if !(fFin a) then (if (fFin b) then BitVec.ofNat 32 (fmt32.inf s) else f32NaN)
    else if !(fFin b) then zero
    else if (fDy b).man = 0 then (if (fDy a).man = 0 then f32NaN else BitVec.ofNat 32 (fmt32.inf s))
    else if (fDy a).man = 0 then zero
    else
      let n := (fDy a).man.natAbs * 2 ^ 64
      let d := (fDy b).man.natAbs
      BitVec.ofNat 32 (fmt32.round true s (n / d) ((fDy a).exp - (fDy b).exp - 64) (decide (n % d ≠ 0)))

/-- Whole square root by halving, `fuel` bits. -/
def isqrtGo (n : Nat) : Nat → Nat → Nat
  | 0, acc => acc
  | k + 1, acc =>
    let t := acc + 2 ^ k
    isqrtGo n k (if t * t ≤ n then t else acc)

def isqrt (n : Nat) : Nat := isqrtGo n (n.log2 / 2 + 1) 0

/-- The square root, rounded once (the transform unit's square root, R225). -/
def fSqrt (a : F32) : F32 :=
  if (fNaN a) then f32NaN
  else if (fFin a) && (fDy a).man = 0 then a
  else if (fSgnB a) then f32NaN
  else if !(fFin a) then a
  else
    let odd := ((fDy a).exp % 2).toNat
    let n := (fDy a).man.natAbs * 2 ^ (64 + odd)
    let r := isqrt n
    BitVec.ofNat 32 (fmt32.round true false r (((fDy a).exp - odd) / 2 - 32) (decide (r * r ≠ n)))

/-- The reciprocal, rounded once (the transform unit's reciprocal, R225). -/
def fRecip (a : F32) : F32 := fDiv f32One a

/-- Order of finite values; a NaN is below nothing. -/
def fLe (a b : F32) : Bool := !(fNaN a) && !(fNaN b) &&
  (if !(fFin a) then (fSgnB a) || (!(fFin b) && !(fSgnB b))
   else if !(fFin b) then !(fSgnB b) else (fDy a).le (fDy b))
def fLt (a b : F32) : Bool := fLe a b && !fLe b a
def fGe (a b : F32) : Bool := fLe b a
def fGt (a b : F32) : Bool := fLt b a
def fEq (a b : F32) : Bool := fLe a b && fLe b a
def fMin (a b : F32) : F32 := if fLe a b then a else b
def fMax (a b : F32) : F32 := if fLe b a then a else b

/-- Limit to an interval. -/
def fClamp (x lo hi : F32) : F32 := fMin (fMax x lo) hi

/-- +1, −1 or 0 as binary32. -/
def fSgn (x : F32) : F32 :=
  if (fFin x) && (fDy x).man = 0 then 0#32 else if (fSgnB x) then (fNeg f32One) else f32One

/-- The nearest whole number, halves to even. -/
def Dy.rne (d : Dy) : Int :=
  let m : Nat := if d.exp ≥ 0 then d.man.natAbs * 2 ^ d.exp.toNat else rneDiv d.man.natAbs (2 ^ (-d.exp).toNat)
  if d.man < 0 then -(m : Int) else m

/-- The whole number at or below. -/
def Dy.floor (d : Dy) : Int :=
  if d.exp ≥ 0 then d.man * 2 ^ d.exp.toNat else d.man / (2 ^ (-d.exp).toNat : Nat)

/-- Whole volts, rounded to nearest, limited to UINT16 (R446). -/
def fToU16 (x : F32) : Nat := min 65535 (max 0 (fDy x).rne).toNat

/-! ## binary64, for the predictor (R81) -/

def dDy (x : F64) : Dy := fmt64.toDy false x.toNat
def f64OfDy (d : Dy) : F64 :=
  BitVec.ofNat 64 (fmt64.round false (decide (d.man < 0)) d.man.natAbs d.exp false)
def f64OfF32 (x : F32) : F64 := f64OfDy (fDy x)
def dMul (a b : F64) : F64 := f64OfDy ((dDy a).mul (dDy b))
def dAdd (a b : F64) : F64 := f64OfDy ((dDy a).add (dDy b))

/-- Stamp units to seconds in binary64, one rounding of the exact product with `2.5e-10` (R81):
`n / (4 * 10 ^ 9)`. -/
def f64Seconds (n : Int) : F64 :=
  if n = 0 then 0#64
  else
    let a := n.natAbs * 2 ^ 128
    let d := 4000000000
    BitVec.ofNat 64 (fmt64.round false (decide (n < 0)) (a / d) (-128) (decide (a % d ≠ 0)))

/-- Stamp units to seconds in binary32, one rounding (R81). -/
def f32Seconds (n : Int) : F32 := f32OfRatio n 4000000000

end Sys2Proof.Machine
end

