-- ==== Sys2Proof/Machine/State.lean ====
section
/-!
DEFINITION. The state of the device as plain data, the reasons a step can stop, and the state after reset.
The default value of every field is its value after reset (R3, R49); repeated units are in Units.lean.
A stamp is a STAMP64 (R61). A deadline of a running timer (R65) is kept on the timer clock, which is the counter less
every forward step of the boot, so that a forward step adds its amount to every running deadline (R69). The MU's timers
count stamp units too (R65), on a clock of their own that also runs while the counter stands still (log entry 48).
-/

namespace Sys2Proof.Machine

/-- A fault stops the block. No command of this block stops it: every row of the table has an effect, so this type
has no member. -/
inductive Fault where
  deriving DecidableEq, Repr

/-- A refusal by name. -/
inductive Refusal where
  /-- Raised by an arm of `exec` whose command has no meaning yet; safe, because nothing is claimed of it. -/
  | notModelled (mnemonic : String)
  deriving DecidableEq, Repr

/-! ## The time counter (R61 to R73) -/

/-- TQ_STATUS (Table 4.5). -/
inductive TqStatus where
  | unsynced | locking | synced | holdover
  deriving DecidableEq, Repr

/-- What the time-quality byte is formed from (Table 4.5). -/
structure Quality where
  status : TqStatus := .unsynced
  slew : Bool := false
  stepped : Bool := false
  err : Option Nat := none            -- latest error estimate in stamp units; none: unknown
  entry : Stamp := 0                  -- stamp of the entry to HOLDOVER
  deriving DecidableEq, Repr

/-- The counter itself: STAMP64, fraction accumulator and INCREMENT (R63). `running`: PLL1 ticks reach it. -/
structure Time where
  ctr : Nat := 0
  frac : Nat := 0
  inc : Nat := 0xA00000000
  incBy : Nat := 0xFE                 -- session that gave INCREMENT its value (R130)
  running : Bool := false
  mu : Nat := 0                       -- the MU's timer clock: stamp units, 10.0 a tick while the counter stands
  past : List (Stamp × Quality) := [] -- the time quality from each stamp on, newest first, the latest 32 changes (R73)
  marks : List (Nat × Nat × Nat) := []    -- tick, pair and INCREMENT from which the counter ran on, newest first (R177)
  deriving DecidableEq, Repr

/-- A command whose completion comes later, and the repeats of it that wait for the same reply (R100). -/
structure Deferred where
  pkt : Pkt
  accepted : Stamp
  entry : Nat
  repeats : List (Pkt × Nat) := []
  live : Bool := true                 -- its session is still the one it came in
  deriving DecidableEq, Repr

/-- A TIM_SET_INCREMENT waiting for its apply stamp (R76), or a servo's increment in a Flask (R329). -/
structure PendInc where
  value : Nat
  claim : Nat
  apply : Stamp
  cmd : Option Deferred
  deriving DecidableEq, Repr

/-- A step waiting for its apply stamp (R68). -/
structure PendStep where
  amount : Nat
  apply : Stamp
  cmd : Option Deferred
  deriving DecidableEq, Repr

/-- Time status, servo and timers of the timeline. -/
structure Timeline where
  status : TqStatus := .unsynced
  slew : Bool := false
  stepped : Bool := false
  err : Option Nat := none            -- latest error estimate in stamp units; none: unknown
  errs : List Nat := []               -- |offset| of the last 8 valid Syncs
  steps : Nat := 0                    -- total of the forward steps of this boot (R69)
  pendInc : List PendInc := []
  pendStep : List PendStep := []      -- steps that wait for their apply stamps, in the order of their acceptance
  pendMode : Option (Nat × Nat × Stamp × Nat) := none   -- mode, ports, accepted stamp, session (R70)
  lockRun : Nat := 0
  unlockRun : Nat := 0
  holdRun : Nat := 0
  holdBad : Bool := false
  gmDeadline : Option Nat := none     -- grandmaster or ALIGN timeout (R71, R344)
  hostDeadline : Option Nat := none   -- host watchdog (R72)
  holdEntry : Option Nat := none      -- timer clock at entry to HOLDOVER
  gm : Option Nat := none             -- grandmaster that the port states select
  servoEst : Nat := 0xA00000000       -- the servo's frequency estimate
  lastLatch : Stamp := 0              -- last STAMP64 the MU saw (R50, R52)
  latchAt : Nat := 0
  deriving DecidableEq, Repr

/-! ## The management unit and the standby domain -/

/-- Where the device is in its life after power-up (R42 to R48, R13, R386). -/
inductive Phase where
  | unpowered          -- VSTBY out of range: the whole device is in reset
  | held               -- the MU runs; the main domains wait in reset for t0
  | starting (step : Nat)   -- the start has passed t0 and runs this step of Table 3.1
  | ready
  | recovery
  | thermalHold
  | clockHold
  deriving DecidableEq, Repr

/-- A main rail as the comparators see it (R20). `below`: tick of its crossing of the undervoltage trip. -/
structure Rail where
  inRange : Bool := false
  below : Option Nat := some 0
  deriving DecidableEq, Repr

/-- A firmware bank (Table 15.13). -/
structure FwBank where
  version : Nat := 0
  rollback : Nat := 0
  gens : Nat := 0
  state : Nat := 0
  lastGood : Bool := false
  deriving DecidableEq, Repr

/-- An ingot or configuration transfer (R405). -/
structure Transfer where
  target : Nat
  total : Nat
  received : Nat := 0
  session : Option Nat := none
  link : Option Link := none
  deadline : Option Nat := none
  checking : Bool := false
  head : List Byte := []              -- the first 64 bytes received
  deriving DecidableEq, Repr

/-- A trust-anchor slot (Table 15.6): the 64 bytes as one number. -/
structure Anchor where
  data : Nat
  revoked : Bool := false
  deriving DecidableEq, Repr

/-- The standby domain: supplies, clocks, reset, power cycle, life cycle, identity, banks. -/
structure Mu where
  phase : Phase := .unpowered
  vstby : Bool := false
  vstbyAt : Nat := 0
  booted : Bool := false              -- standby boot done
  cold : Bool := false                -- the next start is the first since VSTBY
  rails : List Rail := [{}, {}, {}, {}, {}]
  earlyRails : List Nat := []         -- rails that rose before VSTBY; SUPPLY_ORDER is due
  railsAt : Nat := 0                  -- tick on which the last rail came into range
  supplyFault : Bool := false         -- held by R23
  resetN : Bool := false
  refOk : Bool := false               -- the clock monitor has found the 25 MHz reference within limits
  cause : Option ResetCause := none   -- highest-ranked cause since the last start (R50)
  causeAt : Nat := 0                  -- tick of the last device reset
  extClock : Option Bool := none      -- R37: true external, false crystal
  clkFreq : List F32 := [0x41C80000#32, 0x44480000#32, 0x43C80000#32, 0x43480000#32]  -- last measured MHz (R446)
  clkBad : List Bool := [false, false, false, false]
  clkHoldAt : Nat := 0
  clkGoodAt : Option Nat := none      -- every clock within limits since this tick
  pwrcyc : Option Nat := none         -- PWRCYC_REQ_N low since this time
  norPwr : Bool := false              -- the NOR's copy of its state (Table 3.4)
  pwrcycDue : Option Nat := none      -- assertion due at this time
  pwrcycHost : Bool := false          -- only a command has asked for it (R10)
  resetDue : Option (Nat × Bool) := none   -- SYS_RESET: due time, activate the inactive bank
  pwrDecisions : List Nat := []       -- times of the MU's own decisions (R430)
  pwrStop : Bool := false             -- third decision in an hour: held in RECOVERY
  failedStarts : Nat := 0
  failSeen : Bool := false            -- the running start is counted as failed
  startCause : Option ResetCause := none   -- cause of the running start
  prevEsc : Bool := false             -- the running start followed a CP_ESCALATION
  reached : Bool := false             -- the running start has reached READY
  t0 : Nat := 0                       -- tick of the running start
  t0At : Nat := 0                     -- and its time
  readyAt : Nat := 0
  bypass : Bool := true               -- closed
  restarting : Bool := false          -- MU restart from ROM (Table 1.4)
  boot : Nat := 0                     -- boot counter (R51)
  slotA : Option Nat := none          -- the two NOR slots of the boot counter
  slotB : Option Nat := none
  bootKept : Bool := false            -- the retained copy is intact
  lcWords : List Nat := [0, 0, 0, 0]  -- OTP life-cycle words (R54)
  lcWrite : Option (Nat × Nat × Nat) := none  -- the last word programmed: tick, word, its value before (R55)
  lc : Nat := 0                       -- life-cycle state in force
  otpRollback : Nat := 0
  anchors : List Anchor := []
  anchorUse : Option Nat := none      -- slot in use since the last start
  banks : List FwBank := [{}, {}]
  active : Nat := 0                   -- selected bank
  activate : Option (Nat × Stamp) := none   -- MGT_ACTIVATE pending
  transfer : Option Transfer := none
  binding : Option Binding := none    -- record stored in the NOR
  bound : Option Binding := none      -- binding in force
  cfgA : Option CfgImage := none
  cfgB : Option CfgImage := none
  cfgLoaded : Option (Nat × Nat) := none   -- copy and generation loaded by this start
  cfgRecorded : Option Nat := none    -- generation recorded in the object-persistence region
  cfgApplied : Bool := false
  norKnown : Bool := false            -- the model holds what the configuration region holds
  norBad : Bool := false              -- NOR marked unreadable (R132)
  ownGens : Nat := 0                  -- command, ring and schema generations of the running manifest
  deriving DecidableEq, Repr

/-- The housekeeping round and the thermal rules (R169 to R175, R379 to R387). -/
structure Hk where
  slot : Nat := 0                     -- next slot of the round
  vals : Bank F32 := []               -- values taken in this round
  prev : Bank F32 := []               -- values of the round before (sensors)
  roundDeadline : Nat := 0            -- on the MU's timer clock
  late : Nat := 0                     -- consecutive late rounds
  lateSeen : Bool := false            -- the running round has already been counted as late
  good : Nat := 0                     -- consecutive on-time rounds
  absent : Bool := false
  warned : List Nat := []             -- rails in an excursion already warned
  cool : Nat := 0                     -- consecutive cool rounds
  graceDeadline : Option Nat := none
  insuff : Bool := false
  hot : Bool := false                 -- the previous round was at or above 160 °C
  tmax : F32 := 0xC2800000#32
  hotSensor : Nat := 0
  stopAt : Option Stamp := none       -- t_s, thermal stop in progress
  stopDeadline : Nat := 0
  holdDue : Option Nat := none        -- THERMAL_HOLD due, timer clock
  leave : Nat := 0                    -- consecutive rounds at or below 140 °C
  holdKept : Bool := false            -- a reset or CLOCK_HOLD has interrupted THERMAL_HOLD (R387)
  enfOwn : Bool := false              -- this device's own enforcement is due (R382)
  refBad : Nat := 0                   -- AUX units, by bit, whose reference correction stood at a limit in the latest round
  trim : Option (Bool × F32) := none  -- latest trim of the MU oscillator: from HK34 or from TS11, and the reading
  deriving DecidableEq, Repr

/-- What the device has to log and Table 15.5 has no code for (R14, R37, R45): a failure of a start step, 1 to 3, the reload of a
cache entry, 14, or the choice of the reference clock, 37; with its block, object or choice. -/
structure Note where
  stamp : Stamp
  step : Nat
  block : Nat
  deriving DecidableEq, Repr

/-- The event log (R388 to R391). -/
structure Log where
  next : Nat := 0                     -- next record number
  ring : List LogRec := []            -- retained log, newest first, at most 8,192
  norDone : Nat := 0                  -- records below this number have been considered for the NOR
  nor : List LogRec := []             -- NOR log, newest first
  cpBuf : List LogRec := []           -- held by the CP while the MU restarts, newest first
  cpDrops : Nat := 0
  uncoded : List Note := []           -- what is logged without a code, newest first
  deriving DecidableEq, Repr

/-! ## Host links -/

/-- A queue pair (R104 to R112). -/
structure Pair where
  sqBase : Nat := 0
  cqBase : Nat := 0
  rbuf : Nat := 0
  en : Bool := false
  depth : Nat := 0                    -- log2
  vector : Nat := 0
  weight : Nat := 0
  qerr : Nat := 0
  qerrAt : Nat := 0                   -- tick on which an event set it (R2)
  sqTail : Nat := 0
  sqHead : Nat := 0                   -- next entry the CP starts
  owned : Nat := 0
  cqTail : Nat := 0                   -- entry the device writes next
  cqHead : Nat := 0
  phase : Bool := true
  posted : List (Reply × Bool × Bool) := []   -- unread completions with PHASE and LONG, oldest first
  waiting : List Reply := []          -- completions waiting for room
  sq : List Pkt := []                 -- SPI pair: packets on chip
  started : List Nat := []            -- entries started and not completed
  held : Bank Pkt := []               -- and their packets
  redo : List Nat := []               -- entries the CP starts again after a restart (R107)
  reexec : List Nat := []             -- entries whose completion carries REEXEC
  wrote : List (Nat × List Byte) := []        -- what the latest completion wrote to host memory, as address and bytes (R106)
  deriving DecidableEq, Repr

/-- A command of a session that has passed step 5, and its stored reply once it has one (R99). -/
structure Stored where
  seq : Nat
  crc : Nat
  reply : Option Reply := none
  deriving DecidableEq, Repr

/-- An open session (R121 to R124). -/
structure Session where
  level : Nat
  link : Link
  edvoten : Bool := false             -- its certificate chains to the Edvoten root
  anchored : Bool := false            -- its certificate chains to the installed anchor
  rx : Nat := 0                       -- highest accepted datagram counter
  tx : Nat := 1
  idle : Nat := 0                     -- timer clock of the last accepted command
  finger : Nat := 0                   -- first 8 bytes of its certificate's fingerprint
  keyIn : List Byte := []             -- session keys, one per direction (R124)
  keyOut : List Byte := []
  stored : List Stored := []          -- newest first, at most 256
  deriving DecidableEq, Repr

/-- A subscription (Table 5.20). -/
structure Sub where
  session : Nat
  link : Link
  seq : Nat
  idx : Nat
  mode : Nat
  period : Nat                        -- µs
  accepted : Stamp
  due : Nat                           -- timer clock
  lastVal : Nat
  deriving DecidableEq, Repr

/-- Host links: PCIe, SPI, mailbox, sessions and subscriptions. -/
structure HostIf where
  pairs : Bank Pair := []
  spiMask : Nat := 0x000F             -- HOST_SPI_PAIRS in force since the device reset
  msixTab : Bank Word := []           -- MSI-X table words, offset / 4
  msixPend : Nat := 0
  msixSent : Bank Nat := []           -- messages sent, by vector
  mbxReq : Bank Word := []            -- mailbox request words
  mbxBusy : Bool := false
  mbxReply : Option Reply := none
  devEvent : Nat := 0
  evSet : Nat × Nat := (0, 0)         -- the tick on which its bits were last set, and those bits (R2)
  subRej : Bool := false
  sessions : Bank (Option Session) := []
  subs : Bank (Option Sub) := []
  closing : Option (Nat × Session) := none   -- a session that its own command ends, until that is answered (R118)
  unfinished : List (Deferred × Nat × List Byte) := []   -- completions that wait for the CP (R17, R320)
  nonce : List (Nat × Nat) := []      -- session nonces not used yet: number, deadline (timer clock)
  nonces : Nat := 0
  inbox : List Pkt := []              -- packets taken from the Ethernet port and CAN tunnels
  rrUsed : Bank Nat := []             -- commands served in this round-robin round, by member
  out : List Reply := []              -- replies on their way out of a tunnel or ring link
  reasm : Bank (Nat × Nat × Nat) := []     -- IPv4 reassemblies: identification, deadline (timer clock), bytes
  pcieUp : Bool := false
  pcieDown : Option Nat := none       -- deadline of R112
  perst : Bool := true
  gen1 : Bool := false                -- retrained to Gen1 under throttle
  deferred : List Deferred := []      -- commands accepted and not yet completed
  current : Option (Pkt × Stamp × Nat) := none -- the command being executed
  mirrored : Option Stamp := none     -- accepted stamp of the mirrored command being applied
  spiOut : List Byte := []            -- what the latest SPI transaction shifted out on SPI_MISO (R115)
  deriving DecidableEq, Repr

/-! ## The object dictionary -/

/-- The dictionary's stored values; an object that is not listed has its default. -/
structure Dict where
  vals : Bank Nat := []
  info : Bank Meta := []
  nor : Bank Nat := []                -- object-persistence region
  dirty : List Nat := []              -- values not yet written, oldest first
  fresh : Bank (Nat × Nat) := []      -- flags an event has set: the tick, and the flags set on it (R2)
  safe : Bank Nat := []               -- committed SAFETY values in the NOR
  deriving DecidableEq, Repr

/-! ## Other units -/

/-- Modulator clocks (R134 to R138). -/
structure Mclk where
  inRun : Bool := false               -- MCLK_IN present and within its window
  inEdges : Nat := 0                  -- number of the edge at `edge0`, for R144
  edge0 : Nat := 0                    -- tick of an edge of MCLK_IN from which the others are counted
  lastEdge : Nat := 0                 -- `State.clk` at the latest edge of MCLK_IN that a row brought (R137)
  pendDiv : Bank (Nat × Nat) := []    -- group: configuration waiting, apply stamp
  started : Bank Nat := []            -- group: tick at which its clock started
  div : Bank Nat := []                -- group: DIV in force
  deriving DecidableEq, Repr

/-- The engine's shared state (R206 to R229). -/
structure Eng where
  ctxs : Bank Ctx := []
  staged : Bank (Bank Staged) := []   -- by session
  busy : List (Option (Nat × Stamp)) := [none, none]   -- context and end stamp of each unit
  fenceErr : List (List Stamp) := [[], []]             -- datapath errors of each unit
  deriving DecidableEq, Repr

/-- A change-log entry (Table 12.9). -/
structure ChangeEntry where
  stamp : Stamp
  session : Nat
  link : Nat
  finger : Nat
  idx : Nat
  oldCrc : Nat
  newCrc : Nat
  commit : Nat
  deriving DecidableEq, Repr

/-- The Referee and safety configuration (R293 to R321). -/
structure Ref where
  sl : Bank RefSlice := []
  runs : Bool := false
  fault : Bool := false
  stoA : Bool := false                -- level of STO_IN_A_N after the filter
  stoB : Bool := false
  stoDisc : Option Nat := none        -- disagreement deadline
  stoFault : Bool := false
  stoLow : Bool := false              -- both inputs have been low together since the discrepancy
  holdLo : Bool := false              -- asserted (sinking)
  holdHi : Bool := false
  sankAt : Option Nat := none         -- tick on which the lines have stopped sinking (R28)
  srcLo : Bool := false               -- release source on
  srcHi : Bool := false
  safeOut : Bool := false             -- driven level of SAFE_OUT_N
  hbDeadline : Nat := 0
  evals : Nat := 0
  pw : Option (List Byte × List Byte) := none   -- stored password: its salt of 16 bytes and its hash (R311)
  loginFails : Nat := 0
  lockUntil : Option Nat := none
  staged : Bank (List ObjRec) := []   -- staged safety set by session, write order
  changeLog : List ChangeEntry := []       -- newest first, at most 65,536
  norChanges : Nat := 0               -- entries of it that the NOR ring holds
  changeNext : Nat := 0               -- entries since the ring was created
  compareFault : Bool := false
  deriving DecidableEq, Repr

/-- The command processor (R315 to R321). -/
structure Cp where
  restarting : Bool := false
  restarts : Nat := 0
  mismatches : List Stamp := []       -- stamps of mismatches in the last second, newest first
  halted : Bool := false              -- debug halt
  stoppedAt : Option Nat := none      -- timer clock from which the CP has not run
  mem : Bank Word := []               -- words the debug port has written
  ckptAt : Stamp := 0
  ckptMem : Bank Word := []           -- those words as the latest checkpoint holds them
  escalate : Bool := false
  deriving DecidableEq, Repr

/-- Flask roles (Table 13.2). -/
inductive Role where
  | none | standby | candidate | active
  deriving DecidableEq, Repr

/-- Step states (Table 13.12). -/
inductive StepSt where
  | none | joining | resync | inStep | outOfStep | loose
  deriving DecidableEq, Repr

/-- The Flask (R322 to R339). -/
structure Flk where
  role : Role := .none
  step : StepSt := .none
  partner : Option Heartbeat := none
  partnerDeadline : Option Nat := none
  joinDeadline : Option Nat := none
  joinRefused : Nat := 0              -- failing condition last posted
  clash : Bool := false
  clkMargin : Bool := false
  loose : Bool := false
  mirror : List MirrorItem := []      -- waiting for the apply stamp, oldest first
  held : List (MirrorItem × Nat) := []   -- sent items with the end of their hold
  seqNo : Nat := 0
  missing : List Nat := []            -- mirror sequences not received, oldest first
  applied : Nat := 0                  -- last mirror sequence applied
  why : Nat := 0                      -- cause of the running change to active, as FLK_LAST_SWITCH codes it
  byPath : Bool := false              -- the pending handover answers a path loss (R337)
  digest : Bank (Nat × Nat × Nat) := []   -- slice: own latest digest (sample, crc, consecutive mismatches)
  remote : Bank (Nat × Nat) := []     -- slice: active's digest not yet compared
  higherAt : Option Nat := none       -- deadline of 30 µs after a higher ring claim
  handover : Option Stamp := none
  resyncStep : Nat := 0
  resyncDeadline : Option Nat := none
  snapAt : Option Stamp := none
  alignCount : Nat := 0
  retryAt : Option Nat := none
  retried : Bool := false
  image : List ObjRec := []
  imageLen : Nat := 0
  throttleSent : Bool := false
  encAt : Bank Enc := []              -- a joining device's own decoders at t_j (R339)
  edgesFrom : Option Stamp := none    -- stamp at which a resynchronised device was live
  deriving DecidableEq, Repr

/-- A frame that this device originates on the ring (Tables 13.9 and 13.10); destination 0 is a broadcast. -/
structure RingFrame where
  type : Nat
  dst : Nat
  seq : Nat
  payload : List Byte
  deriving DecidableEq, Repr

/-- The ring ports (R340 to R345). -/
structure Ring where
  seq : Nat := 0                      -- sequence of the next frame sent
  sent : Option RingFrame := none     -- the latest frame sent
  lockA : Bool := false
  lockB : Bool := false
  nodes : List (Nat × Nat) := []      -- node ID and timer clock last heard
  oversize : Bool := false
  lastA : Option Nat := none          -- last partner frame on each port
  lastB : Option Nat := none
  alignT1 : Option Stamp := none
  alignDue : Nat := 0
  objx : Nat := 0
  claims : List (Nat × Nat) := []     -- CLAIM frames sent: stamp and claim
  srcs : List (Nat × Nat) := []       -- node ID and TQ_STATUS rank of time sources heard
  badGens : List Nat := []            -- nodes outside the own compatible ranges (R410)
  hbAt : Stamp := 0                   -- stamp of the last heartbeat sent
  hb : Option Heartbeat := none       -- and its content
  deriving DecidableEq, Repr

/-- One captured TIO edge (R90). -/
structure TioCapt where
  stamp : Stamp
  level : Bool
  seq : Nat
  deriving DecidableEq, Repr

/-- One TIO pin (R89, R90). -/
structure Tio where
  level : Bool := false
  trailing : Option (Stamp × Bool) := none
  capts : List TioCapt := []          -- unread captures, oldest first, at most 8
  seqNo : Nat := 0
  deriving DecidableEq, Repr

/-- A failing cell (Table 16.4). -/
structure DiaFail where
  stamp : Stamp
  bank : Nat
  elem : Nat
  row : Nat
  word : Nat
  bit : Nat
  expected : Bool
  user : Bool
  isRead : Bool := false
  deriving DecidableEq, Repr

/-- A memory-test slice in progress (R414). -/
structure BistSlice where
  bank : Nat
  seg : Nat
  start : Nat                         -- timer clock
  phase : Nat := 0                    -- 0 copy-in, 1 march, 2 copy-back
  result : Nat := 0                   -- 0 PASSED, 1 FAILED, 2 INCOMPLETE
  user : Bool := false
  deriving DecidableEq, Repr

/-- Self-test, repair and trace (R413 to R428). -/
structure Dia where
  cur : Option BistSlice := none
  window : Stamp := 0
  charged : Nat := 0
  nextSeg : Nat := 0                  -- index into the scheduled segments, 0 to 1,343
  run : Option (Nat × Nat × Nat × Nat) := none  -- DIA_BIST_RUN: bank (255 all), pattern, next segment, segments left
  fails : Bank DiaFail := []
  failNext : Nat := 0
  repairs : List (Nat × Nat × Nat) := []   -- bank, row, spare, oldest first
  spares : Bank Nat := []
  refSeg : Nat := 0                   -- next segment of bank 22 (R418)
  segFail : Bank Nat := []            -- failed segments of the running pass, by bank
  fence : Nat := 0                    -- DIA_FENCE
  traceOn : Bool := false
  traceHeld : Bool := false           -- capture that enforced throttle has stopped (Table 15.1)
  traceMode : Nat := 0
  traceLimit : Nat := 0
  traceMask : Nat := 0
  traceNext : Nat := 0
  traceCount : Nat := 0
  traceDrops : Nat := 0
  traceWait : List Rec := []          -- records waiting, in the order of R93, at most 64
  trace : Bank Rec := []              -- slots
  traceBad : List Nat := []           -- slots marked corrupt
  ecc : Bank Nat := []                -- corrected errors by owner; their width is open (log entry 34)
  canLost : Bank Nat := []            -- frames that transmit queues have lost, by controller (R14)
  deriving DecidableEq, Repr

/-- The whole device. `tick` counts real 2.5 ns ticks; `free` numbers the free values drawn (the model's own field). -/
structure State where
  pending : List Instr := []
  time : Time := {}
  tick : Nat := 0
  free : Nat := 0
  tl : Timeline := {}
  mu : Mu := {}
  hk : Hk := {}
  log : Log := {}
  seqs : Bank Nat := []               -- next sequence of each source (R91)
  host : HostIf := {}
  dict : Dict := {}
  mclk : Mclk := {}
  sd : Bank Sd := []
  aux : Bank Aux := []
  enc : Bank Enc := []
  eng : Eng := {}
  slices : Bank Slice := []
  gl : Bank Gl := []
  ref : Ref := {}
  cp : Cp := {}
  flk : Flk := {}
  ring : Ring := {}
  can : Bank Can := []
  canPub : Bank Nat := []             -- publish slot: next cyclic deadline
  eth : Bank Eth := []
  tio : Bank Tio := []
  dia : Dia := {}
  deriving DecidableEq, Repr

/-- The machine right after reset: no supply is in range, so the device is unpowered, RESET_N is low, the NOR and the
log are empty and every unit has its reset values. -/
def State.reset : State := {}

end Sys2Proof.Machine
end

