-- ==== Sys2Proof/Machine/Dict.lean ====
section
/-!
DEFINITION. The object dictionary's descriptors (R129, R130), written from the dictionary tables of the chapters:
index, type, access, range, default and persistence class of every object. A field map gives an object a mask of
writable fields and a mask of write-1-to-clear flags (R131); every other bit of it ignores the written value.
-/

namespace Sys2Proof.Machine

/-! Index of each object, or of the first of its instances, by the name the spec gives it. -/

abbrev Obj.HOST_SPI_PAIRS : Nat := 0x100
abbrev Obj.HOST_ETH_PORT : Nat := 0x101
abbrev Obj.HOST_ETH_IDLE : Nat := 0x102
abbrev Obj.HOST_LINK_MAXPRIV : Nat := 0x103
abbrev Obj.HOST_SESSIONS_OPEN : Nat := 0x104
abbrev Obj.HOST_NOTIFY_DROPS : Nat := 0x105
abbrev Obj.HOST_PERSIST_PENDING : Nat := 0x106
abbrev Obj.HOST_ETH_DROPS : Nat := 0x107
abbrev Obj.HOST_SIG_RANGE_ERR : Nat := 0x108
abbrev Obj.ENG_RATE_MX0 : Nat := 0x200
abbrev Obj.ENG_RATE_MX1 : Nat := 0x201
abbrev Obj.ENG_SHED_REQ : Nat := 0x202
abbrev Obj.ENG_SHED_ACTIVE : Nat := 0x203
abbrev Obj.FLK_CFG : Nat := 0x300
abbrev Obj.FLK_STATUS : Nat := 0x301
abbrev Obj.FLK_CLAIM : Nat := 0x302
abbrev Obj.FLK_PARTNER_CLAIM : Nat := 0x303
abbrev Obj.FLK_MIRROR_SEQ : Nat := 0x304
abbrev Obj.FLK_STEP_ERR_CNT : Nat := 0x305
abbrev Obj.FLK_SWITCH_CNT : Nat := 0x306
abbrev Obj.FLK_LAST_SWITCH : Nat := 0x307
abbrev Obj.RING_STAT : Nat := 0x310
abbrev Obj.RING_NODES : Nat := 0x311
abbrev Obj.RING_RETRY_CNT : Nat := 0x312
abbrev Obj.RING_CRC_ERR : Nat := 0x313
abbrev Obj.RING_TIME_SRC : Nat := 0x314
abbrev Obj.SLC_STATE : Nat := 0x1000
abbrev Obj.SLC_MODE : Nat := 0x1001
abbrev Obj.SLC_TOPOLOGY : Nat := 0x1002
abbrev Obj.SLC_STATUS : Nat := 0x1003
abbrev Obj.SLC_SPEED_TARGET : Nat := 0x1004
abbrev Obj.SLC_TORQUE_CMD : Nat := 0x1005
abbrev Obj.SLC_ANGLE_SRC : Nat := 0x1008
abbrev Obj.SLC_ENC : Nat := 0x1009
abbrev Obj.SLC_OBS_CTX : Nat := 0x100A
abbrev Obj.SLC_SPEED_CTX : Nat := 0x100B
abbrev Obj.SLC_SETPOINT_TIMEOUT : Nat := 0x1010
abbrev Obj.SLC_CP_LOSS_STOP : Nat := 0x1011
abbrev Obj.SLC_FAULT_STOP : Nat := 0x1012
abbrev Obj.SLC_THERM_STOP_ALT : Nat := 0x1013
abbrev Obj.SLC_PSI : Nat := 0x1020
abbrev Obj.SLC_LD : Nat := 0x1021
abbrev Obj.SLC_LQ : Nat := 0x1022
abbrev Obj.SLC_RS : Nat := 0x1023
abbrev Obj.SLC_I_MAX : Nat := 0x1024
abbrev Obj.SLC_RATED_SPEED : Nat := 0x1025
abbrev Obj.SLC_SET2_SHIFT : Nat := 0x1026
abbrev Obj.SLC_DECOUPLE : Nat := 0x1027
abbrev Obj.SLC_VLIM_FRAC : Nat := 0x1028
abbrev Obj.SLC_ID_MIN : Nat := 0x1029
abbrev Obj.SLC_MTPA_TMAX : Nat := 0x102A
abbrev Obj.SLC_V_RATED : Nat := 0x102B
abbrev Obj.SLC_ACC : Nat := 0x1030
abbrev Obj.SLC_DEC : Nat := 0x1031
abbrev Obj.SLC_JERK : Nat := 0x1032
abbrev Obj.SLC_STOP_DEC : Nat := 0x1033
abbrev Obj.SLC_SPEED_MAX : Nat := 0x1034
abbrev Obj.SLC_ZERO_SPEED : Nat := 0x1035
abbrev Obj.SLC_ZERO_TIME : Nat := 0x1036
abbrev Obj.SLC_PRED_POS64 : Nat := 0x1040
abbrev Obj.SLC_PRED_SPEED : Nat := 0x1041
abbrev Obj.SLC_PRED_ACCEL : Nat := 0x1042
abbrev Obj.SLC_PRED_REF_STAMP : Nat := 0x1043
abbrev Obj.SLC_PRED_ACC_ALPHA : Nat := 0x1044
abbrev Obj.SLC_POLE_PAIRS : Nat := 0x1045
abbrev Obj.SLC_HF_AMPL : Nat := 0x1050
abbrev Obj.SLC_HF_CROSS : Nat := 0x1051
abbrev Obj.SLC_HF_HYST : Nat := 0x1052
abbrev Obj.SLC_BLEND_TIME : Nat := 0x1053
abbrev Obj.SLC_HF_SETTLE : Nat := 0x1054
abbrev Obj.SLC_HF_PLL_BW : Nat := 0x1055
abbrev Obj.SLC_POL_V : Nat := 0x1056
abbrev Obj.SLC_POL_PERIODS : Nat := 0x1057
abbrev Obj.SLC_POL_GAP : Nat := 0x1058
abbrev Obj.SLC_POL_MARGIN : Nat := 0x1059
abbrev Obj.SLC_PLL_BW : Nat := 0x105A
abbrev Obj.SLC_BLEND : Nat := 0x105B
abbrev Obj.SLC_LOSS_N : Nat := 0x1060
abbrev Obj.SLC_INNOV_MAX : Nat := 0x1061
abbrev Obj.SLC_DISAGREE_MAX : Nat := 0x1062
abbrev Obj.SLC_RECATCH_EN : Nat := 0x1063
abbrev Obj.SLC_RECATCH_DELAY : Nat := 0x1064
abbrev Obj.SLC_RECATCH_WINDOW : Nat := 0x1065
abbrev Obj.SLC_ASC_FRAC : Nat := 0x1066
abbrev Obj.SLC_ASC_SIDE : Nat := 0x1067
abbrev Obj.SLC_LOSS_COUNT : Nat := 0x1068
abbrev Obj.SLC_CATCH_WIDTH : Nat := 0x1070
abbrev Obj.SLC_CATCH_IMIN : Nat := 0x1071
abbrev Obj.SLC_CATCH_EMIN : Nat := 0x1072
abbrev Obj.SLC_SEED_MAP : Nat := 0x1073
abbrev Obj.SLC_CATCH_RESULT : Nat := 0x1077
abbrev Obj.SLC_VDC_TRIP : Nat := 0x1080
abbrev Obj.SLC_DIS_THRESH : Nat := 0x1081
abbrev Obj.SLC_DIS_ID : Nat := 0x1082
abbrev Obj.SLC_DIS_LINK : Nat := 0x1083
abbrev Obj.SLC_DIS_RESULT : Nat := 0x1084
abbrev Obj.SLC_PWM_SEL : Nat := 0x1100
abbrev Obj.SLC_PWM_PERIOD : Nat := 0x1101
abbrev Obj.SLC_PWM_CLK : Nat := 0x1102
abbrev Obj.SLC_PWM_SAMPLE : Nat := 0x1103
abbrev Obj.SLC_DEADTIME : Nat := 0x1104
abbrev Obj.SLC_DTC_EN : Nat := 0x1105
abbrev Obj.SLC_DTC_IBAND : Nat := 0x1106
abbrev Obj.SLC_MIN_PULSE : Nat := 0x1107
abbrev Obj.SLC_LEAD_TIME : Nat := 0x1108
abbrev Obj.SLC_SYNC_ENTER : Nat := 0x1109
abbrev Obj.SLC_SYNC_EXIT : Nat := 0x110A
abbrev Obj.SLC_PWM_ACTIVE : Nat := 0x110B
abbrev Obj.SLC_PWM_M : Nat := 0x110C
abbrev Obj.SLC_SD_SLOT : Nat := 0x1200
abbrev Obj.SLC_SD_PROMOTED : Nat := 0x1210
abbrev Obj.SLC_GROUP_WINNER : Nat := 0x1300
abbrev Obj.SLC_GROUP_OUT : Nat := 0x1301
abbrev Obj.SLC_GROUP_SIGN : Nat := 0x1302
abbrev Obj.SLC_GROUP_MEMBERS : Nat := 0x1303
abbrev Obj.SLC_MTPA : Nat := 0x1400
abbrev Obj.SLC_PAT_HDR : Nat := 0x1500
abbrev Obj.SLC_PAT_ANG : Nat := 0x1600
abbrev Obj.ENG_HDR_LO : Nat := 0x4000
abbrev Obj.ENG_HDR_HI : Nat := 0x4001
abbrev Obj.ENG_STATE : Nat := 0x4002
abbrev Obj.ENG_STAT : Nat := 0x4003
abbrev Obj.ENG_OVERRUN_CNT : Nat := 0x4004
abbrev Obj.ENG_PENDING_WRITES : Nat := 0x4005
abbrev Obj.ENG_REF : Nat := 0x4008
abbrev Obj.ENG_OUT : Nat := 0x400C
abbrev Obj.ENG_XHAT : Nat := 0x4010
abbrev Obj.ENG_Z : Nat := 0x4018
abbrev Obj.ENG_LAST_SAMPLE : Nat := 0x401C
abbrev Obj.ENG_LAST_OUTPUT : Nat := 0x401D
abbrev Obj.ENG_COEF : Nat := 0x4080
abbrev Obj.TIM_STATUS : Nat := 0x8000
abbrev Obj.TIM_SERVO_SEL : Nat := 0x8001
abbrev Obj.TIM_INCREMENT : Nat := 0x8002
abbrev Obj.TIM_OFFSET : Nat := 0x8003
abbrev Obj.TIM_LOCK_THRESH : Nat := 0x8004
abbrev Obj.TIM_UNLOCK_THRESH : Nat := 0x8005
abbrev Obj.TIM_STEP_THRESH : Nat := 0x8006
abbrev Obj.TIM_HOLDOVER_MAX : Nat := 0x8007
abbrev Obj.TIM_HOLDOVER_DRIFT : Nat := 0x8008
abbrev Obj.TIM_HOST_WATCHDOG : Nat := 0x8009
abbrev Obj.TIM_SERVO_PORTS : Nat := 0x800A
abbrev Obj.TIM_STEP_COUNT : Nat := 0x800B
abbrev Obj.TIM_UTC_OFFSET : Nat := 0x800C
abbrev Obj.TIM_RALLY_SKIP : Nat := 0x8010
abbrev Obj.TIM_RALLY_LATE : Nat := 0x8018
abbrev Obj.TIM_RALLY_MERGED : Nat := 0x8020
abbrev Obj.TIM_RALLY : Nat := 0x8100
abbrev Obj.TIM_TIO_CFG : Nat := 0x8400
abbrev Obj.TIM_TIO_CAPT : Nat := 0x8408
abbrev Obj.TIM_TIO_DROPS : Nat := 0x8410
abbrev Obj.ETH0_TX_LAT : Nat := 0x8500
abbrev Obj.ETH0_RX_LAT : Nat := 0x8501
abbrev Obj.ETH0_ASYM : Nat := 0x8502
abbrev Obj.ETH0_TXTS_POP : Nat := 0x8503
abbrev Obj.ETH0_TXTS_STATUS : Nat := 0x8504
abbrev Obj.SD_MCLK_CFG : Nat := 0x8600
abbrev Obj.SD_MCLK_IN_NOM : Nat := 0x8608
abbrev Obj.SD_MCLK_IN_STAT : Nat := 0x8609
abbrev Obj.SD_STAT : Nat := 0x8640
abbrev Obj.SD_VALUE : Nat := 0x8680
abbrev Obj.AUX_CFG : Nat := 0x8700
abbrev Obj.AUX_STAT : Nat := 0x8704
abbrev Obj.AUX_HOST_TRIG : Nat := 0x8708
abbrev Obj.AUX_REF_CORR : Nat := 0x870C
abbrev Obj.AUX_CH_SCALE : Nat := 0x8720
abbrev Obj.AUX_VALUE : Nat := 0x8740
abbrev Obj.ENC_CFG : Nat := 0x8800
abbrev Obj.ENC_SSI_CFG : Nat := 0x8808
abbrev Obj.ENC_STAT : Nat := 0x8810
abbrev Obj.ENC_COUNT : Nat := 0x8818
abbrev Obj.ENC_SPEED : Nat := 0x8820
abbrev Obj.ENC_PROBE_RISE : Nat := 0x8828
abbrev Obj.ENC_PROBE_FALL : Nat := 0x8830
abbrev Obj.ENC_LATCH : Nat := 0x8838
abbrev Obj.ENC_SSI_TRIG : Nat := 0x8840
abbrev Obj.GL_CFG : Nat := 0x8900
abbrev Obj.GL_STAT : Nat := 0x8920
abbrev Obj.GL_STATUS_LAST : Nat := 0x8940
abbrev Obj.CAN_PUB : Nat := 0x8A00
abbrev Obj.CAN_STAT : Nat := 0x8B00
abbrev Obj.CAN_RX_DROPS : Nat := 0x8B04
abbrev Obj.CAN_REPORT_DROPS : Nat := 0x8B08
abbrev Obj.CAN_RATE_IDX : Nat := 0x8B0C
abbrev Obj.ETH_STAT : Nat := 0x8B20
abbrev Obj.ETH_RX_DISCARDS : Nat := 0x8B22
abbrev Obj.ETH_PUB_OVERRUN : Nat := 0x8B24
abbrev Obj.ETH_PUB : Nat := 0x8B40
abbrev Obj.ETH_SUB : Nat := 0x8B80
abbrev Obj.HOST_SIG_MAP : Nat := 0xC000
abbrev Obj.SAF_PW_STATE : Nat := 0x10000
abbrev Obj.SAF_COMMIT_COUNT : Nat := 0x10001
abbrev Obj.SAF_SET_CRC : Nat := 0x10002
abbrev Obj.SAF_STAGED_COUNT : Nat := 0x10003
abbrev Obj.SAF_STO_MAP : Nat := 0x10010
abbrev Obj.SAF_STO_MODE : Nat := 0x10011
abbrev Obj.SAF_STO_TP_MAX : Nat := 0x10012
abbrev Obj.SAF_STO_DISC : Nat := 0x10013
abbrev Obj.SAF_SAFE_OUT_MAP : Nat := 0x10014
abbrev Obj.SAF_ASC_SIDE : Nat := 0x10015
abbrev Obj.SAF_HOLD_LO_RELEASE : Nat := 0x10020
abbrev Obj.SAF_HOLD_HI_RELEASE : Nat := 0x10021
abbrev Obj.SAF_TORQUE_TOL : Nat := 0x10040
abbrev Obj.SAF_TORQUE_WIN : Nat := 0x10041
abbrev Obj.SAF_TORQUE_LAG : Nat := 0x10042
abbrev Obj.SAF_TMON_MODE : Nat := 0x10043
abbrev Obj.SAF_TORQUE_LIM : Nat := 0x10044
abbrev Obj.SAF_SPD_LIM : Nat := 0x10045
abbrev Obj.SAF_SPD_SRC : Nat := 0x10046
abbrev Obj.SAF_SPD_WIN : Nat := 0x10047
abbrev Obj.SAF_SPD_IMIN : Nat := 0x10048
abbrev Obj.SAF_REACT_SLS : Nat := 0x10049
abbrev Obj.SAF_REACT_TMON : Nat := 0x1004A
abbrev Obj.SAF_OC_REACT : Nat := 0x1004B
abbrev Obj.SAF_OV_REACT : Nat := 0x1004C
abbrev Obj.SAF_SS1_DEC_MIN : Nat := 0x1004D
abbrev Obj.SAF_SS1_TMAX : Nat := 0x1004E
abbrev Obj.SAF_DEG_TORQUE : Nat := 0x1004F
abbrev Obj.SAF_DEG_SPEED : Nat := 0x10050
abbrev Obj.SAF_DEG_TIME : Nat := 0x10051
abbrev Obj.SAF_PSI : Nat := 0x10052
abbrev Obj.SAF_LD : Nat := 0x10053
abbrev Obj.SAF_LQ : Nat := 0x10054
abbrev Obj.SAF_POLE_PAIRS : Nat := 0x10055
abbrev Obj.SAF_ENC : Nat := 0x10056
abbrev Obj.SAF_ENC_LINES : Nat := 0x10057
abbrev Obj.SAF_SD_DIS_TOL : Nat := 0x10058
abbrev Obj.SAF_SD_DIS_N : Nat := 0x10059
abbrev Obj.SAF_PROT_HOLD : Nat := 0x1005A
abbrev Obj.SAF_TOPOLOGY : Nat := 0x1005B
abbrev Obj.SAF_ENC_OFFSET : Nat := 0x1005C
abbrev Obj.SAF_REF_FAIL_STATE : Nat := 0x1005D
abbrev Obj.SAF_ZERO_SPEED : Nat := 0x1005E
abbrev Obj.SAF_SS1_TOL : Nat := 0x1005F
abbrev Obj.SAF_SD_FAST : Nat := 0x10100
abbrev Obj.SAF_SD_MON : Nat := 0x10140
abbrev Obj.SAF_REF_STATUS : Nat := 0x10180
abbrev Obj.SAF_SLICE_STAT : Nat := 0x10188
abbrev Obj.SAF_T_EST : Nat := 0x10198
abbrev Obj.SAF_SPEED_EST : Nat := 0x101A0
abbrev Obj.MGT_LIFECYCLE : Nat := 0x14000
abbrev Obj.MGT_LIFECYCLE_REQ : Nat := 0x14001
abbrev Obj.MGT_BOOT_COUNT : Nat := 0x14002
abbrev Obj.MGT_RESET_CAUSE : Nat := 0x14003
abbrev Obj.MGT_START_TIME : Nat := 0x14004
abbrev Obj.MGT_ACTIVE_BANK : Nat := 0x14005
abbrev Obj.MGT_BANK_A : Nat := 0x14006
abbrev Obj.MGT_ROLLBACK : Nat := 0x14008
abbrev Obj.MGT_FEATURE_GATE : Nat := 0x14009
abbrev Obj.MGT_BOUND : Nat := 0x1400A
abbrev Obj.MGT_NODE_ID : Nat := 0x1400B
abbrev Obj.MGT_SYSTEM_ID : Nat := 0x1400C
abbrev Obj.MGT_UNBOUND_EN : Nat := 0x1400D
abbrev Obj.MGT_UNBOUND_TORQUE : Nat := 0x1400E
abbrev Obj.MGT_UNBOUND_SPEED : Nat := 0x1400F
abbrev Obj.MGT_THR_THRESH : Nat := 0x14010
abbrev Obj.MGT_THR_HYST : Nat := 0x14011
abbrev Obj.MGT_THR_GRACE : Nat := 0x14012
abbrev Obj.MGT_THERM_STOP_WIN : Nat := 0x14013
abbrev Obj.MGT_THERM_STAT : Nat := 0x14014
abbrev Obj.MGT_LOG_NOR_SEV : Nat := 0x14015
abbrev Obj.MGT_LOG_STAT : Nat := 0x14016
abbrev Obj.MGT_ANCHOR_SLOT : Nat := 0x14017
abbrev Obj.MGT_CFG_GEN : Nat := 0x14018
abbrev Obj.HK_VALUE : Nat := 0x14100
abbrev Obj.HK_ROUND_STAT : Nat := 0x14140
abbrev Obj.HK_MU_OSC_ERR : Nat := 0x14141
abbrev Obj.DIA_BIST_START : Nat := 0x18000
abbrev Obj.DIA_BIST_DUTY : Nat := 0x18010
abbrev Obj.DIA_BIST_STAT : Nat := 0x18011
abbrev Obj.DIA_BIST_PASSES : Nat := 0x18012
abbrev Obj.DIA_BIST_INCOMPLETE : Nat := 0x18013
abbrev Obj.DIA_BIST_FAIL_CNT : Nat := 0x18014
abbrev Obj.DIA_FAIL : Nat := 0x18020
abbrev Obj.DIA_BANK : Nat := 0x18040
abbrev Obj.DIA_FENCE : Nat := 0x18060
abbrev Obj.DIA_TRACE_STAT : Nat := 0x18070
abbrev Obj.DIA_TRACE_WINDOW : Nat := 0x18071
abbrev Obj.INTEGRATOR : Nat := 0x1C000

/-- How a row of a dictionary table repeats. -/
inductive Rep where
  | one          -- once
  | perSlice     -- 0x800 per slice
  | perCtx       -- 0x100 per context
  | perSafe      -- 0x20 per slice
  | perEth       -- 0x10 per port
  deriving DecidableEq, Repr

/-- A check on a field of a field map. -/
inductive FieldChk where
  | rg (hi lo min max : Nat)
  | fin (lo : Nat) (nonZero : Bool)   -- binary32 in bits lo + 31 to lo
  | own (lo : Nat)                    -- OWNER code: 0 to 5, or 7
  deriving DecidableEq, Repr

/-- The range of an object. -/
inductive Rng where
  | any
  | u (lo hi : Nat)
  | uOr (lo hi other : Nat)
  | oneOf (l : List Nat)
  | mult (lo hi step : Nat)
  | s (bound : Nat)                   -- signed, within ± bound
  | f (lo hi : BitVec 32)
  | f0 (lo hi : BitVec 32)            -- zero, or within lo to hi
  | four                              -- no bit, or four bits (HOST_SPI_PAIRS)
  | bytesTo (n max : Nat)             -- n bytes, each at most max
  | fields (rw w1c : Nat) (chk : List FieldChk)
  deriving DecidableEq, Repr

/-- A descriptor. `ty` is the code of Table 5.23; `acc` and `per` are coded as R130 states. -/
structure Desc where
  base : Nat
  last : Nat
  rep : Rep
  ty : Nat
  acc : Nat
  rng : Rng
  dft : Nat
  per : Nat
  deriving DecidableEq, Repr

def descHost0 : List Desc := [
  { base := 0x100, last := 0x100, rep := .one, ty := 0x03, acc := 1, rng := .four, dft := 0xF, per := 1 },  -- HOST_SPI_PAIRS
  { base := 0x101, last := 0x101, rep := .one, ty := 0x03, acc := 1, rng := .u 1024 65535, dft := 0xBB08, per := 1 },  -- HOST_ETH_PORT
  { base := 0x102, last := 0x102, rep := .one, ty := 0x03, acc := 1, rng := .u 1 3600, dft := 0x3C, per := 1 },  -- HOST_ETH_IDLE
  { base := 0x103, last := 0x103, rep := .one, ty := 0x48, acc := 1, rng := .bytesTo 8 4, dft := 0x101010104040404, per := 1 },  -- HOST_LINK_MAXPRIV
  { base := 0x104, last := 0x104, rep := .one, ty := 0x02, acc := 0, rng := .any, dft := 0x0, per := 0 },  -- HOST_SESSIONS_OPEN
  { base := 0x105, last := 0x105, rep := .one, ty := 0x04, acc := 0, rng := .any, dft := 0x0, per := 0 },  -- HOST_NOTIFY_DROPS
  { base := 0x106, last := 0x106, rep := .one, ty := 0x03, acc := 0, rng := .any, dft := 0x0, per := 0 },  -- HOST_PERSIST_PENDING
  { base := 0x107, last := 0x107, rep := .one, ty := 0x04, acc := 0, rng := .any, dft := 0x0, per := 0 },  -- HOST_ETH_DROPS
  { base := 0x108, last := 0x108, rep := .one, ty := 0x04, acc := 0, rng := .any, dft := 0x0, per := 0 },  -- HOST_SIG_RANGE_ERR
  { base := 0x200, last := 0x200, rep := .one, ty := 0x04, acc := 0, rng := .any, dft := 0x0, per := 0 },  -- ENG_RATE_MX0
  { base := 0x201, last := 0x201, rep := .one, ty := 0x04, acc := 0, rng := .any, dft := 0x0, per := 0 },  -- ENG_RATE_MX1
  { base := 0x202, last := 0x202, rep := .one, ty := 0x01, acc := 0, rng := .any, dft := 0x0, per := 0 },  -- ENG_SHED_REQ
  { base := 0x203, last := 0x203, rep := .one, ty := 0x01, acc := 0, rng := .any, dft := 0x0, per := 0 },  -- ENG_SHED_ACTIVE
  { base := 0x300, last := 0x300, rep := .one, ty := 0x50, acc := 0, rng := .fields 0xE003FFF0FFFFFFFFFFFF000000000000 0x0 [.rg 95 80 10 150, .rg 79 64 10 10000, .rg 63 48 50 10000], dft := 0x40000000001400C80064000000000000, per := 1 },  -- FLK_CFG
  { base := 0x301, last := 0x301, rep := .one, ty := 0x04, acc := 1, rng := .fields 0x0 0xF0000 [], dft := 0x0, per := 0 },  -- FLK_STATUS
  { base := 0x302, last := 0x302, rep := .one, ty := 0x03, acc := 0, rng := .any, dft := 0x0, per := 0 },  -- FLK_CLAIM
  { base := 0x303, last := 0x303, rep := .one, ty := 0x03, acc := 0, rng := .any, dft := 0x0, per := 0 },  -- FLK_PARTNER_CLAIM
  { base := 0x304, last := 0x304, rep := .one, ty := 0x04, acc := 0, rng := .any, dft := 0x0, per := 0 },  -- FLK_MIRROR_SEQ
  { base := 0x305, last := 0x305, rep := .one, ty := 0x04, acc := 0, rng := .any, dft := 0x0, per := 0 },  -- FLK_STEP_ERR_CNT
  { base := 0x306, last := 0x306, rep := .one, ty := 0x04, acc := 0, rng := .any, dft := 0x0, per := 0 },  -- FLK_SWITCH_CNT
  { base := 0x307, last := 0x307, rep := .one, ty := 0x50, acc := 0, rng := .any, dft := 0x0, per := 0 },  -- FLK_LAST_SWITCH
  { base := 0x310, last := 0x310, rep := .one, ty := 0x04, acc := 1, rng := .fields 0x0 0x8000000 [], dft := 0x0, per := 0 },  -- RING_STAT
  { base := 0x311, last := 0x311, rep := .one, ty := 0x02, acc := 0, rng := .any, dft := 0x0, per := 0 },  -- RING_NODES
  { base := 0x312, last := 0x312, rep := .one, ty := 0x04, acc := 0, rng := .any, dft := 0x0, per := 0 }  -- RING_RETRY_CNT
]

def descHost1 : List Desc := [
  { base := 0x313, last := 0x313, rep := .one, ty := 0x04, acc := 0, rng := .any, dft := 0x0, per := 0 },  -- RING_CRC_ERR
  { base := 0x314, last := 0x314, rep := .one, ty := 0x03, acc := 0, rng := .any, dft := 0x0, per := 0 }  -- RING_TIME_SRC
]

/-- Descriptors of 0x0 to 0xFFF. -/
def descHost : List Desc := descHost0 ++ descHost1

def descSlice0 : List Desc := [
  { base := 0x1000, last := 0x1000, rep := .perSlice, ty := 0x02, acc := 0, rng := .any, dft := 0x0, per := 0 },  -- SLC_STATE
  { base := 0x1001, last := 0x1001, rep := .perSlice, ty := 0x02, acc := 0, rng := .any, dft := 0x0, per := 0 },  -- SLC_MODE
  { base := 0x1002, last := 0x1002, rep := .perSlice, ty := 0x02, acc := 1, rng := .u 0 1, dft := 0x0, per := 1 },  -- SLC_TOPOLOGY
  { base := 0x1003, last := 0x1003, rep := .perSlice, ty := 0x04, acc := 1, rng := .fields 0x0 0xE [], dft := 0x0, per := 0 },  -- SLC_STATUS
  { base := 0x1004, last := 0x1004, rep := .perSlice, ty := 0x0A, acc := 0, rng := .any, dft := 0x0, per := 0 },  -- SLC_SPEED_TARGET
  { base := 0x1005, last := 0x1005, rep := .perSlice, ty := 0x0A, acc := 0, rng := .any, dft := 0x0, per := 0 },  -- SLC_TORQUE_CMD
  { base := 0x1008, last := 0x1008, rep := .perSlice, ty := 0x02, acc := 1, rng := .u 0 1, dft := 0x0, per := 1 },  -- SLC_ANGLE_SRC
  { base := 0x1009, last := 0x1009, rep := .perSlice, ty := 0x02, acc := 1, rng := .uOr 0 7 0xFF, dft := 0xFF, per := 1 },  -- SLC_ENC
  { base := 0x100A, last := 0x100A, rep := .perSlice, ty := 0x02, acc := 1, rng := .uOr 0 63 0xFF, dft := 0xFF, per := 1 },  -- SLC_OBS_CTX
  { base := 0x100B, last := 0x100B, rep := .perSlice, ty := 0x02, acc := 1, rng := .uOr 0 63 0xFF, dft := 0xFF, per := 1 },  -- SLC_SPEED_CTX
  { base := 0x1010, last := 0x1010, rep := .perSlice, ty := 0x03, acc := 1, rng := .u 2 1000, dft := 0x32, per := 1 },  -- SLC_SETPOINT_TIMEOUT
  { base := 0x1011, last := 0x1011, rep := .perSlice, ty := 0x02, acc := 1, rng := .u 0 2, dft := 0x0, per := 1 },  -- SLC_CP_LOSS_STOP
  { base := 0x1012, last := 0x1012, rep := .perSlice, ty := 0x02, acc := 1, rng := .u 0 2, dft := 0x0, per := 1 },  -- SLC_FAULT_STOP
  { base := 0x1013, last := 0x1013, rep := .perSlice, ty := 0x02, acc := 1, rng := .u 1 2, dft := 0x2, per := 1 },  -- SLC_THERM_STOP_ALT
  { base := 0x1020, last := 0x1020, rep := .perSlice, ty := 0x0A, acc := 1, rng := .f 0x00000000 0x41200000, dft := 0x0, per := 1 },  -- SLC_PSI
  { base := 0x1021, last := 0x1021, rep := .perSlice, ty := 0x0A, acc := 1, rng := .f 0x358637BD 0x3F800000, dft := 0x3A83126F, per := 1 },  -- SLC_LD
  { base := 0x1022, last := 0x1022, rep := .perSlice, ty := 0x0A, acc := 1, rng := .f 0x358637BD 0x3F800000, dft := 0x3A83126F, per := 1 },  -- SLC_LQ
  { base := 0x1023, last := 0x1023, rep := .perSlice, ty := 0x0A, acc := 1, rng := .f 0x00000000 0x42C80000, dft := 0x0, per := 1 },  -- SLC_RS
  { base := 0x1024, last := 0x1024, rep := .perSlice, ty := 0x0A, acc := 1, rng := .f 0x3F800000 0x459C4000, dft := 0x42C80000, per := 1 },  -- SLC_I_MAX
  { base := 0x1025, last := 0x1025, rep := .perSlice, ty := 0x0A, acc := 1, rng := .f 0x3F800000 0x44FA0000, dft := 0x42C80000, per := 1 },  -- SLC_RATED_SPEED
  { base := 0x1026, last := 0x1026, rep := .perSlice, ty := 0x04, acc := 1, rng := .any, dft := 0x15555555, per := 1 },  -- SLC_SET2_SHIFT
  { base := 0x1027, last := 0x1027, rep := .perSlice, ty := 0x01, acc := 1, rng := .u 0 1, dft := 0x1, per := 1 },  -- SLC_DECOUPLE
  { base := 0x1028, last := 0x1028, rep := .perSlice, ty := 0x0A, acc := 1, rng := .f 0x3F000000 0x3F800000, dft := 0x3F733333, per := 1 },  -- SLC_VLIM_FRAC
  { base := 0x1029, last := 0x1029, rep := .perSlice, ty := 0x0A, acc := 1, rng := .any, dft := 0xC2C80000, per := 1 }  -- SLC_ID_MIN
]

def descSlice1 : List Desc := [
  { base := 0x102A, last := 0x102A, rep := .perSlice, ty := 0x0A, acc := 1, rng := .f 0x3DCCCCCD 0x47C35000, dft := 0x42C80000, per := 1 },  -- SLC_MTPA_TMAX
  { base := 0x102B, last := 0x102B, rep := .perSlice, ty := 0x0A, acc := 1, rng := .f 0x3F800000 0x44FA0000, dft := 0x43C80000, per := 1 },  -- SLC_V_RATED
  { base := 0x1030, last := 0x1030, rep := .perSlice, ty := 0x0A, acc := 1, rng := .f 0x3DCCCCCD 0x49742400, dft := 0x42C80000, per := 1 },  -- SLC_ACC
  { base := 0x1031, last := 0x1031, rep := .perSlice, ty := 0x0A, acc := 1, rng := .f 0x3DCCCCCD 0x49742400, dft := 0x42C80000, per := 1 },  -- SLC_DEC
  { base := 0x1032, last := 0x1032, rep := .perSlice, ty := 0x0A, acc := 1, rng := .f0 0x3F800000 0x4CBEBC20, dft := 0x0, per := 1 },  -- SLC_JERK
  { base := 0x1033, last := 0x1033, rep := .perSlice, ty := 0x0A, acc := 1, rng := .f 0x3DCCCCCD 0x49742400, dft := 0x42C80000, per := 1 },  -- SLC_STOP_DEC
  { base := 0x1034, last := 0x1034, rep := .perSlice, ty := 0x0A, acc := 1, rng := .f 0x3F800000 0x44FA0000, dft := 0x42C80000, per := 1 },  -- SLC_SPEED_MAX
  { base := 0x1035, last := 0x1035, rep := .perSlice, ty := 0x0A, acc := 1, rng := .f 0x00000000 0x42480000, dft := 0x3F000000, per := 1 },  -- SLC_ZERO_SPEED
  { base := 0x1036, last := 0x1036, rep := .perSlice, ty := 0x03, acc := 1, rng := .u 1 10000, dft := 0x64, per := 1 },  -- SLC_ZERO_TIME
  { base := 0x1040, last := 0x1040, rep := .perSlice, ty := 0x09, acc := 0, rng := .any, dft := 0x0, per := 0 },  -- SLC_PRED_POS64
  { base := 0x1041, last := 0x1041, rep := .perSlice, ty := 0x0A, acc := 0, rng := .any, dft := 0x0, per := 0 },  -- SLC_PRED_SPEED
  { base := 0x1042, last := 0x1042, rep := .perSlice, ty := 0x0A, acc := 0, rng := .any, dft := 0x0, per := 0 },  -- SLC_PRED_ACCEL
  { base := 0x1043, last := 0x1043, rep := .perSlice, ty := 0x05, acc := 0, rng := .any, dft := 0x0, per := 0 },  -- SLC_PRED_REF_STAMP
  { base := 0x1044, last := 0x1044, rep := .perSlice, ty := 0x0A, acc := 1, rng := .f 0x00000000 0x3F800000, dft := 0x3E800000, per := 1 },  -- SLC_PRED_ACC_ALPHA
  { base := 0x1045, last := 0x1045, rep := .perSlice, ty := 0x02, acc := 1, rng := .u 1 32, dft := 0x1, per := 1 },  -- SLC_POLE_PAIRS
  { base := 0x1050, last := 0x1050, rep := .perSlice, ty := 0x0A, acc := 1, rng := .f0 0x3CA3D70A 0x3E4CCCCD, dft := 0x0, per := 1 },  -- SLC_HF_AMPL
  { base := 0x1051, last := 0x1051, rep := .perSlice, ty := 0x0A, acc := 1, rng := .f 0x3C23D70A 0x3E4CCCCD, dft := 0x3D23D70A, per := 1 },  -- SLC_HF_CROSS
  { base := 0x1052, last := 0x1052, rep := .perSlice, ty := 0x0A, acc := 1, rng := .f 0x3BA3D70A 0x3DCCCCCD, dft := 0x3CA3D70A, per := 1 },  -- SLC_HF_HYST
  { base := 0x1053, last := 0x1053, rep := .perSlice, ty := 0x03, acc := 1, rng := .u 1 500, dft := 0x14, per := 1 },  -- SLC_BLEND_TIME
  { base := 0x1054, last := 0x1054, rep := .perSlice, ty := 0x03, acc := 1, rng := .u 8 1024, dft := 0x20, per := 1 },  -- SLC_HF_SETTLE
  { base := 0x1055, last := 0x1055, rep := .perSlice, ty := 0x0A, acc := 1, rng := .f 0x3F800000 0x44FA0000, dft := 0x42C80000, per := 1 },  -- SLC_HF_PLL_BW
  { base := 0x1056, last := 0x1056, rep := .perSlice, ty := 0x0A, acc := 1, rng := .f 0x3F800000 0x44FA0000, dft := 0x42480000, per := 1 },  -- SLC_POL_V
  { base := 0x1057, last := 0x1057, rep := .perSlice, ty := 0x02, acc := 1, rng := .u 1 32, dft := 0x4, per := 1 },  -- SLC_POL_PERIODS
  { base := 0x1058, last := 0x1058, rep := .perSlice, ty := 0x03, acc := 1, rng := .u 100 10000, dft := 0x3E8, per := 1 }  -- SLC_POL_GAP
]

def descSlice2 : List Desc := [
  { base := 0x1059, last := 0x1059, rep := .perSlice, ty := 0x0A, acc := 1, rng := .f 0x3CA3D70A 0x3F000000, dft := 0x3D4CCCCD, per := 1 },  -- SLC_POL_MARGIN
  { base := 0x105A, last := 0x105A, rep := .perSlice, ty := 0x0A, acc := 1, rng := .f 0x3F800000 0x44FA0000, dft := 0x43480000, per := 1 },  -- SLC_PLL_BW
  { base := 0x105B, last := 0x105B, rep := .perSlice, ty := 0x0A, acc := 0, rng := .any, dft := 0x0, per := 0 },  -- SLC_BLEND
  { base := 0x1060, last := 0x1060, rep := .perSlice, ty := 0x02, acc := 1, rng := .u 1 64, dft := 0x4, per := 1 },  -- SLC_LOSS_N
  { base := 0x1061, last := 0x1061, rep := .perSlice, ty := 0x0A, acc := 1, rng := .f 0x3DCCCCCD 0x459C4000, dft := 0x42480000, per := 1 },  -- SLC_INNOV_MAX
  { base := 0x1062, last := 0x1062, rep := .perSlice, ty := 0x04, acc := 1, rng := .u 16777216 1073741824, dft := 0x15555555, per := 1 },  -- SLC_DISAGREE_MAX
  { base := 0x1063, last := 0x1063, rep := .perSlice, ty := 0x01, acc := 1, rng := .u 0 1, dft := 0x1, per := 1 },  -- SLC_RECATCH_EN
  { base := 0x1064, last := 0x1064, rep := .perSlice, ty := 0x03, acc := 1, rng := .u 10 10000, dft := 0x64, per := 1 },  -- SLC_RECATCH_DELAY
  { base := 0x1065, last := 0x1065, rep := .perSlice, ty := 0x03, acc := 1, rng := .u 1 3600, dft := 0xA, per := 1 },  -- SLC_RECATCH_WINDOW
  { base := 0x1066, last := 0x1066, rep := .perSlice, ty := 0x0A, acc := 1, rng := .f 0x3F000000 0x3F800000, dft := 0x3F666666, per := 1 },  -- SLC_ASC_FRAC
  { base := 0x1067, last := 0x1067, rep := .perSlice, ty := 0x02, acc := 1, rng := .u 0 1, dft := 0x0, per := 1 },  -- SLC_ASC_SIDE
  { base := 0x1068, last := 0x1068, rep := .perSlice, ty := 0x04, acc := 0, rng := .any, dft := 0x0, per := 0 },  -- SLC_LOSS_COUNT
  { base := 0x1070, last := 0x1070, rep := .perSlice, ty := 0x02, acc := 1, rng := .u 2 20, dft := 0xA, per := 1 },  -- SLC_CATCH_WIDTH
  { base := 0x1071, last := 0x1071, rep := .perSlice, ty := 0x0A, acc := 1, rng := .f 0x3C23D70A 0x43FA0000, dft := 0x3F800000, per := 1 },  -- SLC_CATCH_IMIN
  { base := 0x1072, last := 0x1072, rep := .perSlice, ty := 0x0A, acc := 1, rng := .f 0x3DCCCCCD 0x43FA0000, dft := 0x40A00000, per := 1 },  -- SLC_CATCH_EMIN
  { base := 0x1073, last := 0x1076, rep := .perSlice, ty := 0x48, acc := 1, rng := .fields 0xFE000000FFFFFFFF 0x0 [.rg 31 28 0 6, .rg 27 24 0 6, .rg 23 20 0 6, .rg 19 16 0 6, .rg 15 12 0 6, .rg 11 8 0 6, .rg 7 4 0 6, .rg 3 0 0 6], dft := 0x0, per := 1 },  -- SLC_SEED_MAP_j
  { base := 0x1077, last := 0x1077, rep := .perSlice, ty := 0x50, acc := 0, rng := .any, dft := 0x0, per := 0 },  -- SLC_CATCH_RESULT
  { base := 0x1080, last := 0x1080, rep := .perSlice, ty := 0x0A, acc := 1, rng := .f 0x3F800000 0x44FA0000, dft := 0x447A0000, per := 1 },  -- SLC_VDC_TRIP
  { base := 0x1081, last := 0x1081, rep := .perSlice, ty := 0x03, acc := 1, rng := .u 1 1000, dft := 0x3C, per := 1 },  -- SLC_DIS_THRESH
  { base := 0x1082, last := 0x1082, rep := .perSlice, ty := 0x0A, acc := 1, rng := .any, dft := 0xC2480000, per := 1 },  -- SLC_DIS_ID
  { base := 0x1083, last := 0x1083, rep := .perSlice, ty := 0x02, acc := 1, rng := .uOr 0 23 0xFF, dft := 0xFF, per := 1 },  -- SLC_DIS_LINK
  { base := 0x1084, last := 0x1084, rep := .perSlice, ty := 0x48, acc := 0, rng := .any, dft := 0x0, per := 0 },  -- SLC_DIS_RESULT
  { base := 0x1100, last := 0x1100, rep := .perSlice, ty := 0x02, acc := 1, rng := .u 0 1, dft := 0x0, per := 1 },  -- SLC_PWM_SEL
  { base := 0x1101, last := 0x1101, rep := .perSlice, ty := 0x04, acc := 1, rng := .any, dft := 0x61A8, per := 1 }  -- SLC_PWM_PERIOD
]

def descSlice3 : List Desc := [
  { base := 0x1102, last := 0x1102, rep := .perSlice, ty := 0x02, acc := 1, rng := .u 0 1, dft := 0x0, per := 1 },  -- SLC_PWM_CLK
  { base := 0x1103, last := 0x1103, rep := .perSlice, ty := 0x02, acc := 1, rng := .u 0 2, dft := 0x0, per := 1 },  -- SLC_PWM_SAMPLE
  { base := 0x1104, last := 0x1104, rep := .perSlice, ty := 0x03, acc := 1, rng := .u 0 20000, dft := 0xFA0, per := 1 },  -- SLC_DEADTIME
  { base := 0x1105, last := 0x1105, rep := .perSlice, ty := 0x01, acc := 1, rng := .u 0 1, dft := 0x1, per := 1 },  -- SLC_DTC_EN
  { base := 0x1106, last := 0x1106, rep := .perSlice, ty := 0x0A, acc := 1, rng := .f 0x00000000 0x43FA0000, dft := 0x40A00000, per := 1 },  -- SLC_DTC_IBAND
  { base := 0x1107, last := 0x1107, rep := .perSlice, ty := 0x03, acc := 1, rng := .u 0 20000, dft := 0x7D0, per := 1 },  -- SLC_MIN_PULSE
  { base := 0x1108, last := 0x1108, rep := .perSlice, ty := 0x02, acc := 1, rng := .u 5 50, dft := 0xA, per := 1 },  -- SLC_LEAD_TIME
  { base := 0x1109, last := 0x1109, rep := .perSlice, ty := 0x0A, acc := 1, rng := .f 0x3F800000 0x44FA0000, dft := 0x44FA0000, per := 1 },  -- SLC_SYNC_ENTER
  { base := 0x110A, last := 0x110A, rep := .perSlice, ty := 0x0A, acc := 1, rng := .f 0x3F800000 0x44FA0000, dft := 0x44E10000, per := 1 },  -- SLC_SYNC_EXIT
  { base := 0x110B, last := 0x110B, rep := .perSlice, ty := 0x02, acc := 0, rng := .any, dft := 0x0, per := 0 },  -- SLC_PWM_ACTIVE
  { base := 0x110C, last := 0x110C, rep := .perSlice, ty := 0x0A, acc := 0, rng := .any, dft := 0x0, per := 0 },  -- SLC_PWM_M
  { base := 0x1200, last := 0x120F, rep := .perSlice, ty := 0x50, acc := 1, rng := .fields 0xFEFFFFFF00000000FFFFFFFFFFFFFFFF 0x0 [.rg 126 124 0 3, .rg 105 96 16 512, .fin 32 true, .fin 0 false], dft := 0x3FC40000000003F80000000000000, per := 1 },  -- SLC_SD_SLOT_s
  { base := 0x1210, last := 0x1210, rep := .perSlice, ty := 0x03, acc := 0, rng := .any, dft := 0x0, per := 0 },  -- SLC_SD_PROMOTED
  { base := 0x1300, last := 0x1300, rep := .perSlice, ty := 0x02, acc := 0, rng := .any, dft := 0xFF, per := 0 },  -- SLC_GROUP_WINNER
  { base := 0x1301, last := 0x1301, rep := .perSlice, ty := 0x0A, acc := 0, rng := .any, dft := 0x0, per := 0 },  -- SLC_GROUP_OUT
  { base := 0x1302, last := 0x1302, rep := .perSlice, ty := 0x06, acc := 0, rng := .any, dft := 0x1, per := 0 },  -- SLC_GROUP_SIGN
  { base := 0x1303, last := 0x1303, rep := .perSlice, ty := 0x05, acc := 0, rng := .any, dft := 0x0, per := 0 },  -- SLC_GROUP_MEMBERS
  { base := 0x1400, last := 0x14FF, rep := .perSlice, ty := 0x0A, acc := 1, rng := .any, dft := 0x0, per := 1 },  -- SLC_MTPA_k
  { base := 0x1500, last := 0x150F, rep := .perSlice, ty := 0x50, acc := 1, rng := .fields 0x8F000000FFFFFFFFFFFFFFFFFFFFFFFF 0x0 [.fin 64 false, .fin 32 false, .fin 0 false], dft := 0x0, per := 1 },  -- SLC_PAT_HDR_j
  { base := 0x1600, last := 0x17FF, rep := .perSlice, ty := 0x04, acc := 1, rng := .any, dft := 0x0, per := 1 }  -- SLC_PAT_ANG_j_k
]

/-- Descriptors of 0x1000 to 0x3FFF. -/
def descSlice : List Desc := descSlice0 ++ descSlice1 ++ descSlice2 ++ descSlice3

def descCtx0 : List Desc := [
  { base := 0x4000, last := 0x4000, rep := .perCtx, ty := 0x50, acc := 0, rng := .any, dft := 0x0, per := 1 },  -- ENG_HDR_LO
  { base := 0x4001, last := 0x4001, rep := .perCtx, ty := 0x50, acc := 0, rng := .any, dft := 0x200400000000000000000000, per := 1 },  -- ENG_HDR_HI
  { base := 0x4002, last := 0x4002, rep := .perCtx, ty := 0x02, acc := 0, rng := .any, dft := 0x0, per := 0 },  -- ENG_STATE
  { base := 0x4003, last := 0x4003, rep := .perCtx, ty := 0x04, acc := 1, rng := .fields 0x0 0xB [], dft := 0x0, per := 0 },  -- ENG_STAT
  { base := 0x4004, last := 0x4004, rep := .perCtx, ty := 0x04, acc := 0, rng := .any, dft := 0x0, per := 0 },  -- ENG_OVERRUN_CNT
  { base := 0x4005, last := 0x4005, rep := .perCtx, ty := 0x03, acc := 0, rng := .any, dft := 0x0, per := 0 },  -- ENG_PENDING_WRITES
  { base := 0x4008, last := 0x400B, rep := .perCtx, ty := 0x0A, acc := 1, rng := .any, dft := 0x0, per := 1 },  -- ENG_REF_k
  { base := 0x400C, last := 0x400F, rep := .perCtx, ty := 0x0A, acc := 0, rng := .any, dft := 0x0, per := 0 },  -- ENG_OUT_k
  { base := 0x4010, last := 0x4017, rep := .perCtx, ty := 0x0A, acc := 0, rng := .any, dft := 0x0, per := 0 },  -- ENG_XHAT_i
  { base := 0x4018, last := 0x401B, rep := .perCtx, ty := 0x0A, acc := 0, rng := .any, dft := 0x0, per := 0 },  -- ENG_Z_j
  { base := 0x401C, last := 0x401C, rep := .perCtx, ty := 0x05, acc := 0, rng := .any, dft := 0x0, per := 0 },  -- ENG_LAST_SAMPLE
  { base := 0x401D, last := 0x401D, rep := .perCtx, ty := 0x05, acc := 0, rng := .any, dft := 0x0, per := 0 },  -- ENG_LAST_OUTPUT
  { base := 0x4080, last := 0x40C4, rep := .perCtx, ty := 0x50, acc := 0, rng := .any, dft := 0x0, per := 1 }  -- ENG_COEF_w
]

/-- Descriptors of 0x4000 to 0x7FFF. -/
def descCtx : List Desc := descCtx0

def descTime0 : List Desc := [
  { base := 0x8000, last := 0x8000, rep := .one, ty := 0x02, acc := 0, rng := .any, dft := 0xF, per := 0 },  -- TIM_STATUS
  { base := 0x8001, last := 0x8001, rep := .one, ty := 0x02, acc := 0, rng := .any, dft := 0x0, per := 1 },  -- TIM_SERVO_SEL
  { base := 0x8002, last := 0x8002, rep := .one, ty := 0x05, acc := 0, rng := .any, dft := 0xA00000000, per := 0 },  -- TIM_INCREMENT
  { base := 0x8003, last := 0x8003, rep := .one, ty := 0x09, acc := 0, rng := .any, dft := 0x0, per := 0 },  -- TIM_OFFSET
  { base := 0x8004, last := 0x8004, rep := .one, ty := 0x04, acc := 1, rng := .u 40 400000, dft := 0x190, per := 1 },  -- TIM_LOCK_THRESH
  { base := 0x8005, last := 0x8005, rep := .one, ty := 0x04, acc := 1, rng := .u 400 4000000, dft := 0xFA0, per := 1 },  -- TIM_UNLOCK_THRESH
  { base := 0x8006, last := 0x8006, rep := .one, ty := 0x04, acc := 1, rng := .u 10 1000000, dft := 0x3E8, per := 1 },  -- TIM_STEP_THRESH
  { base := 0x8007, last := 0x8007, rep := .one, ty := 0x04, acc := 1, rng := .u 1 86400, dft := 0xE10, per := 1 },  -- TIM_HOLDOVER_MAX
  { base := 0x8008, last := 0x8008, rep := .one, ty := 0x03, acc := 1, rng := .u 1 50000, dft := 0x64, per := 1 },  -- TIM_HOLDOVER_DRIFT
  { base := 0x8009, last := 0x8009, rep := .one, ty := 0x03, acc := 1, rng := .u 10 10000, dft := 0x7D0, per := 1 },  -- TIM_HOST_WATCHDOG
  { base := 0x800A, last := 0x800A, rep := .one, ty := 0x02, acc := 0, rng := .any, dft := 0x1, per := 1 },  -- TIM_SERVO_PORTS
  { base := 0x800B, last := 0x800B, rep := .one, ty := 0x04, acc := 0, rng := .any, dft := 0x0, per := 0 },  -- TIM_STEP_COUNT
  { base := 0x800C, last := 0x800C, rep := .one, ty := 0x07, acc := 0, rng := .any, dft := 0x0, per := 0 },  -- TIM_UTC_OFFSET
  { base := 0x8010, last := 0x8015, rep := .one, ty := 0x04, acc := 0, rng := .any, dft := 0x0, per := 0 },  -- TIM_RALLY_SKIP_n
  { base := 0x8018, last := 0x801D, rep := .one, ty := 0x04, acc := 0, rng := .any, dft := 0x0, per := 0 },  -- TIM_RALLY_LATE_n
  { base := 0x8020, last := 0x8025, rep := .one, ty := 0x04, acc := 0, rng := .any, dft := 0x0, per := 0 },  -- TIM_RALLY_MERGED_n
  { base := 0x8100, last := 0x827F, rep := .one, ty := 0x50, acc := 0, rng := .any, dft := 0x6000000000000000000000000000000, per := 1 },  -- TIM_RALLY_n
  { base := 0x8400, last := 0x8407, rep := .one, ty := 0x4C, acc := 0, rng := .any, dft := 0x0, per := 1 },  -- TIM_TIO_CFG_n
  { base := 0x8408, last := 0x840F, rep := .one, ty := 0x50, acc := 0, rng := .any, dft := 0x0, per := 0 },  -- TIM_TIO_CAPT_n
  { base := 0x8410, last := 0x8417, rep := .one, ty := 0x04, acc := 0, rng := .any, dft := 0x0, per := 0 },  -- TIM_TIO_DROPS_n
  { base := 0x8500, last := 0x8500, rep := .perEth, ty := 0x03, acc := 1, rng := .u 0 65535, dft := 0x0, per := 1 },  -- ETH0_TX_LAT
  { base := 0x8501, last := 0x8501, rep := .perEth, ty := 0x03, acc := 1, rng := .u 0 65535, dft := 0x0, per := 1 },  -- ETH0_RX_LAT
  { base := 0x8502, last := 0x8502, rep := .perEth, ty := 0x08, acc := 1, rng := .s 400000, dft := 0x0, per := 1 },  -- ETH0_ASYM
  { base := 0x8503, last := 0x8503, rep := .perEth, ty := 0x4C, acc := 0, rng := .any, dft := 0x0, per := 0 }  -- ETH0_TXTS_POP
]

def descTime1 : List Desc := [
  { base := 0x8504, last := 0x8504, rep := .perEth, ty := 0x04, acc := 1, rng := .fields 0x0 0x8000 [], dft := 0x0, per := 0 }  -- ETH0_TXTS_STATUS
]

/-- Descriptors of 0x8000 to 0x85FF. -/
def descTime : List Desc := descTime0 ++ descTime1

def descSense0 : List Desc := [
  { base := 0x8600, last := 0x8607, rep := .one, ty := 0x03, acc := 1, rng := .fields 0xC07F 0x0 [.rg 6 0 16 80], dft := 0x14, per := 1 },  -- SD_MCLK_CFG_g
  { base := 0x8608, last := 0x8608, rep := .one, ty := 0x04, acc := 1, rng := .u 5000000 25000000, dft := 0x1312D00, per := 1 },  -- SD_MCLK_IN_NOM
  { base := 0x8609, last := 0x8609, rep := .one, ty := 0x02, acc := 1, rng := .fields 0 0x3 [], dft := 0x0, per := 0 },  -- SD_MCLK_IN_STAT
  { base := 0x8640, last := 0x867F, rep := .one, ty := 0x04, acc := 1, rng := .fields 0x0 0xF0 [], dft := 0x0, per := 0 },  -- SD_STAT_n
  { base := 0x8680, last := 0x86BF, rep := .one, ty := 0x0A, acc := 0, rng := .any, dft := 0x0, per := 0 },  -- SD_VALUE_n
  { base := 0x8700, last := 0x8703, rep := .one, ty := 0x04, acc := 1, rng := .fields 0xFC0007FF 0x0 [.rg 10 0 100 2000], dft := 0x3C0007D0, per := 1 },  -- AUX_CFG_u
  { base := 0x8704, last := 0x8707, rep := .one, ty := 0x04, acc := 1, rng := .fields 0x0 0x3 [], dft := 0x0, per := 0 },  -- AUX_STAT_u
  { base := 0x8708, last := 0x8708, rep := .one, ty := 0x03, acc := 3, rng := .any, dft := 0x0, per := 0 },  -- AUX_HOST_TRIG
  { base := 0x870C, last := 0x870F, rep := .one, ty := 0x0A, acc := 0, rng := .any, dft := 0x3F800000, per := 0 },  -- AUX_REF_CORR_u
  { base := 0x8720, last := 0x873F, rep := .one, ty := 0x48, acc := 1, rng := .fields 0xFFFFFFFFFFFFFFFF 0 [.fin 32 false, .fin 0 false], dft := 0x3F80000000000000, per := 1 },  -- AUX_CH_SCALE_k
  { base := 0x8740, last := 0x875F, rep := .one, ty := 0x0A, acc := 0, rng := .any, dft := 0x0, per := 0 },  -- AUX_VALUE_k
  { base := 0x8800, last := 0x8807, rep := .one, ty := 0x50, acc := 1, rng := .fields 0xFFFFC3FFFFFF0003FFFFFFFFFFFFFFFF 0x0 [.rg 126 125 0 2, .own 122, .rg 105 96 1 1000, .rg 95 80 10 50000, .rg 63 32 1 16777216], dft := 0x1C10001403E800000000040000000000, per := 1 },  -- ENC_CFG_n
  { base := 0x8808, last := 0x880F, rep := .one, ty := 0x48, acc := 1, rng := .fields 0xFFFEFFFFFFFFFFFF 0x0 [.rg 63 58 8 32, .rg 57 52 1 32, .rg 51 50 0 2, .rg 47 40 40 200, .rg 31 24 10 80, .rg 23 0 1 16777215], dft := 0x64D2500014000400, per := 1 },  -- ENC_SSI_CFG_n
  { base := 0x8810, last := 0x8817, rep := .one, ty := 0x04, acc := 1, rng := .fields 0x0 0x703 [], dft := 0x0, per := 0 },  -- ENC_STAT_n
  { base := 0x8818, last := 0x881F, rep := .one, ty := 0x08, acc := 0, rng := .any, dft := 0x0, per := 0 },  -- ENC_COUNT_n
  { base := 0x8820, last := 0x8827, rep := .one, ty := 0x0A, acc := 0, rng := .any, dft := 0x0, per := 0 },  -- ENC_SPEED_n
  { base := 0x8828, last := 0x882F, rep := .one, ty := 0x50, acc := 0, rng := .any, dft := 0x0, per := 0 },  -- ENC_PROBE_RISE_n
  { base := 0x8830, last := 0x8837, rep := .one, ty := 0x50, acc := 0, rng := .any, dft := 0x0, per := 0 },  -- ENC_PROBE_FALL_n
  { base := 0x8838, last := 0x883F, rep := .one, ty := 0x50, acc := 0, rng := .any, dft := 0x0, per := 0 },  -- ENC_LATCH_n
  { base := 0x8840, last := 0x8840, rep := .one, ty := 0x02, acc := 3, rng := .any, dft := 0x0, per := 0 }  -- ENC_SSI_TRIG
]

/-- Descriptors of 0x8600 to 0x88FF. -/
def descSense : List Desc := descSense0

/-- The objects of the gate links and the networks. HOST_SIG_MAP_n is RETAINED, and a write of it accepts every NET code and any
SCALE and OFFSET: Table 5.24 gives no class and no check of these (the model's choice, log entry 52). -/
def descLink0 : List Desc := [
  { base := 0x8900, last := 0x8917, rep := .one, ty := 0x48, acc := 1, rng := .fields 0xFFE0FFFFFF0007FF 0x0 [.own 60, .rg 59 57 0 6, .rg 56 55 0 2, .rg 54 53 0 2, .rg 47 32 0 20000], dft := 0x70200FA050000000, per := 1 },  -- GL_CFG_l
  { base := 0x8920, last := 0x8937, rep := .one, ty := 0x04, acc := 1, rng := .fields 0x0 0x3FF0 [], dft := 0x0, per := 0 },  -- GL_STAT_l
  { base := 0x8940, last := 0x8957, rep := .one, ty := 0x48, acc := 0, rng := .any, dft := 0x0, per := 0 },  -- GL_STATUS_LAST_l
  { base := 0x8A00, last := 0x8AFF, rep := .one, ty := 0x50, acc := 1, rng := .fields 0xFFC0FFFFFFFFFFFFFFFFFFFF1FFFFFFF 0x0 [.rg 95 64 100 10000000], dft := 0x2000000000027100000000000000000, per := 1 },  -- CAN_PUB_s
  { base := 0x8B00, last := 0x8B03, rep := .one, ty := 0x04, acc := 1, rng := .fields 0x0 0xDC [], dft := 0x0, per := 0 },  -- CAN_STAT_c
  { base := 0x8B04, last := 0x8B07, rep := .one, ty := 0x04, acc := 0, rng := .any, dft := 0x0, per := 0 },  -- CAN_RX_DROPS_c
  { base := 0x8B08, last := 0x8B0B, rep := .one, ty := 0x04, acc := 0, rng := .any, dft := 0x0, per := 0 },  -- CAN_REPORT_DROPS_c
  { base := 0x8B0C, last := 0x8B0F, rep := .one, ty := 0x02, acc := 0, rng := .any, dft := 0xFF, per := 0 },  -- CAN_RATE_IDX_c
  { base := 0x8B20, last := 0x8B21, rep := .one, ty := 0x04, acc := 1, rng := .fields 0x0 0x3 [], dft := 0x0, per := 0 },  -- ETH_STAT_p
  { base := 0x8B22, last := 0x8B23, rep := .one, ty := 0x04, acc := 0, rng := .any, dft := 0x0, per := 0 },  -- ETH_RX_DISCARDS_p
  { base := 0x8B24, last := 0x8B25, rep := .one, ty := 0x04, acc := 0, rng := .any, dft := 0x0, per := 0 },  -- ETH_PUB_OVERRUN_p
  { base := 0x8B40, last := 0x8B7F, rep := .one, ty := 0x50, acc := 1, rng := .fields 0xF800FFFFFFFFFFFFFFFFFFFF00000000 0x0 [.rg 95 64 100 10000000], dft := 0x27100000000000000000, per := 1 },  -- ETH_PUB_s
  { base := 0x8B80, last := 0x8BBF, rep := .one, ty := 0x50, acc := 1, rng := .fields 0xFFFFFF0000000000FFFFFFFF00000000 0x0 [.rg 111 104 0 63, .rg 63 32 0 10000000], dft := 0x0, per := 1 },  -- ETH_SUB_s
  { base := 0xC000, last := 0xFFFF, rep := .one, ty := 0x50, acc := 1, rng := .fields 0xFE003FFFFFFFFFFFFFFFFFFFFFFFFFFF 0x0 [], dft := 0x0, per := 1 }  -- HOST_SIG_MAP_n
]

/-- Descriptors of 0x8900 to 0xFFFF. -/
def descLink : List Desc := descLink0

def descSafe0 : List Desc := [
  { base := 0x10000, last := 0x10000, rep := .one, ty := 0x02, acc := 0, rng := .any, dft := 0x0, per := 2 },  -- SAF_PW_STATE
  { base := 0x10001, last := 0x10001, rep := .one, ty := 0x04, acc := 0, rng := .any, dft := 0x0, per := 2 },  -- SAF_COMMIT_COUNT
  { base := 0x10002, last := 0x10002, rep := .one, ty := 0x04, acc := 0, rng := .any, dft := 0x0, per := 2 },  -- SAF_SET_CRC
  { base := 0x10003, last := 0x10003, rep := .one, ty := 0x03, acc := 0, rng := .any, dft := 0x0, per := 0 },  -- SAF_STAGED_COUNT
  { base := 0x10010, last := 0x10010, rep := .one, ty := 0x02, acc := 1, rng := .u 0 63, dft := 0x3F, per := 2 },  -- SAF_STO_MAP
  { base := 0x10011, last := 0x10011, rep := .one, ty := 0x02, acc := 1, rng := .u 0 1, dft := 0x0, per := 2 },  -- SAF_STO_MODE
  { base := 0x10012, last := 0x10012, rep := .one, ty := 0x03, acc := 1, rng := .u 0 1000, dft := 0x0, per := 2 },  -- SAF_STO_TP_MAX
  { base := 0x10013, last := 0x10013, rep := .one, ty := 0x03, acc := 1, rng := .u 1 1000, dft := 0xA, per := 2 },  -- SAF_STO_DISC
  { base := 0x10014, last := 0x10014, rep := .one, ty := 0x02, acc := 1, rng := .u 0 63, dft := 0x3F, per := 2 },  -- SAF_SAFE_OUT_MAP
  { base := 0x10015, last := 0x10015, rep := .one, ty := 0x02, acc := 1, rng := .u 0 1, dft := 0x0, per := 2 },  -- SAF_ASC_SIDE
  { base := 0x10020, last := 0x10020, rep := .one, ty := 0x02, acc := 1, rng := .u 0 1, dft := 0x0, per := 2 },  -- SAF_HOLD_LO_RELEASE
  { base := 0x10021, last := 0x10021, rep := .one, ty := 0x02, acc := 1, rng := .u 0 1, dft := 0x0, per := 2 },  -- SAF_HOLD_HI_RELEASE
  { base := 0x10040, last := 0x10040, rep := .perSafe, ty := 0x0A, acc := 1, rng := .f 0x3DCCCCCD 0x47C35000, dft := 0x42480000, per := 2 },  -- SAF_TORQUE_TOL
  { base := 0x10041, last := 0x10041, rep := .perSafe, ty := 0x03, acc := 1, rng := .mult 300 20000 100, dft := 0x708, per := 2 },  -- SAF_TORQUE_WIN
  { base := 0x10042, last := 0x10042, rep := .perSafe, ty := 0x03, acc := 1, rng := .u 0 5000, dft := 0xC8, per := 2 },  -- SAF_TORQUE_LAG
  { base := 0x10043, last := 0x10043, rep := .perSafe, ty := 0x02, acc := 1, rng := .u 0 2, dft := 0x0, per := 2 },  -- SAF_TMON_MODE
  { base := 0x10044, last := 0x10044, rep := .perSafe, ty := 0x0A, acc := 1, rng := .f0 0x3DCCCCCD 0x47C35000, dft := 0x0, per := 2 },  -- SAF_TORQUE_LIM
  { base := 0x10045, last := 0x10045, rep := .perSafe, ty := 0x0A, acc := 1, rng := .f0 0x3DCCCCCD 0x44FA0000, dft := 0x0, per := 2 },  -- SAF_SPD_LIM
  { base := 0x10046, last := 0x10046, rep := .perSafe, ty := 0x02, acc := 1, rng := .u 0 1, dft := 0x0, per := 2 },  -- SAF_SPD_SRC
  { base := 0x10047, last := 0x10047, rep := .perSafe, ty := 0x03, acc := 1, rng := .u 100 800, dft := 0x1F4, per := 2 },  -- SAF_SPD_WIN
  { base := 0x10048, last := 0x10048, rep := .perSafe, ty := 0x0A, acc := 1, rng := .f 0x3DCCCCCD 0x43FA0000, dft := 0x40A00000, per := 2 },  -- SAF_SPD_IMIN
  { base := 0x10049, last := 0x10049, rep := .perSafe, ty := 0x02, acc := 1, rng := .u 0 2, dft := 0x1, per := 2 },  -- SAF_REACT_SLS
  { base := 0x1004A, last := 0x1004A, rep := .perSafe, ty := 0x02, acc := 1, rng := .oneOf [0, 2], dft := 0x0, per := 2 },  -- SAF_REACT_TMON
  { base := 0x1004B, last := 0x1004B, rep := .perSafe, ty := 0x02, acc := 1, rng := .oneOf [0, 2, 3], dft := 0x0, per := 2 }  -- SAF_OC_REACT
]

def descSafe1 : List Desc := [
  { base := 0x1004C, last := 0x1004C, rep := .perSafe, ty := 0x02, acc := 1, rng := .oneOf [0, 2, 3], dft := 0x2, per := 2 },  -- SAF_OV_REACT
  { base := 0x1004D, last := 0x1004D, rep := .perSafe, ty := 0x0A, acc := 1, rng := .f 0x3DCCCCCD 0x49742400, dft := 0x42480000, per := 2 },  -- SAF_SS1_DEC_MIN
  { base := 0x1004E, last := 0x1004E, rep := .perSafe, ty := 0x03, acc := 1, rng := .u 10 60000, dft := 0x1388, per := 2 },  -- SAF_SS1_TMAX
  { base := 0x1004F, last := 0x1004F, rep := .perSafe, ty := 0x0A, acc := 1, rng := .f 0x00000000 0x47C35000, dft := 0x0, per := 2 },  -- SAF_DEG_TORQUE
  { base := 0x10050, last := 0x10050, rep := .perSafe, ty := 0x0A, acc := 1, rng := .f 0x00000000 0x44FA0000, dft := 0x0, per := 2 },  -- SAF_DEG_SPEED
  { base := 0x10051, last := 0x10051, rep := .perSafe, ty := 0x03, acc := 1, rng := .u 1 1800, dft := 0x12C, per := 2 },  -- SAF_DEG_TIME
  { base := 0x10052, last := 0x10052, rep := .perSafe, ty := 0x0A, acc := 1, rng := .f 0x00000000 0x41200000, dft := 0x0, per := 2 },  -- SAF_PSI
  { base := 0x10053, last := 0x10053, rep := .perSafe, ty := 0x0A, acc := 1, rng := .f 0x358637BD 0x3F800000, dft := 0x3A83126F, per := 2 },  -- SAF_LD
  { base := 0x10054, last := 0x10054, rep := .perSafe, ty := 0x0A, acc := 1, rng := .f 0x358637BD 0x3F800000, dft := 0x3A83126F, per := 2 },  -- SAF_LQ
  { base := 0x10055, last := 0x10055, rep := .perSafe, ty := 0x02, acc := 1, rng := .u 1 32, dft := 0x1, per := 2 },  -- SAF_POLE_PAIRS
  { base := 0x10056, last := 0x10056, rep := .perSafe, ty := 0x02, acc := 1, rng := .uOr 0 7 0xFF, dft := 0xFF, per := 2 },  -- SAF_ENC
  { base := 0x10057, last := 0x10057, rep := .perSafe, ty := 0x04, acc := 1, rng := .u 1 16777216, dft := 0x400, per := 2 },  -- SAF_ENC_LINES
  { base := 0x10058, last := 0x10058, rep := .perSafe, ty := 0x0A, acc := 1, rng := .f 0x3DCCCCCD 0x459C4000, dft := 0x41A00000, per := 2 },  -- SAF_SD_DIS_TOL
  { base := 0x10059, last := 0x10059, rep := .perSafe, ty := 0x02, acc := 1, rng := .u 1 64, dft := 0x3, per := 2 },  -- SAF_SD_DIS_N
  { base := 0x1005A, last := 0x1005A, rep := .perSafe, ty := 0x03, acc := 1, rng := .u 1 10000, dft := 0xA, per := 2 },  -- SAF_PROT_HOLD
  { base := 0x1005B, last := 0x1005B, rep := .perSafe, ty := 0x02, acc := 1, rng := .u 0 1, dft := 0x0, per := 2 },  -- SAF_TOPOLOGY
  { base := 0x1005C, last := 0x1005C, rep := .perSafe, ty := 0x04, acc := 1, rng := .any, dft := 0x0, per := 2 },  -- SAF_ENC_OFFSET
  { base := 0x1005D, last := 0x1005D, rep := .perSafe, ty := 0x02, acc := 1, rng := .oneOf [0, 2], dft := 0x0, per := 2 },  -- SAF_REF_FAIL_STATE
  { base := 0x1005E, last := 0x1005E, rep := .perSafe, ty := 0x0A, acc := 1, rng := .f 0x00000000 0x42480000, dft := 0x3F000000, per := 2 },  -- SAF_ZERO_SPEED
  { base := 0x1005F, last := 0x1005F, rep := .perSafe, ty := 0x0A, acc := 1, rng := .f 0x00000000 0x43480000, dft := 0x41200000, per := 2 },  -- SAF_SS1_TOL
  { base := 0x10100, last := 0x1013F, rep := .one, ty := 0x48, acc := 1, rng := .fields 0xFFF80000FFFFFFFF 0x0 [.rg 61 55 8 64], dft := 0x40000007FFF8000, per := 2 },  -- SAF_SD_FAST_n
  { base := 0x10140, last := 0x1017F, rep := .one, ty := 0x50, acc := 1, rng := .fields 0xFFC003FF00000000FFFFFFFFFFFFFFFF 0x0 [.rg 126 124 0 1, .rg 120 118 0 5, .rg 105 96 16 512, .fin 32 true, .fin 0 false], dft := 0x40000000003F80000000000000, per := 2 },  -- SAF_SD_MON_n
  { base := 0x10180, last := 0x10180, rep := .one, ty := 0x04, acc := 0, rng := .any, dft := 0x0, per := 0 },  -- SAF_REF_STATUS
  { base := 0x10188, last := 0x1018D, rep := .one, ty := 0x04, acc := 1, rng := .fields 0x0 0x2 [], dft := 0x0, per := 0 }  -- SAF_SLICE_STAT_n
]

def descSafe2 : List Desc := [
  { base := 0x10198, last := 0x1019D, rep := .one, ty := 0x0A, acc := 0, rng := .any, dft := 0x0, per := 0 },  -- SAF_T_EST_n
  { base := 0x101A0, last := 0x101A5, rep := .one, ty := 0x0A, acc := 0, rng := .any, dft := 0x0, per := 0 }  -- SAF_SPEED_EST_n
]

/-- Descriptors of 0x10000 to 0x13FFF. -/
def descSafe : List Desc := descSafe0 ++ descSafe1 ++ descSafe2

def descMgt0 : List Desc := [
  { base := 0x14000, last := 0x14000, rep := .one, ty := 0x02, acc := 0, rng := .any, dft := 0x0, per := 1 },  -- MGT_LIFECYCLE
  { base := 0x14001, last := 0x14001, rep := .one, ty := 0x02, acc := 3, rng := .any, dft := 0x0, per := 0 },  -- MGT_LIFECYCLE_REQ
  { base := 0x14002, last := 0x14002, rep := .one, ty := 0x04, acc := 0, rng := .any, dft := 0x0, per := 1 },  -- MGT_BOOT_COUNT
  { base := 0x14003, last := 0x14003, rep := .one, ty := 0x02, acc := 0, rng := .any, dft := 0x0, per := 0 },  -- MGT_RESET_CAUSE
  { base := 0x14004, last := 0x14004, rep := .one, ty := 0x04, acc := 0, rng := .any, dft := 0x0, per := 0 },  -- MGT_START_TIME
  { base := 0x14005, last := 0x14005, rep := .one, ty := 0x02, acc := 0, rng := .any, dft := 0x0, per := 1 },  -- MGT_ACTIVE_BANK
  { base := 0x14006, last := 0x14007, rep := .one, ty := 0x50, acc := 0, rng := .any, dft := 0x0, per := 1 },  -- MGT_BANK_A, MGT_BANK_B
  { base := 0x14008, last := 0x14008, rep := .one, ty := 0x02, acc := 0, rng := .any, dft := 0x0, per := 1 },  -- MGT_ROLLBACK
  { base := 0x14009, last := 0x14009, rep := .one, ty := 0x44, acc := 1, rng := .any, dft := 0x0, per := 1 },  -- MGT_FEATURE_GATE
  { base := 0x1400A, last := 0x1400A, rep := .one, ty := 0x02, acc := 0, rng := .any, dft := 0x0, per := 0 },  -- MGT_BOUND
  { base := 0x1400B, last := 0x1400B, rep := .one, ty := 0x03, acc := 0, rng := .any, dft := 0x0, per := 0 },  -- MGT_NODE_ID
  { base := 0x1400C, last := 0x1400C, rep := .one, ty := 0x50, acc := 0, rng := .any, dft := 0x0, per := 0 },  -- MGT_SYSTEM_ID
  { base := 0x1400D, last := 0x1400D, rep := .one, ty := 0x01, acc := 1, rng := .u 0 1, dft := 0x0, per := 1 },  -- MGT_UNBOUND_EN
  { base := 0x1400E, last := 0x1400E, rep := .one, ty := 0x0A, acc := 1, rng := .f 0x00000000 0x47C35000, dft := 0x0, per := 1 },  -- MGT_UNBOUND_TORQUE
  { base := 0x1400F, last := 0x1400F, rep := .one, ty := 0x0A, acc := 1, rng := .f 0x00000000 0x44FA0000, dft := 0x0, per := 1 },  -- MGT_UNBOUND_SPEED
  { base := 0x14010, last := 0x14010, rep := .one, ty := 0x02, acc := 1, rng := .u 100 150, dft := 0x8C, per := 1 },  -- MGT_THR_THRESH
  { base := 0x14011, last := 0x14011, rep := .one, ty := 0x02, acc := 1, rng := .u 2 20, dft := 0x5, per := 1 },  -- MGT_THR_HYST
  { base := 0x14012, last := 0x14012, rep := .one, ty := 0x03, acc := 1, rng := .u 10 5000, dft := 0xC8, per := 1 },  -- MGT_THR_GRACE
  { base := 0x14013, last := 0x14013, rep := .one, ty := 0x03, acc := 1, rng := .u 10 1000, dft := 0x64, per := 1 },  -- MGT_THERM_STOP_WIN
  { base := 0x14014, last := 0x14014, rep := .one, ty := 0x04, acc := 1, rng := .fields 0x0 0x6 [], dft := 0x0, per := 0 },  -- MGT_THERM_STAT
  { base := 0x14015, last := 0x14015, rep := .one, ty := 0x02, acc := 1, rng := .u 0 4, dft := 0x1, per := 1 },  -- MGT_LOG_NOR_SEV
  { base := 0x14016, last := 0x14016, rep := .one, ty := 0x04, acc := 0, rng := .any, dft := 0x0, per := 0 },  -- MGT_LOG_STAT
  { base := 0x14017, last := 0x14017, rep := .one, ty := 0x02, acc := 0, rng := .any, dft := 0xFF, per := 1 },  -- MGT_ANCHOR_SLOT
  { base := 0x14018, last := 0x14018, rep := .one, ty := 0x04, acc := 0, rng := .any, dft := 0x0, per := 0 }  -- MGT_CFG_GEN
]

def descMgt1 : List Desc := [
  { base := 0x14100, last := 0x1413F, rep := .one, ty := 0x0A, acc := 0, rng := .any, dft := 0x0, per := 0 },  -- HK_VALUE_k
  { base := 0x14140, last := 0x14140, rep := .one, ty := 0x04, acc := 0, rng := .any, dft := 0x0, per := 0 },  -- HK_ROUND_STAT
  { base := 0x14141, last := 0x14141, rep := .one, ty := 0x08, acc := 0, rng := .any, dft := 0x0, per := 0 }  -- HK_MU_OSC_ERR
]

/-- Descriptors of 0x14000 to 0x17FFF. -/
def descMgt : List Desc := descMgt0 ++ descMgt1

def descDia0 : List Desc := [
  { base := 0x18000, last := 0x18008, rep := .one, ty := 0x04, acc := 0, rng := .any, dft := 0x0, per := 0 },  -- DIA_BIST_START_n
  { base := 0x18010, last := 0x18010, rep := .one, ty := 0x02, acc := 1, rng := .u 0 100, dft := 0xA, per := 1 },  -- DIA_BIST_DUTY
  { base := 0x18011, last := 0x18011, rep := .one, ty := 0x04, acc := 1, rng := .fields 0x0 0x7 [], dft := 0x0, per := 0 },  -- DIA_BIST_STAT
  { base := 0x18012, last := 0x18012, rep := .one, ty := 0x04, acc := 0, rng := .any, dft := 0x0, per := 0 },  -- DIA_BIST_PASSES
  { base := 0x18013, last := 0x18013, rep := .one, ty := 0x04, acc := 0, rng := .any, dft := 0x0, per := 0 },  -- DIA_BIST_INCOMPLETE
  { base := 0x18014, last := 0x18014, rep := .one, ty := 0x04, acc := 0, rng := .any, dft := 0x0, per := 0 },  -- DIA_BIST_FAIL_CNT
  { base := 0x18020, last := 0x1803F, rep := .one, ty := 0x50, acc := 0, rng := .any, dft := 0x0, per := 0 },  -- DIA_FAIL_n
  { base := 0x18040, last := 0x18057, rep := .one, ty := 0x44, acc := 0, rng := .any, dft := 0x0, per := 0 },  -- DIA_BANK_n
  { base := 0x18060, last := 0x18060, rep := .one, ty := 0x50, acc := 0, rng := .any, dft := 0x0, per := 0 },  -- DIA_FENCE
  { base := 0x18070, last := 0x18070, rep := .one, ty := 0x04, acc := 0, rng := .any, dft := 0x0, per := 0 },  -- DIA_TRACE_STAT
  { base := 0x18071, last := 0x18071, rep := .one, ty := 0x03, acc := 1, rng := .u 0 16383, dft := 0x0, per := 0 },  -- DIA_TRACE_WINDOW
  { base := 0x1C000, last := 0x1FFFF, rep := .one, ty := 0x50, acc := 1, rng := .any, dft := 0x0, per := 1 }  -- INTEGRATOR_n
]

/-- Descriptors of 0x18000 to 0x1FFFF. -/
def descDia : List Desc := descDia0

/-- Descriptors of the range an index lies in (Table 5.22). -/
def descsFor (i : Nat) : List Desc :=
  if i ≤ 0xFFF then descHost
  else if i ≤ 0x3FFF then descSlice
  else if i ≤ 0x7FFF then descCtx
  else if i ≤ 0x85FF then descTime
  else if i ≤ 0x88FF then descSense
  else if i ≤ 0xFFFF then descLink
  else if i ≤ 0x13FFF then descSafe
  else if i ≤ 0x17FFF then descMgt
  else if i ≤ 0x1FFFF then descDia
  else []

/-- The index in the row's first instance, for an index of any instance of a row that repeats. -/
def Desc.first (d : Desc) (i : Nat) : Nat :=
  match d.rep with
  | .one => i
  | .perSlice => 0x1000 + (i - 0x1000) % 0x800
  | .perCtx => 0x4000 + (i - 0x4000) % 0x100
  | .perSafe => if i < 0x10040 ∨ 0x10100 ≤ i then 0 else 0x10040 + (i - 0x10040) % 0x20
  | .perEth => if i < 0x8500 ∨ 0x8520 ≤ i then 0 else 0x8500 + (i - 0x8500) % 0x10

def Desc.has (d : Desc) (i : Nat) : Bool := d.base ≤ d.first i && d.first i ≤ d.last

/-- The descriptor of an index; none where the index names no object. -/
def descOf (i : Nat) : Option Desc := (descsFor i).find? (fun d => d.has i)

/-- The data length of a type code (Table 5.23). -/
def typeLen (ty : Nat) : Nat :=
  if ty ≥ 0x41 then ty - 0x40
  else if ty = 3 ∨ ty = 7 then 2
  else if ty = 4 ∨ ty = 8 ∨ ty = 10 then 4
  else if ty = 5 ∨ ty = 9 then 8
  else 1

/-- The default of an object; 0 where no object is named. -/
def objDefault (i : Nat) : Nat := match descOf i with | some d => d.dft | none => 0

/-- Bits `hi` to `lo` of a number. -/
def bits (v hi lo : Nat) : Nat := v / 2 ^ lo % 2 ^ (hi - lo + 1)

/-- One bit of a number. -/
def bit (v k : Nat) : Bool := v / 2 ^ k % 2 = 1

/-- A number of `n` bits read as two's complement. -/
def sgn (n v : Nat) : Int := if v % 2 ^ n < 2 ^ (n - 1) then (v % 2 ^ n : Nat) else (v % 2 ^ n : Nat) - (2 ^ n : Nat)

/-- Two's complement of `n` bits. -/
def unsgn (n : Nat) (v : Int) : Nat := (v % (2 ^ n : Nat)).toNat

def FieldChk.ok (v : Nat) : FieldChk → Bool
  | .rg hi lo mn mx => mn ≤ bits v hi lo && bits v hi lo ≤ mx
  | .fin lo nz => let x := BitVec.ofNat 32 (bits v (lo + 31) lo)
      fFin x && !(nz && (fDyS x).man = 0)
  | .own lo => bits v (lo + 2) lo ≠ 6

/-- Whether a written value lies in the object's range (R131); a FLOAT32 that is not finite never does. -/
def Desc.inRange (d : Desc) (v : Nat) : Bool :=
  let x := BitVec.ofNat 32 v
  (d.ty ≠ 10 || fFin x) && (d.ty ≠ 1 || v ≤ 1) &&
  match d.rng with
  | .any => true
  | .u lo hi => lo ≤ v && v ≤ hi
  | .uOr lo hi o => (lo ≤ v && v ≤ hi) || v = o
  | .oneOf l => l.contains v
  | .mult lo hi st => lo ≤ v && v ≤ hi && v % st = 0
  | .s b => (sgn (8 * typeLen d.ty) v).natAbs ≤ b
  | .f lo hi => fLe lo x && fLe x hi
  | .f0 lo hi => (fDyS x).man = 0 || (fLe lo x && fLe x hi)
  | .four => v = 0 || ((List.range 16).filter fun n => v.testBit n).length = 4
  | .bytesTo n mx => (List.range n).all fun j => decide (v / 2 ^ (8 * j) % 256 ≤ mx)
  | .fields _ _ chk => chk.all (fun c => c.ok v)

/-- The stored value after a write: writable fields take the written value, a written 1 clears a W1C flag, every other
bit keeps (R4, R131). -/
def Desc.merge (d : Desc) (old v : Nat) : Nat :=
  match d.rng with
  | .fields rw w1c _ => (v &&& rw) ||| (old &&& ((2 ^ 256 - 1) ^^^ (rw ||| (v &&& w1c))))
  | _ => v

/-- The flags of an object that a written 1 clears. -/
def Desc.flags (d : Desc) : Nat :=
  match d.rng with
  | .fields _ w1c _ => w1c
  | _ => 0

/-- A value as its object can hold it: reserved and RO fields of a map are those of the default (R4). -/
def maskVal (i v : Nat) : Nat :=
  match descOf i with
  | some d => d.merge d.dft v
  | none => v

end Sys2Proof.Machine
end

