-- ==== Sys2Proof/Machine/Operands.lean ====
section
/-!
DEFINITION. The operand forms of the commands: bytes of packets and records (R5), CRC-32C (R95), CRC-8 (R275), packet
headers (Table 5.1), object records (R127) and record headers (Table 4.14).
-/

namespace Sys2Proof.Machine

/-- `n` bytes of a number, least significant first. -/
def toLE : Nat → Nat → List Byte
  | 0, _ => []
  | n + 1, v => BitVec.ofNat 8 v :: toLE n (v / 256)

/-- The number that bytes spell, least significant first. -/
def ofLE : List Byte → Nat
  | [] => 0
  | b :: r => b.toNat + 256 * ofLE r

/-- `n` bytes from offset `off`, as a number; bytes beyond the end read as zero. -/
def le (bs : List Byte) (off n : Nat) : Nat := ofLE ((bs.drop off).take n)

/-- One byte of a payload. -/
def byteAt (bs : List Byte) (off : Nat) : Nat := le bs off 1

/-- Whether `n` bytes from `off` are zero. -/
def zeros (bs : List Byte) (off n : Nat) : Bool := le bs off n = 0

/-- A signed payload value. -/
def leS (bs : List Byte) (off n : Nat) : Int := sgn (8 * n) (le bs off n)

/-- A binary32 payload value. -/
def leF (bs : List Byte) (off : Nat) : F32 := BitVec.ofNat 32 (le bs off 4)

/-- One byte through a reflected CRC-32C. -/
def crc32cBit : Nat → Nat → Nat
  | 0, c => c
  | n + 1, c => crc32cBit n (if c % 2 = 1 then (c / 2) ^^^ 0x82F63B78 else c / 2)

/-- CRC-32C: reflected form, initial value and final exclusive-or of all ones (R95). -/
def crc32c (bs : List Byte) : Nat :=
  (bs.foldl (fun c b => crc32cBit 8 (c ^^^ b.toNat)) 0xFFFFFFFF) ^^^ 0xFFFFFFFF

/-- One bit through the gate link's CRC-8 (R275). -/
def crc8Bits : Nat → Nat → Nat
  | 0, c => c
  | n + 1, c => crc8Bits n (if c / 128 % 2 = 1 then (c * 2 % 256) ^^^ 0x2F else c * 2 % 256)

/-- CRC-8 with polynomial 0x2F, initial value and final exclusive-or 0xFF. -/
def crc8 (bs : List Byte) : Byte :=
  BitVec.ofNat 8 ((bs.foldl (fun c b => crc8Bits 8 (c ^^^ b.toNat)) 0xFF) ^^^ 0xFF)

/-- A packet header as bytes, its CRC field as given (Table 5.1). -/
def hdrBytes (version flags opcode seq session target len status crc : Nat) : List Byte :=
  toLE 1 version ++ toLE 1 flags ++ toLE 2 opcode ++ toLE 2 seq ++ toLE 1 session ++ toLE 1 target ++
    toLE 2 len ++ toLE 2 status ++ toLE 4 crc

/-- The CRC a command packet must carry (R95). -/
def Pkt.crcOf (p : Pkt) : Nat :=
  crc32c (hdrBytes p.version.toNat p.flags.toNat p.opcode.toNat p.seq.toNat p.session.toNat p.target.toNat
    p.len.toNat p.status.toNat 0 ++ p.payload)

/-- The packet with its CRC field set. -/
def Pkt.sealed (p : Pkt) : Pkt := { p with crc := BitVec.ofNat 32 p.crcOf }

/-- The reply packet's CRC (R96). -/
def Reply.crcOf (r : Reply) : Nat :=
  crc32c (hdrBytes 2 r.flags.toNat r.opcode.toNat r.seq.toNat r.session.toNat r.target.toNat
    r.payload.length r.status.toNat 0 ++ r.payload)

/-- Replace one byte of a payload; a payload too short for it is left alone. -/
def setByte (bs : List Byte) (k v : Nat) : List Byte := bs.set k (BitVec.ofNat 8 v)

/-- An object record as bytes (R127). -/
def recBytes (idx ty len status data : Nat) : List Byte :=
  toLE 4 idx ++ toLE 1 ty ++ toLE 1 len ++ toLE 2 status ++ toLE 16 data

/-- A record header (Table 4.14). -/
def recHead (stamp boot seq src tq : Nat) : List Byte :=
  toLE 8 stamp ++ toLE 4 boot ++ toLE 2 seq ++ toLE 1 src ++ toLE 1 tq

/-- A stamped record as bytes. -/
def Rec.bytes (r : Rec) : List Byte := recHead r.stamp r.boot r.seq r.src r.tq ++ r.body

/-- The body of a log record (Table 15.4). -/
def LogRec.body (r : LogRec) : List Byte :=
  toLE 2 r.code ++ toLE 1 r.sev ++ toLE 1 r.unit ++ toLE 4 0 ++ toLE 8 r.data

def LogRec.bytes (r : LogRec) : List Byte := recHead r.stamp r.boot r.seq r.src r.tq ++ r.body

/-- A packet as bytes, as an SPI transaction or a tunnel carries it. -/
def Pkt.bytes (p : Pkt) : List Byte :=
  hdrBytes p.version.toNat p.flags.toNat p.opcode.toNat p.seq.toNat p.session.toNat p.target.toNat
    p.len.toNat p.status.toNat p.crc.toNat ++ p.payload

def Reply.bytes (r : Reply) : List Byte :=
  hdrBytes 2 r.flags.toNat r.opcode.toNat r.seq.toNat r.session.toNat r.target.toNat
    r.payload.length r.status.toNat r.crc.toNat ++ r.payload

/-- The packet that bytes spell, on a link. -/
def pktOf (link : Link) (bs : List Byte) : Pkt :=
  { link := link, version := BitVec.ofNat 8 (byteAt bs 0), flags := BitVec.ofNat 8 (byteAt bs 1),
    opcode := BitVec.ofNat 16 (le bs 2 2), seq := BitVec.ofNat 16 (le bs 4 2), session := BitVec.ofNat 8 (byteAt bs 6),
    target := BitVec.ofNat 8 (byteAt bs 7), len := BitVec.ofNat 16 (le bs 8 2), status := BitVec.ofNat 16 (le bs 10 2),
    crc := BitVec.ofNat 32 (le bs 12 4), payload := (bs.drop 16).take (le bs 8 2) }

/-- Expansion of a STAMP32 against a reference (R62). -/
def expand32 (s ref : Nat) : Nat :=
  (((ref : Int) + sgn 32 ((s + 2 ^ 32 - ref % 2 ^ 32) % 2 ^ 32)) % (2 ^ 64 : Nat)).toNat

/-- The level of a record source (Table 4.15). -/
def srcLevel (s : Nat) : Nat :=
  if s = 0 then 0 else if s ≤ 0x54 then 1 else if s ≤ 0x5A then 2 else if s ≤ 0x5C then 3
  else if s = 0x5D ∨ (0x60 ≤ s ∧ s ≤ 0x67) ∨ (0x70 ≤ s ∧ s ≤ 0x78) ∨ (0xC9 ≤ s ∧ s ≤ 0xCE) then 4
  else if 0x80 ≤ s ∧ s ≤ 0xBF then 5 else if 0xD0 ≤ s ∧ s ≤ 0xE7 then 6 else if 0xE8 ≤ s then 7
  else if 0x68 ≤ s ∧ s ≤ 0x6F then 8 else 9

/-- The total order of records (R93): `a` comes before `b`. -/
def Rec.before (a b : Rec) : Bool :=
  if a.stamp ≠ b.stamp then decide (a.stamp < b.stamp)
  else if srcLevel a.src ≠ srcLevel b.src then decide (srcLevel a.src < srcLevel b.src)
  else if a.src ≠ b.src then decide (a.src < b.src)
  else let d := (b.seq + 65536 - a.seq) % 65536
    decide (1 ≤ d ∧ d ≤ 32767)

end Sys2Proof.Machine
end

