-- ==== Sys2Proof/Machine/Flags.lean ====
section
/-!
DEFINITION. Tables of units and objects, and the flag computations: reading and writing an object, status flags set by
an event and cleared by a written 1 (R2, R131), counters that saturate (R6), field updates of a status word.
-/

namespace Sys2Proof.Machine

/-- The unit of a table at a key; `d` where the key is not listed. -/
def bget {α : Type} (d : α) : Bank α → Nat → α
  | [], _ => d
  | (k', v) :: r, k => if k = k' then v else bget d r k

/-- The unit at a key, where it is listed. -/
def bfind {α : Type} : Bank α → Nat → Option α
  | [], _ => none
  | (k', v) :: r, k => if k = k' then some v else bfind r k

/-- A table without a key. -/
def bdel {α : Type} (b : Bank α) (k : Nat) : Bank α := b.filter (fun e => e.1 ≠ k)

/-- A flag as a number: 1 where it is set. -/
def b2n (b : Bool) : Nat := if b then 1 else 0

/-- A table with one unit replaced; keys stay in rising order. -/
def bset {α : Type} : Bank α → Nat → α → Bank α
  | [], k, v => [(k, v)]
  | (k', v') :: r, k, v =>
    if k < k' then (k, v) :: (k', v') :: r
    else if k = k' then (k, v) :: r
    else (k', v') :: bset r k v

/-- Keys strictly rising: the one form a table has. -/
def bankWf {α : Type} : Bank α → Bool
  | [] => true
  | [_] => true
  | (k, _) :: (k', v') :: r => k < k' && bankWf ((k', v') :: r)

/-- The counter's stamp on this tick. -/
def State.now (s : State) : Stamp := s.time.ctr

/-- The timer clock: the counter less the forward steps of this boot (R65, R69). -/
def State.clk (s : State) : Nat := s.time.ctr - s.tl.steps

/-- The timer clock of the MU, which also runs while the counter stands still (R65, log entry 48). -/
def State.muNow (s : State) : Nat := s.time.mu

/-- Whether a command of this very tick that meets `p` is still to come. Every block registers a tick's arrivals before it
evaluates the tick's deadlines (R66), so a deadline asks this first (log entry 50). -/
def State.awaits (s : State) (p : Instr → Bool) : Bool := (s.pending.takeWhile fun i => i.dt = 0).any p

/-- Commands with the ticks on which they come. -/
def ticked : Nat → List Instr → List (Nat × Instr)
  | _, [] => []
  | n, i :: l => (n + i.dt, i) :: ticked (n + i.dt) l

/-- A control sample of the slice falls on this tick and is still to come. -/
def State.awaitsSample (s : State) (k : Nat) : Bool :=
  s.awaits fun i => match i with
    | .controlSample _ sl => sl.val = k
    | _ => false

/-- Value of an object (its default where nothing is stored). -/
def State.obj (s : State) (i : Nat) : Nat := bget (objDefault i) s.dict.vals i

def State.objF (s : State) (i : Nat) : F32 := BitVec.ofNat 32 (s.obj i)

/-- Store an object's value with the stamp and session of the change (R130). -/
def State.setObjBy (s : State) (sess i v : Nat) : State :=
  { s with dict := { s.dict with
      vals := bset s.dict.vals i v
      info := bset s.dict.info i { stamp := s.now, session := sess } } }

/-- A change by the device itself: session 0xFE. -/
def State.setObj (s : State) (i v : Nat) : State := s.setObjBy 0xFE i v

def State.setObjF (s : State) (i : Nat) (v : F32) : State := s.setObj i v.toNat

/-- Flags of a status word that an event has set on this tick (R2). -/
def State.setNow (s : State) (i : Nat) : Nat :=
  let f := bget (0, 0) s.dict.fresh i
  if f.1 = s.tick then f.2 else 0

/-- Note that an event sets these flags on this tick. -/
def State.noteSet (s : State) (i mask : Nat) : State :=
  { s with dict := { s.dict with fresh := bset s.dict.fresh i (s.tick, s.setNow i ||| mask) } }

/-- An event sets flags of a status word. -/
def State.setFlag (s : State) (i mask : Nat) : State := (s.noteSet i mask).setObj i (s.obj i ||| mask)

/-- Clear bits of a status word. -/
def State.clrFlag (s : State) (i mask : Nat) : State := s.setObj i (s.obj i &&& ((2 ^ 64 - 1) ^^^ mask))

/-- A number with bits `hi` to `lo` replaced. -/
def putBits (v hi lo x : Nat) : Nat :=
  v - bits v hi lo * 2 ^ lo + (x % 2 ^ (hi - lo + 1)) * 2 ^ lo

/-- Replace a field of a status word. -/
def State.setField (s : State) (i hi lo x : Nat) : State := s.setObj i (putBits (s.obj i) hi lo x)

/-- What an object holds after a write: its fields merge (R131), and a flag that an event has set on this tick stays (R2). -/
def State.mergeWrite (s : State) (d : Desc) (i v : Nat) : Nat :=
  d.merge (s.obj i) v ||| (s.obj i &&& s.setNow i &&& d.flags)

/-- One flag set or cleared. -/
def State.putFlag (s : State) (i k : Nat) (on : Bool) : State :=
  (if on then s.noteSet i (2 ^ k) else s).setField i k k (if on then 1 else 0)

/-- A counter object raised by one, saturating (R6). -/
def State.bump (s : State) (i max : Nat) : State := s.setObj i (min max (s.obj i + 1))

/-- A counter field raised by one, saturating (R6). -/
def State.bumpField (s : State) (i hi lo : Nat) : State :=
  s.setField i hi lo (min (2 ^ (hi - lo + 1) - 1) (bits (s.obj i) hi lo + 1))

/-- Index of a slice's object, of a context's object, of a slice's safety object. -/
def slc (k i : Nat) : Nat := i + 0x800 * k
def ctxo (c i : Nat) : Nat := i + 0x100 * c
def safo (k i : Nat) : Nat := i + 0x20 * k

/-! ## Units -/

def State.sl (s : State) (k : Nat) : Slice := bget {} s.slices k
def State.setSl (s : State) (k : Nat) (v : Slice) : State := { s with slices := bset s.slices k v }
def State.modSl (s : State) (k : Nat) (f : Slice → Slice) : State := s.setSl k (f (s.sl k))
def State.ctx (s : State) (c : Nat) : Ctx := bget {} s.eng.ctxs c
def State.setCtx (s : State) (c : Nat) (v : Ctx) : State := { s with eng := { s.eng with ctxs := bset s.eng.ctxs c v } }
def State.modCtx (s : State) (c : Nat) (f : Ctx → Ctx) : State := s.setCtx c (f (s.ctx c))
def State.encU (s : State) (n : Nat) : Enc := bget {} s.enc n
def State.setEnc (s : State) (n : Nat) (v : Enc) : State := { s with enc := bset s.enc n v }
def State.modEnc (s : State) (n : Nat) (f : Enc → Enc) : State := s.setEnc n (f (s.encU n))
def State.sdU (s : State) (n : Nat) : Sd := bget {} s.sd n
def State.setSd (s : State) (n : Nat) (v : Sd) : State := { s with sd := bset s.sd n v }
def State.modSd (s : State) (n : Nat) (f : Sd → Sd) : State := s.setSd n (f (s.sdU n))
def State.auxU (s : State) (u : Nat) : Aux := bget {} s.aux u
def State.setAux (s : State) (u : Nat) (v : Aux) : State := { s with aux := bset s.aux u v }
def State.modAux (s : State) (u : Nat) (f : Aux → Aux) : State := s.setAux u (f (s.auxU u))
def State.glU (s : State) (l : Nat) : Gl := bget {} s.gl l
def State.setGl (s : State) (l : Nat) (v : Gl) : State := { s with gl := bset s.gl l v }
def State.modGl (s : State) (l : Nat) (f : Gl → Gl) : State := s.setGl l (f (s.glU l))
def State.canU (s : State) (c : Nat) : Can := bget {} s.can c
def State.setCan (s : State) (c : Nat) (v : Can) : State := { s with can := bset s.can c v }
def State.modCan (s : State) (c : Nat) (f : Can → Can) : State := s.setCan c (f (s.canU c))
def State.ethU (s : State) (p : Nat) : Eth := bget {} s.eth p
def State.setEth (s : State) (p : Nat) (v : Eth) : State := { s with eth := bset s.eth p v }
def State.modEth (s : State) (p : Nat) (f : Eth → Eth) : State := s.setEth p (f (s.ethU p))
def State.tioU (s : State) (n : Nat) : Tio := bget {} s.tio n
def State.setTio (s : State) (n : Nat) (v : Tio) : State := { s with tio := bset s.tio n v }
def State.rs (s : State) (k : Nat) : RefSlice := bget {} s.ref.sl k
def State.setRs (s : State) (k : Nat) (v : RefSlice) : State := { s with ref := { s.ref with sl := bset s.ref.sl k v } }
def State.modRs (s : State) (k : Nat) (f : RefSlice → RefSlice) : State := s.setRs k (f (s.rs k))
def State.pair (s : State) (n : Nat) : Pair := bget {} s.host.pairs n
def State.setPair (s : State) (n : Nat) (v : Pair) : State := { s with host := { s.host with pairs := bset s.host.pairs n v } }
def State.modPair (s : State) (n : Nat) (f : Pair → Pair) : State := s.setPair n (f (s.pair n))
def State.sess (s : State) (n : Nat) : Option Session := bget none s.host.sessions n
def State.setSess (s : State) (n : Nat) (v : Option Session) : State :=
  { s with host := { s.host with sessions := bset s.host.sessions n v } }

/-- A unit's fence bit in DIA_FENCE (R425). -/
def State.fenced (s : State) (k : Nat) : Bool := bit s.dia.fence k

/-- Slice states as Table 10.1 codes them. -/
def SliceState.code : SliceState → Nat
  | .disabled => 0 | .armed => 1 | .catching => 2 | .engaging => 3 | .running => 4
  | .stopping => 5 | .heldBlock => 6 | .heldShort => 7 | .discharging => 8

/-- A slice is enabled from DRV_ENABLE until it is back in DISABLED. -/
def State.enabled (s : State) (k : Nat) : Bool := (s.sl k).st ≠ .disabled

def State.anyEnabled (s : State) : Bool := (List.range 6).any s.enabled

/-- A free value the spec leaves open, numbered afresh by `free`. -/
def State.drawNat (s : State) : Nat × State := (Config.freeNat s.free, { s with free := s.free + 1 })
def State.drawF32 (s : State) : F32 × State := (Config.freeF32 s.free, { s with free := s.free + 1 })

/-- Whether the main domains run and the device has reached READY (R44). -/
def State.isReady (s : State) : Bool := s.mu.phase = .ready

end Sys2Proof.Machine
end

