-- ==== Sys2Proof/Machine/Ops.lean ====
section
/-!
DEFINITION. The named operations that every family shares: the time counter and the time-quality byte, records and
the event log, device events and interrupts, replies and completions, the reset of the main domains, and the frame
around a command (`State.run`). There is no exception entry in this block.
-/

namespace Sys2Proof.Machine

/-! ## The counter (R63, R67) -/

/-- `n` ticks of PLL1: the pair of counter and fraction grows by `n` times INCREMENT as one 96-bit sum (R63). The MU's
timers take the same units, and 10 a tick while the counter stands (R65, log entry 48). -/
def Time.run (t : Time) (n : Nat) : Time :=
  if t.running then
    let sum := t.ctr * 2 ^ 32 + t.frac + n * t.inc
    { t with ctr := sum / 2 ^ 32 % 2 ^ 64, frac := sum % 2 ^ 32, mu := t.mu + (sum / 2 ^ 32 - t.ctr) }
  else { t with mu := t.mu + 10 * n }

/-- What this tick's time-quality byte is formed from (Table 4.5). -/
def State.quality (s : State) : Quality :=
  { status := s.tl.status, slew := s.tl.slew, stepped := s.tl.stepped, err := s.tl.err
    entry := match s.tl.holdEntry with
      | some e => s.now - (s.clk - e)
      | none => 0 }

/-- Note the time quality that a tick leaves, where it differs from the one noted last (R73), and where the counter stands
on it, where the latest mark does not tell (R177). -/
def Time.note (t : Time) (tick : Nat) (q : Quality) : Time :=
  let sum := t.ctr * 2 ^ 32 + t.frac
  let known := match t.marks.head? with
    | some m => m.2.2 = t.inc && m.2.1 + (tick - m.1) * m.2.2 = sum
    | none => false
  { t with
    past := if (t.past.head?.map (·.2)) = some q then t.past else ((t.ctr, q) :: t.past).take 32
    marks := if known then t.marks else ((tick, sum, t.inc) :: t.marks).take 32 }

/-- The pair as it stood on a tick that has passed (R177). -/
def Time.pairAt (t : Time) (tick n : Nat) : Nat :=
  let m := tick - n
  match t.marks.find? (fun e => e.1 ≤ m) with
  | some e => e.2.1 + (m - e.1) * e.2.2
  | none => t.ctr * 2 ^ 32 + t.frac - n * t.inc

/-- Stamp of the tick `n` ticks ago. -/
def State.stampAgo (s : State) (n : Nat) : Stamp :=
  (if n = 0 then s.time.ctr * 2 ^ 32 + s.time.frac else s.time.pairAt s.tick n) / 2 ^ 32

/-- Stamp of a tick, past or to come, at the increment in force. -/
def State.stampAt (s : State) (n : Nat) : Stamp :=
  if n ≤ s.tick then s.stampAgo (s.tick - n) else (s.time.ctr * 2 ^ 32 + s.time.frac + (n - s.tick) * s.time.inc) / 2 ^ 32

/-- `dt` ticks of real time pass. -/
def State.elapse (s : State) (dt : Nat) : State :=
  { s with time := (if dt = 0 then s.time else s.time.note s.tick s.quality).run dt, tick := s.tick + dt }

/-- A command that does not steer the counter: time passes, then its effect `f`; INCREMENT, the counter and the queue
of waiting commands are not `f`'s to change (R63). -/
def State.run (s : State) (dt : Nat) (f : State → State) : State :=
  { f (s.elapse dt) with time := (s.elapse dt).time, pending := s.pending }

/-- INCREMENT limits (R64): the narrow band while a slice is enabled, else the wide one. -/
def bandLo (narrow : Bool) : Nat := if narrow then 42906723288 else 0x900000000
def bandHi (narrow : Bool) : Nat := if narrow then 42992622632 else 0xB00000000

def clampNat (v lo hi : Nat) : Nat := max lo (min v hi)

/-- Write INCREMENT; a value outside the wide band never reaches the register (R64). -/
def State.setInc (s : State) (v : Nat) : State :=
  { s with time := { s.time with inc := clampNat v (bandLo false) (bandHi false), incBy := 0xFE } }

/-- What the registers hold of a value written to them: 64 bits of counter, 32 of fraction (R61, R63), an INCREMENT in the
wide band (R64). -/
def Time.held (t : Time) : Time :=
  { t with ctr := t.ctr % 2 ^ 64, frac := t.frac % 2 ^ 32, inc := clampNat t.inc (bandLo false) (bandHi false) }

/-- A command that may steer, seed or stop the counter; the queue is not its to change. -/
def State.runT (s : State) (dt : Nat) (f : State → State) : State :=
  { f (s.elapse dt) with time := (f (s.elapse dt)).time.held, pending := s.pending }

/-! ## Time quality (Table 4.5) -/

def TqStatus.code : TqStatus → Nat
  | .unsynced => 0 | .locking => 1 | .synced => 2 | .holdover => 3

/-- The smallest `n` up to 14 with `num / den ≤ 2 ^ n` ns, else 15. -/
def errCode (num den : Nat) : Nat → Nat
  | 0 => 15
  | k + 1 => if num ≤ 4 * 2 ^ (14 - k) * den then 14 - k else errCode num den k

/-- TQ_ERR of a quality, `dt` stamp units after the entry to HOLDOVER, at a drift in ppb (R73). -/
def Quality.errOf (q : Quality) (dt drift : Nat) : Nat :=
  match q.status, q.err with
  | .unsynced, _ => 15
  | _, none => 15
  | .holdover, some e => errCode (e * 1000000000 + dt * drift) 1000000000 15
  | _, some e => errCode e 1 15

/-- The time-quality byte of a quality (Table 4.5). -/
def Quality.byte (q : Quality) (dt drift : Nat) : Nat :=
  q.status.code * 64 + (if q.slew && q.status = .locking then 32 else 0) + (if q.stepped then 16 else 0) + q.errOf dt drift

/-- The time-quality byte as it stands. -/
def State.tq (s : State) : Nat := s.quality.byte (s.now - s.quality.entry) (s.obj Obj.TIM_HOLDOVER_DRIFT)

/-- The time-quality byte as it stood on the tick of a stamp (R73). A stamp still to come takes this tick's byte (log
entry 51). -/
def State.tqAt (s : State) (t : Stamp) : Nat :=
  if s.now ≤ t then s.tq
  else match s.time.past.find? (fun e => e.1 ≤ t) with
    | some e => e.2.byte (t - e.2.entry) (s.obj Obj.TIM_HOLDOVER_DRIFT)
    | none => s.tq

/-! ## Records (R91 to R93) -/

/-- Sequence a source's next record takes; it wraps at `2 ^ 16` (Table 4.14). -/
def State.seqOf (s : State) (src : Nat) : Nat := bget 0 s.seqs src
def State.bumpSeq (s : State) (src : Nat) : State := { s with seqs := bset s.seqs src ((s.seqOf src + 1) % 65536) }

/-- Insert a record in the total order of R93. -/
def insertRec (r : Rec) : List Rec → List Rec
  | [] => [r]
  | a :: l => if r.before a then r :: a :: l else a :: insertRec r l

/-- A record reaches the trace: it waits for its tick when capture runs and its source is selected; a record beyond
the one captured on this tick and the 64 that may wait is dropped and counted (R427). DIA_TRACE's four bytes and DIA_TRACE_STAT's
field show one count of drops, which saturates at the field's 65,535: the model's choice (log entry 44). -/
def State.trace (s : State) (r : Rec) : State :=
  if s.dia.traceOn && bit s.dia.traceMask r.src then
    if s.dia.traceWait.length < 65 then
      { s with dia := { s.dia with traceWait := insertRec r s.dia.traceWait } }
    else { s with dia := { s.dia with traceDrops := min 65535 (s.dia.traceDrops + 1) } }
  else s

/-- The record a source would post now, with the given header stamp. -/
def State.mkRec (s : State) (src : Nat) (stamp : Stamp) (body : List Byte) : Rec :=
  { stamp := stamp, boot := s.mu.boot, seq := s.seqOf src, src := src, tq := s.tqAt stamp, body := body }

/-- Post a stamped record that does not enter the event log. -/
def State.record (s : State) (src : Nat) (stamp : Stamp) (body : List Byte) : State :=
  (s.trace (s.mkRec src stamp body)).bumpSeq src

/-! ## The event log (R388 to R390) -/

/-- Severity of a log code (Table 15.5). -/
def logSev (c : Nat) : Nat :=
  if [0x0108, 0x010A, 0x010C, 0x0600, 0x0602, 0x0603, 0x0903].contains c then 4
  else if [0x0102, 0x0103, 0x0105, 0x010B, 0x010D, 0x0300, 0x0301, 0x0302, 0x0313, 0x0314, 0x0401, 0x0402, 0x0500,
      0x0502, 0x0514, 0x0515, 0x0520, 0x0601, 0x0703, 0x0704, 0x0801, 0x0802, 0x0901, 0x0905, 0x0911].contains c then 3
  else if [0x0104, 0x0106, 0x0107, 0x0109, 0x0202, 0x0310, 0x0311, 0x0400, 0x0511, 0x0700, 0x0702, 0x0900, 0x0921,
      0x0930].contains c then 2
  else 1

/-- Append to the retained log: 8,192 records, the oldest overwritten; one that had not reached the NOR is counted in
NOR_LAG (R390). -/
def State.logAppend (s : State) (r : LogRec) : State :=
  let r := { r with num := s.log.next }
  let lost := match s.log.ring[8191]? with
    | some o => decide (s.log.norDone ≤ o.num ∧ s.obj Obj.MGT_LOG_NOR_SEV ≤ o.sev)
    | none => false
  let s := if lost = true then s.bumpField Obj.MGT_LOG_STAT 15 0 else s
  { s with log := { s.log with next := (s.log.next + 1) % 2 ^ 32, ring := (r :: s.log.ring).take 8192 } }

/-- Post a log record with a given header stamp. While the MU restarts, the CP holds up to 1,024 records (R390). -/
def State.postAt (s : State) (src : Nat) (stamp : Stamp) (code unit data : Nat) : State :=
  let r : LogRec :=
    { num := 0, stamp := stamp, boot := s.mu.boot, seq := s.seqOf src, src := src, tq := s.tqAt stamp,
      code := code, sev := logSev code, unit := unit, data := data }
  let s := (s.trace { stamp := stamp, boot := r.boot, seq := r.seq, src := src, tq := r.tq, body := r.body }).bumpSeq src
  if s.mu.restarting then
    if s.log.cpBuf.length < 1024 then { s with log := { s.log with cpBuf := r :: s.log.cpBuf } }
    else { (s.bumpField Obj.MGT_LOG_STAT 31 16) with log := { s.log with cpDrops := s.log.cpDrops + 1 } }
  else s.logAppend r

def State.post (s : State) (src code unit data : Nat) : State := s.postAt src s.now code unit data

/-- Log what has no code (R389, log entry 13). The model keeps the 64 newest. -/
def State.jot (s : State) (step block : Nat) : State :=
  { s with log := { s.log with uncoded := ({ stamp := s.now, step := step, block := block } :: s.log.uncoded).take 64 } }

/-- Sources of log records (R388). -/
def srcMu : Nat := 0x70
def srcCp : Nat := 0x71
def srcRef : Nat := 0x72
def srcSl (k : Nat) : Nat := 0x73 + k

/-- The source of a unit with an owner code: its slice, or the CP (R388). -/
def srcOwner (o : Nat) : Nat := if o < 6 then srcSl o else srcCp

/-! ## Device events and interrupts (R111, Table 5.8) -/

/-- Send an MSI-X vector; a masked one sets its pending bit. -/
def State.msix (s : State) (v : Nat) : State :=
  if (bget 0#32 s.host.msixTab (4 * v + 3)).getLsbD 0 then
    { s with host := { s.host with msixPend := s.host.msixPend ||| 2 ^ v } }
  else { s with host := { s.host with msixSent := bset s.host.msixSent v (bget 0 s.host.msixSent v + 1) } }

/-- The bits of DEV_EVENT set on this tick (R2). -/
def State.evNow (s : State) : Nat := if s.host.evSet.1 = s.tick then s.host.evSet.2 else 0

/-- Set a bit of DEV_EVENT, which sends vector 0. -/
def State.devEvent (s : State) (k : Nat) : State :=
  ({ s with host := { s.host with devEvent := s.host.devEvent ||| 2 ^ k, evSet := (s.tick, s.evNow ||| 2 ^ k) } }).msix 0

/-- DEV_STATUS.STATE of a phase (Table 5.7). -/
def Phase.code : Phase → Nat
  | .ready => 1 | .recovery => 2 | .thermalHold => 3 | .clockHold => 4
  | .unpowered => 0 | .held => 0 | .starting _ => 0

/-- Enter a phase; a change of STATE is a device event. -/
def State.setPhase (s : State) (p : Phase) : State :=
  let s' := { s with mu := { s.mu with phase := p } }
  if p.code = s.mu.phase.code then s' else s'.devEvent 0

/-! ## Status codes (Tables 5.3, 15.15, 16.2) -/

abbrev stOk : Nat := 0x0000
abbrev stAccepted : Nat := 0x0001
abbrev stBadCrc : Nat := 0x0101
abbrev stBadOpcode : Nat := 0x0102
abbrev stBadLength : Nat := 0x0103
abbrev stBadTarget : Nat := 0x0104
abbrev stBadVersion : Nat := 0x0105
abbrev stSeqConflict : Nat := 0x0106
abbrev stNoSession : Nat := 0x0201
abbrev stNoSessionSlot : Nat := 0x0202
abbrev stDenied : Nat := 0x0203
abbrev stAuth : Nat := 0x0204
abbrev stBusy : Nat := 0x0301
abbrev stState : Nat := 0x0302
abbrev stRange : Nat := 0x0303
abbrev stNoContext : Nat := 0x0304
abbrev stEngineBudget : Nat := 0x0305
abbrev stThrottled : Nat := 0x0306
abbrev stSafetyLocked : Nat := 0x0401
abbrev stTooLate : Nat := 0x0501
abbrev stIngotSig : Nat := 0x0701
abbrev stIngotHash : Nat := 0x0702
abbrev stRollback : Nat := 0x0703
abbrev stIncompatible : Nat := 0x0704
abbrev stBind : Nat := 0x0705
abbrev stNoSpare : Nat := 0x0801
abbrev stInternal : Nat := 0x0F01

/-! ## Replies (R96, R97, R106, R110) -/

/-- The pairs bound to SPI, in number order (R104). -/
def State.spiPairs (s : State) : List Nat := (List.range 16).filter (fun n => bit s.host.spiMask n)

def State.isSpi (s : State) (n : Nat) : Bool := bit s.host.spiMask n

/-- The queue pair a link names. -/
def State.pairOf (s : State) : Link → Option Nat
  | .pcie n => some n
  | .spi k => s.spiPairs[k]?
  | _ => none

/-- Entries of a pair's queues: `2 ^ DEPTH` over PCIe, 8 over SPI (R105). -/
def State.pairCap (s : State) (n : Nat) : Nat := if s.isSpi n then 8 else 2 ^ (s.pair n).depth

/-- A 64-byte completion entry (Table 5.5): the reply header, payload bytes 0 to 43 with zero fill, the SQ entry answered, the
SQ number, and the flags PHASE, REEXEC and LONG. -/
def Reply.cqEntry (r : Reply) (n : Nat) (phase long : Bool) : List Byte :=
  (r.bytes ++ List.replicate 60 0#8).take 60 ++ toLE 2 r.entry ++ toLE 1 n ++ toLE 1 (b2n phase + 2 * b2n r.reexec + 4 * b2n long)

/-- What a completion of a PCIe pair writes to host memory (R106), as address and bytes: the entry at its place of the CQ and,
before it, a long reply whole at the reply-area slot of the SQ entry answered. -/
def Pair.hostWrites (q : Pair) (n place : Nat) (r : Reply) (phase long : Bool) : List (Nat × List Byte) :=
  (if long then [(q.rbuf + 4096 * r.entry, r.bytes)] else []) ++ [(q.cqBase + 64 * place, r.cqEntry n phase long)]

/-- Post one completion to a pair's CQ (R106, R111): the entry takes PHASE, a long payload goes to the reply area, and
the pair's vector is sent. The caller has made sure there is room. -/
def State.postCq (s : State) (n : Nat) (r : Reply) : State :=
  let q := s.pair n
  let wraps := q.cqTail + 1 = s.pairCap n
  let long := !s.isSpi n && decide (r.payload.length > 44)
  let s := s.setPair n { q with
    posted := q.posted ++ [(r, q.phase, long)]
    wrote := if s.isSpi n then q.wrote else q.hostWrites n q.cqTail r q.phase long
    cqTail := if wraps then 0 else q.cqTail + 1
    phase := if wraps then !q.phase else q.phase }
  if s.isSpi n then s else s.msix q.vector

/-- A pair that owns nothing any more. -/
def Pair.emptied (q : Pair) : Pair :=
  { q with owned := 0, started := [], held := [], redo := [], reexec := [], waiting := [], sq := [] }

/-- The pair's owned entries are discarded without being executed (R112); a command already started gets no completion. -/
def State.discardOwned (s : State) (n : Nat) : State :=
  let dead := fun (d : Deferred) =>
    let mine := fun (l : Link) => s.pairOf l = some n
    { d with entry := if mine d.pkt.link then 0xFFFE else d.entry, repeats := d.repeats.filter fun e => !mine e.1.link }
  { s.setPair n (s.pair n).emptied with
    host := { (s.setPair n (s.pair n).emptied).host with deferred := s.host.deferred.map dead } }

/-- A completion that is posted gives its SQ entry back to the host; a notification answers none (R107). -/
def Pair.release (q : Pair) (r : Reply) : Pair :=
  if r.entry ≠ 0xFFFF then { q with owned := q.owned - 1, started := q.started.erase r.entry, held := bdel q.held r.entry } else q

/-- The CP restarts or is halted: it posts no completion (R17). -/
def State.cpStands (s : State) : Bool := s.cp.restarting || s.cp.halted

/-- A completion for a pair: its SQ entry is the host's again once it is posted; with the CQ full, or the CP
stopped, it waits (R110, R17). One for an entry that the pair no longer owns is dropped. -/
def State.toPair (s : State) (n : Nat) (r : Reply) : State :=
  let q := s.pair n
  let own := r.entry ≠ 0xFFFF
  if (!q.en && !s.isSpi n) || (own && !q.started.contains r.entry) then s
  else if q.posted.length < s.pairCap n && q.waiting.isEmpty && !s.cpStands then
    (s.setPair n (q.release r)).postCq n r
  else s.setPair n { q with waiting := q.waiting ++ [r] }

/-- CAN tunnel segments of a packet: index byte and 63 packet bytes a frame (R120). -/
def tunnelSegs : Nat → Nat → List Byte → List (List Byte)
  | 0, _, _ => []
  | fuel + 1, idx, bs =>
    let last := bs.length ≤ 63
    let head := (if idx = 0 then 0x80 else 0) + (if last then 0x40 else 0) + idx % 64
    let body := bs.take 63
    (BitVec.ofNat 8 head :: (body ++ List.replicate (63 - body.length) 0#8)) ::
      (if last then [] else tunnelSegs fuel (idx + 1) (bs.drop 63))

/-- Put a frame into a controller's transmit queue (R362). -/
def State.canPut (s : State) (c q : Nat) (t : CanTx) : State :=
  s.modCan c fun u =>
    let i := bget 0 u.txIdx q
    let depth := 2 ^ byteAt u.cfg (24 + q)
    { u with
      tx := bset u.tx q (bget [] u.tx q ++ [{ t with index := i }])
      txIdx := bset u.txIdx q ((i + 1) % depth) }

/-- A reply over a CAN tunnel: FD frames of 64 bytes on the reply identifier through queue 3 (R367). -/
def State.canReply (s : State) (c : Nat) (r : Reply) : State :=
  let w := le (s.canU c).cfg 28 4
  (tunnelSegs 67 0 r.bytes).foldl (fun s seg => s.canPut c 3 { frame :=
    { id := bits w 28 0 + 1, ide := bit w 30, fdf := true, brs := bit (byteAt (s.canU c).cfg 1) 1, dlc := 15, data := seg } }) s

/-- Opcodes that a clear datagram may carry (R118). -/
def clearOp (c : Nat) : Bool := [0x0000, 0x0001, 0x0003, 0x7010].contains c

/-- The session whose keys a reply is sent under: one that its own command has just ended still answers that (R118). -/
def State.sessOut (s : State) (n : Nat) : Option Session :=
  (s.sess n).or ((s.host.closing.filter fun e => e.1 = n).map (·.2))

/-- A command datagram of the device (Table 5.15): in clear for session 0xFF, with counter 0; else with the session's next
counter, encrypted and tagged under its key for this direction, with 0x80 added to the session byte of the nonce. What the
cipher yields is a free value. -/
def State.datagram (s : State) (session : Nat) (packet : List Byte) : List Byte :=
  let x := s.sessOut session
  let head := fun (counter : Nat) => toLE 1 1 ++ toLE 1 session ++ toLE 2 0 ++ toLE 8 counter
  match x with
  | some x =>
    let input := x.keyOut ++ toLE 1 (session + 0x80) ++ toLE 3 0 ++ toLE 8 x.tx ++ head x.tx ++ packet
    head x.tx ++ (List.range (packet.length + 16)).map (Config.cryptoByte 7 input)
  | none => toLE 1 1 ++ toLE 1 0xFF ++ toLE 10 0 ++ packet

/-- A reply over the Ethernet command port: into the queue of its priority code point (R371), with the session's next
counter (R119). A reply of a session that has ended has no key; unless a clear datagram may carry its opcode, it is not sent (log entry 52). -/
def State.ethReply (s : State) (p : Nat) (r : Reply) : State :=
  if (s.sessOut r.session.toNat).isNone && !clearOp r.opcode.toNat then s else
  let q := bits (le (s.ethU p).cfg 10 2) 15 13
  let data := s.datagram r.session.toNat r.bytes
  let s := s.modEth p fun u => { u with txq := u.txq ++ [{ queue := q, tag := 0, slot := none, kind := 1, payload := data }] }
  match s.sess r.session.toNat with
  | some x => if r.session.toNat < 64 then s.setSess r.session.toNat (some { x with tx := x.tx + 1 }) else s
  | none => { s with host := { s.host with closing := none } }

/-! ## Ring frames (R340, R341) -/

/-- The 12-byte header of a frame sent by node `src` on a port, hops 0 (Table 13.9). -/
def RingFrame.header (f : RingFrame) (src port : Nat) : List Byte :=
  toLE 1 f.type ++ toLE 1 ((if f.dst = 0 then 4 else 0) + 2 * port) ++ toLE 2 src ++ toLE 2 f.dst ++ toLE 2 f.seq
    ++ toLE 2 f.payload.length ++ toLE 2 0

/-- What lies between K27.7 and K29.7: header, payload, CRC-32C (R340). -/
def RingFrame.bytes (f : RingFrame) (src port : Nat) : List Byte :=
  let b := f.header src port ++ f.payload
  b ++ toLE 4 (crc32c b)

/-- A frame this device originates leaves on both ring ports (R341): its records, while the by-pass is open. -/
def State.ringTx (s : State) (type dst : Nat) (payload : List Byte) : State :=
  if s.mu.bypass then s
  else
    let f : RingFrame := { type := type, dst := dst, seq := s.ring.seq, payload := payload }
    let s : State := { s with ring := { s.ring with seq := (s.ring.seq + 1) % 65536, sent := some f } }
    (s.record 0x6E s.now []).record 0x6F s.now []

/-- The reply to an OBJX request goes to its source node (R345). -/
def State.objxReply (s : State) (node : Nat) (r : Reply) : State :=
  ({ s with host := { s.host with out := s.host.out ++ [r] }, ring := { s.ring with objx := s.ring.objx - 1 } } : State).ringTx
    8 node r.bytes

/-- Hand a reply to its link. -/
def State.deliver (s : State) (r : Reply) : State :=
  match r.link with
  | .pcie n => s.toPair n r
  | .spi k => match s.spiPairs[k]? with
    | some n => s.toPair n r
    | none => s
  | .eth p => s.ethReply p r
  | .can c => s.canReply c r
  | .mailbox => ({ s with host := { s.host with mbxReply := some r, mbxBusy := false } }).devEvent 4
  | .ring n => s.objxReply n r

/-- The record source of accepted commands and the source of completed ones, by link (Table 4.15). -/
def srcAccept : Link → Nat
  | .pcie _ => 0x60 | .spi _ => 0x61 | .eth p => 0x62 + p % 2 | .can c => 0x64 + c % 4 | .mailbox => 0x5D | .ring _ => 0x60
def srcComplete : Link → Nat
  | .pcie _ => 0xC0 | .spi _ => 0xC1 | .eth p => 0xC2 + p % 2 | .can c => 0xC4 + c % 4 | .mailbox => 0xC8 | .ring _ => 0xC0

/-- Table 4.15 has no source for commands on the ring. -/
def Link.hasSrc : Link → Bool
  | .ring _ => false
  | _ => true

/-- The reply to a packet (R96): RESPONSE, ERROR unless ST_OK or ST_ACCEPTED, SAFETY_AUTH echoed, the two stamps first. -/
def mkReply (p : Pkt) (entry : Nat) (reexec : Bool) (accepted completed : Stamp) (status : Nat) (extra : List Byte) : Reply :=
  let r : Reply :=
    { link := p.link,
      flags := 1#8 ||| (if status ≤ 1 then 0#8 else 2#8) ||| (p.flags &&& 8#8),
      opcode := p.opcode, seq := p.seq, session := p.session, target := p.target, status := BitVec.ofNat 16 status, crc := 0#32,
      payload := toLE 8 accepted ++ toLE 8 completed ++ extra, entry := entry, reexec := reexec }
  { r with crc := BitVec.ofNat 32 r.crcOf }

/-- The session a packet's header names, where it is open on the packet's link (R123). Two PCIe pairs, and two SPI
pairs, are one link (Table 5.17). -/
def sameLink : Link → Link → Bool
  | .pcie _, .pcie _ => true
  | .spi _, .spi _ => true
  | .eth a, .eth b => a = b
  | .can a, .can b => a = b
  | _, _ => false

def State.sessOf (s : State) (p : Pkt) : Option Session :=
  if p.session.toNat < 64 then
    match s.sess p.session.toNat with
    | some x => if sameLink x.link p.link then some x else none
    | none => none
  else none

/-- A command that has passed step 5 takes its place among its session's 256 most recent ones (R99). -/
def State.remember (s : State) (p : Pkt) : State :=
  match s.sessOf p with
  | some x => s.setSess p.session.toNat (some { x with stored := ({ seq := p.seq.toNat, crc := p.crc.toNat } :: x.stored).take 256 })
  | none => s

/-- A reply fills the place of its command, the first without one. -/
def fillReply (seq crc : Nat) (r : Reply) : List Stored → List Stored
  | [] => []
  | e :: l => if e.seq = seq ∧ e.crc = crc ∧ e.reply = none then { e with reply := some r } :: l else e :: fillReply seq crc r l

/-- Keep a reply in its session's window (R99). A command of a session that has ended has no place there (R123). -/
def State.store (s : State) (p : Pkt) (r : Reply) : State :=
  match s.sessOf p with
  | some x => s.setSess p.session.toNat (some { x with stored := fillReply p.seq.toNat p.crc.toNat r x.stored })
  | none => s

/-- Reply without storing it (the rejections of R99 that are never stored). -/
def State.answer (s : State) (p : Pkt) (entry : Nat) (status : Nat) : State :=
  s.deliver (mkReply p entry false s.now s.now status [])

/-- The completed stamp of a reply. A mirrored command whose apply fails a check of Table 5.2 has its accepted stamp twice
(R96); ST_INTERNAL is no such check. -/
def State.doneAt (s : State) (d : Deferred) (status : Nat) (extra : List Byte) : Stamp :=
  if s.host.mirrored = some d.accepted && decide (1 < status ∧ status ≠ stInternal) && extra.isEmpty then d.accepted else s.now

/-- A command of an ended session has no place in a later one of the same number (R123). -/
def State.storeLive (s : State) (d : Deferred) (r : Reply) : State := if d.live then s.store d.pkt r else s

/-- Complete a command now: the reply is stored, posted, recorded, and given to every repeat that waits for it
(R96, R99, R100). -/
def State.completeNow (s : State) (d : Deferred) (status : Nat) (extra : List Byte) : State :=
  let re := match s.pairOf d.pkt.link with
    | some n => (s.pair n).reexec.contains d.entry
    | none => false
  let r := mkReply d.pkt d.entry re d.accepted (s.doneAt d status extra) status extra
  let s := if re then match s.pairOf d.pkt.link with
    | some n => s.modPair n fun q => { q with reexec := q.reexec.erase d.entry }
    | none => s else s
  let s := s.storeLive d r
  let s := if d.pkt.link.hasSrc then s.record (srcComplete d.pkt.link) s.now [] else s
  let s := s.deliver r
  let s := d.repeats.foldl (fun s (q : Pkt × Nat) => s.deliver { r with link := q.1.link, entry := q.2 }) s
  { s with host := { s.host with deferred := s.host.deferred.filter (fun e => !(e.pkt = d.pkt && e.accepted = d.accepted)) } }

/-- Complete a command: while the CP restarts or is halted, its reply waits, to be formed when the CP runs (R17, R320). -/
def State.complete (s : State) (d : Deferred) (status : Nat) (extra : List Byte) : State :=
  if s.cpStands then { s with host := { s.host with unfinished := s.host.unfinished ++ [(d, status, extra)] } }
  else s.completeNow d status extra

/-! ## Reset of the main domains (R47, R49) -/

/-- A cause as MGT_RESET_CAUSE codes it, in the order of R50. -/
def resetCode : ResetCause → Nat
  | .coldStart => 0 | .supplyFault => 1 | .clockFault => 2 | .powerCycle => 3
  | .resetN => 4 | .cpEscalation => 5 | .muDecision => 6 | .sysReset => 7

/-- The higher-ranked of two causes (R50). The rule ranks causes of one MU cycle; that a cause of an earlier cycle, not
yet followed by a start, is ranked with a later one in the same way is the model's choice (log entry 12). -/
def higherCause (a : Option ResetCause) (b : ResetCause) : Option ResetCause :=
  match a with
  | some x => if resetCode x ≤ resetCode b then some x else some b
  | none => some b

/-- Remaining degraded time, which the MU keeps through a device reset (R309). -/
def keptDegraded (clk : Nat) (r : RefSlice) : Option Nat :=
  match r.degDeadline with
  | some d => some (d - clk)
  | none => r.degLeft

/-- The main domains go into reset (R49): slices, engine, sensing, links, sessions, queues and VOLATILE objects are
gone, the counter stops with its last stamp latched, the by-pass closes (R31) and the hold lines are released. The MU,
the log, the NOR and what R49 keeps stay. -/
def State.mainReset (s : State) : State :=
  { s with
    time := { s.time with running := false, frac := 0, inc := 0xA00000000, past := [], marks := [] }
    tl := { lastLatch := if s.time.running then s.now else s.tl.lastLatch,
            latchAt := if s.time.running then s.muNow else s.tl.latchAt }
    mu := { s.mu with
            bypass := true, resetDue := none, activate := none, transfer := none
            cfgApplied := false, bound := none, cfgLoaded := none
            banks := match s.mu.transfer with
              | some t => if t.target < 2 then s.mu.banks.set t.target {} else s.mu.banks
              | none => s.mu.banks }
    hk := { s.hk with graceDeadline := none, stopAt := none, holdDue := none, enfOwn := false, insuff := false
                      tmax := 0xC2800000#32, hotSensor := 0, leave := 0 }
    host := { nonces := s.host.nonces }
    dict := { nor := s.dict.nor, safe := s.dict.safe }
    mclk := { inRun := s.mclk.inRun, edge0 := s.mclk.edge0 }, sd := [], aux := [], enc := s.enc.map (fun e => (e.1, e.2.pins)), eng := {}, slices := [], gl := []
    ref :=
      { changeLog := s.ref.changeLog, norChanges := s.ref.norChanges, changeNext := s.ref.changeNext, pw := s.ref.pw, stoA := s.ref.stoA, stoB := s.ref.stoB
        sl := s.ref.sl.map (fun e => (e.1, { degLeft := keptDegraded s.clk e.2 })) }
    cp := {}, flk := {}, ring := {}, can := [], canPub := [], eth := [], tio := []
    dia := { repairs := s.dia.repairs, spares := s.dia.spares } }

/-- Whether a device reset leaves the device in THERMAL_HOLD (R387), which CLOCK_HOLD may have interrupted. -/
def State.holdStays (s : State) (c : ResetCause) : Bool :=
  (decide (s.mu.phase = .thermalHold) || s.hk.holdKept) && decide (c ≠ .powerCycle ∧ c ≠ .coldStart ∧ s.hk.leave < 5000)

/-- R10 forbids a reset by command while an ASC state is latched on any slice. -/
def State.resetLocked (s : State) : Bool :=
  (List.range 6).any fun k => match (s.rs k).forced with
    | some (.ascFrame, _) => true
    | some (.ascHold, _) => true
    | _ => false

/-- The pattern of each life-cycle word (R54). -/
def lcPattern (k : Nat) : Nat := [0xA5C3, 0x5A3C, 0xC35A, 0x3CA5].getD k 0

/-- A reset or a supply loss on the tick on which a life-cycle word is programmed leaves the old word, or a partial one: some
bits of the pattern, never all of it (R55, log entry 49). -/
def State.lcAbort (s : State) : State :=
  match s.mu.lcWrite with
  | some (t, k, old) =>
    if t = s.tick then
      let r := s.drawNat
      let w := (old ||| r.1) &&& lcPattern k
      { r.2 with mu := { r.2.mu with lcWrite := none, lcWords := r.2.mu.lcWords.set k (if w = lcPattern k then old else w) } }
    else s
  | none => s

/-- A reset of the main domains, whatever causes it, also interrupts the programming of a life-cycle word (R55). -/
def State.domainReset (s : State) : State := s.lcAbort.mainReset

/-- A device reset with a cause: the device waits in reset for its next t0, where THERMAL_HOLD goes on (R387). DEV_EVENT stays
at its reset value (R3). -/
def State.devReset (s : State) (c : ResetCause) : State :=
  { s.domainReset with
    mu := { s.domainReset.mu with cause := higherCause s.mu.cause c, causeAt := s.tick, phase := .held }
    hk := { s.domainReset.hk with holdKept := s.holdStays c } }

end Sys2Proof.Machine
end

