-- ==== Sys2Proof/Machine/Supplies.lean ====
section
/-!
DEFINITION. Supplies, reset, by-pass, reference clock, clock monitor and power-cycle request: R18 to R41, R13, R172,
R430, and the time of R52 at each t0.
-/

namespace Sys2Proof.Machine

def State.railsOk (s : State) : Bool := s.mu.rails.all (fun r => r.inRange)

def State.setRail (s : State) (k : Nat) (r : Rail) : State := { s with mu := { s.mu with rails := s.mu.rails.set k r } }

/-- VSTBY enters its range: the MU's standby boot begins (R42). -/
def effVstbyInRange (s : State) : State :=
  if s.mu.vstby then s
  else { s with mu := { s.mu with vstby := true, vstbyAt := s.muNow, booted := false, cold := true,
                                  cause := higherCause s.mu.cause .coldStart } }

/-- The standby boot ends: the OTP is read, and the retained logs and the state of PWRCYC_REQ_N are rebuilt from the NOR
(R42, R49, R390). -/
def effStandbyBootDone (s : State) : State :=
  if s.mu.vstby && !s.mu.booted then
    let next := match s.log.nor with
      | r :: _ => (r.num + 1) % 2 ^ 32
      | [] => 0
    { s with
      mu := { s.mu with booted := true, phase := .held, bootKept := false, pwrStop := false
                        pwrcyc := if s.mu.norPwr then some s.muNow else none }
      log := { s.log with ring := s.log.nor.take 8192, next := next, norDone := next, cpBuf := [] }
      hk := { s.hk with roundDeadline := s.muNow + msUnits } }
  else s

/-- VSTBY crosses a trip: the whole device is in reset, the MU included; what only the MU's SRAM held is lost
(R23, R49). OTP and NOR contents stay. That the choice of reference clock ends here, where the main rails may stay up, is the
model's choice (R37, log entry 12). -/
def effVstbyTrip (s : State) : State :=
  if s.mu.vstby then
    let s := s.domainReset
    { s with
      mu := { s.mu with phase := .unpowered, vstby := false, booted := false, cause := none, pwrcyc := none,
                        pwrcycDue := none, pwrcycHost := false, supplyFault := false, bootKept := false, restarting := false, reached := false,
                        prevEsc := false, failedStarts := 0, pwrDecisions := [], pwrStop := false, extClock := none
                        refOk := false, clkBad := [false, false, false, false], clkGoodAt := none }
      hk := {}
      log := { s.log with ring := [], cpBuf := [] }
      ref := { s.ref with changeLog := s.ref.changeLog.drop (s.ref.changeLog.length - s.ref.norChanges) } }
  else s

/-- A main rail reaches its operating range (R21, R22). The comparators report this crossing and not that of 10 % of the
nominal value; so `a rail that rises before VSTBY is in range' is taken as one that reaches its range while VSTBY is out,
and one that stays up over a VSTBY trip is not counted again (the model's choice, log entry 12). -/
def effMainRailInRange (rail : Fin 5) (s : State) : State :=
  let s := s.setRail rail.val { inRange := true, below := none }
  let s := { s with mu := { s.mu with railsAt := s.muNow } }
  if !s.mu.vstby then { s with mu := { s.mu with earlyRails := s.mu.earlyRails ++ [rail.val] } }
  else if s.mu.booted && s.mu.cold && decide (s.muNow - s.mu.vstbyAt > 50 * msUnits) then
    s.post srcMu 0x0106 rail.val ((s.muNow - s.mu.vstbyAt) / usUnits)
  else s

/-- Whether the main domains run, or a hold keeps them in reset by the MU's choice; a trip then is SUPPLY_FAULT (R23). -/
def Phase.up : Phase → Bool
  | .unpowered => false | .held => false | _ => true

/-- The device reset has come in this cycle of the MU's clock: 5 ns, ticks 2n and 2n + 1 (R50, log entry 12). -/
def State.justReset (s : State) : Bool :=
  s.mu.cause.isSome && decide (s.mu.phase = .held ∧ s.mu.causeAt / 2 = s.tick / 2)

/-- A cause in the MU cycle of the device reset before it counts with that reset's (R50). -/
def State.causeToo (s : State) (c : ResetCause) : State :=
  if s.justReset then
    { s with mu := { s.mu with cause := higherCause s.mu.cause c } }
  else s

/-- A main rail crosses a trip (R23): every main domain goes into reset; the reset lasts until R23's restart. The choice of
reference clock is forgotten when any main rail falls below its undervoltage trip: that `the main rails fall' with the first of
them is the model's choice (R37, log entry 12). -/
def effSupplyFault (rail : Fin 5) (high : Bool) (s : State) : State :=
  let r := s.mu.rails[rail.val]?.getD {}
  let s := s.setRail rail.val { inRange := false, below := if high then r.below else some s.muNow }
  let s := if high then s else { s with mu := { s.mu with extClock := none } }
  if s.mu.phase.up then
    let s := (s.post srcMu 0x0108 rail.val (if high then 1 else 0))
    let s := s.devReset .supplyFault
    { s with mu := { s.mu with supplyFault := true } }
  else s.causeToo .supplyFault

/-- Every rail has been back in range for 1 ms with RESET_N high: the restart of R23 may begin. -/
def effSupplyRestart (s : State) : State :=
  if s.mu.supplyFault && s.railsOk && s.mu.resetN && decide (s.muNow ≥ s.mu.railsAt + msUnits) then
    { s with mu := { s.mu with supplyFault := false } }
  else s

/-- RESET_N goes low (R47). CLOCK_HOLD is not left by it (R13). -/
def effResetNLow (s : State) : State :=
  let s := { s with mu := { s.mu with resetN := false } }
  if s.mu.phase.up && s.mu.phase ≠ .clockHold then s.devReset .resetN else s.causeToo .resetN

/-- RESET_N is released; before R21's conditions hold it has no effect beyond its level. -/
def effResetNRelease (s : State) : State := { s with mu := { s.mu with resetN := true } }

/-- Select a bank for the next start (R406). -/
def State.selectBank (s : State) (b : Nat) : State :=
  ({ s with mu := { s.mu with active := b } }).post srcMu 0x0912 b 0

/-- A device reset by SYS_RESET after its delay, by CP escalation or by the MU's decision (R49). No command cancels an ASC state
(R10): one that is latched when SYS_RESET falls due ends the request (log entry 33). -/
def effDeviceReset (c : ResetCause) (s : State) : State :=
  match c with
  | .sysReset => match s.mu.resetDue with
    | some (t, act) =>
      if t ≤ s.muNow && s.resetLocked then { s with mu := { s.mu with resetDue := none } }
      else if t ≤ s.muNow && s.mu.phase ≠ .unpowered then
        let s := if act then s.selectBank (1 - s.mu.active) else s
        let s := { s with mu := { s.mu with pwrStop := false } }
        let s := if s.mu.phase = .thermalHold then s.post srcMu 0x0904 0xFF 0 else s
        s.devReset .sysReset
      else s
    | none => s
  | .cpEscalation => if s.cp.escalate then s.devReset .cpEscalation else s
  | .muDecision => if s.mu.booted && s.mu.phase ≠ .clockHold then s.devReset .muDecision else s
  | _ => s

/-- The by-pass opens once both receivers have locked (a fenced port's need not, R426) and 50 µs have passed since READY
(R32); a restarting MU holds its state (R17). The wait of R326 for a partner starts here. -/
def effBypassOpen (s : State) : State :=
  if s.isReady && s.mu.bypass && !s.mu.restarting && (s.ring.lockA || s.fenced 48) && (s.ring.lockB || s.fenced 49) && decide (s.muNow ≥ s.mu.readyAt + 50 * usUnits)
      && !(s.fenced 48 && s.fenced 49) then
    { s with
      mu := { s.mu with bypass := false }
      flk := { s.flk with joinDeadline := some (s.clk + bits (s.obj Obj.FLK_CFG) 79 64 * msUnits) } }
  else s

/-- The count of rising edges on XTAL_IN over 100 µs (R37). The choice stands until the rails next fall. R37 has the MU log
it; Table 15.5 has no code for it and R389 forbids any other, so it is noted beside the event log (log entry 13). -/
def effXtalDetect (edges : Nat) (s : State) : State :=
  if s.mu.booted && s.railsOk && s.mu.extClock.isNone then
    ({ s with mu := { s.mu with extClock := some (decide (2475 ≤ edges ∧ edges ≤ 2525)) } } : State).jot 37 (b2n (decide (2475 ≤ edges ∧ edges ≤ 2525)))
  else s

/-- The MU decides a power cycle by itself, at most 3 within an hour; after the third it holds the device in RECOVERY
(R430). -/
def State.decidePwr (s : State) : State :=
  let recent := s.mu.pwrDecisions.filter (fun t => s.muNow ≤ t + 3600 * sUnits)
  if recent.length < 3 then
    { s with mu := { s.mu with pwrDecisions := s.muNow :: recent, pwrcycDue := some s.muNow, pwrcycHost := false } }
  else
    let s := { s.domainReset with mu := { s.domainReset.mu with pwrStop := true } }
    s.setPhase .recovery

/-- The boot counter of a new start (R51): one more than the retained copy, or than the higher valid slot; 0 where
neither exists. The new value goes to the older slot. -/
def State.countBoot (s : State) : State :=
  let slots := [s.mu.slotA, s.mu.slotB].filterMap id
  let prev := if s.mu.bootKept then some s.mu.boot else slots.foldl (fun m v => some (max v (m.getD 0))) none
  match prev with
  | none => { s with mu := { s.mu with boot := 0, bootKept := true } }
  | some v =>
    let n := min 0xFFFFFFFF (v + 1)
    let older := match s.mu.slotA, s.mu.slotB with
      | none, _ => true
      | some _, none => false
      | some a, some b => decide (a ≤ b)
    { s with mu := { s.mu with
        boot := n, bootKept := true
        slotA := if older then some n else s.mu.slotA
        slotB := if older then s.mu.slotB else some n } }

/-- The life-cycle state the OTP words spell (R54). -/
def lcOf (w : List Nat) : Nat :=
  if w[3]? = some 0x3CA5 then 4 else if w[2]? = some 0xC35A then 3
  else if w[1]? = some 0x5A3C then 2 else if w[0]? = some 0xA5C3 then 1 else 0

/-- The anchor slot in use: the highest that is programmed and not revoked (R393). -/
def anchorOf (l : List Anchor) : Option Nat :=
  ((List.range l.length).filter (fun i => match l[i]? with | some a => !a.revoked | none => false)).getLast?

/-- t0 (R42): the boot counter rises, the time counter is seeded, the BOOT record is posted and step 1 begins. -/
def effDeviceStart (s : State) : State :=
  if s.mu.phase = .held && s.mu.booted && s.mu.vstby && s.railsOk && s.mu.resetN
      && s.mu.refOk && !s.mu.supplyFault && s.mu.pwrcyc.isNone && s.mu.cause.isSome then
    let cause : ResetCause := s.mu.cause.getD .muDecision
    let cold := s.mu.cold
    let newest : Option Stamp := match s.log.nor with
      | r :: _ => some r.stamp
      | [] => none
    let seed : Nat := if cold then (match newest with | some t => t + 2 ^ 32 | none => 0)
      else s.tl.lastLatch + (s.muNow - s.tl.latchAt) + 2 ^ 32
    let lastSeen := if cold then newest.getD 0 else s.tl.lastLatch
    let lost := !s.mu.bootKept && s.mu.slotA.isNone && s.mu.slotB.isNone
    let again := decide (cause = .cpEscalation ∧ s.mu.prevEsc = true ∧ s.mu.reached = true ∧ s.muNow ≤ s.mu.readyAt + 60 * sUnits)
    let s : State := s.countBoot
    let s : State := { s with
      seqs := []
      time := { ctr := seed % 2 ^ 64, running := true, mu := s.time.mu }
      tl := {}
      mu := { s.mu with
        t0 := s.tick, t0At := s.muNow, startCause := some cause, cause := none, cold := false
        prevEsc := decide (cause = .cpEscalation), reached := false, failSeen := false
        lc := lcOf s.mu.lcWords, anchorUse := anchorOf s.mu.anchors } }
    let s := s.post srcMu 0x0100 (resetCode cause) lastSeen
    let s := s.mu.earlyRails.foldl (fun s r => s.post srcMu 0x0107 r 0) s
    let s := { s with mu := { s.mu with earlyRails := [] } }
    let s := if lost then s.post srcMu 0x0105 0xFF 0 else s
    let s := (List.range 4).foldl (fun s k =>
      let w := s.mu.lcWords.getD k 0
      if w ≠ 0 && w ≠ lcPattern k then s.post srcMu 0x0104 k w else s) s
    let s := if again then s.decidePwr else s
    if s.mu.pwrStop then s.setPhase .recovery
    else if s.hk.holdKept then ({ s with hk := { s.hk with holdKept := false } } : State).setPhase .thermalHold
    else s.setPhase (.starting 1)
  else s

/-! ## Clock monitor (R13, R172) -/

/-- CLOCK_HOLD: every domain but the MU's is held in reset, and CLOCK_FAULT is logged (R13). -/
def State.clockFault (s : State) (clk : Nat) (stopped : Bool) : State :=
  let f := s.mu.clkFreq.getD clk 0#32
  let s := s.post srcMu 0x010A clk ((if stopped then 1 else 0) + f.toNat * 2 ^ 32)
  let kept := s.hk.holdKept || decide (s.mu.phase = .thermalHold)
  let s := s.domainReset
  let s : State := { s with
    mu := { s.mu with cause := higherCause s.mu.cause .clockFault, clkHoldAt := s.muNow, clkGoodAt := none }
    hk := { s.hk with holdKept := kept } }
  s.setPhase .clockHold

/-- Nominal edges of a monitored clock in a 10 µs window: 25 MHz reference, PLL0 (halved under throttle), PLL1, PLL2. -/
def State.clkNominal (s : State) (clk : Nat) : Nat :=
  [250, if bit (s.obj Obj.MGT_THERM_STAT) 4 then 4000 else 8000, 4000, 2000].getD clk 250

/-- Take a clock's standing; `bad` puts the device into CLOCK_HOLD from every state after its start has begun
(R13), and in the MU cycle of a device reset, whose cause it then outranks or joins (R50). -/
def State.clkJudge (s : State) (clk : Nat) (bad stopped : Bool) : State :=
  let s := { s with mu := { s.mu with clkBad := s.mu.clkBad.set clk bad, refOk := if clk = 0 then !bad else s.mu.refOk } }
  let allGood := s.mu.clkBad.all (fun b => !b)
  let s := { s with mu := { s.mu with clkGoodAt := if allGood then (if s.mu.clkGoodAt.isNone then some s.muNow else s.mu.clkGoodAt) else none } }
  if bad && ((s.mu.phase.up && s.mu.phase ≠ .clockHold) || s.justReset) then s.clockFault clk stopped else s

/-- A 10 µs window of the clock monitor ends: more than 5 % from nominal is outside the limits. -/
def effClockMonitorWindow (clk : Fin 4) (edges : Nat) (s : State) : State :=
  if s.mu.booted then
    let nom := s.clkNominal clk.val
    let bad := decide (20 * (if edges ≤ nom then nom - edges else edges - nom) > nom)
    let s := { s with mu := { s.mu with clkFreq := s.mu.clkFreq.set clk.val (f32OfRatio edges 10) } }
    s.clkJudge clk.val bad false
  else s

/-- No edge within 1 µs of the previous one. -/
def effClockEdgeTimeout (clk : Fin 4) (s : State) : State :=
  if s.mu.booted then s.clkJudge clk.val true true else s

/-- Every clock has been within its limits for 10 ms: SYS_RESET is accepted from now on (R13); read through
`clkGoodAt`. The event itself confirms the run of good windows. -/
def effClockStable (s : State) : State :=
  if s.mu.phase = .clockHold && s.mu.clkBad.all (fun b => !b) && s.mu.clkGoodAt.isNone then
    { s with mu := { s.mu with clkGoodAt := some (s.muNow - 10 * msUnits) } }
  else s

/-- CLOCK_HOLD has lasted 100 ms: the MU decides a power cycle (R430). -/
def effClockHoldTimeout (s : State) : State :=
  if s.mu.phase = .clockHold && decide (s.muNow ≥ s.mu.clkHoldAt + 100 * msUnits) && s.mu.pwrcycDue.isNone && s.mu.pwrcyc.isNone
  then s.decidePwr else s

/-- READY falls on this tick and is still to come (R66). -/
def State.readyComes (s : State) : Bool :=
  s.awaits fun i => match i with
    | .ready _ => true
    | _ => false

/-- A start has not reached READY by t0 + 2 s; the second in a row makes the MU decide a power cycle (R430). -/
def effStartFailTimeout (s : State) : State :=
  let failing := match s.mu.phase with
    | .starting _ => true
    | .recovery => !s.mu.pwrStop
    | _ => false
  if failing && !s.mu.reached && !s.mu.failSeen && decide (s.muNow ≥ s.mu.t0At + 2 * sUnits) && !s.readyComes then
    let n := s.mu.failedStarts + 1
    let s := { s with mu := { s.mu with failSeen := true, failedStarts := if n ≥ 2 then 0 else n } }
    if n ≥ 2 then s.decidePwr else s
  else s

/-! ## Power-cycle request (R38 to R40) -/

/-- PWRCYC_REQ_N goes low: the main domains are held in reset and the by-pass closes (Table 2.7). The next start is the power
cycle's, whatever had led to it (R430). A command cannot end an ASC state by it (R10, log entry 33). -/
def effPwrcycAssert (s : State) : State :=
  match s.mu.pwrcycDue with
  | some t =>
    if t ≤ s.muNow && s.mu.pwrcycHost && s.resetLocked then { s with mu := { s.mu with pwrcycDue := none, pwrcycHost := false } }
    else if t ≤ s.muNow && s.mu.pwrcyc.isNone then
      let s := s.domainReset
      { s with
        mu := { s.mu with pwrcyc := some s.muNow, pwrcycDue := none, pwrcycHost := false, norPwr := true, cause := none, phase := .held }
        hk := { s.hk with holdKept := false } }
    else s
  | none => s

/-- All five main rails have been below their undervoltage trips for 10 ms: the line is released (R38). -/
def effPwrcycRelease (s : State) : State :=
  let down := s.mu.rails.all (fun r => match r.below with
    | some t => decide (s.muNow ≥ t + 10 * msUnits)
    | none => false)
  if s.mu.pwrcyc.isSome && down then
    { s with mu := { s.mu with pwrcyc := none, norPwr := false, supplyFault := false, cause := higherCause s.mu.cause .powerCycle } }
  else s

/-- The rails have not fallen within 1 s: the line is released, PWRCYC_NO_RESPONSE is logged, and a device reset
takes the power cycle's place (R40). -/
def effPwrcycNoResponse (s : State) : State :=
  match s.mu.pwrcyc with
  | some t =>
    let down := s.mu.rails.all (fun r => r.below.isSome)
    if s.muNow ≥ t + sUnits && !down then
      let s := { s with mu := { s.mu with pwrcyc := none, norPwr := false } }
      let s := s.post srcMu 0x010B 0xFF 0
      s.devReset .muDecision
    else s
  | none => s

/-! ## The commands -/

def execVstbyInRange (dt : Nat) (s : State) : Host.Outcome State Fault Refusal := .next (s.runT dt effVstbyInRange)
def execStandbyBootDone (dt : Nat) (s : State) : Host.Outcome State Fault Refusal := .next (s.run dt effStandbyBootDone)
def execVstbyTrip (dt : Nat) (s : State) : Host.Outcome State Fault Refusal := .next (s.runT dt effVstbyTrip)
def execMainRailInRange (dt : Nat) (rail : Fin 5) (s : State) : Host.Outcome State Fault Refusal :=
  .next (s.run dt (effMainRailInRange rail))
def execSupplyFault (dt : Nat) (rail : Fin 5) (high : Bool) (s : State) : Host.Outcome State Fault Refusal :=
  .next (s.runT dt (effSupplyFault rail high))
def execSupplyRestart (dt : Nat) (s : State) : Host.Outcome State Fault Refusal := .next (s.run dt effSupplyRestart)
def execResetNLow (dt : Nat) (s : State) : Host.Outcome State Fault Refusal := .next (s.runT dt effResetNLow)
def execResetNRelease (dt : Nat) (s : State) : Host.Outcome State Fault Refusal := .next (s.run dt effResetNRelease)
def execDeviceReset (dt : Nat) (cause : ResetCause) (s : State) : Host.Outcome State Fault Refusal :=
  .next (s.runT dt (effDeviceReset cause))
def execBypassOpen (dt : Nat) (s : State) : Host.Outcome State Fault Refusal := .next (s.run dt effBypassOpen)
def execXtalDetect (dt : Nat) (edges : Nat) (s : State) : Host.Outcome State Fault Refusal :=
  .next (s.run dt (effXtalDetect edges))
def execDeviceStart (dt : Nat) (s : State) : Host.Outcome State Fault Refusal := .next (s.runT dt effDeviceStart)
def execClockMonitorWindow (dt : Nat) (clk : Fin 4) (edges : Nat) (s : State) : Host.Outcome State Fault Refusal :=
  .next (s.runT dt (effClockMonitorWindow clk edges))
def execClockEdgeTimeout (dt : Nat) (clk : Fin 4) (s : State) : Host.Outcome State Fault Refusal :=
  .next (s.runT dt (effClockEdgeTimeout clk))
def execClockStable (dt : Nat) (s : State) : Host.Outcome State Fault Refusal := .next (s.run dt effClockStable)
def execClockHoldTimeout (dt : Nat) (s : State) : Host.Outcome State Fault Refusal := .next (s.runT dt effClockHoldTimeout)
def execStartFailTimeout (dt : Nat) (s : State) : Host.Outcome State Fault Refusal := .next (s.runT dt effStartFailTimeout)
def execPwrcycAssert (dt : Nat) (s : State) : Host.Outcome State Fault Refusal := .next (s.runT dt effPwrcycAssert)
def execPwrcycRelease (dt : Nat) (s : State) : Host.Outcome State Fault Refusal := .next (s.run dt effPwrcycRelease)
def execPwrcycNoResponse (dt : Nat) (s : State) : Host.Outcome State Fault Refusal := .next (s.runT dt effPwrcycNoResponse)

end Sys2Proof.Machine
end

