-- ==== Sys2Proof/Machine/Commands.lean ====
section
/-!
DEFINITION. How a command packet is taken and judged: the opcode list (Table 5.18), the entry a command comes from
(R107, R108), the checks of Table 5.2, the replay window (R99, R100), Flask acceptance and mirroring (R328, R329, R334),
and the frame around an opcode's own effect.
-/

namespace Sys2Proof.Machine

/-- What an opcode does: the new state, the status, the reply bytes after the stamps, and whether the completion comes
later. -/
structure Res where
  st : State
  status : Nat := stOk
  extra : List Byte := []
  later : Bool := false

def State.fail (s : State) (status : Nat) : Res := { st := s, status := status }
def State.okay (s : State) : Res := { st := s }
def State.okWith (s : State) (extra : List Byte) : Res := { st := s, extra := extra }
def State.accept (s : State) : Res := { st := s, status := stAccepted }

/-- Valid targets of an opcode (Table 5.18). -/
inductive Tgt where
  | device | mu | slice | can | eth | reinit
  deriving DecidableEq, Repr

def Tgt.ok (t : Tgt) (v : Nat) : Bool :=
  match t with
  | .device => v = 0x0E
  | .mu => v = 0x0F
  | .slice => v ≤ 5
  | .can => 0x10 ≤ v && v ≤ 0x13
  | .eth => 0x18 ≤ v && v ≤ 0x19
  | .reinit => v ≤ 5 || v = 0x0E || (0x10 ≤ v && v ≤ 0x13) || (0x18 ≤ v && v ≤ 0x19) || (0x20 ≤ v && v ≤ 0x37)

/-- Least privilege of an opcode: a level code, or 5 for none (Tables 5.18, 4.7). -/
structure OpInfo where
  code : Nat
  priv : Nat
  tgt : Tgt

def opTable : List OpInfo := [
  ⟨0x0000, 5, .device⟩, ⟨0x0001, 5, .device⟩, ⟨0x0002, 0, .device⟩, ⟨0x0003, 5, .device⟩, ⟨0x0010, 2, .device⟩,
  ⟨0x0011, 2, .reinit⟩, ⟨0x0012, 4, .mu⟩, ⟨0x1000, 0, .device⟩, ⟨0x1001, 2, .device⟩, ⟨0x1002, 0, .device⟩,
  ⟨0x1003, 2, .device⟩, ⟨0x1010, 0, .device⟩, ⟨0x2000, 1, .slice⟩, ⟨0x2001, 1, .slice⟩, ⟨0x2010, 1, .slice⟩,
  ⟨0x2011, 1, .slice⟩, ⟨0x2020, 1, .slice⟩, ⟨0x2021, 1, .slice⟩, ⟨0x2030, 1, .slice⟩, ⟨0x3000, 2, .device⟩,
  ⟨0x3001, 2, .device⟩, ⟨0x3002, 2, .device⟩, ⟨0x3003, 2, .device⟩, ⟨0x3004, 2, .device⟩, ⟨0x3010, 2, .device⟩,
  ⟨0x3011, 2, .device⟩, ⟨0x3020, 2, .device⟩, ⟨0x4000, 1, .device⟩, ⟨0x4001, 2, .device⟩, ⟨0x4002, 2, .device⟩,
  ⟨0x4010, 2, .device⟩, ⟨0x4020, 2, .device⟩, ⟨0x5000, 2, .can⟩, ⟨0x5001, 2, .can⟩, ⟨0x5002, 1, .can⟩,
  ⟨0x5003, 1, .can⟩, ⟨0x5004, 1, .can⟩, ⟨0x5010, 2, .eth⟩, ⟨0x6000, 2, .device⟩, ⟨0x6001, 3, .device⟩,
  ⟨0x6002, 0, .device⟩, ⟨0x7000, 4, .mu⟩, ⟨0x7001, 4, .mu⟩, ⟨0x7002, 4, .mu⟩, ⟨0x7003, 4, .mu⟩, ⟨0x7010, 5, .mu⟩,
  ⟨0x7011, 4, .mu⟩, ⟨0x7020, 0, .mu⟩, ⟨0x8000, 2, .device⟩, ⟨0x8001, 0, .device⟩, ⟨0x8002, 4, .device⟩,
  ⟨0x8010, 2, .device⟩, ⟨0x9000, 2, .device⟩, ⟨0x9001, 1, .device⟩, ⟨0x9002, 2, .device⟩]

def opInfo (code : Nat) : Option OpInfo := opTable.find? (fun o => o.code = code)

/-- Whether a session level carries a privilege: SAFETY and MAINTAIN each include CONFIGURE, neither the other
(Table 5.16). -/
def levelHas (level need : Nat) : Bool :=
  if need = 5 then true else if need ≤ 2 then decide (need ≤ level) else level = need

/-- Level of the packet's session; session 0xFF holds none. A ring packet needs none (R345 limits it by itself). -/
def State.holds (s : State) (p : Pkt) (need : Nat) : Bool :=
  match s.sessOf p with
  | some x => levelHas x.level need
  | none => need = 5 || (need ≤ 2 && match p.link with
    | .ring _ => true
    | _ => false)

/-- The opcodes SQ0 accepts (R109). -/
def sq0Op (c : Nat) : Bool := c = 0x0000 || c = 0x2001 || c = 0x2020 || c = 0x2030 || (0x6000 ≤ c && c ≤ 0x6002)

/-- Largest reply payload a command can produce, from its opcode and payload (R106). -/
def maxReply (p : Pkt) : Nat :=
  let b := p.payload
  16 + match p.opcode.toNat with
  | 0x0000 => b.length
  | 0x0001 => 132
  | 0x0003 => 60
  | 0x1000 => 24
  | 0x1001 => 16
  | 0x1002 => le b 4 2 * (if byteAt b 6 % 2 = 1 then 40 else 24)
  | 0x1003 => 16
  | 0x3000 => 2
  | 0x3020 => 16
  | 0x4000 => 8
  | 0x4001 => 16
  | 0x4010 => 8
  | 0x5000 => if b.isEmpty then 160 else 0
  | 0x5001 => if byteAt b 6 % 2 = 1 then 16 * le b 2 2 else 0
  | 0x5002 => 2
  | 0x5004 => 8 + 96 * byteAt b 4
  | 0x5010 => if b.isEmpty then 40 else 0
  | 0x6000 => 8
  | 0x6001 => 16
  | 0x6002 => 8 + 32 * byteAt b 4
  | 0x7000 => 8
  | 0x7001 => 4
  | 0x7010 => 320 + (if byteAt b 32 % 2 = 1 then 4 + Config.certLen 0 + Config.certLen 1 else 0)
  | 0x7020 => 8 + 32 * byteAt b 2
  | 0x8001 => 16 + 16 * byteAt b 1
  | 0x8002 => 2
  | 0x8010 => 10
  | _ => 0

/-! ## Taking an entry (R107, R108) -/

/-- Round-robin member of a link: pairs 0 to 15, the Ethernet port 16, CAN tunnels 17 to 20. -/
def State.member (s : State) : Link → Option Nat
  | .pcie n => if s.isSpi n || 16 ≤ n then none else some n
  | .spi k => s.spiPairs[k]?
  | .eth _ => some 16
  | .can c => some (17 + c)
  | _ => none

/-- Whether a member holds a command the CP has not started. -/
def State.hasWork (s : State) (m : Nat) : Bool :=
  if m < 16 then
    let q := s.pair m
    if s.isSpi m then !q.sq.isEmpty || !q.redo.isEmpty
    else q.en && decide (q.owned > q.started.length)
  else s.host.inbox.any (fun p => s.member p.link = some m)

def State.weightOf (s : State) (m : Nat) : Nat := if m < 16 then (s.pair m).weight + 1 else 4

/-- Whether the CP, free to take a command, may take one from this member now (R108). -/
def State.mayServe (s : State) (m : Nat) : Bool :=
  if m < 4 then (List.range m).all (fun j => !s.hasWork j)
  else (List.range 4).all (fun j => !s.hasWork j) &&
    (decide (bget 0 s.host.rrUsed m < s.weightOf m) ||
      (List.range 21).all (fun j => j < 4 || !s.hasWork j || decide (s.weightOf j ≤ bget 0 s.host.rrUsed j)))

/-- Count a service in the round; a round in which every waiting member is used up starts afresh. -/
def State.served (s : State) (m : Nat) : State :=
  if m < 4 then s
  else
    let u := bget 0 s.host.rrUsed m
    { s with host := { s.host with
        rrUsed := if u < s.weightOf m then bset s.host.rrUsed m (u + 1) else [(m, 1)] } }

/-- Take a pair's next entry, which holds packet `p`: one to be executed again first, else the one at the head. -/
def State.startEntry (s : State) (n : Nat) (p : Pkt) : State × Nat :=
  let q := s.pair n
  match q.redo with
  | e :: r => (s.setPair n { q with redo := r, started := q.started ++ [e] }, e)
  | [] =>
    let e := q.sqHead
    (s.setPair n { q with
      sqHead := (e + 1) % s.pairCap n, sq := q.sq.drop 1, started := q.started ++ [e], held := bset q.held e p }, e)

/-- The packet that a pair's next entry holds, where the device knows it: of an entry to be executed again the one it started
with, which the host may not change (R107), of an SPI pair the one at the head of its queue. -/
def State.nextPkt (s : State) (n : Nat) : Option Pkt :=
  match (s.pair n).redo with
  | e :: _ => bfind (s.pair n).held e
  | [] => if s.isSpi n then (s.pair n).sq.head? else none

/-- The entry a command's row stands for: the next entry of its enabled pair, the packet at the head of its SPI pair, or
the packet a tunnel has delivered. None: the CP has no such command to take. -/
def State.takeEntry (s : State) (p : Pkt) : Option (State × Nat) :=
  match s.member p.link with
  | none => none
  | some m =>
    if !s.hasWork m || !s.mayServe m then none
    else
      let s := s.served m
      match p.link with
      | .pcie _ => if (s.nextPkt m).all (fun q => q = p) then some (s.startEntry m p) else none
      | .spi _ => if s.nextPkt m = some p then some (s.startEntry m p) else none
      | _ =>
        if s.host.inbox.contains p then
          some ({ s with host := { s.host with inbox := s.host.inbox.erase p } }, 0xFFFF)
        else none

/-! ## Flask acceptance -/

def State.inFlask (s : State) : Bool := bit (s.obj Obj.FLK_CFG) 127
def State.isActive (s : State) : Bool := s.flk.role = .active

/-- A device whose inputs come from its active: a standby, or one in resynchronisation (R328). -/
def State.follows (s : State) : Bool := s.inFlask && (s.flk.role = .standby || s.flk.step = .resync)

/-- Opcodes a device executes for itself, whatever its role (R334). -/
def localOp (c : Nat) : Bool :=
  match opInfo c with
  | some o => o.priv = 0 || o.priv = 5 || c = 0x0002 || c = 0x0010 || c = 0x9002 || (0x6000 ≤ c && c ≤ 0x8FFF) || o.tgt = .mu
  | none => true

def State.partnerId (s : State) : Nat := bits (s.obj Obj.FLK_CFG) 113 100

/-- Kind, source unit and content of a mirror item (Table 13.10). The layout of every content but a command packet's is the model's
choice (log entry 30). -/
def mirrorParts : MirrorBody → Nat × Nat × List Byte
  | .command p => (1, 0, p.bytes)
  | .can c sof f => (2, c, toLE 8 sof ++ toLE 4 f.id ++ toLE 1 (b2n f.ide + 2 * b2n f.rtr + 4 * b2n f.fdf + 8 * b2n f.brs + 16 * b2n f.esi)
      ++ toLE 1 f.dlc ++ f.data)
  | .eth p node slot rx data => (3, p, toLE 8 rx ++ toLE 2 node ++ toLE 2 slot ++ data)
  | .aux k code flags sample v => (4, k / 8, toLE 8 sample ++ toLE 2 code ++ toLE 1 (k % 8) ++ toLE 1 flags ++ toLE 4 v.toNat)
  | .probe obj v => (5, 0, toLE 4 obj ++ toLE 16 v)
  | .increment v => (6, 0, toLE 8 v)
  | .stepBy a => (6, 1, toLE 8 a)
  | .throttle on => (7, 0, toLE 1 (b2n on))

/-- The fragments of an item, each the payload of one MIRROR frame: 24 bytes of item header and at most 1,000 of content. -/
def mirrorFrags (m : MirrorItem) : Nat → Bool → List Byte → List (List Byte)
  | 0, _, _ => []
  | n + 1, cont, bs =>
    let (kind, unit, _) := mirrorParts m.body
    let part := bs.take 1000
    let more := decide (1000 < bs.length)
    (toLE 8 m.arrival ++ toLE 8 m.apply ++ toLE 4 m.seq ++ toLE 1 (kind + 64 * b2n cont + 128 * b2n more) ++ toLE 1 unit
      ++ toLE 2 part.length ++ part) :: (if more then mirrorFrags m n true (bs.drop 1000) else [])

/-- Send a mirror item to the partner, whole. -/
def State.sendItem (s : State) (m : MirrorItem) : State :=
  (mirrorFrags m 8 false (mirrorParts m.body).2.2).foldl (fun (s : State) b => s.ringTx 3 s.partnerId b) s

/-- Mirror apply delay in stamp units (Table 13.1). -/
def State.applyDelay (s : State) : Nat := bits (s.obj Obj.FLK_CFG) 95 80 * usUnits

/-- Set MIRROR_OVF: the active sends a MIRROR_RESET frame on both ports and holds nothing more (R330). -/
def State.mirrorOverflow (s : State) : State :=
  let s := (s.setFlag Obj.RING_STAT (2 ^ 27)).ringTx 6 s.partnerId []
  { s with flk := { s.flk with held := [] } }

/-- Post a mirror item: it is sent to the partner, held for 200 µs, and waits here for its own apply stamp (R329,
R330). Where the 200 µs buffer has no room, it overflows. -/
def State.mirrorPut (s : State) (arrival : Stamp) (body : MirrorBody) : State :=
  let n := (s.flk.seqNo + 1) % 2 ^ 32
  let live := s.flk.held.filter (fun h => s.clk ≤ h.2)
  let it : MirrorItem := { arrival := arrival, apply := arrival + s.applyDelay, seq := n, whole := true, body := body }
  let s : State := { s with flk := { s.flk with seqNo := n, mirror := s.flk.mirror ++ [it] } }
  if live.length < Config.mirrorRoom then
    ({ s with flk := { s.flk with held := live ++ [(it, s.clk + 200 * usUnits)] } } : State).sendItem it
  else s.mirrorOverflow

/-! ## Execution -/

/-- The deferred form of the command being executed. -/
def State.cur (s : State) : Option Deferred :=
  s.host.current.map (fun c => { pkt := c.1, accepted := c.2.1, entry := c.2.2 })

def State.setCur (s : State) (c : Option (Pkt × Stamp × Nat)) : State := { s with host := { s.host with current := c } }

/-- Keep a command as accepted and not yet completed (R76, R100). -/
def State.deferCur (s : State) : State :=
  match s.cur with
  | some d => { s with host := { s.host with deferred := s.host.deferred ++ [d] } }
  | none => s

/-- A deferred command with the repeats that have joined it since (R100). -/
def State.withRepeats (s : State) (d : Deferred) : Deferred :=
  match s.host.deferred.find? (fun e => e.pkt = d.pkt && e.accepted = d.accepted) with
  | some e => e
  | none => d

/-- Complete a deferred command. -/
def State.finish (s : State) (d : Deferred) (status : Nat) (extra : List Byte) : State :=
  s.complete (s.withRepeats d) status extra

/-- The CP runs again: it forms the replies that have waited for it (R17, R320). -/
def State.flushHeld (s : State) : State :=
  s.host.unfinished.foldl (fun (s : State) e => s.finish e.1 e.2.1 e.2.2) { s with host := { s.host with unfinished := [] } }

/-- Run an opcode's effect for a command, and complete it unless the completion comes later. -/
def State.perform (s : State) (d : Deferred) (op : Pkt → State → Res) : State :=
  let r := op d.pkt (s.setCur (some (d.pkt, d.accepted, d.entry)))
  let t := r.st.setCur none
  if r.later then t else t.complete (t.withRepeats d) r.status r.extra

/-- Least privilege that writes an index (Table 5.22). -/
def writePriv (i : Nat) : Nat :=
  if 0x10000 ≤ i ∧ i ≤ 0x13FFF then 3 else if (0x14000 ≤ i ∧ i ≤ 0x17FFF) ∨ i = Obj.HOST_LINK_MAXPRIV then 4 else 2

/-- Whether a packet may write an index: the session's level, and SAFETY_AUTH for the safety range (R101). -/
def State.mayWrite (s : State) (p : Pkt) (i : Nat) : Bool :=
  s.holds p (writePriv i) && (writePriv i ≠ 3 || p.flags.getLsbD 3)

/-- The privilege of the opcodes whose right depends on more than the opcode: an OBJ_WRITE by its index, a SAF_COMMIT by
its flag. -/
def State.opDenied (s : State) (p : Pkt) : Bool :=
  (p.opcode = 0x1001#16 && !s.mayWrite p (le p.payload 0 4)) || (p.opcode = 0x6001#16 && !p.flags.getLsbD 3)

/-- The session's certificate allows the requested life-cycle move (R55). -/
def State.moveAllowed (s : State) (p : Pkt) (v : Nat) : Bool :=
  decide (v < 3) || match s.sessOf p with
    | some x => x.edvoten
    | none => false

/-- Whether a record at an offset of a payload is one that its session may not write. -/
def State.recDenied (s : State) (p : Pkt) (off : Nat) : Bool :=
  let i := le p.payload off 4
  !s.mayWrite p i || (i = Obj.MGT_LIFECYCLE_REQ && !s.moveAllowed p (le p.payload (off + 8) 16))

/-- A write that its session may not make: the active answers it and does not mirror it, since only the active knows the
session (R101, R127). -/
def State.writeDenied (s : State) (p : Pkt) : Bool :=
  (p.opcode = 0x1001#16 && s.recDenied p 0)
    || (p.opcode = 0x1003#16 && (List.range (min 169 (le p.payload 0 2))).any fun j => s.recDenied p (8 + 24 * j))

/-- Steps 7 to 9 of Table 5.2, and R106's length check on a pair without a reply area. `none`: no failure. -/
def State.checkOp (s : State) (p : Pkt) : Option Nat :=
  match opInfo p.opcode.toNat with
  | none => some stBadOpcode
  | some o =>
    if !s.holds p o.priv then some stDenied
    else if p.flags.getLsbD 3 && !s.holds p 3 then some stDenied
    else if s.opDenied p then some stDenied
    else if (s.pairOf p.link = some 0) && !sq0Op p.opcode.toNat then some stDenied
    else if !o.tgt.ok p.target.toNat then some stBadTarget
    else match p.link with
      | .pcie n => if (s.pair n).rbuf = 0 && decide (maxReply p > 44) then some stBadLength else none
      | _ => none

/-- Steps 1 to 4 of Table 5.2. -/
def checkHead (p : Pkt) : Option Nat :=
  if p.version ≠ 2#8 then some stBadVersion
  else if p.len.toNat > 4080 ∨ p.payload.length ≠ p.len.toNat then some stBadLength
  else if p.crc.toNat ≠ p.crcOf then some stBadCrc
  else if p.flags &&& 0xF7#8 ≠ 0#8 ∨ p.status ≠ 0#16 then some stRange
  else none

/-- Whether an opcode accepts session 0xFF (Table 5.18). -/
def opNone (c : Nat) : Bool :=
  match opInfo c with
  | some o => o.priv = 5
  | none => false

/-- Step 5: the session is open on this link, or is 0xFF for an opcode that allows it. -/
def State.sessionOk (s : State) (p : Pkt) : Bool :=
  (s.sessOf p).isSome || (p.session = 0xFF#8 && opNone p.opcode.toNat)

/-- Step 6: the command is accepted: its record is posted, and its session is no longer idle. -/
def State.noteAccepted (s : State) (p : Pkt) : State :=
  let s := s.record (srcAccept p.link) s.now []
  match s.sessOf p with
  | some x => s.setSess p.session.toNat (some { x with idle := s.clk })
  | none => s

/-- The stored reply to a sequence number, with the CRC field of its command. -/
def Session.replyOf (x : Session) (seq : Nat) : Option (Nat × Reply) :=
  x.stored.findSome? fun e => if e.seq = seq then e.reply.map fun r => (e.crc, r) else none

/-- A sequence number that comes again takes its place among the 256 most recent ones afresh (R99). -/
def State.touch (s : State) (p : Pkt) : State :=
  match s.sessOf p with
  | some x => match x.stored.find? fun e => e.seq = p.seq.toNat with
    | some e => s.setSess p.session.toNat (some { x with stored := e :: x.stored.erase e })
    | none => s
  | none => s

/-- A TIM_SET_INCREMENT that both devices of a Flask will apply later restarts the host watchdog on its accepted stamp
(R72). -/
def State.watchFrom (s : State) (p : Pkt) (accepted : Bool) : State :=
  if p.opcode = 0x4000#16 && accepted && s.obj Obj.TIM_SERVO_SEL = 1 then
    { s with tl := { s.tl with hostDeadline := some (s.clk + s.obj Obj.TIM_HOST_WATCHDOG * msUnits) } }
  else s

/-- Judge a command taken from entry `entry` and execute it: Table 5.2 in its order. -/
def State.submit (s : State) (p : Pkt) (entry : Nat) (op : Pkt → State → Res) : State :=
  match checkHead p with
  | some e => s.answer p entry e
  | none =>
    if !s.sessionOk p then s.answer p entry stNoSession
    else
      let s := s.noteAccepted p
      match (s.sessOf p).bind (fun x => x.replyOf p.seq.toNat) with
      | some e =>
        if e.1 = p.crc.toNat then (s.touch p).deliver { e.2 with link := p.link, entry := entry }
        else (s.touch p).answer p entry stSeqConflict
      | none =>
        match s.host.deferred.find? (fun d =>
            d.live && (s.sessOf p).isSome && d.pkt.session = p.session && d.pkt.seq = p.seq && d.pkt.crc = p.crc) with
        | some d =>
          let s := s.touch p
          { s with host := { s.host with deferred := s.host.deferred.map (fun e =>
              if e.pkt = d.pkt && e.accepted = d.accepted then { e with repeats := e.repeats ++ [(p, entry)] } else e) } }
        | none =>
          let d : Deferred := { pkt := p, accepted := s.now, entry := entry }
          let s := s.remember p
          match s.checkOp p with
          | some e => s.complete d e []
          | none =>
            if s.inFlask && !localOp p.opcode.toNat then
              if s.isActive && s.writeDenied p then s.perform d op
              else if s.isActive then
                let s := s.watchFrom p (op p (s.setCur (some (p, s.now, entry)))).later
                let s := { s with host := { s.host with deferred := s.host.deferred ++ [d] } }
                s.mirrorPut s.now (.command p)
              else s.complete d (if (op p s).status = stBadLength then stBadLength else stState) []
            else s.perform d op

/-- Whether the CP takes commands: READY, not restarting, not halted by the debug port (R117, R320). -/
def State.cpTakes (s : State) : Bool := s.isReady && !s.cp.restarting && !s.cp.halted

/-- A command row: the row's opcode, and its selector byte where the row has one, are written into the packet; the CP
takes the entry the packet stands in and executes it. With no such entry nothing happens. -/
def Pkt.asRow (p : Pkt) (code : Nat) : Pkt := { p with opcode := BitVec.ofNat 16 code }
/-- SYS_NOP's row also stands for an entry whose opcode does not exist: the CP takes it and answers ST_BAD_OPCODE (R98). -/
def Pkt.asNop (p : Pkt) : Pkt := if (opInfo p.opcode.toNat).isNone then p else p.asRow 0x0000
def Pkt.withSel (p : Pkt) (k v : Nat) : Pkt := { p with payload := setByte p.payload k v }

def effCmd (p : Pkt) (op : Pkt → State → Res) (s : State) : State :=
  if s.cpTakes then
    match s.takeEntry p with
    | some (t, e) => t.submit p e op
    | none => s
  else s

/-- The device and unit state that an opcode's own chapter adds: a shared test of payload length (step 10). -/
def lenIs (p : Pkt) (n : Nat) : Bool := p.payload.length = n

/-- The accepted stamp of the command being executed. -/
def State.accStamp (s : State) : Stamp :=
  match s.host.current with
  | some c => c.2.1
  | none => s.host.mirrored.getD s.now

/-- An apply stamp (R76): 0 means the next tick; one before the accepted stamp is too late, in a Flask one before the accepted stamp
plus APPLY_DELAY (R329). -/
def State.tooLate (s : State) (apply : Stamp) : Bool :=
  apply ≠ 0 && decide (apply < s.accStamp + (if s.inFlask then s.applyDelay else 0))

end Sys2Proof.Machine
end

