-- ==== Sys2Proof/Machine/Predictor.lean ====
section
/-!
DEFINITION. The angle predictor (R79 to R82): POS64 arithmetic, the update of the acceleration, the prediction, and the
stamp at which a target angle is crossed. A crossing's stamp is the whole stamp unit nearest the exact root of R82's
equation over the predictor's own ω and α (log entry 20).
-/

namespace Sys2Proof.Machine

/-- α after a refresh: the six binary32 operations of R81, in order. -/
def alphaStep (a : F32) (p : Predictor) (t : Stamp) (w : F32) : F32 :=
  let d := fSub w p.omega
  let iv := f32Seconds ((t : Int) - (p.tRef : Int))
  let q := fDiv d iv
  let e := fSub q p.alpha
  let m := fMul a e
  fAdd p.alpha m

/-- Displacement in revolutions from the reference to stamp `t`, in binary64 as R81 orders it. -/
def Predictor.disp (p : Predictor) (t : Stamp) : F64 :=
  let dt := f64Seconds ((t : Int) - (p.tRef : Int))
  dAdd (dMul (f64OfF32 p.omega) dt) (dMul (dMul 0x3FE0000000000000#64 (f64OfF32 p.alpha)) (dMul dt dt))

/-- Predicted POS64 at a stamp (R81). -/
def Predictor.posAt (p : Predictor) (t : Stamp) : Nat :=
  let d := dDy (p.disp t)
  (((p.pos : Int) + ({ d with exp := d.exp + 32 } : Dy).rne) % (2 ^ 64 : Nat)).toNat

/-- Predicted ANG32 at a stamp. -/
def Predictor.angAt (p : Predictor) (t : Stamp) : Ang32 := BitVec.ofNat 32 (p.posAt t)

/-- Predicted speed ω + α Δt at a stamp. -/
def Predictor.speedAt (p : Predictor) (t : Stamp) : F32 :=
  fFma p.alpha (f32Seconds ((t : Int) - (p.tRef : Int))) p.omega

/-- A new reference (R81): the angle source's angle and speed at a sample. The first one leaves α at 0. -/
def Predictor.refresh (p : Predictor) (a : F32) (t : Stamp) (pos : Nat) (w : F32) : Predictor :=
  if p.valid && p.tRef ≠ t then { p with tRef := t, pos := pos % 2 ^ 64, alpha := alphaStep a p t w, omega := w }
  else { p with tRef := t, pos := pos % 2 ^ 64, omega := w, valid := true }

/-! ## Crossing of a target (R82) -/

/-- Four times `2 ^ 32 · 32·10^18` times the displacement after `m` half units: `16·10^9·ω·m + α·m²` scaled. -/
def crossG (w a : Dy) (m : Nat) : Dy :=
  let lin := w.mul (Dy.ofInt (16000000000 * m))
  let quad := a.mul (Dy.ofInt (m * m))
  let d := lin.add quad
  { d with exp := d.exp + 32 }

/-- The scale of `crossG` for one ANG32 unit. -/
def crossUnit : Int := 128 * 10 ^ 18

/-- The least `m` in `lo < m ≤ hi` at which the monotone displacement has reached level `lv`; `up` says its direction. -/
def bisect (w a : Dy) (lv : Int) (up : Bool) : Nat → Nat → Nat → Nat
  | 0, _, hi => hi
  | fuel + 1, lo, hi =>
    if hi ≤ lo + 1 then hi
    else
      let mid := (lo + hi) / 2
      let g := crossG w a mid
      let t := Dy.ofInt (lv * crossUnit)
      let reached := if up then t.le g else g.le t
      if reached then bisect w a lv up fuel lo mid else bisect w a lv up fuel mid hi

/-- Crossing within one monotone stretch of half units `lo` to `hi`: displacement `d` modulo one turn is the target. -/
def crossSeg (w a : Dy) (d : Int) (up : Bool) (lo hi : Nat) : Option Nat :=
  let g0 := crossG w a lo
  let fl : Int := g0.floor / crossUnit
  let ce : Int := -((Dy.neg g0).floor / crossUnit)
  let turn : Int := 2 ^ 32
  let lv : Int := if up then (fl + 1) + ((d - (fl + 1)) % turn) else (ce - 1) - (((ce - 1) - d) % turn)
  let g1 := crossG w a hi
  let t := Dy.ofInt (lv * crossUnit)
  let inside := if up then t.le g1 else g1.le t
  if lo < hi && inside then some (bisect w a lv up 40 lo hi) else none

/-- Whole quotient of two exact values, toward zero; 0 for a zero divisor. -/
def Dy.quot (x y : Dy) : Nat :=
  let e := min x.exp y.exp
  let n := (shl x.man (x.exp - e)).natAbs
  let d := (shl y.man (y.exp - e)).natAbs
  n / d

/-- Stamp of the first crossing of `target` after the reference in the entry's direction (0 either, 1 increasing,
2 decreasing), within 1 s (R82). -/
def Predictor.cross (p : Predictor) (target : Ang32) (dir : Nat) : Option Stamp :=
  let w := fDy p.omega
  let a := fDy p.alpha
  if !p.valid || (w.man = 0 && a.man = 0) then none
  else
    let hi := 8000000000
    let d : Int := (target.toNat : Int) - (p.pos % 2 ^ 32 : Nat)
    let turns := decide (w.man * a.man < 0)
    let v := if turns then min hi (Dy.quot (w.mul (Dy.ofInt 8000000000)) a) else hi
    let up1 := if w.man = 0 then decide (a.man > 0) else decide (w.man > 0)
    let up2 := decide (a.man > 0)
    let want := fun (up : Bool) => dir = 0 || (if up then dir = 1 else dir = 2)
    let r1 := if want up1 then crossSeg w a d up1 0 v else none
    let r2 := if v < hi && want up2 then crossSeg w a d up2 v hi else none
    match (match r1 with | some m => some m | none => r2) with
    | some m => some (p.tRef + max 1 (m / 2))
    | none => none

/-- First occurrence of a TIME entry at or after a stamp (R85). -/
def nextTime (period phase t : Nat) : Stamp :=
  if period = 0 then t else t + (phase + period - t % period) % period

end Sys2Proof.Machine
end

