-- ==== Sys2Proof/Machine/Timeline.lean ====
section
/-!
DEFINITION. Network time (R64 to R76): INCREMENT, steps, servo modes, time status, the timeline opcodes that write
configuration (rally lists, TIO pins), and the Ethernet transmit-stamp queue's read (R78).
-/

namespace Sys2Proof.Machine

/-- A stored value also waits for its write to the NOR where the object is RETAINED (R132). -/
def State.keep (s : State) (i : Nat) : State :=
  match descOf i with
  | some d => if d.per = 1 && !s.dict.dirty.contains i then { s with dict := { s.dict with dirty := s.dict.dirty ++ [i] } } else s
  | none => s

/-- Store a RETAINED value by a session. -/
def State.setKept (s : State) (sess i v : Nat) : State := (s.setObjBy sess i v).keep i

def State.servoSel (s : State) : Nat := s.obj Obj.TIM_SERVO_SEL

/-- A change of time status posts TIME_STATUS from source 0x00 (R71). -/
def State.setStatus (s : State) (n : TqStatus) (cause : Nat) : State :=
  if s.tl.status = n then s
  else
    let o := s.tl.status
    let s := { s with tl := { s.tl with status := n, slew := false, lockRun := 0, unlockRun := 0, holdRun := 0, holdBad := false,
                                        holdEntry := match n with
          | .holdover => some s.clk
          | _ => none } }
    s.post 0 0x0201 0xFF (o.code + n.code * 2 ^ 8 + s.servoSel * 2 ^ 16 + cause * 2 ^ 24)

/-- Length of the grandmaster timeout: three Sync intervals (R71). -/
def gmTimeoutLen (logSync : Int) : Nat :=
  if logSync < 0 then 3 * 4000000000 / 2 ^ (-logSync).toNat else 3 * 4000000000 * 2 ^ logSync.toNat

/-- Write INCREMENT by a servo: at once, or APPLY_DELAY later on both devices of a Flask (R329). -/
def State.servoInc (s : State) (v : Nat) : State :=
  if s.inFlask && s.isActive then s.mirrorPut s.now (.increment v) else s.setInc v

/-- Occurrences of a slice's TIME entries inside a skipped range are counted, and each entry goes on after it (R69); a
fenced slice's do not count (R87). -/
def State.skipTimes (s : State) (prev after : Nat) : State :=
  (List.range 6).foldl (fun s k => (List.range 64).foldl (fun s e =>
    let v := s.obj (0x8100 + 0x40 * k + e)
    if bit v 127 && bits v 126 125 = 0 && !s.fenced k then
      let per := bits v 63 32
      let first := nextTime per (bits v 31 0) (prev + 1)
      let n := if first < after then (after - 1 - first) / (max per 1) + 1 else 0
      let s := s.setObj (Obj.TIM_RALLY_SKIP + k) (min 0xFFFFFFFF (s.obj (Obj.TIM_RALLY_SKIP + k) + n))
      s.modSl k fun sl => { sl with rally := bset sl.rally e { bget {} sl.rally e with next := nextTime per (bits v 31 0) after } }
    else s) s) s

/-- Trailing edges of TIO pulses inside a skipped range do not occur and are counted (R69). -/
def State.skipTio (s : State) (after : Nat) : State :=
  (List.range 8).foldl (fun s n =>
    match (s.tioU n).trailing with
    | some (t, _) =>
      if t < after then
        let k := bits (s.obj (Obj.TIM_TIO_CFG + n)) 31 24
        (s.setTio n { s.tioU n with trailing := none }).bump (Obj.TIM_RALLY_SKIP + k) 0xFFFFFFFF
      else s
    | none => s) s

/-- The last stamp that the counter issued before this tick. -/
def State.prevStamp (s : State) : Stamp := (s.time.ctr * 2 ^ 32 + s.time.frac - s.time.inc) / 2 ^ 32

/-- A forward step of `a` units on this tick (R67, R69). The record's body is `prev`, the last stamp before the step; the stamps
skipped are those after `low`, which for a second step on one tick is the one that the first has passed over. -/
def State.stepFrom (s : State) (prev low : Stamp) (a : Nat) : State :=
  let after := s.time.ctr + a
  let s := s.skipTimes low after
  let s := s.skipTio after
  let s := { s with time := { s.time with ctr := after % 2 ^ 64 }, tl := { s.tl with steps := s.tl.steps + a } }
  let s := s.post 0 0x0200 0xFF prev
  let s := { s with tl := { s.tl with stepped := true } }
  s.bump Obj.TIM_STEP_COUNT 0xFFFFFFFF

def State.stepBy (s : State) (a : Nat) : State := s.stepFrom s.prevStamp s.prevStamp a

/-- Pending steps are cancelled: their commands complete with ST_STATE (R68). -/
def State.cancelStep (s : State) : State :=
  (s.tl.pendStep.filterMap PendStep.cmd).foldl (fun (s : State) d => s.finish d stState [])
    { s with tl := { s.tl with pendStep := [] } }

/-- The tick that a new INCREMENT is in force from already adds it: the pair as the tick before left it, plus the new
value (R64). -/
def Time.retick (t : Time) (c : Nat) : Time :=
  let sum := t.ctr * 2 ^ 32 + t.frac - t.inc + c
  { t with ctr := sum / 2 ^ 32 % 2 ^ 64, frac := sum % 2 ^ 32 }

/-- INCREMENT as the narrow band takes it. -/
def Time.narrow (t : Time) : Nat := clampNat t.inc (bandLo true) (bandHi true)

/-- INCREMENT at the tick an enable takes effect: clamped into the narrow band with TIME_CLAMP (R64). -/
def State.clampForEnable (s : State) (k : Nat) : State :=
  if s.time.narrow = s.time.inc then s else (s.setInc s.time.narrow).post 0 0x0202 k s.time.inc

/-- The counter on a tick that adds the clamped INCREMENT. Where an earlier row of the tick (`first` is false) may have issued its
stamp, the counter is not taken behind that stamp (R67): the model's choice (log entry 11). -/
def Time.narrowed (t : Time) (first : Bool) : Time :=
  let r := t.retick t.narrow
  if first || t.ctr ≤ r.ctr then r else { t with frac := 0 }

/-- A command that may enable a slice. Where it does so with INCREMENT outside the narrow band, its tick already adds the clamped
value, before the command has any stamp (R64, R67). -/
def State.enabling (dt : Nat) (f : State → State) (s : State) : State :=
  if (f s).time.inc = s.time.inc then f s
  else if (List.range 6).any fun k => !s.enabled k && (f s).enabled k then f { s with time := s.time.narrowed (decide (0 < dt)) }
  else f s

/-! ## Offsets (Table 4.4) -/

/-- The servo's correction in LOCKING, and inside the thresholds (Table 4.4). -/
def State.correct (s : State) (off : Int) : State :=
  let th : Int := s.obj Obj.TIM_STEP_THRESH * 4000
  let narrow := s.anyEnabled
  if off < -th then
    let s := s.servoInc (bandLo narrow)
    { s with tl := { s.tl with slew := true } }
  else if off > th then
    if narrow then
      let s := s.servoInc (bandHi narrow)
      { s with tl := { s.tl with slew := true } }
    else if s.inFlask && s.isActive then s.mirrorPut s.now (.stepBy off.toNat)
    else s.stepBy off.toNat
  else
    let (v, e) := Config.servo s.tl.servoEst off narrow
    let s := s.servoInc (clampNat v (bandLo true) (bandHi true))
    { s with tl := { s.tl with slew := false, servoEst := e } }

/-- The PI servo inside the narrow band (Table 4.4, SYNCED). -/
def State.servoPi (s : State) (off : Int) : State :=
  let (v, e) := Config.servo s.tl.servoEst off true
  let s := s.servoInc (clampNat v (bandLo true) (bandHi true))
  { s with tl := { s.tl with servoEst := e } }

/-- A valid measurement of the offset (R71, Table 4.4). That the first valid Sync, which leads to LOCKING, counts toward the
8 consecutive ones is the model's choice (log entry 52). -/
def State.measure (s : State) (off : Int) : State :=
  let a := off.natAbs
  let s := s.setObj Obj.TIM_OFFSET (unsgn 64 off)
  let good := decide (a ≤ s.obj Obj.TIM_LOCK_THRESH)
  match s.tl.status with
  | .unsynced =>
    let s := s.setStatus .locking 0
    let s := { s with tl := { s.tl with err := some a, lockRun := if good then 1 else 0, errs := (a :: s.tl.errs).take 8 } }
    s.correct off
  | .locking =>
    let run := if good then s.tl.lockRun + 1 else 0
    let errs := (a :: s.tl.errs).take 8
    let s := { s with tl := { s.tl with err := some a, lockRun := run, errs := errs } }
    if run ≥ 8 then
      let s := s.setStatus .synced 0
      ({ s with tl := { s.tl with err := some (errs.foldl max 0) } }).servoPi off
    else s.correct off
  | .synced =>
    let errs := (a :: s.tl.errs).take 8
    let run := if a > s.obj Obj.TIM_UNLOCK_THRESH then s.tl.unlockRun + 1 else 0
    let s := { s with tl := { s.tl with errs := errs, err := some (errs.foldl max 0), unlockRun := run } }
    if run ≥ 4 then
      let s := s.setStatus .locking 0
      let s := { s with tl := { s.tl with err := some a } }
      s.correct off
    else s.servoPi off
  | .holdover =>
    let run := s.tl.holdRun + 1
    let bad := s.tl.holdBad || !good
    let errs := (a :: s.tl.errs).take 8
    let s := { s with tl := { s.tl with holdRun := run, holdBad := bad, errs := errs } }
    if run ≥ 8 then
      let s := s.setStatus (if bad then .locking else .synced) 0
      { s with tl := { s.tl with err := some (if bad then a else errs.foldl max 0) } }
    else s

/-- The grandmaster or time source is lost or has changed (Table 4.4). In HOLDOVER the 8 Syncs may come from any
grandmaster, and their count goes on. -/
def State.gmLost (s : State) (cause : Nat) : State :=
  match s.tl.status with
  | .locking =>
    let s := s.servoInc (clampNat s.tl.servoEst (bandLo true) (bandHi true))
    s.setStatus .unsynced cause
  | .synced => s.setStatus .holdover cause
  | .holdover => s
  | .unsynced => s

/-! ## Port states (R373) -/

def Eth.ptp (u : Eth) : Bool := u.on && u.link && bit (byteAt u.cfg 3) 0

/-- The device's own priority vector on a port: priority1, clock class 248, priority2; none where it is not
grandmaster-capable. -/
def Eth.ownPrio (u : Eth) : Option Nat :=
  if byteAt u.cfg 24 = 255 then none else some (byteAt u.cfg 24 * 65536 + 248 * 256 + byteAt u.cfg 25)

/-- A priority vector better than the device's own on that port. -/
def Eth.better (u : Eth) : Bool :=
  match u.bestPrio, u.ownPrio with
  | some a, some o => decide (a < o)
  | some _, none => true
  | none, _ => false

/-- The port that has the best grandmaster, if any. -/
def State.bestPort (s : State) : Option Nat :=
  let ok := fun (p : Nat) => (s.ethU p).ptp && (s.ethU p).asCapable && (s.ethU p).better && bit (s.obj Obj.TIM_SERVO_PORTS) p
  match ok 0, ok 1 with
  | true, true => if (s.ethU 1).bestPrio.getD 0 < (s.ethU 0).bestPrio.getD 0 then some 1 else some 0
  | true, false => some 0
  | false, true => some 1
  | false, false => none

/-- Port states by the best master clock algorithm: at most one slave, the others passive or master (R373). -/
def State.bmca (s : State) : State :=
  let b := s.bestPort
  [0, 1].foldl (fun (s : State) p => s.modEth p fun u =>
    let st := if !(u.ptp && u.asCapable) then 0 else if b = some p then 2 else if u.better || u.ownPrio.isNone || b.isSome then 1 else 3
    { u with portState := st, gm := st = 3 }) s

/-- The slave port, whose grandmaster the device follows. -/
def State.slavePort (s : State) : Option Nat := [0, 1].find? fun p => (s.ethU p).portState = 2

/-- The grandmaster that the port states select, whatever the servo mode (R70, R373). -/
def State.selectGm (s : State) : State :=
  { s.bmca with tl := { s.bmca.tl with gm := s.bmca.slavePort.map fun p => (s.bmca.ethU p).gmId } }

/-- Run the algorithm; in BUILTIN a change of the grandmaster the slave port follows is a grandmaster change (Table 4.4). -/
def State.runBmca (s : State) : State :=
  let t := s.selectGm
  if t.servoSel = 0 && s.tl.gm.isSome && s.tl.gm ≠ t.tl.gm && (!t.inFlask || t.isActive) then t.gmLost 2 else t

/-- Length of the grandmaster timeout: three Sync intervals, as the grandmaster selected last announced them; 375 ms where
none is selected (R70, R71). -/
def State.gmLen (s : State) : Nat :=
  gmTimeoutLen (match s.slavePort with
    | some p => (s.ethU p).logSync
    | none => -3)

/-- The port gives up its port state; a slave port takes its grandmaster with it (Table 4.4). -/
def State.portDown (s : State) (p : Nat) : State :=
  (s.modEth p fun u => { u with asCapable := false, bestPrio := none }).runBmca

/-! ## TIM_SET_INCREMENT, TIM_STEP, TIM_SERVO_MODE (R75, R76) -/

/-- The servo mode lets the host steer (Table 4.3). -/
def State.hostSteers (s : State) : Bool := s.servoSel = 1 || s.servoSel = 2

/-- The host watchdog's deadline: it restarts on the accepted stamp (R72), which in a Flask lies before the tick on which
the command is executed; a later deadline stands. -/
def State.hostLimit (s : State) : Option Nat :=
  some (max (s.tl.hostDeadline.getD 0) (s.clk - (s.now - s.accStamp) + s.obj Obj.TIM_HOST_WATCHDOG * msUnits))

def opSetIncrement (p : Pkt) (s : State) : Res :=
  let b := p.payload
  let v := le b 0 5
  let claim := byteAt b 5
  let apply := le b 8 8
  let host := s.servoSel = 1
  if !lenIs p 16 then s.fail stBadLength
  else if !s.hostSteers then s.fail stState
  else if !zeros b 6 2 || v < bandLo s.anyEnabled || v > bandHi s.anyEnabled || (!host && claim ≠ 0) || claim / 64 = 3 then s.fail stRange
  else if s.tooLate apply then s.fail stTooLate
  else
    let t := s.deferCur
    { st := { t with tl := { t.tl with
        pendInc := t.tl.pendInc ++ [{ value := v, claim := claim, apply := if apply = 0 then s.now + 1 else apply, cmd := s.cur }]
        hostDeadline := if host then s.hostLimit else t.tl.hostDeadline } }
      later := true }

/-- One waiting increment applies (R64, R72, R76). R68 cancels only a step when the servo mode changes: that an increment
which waits over such a change still applies, and completes with ST_OK, is the model's choice (log entry 52). -/
def State.applyInc (s : State) (p : PendInc) : State :=
  let s := { s with tl := { s.tl with pendInc := s.tl.pendInc.erase p } }
  let narrow := s.anyEnabled
  let c := clampNat p.value (bandLo narrow) (bandHi narrow)
  let s := s.setInc c
  let s := { s with time := { s.time with incBy := p.cmd.elim 0xFE fun d => d.pkt.session.toNat } }
  let s := if c ≠ p.value then s.post 0 0x0202 0xFF p.value else s
  let s := if s.servoSel = 1 then
      let n := if p.claim / 64 = 0 then TqStatus.unsynced else if p.claim / 64 = 1 then .locking else .synced
      let s := s.setStatus n 6
      { s with tl := { s.tl with err := if p.claim % 16 = 15 then none else some (4 * 2 ^ (p.claim % 16)) } }
    else s
  match p.cmd with
  | some d => s.finish d stOk (toLE 8 s.now)
  | none => s

def effIncrementApply (s : State) : State :=
  (s.tl.pendInc.filter (fun p => p.apply ≤ s.now)).foldl (fun s p => s.applyInc p) s

def opStep (p : Pkt) (s : State) : Res :=
  let b := p.payload
  let amount := le b 0 8
  let apply := le b 8 8
  if !lenIs p 16 then s.fail stBadLength
  else if s.anyEnabled || !s.hostSteers then s.fail stState
  else if amount = 0 || amount ≥ 2 ^ 63 then s.fail stRange
  else if s.tooLate apply then s.fail stTooLate
  else
    let t := s.deferCur
    { st := { t with tl := { t.tl with
        pendStep := t.tl.pendStep ++ [{ amount := amount, apply := if apply = 0 then s.now + 1 else apply, cmd := s.cur }] } }
      later := true }

/-- One waiting step applies, and its command completes with the stamps before and after it (R68). -/
def State.applyStep (s : State) (prev low : Stamp) (p : PendStep) : State :=
  let s := s.stepFrom prev low p.amount
  match p.cmd with
  | some d => s.finish d stOk (toLE 8 prev ++ toLE 8 s.now)
  | none => s

/-- A waiting step applies on the first tick whose value without it is at or after its apply stamp (R68). Steps that are due on
one tick apply one after the other. -/
def effTimeStepApply (s : State) : State :=
  if s.anyEnabled then s
  else
    let (due, rest) := s.tl.pendStep.partition fun p => p.apply ≤ s.now
    let prev := s.prevStamp
    let s := { s with tl := { s.tl with pendStep := rest } }
    match due with
    | [] => s
    | p :: l => l.foldl (fun (s : State) q => s.applyStep prev (s.now - 1) q) (s.applyStep prev prev p)

def opServoMode (p : Pkt) (s : State) : Res :=
  let b := p.payload
  let mode := byteAt b 0
  let mask := byteAt b 1
  if !lenIs p 8 then s.fail stBadLength
  else if mode > 3 || mask > 3 || (mode = 0 && mask = 0) || (mode ≠ 0 && mask ≠ 0) || !zeros b 2 6 then s.fail stRange
  else if s.mu.norBad then s.fail stInternal
  else ({ s with tl := { s.tl with pendMode := some (mode, mask, s.now, p.session.toNat) } }).okay

/-- A new servo mode applies on the tick after acceptance (R70): the guarding timer starts, a waiting step is cancelled
by BUILTIN or RING, FREE makes the status UNSYNCED. -/
def effServoModeApply (s : State) : State :=
  match s.tl.pendMode with
  | some (mode, mask, at_, sess) =>
    if at_ < s.now then
      let s := { s with tl := { s.tl with pendMode := none } }
      let s := s.setKept sess Obj.TIM_SERVO_SEL mode
      let s := if mode = 0 then (s.setKept sess Obj.TIM_SERVO_PORTS mask).selectGm else s
      let s := { s with tl := { s.tl with
        lockRun := 0, unlockRun := 0, holdRun := 0, slew := s.tl.slew && (mode = 0 || mode = 3)
        hostDeadline := if mode = 1 then some (s.clk + s.obj Obj.TIM_HOST_WATCHDOG * msUnits) else none
        gmDeadline := if mode = 0 then some (s.clk + s.gmLen)
          else if mode = 3 then some (s.clk + 3 * msUnits) else none } }
      let s := if mode = 0 || mode = 3 then s.cancelStep else s
      if mode = 2 then s.setStatus .unsynced 4 else s
    else s
  | none => s

/-! ## Syncs and the timers of the time status -/

/-- The stamp of a PTP timestamp (R61); its correction is rounded to the nearest stamp unit. -/
def ptpStamp (x : PtpTime) : Int := 4 * (1000000000 * x.seconds + x.nanos : Nat) + (x.corr + 2 ^ 13) / 2 ^ 14

/-- The PTP timestamp of a stamp (R61). -/
def ptpTime (t : Stamp) : PtpTime := { seconds := t / 4000000000, nanos := t % 4000000000 / 4, corr := (t % 4 : Nat) * 2 ^ 14 }

/-- The SFD stamp of a frame at a port: of this tick, as far as the MAC resolves it, 0.8 ns at 1000 Mbit/s and 8 ns below
(R77). Where within that resolution, or within the tick, it lies is left free (log entry 55). -/
def State.sfdStamp (s : State) (p : Nat) : Stamp :=
  s.now - Config.sfdOffset p s.tick % (if (s.ethU p).speed = 3 then 10 else 32)

/-- The corrected receive stamp of a frame whose SFD passes now; ASYM counts for a Sync message only (R77). -/
def State.rxStamp (s : State) (p : Nat) (sync : Bool) : Stamp :=
  ((s.sfdStamp p : Int) - s.obj (Obj.ETH0_RX_LAT + 0x10 * p) -
    (if sync then sgn 32 (s.obj (Obj.ETH0_ASYM + 0x10 * p)) else 0)).toNat

/-- A valid Sync (R71, R373): with its follow-up, on a slave-state, asCapable port of TIM_SERVO_PORTS, from the parent. -/
def State.syncValid (s : State) (port : Fin 2) (source : Nat) (followUp : Bool) : Bool :=
  let u := s.ethU port.val
  s.isReady && !s.cpStands && s.servoSel = 0 && bit (s.obj Obj.TIM_SERVO_PORTS) port.val && u.on && u.portState = 2 && u.asCapable
      && u.parent = source && followUp && (!s.inFlask || s.isActive)

/-- A Sync with its follow-up (R71, R373). -/
def effPtpSyncRx (port : Fin 2) (source : Nat) (gmTime : PtpTime) (logSync : Int) (followUp : Bool) (s : State) : State :=
  if s.syncValid port source followUp then
    let off := ptpStamp gmTime - s.rxStamp port.val true
    let s := s.modEth port.val fun u => { u with logSync := logSync }
    let s := { s with tl := { s.tl with gmDeadline := some (s.clk + gmTimeoutLen logSync) } }
    s.measure off
  else s

/-- A valid Sync arrives on this tick, and meets its deadline (R66). -/
def State.syncComes (s : State) : Bool :=
  s.awaits fun i => match i with
    | .ptpSyncRx _ port source _ _ f => s.syncValid port source f
    | _ => false

/-- Whether this device judges its time sources: the standby of a Flask takes its time status from the active (R333). -/
def State.ownTime (s : State) : Bool := !s.inFlask || s.isActive

def effGmTimeout (s : State) : State :=
  match s.tl.gmDeadline with
  | some d =>
    if s.servoSel = 0 && d ≤ s.clk && s.ownTime && !s.syncComes then ({ s with tl := { s.tl with gmDeadline := none } }).gmLost 1 else s
  | none => s

/-- An ALIGN response arrives on this tick (R66). -/
def State.alignComes (s : State) : Bool :=
  s.awaits fun i => match i with
    | .ringAlignRx _ _ response t1 _ _ => response && s.ring.alignT1 = some t1
    | _ => false

def effRingAlignTimeout (s : State) : State :=
  match s.tl.gmDeadline with
  | some d =>
    if s.servoSel = 3 && d ≤ s.clk && s.ownTime && !s.alignComes then ({ s with tl := { s.tl with gmDeadline := none } }).gmLost 1 else s
  | none => s

/-- A claim that the host has given applies on this tick (R66, R72). -/
def State.claimComes (s : State) : Bool :=
  s.servoSel = 1 && s.tl.pendInc.any (fun p => p.apply ≤ s.now) && s.awaits fun i => match i with
    | .incrementApply _ => true
    | _ => false

/-- What ends HOLDOVER arrives on this tick: the eighth valid Sync or ALIGN response, or a claim (R66). -/
def State.holdoverEnds (s : State) : Bool := (decide (7 ≤ s.tl.holdRun) && (s.syncComes || s.alignComes)) || s.claimComes

/-- TIM_HOLDOVER_MAX has passed since entry to HOLDOVER (Table 4.4). -/
def effHoldoverMaxExpire (s : State) : State :=
  match s.tl.holdEntry with
  | some t =>
    if s.tl.status = .holdover && t + s.obj Obj.TIM_HOLDOVER_MAX * sUnits ≤ s.clk && s.ownTime && !s.holdoverEnds then
      s.setStatus .unsynced 3
    else s
  | none => s

/-- A TIM_SET_INCREMENT that the CP can take arrives on this tick (R66). -/
def State.incrementComes (s : State) : Bool :=
  s.awaits fun i => match i with
    | .timSetIncrement _ p => s.cpTakes && (s.takeEntry (p.asRow 0x4000)).isSome && (opSetIncrement (p.asRow 0x4000) s).later
    | _ => false

/-- The host watchdog expires (R72). -/
def effHostWatchdogExpire (s : State) : State :=
  match s.tl.hostDeadline with
  | some d =>
    if s.servoSel = 1 && d ≤ s.clk && s.ownTime && !s.incrementComes then
      let s := { s with tl := { s.tl with hostDeadline := none } }
      match s.tl.status with
      | .synced => s.setStatus .holdover 5
      | .locking => s.setStatus .unsynced 5
      | _ => s
    else s
  | none => s

/-! ## Rally lists and TIO pins (R84 to R90) -/

/-- Whether ARG names nothing beyond what Table 12 of the chapter gives the action, and in range (Table 4.12). -/
def State.argOk (s : State) (slice action arg : Nat) : Bool :=
  match action with
  | 0 => arg < 64
  | 1 => arg < 1024 && bits arg 7 3 = 0
  | 2 => arg < 8
  | 3 => arg < 64
  | 4 =>
    let cfg := s.obj (Obj.TIM_TIO_CFG + arg % 8)
    let out := bits cfg 15 8 = 2
    arg < 64 && bit arg 3 = false && (!out || bits cfg 31 24 = slice) &&
      (bits arg 5 4 ≠ 3 || !out || bits cfg 63 32 ≠ 0)
  | 5 =>
    let cfg := s.obj (Obj.TIM_TIO_CFG + arg % 8)
    arg < 8 && (bits cfg 15 8 ≠ 2 || bits cfg 31 24 = slice)
  | 6 => true
  | _ => false

/-- The checks of a rally entry (Tables 4.11, 4.12; R85): reserved fields always, trigger and action with EN 1. -/
def State.rallyOk (s : State) (slice v : Nat) : Bool :=
  bits v 117 112 = 0 && bits v 103 96 = 0 && bits v 79 64 = 0 &&
  (!bit v 127 ||
    (let trig := bits v 126 125
     let dir := bits v 124 123
     trig ≠ 3 && dir ≠ 3 && (trig = 1 || dir = 0) && !(trig = 2 && bit v 122) &&
     (if trig = 0 then decide (400 ≤ bits v 63 32) && decide (bits v 31 0 < bits v 63 32) else bits v 31 0 = 0) &&
     s.argOk slice (bits v 120 118) (bits v 95 80)))

/-- A rally entry is (re)written on this tick: its count starts afresh and its committed stamp is gone (R85, R88). -/
def State.rallyStart (s : State) (k e : Nat) : State :=
  let v := s.obj (0x8100 + 0x40 * k + e)
  let r : RallyDyn :=
    { occ := 0, next := if bits v 126 125 = 0 then nextTime (bits v 63 32) (bits v 31 0) (s.now + 1) else s.now + 1, committed := none,
      writtenAt := some s.now, writtenAng := (s.sl k).pred.posAt s.now }
  s.modSl k fun sl => { sl with rally := bset sl.rally e r }

/-- Table 4.13. -/
def tioOk (b : List Byte) : Bool :=
  let mode := byteAt b 1
  let x := byteAt b 2
  byteAt b 0 ≤ 7 && mode ≤ 2 && zeros b 9 3 &&
  (if mode = 1 then decide (1 ≤ x ∧ x ≤ 3) else if mode = 2 then decide (x ≤ 1) else decide (x = 0)) &&
  (if mode = 2 then decide (byteAt b 3 ≤ 5) else zeros b 3 5) &&
  (if mode = 1 then decide (byteAt b 8 ≤ 15) else zeros b 8 1)

def opTioConfig (p : Pkt) (s : State) : Res :=
  let b := p.payload
  let n := byteAt b 0
  if !lenIs p 12 then s.fail stBadLength
  else if !tioOk b then s.fail stRange
  else if s.mu.norBad then s.fail stInternal
  else
    let t := s.setKept p.session.toNat (Obj.TIM_TIO_CFG + n) (le b 0 12)
    (t.setTio n { t.tioU n with level := byteAt b 1 = 2 && byteAt b 2 = 1, trailing := none }).okay

/-! ## Transmit stamps (R78) -/

/-- A transmit-timestamp entry (Table 4.8) as a number of 12 bytes. -/
def TxStamp.val (t : TxStamp) : Nat := t.stamp % 2 ^ 64 + t.tag * 2 ^ 64 + t.tq * 2 ^ 80

/-- A read of ETHn_TXTS_POP: the oldest entry, removed; 0 from an empty queue. -/
def State.popTxts (s : State) (p : Nat) : Nat × State :=
  match (s.ethU p).txts with
  | t :: r => (t.val, s.modEth p fun u => { u with txts := r })
  | [] => (0, s)

/-! ## The commands -/

def execTimSetIncrement (dt : Nat) (p : Pkt) (s : State) : Host.Outcome State Fault Refusal :=
  .next (s.run dt (effCmd (p.asRow 0x4000) opSetIncrement))
def execIncrementApply (dt : Nat) (s : State) : Host.Outcome State Fault Refusal := .next (s.runT dt effIncrementApply)
def execTimStep (dt : Nat) (p : Pkt) (s : State) : Host.Outcome State Fault Refusal :=
  .next (s.run dt (effCmd (p.asRow 0x4001) opStep))
def execTimeStepApply (dt : Nat) (s : State) : Host.Outcome State Fault Refusal := .next (s.runT dt effTimeStepApply)
def execTimServoMode (dt : Nat) (p : Pkt) (s : State) : Host.Outcome State Fault Refusal :=
  .next (s.run dt (effCmd (p.asRow 0x4002) opServoMode))
def execServoModeApply (dt : Nat) (s : State) : Host.Outcome State Fault Refusal := .next (s.run dt effServoModeApply)
def execTimTioConfig (dt : Nat) (p : Pkt) (s : State) : Host.Outcome State Fault Refusal :=
  .next (s.run dt (effCmd (p.asRow 0x4020) opTioConfig))
def execPtpSyncRx (dt : Nat) (port : Fin 2) (source : Nat) (gmTime : PtpTime) (logSync : Int) (followUp : Bool) (s : State) :
    Host.Outcome State Fault Refusal := .next (s.runT dt (effPtpSyncRx port source gmTime logSync followUp))
def execGmTimeout (dt : Nat) (s : State) : Host.Outcome State Fault Refusal := .next (s.runT dt effGmTimeout)
def execHoldoverMaxExpire (dt : Nat) (s : State) : Host.Outcome State Fault Refusal := .next (s.run dt effHoldoverMaxExpire)
def execHostWatchdogExpire (dt : Nat) (s : State) : Host.Outcome State Fault Refusal := .next (s.run dt effHostWatchdogExpire)
def execRingAlignTimeout (dt : Nat) (s : State) : Host.Outcome State Fault Refusal := .next (s.runT dt effRingAlignTimeout)

end Sys2Proof.Machine
end

