-- ==== Sys2Proof/Machine/ObjectView.lean ====
section
/-!
DEFINITION. What a read of an object returns (R127, R130, R131): the stored value, or, for an object that shows a
unit's state, that state. Reads that change state (a pop, a probe latch) are here too.
-/

namespace Sys2Proof.Machine

/-! ## Modulator clocks (R136, R137) -/

def State.mclkCfg (s : State) (g : Nat) : Nat := s.obj (Obj.SD_MCLK_CFG + g)
def State.groupExt (s : State) (g : Nat) : Bool := bit (s.mclkCfg g) 14

/-- A group has a running clock: MCLK_IN while its edges come, or its own divider once started. -/
def State.groupClocked (s : State) (g : Nat) : Bool :=
  if s.groupExt g then s.mclk.inRun else bit (s.mclkCfg g) 15 && (bfind s.mclk.started g).isSome

/-! ## Codes of states -/

def Role.code : Role → Nat
  | .none => 0 | .standby => 1 | .candidate => 2 | .active => 3

def StepSt.code : StepSt → Nat
  | .none => 0 | .joining => 1 | .resync => 2 | .inStep => 3 | .outOfStep => 4 | .loose => 5

/-- Open sessions. -/
def State.sessCount (s : State) : Nat := ((List.range 64).filter (fun n => (s.sess n).isSome)).length

/-- A slice is in degraded mode (R307). -/
def State.degraded (s : State) (k : Nat) : Bool := !(s.rs k).degCauses.isEmpty

/-- Health penalties and health (Table 13.3). -/
def State.health (s : State) : Nat :=
  if s.flk.role = .standby && (s.flk.step = .outOfStep || s.flk.step = .loose) then 0
  else
    let cnt := fun (l : List Nat) => (l.filter s.fenced).length
    let links := ((List.range 24).filter (fun l =>
      let g := s.obj (Obj.GL_CFG + l)
      s.fenced (24 + l) && bit g 63 && decide (bits g 62 60 < 6) && s.enabled (bits g 62 60))).length
    let used := ((List.range 64).filter (fun n => s.fenced (64 + n) && (List.range 6).any (fun k =>
        (List.range 16).any (fun j => let v := s.obj (slc k (Obj.SLC_SD_SLOT + j)); bit v 127 && bits v 119 114 = n)))).length
      + ((List.range 8).filter (fun n => s.fenced (16 + n) && decide (bits (s.obj (Obj.ENC_CFG + n)) 124 122 < 6))).length
      + ((List.range 4).filter (fun u => s.fenced (12 + u) && decide (bits (s.obj (Obj.AUX_CFG + u)) 28 26 < 7))).length
    let thr := s.obj Obj.MGT_THERM_STAT
    63 - (16 * (cnt [0, 1, 2, 3, 4, 5] + cnt [6, 7] + links) + 8 * b2n s.ref.compareFault
      + 8 * b2n ((List.range 6).any s.degraded) + 4 * used + (if bit thr 4 then 4 else if bit thr 3 then 2 else 0))

/-- Node ID of the binding in force (R396). -/
def State.nodeId (s : State) : Nat := match s.mu.bound with | some b => b.node | none => 0

/-- The device's claim (Table 13.2). -/
def State.claim (s : State) : Nat := s.flk.role.code * 2 ^ 14 + s.health * 2 ^ 8 + s.nodeId % 256

/-- Owner of a sensing channel: 0 none, 1 slot, 2 monitor, 3 monitor promoted (Table 6.12). -/
def State.sdSlots (s : State) (n : Nat) : Bool := (List.range 6).any (fun k => (List.range 16).any (fun j =>
  let v := s.obj (slc k (Obj.SLC_SD_SLOT + j)); bit v 127 && bits v 119 114 = n))

def State.sdPromoted (s : State) (n : Nat) : Bool := (List.range 6).any (fun k => (List.range 16).any (fun j =>
  bit (s.obj (slc k Obj.SLC_SD_PROMOTED)) j && bits (s.obj (slc k (Obj.SLC_SD_SLOT + j))) 113 106 = n))

def State.sdOwner (s : State) (n : Nat) : Nat :=
  if bit (s.obj (Obj.SAF_SD_MON + n)) 127 then (if s.sdPromoted n then 3 else 2)
  else if s.sdSlots n then 1 else 0

/-- ENG_STATE of a context (Table 9.15): 0 UNDEFINED, 1 IDLE, 2 PRIMING, 3 RUNNING, 4 FAULTED. -/
def State.ctxState (s : State) (c : Nat) : Nat :=
  let x := s.ctx c
  if x.hdr = 0 then 0 else if x.fault then 4
  else if !s.enabled (bits x.hdr 239 237) then 1
  else if x.primeLeft > 0 || !x.primed then 2 else 3

/-- Committed contexts with a property of their headers. -/
def State.ctxWith (s : State) (f : Nat → Bool) : List Nat :=
  (List.range 64).filter fun c => (s.ctx c).hdr ≠ 0 && f (s.ctx c).hdr

def hdrRate (h : Nat) : Nat := bits h 191 160

/-- Committed rate sum of a matrix unit (Table 9.17). -/
def State.rateSum (s : State) (unit : Nat) : Nat :=
  ((s.ctxWith fun h => bits h 236 236 = unit).map fun c => hdrRate (s.ctx c).hdr).sum

/-- Whether every context on one unit exceeds it at full rate, so that throttle needs halving (R221 check 7). -/
def State.shedReq (s : State) : Bool := decide (s.rateSum 0 + s.rateSum 1 > 6400000)

/-- Enforced thermal throttle (R380). -/
def State.throttled (s : State) : Bool := bit (s.obj Obj.MGT_THERM_STAT) 4

/-- Halving is in force (R229, Table 16.4a). -/
def State.shedding (s : State) : Bool := (s.throttled || s.fenced 6 || s.fenced 7) && s.shedReq

/-- A context's unit is stopped, so that it runs on the other one: MX1 under throttle or a fence, MX0 under a fence. While
MX0 is fenced, MX1 goes on under throttle (R229, R426). -/
def State.moved (s : State) (h : Nat) : Bool :=
  if bit h 236 then !s.fenced 6 && (s.throttled || s.fenced 7) else s.fenced 6

/-- A slice in progress is cut short: straight to copy-back (R415, R416). -/
def Dia.preempt (d : Dia) : Dia :=
  { d with cur := d.cur.map fun c => if c.phase < 2 then { c with phase := 2, result := if c.result = 1 then 1 else 2 } else c }

/-- The banks of a fenced unit's memory (Table 16.1). -/
def fenceBanks (k : Nat) (b : Nat) : Bool := (k = 6 || k = 7) && 8 ≤ b && b ≤ 11 || (8 ≤ k && k ≤ 11 && 12 ≤ b && b ≤ 15)

/-- Fence a unit (R425); a slice on its memory is pre-empted (R416). -/
def State.fence (s : State) (k : Nat) : State :=
  let d := { s.dia with fence := s.dia.fence ||| 2 ^ k }
  { s with dia := if d.cur.any fun c => fenceBanks k c.bank then d.preempt else d }

/-- Four values of an image as one number of 16 bytes. -/
def coefWord (img : Bank F32) (w : Nat) : Nat :=
  (bget 0#32 img (4 * w)).toNat + (bget 0#32 img (4 * w + 1)).toNat * 2 ^ 32
    + (bget 0#32 img (4 * w + 2)).toNat * 2 ^ 64 + (bget 0#32 img (4 * w + 3)).toNat * 2 ^ 96

/-- A capture as TIM_TIO_CAPT_n shows it: R90 names no layout, and the model gives the stamp, the level in bit 64 and the
sequence from bit 96; an empty queue reads 0 (log entry 52). -/
def TioCapt.val (c : TioCapt) : Nat := c.stamp % 2 ^ 64 + b2n c.level * 2 ^ 64 + c.seq * 2 ^ 96

/-- DIA_FAIL_n as a number (Table 16.4). -/
def DiaFail.val (f : DiaFail) : Nat :=
  f.stamp % 2 ^ 64 + f.bank * 2 ^ 64 + f.elem * 2 ^ 72 + f.row * 2 ^ 80 + f.word * 2 ^ 96 + f.bit * 2 ^ 104
    + b2n f.expected * 2 ^ 112 + (b2n f.isRead + 2 * b2n f.user) * 2 ^ 120

/-- Bank information (Table 15.13). -/
def FwBank.val (b : FwBank) : Nat :=
  b.version + b.rollback * 2 ^ 32 + b.gens * 2 ^ 40 + b.state * 2 ^ 64 + b2n b.lastGood * 2 ^ 72

/-- Stamp units of degraded time left: what the deadline leaves, or the time kept (R308, R309). -/
def State.degUnits (s : State) (k : Nat) : Nat :=
  match (s.rs k).degDeadline with
  | some d => d - s.clk
  | none => (s.rs k).degLeft.getD (s.obj (safo k Obj.SAF_DEG_TIME) * sUnits)

/-- DEG_LEFT: seconds, rounded up, while a cause stands (Table 12.14). -/
def State.degLeft (s : State) (k : Nat) : Nat :=
  if (s.rs k).degCauses.isEmpty then 0 else min 65535 ((s.degUnits k + 3999999999) / 4000000000)

def Forced.rank : Forced → Nat
  | .pulseBlock => 0 | .ascFrame => 1 | .ascHold => 2

/-- Slice objects that show the slice's state, by the index of slice A. -/
def State.liveSlice (s : State) (k i : Nat) : Option Nat :=
  let x := s.sl k
  if i = Obj.SLC_STATE then some (if x.rearmAt = some s.tick then 0 else x.st.code)
  else if i = Obj.SLC_MODE then some (b2n x.torqueMode)
  else if i = Obj.SLC_STATUS then some (s.obj (slc k i) &&& 0xE ||| b2n x.groupNeg ||| 16 * bits (s.obj (slc k i)) 4 4
    ||| 32 * b2n x.blend.injecting ||| 64 * b2n x.loss.recatchAt.isSome ||| 128 * b2n x.loss.lockout)
  else if i = Obj.SLC_SPEED_TARGET then some x.target.toNat
  else if i = Obj.SLC_TORQUE_CMD then some x.torqueCmd.toNat
  else if i = Obj.SLC_PRED_POS64 then some x.pred.pos
  else if i = Obj.SLC_PRED_SPEED then some x.pred.omega.toNat
  else if i = Obj.SLC_PRED_ACCEL then some x.pred.alpha.toNat
  else if i = Obj.SLC_PRED_REF_STAMP then some x.pred.tRef
  else if i = Obj.SLC_BLEND then some x.blend.b.toNat
  else if i = Obj.SLC_PWM_ACTIVE then some (128 * b2n x.modu.syncMode + x.modu.syncN)
  else if i = Obj.SLC_GROUP_WINNER then some x.winner
  else if i = Obj.SLC_GROUP_MEMBERS then
    some ((s.ctxWith fun h => bits h 239 237 = k && bits h 135 128 = 5).foldl (fun m c => m + 2 ^ c) 0)
  else if i = Obj.SLC_GROUP_SIGN then some (if x.groupNeg then 0xFF else 1)
  else none

/-- Context objects that show the context's state, by the index of context 0. -/
def State.liveCtx (s : State) (c i : Nat) : Option Nat :=
  let x := s.ctx c
  if i = Obj.ENG_HDR_LO then some (x.hdr % 2 ^ 128)
  else if i = Obj.ENG_HDR_HI then some (if x.hdr = 0 then objDefault i else x.hdr / 2 ^ 128)
  else if i = Obj.ENG_STATE then some (s.ctxState c)
  else if i = Obj.ENG_STAT then some (s.obj (ctxo c i) &&& 0xB ||| 4 * b2n x.fault
    ||| (s.obj (ctxo c i) &&& 0x30) ||| 64 * b2n (x.hdr ≠ 0 && (s.sl (bits x.hdr 239 237)).winner = c) ||| 128 * b2n x.pendCoef.isSome
    ||| 256 * b2n (s.shedding && bit x.hdr 232 && s.moved x.hdr) ||| x.primeLeft % 256 * 2 ^ 16 ||| x.consec % 4 * 2 ^ 26)
  else if i = Obj.ENG_PENDING_WRITES then some x.pendWrites
  else if Obj.ENG_OUT ≤ i && i ≤ Obj.ENG_OUT + 3 then some (x.out.getD (i - Obj.ENG_OUT) 0#32).toNat
  else if Obj.ENG_XHAT ≤ i && i ≤ Obj.ENG_XHAT + 7 then some (x.xhat.getD (i - Obj.ENG_XHAT) 0#32).toNat
  else if Obj.ENG_Z ≤ i && i ≤ Obj.ENG_Z + 3 then some (x.z.getD (i - Obj.ENG_Z) 0#32).toNat
  else if i = Obj.ENG_LAST_SAMPLE then some x.lastSample
  else if i = Obj.ENG_LAST_OUTPUT then some x.lastOutput
  else if Obj.ENG_COEF ≤ i && i ≤ Obj.ENG_COEF + 68 then some (coefWord x.coef (i - Obj.ENG_COEF))
  else none

/-- FLK_STATUS (Table 13.12): stored W1C flags beside the live fields. -/
def State.flkStatus (s : State) : Nat :=
  s.flk.role.code * 2 ^ 30 + s.flk.step.code * 2 ^ 27 + s.health * 2 ^ 21
    + b2n (match s.flk.partnerDeadline with | some d => s.clk ≤ d | none => false) * 2 ^ 20
    + (s.obj Obj.FLK_STATUS &&& 0xF0000) + b2n s.flk.handover.isSome * 2 ^ 15 + b2n s.flk.clash * 2 ^ 14
    + b2n s.flk.clkMargin * 2 ^ 13

/-- Partner frames on one port only (Table 13.13). -/
def State.oneWay (s : State) : Bool :=
  let seen := fun (t : Option Nat) => match t with
    | some x => decide (s.clk ≤ x + 30 * usUnits)
    | none => false
  xor (seen s.ring.lastA) (seen s.ring.lastB)

def State.ringStat (s : State) : Nat :=
  b2n s.ring.lockA * 2 ^ 31 + b2n s.ring.lockB * 2 ^ 30 + b2n s.mu.bypass * 2 ^ 29 + b2n s.oneWay * 2 ^ 28
    + (s.obj Obj.RING_STAT &&& 2 ^ 27) + b2n s.ring.oversize * 2 ^ 26

/-- SAF_REF_STATUS (Table 12.13). -/
def State.refStatus (s : State) : Nat :=
  (s.obj Obj.SAF_REF_STATUS &&& 0xFF000000) + b2n s.ref.fault * 2 ^ 15 + b2n s.ref.compareFault * 2 ^ 14
    + b2n (match s.ref.lockUntil with | some t => s.clk < t | none => false) * 2 ^ 13
    + b2n ((List.range 64).any (fun n => match s.sess n with | some x => x.level = 3 | none => false)) * 2 ^ 12
    + b2n (!s.ref.stoA) * 2 ^ 11 + b2n (!s.ref.stoB) * 2 ^ 10 + b2n s.ref.stoFault * 2 ^ 9 + b2n s.ref.holdLo * 2 ^ 8
    + b2n s.ref.holdHi * 2 ^ 7 + b2n s.ref.safeOut * 2 ^ 6 + b2n s.hk.absent * 2 ^ 5

/-- SAF_SLICE_STAT_n (Table 12.14). -/
def State.safSliceStat (s : State) (k : Nat) : Nat :=
  let r := s.rs k
  s.degLeft k * 2 ^ 16 + (match r.forced with | some (_, c) => c | none => 0) * 2 ^ 10 + b2n (s.degraded k) * 2 ^ 9
    + b2n r.ss1.isSome * 2 ^ 8 + b2n r.forced.isSome * 2 ^ 7 + (match r.forced with | some (f, _) => f.rank | none => 0) * 2 ^ 5
    + (s.obj (Obj.SAF_SLICE_STAT + k) &&& 0x1E)

/-- Fewer than 6 sensors are valid: those the last round has faulted are not (R174, R379). -/
def State.fewSensors (s : State) : Bool :=
  decide (((List.range 12).filter fun k => !bit (s.obj Obj.HK_ROUND_STAT) k).length < 6)

/-- MGT_THERM_STAT (Table 15.17): REQ, ENF and the W1C flags are stored. -/
def State.thermStat (s : State) : Nat :=
  (s.obj Obj.MGT_THERM_STAT &&& 0x1E) + s.hk.hotSensor % 16 * 2 ^ 24
    + min 255 (max 0 ((fDy s.hk.tmax).rne + 64)).toNat * 2 ^ 16 + b2n (decide (5000 ≤ s.hk.leave)) * 2 ^ 8
    + b2n (s.mu.phase = .thermalHold) * 2 ^ 7 + b2n s.hk.stopAt.isSome * 2 ^ 6 + b2n s.fewSensors * 2 ^ 5

/-- Scheduled slices pause (R417). -/
def State.bistPaused (s : State) : Bool :=
  s.obj Obj.DIA_BIST_DUTY = 0 || s.throttled || s.dia.run.isSome || s.flk.step = .resync || !s.isReady

/-- Value of an object whose home is a unit's state. -/
def State.liveObj (s : State) (i : Nat) : Option Nat :=
  if i < 0x1000 then
    if i = Obj.HOST_SESSIONS_OPEN then some s.sessCount
    else if i = Obj.HOST_PERSIST_PENDING then some (min 65535 s.dict.dirty.length)
    else if i = Obj.ENG_RATE_MX0 then some (s.rateSum 0)
    else if i = Obj.ENG_RATE_MX1 then some (s.rateSum 1)
    else if i = Obj.ENG_SHED_REQ then some (b2n s.shedReq)
    else if i = Obj.ENG_SHED_ACTIVE then some (b2n s.shedding)
    else if i = Obj.FLK_STATUS then some s.flkStatus
    else if i = Obj.FLK_CLAIM then some s.claim
    else if i = Obj.FLK_MIRROR_SEQ then some (if s.flk.role = .active then s.flk.seqNo else s.flk.applied)
    else if i = Obj.RING_STAT then some s.ringStat
    else if i = Obj.RING_NODES then some ((s.ring.nodes.filter (fun n => s.clk ≤ n.2 + msUnits)).length)
    else none
  else if i < 0x4000 then s.liveSlice ((i - 0x1000) / 0x800) (0x1000 + (i - 0x1000) % 0x800)
  else if i < 0x8000 then s.liveCtx ((i - 0x4000) / 0x100) (0x4000 + (i - 0x4000) % 0x100)
  else if i < 0x10000 then
    if i = Obj.TIM_STATUS then some s.tq
    else if i = Obj.TIM_INCREMENT then some s.time.inc
    else if i = Obj.ETH0_TXTS_STATUS ∨ i = Obj.ETH0_TXTS_STATUS + 0x10 then
      let u := s.ethU ((i - Obj.ETH0_TXTS_STATUS) / 0x10)
      some (min 65535 u.drops * 2 ^ 16 + b2n u.ovf * 2 ^ 15 + min 16 u.txts.length)
    else if i = Obj.ETH0_TXTS_POP ∨ i = Obj.ETH0_TXTS_POP + 0x10 then
      some (s.popTxts ((i - Obj.ETH0_TXTS_POP) / 0x10)).1
    else if Obj.TIM_TIO_CAPT ≤ i ∧ i < Obj.TIM_TIO_CAPT + 8 then
      some (match (s.tioU (i - Obj.TIM_TIO_CAPT)).capts with | c :: _ => c.val | [] => 0)
    else if Obj.SD_STAT ≤ i ∧ i < Obj.SD_STAT + 64 then
      let n := i - Obj.SD_STAT
      let lost := (s.sdU n).lost
      let active := s.isReady && s.sdOwner n ≠ 0 && s.groupClocked (n / 8) && !lost && !s.fenced (64 + n) && (s.sdU n).last.isSome
      some ((s.obj i &&& 0xFFFF00F0) ||| b2n active ||| 256 * b2n lost ||| 8 * b2n (s.fenced (64 + n)) ||| 2 * s.sdOwner n)
    else if Obj.AUX_STAT ≤ i ∧ i < Obj.AUX_STAT + 4 then
      let u := i - Obj.AUX_STAT
      let a := s.auxU u
      let keep := bit (s.obj (Obj.AUX_CFG + u)) 30 && bit (s.obj (Obj.AUX_CFG + u)) 31 && !a.cold
      some ((s.obj i &&& 0xFFFFFF03) ||| 32 * b2n a.pend.isSome ||| 16 * b2n (s.fenced (12 + u))
        ||| 8 * b2n (keep || a.conv.isSome || a.ended = some s.now) ||| 4 * b2n a.conv.isSome)
    else if Obj.ENC_STAT ≤ i ∧ i < Obj.ENC_STAT + 8 then
      let n := i - Obj.ENC_STAT
      let e := s.encU n
      some ((s.obj i &&& 0xFFFF0703) ||| e.lcConsec % 4 * 2 ^ 14 ||| 128 * b2n e.fault ||| 64 * b2n (s.fenced (16 + n))
        ||| 32 * b2n e.standstill ||| 16 * b2n e.valid ||| 8 * b2n (e.d < 0) ||| 4 * b2n (decide (1 ≤ e.refs)))
    else if Obj.ENC_COUNT ≤ i ∧ i < Obj.ENC_COUNT + 8 then some (unsgn 32 (s.encU (i - Obj.ENC_COUNT)).rep)
    else if Obj.ENC_SPEED ≤ i ∧ i < Obj.ENC_SPEED + 8 then some (s.encU (i - Obj.ENC_SPEED)).speed.toNat
    else if Obj.GL_STAT ≤ i ∧ i < Obj.GL_STAT + 24 then
      some (s.obj i &&& 0xFFFFBFFF ||| 2 ^ 14 * b2n (s.fenced (24 + (i - Obj.GL_STAT))))
    else if Obj.CAN_STAT ≤ i ∧ i < Obj.CAN_STAT + 4 then
      let u := s.canU (i - Obj.CAN_STAT)
      let listen := u.mode ≠ 0 && (u.mode = 2 || (u.mode = 3 && !(bit (s.obj i) 11 && !bit (byteAt u.cfg 1) 3)) || (s.inFlask && !s.isActive))
      some ((s.obj i &&& 0x18DC) ||| min 255 u.tec * 2 ^ 24 ||| min 255 u.recCnt * 2 ^ 16 ||| 1024 * b2n listen
        ||| 512 * b2n u.busOff ||| 256 * b2n (decide (u.tec > 127 ∨ u.recCnt > 127)) ||| 32 * b2n (s.fenced (8 + (i - Obj.CAN_STAT))))
    else if Obj.ETH_STAT ≤ i ∧ i < Obj.ETH_STAT + 2 then
      let u := s.ethU (i - Obj.ETH_STAT)
      some ((s.obj i &&& 3) ||| 256 * b2n u.link ||| u.speed % 4 * 64 ||| 32 * b2n u.asCapable ||| u.portState % 4 * 8 ||| 4 * b2n u.gm)
    else none
  else if i < 0x14000 then
    if i = Obj.SAF_PW_STATE then some (b2n s.ref.pw.isSome)
    else if i = Obj.SAF_REF_STATUS then some s.refStatus
    else if Obj.SAF_SLICE_STAT ≤ i ∧ i < Obj.SAF_SLICE_STAT + 6 then some (s.safSliceStat (i - Obj.SAF_SLICE_STAT))
    else none
  else if i < 0x18000 then
    if i = Obj.MGT_LIFECYCLE then some s.mu.lc
    else if i = Obj.MGT_THERM_STAT then some s.thermStat
    else if i = Obj.MGT_BOOT_COUNT then some s.mu.boot
    else if i = Obj.MGT_RESET_CAUSE then some (match s.mu.startCause with | some c => resetCode c | none => 0)
    else if i = Obj.MGT_ACTIVE_BANK then some s.mu.active
    else if i = Obj.MGT_BANK_A then some (s.mu.banks.getD 0 {}).val
    else if i = Obj.MGT_BANK_A + 1 then some (s.mu.banks.getD 1 {}).val
    else if i = Obj.MGT_ROLLBACK then some s.mu.otpRollback
    else if i = Obj.MGT_BOUND then some (b2n s.mu.bound.isSome)
    else if i = Obj.MGT_NODE_ID then some s.nodeId
    else if i = Obj.MGT_SYSTEM_ID then some (match s.mu.bound with | some b => b.systemId | none => 0)
    else if i = Obj.MGT_ANCHOR_SLOT then some (s.mu.anchorUse.getD 0xFF)
    else if i = Obj.MGT_CFG_GEN then some (match s.mu.cfgLoaded with | some (_, g) => g | none => 0)
    else none
  else
    if i = Obj.DIA_FENCE then some s.dia.fence
    else if i = Obj.DIA_BIST_STAT then
      some ((s.obj i &&& 0xFFFF07) ||| 2 ^ 25 * b2n s.dia.run.isSome ||| 2 ^ 24 * b2n s.bistPaused)
    else if i = Obj.DIA_TRACE_STAT then some (b2n s.dia.traceOn * 2 ^ 31 + s.dia.traceNext * 2 ^ 16 + min 65535 s.dia.traceDrops)
    else if Obj.DIA_FAIL ≤ i ∧ i < Obj.DIA_FAIL + 32 then
      some (match s.dia.fails.find? (fun f => f.1 = i - Obj.DIA_FAIL) with | some f => f.2.val | none => 0)
    else if Obj.DIA_BANK ≤ i ∧ i < Obj.DIA_BANK + 24 then some (bget 0 s.dia.spares (i - Obj.DIA_BANK) + (s.obj i &&& 0xFF00))
    else none

/-- Value a read returns: zero for a WO object (R131). -/
def State.readObj (s : State) (i : Nat) : Nat :=
  match descOf i with
  | some d => if d.acc = 3 then 0 else (s.liveObj i).getD (s.obj i)
  | none => 0

/-- What a read changes: a popped queue, a latch read. -/
def State.readEff (s : State) (i : Nat) : State :=
  if i = Obj.ETH0_TXTS_POP ∨ i = Obj.ETH0_TXTS_POP + 0x10 then (s.popTxts ((i - Obj.ETH0_TXTS_POP) / 0x10)).2
  else if Obj.TIM_TIO_CAPT ≤ i ∧ i < Obj.TIM_TIO_CAPT + 8 then
    let n := i - Obj.TIM_TIO_CAPT
    s.setTio n { s.tioU n with capts := (s.tioU n).capts.drop 1 }
  else if Obj.ENC_PROBE_RISE ≤ i ∧ i < Obj.ENC_PROBE_RISE + 8 then
    s.modEnc (i - Obj.ENC_PROBE_RISE) fun e => { e with riseUnread := false }
  else if Obj.ENC_PROBE_FALL ≤ i ∧ i < Obj.ENC_PROBE_FALL + 8 then
    s.modEnc (i - Obj.ENC_PROBE_FALL) fun e => { e with fallUnread := false }
  else if Obj.DIA_FAIL ≤ i ∧ i < Obj.DIA_FAIL + 32 then
    { s with dia := { s.dia with fails := s.dia.fails.map fun e => if e.1 = i - Obj.DIA_FAIL then (e.1, { e.2 with isRead := true }) else e } }
  else s

/-- DEV_STATUS (Table 5.7). -/
def State.devStatus (s : State) : Nat :=
  let thr := s.obj Obj.MGT_THERM_STAT
  s.sessCount * 2 ^ 25 + b2n s.mu.bound.isNone * 2 ^ 24 + s.flk.role.code * 2 ^ 22 + b2n s.cp.restarting * 2 ^ 21
    + b2n (bit thr 4) * 2 ^ 20 + b2n (bit thr 3) * 2 ^ 19 + s.tl.status.code * 2 ^ 17 + s.mu.lc * 2 ^ 14
    + s.mu.phase.code * 2 ^ 11

end Sys2Proof.Machine
end

