-- ==== Sys2Proof/Machine/SliceView.lean ====
section
/-!
DEFINITION. What a slice reads: its sensing slots (R138, R216), its gate links (R261), the frame unit (R239), the ASC
condition (R254), the limits in force (R308, R397). A rule that gives a formula without a number format is computed in
binary32, each operation rounded to nearest, in the order written (log entry 21).
-/

namespace Sys2Proof.Machine

/-! ## Constants in binary32 -/

def f32Two : F32 := 0x40000000#32
def f32Three : F32 := 0x40400000#32
def f32Half : F32 := 0x3F000000#32
def f32Sqrt3 : F32 := 0x3FDDB3D7#32
def f32TwoPi : F32 := 0x40C90FDB#32
def f32TwoPiSqrt3 : F32 := 0x412E1FEF#32
def f32TwoOverPi : F32 := 0x3F22F983#32

/-- A whole number of stamp units as seconds (binary32). -/
def secs (n : Nat) : F32 := f32Seconds n

/-- The signed reading of an ANG32 difference. -/
def angS (a : Ang32) : Int := sgn 32 a.toNat

/-- An angle difference as a fraction of a revolution, binary32. -/
def angRev (a : Int) : F32 := f32OfRatio a (2 ^ 32)

/-- A slice object's value in force: a write to a running slice takes effect at its next control sample (R260, R292). -/
def State.slo (s : State) (k i : Nat) : Nat :=
  match bfind (s.sl k).before i with
  | some e => e.2
  | none => s.obj (slc k i)

def State.sloF (s : State) (k i : Nat) : F32 := BitVec.ofNat 32 (s.slo k i)
def State.safoF (s : State) (k i : Nat) : F32 := s.objF (safo k i)

/-! ## Sensing slots -/

def State.slot (s : State) (k j : Nat) : Nat := s.slo k (Obj.SLC_SD_SLOT + j)
def slotEn (v : Nat) : Bool := bit v 127
def slotRole (v : Nat) : Nat := bits v 126 124
def slotPhase (v : Nat) : Nat := bits v 123 121
def slotCh (v : Nat) : Nat := bits v 119 114
def slotMon (v : Nat) : Nat := bits v 113 106
def slotOsr (v : Nat) : Nat := bits v 105 96

/-- A slot that the carrier locks: PHASE_I or DCLINK_V (R143). -/
def slotLocked (v : Nat) : Bool := slotEn v && decide (slotRole v < 2)

def State.promoted (s : State) (k j : Nat) : Bool := bit (s.slo k Obj.SLC_SD_PROMOTED) j

/-- A promoted slot takes the shadow filter's results from the first sampling extreme at or after the loss (R154). -/
def State.promotedNow (s : State) (k j : Nat) : Bool := s.promoted k j && decide (bget 0 (s.sl k).promoteAt j = 0)

/-- A displaced result joins a slot's older ones, of which the newest 64 are kept: more than the latest output stamp an
evaluation can wait for spans. -/
def oldPut (b : Bank (List SdRes)) (j : Nat) (r : Option SdRes) : Bank (List SdRes) :=
  match r with
  | some r => bset b j ((r :: bget [] b j).take 64)
  | none => b

/-- The later of two results sampled at or before a stamp. -/
def laterBy (t : Stamp) (a b : Option SdRes) : Option SdRes :=
  let ok := fun (o : Option SdRes) => match o with
    | some r => if r.stamp ≤ t then some r else none
    | none => none
  match ok a, ok b with
  | some x, some y => if x.stamp < y.stamp then some y else some x
  | some x, none => some x
  | none, y => y

/-- A slot's latest result sampled at or before a stamp (R216): window ends and interpolated control samples. -/
def State.slotAt (s : State) (k j : Nat) (t : Stamp) : Option SdRes :=
  let x := s.sl k
  let p := s.promotedNow k j
  let now := laterBy t (laterBy t (bfind (if p then x.shadowRes else x.slotRes) j) (bfind (if p then x.shadowPrev else x.slotPrev) j))
    (bfind x.slotInterp j)
  (bget [] (if p then x.shadowOld else x.slotOld) j).foldl (fun a r => laterBy t a (some r)) now

/-- Value of a sensing slot at a stamp; 0.0 where it is disabled or has delivered nothing. -/
def State.slotVal (s : State) (k j : Nat) (t : Stamp) : F32 :=
  if slotEn (s.slot k j) then (match s.slotAt k j t with | some r => r.value | none => 0#32) else 0#32

/-- The enabled slot of a role and phase. -/
def State.roleSlot (s : State) (k role phase : Nat) : Option Nat :=
  (List.range 16).find? fun j => let v := s.slot k j; slotEn v && slotRole v = role && slotPhase v = phase

def State.roleVal (s : State) (k role phase : Nat) (t : Stamp) : Option F32 :=
  (s.roleSlot k role phase).map fun j => s.slotVal k j t

/-- The three currents of a set, the unmeasured one as the negative sum of the other two (R138, R239). -/
def State.phases (s : State) (k base : Nat) (t : Stamp) : F32 × F32 × F32 :=
  let u := s.roleVal k 0 base t
  let v := s.roleVal k 0 (base + 1) t
  let w := s.roleVal k 0 (base + 2) t
  match u, v, w with
  | some a, some b, some c => (a, b, c)
  | some a, some b, none => (a, b, fNeg (fAdd a b))
  | some a, none, some c => (a, fNeg (fAdd a c), c)
  | none, some b, some c => (fNeg (fAdd b c), b, c)
  | _, _, _ => (0#32, 0#32, 0#32)

/-- Stationary-frame currents (R239). -/
def clarke (i : F32 × F32 × F32) : F32 × F32 :=
  (fDiv (fSub (fSub (fMul f32Two i.1) i.2.1) i.2.2) f32Three, fDiv (fSub i.2.1 i.2.2) f32Sqrt3)

/-- Rotation into the dq frame at an angle (R239). -/
def park (ab : F32 × F32) (th : Ang32) : F32 × F32 :=
  let c := Config.cosF th
  let n := Config.sinF th
  (fAdd (fMul ab.1 c) (fMul ab.2 n), fAdd (fMul (fNeg ab.1) n) (fMul ab.2 c))

/-- Rotation out of the dq frame. -/
def invPark (dq : F32 × F32) (th : Ang32) : F32 × F32 :=
  let c := Config.cosF th
  let n := Config.sinF th
  (fSub (fMul dq.1 c) (fMul dq.2 n), fAdd (fMul dq.1 n) (fMul dq.2 c))

/-- Magnitude of a pair. -/
def fMag (p : F32 × F32) : F32 := fSqrt (fAdd (fMul p.1 p.1) (fMul p.2 p.2))

def State.iab (s : State) (k : Nat) (t : Stamp) : F32 × F32 := clarke (s.phases k 0 t)

/-- DC-link voltage at a stamp. -/
def State.vdc (s : State) (k : Nat) (t : Stamp) : F32 := (s.roleVal k 1 0 t).getD 0#32

/-! ## Links (R261) -/

def State.glCfg (s : State) (l : Nat) : Nat := s.obj (Obj.GL_CFG + l)
def State.linkSlice (s : State) (l : Nat) : Nat := if bit (s.glCfg l) 63 then bits (s.glCfg l) 62 60 else 7
def State.linkRole (s : State) (l : Nat) : Nat := bits (s.glCfg l) 59 57
def State.linksOf (s : State) (k : Nat) : List Nat := (List.range 24).filter fun l => s.linkSlice l = k

/-- The slice's link in a role. -/
def State.linkIn (s : State) (k role : Nat) : Option Nat := (s.linksOf k).find? fun l => s.linkRole l = role

/-! ## Conditions and limits -/

/-- A history of references, newest first, back to the one that was held at a stamp (R295). -/
def refsFrom (t0 : Stamp) : List (Stamp × F32 × F32) → List (Stamp × F32 × F32)
  | [] => []
  | e :: l => if e.1 ≤ t0 then [e] else e :: refsFrom t0 l

/-- The references that a slice holds from a stamp on join their history, which spans the 5 ms that SAF_TORQUE_LAG can ask for. -/
def Slice.noteRefs (x : Slice) (t : Stamp) (id iq : F32) : Slice :=
  { x with iRefHist := refsFrom (t - 5 * msUnits) ((t, id, iq) :: x.iRefHist) }

/-- The ASC condition at the latest sample (R254). -/
def State.ascCond (s : State) (k : Nat) : Bool :=
  let x := s.sl k
  fGe (fMul (fMul f32TwoPiSqrt3 (fAbs x.sig.omegaE)) (s.sloF k Obj.SLC_PSI)) (fMul (s.sloF k Obj.SLC_ASC_FRAC) x.sig.vDc)

/-- The unbound limits apply: an UNBOUND device, and BLANK and RETURNED (R53, R396). -/
def State.unboundOnly (s : State) : Bool := s.mu.bound.isNone || s.mu.lc = 0 || s.mu.lc = 3

/-- Whether the MU's state forbids drives (R53, R397). -/
def State.drivesLocked (s : State) : Bool :=
  s.mu.lc = 4 || (s.mu.lc = 2 && s.mu.bound.isNone) || (s.unboundOnly && s.obj Obj.MGT_UNBOUND_EN = 0)

/-- A limit of the degraded mode and one of an UNBOUND device together (R308, R397). -/
def State.limitOf (s : State) (k deg unb : Nat) : Option F32 :=
  let a := if s.degraded k then some (s.safoF k deg) else none
  let b := if s.unboundOnly then some (s.objF unb) else none
  match a, b with
  | some x, some y => some (fMin x y)
  | some x, none => some x
  | none, y => y

def State.torqueLimit (s : State) (k : Nat) : Option F32 := s.limitOf k Obj.SAF_DEG_TORQUE Obj.MGT_UNBOUND_TORQUE
def State.speedLimit (s : State) (k : Nat) : Option F32 := s.limitOf k Obj.SAF_DEG_SPEED Obj.MGT_UNBOUND_SPEED

/-- The lead time of a slice in stamp units (R273). -/
def State.lead (s : State) (k : Nat) : Nat := s.slo k Obj.SLC_LEAD_TIME * usUnits

/-- One count of the slice's carrier in stamp units (R262). -/
def State.countUnits (s : State) (k n : Nat) : Nat :=
  if s.slo k Obj.SLC_PWM_CLK = 0 then n * s.time.inc / 2 ^ 32
  else n * 4000000000 / max 1 (s.obj Obj.SD_MCLK_IN_NOM)

/-- Carrier period in stamp units. -/
def State.carrierUnits (s : State) (k : Nat) : Nat := s.countUnits k (s.slo k Obj.SLC_PWM_PERIOD)

/-- Samples in a carrier period (R263). -/
def State.perPeriod (s : State) (k : Nat) : Nat := if s.slo k Obj.SLC_PWM_SAMPLE = 2 then 2 else 1

/-- Whether a slice state triggers contexts (Table 10.1). -/
def State.triggers (s : State) (k : Nat) : Bool :=
  match (s.sl k).st with
  | .engaging | .running | .stopping => true
  | .discharging => match (s.sl k).dis with
    | some d => !d.switchM && d.settle = 0
    | none => false
  | _ => false

end Sys2Proof.Machine
end

