-- ==== Sys2Proof/Machine/Reactions.lean ====
section
/-!
DEFINITION. What every family may do to a slice: frames on its gate links (R275 to R277), its switching state and its
changes of state (R232 to R236), stops (R254), the observer-loss reaction (R257), forced states (R298 to R301), SS1's
request (R304), degraded mode (R307 to R309), and the Referee fault (R310).
-/

namespace Sys2Proof.Machine

/-! ## Frames on gate links -/

/-- Send a frame: start character, body, CRC (R275). The model keeps the 16 newest. -/
def State.glSendAt (s : State) (l : Nat) (t : Stamp) (start body : Nat) : State :=
  let bs := BitVec.ofNat 8 start :: (toLE 8 body).reverse
  s.modGl l fun g =>
    { g with tx := ({ stamp := t, start := BitVec.ofNat 8 start, body := BitVec.ofNat 64 body, crc := crc8 bs } :: g.tx).take 16 }

def State.glSend (s : State) (l : Nat) (start body : Nat) : State := s.glSendAt l s.now start body

/-- A SAFE frame that a new force brings abandons the frame in progress and the copy that waits behind it (R276): a frame lasts
500 ns. -/
def State.glSafe (s : State) (l : Nat) (body : Nat) : State :=
  (s.modGl l fun g => { g with tx := g.tx.map fun f => if s.now < f.stamp + 2000 then { f with cut := true } else f }).glSend l 0x7C body

/-- SAFE state code of a forced state on a link (Table 12.2): a discharge link is always off. -/
def State.forceCode (s : State) (f : Forced) (role : Nat) : Nat :=
  match f with
  | .pulseBlock => 0
  | _ => if role = 6 then 0 else if s.obj Obj.SAF_ASC_SIDE = 0 then 1 else 2

/-- Whether a slice's latched force stands. -/
def State.isForced (s : State) (k : Nat) : Bool := (s.rs k).forced.isSome

/-- The slice whose force a link carries: its own, else the one that forced it before its configuration changed, while that
force stands (R10). -/
def State.forcerOf (s : State) (l : Nat) : Option Nat :=
  if decide (s.linkSlice l < 6) && s.isForced (s.linkSlice l) then some (s.linkSlice l)
  else (s.glU l).forcedBy.filter s.isForced

/-- The safe state a link should carry: its slice's forced state, one that a change of its configuration cannot end, else
its own fault's (R10, R291, R298). -/
def State.linkWant (s : State) (l : Nat) : Option (Nat × Nat) :=
  let own := if (s.glU l).linkSafe || (decide (s.linkSlice l < 6) && s.fenced (s.linkSlice l)) then some (bits (s.glCfg l) 56 55, 0x3F) else none
  match s.forcerOf l with
  | some k =>
    if k = s.linkSlice l then (s.rs k).forced.map fun f => (s.forceCode f.1 (s.linkRole l), f.2) else (s.glU l).safe
  | none => own

/-- Bring a link's SAFE frames into line: a new force is sent at once, an ended one makes RELEASE follow (R276, R277). -/
def State.linkRefresh (s : State) (l : Nat) : State :=
  let want := s.linkWant l
  let by_ := s.forcerOf l
  let s := s.modGl l fun g => { g with forcedBy := by_ }
  match want with
  | some (code, cause) =>
    if (s.glU l).safe = some (code, cause) then s
    else
      let s := s.modGl l fun g => { g with safe := some (code, cause), releasing := false }
      (s.putFlag (Obj.GL_STAT + l) 16 true).glSafe l (code * 2 ^ 62 + cause * 2 ^ 56)
  | none =>
    if (s.glU l).safe.isSome then
      (s.modGl l fun g => { g with safe := none, releasing := true }).putFlag (Obj.GL_STAT + l) 16 false
    else s

/-- Every link that is the slice's, or carries its force. -/
def State.linksRefresh (s : State) (k : Nat) : State :=
  ((List.range 24).filter fun l => s.linkSlice l = k || (s.glU l).forcedBy = some k).foldl (fun s l => s.linkRefresh l) s

/-! ## States of a slice -/

/-- A change of switching state, decided now: it acts from the first update interval the lead time allows (R235). -/
def State.setPat (s : State) (k : Nat) (p : Pattern) : State :=
  s.modSl k fun x => { x with modu := { x.modu with pend := some p, pendAt := s.now + s.lead k } }

/-- The switching state a state of Table 10.1 brings; none keeps the one in force. -/
def SliceState.pattern : SliceState → Option Pattern
  | .disabled => none
  | .armed | .heldBlock => some .block
  | .heldShort => some .shortCircuit
  | .running | .stopping => some .vectors
  | .catching | .engaging | .discharging => none

/-- Coefficient writes that waited for a computing evaluation apply as it ends, however it ends (R223); a seed that waited
with them is dropped. -/
def Ctx.settled (x : Ctx) (now : Stamp) : Ctx :=
  { x with
    coef := x.waitCoef.foldl (fun b p => bset b p.1 p.2.1) x.coef
    coefBy := x.waitCoef.foldl (fun b p => bset b (p.1 / 4) { stamp := now, session := p.2.2 }) x.coefBy
    waitCoef := [], waitSeed := none }

/-- Evaluations of a context end with its slice's enable. -/
def Ctx.disabledIn (c : Ctx) (k : Nat) (now : Stamp) : Ctx :=
  if bits c.hdr 239 237 = k && c.hdr ≠ 0 then
    { c.settled now with evals := [], repeats := [], seed := none, primed := false }
  else c

/-- A slice comes to DISABLED: no EDGE frames (Table 10.1), its carrier and grids stop. -/
def State.toDisabled (s : State) (k : Nat) : State :=
  let s := s.modSl k fun x =>
    { x with st := .disabled, stAt := if x.st = .disabled then x.stAt else s.now, catchRun := none, zeroSince := none, pendSet := [], dis := none, stopOpen := false, before := [],
             loss := { lockout := x.loss.lockout }, blend := {}, modu := {}, engaged := [], engNormal := [], actAt := none, thermStop := false }
  let s := (s.linksOf k).foldl (fun s l => s.modGl l fun g => { g with queue := [], sent := [], await := [] }) s
  { s with eng := { s.eng with ctxs := s.eng.ctxs.map (fun e => (e.1, e.2.disabledIn k s.now)) } }

/-- Enter a state: what Table 10.1 says of its switching, and DRV_STOPPED where a stop comes to rest (R237, R446). -/
def State.enter (s : State) (k : Nat) (st : SliceState) : State :=
  let old := (s.sl k).st
  let rest := st = .heldBlock || st = .heldShort
  let s := if old = st then s
    else
      let s := s.modSl k fun x =>
        { x with
          st := st, stAt := s.now, zeroSince := none
          catchRun := if st = .catching then x.catchRun else none
          engaged := [], engNormal := []
          loss := { x.loss with recatching := x.loss.recatching && st = .catching }
          blend := if rest then { x.blend with injecting := false, injFrom := none, injTo := none } else x.blend
          thermStop := x.thermStop && !(st = .heldBlock) }
      match st.pattern with
      | some p => s.setPat k p
      | none => s
  let x := s.sl k
  if rest && x.stopOpen then
    (s.modSl k fun x => { x with stopOpen := false }).post (srcSl k) 0x0512 k (x.stopMode + x.stopCause * 2 ^ 8 + st.code * 2 ^ 16)
  else s

/-- The held state that matches a forced state (R232). -/
def Forced.rest : Forced → SliceState
  | .pulseBlock => .heldBlock
  | _ => .heldShort

/-- Change a slice's state by an event of R236's rank: an event of lower rank on the tick of a stronger one has no
effect, and a forced state takes precedence (R232). `stop`: mode and cause where the event is a stop. -/
def State.go (s : State) (k rank : Nat) (st : SliceState) (stop : Option (Nat × Nat)) : State :=
  let x := s.sl k
  let held := match (s.rs k).forced with
    | some (f, _) => decide (st ≠ f.rest)
    | none => false
  if (x.actAt = some s.now && decide (x.actRank < rank)) || held then s
  else
    let s := s.modSl k fun x => { x with
      actAt := some s.now, actRank := rank
      stopMode := match stop with | some p => p.1 | none => x.stopMode
      stopCause := match stop with | some p => p.2 | none => x.stopCause
      stopOpen := stop.isSome || x.stopOpen }
    s.enter k st

/-- A discharge ends with a result, 0 SUCCESS, 1 TIMEOUT, 2 ABORTED (R259). -/
def State.endDischarge (s : State) (k result : Nat) : State :=
  match (s.sl k).dis with
  | some d =>
    let v := fToU16 (s.sl k).sig.vDc
    let us := min 0xFFFFFFFF ((s.now - d.start) / usUnits)
    let s := s.modSl k fun x => { x with dis := none }
    let s := s.setObj (slc k Obj.SLC_DIS_RESULT) (result + v * 2 ^ 16 + us * 2 ^ 32)
    s.post (srcSl k) 0x0513 k (result + b2n d.switchM * 2 ^ 8 + v * 2 ^ 16 + us * 2 ^ 32)
  | none => s

/-- The speed loop named in SLC_SPEED_CTX is faulted (R254). -/
def State.speedFaulted (s : State) (k : Nat) : Bool :=
  let c := s.slo k Obj.SLC_SPEED_CTX
  decide (c < 64) && (s.ctx c).fault

/-- What DRV_STOP answers (R236, R237). -/
def State.stopStatus (s : State) (k mode : Nat) : Nat :=
  match (s.sl k).st with
  | .disabled => stState
  | .heldShort => if mode = 2 then stOk else stState
  | .armed | .heldBlock => if mode = 2 then stAccepted else stOk
  | _ => stAccepted

/-- A stop from any cause: 0 RAMP, 1 COAST, 2 SHORT (R254). It cancels a waiting re-catch (R257). -/
def State.stop (s : State) (k mode cause : Nat) : State :=
  let s := s.modSl k fun x => { x with loss := { x.loss with recatchAt := none } }
  let m := if mode = 0 && s.speedFaulted k then 1 else mode
  match (s.sl k).st with
  | .disabled | .heldShort => s
  | .armed | .heldBlock => if m = 2 then s.go k 1 .heldShort (some (2, cause)) else s
  | .stopping => if m = 0 then s else s.go k (3 - m) (if m = 2 then .heldShort else .heldBlock) (some (m, cause))
  | .running =>
    if m = 0 then
      let s := s.go k 3 .stopping (some (0, cause))
      if (s.sl k).st = .stopping && (s.sl k).torqueMode then
        s.modSl k fun x => { x with torqueMode := false, modeBy := { stamp := s.now }, rampRef := x.sig.omegaE, rampAcc := 0#32 }
      else s
    else s.go k (3 - m) (if m = 2 then .heldShort else .heldBlock) (some (m, cause))
  | .catching | .engaging =>
    if m = 2 then s.go k 1 .heldShort (some (2, cause)) else s.go k 2 .heldBlock (some (1, cause))
  | .discharging =>
    let s := s.endDischarge k 2
    if m = 2 then s.go k 1 .heldShort (some (2, cause)) else s.go k 2 .heldBlock (some (1, cause))

/-- The reaction that observer loss takes: active short circuit where the ASC condition holds, else pulse block; no
re-catch (R257, Table 10.8). -/
def State.lossReact (s : State) (k : Nat) : State :=
  if !s.enabled k then s
  else
    let s := if (s.sl k).st = .discharging then s.endDischarge k 2 else s
    let s := s.modSl k fun x => { x with loss := { x.loss with recatchAt := none } }
    if s.ascCond k then s.go k 1 .heldShort none
    else match (s.sl k).st with
      | .catching | .engaging | .running | .stopping | .discharging => s.go k 2 .heldBlock none
      | _ => s

/-! ## Forced states -/

/-- An STO input requests (R303). -/
def State.stoRequest (s : State) : Bool := !s.ref.stoA || !s.ref.stoB

/-- The conditions of SAFE_OUT_N (R301). -/
def State.safeOutWant (s : State) : Bool :=
  s.ref.runs && !s.ref.fault && !s.stoRequest &&
  (List.range 6).all fun k => !bit (s.obj Obj.SAF_SAFE_OUT_MAP) k || ((s.rs k).forced.isNone && !(s.rs k).disFail)

/-- SAFE_OUT_N goes low as soon as a condition fails; it goes high only at an evaluation. -/
def State.safeOutDrop (s : State) : State :=
  if s.safeOutWant then s else { s with ref := { s.ref with safeOut := false } }

/-- A forced state is latched and recorded (R299); the slice enters the state that matches it (R232). -/
def State.latch (s : State) (k : Nat) (f : Forced) (cause : Nat) : State :=
  let s := s.modRs k fun r => { r with forced := some (f, cause), atRest := false, tripAt := some s.clk }
  let s := s.post srcRef 0x0600 k (f.rank + cause * 2 ^ 8)
  let s := s.linksRefresh k
  match (s.sl k).st with
  | .disabled => s
  | st =>
    let moving := match st with
      | .catching | .engaging | .running | .stopping | .discharging => true
      | _ => false
    let s := if st = .discharging then s.endDischarge k 2 else s
    let mode := if f = .pulseBlock then 1 else 2
    s.go k 0 f.rest (if moving then some (mode, 5) else none)

/-- Record a request that is not in force (R298). -/
def RefSlice.queued (r : RefSlice) (p : Forced × Nat) : RefSlice :=
  if r.lower.contains p then r else { r with lower := r.lower ++ [p] }

/-- Request a forced state on one slice: one of higher rank takes over, one of lower rank is recorded (R298), and so is one of the
same rank with another cause, which has a condition of its own for its release (R300, R303). -/
def State.request (s : State) (k : Nat) (f : Forced) (cause : Nat) : State :=
  match (s.rs k).forced with
  | none => s.latch k f cause
  | some (g, c) =>
    if f.rank > g.rank then (s.modRs k fun r => r.queued (g, c)).latch k f cause
    else if f = g && cause = c then s.modRs k fun r => { r with tripAt := some s.clk }
    else s.modRs k fun r => r.queued (f, cause)

/-- The recorded request of the highest rank, the earliest of those. -/
def topRequest : List (Forced × Nat) → Option (Forced × Nat)
  | [] => none
  | p :: l => match topRequest l with
    | some q => if p.1.rank < q.1.rank then some q else some p
    | none => some p

/-- Force a state: ASC_HOLD asserts the hold line of SAF_ASC_SIDE, its release source off on the same cycle, and takes
every enabled slice with it (R28, R298). -/
def State.force (s : State) (k : Nat) (f : Forced) (cause : Nat) : State :=
  let s := match f with
    | .ascHold =>
      let lo := s.obj Obj.SAF_ASC_SIDE = 0
      let s := s.modRs k fun r => { r with holdOwner := true }
      let s : State := { s with ref := { s.ref with
        holdLo := s.ref.holdLo || lo, holdHi := s.ref.holdHi || !lo
        srcLo := s.ref.srcLo && !lo, srcHi := s.ref.srcHi && lo } }
      (List.range 6).foldl (fun (s : State) j => if j = k || s.enabled j then s.request j .ascHold cause else s) s
    | _ => s.request k f cause
  s.safeOutDrop

/-- A latched state is released: the request recorded below it takes its place, else nothing. -/
def State.unforce (s : State) (k : Nat) : State :=
  let low := topRequest (s.rs k).lower
  let s := s.modRs k fun r => { r with
    forced := none, lower := r.lower.filter (fun p => some p ≠ low), holdOwner := false, ss1 := none }
  match low with
  | some (f, c) => s.latch k f c
  | none => s.linksRefresh k

/-- An ASC state changes to a latched pulse block, or to the recorded request (R300). -/
def State.ascRelease (s : State) (k : Nat) : State :=
  match (s.rs k).forced with
  | some (_, c) =>
    let p := (topRequest (s.rs k).lower).getD (.pulseBlock, c)
    (s.modRs k fun r => { r with forced := none, lower := r.lower.filter (· ≠ p), holdOwner := false }).latch k p.1 p.2
  | none => s

/-- |ω0| of R304, the Referee's speed estimate at the request; where it is unknown, an infinite one, under which no later
speed violates the envelope (log entry 33). -/
def State.ss1Speed (s : State) (k : Nat) : F32 :=
  if bit (s.obj (Obj.SAF_SLICE_STAT + k)) 2 then fAbs (s.objF (Obj.SAF_SPEED_EST + k)) else 0x7F800000#32

/-- SS1 is requested (R304): a RAMP stop of the slice, watched by the Referee; in a state that does not turn the machine,
pulse block at once, under the request's own cause. -/
def State.ss1Request (s : State) (k : Nat) (cause : Nat) : State :=
  if (s.rs k).ss1.isSome then s
  else match (s.sl k).st with
    | .running | .engaging | .stopping =>
      if (s.rs k).forced.isSome then s
      else (s.modRs k fun r => { r with ss1 := some (s.clk, s.ss1Speed k) }).stop k 0 4
    | _ => s.force k .pulseBlock cause

/-! ## Degraded mode -/

/-- A degraded limit of 0.0 lets the slice neither turn nor make torque (R305). -/
def State.noDegraded (s : State) (k : Nat) : Bool :=
  fEq (s.safoF k Obj.SAF_DEG_TORQUE) 0#32 || fEq (s.safoF k Obj.SAF_DEG_SPEED) 0#32

/-- A cause of Table 12.6 on a slice: entry starts or resumes the remaining time and posts SAF_DEGRADED; a further
cause, of a later tick and so independent, requests SS1, unless Table 6.10 has given a stricter reaction on this tick, `strict`
(R307 to R309). `row` is the cause's code in R446. -/
def State.degradeBy (s : State) (k row unit : Nat) (strict : Bool) : State :=
  let cause := row * 256 + unit
  let r := s.rs k
  if r.degCauses.contains cause then s
  else if r.degCauses.isEmpty then
    let s := s.modRs k fun r => { r with
      degCauses := [cause], degAt := s.now, degSeen := true
      degDeadline := if s.noDegraded k then none else some (s.clk + s.degUnits k) }
    let s := s.post srcRef 0x0601 k (row + s.degLeft k * 2 ^ 16)
    if s.noDegraded k && !strict then s.ss1Request k 3 else s
  else
    let s := s.modRs k fun r => { r with degCauses := r.degCauses ++ [cause] }
    if r.degAt = s.now || strict then s else s.ss1Request k 3

def State.degrade (s : State) (k row unit : Nat) : State := s.degradeBy k row unit false

/-- Causes are cleared; with none left the time that remains is kept (R309). -/
def State.undegrade (s : State) (k : Nat) (keep : Nat → Bool) : State :=
  let r := s.rs k
  let l := r.degCauses.filter keep
  if r.degCauses.isEmpty then s
  else if l.isEmpty then
    s.modRs k fun r => { r with degCauses := [], degLeft := some (s.degUnits k), degDeadline := none }
  else s.modRs k fun r => { r with degCauses := l }

/-- Cancel a pending handover: 0 heartbeat failure, 1 demotion, 2 fault (R336). -/
def State.abortHandover (s : State) (cause : Nat) : State :=
  if s.flk.handover.isSome then
    { s with flk := { s.flk with handover := none, byPath := false } }.post srcCp 0x0702 0xFF cause
  else s

/-- A Referee fault (R310): the fail-safe state on every enabled slice, both release sources off, SAFE_OUT_N low. It cancels a
handover (R336). -/
def State.refereeFault (s : State) (cause : Nat) : State :=
  if s.ref.fault then s
  else
    let s := s.abortHandover 2
    let s := { s with ref := { s.ref with fault := true, srcLo := false, srcHi := false, safeOut := false } }
    let s := s.post srcRef 0x0602 0xFF cause
    (List.range 6).foldl (fun s k =>
      if s.enabled k then
        s.force k (if s.obj (safo k Obj.SAF_REF_FAIL_STATE) = 2 then .ascFrame else .pulseBlock) 0x0B
      else s) s

/-! ## Link faults (R291) -/

/-- A link faults: FAULT, GL_FAULT, SAFE with the link's own SAFE_STATE, and the observer-loss reaction of its slice. -/
def State.linkFault (s : State) (l cause : Nat) : State :=
  if bit (s.obj (Obj.GL_STAT + l)) 15 then s
  else
    let k := s.linkSlice l
    let s := s.putFlag (Obj.GL_STAT + l) 15 true
    let s := s.post (srcOwner k) 0x0520 l (cause + k * 2 ^ 8)
    let s := (s.modGl l fun g => { g with linkSafe := true }).linkRefresh l
    let s := if bit (s.glCfg l) 63 then s.abortHandover 2 else s
    if k < 6 then s.lossReact k else s

end Sys2Proof.Machine
end

