-- ==== Sys2Proof/Machine/Roles.lean ====
section
/-!
DEFINITION. Flask roles (R324 to R327, R333, R336, R337): the conditions of pairing, the transitions of Table 13.4, claims
on the ring, handover, and the start and failure of a resynchronisation (R339).
-/

namespace Sys2Proof.Machine

/-- Frames of this device leave on the ring: it has a node ID, and the by-pass is open (R31, R396). -/
def State.ringOn (s : State) : Bool := s.isReady && !s.mu.bypass && s.mu.bound.isSome

/-- Broadcast a CLAIM frame; the model keeps the 16 newest (Table 13.10). -/
def State.sendClaim (s : State) : State :=
  if s.ringOn then
    ({ s with ring := { s.ring with claims := ((s.now, s.claim) :: s.ring.claims).take 16 } } : State).ringTx 2 0
      (toLE 8 s.now ++ toLE 2 s.claim)
  else s

/-- FLK_LAST_SWITCH right after a change to or from active: stamp, cause, continuous so far, no GAP reported. -/
def State.noteSwitch (s : State) (cause : Nat) : State :=
  (s.bump Obj.FLK_SWITCH_CNT 0xFFFFFFFF).setObj Obj.FLK_LAST_SWITCH (s.now % 2 ^ 64 + cause * 2 ^ 64 + 2 ^ 72)

/-- On becoming active each controller returns to its configured mode: bus integration, error counters at 0 (R352). -/
def Can.restore (clk : Nat) (u : Can) : Can :=
  if u.mode = 0 then u else { u with integrating := true, integAt := clk, tec := 0, recCnt := 0 }

/-- A change of the clock's driver cuts a running SSI frame off (R190). -/
def Enc.cutFrame (e : Enc) : Enc := if e.frameStart.isSome then { e with frameCut := true } else e

/-- Every SSI frame that runs is cut off, in the Referee's decoders too. -/
def State.cutFrames (s : State) : State :=
  { s with enc := s.enc.map (fun e => (e.1, e.2.cutFrame))
           ref := { s.ref with sl := s.ref.sl.map (fun e => (e.1, { e.2 with enc := e.2.enc.cutFrame })) } }

def Gl.newClaim (g : Gl) : Gl := { g with claimOwn := 0, claimMiss := 0, claimHigher := 0, pathLoss := 0 }

/-- Change the role on this tick (Table 13.4); every change sends CLAIM. -/
def State.setRole (s : State) (r : Role) (cause : Nat) : State :=
  if s.flk.role = r then s
  else
    let was := s.flk.role
    let s : State := { s with flk := { s.flk with role := r }, gl := s.gl.map (fun e => (e.1, e.2.newClaim)) }
    let s := if was = .active || r = .active then s.cutFrames.noteSwitch cause else s
    let s : State := if r = .active then { s with can := s.can.map (fun e => (e.1, e.2.restore s.clk)) } else s
    s.sendClaim

/-- A device demoted from active or candidate: OUT_OF_STEP where its mirror sequence has a gap. -/
def State.demote (s : State) : State :=
  let s := s.abortHandover 1
  let s : State := { s with flk := { s.flk with step := if s.flk.missing.isEmpty then .inStep else .outOfStep } }
  s.setRole .standby 2

/-- Links that are enabled and of an enabled slice, as Table 13.4 counts them. -/
def State.enabledLinks (s : State) : List Nat := (List.range 24).filter fun l => bit (s.glCfg l) 63

/-- Candidate to active: the last 3 STATUS frames on every enabled link show the own claim, and no higher claim has been
heard on the ring within 30 µs (Table 13.4). -/
def State.tryPromote (s : State) : State :=
  let quiet := match s.flk.higherAt with
    | some d => decide (d ≤ s.clk)
    | none => true
  if s.flk.role = .candidate && quiet && s.enabledLinks.all (fun l => decide (3 ≤ (s.glU l).claimOwn)) then
    s.setRole .active s.flk.why
  else s

/-- Become candidate; `why` is the cause a change to active will carry. -/
def State.candidate (s : State) (why : Nat) : State :=
  let s : State := { s with flk := { s.flk with why := why } }
  (s.setRole .candidate 2).tryPromote

/-! ## Pairing (R324) -/

/-- Firmware version of the running bank. -/
def State.version (s : State) : Nat := (s.mu.banks.getD s.mu.active {}).version

/-- Generations lie in the running manifest's compatible ranges (R410, R411): its own generations do (DEDUCED, log entry 22). -/
def State.gensFit (s : State) (g : Nat) : Bool := g % 2 ^ 24 = s.mu.ownGens % 2 ^ 24 || Config.gensOk s.version g

/-- A schema lies in the running manifest's compatible range (R402): its own schema does (DEDUCED, log entry 22). -/
def State.schemaFit (s : State) (g : Nat) : Bool := g = bits s.mu.ownGens 23 16 || Config.schemaOk s.version g

/-- The first condition of R324 that fails, 1 to 6 in its order; 0: none. With no partner heard, its own half. -/
def State.joinFail (s : State) (h : Option Heartbeat) : Nat :=
  if !s.inFlask then 1
  else match s.mu.bound with
    | none => 2
    | some b =>
      let v := s.version
      if b.partner ≠ s.partnerId || h.any (fun h => h.partner ≠ b.node) then 2
      else if b.node % 256 = s.partnerId % 256 then 3
      else if h.any (fun h => h.version ≠ v && !(Config.pairOk v h.version && Config.pairOk h.version v)) then 4
      else if h.any (fun h => h.setCrc ≠ s.obj Obj.SAF_SET_CRC) then 5
      else if s.flk.clkMargin || h.any Heartbeat.clkMargin then 6 else 0

/-- Check R324; a failing condition is posted once until another one fails or all hold. -/
def State.joinCheck (s : State) (h : Option Heartbeat) : State × Bool :=
  let c := s.joinFail h
  let s : State := { s with flk := { s.flk with clash := decide (c = 3) || (s.flk.clash && decide (c ≠ 0)), joinRefused := c } }
  (s, c = 0)

def State.refuseJoin (s : State) (old : Nat) : State :=
  if s.flk.joinRefused = 0 || s.flk.joinRefused = old then s
  else s.post srcCp 0x0700 0xFF (s.flk.joinRefused + s.partnerId * 2 ^ 16)

/-- Check R324 and post its refusal; the result tells whether the device may pair. -/
def State.mayJoin (s : State) (h : Option Heartbeat) : State × Bool :=
  let old := s.flk.joinRefused
  let (s, ok) := s.joinCheck h
  (s.refuseJoin old, ok)

/-! ## Resynchronisation (R339) -/

/-- A resynchronisation starts: step 1 passed, step 2 begins; role none; trace capture stops (R427). -/
def State.startResync (s : State) : State :=
  let s := s.setRole .none 2
  { s with
    flk := { s.flk with step := .resync, resyncStep := 2, alignCount := 0, retryAt := none, missing := [], mirror := [],
                        snapAt := none, resyncDeadline := none, edgesFrom := none, image := [], imageLen := 0, held := []
                        encAt := [], seqNo := 0 }
    dia := { s.dia with traceOn := false, traceHeld := false } }

/-- A step fails: FLK_RESYNC_FAIL, and one retry after 1 s with AUTO_RESYNC. -/
def State.failResync (s : State) : State :=
  if s.flk.step = .resync then
    let n := s.flk.resyncStep
    let again := bit (s.obj Obj.FLK_CFG) 126 && !s.flk.retried
    let s : State := { s with flk := { s.flk with
      step := .none, resyncStep := 0, resyncDeadline := none, snapAt := none, mirror := [], missing := [],
      retried := true, retryAt := if again then some (s.clk + sUnits) else none } }
    s.post srcCp 0x0704 0xFF n
  else s

/-- Resynchronise by itself, with AUTO_RESYNC, when the partner is active and R324 is met. -/
def State.autoResync (s : State) (h : Heartbeat) : State :=
  if bit (s.obj Obj.FLK_CFG) 126 && s.flk.step ≠ .resync && !s.flk.retried then
    let (s, ok) := s.mayJoin (some h)
    if ok then s.startResync else s
  else s

/-- The resynchronisation ends: the device is standby, in step (R339). -/
def State.joinPair (s : State) : State :=
  ({ s with flk := { s.flk with
    step := if s.flk.loose then .loose else .inStep, resyncStep := 0, resyncDeadline := none, snapAt := none, retried := false
    encAt := [] } } : State).setRole .standby 2

/-- Step 8 of Table 13.8 at an update interval of slice `k` that starts now. -/
def State.joinAt (s : State) (k : Nat) : State :=
  if s.flk.step = .resync && s.flk.resyncStep = 8 && (match s.flk.edgesFrom with | some f => decide (f + s.lead k ≤ s.now) | none => true)
  then s.joinPair else s

/-! ## Handover (R336) -/

/-- A fault of this device that cancels a handover: a faulted enabled link, a Referee fault. -/
def State.ownFault (s : State) : Bool :=
  s.ref.fault || s.enabledLinks.any (fun l => bit (s.obj (Obj.GL_STAT + l)) 15)

/-- The boundary: roles are exchanged (R336). -/
def State.handoverNow (s : State) : State :=
  match s.flk.handover with
  | some t =>
    if t ≤ s.now then
      if s.ownFault then s.abortHandover 2
      else
        let cause := if s.flk.byPath then 3 else 0
        let s : State := { s with flk := { s.flk with handover := none, byPath := false } }
        match s.flk.role with
        | .active =>
          let s := s.setRole .standby cause
          { s with flk := { s.flk with step := if s.flk.loose then .loose else .inStep } }.post srcCp 0x0701 0xFF 1
        | .standby => (s.setRole .active cause).post srcCp 0x0701 0xFF 3
        | _ => s.post srcCp 0x0702 0xFF 1
    else s
  | none => s

/-- Whether R336 permits a handover now, as the partner's heartbeat shows it. -/
def State.mayHandOver (s : State) : Bool :=
  match s.flk.partner with
  | some h =>
    let v := s.version
    (h.step = 3 || (h.step = 5 && Config.pairOk v h.version && Config.pairOk h.version v)) &&
      s.enabledLinks.all (fun l => bit h.validMask l)
  | none => false

/-- Enabled links that the drivers report valid from this device, as the heartbeat's mask (Table 13.10). -/
def State.linkValid (s : State) (l : Nat) : Bool :=
  let b := s.obj (Obj.GL_STATUS_LAST + l)
  bit (s.glCfg l) 63 && !bit (s.obj (Obj.GL_STAT + l)) 15 && (s.glU l).statusSeen && (if bit b 45 then bit b 43 else bit b 44)

def State.validMask (s : State) : Nat := ((List.range 24).filter s.linkValid).foldl (fun m l => m + 2 ^ l) 0

/-- The first multiple of 8,000 units at or after a stamp. -/
def gridUp (t : Stamp) : Stamp := (t + 7999) / 8000 * 8000

/-- Default boundary, counted from a stamp. -/
def State.handoverLead (s : State) : Nat := bits (s.obj Obj.FLK_CFG) 63 48 * usUnits

end Sys2Proof.Machine
end

