-- ==== Sys2Proof/Machine/Engine.lean ====
section
/-!
DEFINITION. The Crucible (R202 to R231): the law and its number format, the matrix units' queues, overruns, output
writes, competition groups, torque to current, the staged set and its commit, coefficient changes, shedding.
Stamps of the engine are stamp units; one engine cycle is 10 of them.
-/

namespace Sys2Proof.Machine

/-! ## Header fields (Table 9.5) -/

def hNX (h : Nat) : Nat := bits h 255 252
def hNY (h : Nat) : Nat := bits h 251 249
def hNU (h : Nat) : Nat := bits h 248 246
def hNR (h : Nat) : Nat := bits h 245 243
def hNZ (h : Nat) : Nat := bits h 242 240
def hSlice (h : Nat) : Nat := bits h 239 237
def hUnit (h : Nat) : Nat := bits h 236 236
def hEarly (h : Nat) : Bool := bit h 235
def hChain (h : Nat) : Bool := bit h 234
def hAwSat (h : Nat) : Bool := bit h 233
def hShed (h : Nat) : Bool := bit h 232
def hDisc (h : Nat) : Bool := bit h 231
def hFloor (h : Nat) : Bool := bit h 230
def hDirmul (h : Nat) : Bool := bit h 229
def hD (h : Nat) : Nat := bits h 227 215
def hPrime (h : Nat) : Nat := bits h 214 207
def hChainSrc (h : Nat) : Nat := bits h 206 201
def hDest (h j : Nat) : Nat := bits h (135 + 8 * j) (128 + 8 * j)
def hY (h j : Nat) : Nat := bits h (79 + 16 * j) (64 + 16 * j)
def hR (h j : Nat) : Nat := bits h (15 + 16 * j) (16 * j)

/-- Multiply-accumulates of one evaluation (R202). -/
def hMac (h : Nat) : Nat :=
  hNY h * hNX h + hNR h * hNY h + hNU h * (hNX h + hNR h + hNZ h) + hNX h * (hNX h + hNU h + hNY h) + hNZ h * hNR h

/-- Engine cycles of one evaluation (R206). -/
def hCycles (h : Nat) : Nat := 12 + (hMac h + 15) / 16

def hMember (h : Nat) : Bool := hDest h 0 = 5

/-- Sources of a context that are in use. -/
def hSources (h : Nat) : List Nat := (List.range (hNY h)).map (hY h) ++ (List.range (hNR h)).map (hR h)

/-- A frame-unit signal: codes 0x00 to 0x03 and 0x0E to 0x11 (R207). -/
def srcFrame (v : Nat) : Bool := v / 4096 = 1 && (v % 4096 ≤ 3 || (0xE ≤ v % 4096 && v % 4096 ≤ 0x11))

def hFrame (h : Nat) : Bool := (hSources h).any srcFrame

/-! ## Checks of a definition (R202, R215, R218) -/

/-- A valid source code (Table 9.7). -/
def srcOk (v : Nat) : Bool :=
  let i := v % 4096
  match v / 4096 with
  | 0 => i = 0
  | 1 => i ≤ 0x11
  | 2 => i ≤ 15
  | 3 => i ≤ 31
  | 4 => i ≤ 255
  | 5 => i ≤ 3
  | _ => false

def dimsOk (h : Nat) : Bool :=
  hNX h ≤ 8 && hNY h ≤ 4 && 1 ≤ hNU h && hNU h ≤ 4 && hNR h ≤ 4 && hNZ h ≤ 4 && (hNR h ≠ 0 || hNZ h = 0) && hMac h ≤ 192

def headerOk (h : Nat) : Bool :=
  hSlice h ≤ 5 && !bit h 228 && bits h 200 192 = 0 && 64 ≤ hD h && hD h ≤ 4096 && 1 ≤ hdrRate h && hdrRate h ≤ 200000
  && (!hDisc h || 2 ≤ hNU h)
  && (List.range 4).all (fun j => if j < hNU h then hDest h j ≤ 8 && (hDest h j ≠ 5 || j = 0) else hDest h j = 0)
  && (List.range 4).all (fun j => if j < hNY h then srcOk (hY h j) else hY h j = 0)
  && (List.range 4).all (fun j => if j < hNR h then srcOk (hR h j) else hR h j = 0)

/-- Base, rows and columns of a matrix (Table 9.8). -/
def matrixOf (id : Nat) : Nat × Nat × Nat :=
  [(0, 8, 8), (64, 8, 4), (96, 4, 8), (128, 8, 4), (160, 4, 4), (176, 4, 4), (192, 4, 8), (224, 4, 4), (240, 4, 4),
   (256, 4, 1), (260, 4, 1), (264, 4, 1), (268, 4, 1), (272, 4, 1)].getD id (0, 0, 0)

/-- Rows and columns of a matrix that a context uses. -/
def matrixDims (h id : Nat) : Nat × Nat :=
  [(hNX h, hNX h), (hNX h, hNU h), (hNY h, hNX h), (hNX h, hNY h), (hNR h, hNY h), (hNZ h, hNR h), (hNU h, hNX h),
   (hNU h, hNR h), (hNU h, hNZ h), (hNZ h, 1), (hNZ h, 1), (hNU h, 1), (hNU h, 1), (hNU h, 1)].getD id (0, 0)

/-- Whether position `p` of an image lies inside the context's dimensions. -/
def inDims (h p : Nat) : Bool :=
  (List.range 14).any fun id =>
    let m := matrixOf id
    let d := matrixDims h id
    m.1 ≤ p && p < m.1 + m.2.1 * m.2.2 && (p - m.1) / m.2.2 < d.1 && (p - m.1) % m.2.2 < d.2

def cf (img : Bank F32) (id i j : Nat) : F32 := bget 0#32 img ((matrixOf id).1 + i * (matrixOf id).2.2 + j)

def imageOk (h : Nat) (img : Bank F32) : Bool :=
  img.all (fun e => fFin e.2 && (e.2 = 0#32 || inDims h e.1))
  && (List.range (hNZ h)).all (fun i => fLe (cf img 9 i 0) (cf img 10 i 0))
  && (List.range (hNU h)).all (fun i => fLe (cf img 11 i 0) (cf img 12 i 0)
      && ((hDisc h && i < 2) || (fLe (cf img 11 i 0) (cf img 13 i 0) && fLe (cf img 13 i 0) (cf img 12 i 0))))
  && (!hDisc h || (fLt 0#32 (cf img 12 0 0) && fLe (fMag (cf img 13 0 0, cf img 13 1 0)) (cf img 12 0 0)))

/-- The first failing check of a definition: 0 none, 1 R202, 2 R215, 3 R218. -/
def defCheck (h : Nat) (img : Bank F32) : Nat :=
  if !dimsOk h then 1 else if !headerOk h then 2 else if !imageOk h img then 3 else 0

/-! ## The law (R203, R204, R225, R226) -/

/-- A chain of fused multiply-adds (R204). -/
def chain (a : F32) (l : List (F32 × F32)) : F32 := l.foldl (fun a t => fFma t.1 t.2 a) a

def nth (l : List F32) (i : Nat) : F32 := l.getD i 0#32

/-- The terms coefficient(i, j) times value j. -/
def row (img : Bank F32) (id i n : Nat) (v : List F32) (neg : Bool) : List (F32 × F32) :=
  (List.range n).map fun j => (if neg then fNeg (cf img id i j) else cf img id i j, nth v j)

/-- sat() of R225. -/
def satU (h : Nat) (img : Bank F32) (v : List F32) : List F32 :=
  let box := fun i => fMin (fMax (nth v i) (cf img 11 i 0)) (cf img 12 i 0)
  if hDisc h then
    let um := cf img 12 0 0
    let m := fSqrt (fAdd (fMul (nth v 0) (nth v 0)) (fMul (nth v 1) (nth v 1)))
    let g := fMul um (fRecip m)
    (List.range (hNU h)).map fun i => if i < 2 then (if fGt m um then fMul (nth v i) g else nth v i) else box i
  else (List.range (hNU h)).map box

/-- One evaluation: outputs v and u, the new observer state and integrators, whether an output is limited and whether
integration stopped. -/
structure LawOut where
  v : List F32
  u : List F32
  xn : List F32
  zn : List F32
  limited : Bool
  stopped : Bool

def law (h : Nat) (img : Bank F32) (xh z y r : List F32) (priming won : Bool) : LawOut :=
  let nx := hNX h
  let zc := (List.range (hNZ h)).map fun i => fClamp (nth z i) (cf img 9 i 0) (cf img 10 i 0)
  let e := (List.range (hNY h)).map fun i => chain (nth y i) (row img 2 i nx xh true)
  let w := (List.range (hNR h)).map fun i => chain (nth r i) (row img 4 i (hNY h) y true)
  let v := (List.range (hNU h)).map fun i =>
    chain 0#32 (row img 6 i nx xh true ++ row img 7 i (hNR h) r false ++ row img 8 i (hNZ h) zc false)
  let u := if priming then (List.range (hNU h)).map (fun i => cf img 13 i 0) else satU h img v
  let limited := !priming && (List.range (hNU h)).any (fun i => nth u i ≠ nth v i)
  let stopped := priming || (hAwSat h && limited) || (hMember h && !won)
  let xn := (List.range nx).map fun i =>
    chain 0#32 (row img 0 i nx xh false ++ row img 1 i (hNU h) u false ++ row img 3 i (hNY h) e false)
  let zn := (List.range (hNZ h)).map fun i =>
    if priming then 0#32
    else if stopped then nth zc i
    else fClamp (chain (nth zc i) (row img 5 i (hNR h) w false)) (cf img 9 i 0) (cf img 10 i 0)
  { v := v, u := u, xn := xn, zn := zn, limited := limited, stopped := stopped }

def padTo (n : Nat) (l : List F32) : List F32 := (List.range n).map (nth l)

/-! ## Sources (R216) -/

/-- The slice signals as they stand on this tick, for the evaluations whose sample stamp it is (R216). Each operation that
changes a signal calls this after it. -/
def State.holdSignals (s : State) (k : Nat) : State :=
  let x := s.sl k
  { s with eng := { s.eng with ctxs := s.eng.ctxs.map fun c =>
      (c.1, if c.2.hdr ≠ 0 && hSlice c.2.hdr = k then { c.2 with evals := c.2.evals.map fun e =>
        if e.tick = s.tick && e.started.isNone then
          { e with sig := x.sig, ramp := x.rampRef, sigAt := x.lastSample, pred := x.pred } else e }
      else c.2) } }

/-- A slice signal for an evaluation, at its sample stamp (Tables 9.4, 10.4). The frame-unit signals and the speed are formed
at that stamp where no control sample was taken at it. -/
def State.signal (s : State) (k code : Nat) (e : Eval) : F32 :=
  let x := s.sl k
  let t := e.sample
  let live := t = x.lastSample
  let cur := live || t = e.sigAt
  let h := e.sig
  let g := if live then { h with iD := x.sig.iD, iQ := x.sig.iQ, iD2 := x.sig.iD2, iQ2 := x.sig.iQ2,
                                 iAlpha := x.sig.iAlpha, iBeta := x.sig.iBeta, omegaE := x.sig.omegaE } else h
  let dq := fun base sh => park (clarke (s.phases k base t)) (e.pred.angAt t - sh)
  match code with
  | 0x00 => if cur then g.iD else (dq 0 0#32).1
  | 0x01 => if cur then g.iQ else (dq 0 0#32).2
  | 0x02 => if cur then g.iD2 else (dq 3 (BitVec.ofNat 32 (s.slo k Obj.SLC_SET2_SHIFT))).1
  | 0x03 => if cur then g.iQ2 else (dq 3 (BitVec.ofNat 32 (s.slo k Obj.SLC_SET2_SHIFT))).2
  | 0x04 => if cur then g.omegaE else e.pred.speedAt t
  | 0x05 => s.vdc k t
  | 0x06 => e.ramp
  | 0x07 => g.torqueRef
  | 0x08 => g.idRef
  | 0x09 => g.iqRef
  | 0x0A => g.vdApp
  | 0x0B => g.vqApp
  | 0x0C => g.vMargin
  | 0x0D => fDiv (fMul (fMul g.torqueRef f32TwoPi) (if cur then g.omegaE else e.pred.speedAt t)) (f32OfInt (s.slo k Obj.SLC_POLE_PAIRS))
  | 0x0E => if cur then g.iAlpha else (s.iab k t).1
  | 0x0F => if cur then g.iBeta else (s.iab k t).2
  | 0x10 => g.vAlpha
  | 0x11 => g.vBeta
  | _ => 0#32

/-- The value of a source code for context `c` (Table 9.7). -/
def State.source (s : State) (c v : Nat) (e : Eval) : F32 :=
  let k := hSlice (s.ctx c).hdr
  let i := v % 4096
  match v / 4096 with
  | 1 => s.signal k i e
  | 2 => s.slotVal k i e.sample
  | 3 => s.objF (Obj.AUX_VALUE + i)
  | 4 => nth (s.ctx (i / 4)).out (i % 4)
  | 5 => s.objF (ctxo c (Obj.ENG_REF + i))
  | _ => 0#32

/-! ## Faults of a context (R205, R211, R212) -/

def State.setBusy (s : State) (u : Nat) (v : Option (Nat × Stamp)) : State :=
  { s with eng := { s.eng with busy := s.eng.busy.set u v } }

/-- Free every unit that computes for a context. -/
def State.freeUnits (s : State) (c : Nat) : State :=
  { s with eng := { s.eng with busy := s.eng.busy.map fun b => match b with
    | some (x, t) => if x = c then none else some (x, t)
    | none => none } }

/-- The slice runs without its encoder's angle. -/
def State.sensorless (s : State) (k : Nat) : Bool := s.slo k Obj.SLC_ANGLE_SRC = 1 || (s.sl k).blend.sensorless

/-- Reaction of the owning slice to a faulted context (Table 10.8). -/
def State.ctxReact (s : State) (c : Nat) : State :=
  let h := (s.ctx c).hdr
  let k := hSlice h
  let dests := (List.range (hNU h)).map (hDest h)
  if !s.enabled k then s
  else if dests.any (fun d => 1 ≤ d && d ≤ 4) then s.lossReact k
  else if s.slo k Obj.SLC_OBS_CTX = c && s.sensorless k && fGt (s.sl k).blend.b 0#32 then s.lossReact k
  else if dests.any (fun d => d = 5 || d = 6) then s.stop k (s.slo k Obj.SLC_FAULT_STOP) 3
  else s

/-- Whether Table 10.8 treats the fault of a context as an event only. -/
def State.ctxEventOnly (s : State) (c : Nat) : Bool :=
  let h := (s.ctx c).hdr
  let k := hSlice h
  !((List.range (hNU h)).any (fun j => 1 ≤ hDest h j && hDest h j ≤ 6)
    || (s.slo k Obj.SLC_OBS_CTX = c && s.sensorless k && fGt (s.sl k).blend.b 0#32))

/-- A context faults: 0 overrun, 1 non-finite, 2 memory error. Evaluations queued or computing are dropped; a result
already held, and the repeat of the faulting overrun, are still written (R211). -/
def State.ctxFault (s : State) (c cause : Nat) : State :=
  if (s.ctx c).fault || (s.ctx c).hdr = 0 then s
  else
    let s := s.freeUnits c
    let s := s.modCtx c fun x => { x.settled s.now with
      fault := true
      evals := if cause = 0 then x.evals.filter (fun e => e.done) else []
      repeats := if cause = 0 then x.repeats else [] }
    let s := if cause = 1 then s.setFlag (ctxo c Obj.ENG_STAT) 8 else s
    let s := s.post (srcSl (hSlice (s.ctx c).hdr)) 0x0500 c (cause + hSlice (s.ctx c).hdr * 2 ^ 8)
    s.ctxReact c

/-- Count an overrun whose repeat is written at `last`; the third in a row faults the context on its tick, and that repeat is
the context's last write (R211). -/
def State.overrun (s : State) (c : Nat) (last : Stamp) : State :=
  let s := (s.setFlag (ctxo c Obj.ENG_STAT) 1).bump (ctxo c Obj.ENG_OVERRUN_CNT) 0xFFFFFFFF
  let s := s.modCtx c fun x => { x with consec := min 3 (x.consec + 1) }
  if (s.ctx c).consec ≥ 3 then
    (s.ctxFault c 0).modCtx c fun x => { x with
      evals := x.evals.filter fun e => decide (e.sample + 10 * hD x.hdr ≤ last)
      repeats := x.repeats.filter fun r => decide (r.1 ≤ last) }
  else s

/-! ## Competition group and torque to current (R227, R228, R242) -/

/-- sign of binary32 with zero kept apart. -/
def fNegative (x : F32) : Bool := fLt x 0#32
def fPositive (x : F32) : Bool := fLt 0#32 x

/-- The member of least (`lo`) or greatest compared value; the first of equals. -/
def pickMember (lo : Bool) : List (Nat × F32) → Option (Nat × F32)
  | [] => none
  | m :: l => match pickMember lo l with
    | some b => if (if lo then fLt b.2 m.2 else fGt b.2 m.2) then some b else some m
    | none => some m

/-- Current references from TORQUE_REF (R242). -/
def State.torqueToCurrent (s : State) (k : Nat) : State :=
  let x := s.sl k
  let tmax := s.sloF k Obj.SLC_MTPA_TMAX
  let cap := match s.torqueLimit k with
    | some l => fMin tmax l
    | none => tmax
  let t0 := x.sig.torqueRef
  let lim1 := fGt (fAbs t0) cap
  let t := if lim1 then (if fSgnB t0 then fNeg cap else cap) else t0
  let xx := fDiv (fMul (fAbs t) (f32OfInt 255)) tmax
  let kk := min 255 (fDy xx).floor.toNat
  let tab := fun n => s.sloF k (Obj.SLC_MTPA + n)
  let idm := if kk ≥ 255 then tab 255
    else fAdd (tab kk) (fMul (fSub xx (f32OfInt kk)) (fSub (tab (kk + 1)) (tab kk)))
  let id := fMax (fAdd idm (fMin x.sig.idFw 0#32)) (s.sloF k Obj.SLC_ID_MIN)
  let c : F32 := if s.slo k Obj.SLC_TOPOLOGY = 1 then f32Three else 0x3FC00000#32
  let d := fMul (fMul c (f32OfInt (s.slo k Obj.SLC_POLE_PAIRS)))
    (fAdd (s.sloF k Obj.SLC_PSI) (fMul (fSub (s.sloF k Obj.SLC_LD) (s.sloF k Obj.SLC_LQ)) id))
  let lim5 := !fPositive d
  let iq0 := if lim5 then 0#32 else fDiv t d
  let im := s.sloF k Obj.SLC_I_MAX
  let qm := fSqrt (fMax (fSub (fMul im im) (fMul id id)) 0#32)
  let lim6 := fGt (fAbs iq0) qm
  let iq := if lim6 then (if fSgnB iq0 then fNeg qm else qm) else iq0
  let s := s.putFlag (slc k Obj.SLC_STATUS) 4 (lim1 || lim5 || lim6)
  s.modSl k fun x => { x with sig := { x.sig with idRef := id, iqRef := iq } }.noteRefs s.now id iq

/-- A group decision of a slice (R227, R228, R238). A slice in DISCHARGING ignores the group (R259). -/
def State.groupDecide (s : State) (k : Nat) : State :=
  let members := s.ctxWith fun h => hSlice h = k && hMember h
  let x := s.sl k
  let neg := if fNegative x.rampRef then true else if fPositive x.rampRef then false else x.groupNeg
  let sg := fun (v : F32) => if neg then fNeg v else v
  let val := fun (c : Nat) => let o := nth (s.ctx c).out 0; if hDirmul (s.ctx c).hdr then sg o else o
  let low := (members.filter fun c => !hFloor (s.ctx c).hdr).map (fun c => (c, val c))
  let low := if x.torqueMode then low ++ [(0xFE, sg x.torqueCmd)] else low
  let flo := (members.filter fun c => hFloor (s.ctx c).hdr).map (fun c => (c, val c))
  match pickMember true low with
  | none => s
  | some a =>
    let win := match pickMember false flo with
      | some b => if fGe a.2 b.2 then a else b
      | none => a
    let tr := sg win.2
    let s := members.foldl (fun (s : State) c => s.modCtx c fun y => { y with lastWon := c = win.1 }) s
    let s := s.setObjF (slc k Obj.SLC_GROUP_OUT) tr
    let s := s.modSl k fun x => { x with groupNeg := neg, winner := win.1, groupAt := s.now }
    if x.st = .discharging then s
    else ((s.modSl k fun x => { x with sig := { x.sig with torqueRef := tr } }).torqueToCurrent k).holdSignals k

/-! ## Triggers (R207, R210, R211, R215, R229) -/

/-- The unit that runs a context: under throttle MX1's contexts run on MX0, and a fenced unit's on the other. -/
def State.unitFor (s : State) (h : Nat) : Nat :=
  if s.moved h then 1 - hUnit h else hUnit h

/-- Output stamp of a sample in FIXED_PHASE (R208). -/
def outStamp (h : Nat) (t : Stamp) : Stamp := t + 10 * hD h

/-- The latest stamp by which a result for an output stamp is on time: that of the tick on which the output is written, the first
at or after the output stamp (R86, R208). -/
def State.outAt (s : State) (t : Stamp) : Stamp :=
  if s.now ≤ t then s.now else s.stampAt (s.tick - (s.now - t) * 2 ^ 32 / max 1 s.time.inc)

/-- The stamp of a repeat for a trigger at `t` (Table 9.3). -/
def State.repeatStamp (s : State) (c : Nat) (t : Stamp) : Stamp :=
  if hEarly (s.ctx c).hdr then s.now else outStamp (s.ctx c).hdr t

/-- Put a repeat of the previous outputs in its place (Table 9.3). -/
def State.putRepeat (s : State) (c : Nat) (t : Stamp) (late shed : Bool) : State :=
  s.modCtx c fun x => { x with repeats := x.repeats ++ [(s.repeatStamp c t, t, late, shed)] }

/-- Whether the result of an evaluation is ready by a stamp; a result ready on the very tick is (R66, R208). -/
def Eval.readyBy (e : Eval) (t : Stamp) : Bool :=
  match e.started with
  | some (_, r) => decide (r ≤ t)
  | none => false

/-- An evaluation whose result is ready: the state advances, waiting coefficient writes and seeds apply, a FIXED_PHASE
result is held (R205, R208, R213, R214, R223). A non-finite result faults the context. -/
def State.evalHeld (s : State) (c : Nat) (e : Eval) : State :=
  let h := (s.ctx c).hdr
  match e.result with
  | none => s.ctxFault c 1
  | some (_, xn, zn, lim, stp) =>
    let s := s.modCtx c fun x =>
      let left := if e.priming then x.primeLeft - 1 else x.primeLeft
      { x.settled s.now with
        xhat := (match x.waitSeed with | some v => v | none => padTo 8 xn), z := padTo 4 zn
        primeLeft := left, primed := decide (left = 0), consec := 0, stateAt := s.now
        evals := if hEarly h then x.evals.erase e else x.evals.map (fun a => if a = e then { e with done := true } else a) }
    (s.putFlag (ctxo c Obj.ENG_STAT) 4 lim).putFlag (ctxo c Obj.ENG_STAT) 5 stp

/-- The FIXED_PHASE results of a context that are ready and not held yet are held: a tick's results come before what the
tick judges (R66). -/
def State.takeReady (s : State) (c : Nat) : State :=
  let x := s.ctx c
  if hEarly x.hdr then s
  else match x.evals.find? (fun e => !e.done && e.readyBy (s.outAt (outStamp x.hdr e.sample))) with
    | some e => s.evalHeld c e
    | none => s

/-- A trigger of a defined context, with its stamp; the caller has applied the drops of R87, R233 and R215. -/
def State.trigger (s : State) (c : Nat) (t : Stamp) : State :=
  let s := s.takeReady c
  let x := s.ctx c
  let h := x.hdr
  let k := hSlice h
  let s := if (s.sl k).st = .engaging && !(s.sl k).engaged.contains c then
    s.modSl k fun y => { y with engaged := y.engaged ++ [c] } else s
  let s := if x.primeOnTrig then
    s.modCtx c fun y => { y with primeOnTrig := false, primeLeft := hPrime h, primed := false } else s
  let shed := s.shedding && hShed h && s.moved h
  let kept := !shed || x.shedPhase
  let s := s.modCtx c fun y => { y with shedPhase := if shed then !y.shedPhase else true }
  if !kept then
    (s.setFlag (ctxo c Obj.ENG_STAT) 2).putRepeat c t false true
  else
    let fast := match x.lastTrig with
      | some p => decide (t < p + 4000000000 / max 1 (hdrRate h))
      | none => false
    let busy := x.evals.any fun e => !e.done && !e.readyBy s.now
    if fast || busy then ((s.setFlag (ctxo c Obj.ENG_STAT) 2).putRepeat c t true false).overrun c (s.repeatStamp c t)
    else s.modCtx c fun y => { y with
      lastTrig := some t
      evals := y.evals ++ [
        { trigger := t, sample := t, ready := t + (if hFrame h then 160 else 0), unit := s.unitFor h, tick := s.tick
          sig := (s.sl k).sig, ramp := (s.sl k).rampRef, sigAt := (s.sl k).lastSample, pred := (s.sl k).pred }] }

/-! ## Output writes (R208, R209, R215, R230) -/

/-- Slice destinations of a write (Table 9.6). -/
def Signals.put (g : Signals) (dest : Nat) (v : F32) : Signals :=
  match dest with
  | 1 => { g with vdCmd := v }
  | 2 => { g with vqCmd := v }
  | 3 => { g with vd2Cmd := v }
  | 4 => { g with vq2Cmd := v }
  | 6 => { g with idFw := v }
  | 7 => { g with obsEa := v }
  | 8 => { g with obsEb := v }
  | _ => g

/-- What one write carries: context, sample stamp, outputs, fetch stamp where it is no repeat, and flags. -/
structure Write where
  ctx : Nat
  sample : Stamp
  u : List F32
  fetch : Option Stamp
  unit : Nat
  flags : Nat

/-- Deliver a write: ENG_OUT, the slice destinations, the observer's innovation pair, the stamps. -/
def State.deliverOut (s : State) (w : Write) : State :=
  let h := (s.ctx w.ctx).hdr
  let k := hSlice h
  let s := s.modCtx w.ctx fun x => { x with out := padTo 4 w.u, lastSample := w.sample, lastOutput := s.now, outAt := s.now }
  s.modSl k fun x =>
    let g := (List.range (hNU h)).foldl (fun g j => Signals.put g (hDest h j) (nth w.u j)) x.sig
    { x with
      sig := if s.slo k Obj.SLC_OBS_CTX = w.ctx then { g with innov0 := nth w.u 2, innov1 := nth w.u 3 } else g
      engNormal := if w.fetch.isSome && w.flags % 2 = 0 && x.st = .engaging && !x.engNormal.contains w.ctx
        then x.engNormal ++ [w.ctx] else x.engNormal }

/-- The evaluation record of a write (Table 9.14). -/
def State.evalRecord (s : State) (w : Write) : State :=
  let h := (s.ctx w.ctx).hdr
  let won := hMember h && (s.sl (hSlice h)).winner = w.ctx
  let cyc := match w.fetch with
    | some f => min 65535 ((f - w.sample) / 10)
    | none => 65535
  s.record (0x80 + w.ctx) s.now
    (toLE 8 w.sample ++ (padTo 4 w.u).flatMap (fun v => toLE 4 v.toNat) ++ toLE 1 (w.flags + 32 * b2n won) ++ toLE 1 w.unit
      ++ toLE 2 cyc ++ toLE 4 0)

/-- Contexts that an output write of `c` triggers (R215). -/
def State.chained (s : State) (c : Nat) : List Nat :=
  s.ctxWith fun h => hChain h && hChainSrc h = c && hSlice h = hSlice (s.ctx c).hdr

def State.chainFrom (s : State) (c : Nat) : State :=
  (s.chained c).foldl (fun (s : State) d =>
    if s.triggers (hSlice (s.ctx d).hdr) && !(s.ctx d).fault then s.trigger d s.now else s) s

/-- ENGAGING ends once every context triggered since its entry has written normally (R253). -/
def State.engageCheck (s : State) (k : Nat) : State :=
  let x := s.sl k
  if x.st = .engaging && !x.engaged.isEmpty
      && x.engaged.all (fun c => x.engNormal.contains c || ((s.ctx c).fault && s.ctxEventOnly c)) then
    let s := s.go k 5 .running none
    if (s.sl k).st = .running then s.post (srcSl k) 0x0510 k (x.caughtBy + x.caughtW.toNat * 2 ^ 32) else s
  else s

/-- All writes of one tick in one slice: outputs, one group decision, records, chain triggers, end of ENGAGING. -/
def State.writeAll (s : State) (k : Nat) (ws : List Write) : State :=
  let s := ws.foldl (fun s w => s.deliverOut w) s
  let s := if ws.any (fun w => hMember (s.ctx w.ctx).hdr) then s.groupDecide k else s
  let s := ws.foldl (fun s w => s.evalRecord w) s
  let s := ws.foldl (fun s w => s.chainFrom w.ctx) s
  s.engageCheck k

/-- Flags of a repeat write: REPEAT, OVERRUN, SHED, FAULT (Table 9.14). -/
def repFlags (late shed fault : Bool) : Nat := 2 + 4 * b2n late + 64 * b2n shed + 128 * b2n fault

/-- Repeats of a context that are due. -/
def State.takeRepeats (s : State) (c : Nat) : State × List Write :=
  let x := s.ctx c
  let due := x.repeats.filter fun r => r.1 ≤ s.now
  (s.modCtx c fun x => { x with repeats := x.repeats.filter fun r => decide (s.now < r.1) },
   due.map fun r => { ctx := c, sample := r.2.1, u := x.out, fetch := none, unit := s.unitFor x.hdr,
                      flags := repFlags r.2.2.1 r.2.2.2 x.fault })

/-- Whether an evaluation of a context writes now: in EARLY once its result is ready, in FIXED_PHASE at its output stamp (R208, R209). -/
def State.writesNow (s : State) (h : Nat) (e : Eval) : Bool :=
  if hEarly h then !e.done && e.readyBy s.now else outStamp h e.sample ≤ s.now

/-- The evaluation of a context that writes now: the ready result of an EARLY context; for FIXED_PHASE, whose output stamp has
come, its result where it is ready, else a late overrun, which takes it from the queue or aborts it (R208 to R210). -/
def State.takeOutput (s : State) (c : Nat) : State × List Write :=
  let s := s.takeReady c
  let x := s.ctx c
  match x.evals.find? (s.writesNow x.hdr) with
  | none => (s, [])
  | some e =>
    if hEarly x.hdr then
      match e.result with
      | some (u, _, _, lim, stp) =>
        (s.evalHeld c e, [{ ctx := c, sample := e.sample, u := u, fetch := e.started.map (·.1), unit := e.unit,
                            flags := b2n e.priming + 8 * b2n lim + 16 * b2n stp }])
      | none => (s.evalHeld c e, [])
    else
      let drop := fun (s : State) => s.modCtx c fun x => { x with evals := x.evals.erase e }
      match e.done, e.result with
      | true, some (u, _, _, lim, stp) =>
        (drop s, [{ ctx := c, sample := e.sample, u := u, fetch := e.started.map (·.1), unit := e.unit,
                    flags := b2n e.priming + 8 * b2n lim + 16 * b2n stp }])
      | _, _ =>
        let s := (drop ((s.freeUnits c).modCtx c fun x => x.settled s.now)).setFlag (ctxo c Obj.ENG_STAT) 2
        let s := s.overrun c (outStamp x.hdr e.sample)
        (s, [{ ctx := c, sample := e.sample, u := x.out, fetch := none, unit := e.unit, flags := repFlags true false (s.ctx c).fault }])

/-- The writes of a context that are due now. -/
def State.takeWrites (s : State) (c : Nat) : State × List Write :=
  let (s, a) := s.takeOutput c
  let (s, b) := s.takeRepeats c
  (s, a ++ b)

def State.hasWrite (s : State) (c : Nat) : Bool :=
  let x := s.ctx c
  x.hdr ≠ 0 && (x.repeats.any (fun r => r.1 ≤ s.now) || x.evals.any (s.writesNow x.hdr))

/-- The writes of several contexts, in their order. -/
def State.takeAll : List Nat → State → State × List Write
  | [], s => (s, [])
  | c :: l, s =>
    let r := s.takeWrites c
    let q := State.takeAll l r.1
    (q.1, r.2 ++ q.2)

/-- With context `c`, every context of its slice whose write falls due is written, so that the group decides once (R228). -/
def State.outputsWith (s : State) (c : Nat) : State :=
  if s.hasWrite c then
    let k := hSlice (s.ctx c).hdr
    let due := (s.ctxWith fun h => hSlice h = k).filter s.hasWrite
    let r := State.takeAll due s
    r.1.writeAll k r.2
  else s

/-- ENG_OUTPUT_WRITE. -/
def effEngOutputWrite (c : Fin 64) (s : State) : State := s.outputsWith c.val

/-! ## Evaluations (R206, R207) -/

/-- A pending image is swapped in at the first fetch at or after its apply stamp (R224). -/
def State.swapDue (s : State) (c : Nat) : State :=
  let x := s.ctx c
  match x.release, x.pendCoef with
  | some t, some img =>
    if t ≤ s.now then
      let s := s.modCtx c fun y => { y with
        coef := img, coefAll := { stamp := s.now, session := x.freezeSess }, coefBy := [], pendCoef := none, release := none, freezeSess := 0xFF, pendWrites := 0 }
      let s := (List.range 69).foldl (fun (s : State) w => s.keep (ctxo c (Obj.ENG_COEF + w))) s
      s.post (srcSl (hSlice x.hdr)) 0x0501 c x.pendWrites
    else s
  | _, _ => s

/-- Currents of the sample that R145 interpolates are still to come. -/
def State.frameWaits (s : State) (c : Nat) (e : Eval) : Bool :=
  let h := (s.ctx c).hdr
  hFrame h && (List.range 64).any fun n => (s.sdU n).reqs.any fun q =>
    q.slice = hSlice h && q.at_ = e.sample && !q.snapshot && slotRole (s.slot q.slice q.slot) = 0

/-- The ready evaluation with the earliest trigger, then the lowest context (R207). -/
def State.nextEval (s : State) (u : Nat) : Option (Nat × Eval) :=
  (List.range 64).foldl (fun b c =>
    match (s.ctx c).evals.find? (fun e => e.started.isNone && !e.done && e.unit = u && decide (e.ready ≤ s.now) && !s.frameWaits c e) with
    | some e => match b with
      | some (c', e') => if e.trigger < e'.trigger then some (c, e) else some (c', e')
      | none => some (c, e)
    | none => b) none

/-- A matrix unit that is free and may start an evaluation (R207, R229, R425). -/
def State.unitOpen (s : State) (u : Nat) : Bool :=
  s.isReady && (s.eng.busy.getD u none).isNone && !((u = 1 && s.throttled && !s.fenced 6) || s.fenced (6 + u))

/-- ENG_RELEASE_SWAP: the swap stands before the fetch that a unit makes of the context on this tick (R224). -/
def effEngReleaseSwap (c : Fin 64) (s : State) : State :=
  if (List.range 2).any (fun u => s.unitOpen u && ((s.nextEval u).map (·.1)) = some c.val) then s.swapDue c.val else s

/-- The evaluation of a context on a unit whose result is ready and not taken; one later than its output stamp is left to
the late overrun. -/
def State.readyOn (s : State) (u c : Nat) : Option Eval :=
  let x := s.ctx c
  x.evals.find? fun e => e.unit = u && !e.done && e.readyBy (if hEarly x.hdr then s.now else s.outAt (outStamp x.hdr e.sample))

/-- Each result of a unit that is ready is taken: an EARLY context writes with all that write on this tick (R209, R228), a
FIXED_PHASE result is held. -/
def State.takeResults (s : State) (u : Nat) : State :=
  (List.range 64).foldl (fun (s : State) c =>
    match s.readyOn u c with
    | some e => if hEarly (s.ctx c).hdr then s.outputsWith c else s.evalHeld c e
    | none => s) s

/-- ENG_EVAL_DONE: a unit whose evaluation has ended is free; each of its results that is ready is taken. -/
def effEngEvalDone (unit : Fin 2) (s : State) : State :=
  let u := unit.val
  let s := match s.eng.busy.getD u none with
    | some (_, t) => if t ≤ s.now then s.setBusy u none else s
    | none => s
  s.takeResults u

/-- Every output write of this tick: the ready results of EARLY contexts and the due writes of the others (R209). -/
def State.writesFirst (s : State) : State :=
  (List.range 64).foldl (fun (s : State) c => s.outputsWith c) ((s.takeResults 0).takeResults 1)

/-- An evaluation as its fetch on this tick makes it (R203, R206, R216). -/
def State.fetched (s : State) (c : Nat) (e : Eval) : Eval :=
  let x := s.ctx c
  let h := x.hdr
  let y := (List.range (hNY h)).map fun j => s.source c (hY h j) e
  let r := (List.range (hNR h)).map fun j => s.source c (hR h j) e
  let pr := decide (x.primeLeft > 0)
  let o := law h x.coef x.xhat x.z y r pr x.lastWon
  let bad := !((o.v ++ o.u ++ o.xn ++ o.zn).all fFin)
  { e with
    started := some (s.now, s.now + 10 * hCycles h + (if hDisc h then 80 else 0)), priming := pr
    result := if bad then none else some (o.u, o.xn, o.zn, o.limited, o.stopped) }

/-- The evaluation computes, and its fetch was made on the tick of stamp `t`. -/
def Eval.fetchedOn (e : Eval) (t : Stamp) : Bool :=
  match e.started with
  | some (f, _) => !e.done && f = t
  | none => false

/-- What a command changes before any fetch on its tick, the fetches of the tick that stand before it read too (R214, R223,
R231). -/
def State.refetch (s : State) (c : Nat) : State :=
  s.modCtx c fun x => { x with evals := x.evals.map fun e => if e.fetchedOn s.now then s.fetched c e else e }

/-- A fetch of an earlier tick is computing. -/
def State.computing (s : State) (c : Nat) : Bool :=
  (s.ctx c).evals.any fun e => e.started.isSome && !e.done && !e.fetchedOn s.now

/-- ENG_EVAL_START: on any one tick, output writes come before fetches (R209). -/
def effEngEvalStart (unit : Fin 2) (s : State) : State :=
  let u := unit.val
  if s.unitOpen u then
    let s := s.writesFirst
    match s.nextEval u with
    | none => s
    | some (c, e) =>
      let s := s.swapDue c
      let e' := s.fetched c e
      (s.modCtx c fun x => { x with evals := x.evals.map (fun a => if a = e then e' else a) }).setBusy u
        (some (c, s.now + 10 * hCycles (s.ctx c).hdr))
  else s

/-! ## Enabling (R213, R214) -/

/-- Every context of a slice enters PRIMING at the enable. -/
def State.primeContexts (s : State) (k : Nat) : State :=
  (s.ctxWith fun h => hSlice h = k).foldl (fun (s : State) c => s.modCtx c fun x =>
    { x.settled s.now with
      primeLeft := hPrime x.hdr, primed := false, primeOnTrig := false
      out := padTo 4 ((List.range (hNU x.hdr)).map fun i => cf x.coef 13 i 0)
      xhat := padTo 8 (x.seed.getD []), z := padTo 4 [], seed := none, stateAt := s.now, outAt := s.now
      evals := [], repeats := [], lastWon := true, shedPhase := true }) s

/-- A seed replaces the observer state before any fetch on this tick, and what a computing evaluation writes back (R214, R253). -/
def State.seedNow (s : State) (c : Nat) (v : List F32) : State :=
  (s.modCtx c fun x => { x with
    xhat := padTo 8 v, stateAt := s.now, waitSeed := if s.computing c then some (padTo 8 v) else x.waitSeed }).refetch c

/-! ## The staged set (R219 to R222) -/

/-- The session that owns the staged set. -/
def State.stageOwner (s : State) : Option Nat := (s.eng.staged.find? fun e => !e.2.isEmpty).map (·.1)

def State.stagedSet (s : State) : Bank Staged :=
  match s.eng.staged.find? (fun e => !e.2.isEmpty) with
  | some e => e.2
  | none => []

def State.setStaged (s : State) (sess : Nat) (b : Bank Staged) : State :=
  { s with eng := { s.eng with staged := if b.isEmpty then [] else [(sess, b)] } }

def State.stageBusy (s : State) (p : Pkt) : Bool :=
  match s.stageOwner with
  | some o => o ≠ p.session.toNat
  | none => false

/-- The header and image a context would have after a commit; header 0 where it is undefined. -/
def State.wouldBe (s : State) (c : Nat) : Nat × Bank F32 :=
  match bfind s.stagedSet c with
  | some g => if g.deleted then (0, []) else (g.hdr, g.coef)
  | none => ((s.ctx c).hdr, (s.ctx c).coef)

def State.stagePut (s : State) (sess c : Nat) (g : Staged) : State := s.setStaged sess (bset s.stagedSet c g)

def opDefineContext (p : Pkt) (s : State) : Res :=
  let b := p.payload
  let del := byteAt b 1 % 2 = 1
  let c0 := byteAt b 0
  if (del && !lenIs p 8) || (!del && !lenIs p 1144) then s.fail stBadLength
  else if s.stageBusy p then s.fail stBusy
  else if byteAt b 1 > 1 || !zeros b 2 6 || (c0 > 63 && c0 ≠ 0xFF) then s.fail stRange
  else if del then
    if c0 > 63 || (s.wouldBe c0).1 = 0 then s.fail stRange
    else (s.stagePut p.session.toNat c0 { hdr := 0, coef := [], deleted := true }).okWith (toLE 8 c0)
  else
    let h := le b 8 32
    let img : Bank F32 := (List.range 276).filterMap fun i =>
      let v := le b (40 + 4 * i) 4
      if v = 0 then none else some (i, BitVec.ofNat 32 v)
    let free := (List.range 64).find? fun c => (s.ctx c).hdr = 0 && (bfind s.stagedSet c).isNone
    match (if c0 = 0xFF then free else some c0) with
    | none => s.fail stNoContext
    | some c =>
      if defCheck h img ≠ 0 then s.fail stRange
      else (s.stagePut p.session.toNat c { hdr := h, coef := img, deleted := false }).okWith (toLE 8 c)

/-- Stage an edited header. -/
def State.stageHdr (s : State) (p : Pkt) (c : Nat) (f : Nat → Nat) : Res :=
  let (h, img) := s.wouldBe c
  let h' := f h
  if c > 63 || h = 0 || defCheck h' img ≠ 0 then s.fail stRange
  else (s.stagePut p.session.toNat c { hdr := h', coef := img, deleted := false }).okay

def opEngLink (p : Pkt) (s : State) : Res :=
  let b := p.payload
  let i := byteAt b 1
  let v := le b 2 2
  if !lenIs p 8 then s.fail stBadLength
  else if s.stageBusy p then s.fail stBusy
  else if i > 7 || !zeros b 4 4 then s.fail stRange
  else s.stageHdr p (byteAt b 0) fun h =>
    if i < 4 then putBits h (79 + 16 * i) (64 + 16 * i) v else putBits h (15 + 16 * (i - 4)) (16 * (i - 4)) v

def opEngGroup (p : Pkt) (s : State) : Res :=
  let b := p.payload
  let f := byteAt b 1
  if !lenIs p 8 then s.fail stBadLength
  else if s.stageBusy p then s.fail stBusy
  else if f > 7 || !zeros b 2 6 then s.fail stRange
  else s.stageHdr p (byteAt b 0) fun h =>
    let d := if f % 2 = 1 then 5 else if hDest h 0 = 5 then 0 else hDest h 0
    putBits (putBits (putBits h 135 128 d) 230 230 (f / 2)) 229 229 (f / 4)

/-- Whether following CHAIN_SRC from a context never ends, in `fuel` steps. -/
def chainLoops (hdr : Nat → Nat) : Nat → Nat → Bool
  | 0, _ => true
  | n + 1, c => hChain (hdr c) && chainLoops hdr n (hChainSrc (hdr c))

/-- The links and CHAIN_SRC of check 2 of Table 9.10, for one context of a configuration. -/
def linksOk (hdr : Nat → Nat) (c : Nat) : Bool :=
  let h := hdr c
  (hSources h).all (fun v => v / 4096 ≠ 4 || (hdr (v % 4096 / 4) ≠ 0 && v % 4 < hNU (hdr (v % 4096 / 4))))
  && (!hChain h || (hdr (hChainSrc h) ≠ 0 && hSlice (hdr (hChainSrc h)) = hSlice h))
  && !chainLoops hdr 65 c

/-- No other context of the slice writes a destination of context `c`, NONE and GROUP apart (R217). -/
def destsOk (hdr : Nat → Nat) (c : Nat) : Bool :=
  let h := hdr c
  (List.range (hNU h)).all fun j =>
    hDest h j = 0 || hDest h j = 5 ||
    (List.range 64).all fun d => hdr d = 0 || d = c || hSlice (hdr d) ≠ hSlice h ||
      (List.range (hNU (hdr d))).all fun i => hDest (hdr d) i ≠ hDest h j

/-- The latency bound of R222 for a context among those of its unit; `on` says which are on it. -/
def latencyOk (hdr : Nat → Nat) (on : Nat → Bool) (c : Nat) : Bool :=
  let h := hdr c
  let sum := (((List.range 64).filter fun d => hdr d ≠ 0 && on d).map fun d => hCycles (hdr d)).sum
  hEarly h || decide ((if hFrame h then 16 else 0) + sum + (if hDisc h then 8 else 0) ≤ hD h)

/-- Outcome of the commit checks: status, check number, failing context (0xFF none). -/
def commitCheck (hdr : Nat → Nat) (defined : List Nat) (full : Nat) (thr : Nat) : Nat × Nat × Nat :=
  let first := fun (f : Nat → Bool) => (defined.find? fun c => !f c)
  let r := fun (f : Nat → Bool) => ((defined.filter f).map fun c => hdrRate (hdr c)).sum
  match first (fun c => linksOk hdr c && destsOk hdr c) with
  | some c => (stRange, 2, c)
  | none =>
    let badSlice := (List.range 6).any fun k =>
      let m := defined.filter fun c => hSlice (hdr c) = k && hMember (hdr c)
      decide (m.length > 8) || (!m.isEmpty && m.all (fun c => hFloor (hdr c)))
    if badSlice then (stRange, 3, 0xFF)
    else if full > 12800000 then (stEngineBudget, 4, 0xFF)
    else if r (fun c => hUnit (hdr c) = 0) > 6400000 || r (fun c => hUnit (hdr c) = 1) > 6400000 then (stEngineBudget, 5, 0xFF)
    else match first (fun c => latencyOk hdr (fun d => hUnit (hdr d) = hUnit (hdr c)) c) with
    | some c => (stEngineBudget, 6, c)
    | none =>
      if thr > 6400000 then (stEngineBudget, 7, 0xFF)
      else match first (fun c => latencyOk hdr (fun _ => true) c) with
      | some c => (stEngineBudget, 8, c)
      | none => (stOk, 0, 0xFF)

/-- Mark a context's header and image for the NOR (R132). -/
def State.keepCtx (s : State) (c : Nat) : State :=
  let s := (s.keep (ctxo c Obj.ENG_HDR_LO)).keep (ctxo c Obj.ENG_HDR_HI)
  (List.range 69).foldl (fun (s : State) w => s.keep (ctxo c (Obj.ENG_COEF + w))) s

/-- Whether a staged change leaves a context as it is committed. -/
def Ctx.sameAs (x : Ctx) (g : Staged) : Bool :=
  !g.deleted && x.hdr = g.hdr && (List.range 276).all fun i => bget 0#32 x.coef i = bget 0#32 g.coef i

/-- Apply one staged change; one that changes nothing keeps the freeze and brings no PRIMING (R213, R219). -/
def State.applyStaged (s : State) (sess c : Nat) (g : Staged) : State :=
  let x := s.ctx c
  if x.sameAs g then s else
  let by_ : Meta := { stamp := s.now, session := sess }
  let y : Ctx := if g.deleted then { coefAll := by_ } else
    { x with coefAll := by_, coefBy := [], hdr := g.hdr, coef := g.coef, pendCoef := none, pendWrites := 0, release := none, freezeSess := 0xFF,
             waitCoef := [], primeOnTrig := true }
  (s.setCtx c y).keepCtx c

/-- The defined contexts of a configuration. -/
def definedIn (hdr : Nat → Nat) : List Nat := (List.range 64).filter fun c => hdr c ≠ 0

/-- The sum of RATE_MAX on a unit. -/
def rateSum (hdr : Nat → Nat) (u : Nat) : Nat := (((definedIn hdr).filter fun c => hUnit (hdr c) = u).map fun c => hdrRate (hdr c)).sum

/-- Whether every context on MX0 at full rate exceeds the unit (Table 9.10, check 7). -/
def needsHalf (hdr : Nat → Nat) : Bool := decide (rateSum hdr 0 + rateSum hdr 1 > 6400000)

/-- The reply of ENG_COMMIT (Table 9.9, R221): as far as the checks reached, and zero beyond. -/
def engCommitReply (hdr : Nat → Nat) (ctx chk : Nat) : List Byte :=
  let sums := chk = 0 || decide (4 ≤ chk)
  let half := chk = 0 || decide (7 ≤ chk)
  toLE 4 (if sums then rateSum hdr 0 else 0) ++ toLE 4 (if sums then rateSum hdr 1 else 0) ++ toLE 1 (b2n (half && needsHalf hdr))
    ++ toLE 1 ctx ++ toLE 1 chk ++ toLE 5 0

def opEngCommit (p : Pkt) (s : State) : Res :=
  let b := p.payload
  let set := s.stagedSet
  let hdr := fun c => (s.wouldBe c).1
  let defined := definedIn hdr
  let full := rateSum hdr 0 + rateSum hdr 1
  let thr := (defined.map fun c =>
    if needsHalf hdr && hShed (hdr c) && hUnit (hdr c) = 1 then hdrRate (hdr c) / 2 else hdrRate (hdr c)).sum
  let drop := byteAt b 0 % 2 = 1
  if !lenIs p 8 then s.fail stBadLength
  else if s.stageBusy p then s.fail stBusy
  else if !drop && !set.isEmpty && s.throttled then s.fail stThrottled
  else if byteAt b 0 > 1 || !zeros b 1 7 then s.fail stRange
  else if drop then (s.setStaged 0 []).okWith (engCommitReply (fun c => (s.ctx c).hdr) 0xFF 0)
  else if set.isEmpty then s.okWith (engCommitReply hdr 0xFF 0)
  else if s.mu.norBad then s.fail stInternal
  else
    match set.find? (fun e => !(s.ctx e.1).sameAs e.2 && (s.enabled (hSlice (s.ctx e.1).hdr) && (s.ctx e.1).hdr ≠ 0 || s.enabled (hSlice e.2.hdr) && !e.2.deleted)) with
    | some e => { st := s, status := stState, extra := engCommitReply hdr e.1 1 }
    | none =>
      let (st, chk, c) := commitCheck hdr defined full thr
      if st ≠ stOk then
        { st := s, status := st, extra := engCommitReply hdr c chk }
      else ((set.foldl (fun (s : State) e => s.applyStaged p.session.toNat e.1 e.2) s).setStaged 0 []).okWith (engCommitReply hdr 0xFF 0)

/-- R447: stored contexts that fail the checks of R202, R215 and R218 or name what their links and CHAIN_SRC may not are deleted, until no further one fails. -/
def State.loadReject : Nat → State → State
  | 0, s => s
  | n + 1, s =>
    let hdr := fun c => (s.ctx c).hdr
    let chk := fun c => let d := defCheck (hdr c) (s.ctx c).coef; if d ≠ 0 then d else if linksOk hdr c then 0 else 4
    match (List.range 64).find? (fun c => hdr c ≠ 0 && chk c ≠ 0) with
    | some c =>
      let k := hSlice (hdr c)
      let s' := s.applyStaged 0xFE c { hdr := 0, coef := [], deleted := true }
      State.loadReject n (s'.post (srcOwner k) 0x0502 c (chk c))
    | none => s

/-! ## Coefficient changes (R223, R224) and seeding (R214) -/

def opWriteCoef (p : Pkt) (s : State) : Res :=
  let b := p.payload
  let c := byteAt b 0
  let m := matrixOf (byteAt b 1)
  let i := byteAt b 2
  let j := byteAt b 3
  let x := s.ctx c
  let pos := m.1 + i * m.2.2 + j
  let pend := x.pendCoef.isSome
  let base := x.pendCoef.getD (x.settled s.now).coef
  let img := bset base pos (leF b 4)
  if !lenIs p 8 then s.fail stBadLength
  else if c > 63 || x.hdr = 0 || byteAt b 1 > 13 || i ≥ m.2.1 || j ≥ m.2.2 || !imageOk x.hdr img then s.fail stRange
  else if pend then
    (s.modCtx c fun x => { x with pendCoef := some img, pendWrites := min 65535 (x.pendWrites + 1) }).okWith (toLE 8 1)
  else if s.mu.norBad then s.fail stInternal
  else
    let t := if s.computing c then s.modCtx c fun x => { x with waitCoef := x.waitCoef ++ [(pos, leF b 4, p.session.toNat)] }
      else (s.modCtx c fun x => { x with
        coef := img, coefBy := bset x.coefBy (pos / 4) { stamp := s.now, session := p.session.toNat } }).refetch c
    (t.keep (ctxo c (Obj.ENG_COEF + pos / 4))).okWith (toLE 8 0)

def opFreeze (p : Pkt) (s : State) : Res :=
  let c := byteAt p.payload 0
  let x := s.ctx c
  if !lenIs p 8 then s.fail stBadLength
  else if c ≤ 63 && x.pendCoef.isSome then s.fail stState
  else if c > 63 || x.hdr = 0 || !zeros p.payload 1 7 then s.fail stRange
  else (s.modCtx c fun x => { x with
    pendCoef := some (x.settled s.now).coef, freezeSess := p.session.toNat, pendWrites := 0 }).okay

def opRelease (p : Pkt) (s : State) : Res :=
  let c := byteAt p.payload 0
  let apply := le p.payload 8 8
  if !lenIs p 16 then s.fail stBadLength
  else if c ≤ 63 && (s.ctx c).hdr ≠ 0 && (s.ctx c).pendCoef.isNone then s.fail stState
  else if c > 63 || (s.ctx c).hdr = 0 || !zeros p.payload 1 7 then s.fail stRange
  else if s.tooLate apply then s.fail stTooLate
  else if s.mu.norBad then s.fail stInternal
  else (s.modCtx c fun x => { x with release := some (if apply = 0 then s.now + 1 else apply) }).accept

def opSeedState (p : Pkt) (s : State) : Res :=
  let b := p.payload
  let c := byteAt b 0
  let x := s.ctx c
  let v := (List.range 8).map fun i => leF b (8 + 4 * i)
  if !lenIs p 40 then s.fail stBadLength
  else if c ≤ 63 && x.hdr ≠ 0 && s.enabled (hSlice x.hdr) && s.ctxState c ≠ 2 then s.fail stState
  else if c > 63 || x.hdr = 0 || byteAt b 1 ≠ hNX x.hdr || !zeros b 2 6 || !v.all fFin
      || !zeros b (8 + 4 * hNX x.hdr) (32 - 4 * hNX x.hdr) then s.fail stRange
  else if !s.enabled (hSlice x.hdr) then (s.modCtx c fun x => { x with seed := some v }).okay
  else (s.seedNow c v).okay

/-! ## The commands -/

def execEngDefineContext (dt : Nat) (p : Pkt) (s : State) : Host.Outcome State Fault Refusal :=
  .next (s.run dt (effCmd (p.asRow 0x3000) opDefineContext))
def execEngDeleteContext (dt : Nat) (p : Pkt) (s : State) : Host.Outcome State Fault Refusal :=
  .next (s.run dt (effCmd ((p.asRow 0x3000).withSel 1 1) opDefineContext))
def execEngWriteCoef (dt : Nat) (p : Pkt) (s : State) : Host.Outcome State Fault Refusal :=
  .next (s.run dt (effCmd (p.asRow 0x3001) opWriteCoef))
def execEngFreeze (dt : Nat) (p : Pkt) (s : State) : Host.Outcome State Fault Refusal :=
  .next (s.run dt (effCmd (p.asRow 0x3002) opFreeze))
def execEngRelease (dt : Nat) (p : Pkt) (s : State) : Host.Outcome State Fault Refusal :=
  .next (s.run dt (effCmd (p.asRow 0x3003) opRelease))
def execEngReleaseSwap (dt : Nat) (ctx : Fin 64) (s : State) : Host.Outcome State Fault Refusal :=
  .next (s.run dt (effEngReleaseSwap ctx))
def execEngSeedState (dt : Nat) (p : Pkt) (s : State) : Host.Outcome State Fault Refusal :=
  .next (s.run dt (effCmd (p.asRow 0x3004) opSeedState))
def execEngLink (dt : Nat) (p : Pkt) (s : State) : Host.Outcome State Fault Refusal :=
  .next (s.run dt (effCmd (p.asRow 0x3010) opEngLink))
def execEngGroup (dt : Nat) (p : Pkt) (s : State) : Host.Outcome State Fault Refusal :=
  .next (s.run dt (effCmd (p.asRow 0x3011) opEngGroup))
def execEngCommit (dt : Nat) (p : Pkt) (s : State) : Host.Outcome State Fault Refusal :=
  .next (s.run dt (effCmd ((p.asRow 0x3020).withSel 0 0) opEngCommit))
def execEngCommitDiscard (dt : Nat) (p : Pkt) (s : State) : Host.Outcome State Fault Refusal :=
  .next (s.run dt (effCmd ((p.asRow 0x3020).withSel 0 1) opEngCommit))
def execEngEvalStart (dt : Nat) (unit : Fin 2) (s : State) : Host.Outcome State Fault Refusal :=
  .next (s.run dt (effEngEvalStart unit))
def execEngEvalDone (dt : Nat) (unit : Fin 2) (s : State) : Host.Outcome State Fault Refusal :=
  .next (s.run dt (effEngEvalDone unit))
def execEngOutputWrite (dt : Nat) (ctx : Fin 64) (s : State) : Host.Outcome State Fault Refusal :=
  .next (s.run dt (effEngOutputWrite ctx))

end Sys2Proof.Machine
end

