-- ==== Sys2Proof/Machine/Sensing.lean ====
section
/-!
DEFINITION. Sigma-delta sensing (R135 to R155): modulator clocks, main results, interpolation, the fast comparators and
the protection path (R302), channel loss, promotion and recovery.
-/

namespace Sys2Proof.Machine

/-! ## Clocks (R136, R137) -/

def State.anyExt (s : State) : Bool := (List.range 8).any s.groupExt

/-- PLL1 ticks since t0 (R136). -/
def State.tickIndex (s : State) : Nat := s.tick - s.mu.t0

/-- A clock: the tick of one rising edge, the number of that edge, and the period in ticks as a fraction. -/
structure Clk where
  org : Nat
  first : Nat := 0
  num : Nat
  den : Nat
  deriving DecidableEq, Repr

/-- MCLK_IN: its edges are numbered, and those around the latest one that a result brought lie at its nominal frequency (R137; log
entry 53). -/
def State.extClk (s : State) : Clk :=
  { org := s.mclk.edge0, first := s.mclk.inEdges, num := 400000000, den := max 1 (s.obj Obj.SD_MCLK_IN_NOM) }

/-- The clock of a group: its divider counts from t0 (R136). -/
def State.clkOf (s : State) (g : Nat) : Clk :=
  if s.groupExt g then s.extClk else { org := s.mu.t0, num := max 1 (bget (bits (s.mclkCfg g) 6 0) s.mclk.div g), den := 1 }

/-- Tick that captures edge `n`. -/
def Clk.edge (c : Clk) (n : Nat) : Nat := ((c.org : Int) + ((n : Int) - c.first) * c.num / c.den).toNat

/-- Number of the latest edge at or before a tick. -/
def Clk.by (c : Clk) (t : Nat) : Nat := ((c.first : Int) + (((t : Int) + 1 - c.org) * c.den - 1) / c.num).toNat

/-- First edge at or after a tick. -/
def Clk.from (c : Clk) (t : Nat) : Nat := if c.edge (c.by t) < t then c.by t + 1 else c.by t

/-- One period in stamp units at the nominal rate. -/
def Clk.units (c : Clk) : Nat := 10 * c.num / c.den

/-- The edge count of MCLK_IN (R144). Through a loss it goes on at the nominal rate, as the carrier does (R262; log entry 53). -/
def State.mclkCount (s : State) : Nat := s.extClk.by s.tick

/-- A group's divider starts, or its new DIV takes effect, on the first tick whose index is a multiple of it (R136). -/
def effSdMclkDivApply (g : Fin 8) (s : State) : State :=
  match bfind s.mclk.pendDiv g.val with
  | some (cfg, t) =>
    if t ≤ s.now && s.tickIndex % max 1 (bits cfg 6 0) = 0 then
      { s with mclk := { s.mclk with
          pendDiv := bdel s.mclk.pendDiv g.val
          div := bset s.mclk.div g.val (max 1 (bits cfg 6 0))
          started := if !bit cfg 15 || bit cfg 14 then bdel s.mclk.started g.val
            else if (bfind s.mclk.started g.val).isSome then s.mclk.started else bset s.mclk.started g.val s.tick } }
    else s
  | none => s

/-! ## Owners (R138 to R140) -/

def State.monCfg (s : State) (n : Nat) : Nat := s.obj (Obj.SAF_SD_MON + n)
def State.isMon (s : State) (n : Nat) : Bool := bit (s.monCfg n) 127

/-- The slice and slot that own a channel. -/
def State.sdSlot (s : State) (n : Nat) : Option (Nat × Nat) :=
  (List.range 96).findSome? fun i =>
    let v := s.slot (i / 16) (i % 16)
    if slotEn v && slotCh v = n then some (i / 16, i % 16) else none

/-- A channel that a filter serves: owned, clocked, not fenced. -/
def State.sdLive (s : State) (n : Nat) : Bool :=
  s.isReady && s.groupClocked (n / 8) && !s.fenced (64 + n) && (s.isMon n || (s.sdSlot n).isSome)

/-- A slot's monitor entry is committed for it and its channel is healthy (R140, R154). -/
def State.monHealthy (s : State) (v : Nat) : Bool :=
  let m := slotMon v
  m < 64 && s.isMon m && !(s.sdU m).lost && !s.fenced (64 + m)

/-- A channel starts afresh at a tick (R138, R139, R445); LOST and the trip counts stand. -/
def Sd.fresh (u : Sd) (tick edge : Nat) : Sd :=
  { lost := u.lost, tripsHi := u.tripsHi, tripsLo := u.tripsLo, since := tick, sinceEdge := edge }

/-- A channel starts afresh now. -/
def State.freshSd (s : State) (n : Nat) : State := s.modSd n fun u => u.fresh s.tick (s.extClk.from s.tick)

/-! ## Loss (R153 to R155) -/

/-- Promotion of a slot's monitor input (R154). -/
def State.promote (s : State) (k j : Nat) : State :=
  let v := s.slot k j
  let s := s.setFlag (slc k Obj.SLC_SD_PROMOTED) (2 ^ j)
  let s := s.modSl k fun x => { x with promoteAt := bset x.promoteAt j s.now }
  let s := s.post (srcSl k) 0x0302 k (j + slotCh v * 2 ^ 8 + slotMon v * 2 ^ 16)
  s.degrade k 0 j

/-- The slot of a slice that a lost channel feeds: as its primary, or as its promoted monitor. -/
def State.feeds (s : State) (k j n : Nat) : Bool :=
  let v := s.slot k j
  slotEn v && decide (slotRole v < 2) && (if s.promoted k j then slotMon v = n else slotCh v = n)

/-- The reaction of one slice to channels lost on one tick: the most severe row of Table 6.10. -/
def State.lossSlice (s : State) (lost : List Nat) (k : Nat) : State :=
  let hit := (List.range 16).filter fun j => lost.any (fun n => s.feeds k j n)
  if hit.isEmpty || !s.enabled k then s
  else if hit.any (fun j => s.promoted k j || !s.monHealthy (s.slot k j)) then s.lossReact k
  else hit.foldl (fun (s : State) j => s.promote k j) s

/-- Channels are lost on this tick: they stop delivering, and each slice takes its reaction; a monitor channel's loss is
a lost diagnostic of its slice (Table 12.6). -/
def State.lose (s : State) (l : List Nat) : State :=
  let l := l.filter fun n => !(s.sdU n).lost && (s.isMon n || (s.sdSlot n).isSome)
  let s := l.foldl (fun (s : State) n =>
    s.modSd n fun u => { u with lost := true, okSince := none, qualHi := 0, qualLo := 0, inHi := false, inLo := false }) s
  let held := fun (t : State) (k : Nat) => (t.sl k).st = .heldShort || (t.sl k).st = .heldBlock
  let t := (List.range 6).foldl (fun (s : State) k => s.lossSlice l k) s
  (l.filter t.isMon).foldl (fun (t : State) n =>
    let k := bits (t.monCfg n) 120 118
    t.degradeBy k 1 n (held t k && !held s k)) t

/-- The 257th equal bit is captured (R153). -/
def State.stuck (s : State) (n : Nat) : State :=
  ((s.setFlag (Obj.SD_STAT + n) 0x80).modSd n fun u => { u with okSince := none }).lose [n]

/-- Every channel of every group on MCLK_IN. -/
def State.extChannels (s : State) : List Nat := (List.range 64).filter fun n => s.groupExt (n / 8)

/-- A fault of MCLK_IN (R137): its flag, and the loss of every channel on it. -/
def State.mclkFault (s : State) (flag : Nat) : State :=
  if s.isReady && s.anyExt then (s.setFlag Obj.SD_MCLK_IN_STAT flag).lose s.extChannels else s

/-- MCLK_IN_LOST: no edge has come by the stamp of the previous one plus two nominal periods (R137). -/
def effMclkInLost (s : State) : State :=
  if s.isReady && s.anyExt && decide ((s.clk - s.mclk.lastEdge) * s.obj Obj.SD_MCLK_IN_NOM ≥ 2 * sUnits) then
    ({ s with mclk := { s.mclk with inRun := false } }.putFlag Obj.SD_MCLK_IN_STAT 2 false).mclkFault 1
  else if !s.isReady then { s with mclk := { s.mclk with inRun := false } }
  else s

def effMclkInFreqWindow (hertz : Nat) (margin : Bool) (s : State) : State :=
  let s := if margin && s.isReady then { s with flk := { s.flk with clkMargin := true } } else s
  let nom := s.obj Obj.SD_MCLK_IN_NOM
  let dev := if hertz ≤ nom then nom - hertz else hertz - nom
  if decide (100 * dev > nom) then s.mclkFault 2 else s

/-- MCLK_IN edges resume: PRESENT, and every monitor channel on it starts its filter afresh (R139). Outside READY the device only
sees that the clock is there. -/
def effMclkInReturn (s : State) : State :=
  let s := { s with mclk := { s.mclk with inRun := true, inEdges := s.mclkCount + 1, edge0 := s.tick, lastEdge := s.clk } }
  if s.isReady then
    let s := s.putFlag Obj.SD_MCLK_IN_STAT 2 true
    (s.extChannels.filter s.isMon).foldl (fun (s : State) n => s.freshSd n) s
  else s

/-- The Referee clears LOST of a monitor channel that has delivered results for 1 ms without STUCK (Table 12.6). -/
def effSdMonitorRecover (ch : Fin 64) (s : State) : State :=
  let n := ch.val
  let u := s.sdU n
  match u.okSince with
  | some t => if s.sdLive n && s.isMon n && u.lost && t + msUnits ≤ s.clk then s.modSd n fun u => { u with lost := false } else s
  | none => s

/-! ## Filter sums (R141, R149) -/

/-- Sums of every run of `n` neighbours, from each place on. -/
def boxSums (n : Nat) : List Nat → List Nat
  | [] => []
  | a :: l => ((a :: l).take n).sum :: boxSums n l

/-- `order` boxes of width `osr` in series: the sum of a sinc filter over the newest bits of a stream. -/
def sincSum (osr : Nat) (stream : List Bool) : Nat → List Nat
  | 0 => stream.map b2n
  | n + 1 => boxSums osr (sincSum osr stream n)

/-- The sum S of a main filter, over the newest 3·OSR − 2 bits (R141). -/
def mainSum (osr : Nat) (stream : List Bool) : Nat := (sincSum osr (stream.take (3 * osr - 2)) 3).headD 0

/-- The sum S2 of a fast filter, over the newest 2·OSR − 1 bits (R149). -/
def fastSum (osr : Nat) (stream : List Bool) : Nat := (sincSum osr (stream.take (2 * osr - 1)) 2).headD 0

/-! ## Main results (R141, R146 to R148) -/

/-- The 24-bit code of a filter sum, and whether it is clamped (R141). -/
def sdCode (osr sum : Nat) : Int × Bool :=
  let c := roundHalfAway ((2 * (sum : Int) - (osr : Int) ^ 3) * 2 ^ 26) (7 * osr ^ 3)
  if c > 0x7FFFFF then (0x7FFFFF, true) else if c < -0x800000 then (-0x800000, true) else (c, false)

/-- GAIN × code + OFFSET (R146); the two words stand at bits 63 to 0 of a slot or a monitor entry. -/
def sdValue (cfg : Nat) (code : Int) : F32 :=
  fAddS (fMulS (BitVec.ofNat 32 (bits cfg 63 32)) (f32OfInt code)) (BitVec.ofNat 32 (bits cfg 31 0))

/-- Sample record (Tables 6.5, 6.6). -/
def State.sampleRecord (s : State) (n : Nat) (r : SdRes) (slot : Nat) (promoted interp : Bool) (w : Nat) : State :=
  s.record (1 + n) r.stamp (toLE 4 (unsgn 32 r.code) ++ toLE 4 r.value.toNat
    ++ toLE 1 (b2n r.ovr + 2 * b2n interp + 4 * b2n promoted) ++ toLE 1 slot ++ toLE 2 0 ++ toLE 4 w)

/-- OVR and OVR_CNT of SD_STAT_n (R148, Table 6.12). -/
def State.countResult (s : State) (n : Nat) (ovr : Bool) : State :=
  if ovr then (s.setFlag (Obj.SD_STAT + n) 0x10).bumpField (Obj.SD_STAT + n) 31 16 else s

/-- The edge that ends a window on this tick, `c` being the channel's clock and `first` the edge at which the first window ends. An
edge of MCLK_IN may lie up to 1 % of the time since the latest known one off its nominal place (R137; log entry 53). -/
def State.windowEdge (s : State) (ext : Bool) (c : Clk) (first osr : Nat) : Option Nat :=
  let o := max 1 osr
  let n := c.by s.tick
  let w := if ext then first + (n + o / 2 - first) / o * o else n
  let slack := if ext then (s.tick - c.org) / 100 + 2 else 0
  let fits := decide (c.edge w ≤ s.tick + slack) && decide (s.tick ≤ c.edge w + slack)
  if fits && decide (first ≤ w) && (w - first) % o = 0 then some w else none

/-- A result of a channel on MCLK_IN shows where its last edge lies: the later edges are counted from there. -/
def State.anchor (s : State) (g : Nat) (w : Option Nat) : State :=
  match w with
  | some n => if s.groupExt g then { s with mclk := { s.mclk with edge0 := s.tick, inEdges := n } } else s
  | none => s

/-- Tick of the decimation grid's origin of a slice. -/
def State.gridTick (s : State) (k : Nat) : Nat :=
  let m := (s.sl k).modu
  if s.slo k Obj.SLC_PWM_CLK = 1 then s.extClk.edge m.grid else m.grid

/-- The edge with which a main filter's result is due on this tick, if one is: the windows of an enabled slice's slot stand on the grid of R144, a
shadow filter on another clock counts from the enable (R154), and any other filter gives its first result at the L-th bit
after the start of its channel (R139). Where the grid's first extreme is no edge of the channel's clock, as for an unlocked slot, the
grid stands on the latest edge at or before it: the model's choice (log entry 53). -/
def State.resultEdge (s : State) (n osr : Nat) (grid : Option (Nat × Bool)) : Option Nat :=
  let c := s.clkOf (n / 8)
  let u := s.sdU n
  let ext := s.groupExt (n / 8)
  if u.stream.length < 3 * osr - 2 then none
  else match grid with
    | some (k, same) =>
      let m := (s.sl k).modu
      if same then s.windowEdge ext c (if ext then m.gridEdge else c.by (s.gridTick k)) osr
      else s.windowEdge ext c ((if ext then m.sinceEdge else c.from m.since) + (3 * osr - 3)) osr
    | none =>
      s.windowEdge ext c ((if ext then u.sinceEdge else c.from (max u.since (bget 0 s.mclk.started (n / 8)))) + (3 * osr - 3)) osr

def State.resultDue (s : State) (n osr : Nat) (grid : Option (Nat × Bool)) : Bool := (s.resultEdge n osr grid).isSome

/-- Two groups whose modulator clocks have coinciding edges (R154). -/
def State.sameClock (s : State) (a b : Nat) : Bool :=
  let x := s.mclkCfg a
  let y := s.mclkCfg b
  bit x 14 = bit y 14 && (bit x 14 || bits x 6 0 = bits y 6 0)

/-- A result of the channel's own main filter, in its slot or as a monitor. -/
def State.ownResult (s : State) (n : Nat) : State :=
  let mon := s.isMon n
  let u := s.sdU n
  match s.sdSlot n with
  | some (k, j) =>
    let cfg := s.slot k j
    let w := s.resultEdge n (slotOsr cfg) (if s.enabled k then some (k, true) else none)
    if u.lost || mon || w.isNone then s
    else
      let s := s.anchor (n / 8) w
      let (code, clamp) := sdCode (slotOsr cfg) (mainSum (slotOsr cfg) u.stream)
      let r : SdRes := { stamp := s.now, code := code, value := sdValue cfg code, ovr := clamp || decide (u.ovrLeft > 0) }
      let s := s.modSd n fun u =>
        { u with prev := u.last, last := some r, results := u.results + 1, ovrLeft := if clamp then 2 else u.ovrLeft - 1 }
      let s := s.modSl k fun x =>
        { x with
          slotOld := oldPut x.slotOld j (bfind x.slotPrev j)
          slotPrev := match bfind x.slotRes j with | some p => bset x.slotPrev j p | none => x.slotPrev
          slotRes := bset x.slotRes j r }
      let s := s.setObjF (Obj.SD_VALUE + n) r.value
      (s.countResult n r.ovr).sampleRecord n r j false false 0
  | none =>
    let cfg := s.monCfg n
    let w := s.resultEdge n (bits cfg 105 96) none
    if !mon || w.isNone then s
    else
      let s := s.anchor (n / 8) w
      let (code, clamp) := sdCode (bits cfg 105 96) (mainSum (bits cfg 105 96) u.stream)
      let r : SdRes := { stamp := s.now, code := code, value := sdValue cfg code, ovr := clamp || decide (u.ovrLeft > 0) }
      let s := s.modSd n fun u =>
        { u with
          prev := u.last, last := some r, results := u.results + 1, ovrLeft := if clamp then 2 else u.ovrLeft - 1
          okSince := if u.lost && u.run < 257 then (if u.okSince.isNone then some s.clk else u.okSince) else none }
      (s.countResult n r.ovr).sampleRecord n r 0xFF false false 0

/-- A promoted slot delivers a result of its shadow filter (R154). SD_VALUE_n and the record are those of the monitor's channel: the
model's choice (log entry 29). -/
def State.deliverShadow (s : State) (n j : Nat) (r : SdRes) : State :=
  ((s.setObjF (Obj.SD_VALUE + n) r.value).countResult n r.ovr).sampleRecord n r j true false 0

/-- A result of the shadow filter of a slot on its monitor's input (R154). -/
def State.shadowResult (s : State) (n k j : Nat) : State :=
  let cfg := s.slot k j
  let w := s.resultEdge n (slotOsr cfg) (some (k, s.sameClock (slotCh cfg / 8) (n / 8)))
  if !slotEn cfg || slotMon cfg ≠ n || !s.isMon n || (s.sdU n).lost || !s.enabled k || w.isNone then s
  else
    let s := s.anchor (n / 8) w
    let left := bget 0 (s.sl k).shadowOvr j
    let (code, clamp) := sdCode (slotOsr cfg) (mainSum (slotOsr cfg) (s.sdU n).stream)
    let r : SdRes := { stamp := s.now, code := code, value := sdValue (s.monCfg n) code, ovr := clamp || decide (left > 0) }
    let s := s.modSl k fun x =>
      { x with
        shadowOvr := bset x.shadowOvr j (if clamp then 2 else left - 1)
        shadowOld := oldPut x.shadowOld j (bfind x.shadowPrev j)
        shadowPrev := match bfind x.shadowRes j with | some p => bset x.shadowPrev j p | none => x.shadowPrev
        shadowRes := bset x.shadowRes j r }
    if s.promotedNow k j then s.deliverShadow n j r else s

/-! ## Results between windows (R145) -/

/-- Weight and code of the interpolation at `t` between two results. -/
def interpW (t t1 t2 : Stamp) : Nat := (t - t1) * 2 ^ 32 / max 1 (t2 - t1)
def interpCode (c1 c2 : Int) (w : Nat) : Int := c1 + ((c2 - c1) * w + 2 ^ 31) / 2 ^ 32

/-- A slot's request is met once a result at or after its stamp has arrived. One whose stamp is a window end takes that
result, which has been counted and recorded when its window ended (R145, R147). -/
def State.interp (s : State) (n : Nat) (q : InterpReq) : State :=
  let k := q.slice
  let j := q.slot
  let x := s.sl k
  let p := s.promoted k j
  let cfg := s.slot k j
  let gain := if p then s.monCfg (slotMon cfg) else cfg
  let keep := fun (s : State) (r : SdRes) =>
    if q.snapshot then s else s.modSl k fun x => { x with
      slotOld := if p then x.slotOld else oldPut x.slotOld j (bfind x.slotInterp j)
      shadowOld := if p then oldPut x.shadowOld j (bfind x.slotInterp j) else x.shadowOld
      slotInterp := bset x.slotInterp j r }
  match bfind (if p then x.shadowRes else x.slotRes) j, bfind (if p then x.shadowPrev else x.slotPrev) j with
  | some b, a =>
    if b.stamp = q.at_ then keep s b
    else match a with
    | some a =>
      if a.stamp = q.at_ then keep s a
      else if a.stamp < q.at_ && q.at_ < b.stamp then
        let w := interpW q.at_ a.stamp b.stamp
        let c := interpCode a.code b.code w
        let r : SdRes := { stamp := q.at_, code := c, value := sdValue gain c, ovr := a.ovr || b.ovr }
        keep ((s.countResult n r.ovr).sampleRecord n r j p true w) r
      else s
    | none => s
  | none, _ => s

/-- Whether the bracketing result of a request has arrived. -/
def State.interpReady (s : State) (q : InterpReq) : Bool :=
  let x := s.sl q.slice
  match bfind (if s.promoted q.slice q.slot then x.shadowRes else x.slotRes) q.slot with
  | some b => decide (q.at_ ≤ b.stamp)
  | none => false

/-- SD_INTERP_RESULT: the requests of the slots that this channel feeds, whose bracketing result is here. -/
def effSdInterpResult (ch : Fin 64) (s : State) : State :=
  let n := ch.val
  if s.sdLive n then
    (List.range 96).foldl (fun (s : State) i =>
      let k := i / 16
      let j := i % 16
      let v := s.slot k j
      let fed := slotEn v && (if s.promoted k j then slotMon v = n else slotCh v = n)
      if fed then
        let u := s.sdU (slotCh v)
        let (due, rest) := u.reqs.partition fun q => q.slice = k && q.slot = j && s.interpReady q
        due.foldl (fun (s : State) q => s.interp n q) (s.modSd (slotCh v) fun u => { u with reqs := rest })
      else s) s
  else s

/-- Ask for a slot's result at a stamp. -/
def State.askInterp (s : State) (k j : Nat) (t : Stamp) (snapshot : Bool) : State :=
  s.modSd (slotCh (s.slot k j)) fun u => { u with reqs := u.reqs ++ [{ at_ := t, slice := k, slot := j, snapshot := snapshot }] }

/-! ## Fast comparators (R149 to R152, R302) -/

/-- The 16-bit fast code of a sinc2 sum (R149). -/
def fastCode (osr sum2 : Nat) : Int :=
  let c := roundHalfAway ((2 * (sum2 : Int) - (osr : Int) ^ 2) * 2 ^ 18) (7 * osr ^ 2)
  max (-32768) (min 32767 c)

/-- The forced state of SAF_OC_REACT and SAF_OV_REACT. -/
def reactForce (v : Nat) : Forced := if v = 2 then .ascFrame else if v = 3 then .ascHold else .pulseBlock

/-- Role and slice of a channel: from its slot, or from its monitor entry. -/
def State.sdRole (s : State) (n : Nat) : Option (Nat × Nat) :=
  if s.isMon n then some (bits (s.monCfg n) 126 124, bits (s.monCfg n) 120 118)
  else (s.sdSlot n).map fun p => (slotRole (s.slot p.1 p.2), p.1)

/-- A comparator trips at the fast code `f` (R152): the flag, the record, the protection path. While the channel has an
unacknowledged trip of either comparator there is no new reaction. -/
def State.fastTrip (s : State) (n : Nat) (high : Bool) (f : Int) : State :=
  match s.sdRole n with
    | none => s
    | some (role, k) =>
      let fl := if high then 0x20 else 0x40
      let old := decide (s.obj (Obj.SD_STAT + n) &&& 0x60 ≠ 0)
      let again := decide (s.obj (Obj.SD_STAT + n) &&& fl ≠ 0)
      let u := s.sdU n
      let cnt := if again then min 65535 ((if high then u.tripsHi else u.tripsLo) + 1) else 1
      let s := s.setSd n (if high then { u with tripsHi := cnt } else { u with tripsLo := cnt })
      let s := s.setFlag (Obj.SD_STAT + n) fl
      let mon := s.isMon n
      let s := s.post (if mon then srcRef else srcSl k) 0x0301 n
        (b2n (!high) + b2n mon * 2 ^ 8 + unsgn 16 f * 2 ^ 16 + cnt * 2 ^ 32)
      let s := s.modRs k fun r => { r with tripAt := match r.forced with
        | some (_, c) => if (c = 9 && role = 0) || (c = 10 && role = 1 && high) then some s.clk else r.tripAt
        | none => r.tripAt }
      if old then s
      else if role = 0 then s.force k (reactForce (s.obj (safo k Obj.SAF_OC_REACT))) 0x09
      else if role = 1 && high then s.force k (reactForce (s.obj (safo k Obj.SAF_OV_REACT))) 0x0A
      else s

/-! ## Capture (R135, R149, R150, R153) -/

/-- One evaluation of a comparator: its qualification count, whether it stays tripped, and whether it trips. -/
def compare1 (en beyond : Bool) (qual n : Nat) (held : Bool) : Nat × Bool × Bool :=
  if en && beyond then (min 16 (n + 1), held || decide (qual < n + 1), !held && decide (qual < n + 1)) else (0, false, false)

/-- One captured bit: the stream, the equal bits at its end, and both comparators, which stand still while the channel is lost.
Answers the channel, whether each comparator trips, the fast code, and whether the stream is found stuck. -/
def Sd.take (u : Sd) (cfg : Nat) (b : Bool) : Sd × Bool × Bool × Int × Bool :=
  let stream := (b :: u.stream).take 1534
  let run := if u.stream.head? = some b then min 258 (u.run + 1) else 1
  let osr := bits cfg 61 55
  let en := (bit cfg 63 || bit cfg 62) && !u.lost && decide (2 * osr - 1 ≤ stream.length)
  let f := if en then fastCode osr (fastSum osr stream) else 0
  let hi := compare1 (en && bit cfg 63) (decide (f ≥ sgn 16 (bits cfg 31 16))) (bits cfg 54 51) u.qualHi u.inHi
  let lo := compare1 (en && bit cfg 62) (decide (f ≤ sgn 16 (bits cfg 15 0))) (bits cfg 54 51) u.qualLo u.inLo
  ({ u with stream := stream, run := run, qualHi := hi.1, qualLo := lo.1, inHi := hi.2.1, inLo := lo.2.1 },
   hi.2.2, lo.2.2, f, decide (run = 257) || (decide (257 < run) && !u.lost))

/-- A modulator clock edge captures one bit of a channel: the fast filter is evaluated, and a stuck stream is found. -/
def State.captureBit (s : State) (n : Nat) (b : Bool) : State :=
  if s.sdLive n then
    let r := (s.sdU n).take (s.obj (Obj.SAF_SD_FAST + n)) b
    let s := s.setSd n r.1
    let s := if r.2.1 then s.fastTrip n true r.2.2.2.1 else s
    let s := if r.2.2.1 then s.fastTrip n false r.2.2.2.1 else s
    if r.2.2.2.2 then s.stuck n else s
  else s

/-- The bits that a row brings, oldest first: those that the channel captured since its last row, or as many of the latest
of them as its filters span (log entry 53). -/
def State.capture (s : State) (n : Nat) (stream : List Bool) : State :=
  let s := if s.groupExt (n / 8) then { s with mclk := { s.mclk with lastEdge := s.clk } } else s
  stream.foldl (fun (s : State) b => s.captureBit n b) s

/-- SD_MAIN_RESULT: a window of the channel's own filter, or of a slot's shadow filter on it, ends with the last bit. -/
def effSdMainResult (ch : Fin 64) (shadow : Option (Fin 6 × Fin 16)) (stream : List Bool) (s : State) : State :=
  let s := s.capture ch.val stream
  if s.sdLive ch.val then
    match shadow with
    | none => s.ownResult ch.val
    | some (k, j) => s.shadowResult ch.val k.val j.val
  else s

/-- SD_FAST_TRIP: `last`, captured on this tick after the bits of `stream`, completes a comparator's qualification. -/
def effSdFastTrip (ch : Fin 64) (stream : List Bool) (last : Bool) (s : State) : State := s.capture ch.val (stream ++ [last])

/-- SD_STUCK: the last bit is the 257th equal one. -/
def effSdStuck (c : SdBits) (s : State) : State := s.capture c.ch.val c.stream

/-! ## The commands -/

def execSdMclkDivApply (dt : Nat) (group : Fin 8) (s : State) : Host.Outcome State Fault Refusal :=
  .next (s.run dt (effSdMclkDivApply group))
def execSdFastTrip (dt : Nat) (ch : Fin 64) (stream : List Bool) (last : Bool) (s : State) : Host.Outcome State Fault Refusal :=
  .next (s.run dt (effSdFastTrip ch stream last))
def execSdStuck (dt : Nat) (c : SdBits) (s : State) : Host.Outcome State Fault Refusal := .next (s.run dt (effSdStuck c))
def execMclkInLost (dt : Nat) (s : State) : Host.Outcome State Fault Refusal := .next (s.run dt effMclkInLost)
def execMclkInFreqWindow (dt : Nat) (hertz : Nat) (margin : Bool) (s : State) : Host.Outcome State Fault Refusal :=
  .next (s.run dt (effMclkInFreqWindow hertz margin))
def execSdMonitorRecover (dt : Nat) (ch : Fin 64) (s : State) : Host.Outcome State Fault Refusal :=
  .next (s.run dt (effSdMonitorRecover ch))
def execMclkInReturn (dt : Nat) (s : State) : Host.Outcome State Fault Refusal := .next (s.run dt effMclkInReturn)

end Sys2Proof.Machine
end

