-- ==== Sys2Proof/Machine/AuxHk.lean ====
section
/-!
DEFINITION. Auxiliary converters (R157 to R168), the housekeeping round (R170 to R175) and the thermal rules
(R379 to R387, R48).
-/

namespace Sys2Proof.Machine

/-! ## Auxiliary converters -/

def State.auxCfg (s : State) (u : Nat) : Nat := s.obj (Obj.AUX_CFG + u)
def State.auxOwner (s : State) (u : Nat) : Nat := bits (s.auxCfg u) 28 26

/-- An enabled unit that is not fenced (R160). -/
def State.auxUsable (s : State) (u : Nat) : Bool := s.isReady && bit (s.auxCfg u) 31 && !s.fenced (12 + u)

/-- Warm on this tick (R159); a re-initialised unit is cold (R163). -/
def State.auxWarm (s : State) (u : Nat) : Bool :=
  !(s.auxU u).cold && (bit (s.auxCfg u) 30 || (s.auxU u).conv.isSome || (s.auxU u).ended = some s.now)

/-- Lengths of a conversion up to the end of sampling and to its end, in stamp units (R158). -/
def AuxConv.sampleLen (c : AuxConv) : Nat := if c.cold then 2600 else 1000
def AuxConv.fullLen (c : AuxConv) : Nat := if c.cold then 5600 else 4000

/-- A conversion starts on this tick. -/
def State.auxStart (s : State) (u chan : Nat) (trigger : Stamp) (pended host : Bool) : State :=
  let cold := !s.auxWarm u
  s.modAux u fun a => { a with
    conv := some { chan := chan, trigger := trigger, start := s.clk, cold := cold, pended := pended, host := host }
    ended := none, cold := false }

/-- AUX_VALUE_k takes a result, with the sample stamp as the stamp of the change (R164). -/
def State.auxValue (s : State) (k : Nat) (sample : Stamp) (v : F32) : State :=
  let i := Obj.AUX_VALUE + k
  { s with dict := { s.dict with
      vals := bset s.dict.vals i v.toNat
      info := bset s.dict.info i { stamp := sample, session := 0xFE } } }

/-- Code and OVR of an input level (R167). -/
def auxCode (level : Int) : Nat × Bool :=
  if level < 0 then (0, true) else if level > 0xFFF then (0xFFF, true) else (level.toNat, false)

/-- Deliver a result: record, value, flags (R164 to R168). In a Flask the active mirrors it, and the standby's own value
serves comparison only (R166). -/
def State.auxDeliver (s : State) (u : Nat) (c : AuxConv) (sample : Stamp) (level : Int) (corr : F32) : State :=
  let a := s.auxU u
  let k := 8 * u + c.chan
  let (code, ovr) := auxCode level
  let sc := s.obj (Obj.AUX_CH_SCALE + k)
  let v := fAddS (fMulS (BitVec.ofNat 32 (bits sc 63 32)) (fMulS (f32OfInt code) corr)) (BitVec.ofNat 32 (bits sc 31 0))
  let flags := b2n ovr + 2 * b2n a.settle + 4 * b2n c.cold + 8 * b2n c.pended + 16 * b2n c.host
  let s := s.modAux u fun a => { a with settle := ovr }
  let s := if ovr then s.setFlag (Obj.AUX_STAT + u) 2 else s
  let s := s.record (0x41 + u) sample (toLE 8 c.trigger ++ toLE 2 code ++ toLE 1 c.chan ++ toLE 1 flags ++ toLE 4 v.toNat)
  if s.inFlask && s.isActive then s.mirrorPut s.now (.aux k code flags sample v) else if s.follows then s else s.auxValue k sample v

/-- A conversion that ends by this tick: its result, then the pending trigger, unless it is stale (R161, R162). -/
def State.auxEnd (s : State) (u : Nat) : State :=
  match (s.auxU u).conv with
  | none => s
  | some c =>
    match c.sampled with
    | none => s
    | some (sample, level, corr) =>
      if c.start + c.fullLen ≤ s.clk then
        let own := dictStamp s (Obj.AUX_REF_CORR + u)
        let corr := if own ≤ sample then s.objF (Obj.AUX_REF_CORR + u) else corr
        let s := s.auxDeliver u c sample level corr
        let s := s.modAux u fun a => { a with conv := none, ended := some s.now }
        match (s.auxU u).pend with
        | none => s
        | some p =>
          let s := s.modAux u fun a => { a with pend := none }
          if s.clk ≤ p.deadline then s.auxStart u p.chan p.trigger true p.host
          else (s.bumpField (Obj.AUX_STAT + u) 15 8).post (srcOwner (s.auxOwner u)) 0x0311 (8 * u + p.chan) p.trigger
      else s
where
  /-- Stamp of an object's last change. -/
  dictStamp (s : State) (i : Nat) : Stamp := (bget {} s.dict.info i).stamp

/-- A trigger with stamp `t` reaches a unit on this tick (R160 to R162): a rally-list trigger's stamp is its occurrence's. -/
def State.auxTrigger (s : State) (u chan : Nat) (t : Stamp) (host : Bool) : State :=
  let s := s.auxEnd u
  let a := s.auxU u
  if a.conv.isNone then s.auxStart u chan t false host
  else if a.pend.isNone then
    s.modAux u fun a => { a with
      pend := some { chan := chan, trigger := t, deadline := s.clk - (s.now - t) + 4 * bits (s.auxCfg u) 10 0, host := host } }
  else
    let s := (s.bumpField (Obj.AUX_STAT + u) 31 16).setFlag (Obj.AUX_STAT + u) 1
    s.post (srcOwner (s.auxOwner u)) 0x0310 (8 * u + chan) t

def effAuxSampleEnd (u : Fin 4) (level : Int) (s : State) : State :=
  s.modAux u.val fun a => { a with
    conv := a.conv.map fun c =>
      if c.sampled.isNone && decide (c.start + c.sampleLen ≤ s.clk) then
        { c with sampled := some (s.now, level, s.objF (Obj.AUX_REF_CORR + u.val)) }
      else c }

def effAuxConversionEnd (u : Fin 4) (s : State) : State := s.auxEnd u.val

/-- On the tick after a conversion ended with none following, the unit is cold again (R159). -/
def effAuxPowerDown (u : Fin 4) (s : State) : State :=
  s.modAux u.val fun a => { a with
    ended := match a.ended with
      | some t => if t < s.now then none else some t
      | none => none }

/-- SYS_FUNC_REINIT class 3 on a unit (R163). -/
def State.auxReinit (s : State) (u : Nat) : State :=
  let a := s.auxU u
  (s.setAux u { cold := true }).post (srcOwner (s.auxOwner u)) 0x0312 u (b2n a.conv.isSome + b2n a.pend.isSome)

/-! ## Throttle (R380 to R382) -/

/-- Evaluations of a context that have not started move to a unit's queue (R229). -/
def Ctx.toUnit (u : Nat) (c : Ctx) : Ctx :=
  { c with evals := c.evals.map fun v => if v.started.isNone then { v with unit := u } else v, shedPhase := true }

/-- Enforced throttle begins or ends: the measures of Table 15.1 that hold state. -/
def State.setEnforced (s : State) (on : Bool) : State :=
  if s.throttled = on then s
  else if on then
    let s := (s.putFlag Obj.MGT_THERM_STAT 4 true).setFlag Obj.MGT_THERM_STAT 4
    let s := { s with
      dia := { s.dia.preempt with traceHeld := s.dia.traceOn, traceOn := false, traceWait := [] }
      host := { s.host with gen1 := true }
      eng := { s.eng with ctxs := s.eng.ctxs.map (fun (e : Nat × Ctx) => (e.1, if s.fenced 6 then e.2 else e.2.toUnit 0)) } }
    let s := s.post srcMu 0x0901 s.hk.hotSensor s.hk.tmax.toNat
    s.devEvent 2
  else
    let s := s.putFlag Obj.MGT_THERM_STAT 4 false
    let s := { s with
      dia := { s.dia with traceOn := s.dia.traceHeld || s.dia.traceOn, traceHeld := false }
      host := { s.host with gen1 := false } }
    s.devEvent 2

/-- In a Flask the active mirrors the OR of both devices' enforcement as it changes (R382). -/
def State.throttleMirror (s : State) : State :=
  let want := s.hk.enfOwn || (match s.flk.partner with | some h => h.throttle | none => false)
  if s.inFlask && s.isActive && want ≠ s.flk.throttleSent then
    ({ s with flk := { s.flk with throttleSent := want } }).mirrorPut s.now (.throttle want)
  else s

/-- This device's own enforcement falls due, or holds no longer. -/
def State.enforceOwn (s : State) (on : Bool) : State :=
  let s := { s with hk := { s.hk with enfOwn := on } }
  if s.inFlask && (s.isActive || s.follows) then s.throttleMirror else s.setEnforced on

/-- The throttle request is set (R380, R48). -/
def State.thermRequest (s : State) : State :=
  if bit (s.obj Obj.MGT_THERM_STAT) 3 then s
  else
    let s := (s.putFlag Obj.MGT_THERM_STAT 3 true).setFlag Obj.MGT_THERM_STAT 2
    let s := { s with hk := { s.hk with graceDeadline := some (s.clk + s.obj Obj.MGT_THR_GRACE * msUnits), cool := 0 } }
    (s.post srcMu 0x0900 s.hk.hotSensor s.hk.tmax.toNat).devEvent 2

def effThrottleEnforce (s : State) : State :=
  match s.hk.graceDeadline with
  | some d =>
    if s.isReady && d ≤ s.clk && bit (s.obj Obj.MGT_THERM_STAT) 3 then
      ({ s with hk := { s.hk with graceDeadline := none } }).enforceOwn true
    else s
  | none => s

/-- The request and the enforcement are cleared (R380); too few valid sensors keep it enforced (R379). -/
def State.thermClear (s : State) : State :=
  if bit (s.obj Obj.MGT_THERM_STAT) 3 then
    let s := s.putFlag Obj.MGT_THERM_STAT 3 false
    let s := { s with hk := { s.hk with graceDeadline := none } }
    let s := (s.post srcMu 0x0902 s.hk.hotSensor s.hk.tmax.toNat).devEvent 2
    if s.hk.insuff then s else s.enforceOwn false
  else s

/-! ## Thermal stop (R383 to R386) -/

/-- t_ramp (R244), in seconds. -/
def State.tRamp (s : State) (k : Nat) : F32 :=
  let d := s.sloF k Obj.SLC_STOP_DEC
  let j := s.sloF k Obj.SLC_JERK
  let t := fDiv (fAbs (s.sl k).rampRef) d
  if fEq j 0#32 then t else fAdd t (fDiv d j)

def msSecs (n : Nat) : F32 := f32OfRatio n 1000

/-- Thermal stop of a slice at t_s (Table 15.2). -/
def State.thermStopSlice (s : State) (k : Nat) : State :=
  match (s.sl k).st with
  | .engaging | .running | .stopping =>
    let s' := s.modSl k fun x => { x with thermStop := true }
    if fLe (fAdd (s.tRamp k) (msSecs (s.slo k Obj.SLC_ZERO_TIME))) (msSecs (s.obj Obj.MGT_THERM_STOP_WIN)) then s'.stop k 0 2
    else s'.stop k (s.slo k Obj.SLC_THERM_STOP_ALT) 2
  | .catching => s.stop k 1 2
  | _ => s

/-- THERMAL_HOLD: every main domain is held in reset (R386). -/
def State.thermalHold (s : State) : State :=
  let s := s.domainReset
  ({ s with hk := { s.hk with leave := 0 } }).setPhase .thermalHold

/-- A Flask member with a cool partner in step leaves the stop to the partner (R385). Which of the two is IN_STEP: the standby,
as the active hears of it, or as it knows of itself. -/
def State.flaskSpares (s : State) : Bool :=
  s.inFlask && match s.flk.partner with
    | some h => !h.throttle && (if s.isActive then h.step = 3 else s.flk.role = .standby && s.flk.step = .inStep)
    | none => false

/-- The declaration of thermal shutdown (R383 to R385, R48). -/
def State.thermalShutdown (s : State) : State :=
  let s := s.post srcMu 0x0903 s.hk.hotSensor s.hk.tmax.toNat
  if !s.isReady then s.thermalHold
  else if s.flaskSpares then
    let s := if s.isActive then s.setRole .none 4 else s
    { s with hk := { s.hk with stopAt := some s.now, stopDeadline := s.clk + msUnits, holdDue := some (s.clk + msUnits) } }
  else
    let d := s.clk + s.obj Obj.MGT_THERM_STOP_WIN * msUnits
    let s := { s with hk := { s.hk with stopAt := some s.now, stopDeadline := d, holdDue := some (d + msUnits) } }
    (List.range 6).foldl (fun (s : State) k => s.thermStopSlice k) s

/-- The stop deadline: every other slice enters HELD_BLOCK (R384). -/
def effThermalStopDeadline (s : State) : State :=
  if s.isReady && s.hk.stopAt.isSome && decide (s.hk.stopDeadline ≤ s.clk) && decide (s.hk.holdDue ≠ some s.hk.stopDeadline) then
    (List.range 6).foldl (fun (s : State) k =>
      match (s.sl k).st with
      | .disabled | .heldBlock => s
      | .discharging => (s.endDischarge k 2).go k 0 .heldBlock none
      | _ => s.go k 0 .heldBlock none) s
  else s

/-- Every slice rests in HELD_BLOCK or DISABLED with that switching state in force. -/
def State.allRest (s : State) : Bool :=
  (List.range 6).all fun k => match (s.sl k).st with
    | .disabled => true
    | .heldBlock => (s.sl k).modu.active = .block && (s.sl k).modu.pend.isNone
    | _ => false

def effThermalHoldEntry (s : State) : State :=
  match s.hk.holdDue with
  | some d =>
    if s.isReady && s.hk.stopAt.isSome && (decide (d ≤ s.clk) || (s.allRest && decide (s.hk.stopDeadline ≠ d))) then s.thermalHold else s
  | none => s

/-! ## The housekeeping round -/

/-- A slot ends with its channel measured; channels 37 to 63 read 0.0 (R170). -/
def effHkSlot (v : F32) (s : State) : State :=
  if s.mu.booted && !s.mu.restarting && decide (s.hk.slot < 64) then
    let x := if s.hk.slot ≤ 36 && fFin v then v else 0#32
    { s with hk := { s.hk with vals := bset s.hk.vals s.hk.slot x, slot := s.hk.slot + 1 } }
  else s

def State.hkVal (s : State) (k : Nat) : F32 := bget 0#32 s.hk.vals k

/-- A sensor is faulted by its reading or by its change since the previous round (R174). -/
def State.sensorBad (s : State) (k : Nat) : Bool :=
  let v := s.hkVal k
  !(fLe 0xC25C0000#32 v && fLe v 0x432F0000#32) ||
    (match bfind s.hk.prev k with
     | some p => fGt (fAbs (fSub v p)) 0x41A00000#32
     | none => false)

/-- Operating range and trips of the six rails, in order: below, above, undervoltage, overvoltage trip (Table 2.2), mV. -/
def railLimits (r : Nat) : Nat × Nat × Nat × Nat :=
  [(760, 840, 740, 900), (855, 945, 830, 1000), (1710, 1890, 1620, 2000), (3135, 3465, 2950, 3700), (1710, 1890, 1620, 2000),
   (3000, 3600, 2800, 3800)].getD r (0, 0, 0, 0)

/-- Rail readings (R173): those of the balls, HK12 to HK17. That the corner and bank readings HK18 to HK23 of VDD_CORE and VDD_SDS are
no rail readings of that rule is the model's choice (log entry 25). -/
def State.hkRails (s : State) : State :=
  (List.range 6).foldl (fun (s : State) r =>
    let v := s.hkVal (12 + r)
    let (lo, hi, uv, ov) := railLimits r
    let below := fun (x y : F32) => fLt x y
    let outside := below v (msSecs lo) || below (msSecs hi) v
    let tripped := fLe v (msSecs uv) || fLe (msSecs ov) v
    if !outside then { s with hk := { s.hk with warned := s.hk.warned.erase r } }
    else if tripped || s.hk.warned.contains r then s
    else ({ s with hk := { s.hk with warned := r :: s.hk.warned } }).post srcMu 0x0109 r v.toNat) s

/-- The main domains are out of reset. -/
def State.domainsUp (s : State) : Bool :=
  match s.mu.phase with
  | .starting _ | .ready | .recovery => true
  | _ => false

/-- The MU retrims its oscillator from HK34 while HK30 lies within 0.1 % of 25 MHz, else from TS11 (R171). -/
def State.hkTrim (s : State) : State :=
  let near := fLe 0x41C7CCCD#32 (s.hkVal 30) && fLe (s.hkVal 30) 0x41C83333#32
  { s with hk := { s.hk with trim := some (near, if near then s.hkVal 34 else s.hkVal 11) } }

/-- Reference corrections of the AUX units at every round's end (R171): 1.600 V over the reading, limited. The round in which
a correction reaches a limit logs the fault, also for a unit that another cause has fenced, and every round at a limit leaves
the unit fenced. -/
def State.hkRefs (s : State) : State :=
  (List.range 4).foldl (fun (s : State) u =>
    let c := fDiv 0x3FCCCCCD#32 (s.hkVal (24 + u))
    let lo : F32 := 0x3F733333#32
    let hi : F32 := 0x3F866666#32
    let s := s.setObjF (Obj.AUX_REF_CORR + u) (if fLe c lo then lo else if fLt c hi then c else hi)
    let was := bit s.hk.refBad u
    if fLe c lo || !fLt c hi then
      let new := !(was && s.fenced (12 + u))
      let s := if was then s else { s with hk := { s.hk with refBad := s.hk.refBad + 2 ^ u } }
      let s := if s.fenced (12 + u) then s else s.fence (12 + u)
      if new then s.post srcMu 0x0313 u c.toNat else s
    else if was then { s with hk := { s.hk with refBad := s.hk.refBad - 2 ^ u } } else s) s

/-- The highest reading among valid sensors. -/
def State.hkTop (s : State) (valid : List Nat) : Option Nat :=
  valid.foldl (fun (b : Option Nat) k => match b with
    | some j => if fGt (s.hkVal k) (s.hkVal j) then some k else some j
    | none => some k) none

/-- Sensor faults, Tmax, and the enforcement for too few sensors, from t0 on (R48, R174, R379). The answer says whether Tmax
exists. -/
def State.hkSensors (s : State) : State × Bool :=
  let bad := (List.range 12).filter s.sensorBad
  let valid := (List.range 12).filter fun k => !bad.contains k
  let old := bits (s.obj Obj.HK_ROUND_STAT) 11 0
  let s := bad.foldl (fun (s : State) k =>
    if bit old k then s else s.post srcMu 0x0314 k ((s.hkVal k).toNat + (bget 0#32 s.hk.prev k).toNat * 2 ^ 32)) s
  let s := s.setField Obj.HK_ROUND_STAT 11 0 (bad.foldl (fun m k => m + 2 ^ k) 0)
  let s : State := match s.hkTop valid with
    | some k => { s with hk := { s.hk with tmax := s.hkVal k, hotSensor := k } }
    | none => s
  let t : State := { s with hk := { s.hk with insuff := true } }
  (if decide (valid.length < 6) && !s.hk.insuff && s.mu.phase.up then (t.post srcMu 0x0905 0xFF valid.length).enforceOwn true else s,
   !valid.isEmpty)

/-- Request and clearing at a round's end (R380). -/
def State.hkThrottle (s : State) (known : Bool) : State :=
  let thr := s.obj Obj.MGT_THR_THRESH
  let served := s.isReady || s.mu.phase = .recovery
  let s := if served && known && fGe s.hk.tmax (f32OfInt thr) then s.thermRequest else s
  let cool := known && fLe s.hk.tmax (f32OfInt ((thr : Int) - s.obj Obj.MGT_THR_HYST))
  let n := if cool then min 10 (s.hk.cool + 1) else 0
  let s : State := { s with hk := { s.hk with cool := n } }
  if served && decide (10 ≤ n) then s.thermClear else s

/-- Shutdown and LEAVE_OK at a round's end (R383, R387). -/
def State.hkShutdown (s : State) (known : Bool) : State :=
  let hot := known && fGe s.hk.tmax 0x43200000#32
  let was := s.hk.hot
  let easy := known && fLe s.hk.tmax 0x430C0000#32
  let leave := if s.mu.phase = .thermalHold then (if easy then min 5000 (s.hk.leave + 1) else 0) else s.hk.leave
  let s : State := { s with hk := { s.hk with hot := hot, leave := leave } }
  if hot && was && s.domainsUp && s.hk.stopAt.isNone then s.thermalShutdown else s

/-- The thermal rules at a round's end. -/
def State.hkThermal (s : State) : State :=
  let r := s.hkSensors
  (r.1.hkThrottle r.2).hkShutdown r.2

/-- A late or absent round: counted, and the third in a row is a lost diagnostic of every enabled slice (R175, R307). -/
def State.lateRound (s : State) : State :=
  let s := s.bumpField Obj.HK_ROUND_STAT 31 16
  let s := { s with hk := { s.hk with late := s.hk.late + 1, good := 0 } }
  if 3 ≤ s.hk.late && !s.hk.absent then
    let s := { s with hk := { s.hk with absent := true } }
    (List.range 6).foldl (fun (s : State) k => if s.enabled k then s.degrade k 4 0xFF else s) s
  else s

def effHkRoundLate (s : State) : State :=
  if s.mu.booted && decide (s.hk.roundDeadline < s.muNow) then
    let s := s.lateRound
    { s with hk := { s.hk with lateSeen := true, roundDeadline := s.hk.roundDeadline + msUnits } }
  else s

/-- An on-time round; the third in a row ends the absence (Table 12.6). -/
def State.goodRound (s : State) : State :=
  let s := { s with hk := { s.hk with late := 0, good := min 3 (s.hk.good + 1) } }
  if s.hk.absent && decide (3 ≤ s.hk.good) then
    let s := { s with hk := { s.hk with absent := false } }
    (List.range 6).foldl (fun (s : State) k => s.undegrade k fun c => c / 256 ≠ 4) s
  else s

def effHkRoundEnd (s : State) : State :=
  if s.mu.booted && !s.mu.restarting && s.hk.slot = 64 then
    let s := if s.hk.lateSeen then s else if s.muNow ≤ s.hk.roundDeadline then s.goodRound else s.lateRound
    let s := (List.range 64).foldl (fun (s : State) k => s.setObjF (Obj.HK_VALUE + k) (s.hkVal k)) s
    let s := s.setObj Obj.HK_MU_OSC_ERR (unsgn 32 (max (-10000) (min 10000 (fDy (s.hkVal 34)).rne)))
    let s := s.hkRails
    let s := s.hkTrim
    let s := s.hkRefs
    let s := s.hkThermal
    { s with hk := { s.hk with
        prev := s.hk.vals.filter fun e => e.1 < 12
        vals := [], slot := 0, lateSeen := false, roundDeadline := s.muNow + msUnits } }
  else s

/-! ## The commands -/

def execAuxSampleEnd (dt : Nat) (u : Fin 4) (level : Int) (s : State) : Host.Outcome State Fault Refusal :=
  .next (s.run dt (effAuxSampleEnd u level))
def execAuxConversionEnd (dt : Nat) (u : Fin 4) (s : State) : Host.Outcome State Fault Refusal :=
  .next (s.run dt (effAuxConversionEnd u))
def execAuxPowerDown (dt : Nat) (u : Fin 4) (s : State) : Host.Outcome State Fault Refusal :=
  .next (s.run dt (effAuxPowerDown u))
def execHkSlot (dt : Nat) (v : F32) (s : State) : Host.Outcome State Fault Refusal := .next (s.run dt (effHkSlot v))
def execHkRoundEnd (dt : Nat) (s : State) : Host.Outcome State Fault Refusal := .next (s.runT dt effHkRoundEnd)
def execHkRoundLate (dt : Nat) (s : State) : Host.Outcome State Fault Refusal := .next (s.run dt effHkRoundLate)
def execThrottleEnforce (dt : Nat) (s : State) : Host.Outcome State Fault Refusal := .next (s.run dt effThrottleEnforce)
def execThermalStopDeadline (dt : Nat) (s : State) : Host.Outcome State Fault Refusal :=
  .next (s.run dt effThermalStopDeadline)
def execThermalHoldEntry (dt : Nat) (s : State) : Host.Outcome State Fault Refusal := .next (s.runT dt effThermalHoldEntry)

end Sys2Proof.Machine
end

