-- ==== Sys2Proof/Machine/Encoders.lean ====
section
/-!
DEFINITION. Position and speed feedback (R176 to R200): one decoder, used by the device for each interface and by the
Referee for the interface each slice's SAF_ENC names (R295). One command carries every level accepted on its tick.
-/

namespace Sys2Proof.Machine

/-! ## Parameters of a decoder -/

/-- What a decoder works by. The Referee takes lines, pole pairs, offset and speed window from its own objects and the
rest from ENC_CFG_n. -/
structure EncPar where
  mode : Nat
  commHyst : Bool
  indexEn : Bool
  dirInv : Bool
  tol : Nat
  ssTime : Nat       -- stamp units
  speedWin : Nat     -- stamp units
  lines : Nat
  offset : Nat
  poles : Nat

def State.encCfg (s : State) (n : Nat) : Nat := s.obj (Obj.ENC_CFG + n)
def State.ssiCfg (s : State) (n : Nat) : Nat := s.obj (Obj.ENC_SSI_CFG + n)
def State.encOn (s : State) (n : Nat) : Bool := s.isReady && bit (s.encCfg n) 127
def State.encMode (s : State) (n : Nat) : Nat := bits (s.encCfg n) 126 125
def State.encOwner (s : State) (n : Nat) : Nat := bits (s.encCfg n) 124 122

def State.encPar (s : State) (n : Nat) : EncPar :=
  let c := s.encCfg n
  let k := s.encOwner n
  { mode := bits c 126 125, commHyst := bit c 121, indexEn := bit c 120, dirInv := bit c 119, tol := bits c 113 110,
    ssTime := bits c 105 96 * msUnits, speedWin := bits c 95 80 * usUnits, lines := bits c 63 32, offset := bits c 31 0,
    poles := if k < 6 then s.slo k Obj.SLC_POLE_PAIRS else 1 }

def State.refPar (s : State) (k n : Nat) : EncPar :=
  { s.encPar n with
    speedWin := s.obj (safo k Obj.SAF_SPD_WIN) * usUnits, lines := s.obj (safo k Obj.SAF_ENC_LINES)
    offset := s.obj (safo k Obj.SAF_ENC_OFFSET), poles := s.obj (safo k Obj.SAF_POLE_PAIRS) }

/-- Slices whose Referee decoder watches an interface. -/
def State.refSlices (s : State) (n : Nat) : List Nat := (List.range 6).filter fun k => s.obj (safo k Obj.SAF_ENC) = n

/-- What a decoder reports. -/
inductive EncEv where
  | illegal
  | lineCount (diff : Int) (consec : Nat)
  | index (mismatch : Bool)
  | fault (cause : Nat)

/-- Counts per electrical revolution times pole pairs, and the count's scale (Table 8.1). -/
def EncPar.full (p : EncPar) : Nat := 4 * max 1 p.lines

def wrap32 (v : Int) : Int := sgn 32 (v % (2 ^ 32 : Nat)).toNat

/-- The count the commutation angle follows (R183). -/
def Enc.comm (e : Enc) (p : EncPar) : Int := if p.commHyst then e.rep else e.raw

/-- Angle and phase k from M of a full scale `f` (R184, R188). -/
def angleOf (p : EncPar) (m f : Nat) : Ang32 × Nat :=
  (BitVec.ofNat 32 (p.poles * m * 2 ^ 32 / f + p.offset), p.poles * m / f)

/-- Commutation angle and k, where known. A difference of counts is taken modulo 2^32 (R179). -/
def Enc.angle (e : Enc) (p : EncPar) (stBits : Nat) : Option (Ang32 × Nat) :=
  if p.mode = 0 then e.m0.map fun m0 => angleOf p (wrap32 (e.comm p - m0) % (p.full : Int)).toNat p.full
  else if p.mode = 1 then e.hallAng.map fun a => (a, 0)
  else e.ssiPos.map fun s => angleOf p (s.1 * 2 ^ (32 - stBits)) (2 ^ 32)

/-! ## Steps (R179 to R182, R196) -/

/-- The encoder faults once (R198): VALID reads 0. -/
def Enc.fail (e : Enc) (t : Stamp) (cause : Nat) (evs : List EncEv) : Enc × List EncEv :=
  if e.fault then (e, evs) else ({ e with fault := true, faultAt := t, valid := false }, evs ++ [.fault cause])

/-- The estimate at stamp `t` in counts per second, 0 while it is not valid (R193). -/
def Enc.speedEst (e : Enc) (win : Nat) (t : Stamp) : F32 :=
  if !e.valid then 0#32
  else match e.hist.filter (fun h => h.1 ≤ t) with
  | l :: r =>
    let inWin := r.filter fun h => decide (l.1 ≤ h.1 + win)
    match (match inWin.getLast? with | some f => some f | none => r.head?) with
    | some f =>
      let vw := fDiv (f32OfInt (wrap32 (l.2 - f.2))) (secs (l.1 - f.1))
      if t = l.1 then vw
      else
        let m := fMin (fAbs vw) (fDiv f32One (secs (t - l.1)))
        if fSgnB vw then fNeg m else m
    | none => 0#32
  | [] => 0#32

/-- A decoded step of the raw count at stamp `t`, timer clock `tc`. The edge that makes the speed valid gives it (R196). -/
def Enc.step (e : Enc) (win : Nat) (sg : Int) (t : Stamp) (tc : Nat) : Enc :=
  let e := { e with raw := wrap32 (e.raw + sg), lastTrans := some tc, standstill := false }
  if e.d = 0 || e.d = sg then
    let r := wrap32 (e.rep + sg)
    let n := { e with
      rep := r, d := sg, edgeAt := t, hist := ((t, r) :: e.hist).take 64, edgesDir := min 2 (e.edgesDir + 1)
      valid := decide (1 ≤ e.edgesDir) && !e.fault, refDirChanged := e.refDirChanged || e.d ≠ sg }
    if !e.valid && n.valid then { n with speed := n.speedEst win t, speedAt := t } else n
  else { e with d := sg, hist := [], edgesDir := 0, valid := false, speed := 0#32, speedAt := t, refDirChanged := true }

/-- An illegal transition at stamp `t` (R180, R181). -/
def Enc.bad (e : Enc) (t : Stamp) : Enc × List EncEv :=
  let l := (t :: e.illegal).take 16
  let e := { e with illegal := l }
  match l[15]? with
  | some f => if t ≤ f + 10 * msUnits then e.fail t 0 [.illegal] else (e, [.illegal])
  | none => (e, [.illegal])

/-- New levels of ENC_A and ENC_B, which in HALL mode are H1 and H2 (Table 8.1). -/
def Enc.pinAB (e : Enc) (a b : Bool) : Enc := { e with a := a, b := b, hall := e.hall / 4 * 4 + 2 * b2n b + b2n a }

/-- A new level of ENC_Z, which in HALL mode is H3. -/
def Enc.pinZ (e : Enc) (z : Bool) : Enc := { e with hall := e.hall % 4 + 4 * b2n z }

/-- New levels of all three. -/
def Enc.pinHall (e : Enc) (h : Nat) : Enc := { e with a := bit h 0, b := bit h 1, hall := h }

/-- Position of a quadrature state in the order A leads B. -/
def quadPos (a b : Bool) : Int := if a then (if b then 2 else 1) else (if b then 3 else 0)

/-- New A and B levels in QUAD mode. -/
def Enc.quad (e : Enc) (p : EncPar) (a b : Bool) (t : Stamp) (tc : Nat) : Enc × List EncEv :=
  let e' := e.pinAB a b
  if e.a ≠ a && e.b ≠ b then e'.bad t
  else if e.a = a && e.b = b then (e, [])
  else
    let up := (quadPos a b - quadPos e.a e.b) % 4 = 1
    (e'.step p.speedWin (if up ≠ p.dirInv then 1 else -1) t tc, [])

/-- Sector of a Hall state (Table 8.3). -/
def hallSector (h : Nat) : Option Nat := [none, some 0, some 2, some 1, some 4, some 5, some 3, none].getD h none

def popcount3 (v : Nat) : Nat := v % 2 + v / 2 % 2 + v / 4 % 2

/-- A Hall transition places the angle; with COMM_HYST one that R182 absorbs leaves it (R183, R186). -/
def Enc.hallStep (e : Enc) (p : EncPar) (a : Ang32) (sg : Int) (t : Stamp) (tc : Nat) : Enc :=
  let moved := if p.commHyst && e.d ≠ 0 && e.d ≠ sg then e else { e with hallAng := some a, hallAt := t }
  moved.step p.speedWin sg t tc

/-- New Hall levels (R186). The angle follows the sector order; DIR_INV reverses the counts. -/
def Enc.hallTo (e : Enc) (p : EncPar) (h : Nat) (t : Stamp) (tc : Nat) : Enc × List EncEv :=
  let e' := e.pinHall h
  if h = e.hall then (e, [])
  else match hallSector h with
  | none => e'.bad t
  | some i =>
    if popcount3 (h ^^^ e.hall) ≥ 2 then ({ e' with sector := some i }).bad t
    else match e.sector with
      | none => ({ e' with sector := some i }, [])
      | some j =>
        let e' := { e' with sector := some i }
        let at_ := fun (n : Nat) => BitVec.ofNat 32 (p.offset + (roundHalfAway (n * 2 ^ 32 : Nat) 6).toNat)
        if i = (j + 1) % 6 then (e'.hallStep p (at_ i) (if p.dirInv then -1 else 1) t tc, [])
        else if j = (i + 1) % 6 then (e'.hallStep p (at_ (i + 1)) (if p.dirInv then 1 else -1) t tc, [])
        else (e', [])

/-- An edge of Z in QUAD mode (R184, R185); `c` is the decoder with every counting transition of the edge's stamp, whose
counts the reference takes. Where such a transition reverses d, R184 does not say which d decides the edge, nor R185 to which
interval the reversal belongs: the d of this row does, so the order of the tick's rows decides: the model's choice (log entry 29). -/
def Enc.indexEdge (e c : Enc) (p : EncPar) (rising : Bool) (t : Stamp) : Enc × List EncEv :=
  let e := e.pinZ rising
  if !(p.indexEn && (if rising then decide (e.d ≥ 0) else decide (e.d = -1))) then (e, [])
  else
    let diff := wrap32 (c.raw - e.refRaw)
    let checked := decide (1 ≤ e.refs) && !e.refDirChanged
    let off : Int := (diff.natAbs : Int) - p.full
    let bad := checked && decide (off.natAbs > p.tol)
    let consec := if bad then min 3 (e.lcConsec + 1) else if checked then 0 else e.lcConsec
    let e := { e with
      m0 := some (c.comm p), refs := e.refs + 1, refRaw := c.raw, refDirChanged := false, lcConsec := consec }
    if bad then
      let r := if consec = 3 then e.fail t 1 [] else (e, [])
      (r.1, [.lineCount diff consec, .index true] ++ r.2)
    else (e, [.index false])

/-! ## Speed (R193 to R195) -/

/-- Standstill (R195). -/
def Enc.still (e : Enc) (t : Stamp) : Enc :=
  { e with standstill := true, speed := 0#32, speedAt := t, valid := false, hist := [], edgesDir := 0, lastTrans := none }

/-! ## Both paths -/

/-- An encoder record (Table 8.5) of a decoder as it stands at the record's stamp. -/
def State.encRecordOf (s : State) (n : Nat) (t : Stamp) (e : Enc) (kind flags : Nat) : State :=
  let st := bits (s.ssiCfg n) 57 52
  let ang := match e.angle (s.encPar n) st with | some a => a.1.toNat | none => 0
  s.record (0x45 + n) t (toLE 4 (unsgn 32 e.raw) ++ toLE 4 (unsgn 32 e.rep) ++ toLE 1 kind
    ++ toLE 1 (flags + 4 * b2n (decide (e.d < 0))) ++ toLE 2 0 ++ toLE 4 ang)

def State.encRecord (s : State) (n : Nat) (t : Stamp) (kind flags : Nat) : State := s.encRecordOf n t (s.encU n) kind flags

/-- The decoder with the counting transition that interface `n` still accepts on this tick, whose stamp is the same: a
reference and a latch take its count (R184, R191). -/
def State.encWith (s : State) (n : Nat) (p : EncPar) (e : Enc) (t : Stamp) : Enc :=
  (s.pending.takeWhile fun i => i.dt = 0).foldl (fun (e : Enc) i => match i with
    | .encQuadTransition _ m a b => if m.val = n && p.mode = 0 then (e.quad p a b t (t - s.tl.steps)).1 else e
    | .encHallTransition _ m h => if m.val = n && p.mode = 1 then (e.hallTo p h.val t (t - s.tl.steps)).1 else e
    | _ => e) e

/-- The owning slice's reaction to an encoder fault without fallback (R198, R258). With FALLBACK the change comes with a
control sample (R249). -/
def State.encReact (s : State) (n : Nat) : State :=
  let k := s.encOwner n
  if k < 6 && s.enabled k && s.slo k Obj.SLC_ENC = n && s.slo k Obj.SLC_ANGLE_SRC = 0 && !(s.sl k).blend.sensorless
      && !bit (s.encCfg n) 118 then s.lossReact k
  else s

/-- What the device does with its decoder's reports. -/
def State.encEvent (s : State) (n : Nat) (t : Stamp) (ev : EncEv) : State :=
  match ev with
  | .illegal => (((s.setFlag (Obj.ENC_STAT + n) 1).bumpField (Obj.ENC_STAT + n) 31 16)).encRecord n t 5 0
  | .lineCount diff consec =>
    (s.setFlag (Obj.ENC_STAT + n) 2).postAt (srcOwner (s.encOwner n)) t 0x0400 n (unsgn 32 diff + consec * 2 ^ 32)
  | .index bad => s.encRecordOf n t (s.encWith n (s.encPar n) (s.encU n) t) 0 (2 * b2n bad)
  | .fault c => ((s.postAt (srcOwner (s.encOwner n)) s.now 0x0401 n c).encRecord n s.now 7 0).encReact n

/-- What the Referee does with its decoder's reports (R198, Table 12.6). -/
def State.refEvent (s : State) (k n : Nat) (t : Stamp) (ev : EncEv) : State :=
  match ev with
  | .lineCount diff consec => s.postAt srcRef t 0x0400 n (unsgn 32 diff + consec * 2 ^ 32)
  | .fault c => (s.post srcRef 0x0401 n (c + 256)).degrade k 2 n
  | _ => s

/-- Give an input to the device's decoder and to every Referee decoder on the interface. -/
def State.decodeAll (s : State) (n : Nat) (t : Stamp) (f : EncPar → Enc → Enc × List EncEv) : State :=
  let r := f (s.encPar n) (s.encU n)
  let s := r.2.foldl (fun (s : State) ev => s.encEvent n t ev) (s.setEnc n r.1)
  (s.refSlices n).foldl (fun (s : State) k =>
    let q := f (s.refPar k n) (s.rs k).enc
    q.2.foldl (fun (s : State) ev => s.refEvent k n t ev) (s.modRs k fun x => { x with enc := q.1 })) s

/-- How long the filter has held a transition that it accepts on a tick: one first seen before a change of FILT has passed the FILT
of then (R176, R177). Rows bring accepted transitions alone: a pulse shorter than FILT brings none. -/
def State.filtTicks (s : State) (n tick : Nat) : Nat :=
  let o := (s.encU n).filtOld
  if tick < o.2 + o.1 then o.1 else bits (s.encCfg n) 117 114

/-- The stamp of a transition that the filter accepts now (R177). -/
def State.filtStamp (s : State) (n : Nat) : Stamp := s.stampAgo (s.filtTicks n s.tick)

/-- The decoder as a sample at stamp `t` latches it: with every transition whose accepted stamp is at or before the sample's,
those still inside the glitch filter with them (R177, R245). -/
def State.encLatched (s : State) (n : Nat) (t : Stamp) : Enc :=
  let p := s.encPar n
  ((ticked s.tick s.pending).takeWhile fun i => i.1 ≤ s.tick + 15).foldl (fun (e : Enc) i =>
    let u := s.stampAt (i.1 - s.filtTicks n i.1)
    if t < u then e
    else match i.2 with
      | .encQuadTransition _ m a b => if m.val = n && p.mode = 0 then (e.quad p a b u (u - s.tl.steps)).1 else e
      | .encHallTransition _ m h => if m.val = n && p.mode = 1 then (e.hallTo p h.val u (u - s.tl.steps)).1 else e
      | _ => e) (s.encU n)

/-- Input levels alone, where nothing decodes them. ENC_B high again restarts an SSI interface's monoflop (R189). -/
def Enc.levels (e : Enc) (a b : Bool) (mono : Nat) : Enc :=
  { e.pinAB a b with monoEnd := if b && !e.b then e.monoEnd.map (fun _ => mono) else e.monoEnd }

def effEncQuadTransition (n : Fin 8) (a b : Bool) (s : State) : State :=
  let n := n.val
  let t := s.filtStamp n
  if s.encOn n && s.encMode n = 0 then
    s.decodeAll n t fun p e => e.quad p a b t (t - s.tl.steps)
  else
    let mono := t - s.tl.steps + bits (s.ssiCfg n) 31 24 * usUnits
    let s := s.modEnc n fun e => e.levels a b mono
    (s.refSlices n).foldl (fun (s : State) k => s.modRs k fun x => { x with enc := x.enc.levels a b mono }) s

def effEncHallTransition (n : Fin 8) (h : Fin 8) (s : State) : State :=
  let n := n.val
  let t := s.filtStamp n
  if s.encOn n && s.encMode n = 1 then
    s.decodeAll n t fun p e => e.hallTo p h.val t (t - s.tl.steps)
  else
    let s := s.modEnc n fun e => e.pinHall h.val
    (s.refSlices n).foldl (fun (s : State) k => s.modRs k fun x => { x with enc := x.enc.pinHall h.val }) s

def effEncIndex (n : Fin 8) (rising : Bool) (s : State) : State :=
  let n := n.val
  let t := s.filtStamp n
  if s.encOn n && s.encMode n = 0 then s.decodeAll n t fun p e => e.indexEdge (s.encWith n p e t) p rising t
  else
    let s := s.modEnc n fun e => e.pinZ rising
    (s.refSlices n).foldl (fun (s : State) k => s.modRs k fun x => { x with enc := x.enc.pinZ rising }) s

/-! ## Probes and latches (R191, R192) -/

/-- A latch value: stamp, count, sequence (Table 8.6). -/
def latchVal (t : Stamp) (count : Int) (seq : Nat) : Nat := t % 2 ^ 64 + unsgn 32 count * 2 ^ 64 + seq % 2 ^ 32 * 2 ^ 96

/-- Write a latch; in a Flask the active mirrors it (Table 13.5). -/
def State.putProbe (s : State) (obj v : Nat) : State :=
  if s.inFlask && s.isActive then s.mirrorPut s.now (.probe obj v) else if s.follows then s else s.setObj obj v

def effEncProbeEdge (n : Fin 8) (rising : Bool) (s : State) : State :=
  let n := n.val
  let t := s.filtStamp n
  if s.encOn n && bit (s.encCfg n) (if rising then 64 else 65) then
    let e := s.encU n
    let unread := if rising then e.riseUnread else e.fallUnread
    let q := (if rising then e.riseSeq else e.fallSeq) + 1
    let s := if unread then s.setFlag (Obj.ENC_STAT + n) 0x100 else s
    let s := s.setEnc n (if rising then { e with riseUnread := true, riseSeq := q } else { e with fallUnread := true, fallSeq := q })
    let c := s.encWith n (s.encPar n) e t
    (s.putProbe ((if rising then Obj.ENC_PROBE_RISE else Obj.ENC_PROBE_FALL) + n) (latchVal t c.raw q)).encRecordOf n t c
      (if rising then 1 else 2) 0
  else s

/-- The device drives the clock of an SSI interface, ENC_A: alone, or as the active of a Flask. Else ENC_A is high-impedance
(Table 8.1, R190). -/
def State.ssiDrives (s : State) (n : Nat) : Bool := s.encOn n && s.encMode n = 2 && (!s.inFlask || s.isActive)

/-- A trigger of an SSI frame with its stamp, the frame's sample stamp (R187, R189). Both devices of a Flask decode the frame,
whose clock the active drives (R190). -/
def State.ssiTrigger (s : State) (n : Nat) (at_ : Stamp) : State :=
  let e := s.encU n
  let waits := match e.monoEnd with
    | some t => !e.b || decide (at_ - s.tl.steps ≤ t)
    | none => false
  if !s.encOn n || s.encMode n ≠ 2 then s
  else if e.frameStart.isSome || waits then s.setFlag (Obj.ENC_STAT + n) 0x400
  else
    let go := fun (e : Enc) => { e with frameStart := some at_, frameTick := s.tick, frameBHigh := e.b, frameCut := false }
    let s := s.modEnc n go
    (s.refSlices n).foldl (fun (s : State) k => s.modRs k fun x => { x with enc := go x.enc }) s

/-- ENC_LATCH of a rally list, with the occurrence stamp (R192). -/
def State.encLatch (s : State) (n : Nat) (t : Stamp) : State :=
  let e := s.encU n
  let c := s.encLatched n t
  let s := s.setEnc n { e with latchSeq := e.latchSeq + 1 }
  let s := s.setObj (Obj.ENC_LATCH + n) (latchVal t c.raw (e.latchSeq + 1))
  let s := s.encRecordOf n t c 3 0
  if s.encMode n = 2 then s.ssiTrigger n t else s

/-! ## SSI frames (R187, R188, R194) -/

def grayBin : Nat → Nat → Nat
  | 0, v => v
  | f + 1, v => v ^^^ grayBin f (v / 2)

def parityOf : Nat → Nat → Nat
  | 0, _ => 0
  | f + 1, v => (v % 2 + parityOf f (v / 2)) % 2

/-- The end of a frame whose data bits spell `raw`, taken at `t0`. -/
def Enc.ssiFrame (e : Enc) (cfg raw : Nat) (par : Bool) (t0 now : Stamp) (mono : Nat) : Enc × List EncEv × Bool :=
  let len := bits cfg 63 58
  let st := bits cfg 57 52
  let pm := bits cfg 51 50
  let parOk := pm = 0 || (parityOf 32 raw + b2n par) % 2 = (if pm = 1 then 0 else 1)
  let v := (if bit cfg 49 then grayBin len (raw % 2 ^ len) else raw) % 2 ^ len
  let sg := v % 2 ^ st
  let step : Int := match e.ssiPos with
    | some q => sgn st ((sg + 2 ^ st - q.1) % 2 ^ st)
    | none => 0
  let ok := e.frameBHigh && !e.frameCut && parOk && (e.ssiPos.isNone || decide (step.natAbs ≤ bits cfg 23 0))
  let e := { e with frameStart := none, monoEnd := some mono }
  if ok then
    let good := min 2 (e.ssiGood + 1)
    let v32 := sgn 32 v
    let sp := match e.ssiPos with
      | some q => fDiv (f32OfInt step) (secs (t0 - q.2.2))
      | none => 0#32
    ({ e with ssiPos := some (sg, v / 2 ^ st, t0), raw := v32, rep := v32, ssiBad := 0, ssiGood := good,
              valid := decide (2 ≤ good) && !e.fault, speed := if 2 ≤ good then sp else 0#32, edgeAt := now, speedAt := now }, [], true)
  else
    let e := { e with ssiBad := min 3 (e.ssiBad + 1), ssiGood := 0, valid := false, speed := 0#32, speedAt := now }
    let r := if e.ssiBad = 3 then e.fail now 2 [] else (e, [])
    (r.1, r.2, false)

/-- Ticks from the trigger to the sampling of the last bit. -/
def ssiTicks (cfg : Nat) : Nat :=
  let div := bits cfg 47 40
  div - div / 2 + (bits cfg 63 58 + (if bits cfg 51 50 = 0 then 0 else 1)) * div + bits cfg 39 32

def effSsiFrameEnd (n : Fin 8) (raw : Nat) (parity : Bool) (s : State) : State :=
  let n := n.val
  let cfg := s.ssiCfg n
  match (s.encU n).frameStart with
  | some t0 =>
    if s.encOn n && s.encMode n = 2 && decide ((s.encU n).frameTick + ssiTicks cfg ≤ s.tick) then
      let mono := s.clk + bits cfg 31 24 * usUnits
      let r := (s.encU n).ssiFrame cfg raw parity t0 s.now mono
      let s := s.setEnc n r.1
      let s := if r.2.2 then s else s.setFlag (Obj.ENC_STAT + n) 0x200
      let s := s.encRecord n t0 4 (b2n (!r.2.2))
      let s := r.2.1.foldl (fun (s : State) ev => s.encEvent n s.now ev) s
      (s.refSlices n).foldl (fun (s : State) k =>
        let q := (s.rs k).enc.ssiFrame cfg raw parity t0 s.now mono
        q.2.1.foldl (fun (s : State) ev => s.refEvent k n s.now ev) (s.modRs k fun x => { x with enc := q.1 })) s
    else s
  | none => s

/-! ## Standstill and speed evaluation -/

def Enc.stillDue (e : Enc) (p : EncPar) (clk : Nat) : Bool :=
  p.mode ≠ 2 && !e.standstill && (match e.lastTrans with | some t => decide (t + p.ssTime ≤ clk) | none => false)

/-- A decoder is at standstill, with what it still decodes on this tick: an illegal transition is no arrival (R66, R195). -/
def State.stillNow (s : State) (n : Nat) (p : EncPar) (e : Enc) (t : Stamp) : Bool :=
  e.stillDue p (t - s.tl.steps) && (s.encWith n p e t).stillDue p (t - s.tl.steps)

/-- The deadline is judged once every transition stamped on it has passed the filter: at the stamp of the transitions that
this tick accepts (R66, R177, R195). -/
def effEncStandstill (n : Fin 8) (s : State) : State :=
  let n := n.val
  let t := s.filtStamp n
  if s.encOn n then
    let s := (s.refSlices n).foldl (fun (s : State) k =>
      if s.stillNow n (s.refPar k n) (s.rs k).enc t then s.modRs k fun x => { x with enc := x.enc.still t } else s) s
    if s.stillNow n (s.encPar n) (s.encU n) t then (s.modEnc n fun e => e.still t).encRecord n t 6 0 else s
  else s

/-- Evaluate an interface's speed at a stamp, with every edge stamped at or before it (R193); in SSI mode the frames give it. -/
def State.encEval (s : State) (n : Nat) (t : Stamp) : State :=
  if s.encMode n = 2 then s
  else
    let v := (s.encLatched n t).speedEst (s.encPar n).speedWin t
    s.modEnc n fun e => { e with speed := v, speedAt := t }

/-- The latest multiple of a grid that this tick is the first to reach (R82's rule for stamps between ticks). -/
def State.gridNow (s : State) (g : Nat) : Option Stamp :=
  if s.now % g < 12 then some (s.now - s.now % g) else none

def effEncSpeedEval (n : Fin 8) (s : State) : State :=
  match s.gridNow 400000 with
  | some t => if s.encOn n.val && decide (6 ≤ s.encOwner n.val) then s.encEval n.val t else s
  | none => s

/-! ## Starts (R176, R199) -/

/-- A decoder as after a start, from the levels its inputs hold; latch sequences count on, and so does the monoflop time of
the last frame, which a frame cut off by the start ends by (R189). -/
def Enc.fresh (e : Enc) (mono : Nat) : Enc :=
  { a := e.a, b := e.b, hall := e.hall, sector := hallSector e.hall
    monoEnd := if e.frameStart.isSome then some mono else e.monoEnd, riseUnread := e.riseUnread, fallUnread := e.fallUnread,
    riseSeq := e.riseSeq, fallSeq := e.fallSeq, latchSeq := e.latchSeq }

/-- A fresh start of an interface, in both paths: each decodes from the levels that the inputs hold (R58, R176). -/
def State.encStart (s : State) (n : Nat) : State :=
  let mono := s.clk + bits (s.ssiCfg n) 31 24 * usUnits
  let d := s.encU n
  let s := s.modEnc n fun e => { e.fresh mono with fault := s.fenced (16 + n), filtOld := e.filtOld }
  (s.refSlices n).foldl (fun (s : State) k => s.modRs k fun x =>
    { x with enc := ({ x.enc with a := d.a, b := d.b, hall := d.hall } : Enc).fresh mono }) s

/-- A write of ENC_CFG_n (R176): EN set, or another mode of an enabled interface, starts it afresh; EN cleared ends a running
frame. -/
def State.encWritten (s : State) (n old v : Nat) : State :=
  let s := if bits v 117 114 = bits old 117 114 then s else s.modEnc n fun e => { e with filtOld := (bits old 117 114, s.tick) }
  if bit v 127 && (!bit old 127 || bits v 126 125 ≠ bits old 126 125) then (s.encStart n).setField (Obj.ENC_STAT + n) 31 16 0
  else if !bit v 127 && bit old 127 then
    let mono := s.clk + bits (s.ssiCfg n) 31 24 * usUnits
    let stop := fun (e : Enc) => { e with frameStart := none, monoEnd := if e.frameStart.isSome then some mono else e.monoEnd }
    (s.refSlices n).foldl (fun (s : State) k => s.modRs k fun x => { x with enc := stop x.enc }) (s.modEnc n stop)
  else s

/-- SYS_FUNC_REINIT class 4. -/
def State.encReinit (s : State) (n : Nat) : State := (s.encStart n).setField (Obj.ENC_STAT + n) 31 16 0

/-- A catch supplies M0 so that the encoder's angle equals the caught one, to the nearest count (R184, R250). -/
def State.encTeach (s : State) (n : Nat) (a : Ang32) : State :=
  let p := s.encPar n
  let e := s.encU n
  if (e.angle p (bits (s.ssiCfg n) 57 52)).isSome then s
  else if p.mode = 0 then
    let rel := (a.toNat + 2 ^ 32 - p.offset % 2 ^ 32) % 2 ^ 32
    let m := (roundHalfAway (rel * p.full : Nat) (max 1 p.poles * 2 ^ 32)).toNat
    s.setEnc n { e with m0 := some (e.comm p - m) }
  else if p.mode = 1 then s.setEnc n { e with hallAng := some a, hallAt := s.now }
  else s

/-! ## The commands -/

def execEncQuadTransition (dt : Nat) (n : Fin 8) (a b : Bool) (s : State) : Host.Outcome State Fault Refusal :=
  .next (s.run dt (effEncQuadTransition n a b))
def execEncHallTransition (dt : Nat) (n : Fin 8) (h : Fin 8) (s : State) : Host.Outcome State Fault Refusal :=
  .next (s.run dt (effEncHallTransition n h))
def execEncIndex (dt : Nat) (n : Fin 8) (rising : Bool) (s : State) : Host.Outcome State Fault Refusal :=
  .next (s.run dt (effEncIndex n rising))
def execEncProbeEdge (dt : Nat) (n : Fin 8) (rising : Bool) (s : State) : Host.Outcome State Fault Refusal :=
  .next (s.run dt (effEncProbeEdge n rising))
def execEncStandstill (dt : Nat) (n : Fin 8) (s : State) : Host.Outcome State Fault Refusal :=
  .next (s.run dt (effEncStandstill n))
def execEncSpeedEval (dt : Nat) (n : Fin 8) (s : State) : Host.Outcome State Fault Refusal :=
  .next (s.run dt (effEncSpeedEval n))
def execSsiFrameEnd (dt : Nat) (n : Fin 8) (bits : Nat) (parity : Bool) (s : State) : Host.Outcome State Fault Refusal :=
  .next (s.run dt (effSsiFrameEnd n bits parity))

end Sys2Proof.Machine
end

