-- ==== Sys2Proof/Machine/Rally.lean ====
section
/-!
DEFINITION. Rally lists at work (R82, R83, R85 to R88) and the TIO pins (R90): occurrences, actions, drops and merges,
commits of ANGLE crossings at a refresh, pulses and captures.
-/

namespace Sys2Proof.Machine

/-! ## Entry fields (Table 4.11) -/

def State.rallyV (s : State) (k e : Nat) : Nat := s.obj (0x8100 + 0x40 * k + e)
def rTrig (v : Nat) : Nat := bits v 126 125
def rDir (v : Nat) : Nat := bits v 124 123
def rSync (v : Nat) : Bool := bit v 122
def rAsync (v : Nat) : Bool := bit v 121
def rAction (v : Nat) : Nat := bits v 120 118
def rDecim (v : Nat) : Nat := bits v 111 104
def rArg (v : Nat) : Nat := bits v 95 80
def rA (v : Nat) : Nat := bits v 63 32
def rB (v : Nat) : Nat := bits v 31 0

def State.rallyD (s : State) (k e : Nat) : RallyDyn := bget {} (s.sl k).rally e
def State.modRally (s : State) (k e : Nat) (f : RallyDyn → RallyDyn) : State :=
  s.modSl k fun x => { x with rally := bset x.rally e (f (bget {} x.rally e)) }

/-- An entry that can occur: active, of this trigger, its slice not fenced (R87). -/
def State.rallyOn (s : State) (k e trig : Nat) : Bool :=
  s.isReady && !s.fenced k && bit (s.rallyV k e) 127 && rTrig (s.rallyV k e) = trig

/-! ## TIO pins (R90) -/

def State.tioCfg (s : State) (n : Nat) : Nat := s.obj (Obj.TIM_TIO_CFG + n)
def State.tioMode (s : State) (n : Nat) : Nat := bits (s.tioCfg n) 15 8

/-- Queue a capture; with 8 unread the newest is dropped and counted. In a Flask the active mirrors it (Table 13.5). -/
def State.tioPush (s : State) (n : Nat) (c : TioCapt) : State :=
  let u := s.tioU n
  if u.capts.length < 8 then s.setTio n { u with capts := u.capts ++ [c] }
  else s.bump (Obj.TIM_TIO_DROPS + n) 0xFFFFFFFF

def State.tioCapture (s : State) (n : Nat) (t : Stamp) (level : Bool) : State :=
  let u := s.tioU n
  let s := s.setTio n { u with seqNo := (u.seqNo + 1) % 2 ^ 32 }
  let c : TioCapt := { stamp := t, level := level, seq := u.seqNo }
  let s := if s.inFlask && s.isActive then s.mirrorPut s.now (.probe (Obj.TIM_TIO_CAPT + n) c.val) else if s.follows then s else s.tioPush n c
  s.record (0x4D + n) t []

/-- TIO_DRIVE: low, high, toggle or pulse; a later drive cancels the trailing edge of a pulse. -/
def State.tioDrive (s : State) (n how : Nat) (t : Stamp) : State :=
  let u := s.tioU n
  let cfg := s.tioCfg n
  let idle := bit cfg 16
  match how with
  | 0 => s.setTio n { u with level := false, trailing := none }
  | 1 => s.setTio n { u with level := true, trailing := none }
  | 2 => s.setTio n { u with level := !u.level, trailing := none }
  | _ => s.setTio n { u with level := !idle, trailing := some (t + bits cfg 63 32, idle) }

def effTioPulseTrailingEdge (pin : Fin 8) (s : State) : State :=
  let n := pin.val
  match (s.tioU n).trailing with
  | some (t, l) => if t ≤ s.now then s.setTio n { s.tioU n with level := l, trailing := none } else s
  | none => s

/-- An edge that the pin's filter accepts on this tick; its stamp is that of the tick on which it was first seen. -/
def effTioCaptureEdge (pin : Fin 8) (level : Bool) (s : State) : State :=
  let n := pin.val
  if s.isReady && s.tioMode n = 1 then
    let s := s.setTio n { s.tioU n with level := level }
    if bit (s.tioCfg n) (if level then 16 else 17) then s.tioCapture n (s.stampAgo (bits (s.tioCfg n) 71 64)) level else s
  else s

/-! ## Actions (R86, R87, R233) -/

def State.rallySkip (s : State) (k : Nat) : State := s.bump (Obj.TIM_RALLY_SKIP + k) 0xFFFFFFFF

/-- Whether a START_CONTEXT of slice `k` may start context `c`. -/
def State.mayStart (s : State) (k c : Nat) : Bool :=
  let x := s.ctx c
  s.triggers k && x.hdr ≠ 0 && !x.fault && hSlice x.hdr = k && !hChain x.hdr

def State.startContext (s : State) (k c : Nat) (t : Stamp) : State :=
  if !s.mayStart k c then s.rallySkip k
  else if (s.ctx c).startTick = some s.tick then s.bump (Obj.TIM_RALLY_MERGED + k) 0xFFFFFFFF
  else (s.modCtx c fun x => { x with startTick := some s.tick }).trigger c t

/-- AUX_CONVERT: the conversion's trigger stamp is the occurrence stamp (R160). -/
def State.rallyAux (s : State) (k e : Nat) (t : Stamp) : State :=
  let arg := rArg (s.rallyV k e)
  let u := bits arg 9 8
  if s.auxUsable u && (s.auxOwner u = k || s.auxOwner u = 6) then s.auxTrigger u (bits arg 2 0) t false else s.rallySkip k

/-- The action of an occurrence with its stamp. -/
def State.rallyAct (s : State) (k e : Nat) (t : Stamp) : State :=
  let v := s.rallyV k e
  let arg := rArg v
  match rAction v with
  | 0 => s.startContext k arg t
  | 1 => s.rallyAux k e t
  | 2 =>
    if s.encOn arg && !s.fenced (16 + arg) && s.encOwner arg = k then s.encLatch arg t else s.rallySkip k
  | 3 =>
    match s.sdSlot arg with
    | some (j, i) => if j = k && s.sdLive arg && !(s.sdU arg).lost then s.askInterp k i t true else s.rallySkip k
    | none => s.rallySkip k
  | 4 =>
    let n := bits arg 2 0
    if s.tioMode n = 2 && bits (s.tioCfg n) 31 24 = k && !(bits arg 5 4 = 3 && bits (s.tioCfg n) 63 32 = 0)
    then s.tioDrive n (bits arg 5 4) t else s.rallySkip k
  | 5 =>
    let n := bits arg 2 0
    if s.tioMode n = 1 || (s.tioMode n = 2 && bits (s.tioCfg n) 31 24 = k) then s.tioCapture n t (s.tioU n).level else s.rallySkip k
  | 6 => s.postAt (srcSl k) t 0x0A00 k (arg + e * 2 ^ 16)
  | _ => s

/-- What an occurrence does when it fires: its state, slice, entry and stamp. -/
abbrev Act := State → Nat → Nat → Stamp → State

/-- One occurrence of an entry: counted, and fired where DECIM and the modulator's mode allow (R85). The answer says
whether it fired. A slice whose modulator is not running counts as running ASYNC_SVM: the model's choice (log entry 52). -/
def State.occur (act : Act) (s : State) (k e : Nat) (t : Stamp) : State × Bool :=
  let v := s.rallyV k e
  let n := (s.rallyD k e).occ
  let s := s.modRally k e fun r => { r with occ := r.occ + 1 }
  let sync := (s.sl k).modu.syncMode
  let fires := n % (rDecim v + 1) = 0 && (if sync then rSync v else rAsync v)
  if fires then (act s k e t, true) else (s, false)

/-- The due occurrence of a TIME entry. -/
def State.timeDue (s : State) (k e : Nat) : Option Stamp :=
  let t := (s.rallyD k e).next
  if s.rallyOn k e 0 && decide (t ≤ s.now) && decide (t ≠ 0 ∨ 0 < rA (s.rallyV k e)) then some t else none

def State.fireTime (act : Act) (s : State) (k e : Nat) : State :=
  match s.timeDue k e with
  | some t =>
    (State.occur act (s.modRally k e fun r => { r with next := nextTime (rA (s.rallyV k e)) (rB (s.rallyV k e)) (t + 1) }) k e t).1
  | none => s

/-! ## The carrier (R262, R144) -/

/-- Ticks of `h` half periods of a carrier. -/
def State.halfTicks (s : State) (k h period : Nat) : Nat :=
  let counts := h * period / 2
  if s.slo k Obj.SLC_PWM_CLK = 0 then counts else counts * 400000000 / max 1 (s.obj Obj.SD_MCLK_IN_NOM)

/-- Tick of a count of a carrier: counts are ticks, or edges of MCLK_IN (R262). -/
def State.countTick (s : State) (k c : Nat) : Nat :=
  let m := (s.sl k).modu
  if s.slo k Obj.SLC_PWM_CLK = 1 then s.extClk.edge (m.e0 + c) else m.e0 + c

/-- Counts of a carrier up to a tick. -/
def State.tickCount (s : State) (k n : Nat) : Nat :=
  let m := (s.sl k).modu
  (if s.slo k Obj.SLC_PWM_CLK = 1 then s.extClk.by n else n) - m.e0

/-- Count of half period `h`: from half period `h0` at count `c0` on with period `per`, and from the valleys of the plan on with
theirs. -/
def halfCount : List (Nat × Nat) → Nat → Nat → Nat → Nat → Nat
  | [], h0, c0, per, h => c0 + (h - h0) * per / 2
  | (p, v) :: l, h0, c0, per, h =>
    if h ≤ v then c0 + (h - h0) * per / 2 else halfCount l v (c0 + (v - h0) * per / 2) p h

/-- Half period in which a count lies. -/
def countHalf : List (Nat × Nat) → Nat → Nat → Nat → Nat → Nat
  | [], h0, c0, per, c => h0 + 2 * (c - c0) / per
  | (p, v) :: l, h0, c0, per, c =>
    let cv := c0 + (v - h0) * per / 2
    if c < cv then h0 + 2 * (c - c0) / per else countHalf l v cv p c

/-- The written periods that wait, each with the valley from which it counts: the first one the lead time allows (R266). -/
def State.newPeriods (s : State) (k : Nat) : List (Nat × Nat) :=
  let m := (s.sl k).modu
  m.pendPeriod.foldl (fun (l : List (Nat × Nat)) q =>
    let h0 := countHalf l 0 0 m.period (s.tickCount k s.tick) / 2
    match (List.range 64).find? fun i =>
        decide (q.2 ≤ s.stampAt (s.countTick k (halfCount l 0 0 m.period (2 * (h0 - 1 + i))))) with
    | some i => l ++ [(q.1, max (2 * (h0 - 1 + i)) ((l.getLast?.map (·.2)).getD 0))]
    | none => l) []

/-- Tick of a carrier extreme: even numbers are valleys, odd ones peaks, counted from `e0`. -/
def State.extTick (s : State) (k h : Nat) : Nat :=
  s.countTick k (halfCount (s.newPeriods k) 0 0 (s.sl k).modu.period h)

/-- Number of the latest extreme at or before a tick; none before the first. -/
def State.extBefore (s : State) (k n : Nat) : Option Nat :=
  let m := (s.sl k).modu
  if !m.running || n < s.countTick k 0 || m.period = 0 then none
  else some (countHalf (s.newPeriods k) 0 0 m.period (s.tickCount k n))

/-- The carrier period in force at a stamp, in stamp units (R266). -/
def State.periodAt (s : State) (k : Nat) (t : Stamp) : Nat :=
  let now := (s.newPeriods k).filter fun q => decide (s.stampAt (s.extTick k q.2) ≤ t)
  s.countUnits k ((now.getLast?.map (·.1)).getD (s.sl k).modu.period)

/-- Whether extreme `h` samples (SLC_PWM_SAMPLE: 0 peak, 1 valley, 2 both). -/
def State.extSamples (s : State) (k h : Nat) : Bool :=
  let m := s.slo k Obj.SLC_PWM_SAMPLE
  m = 2 || (m = 0 && h % 2 = 1) || (m = 1 && h % 2 = 0)

/-- Whether extreme `h` starts an update interval (R11). -/
def State.extStarts (s : State) (k h : Nat) : Bool :=
  let m := s.slo k Obj.SLC_PWM_SAMPLE
  m = 2 || (m = 0 && h % 2 = 0) || (m = 1 && h % 2 = 1)

/-- The latest occurrence of a PWM_PHASE entry that is due and not yet considered. -/
def State.pwmPhaseDue (s : State) (k e : Nat) : Option Stamp :=
  match s.extBefore k s.tick with
  | none => none
  | some h =>
    let f := rA (s.rallyV k e)
    -- the first half of the fraction lies before the valley, and a period written meanwhile counts from there
    let at_ := fun (p : Nat) =>
      let a := s.extTick k p
      let b := s.extTick k (p + 1)
      let x := if f < 2 ^ 31 then 2 * f * (b - a) else (b - a) * 2 ^ 32 + 2 * (f - 2 ^ 31) * (s.extTick k (p + 2) - b)
      s.stampAt a + x * s.time.inc / 2 ^ 64
    let p := if h % 2 = 1 then h else h - 1
    let ok := fun (p : Nat) => p % 2 = 1 && decide (at_ p ≤ s.now) && decide ((s.rallyD k e).next ≤ at_ p)
    if ok p then some (at_ p) else if 2 ≤ p && ok (p - 2) then some (at_ (p - 2)) else none

/-- The due occurrence of a PWM_PHASE entry: none in SYNC_PATTERN. -/
def State.pwmDue (s : State) (k e : Nat) : Option Stamp :=
  if s.rallyOn k e 2 && !(s.sl k).modu.syncMode then s.pwmPhaseDue k e else none

def State.firePwm (act : Act) (s : State) (k e : Nat) : State :=
  match s.pwmDue k e with
  | some t => (State.occur act (s.modRally k e fun r => { r with next := t + 1 }) k e t).1
  | none => s

/-! ## ANGLE entries (R82, R83) -/

/-- The angle record (Table 4.10b). -/
def State.angRecord (s : State) (k e target : Nat) (t : Stamp) (reached : Ang32) (late : Bool) : State :=
  s.record (0xC9 + k) t (toLE 4 target ++ toLE 4 reached.toNat ++ toLE 4 (reached - BitVec.ofNat 32 target).toNat
    ++ toLE 1 e ++ toLE 1 (b2n late) ++ toLE 2 0)

/-- An ANGLE occurrence: with an encoder as angle source the reached angle is its own on this tick; else the record
waits for the next sample. -/
def State.angleOccur (act : Act) (s : State) (k e : Nat) (t : Stamp) (late : Bool) : State :=
  let v := s.rallyV k e
  let s := if late then s.bump (Obj.TIM_RALLY_LATE + k) 0xFFFFFFFF else s
  let (s, fired) := State.occur act s k e t
  let s := if fired && rSync v && (s.sl k).modu.syncMode then
    s.modSl k fun x => { x with modu := { x.modu with syncSample := some t } } else s
  let n := s.slo k Obj.SLC_ENC
  let own := if s.sensorless k || 8 ≤ n then none else (s.encU n).angle (s.encPar n) (bits (s.ssiCfg n) 57 52)
  match own with
  | some a => s.angRecord k e (rA v) t a.1 late
  | none => s.modSl k fun x => { x with angQ := x.angQ ++ [(e, rA v, t, late)] }

/-- Records that waited for this sample: its angle, extrapolated back with its speed (R83). -/
def State.angFlush (s : State) (k : Nat) (t : Stamp) : State :=
  let x := s.sl k
  let p : Predictor := { x.pred with alpha := 0#32 }
  let due := x.angQ.filter fun q => decide (q.2.2.1 < t)
  due.foldl (fun (s : State) q => s.angRecord k q.1 q.2.1 q.2.2.1 (p.angAt q.2.2.1) q.2.2.2)
    (s.modSl k fun x => { x with angQ := x.angQ.filter fun q => decide (t ≤ q.2.2.1) })

/-- The due occurrence of an ANGLE entry: its committed stamp. -/
def State.angleDue (s : State) (k e : Nat) : Option Stamp :=
  (s.rallyD k e).committed.filter fun t => s.rallyOn k e 1 && decide (t ≤ s.now)

def State.fireAngle (act : Act) (s : State) (k e : Nat) : State :=
  match s.angleDue k e with
  | some t => State.angleOccur act (s.modRally k e fun r => { r with committed := none }) k e t false
  | none => s

/-! ## The order of one tick (R87, R161) -/

/-- The due occurrence of an entry, whatever its trigger. -/
def State.rallyDue (s : State) (k e : Nat) : Option Stamp := ((s.timeDue k e).or (s.pwmDue k e)).or (s.angleDue k e)

def State.rallyFire (act : Act) (s : State) (k e : Nat) : State :=
  if rTrig (s.rallyV k e) = 0 then State.fireTime act s k e
  else if rTrig (s.rallyV k e) = 2 then State.firePwm act s k e
  else State.fireAngle act s k e

/-- The due entries before entry `e` of slice `k`, slice A first and the lower entry first; none unless READY. -/
def State.dueBefore (s : State) (k e : Nat) : List (Nat × Nat) :=
  if s.isReady then
    (List.range (64 * k + e)).filterMap fun i => (s.rallyDue (i / 64) (i % 64)).map fun _ => (i / 64, i % 64)
  else []

/-- Occurrences due on this tick fire in the order of R87: those due before an entry fire before it. -/
def State.fireBefore (s : State) (k e : Nat) : State :=
  (s.dueBefore k e).foldl (fun (s : State) q => State.rallyFire State.rallyAct s q.1 q.2) s

/-- The AUX_CONVERT occurrences due on this tick, which reach their units before its host trigger (R161). -/
def State.fireAux (s : State) : State :=
  ((s.dueBefore 6 0).filter fun q => rAction (s.rallyV q.1 q.2) = 1).foldl
    (fun (s : State) q => State.rallyFire State.rallyAux s q.1 q.2) s

/-- Every occurrence due on this tick fires (R87, R88). -/
def State.fireAll (s : State) : State := s.fireBefore 6 0

def effRallyTimeOccurrence (sl : Fin 6) (entry : Fin 64) (s : State) : State :=
  State.fireTime State.rallyAct (s.fireBefore sl.val entry.val) sl.val entry.val

def effRallyPwmPhaseOccurrence (sl : Fin 6) (entry : Fin 64) (s : State) : State :=
  State.firePwm State.rallyAct (s.fireBefore sl.val entry.val) sl.val entry.val

def effRallyAngleOccurrence (sl : Fin 6) (entry : Fin 64) (s : State) : State :=
  State.fireAngle State.rallyAct (s.fireBefore sl.val entry.val) sl.val entry.val

/-- Whether a target angle lies between two positions, the second included, in a direction. -/
def crossed (p0 p1 target dir : Nat) : Bool :=
  let d := sgn 64 ((p1 + 2 ^ 64 - p0) % 2 ^ 64)
  let up := (target + 2 ^ 32 - p0 % 2 ^ 32) % 2 ^ 32
  let down := (p0 % 2 ^ 32 + 2 ^ 32 - target) % 2 ^ 32
  if d > 0 then dir ≠ 2 && decide (((if up = 0 then 2 ^ 32 else up : Nat) : Int) ≤ d)
  else if d < 0 then dir ≠ 1 && decide (((if down = 0 then 2 ^ 32 else down : Nat) : Int) ≤ -d)
  else false

/-- The predictor as seen from a later stamp, for crossings after it. -/
def Predictor.at (p : Predictor) (t : Stamp) : Predictor := { p with tRef := t, pos := p.posAt t, omega := p.speedAt t }

/-- First crossing of a target after a stamp. -/
def Predictor.crossAfter (p : Predictor) (target : Ang32) (dir : Nat) (t : Stamp) : Option Stamp :=
  if t = p.tRef then p.cross target dir else (p.at t).cross target dir

def minStamp (a b : Option Stamp) : Option Stamp :=
  match a, b with
  | some x, some y => some (min x y)
  | some x, none => some x
  | none, y => y

/-- The first crossing after `t` on which an entry fires: the crossings from `from_` on have the numbers `i`, `i + 1` … (R85). -/
def Predictor.fireAfter (p : Predictor) (target : Ang32) (dir dec : Nat) (t : Stamp) : Nat → Stamp → Nat → Option Stamp
  | 0, _, _ => none
  | n + 1, from_, i => match p.crossAfter target dir from_ with
    | some c => if t < c && i % (dec + 1) = 0 then some c else p.fireAfter target dir dec t n c (i + 1)
    | none => none

/-- The next sample that an ANGLE entry with IN_SYNC gives after a stamp, where it fires by DECIM (R270, R85). -/
def State.nextSync (s : State) (k : Nat) (t : Stamp) : Option Stamp :=
  (List.range 64).foldl (fun (b : Option Stamp) e =>
    let v := s.rallyV k e
    if s.rallyOn k e 1 && rSync v then
      minStamp b ((s.sl k).pred.fireAfter (BitVec.ofNat 32 (rA v)) (rDir v) (rDecim v) t 600
        (if rDecim v = 0 then t else min t s.now) (s.rallyD k e).occ)
    else b) none

/-- One ANGLE entry at a refresh of its slice's predictor at stamp `t`; `p0` is the position at the previous refresh,
`next` the next expected refresh stamp. -/
def State.refreshEntry (s : State) (k e : Nat) (t : Stamp) (p0 : Option Nat) (next : Option Stamp) : State :=
  let v := s.rallyV k e
  let r := s.rallyD k e
  let p := (s.sl k).pred
  let start := if r.writtenAt.isSome then some r.writtenAng else p0
  let missed := match start with
    | some q => !r.did && r.committed.isNone && crossed q p.pos (rA v) (rDir v)
    | none => false
  -- what is due before this entry on the tick fires before it (R87)
  let s := if missed then State.angleOccur State.rallyAct (s.fireBefore k e) k e t true else s
  let sync := (s.sl k).modu.syncMode
  let c := match p.cross (BitVec.ofNat 32 (rA v)) (rDir v), next with
    | some tp, some n => if (if sync then tp ≤ n else tp < n) then some tp else none
    | _, _ => none
  s.modRally k e fun r =>
    if r.committed.isSome then { r with writtenAt := none, did := true } else { r with committed := c, did := c.isSome, writtenAt := none }

/-- All ANGLE entries at a refresh (R82). While ω and α are both zero, or the source is not valid, none fires. -/
def State.rallyRefresh (s : State) (k : Nat) (t : Stamp) (p0 : Option Nat) : State :=
  let p := (s.sl k).pred
  let still := !p.valid || (fEq p.omega 0#32 && fEq p.alpha 0#32)
  let next := if (s.sl k).modu.syncMode then s.nextSync k t else some (t + s.periodAt k t / s.perPeriod k)
  (List.range 64).foldl (fun (s : State) e =>
    if !s.rallyOn k e 1 then s
    else if still then s.modRally k e fun r => { r with did := false, writtenAt := none }
    else s.refreshEntry k e t p0 next) (s.angFlush k t)

/-! ## TIM_RALLY_WRITE -/

/-- TIM_RALLY_WRITE: the occurrences up to its own tick belong to the old entries and fire first (R88). -/
def opRallyWrite (p : Pkt) (s : State) : Res :=
  let b := p.payload
  let k := byteAt b 0
  let first := byteAt b 1
  let n := byteAt b 2
  if b.length < 8 || b.length ≠ 8 + 16 * n then s.fail stBadLength
  else if k > 5 || first > 63 || n = 0 || first + n > 64 || !zeros b 3 5 ||
      !(List.range n).all (fun i => s.rallyOk k (le b (8 + 16 * i) 16)) then s.fail stRange
  else if s.mu.norBad then s.fail stInternal
  else
    let t := (List.range n).foldl (fun t i =>
      (t.setKept p.session.toNat (0x8100 + 0x40 * k + first + i) (le b (8 + 16 * i) 16)).rallyStart k (first + i)) s.fireAll
    t.okWith (toLE 8 s.now)

/-! ## The commands -/

def execTimRallyWrite (dt : Nat) (p : Pkt) (s : State) : Host.Outcome State Fault Refusal :=
  .next (s.run dt (effCmd (p.asRow 0x4010) opRallyWrite))

def execRallyTimeOccurrence (dt : Nat) (sl : Fin 6) (entry : Fin 64) (s : State) : Host.Outcome State Fault Refusal :=
  .next (s.run dt (effRallyTimeOccurrence sl entry))
def execRallyPwmPhaseOccurrence (dt : Nat) (sl : Fin 6) (entry : Fin 64) (s : State) : Host.Outcome State Fault Refusal :=
  .next (s.run dt (effRallyPwmPhaseOccurrence sl entry))
def execRallyAngleOccurrence (dt : Nat) (sl : Fin 6) (entry : Fin 64) (s : State) : Host.Outcome State Fault Refusal :=
  .next (s.run dt (effRallyAngleOccurrence sl entry))
def execTioPulseTrailingEdge (dt : Nat) (pin : Fin 8) (s : State) : Host.Outcome State Fault Refusal :=
  .next (s.run dt (effTioPulseTrailingEdge pin))
def execTioCaptureEdge (dt : Nat) (pin : Fin 8) (level : Bool) (s : State) : Host.Outcome State Fault Refusal :=
  .next (s.run dt (effTioCaptureEdge pin level))

end Sys2Proof.Machine
end

