-- ==== Sys2Proof/Machine/Pwm.lean ====
section
/-!
DEFINITION. The modulator and the edge scheduler (R11, R241, R247, R262 to R274): update intervals, the inverse path,
legs of ASYNC_SVM and of SYNC_PATTERN, dead time and minimum pulse, mode boundaries, EDGE frames.
-/

namespace Sys2Proof.Machine

/-! ## Update intervals (R11, R270) -/

def State.extStamp (s : State) (k h : Nat) : Stamp := s.stampAt (s.extTick k h)

/-- First extreme with a property at or after a stamp; the search covers 64 half periods from now. -/
def State.extFind (s : State) (k : Nat) (t : Stamp) (f : Nat → Bool) : Option Nat :=
  let h0 := (s.extBefore k s.tick).getD 0
  if !(s.sl k).modu.running then none
  else ((List.range 64).find? fun i => f (h0 + i) && decide (t ≤ s.extStamp k (h0 + i))).map (h0 + ·)

/-- The first ASYNC_SVM interval that starts at or after a stamp. -/
def State.asyncStart (s : State) (k : Nat) (t : Stamp) : Option (Stamp × Stamp) :=
  (s.extFind k t (s.extStarts k)).map fun h =>
    (s.extStamp k h, s.extStamp k (if s.slo k Obj.SLC_PWM_SAMPLE = 2 then h + 1 else h + 2))

/-- The first SYNC_PATTERN interval that starts at or after a stamp. -/
def State.syncStart (s : State) (k : Nat) (t : Stamp) : Option (Stamp × Stamp) :=
  match s.nextSync k (t - 1) with
  | some a => (s.nextSync k a).map fun b => (a, b)
  | none => none

/-- The mode that holds at a stamp: a change waits for its boundary (R272). -/
def Modulator.modeAt (m : Modulator) (t : Stamp) : Bool × Nat :=
  match m.nextMode with
  | some (sy, n, tb) => if tb ≤ t then (sy, n) else (m.syncMode, m.syncN)
  | none => (m.syncMode, m.syncN)

def State.nextStart (s : State) (k : Nat) (t : Stamp) : Option (Stamp × Stamp) :=
  if ((s.sl k).modu.modeAt t).1 then s.syncStart k t else s.asyncStart k t

/-! ## Voltages (R241, R247) -/

/-- Sign of the injected square wave at a tick: +1 in even carrier periods from its start, −1 in odd ones, none outside
the injection. -/
def State.injSign (s : State) (k n : Nat) : Option Bool :=
  let b := (s.sl k).blend
  let per := s.extTick k 2 - s.extTick k 0
  match b.injFrom with
  | some f => if f ≤ n && (match b.injTo with | some t => decide (n < t) | none => true) then some ((n - f) / max 1 per % 2 = 0) else none
  | none => none

/-- Amplitude of the injection. -/
def State.injAmpl (s : State) (k : Nat) : F32 := fMul (s.sloF k Obj.SLC_HF_AMPL) (s.sloF k Obj.SLC_V_RATED)

/-- Tables of a pulse number that are enabled (Table 11.2). -/
def State.patTables (s : State) (k n : Nat) : List Nat :=
  (List.range 16).filter fun j => let v := s.slo k (Obj.SLC_PAT_HDR + j); bit v 127 && bits v 123 120 = n

def State.patM (s : State) (k j : Nat) : F32 := BitVec.ofNat 32 (bits (s.slo k (Obj.SLC_PAT_HDR + j)) 95 64)
def State.patAng (s : State) (k j i : Nat) : Nat := s.slo k (Obj.SLC_PAT_ANG + 0x20 * j + i)

/-- Largest M of a pulse number. -/
def State.patMax (s : State) (k n : Nat) : F32 := (s.patTables k n).foldl (fun m j => fMax m (s.patM k j)) 0#32

/-- V_LIM of an interval (R241, R268). -/
def State.vLimOf (s : State) (k : Nat) (sync : Bool) (n : Nat) (inj : Bool) : F32 :=
  let v := (s.sl k).sig.vDc
  if sync then fMul (fMul (s.patMax k n) f32TwoOverPi) v
  else
    let l := fDiv (fMul (s.sloF k Obj.SLC_VLIM_FRAC) v) f32Sqrt3
    if inj then fSub l (s.injAmpl k) else l

/-- Feed-forward and limit of one set's voltage (R241 steps 1 and 2). -/
def State.limitV (s : State) (k : Nat) (cmd : F32 × F32) (i : F32 × F32) (lim : F32) : F32 × F32 :=
  let w := fMul f32TwoPi (s.sl k).sig.omegaE
  let ff := s.slo k Obj.SLC_DECOUPLE = 1
  let vd := if ff then fAdd cmd.1 (fMul (fMul (fNeg w) (s.sloF k Obj.SLC_LQ)) i.2) else cmd.1
  let vq := if ff then fAdd cmd.2 (fMul w (fAdd (fMul (s.sloF k Obj.SLC_LD) i.1) (s.sloF k Obj.SLC_PSI))) else cmd.2
  let m := fMag (vd, vq)
  if fGt m lim then (fMul vd (fDiv lim m), fMul vq (fDiv lim m)) else (vd, vq)

/-- The three phase values of a stationary-frame pair. -/
def phases3 (p : F32 × F32) : List F32 :=
  let h := fDiv (fMul p.2 f32Sqrt3) f32Two
  let a := fDiv (fNeg p.1) f32Two
  [p.1, fAdd a h, fSub a h]

/-- Times, in half units of nothing but T: `x` times a whole number, rounded down. -/
def fFloorMul (x : F32) (n : Nat) : Nat := ((fDy x).mul (Dy.ofInt n)).floor.toNat

/-! ## Legs -/

/-- Insert an edge in stamp order. -/
def insertEdge (e : Edge) : List Edge → List Edge
  | [] => [e]
  | a :: l => if e.stamp < a.stamp then e :: a :: l else a :: insertEdge e l

/-- What a leg is told: high side on, low side on, both off. -/
inductive LegCmd where
  | high | low | off
  deriving DecidableEq, Repr

/-- Bring a leg into a state from a stamp (R264, R265): the switch that turns off does so at the instant, but not before
its own turn-on plus the minimum pulse; the one that turns on follows by the dead time. -/
def Gl.drive (g : Gl) (dt mp : Nat) (t : Stamp) (c : LegCmd) : Gl :=
  let offHi := g.hi && c ≠ .high
  let offLo := g.lo && c ≠ .low
  let th := max t (g.lastHi + mp)
  let tl := max t (g.lastLo + mp)
  let q := if offHi then insertEdge { stamp := th, high := true, on := false } g.queue else g.queue
  let q := if offLo then insertEdge { stamp := tl, high := false, on := false } q else q
  let base := max t (max (if offHi then th else 0) (if offLo then tl else 0))
  let onHi := c = .high && !g.hi
  let onLo := c = .low && !g.lo
  let q := if onHi then insertEdge { stamp := base + dt, high := true, on := true } q else q
  let q := if onLo then insertEdge { stamp := base + dt, high := false, on := true } q else q
  { g with
    queue := q, hi := c = .high, lo := c = .low
    lastHi := if onHi then base + dt else g.lastHi
    lastLo := if onLo then base + dt else g.lastLo }

def State.driveLeg (s : State) (k l : Nat) (cmds : List (Stamp × LegCmd)) : State :=
  let dt := s.slo k Obj.SLC_DEADTIME
  let mp := s.slo k Obj.SLC_MIN_PULSE
  s.modGl l fun g => cmds.foldl (fun (g : Gl) c => g.drive dt mp c.1 c.2) g

/-- Every phase link of a slice into one state from a stamp. -/
def State.driveAll (s : State) (k : Nat) (t : Stamp) (c : LegCmd) : State :=
  ((s.linksOf k).filter fun l => s.linkRole l < 6).foldl (fun (s : State) l => s.driveLeg k l [(t, c)]) s

/-- The side of an active short circuit. -/
def State.ascLeg (s : State) (k : Nat) : LegCmd := if s.slo k Obj.SLC_ASC_SIDE = 0 then .low else .high

/-- Commands inside a window: those before it collapse to the state they leave, taken at its start. -/
def windowed (a b : Stamp) (l : List (Stamp × LegCmd)) : List (Stamp × LegCmd) :=
  let before := (l.filter fun c => c.1 < a).getLast?
  (match before with | some c => [(a, c.2)] | none => []) ++ l.filter fun c => decide (a ≤ c.1 ∧ c.1 < b)

/-! ## ASYNC_SVM (R263 to R265) -/

/-- The duty of a leg after dead-time compensation and the pulse limits (R263 to R265). -/
def State.duty (s : State) (k : Nat) (d i free : F32) (per : Nat) : F32 :=
  let dt := s.slo k Obj.SLC_DEADTIME
  let ib := s.sloF k Obj.SLC_DTC_IBAND
  let kx := if fEq ib 0#32 then fSgn i else fClamp (fDiv i ib) 0xBF800000#32 f32One
  let t := f32OfInt per
  let d := if s.slo k Obj.SLC_DTC_EN = 1 then fAdd d (fDiv (fMul kx (f32OfInt dt)) t) else d
  let d := if fFin d then d else free
  let least := f32OfInt (s.slo k Obj.SLC_MIN_PULSE + dt)
  if fLt (fMul d t) least then 0#32
  else if fLt (fMul (fSub f32One d) t) least then f32One
  else fClamp d 0#32 f32One

/-- States of a leg over the half period from extreme `h`: high while the carrier is below the duty. -/
def State.halfLeg (s : State) (k h : Nat) (d : F32) : List (Stamp × LegCmd) :=
  let a := s.extStamp k h
  let n := s.extStamp k (h + 1) - a
  let full := fLe f32One d
  let none_ := fLe d 0#32
  if full then [(a, .high)]
  else if none_ then [(a, .low)]
  else if h % 2 = 0 then [(a, .high), (a + fFloorMul d n, .low)]
  else [(a, .low), (a + fFloorMul (fSub f32One d) n, .high)]

/-- Commands of an asynchronous leg in a window. -/
def State.asyncLeg (s : State) (k : Nat) (d : F32) (a b : Stamp) : List (Stamp × LegCmd) :=
  let h0 := (s.extBefore k s.tick).getD 0
  let hs := (List.range 70).filterMap fun i =>
    let h := h0 + i
    if decide (a < s.extStamp k (h + 1)) && decide (s.extStamp k h < b) then some h else none
  windowed a b (hs.flatMap fun h => s.halfLeg k h d)

/-! ## SYNC_PATTERN (R268, R269) -/

/-- The two tables whose M bracket `m`, or the nearest. -/
def State.bracket (s : State) (k n : Nat) (m : F32) : Option (Nat × Nat) :=
  let js := s.patTables k n
  let best := fun (f : Nat → Bool) (up : Bool) => (js.filter f).foldl (fun (b : Option Nat) j => match b with
    | some i => if (if up then fGt (s.patM k j) (s.patM k i) else fLt (s.patM k j) (s.patM k i)) then some j else some i
    | none => some j) none
  match best (fun j => fLe (s.patM k j) m) true, best (fun j => fGe (s.patM k j) m) false with
  | some a, some b => some (a, b)
  | some a, none => some (a, a)
  | none, some b => some (b, b)
  | none, none => none

/-- The toggle angles of the active pulse number at modulation index `m`. -/
def State.toggles (s : State) (k n : Nat) (m : F32) : List Nat :=
  match s.bracket k n m with
  | none => []
  | some (a, b) =>
    let ma := s.patM k a
    let mb := s.patM k b
    let f := if fEq ma mb then 0#32 else fDiv (fSub m ma) (fSub mb ma)
    (List.range (2 * n)).map fun i =>
      let x := s.patAng k a i
      let y := s.patAng k b i
      ((x : Int) + ((fDy f).mul (Dy.ofInt ((y : Int) - x))).rne).toNat % 2 ^ 32

/-- Crossings of one angle in a window, at most four. -/
def Predictor.crossings (p : Predictor) (target : Ang32) (b : Stamp) : Nat → Stamp → List Stamp
  | 0, _ => []
  | n + 1, t => match p.crossAfter target 0 t with
    | some c => if c < b then c :: p.crossings target b n c else []
    | none => []

def insertCmd (e : Stamp × LegCmd) : List (Stamp × LegCmd) → List (Stamp × LegCmd)
  | [] => [e]
  | a :: l => if e.1 < a.1 then e :: a :: l else a :: insertCmd e l

/-- Consecutive toggles closer than the limit are both dropped (R269). -/
def dropClose (lim : Nat) : List (Stamp × LegCmd) → List (Stamp × LegCmd)
  | a :: b :: l => if b.1 < a.1 + lim then dropClose lim l else a :: dropClose lim (b :: l)
  | l => l

/-- Commands of a leg of the pattern in a window; `shift` is the leg's angle behind ψ, `base` is φ + 90°, `cur` the side that is on
before the window. At a mode boundary the toggle to the new pattern's state falls under the dropping rule too (R272). -/
def State.syncLeg (s : State) (k : Nat) (angs : List Nat) (base shift : Ang32) (i : F32) (cur : Option Bool) (atBoundary : Bool)
    (a b : Stamp) : List (Stamp × LegCmd) :=
  let p := (s.sl k).pred
  let up := !fNegative (p.speedAt a)
  let dt := s.slo k Obj.SLC_DEADTIME
  let comp := s.slo k Obj.SLC_DTC_EN = 1
  let l := (List.range angs.length).foldl (fun (l : List (Stamp × LegCmd)) j =>
    let rising := (j % 2 = 0) = up
    let early := comp && (if rising then fPositive i else fNegative i)
    (p.crossings (BitVec.ofNat 32 (angs.getD j 0) - base + shift) b 4 (a - 1)).foldl (fun l t =>
      insertCmd (if early then t - dt else t, if rising then .high else .low) l) l) []
  let psi := (p.angAt a + base - shift).toNat
  let level := (angs.filter fun x => if up then decide (x ≤ psi) else decide (x < psi)).length % 2 = 1
  let lim := s.slo k Obj.SLC_MIN_PULSE + dt
  let at_ : Stamp × LegCmd := (a, if level then LegCmd.high else LegCmd.low)
  -- the toggle at the boundary is one of the leg's toggles; a leg that is off takes its state there in any case
  if !atBoundary then dropClose lim l
  else match cur with
    | some up => if up = level then dropClose lim l else dropClose lim (at_ :: l)
    | none => at_ :: dropClose lim l

/-! ## One interval -/

/-- Ticks, or edges of MCLK_IN where the carrier counts those, between the stamps on which every locked slot ends a window. -/
def State.lockStep (s : State) (k : Nat) : Nat :=
  ((List.range 16).filter fun j => slotLocked (s.slot k j)).foldl (fun n j =>
    Nat.lcm n (slotOsr (s.slot k j) * (if s.slo k Obj.SLC_PWM_CLK = 1 then 1 else (s.clkOf (slotCh (s.slot k j) / 8)).num))) 1

/-- The first multiple of `step` past `org` at or after `n`. -/
def nextOn (org step n : Nat) : Nat := org + ((n - org + step - 1) / step) * step

/-- First count (a tick, or an edge of MCLK_IN) at or after a stamp on which every locked slot ends a window (R144). -/
def State.windowCount (s : State) (k : Nat) (t : Stamp) : Nat :=
  let m := (s.sl k).modu
  let step := s.lockStep k
  let n := s.tick + (t - s.now) * 2 ^ 32 / max 1 s.time.inc
  let n := if s.stampAt n < t then n + 1 else n
  nextOn m.grid step (if s.slo k Obj.SLC_PWM_CLK = 1 then s.extClk.from n else n)

/-- The tick of that count. -/
def State.windowTick (s : State) (k : Nat) (t : Stamp) : Nat :=
  if s.slo k Obj.SLC_PWM_CLK = 1 then s.extClk.edge (s.windowCount k t) else s.windowCount k t

/-- On a change to ASYNC_SVM the carrier's first sampling extreme falls on the grid; `e0` is a valley two periods before
its first one. -/
def State.placeCarrier (s : State) (k : Nat) (t : Stamp) : State :=
  let e := s.windowCount k t
  let per := (s.sl k).modu.period
  let v := if s.slo k Obj.SLC_PWM_SAMPLE = 0 then e - per / 2 else e
  s.modSl k fun x => { x with modu := { x.modu with e0 := v - 2 * per } }

/-- Links of a set of the slice, with their places U, V, W. -/
def State.setLinks (s : State) (k base : Nat) : List (Nat × Nat) :=
  (List.range 3).filterMap fun i => (s.linkIn k (base + i)).map fun l => (l, i)

/-- The pattern of the latest computed interval. -/
def Modulator.latest (m : Modulator) : Pattern := (m.plans.getLast?.map Plan.pat).getD m.active

/-- The pattern that an interval starting at a stamp carries (R235). -/
def Modulator.patternAt (m : Modulator) (t : Stamp) : Pattern :=
  match m.pend with
  | some p => if m.pendAt ≤ t then p else m.latest
  | none => m.latest

/-- Stamps of the polarity test that starts at `b`: ends of its four phases (R251). The pulses act in whole update intervals, so a
gap ends with the interval in which it runs out. -/
def State.polEnds (s : State) (k : Nat) (b : Stamp) : Stamp × Stamp × Stamp × Stamp :=
  let p := s.slo k Obj.SLC_POL_PERIODS * s.periodAt k b
  let int := max 1 (s.periodAt k b / (if s.slo k Obj.SLC_PWM_SAMPLE = 2 then 2 else 1))
  let g := (s.slo k Obj.SLC_POL_GAP * usUnits + int - 1) / int * int
  (b + p, b + p + g, b + p + g + p, b + p + g + p + s.slo k Obj.SLC_POL_GAP * usUnits)

/-- Whether the polarity test covers an interval that starts at a stamp. -/
def State.polRuns (s : State) (k : Nat) (a : Stamp) : Bool :=
  match (s.sl k).catchRun with
  | some c => decide (c.polPhase ≠ 0 ∧ c.polFrom ≤ a)
  | none => false

/-- The d-axis voltage of an interval that starts at a stamp: the polarity test's; none while its gap holds pulse block
(R251). -/
def State.polV (s : State) (k : Nat) (a : Stamp) : Option F32 :=
  match (s.sl k).catchRun with
  | some c =>
    let (b1, b2, b3, _) := s.polEnds k c.polFrom
    if !s.polRuns k a then some 0#32
    else if a < b1 then some (s.sloF k Obj.SLC_POL_V)
    else if a < b2 then none
    else if a < b3 then some (fNeg (s.sloF k Obj.SLC_POL_V))
    else none
  | none => some 0#32

/-- The vector of one set over the windows of an interval. -/
structure SetCalc where
  base : Nat               -- role of its U link
  shift : Ang32
  v : F32 × F32            -- after limiting
  ref : F32 × F32          -- the first set's, from which SYNC_PATTERN takes φ and m (R268)
  inj : F32                -- injection on the d axis

/-- Drive the legs of one set from `a` to `b`; `sync` is the mode and pulse number of the window. -/
def State.driveSet (s : State) (k : Nat) (c : SetCalc) (mid : Ang32) (sync : Bool × Nat) (atB : Bool) (free : F32) (a b : Stamp) : State :=
  let th := mid - c.shift
  let ab := invPark (fAdd c.v.1 c.inj, c.v.2) th
  let is := phases3 (invPark ((s.sl k).sig.idRef, (s.sl k).sig.iqRef) th)
  let vdc := (s.sl k).sig.vDc
  if sync.1 then
    let m := fDiv (fMag c.ref) (fMul f32TwoOverPi vdc)
    let angs := s.toggles k sync.2 (if fFin m then m else free)
    let base := Config.argF c.ref.1 c.ref.2 + 0x40000000#32
    (s.setLinks k c.base).foldl (fun (s : State) l =>
      let g := s.glU l.1
      let cur := if g.hi then some true else if g.lo then some false else none
      s.driveLeg k l.1 (s.syncLeg k angs base (c.shift + BitVec.ofNat 32 (l.2 * 0x55555555)) (nth is l.2) cur atB a b)) s
  else
    let vs := phases3 ab
    let mx := fMax (fMax (nth vs 0) (nth vs 1)) (nth vs 2)
    let mn := fMin (fMin (nth vs 0) (nth vs 1)) (nth vs 2)
    let v0 := fNeg (fDiv (fAdd mx mn) f32Two)
    (s.setLinks k c.base).foldl (fun (s : State) l =>
      let d := s.duty k (fAdd f32Half (fDiv (fAdd (nth vs l.2) v0) vdc)) (nth is l.2) free (s.periodAt k a)
      s.driveLeg k l.1 (s.asyncLeg k d a b)) s

/-- Both sets of a slice over a window in one mode. -/
def State.driveSets (s : State) (k : Nat) (cs : List SetCalc) (mid : Ang32) (sync : Bool × Nat) (atB : Bool) (free : F32) (a b : Stamp) : State :=
  if b ≤ a then s else cs.foldl (fun (s : State) c => s.driveSet k c mid sync atB free a b) s

/-- Take up the target mode: the boundary is the first stamp with ψ = 0 from the interval's start (R272). -/
def State.setBoundary (s : State) (k : Nat) (v : F32 × F32) (a : Stamp) : State :=
  let m := (s.sl k).modu
  match m.target, m.nextMode with
  | some (sy, n), none =>
    if (sy, n) = (m.syncMode, m.syncN) then s
    else
      let phi := Config.argF v.1 v.2 + 0x40000000#32
      match (s.sl k).pred.crossAfter (0#32 - phi) 0 (a - 1) with
      | some tb =>
        let s := s.modSl k fun x => { x with modu := { x.modu with nextMode := some (sy, n, tb) } }
        if sy then s else s.placeCarrier k tb
      | none => s
  | _, _ => s

/-- Where an interval ends once a mode change lies inside it. -/
def State.endOf (s : State) (k : Nat) (a b : Stamp) : Stamp :=
  match (s.sl k).modu.nextMode with
  | some (true, _, tb) => if a ≤ tb && tb < b then (s.nextSync k tb).getD b else b
  | some (false, _, tb) =>
    if a ≤ tb && tb < b then
      let e := s.stampAt (s.windowTick k tb)
      ((s.extFind k e (s.extStarts k)).map (s.extStamp k)).getD b
    else b
  | none => b

/-- The vectors of an interval from `a` to `b`: both windows where a mode change lies inside. -/
def State.driveVectors (s : State) (k : Nat) (cs : List SetCalc) (mid : Ang32) (free : F32) (a b : Stamp) : State :=
  let m := (s.sl k).modu
  match m.nextMode with
  | some (sy, n, tb) =>
    if a < tb && tb < b then
      (s.driveSets k cs mid (m.syncMode, m.syncN) false free a tb).driveSets k cs mid (sy, n) true free tb b
    else if tb ≤ a then s.driveSets k cs mid (sy, n) (tb = a) free a b
    else s.driveSets k cs mid (m.syncMode, m.syncN) false free a b
  | none => s.driveSets k cs mid (m.syncMode, m.syncN) false free a b

/-- The discharge link follows the pattern (R259). -/
def State.driveDischarge (s : State) (k : Nat) (pat : Pattern) (t : Stamp) : State :=
  (s.linksOf k).foldl (fun (s : State) l =>
    if s.linkRole l = 6 then s.driveLeg k l [(t, if pat = .discharge then LegCmd.high else LegCmd.off)] else s) s

/-- Keep the plan of an interval. -/
def State.addPlan (s : State) (k : Nat) (p : Plan) : State :=
  s.modSl k fun x => { x with modu := { x.modu with
    plans := x.modu.plans ++ [p], doneTo := p.stop, vd := p.vd, vq := p.vq, vLim := p.vLim } }

/-- Compute an interval that carries voltages. -/
def State.computeVectors (s : State) (k : Nat) (pat : Pattern) (a b : Stamp) : State :=
  let x := s.sl k
  let md := x.modu.modeAt a
  let n := s.tick + (a - s.now) * 2 ^ 32 / max 1 s.time.inc
  let sg := if md.1 || s.polRuns k a then none else s.injSign k (n + 1)
  let lim := s.vLimOf k md.1 md.2 sg.isSome
  let inj := match sg with
    | some true => s.injAmpl k
    | some false => fNeg (s.injAmpl k)
    | none => 0#32
  let pol := (s.polV k a).getD 0#32
  let v1 := if pat = .vectors then s.limitV k (x.sig.vdCmd, x.sig.vqCmd) (x.sig.iD, x.sig.iQ) lim else (pol, 0#32)
  let v2 := if pat = .vectors then s.limitV k (x.sig.vd2Cmd, x.sig.vq2Cmd) (x.sig.iD2, x.sig.iQ2) lim else (pol, 0#32)
  let c1 : SetCalc := { base := 0, shift := 0#32, v := v1, ref := v1, inj := inj }
  let c2 : SetCalc := { base := 3, shift := BitVec.ofNat 32 (s.slo k Obj.SLC_SET2_SHIFT), v := v2, ref := v1, inj := inj }
  let cs := if s.slo k Obj.SLC_TOPOLOGY = 1 then [c1, c2] else [c1]
  let (free, s) := s.drawF32
  let s := s.setBoundary k v1 a
  let b := s.endOf k a b
  let mid := x.pred.angAt ((a + b) / 2)
  let s := s.driveVectors k cs mid free a b
  let mi := fDiv (fMag v1) (fMul f32TwoOverPi x.sig.vDc)
  let s := s.setObjF (slc k Obj.SLC_PWM_M) (if fFin mi then mi else free)
  let ab := invPark v1 mid
  s.addPlan k { start := a, stop := b, pat := pat, vd := v1.1, vq := v1.2, vLim := lim, vAlpha := ab.1, vBeta := ab.2 }

/-- A leg without the edges that were to come from `t` on: what they had switched stands as before them. -/
def Gl.cutFrom (g : Gl) (t : Stamp) : Gl :=
  let gone := g.queue.filter fun e => decide (t ≤ e.stamp)
  let kept := g.queue.filter fun e => decide (e.stamp < t)
  let side := fun (hi cur : Bool) => match gone.find? fun e => e.high = hi with | some e => !e.on | none => cur
  let lastOn := fun (hi : Bool) (cur : Stamp) =>
    if gone.any fun e => e.high = hi && e.on then
      ((g.sent ++ kept).filter fun e => e.high = hi && e.on).foldl (fun m e => max m e.stamp) 0
    else cur
  { g with queue := kept, hi := side true g.hi, lo := side false g.lo, lastHi := lastOn true g.lastHi, lastLo := lastOn false g.lastLo }

/-- The edges of every leg of a slice from a stamp on, and the plans from there on, are taken back (R235). -/
def State.cutFrom (s : State) (k : Nat) (a : Stamp) : State :=
  let s := (s.linksOf k).foldl (fun (s : State) l => s.modGl l fun g => g.cutFrom a) s
  s.modSl k fun x => { x with modu := { x.modu with plans := x.modu.plans.filter fun p => decide (p.start < a) } }

/-- A change of switching state that was decided after its interval was computed: it acts there all the same while no edge from
there on has been sent (R235). -/
def State.lateChange (s : State) (k : Nat) (a : Stamp) : Bool :=
  let m := (s.sl k).modu
  (match m.pend with
    | some p => decide (m.pendAt ≤ a) && m.plans.any fun q => q.start = a && q.pat ≠ p
    | none => false)
  && (s.linksOf k).all fun l => (s.glU l).sent.all fun e => decide (e.stamp < a)

/-- Compute one interval under the pattern it carries (Table 10.1). Catch pulses still to come end with the zero vector. -/
def State.compute (s : State) (k : Nat) (a b : Stamp) : State :=
  let pat := (s.sl k).modu.patternAt a
  let s := if (s.sl k).modu.latest = .zeroVector && pat ≠ .zeroVector then s.cutFrom k a else s
  let s := s.driveDischarge k pat a
  let md := (s.sl k).modu.modeAt a
  let lim := s.vLimOf k md.1 md.2 false
  let idle : Plan := { start := a, stop := b, pat := pat, vd := 0#32, vq := 0#32, vLim := lim, vAlpha := 0#32, vBeta := 0#32 }
  match pat with
  | .vectors => s.computeVectors k pat a b
  | .zeroVolt => if (s.polV k a).isSome then s.computeVectors k pat a b else (s.driveAll k a .off).addPlan k idle
  | .shortCircuit => (s.driveAll k a (s.ascLeg k)).addPlan k idle
  | .zeroVector => s.addPlan k idle
  | .block | .discharge | .off => (s.driveAll k a .off).addPlan k idle

/-- MODULATOR_COMPUTE_DONE: the modulator finishes the edges of the first interval that the lead time leaves open. -/
def effModulatorComputeDone (sl : Fin 6) (s : State) : State :=
  let k := sl.val
  if s.isReady && s.enabled k then
    match s.nextStart k (s.now + s.lead k) with
    | some (a, b) =>
      if (s.sl k).modu.doneTo ≤ a then s.compute k a b
      else if s.lateChange k a then (s.cutFrom k a).compute k a b else s
    | none => s
  else s

/-! ## Starts of intervals (R235, R240, R247) -/

def Slice.applyPlan (x : Slice) (p : Plan) : Slice :=
  { x with
    modu := { x.modu with active := p.pat, pend := if x.modu.pend = some p.pat then none else x.modu.pend }
    sig := { x.sig with
      vdApp := p.vd, vqApp := p.vq, vMargin := fSub p.vLim (fMag (p.vd, p.vq)), vAlpha := p.vAlpha, vBeta := p.vBeta } }

/-- The injection starts or stops at its carrier period. -/
def Blend.injAt (b : Blend) (tick : Nat) : Blend :=
  let b := match b.injFrom with | some f => if f ≤ tick then { b with injecting := true } else b | none => b
  match b.injTo with | some t => if t ≤ tick then { b with injecting := false, injFrom := none, injTo := none } else b | none => b

/-- UPDATE_INTERVAL_START: the interval that has started takes effect. -/
def effUpdateIntervalStart (sl : Fin 6) (s : State) : State :=
  let k := sl.val
  if s.isReady && s.enabled k then
    let s := (s.joinAt k).modSl k fun x => { x with blend := x.blend.injAt s.tick }
    let m := (s.sl k).modu
    match (m.plans.filter fun p => p.start ≤ s.now).getLast? with
    | some p => (s.modSl k fun x =>
      ({ x with modu := { x.modu with plans := x.modu.plans.filter fun q => decide (s.now < q.start) } }).applyPlan p).holdSignals k
    | none =>
      match m.pend, s.extBefore k s.tick with
      | some p, some h =>
        if !m.syncMode && s.extStarts k h && decide (m.pendAt ≤ s.extStamp k h) then
          s.modSl k fun x => { x with modu := { x.modu with active := p, pend := none } }
        else s
      | _, _ => s
  else s

/-- The injection's carrier periods go on with a new length from a valley at tick `e` (R247, R266). -/
def Blend.repace (b : Blend) (e old new : Nat) : Blend :=
  let o := max 1 old
  { b with
    injFrom := b.injFrom.map fun f => if e ≤ f then e + (f - e) * new / o else e - (e - f) % o * new / o - (e - f) / o % 2 * new
    injTo := b.injTo.map fun t => e + (t - e) * new / o }

/-- A new carrier period takes effect at the first valley the lead time allows (R266). -/
def effPwmPeriodApply (sl : Fin 6) (s : State) : State :=
  let k := sl.val
  match (s.sl k).modu.pendPeriod with
  | (p, t) :: more =>
    match s.extBefore k s.tick with
    | some h =>
      let v := h - h % 2
      if t ≤ s.extStamp k v then
        let c := halfCount (s.newPeriods k) 0 0 (s.sl k).modu.period v
        let old := s.halfTicks k 2 (s.sl k).modu.period
        s.modSl k fun x => { x with
          modu := { x.modu with e0 := x.modu.e0 + c, period := p, pendPeriod := more }
          blend := x.blend.repace (s.countTick k c) old (s.halfTicks k 2 p) }
      else s
    | none => s
  | [] => s

/-- The boundary of a mode change: SLC_PWM_ACTIVE, IN_SYNC and IN_ASYNC switch (R272, R85). After a change to ASYNC_SVM the
first sample is the first sampling extreme on the grid. -/
def effModulationModeBoundary (sl : Fin 6) (s : State) : State :=
  let k := sl.val
  match (s.sl k).modu.nextMode with
  | some (sy, n, tb) =>
    if tb ≤ s.now then
      let e := s.stampAt (s.windowTick k tb)
      s.modSl k fun x => { x with
        lastSample := if sy then x.lastSample else max x.lastSample (e - 1)
        modu := { x.modu with syncMode := sy, syncN := if sy then n else 0, nextMode := none, target := none } }
    else s
  | none => s

/-! ## EDGE frames (R273 to R277) -/

/-- A resynchronising device sends no EDGE frames, until the first update interval at least the lead time after it is live
(R339). -/
def State.edgeMuted (s : State) (k : Nat) (t : Stamp) : Bool :=
  s.inFlask && ((s.flk.step = .resync && decide (s.flk.resyncStep ≠ 8)) || (match s.flk.edgesFrom with | some f => decide (t < f + s.lead k) | none => false))

/-- A SYNC is due on a link and has not left: nothing but SAFE goes before it (R276). -/
def State.syncDue (s : State) (l : Nat) : Bool := decide ((s.glU l).lastSync / 8000 < s.now / 8000)

/-- When the second copy of an EDGE frame that starts now starts: right after the first, or after the SYNC that comes first
(R273, R276). -/
def copyAt (t : Stamp) : Stamp := if t % 8000 ≤ 4000 then t + 2000 else (t / 8000 + 1) * 8000 + 2000

/-- An edge waits on a link that may leave now: MODE frames let it go first (R276). -/
def State.edgeWaits (s : State) (l : Nat) : Bool :=
  let g := s.glU l
  let k := s.linkSlice l
  decide (k < 6) && s.enabled k && decide ((g.sent.filter fun d => decide (s.now < d.stamp)).length < 32) &&
    match g.queue with
    | e :: _ => !s.edgeMuted k e.stamp
    | [] => false

/-- The first edge that waits on a link. It holds while 32 are outstanding, within 500 ns before a SYNC, and behind a SYNC that
is due (R276). Both copies must leave by the latest send stamp (R273). -/
def effEdgeSend (l : Fin 24) (s : State) : State :=
  let l := l.val
  let k := s.linkSlice l
  match (s.glU l).queue with
  | [] => s
  | e :: rest =>
    let g := s.glU l
    if !s.isReady || 6 ≤ k || !s.enabled k then s
    else if s.edgeMuted k e.stamp then s.setGl l { g with queue := rest, nextSeq := (g.nextSeq + 1) % 65536 }
    else
      let out := g.sent.filter fun d => decide (s.now < d.stamp)
      let fits := decide (copyAt s.now + s.lead k ≤ e.stamp)
      if (decide (32 ≤ out.length) || decide (6000 < s.now % 8000) || s.syncDue l) && fits then s
      else if !fits then
        let s := s.setGl l { g with queue := rest, sent := out }
        (s.putFlag (Obj.GL_STAT + l) 9 true).linkFault l 5
      else
        let d := { e with seq := g.nextSeq }
        let s := s.setGl l { g with
          queue := rest, sent := out ++ [d], await := g.await ++ [d], nextSeq := (g.nextSeq + 1) % 65536, lastSent := g.nextSeq }
        let body := d.stamp % 2 ^ 32 * 2 ^ 32 + d.seq * 2 ^ 16 + b2n d.high * 2 ^ 15 + b2n d.on * 2 ^ 14
        let s := (s.glSend l 0x3C body).glSendAt l (copyAt s.now) 0x3C body
        s.record (0xD0 + l) d.stamp (toLE 8 s.now ++ toLE 2 d.seq ++ toLE 1 (b2n d.on + 2 * b2n d.high) ++ toLE 1 k ++ toLE 4 0)

/-! ## The commands -/

def execUpdateIntervalStart (dt : Nat) (sl : Fin 6) (s : State) : Host.Outcome State Fault Refusal :=
  .next (s.run dt (effUpdateIntervalStart sl))
def execModulatorComputeDone (dt : Nat) (sl : Fin 6) (s : State) : Host.Outcome State Fault Refusal :=
  .next (s.run dt (effModulatorComputeDone sl))
def execModulationModeBoundary (dt : Nat) (sl : Fin 6) (s : State) : Host.Outcome State Fault Refusal :=
  .next (s.run dt (effModulationModeBoundary sl))
def execPwmPeriodApply (dt : Nat) (sl : Fin 6) (s : State) : Host.Outcome State Fault Refusal :=
  .next (s.run dt (effPwmPeriodApply sl))
def execEdgeSend (dt : Nat) (l : Fin 24) (s : State) : Host.Outcome State Fault Refusal := .next (s.run dt (effEdgeSend l))

end Sys2Proof.Machine
end

