-- ==== Sys2Proof/Machine/SafetyFns.lean ====
section
/-!
DEFINITION. The Referee (R294 to R310), STO and SS1, release of forced states, the safety opcodes (R311 to R314), and
lockstep, memory errors and the debug port (R14, R315 to R320).
-/

namespace Sys2Proof.Machine

/-! ## The Referee's inputs (R294 to R296) -/

/-- The healthy monitor channel of a slice for a role and phase. -/
def State.monIn (s : State) (k role phase : Nat) : Option Nat :=
  (List.range 64).find? fun n =>
    let c := s.monCfg n
    bit c 127 && bits c 120 118 = k && bits c 126 124 = role && bits c 123 121 = phase && !(s.sdU n).lost && !s.fenced (64 + n)

def State.monVal (s : State) (k role phase : Nat) : Option F32 :=
  ((s.monIn k role phase).bind fun n => (s.sdU n).last).map SdRes.value

/-- Monitor currents, stationary frame; the unmeasured phase is the negative sum of the other two. -/
def State.monAb (s : State) (k : Nat) : Option (F32 × F32) :=
  match s.monVal k 0 0, s.monVal k 0 1, s.monVal k 0 2 with
  | some a, some b, some c => some (clarke (a, b, c))
  | some a, some b, none => some (clarke (a, b, fNeg (fAdd a b)))
  | some a, none, some c => some (clarke (a, fNeg (fAdd a c), c))
  | none, some b, some c => some (clarke (fNeg (fAdd b c), b, c))
  | _, _, _ => none

/-- The Referee's own interface on a slice. -/
def State.refEnc (s : State) (k : Nat) : Option Nat :=
  let n := s.obj (safo k Obj.SAF_ENC)
  if n < 8 && s.encOn n && !s.fenced (16 + n) && !(s.rs k).enc.fault then some n else none

/-- The Referee's angle, known once its decoder has its reference. -/
def State.refAngle (s : State) (k : Nat) : Option Ang32 :=
  match s.refEnc k with
  | some n => ((s.rs k).enc.angle (s.refPar k n) (bits (s.ssiCfg n) 57 52)).map (·.1)
  | none => none

/-- Electrical speed of a decoder (R197). -/
def omegaOf (p : EncPar) (st : Nat) (v : F32) : F32 :=
  if p.mode = 1 then fDiv v (f32OfInt 6)
  else fDiv (fMul v (f32OfInt p.poles)) (f32OfInt (if p.mode = 2 then 2 ^ st else p.full))

/-- The rotation rate of the monitor current vector over SAF_SPD_WIN (R296), from the angles of the evaluations in the window;
they must cover it. -/
def curSpeed (win : Nat) (t : Stamp) (l : List (Stamp × Ang32 × Bool)) : Option F32 :=
  let inside := l.filter fun e => decide (t ≤ e.1 + win)
  match inside.head?, inside.getLast? with
  | some a, some b =>
    if decide (a.1 ≤ b.1) || decide (b.1 + win ≥ t + 400000) || !inside.all (fun e => e.2.2) then none
    else
      let turn := (List.range (inside.length - 1)).foldl (fun (v : Int) i =>
        match inside[i]?, inside[i + 1]? with
        | some x, some y => v + angS (x.2.1 - y.2.1)
        | _, _ => v) 0
      some (fDiv (angRev turn) (secs (a.1 - b.1)))
  | _, _ => none

/-- The Referee's speed; none while unknown. A declared standstill is a known speed of 0. -/
def State.refSpeed (s : State) (k : Nat) (t : Stamp) : Option F32 :=
  if s.obj (safo k Obj.SAF_SPD_SRC) = 1 then
    curSpeed (s.obj (safo k Obj.SAF_SPD_WIN) * usUnits) t (s.rs k).curHist
  else match s.refEnc k with
    | some n =>
      let e := (s.rs k).enc
      let p := s.refPar k n
      if e.standstill then some 0#32
      else if !e.valid then none
      else some (omegaOf p (bits (s.ssiCfg n) 57 52) (if p.mode = 2 then e.speed else e.speedEst p.speedWin t))
    | none => none

/-- The torque expression of R295 on dq currents. -/
def State.refTorque (s : State) (k : Nat) (id iq : F32) : F32 :=
  let c : F32 := if s.obj (safo k Obj.SAF_TOPOLOGY) = 1 then f32Three else 0x3FC00000#32
  fMul (fMul c (f32OfInt (s.obj (safo k Obj.SAF_POLE_PAIRS))))
    (fAdd (fMul (s.safoF k Obj.SAF_PSI) iq) (fMul (fMul (fSub (s.safoF k Obj.SAF_LD) (s.safoF k Obj.SAF_LQ)) id) iq))

/-- References that the slice held at a stamp. -/
def State.refsAt (s : State) (k : Nat) (t : Stamp) : F32 × F32 :=
  match (s.sl k).iRefHist.find? fun e => e.1 ≤ t with
  | some e => e.2
  | none => (0#32, 0#32)

/-- A limit of SLS or STL: none while it is off (R305). -/
def State.refLimit (s : State) (k lim deg : Nat) : Option F32 :=
  let l := s.safoF k lim
  let d := s.safoF k deg
  if s.degraded k && (fLt d l || fEq l 0#32) then some d
  else if fEq l 0#32 then none else some l

def State.turning (s : State) (k : Nat) : Bool :=
  match (s.sl k).st with
  | .engaging | .running | .stopping => true
  | _ => false

/-! ## Reactions of the Referee -/

/-- A reaction of SAF_REACT_SLS or SAF_REACT_TMON. -/
def State.refReact (s : State) (k react cause : Nat) : State :=
  if react = 1 then s.ss1Request k cause else s.force k (if react = 2 then .ascFrame else .pulseBlock) cause

/-- SS1 ends in pulse block. -/
def State.ss1End (s : State) (k cause : Nat) : State :=
  (s.modRs k fun r => { r with ss1 := none }).force k .pulseBlock cause

/-- SS1 at an evaluation at `c` of the timer clock (R304 steps 2 to 4; R69). -/
def State.ss1Check (s : State) (k c : Nat) (w : Option F32) : State :=
  match (s.rs k).ss1 with
  | none => s
  | some (t0, w0) =>
    let late := decide (t0 + s.obj (safo k Obj.SAF_SS1_TMAX) * msUnits ≤ c)
    match w with
    | some v =>
      let drop := fMul (s.safoF k Obj.SAF_SS1_DEC_MIN) (secs (c - t0))
      let bound := fAdd (fMax (fSub w0 drop) 0#32) (s.safoF k Obj.SAF_SS1_TOL)
      if fGt (fAbs v) bound then s.ss1End k 4
      else if fLe (fAbs v) (s.safoF k Obj.SAF_ZERO_SPEED) || late then s.ss1End k 3
      else s
    | none => if late then s.ss1End k 3 else s

/-- Safely limited speed and SPEED_UNKNOWN (Table 12.4, R305); a limit that is off switches off both. -/
def State.slsCheck (s : State) (k : Nat) (w : Option F32) : State :=
  let lim := s.refLimit k Obj.SAF_SPD_LIM Obj.SAF_DEG_SPEED
  let excess := match lim, w with
    | some l, some v => fGt (fAbs v) l
    | _, _ => false
  let unk := lim.isSome && w.isNone && s.obj (safo k Obj.SAF_SPD_SRC) = 1 && s.turning k
  let s := s.modRs k fun r => { r with slsRun := if excess then min 2 (r.slsRun + 1) else 0, unkRun := if unk then min 10 (r.unkRun + 1) else 0 }
  let r := s.rs k
  let s := if r.slsRun = 2 then s.refReact k (s.obj (safo k Obj.SAF_REACT_SLS)) 5 else s
  if r.unkRun = 10 then s.refReact k (s.obj (safo k Obj.SAF_REACT_SLS)) 6 else s

/-- Safe torque limit (Table 12.4), at `t` of the timer clock. -/
def State.stlCheck (s : State) (k : Nat) (t : Nat) (tq : Option F32) : State :=
  let excess := match s.refLimit k Obj.SAF_TORQUE_LIM Obj.SAF_DEG_TORQUE, tq with
    | some l, some v => fGt (fAbs v) l
    | _, _ => false
  let s := s.modRs k fun r => { r with stlSince := if excess then (if r.stlSince.isSome then r.stlSince else some t) else none }
  match (s.rs k).stlSince with
  | some t0 => if t0 + s.obj (safo k Obj.SAF_TORQUE_WIN) * usUnits ≤ t then s.refReact k (s.obj (safo k Obj.SAF_REACT_TMON)) 7 else s
  | none => s

/-- Torque monitoring (R305) at an evaluation stamp `t`. -/
def State.tmonCheck (s : State) (k : Nat) (t : Stamp) (ab : Option (F32 × F32)) (tq : Option F32) : State :=
  let c0 := t - s.tl.steps
  let mode := s.obj (safo k Obj.SAF_TMON_MODE)
  let runs := match (s.sl k).st with
    | .running | .stopping | .discharging => decide (mode ≠ 0)
    | _ => false
  let refs := s.refsAt k (t - s.obj (safo k Obj.SAF_TORQUE_LAG) * usUnits)
  let mag := mode = 2 || tq.isNone
  let tol := s.safoF k Obj.SAF_TORQUE_TOL
  let c : F32 := if s.obj (safo k Obj.SAF_TOPOLOGY) = 1 then f32Three else 0x3FC00000#32
  let itol := fDiv tol (fMul (fMul c (f32OfInt (s.obj (safo k Obj.SAF_POLE_PAIRS)))) (s.safoF k Obj.SAF_PSI))
  let excess := runs && (match tq, ab with
    | some v, some i => if mag then fGt (fSub (fMag i) (fMag refs)) itol else fGt (fAbs (fSub v (s.refTorque k refs.1 refs.2))) tol
    | none, some i => fGt (fSub (fMag i) (fMag refs)) itol
    | _, none => false)
  let s := s.putFlag (Obj.SAF_SLICE_STAT + k) 4 (runs && mag)
  let s := s.modRs k fun r => { r with tmonSince := if excess then (if r.tmonSince.isSome then r.tmonSince else some c0) else none }
  match (s.rs k).tmonSince with
  | some t0 => if t0 + s.obj (safo k Obj.SAF_TORQUE_WIN) * usUnits ≤ c0 then s.refReact k (s.obj (safo k Obj.SAF_REACT_TMON)) 8 else s
  | none => s

/-- The two latest results of a slot's primary and its monitor whose stamps differ by no more than the longer of the two
result periods (R297). -/
def State.disPair (s : State) (k j : Nat) : Option (F32 × F32) :=
  let v := s.slot k j
  let per := fun (ch osr : Nat) => osr * (s.clkOf (ch / 8)).units
  let lim := max (per (slotCh v) (slotOsr v)) (per (slotMon v) (bits (s.monCfg (slotMon v)) 105 96))
  match bfind (s.sl k).slotRes j, (s.sdU (slotMon v)).last with
  | some a, some b => if (max a.stamp b.stamp) - (min a.stamp b.stamp) ≤ lim then some (a.value, b.value) else none
  | _, _ => none

/-- Comparison of the primary slots with their monitors (R297). -/
def State.disCheck (s : State) (k : Nat) : State :=
  (List.range 16).foldl (fun (s : State) j =>
    let v := s.slot k j
    if !slotLocked v || slotMon v ≥ 64 || !s.isMon (slotMon v) || s.promoted k j || (s.sdU (slotCh v)).lost || (s.sdU (slotMon v)).lost then s
    else
      let n := slotCh v
      let excess := match s.disPair k j with
        | some (a, b) => fGt (fAbs (fSub a b)) (s.safoF k Obj.SAF_SD_DIS_TOL)
        | none => false
      let s := s.modSd n fun u => { u with disRun := if excess then u.disRun + 1 else 0 }
      if s.obj (safo k Obj.SAF_SD_DIS_N) ≤ (s.sdU n).disRun then
        ((s.modSd n fun u => { u with disRun := 0 }).setFlag (Obj.SAF_SLICE_STAT + k) 2).lose [n]
      else s) s

/-! ## Release (R300) -/

/-- A comparator that causes a protection reaction of the slice stays tripped (R150, R302): either one of a PHASE_I channel,
the high one of a DCLINK_V channel. -/
def State.tripPresent (s : State) (k role : Nat) : Bool :=
  (List.range 64).any fun n =>
    ((s.sdU n).inHi || (role = 0 && (s.sdU n).inLo)) && (match s.sdRole n with | some (r, j) => j = k && r = role | none => false)

/-- Whether the cause of a latched state is still present. -/
def State.causePresent (s : State) (k cause : Nat) : Bool :=
  let t := s.now
  match cause with
  | 1 => s.stoRequest && bit (s.obj Obj.SAF_STO_MAP) k
  | 2 => s.ref.stoFault
  | 5 => match s.refLimit k Obj.SAF_SPD_LIM Obj.SAF_DEG_SPEED, s.refSpeed k t with
    | some l, some v => fGt (fAbs v) l
    | _, _ => false
  | 7 => (s.rs k).stlSince.isSome
  | 8 => (s.rs k).tmonSince.isSome
  | 9 => s.tripPresent k 0
  | 10 => s.tripPresent k 1
  | 11 => s.ref.fault
  | _ => false

/-- A latched PULSE_BLOCK is released where its cause is gone, and so is every one recorded beside it; one whose cause is still
present takes its place. -/
def State.tryRelease (s : State) (k : Nat) : State :=
  match (s.rs k).forced with
  | some (.pulseBlock, c) =>
    let s := s.modRs k fun r => { r with lower := r.lower.filter fun p => s.causePresent k p.2 }
    if s.causePresent k c then s else s.unforce k
  | _ => s

/-- The comparator whose trip caused the slice's latched state stays tripped. -/
def State.tripStays (s : State) (k : Nat) : Bool :=
  match (s.rs k).forced with
  | some (_, c) => (c = 9 || c = 10) && s.causePresent k c
  | none => false

/-- The slice's DC-link monitor reads below a discharge threshold (R306). -/
def State.disBelow (s : State) (k n : Nat) : Bool :=
  match s.monVal k 1 0 with
  | some v => fLt v (f32OfInt n)
  | none => false

/-- The conditions on a latched active short circuit, at `t` of the timer clock. -/
def State.ascEnds (s : State) (k : Nat) (t : Nat) (w : Option F32) (ab : Option (F32 × F32)) : Bool :=
  let absent := match (s.rs k).tripAt with
    | some p => decide (p + s.obj (safo k Obj.SAF_PROT_HOLD) * msUnits ≤ t)
    | none => true
  let slow := match w with
    | some v => fLe (fAbs v) (s.safoF k Obj.SAF_ZERO_SPEED)
    | none => false
  let small := s.obj (safo k Obj.SAF_SPD_SRC) = 1 && (match ab with
    | some i => fLt (fMag i) (s.safoF k Obj.SAF_SPD_IMIN)
    | none => false)
  absent && (slow || small)

/-- Hold lines stop sinking once no owner is left, and every slice in ASC_HOLD goes to pulse block. -/
def State.holdRelease (s : State) : State :=
  let owners := (List.range 6).filter fun k => (s.rs k).holdOwner && (match (s.rs k).forced with | some (.ascHold, _) => true | _ => false)
  let held := s.ref.holdLo || s.ref.holdHi
  if held && owners.all (fun k => (s.rs k).atRest) then
    let s : State := { s with ref := { s.ref with holdLo := false, holdHi := false, sankAt := some s.tick } }
    (List.range 6).foldl (fun (s : State) k => match (s.rs k).forced with
      | some (.ascHold, _) => s.ascRelease k
      | _ => s) s
  else s

/-- Release sources are on while their objects are 1, records are applied, the Referee runs and nothing asserts (R27); none comes
on in the cycle in which the lines have stopped sinking (R28). -/
def State.holdSources (s : State) : State :=
  let ok := s.mu.cfgApplied && s.ref.runs && !s.ref.fault
  let may := s.ref.sankAt ≠ some s.tick
  { s with ref := { s.ref with
      srcLo := ok && s.obj Obj.SAF_HOLD_LO_RELEASE = 1 && !s.ref.holdLo && (may || s.ref.srcLo)
      srcHi := ok && s.obj Obj.SAF_HOLD_HI_RELEASE = 1 && !s.ref.holdHi && (may || s.ref.srcHi) } }

/-! ## The evaluation -/

/-- One slice at an evaluation stamp. -/
def State.evalSlice (s : State) (t : Stamp) (k : Nat) : State :=
  let ab := s.monAb k
  let s := s.modRs k fun r => match ab with
    | some i => { r with curHist := ((t, Config.argF i.1 i.2, fGe (fMag i) (s.safoF k Obj.SAF_SPD_IMIN)) :: r.curHist).take 16 }
    | none => { r with curHist := [] }
  let w := s.refSpeed k t
  let c := t - s.tl.steps
  let th := s.refAngle k
  let tq : Option F32 := match th, ab with
    | some a, some i => let d := park i a; some (s.refTorque k d.1 d.2)
    | _, _ => none
  let s := s.setObjF (Obj.SAF_SPEED_EST + k) (w.getD 0#32)
  let s := s.setObjF (Obj.SAF_T_EST + k) (tq.getD 0#32)
  let s := (s.putFlag (Obj.SAF_SLICE_STAT + k) 3 th.isSome).putFlag (Obj.SAF_SLICE_STAT + k) 2 w.isSome
  let s := if s.tripStays k then s.modRs k fun r => { r with tripAt := some c } else s
  let s := s.modRs k fun r => { r with
    atRest := s.ascEnds k c w ab
    disDeadline := r.disDeadline.filter fun e => !(s.disBelow k e.2 || ((s.sl k).st ≠ .discharging && decide (c < e.1))) }
  let s := s.ss1Check k c w
  let s := ((s.slsCheck k w).stlCheck k c tq).tmonCheck k t ab tq
  let s := s.disCheck k
  match (s.rs k).forced with
  | some (.ascFrame, _) => if (s.rs k).atRest then s.ascRelease k else s
  | _ => s

/-- REFEREE_EVALUATION, on the first tick at or after each whole multiple of 400,000 units (R294). A release source that a
sinking line held off is on again from the evaluation after the one that ends the sinking (R28). -/
def effRefereeEvaluation (s : State) : State :=
  match s.gridNow 400000 with
  | some t =>
    if s.isReady && s.ref.runs && !s.ref.fault then
      let s : State := { s with ref := { s.ref with evals := s.ref.evals + 1 } }
      let s := (List.range 6).foldl (fun (s : State) k => s.evalSlice t k) s
      let s := s.holdSources.holdRelease
      { s with ref := { s.ref with safeOut := s.safeOutWant } }
    else s
  | none => s

/-! ## STO (R303) -/

def State.stoSlices (s : State) : List Nat := (List.range 6).filter fun k => bit (s.obj Obj.SAF_STO_MAP) k

/-- A filtered change of an STO input. -/
def effStoInputChange (inputB level : Bool) (s : State) : State :=
  let r := s.ref
  let s : State := { s with ref := if inputB then { r with stoB := level } else { r with stoA := level } }
  if !s.ref.runs then s
  else
    let both := s.ref.stoA = s.ref.stoB
    let low := both && !s.ref.stoA
    let high := both && s.ref.stoA
    let s : State := { s with ref := { s.ref with
      stoDisc := if both then none else (if s.ref.stoDisc.isSome then s.ref.stoDisc else some (s.clk + s.obj Obj.SAF_STO_DISC * msUnits))
      stoLow := s.ref.stoFault && (s.ref.stoLow || low)
      stoFault := s.ref.stoFault && !(high && s.ref.stoLow) } }
    let s := if level then s
      else s.stoSlices.foldl (fun (s : State) k => if s.obj Obj.SAF_STO_MODE = 1 then s.ss1Request k 1 else s.force k .pulseBlock 1) s
    s.safeOutDrop

/-- An edge of an STO input arrives on this tick and is still to come (R66). -/
def State.stoComes (s : State) : Bool :=
  s.awaits fun i => match i with
    | .stoInputChange .. => true
    | _ => false

def effStoDiscrepancy (s : State) : State :=
  match s.ref.stoDisc with
  | some d =>
    if s.ref.runs && d ≤ s.clk && !s.stoComes then
      let s : State := { s with ref := { s.ref with stoDisc := none, stoFault := true, stoLow := false } }
      s.stoSlices.foldl (fun (s : State) k => s.force k .pulseBlock 2) s
    else s
  | none => s

/-! ## Deadlines -/

/-- An evaluation of the Referee falls on this tick and is still to come: it may still find what a deadline waits for. -/
def State.evaluationComes (s : State) : Bool :=
  s.awaits fun i => match i with
    | .refereeEvaluation _ => true
    | _ => false

/-- SAF_SS1_TMAX has passed at an evaluation stamp: what that evaluation decides of SS1, its steps 2 and 3 first (R304). The
evaluation's own row, where it is still to come, decides it. -/
def effSs1TmaxExpire (sl : Fin 6) (s : State) : State :=
  let k := sl.val
  match (s.rs k).ss1, s.gridNow 400000 with
  | some (t0, _), some t =>
    if t0 + s.obj (safo k Obj.SAF_SS1_TMAX) * msUnits ≤ t - s.tl.steps && !s.evaluationComes then
      s.ss1Check k (t - s.tl.steps) (s.refSpeed k t)
    else s
  | _, _ => s

/-- The degraded time has run out: SS1 (R308). -/
def effDegradedTimeExpire (sl : Fin 6) (s : State) : State :=
  let k := sl.val
  match (s.rs k).degDeadline with
  | some d => if d ≤ s.clk then (s.modRs k fun r => { r with degDeadline := none, degLeft := some 0 }).ss1Request k 3 else s
  | none => s

/-- A toggle of the heartbeat; rails that disagree are a Referee fault (R310). -/
def effRefereeHeartbeat (railsAgree : Bool) (s : State) : State :=
  if s.ref.runs then
    let s : State := { s with ref := { s.ref with hbDeadline := s.clk + 10 * usUnits } }
    if railsAgree then s else s.refereeFault 1
  else s

/-- A toggle of the heartbeat falls on this tick and is still to come (R66). -/
def State.toggleComes (s : State) : Bool :=
  s.awaits fun i => match i with
    | .refereeHeartbeat .. => true
    | _ => false

def effRefereeHeartbeatTimeout (s : State) : State :=
  if s.ref.runs && decide (s.ref.hbDeadline ≤ s.clk) && !s.toggleComes then s.refereeFault 0 else s

/-- Injection into the Referee's comparator and into the fast comparators of the monitor channels (R319, Table 16.3). -/
def effRefereeInjection (comparatorOk fastOk : Bool) (s : State) : State :=
  if s.ref.runs && !(comparatorOk && fastOk) then s.refereeFault 3 else s

def effRefereeLockstepMismatch (s : State) : State := if s.ref.runs then s.refereeFault 2 else s

/-- A result of the slice's DC-link monitor falls on this tick and is still to come (R66). -/
def State.monitorComes (s : State) (k : Nat) : Bool :=
  s.awaits fun i => match i with
    | .sdMainResult _ ch shadow _ => shadow.isNone && s.monIn k 1 0 = some ch.val
    | .refereeEvaluation _ => true
    | _ => false

/-- The Referee's discharge watch at its deadline (R306). -/
def effDischargeMonitorDeadline (sl : Fin 6) (s : State) : State :=
  let k := sl.val
  match (s.rs k).disDeadline with
  | some (d, n) =>
    if s.ref.runs && d ≤ s.clk && !s.monitorComes k then
      let v := (s.monVal k 1 0).getD 0#32
      let below := s.disBelow k n
      let s := s.modRs k fun r => { r with disDeadline := none }
      if below then s
      else
        let s := (s.modRs k fun r => { r with disFail := true }).post srcRef 0x0603 k (fToU16 v * 2 ^ 16)
        { s with ref := { s.ref with safeOut := false } }
    else s
  | none => s

def effSafLoginLockExpire (s : State) : State :=
  match s.ref.lockUntil with
  | some t => if t ≤ s.clk then { s with ref := { s.ref with lockUntil := none, loginFails := 0 } } else s
  | none => s

/-! ## SAF_LOGIN (R311) -/

/-- Place of a link in HOST_LINK_MAXPRIV and in Table 12.9. -/
def Link.index : Link → Nat
  | .pcie _ => 0 | .spi _ => 1 | .eth p => 2 + p % 2 | .can c => 4 + c % 4 | .mailbox => 8 | .ring _ => 8

/-- Whether a session on a link may hold a level (R122, Table 5.17). -/
def State.linkAllows (s : State) (l : Link) (level : Nat) : Bool :=
  let fixed := match l with
    | .pcie _ | .spi _ | .eth _ => 4
    | .can _ => 1
    | _ => 0
  decide (level ≤ fixed) && l.index < 8 && decide (level ≤ bits (s.obj Obj.HOST_LINK_MAXPRIV) (8 * l.index + 7) (8 * l.index))

/-- Append to the change log (R314): at most 65,536 entries. -/
def State.logChange (s : State) (e : ChangeEntry) : State :=
  { s with ref := { s.ref with
      changeLog := (e :: s.ref.changeLog).take 65536
      norChanges := min 65536 (s.ref.norChanges + 1), changeNext := s.ref.changeNext + 1 } }

/-- The open session of SAFETY level. -/
def State.safetyHolder (s : State) : Option Nat :=
  (List.range 64).find? fun n => match s.sess n with
    | some x => x.level = 3
    | none => false

/-- A change-log entry over the bytes of the old and of the new value (Table 12.9). -/
def State.changeOf (s : State) (p : Pkt) (idx : Nat) (old new : List Byte) (commit : Nat) : ChangeEntry :=
  { stamp := s.now, session := p.session.toNat, link := p.link.index
    finger := match s.sessOf p with | some x => x.finger | none => 0
    idx := idx, oldCrc := crc32c old, newCrc := crc32c new, commit := commit }

def State.changeBy (s : State) (p : Pkt) (idx old new commit : Nat) : ChangeEntry :=
  s.changeOf p idx (toLE 16 old) (toLE 16 new) commit

/-- The hash that the device keeps of a password under a salt: the 32 bytes of PBKDF2-HMAC-SHA-256 with 4,096 iterations (R311). -/
def pwHashOf (salt pw : List Byte) : List Byte := (List.range 32).map (Config.cryptoByte 10 (salt ++ pw))

/-- A password's 16-byte salt from the TRNG: free bytes (log entry 3). -/
def State.drawSalt (s : State) : List Byte × State := (toLE 16 s.drawNat.1, s.drawNat.2)

/-- A failed login; the fifth in a row locks the command for 60 s. -/
def State.loginFail (s : State) : Res :=
  let n := s.ref.loginFails + 1
  ({ s with ref := { s.ref with
      loginFails := if n ≥ 5 then 0 else n
      lockUntil := if n ≥ 5 then some (s.clk + 60 * sUnits) else s.ref.lockUntil } } : State).fail stAuth

/-- A password's length and its zero fill. -/
def pwOk (b : List Byte) (off n : Nat) (may0 : Bool) : Bool :=
  ((8 ≤ n && n ≤ 32) || (may0 && n = 0)) && zeros b (off + n) (32 - n)

/-- SAF_LOGIN (R311), in the order of Table 5.2: the privilege, the lock and the holder come before the payload's fields. -/
def opSafLogin (p : Pkt) (s : State) : Res :=
  let b := p.payload
  let op := byteAt b 0
  let n := byteAt b 1
  let m := byteAt b 2
  let level := match s.sessOf p with | some x => x.level | none => 0
  let good := match s.ref.pw with
    | some h => decide (0 < n) && h.2 = pwHashOf h.1 ((b.drop 4).take n)
    | none => n = 0
  let unset := s.ref.pw.isNone
  if !lenIs p 68 then s.fail stBadLength
  else if (op = 0 && !s.linkAllows p.link 3) || (op = 1 && level ≠ 3 && !unset) then s.fail stDenied
  else if s.ref.lockUntil.isSome || (op = 1 && level ≠ 3 && (s.mu.lc = 2 || s.mu.lc = 4)) then s.fail stSafetyLocked
  else if op = 0 && (match s.safetyHolder with | some h => h ≠ p.session.toNat | none => false) then s.fail stBusy
  else if op > 1 || byteAt b 3 ≠ 0 || !pwOk b 4 n true || (if op = 0 then decide (m ≠ 0) || !zeros b 36 32 else !pwOk b 36 m false) then
    s.fail stRange
  else if op = 0 then
    match s.safetyHolder with
    | some _ => if good && !unset then ({ s with ref := { s.ref with loginFails := 0 } } : State).okay else s.loginFail
    | none =>
      if good && !unset then
        let s : State := { s with ref := { s.ref with loginFails := 0 } }
        match s.sessOf p with
        | some x => (s.setSess p.session.toNat (some { x with level := 3 })).okay
        | none => s.fail stNoSession
      else s.loginFail
  else
    if !good then s.loginFail
    else if s.mu.norBad then s.fail stInternal
    else
      let r := s.drawSalt
      let new := pwHashOf r.1 ((b.drop 36).take m)
      let e := s.changeOf p Obj.SAF_PW_STATE (s.ref.pw.elim [] (·.2)) new (s.obj Obj.SAF_COMMIT_COUNT % 65536)
      (({ r.2 with ref := { r.2.ref with pw := some (r.1, new), loginFails := 0 } } : State).logChange e).okay

/-! ## SAF_COMMIT (R312, R313) -/

def State.stagedOf (s : State) (n : Nat) : List ObjRec := bget [] s.ref.staged n

/-- Staged objects in ascending index order. -/
def insertRecIdx (r : ObjRec) : List ObjRec → List ObjRec
  | [] => [r]
  | a :: l => if r.idx ≤ a.idx then r :: a :: l else a :: insertRecIdx r l

def sortRecs (l : List ObjRec) : List ObjRec := l.foldr insertRecIdx []

def recsBytes (l : List ObjRec) : List Byte := l.flatMap fun r => toLE 4 r.idx ++ toLE 16 r.data

/-- CRC of the committed set; the commit counter and the CRC itself, kept beside it, are not part of it. -/
def State.setCrc (s : State) : Nat :=
  crc32c ((s.dict.safe.filter fun e => e.1 ≠ Obj.SAF_COMMIT_COUNT && e.1 ≠ Obj.SAF_SET_CRC).flatMap fun e => toLE 4 e.1 ++ toLE 16 e.2)

/-- Slices whose objects a safety object belongs to; none for a device-wide one. -/
def State.safSlices (s : State) (i new : Nat) : Option (List Nat) :=
  if 0x10040 ≤ i && i < 0x10100 then some [(i - 0x10040) / 0x20]
  else if Obj.SAF_SD_FAST ≤ i && i < Obj.SAF_SD_FAST + 64 then
    some (match s.sdRole (i - Obj.SAF_SD_FAST) with | some (_, k) => [k] | none => [])
  else if Obj.SAF_SD_MON ≤ i && i < Obj.SAF_SD_MON + 64 then
    some ((if bit (s.obj i) 127 then [bits (s.obj i) 120 118] else []) ++ (if bit new 127 then [bits new 120 118] else []))
  else if Obj.SAF_SLICE_STAT ≤ i && i < Obj.SAF_SLICE_STAT + 6 then some [i - Obj.SAF_SLICE_STAT]
  else none

/-- The first staged object that the consistency check refuses (R136, R140, R305): a monitor channel that a slot uses, that names
no slice or that has no clock; MAGNITUDE with SAF_PSI 0, at whichever of the two is staged. -/
def State.commitBad (s : State) (l : List ObjRec) : Option Nat :=
  let val := fun (i : Nat) => match l.find? fun r => r.idx = i with
    | some r => r.data
    | none => s.obj i
  (l.find? fun r =>
    let i := r.idx
    if Obj.SAF_SD_MON ≤ i && i < Obj.SAF_SD_MON + 64 then
      bit r.data 127 && ((s.sdSlot (i - Obj.SAF_SD_MON)).isSome || decide (5 < bits r.data 120 118)
        || bits (s.obj (Obj.SD_MCLK_CFG + (i - Obj.SAF_SD_MON) / 8)) 15 14 = 0)
    else if 0x10040 ≤ i && i < 0x10100 then
      let k := (i - 0x10040) / 0x20
      (i = safo k Obj.SAF_TMON_MODE || i = safo k Obj.SAF_PSI)
        && val (safo k Obj.SAF_TMON_MODE) = 2 && fEq (BitVec.ofNat 32 (val (safo k Obj.SAF_PSI))) 0#32
    else false).map ObjRec.idx

/-- What a committed object starts afresh: a monitor channel's filter, the Referee's decoder. -/
def State.safEffect (s : State) (i : Nat) : State :=
  if Obj.SAF_SD_MON ≤ i && i < Obj.SAF_SD_MON + 64 then
    s.freshSd (i - Obj.SAF_SD_MON)
  else if 0x10040 ≤ i && i < 0x10100 then
    let k := (i - 0x10040) / 0x20
    let o := i - 0x20 * k
    if o = Obj.SAF_ENC || o = Obj.SAF_ENC_LINES || o = Obj.SAF_ENC_OFFSET || o = Obj.SAF_POLE_PAIRS then
      let n := s.obj (safo k Obj.SAF_ENC)
      let d := s.encU n
      s.modRs k fun r => { r with enc := ({ r.enc with a := d.a, b := d.b, hall := d.hall } : Enc).fresh 0, degCauses := r.degCauses }
    else s
  else s

/-- The value that a staged record commits: fields that it cannot write keep (R4, R131). -/
def State.commitVal (s : State) (r : ObjRec) : Nat :=
  match descOf r.idx with
  | some d => s.mergeWrite d r.idx r.data
  | none => r.data

/-- Put one committed value in force, with its change-log entry; only a SAFETY value goes to the NOR. -/
def State.commitOne (s : State) (p : Pkt) (commit : Nat) (r : ObjRec) : State :=
  let old := s.obj r.idx
  let v := s.commitVal r
  let e := s.changeBy p r.idx old v (commit % 65536)
  let s := s.setObjBy p.session.toNat r.idx v
  let s : State := if (descOf r.idx).any (fun d => d.per = 2) then { s with dict := { s.dict with safe := bset s.dict.safe r.idx v } } else s
  let s := s.safEffect r.idx
  if old = v then s else s.logChange e

def commitReply (n crc entries idx : Nat) : List Byte := toLE 4 n ++ toLE 4 crc ++ toLE 2 entries ++ toLE 3 idx ++ toLE 3 0

def opSafCommit (p : Pkt) (s : State) : Res :=
  let b := p.payload
  let l := sortRecs (s.stagedOf p.session.toNat)
  let changed := l.filter fun r => s.obj r.idx ≠ s.commitVal r
  let busy := changed.find? fun r => match s.safSlices r.idx r.data with
    | some ks => ks.any s.enabled
    | none => s.anyEnabled
  if !lenIs p 8 then s.fail stBadLength
  else if !p.flags.getLsbD 3 then s.fail stDenied
  else if !zeros b 4 4 then s.fail stRange
  else if l.isEmpty then s.okWith (commitReply (s.obj Obj.SAF_COMMIT_COUNT) (s.obj Obj.SAF_SET_CRC) 0 0xFFFFFF)
  else if le b 0 4 ≠ crc32c (recsBytes l) then { st := s, status := stRange, extra := commitReply 0 0 0 0xFFFFFF }
  else match s.commitBad l with
    | some i => { st := s, status := stRange, extra := commitReply 0 0 0 i }
    | none =>
      if busy.isSome then { st := s, status := stSafetyLocked, extra := commitReply 0 0 0 (busy.elim 0xFFFFFF ObjRec.idx) }
      else if s.mu.norBad then s.fail stInternal
      else
        let n := min 0xFFFFFFFF (s.obj Obj.SAF_COMMIT_COUNT + 1)
        let s := l.foldl (fun (s : State) r => s.commitOne p n r) s
        let s : State := { s with ref := { s.ref with staged := bdel s.ref.staged p.session.toNat } }
        let s := s.setObj Obj.SAF_COMMIT_COUNT n
        let s := s.setObj Obj.SAF_SET_CRC s.setCrc
        let s := s.setObj Obj.SAF_STAGED_COUNT 0
        let s : State := { s with dict := { s.dict with
          safe := bset (bset s.dict.safe Obj.SAF_COMMIT_COUNT n) Obj.SAF_SET_CRC (s.obj Obj.SAF_SET_CRC) } }
        s.holdSources.okWith (commitReply n (s.obj Obj.SAF_SET_CRC) changed.length 0xFFFFFF)

def ChangeEntry.bytes (e : ChangeEntry) : List Byte :=
  toLE 8 e.stamp ++ toLE 1 e.session ++ toLE 1 e.link ++ toLE 8 e.finger ++ toLE 4 e.idx ++ toLE 4 e.oldCrc ++ toLE 4 e.newCrc ++ toLE 2 e.commit

def opSafLogRead (p : Pkt) (s : State) : Res :=
  let b := p.payload
  let n := byteAt b 4
  if !lenIs p 8 then s.fail stBadLength
  else if n = 0 || n > 126 || !zeros b 5 3 then s.fail stRange
  else
    let total := s.ref.changeNext
    let oldest := total - s.ref.changeLog.length
    let first := max (le b 0 4) oldest
    let es := ((List.range n).map (first + ·)).filterMap fun i => if i < total then s.ref.changeLog[total - 1 - i]? else none
    s.okWith (toLE 4 (total - 1) ++ toLE 1 es.length ++ toLE 3 0 ++ es.flatMap ChangeEntry.bytes)

/-! ## Lockstep of the CP (R315 to R318) -/

/-- A command that the ring has mirrored waits on both devices for its apply stamp (R329). -/
def State.isMirrored (s : State) (d : Deferred) : Bool :=
  s.flk.mirror.any fun m => m.arrival = d.accepted && match m.body with
    | .command p => p = d.pkt
    | _ => false

/-- The entries a restart executes again: every one the pair still owns; each carries REEXEC (R107). -/
def Pair.restart (q : Pair) : Pair :=
  { q with
    redo := q.redo ++ q.started
    started := []
    reexec := q.reexec ++ q.started.filter fun e => !q.reexec.contains e }

/-- The CP restarts from its checkpoint (R316), the words that the debugger has written since with it. A command of a pair that waits for a later stamp is one of the entries executed
again: what it has left waiting is dropped with it. One that the ring has mirrored waits on both devices for its stamp, and its entry,
taken again, joins it as a repeat (R100). -/
def State.cpRestart (s : State) : State :=
  let stays := fun (d : Deferred) => (s.pairOf d.pkt.link).isNone || s.isMirrored d
  { s with
    cp := { s.cp with restarting := true, restarts := s.cp.restarts + 1, halted := false, mem := s.cp.ckptMem
                      stoppedAt := s.cp.stoppedAt.or (some s.clk) }
    tl := { s.tl with
      pendInc := s.tl.pendInc.filter fun p => p.cmd.all stays
      pendStep := s.tl.pendStep.filter fun p => p.cmd.all stays }
    host := { s.host with
      pairs := s.host.pairs.map fun (e : Nat × Pair) => (e.1, e.2.restart)
      deferred := s.host.deferred.filter stays
      unfinished := s.host.unfinished.filter fun e => stays e.1 } }

/-- A mismatch: counted; the third within 1 s escalates (R317). -/
def State.cpMismatch (s : State) : State :=
  let s := s.bumpField Obj.SAF_REF_STATUS 31 24
  let l := (s.now :: s.cp.mismatches).take 3
  let s : State := { s with cp := { s.cp with mismatches := l } }
  match l[2]? with
  | some t => if s.now ≤ t + sUnits then { s with cp := { s.cp with escalate := true } } else s.cpRestart
  | none => s.cpRestart

/-- Whether the CP runs at all: from step 5 of the start. -/
def State.cpUp (s : State) : Bool :=
  match s.mu.phase with
  | .starting n => n = 5
  | .ready => true
  | _ => false

def effCpLockstepMismatch (s : State) : State := if s.cpUp then s.cpMismatch else s

/-- The restart ends; its comparator injection may raise COMPARE_FAULT (R318). -/
def effCpRestartDone (injectionOk : Bool) (s : State) : State :=
  if s.cp.restarting then
    let s := (({ s with cp := { s.cp with restarting := false, stoppedAt := none } } : State).devEvent 1).flushHeld
    if injectionOk then s
    else
      let s : State := { s with ref := { s.ref with compareFault := true } }
      (List.range 6).foldl (fun (s : State) k => if s.enabled k then s.degrade k 3 0xFF else s) s
  else s

def effCpCheckpoint (s : State) : State :=
  if s.cpUp && !s.cp.restarting then { s with cp := { s.cp with ckptAt := s.now, ckptMem := s.cp.mem } } else s

/-! ## Memory errors (R14, Table 1.4) -/

def sramCode : SramOwner → Nat
  | .cp => 0 | .crucible => 1 | .canMem => 2 | .trace => 3 | .mu => 4 | .referee => 5 | .objectCache => 6

/-- A corrected error is counted per owner. R14 gives the count no width: the model's has none and never saturates (R6, log entry 34). -/
def effEccCorrectable (o : SramOwner) (s : State) : State :=
  { s with dia := { s.dia with ecc := bset s.dia.ecc (sramCode o) (bget 0 s.dia.ecc (sramCode o) + 1) } }

/-- A CAN controller is fenced: CAN_TX is recessive, so a frame on the bus stops and waits (Table 16.4a). -/
def State.fenceCan (s : State) (c : Nat) : State :=
  (s.fence (8 + c)).modCan c fun u => { u with tx := u.tx.map fun e => (e.1, e.2.map fun x => { x with sof := none }) }

/-- An uncorrectable error in CAN memory: `detail` names the controller in bits 1–0; bit 2 set: a filter list, whose controller
is fenced. Else one entry of a queue is discarded, that of number `detail` / 256 counted from the oldest: with bit 3 clear of the
receive queue in bits 6–4, with bit 3 set of the report queue (bit 7) or of the transmit queue in bits 5–4. Receive and report queues
count it as a drop; no object counts the frames that a transmit queue loses, so `Dia.canLost` does (log entry 34). -/
def State.canMemError (s : State) (detail : Nat) : State :=
  let c := bits detail 1 0
  let hit := detail / 256
  if bit detail 2 then s.fenceCan c
  else if bit detail 3 then
    let u := s.canU c
    if bit detail 7 then
      if u.reports.length ≤ hit then s
      else (s.setCan c { u with reports := u.reports.eraseIdx hit }).bump (Obj.CAN_REPORT_DROPS + c) 0xFFFFFFFF
    else
      let q := bits detail 5 4
      if (bget [] u.tx q).length ≤ hit then s
      else
        let s := s.setCan c { u with tx := bset u.tx q ((bget [] u.tx q).eraseIdx hit) }
        { s with dia := { s.dia with canLost := bset s.dia.canLost c (bget 0 s.dia.canLost c + 1) } }
  else
    let q := bits detail 6 4
    let u := s.canU c
    if (bget [] u.rx q).length ≤ hit then s
    else (s.setCan c { u with rx := bset u.rx q ((bget [] u.rx q).eraseIdx hit) }).bump (Obj.CAN_RX_DROPS + c) 0xFFFFFFFF

/-- The persistent copy of an object: of a RETAINED one the NOR's object region, else the configuration image that this start
has loaded; of a SAFETY one the committed set. -/
def State.persisted (s : State) (d : Desc) (i : Nat) : Option Nat :=
  if d.per = 1 then
    let image := match s.mu.cfgLoaded with
      | some (c, _) => if c = 0 then s.mu.cfgA else s.mu.cfgB
      | none => none
    (bfind s.dict.nor i).or ((image.bind fun x => x.recs.find? fun r => r.idx = i).map ObjRec.data)
  else if d.per = 2 then bfind s.dict.safe i
  else none

/-- An object cache entry (Table 1.4): a persistent one is reloaded from its copy, so a value that has not reached the NOR is
lost; a VOLATILE one returns to its default. Table 15.5 has no code for the reload, which is noted beside the event log (log
entry 13). -/
def State.cacheError (s : State) (i : Nat) : State :=
  match descOf i with
  | some d =>
    let s : State := { s with dict := { s.dict with dirty := s.dict.dirty.filter fun j => j ≠ i } }
    let s := s.jot 14 i
    match s.persisted d i with
    | some v => s.setObj i (maskVal i v)
    | none => { s with dict := { s.dict with vals := bdel s.dict.vals i } }
  | none => s

def effEccUncorrectable (o : SramOwner) (detail : Nat) (s : State) : State :=
  match o with
  | .cp => if s.cpUp then s.cpMismatch else s
  | .crucible => s.ctxFault (detail % 64) 2
  | .canMem => s.canMemError detail
  | .trace => { s with dia := { s.dia with traceBad := if s.dia.traceBad.contains (detail % 16384) then s.dia.traceBad else detail % 16384 :: s.dia.traceBad } }
  | .mu => { s with mu := { s.mu with restarting := true } }
  | .referee => if s.ref.runs then s.refereeFault 4 else s
  | .objectCache => s.cacheError detail

/-- The MU has restarted from ROM: the CP hands over the records it held (R390). -/
def effMuRestartDone (s : State) : State :=
  if s.mu.restarting then
    let held := s.log.cpBuf.reverse
    let s : State := { s with mu := { s.mu with restarting := false }, log := { s.log with cpBuf := [] }, hk := { s.hk with slot := 0, vals := [], lateSeen := false, roundDeadline := s.muNow + msUnits } }
    let s := held.foldl (fun (s : State) r => s.logAppend r) s
    if s.log.cpDrops = 0 then s
    else
      let n := s.log.cpDrops
      ({ s with log := { s.log with cpDrops := 0 } } : State).post srcMu 0x0930 0xFF (min 0xFFFFFFFF n)
  else s

/-! ## Debug port (R320) -/

def State.debugOk (s : State) : Bool := s.cpUp && (s.mu.lc = 1 || s.mu.lc = 3)

def effDebugHalt (s : State) : State := if s.debugOk then { s with cp := { s.cp with halted := true, stoppedAt := s.cp.stoppedAt.or (some s.clk) } } else s
def effDebugResume (s : State) : State :=
  if s.debugOk then ({ s with cp := { s.cp with halted := false, stoppedAt := none } } : State).flushHeld else s

/-- The canonical form of the words that the debug port has written: addresses strictly rising. A word that nothing has
written is not listed, and no command of this block reads one. -/
def Memory.wf (m : Bank Word) : Bool := bankWf m

/-- A write of the debugger, replayed to the checker and compared like any other. -/
def effDebugWrite (addr : Nat) (v : Word) (agree : Bool) (s : State) : State :=
  if s.debugOk && s.cp.halted then
    if agree then { s with cp := { s.cp with mem := bset s.cp.mem addr v } } else s.cpMismatch
  else s

/-! ## The commands -/

def execStoInputChange (dt : Nat) (inputB : Bool) (level : Bool) (s : State) : Host.Outcome State Fault Refusal :=
  .next (s.run dt (effStoInputChange inputB level))
def execStoDiscrepancy (dt : Nat) (s : State) : Host.Outcome State Fault Refusal := .next (s.run dt effStoDiscrepancy)
def execRefereeEvaluation (dt : Nat) (s : State) : Host.Outcome State Fault Refusal := .next (s.run dt effRefereeEvaluation)
def execSs1TmaxExpire (dt : Nat) (sl : Fin 6) (s : State) : Host.Outcome State Fault Refusal := .next (s.run dt (effSs1TmaxExpire sl))
def execDegradedTimeExpire (dt : Nat) (sl : Fin 6) (s : State) : Host.Outcome State Fault Refusal :=
  .next (s.run dt (effDegradedTimeExpire sl))
def execRefereeHeartbeat (dt : Nat) (railsAgree : Bool) (s : State) : Host.Outcome State Fault Refusal :=
  .next (s.run dt (effRefereeHeartbeat railsAgree))
def execRefereeHeartbeatTimeout (dt : Nat) (s : State) : Host.Outcome State Fault Refusal :=
  .next (s.run dt effRefereeHeartbeatTimeout)
def execRefereeInjection (dt : Nat) (comparatorOk : Bool) (fastOk : Bool) (s : State) : Host.Outcome State Fault Refusal :=
  .next (s.run dt (effRefereeInjection comparatorOk fastOk))
def execRefereeLockstepMismatch (dt : Nat) (s : State) : Host.Outcome State Fault Refusal :=
  .next (s.run dt effRefereeLockstepMismatch)
def execDischargeMonitorDeadline (dt : Nat) (sl : Fin 6) (s : State) : Host.Outcome State Fault Refusal :=
  .next (s.run dt (effDischargeMonitorDeadline sl))
def execSafLoginLockExpire (dt : Nat) (s : State) : Host.Outcome State Fault Refusal := .next (s.run dt effSafLoginLockExpire)
def execSafLogin (dt : Nat) (p : Pkt) (s : State) : Host.Outcome State Fault Refusal :=
  .next (s.run dt (effCmd ((p.asRow 0x6000).withSel 0 0) opSafLogin))
def execSafSetPassword (dt : Nat) (p : Pkt) (s : State) : Host.Outcome State Fault Refusal :=
  .next (s.run dt (effCmd ((p.asRow 0x6000).withSel 0 1) opSafLogin))
def execSafCommit (dt : Nat) (p : Pkt) (s : State) : Host.Outcome State Fault Refusal :=
  .next (s.run dt (effCmd (p.asRow 0x6001) opSafCommit))
def execSafLogRead (dt : Nat) (p : Pkt) (s : State) : Host.Outcome State Fault Refusal :=
  .next (s.run dt (effCmd (p.asRow 0x6002) opSafLogRead))
def execCpLockstepMismatch (dt : Nat) (s : State) : Host.Outcome State Fault Refusal := .next (s.run dt effCpLockstepMismatch)
def execCpRestartDone (dt : Nat) (injectionOk : Bool) (s : State) : Host.Outcome State Fault Refusal :=
  .next (s.run dt (effCpRestartDone injectionOk))
def execCpCheckpoint (dt : Nat) (s : State) : Host.Outcome State Fault Refusal := .next (s.run dt effCpCheckpoint)
def execEccCorrectable (dt : Nat) (owner : SramOwner) (s : State) : Host.Outcome State Fault Refusal :=
  .next (s.run dt (effEccCorrectable owner))
def execEccUncorrectable (dt : Nat) (owner : SramOwner) (detail : Nat) (s : State) : Host.Outcome State Fault Refusal :=
  .next (s.run dt (effEccUncorrectable owner detail))
def execDebugHalt (dt : Nat) (s : State) : Host.Outcome State Fault Refusal := .next (s.run dt effDebugHalt)
def execDebugResume (dt : Nat) (s : State) : Host.Outcome State Fault Refusal := .next (s.run dt effDebugResume)
def execDebugWrite (dt : Nat) (addr : Nat) (v : Word) (agree : Bool) (s : State) : Host.Outcome State Fault Refusal :=
  .next (s.run dt (effDebugWrite addr v agree))

end Sys2Proof.Machine
end

