-- ==== Sys2Proof/Machine/Samples.lean ====
section
/-!
DEFINITION. What a control sample computes (R239, R240, R243, R245 to R249, R256, R271, R331): the angle source and its
predictor, the frame unit, the ramp, the causes of observer loss, the target of the modulator, the digest.
-/

namespace Sys2Proof.Machine

/-! ## Samples that are due -/

/-- The stamp of the latest sample that is due and has not been taken: a sampling extreme of the carrier, or in
SYNC_PATTERN the ANGLE occurrence that samples (R263, R270). -/
def State.sampleDue (s : State) (k : Nat) : Option Stamp :=
  let x := s.sl k
  let due := fun (t : Stamp) => if x.lastSample < t && t ≤ s.now then some t else none
  if x.modu.syncMode then x.modu.syncSample.bind due
  else match s.extBefore k s.tick with
  | some h =>
    if s.extSamples k h then due (s.extStamp k h)
    else if 1 ≤ h && s.extSamples k (h - 1) then due (s.extStamp k (h - 1))
    else none
  | none => none

/-- The slots whose results a sample takes by interpolation (R145, R154). -/
def State.askSlots (s : State) (k : Nat) (t : Stamp) : State :=
  (List.range 16).foldl (fun (s : State) j =>
    let v := s.slot k j
    let other := s.promoted k j && !s.sameClock (slotCh v / 8) (slotMon v / 8)
    if slotEn v && (s.promoted k j || !(s.sdU (slotCh v)).lost) && ((s.sl k).modu.syncMode || !slotLocked v || other) then
      s.askInterp k j t false
    else s) s

/-- A setpoint takes effect (R237, R238): a torque of exactly zero keeps the sign before it. -/
def Slice.takeSet (now : Stamp) (x : Slice) (p : Setpoint) : Slice :=
  let by_ : Meta := { stamp := now, session := p.sess }
  let x := { x with modeBy := by_, targetBy := by_ }
  if p.torqueMode then
    let neg := if fNegative p.value then true else if fPositive p.value then false else x.torqueNeg
    { x with torqueMode := true, torqueBy := by_, torqueCmd := p.value, speedLim := p.limit, torqueNeg := neg, target := if neg then fNeg p.limit else p.limit }
  else { x with torqueMode := false, target := p.value }

def Slice.takeSets (x : Slice) (t : Stamp) : Slice :=
  let y := (x.pendSet.filter fun p => p.apply ≤ t).foldl (Slice.takeSet t) x
  { y with pendSet := x.pendSet.filter fun p => decide (t < p.apply) }

/-! ## Angle sources (R245 to R249) -/

/-- The slice's interface, while it hands over its angle and speed. -/
def State.sliceEnc (s : State) (k : Nat) : Option Nat :=
  let n := s.slo k Obj.SLC_ENC
  if n < 8 && s.encOn n && !(s.encU n).fault && !s.fenced (16 + n) then some n else none

def State.encAngle (s : State) (k : Nat) : Option (Ang32 × Nat) :=
  (s.sliceEnc k).bind fun n => (s.encU n).angle (s.encPar n) (bits (s.ssiCfg n) 57 52)

/-- The commutation angle that a sample latches, and the mechanical phase. -/
def State.angleAt (s : State) (k : Nat) (t : Stamp) : Option (Ang32 × Nat) :=
  (s.sliceEnc k).bind fun n => (s.encLatched n t).angle (s.encPar n) (bits (s.ssiCfg n) 57 52)

/-- In HALL mode the predictor extrapolates the angle from the latest transition (R186): at a sample stamp `t`, with the
interface's speed `w`. -/
def State.hallNow (s : State) (k : Nat) (t : Stamp) (a : Ang32) (w : F32) : Ang32 :=
  match s.sliceEnc k with
  | some n =>
    if s.encMode n = 1 then
      ({ (s.sl k).pred with tRef := (s.encLatched n t).hallAt, pos := a.toNat, omega := w } : Predictor).angAt t
    else a
  | none => a

/-- Speed that the interface hands the predictor (R197); none while VALID is 0. -/
def State.encOmega (s : State) (k : Nat) : Option F32 :=
  (s.sliceEnc k).bind fun n =>
    if (s.encU n).valid then some (omegaOf (s.encPar n) (bits (s.ssiCfg n) 57 52) (s.encU n).speed) else none

/-- POS64 nearest the prediction whose ANG32 is `a`. -/
def Predictor.posNear (p : Predictor) (t : Stamp) (a : Ang32) : Nat :=
  let q := if p.valid then p.posAt t else p.pos
  (((q : Int) + angS (a - BitVec.ofNat 32 q)) % (2 ^ 64 : Nat)).toNat

/-- Mechanical phase after a change of position (R80). -/
def phaseAfter (poles k : Nat) (p0 p1 : Nat) : Nat :=
  (((k : Int) + sgn 32 ((p1 / 2 ^ 32 + 2 ^ 32 - p0 / 2 ^ 32 % 2 ^ 32) % 2 ^ 32)) % (max 1 poles : Nat)).toNat

/-- The observer context is committed (R246). -/
def State.hasObs (s : State) (k : Nat) : Bool :=
  let c := s.slo k Obj.SLC_OBS_CTX
  c < 64 && (s.ctx c).hdr ≠ 0

/-- c times the rated speed (R248). -/
def State.hfSpeed (s : State) (k : Nat) : F32 := fMul (s.sloF k Obj.SLC_HF_CROSS) (s.sloF k Obj.SLC_RATED_SPEED)

/-- Upper (`up`) or lower limit of the hysteresis band. -/
def State.hfLimit (s : State) (k : Nat) (up : Bool) : F32 :=
  let c := s.sloF k Obj.SLC_HF_CROSS
  let h := fDiv (s.sloF k Obj.SLC_HF_HYST) f32Two
  fMul (if up then fAdd c h else fSub c h) (s.sloF k Obj.SLC_RATED_SPEED)

def State.hfOff (s : State) (k : Nat) : Bool := fEq (s.sloF k Obj.SLC_HF_AMPL) 0#32

/-- Tick of the first carrier period start after the sample. -/
def State.nextPeriodTick (s : State) (k : Nat) : Nat :=
  let h0 := (s.extBefore k s.tick).getD 0
  let ok := fun (h : Nat) => s.extStarts k h && (s.slo k Obj.SLC_PWM_SAMPLE ≠ 2 || h % 2 = 0)
  match (List.range 4).find? fun i => ok (h0 + 1 + i) with
  | some i => s.extTick k (h0 + 1 + i)
  | none => s.tick

/-- The blend a slice starts with where its speed is known (R249): observer at or above c, injection below. -/
def State.startBlend (s : State) (k : Nat) (th : Ang32) (w : F32) (b : Blend) : Blend :=
  let up := s.hfOff k || fGe (fAbs w) (s.hfSpeed k)
  { b with
    b := if up then f32One else 0#32, target := up, settle := 0
    injFrom := if up then none else some (s.nextPeriodTick k), injTo := none
    obs := { theta := th, omega := w }, hf := { theta := th, omega := w } }

/-- R249 at the first sample at or after an encoder fault. -/
def State.fallback (s : State) (k : Nat) (t : Stamp) : State :=
  let n := s.slo k Obj.SLC_ENC
  let x := s.sl k
  if n < 8 && (s.encU n).fault && bit (s.encCfg n) 118 && decide ((s.encU n).faultAt ≤ t) && s.slo k Obj.SLC_ANGLE_SRC = 0
      && !x.blend.sensorless then
    let w := x.pred.speedAt t
    if s.hasObs k && (fGe (fAbs w) (s.hfSpeed k) || !s.hfOff k) then
      let s := s.modSl k fun x => { x with blend := { s.startBlend k (x.pred.angAt t) w x.blend with sensorless := true } }
      s.post (srcSl k) 0x0402 k n
    else
      (s.modSl k fun x => { x with blend := { x.blend with sensorless := true } }).lossReact k
  else s

/-- A loop's angle carried on by its speed over a time. -/
def Pll.ahead (p : Pll) (ts : Nat) : Ang32 :=
  ({ tRef := 0, pos := p.theta.toNat, omega := p.omega, valid := true } : Predictor).angAt ts

/-- One step of a second-order loop with both poles at −2π times its bandwidth `bw`, over `ts` stamp units, for the error `e`
against its angle advanced to the sample (R246). With a = 2π·bw the loop is θ' = ω + 2a·ε, ω' = a²·ε; its samples are
those of the implicit Euler rule, whose poles are the double one at 1 / (1 + a·ts) (log entry 2). -/
def Pll.step (p : Pll) (bw : F32) (ts : Nat) (e : Int) : Pll :=
  let q := fMul (fMul f32TwoPi bw) (secs ts)
  let n := fMul (fAdd f32One q) (fAdd f32One q)
  let turn := ((fDy (fSub f32One (fDiv f32One n))).mul (Dy.ofInt e)).rne
  let rate := fDiv (fMul (fDiv (fMul q q) n) (f32OfRatio e (2 ^ 32))) (secs ts)
  { theta := p.ahead ts + BitVec.ofInt 32 turn, omega := if ts = 0 then p.omega else fAdd p.omega rate, err := e }

/-- One step of the observer's loop (R246). -/
def State.obsStep (s : State) (k ts : Nat) (x : Slice) : Slice :=
  let o := x.blend.obs
  let phi := Config.argF x.sig.obsEa x.sig.obsEb
  let thm := if fNegative o.omega then phi + 0x40000000#32 else if fPositive o.omega then phi - 0x40000000#32 else phi
  let e := angS (thm - o.ahead ts)
  { x with blend := { x.blend with obs := o.step (s.sloF k Obj.SLC_PLL_BW) ts e } }

/-- One step of the injection's loop (R247): the change of i_q over one carrier period, times the sign injected, feeds a second
loop of the same law; the phase error that a demodulated current stands for is free (log entry 2). -/
def State.hfStep (s : State) (k ts : Nat) (t : Stamp) (x : Slice) : Slice :=
  let polar := match x.catchRun with | some c => decide (c.polPhase ≠ 0) | none => false
  match s.injSign k (s.tick - 1), x.sig.raw[s.perPeriod k - 1]? with
  | some up, some old =>
    if polar || !x.blend.injecting then x
    else
      let iq := (park (s.iab k t) (x.pred.angAt t)).2
      let d := fSub iq old.2.1
      let e := Config.hfError (if up then d else fNeg d)
      { x with blend := { x.blend with hf := x.blend.hf.step (s.sloF k Obj.SLC_HF_PLL_BW) ts e } }
  | _, _ => x

/-- R248 steps 1 to 3 and 5. -/
def State.blendStep (s : State) (k ts : Nat) (t : Stamp) (x : Slice) : Slice :=
  let b := x.blend
  let w := fAbs (x.pred.speedAt t)
  let off := s.hfOff k
  let tgt := off || (if fGe w (s.hfLimit k true) then true else if fLe w (s.hfLimit k false) then false else b.target)
  let start := b.target && !tgt && b.injFrom.isNone
  let b := { b with target := tgt, injTo := if !tgt then none else b.injTo }
  let b := if start then
      { b with injFrom := some (s.nextPeriodTick k), settle := s.slo k Obj.SLC_HF_SETTLE
               hf := { theta := x.pred.angAt t, omega := x.pred.speedAt t } }
    else b
  let d := fDiv (secs ts) (secs (s.slo k Obj.SLC_BLEND_TIME * msUnits))
  let b := if b.settle > 0 then { b with settle := b.settle - 1 }
    else { b with b := if off then f32One else fClamp (if tgt then fAdd b.b d else fSub b.b d) 0#32 f32One }
  let b := if tgt && fEq b.b f32One && b.injFrom.isSome && b.injTo.isNone then { b with injTo := some (s.nextPeriodTick k) } else b
  { x with blend := b }

/-- R248 step 4. -/
def Blend.out (b : Blend) : Ang32 × F32 :=
  let d := ((fDy b.b).mul (Dy.ofInt (angS (b.obs.theta - b.hf.theta)))).rne
  (b.hf.theta + BitVec.ofInt 32 d, fAdd b.hf.omega (fMul b.b (fSub b.obs.omega b.hf.omega)))

/-- The rotation of the current vector since the sample before (R254); none on the first one. -/
def State.vecSpeed (s : State) (k : Nat) (t : Stamp) : Option F32 × Option (Stamp × Ang32) :=
  let i := s.iab k t
  let a := Config.argF i.1 i.2
  if fLt (fMag i) (fMul 0x3CA3D70A#32 (s.sloF k Obj.SLC_I_MAX)) then (some 0#32, none)
  else match (s.sl k).vecAng with
  | some (t0, a0) => if t0 < t then (some (fDiv (angRev (angS (a - a0))) (secs (t - t0))), some (t, a)) else (none, some (t, a))
  | none => (none, some (t, a))

def CatchMethod.code : CatchMethod → Nat
  | .asc => 1 | .encoder => 2 | .backEmf => 3 | .pulses => 4 | .hfStart => 5

/-- The predictor holds a source's angle and speed. -/
def State.setPred (s : State) (k : Nat) (t : Stamp) (a : Ang32) (w : F32) (still : Bool) (ph : Option Nat) (x : Slice) : Slice :=
  let p := x.pred
  let pos := p.posNear t a
  let q := p.refresh (s.sloF k Obj.SLC_PRED_ACC_ALPHA) t pos w
  let q := if still then { q with omega := 0#32, alpha := 0#32 } else q
  { x with pred := { q with phaseK := match ph with
      | some n => n
      | none => phaseAfter (s.slo k Obj.SLC_POLE_PAIRS) p.phaseK p.pos pos } }

/-- The mechanical angle (R80): (k × 2^32 + ANG32) / pole pairs. -/
def Predictor.mechAngle (p : Predictor) (poles : Nat) : Ang32 :=
  BitVec.ofNat 32 ((p.phaseK * 2 ^ 32 + p.pos % 2 ^ 32) / max 1 poles)

/-- The predictor without an angle: its speed as known, else as it was. A wrap of its angle counts (R80). -/
def Slice.noAngle (x : Slice) (poles : Nat) (t : Stamp) (w : Option F32) : Slice :=
  let pos := if x.pred.valid then x.pred.posAt t else x.pred.pos
  { x with pred := { x.pred with
      pos := pos, phaseK := phaseAfter poles x.pred.phaseK x.pred.pos pos
      tRef := t, omega := w.getD x.pred.omega, alpha := 0#32, valid := false } }

/-- Whether the sensorless sources run: in the states that turn the machine, in a WINDING discharge, in an HF start. -/
def State.sourcesRun (s : State) (k : Nat) : Bool :=
  match (s.sl k).st with
  | .engaging | .running | .stopping => true
  | .discharging => true
  | .catching => match (s.sl k).catchRun with
    | some c => c.method = .hfStart
    | none => false
  | _ => false

/-- Refresh of the predictor at a sample (R81, R245, R248). At the sample that has just seeded the loops and the blend, `seeded`,
they give what they were seeded with (R249). -/
def State.refreshPred (s : State) (k ts : Nat) (t : Stamp) (seeded : Bool) : State :=
  let x := s.sl k
  let sens := s.sensorless k
  let run := s.sourcesRun k
  let hfOnly := x.st = .catching || x.st = .discharging
  let steps := run && !seeded
  let x := if steps && s.hasObs k && !hfOnly then s.obsStep k ts x else x
  let x := if steps && (sens || x.st = .catching) then s.hfStep k ts t x else x
  let x := if steps && sens && !hfOnly then s.blendStep k ts t x else x
  let short := x.st = .heldShort
  let vs := s.vecSpeed k t
  let x := { x with vecAng := if short then vs.2 else none }
  let y :=
    if run && (x.st = .catching || (sens && hfOnly)) then s.setPred k t x.blend.hf.theta x.blend.hf.omega false none x
    else if run && sens then let o := x.blend.out; s.setPred k t o.1 o.2 false none x
    else if sens then x.noAngle (s.slo k Obj.SLC_POLE_PAIRS) t (if short then (s.encOmega k).or vs.1 else some 0#32)
    else
      let w := s.encOmega k
      -- Hall sectors tell no revolution phase (R80)
      let phase := fun (ph : Nat) => if s.encMode (s.slo k Obj.SLC_ENC) = 1 then none else some ph
      match s.angleAt k t, w with
      | some (a, ph), some v => s.setPred k t (s.hallNow k t a v) v false (phase ph) x
      | some (a, ph), none =>
        if short then
          let z := s.setPred k t a (vs.1.getD x.pred.omega) false (phase ph) x
          { z with pred := { z.pred with alpha := 0#32 } }
        else s.setPred k t a 0#32 true (phase ph) x
      | none, some v => x.noAngle (s.slo k Obj.SLC_POLE_PAIRS) t (some v)
      | none, none => x.noAngle (s.slo k Obj.SLC_POLE_PAIRS) t (if short then vs.1 else some 0#32)
  s.setSl k y

/-! ## The frame unit (R239, R240) -/

def fMean (a b : F32) : F32 := fDiv (fAdd a b) f32Two

/-- Signals at a sample; `again`: the sample's currents have come by interpolation, its history entry stands. -/
def State.frame (s : State) (k : Nat) (t : Stamp) (again : Bool) : State :=
  let x := s.sl k
  let th := x.pred.angAt t
  let ab := s.iab k t
  let dq := park ab th
  let dq2 := park (clarke (s.phases k 3 t)) (th - BitVec.ofNat 32 (s.slo k Obj.SLC_SET2_SHIFT))
  let hist := if again then x.sig.raw.drop 1 else x.sig.raw
  let old := match hist[s.perPeriod k - 1]? with
    | some o => if x.blend.injecting then o else (dq.1, dq.2, dq2.1, dq2.2)
    | none => (dq.1, dq.2, dq2.1, dq2.2)
  s.setSl k { x with sig := { x.sig with
    raw := ((dq.1, dq.2, dq2.1, dq2.2) :: hist).take 4
    iD := if x.blend.injecting then fMean dq.1 old.1 else dq.1
    iQ := if x.blend.injecting then fMean dq.2 old.2.1 else dq.2
    iD2 := if x.blend.injecting then fMean dq2.1 old.2.2.1 else dq2.1
    iQ2 := if x.blend.injecting then fMean dq2.2 old.2.2.2 else dq2.2
    iAlpha := ab.1, iBeta := ab.2, omegaE := x.pred.speedAt t, vDc := s.vdc k t } }

/-! ## The ramp (R243) -/

/-- One step of the ramp generator, `ts` in binary32 seconds. -/
def rampStep (target ref a jerk up dn ts : F32) : F32 × F32 :=
  let e := fSub target ref
  let j0 := fEq jerk 0#32
  let same := (fNegative e && fNegative ref) || (fPositive e && fPositive ref) || (fEq e 0#32 && fEq ref 0#32)
  let lim := if fEq ref 0#32 || same then up else dn
  let top := if j0 then lim else fMin lim (fSqrt (fMul (fMul f32Two jerk) (fAbs e)))
  let aw := if fNegative e then fNeg top else if fPositive e then top else 0#32
  let js := fMul jerk ts
  let a' := if j0 then aw else fAdd a (fClamp (fSub aw a) (fNeg js) js)
  if fLe (fAbs e) (fMul (fAbs a') ts) && fLe (fAbs a') js then (target, 0#32) else (fAdd ref (fMul a' ts), a')

def State.ramp (s : State) (k ts : Nat) : State :=
  let x := s.sl k
  match x.st with
  | .engaging | .running | .stopping =>
    let stop := x.st = .stopping
    let t0 := if stop then 0#32 else x.target
    let tgt := match s.speedLimit k with
      | some l => fClamp t0 (fNeg l) l
      | none => t0
    let r := rampStep tgt x.rampRef x.rampAcc (s.sloF k Obj.SLC_JERK)
      (s.sloF k (if stop then Obj.SLC_STOP_DEC else Obj.SLC_ACC)) (s.sloF k (if stop then Obj.SLC_STOP_DEC else Obj.SLC_DEC)) (secs ts)
    s.setSl k { x with rampRef := r.1, rampAcc := r.2 }
  | _ => s.setSl k { x with rampRef := x.sig.omegaE, rampAcc := 0#32 }

/-! ## DC-link trip and observer loss (R255 to R257) -/

/-- The DC-link trip at a sample, in every enabled state: one that finds the slice in HELD_SHORT leaves it there (R255). A catch that
it ends has failed: DRV_START_FAIL carries no cause of Table 10.5's for it, so its cause is 0 (log entry 28). -/
def State.vdcTrip (s : State) (k : Nat) : State :=
  let x := s.sl k
  if fGe x.sig.vDc (s.sloF k Obj.SLC_VDC_TRIP) then
    let s := (s.setFlag (slc k Obj.SLC_STATUS) 8).post (srcSl k) 0x0515 k
      (x.st.code + fToU16 x.sig.vDc * 2 ^ 16 + x.sig.omegaE.toNat * 2 ^ 32)
    let s := match x.st, x.catchRun with
      | .catching, some c => s.post (srcSl k) 0x0511 k (c.method.code * 2 ^ 8)
      | _, _ => s
    (s.endDischarge k 2).go k 1 .heldShort none
  else s

/-- A phase error beyond 30°. -/
def Pll.lost (p : Pll) : Bool := decide (12 * p.err.natAbs > 2 ^ 32)

/-- The first cause of Table 10.7 that a sample shows. -/
def State.lossCause (s : State) (k : Nat) (t : Stamp) : Option Nat :=
  let x := s.sl k
  let b := x.blend
  if s.sensorless k then
    if fGt b.b 0#32 && fGt (fMag (x.sig.innov0, x.sig.innov1)) (s.sloF k Obj.SLC_INNOV_MAX) then some 0
    else if (fGt b.b 0#32 && b.obs.lost) || (fLt b.b f32One && b.hf.lost) then some 1
    else none
  else if s.hasObs k && fGe (fAbs (x.pred.speedAt t)) (s.hfLimit k true) && (s.encOmega k).isSome then
    match s.angleAt k t with
    | some (a, _) => if decide ((angS (a - b.obs.theta)).natAbs > s.slo k Obj.SLC_DISAGREE_MAX) then some 2 else none
    | none => none
  else none

/-- A loss is declared (R257). -/
def State.declareLoss (s : State) (k : Nat) (t : Stamp) (cause : Nat) : State :=
  let x := s.sl k
  let short := s.ascCond k
  let dest : SliceState := if short then .heldShort else .heldBlock
  let again := match x.loss.windowEnd with | some e => decide (t ≤ e) | none => false
  let s := (s.setFlag (slc k Obj.SLC_STATUS) 4).bump (slc k Obj.SLC_LOSS_COUNT) 0xFFFFFFFF
  let s := s.post (srcSl k) 0x0514 k (cause + dest.code * 2 ^ 8 + fToU16 x.sig.vDc * 2 ^ 16 + x.sig.omegaE.toNat * 2 ^ 32)
  let s := s.go k (if short then 1 else 2) dest none
  let retry := s.slo k Obj.SLC_RECATCH_EN = 1 && x.st ≠ .stopping
  s.modSl k fun y => { y with loss := { y.loss with
    run := 0, lockout := y.loss.lockout || again
    windowEnd := if again then y.loss.windowEnd else some (t + s.slo k Obj.SLC_RECATCH_WINDOW * sUnits)
    recatchAt := if again || !retry then none else some (t + s.slo k Obj.SLC_RECATCH_DELAY * msUnits) } }

def State.lossCheck (s : State) (k : Nat) (t : Stamp) : State :=
  match (s.sl k).st with
  | .engaging | .running | .stopping =>
    match s.lossCause k t with
    | some c =>
      let s := s.modSl k fun x => { x with loss := { x.loss with run := x.loss.run + 1 } }
      if s.slo k Obj.SLC_LOSS_N ≤ (s.sl k).loss.run then s.declareLoss k t c else s
    | none => s.modSl k fun x => { x with loss := { x.loss with run := 0 } }
  | _ => s

/-! ## The modulator's target (R271) -/

def State.patBand (s : State) (k j : Nat) (w : F32) : Bool :=
  let v := s.slo k (Obj.SLC_PAT_HDR + j)
  fLe (BitVec.ofNat 32 (bits v 63 32)) w && fLe w (BitVec.ofNat 32 (bits v 31 0))

/-- Pulse numbers whose band contains a speed, rising. -/
def State.pulsesAt (s : State) (k : Nat) (w : F32) : List Nat :=
  [1, 3, 5, 7, 9, 11, 15].filter fun n => (s.patTables k n).any fun j => s.patBand k j w

/-- The pulse number closest to another; the first of two equally close. -/
def closestTo (n : Nat) : List Nat → Option Nat
  | [] => none
  | a :: l => match closestTo n l with
    | some b => if (max b n) - (min b n) < (max a n) - (min a n) then some b else some a
    | none => some a

def State.modTarget (s : State) (k : Nat) : State :=
  let x := s.sl k
  let w := fAbs x.sig.omegaE
  let ns := s.pulsesAt k w
  let m := x.modu
  let tgt : Option (Bool × Nat) :=
    if !m.syncMode then
      if s.slo k Obj.SLC_PWM_SEL = 1 && fGe w (s.sloF k Obj.SLC_SYNC_ENTER) then ns.getLast?.map fun n => (true, n) else none
    else if fLe w (s.sloF k Obj.SLC_SYNC_EXIT) then some (false, 0)
    else if ns.contains m.syncN then none
    else (closestTo m.syncN ns).map fun n => (true, n)
  s.setSl k { x with modu := { m with target := tgt } }

/-! ## Digests (R331) -/

/-- Compare this device's digest of a slice with the active's, where both stand for one sample. -/
def State.digestCheck (s : State) (k : Nat) : State :=
  match bfind s.flk.digest k, bfind s.flk.remote k with
  | some (t, c, n), some (t', c') =>
    if t ≠ t' || s.flk.loose || s.edgeMuted k t then s
    else
      let s : State := { s with flk := { s.flk with remote := bdel s.flk.remote k } }
      if c = c' then { s with flk := { s.flk with digest := bset s.flk.digest k (t, c, 0) } }
      else
        let s : State := { s with flk := { s.flk with digest := bset s.flk.digest k (t, c, n + 1) } }
        let s := s.setFlag Obj.FLK_STATUS 0x20000
        if n + 1 ≥ 3 && s.flk.step = .inStep then { s with flk := { s.flk with step := .outOfStep } } else s
  | _, _ => s

/-- The digest of a sample: filter codes used, counts of the slice's encoder, stamp of its last counted edge. The active sends
it to its partner. -/
def State.digest (s : State) (k : Nat) (t : Stamp) : State :=
  if !s.inFlask then s
  else
    let codes := (List.range 16).flatMap fun j =>
      if slotEn (s.slot k j) then (match s.slotAt k j t with | some r => toLE 4 (unsgn 32 r.code) | none => []) else []
    let n := s.slo k Obj.SLC_ENC
    let e := s.encLatched n t
    let enc := if n < 8 then toLE 4 (unsgn 32 e.raw) ++ toLE 4 (unsgn 32 e.rep) ++ toLE 8 e.edgeAt else []
    let bad := match bfind s.flk.digest k with | some (_, _, m) => m | none => 0
    let crc := crc32c (codes ++ enc)
    let s : State := { s with flk := { s.flk with digest := bset s.flk.digest k (t, crc, bad) } }
    if s.isActive then s.ringTx 4 s.partnerId (toLE 8 t ++ toLE 1 k ++ toLE 3 0 ++ toLE 4 crc) else s.digestCheck k

end Sys2Proof.Machine
end

