-- ==== Sys2Proof/Machine/Catching.lean ====
section
/-!
DEFINITION. Catching a machine (R250 to R253): the five methods, their results and failures, the polarity test, and what a
catch result sets.
-/

namespace Sys2Proof.Machine

def State.modCatch (s : State) (k : Nat) (f : CatchRun → CatchRun) : State :=
  s.modSl k fun x => { x with catchRun := x.catchRun.map f }

/-! ## Results (R253) -/

/-- Values of the selectors of Table 10.6 for one context at a result. -/
def State.seedVals (s : State) (k c v : Nat) (t : Stamp) (th : Ang32) (w : F32) : List F32 :=
  let wr := fMul f32TwoPi w
  let e := fMul (s.sloF k Obj.SLC_PSI) wr
  let i := s.iab k t
  (List.range 8).map fun j =>
    match bits v (4 * j + 3) (4 * j) with
    | 1 => w
    | 2 => fMul (fNeg e) (Config.sinF th)
    | 3 => fMul e (Config.cosF th)
    | 4 => fAbs e
    | 5 => i.1
    | 6 => i.2
    | _ => nth (s.ctx c).xhat j

/-- Seed the contexts that SLC_SEED_MAP_j names. -/
def State.seedMaps (s : State) (k : Nat) (t : Stamp) (th : Ang32) (w : F32) : State :=
  (List.range 4).foldl (fun (s : State) j =>
    let v := s.slo k (Obj.SLC_SEED_MAP + j)
    let c := bits v 62 57
    if bit v 63 && (s.ctx c).hdr ≠ 0 && hSlice (s.ctx c).hdr = k then
      let n := hNX (s.ctx c).hdr
      s.seedNow c (padTo 8 ((s.seedVals k c v t th w).take n))
    else s) s

/-- A catch result: angle and speed at a stamp. -/
def State.catchResult (s : State) (k : Nat) (m : CatchMethod) (t : Stamp) (th : Ang32) (w : F32) : State :=
  let n := s.slo k Obj.SLC_ENC
  let s := s.modSl k fun x =>
    let pos := x.pred.posNear t th
    { x with
      pred := { x.pred with
        tRef := t, pos := pos, omega := w, alpha := 0#32, valid := true
        phaseK := phaseAfter (s.slo k Obj.SLC_POLE_PAIRS) x.pred.phaseK x.pred.pos pos }
      rampRef := w, rampAcc := 0#32, caughtBy := m.code, caughtW := w
      blend := if m = .hfStart then { x.blend with b := 0#32, target := false, obs := { theta := th, omega := w }, hf := { theta := th, omega := w } }
        else if s.sensorless k then s.startBlend k th w x.blend
        else { x.blend with obs := { theta := th, omega := w } } }
  let s := if n < 8 && s.encOn n && !(s.encU n).fault then s.encTeach n ((s.sl k).pred.angAt s.now) else s
  let s := s.seedMaps k t th w
  let s := s.setObj (slc k Obj.SLC_CATCH_RESULT) (t % 2 ^ 64 + w.toNat * 2 ^ 64 + th.toNat / 256 * 2 ^ 96 + m.code * 2 ^ 120)
  let s := if m = .pulses then s.setPat k .block else s
  let s := s.go k 4 .engaging none
  s.modSl k fun x => { x with loss := { x.loss with recatching := false } }

/-- A catch fails: 1 NO_ANGLE, 2 CATCH_INCONSISTENT, 3 POLARITY. A failed re-catch sets LOCKOUT (R257). -/
def State.catchFail (s : State) (k cause : Nat) : State :=
  match (s.sl k).catchRun with
  | some c =>
    let again := (s.sl k).loss.recatching
    let s := (s.setFlag (slc k Obj.SLC_STATUS) 2).post (srcSl k) 0x0511 k (cause + c.method.code * 2 ^ 8)
    let s := s.go k 5 (if c.fromShort && s.ascCond k then .heldShort else .heldBlock) none
    s.modSl k fun x => { x with loss := { x.loss with lockout := x.loss.lockout || again, recatching := false } }
  | none => s

/-! ## HF start and polarity test (R251) -/

/-- Row 5, or NO_ANGLE without injection. -/
def State.hfBegin (s : State) (k : Nat) : State :=
  if s.hfOff k then s.catchFail k 1
  else
    let s := s.setPat k .zeroVolt
    let th := if (s.sl k).pred.valid then (s.sl k).pred.angAt s.now else 0#32
    let from_ := match s.asyncStart k (s.now + s.lead k) with
      | some (a, _) => s.tick + (a - s.now) * 2 ^ 32 / max 1 s.time.inc
      | none => s.tick
    let s := s.modSl k fun x => { x with blend := { x.blend with b := 0#32, target := false, injFrom := some from_, injTo := none, hf := { theta := th } } }
    s.modCatch k fun c => { c with method := .hfStart, begun := true, settle := s.slo k Obj.SLC_HF_SETTLE, polPhase := 0, polTries := 0 }

/-- Start the polarity test with the first interval that is still to be computed. -/
def State.polBegin (s : State) (k : Nat) : State :=
  let b := match s.asyncStart k (max (s.now + s.lead k) (s.sl k).modu.doneTo) with
    | some (a, _) => a
    | none => s.now
  s.modCatch k fun c => { c with polPhase := 1, polFrom := b, pPlus := 0#32, pMinus := 0#32 }

/-- A sample of the HF start: the settling counts down while injection runs, the test takes |i_d|. -/
def State.hfSample (s : State) (k : Nat) (t : Stamp) (c : CatchRun) : State :=
  let x := s.sl k
  if c.polPhase = 0 then
    if !x.blend.injecting then s
    else if c.settle ≤ 1 then (s.modCatch k fun c => { c with settle := 0 }).polBegin k
    else s.modCatch k fun c => { c with settle := c.settle - 1 }
  else
    let (b1, b2, b3, _) := s.polEnds k c.polFrom
    let m := fAbs (match x.sig.raw.head? with | some r => r.1 | none => 0#32)
    s.modCatch k fun c =>
      if c.polFrom < t && t ≤ b1 then { c with pPlus := fMax c.pPlus m }
      else if b2 < t && t ≤ b3 then { c with pMinus := fMax c.pMinus m }
      else c

/-- The decision after the fourth phase. -/
def State.polDecide (s : State) (k : Nat) (c : CatchRun) : State :=
  let g := fAdd f32One (s.sloF k Obj.SLC_POL_MARGIN)
  let th := (s.sl k).blend.hf.ahead (s.now - (s.sl k).lastSample)
  if fGe c.pPlus (fMul c.pMinus g) then s.catchResult k .hfStart s.now th 0#32
  else if fGe c.pMinus (fMul c.pPlus g) then s.catchResult k .hfStart s.now (th + 0x80000000#32) 0#32
  else if c.polTries < 2 then (s.modCatch k fun c => { c with polTries := c.polTries + 1 }).polBegin k
  else s.catchFail k 3

/-- POLARITY_TEST_PHASE_END: a phase of the test has ended; after the fourth the polarity is decided. -/
def effPolarityTestPhaseEnd (sl : Fin 6) (s : State) : State :=
  let k := sl.val
  match (s.sl k).st, (s.sl k).catchRun with
  | .catching, some c =>
    let (b1, b2, b3, b4) := s.polEnds k c.polFrom
    let e := if c.polPhase = 1 then b1 else if c.polPhase = 2 then b2 else if c.polPhase = 3 then b3 else b4
    if c.method ≠ .hfStart || c.polPhase = 0 || s.now < e then s
    else if c.polPhase < 4 then s.modCatch k fun c => { c with polPhase := c.polPhase + 1 }
    else s.polDecide k c
  | _, _ => s

/-! ## Catch pulses (R252) -/

/-- Schedule pulse `n`: a zero vector on the SLC_ASC_SIDE side, at its exact stamps. -/
def State.schedulePulse (s : State) (k n : Nat) (t0 : Stamp) : State :=
  let a := t0 + n * 200 * usUnits
  let b := a + s.slo k Obj.SLC_CATCH_WIDTH * usUnits
  let leg := s.ascLeg k
  ((s.linksOf k).filter fun l => s.linkRole l < 6).foldl (fun (s : State) l =>
    s.modGl l fun g => (g.drive 0 0 a leg).drive 0 0 b .off) s

/-- Row 4 starts: the pulses begin with the first interval at least the lead time away. -/
def State.pulsesBegin (s : State) (k : Nat) : State :=
  match s.asyncStart k (s.now + s.lead k) with
  | some (a, _) =>
    let s := s.setPat k .zeroVector
    let s := s.modCatch k fun c => { c with method := .pulses, begun := true, pulse0 := a, pulseNo := 0, pulseMags := [], pulseAngs := [] }
    s.schedulePulse k 0 a
  | none => s.catchFail k 1

/-- CATCH_PULSE: a pulse starts at its stamp, and the next one is scheduled. -/
def effCatchPulse (sl : Fin 6) (s : State) : State :=
  let k := sl.val
  match (s.sl k).st, (s.sl k).catchRun with
  | .catching, some c =>
    if c.method = .pulses && c.begun && c.pulseNo < 8 && decide (c.pulse0 + c.pulseNo * 200 * usUnits ≤ s.now) then
      let s := s.modCatch k fun c => { c with pulseNo := c.pulseNo + 1 }
      if c.pulseNo < 7 then s.schedulePulse k (c.pulseNo + 1) c.pulse0 else s
    else s
  | _, _ => s

/-- Every enabled PHASE_I slot of the first set has a result of this stamp. -/
def State.currentsAt (s : State) (k : Nat) (t : Stamp) : Bool :=
  let js := (List.range 16).filter fun j => let v := s.slot k j; slotEn v && slotRole v = 0 && slotPhase v < 3
  !js.isEmpty && js.all fun j => match s.slotAt k j t with
    | some r => r.stamp = t
    | none => false

/-- The current vector of main results stamped within 20 µs after a pulse. -/
def State.pulseVector (s : State) (k : Nat) (t : Stamp) : State :=
  match (s.sl k).st, (s.sl k).catchRun with
  | .catching, some c =>
    let n := (t - c.pulse0) / (200 * usUnits)
    let stop := c.pulse0 + n * 200 * usUnits + s.slo k Obj.SLC_CATCH_WIDTH * usUnits
    if c.method = .pulses && c.begun && decide (c.pulse0 ≤ t) && n < 8 && decide (stop ≤ t ∧ t ≤ stop + 20 * usUnits) && s.currentsAt k t then
      let i := s.iab k t
      let m := fMag i
      if (bfind c.pulseMags n).isNone || fGt m (bget 0#32 c.pulseMags n) then
        s.modCatch k fun c => { c with
          pulseMags := bset c.pulseMags n m, pulseAngs := bset c.pulseAngs n (Config.argF i.1 i.2)
          last := if n = 7 then t else c.last }
      else s
    else s
  | _, _ => s

/-- The outcome of the eight pulses. -/
def State.pulsesEnd (s : State) (k : Nat) (c : CatchRun) : State :=
  let least := s.sloF k Obj.SLC_CATCH_IMIN
  let mags := (List.range 8).map fun n => bget 0#32 c.pulseMags n
  let ds := (List.range 7).map fun n => angS (bget 0#32 c.pulseAngs (n + 1) - bget 0#32 c.pulseAngs n)
  if mags.all fun m => fLt m least then s.hfBegin k
  else if mags.all (fun m => fGe m least) && (ds.all (fun d => decide (0 < d)) || ds.all (fun d => decide (d < 0))) then
    let sum := ds.foldl (· + ·) (0 : Int)
    let w := fDiv (fDiv (angRev sum) (f32OfInt 7)) (secs (200 * usUnits))
    let th7 := bget 0#32 c.pulseAngs 7
    let th := if 0 < sum then th7 - 0x40000000#32 else th7 + 0x40000000#32
    let p : Predictor := { tRef := c.last, pos := th.toNat, omega := w, valid := true }
    s.catchResult k .pulses s.now (p.angAt s.now) w
  else s.catchFail k 2

/-- Conclude once the last pulse's window has passed. -/
def State.pulsesCheck (s : State) (k : Nat) : State :=
  match (s.sl k).st, (s.sl k).catchRun with
  | .catching, some c =>
    if c.method = .pulses && c.pulseNo = 8
        && decide (c.pulse0 + 1400 * usUnits + s.slo k Obj.SLC_CATCH_WIDTH * usUnits + 20 * usUnits ≤ s.now) then s.pulsesEnd k c
    else s
  | _, _ => s

/-! ## Rotating vectors: rows 1 and 3 (R250) -/

/-- One vector of the observation. -/
def CatchRun.vector (c : CatchRun) (t : Stamp) (a : Ang32) (ok : Bool) : CatchRun :=
  if c.begun then
    { c with last := t, lastAngle := a, turn := c.turn + angS (a - c.lastAngle), magOk := c.magOk && ok, magAny := c.magAny || ok }
  else { c with begun := true, first := t, last := t, lastAngle := a, turn := 0, magOk := ok, magAny := ok }

/-- The observation has ended by its turn. -/
def CatchRun.turned (c : CatchRun) : Bool := decide (2 ^ 33 ≤ c.turn.natAbs)

/-- The 20 ms limit. -/
def CatchRun.limit (c : CatchRun) : Stamp := (if c.begun then c.first else c.start) + 20 * msUnits

/-- Result, fall through or failure of row 1 or row 3. -/
def State.vectorEnd (s : State) (k : Nat) (c : CatchRun) : State :=
  if c.method = .backEmf && !c.magAny then s.pulsesBegin k
  else if c.begun && c.magOk && decide (2 ^ 30 ≤ c.turn.natAbs) && decide (c.first < c.last) then
    let w := fDiv (angRev c.turn) (secs (c.last - c.first))
    let th := match c.method with
      | .asc =>
        let q := fDiv (s.sloF k Obj.SLC_RS) (fMul (fMul f32TwoPi w) (s.sloF k Obj.SLC_LQ))
        c.lastAngle - 0x80000000#32 - Config.argF f32One q
      | _ => if fNegative w then c.lastAngle + 0x40000000#32 else c.lastAngle - 0x40000000#32
    s.catchResult k c.method c.last th w
  else s.catchFail k 2

/-- A vector at or before the limit is taken; the observation ends by its turn or by the limit (R66). -/
def State.vectorTake (s : State) (k : Nat) (t : Stamp) (v : F32 × F32) (least : F32) : State :=
  let s := s.modCatch k fun c => if c.limit < t then c else c.vector t (Config.argF v.1 v.2) (fGe (fMag v) least)
  match (s.sl k).catchRun with
  | some c => if c.turned || decide (c.limit ≤ t) then s.vectorEnd k c else s
  | none => s

/-- The slots LINE_V U–V and V–W, both enabled and delivering. -/
def State.lineSlots (s : State) (k : Nat) : Option (Nat × Nat) :=
  match s.roleSlot k 2 0, s.roleSlot k 2 1 with
  | some a, some b => if (s.sdU (slotCh (s.slot k a))).lost || (s.sdU (slotCh (s.slot k b))).lost then none else some (a, b)
  | _, _ => none

/-- The line voltages of one stamp have both come. -/
def State.catchLine (s : State) (k : Nat) : State :=
  match (s.sl k).st, (s.sl k).catchRun, s.lineSlots k with
  | .catching, some c, some (a, b) =>
    match bfind (s.sl k).slotInterp a, bfind (s.sl k).slotInterp b with
    | some x, some y =>
      if c.method = .backEmf && x.stamp = y.stamp && decide (c.start ≤ x.stamp) && (!c.begun || decide (c.last < x.stamp)) then
        s.vectorTake k x.stamp (fDiv (fAdd (fMul f32Two x.value) y.value) f32Three, fDiv y.value f32Sqrt3) (s.sloF k Obj.SLC_CATCH_EMIN)
      else s
    | _, _ => s
  | _, _, _ => s

/-- A line voltage of a sample at or before a stamp is still to come from between two windows (R145). -/
def State.lineWaits (s : State) (k : Nat) (t : Stamp) : Bool :=
  match s.lineSlots k with
  | some (a, b) => [a, b].any fun j => (s.sdU (slotCh (s.slot k j))).reqs.any fun q => q.slice = k && q.slot = j && decide (q.at_ ≤ t)
  | none => false

/-- CATCH_TIMEOUT: 20 ms have passed, and every sample up to there has been taken. -/
def effCatchTimeout (sl : Fin 6) (s : State) : State :=
  let k := sl.val
  match (s.sl k).st, (s.sl k).catchRun with
  | .catching, some c =>
    if (c.method = .asc || c.method = .backEmf) && decide (c.limit ≤ s.now) && !s.awaitsSample k
        && !(c.method = .backEmf && s.lineWaits k c.limit) then s.vectorEnd k c else s
  | _, _ => s

/-! ## Samples of a catch -/

/-- Row 3 where its slots are there, else row 4. -/
def State.catchRest (s : State) (k : Nat) : State :=
  if (s.lineSlots k).isSome then s.modCatch k fun c => { c with method := .backEmf, begun := false } else s.pulsesBegin k

/-- One control sample of a catch. From HELD_SHORT without the ASC condition the methods wait for pulse block. -/
def State.catchSample (s : State) (k : Nat) (t : Stamp) : State :=
  match (s.sl k).st, (s.sl k).catchRun with
  | .catching, some c =>
    if t < c.start then s
    else if c.method ≠ .asc && (s.sl k).modu.active = .shortCircuit then s.modCatch k fun c => { c with start := t + 1 }
    else match c.method with
      | .asc => s.vectorTake k t (s.iab k t) (s.sloF k Obj.SLC_CATCH_IMIN)
      | .encoder =>
        match s.angleAt k t with
        | some (a, _) => let w := (s.encOmega k).getD 0#32; s.catchResult k .encoder t (s.hallNow k t a w) w
        | none => s.catchRest k
      | .backEmf => if (s.lineSlots k).isSome then s else s.pulsesBegin k
      | .pulses => if c.begun then s.pulsesCheck k else s.pulsesBegin k
      | .hfStart => s.hfSample k t c
  | _, _ => s

/-- Enter CATCHING with the first applicable method of Table 10.5; `at_` is the entry tick's stamp. -/
def State.startCatch (s : State) (k : Nat) (at_ : Stamp) : State :=
  let short := (s.sl k).st = .heldShort
  let m : CatchMethod := if short && s.ascCond k then .asc
    else if (s.encAngle k).isSome then .encoder
    else if (s.lineSlots k).isSome then .backEmf else .pulses
  let s := s.modSl k fun x => { x with catchRun := some { method := m, fromShort := short, start := at_ } }
  let s := s.go k 5 .catching none
  if (s.sl k).st ≠ .catching then s.modSl k fun x => { x with catchRun := none }
  else if m = .asc then s else if short then s.setPat k .block else s

/-- A re-arm (R234): the slice passes through DISABLED for one tick, `rearmAt`, on which SLC_STATE reads so; every context enters
PRIMING, the switching state stays. -/
def State.rearm (s : State) (k : Nat) : State :=
  (s.modSl k fun x => { x with
    engaged := [], engNormal := [], actAt := none, groupNeg := false, rearmAt := some s.tick, stAt := s.now, loss := { x.loss with run := 0 } }).primeContexts k

/-! ## Hooks of the sensing rows -/

/-- Slices whose catch listens to a channel. -/
def State.afterMain (s : State) (n : Nat) (t : Stamp) : State :=
  (List.range 6).foldl (fun (s : State) k =>
    if (List.range 16).any fun j => slotEn (s.slot k j) && (slotCh (s.slot k j) = n || slotMon (s.slot k j) = n) then (s.pulseVector k t).pulsesCheck k else s) s

end Sys2Proof.Machine
end

