-- ==== Sys2Proof/Machine/Drive.lean ====
section
/-!
DEFINITION. The slice sequencers at work: the control sample (R239 to R259), the drive opcodes (R237, R238), stops,
re-catch, discharge, and the setpoint refresh (R15, R327).
-/

namespace Sys2Proof.Machine

/-! ## Discharge (R259) -/

/-- A WINDING discharge starts its contexts: d-axis current alone. -/
def State.windingOn (s : State) (k : Nat) : State :=
  let s := s.setPat k .vectors
  let id := s.sloF k Obj.SLC_DIS_ID
  s.modSl k fun x => { x with sig := { x.sig with idRef := id, iqRef := 0#32 } }.noteRefs s.now id 0#32

/-- A sample of a discharge: the settling of the injection, then success below the threshold. -/
def State.dischargeSample (s : State) (k : Nat) (t : Stamp) : State :=
  match (s.sl k).st, (s.sl k).dis with
  | .discharging, some d =>
    let s :=
      if d.settle = 0 || !(s.sl k).blend.injecting then s
      else
        let s := s.modSl k fun x => { x with dis := some { d with settle := d.settle - 1 } }
        if d.settle = 1 then s.windingOn k else s
    if fLt (s.sl k).sig.vDc (f32OfInt d.threshold) && decide (t ≤ d.start + 5 * sUnits) then (s.endDischarge k 0).go k 5 .heldBlock none
    else s
  | _, _ => s

/-- DISCHARGE_TIMEOUT: 5 s without success. -/
def effDischargeTimeout (sl : Fin 6) (s : State) : State :=
  let k := sl.val
  match (s.sl k).st, (s.sl k).dis with
  | .discharging, some d => if d.start + 5 * sUnits ≤ s.now && !s.awaitsSample k then (s.endDischarge k 1).go k 5 .heldBlock none else s
  | _, _ => s

/-! ## The control sample -/

/-- Follow zero speed in STOPPING and HELD_SHORT (R254). -/
def State.zeroTrack (s : State) (k : Nat) (t : Stamp) : State :=
  s.modSl k fun x =>
    match x.st with
    | .stopping | .heldShort =>
      { x with zeroSince := if fLe (fAbs x.sig.omegaE) (s.sloF k Obj.SLC_ZERO_SPEED) then (if x.zeroSince.isSome then x.zeroSince else some t) else none }
    | _ => x

/-- The speed of every interface that the slice owns is evaluated at its samples (R193). -/
def State.evalOwned (s : State) (k : Nat) (t : Stamp) : State :=
  (List.range 8).foldl (fun (s : State) n => if s.encOn n && s.encOwner n = k then s.encEval n t else s) s

/-- The first sampling extreme at or after a loss: the slot takes the shadow filter's results from here on, the one of this
very extreme with them where it has come (R154). -/
def State.promoteNow (s : State) (k : Nat) (t : Stamp) : State :=
  let due := (s.sl k).promoteAt.filter fun e => decide (e.2 ≤ t)
  let s := s.modSl k fun x => { x with promoteAt := x.promoteAt.filter fun e => decide (t < e.2) }
  due.foldl (fun (s : State) e =>
    match bfind (s.sl k).shadowRes e.1 with
    | some r => if r.stamp = t then s.deliverShadow (slotMon (s.slot k e.1)) e.1 r else s
    | none => s) s

/-- One control sample at stamp `t`. -/
def State.sample (s : State) (k : Nat) (t : Stamp) : State :=
  let x := s.sl k
  let ts := t - x.lastSample
  let p0 := if x.pred.valid then some x.pred.pos else none
  let s := s.modSl k fun x => { x with before := x.before.filter fun e => decide (t < e.2.1) }
  let s := (s.promoteNow k t).modSl k fun x => x.takeSets t
  let s := s.askSlots k t
  let s := s.evalOwned k t
  let was := (s.sl k).blend.sensorless
  let s := s.fallback k t
  let s := s.refreshPred k ts t (!was && (s.sl k).blend.sensorless)
  let s := s.frame k t false
  let s := s.modSl k fun x => { x with lastSample := t, samples := x.samples + 1 }
  let s := s.rallyRefresh k t p0
  let s := (s.ramp k ts).holdSignals k
  let s := s.vdcTrip k
  let s := s.lossCheck k t
  let s := s.catchSample k t
  let s := s.dischargeSample k t
  let s := s.zeroTrack k t
  let s := s.modTarget k
  s.digest k t

/-- CONTROL_SAMPLE: the sample of a slice that is due. -/
def effControlSample (sl : Fin 6) (s : State) : State :=
  let k := sl.val
  if s.isReady && s.enabled k && !s.fenced k then
    match s.sampleDue k with
    | some t => s.sample k t
    | none => s
  else s

/-- ZERO_SPEED_HOLD_DONE: a sample has completed the hold (R254). -/
def effZeroSpeedHoldDone (sl : Fin 6) (s : State) : State :=
  let k := sl.val
  let x := s.sl k
  match x.st, x.zeroSince with
  | .stopping, some z | .heldShort, some z =>
    if z + s.slo k Obj.SLC_ZERO_TIME * msUnits ≤ x.lastSample then s.go k 5 .heldBlock none else s
  | _, _ => s

/-! ## Results of the sensing rows -/

/-- SD_MAIN_RESULT: a filter's window ends; a catch that waits for currents takes them. -/
def effMainResult (ch : Fin 64) (shadow : Option (Fin 6 × Fin 16)) (stream : List Bool) (s : State) : State :=
  (effSdMainResult ch shadow stream s).afterMain ch.val s.now

/-- Currents that came by interpolation for the latest sample: the frame unit forms them anew, and evaluations that wait
for them may start 16 engine cycles later (R145, R239). -/
def State.lateFrame (s : State) (k : Nat) (n : Nat) : State :=
  let x := s.sl k
  let hit := (List.range 16).any fun j =>
    let v := s.slot k j
    slotEn v && slotLocked v && (slotCh v = n || slotMon v = n) && (match bfind x.slotInterp j with
      | some r => r.stamp = x.lastSample
      | none => false)
  if s.enabled k && hit then
    let s := s.frame k x.lastSample true
    (s.ctxWith fun h => hSlice h = k && hFrame h).foldl (fun (s : State) c => s.modCtx c fun y =>
      { y with evals := y.evals.map fun e => if e.started.isNone && e.sample = x.lastSample then { e with ready := max e.ready (s.now + 160) } else e }) s
  else s

/-- SD_INTERP_RESULT: the requests on a channel that can be met are met. -/
def effInterpResult (ch : Fin 64) (s : State) : State :=
  (List.range 6).foldl (fun (s : State) k => (s.lateFrame k ch.val).catchLine k) (effSdInterpResult ch s)

/-! ## Checks of DRV_ENABLE (R138, R140, R143, R155, R237, R261 to R267) -/

def State.roleOn (s : State) (k role phase : Nat) : Bool := (s.roleSlot k role phase).isSome

/-- Two phases of each set, and a DC-link slot. -/
def State.slotsThere (s : State) (k : Nat) : Bool :=
  let two := fun (b : Nat) => decide (2 ≤ ((List.range 3).filter fun i => s.roleOn k 0 (b + i)).length)
  two 0 && (s.slo k Obj.SLC_TOPOLOGY = 0 || two 3) && s.roleOn k 1 0

/-- No channel of a group with SRC 0 and EN 0 can be enabled (R136). -/
def State.slotsClocked (s : State) (k : Nat) : Bool :=
  (List.range 16).all fun j => !slotEn (s.slot k j) || decide (bits (s.mclkCfg (slotCh (s.slot k j) / 8)) 15 14 ≠ 0)

/-- A MONITOR names a committed entry of the same slice, role and phase. -/
def State.monitorsFit (s : State) (k : Nat) : Bool :=
  (List.range 16).all fun j =>
    let v := s.slot k j
    let m := slotMon v
    let c := s.monCfg m
    !slotEn v || m = 0xFF || (decide (m < 64) && bit c 127 && bits c 120 118 = k && bits c 126 124 = slotRole v && bits c 123 121 = slotPhase v)

/-- A lost locked slot has a healthy monitor. -/
def State.lostCovered (s : State) (k : Nat) : Bool :=
  (List.range 16).all fun j =>
    let v := s.slot k j
    !slotLocked v || !(s.sdU (slotCh v)).lost || s.monHealthy v

/-- The angle source belongs to the slice. -/
def State.sourceOwn (s : State) (k : Nat) : Bool :=
  let n := s.slo k Obj.SLC_ENC
  let c := s.slo k Obj.SLC_OBS_CTX
  if s.slo k Obj.SLC_ANGLE_SRC = 0 then decide (8 ≤ n) || (bit (s.encCfg n) 127 && s.encOwner n = k)
  else decide (64 ≤ c) || ((s.ctx c).hdr ≠ 0 && hSlice (s.ctx c).hdr = k)

/-- Links in every role the slice drives, each with an interlock its dead time covers (R261). -/
def State.linksFit (s : State) (k : Nat) : Bool :=
  let roles := if s.slo k Obj.SLC_TOPOLOGY = 1 then [0, 1, 2, 3, 4, 5] else [0, 1, 2]
  roles.all fun r =>
    let ls := (s.linksOf k).filter fun l => s.linkRole l = r
    !ls.isEmpty && ls.all fun l => decide (bits (s.glCfg l) 47 32 ≤ s.slo k Obj.SLC_DEADTIME)

/-- The first locked slot that the carrier of `period` counts does not lock (R143). -/
def State.unlockedSlot (s : State) (k period : Nat) : Option Nat :=
  let ext := s.slo k Obj.SLC_PWM_CLK = 1
  let iv := period / s.perPeriod k
  (List.range 16).find? fun j =>
    let v := s.slot k j
    let g := slotCh v / 8
    let w := slotOsr v * (if ext then 1 else max 1 (bits (s.mclkCfg g) 6 0))
    slotLocked v && (s.groupExt g ≠ ext || iv < w || iv % w ≠ 0)

/-- SD_LOCK_ERR. -/
def State.lockErr (s : State) (k j : Nat) : State := s.post (srcSl k) 0x0300 k (j + slotCh (s.slot k j) * 2 ^ 8)

/-- A legal carrier period (R262), long enough for R265. -/
def State.periodOk (s : State) (k period : Nat) : Bool :=
  let nom := s.obj Obj.SD_MCLK_IN_NOM
  period % 2 = 0
  && (if s.slo k Obj.SLC_PWM_CLK = 0 then decide (4000 ≤ period ∧ period ≤ 200000)
      else decide (2000 * period ≤ nom ∧ nom ≤ 100000 * period))

def State.pulsesFit (s : State) (k : Nat) : Bool :=
  decide (2 * (s.slo k Obj.SLC_MIN_PULSE + s.slo k Obj.SLC_DEADTIME) ≤ s.carrierUnits k)

/-- The pattern tables of R267. -/
def State.tablesOk (s : State) (k : Nat) : Bool :=
  let on := (List.range 16).filter fun j => bit (s.slo k (Obj.SLC_PAT_HDR + j)) 127
  let nOf := fun (j : Nat) => bits (s.slo k (Obj.SLC_PAT_HDR + j)) 123 120
  let band := fun (j : Nat) => bits (s.slo k (Obj.SLC_PAT_HDR + j)) 63 0
  s.slo k Obj.SLC_PWM_SEL = 0 ||
  (on.all (fun j =>
      let n := nOf j
      let m := s.patM k j
      [1, 3, 5, 7, 9, 11, 15].contains n
      && (List.range 31).all (fun i => if i + 1 < 2 * n then decide (s.patAng k j i < s.patAng k j (i + 1)) else decide (s.patAng k j (i + 1) = 0))
      && fLt 0#32 m && fLe m f32One
      && fLt (BitVec.ofNat 32 (band j / 2 ^ 32)) (BitVec.ofNat 32 (band j))
      && on.all fun i => i = j || nOf i ≠ n || (band i = band j && !fEq (s.patM k i) m))
    && fLt (s.sloF k Obj.SLC_SYNC_EXIT) (s.sloF k Obj.SLC_SYNC_ENTER))

/-- A test run is in progress (R422). -/
def State.testRuns (s : State) : Bool := s.dia.run.isSome

/-- A cause of degraded mode that an enable would find (Table 12.6): one that stands, a lost primary or monitor, the Referee's
encoder path, COMPARE_FAULT, the housekeeping round. -/
def State.causeStands (s : State) (k : Nat) : Bool :=
  !(s.rs k).degCauses.isEmpty || s.hk.absent || s.ref.compareFault
  || (List.range 64).any (fun n => s.isMon n && bits (s.monCfg n) 120 118 = k && (s.sdU n).lost)
  || (List.range 16).any (fun j => slotLocked (s.slot k j) && (s.sdU (slotCh (s.slot k j))).lost)
  || (decide (s.obj (safo k Obj.SAF_ENC) < 8) && (s.rs k).enc.fault)

/-- Whether the safety functions forbid an enable (R237, R300, R309, R397). -/
def State.enableLocked (s : State) (k : Nat) : Bool :=
  s.stoRequest || s.ref.fault || s.drivesLocked || ((s.tryRelease k).rs k).forced.isSome
  || ((s.rs k).degLeft = some 0 && s.causeStands k)

/-! ## The enable -/

/-- Place the carrier (R144): the first sampling extreme and the valley from which extremes count, as ticks or, with SLC_PWM_CLK 1, as
edges of MCLK_IN. -/
def State.firstExtreme (s : State) (k : Nat) : Nat × Nat :=
  let per := s.slo k Obj.SLC_PWM_PERIOD
  let lead := if s.slo k Obj.SLC_PWM_SAMPLE = 0 then per / 2 else 0
  let step := ((List.range 16).filter fun j => slotLocked (s.slot k j)).foldl (fun n j => Nat.lcm n (max 1 (bits (s.mclkCfg (slotCh (s.slot k j) / 8)) 6 0))) 1
  let i := s.tickIndex + 1 + lead
  let e := if s.slo k Obj.SLC_PWM_CLK = 1 then s.extClk.by s.tick + 1 + lead else s.mu.t0 + (i + step - 1) / step * step
  (e, e - lead)

/-- A slice as it comes to ARMED: commanded target and mode stay, everything it measures starts afresh. -/
def Slice.armed (x : Slice) (now : Stamp) (clk tick lead e0 grid period : Nat) : Slice :=
  { torqueMode := x.torqueMode, target := x.target, torqueCmd := x.torqueCmd, torqueNeg := x.torqueNeg, speedLim := x.speedLim
    modeBy := x.modeBy, targetBy := x.targetBy, torqueBy := x.torqueBy, stAt := now
    st := .armed, refresh := clk, lastSample := now, rally := x.rally, slotRes := x.slotRes, loss := { lockout := x.loss.lockout }
    pred := { x.pred with valid := false, omega := 0#32, alpha := 0#32, tRef := now }
    modu := { running := true, since := tick, e0 := e0, grid := grid, period := period, doneTo := now, pend := some .block, pendAt := now + lead } }

/-- Diagnostics that are lost at the enable, and primaries taken over by their monitors (R155, Table 12.6). The degraded time
is whole again where no cause has stood since the start (R309). -/
def State.enableCauses (s : State) (k : Nat) : State :=
  let s := (List.range 16).foldl (fun (s : State) j =>
    let v := s.slot k j
    if slotLocked v && (s.sdU (slotCh v)).lost then (if s.promoted k j then s.degrade k 0 j else s.promote k j) else s) s
  let s := (List.range 64).foldl (fun (s : State) n =>
    if s.isMon n && bits (s.monCfg n) 120 118 = k && (s.sdU n).lost then s.degrade k 1 n else s) s
  let n := s.obj (safo k Obj.SAF_ENC)
  let s := if n < 8 && (s.rs k).enc.fault then s.degrade k 2 n else s
  let s := if s.ref.compareFault then s.degrade k 3 0xFF else s
  let s := if s.hk.absent then s.degrade k 4 0xFF else s
  if !(s.rs k).degSeen then s.modRs k fun r => { r with degLeft := none } else s

/-- Filters of the slice's slots start afresh on the new grid. -/
def State.restartSlots (s : State) (k : Nat) : State :=
  (List.range 16).foldl (fun (s : State) j =>
    let v := s.slot k j
    if slotEn v then s.modSd (slotCh v) fun u => { u with last := none, prev := none, reqs := [] } else s) s

def State.enableSlice (s : State) (k : Nat) : State :=
  let s := ((s.tryRelease k).clampForEnable k).cancelStep
  let e := s.firstExtreme k
  let s := s.modSl k fun x => x.armed s.now s.clk s.tick (s.lead k) e.2 e.1 (s.slo k Obj.SLC_PWM_PERIOD)
  let s := s.modSl k fun x => { x with modu := { x.modu with
    gridEdge := if s.slo k Obj.SLC_PWM_CLK = 1 then e.1 else s.extClk.by e.1, sinceEdge := s.extClk.from s.tick } }
  let s := (s.linksOf k).foldl (fun (s : State) l => s.modGl l fun g =>
    { g with queue := [], sent := [], await := [], missed := [], nextSeq := 0, hi := false, lo := false, lastHi := 0, lastLo := 0 }) s
  let s := s.restartSlots k
  (s.primeContexts k).enableCauses k

/-! ## The drive opcodes (R237) -/

def opDrvEnable (p : Pkt) (s : State) : Res :=
  let k := p.target.toNat
  let per := s.slo k Obj.SLC_PWM_PERIOD
  if !lenIs p 8 then s.fail stBadLength
  else if (s.sl k).st ≠ .disabled || s.fenced k then s.fail stState
  else if s.testRuns then s.fail stBusy
  else if s.enableLocked k then s.fail stSafetyLocked
  else if !s.slotsThere k || !s.slotsClocked k || !s.monitorsFit k || !s.lostCovered k || !s.sourceOwn k || !s.linksFit k then s.fail stState
  else if !zeros p.payload 0 8 then s.fail stRange
  else match s.unlockedSlot k per with
    | some j => (s.lockErr k j).fail stRange
    | none =>
      if !s.periodOk k per || !s.pulsesFit k || !s.tablesOk k then s.fail stRange
      else (s.enableSlice k).okay

/-- LOCKOUT clears (R257). -/
def State.clearLockout (s : State) (k : Nat) : State := s.modSl k fun x => { x with loss := { x.loss with lockout := false } }

/-- DRV_DISABLE also releases a pulse block whose cause has gone, and clears LOCKOUT (R257, R300). -/
def opDrvDisable (p : Pkt) (s : State) : Res :=
  let k := p.target.toNat
  if !lenIs p 8 then s.fail stBadLength
  else match (s.sl k).st with
    | .disabled => if !zeros p.payload 0 8 then s.fail stRange else (s.clearLockout k).okay
    | .armed | .heldBlock => if !zeros p.payload 0 8 then s.fail stRange else (((s.toDisabled k).clearLockout k).tryRelease k).okay
    | _ => s.fail stState

/-- Take a setpoint for the first sample at or after its stamp. -/
def State.putSet (s : State) (k : Nat) (q : Setpoint) : Res :=
  (s.modSl k fun x => { x with pendSet := x.pendSet ++ [q] }).accept

def opSetSpeed (p : Pkt) (s : State) : Res :=
  let k := p.target.toNat
  let b := p.payload
  let v := leF b 0
  if !lenIs p 16 then s.fail stBadLength
  else if !s.enabled k then s.fail stState
  else if !fFin v || fGt (fAbs v) (s.sloF k Obj.SLC_SPEED_MAX) || !zeros b 4 4 then s.fail stRange
  else if s.tooLate (le b 8 8) then s.fail stTooLate
  else s.putSet k { torqueMode := false, value := v, limit := 0#32, apply := le b 8 8, sess := p.session.toNat }

def opSetTorque (p : Pkt) (s : State) : Res :=
  let k := p.target.toNat
  let b := p.payload
  let v := leF b 0
  let l := leF b 4
  if !lenIs p 16 then s.fail stBadLength
  else if !s.enabled k then s.fail stState
  else if !fFin v || !fFin l || fGt (fAbs v) (s.sloF k Obj.SLC_MTPA_TMAX) || !fPositive l || fGt l (s.sloF k Obj.SLC_SPEED_MAX) then
    s.fail stRange
  else if s.tooLate (le b 8 8) then s.fail stTooLate
  else s.putSet k { torqueMode := true, value := v, limit := l, apply := le b 8 8, sess := p.session.toNat }

/-- DRV_STOP. In HELD_SHORT, while a re-catch waits, no stop is in progress: the command cancels the re-catch, and the slice rests
where it is (R257). -/
def opDrvStop (p : Pkt) (s : State) : Res :=
  let k := p.target.toNat
  let m := byteAt p.payload 0
  if !lenIs p 8 then s.fail stBadLength
  else if !s.enabled k then s.fail stState
  else if m > 2 || !zeros p.payload 1 7 then s.fail stRange
  else
    let st := s.stopStatus k m
    if st = stState && (s.sl k).loss.recatchAt.isSome then (s.stop k m 0).okay
    else if st = stState then s.fail stState
    else
      let t := s.stop k m 0
      -- a forced state keeps the slice where it rests: that is the outcome
      let t := if st = stAccepted && t.isForced k && (t.sl k).st = (s.sl k).st then
          t.post (srcSl k) 0x0512 k (m + (t.sl k).st.code * 2 ^ 16)
        else t
      { st := t, status := st }

def opDrvStart (p : Pkt) (s : State) : Res :=
  let k := p.target.toNat
  let x := s.sl k
  if !lenIs p 8 then s.fail stBadLength
  else if s.isForced k then s.fail stSafetyLocked
  else if x.loss.lockout || (s.slo k Obj.SLC_ANGLE_SRC = 1 && !s.hasObs k) then s.fail stState
  else match x.st with
    | .armed => if !zeros p.payload 0 8 then s.fail stRange else (s.startCatch k s.now).accept
    | .heldBlock | .heldShort => if !zeros p.payload 0 8 then s.fail stRange else ((s.rearm k).startCatch k (s.now + 1)).accept
    | _ => s.fail stState

/-- The Referee's watch of a discharge starts with it (R306). -/
def State.watchDischarge (s : State) (k n : Nat) : State :=
  s.modRs k fun r => { r with disDeadline := some (s.clk + 5 * sUnits, n), disFail := false }

/-- WINDING: an unknown angle in SENSORLESS is settled by injection first. -/
def State.discharge (s : State) (k : Nat) (switch : Bool) (n : Nat) : State :=
  let known := (s.sl k).pred.valid
  let settle := if switch || known then 0 else s.slo k Obj.SLC_HF_SETTLE
  let s := s.modSl k fun x => { x with dis := some { switchM := switch, start := s.now, threshold := n, settle := settle } }
  let s := s.go k 5 .discharging none
  -- a forced state ends it at once: that is its outcome
  if (s.sl k).st ≠ .discharging then s.endDischarge k 2
  else
    let s := s.watchDischarge k n
    if switch then s.setPat k .discharge
    else if settle = 0 then s.windingOn k
    else (s.setPat k .zeroVolt).modSl k fun x => { x with blend := { x.blend with
      b := 0#32, target := false, injFrom := some (s.nextPeriodTick k), injTo := none, hf := {} } }

def opDischarge (p : Pkt) (s : State) : Res :=
  let k := p.target.toNat
  let b := p.payload
  let m := byteAt b 0
  let n := le b 2 2
  let x := s.sl k
  let th := if n = 0 then s.slo k Obj.SLC_DIS_THRESH else n
  let l := s.slo k Obj.SLC_DIS_LINK
  let rest := x.st = .armed || x.st = .heldBlock
  let cond := if m = 0 then
      fLe (fAbs x.sig.omegaE) (s.sloF k Obj.SLC_ZERO_SPEED) && (x.pred.valid || (s.sensorless k && !s.hfOff k))
    else decide (l < 24) && s.linkSlice l = k && s.linkRole l = 6
  if !lenIs p 8 then s.fail stBadLength
  else if !rest then s.fail stState
  else if m > 1 || byteAt b 1 ≠ 0 || !zeros b 4 4 || n > 1000 then s.fail stRange
  else if !cond then s.fail stState
  else (s.discharge k (m = 1) th).accept

/-! ## Re-catch and setpoint (R257, R15, R327) -/

/-- RECATCH_DELAY_EXPIRE: the first control sample at or after the delay has come. -/
def effRecatchDelayExpire (sl : Fin 6) (s : State) : State :=
  let k := sl.val
  let x := s.sl k
  match x.loss.recatchAt with
  | some t =>
    if (x.st = .heldBlock || x.st = .heldShort) && t ≤ x.lastSample && !x.loss.lockout then
      let s := s.modSl k fun y => { y with loss := { y.loss with recatchAt := none, recatching := true } }
      (s.rearm k).startCatch k (s.now + 1)
    else s
  | none => s

def effRecatchWindowExpire (sl : Fin 6) (s : State) : State :=
  let k := sl.val
  match (s.sl k).loss.windowEnd with
  | some t => if t < s.now then s.modSl k fun x => { x with loss := { x.loss with windowEnd := none } } else s
  | none => s

/-- SETPOINT_REFRESH: the running CP refreshes every enabled slice. -/
def effSetpointRefresh (s : State) : State :=
  if s.isReady && !s.cp.restarting && !s.cp.halted then
    (List.range 6).foldl (fun (s : State) k => if s.enabled k then s.modSl k fun x => { x with refresh := s.clk, cpLost := false } else s) s
  else s

/-- A refresh by the CP falls on this tick and is still to come. -/
def State.refreshComes (s : State) : Bool :=
  s.awaits fun i => match i with
    | .setpointRefresh _ => true
    | _ => false

/-- SETPOINT_TIMEOUT: the stop of SLC_CP_LOSS_STOP, or in the active of a Flask the end of its role, with no stop of any slice (R327). -/
def effSetpointTimeout (sl : Fin 6) (s : State) : State :=
  let k := sl.val
  let x := s.sl k
  if s.enabled k && !x.cpLost && decide (x.refresh + s.slo k Obj.SLC_SETPOINT_TIMEOUT * msUnits ≤ s.clk) && !s.refreshComes then
    if s.inFlask && s.isActive then
      ({ s with slices := s.slices.map fun e => (e.1, { e.2 with cpLost := true }) } : State).setRole .none 4
    else (s.modSl k fun x => { x with cpLost := true }).stop k (s.slo k Obj.SLC_CP_LOSS_STOP) 1
  else s

/-! ## The commands -/

def execSdMainResult (dt : Nat) (ch : Fin 64) (shadow : Option (Fin 6 × Fin 16)) (stream : List Bool) (s : State) :
    Host.Outcome State Fault Refusal := .next (s.run dt (effMainResult ch shadow stream))
def execSdInterpResult (dt : Nat) (ch : Fin 64) (s : State) : Host.Outcome State Fault Refusal := .next (s.run dt (effInterpResult ch))
def execDrvEnable (dt : Nat) (p : Pkt) (s : State) : Host.Outcome State Fault Refusal :=
  .next (s.runT dt (State.enabling dt (effCmd (p.asRow 0x2000) opDrvEnable)))
def execDrvDisable (dt : Nat) (p : Pkt) (s : State) : Host.Outcome State Fault Refusal :=
  .next (s.run dt (effCmd (p.asRow 0x2001) opDrvDisable))
def execDrvSetSpeed (dt : Nat) (p : Pkt) (s : State) : Host.Outcome State Fault Refusal :=
  .next (s.run dt (effCmd (p.asRow 0x2010) opSetSpeed))
def execDrvSetTorque (dt : Nat) (p : Pkt) (s : State) : Host.Outcome State Fault Refusal :=
  .next (s.run dt (effCmd (p.asRow 0x2011) opSetTorque))
def execDrvStopRamp (dt : Nat) (p : Pkt) (s : State) : Host.Outcome State Fault Refusal :=
  .next (s.run dt (effCmd ((p.asRow 0x2020).withSel 0 0) opDrvStop))
def execDrvStopCoast (dt : Nat) (p : Pkt) (s : State) : Host.Outcome State Fault Refusal :=
  .next (s.run dt (effCmd ((p.asRow 0x2020).withSel 0 1) opDrvStop))
def execDrvStopShort (dt : Nat) (p : Pkt) (s : State) : Host.Outcome State Fault Refusal :=
  .next (s.run dt (effCmd ((p.asRow 0x2020).withSel 0 2) opDrvStop))
def execDrvStart (dt : Nat) (p : Pkt) (s : State) : Host.Outcome State Fault Refusal :=
  .next (s.run dt (effCmd (p.asRow 0x2021) opDrvStart))
def execDrvDischargeWinding (dt : Nat) (p : Pkt) (s : State) : Host.Outcome State Fault Refusal :=
  .next (s.run dt (effCmd ((p.asRow 0x2030).withSel 0 0) opDischarge))
def execDrvDischargeSwitch (dt : Nat) (p : Pkt) (s : State) : Host.Outcome State Fault Refusal :=
  .next (s.run dt (effCmd ((p.asRow 0x2030).withSel 0 1) opDischarge))
def execControlSample (dt : Nat) (sl : Fin 6) (s : State) : Host.Outcome State Fault Refusal := .next (s.run dt (effControlSample sl))
def execZeroSpeedHoldDone (dt : Nat) (sl : Fin 6) (s : State) : Host.Outcome State Fault Refusal :=
  .next (s.run dt (effZeroSpeedHoldDone sl))
def execCatchPulse (dt : Nat) (sl : Fin 6) (s : State) : Host.Outcome State Fault Refusal := .next (s.run dt (effCatchPulse sl))
def execCatchTimeout (dt : Nat) (sl : Fin 6) (s : State) : Host.Outcome State Fault Refusal := .next (s.run dt (effCatchTimeout sl))
def execPolarityTestPhaseEnd (dt : Nat) (sl : Fin 6) (s : State) : Host.Outcome State Fault Refusal :=
  .next (s.run dt (effPolarityTestPhaseEnd sl))
def execRecatchDelayExpire (dt : Nat) (sl : Fin 6) (s : State) : Host.Outcome State Fault Refusal :=
  .next (s.run dt (effRecatchDelayExpire sl))
def execRecatchWindowExpire (dt : Nat) (sl : Fin 6) (s : State) : Host.Outcome State Fault Refusal :=
  .next (s.run dt (effRecatchWindowExpire sl))
def execDischargeTimeout (dt : Nat) (sl : Fin 6) (s : State) : Host.Outcome State Fault Refusal :=
  .next (s.run dt (effDischargeTimeout sl))
def execSetpointRefresh (dt : Nat) (s : State) : Host.Outcome State Fault Refusal := .next (s.run dt effSetpointRefresh)
def execSetpointTimeout (dt : Nat) (sl : Fin 6) (s : State) : Host.Outcome State Fault Refusal :=
  .next (s.run dt (effSetpointTimeout sl))

end Sys2Proof.Machine
end

