-- ==== Sys2Proof/Machine/GateLink.lean ====
section
/-!
DEFINITION. Gate links beyond their EDGE frames: SYNC, MODE, SAFE and RELEASE (R276, R277), STATUS and EXEC (R290, R291),
and what a Flask reads from them (R326, R332, R337).
-/

namespace Sys2Proof.Machine

/-! ## Frames the device sends -/

/-- The CP has started: every link carries SYNC and MODE (Table 3.1 step 5, R276). -/
def State.linksSpeak (s : State) : Bool :=
  match s.mu.phase with
  | .starting n => n = 5
  | .ready => true
  | _ => false

/-- The MODE body of a link (Table 11.7); a link with EN 0 carries SAFE_STATE both off. -/
def State.modeBody (s : State) (l : Nat) : Nat :=
  let c := s.glCfg l
  (if bit c 63 then bits c 56 55 else 0) * 2 ^ 62 + bits c 54 53 * 2 ^ 60 + b2n (bits c 59 57 = 6) * 2 ^ 59
    + b2n (s.glU l).restart * 2 ^ 58 + bits c 47 32 * 2 ^ 40 + bits c 10 0 * 2 ^ 29 + l

/-- Send MODE; a RESTART is told once. -/
def State.sendMode (s : State) (l : Nat) : State :=
  (s.glSend l 0x5C (s.modeBody l)).modGl l fun g => { g with modeDue := none, restart := false }

/-- The content of MODE has changed: the frame is due within 10 µs (R277). -/
def State.modeChanged (s : State) (l : Nat) : State := s.modGl l fun g => { g with modeDue := some (s.now + 10 * usUnits) }

/-- SAFE or RELEASE after a SYNC (R277). -/
def State.sendSafe (s : State) (l : Nat) : State :=
  match (s.glU l).safe with
  | some (code, cause) => s.glSend l 0x7C (code * 2 ^ 62 + cause * 2 ^ 56)
  | none => if (s.glU l).releasing then s.glSend l 0x7C (3 * 2 ^ 62) else s

/-- A SYNC at each multiple of 8,000 units, and what follows it (R276, R277). The claim is that of this tick (R325), so a
handover due on the tick comes first. -/
def effGlSyncSend (l : Fin 24) (s : State) : State :=
  let l := l.val
  if s.linksSpeak && decide ((s.glU l).lastSync / 8000 < s.now / 8000) then
    let s := s.handoverNow
    let g := s.glU l
    let s := s.setGl l { g with lastSync := s.now, syncs := g.syncs + 1, claimA := s.claim, claimB := g.claimA }
    let s := s.glSend l 0xBC (s.now % 2 ^ 40 * 2 ^ 24 + s.claim * 2 ^ 8 + g.lastSent % 256)
    let s := s.sendSafe l
    -- MODE follows every 64th SYNC, behind the edges that wait
    if (g.syncs + 1) % 64 ≠ 0 then s else if s.edgeWaits l then s.modeChanged l else s.sendMode l
  else s

def effGlModeSend (l : Fin 24) (s : State) : State :=
  if s.linksSpeak && (s.glU l.val).modeDue.isSome && decide (s.now % 8000 ≤ 6000) && !s.syncDue l.val && !s.edgeWaits l.val
  then s.sendMode l.val else s

/-! ## Frames the device receives -/

/-- A received frame's CRC is right (R275); a discarded one is counted. -/
def frameOk (start : Byte) (body : BitVec 64) (crc : Byte) : Bool := crc = crc8 (start :: (toLE 8 body.toNat).reverse)

def State.crcErr (s : State) (l : Nat) : State := s.bumpField (Obj.GL_STAT + l) 31 24

/-- The W1C flags a STATUS body sets (Table 11.13). -/
def statusFlags (b : Nat) : Nat :=
  b2n (bit b 40 || bit b 39) * 2 ^ 11 + b2n (bit b 38 || bit b 37) * 2 ^ 10 + b2n (bit b 33) * 2 ^ 8
    + b2n (bit b 32) * 2 ^ 7 + b2n (bit b 31) * 2 ^ 6 + b2n (bit b 34) * 2 ^ 5 + b2n (bit b 41) * 2 ^ 4

/-- GAP reported after a switch joins FLK_LAST_SWITCH (Table 13.11). -/
def State.noteGap (s : State) (l : Nat) : State :=
  let v := s.obj Obj.FLK_LAST_SWITCH
  if s.inFlask && v ≠ 0 then s.setObj Obj.FLK_LAST_SWITCH (putBits (putBits v 72 72 0) (80 + l) (80 + l) 1) else s

/-- The link's own input is invalid at the driver: VALID of the input that THIS_INPUT names (Table 11.9). -/
def ownInvalid (b : Nat) : Bool := if bit b 45 then !bit b 43 else !bit b 44

/-- A handover that the active starts by itself, mirrored as the command would be (R337). -/
def State.autoHandover (s : State) : State :=
  if bit (s.obj Obj.FLK_CFG) 125 && s.flk.handover.isNone && s.mayHandOver then
    let p : Pkt := { opcode := 0x9001#16, len := 16#16, payload := toLE 8 (gridUp (s.now + s.handoverLead)) ++ toLE 8 0 }
    { s with flk := { s.flk with byPath := true } }.mirrorPut s.now (.command p)
  else s

/-- What a Flask member reads from a STATUS frame (Table 13.4, R337). -/
def State.flaskStatus (s : State) (l b : Nat) : State :=
  let seen := bits b 63 48
  let g := s.glU l
  let higher := decide (s.claim < seen) && decide (2 ≤ seen / 2 ^ 14)
  let partner := match s.flk.partner with
    | some h => decide (seen = h.claim) && decide (seen / 2 ^ 14 = 1)
    | none => false
  let s := s.setGl l { g with
    claimOwn := if seen = s.claim then g.claimOwn + 1 else 0
    claimHigher := if higher then g.claimHigher + 1 else 0
    pathLoss := if partner && ownInvalid b then g.pathLoss + 1 else 0 }
  let g := s.glU l
  match s.flk.role with
  | .candidate => if 3 ≤ g.claimHigher then s.demote else s.tryPromote
  | .active =>
    if 3 ≤ g.claimHigher then s.demote
    else if g.pathLoss = 3 then
      ((s.setFlag Obj.FLK_STATUS 0x40000).post srcCp 0x0703 l 0).autoHandover
    else s
  | _ => s

/-- The claim check outside a Flask: three consecutive frames that do not show the own claim fault an enabled slice's
link. A frame may still show the claim of the SYNC before the latest. -/
def State.claimCheck (s : State) (l b : Nat) : State :=
  let g := s.glU l
  let shown := bits b 63 48 = g.claimA || bits b 63 48 = g.claimB
  let s := s.putFlag (Obj.GL_STAT + l) 17 shown
  let k := s.linkSlice l
  if s.inFlask then s
  else
    let n := if shown || !(decide (k < 6) && s.enabled k) then 0 else g.claimMiss + 1
    let s := s.modGl l fun g => { g with claimMiss := n }
    if 3 ≤ n then s.linkFault l 7 else s

/-- The faults a STATUS reports (R291). -/
def State.statusFaults (s : State) (l b : Nat) : State :=
  let s := if bit b 40 || bit b 39 then s.linkFault l 2 else s
  let s := if bit b 38 || bit b 37 then s.linkFault l 3 else s
  if bit b 31 then s.linkFault l 4 else s

def effGlStatusRx (l : Fin 24) (body : BitVec 64) (crc : Byte) (s : State) : State :=
  let l := l.val
  let b := body.toNat
  if !s.linksSpeak then s
  else if !frameOk 0xBC#8 body crc then s.crcErr l
  else
    let s := s.setObj (Obj.GL_STATUS_LAST + l) b
    let s := s.modGl l fun g => { g with
      lastStatus := some s.clk, statusSeen := true, releasing := g.releasing && bit b 42 }
    let s := s.setFlag (Obj.GL_STAT + l) (statusFlags b)
    let s := if bit b 41 then s.noteGap l else s
    let s := s.claimCheck l b
    let s := if bit (s.glCfg l) 63 then s.statusFaults l b else s
    if s.inFlask then s.flaskStatus l b else s

/-- A frame of the wanted kind and link arrives on this tick and is still to come (R66). -/
def State.linkFrameComes (s : State) (exec : Bool) (l : Nat) : Bool :=
  s.awaits fun i => match i with
    | .glStatusRx _ n body crc => !exec && n.val = l && frameOk 0xBC#8 body crc
    | .glExecRx _ n _ _ => exec && n.val = l
    | _ => false

/-- No valid STATUS by the previous one plus 2.5 µs: RX_LOST (R291, R66). -/
def effGlStatusTimeout (l : Fin 24) (s : State) : State :=
  let l := l.val
  match (s.glU l).lastStatus with
  | some t =>
    if s.linksSpeak && bit (s.glCfg l) 63 && decide (t + 10000 ≤ s.clk) && !s.linkFrameComes false l then
      let s := s.modGl l fun g => { g with lastStatus := none, statusSeen := false, claimOwn := 0 }
      (s.setFlag (Obj.GL_STAT + l) 0x2000).linkFault l 0
    else s
  | none => s

/-! ## Echo checking -/

/-- Whether a standby compares this link's echoes with its own edges (R332): the link shows the active's claim. -/
def State.echoShadow (s : State) (l : Nat) : Bool :=
  s.inFlask && s.flk.role = .standby && !s.flk.loose &&
    (match s.flk.partner with
     | some h => decide (bits (s.obj (Obj.GL_STATUS_LAST + l)) 63 48 = h.claim) && decide (h.claim / 2 ^ 14 = 3)
     | none => false)

/-- An echo error, or a clean echo, on a link that shows the own claim (R290, R291). -/
def State.echoJudge (s : State) (l : Nat) (bad : Bool) : State :=
  if bad then
    let n := min 3 (bits (s.obj (Obj.GL_STAT + l)) 19 18 + 1)
    let s := (s.setField (Obj.GL_STAT + l) 19 18 n).setFlag (Obj.GL_STAT + l) 0x1000
    if 3 ≤ n then s.linkFault l 1 else s
  else s.setField (Obj.GL_STAT + l) 19 18 0

/-- A standby's comparison (R332). -/
def State.stepJudge (s : State) (l : Nat) (bad : Bool) : State :=
  if bad then
    let n := (s.glU l).stepErr + 1
    let s := s.modGl l fun g => { g with stepErr := n }
    let s := (s.setFlag Obj.FLK_STATUS 0x10000).bump Obj.FLK_STEP_ERR_CNT 0xFFFFFFFF
    if 3 ≤ n && s.flk.step = .inStep then { s with flk := { s.flk with step := .outOfStep } } else s
  else s.modGl l fun g => { g with stepErr := 0 }

def State.judge (s : State) (l : Nat) (bad : Bool) : State :=
  if bit (s.obj (Obj.GL_STAT + l)) 17 then s.echoJudge l bad
  else if s.echoShadow l then s.stepJudge l bad
  else s

/-- Distance of two stamps. -/
def dist (a b : Stamp) : Nat := if a ≤ b then b - a else a - b

/-- An EXEC echo (R290, R274). -/
def effGlExecRx (l : Fin 24) (body : BitVec 64) (crc : Byte) (s : State) : State :=
  let l := l.val
  let b := body.toNat
  if !s.linksSpeak then s
  else if !frameOk 0x3C#8 body crc then s.crcErr l
  else
    let g := s.glU l
    let sq := bits b 31 16
    let k := s.linkSlice l
    let e := g.await.find? fun d => d.seq = sq
    let old := if e.isSome then none else g.missed.find? fun d => d.seq = sq
    let ref := match e.or old with
      | some d => d.stamp
      | none => g.lastSync
    let t := expand32 (bits b 63 32) ref
    let own := bit (s.obj (Obj.GL_STAT + l)) 17
    -- a standby compares the echoes of input A, and DELAYED is no failure for it (R332)
    let shadow := !own && s.echoShadow l
    let bad := match e with
      | some d => d.high ≠ bit b 15 || d.on ≠ bit b 14 || (bit b 12 && !shadow) || decide (bits (s.glCfg l) 31 24 < dist t d.stamp)
          || decide (d.stamp + 8 * usUnits < t)
      | none => old.isSome
    let judged := (e.isSome || old.isSome) && (own || (shadow && !bit b 13))
    let flags := b2n (bit b 14) + 2 * b2n (bit b 15) + 4 * b2n (bit b 13) + 8 * b2n (bit b 12) + 16 * b2n (bit b 11)
      + 32 * b2n (bad && judged)
    let s := s.record (0xE8 + l) t (toLE 8 (match e.or old with | some d => d.stamp | none => 0) ++ toLE 2 sq ++ toLE 1 flags
      ++ toLE 1 k ++ toLE 4 0)
    if shadow && bit b 13 then s
    else
      let s := s.modGl l fun g => { g with await := g.await.filter fun d => d.seq ≠ sq, missed := g.missed.filter fun d => d.seq ≠ sq }
      if e.isSome then s.judge l bad else s

/-- A missing echo: an error, and a record with MISMATCH under the commanded stamp, since none was executed; the echo that comes
later still finds its edge (R290; log entry 32). -/
def State.echoMissing (s : State) (l : Nat) (d : Edge) : State :=
  let judged := bit (s.obj (Obj.GL_STAT + l)) 17 || s.echoShadow l
  let s := s.modGl l fun g => { g with missed := (d :: g.missed).take 32 }
  let s := if judged then s.record (0xE8 + l) d.stamp (toLE 8 d.stamp ++ toLE 2 d.seq ++ toLE 1 (b2n d.on + 2 * b2n d.high + 32)
      ++ toLE 1 (s.linkSlice l) ++ toLE 4 0) else s
  s.judge l true

/-- No echo by the commanded stamp plus 8 µs: each such edge counts as an echo error (R290). -/
def effGlEchoTimeout (l : Fin 24) (s : State) : State :=
  let l := l.val
  let late := (s.glU l).await.filter fun d => decide (d.stamp + 8 * usUnits ≤ s.now)
  if s.linksSpeak && !s.linkFrameComes true l then
    let s := s.modGl l fun g => { g with await := g.await.filter fun d => !decide (d.stamp + 8 * usUnits ≤ s.now) }
    late.foldl (fun (s : State) d => s.echoMissing l d) s
  else s

/-- SYS_FUNC_REINIT of a link: FAULT is cleared, MODE carries RESTART, the force ends (R291). -/
def State.linkReinit (s : State) (l : Nat) : State :=
  let s := (s.putFlag (Obj.GL_STAT + l) 15 false).setField (Obj.GL_STAT + l) 19 18 0
  let s := s.modGl l fun g => { g with linkSafe := false, restart := true }
  (s.modeChanged l).linkRefresh l

/-! ## The commands -/

def execGlSyncSend (dt : Nat) (l : Fin 24) (s : State) : Host.Outcome State Fault Refusal := .next (s.run dt (effGlSyncSend l))
def execGlModeSend (dt : Nat) (l : Fin 24) (s : State) : Host.Outcome State Fault Refusal := .next (s.run dt (effGlModeSend l))
def execGlStatusRx (dt : Nat) (l : Fin 24) (body : BitVec 64) (crc : Byte) (s : State) : Host.Outcome State Fault Refusal :=
  .next (s.run dt (effGlStatusRx l body crc))
def execGlExecRx (dt : Nat) (l : Fin 24) (body : BitVec 64) (crc : Byte) (s : State) : Host.Outcome State Fault Refusal :=
  .next (s.run dt (effGlExecRx l body crc))
def execGlEchoTimeout (dt : Nat) (l : Fin 24) (s : State) : Host.Outcome State Fault Refusal := .next (s.run dt (effGlEchoTimeout l))
def execGlStatusTimeout (dt : Nat) (l : Fin 24) (s : State) : Host.Outcome State Fault Refusal :=
  .next (s.run dt (effGlStatusTimeout l))

end Sys2Proof.Machine
end

