-- ==== Sys2Proof/Machine/Objects.lean ====
section
/-!
DEFINITION. The object opcodes (R127 to R132): reading, writing one object or a block, subscriptions; the checks a write
makes (R131, R138, R140, R146, R260, R266, R292, R312) and what a written value starts.
-/

namespace Sys2Proof.Machine

/-! ## Records -/

/-- The object record at an offset of a payload (Table 5.20). -/
def recAt (b : List Byte) (off : Nat) : ObjRec :=
  { idx := le b off 4, ty := byteAt b (off + 4), len := byteAt b (off + 5), data := le b (off + 8) 16 }

/-- The record a read returns for an index (R127). -/
def State.readRec (s : State) (i : Nat) : List Byte :=
  match descOf i with
  | some d => recBytes i d.ty (typeLen d.ty) stOk (s.readObj i)
  | none => recBytes i 0 0 stRange 0

/-- The first stamp at which INCREMENT had its value, as far as the model keeps it (R130). -/
def State.incAt (s : State) : Stamp :=
  match (s.time.marks.takeWhile fun m => m.2.2 = s.time.inc).getLast? with
  | some m => m.2.1 / 2 ^ 32
  | none => s.now

/-- Stamp and session of the last change of a value that a unit's own state holds (R130), where the model keeps them. -/
def State.liveMeta (s : State) (i : Nat) : Option Meta :=
  if 0x1000 ≤ i && i < 0x4000 then
    let x := s.sl ((i - 0x1000) / 0x800)
    let o := 0x1000 + (i - 0x1000) % 0x800
    if o = Obj.SLC_STATE then some { stamp := x.stAt }
    else if o = Obj.SLC_MODE then some x.modeBy
    else if o = Obj.SLC_SPEED_TARGET then some x.targetBy
    else if o = Obj.SLC_TORQUE_CMD then some x.torqueBy
    else if Obj.SLC_PRED_POS64 ≤ o && o ≤ Obj.SLC_PRED_REF_STAMP then some { stamp := x.pred.tRef }
    else if o = Obj.SLC_GROUP_WINNER || o = Obj.SLC_GROUP_SIGN then some { stamp := x.groupAt }
    else if o = Obj.SLC_BLEND then some { stamp := x.lastSample }
    else none
  else if 0x4000 ≤ i && i < 0x8000 then
    let x := s.ctx ((i - 0x4000) / 0x100)
    let o := 0x4000 + (i - 0x4000) % 0x100
    if o = Obj.ENG_HDR_LO || o = Obj.ENG_HDR_HI then some x.coefAll
    else if Obj.ENG_COEF ≤ o && o ≤ Obj.ENG_COEF + 68 then some (bget x.coefAll x.coefBy (o - Obj.ENG_COEF))
    else if Obj.ENG_XHAT ≤ o && o ≤ Obj.ENG_XHAT + 7 then some { stamp := x.stateAt }
    else if Obj.ENG_Z ≤ o && o ≤ Obj.ENG_Z + 3 then some { stamp := x.stateAt }
    else if Obj.ENG_OUT ≤ o && o ≤ Obj.ENG_OUT + 3 then some { stamp := x.outAt }
    else if o = Obj.ENG_LAST_SAMPLE || o = Obj.ENG_LAST_OUTPUT then some { stamp := x.lastOutput }
    else none
  else if i = Obj.TIM_INCREMENT then some { stamp := s.incAt, session := s.time.incBy }
  else if Obj.ENC_COUNT ≤ i && i < Obj.ENC_COUNT + 8 then
    some { stamp := max (s.encU (i - Obj.ENC_COUNT)).edgeAt (bget {} s.dict.info (Obj.ENC_CFG + (i - Obj.ENC_COUNT)) : Meta).stamp }
  else if Obj.ENC_SPEED ≤ i && i < Obj.ENC_SPEED + 8 then some { stamp := (s.encU (i - Obj.ENC_SPEED)).speedAt }
  else none

/-- Stamp and session of an object's last change (R130). Of a value that a unit holds and of which the model keeps none, the stamp
is free and the session 0xFE (log entry 18). -/
def State.changed (s : State) (i : Nat) : Meta :=
  if (s.liveObj i).isNone then bget {} s.dict.info i
  else (s.liveMeta i).getD { stamp := Config.changeStamp i s.tick }

/-- Stamp of an object's last change. -/
def State.changeStamp (s : State) (i : Nat) : Stamp := (s.changed i).stamp

def State.metaBytes (s : State) (i : Nat) : List Byte :=
  let m := s.changed i
  let d := descOf i
  toLE 8 m.stamp ++ toLE 1 m.session ++ toLE 1 (d.elim 0 Desc.acc) ++ toLE 1 (d.elim 0 Desc.per) ++ toLE 5 0

/-! ## Checks of a write -/

/-- A GAIN and an OFFSET of at most 1.0 × 10^30, the GAIN not zero (R146, R165). -/
def scaleOk (v : Nat) : Bool :=
  let g : F32 := BitVec.ofNat 32 (bits v 63 32)
  let o : F32 := BitVec.ofNat 32 (bits v 31 0)
  let top : F32 := 0x7149F2CA#32
  fFin g && fFin o && decide ((fDyS g).man ≠ 0) && fLe (fAbs g) top && fLe (fAbs o) top

/-- Slice objects written only while the slice is disabled (R138, R260, R292), by the index of slice A. -/
def lockedObj (o : Nat) : Bool :=
  o = Obj.SLC_TOPOLOGY || (Obj.SLC_ANGLE_SRC ≤ o && o ≤ Obj.SLC_SPEED_CTX) || (0x1020 ≤ o && o ≤ 0x102B)
  || (Obj.SLC_SEED_MAP ≤ o && o ≤ Obj.SLC_SEED_MAP + 3) || o = Obj.SLC_DIS_LINK || o = Obj.SLC_PWM_SEL || o = Obj.SLC_PWM_CLK
  || o = Obj.SLC_PWM_SAMPLE || o = Obj.SLC_LEAD_TIME || (0x1200 ≤ o && o ≤ 0x120F) || (0x1400 ≤ o && o ≤ 0x17FF)

/-- A slice that an OWNER code names is enabled. -/
def State.ownerRuns (s : State) (o : Nat) : Bool := decide (o < 6) && s.enabled o

/-- The state of device and unit forbids the write (step 11 of Table 5.2): ST_STATE. -/
def State.writeBlocked (s : State) (i v : Nat) : Bool :=
  if 0x1000 ≤ i && i < 0x4000 then lockedObj (0x1000 + (i - 0x1000) % 0x800) && s.enabled ((i - 0x1000) / 0x800)
  else if Obj.GL_CFG ≤ i && i < Obj.GL_CFG + 24 then
    s.ownerRuns (bits (s.obj i) 62 60) || s.ownerRuns (bits v 62 60)
  else if Obj.ENC_CFG ≤ i && i < Obj.ENC_CFG + 8 then
    s.ownerRuns (s.encOwner (i - Obj.ENC_CFG)) || s.ownerRuns (bits v 124 122)
  else if Obj.ENC_SSI_CFG ≤ i && i < Obj.ENC_SSI_CFG + 8 then s.ownerRuns (s.encOwner (i - Obj.ENC_SSI_CFG))
  else if Obj.SD_MCLK_CFG ≤ i && i < Obj.SD_MCLK_CFG + 8 then
    let g := i - Obj.SD_MCLK_CFG
    (List.range 8).any (fun j => s.isMon (8 * g + j))
    || (List.range 6).any (fun k => s.enabled k && (List.range 16).any (fun j => slotEn (s.slot k j) && decide (slotCh (s.slot k j) / 8 = g)))
  else if i = Obj.AUX_HOST_TRIG then
    let u := bits v 9 8
    !bit (s.auxCfg u) 29 || !s.auxUsable u
  else if i = Obj.MGT_LIFECYCLE_REQ then
    (List.range 6).any fun k => !((s.sl k).st = .disabled || (s.sl k).st = .armed || (s.sl k).st = .heldBlock)
  else false

/-- A second owner of a channel (R140). -/
def State.ownedElsewhere (s : State) (i v : Nat) : Bool :=
  let k := (i - 0x1000) / 0x800
  slotEn v && (s.isMon (slotCh v) || (List.range 6).any (fun k' => (List.range 16).any fun j =>
    slc k' (Obj.SLC_SD_SLOT + j) ≠ slc k (0x1000 + (i - 0x1000) % 0x800) && slotEn (s.slot k' j) && slotCh (s.slot k' j) = slotCh v))

/-- A DISCHARGE link's SAFE_STATE and GAP_STATE are both off, and its slice has no other one (R261). That a write which would break
this returns ST_RANGE is the model's choice (log entry 18). -/
def State.dischargeOk (s : State) (l v : Nat) : Bool :=
  bits v 59 57 ≠ 6 || (bits v 56 53 = 0
    && (!bit v 63 || 6 ≤ bits v 62 60 || (s.linksOf (bits v 62 60)).all fun m => m = l || s.linkRole m ≠ 6))

/-- Whether a value is in range, beyond what the object's descriptor says. -/
def State.valueOk (s : State) (i v : Nat) : Bool :=
  let x : F32 := BitVec.ofNat 32 v
  if 0x1000 ≤ i && i < 0x4000 then
    let k := (i - 0x1000) / 0x800
    let o := 0x1000 + (i - 0x1000) % 0x800
    let top := s.sloF k Obj.SLC_I_MAX
    if o = Obj.SLC_ID_MIN then fLe (fNeg top) x && fLe x 0#32
    else if o = Obj.SLC_DIS_ID then fLe (fAbs x) top && !fEq x 0#32
    else if o = Obj.SLC_PWM_PERIOD then s.periodOk k v && (!s.enabled k || (s.unlockedSlot k v).isNone)
    else if o = Obj.SLC_DEADTIME then (s.linksOf k).all fun l => decide (bits (s.glCfg l) 47 32 ≤ v)
    else if 0x1200 ≤ o && o ≤ 0x120F then
      scaleOk v && decide (slotPhase v ≤ (if slotRole v = 0 then 5 else if slotRole v = 2 then 1 else 0))
      && (slotMon v = 0xFF || decide (slotMon v ≤ 0x3F)) && !s.ownedElsewhere i v
    else true
  else if Obj.SAF_SD_MON ≤ i && i < Obj.SAF_SD_MON + 64 then
    scaleOk v && decide (bits v 123 121 ≤ (if bits v 126 124 = 0 then 5 else 0))
  else if Obj.GL_CFG ≤ i && i < Obj.GL_CFG + 24 then s.dischargeOk (i - Obj.GL_CFG) v
  else if Obj.AUX_CH_SCALE ≤ i && i < Obj.AUX_CH_SCALE + 32 then scaleOk v
  else if (Obj.CAN_PUB ≤ i && i < Obj.CAN_PUB + 256) || (Obj.ETH_PUB ≤ i && i < Obj.ETH_PUB + 64) then
    decide (bits v 63 32 < bits v 95 64)
  else if Obj.ETH_SUB ≤ i && i < Obj.ETH_SUB + 64 then !bit v 127 || decide (1 ≤ bits v 125 112)
  else if i = Obj.AUX_HOST_TRIG then v &&& 0xFCF8 = 0
  else if Obj.ENC_SSI_CFG ≤ i && i < Obj.ENC_SSI_CFG + 8 then decide (bits v 57 52 ≤ bits v 63 58)
  else if i = Obj.ENC_SSI_TRIG then decide (v ≤ 7) && s.encMode v = 2
  else if i = Obj.MGT_LIFECYCLE_REQ then decide (lcOf s.mu.lcWords < v ∧ v ≤ 4)
  else if i = Obj.MGT_FEATURE_GATE then
    bits v 31 24 = 0 && s.gensFit v
    && (List.range 3).all fun j => decide (v / 2 ^ (8 * j) % 256 ≤ s.mu.ownGens / 2 ^ (8 * j) % 256)
  else true

/-- The safety range, whose writes are staged (Table 5.22, R312). -/
def safIdx (i : Nat) : Bool := decide (0x10000 ≤ i ∧ i < 0x14000)

/-- The first check that a write of one record fails, in the order of Table 5.2; ST_OK where none does. A record of a
mirrored command has been checked for privilege by the active. -/
def State.recCheck (s : State) (p : Pkt) (b : List Byte) (off : Nat) : Nat :=
  let r := recAt b off
  let own := s.host.current.isSome
  if r.idx > 0x1FFFF then stRange
  else if own && !s.mayWrite p r.idx then stDenied
  else match descOf r.idx with
    | none => stRange
    | some d =>
      if d.acc = 0 then stDenied
      else if r.idx = Obj.MGT_LIFECYCLE_REQ && own && !s.moveAllowed p r.data then stDenied
      else if r.ty ≠ d.ty || r.len ≠ typeLen d.ty then stBadLength
      else if s.writeBlocked r.idx r.data then stState
      else if !zeros b (off + 6) 2 || decide (2 ^ (8 * typeLen d.ty) ≤ r.data) || !d.inRange r.data || !s.valueOk r.idx r.data then
        stRange
      else if safIdx r.idx && (s.stagedOf p.session.toNat).length = 256
          && !(s.stagedOf p.session.toNat).any (fun e => e.idx = r.idx) then stRange
      else if d.per = 1 && s.mu.norBad then stInternal
      else stOk

/-- What a refused write leaves behind: a period that would unlock a slot posts SD_LOCK_ERR (R143). -/
def State.refused (s : State) (r : ObjRec) : State :=
  let k := (r.idx - 0x1000) / 0x800
  if 0x1000 ≤ r.idx && r.idx < 0x4000 && 0x1000 + (r.idx - 0x1000) % 0x800 = Obj.SLC_PWM_PERIOD && s.enabled k
      && s.periodOk k r.data then
    match s.unlockedSlot k r.data with
    | some j => s.lockErr k j
    | none => s
  else s

/-! ## What a written value starts -/

/-- A slot and its channel start afresh (R138, R445). -/
def State.slotWritten (s : State) (k j : Nat) : State :=
  let s := s.modSl k fun x => { x with
    slotRes := bdel x.slotRes j, slotPrev := bdel x.slotPrev j, shadowRes := bdel x.shadowRes j, shadowPrev := bdel x.shadowPrev j,
    slotOld := bdel x.slotOld j, shadowOld := bdel x.shadowOld j, shadowOvr := bdel x.shadowOvr j, slotInterp := bdel x.slotInterp j, promoteAt := bdel x.promoteAt j }
  if slotEn (s.slot k j) then s.freshSd (slotCh (s.slot k j)) else s

/-- A life-cycle move (R54, R55): entry to RETURNED or beyond erases keys and binding first; the OTP word is programmed
before the command completes, within its tick; a reset of that tick interrupts it (`State.lcAbort`). -/
def State.moveLc (s : State) (v : Nat) : State :=
  let old := lcOf s.mu.lcWords
  let anchors := s.mu.anchors.map fun a => { a with revoked := true }
  let s : State := if 3 ≤ v then { s with mu := { s.mu with anchors := anchors, binding := none }, ref := { s.ref with pw := none } } else s
  let s : State := { s with mu := { s.mu with
    lcWrite := some (s.tick, v - 1, s.mu.lcWords.getD (v - 1) 0), lcWords := s.mu.lcWords.set (v - 1) (lcPattern (v - 1)) } }
  s.post srcMu 0x0923 0xFF (old + v * 2 ^ 8)

/-- Objects of a running slice whose writes take effect at its next control sample (R260, R292), by the index of slice A. -/
def sampledIdx (o : Nat) : Bool :=
  o = Obj.SLC_FAULT_STOP || decide (Obj.SLC_ACC ≤ o ∧ o ≤ Obj.SLC_ZERO_TIME) || decide (Obj.SLC_HF_AMPL ≤ o ∧ o ≤ Obj.SLC_PLL_BW)
  || decide (Obj.SLC_LOSS_N ≤ o ∧ o ≤ Obj.SLC_ASC_SIDE) || decide (Obj.SLC_CATCH_WIDTH ≤ o ∧ o ≤ Obj.SLC_CATCH_EMIN)
  || decide (Obj.SLC_VDC_TRIP ≤ o ∧ o ≤ Obj.SLC_DIS_ID) || decide (Obj.SLC_DEADTIME ≤ o ∧ o ≤ Obj.SLC_MIN_PULSE)
  || decide (Obj.SLC_SYNC_ENTER ≤ o ∧ o ≤ Obj.SLC_SYNC_EXIT)

/-- The value that a write replaces stays in force until the next control sample. -/
def State.holdOld (s : State) (k o old : Nat) : State :=
  if sampledIdx o && s.enabled k && (bfind (s.sl k).before o).isNone then
    s.modSl k fun x => { x with before := bset x.before o (s.now, old) }
  else s

/-- What the write of an object starts beyond its value; `old` is the value before. -/
def State.written (s : State) (i old v : Nat) : State :=
  if 0x1000 ≤ i && i < 0x4000 then
    let k := (i - 0x1000) / 0x800
    let o := 0x1000 + (i - 0x1000) % 0x800
    let s := s.holdOld k o old
    if o = Obj.SLC_PWM_PERIOD && s.enabled k then
      s.modSl k fun x => { x with modu := { x.modu with pendPeriod := x.modu.pendPeriod ++ [(v, s.now + s.lead k)] } }
    else if 0x1200 ≤ o && o ≤ 0x120F then s.slotWritten k (o - 0x1200)
    else s
  else if Obj.SD_MCLK_CFG ≤ i && i < Obj.SD_MCLK_CFG + 8 then
    let g := i - Obj.SD_MCLK_CFG
    let runs := bit v 15 && !bit v 14
    let s : State := { s with mclk := { s.mclk with
      pendDiv := bset s.mclk.pendDiv g (v, s.now), started := if runs then s.mclk.started else bdel s.mclk.started g } }
    if bit v 14 && !s.mclk.inRun then s.mclkFault 1 else s
  else if Obj.SD_STAT ≤ i && i < Obj.SD_STAT + 64 then
    s.modSd (i - Obj.SD_STAT) fun u => { u with
      tripsHi := if bit v 5 && !bit (s.obj i) 5 then 0 else u.tripsHi
      tripsLo := if bit v 6 && !bit (s.obj i) 6 then 0 else u.tripsLo }
  else if i = Obj.ETH0_TXTS_STATUS || i = Obj.ETH0_TXTS_STATUS + 0x10 then
    if bit v 15 && !bit (s.setNow i) 15 then s.modEth ((i - Obj.ETH0_TXTS_STATUS) / 0x10) fun u => { u with ovf := false } else s
  else if Obj.ENC_CFG ≤ i && i < Obj.ENC_CFG + 8 then
    s.encWritten (i - Obj.ENC_CFG) old v
  else if Obj.GL_CFG ≤ i && i < Obj.GL_CFG + 24 then (s.modeChanged (i - Obj.GL_CFG)).linkRefresh (i - Obj.GL_CFG)
  else if Obj.CAN_PUB ≤ i && i < Obj.CAN_PUB + 256 then { s with canPub := bset s.canPub (i - Obj.CAN_PUB) s.now }
  else if Obj.ETH_PUB ≤ i && i < Obj.ETH_PUB + 64 then { s with canPub := bset s.canPub (256 + i - Obj.ETH_PUB) s.now }
  else if i = Obj.AUX_HOST_TRIG then s.fireAux.auxTrigger (bits v 9 8) (bits v 2 0) s.now true
  else if i = Obj.ENC_SSI_TRIG then s.ssiTrigger v s.now
  else if i = Obj.MGT_LIFECYCLE_REQ then s.moveLc v
  else if i = Obj.MGT_FEATURE_GATE then s.post srcMu 0x0924 0xFF (v % 2 ^ 24)
  else if Obj.ENG_REF ≤ i && i < Obj.ENG_REF + 0x4000 && (i - Obj.ENG_REF) % 0x100 < 4 then s.refetch ((i - Obj.ENG_REF) / 0x100)
  else s

/-- Put a staged safety record into its session's set (R312). -/
def State.stageRec (s : State) (sess : Nat) (r : ObjRec) : State :=
  let l := (s.stagedOf sess).filter (fun e => e.idx ≠ r.idx) ++ [r]
  ({ s with ref := { s.ref with staged := bset s.ref.staged sess l } } : State).setObj Obj.SAF_STAGED_COUNT l.length

/-- A value that has passed every check is stored, or staged; its effect starts. -/
def State.putObj (s : State) (sess : Nat) (r : ObjRec) : State :=
  match descOf r.idx with
  | none => s
  | some d =>
    if safIdx r.idx then s.stageRec sess r
    else
      let old := s.obj r.idx
      let v := s.mergeWrite d r.idx r.data
      ((s.setKept sess r.idx (if d.acc = 3 then old else v)).written r.idx old r.data)

/-! ## The opcodes -/

def opObjRead (p : Pkt) (s : State) : Res :=
  let b := p.payload
  let i := le b 0 4
  if !lenIs p 8 then s.fail stBadLength
  else if !zeros b 4 4 || i > 0x1FFFF then s.fail stRange
  else { st := s.readEff i, status := if (descOf i).isSome then stOk else stRange, extra := s.readRec i }

/-- Read `n` objects from `i` on, each as a record, with its metadata where asked. -/
def State.readMany : Nat → Nat → Bool → State → State × List Byte
  | 0, _, _, s => (s, [])
  | n + 1, i, m, s =>
    let out := s.readRec i ++ (if m then s.metaBytes i else [])
    let r := State.readMany n (i + 1) m (s.readEff i)
    (r.1, out ++ r.2)

def opObjReadBlock (p : Pkt) (s : State) : Res :=
  let b := p.payload
  let i := le b 0 4
  let n := le b 4 2
  let m := byteAt b 6
  if !lenIs p 8 then s.fail stBadLength
  else if n = 0 || m > 1 || n > (if m = 1 then 96 else 160) || !zeros b 7 1 || i + n > 0x20000 then s.fail stRange
  else
    let r := State.readMany n i (m = 1) s
    r.1.okWith r.2

def opObjWrite (p : Pkt) (s : State) : Res :=
  let r := recAt p.payload 0
  if !lenIs p 24 then s.fail stBadLength
  else
    let e := s.recCheck p p.payload 0
    if e ≠ stOk then (s.refused r).fail e
    else (s.putObj p.session.toNat r).okWith (toLE 4 r.idx ++ toLE 4 0 ++ toLE 8 s.now)

/-- The check of record `j` of a block: what its own OBJ_WRITE would find, and, among the records before it, no second
owner of its channel and room for its staged object. -/
def State.blockCheck (s : State) (p : Pkt) (j : Nat) : Nat :=
  let b := p.payload
  let r := recAt b (8 + 24 * j)
  let before := (List.range j).map fun m => recAt b (8 + 24 * m)
  let e := s.recCheck p b (8 + 24 * j)
  if e ≠ stOk then e
  else
    let slot := fun (i : Nat) => decide (0x1000 ≤ i ∧ i < 0x4000 ∧ 0x200 ≤ (i - 0x1000) % 0x800 ∧ (i - 0x1000) % 0x800 ≤ 0x20F)
    let clash := slot r.idx && slotEn r.data
      && before.any (fun e => slot e.idx && e.idx ≠ r.idx && slotEn e.data && slotCh e.data = slotCh r.data)
    let staged := ((before ++ [r]).filter fun e => safIdx e.idx).map ObjRec.idx
    let have_ := (s.stagedOf p.session.toNat).map ObjRec.idx
    let link := fun (i : Nat) => decide (Obj.GL_CFG ≤ i ∧ i < Obj.GL_CFG + 24)
    let dis := fun (v : Nat) => bit v 63 && bits v 59 57 = 6
    let second := link r.idx && dis r.data
      && before.any (fun e => link e.idx && e.idx ≠ r.idx && dis e.data && bits e.data 62 60 = bits r.data 62 60)
    if clash || second || decide (256 < (have_ ++ staged).eraseDups.length) && staged.contains r.idx then stRange else stOk

def opObjWriteBlock (p : Pkt) (s : State) : Res :=
  let b := p.payload
  let n := le b 0 2
  if b.length < 8 || b.length ≠ 8 + 24 * n then s.fail stBadLength
  else if n = 0 || n > 169 || !zeros b 2 6 then s.fail stRange
  else match (List.range n).find? (fun j => s.blockCheck p j ≠ stOk) with
    | some j =>
      { st := s.refused (recAt b (8 + 24 * j)), status := s.blockCheck p j, extra := toLE 2 j ++ toLE 6 0 ++ toLE 8 0 }
    | none =>
      let t := (List.range n).foldl (fun (s : State) j => s.putObj p.session.toNat (recAt b (8 + 24 * j))) s
      t.okWith (toLE 2 0xFFFF ++ toLE 6 0 ++ toLE 8 s.now)

/-- The lowest free place of the 256 subscriptions. -/
def State.freeSub (s : State) : Option Nat := (List.range 256).find? fun n => (bget none s.host.subs n).isNone

/-- OBJ_SUBSCRIBE (R127). An index that names no object answers ST_RANGE, for a cancel too: the rule speaks of reads only, and
this is the model's choice (log entry 52). -/
def opObjSubscribe (p : Pkt) (s : State) : Res :=
  let b := p.payload
  let i := le b 0 4
  let mode := byteAt b 4
  let per := le b 8 4
  if !lenIs p 12 then s.fail stBadLength
  else if i > 0x1FFFF || (descOf i).isNone || mode > 2 || !zeros b 5 3 then s.fail stRange
  else if mode = 0 then
    ({ s with host := { s.host with subs := s.host.subs.filter fun e => match e.2 with
      | some x => !(x.session = p.session.toNat && x.idx = i)
      | none => true } } : State).okay
  else if per < 100 || per > 10000000 then s.fail stRange
  else match s.freeSub with
    | none => s.fail stRange
    | some n =>
      let x : Sub := { session := p.session.toNat, link := p.link, seq := p.seq.toNat, idx := i, mode := mode, period := per,
                       accepted := match s.cur with | some d => d.accepted | none => s.now
                       due := if mode = 1 then s.clk + per * usUnits else s.clk, lastVal := s.readObj i }
      ({ s with host := { s.host with subs := bset s.host.subs n (some x) } } : State).okay

/-! ## The commands -/

/-- The row's packet with the index its row names. -/
def Pkt.withIdx (p : Pkt) (i : Nat) : Pkt := (((p.withSel 0 i).withSel 1 (i / 2 ^ 8)).withSel 2 (i / 2 ^ 16)).withSel 3 0

def execObjRead (dt : Nat) (p : Pkt) (s : State) : Host.Outcome State Fault Refusal :=
  .next (s.run dt (effCmd (p.asRow 0x1000) opObjRead))
def execObjReadBlock (dt : Nat) (p : Pkt) (s : State) : Host.Outcome State Fault Refusal :=
  .next (s.run dt (effCmd (p.asRow 0x1002) opObjReadBlock))
def execObjSubscribe (dt : Nat) (p : Pkt) (s : State) : Host.Outcome State Fault Refusal :=
  .next (s.run dt (effCmd (p.asRow 0x1010) opObjSubscribe))
def execObjSubscribeCancel (dt : Nat) (p : Pkt) (s : State) : Host.Outcome State Fault Refusal :=
  .next (s.run dt (effCmd ((p.asRow 0x1010).withSel 4 0) opObjSubscribe))
def execObjWrite (dt : Nat) (p : Pkt) (s : State) : Host.Outcome State Fault Refusal :=
  .next (s.run dt (effCmd (p.asRow 0x1001) opObjWrite))
def execObjWriteBlock (dt : Nat) (p : Pkt) (s : State) : Host.Outcome State Fault Refusal :=
  .next (s.run dt (effCmd (p.asRow 0x1003) opObjWriteBlock))
def execAuxHostTrig (dt : Nat) (p : Pkt) (s : State) : Host.Outcome State Fault Refusal :=
  .next (s.run dt (effCmd ((p.asRow 0x1001).withIdx Obj.AUX_HOST_TRIG) opObjWrite))
def execEncSsiTrig (dt : Nat) (p : Pkt) (s : State) : Host.Outcome State Fault Refusal :=
  .next (s.run dt (effCmd ((p.asRow 0x1001).withIdx Obj.ENC_SSI_TRIG) opObjWrite))
def execMgtLifecycleReq (dt : Nat) (p : Pkt) (s : State) : Host.Outcome State Fault Refusal :=
  .next (s.run dt (effCmd ((p.asRow 0x1001).withIdx Obj.MGT_LIFECYCLE_REQ) opObjWrite))
def execMgtFeatureGate (dt : Nat) (p : Pkt) (s : State) : Host.Outcome State Fault Refusal :=
  .next (s.run dt (effCmd ((p.asRow 0x1001).withIdx Obj.MGT_FEATURE_GATE) opObjWrite))
def execEncCfgWrite (dt : Nat) (n : Fin 8) (p : Pkt) (s : State) : Host.Outcome State Fault Refusal :=
  .next (s.run dt (effCmd ((p.asRow 0x1001).withIdx (Obj.ENC_CFG + n.val)) opObjWrite))
def execEthTxtsPop (dt : Nat) (port : Fin 2) (p : Pkt) (s : State) : Host.Outcome State Fault Refusal :=
  .next (s.run dt (effCmd ((p.asRow 0x1000).withIdx (Obj.ETH0_TXTS_POP + 0x10 * port.val)) opObjRead))

end Sys2Proof.Machine
end

