-- ==== Sys2Proof/Machine/Signals.lean ====
section
/-!
DEFINITION. Mapped signals (R133): a bit field of a frame becomes an object's value, and an object's value a bit field.
-/

namespace Sys2Proof.Machine

/-- The number that bytes spell, most significant first. -/
def ofBE (bs : List Byte) : Nat := bs.foldl (fun v b => v * 256 + b.toNat) 0

/-- Data as 80 bytes. A bit past the received data (a short frame, a remote frame, beyond bit 511) counts as zero, the model's
choice (log entry 41). -/
def pad80 (d : List Byte) : List Byte := (d ++ List.replicate 80 0#8).take 80

/-- The raw field of an entry in frame data. A big-endian field is numbered from bit 7 of byte 0 on, its first bit the most
significant (DESIGN CHOICE, log entry 41). -/
def sigRaw (e : Nat) (d : List Byte) : Nat :=
  let st := bits e 95 87
  let n := bits e 86 81 + 1
  if bit e 125 then ofBE (pad80 d) / 2 ^ (640 - st - n) % 2 ^ n else ofLE (pad80 d) / 2 ^ st % 2 ^ n

/-- Frame data with an entry's field replaced. -/
def sigInsert (e raw : Nat) (d : List Byte) : List Byte :=
  let st := bits e 95 87
  let n := bits e 86 81 + 1
  let v := raw % 2 ^ n
  let old := sigRaw e d
  if bit e 125 then
    let w := ofBE (pad80 d)
    (toLE 80 (w - old * 2 ^ (640 - st - n) + v * 2 ^ (640 - st - n))).reverse.take d.length
  else
    let w := ofLE (pad80 d)
    (toLE 80 (w - old * 2 ^ st + v * 2 ^ st)).take d.length

/-- Active signal map entries with a direction, network and frame, in index order. -/
def State.sigEntries (s : State) (out : Bool) (net frame : Nat) : List Nat :=
  s.dict.vals.filterMap fun e =>
    if 0xC000 ≤ e.1 ∧ e.1 ≤ 0xFFFF ∧ bit e.2 127 ∧ bit e.2 126 = out ∧ bits e.2 123 121 = net ∧ bits e.2 109 96 = frame then some e.2
    else none

def signedType (ty : Nat) : Bool := 6 ≤ ty && ty ≤ 9

/-- What reception makes of a raw value: the object's new value, or none where it is out of range. An OCTETn object takes an
unsigned number. Raw × SCALE + OFFSET is formed exactly and rounded once, ties to even: the model's choice (log entry 41). With SCALE 0.0
a FLOAT32 object takes the raw integer as a number, not as a bit pattern: the model's choice (log entry 52). -/
def sigValue (e : Nat) (d : Desc) (raw : Int) : Option Nat :=
  let sc : F32 := BitVec.ofNat 32 (bits e 63 32)
  let off : F32 := BitVec.ofNat 32 (bits e 31 0)
  let fin := fFin sc && fFin off
  let x := ((Dy.ofInt raw).mul (fDyS sc)).add (fDyS off)
  let plain := decide ((fDyS sc).man = 0) && fFin sc
  let w := 8 * typeLen d.ty
  if d.ty = 10 then
    let y := if plain then f32OfInt raw else f32OfDyS false x
    if (plain || fin) && fFin y then some y.toNat else none
  else if !plain && !fin then none
  else
    let v := if plain then raw else x.rne
    if signedType d.ty then
      if -(2 ^ (w - 1) : Int) ≤ v ∧ v < (2 ^ (w - 1) : Int) then some (unsgn w v) else none
    else if 0 ≤ v ∧ v < (2 ^ w : Int) then some v.toNat else none

/-- A command has changed an object on this tick: its value stands over the device's own change (R131). -/
def State.cmdChanged (s : State) (i : Nat) : Bool :=
  let m : Meta := bget {} s.dict.info i
  decide (m.stamp = s.now) && (bfind s.dict.info i).isSome && m.session ≠ 0xFE && m.session ≠ 0xFD

/-- Write a received signal to its object, with the frame's stamp as the stamp of the change. An object that software may
not write, or not at this moment, keeps its value; so does a SAFETY object, for which nothing is staged either. No privilege is
asked of a signal: an object whose write requires MAINTAIN changes too (R134). A result out of range is counted all the same.
These are the model's choices (log entry 41). -/
def State.sigPut (s : State) (e : Nat) (data : List Byte) (stamp : Stamp) : State :=
  let i := bits e 80 64
  let n := bits e 86 81 + 1
  match descOf i with
  | none => s
  | some d =>
    let raw : Int := if bit e 124 then sgn n (sigRaw e data) else (sigRaw e data : Int)
    match sigValue e d raw with
    | none => s.bump Obj.HOST_SIG_RANGE_ERR 0xFFFFFFFF
    | some v =>
      if !d.inRange v || !s.valueOk i v then s.bump Obj.HOST_SIG_RANGE_ERR 0xFFFFFFFF
      else if d.acc = 0 || d.per = 2 || safIdx i || (d.per = 1 && s.mu.norBad) || s.writeBlocked i v || s.cmdChanged i then s
      else
        let old := s.obj i
        let t := (s.setObj i (if d.acc = 3 then old else s.mergeWrite d i v)).keep i
        let t : State := { t with dict := { t.dict with info := bset t.dict.info i { stamp := stamp, session := 0xFE } } }
        t.written i old v

/-- A frame feeds the signal map entries of its network and frame number. -/
def State.sigReceive (s : State) (net frame : Nat) (data : List Byte) (stamp : Stamp) : State :=
  (s.sigEntries false net frame).foldl (fun (s : State) e => s.sigPut e data stamp) s

/-- The raw value an object's value becomes on transmission: the scaling inverted exactly, rounded to nearest with ties to even
(the model's choice, log entry 41), saturated. A value that is no number leaves the field open. -/
def State.sigOut (s : State) (e : Nat) : Nat × State :=
  let i := bits e 80 64
  let n := bits e 86 81 + 1
  let sc : F32 := BitVec.ofNat 32 (bits e 63 32)
  let off : F32 := BitVec.ofNat 32 (bits e 31 0)
  let v := s.readObj i
  let ty := (descOf i).elim 0 Desc.ty
  let num : Int := if ty = 10 then (fDyS (BitVec.ofNat 32 v)).rne else if signedType ty then sgn (8 * typeLen ty) v else (v : Int)
  let val : F32 := if ty = 10 then BitVec.ofNat 32 v else f32OfInt num
  let x := fDiv (fSub val off) sc
  let lo : Int := if bit e 124 then -(2 ^ (n - 1) : Int) else 0
  let hi : Int := if bit e 124 then 2 ^ (n - 1) - 1 else 2 ^ n - 1
  let fit := fun (r : Int) => unsgn n (max lo (min hi r))
  let exact := if ty = 10 then fDyS val else Dy.ofInt num
  if decide ((fDyS sc).man = 0) && fFin sc then (fit num, s)
  else if fFin sc && fFin off && fFin val then (fit ((exact.sub (fDyS off)).divRne (fDyS sc)), s)
  else if fFin x then (fit (fDy x).rne, s)
  else if fNaN x then s.drawNat
  else (fit (if fSgnB x then lo else hi), s)

/-- Assemble a frame's data from its signal map entries; unmapped bits are zero. -/
def State.assemble (s : State) (net frame len : Nat) : List Byte × State :=
  (s.sigEntries true net frame).foldl (fun (a : List Byte × State) e =>
    let r := a.2.sigOut e
    (sigInsert e r.1 a.1, r.2)) (List.replicate len 0#8, s)

end Sys2Proof.Machine
end

