-- ==== Sys2Proof/Machine/CanBus.lean ====
section
/-!
DEFINITION. The CAN FD controllers (R348 to R368): configuration, filter lists, receive queues, transmission, error
counters, auto-rate detection, published frames, and the CAN opcodes.
-/

namespace Sys2Proof.Machine

/-! ## Configuration -/

/-- Keys of the object-persistence region beyond the dictionary: controller configurations, filter list lengths, Ethernet
configurations, filter entries. -/
def keyCan (c : Nat) : Nat := 0x20000 + c
def keyList (c : Nat) : Nat := 0x20010 + c
def keyEth (p : Nat) : Nat := 0x20020 + p
def keyFilter (c n : Nat) : Nat := 0x24000 + 0x1000 * c + n

/-- A value outside the dictionary waits for its write to the NOR. -/
def State.keepKey (s : State) (k : Nat) : State :=
  if s.dict.dirty.contains k then s else { s with dict := { s.dict with dirty := s.dict.dirty ++ [k] } }

/-- A bit-timing word (R349): `data` for the data phase. -/
def timingOk (data : Bool) (w : Nat) : Bool :=
  let brp := bits w 31 24 + 1
  let t1 := bits w 23 16 + 1
  let t2 := bits w 15 8 + 1
  let sjw := bits w 7 0 + 1
  (if data then t1 ≤ 32 && t2 ≤ 16 else 2 ≤ t1 && t2 ≤ 128) && sjw ≤ 128 && sjw ≤ t2
  && 400 ≤ (if data then 8 else 1) * brp * (1 + t1 + t2)

/-- Table 14.2. A timing word that the mode does not use may be 0 (log entry 42). -/
def canCfgOk (b : List Byte) : Bool :=
  let mode := byteAt b 0
  let fd := bit (byteAt b 1) 0
  let n := byteAt b 6
  let nomW := le b 8 4
  let datW := le b 12 4
  let tun := le b 28 4
  let free := mode = 0 || mode = 3
  let last := if bit tun 30 then 0x1FFFFFFF else 0x7FF
  let depth := fun (i lo hi : Nat) => decide (byteAt b i = 0 ∨ (lo ≤ byteAt b i ∧ byteAt b i ≤ hi))
  let entries := fun (l : List Nat) => (l.map fun i => if byteAt b i = 0 then 0 else 2 ^ byteAt b i).sum
  let pair := fun (i : Nat) =>
    let a := le b (32 + 8 * i) 4
    let d := le b (36 + 8 * i) 4
    if mode = 3 && decide (i < n) then timingOk false a && (d = 0 || timingOk true d) else a = 0 && d = 0
  mode ≤ 3 && byteAt b 1 < 16 && byteAt b 2 ≤ 127 && byteAt b 3 ≤ 1 && le b 4 2 ≤ 10000
  && (if mode = 3 then 1 ≤ n && n ≤ 16 else n = 0) && byteAt b 7 ≤ 31
  && (timingOk false nomW || (free && nomW = 0))
  && (if fd then timingOk true datW || (free && datW = 0) else datW = 0)
  && (List.range 8).all (fun q => depth (16 + q) 3 9) && (List.range 4).all (fun q => depth (24 + q) 2 6)
  && entries ((List.range 12).map (16 + ·)) + 64 ≤ 2048
  && !bit tun 29 && bits tun 28 0 < last
  && (List.range 16).all pair

/-- The controller's stored payload; zero before the first. -/
def Can.cfgBytes (u : Can) : List Byte := if u.cfg.isEmpty then List.replicate 160 0#8 else u.cfg

def Can.rxDepth (u : Can) (q : Nat) : Nat := if byteAt u.cfg (16 + q) = 0 then 0 else 2 ^ byteAt u.cfg (16 + q)
def Can.txDepth (u : Can) (q : Nat) : Nat := if byteAt u.cfg (24 + q) = 0 then 0 else 2 ^ byteAt u.cfg (24 + q)

/-- Stamp units of one nominal bit. -/
def Can.bitUnits (u : Can) : Nat :=
  let w := if u.mode = 3 then le u.cfg (32 + 8 * u.ratePair) 4 else le u.cfg 8 4
  10 * (bits w 31 24 + 1) * (3 + bits w 23 16 + bits w 15 8)

/-- The controller runs: configured, not OFF, not fenced. -/
def State.canOn (s : State) (c : Nat) : Bool := s.isReady && !s.fenced (8 + c) && (s.canU c).mode ≠ 0

def State.rateLocked (s : State) (c : Nat) : Bool := bit (s.obj (Obj.CAN_STAT + c)) 11

/-- It detects a rate (R353). -/
def State.canDetects (s : State) (c : Nat) : Bool := s.canOn c && (s.canU c).mode = 3 && !s.rateLocked c

/-- It never drives the bus (R352). -/
def State.canListens (s : State) (c : Nat) : Bool :=
  let u := s.canU c
  u.mode = 2 || (u.mode = 3 && (!s.rateLocked c || bit (byteAt u.cfg 1) 3)) || (s.inFlask && !s.isActive)

/-- The controller's MSI-X vector (R359). -/
def State.canVector (s : State) (c : Nat) : State :=
  let v := byteAt (s.canU c).cfg 7
  if v = 0 then s else s.msix v

/-! ## Retirement and reports (R364) -/

/-- Retire a transmit entry with an outcome; the header stamp is `t`. TX_DONE is also a record for the trace buffer. -/
def State.canRetire (s : State) (c q : Nat) (e : CanTx) (outcome : Nat) (tooLate : Bool) (t : Stamp) : State :=
  if e.tag = 0 && outcome = 0 then s.record (0x68 + c) t []
  else
    let r := s.mkRec (0x68 + c) t []
    let s := if outcome = 0 then s.record (0x68 + c) t [] else s.bumpSeq (0x68 + c)
    let u := s.canU c
    if 64 ≤ u.reports.length then s.bump (Obj.CAN_REPORT_DROPS + c) 0xFFFFFFFF
    else
      (s.setCan c { u with
        reports := u.reports ++ [{ rcd := r, frame := e.frame, outcome := outcome, tooLate := tooLate, collided := e.collided,
                                   tag := e.tag, attempts := min 255 e.attempts, queue := q }]
        repIdx := (u.repIdx + 1) % 64 }).canVector c

/-- Retire every unsent entry ABORTED (R350, R429). -/
def State.canAbort (s : State) (c : Nat) : State :=
  let u := s.canU c
  let s := s.setCan c { u with tx := [] }
  u.tx.foldl (fun (s : State) e => e.2.foldl (fun (s : State) t => s.canRetire c e.1 t 3 false s.now) s) s

/-! ## NET_CAN_CONFIG -/

/-- A controller with a new configuration; a receive queue whose depth changes starts empty (log entry 42). -/
def Can.configured (u : Can) (b : List Byte) (clk : Nat) : Can :=
  let keep := fun (q : Nat) => byteAt u.cfg (16 + q) = byteAt b (16 + q)
  { u with
    cfg := b, mode := byteAt b 0
    rx := u.rx.filter fun e => keep e.1
    rxIdx := u.rxIdx.filter fun e => keep e.1
    txIdx := []
    tec := 0, recCnt := 0, busOff := false, integrating := byteAt b 0 ≠ 0, integAt := clk
    ratePair := 0, rateStart := clk, rateSof := false, rateGood := 0, rateHeld := [], sameId := []
    tunnel := [], tunnelNext := none }

def opCanConfig (p : Pkt) (s : State) : Res :=
  let b := p.payload
  let c := p.target.toNat - 0x10
  let u := s.canU c
  if !b.isEmpty && !lenIs p 160 then s.fail stBadLength
  else if s.fenced (8 + c) then s.fail stState
  else if b.isEmpty then s.okWith u.cfgBytes
  else if u.mode ≠ 0 && byteAt b 0 ≠ 0 then s.fail stState
  else if !canCfgOk b then s.fail stRange
  else if s.mu.norBad then s.fail stInternal
  else
    let s := if byteAt b 0 = 0 then s.canAbort c else s
    let s := s.modCan c fun u => u.configured b s.clk
    let s := (s.clrFlag (Obj.CAN_STAT + c) 0x1800).setObj (Obj.CAN_RATE_IDX + c) 0xFF
    (s.keepKey (keyCan c)).okay

/-! ## Filter lists (R356, R357) -/

def filterOk (e : Nat) : Bool :=
  let top := if bit e 122 then 0x1FFFFFFF else 0x7FF
  bits e 126 125 ≠ 3 && bits e 124 123 ≠ 3 && bits e 121 120 ≠ 3 && bits e 118 116 = 0 && bits e 111 64 = 0
  && (bits e 124 123 = 1 || decide (bits e 115 112 ≤ 7 ∨ bits e 115 112 = 15)) && bits e 63 32 ≤ top && bits e 31 0 ≤ top

def opCanFilter (p : Pkt) (s : State) : Res :=
  let b := p.payload
  let c := p.target.toNat - 0x10
  let first := le b 0 2
  let n := le b 2 2
  let len := le b 4 2
  let read := byteAt b 6 = 1
  let es := (List.range n).map fun i => le b (8 + 16 * i) 16
  if b.length < 8 || b.length ≠ 8 + (if read then 0 else 16 * n) then s.fail stBadLength
  else if s.fenced (8 + c) then s.fail stState
  else if byteAt b 6 > 1 || !zeros b 7 1 || n > 254 || first > 4095 || first + n > 4096 || (len > 4096 && len ≠ 0xFFFF) then s.fail stRange
  else if read then s.okWith ((List.range n).flatMap fun i => toLE 16 (bget 0 (s.canU c).filters (first + i)))
  else if !es.all filterOk then s.fail stRange
  else if s.mu.norBad then s.fail stInternal
  else
    let s := s.modCan c fun u => { u with
      filters := (List.range n).foldl (fun f i => bset f (first + i) (le b (8 + 16 * i) 16)) u.filters
      listLen := if len = 0xFFFF then u.listLen else len }
    let s := (List.range n).foldl (fun (s : State) i => s.keepKey (keyFilter c (first + i))) s
    (s.keepKey (keyList c)).okay

def CanFrame.fits (f : CanFrame) (e : Nat) : Bool :=
  let a := bits e 63 32
  let z := bits e 31 0
  bit e 127 && bit e 122 = f.ide && (bits e 121 120 = 0 || (bits e 121 120 = 1 && !f.fdf) || (bits e 121 120 = 2 && f.fdf))
  && (!f.rtr || bit e 119)
  && (match bits e 126 125 with
    | 0 => decide (a ≤ f.id ∧ f.id ≤ z)
    | 1 => decide (f.id = a ∨ f.id = z)
    | _ => f.id &&& z = a &&& z)

/-! ## Reception (R355 to R359) -/

/-- Data bytes that a DLC stands for. -/
def dlcLen (fdf : Bool) (d : Nat) : Nat :=
  if d ≤ 8 then d else if fdf then [12, 16, 20, 24, 32, 48, 64].getD (d - 9) 64 else 8

/-- Store a frame in a receive queue, or drop it for that queue. -/
def State.canStore (s : State) (c q filt : Nat) (mirror : Bool) (f : CanFrame) (sof eof : Stamp) : State :=
  let u := s.canU c
  let l := bget [] u.rx q
  if u.rxDepth q ≤ l.length then (s.bump (Obj.CAN_RX_DROPS + c) 0xFFFFFFFF).setFlag (Obj.CAN_STAT + c) 0x40
  else
    let r := s.mkRec (0x55 + c) sof []
    let s := s.record (0x55 + c) sof []
    s.setCan c { u with
      rx := bset u.rx q (l ++ [{ rcd := r, frame := f, mirror := mirror, filt := filt, eof := eof }])
      rxIdx := bset u.rxIdx q ((bget 0 u.rxIdx q + 1) % u.rxDepth q) }

/-- Indices of the entries that a frame matches, up to the one that ends the search; true where one does. -/
def searchFilters (f : CanFrame) : List (Nat × Nat) → List (Nat × Nat) × Bool
  | [] => ([], false)
  | e :: r =>
    if f.fits e.2 then
      if bits e.2 124 123 = 2 then
        let t := searchFilters f r
        (e :: t.1, t.2)
      else ([e], true)
    else searchFilters f r

def Can.hits (u : Can) (f : CanFrame) : List (Nat × Nat) × Bool :=
  searchFilters f (u.filters.filter fun e => e.1 < u.listLen)

/-- Entries that pass the frame to signal maps: QUEUE and MIRROR (R358). -/
def Can.feeds (u : Can) (f : CanFrame) : List Nat := ((u.hits f).1.filter fun e => bits e.2 124 123 ≠ 1).map (·.1)

/-- Apply a frame's signals. -/
def State.canSignals (s : State) (c : Nat) (f : CanFrame) (sof : Stamp) : State :=
  ((s.canU c).feeds f).foldl (fun (s : State) n => s.sigReceive c n f.data sof) s

/-- Whether a frame feeds any signal map entry. -/
def State.canFeedsMap (s : State) (c : Nat) (f : CanFrame) : Bool :=
  ((s.canU c).feeds f).any fun n => !(s.sigEntries false c n).isEmpty

/-- A valid frame passes the filter list (R356, R358); in a Flask the active mirrors what feeds signal maps (R328). -/
def State.canAccept (s : State) (c : Nat) (f : CanFrame) (sof eof : Stamp) : State :=
  let h := (s.canU c).hits f
  let n := ((s.canU c).rx.map fun e => e.2.length).sum
  let s := h.1.foldl (fun (s : State) e =>
    if bits e.2 124 123 = 1 || bits e.2 115 112 = 15 then s
    else s.canStore c (bits e.2 115 112) e.1 (bits e.2 124 123 = 2) f sof eof) s
  let s := if !h.2 && byteAt (s.canU c).cfg 3 = 1 then s.canStore c 7 0xFFFF false f sof eof else s
  let s := if n < ((s.canU c).rx.map fun e => e.2.length).sum then s.canVector c else s
  if !s.canFeedsMap c f || s.follows then s
  else if s.inFlask && s.isActive then s.mirrorPut s.now (.can c sof f)
  else s.canSignals c f sof

/-! ## Auto-rate detection (R353) -/

def State.nextRate (s : State) (c : Nat) : State :=
  s.modCan c fun u => { u with
    ratePair := (u.ratePair + 1) % max 1 (byteAt u.cfg 6), rateStart := s.clk, rateSof := false, rateGood := 0, rateHeld := [] }

/-- The frame is the tunnel's (R367). -/
def Can.isTunnel (u : Can) (f : CanFrame) : Bool :=
  let w := le u.cfg 28 4
  bit w 31 && bit w 30 = f.ide && bits w 28 0 = f.id

/-- A lock: the three frames pass to the filter list with their own stamps; a frame of the tunnel never does (R356). -/
def State.rateLock (s : State) (c : Nat) : State :=
  let u := s.canU c
  let fast := u.rateHeld.any fun e => e.2.2.fdf && e.2.2.brs
  let s := s.setCan c { u with rateHeld := [], integrating := false }
  let s := (s.setFlag (Obj.CAN_STAT + c) (if fast then 0x800 else 0x1800)).setObj (Obj.CAN_RATE_IDX + c) u.ratePair
  let s := s.post srcCp 0x0800 c u.ratePair
  (u.rateHeld.filter fun e => !u.isTunnel e.2.2).foldl (fun (s : State) e => s.canAccept c e.2.2 e.1 e.2.1) s

/-- An error-free frame while detecting. -/
def State.rateGoodFrame (s : State) (c : Nat) (f : CanFrame) (sof eof : Stamp) : State :=
  let u := s.canU c
  if f.fdf && le u.cfg (36 + 8 * u.ratePair) 4 = 0 then s.nextRate c
  else
    let s := s.setCan c { u with rateSof := true, rateGood := u.rateGood + 1, rateHeld := u.rateHeld ++ [(sof, eof, f)] }
    if u.rateGood ≥ 2 then s.rateLock c else s

/-- A frame whose SOF has been sampled on this tick or before is still to end (R66). -/
def State.canFrameComes (s : State) (c : Fin 4) : Bool :=
  (ticked 0 s.pending).any fun i => match i.2 with
    | .canFrameRx _ d _ sofAgo _ => d = c && decide (i.1 ≤ sofAgo)
    | _ => false

def effCanRateTimeout (c : Fin 4) (s : State) : State :=
  let u := s.canU c.val
  if s.canDetects c.val && !u.rateSof && decide (u.rateStart + 100 * msUnits ≤ s.clk) && !s.canFrameComes c then s.nextRate c.val else s

/-- A successful reception lowers the receive error counter; above 127 it takes a value from 119 to 127 that ISO 11898-1
leaves open. -/
def State.canRecDown (s : State) (c : Nat) : State :=
  let u := s.canU c
  if s.canListens c || u.recCnt = 0 then s
  else if u.recCnt ≤ 127 then s.setCan c { u with recCnt := u.recCnt - 1 }
  else
    let r := s.drawNat
    r.2.setCan c { u with recCnt := 119 + r.1 % 9 }

/-- A frame becomes valid. Its SOF was sampled `sofAgo` ticks ago, the last bit of its EOF `eofAgo` ticks ago. -/
def effCanFrameRx (c : Fin 4) (f : CanFrame) (sofAgo eofAgo : Nat) (s : State) : State :=
  let c := c.val
  let u := s.canU c
  let sof := s.stampAgo sofAgo
  if !s.canOn c || u.busOff then s
  else if s.canDetects c then s.rateGoodFrame c f sof (s.stampAgo eofAgo)
  else if f.fdf && !bit (byteAt u.cfg 1) 0 && u.mode ≠ 3 then s
  else
    let s := (s.modCan c fun u => { u with integrating := false }).canRecDown c
    let s := if f.fdf && f.brs then s.clrFlag (Obj.CAN_STAT + c) 0x1000 else s
    if u.isTunnel f then s else s.canAccept c f sof (s.stampAgo eofAgo)

/-! ## Acknowledgement (R360) -/

def CanFrame.idWord (f : CanFrame) : Nat := b2n f.ide * 2 ^ 31 + b2n f.rtr * 2 ^ 30 + f.id

def padTo64 (d : List Byte) : List Byte := (d ++ List.replicate 64 0#8).take 64

/-- Table 14.5. -/
def CanRx.bytes (r : CanRx) : List Byte :=
  let f := r.frame
  recHead r.rcd.stamp r.rcd.boot r.rcd.seq r.rcd.src r.rcd.tq ++ toLE 4 f.idWord
    ++ toLE 1 (b2n f.fdf + 2 * b2n f.brs + 4 * b2n f.esi + 8 * b2n r.mirror) ++ toLE 1 f.dlc ++ toLE 2 r.filt ++ padTo64 f.data
    ++ toLE 4 r.eof ++ toLE 4 0

/-- Table 14.9. -/
def CanReport.bytes (r : CanReport) : List Byte :=
  recHead r.rcd.stamp r.rcd.boot r.rcd.seq r.rcd.src r.rcd.tq ++ toLE 4 r.frame.idWord ++ toLE 1 r.outcome
    ++ toLE 1 (b2n r.tooLate + 2 * b2n r.collided) ++ toLE 2 r.tag ++ toLE 1 r.attempts ++ toLE 1 r.queue ++ List.replicate 70 0#8

/-- Entries of queue 0 to 8 that software owns, as bytes, oldest first. -/
def Can.owned (u : Can) (q : Nat) : List (List Byte) :=
  if q = 8 then u.reports.map CanReport.bytes else (bget [] u.rx q).map CanRx.bytes

/-- Free the `n` oldest entries of a queue. -/
def Can.ack (u : Can) (q n : Nat) : Can :=
  if q = 8 then { u with reports := u.reports.drop n } else { u with rx := bset u.rx q ((bget [] u.rx q).drop n) }

def opCanAck (p : Pkt) (s : State) : Res :=
  let b := p.payload
  let c := p.target.toNat - 0x10
  let q := byteAt b 0
  let n := le b 2 2
  let f := byteAt b 4
  if !lenIs p 8 then s.fail stBadLength
  else if s.fenced (8 + c) then s.fail stState
  else if q > 8 || !zeros b 1 1 || n > 512 || f > 40 || !zeros b 5 3 || ((s.canU c).owned q).length < n then s.fail stRange
  else
    let s := s.modCan c fun u => u.ack q n
    let l := (s.canU c).owned q
    s.okWith (toLE 2 l.length ++ toLE 1 (min f l.length) ++ toLE 5 0 ++ (l.take f).flatMap id)

/-- Entries that a NET_CAN_ACK of this tick, still to come, frees before a doorbell does (R360). -/
def State.ackFirst (s : State) (c q : Nat) : Nat :=
  let l := (s.pending.takeWhile fun i => i.dt = 0).filterMap fun i => match i with
    | .netCanAck _ p => if p.target.toNat = 0x10 + c && byteAt p.payload 0 = q then some (le p.payload 2 2) else none
    | _ => none
  l.foldl (fun n m => if n + m ≤ ((s.canU c).owned q).length then n + m else n) 0

/-- Queues whose ACK_ERR has been set on this tick (R2). -/
def Can.ackNow (u : Can) (tick : Nat) : List Nat := if u.ackSet.1 = tick then u.ackSet.2 else []

/-- A QACK doorbell: a count beyond what software owns frees nothing and sets ACK_ERR. -/
def effCanQackDoorbell (c : Fin 4) (q : Fin 9) (n : Nat) (s : State) : State :=
  let u := s.canU c.val
  if !s.isReady then s
  else if (u.owned q.val).length < n % 1024 + s.ackFirst c.val q.val then
    s.setCan c.val { u with ackErr := (q.val :: u.ackErr).eraseDups, ackSet := (s.tick, q.val :: u.ackNow s.tick) }
  else s.setCan c.val (u.ack q.val (n % 1024))

/-! ## Transmission (R362 to R365) -/

/-- The device's own frames use queue 3 (R362). -/
def State.ownQueue (s : State) (c : Nat) : Bool :=
  bit (le (s.canU c).cfg 28 4) 31
  || (List.range 256).any fun n => let v := s.obj (Obj.CAN_PUB + n); bit v 127 && bits v 126 125 = c

/-- Table 14.8. -/
def State.canTxOk (s : State) (c : Nat) (b : List Byte) : Bool :=
  let u := s.canU c
  let fl := byteAt b 1
  let fdf := bit fl 1
  let dlc := byteAt b 2
  byteAt b 0 ≤ 3 && u.txDepth (byteAt b 0) ≠ 0 && !(byteAt b 0 = 3 && s.ownQueue c) && fl < 32 && !(bit fl 3 && fdf)
  && (!bit fl 2 || (fdf && bit (byteAt u.cfg 1) 1)) && (!fdf || bit (byteAt u.cfg 1) 0) && dlc ≤ (if fdf then 15 else 8)
  && zeros b 3 1 && zeros b 10 6 && le b 4 4 ≤ (if bit fl 0 then 0x1FFFFFFF else 0x7FF) && zeros b (24 + dlcLen fdf dlc) (64 - dlcLen fdf dlc)

def opCanTx (p : Pkt) (s : State) : Res :=
  let b := p.payload
  let c := p.target.toNat - 0x10
  let q := byteAt b 0
  let u := s.canU c
  let fl := byteAt b 1
  if !lenIs p 88 then s.fail stBadLength
  else if s.fenced (8 + c) || u.mode = 0 then s.fail stState
  else if u.txDepth q ≠ 0 && decide (u.txDepth q ≤ (bget [] u.tx q).length) then s.fail stBusy
  else if !s.canTxOk c b then s.fail stRange
  else
    let f : CanFrame := { id := le b 4 4, ide := bit fl 0, rtr := bit fl 3, fdf := bit fl 1, brs := bit fl 2, dlc := byteAt b 2,
                          data := (b.drop 24).take (dlcLen (bit fl 1) (byteAt b 2)) }
    let t := s.canPut c q { frame := f, oneShot := bit fl 4, tag := le b 8 2, expiry := le b 16 8 }
    { st := t, status := stAccepted, extra := toLE 2 (bget 0 u.txIdx q) }

/-- Replace or remove one entry of a queue. -/
def Can.setTx (u : Can) (q : Nat) (l : List CanTx) : Can := { u with tx := bset u.tx q l }

/-- A SOF of this very tick is suppressed: cancels come before it (R365, R66). -/
def opCanCancel (p : Pkt) (s : State) : Res :=
  let b := p.payload
  let c := p.target.toNat - 0x10
  let q := byteAt b 0
  let tag := le b 2 2
  let u := s.canU c
  let l := bget [] u.tx q
  if !lenIs p 8 then s.fail stBadLength
  else if s.fenced (8 + c) then s.fail stState
  else if q > 3 || !zeros b 1 1 || !zeros b 4 4 then s.fail stRange
  else match l.findIdx? fun e => e.tag = tag with
    | none => s.fail stRange
    | some i => match l[i]? with
      | none => s.fail stRange
      | some e =>
        if e.sof.isSome && e.sof ≠ some s.now then (s.setCan c (u.setTx q (l.set i { e with marked := true }))).accept
        else ((s.setCan c (u.setTx q (l.eraseIdx i))).canRetire c q e 1 false s.now).okay

/-- Bus order of frames: the value their arbitration fields spell, lowest first. -/
def CanFrame.arb (f : CanFrame) : Nat :=
  if f.ide then f.id / 2 ^ 18 * 2 ^ 21 + 3 * 2 ^ 19 + f.id % 2 ^ 18 * 2 + b2n f.rtr
  else f.id * 2 ^ 21 + b2n f.rtr * 2 ^ 20

/-- The frame on the bus: its queue and entry. -/
def Can.sending (u : Can) : Option (Nat × CanTx) :=
  (List.range 4).findSome? fun q => match bget [] u.tx q with
    | e :: _ => if e.sof.isSome then some (q, e) else none
    | [] => none

/-- Queue heads whose expiry allows a SOF now, best first. -/
def Can.offer (u : Can) (now : Stamp) : Option (Nat × CanTx) :=
  (List.range 4).foldl (fun (best : Option (Nat × CanTx)) q => match bget [] u.tx q with
    | e :: _ =>
      if e.expiry ≠ 0 && decide (e.expiry < now) then best
      else match best with
        | some x => if e.frame.arb < x.2.frame.arb then some (q, e) else best
        | none => some (q, e)
    | [] => best) none

def State.modHead (s : State) (c q : Nat) (f : CanTx → CanTx) : State :=
  s.modCan c fun u => match bget [] u.tx q with
    | e :: r => u.setTx q (f e :: r)
    | [] => u

def State.popHead (s : State) (c q : Nat) : State := s.modCan c fun u => u.setTx q ((bget [] u.tx q).drop 1)

def effCanTxSof (c : Fin 4) (s : State) : State :=
  let c := c.val
  let u := s.canU c
  if !s.canOn c || s.canListens c || u.busOff || u.sending.isSome || (u.integrating && decide (s.clk < u.integAt + 11 * u.bitUnits)) then s
  else match u.offer s.now with
    | none => s
    | some (q, _) =>
      (s.modCan c fun u => { u with integrating := false }).modHead c q fun e => { e with sof := some s.now, attempts := e.attempts + 1 }

def effCanTxDone (c : Fin 4) (s : State) : State :=
  let c := c.val
  match (s.canU c).sending with
  | none => s
  | some (q, e) =>
    let s := (s.popHead c q).modCan c fun u => { u with tec := u.tec - 1 }
    let s := if e.frame.fdf && e.frame.brs then s.clrFlag (Obj.CAN_STAT + c) 0x1000 else s
    s.canRetire c q e 0 e.marked (e.sof.getD s.now)

/-- An attempt has failed: a marked frame, or one sent ONE_SHOT, is retired; any other is offered again (R362, R365). -/
def State.attemptLost (s : State) (c q : Nat) (e : CanTx) : State :=
  if e.marked || e.oneShot then (s.popHead c q).canRetire c q e 1 false s.now
  else s.modHead c q fun e => { e with sof := none }

def effCanArbitrationLost (c : Fin 4) (s : State) : State :=
  match (s.canU c.val).sending with
  | none => s
  | some (q, e) => s.attemptLost c.val q e

/-- A head's expiry has passed without a SOF. -/
def effCanTxExpire (c : Fin 4) (q : Fin 4) (s : State) : State :=
  match bget [] (s.canU c.val).tx q.val with
  | e :: _ =>
    if e.expiry ≠ 0 && decide (e.expiry < s.now) && e.sof.isNone then
      ((s.popHead c.val q.val).setFlag (Obj.CAN_STAT + c.val) 4).canRetire c.val q.val e 2 false s.now
    else s
  | [] => s

/-! ## Errors (R354, R366) -/

/-- A same-identifier bit error in the data field of the frame being sent. -/
def State.sameIdError (s : State) (c q : Nat) (e : CanTx) : State :=
  let id := e.frame.id + b2n e.frame.ide * 2 ^ 31
  let u := s.canU c
  let again := u.sameId.any fun x => x.1 = id && decide (s.now ≤ x.2 + 100 * msUnits)
  let s := s.setCan c { u with sameId := ((id, s.now) :: u.sameId).take 8 }
  if again then
    ((s.setFlag (Obj.CAN_STAT + c) 0x80).post srcCp 0x0802 c id).modHead c q fun e => { e with collided := true }
  else s

/-- Entry to bus-off. -/
def State.busOffCheck (s : State) (c : Nat) : State :=
  let u := s.canU c
  if u.tec > 255 && !u.busOff then
    ((s.setCan c { u with busOff := true, busOffAt := s.clk }).setFlag (Obj.CAN_STAT + c) 8).post srcCp 0x0801 c (min 255 u.recCnt)
  else s

/-- An error on the bus. The error counters follow ISO 11898-1 (PRESUMED, log entry 56); in LISTEN_ONLY they stand still. -/
def effCanBusError (c : Fin 4) (e : CanError) (dataPhase transmitting dominantAfterFlag : Bool) (s : State) : State :=
  let c := c.val
  let u := s.canU c
  if !s.canOn c || u.busOff then s
  else if s.canDetects c then
    if e = .stuff || e = .form || e = .crc then s.nextRate c else s
  else
    let s := if dataPhase && bit (s.obj (Obj.CAN_STAT + c)) 12 && u.mode = 3 then
      ((s.clrFlag (Obj.CAN_STAT + c) 0x1800).setObj (Obj.CAN_RATE_IDX + c) 0xFF).nextRate c else s
    if s.canListens c then s
    else if transmitting then
      match u.sending with
      | none => s
      | some (q, _) =>
        let s := match e with
          | .bitInData => match (s.canU c).sending with
            | some (_, x) => s.sameIdError c q x
            | none => s
          | _ => s
        let quiet := e = .ack && decide (u.tec > 127) && !dominantAfterFlag
        let s := s.modCan c fun u => { u with tec := if quiet then u.tec else u.tec + 8 }
        let s := match (s.canU c).sending with
          | some (q, x) => s.attemptLost c q x
          | none => s
        s.busOffCheck c
    else s.modCan c fun u => { u with recCnt := min 255 (u.recCnt + (if dominantAfterFlag then 9 else 1)) }

/-- Bus-off ends: the hold-off has passed, and then 128 occurrences of 11 recessive bits. -/
def effCanBusOffRecovery (c : Fin 4) (s : State) : State :=
  let u := s.canU c.val
  if s.canOn c.val && u.busOff && decide (u.busOffAt + le u.cfg 4 2 * msUnits + 1408 * u.bitUnits ≤ s.clk) then
    s.setCan c.val { u with busOff := false, tec := 0, recCnt := 0 }
  else s

/-! ## Published frames (R368) -/

/-- Only a device that is active in its Flask, or in none, publishes. -/
def State.publishes (s : State) : Bool := s.isReady && (!s.inFlask || s.isActive)

/-- The CP has been stopped beyond the setpoint timeout (Table 1.6), of which the shortest of the six slices' is taken
(the model's choice, log entry 34). -/
def State.cpGone (s : State) : Bool :=
  match s.cp.stoppedAt with
  | some t => (List.range 6).any fun k => decide (t + s.slo k Obj.SLC_SETPOINT_TIMEOUT * msUnits ≤ s.clk)
  | none => false

/-- A publish slot's stamp has been reached since the last one considered. -/
def State.pubDue (s : State) (key v : Nat) : Bool :=
  decide (nextTime (bits v 95 64 * usUnits) (bits v 63 32 * usUnits) (bget 0 s.canPub key + 1) ≤ s.now)

def effCanPublish (slot : Fin 256) (s : State) : State :=
  let n := slot.val
  let v := s.obj (Obj.CAN_PUB + n)
  let c := bits v 126 125
  if bit v 127 && s.pubDue n v then
    let s : State := { s with canPub := bset s.canPub n s.now }
    if !s.publishes || s.cpGone || !s.canOn c then s
    else
      let dlc := bits v 121 118
      let fdf := bit v 123
      let a := s.assemble c n (dlcLen fdf dlc)
      let s := a.2
      let t : CanTx := { frame := { id := bits v 28 0, ide := bit v 124, fdf := fdf, brs := bit v 122, dlc := dlc, data := a.1 },
                         tag := bits v 111 96, slot := some n }
      let u := s.canU c
      let l := bget [] u.tx 3
      match l.findIdx? fun e => e.slot = some n && e.sof.isNone with
      | some i => (s.setCan c (u.setTx 3 (l.set i t))).setFlag (Obj.CAN_STAT + c) 0x10
      | none => s.canPut c 3 t
  else s

/-- SYS_FUNC_REINIT of a controller (Table 16.5). -/
def State.canReinit (s : State) (c : Nat) : State :=
  (s.canAbort c).modCan c fun u => { u with
    rx := [], rxIdx := [], tec := 0, recCnt := 0, busOff := false, integrating := true, integAt := s.clk }

/-! ## The commands -/

def execNetCanConfig (dt : Nat) (p : Pkt) (s : State) : Host.Outcome State Fault Refusal :=
  .next (s.run dt (effCmd (p.asRow 0x5000) opCanConfig))
def execNetCanConfigRead (dt : Nat) (p : Pkt) (s : State) : Host.Outcome State Fault Refusal :=
  .next (s.run dt (effCmd { p.asRow 0x5000 with payload := [] } opCanConfig))
def execNetCanFilter (dt : Nat) (p : Pkt) (s : State) : Host.Outcome State Fault Refusal :=
  .next (s.run dt (effCmd ((p.asRow 0x5001).withSel 6 0) opCanFilter))
def execNetCanFilterRead (dt : Nat) (p : Pkt) (s : State) : Host.Outcome State Fault Refusal :=
  .next (s.run dt (effCmd ((p.asRow 0x5001).withSel 6 1) opCanFilter))
def execNetCanTx (dt : Nat) (p : Pkt) (s : State) : Host.Outcome State Fault Refusal :=
  .next (s.run dt (effCmd (p.asRow 0x5002) opCanTx))
def execNetCanCancel (dt : Nat) (p : Pkt) (s : State) : Host.Outcome State Fault Refusal :=
  .next (s.run dt (effCmd (p.asRow 0x5003) opCanCancel))
def execNetCanAck (dt : Nat) (p : Pkt) (s : State) : Host.Outcome State Fault Refusal :=
  .next (s.run dt (effCmd (p.asRow 0x5004) opCanAck))
def execCanFrameRx (dt : Nat) (c : Fin 4) (f : CanFrame) (sofAgo : Nat) (eofAgo : Nat) (s : State) : Host.Outcome State Fault Refusal :=
  .next (s.run dt (effCanFrameRx c f sofAgo eofAgo))
def execCanTxSof (dt : Nat) (c : Fin 4) (s : State) : Host.Outcome State Fault Refusal := .next (s.run dt (effCanTxSof c))
def execCanTxDone (dt : Nat) (c : Fin 4) (s : State) : Host.Outcome State Fault Refusal := .next (s.run dt (effCanTxDone c))
def execCanArbitrationLost (dt : Nat) (c : Fin 4) (s : State) : Host.Outcome State Fault Refusal :=
  .next (s.run dt (effCanArbitrationLost c))
def execCanBusError (dt : Nat) (c : Fin 4) (e : CanError) (dataPhase : Bool) (transmitting : Bool) (dominantAfterFlag : Bool) (s : State) :
    Host.Outcome State Fault Refusal := .next (s.run dt (effCanBusError c e dataPhase transmitting dominantAfterFlag))
def execCanBusOffRecovery (dt : Nat) (c : Fin 4) (s : State) : Host.Outcome State Fault Refusal :=
  .next (s.run dt (effCanBusOffRecovery c))
def execCanTxExpire (dt : Nat) (c : Fin 4) (q : Fin 4) (s : State) : Host.Outcome State Fault Refusal :=
  .next (s.run dt (effCanTxExpire c q))
def execCanRateTimeout (dt : Nat) (c : Fin 4) (s : State) : Host.Outcome State Fault Refusal := .next (s.run dt (effCanRateTimeout c))
def execCanPublish (dt : Nat) (slot : Fin 256) (s : State) : Host.Outcome State Fault Refusal := .next (s.run dt (effCanPublish slot))
def execCanQackDoorbell (dt : Nat) (c : Fin 4) (q : Fin 9) (n : Nat) (s : State) : Host.Outcome State Fault Refusal :=
  .next (s.run dt (effCanQackDoorbell c q n))

end Sys2Proof.Machine
end

