-- ==== Sys2Proof/Machine/Ethernet.lean ====
section
/-!
DEFINITION. The Ethernet MACs (R369 to R377, R77, R78): configuration, frames received and sent, transmit stamps, gPTP port
states, published and subscribed frames.
-/

namespace Sys2Proof.Machine

/-! ## Configuration (R370) -/

def Eth.cfgBytes (u : Eth) : List Byte := if u.cfg.isEmpty then List.replicate 40 0#8 else u.cfg

/-- Table 14.12. -/
def ethCfgOk (b : List Byte) : Bool :=
  byteAt b 0 ≤ 1 && byteAt b 1 ≤ 3 && byteAt b 2 ≤ 31 && byteAt b 3 ≤ 7 && !bit (byteAt b 4) 0 && !bit (le b 10 2) 12
  && decide (-5 ≤ leS b 26 1 ∧ leS b 26 1 ≤ 0) && zeros b 27 1 && decide (1 ≤ le b 30 2) && bit (byteAt b 32) 0 && zeros b 38 2

/-! ## The opcode and the re-initialisation -/

def opEthConfig (p : Pkt) (s : State) : Res :=
  let b := p.payload
  let n := p.target.toNat - 0x18
  let u := s.ethU n
  if b.isEmpty then s.okWith u.cfgBytes
  else if !lenIs p 40 then s.fail stBadLength
  else if u.on && byteAt b 0 ≠ 0 then s.fail stState
  else if !ethCfgOk b then s.fail stRange
  else if s.mu.norBad then s.fail stInternal
  else
    let s := if byteAt b 0 = 0 then (s.portDown n).modEth n fun u => { u with link := false, speed := 0, txq := [] } else s
    ((s.modEth n fun u => { u with cfg := b, on := byteAt b 0 = 1 }).keepKey (keyEth n)).okay

/-- SYS_FUNC_REINIT of a MAC (Table 16.5): the PHY is reset, the link negotiated afresh, the gPTP port restarted. -/
def State.ethReinit (s : State) (p : Nat) : State :=
  (s.portDown p).modEth p fun u => { u with link := false, speed := 0 }

/-! ## gPTP messages -/

def effPtpAnnounceRx (port : Fin 2) (source gm prio : Nat) (utcOffset : Int) (logSync : Int) (s : State) : State :=
  let p := port.val
  if !s.isReady || !(s.ethU p).ptp then s
  else
    let u := s.ethU p
    let take := match u.bestPrio with
      | some b => u.parent = source || decide (prio < b)
      | none => true
    if !take then s
    else
      let s := (s.setEth p { u with bestPrio := some prio, parent := source, gmId := gm, logSync := logSync }).runBmca
      if (s.ethU p).portState = 2 then
        s.setObj Obj.TIM_UTC_OFFSET (unsgn 16 utcOffset)
      else s

/-- A peer delay exchange gives the mean link delay; a port beyond its threshold is not asCapable (R373). -/
def effPtpPdelayExchange (port : Fin 2) (delayNs : Nat) (s : State) : State :=
  let p := port.val
  if s.isReady && (s.ethU p).ptp then
    (s.modEth p fun u => { u with asCapable := decide (delayNs ≤ le u.cfg 30 2) }).runBmca
  else s

/-- A Sync as grandmaster, and its Follow_Up, at the port's log Sync interval (R373, R377). Their payload is held as message
type, seconds, nanoseconds and correction (R61). -/
def effPtpSyncTx (port : Fin 2) (s : State) : State :=
  let p := port.val
  let u := s.ethU p
  if s.isReady && u.ptp && u.portState = 3 && (!s.inFlask || s.isActive) && decide (u.syncDue ≤ s.clk) then
    let x := ptpTime s.now
    let f := fun (k : Nat) =>
      ({ queue := 7, tag := 0, slot := none, kind := 0,
         payload := toLE 1 k ++ toLE 6 x.seconds ++ toLE 4 x.nanos ++ toLE 8 x.corr.toNat } : EthTx)
    s.setEth p { u with
      syncDue := s.clk + sUnits / 2 ^ (-(leS u.cfg 26 1)).toNat
      txq := u.txq ++ [f 0, f 8] }
  else s

/-- The PHY link goes up or down (R369). -/
def effEthLinkChange (port : Fin 2) (up : Bool) (speed : Fin 4) (s : State) : State :=
  let p := port.val
  if !s.isReady || !(s.ethU p).on then s
  else if up then s.modEth p fun u => { u with link := true, speed := speed.val }
  else s.ethReinit p

/-! ## Frames -/

/-- A fragment of `n` bytes: the first of its datagram takes a free place for 10 ms, where one of the four is free; the bytes
of the later ones add up (R119). -/
def State.fragment (s : State) (id n : Nat) : State :=
  if s.host.reasm.any (fun e => e.2.1 = id) then
    { s with host := { s.host with
        reasm := s.host.reasm.map fun e => if e.2.1 = id then (e.1, e.2.1, e.2.2.1, e.2.2.2 + n) else e } }
  else match (List.range 4).find? fun n => (bfind s.host.reasm n).isNone with
    | some k => { s with host := { s.host with reasm := bset s.host.reasm k (id, s.clk + 10 * msUnits, n) } }
    | none => s

/-- A frame received (R369, R372). `kind`: 0 PTP, 1 ARP request for the port's address, 2 ICMP echo request, 3 UDP on
HOST_ETH_PORT, 4 publish EtherType, 5 a fragment of an IPv4 datagram to HOST_ETH_PORT whose identification is the body's
first two bytes, any other discarded. At most 4 datagrams are in reassembly (R119); a fragment's bytes are those of its IPv4
payload, `len` less the Ethernet and IPv4 headers and the FCS, 38 bytes. -/
def effEthFrameRx (port : Fin 2) (kind len : Nat) (fcsOk : Bool) (body : List Byte) (s : State) : State :=
  let p := port.val
  let u := s.ethU p
  if !s.isReady || !u.on || !u.link then s
  else if len > 1522 || !fcsOk then s.bump (Obj.ETH_RX_DISCARDS + p) 0xFFFFFFFF
  else if kind > 5 || (kind = 2 && !bit (byteAt u.cfg 3) 1) || (kind = 0 && !u.ptp) then s
  else
    let s := s.record (0x59 + p) (s.rxStamp p (kind = 0 && byteAt body 0 % 16 = 0)) []
    let s := if kind = 5 && !s.cp.restarting then s.fragment (le body 0 2) (len - 38) else s
    if (kind = 1 || kind = 2) && !s.cp.restarting then
      s.modEth p fun u => { u with txq := u.txq ++ [{ queue := 0, tag := 0, slot := none, kind := 3, payload := body }] }
    else s

/-- The frame that strict priority serves next: the oldest of the highest queue (R371). -/
def Eth.next (u : Eth) : Option Nat :=
  (List.range 8).findSome? fun k => u.txq.findIdx? fun e => e.queue = 7 - k

/-- Append a transmit stamp to a queue of `room` places, or drop it (R78). -/
def Eth.stampOut (u : Eth) (room : Nat) (t : TxStamp) : Eth :=
  if u.txts.length < room then { u with txts := u.txts ++ [t] }
  else { u with ovf := true, drops := min 65535 (u.drops + 1) }

/-- A row that pops a transmit stamp of port `p`: its own, or a read of the object (R78). -/
def State.popsTxts (s : State) (p : Nat) (i : Instr) : Bool :=
  let o := Obj.ETH0_TXTS_POP + 0x10 * p
  let may := fun (q : Pkt) => q.session = 0xFF || (s.sess q.session.toNat).isSome
  match i with
  | .ethTxtsPop _ q x => q.val = p && may x
  | .objRead _ x => may x && le x.payload 0 4 = o
  | .objReadBlock _ x => may x && le x.payload 0 4 ≤ o && o < le x.payload 0 4 + le x.payload 4 2
  | _ => false

/-- Places for transmit stamps on this tick: the pops of the same tick are taken first (R78), though their rows stand later. -/
def State.txtsRoom (s : State) (p : Nat) : Nat :=
  16 + ((s.pending.takeWhile fun i => i.dt = 0).filter (s.popsTxts p)).length

/-- A frame's SFD leaves the MAC: its record (Table 4.15), and its stamp where it carries a tag. A stamp dropped notes the
tick on which OVF is set (R2). -/
def effEthFrameTx (port : Fin 2) (s : State) : State :=
  let p := port.val
  let u := s.ethU p
  if !s.isReady || !u.on || !u.link then s
  else match u.next with
    | none => s
    | some i => match u.txq[i]? with
      | none => s
      | some e =>
        let u := { u with txq := u.txq.eraseIdx i }
        let at_ := s.sfdStamp p + s.obj (Obj.ETH0_TX_LAT + 0x10 * p)
        let t : TxStamp := { stamp := at_, tag := e.tag, tq := s.tqAt at_ }
        let s := s.record (0x6C + p) at_ []
        if e.tag = 0 then s.setEth p u
        else
          let s := if u.txts.length < s.txtsRoom p then s else s.noteSet (Obj.ETH0_TXTS_STATUS + 0x10 * p) (2 ^ 15)
          s.setEth p (u.stampOut (s.txtsRoom p) t)

/-! ## Publishing and subscriptions (R374 to R377) -/

def effEthPublish (slot : Fin 64) (s : State) : State :=
  let n := slot.val
  let v := s.obj (Obj.ETH_PUB + n)
  let p := b2n (bit v 126)
  if bit v 127 && s.pubDue (256 + n) v then
    let s : State := { s with canPub := bset s.canPub (256 + n) s.now }
    if !s.publishes || !(s.ethU p).on then s
    else
      let a := s.assemble (4 + p) n 64
      let s := a.2
      let u := s.ethU p
      let q := bget 0 u.pubSeq n
      let e : EthTx := { queue := bits v 125 123, tag := bits v 111 96, slot := some n, kind := 2,
                         payload := toLE 8 s.now ++ toLE 2 s.nodeId ++ toLE 1 n ++ toLE 1 s.tq ++ toLE 2 q ++ toLE 2 64 ++ a.1 }
      let u := { u with pubSeq := bset u.pubSeq n ((q + 1) % 65536) }
      match u.txq.findIdx? fun e => e.slot = some n with
      | some i => (s.setEth p { u with txq := u.txq.set i e }).bump (Obj.ETH_PUB_OVERRUN + p) 0xFFFFFFFF
      | none => s.setEth p { u with txq := u.txq ++ [e] }
  else s

/-- An enabled subscription takes frames of a port, node and slot. -/
def State.subTakes (s : State) (p node slot n : Nat) : Bool :=
  let v := s.obj (Obj.ETH_SUB + n)
  bit v 127 && b2n (bit v 126) = p && bits v 125 112 = node && bits v 111 104 = slot

/-- A frame is too old for a subscription, where both ends know the time (R376). -/
def State.subAged (s : State) (n : Nat) (assembly rx : Stamp) (tq : Nat) : Bool :=
  let age := bits (s.obj (Obj.ETH_SUB + n)) 63 32
  age ≠ 0 && 128 ≤ tq % 256 && 128 ≤ s.tq && decide (assembly + age * usUnits < rx)

/-- Apply a publish frame's signals for every subscription it matches. -/
def State.ethSignals (s : State) (p node slot : Nat) (rx : Stamp) (data : List Byte) : State :=
  (List.range 64).foldl (fun (s : State) n =>
    if s.subTakes p node slot n then s.sigReceive (4 + p) n data rx else s) s

/-- A publish frame whose assembly stamp, node, slot, time quality and sequence are given arrives (R376). -/
def effEthPublishRx (port : Fin 2) (assembly : Stamp) (node slot tq seq : Nat) (data : List Byte) (s : State) : State :=
  let p := port.val
  let u := s.ethU p
  let rx := s.rxStamp p false
  if !s.isReady || !u.on || !u.link then s
  else
    (List.range 64).foldl (fun (s : State) n =>
      if s.subTakes p node slot n then
        let gap := match bfind (s.ethU p).subSeq n with
          | some q => decide ((q + 1) % 65536 ≠ seq % 65536)
          | none => false
        let s := s.modEth p fun u => { u with subSeq := bset u.subSeq n (seq % 65536) }
        let s := if gap then s.setFlag (Obj.ETH_STAT + p) 1 else s
        if s.subAged n assembly rx tq then s.setFlag (Obj.ETH_STAT + p) 2
        else if s.follows || (s.sigEntries false (4 + p) n).isEmpty then s
        else if s.inFlask && s.isActive then
          if (List.range n).any fun m => s.subTakes p node slot m && !(s.sigEntries false (4 + p) m).isEmpty && !s.subAged m assembly rx tq
          then s else s.mirrorPut s.now (.eth p node slot rx data)
        else s.sigReceive (4 + p) n data rx
      else s) s

/-! ## The commands -/

def execNetEthConfig (dt : Nat) (p : Pkt) (s : State) : Host.Outcome State Fault Refusal :=
  .next (s.runT dt (effCmd (p.asRow 0x5010) opEthConfig))
def execNetEthConfigRead (dt : Nat) (p : Pkt) (s : State) : Host.Outcome State Fault Refusal :=
  .next (s.run dt (effCmd { p.asRow 0x5010 with payload := [] } opEthConfig))
def execEthFrameRx (dt : Nat) (port : Fin 2) (kind : Nat) (len : Nat) (fcsOk : Bool) (body : List Byte) (s : State) :
    Host.Outcome State Fault Refusal := .next (s.run dt (effEthFrameRx port kind len fcsOk body))
def execEthFrameTx (dt : Nat) (port : Fin 2) (s : State) : Host.Outcome State Fault Refusal := .next (s.run dt (effEthFrameTx port))
def execEthLinkChange (dt : Nat) (port : Fin 2) (up : Bool) (speed : Fin 4) (s : State) : Host.Outcome State Fault Refusal :=
  .next (s.runT dt (effEthLinkChange port up speed))
def execPtpPdelayExchange (dt : Nat) (port : Fin 2) (delayNs : Nat) (s : State) : Host.Outcome State Fault Refusal :=
  .next (s.runT dt (effPtpPdelayExchange port delayNs))
def execPtpAnnounceRx (dt : Nat) (port : Fin 2) (source gm prio : Nat) (utcOffset : Int) (logSync : Int) (s : State) :
    Host.Outcome State Fault Refusal := .next (s.runT dt (effPtpAnnounceRx port source gm prio utcOffset logSync))
def execPtpSyncTx (dt : Nat) (port : Fin 2) (s : State) : Host.Outcome State Fault Refusal := .next (s.run dt (effPtpSyncTx port))
def execEthPublish (dt : Nat) (slot : Fin 64) (s : State) : Host.Outcome State Fault Refusal := .next (s.run dt (effEthPublish slot))
def execEthPublishRx (dt : Nat) (port : Fin 2) (assembly : Stamp) (node slot : Nat) (tq seq : Nat) (data : List Byte) (s : State) :
    Host.Outcome State Fault Refusal := .next (s.run dt (effEthPublishRx port assembly node slot tq seq data))

end Sys2Proof.Machine
end

