-- ==== Sys2Proof/Machine/Management.lean ====
section
/-!
DEFINITION. The management unit's opcodes and storage (R132, R390, R391, R393 to R409): ingots and configuration images,
activation, binding and anchors, attestation, the log, and the writes to the NOR.
-/

namespace Sys2Proof.Machine

/-! ## Transfers (R403 to R405) -/

/-- A configuration image is valid (R402): `own` is what the device requires of its signature. -/
def State.imageOk (s : State) (i : CfgImage) : Bool :=
  let sign := s.mu.lc = 2 || (s.mu.lc = 1 && match s.mu.anchorUse.bind fun n => s.mu.anchors[n]? with
    | some a => bit a.data (8 * 32 + 1)
    | none => false)
  i.sane && s.schemaFit i.schema && (!sign || i.signedOk)
    && i.recs.all fun r => match descOf r.idx with
      | some d => r.ty = d.ty && r.len = typeLen d.ty && decide (r.data < 2 ^ (8 * typeLen d.ty)) && d.inRange r.data
      | none => false

/-- Generation of a copy that is valid; none for one that is not. -/
def State.copyGen (s : State) (c : Option CfgImage) : Option Nat :=
  match c with
  | some i => if s.imageOk i then some i.gen else none
  | none => none

/-- The bank or copy a transfer writes, as MGT_INGOT_BEGIN's reply codes it (R403, R405). -/
def State.beginTarget (s : State) (image : Bool) : Nat :=
  if image then
    match s.copyGen s.mu.cfgA, s.copyGen s.mu.cfgB with
    | none, _ => 2
    | some _, none => 3
    | some a, some b => if a ≤ b then 2 else 3
  else if s.mu.phase = .recovery then
    match (List.range 2).find? fun b => (s.mu.banks.getD b {}).lastGood with
    | some b => 1 - b
    | none => 0
  else 1 - s.mu.active

def State.setBank (s : State) (b : Nat) (v : FwBank) : State := { s with mu := { s.mu with banks := s.mu.banks.set b v } }

/-- The target of a transfer holds nothing valid: a bank in the given state, a copy empty. -/
def State.clearTarget (s : State) (t st : Nat) : State :=
  if t < 2 then s.setBank t { state := st, lastGood := (s.mu.banks.getD t {}).lastGood && st ≠ 0 }
  else if t = 2 then { s with mu := { s.mu with cfgA := none } }
  else { s with mu := { s.mu with cfgB := none } }

/-- Abandon the transfer in progress: its target becomes EMPTY. -/
def State.abandon (s : State) : State :=
  match s.mu.transfer with
  | some t => { s.clearTarget t.target 0 with mu := { (s.clearTarget t.target 0).mu with transfer := none } }
  | none => s

/-- The packet may go on with the transfer: its session, or, without one, the link that began it. -/
def State.ownsTransfer (p : Pkt) (t : Transfer) : Bool :=
  match t.session with
  | some n => p.session.toNat = n
  | none => match t.link with
    | some l => p.session = 0xFF#8 && (l = p.link || sameLink l p.link)
    | none => false

def State.restart10s (s : State) (t : Transfer) : State :=
  { s with mu := { s.mu with transfer := some { t with deadline := some (s.muNow + 10 * sUnits) } } }

def opIngotBegin (p : Pkt) (s : State) : Res :=
  let b := p.payload
  let kind := byteAt b 0
  let len := le b 4 4
  if !lenIs p 16 then s.fail stBadLength
  else if s.mu.transfer.isSome then s.fail stBusy
  else if kind > 1 || !zeros b 1 3 || !zeros b 8 8 || len > (if kind = 0 then 25165824 else 2097152) then s.fail stRange
  else
    let t := s.beginTarget (kind = 1)
    let own := p.session ≠ 0xFF#8
    let s := (s.clearTarget t 1).restart10s
      { target := t, total := len, session := if own then some p.session.toNat else none, link := if own then none else some p.link }
    s.okWith (toLE 1 t ++ toLE 7 0)

def opIngotData (p : Pkt) (s : State) : Res :=
  let b := p.payload
  let n := le b 4 2
  if b.length < 8 || b.length ≠ 8 + n then s.fail stBadLength
  else match s.mu.transfer with
    | none => s.fail stState
    | some t =>
      if t.checking || !State.ownsTransfer p t then s.fail stBusy
      else if n = 0 || n > 4056 || !zeros b 6 2 || le b 0 4 ≠ t.received || t.received + n > t.total then s.fail stRange
      else
        let t := { t with received := t.received + n, head := (t.head ++ b.drop 8).take 64 }
        (s.restart10s t).okWith (toLE 4 t.received)

/-- Schema generation that the feature gate allows (R411). -/
def State.gateSchema (s : State) : Nat := bits (s.obj Obj.MGT_FEATURE_GATE) 23 16

def opIngotEnd (p : Pkt) (s : State) : Res :=
  let b := p.payload
  if !lenIs p 8 then s.fail stBadLength
  else match s.mu.transfer with
    | none => s.fail stState
    | some t =>
      let loaded := match s.mu.cfgLoaded with
        | some (_, g) => g
        | none => 0
      if t.checking || !State.ownsTransfer p t then s.fail stBusy
      else if !zeros b 0 8 then s.fail stRange
      else if 2 ≤ t.target && (le t.head 12 4 ≤ loaded || (s.isReady && s.gateSchema < byteAt t.head 8)) then
        ({ s with mu := { s.mu with transfer := none } } : State).fail stRange
      else
        let s := if t.target < 2 then s.clearTarget t.target 2 else s
        ({ s with mu := { s.mu with transfer := some { t with checking := true, deadline := none } } } : State).accept

/-- Status of an ingot check that fails (Table 15.14). -/
def ingotStatus (k : Nat) : Nat :=
  match k with
  | 1 => stBadLength | 2 => stRange | 3 => stIngotSig | 4 => stIngotSig | 5 => stIngotHash | 6 => stRollback | _ => stIncompatible

/-- The checks of a received ingot or image have ended. Checks 1 and 6 are the device's own arithmetic. -/
def effIngotCheckDone (r : IngotResult) (s : State) : State :=
  match s.mu.transfer with
  | none => s
  | some t =>
    if !t.checking then s
    else
      let k := if t.received ≠ t.total then 1
        else if r.failing ≠ 0 && r.failing ≠ 1 && r.failing < 6 then r.failing
        else if t.target < 2 && r.rollback < s.mu.otpRollback then 6
        else if r.failing = 0 || r.failing = 1 || r.failing = 6 then 0 else r.failing
      let k := if k = 0 && 2 ≤ t.target then (match r.image with
        | none => 2
        | some i => if t.session.isNone && !i.signedOk then 4 else 0) else k
      let s : State := { s with mu := { s.mu with transfer := none } }
      if k ≠ 0 then
        (if t.target < 2 then s.clearTarget t.target 4 else s.clearTarget t.target 0).post srcMu 0x0911 t.target
          (k + ingotStatus k * 2 ^ 16)
      else if t.target < 2 then
        (s.setBank t.target { version := r.version, rollback := r.rollback, gens := r.gens, state := 3 }).post srcMu 0x0910 t.target r.version
      else
        let s : State := if t.target = 2 then { s with mu := { s.mu with cfgA := r.image } } else { s with mu := { s.mu with cfgB := r.image } }
        s.post srcMu 0x0910 t.target (le t.head 12 4)

/-- A command of the transfer is taken on this tick and is still to come (R66). -/
def State.transferComes (s : State) : Bool :=
  s.awaits fun i => match i with
    | .mgtIngotData _ p | .mgtIngotEnd _ p => s.cpTakes && (s.takeEntry p).isSome
    | _ => false

def effIngotTransferTimeout (s : State) : State :=
  match s.mu.transfer with
  | some t => match t.deadline with
    | some d => if d ≤ s.muNow && !s.transferComes then s.abandon else s
    | none => s
  | none => s

/-! ## Activation (R406) -/

def State.slicesRest (s : State) : Bool :=
  (List.range 6).all fun k => (s.sl k).st = .disabled || (s.sl k).st = .armed || (s.sl k).st = .heldBlock

def opActivate (p : Pkt) (s : State) : Res :=
  let b := p.payload
  let n := byteAt b 0
  let apply := le b 8 8
  if !lenIs p 16 then s.fail stBadLength
  else if !s.slicesRest then s.fail stState
  else if s.resetLocked then s.fail stSafetyLocked
  else if s.mu.activate.isSome then s.fail stBusy
  else if n ≤ 1 && (s.mu.banks.getD n {}).state ≠ 3 then s.fail stState
  else if n > 1 || !zeros b 1 7 then s.fail stRange
  else if s.tooLate apply then s.fail stTooLate
  else ({ s with mu := { s.mu with activate := some (n, if apply = 0 then s.now + 1 else apply) } } : State).accept

def effMgtActivateApply (s : State) : State :=
  match s.mu.activate with
  | some (n, t) =>
    if !s.isReady || s.now < t then s
    else
      let s : State := { s with mu := { s.mu with activate := none } }
      if s.slicesRest && !s.resetLocked && (s.mu.banks.getD n {}).state = 3 then (s.selectBank n).devReset .sysReset else s.post srcMu 0x0912 n 1
  | none => s

/-! ## Binding and anchors (R393, R398) -/

/-- The trust anchor in use, as bytes; none without one. -/
def State.anchorBytes (s : State) : List Byte :=
  match s.mu.anchorUse.bind fun n => s.mu.anchors[n]? with
  | some a => toLE 64 a.data
  | none => []

def ownKey : List Byte := (List.range 64).map (Config.identity 0)

/-- The binding that a record, its signature and its chain spell, with the first check of R396 that fails (5: none). `found`:
what the MU's checks of chain, signature and key have found, where the command's row gives it (log entry 6). -/
def State.bindingOf (s : State) (b : List Byte) (found : Option Nat) : Binding :=
  let root := s.anchorBytes.take 32
  let node := le b 20 2
  let keys := found.getD (
    if root.isEmpty || !Config.cryptoOk 1 (root ++ b.drop 176) then 1
    else if !Config.cryptoOk 2 b then 2
    else if (b.drop 32).take 64 ≠ ownKey then 3 else 5)
  let check := if keys ≤ 3 then keys else if node = 0 || node > 16383 then 4 else 5
  { check := check, systemId := le b 4 16, node := node, partner := le b 24 2 }

def State.bindOp (s : State) (b : List Byte) (found : Option Nat) : Res :=
  if b.length < 176 || le b 0 2 ≠ 1 || b.length ≠ 176 + le b 2 2 || !zeros b 23 1 || !zeros b 26 6 || !zeros b 104 8 then s.fail stRange
  else
    let d := s.bindingOf b found
    if d.check ≠ 5 then s.fail stBind
    else (({ s with mu := { s.mu with binding := some d } } : State).post srcMu 0x0920 0xFF (d.node * 2 ^ 16)).okay

/-- A new anchor goes into the next free slot; then the previous slot is revoked. -/
def State.anchorOp (s : State) (p : Pkt) (b : List Byte) : Res :=
  let anchored := match s.sessOf p with
    | some x => x.anchored
    | none => false
  let oid := byteAt b 33
  if s.mu.lc = 2 && !anchored then s.fail stDenied
  else if b.length ≠ 64 || byteAt b 32 > 3 || oid = 0 || oid > 16 || !zeros b 50 14 || 4 ≤ s.mu.anchors.length then s.fail stRange
  else
    let n := s.mu.anchors.length
    let old := match anchorOf s.mu.anchors with
      | some k => s.mu.anchors.set k { (s.mu.anchors.getD k { data := 0 }) with revoked := true }
      | none => s.mu.anchors
    (({ s with mu := { s.mu with anchors := old ++ [{ data := le b 0 64 }] } } : State).post srcMu 0x0922 n 0).okay

def State.unbindOp (s : State) (b : List Byte) : Res :=
  if !b.isEmpty then s.fail stRange
  else (({ s with mu := { s.mu with binding := none } } : State).post srcMu 0x0920 0xFF 2).okay

/-- Whether the state permits an operation of MGT_BIND: 0 bind, 1 anchor, 2 unbind. -/
def State.bindState (s : State) (n : Nat) : Bool :=
  (s.mu.lc = 1 || s.mu.lc = 2) && (n = 1 || !s.anyEnabled)

def opBind (found : Option Nat) (p : Pkt) (s : State) : Res :=
  let b := p.payload
  if b.length < 8 || b.length ≠ 8 + le b 4 2 then s.fail stBadLength
  else if byteAt b 0 ≤ 2 && !s.bindState (byteAt b 0) then s.fail stState
  else if byteAt b 0 > 2 || !zeros b 1 3 || !zeros b 6 2 then s.fail stRange
  else if byteAt b 0 = 0 then s.bindOp (b.drop 8) found
  else if byteAt b 0 = 1 then s.anchorOp p (b.drop 8)
  else s.unbindOp (b.drop 8)

/-! ## Attestation (R399) -/

/-- Table 15.8, bytes 0 to 255. -/
def State.report (s : State) (nonce : List Byte) (len : Nat) : List Byte :=
  toLE 2 1 ++ toLE 2 len ++ nonce ++ ownKey ++ (List.range 16).map Config.serial ++ toLE 1 s.mu.lc ++ toLE 1 s.mu.active
    ++ toLE 1 s.mu.otpRollback ++ toLE 1 (b2n s.mu.bound.isSome) ++ toLE 16 (s.mu.bound.elim 0 Binding.systemId) ++ toLE 2 s.nodeId
    ++ toLE 2 (s.mu.bound.elim 0 Binding.partner) ++ (s.anchorBytes ++ List.replicate 32 0#8).take 32
    ++ toLE 16 (s.mu.banks.getD 0 {}).val ++ toLE 16 (s.mu.banks.getD 1 {}).val
    ++ (List.range 32).map (Config.manifestHash s.version) ++ toLE 4 (s.mu.cfgLoaded.elim 0 (·.2))
    ++ toLE 4 (s.obj Obj.SAF_SET_CRC) ++ toLE 4 s.mu.boot ++ toLE 8 s.now

/-- A certificate of the device with its length (R399): 0 its own, 1 the Plaide intermediate. -/
def certBytes (k : Nat) : List Byte := toLE 2 (Config.certLen k) ++ (List.range (Config.certLen k)).map (Config.identity (1 + k))

def opAttest (p : Pkt) (s : State) : Res :=
  let b := p.payload
  if !lenIs p 40 then s.fail stBadLength
  else if byteAt b 32 > 1 || !zeros b 33 7 then s.fail stRange
  else
    let certs := if byteAt b 32 = 1 then certBytes 0 ++ certBytes 1 else []
    let r := s.report (b.take 32) (320 + certs.length)
    s.okWith (r ++ (List.range 64).map (Config.cryptoByte 2 r) ++ certs)

/-! ## The log (R390, R391) -/

def opLogRead (p : Pkt) (s : State) : Res :=
  let b := p.payload
  let n := byteAt b 2
  if !lenIs p 8 then s.fail stBadLength
  else if byteAt b 0 > 1 || byteAt b 1 > 4 || n = 0 || n > 126 || !zeros b 3 1 then s.fail stRange
  else
    let log := if byteAt b 0 = 0 then s.log.ring else s.log.nor
    let first := le b 4 4
    let newest := match log with
      | r :: _ => r.num
      | [] => 0xFFFFFFFF
    let rs := ((log.filter fun r => decide ((r.num + 2 ^ 32 - first) % 2 ^ 32 < 2 ^ 31) && decide (byteAt b 1 ≤ r.sev)).reverse).take n
    s.okWith (toLE 4 newest ++ toLE 1 rs.length ++ toLE 3 0 ++ rs.flatMap LogRec.bytes)

/-- A record of the NOR log still stands when a newer one is written: record n lies in slot n mod 2,097,152, sectors hold
2,048 slots, and the one ahead of the write position is erased (R390). -/
def norKeeps (new old : LogRec) : Bool := decide ((new.num / 2048 + 2 ^ 21 - old.num / 2048) % 2 ^ 21 < 1023)

/-- The NOR log after one more record, newest first. -/
def norPut (l : List LogRec) (r : LogRec) : List LogRec := r :: l.filter (norKeeps r)

/-- Within 1 ms of posting the MU copies every record of at least MGT_LOG_NOR_SEV (R390). -/
def effLogNorCopy (s : State) : State :=
  if s.mu.restarting || s.mu.norBad || !s.mu.booted then s
  else
    let new := (s.log.ring.filter fun r => decide (s.log.norDone ≤ r.num) && decide (s.obj Obj.MGT_LOG_NOR_SEV ≤ r.sev)).reverse
    { s with log := { s.log with nor := new.foldl norPut s.log.nor, norDone := s.log.next } }

/-! ## Object persistence (R132) -/

/-- The value that waits for the NOR under a key. -/
def State.keptVal (s : State) (k : Nat) : Nat :=
  if k < 0x20000 then s.readObj k
  else if k < 0x20010 then ofLE (s.canU (k - 0x20000)).cfgBytes
  else if k < 0x20020 then (s.canU (k - 0x20010)).listLen
  else if k < 0x24000 then ofLE (s.ethU (k - 0x20020)).cfgBytes
  else bget 0 (s.canU ((k - 0x24000) / 0x1000)).filters ((k - 0x24000) % 0x1000)

/-- A stored value, as its object can hold it (R4), goes back to its home: a context's header or image, else the dictionary. An undefined context has the
header's reset value. -/
def State.placeObj (s : State) (i v : Nat) : State :=
  let v := maskVal i v
  if 0x4000 ≤ i && i < 0x8000 then
    let c := (i - 0x4000) / 0x100
    let o := 0x4000 + (i - 0x4000) % 0x100
    let put := fun (lo hi : Nat) => s.modCtx c fun x => { x with
      hdr := if lo = 0 && hi = objDefault Obj.ENG_HDR_HI then 0 else lo + hi * 2 ^ 128, coefAll := { stamp := s.now, session := 0xFD } }
    let h := (s.ctx c).hdr
    if o = Obj.ENG_HDR_LO then put v (h / 2 ^ 128)
    else if o = Obj.ENG_HDR_HI then put (h % 2 ^ 128) v
    else if Obj.ENG_COEF ≤ o && o ≤ Obj.ENG_COEF + 68 then
      s.modCtx c fun x => { x with coefAll := { stamp := s.now, session := 0xFD }, coef := (List.range 4).foldl (fun (b : Bank F32) j =>
        let w := v / 2 ^ (32 * j) % 2 ^ 32
        let e := 4 * (o - Obj.ENG_COEF) + j
        if w = 0 then bdel b e else bset b e (BitVec.ofNat 32 w)) x.coef }
    else s.setObj i v
  else s.setObj i v

/-- A failing access to the NOR: the mark, and NOR_FAIL. Its offset within the region is not stated (log entry 3). -/
def State.norFail (s : State) (reading : Bool) : State :=
  if s.mu.norBad then s
  else
    let n := min 65535 s.dict.dirty.length
    let r := s.drawNat
    ({ r.2 with mu := { r.2.mu with norBad := true } }).post srcMu 0x010D 0xFF (n + b2n reading * 2 ^ 16 + r.1 % 2 ^ 32 * 2 ^ 32)

def effNorPersistWrite (idx : Nat) (ok : Bool) (s : State) : State :=
  if !s.isReady || s.mu.norBad || s.mu.restarting || !s.dict.dirty.contains idx then s
  else if ok then
    { s with dict := { s.dict with nor := bset s.dict.nor idx (s.keptVal idx), dirty := s.dict.dirty.erase idx } }
  else s.norFail false

/-! ## The commands -/

def execMgtIngotBegin (dt : Nat) (p : Pkt) (s : State) : Host.Outcome State Fault Refusal :=
  .next (s.run dt (effCmd ((p.asRow 0x7000).withSel 0 0) opIngotBegin))
def execMgtIngotBeginConfig (dt : Nat) (p : Pkt) (s : State) : Host.Outcome State Fault Refusal :=
  .next (s.run dt (effCmd ((p.asRow 0x7000).withSel 0 1) opIngotBegin))
def execMgtIngotData (dt : Nat) (p : Pkt) (s : State) : Host.Outcome State Fault Refusal :=
  .next (s.run dt (effCmd (p.asRow 0x7001) opIngotData))
def execMgtIngotEnd (dt : Nat) (p : Pkt) (s : State) : Host.Outcome State Fault Refusal :=
  .next (s.run dt (effCmd (p.asRow 0x7002) opIngotEnd))
def execIngotCheckDone (dt : Nat) (r : IngotResult) (s : State) : Host.Outcome State Fault Refusal :=
  .next (s.run dt (effIngotCheckDone r))
def execIngotTransferTimeout (dt : Nat) (s : State) : Host.Outcome State Fault Refusal := .next (s.run dt effIngotTransferTimeout)
def execMgtActivate (dt : Nat) (p : Pkt) (s : State) : Host.Outcome State Fault Refusal :=
  .next (s.run dt (effCmd (p.asRow 0x7003) opActivate))
def execMgtActivateApply (dt : Nat) (s : State) : Host.Outcome State Fault Refusal := .next (s.runT dt effMgtActivateApply)
def execMgtBind (dt : Nat) (p : Pkt) (check : Fin 6) (s : State) : Host.Outcome State Fault Refusal :=
  .next (s.run dt (effCmd ((p.asRow 0x7011).withSel 0 0) (opBind (some check.val))))
def execMgtInstallAnchor (dt : Nat) (p : Pkt) (s : State) : Host.Outcome State Fault Refusal :=
  .next (s.run dt (effCmd ((p.asRow 0x7011).withSel 0 1) (opBind none)))
def execMgtRemoveBinding (dt : Nat) (p : Pkt) (s : State) : Host.Outcome State Fault Refusal :=
  .next (s.run dt (effCmd ((p.asRow 0x7011).withSel 0 2) (opBind none)))
def execMgtAttest (dt : Nat) (p : Pkt) (s : State) : Host.Outcome State Fault Refusal :=
  .next (s.run dt (effCmd (p.asRow 0x7010) opAttest))
def execMgtLogRead (dt : Nat) (p : Pkt) (s : State) : Host.Outcome State Fault Refusal :=
  .next (s.run dt (effCmd (p.asRow 0x7020) opLogRead))
def execNorPersistWrite (dt : Nat) (idx : Nat) (ok : Bool) (s : State) : Host.Outcome State Fault Refusal :=
  .next (s.run dt (effNorPersistWrite idx ok))
def execLogNorCopy (dt : Nat) (s : State) : Host.Outcome State Fault Refusal := .next (s.run dt effLogNorCopy)

end Sys2Proof.Machine
end

