-- ==== Sys2Proof/Machine/Selftest.lean ====
section
/-!
DEFINITION. In-service self-test, row repair, user patterns, fences and trace capture (R413 to R428).
-/

namespace Sys2Proof.Machine

/-! ## Segments (R413, R417) -/

/-- Banks that the test engine takes, and their segments in ascending order. -/
def testedBank (b : Nat) : Bool := b ≤ 19 || b = 23
def segCount : Nat := 1344
def segBank (i : Nat) : Nat := if i < 1280 then i / 64 else 23

/-- The duty budget of a window in stamp units. -/
def State.dutyUnits (s : State) : Nat := s.obj Obj.DIA_BIST_DUTY * 100 * usUnits

def windowUnits : Nat := 400000000

/-- A new window starts with a fresh budget (R417). -/
def State.bistWindow (s : State) : State :=
  let w := s.now / windowUnits * windowUnits
  if s.dia.window = w then s else { s with dia := { s.dia with window := w, charged := 0 } }

def effBistWindowStart (s : State) : State := if s.isReady then s.bistWindow else s

/-- The engine starts a slice (R417, R422): of the running user pattern, else the next scheduled segment within the budget. -/
def effBistSliceStart (s : State) : State :=
  if !s.isReady || s.dia.cur.isSome then s
  else match s.dia.run with
    | some (b, _, i, _) =>
      let i := if b = 255 then i else i % 64
      let c : BistSlice := { bank := if b = 255 then segBank i else b, seg := i % 64, start := s.clk, user := true }
      { s with dia := { s.dia with cur := some c } }
    | none =>
      let s := s.bistWindow
      if s.bistPaused || s.dutyUnits < s.dia.charged + 50 * usUnits then s
      else
        let c : BistSlice := { bank := segBank s.dia.nextSeg, seg := s.dia.nextSeg % 64, start := s.clk }
        { s with dia := { s.dia with cur := some c } }

def State.setCurSlice (s : State) (c : BistSlice) : State := { s with dia := { s.dia with cur := some c } }

def effBistCopyInDone (s : State) : State :=
  match s.dia.cur with
  | some c => if c.phase = 0 then s.setCurSlice { c with phase := 1 } else s
  | none => s

/-- One failing cell goes into the ring of 32 records (R419). -/
def State.putFail (s : State) (c : BistSlice) (f : CellFail) : State :=
  let n := s.dia.failNext % 32
  let ovf := match bfind s.dia.fails n with
    | some o => !o.isRead
    | none => false
  let r : DiaFail := { stamp := s.stampAgo f.ago, bank := c.bank, elem := f.elem.val, row := f.row.val, word := f.word.val,
                       bit := f.bit.val, expected := f.expected, user := c.user }
  let s : State := { s with dia := { s.dia with fails := bset s.dia.fails n r, failNext := (n + 1) % 32 } }
  if ovf then s.setFlag Obj.DIA_BIST_STAT 1 else s

/-- Failing cells that the march has read: the slice is FAILED (R415, R419). -/
def State.bistFails (s : State) (c : BistSlice) (fs : List CellFail) : State :=
  if fs.isEmpty then s
  else
    (fs.foldl (fun (s : State) f => s.putFail c f) s).setFlag Obj.DIA_BIST_STAT 2

/-- End of a slice's time budget (R416): start plus 50 µs; the retention pattern's own pause is added. -/
def State.budgetEnd (s : State) (c : BistSlice) : Nat :=
  c.start + 50 * usUnits + (match s.dia.run with
    | some (_, 3, _, _) => if c.user then 100 * msUnits else 0
    | _ => 0)

/-- The march is over, or is cut: to copy-back. A cut slice is INCOMPLETE unless a failing word was read (R415). -/
def State.toCopyBack (s : State) (cut : Bool) (fs : List CellFail) : State :=
  match s.dia.cur with
  | some c =>
    if c.phase < 2 then
      let s := s.bistFails c fs
      s.setCurSlice { c with phase := 2, result := if c.result = 1 || !fs.isEmpty then 1 else if cut then 2 else 0 }
    else s
  | none => s

/-- The march ends (R414, R416): later than the budget's end, it had been cut short. -/
def effBistMarchDone (fs : List CellFail) (s : State) : State :=
  match s.dia.cur with
  | some c => if c.phase = 1 then s.toCopyBack (decide (s.budgetEnd c < s.clk)) fs else s
  | none => s

def effBistPreempt (fs : List CellFail) (s : State) : State := s.toCopyBack true fs

/-- The march ends on this tick and is still to come (R66). -/
def State.marchComes (s : State) : Bool :=
  s.awaits fun i => match i with
    | .bistMarchDone _ _ => true
    | _ => false

def effBistBudgetExpire (fs : List CellFail) (s : State) : State :=
  match s.dia.cur with
  | some c => if s.budgetEnd c ≤ s.clk && !s.marchComes then s.toCopyBack true fs else s
  | none => s

/-- A pass over all segments ends: it is counted, and DIA_BANK_n shows its failed segments. -/
def State.passEnd (s : State) : State :=
  let s := s.bump Obj.DIA_BIST_PASSES 0xFFFFFFFF
  let s := (List.range 24).foldl (fun (s : State) b => s.setField (Obj.DIA_BANK + b) 15 8 (min 255 (bget 0 s.dia.segFail b))) s
  { s with dia := { s.dia with segFail := [], nextSeg := 0 } }

/-- The next segment: of the user run, or of the schedule; an INCOMPLETE segment comes again at the next pass. -/
def State.segDone (s : State) (c : BistSlice) : State :=
  if c.user then
    { s with dia := { s.dia with run := match s.dia.run with
        | some (b, p, i, n) => if n ≤ 1 then none else some (b, p, i + 1, n - 1)
        | none => none } }
  else
    let s : State := { s with dia := { s.dia with
      charged := s.dia.charged + (s.clk - c.start), nextSeg := s.dia.nextSeg + 1
      segFail := if c.result = 1 then bset s.dia.segFail c.bank (bget 0 s.dia.segFail c.bank + 1) else s.dia.segFail } }
    if segCount ≤ s.dia.nextSeg then s.passEnd else s

/-- The copy-back ends: the result (R415, Table 16.9). -/
def effBistSliceEnd (s : State) : State :=
  match s.dia.cur with
  | some c =>
    if c.phase = 2 then
      let s : State := { s with dia := { s.dia with cur := none } }
      let s := s.setField Obj.DIA_BIST_STAT 23 8 (c.bank * 2 ^ 8 + c.seg * 2 ^ 2 + c.result)
      let s := if c.result = 2 then (s.setFlag Obj.DIA_BIST_STAT 4).bump Obj.DIA_BIST_INCOMPLETE 0xFFFFFFFF
        else if c.result = 1 then (s.bump Obj.DIA_BIST_FAIL_CNT 0xFFFFFFFF).devEvent 5 else s
      s.segDone c
    else s
  | none => s

/-- A slice of the Referee's own memory (R418): a failing one is an uncorrectable error. -/
def effRefereeBistSlice (ok : Bool) (s : State) : State :=
  if !s.ref.runs then s
  else
    let s : State := { s with dia := { s.dia with refSeg := (s.dia.refSeg + 1) % 64 } }
    if ok then s else s.refereeFault 4

/-! ## Fences (R424 to R426) -/

/-- A matrix unit is fenced: its queued evaluations move, as R229 moves them; one that computes completes there. -/
def State.fenceMx (s : State) (u : Nat) : State :=
  let s := s.fence (6 + u)
  { s with eng := { s.eng with ctxs := s.eng.ctxs.map fun (e : Nat × Ctx) =>
      (e.1, if hUnit e.2.hdr = u || s.throttled then e.2.toUnit (1 - u) else e.2) } }

/-- A sensing channel is fenced, and so lost (R153). -/
def State.fenceSd (s : State) (n : Nat) : State :=
  let s := (s.fence (64 + n)).lose [n]
  if (s.sdU n).lost then s else s.modSd n fun u => { u with lost := true }

/-- An encoder interface is fenced, and so faulted (R198). -/
def State.fenceEnc (s : State) (n : Nat) : State :=
  let s := s.fence (16 + n)
  let ev := EncEv.fault 3
  let s := if (s.encU n).fault then s else (s.modEnc n fun e => { e with fault := true, valid := false, faultAt := s.now }).encEvent n s.now ev
  (s.refSlices n).foldl (fun (s : State) k => if ((s.rs k).enc).fault then s else
    (s.modRs k fun x => { x with enc := { x.enc with fault := true, valid := false, faultAt := s.now } }).refEvent k n s.now ev) s

/-- A slice is fenced: DISABLED, SAFE frames on its links (Table 16.4a, Table 10.2). -/
def State.fenceSlice (s : State) (k : Nat) : State :=
  let s := s.fence k
  (if s.enabled k then s.toDisabled k else s).linksRefresh k

/-- Fence the unit of a bit of DIA_FENCE, with the effect of Table 16.4a. -/
def State.fenceUnit (s : State) (k : Nat) : State :=
  if s.fenced k then s
  else if k < 6 then s.fenceSlice k
  else if k < 8 then s.fenceMx (k - 6)
  else if k < 16 then s.fence k
  else if k < 24 then s.fenceEnc (k - 16)
  else if k < 48 then (s.fence k).linkFault (k - 24) 6
  else if k < 50 then s.fence k
  else if 64 ≤ k && k < 128 then s.fenceSd (k - 64)
  else s

/-- Three uncorrectable datapath errors within 1 s fence a matrix unit (R425). -/
def effMatrixDatapathError (unit : Fin 2) (s : State) : State :=
  if !s.isReady then s
  else
    let u := unit.val
    let l := (s.now :: s.eng.fenceErr.getD u []).take 3
    let s : State := { s with eng := { s.eng with fenceErr := s.eng.fenceErr.set u l } }
    match l[2]? with
    | some t => if s.now ≤ t + sUnits then s.fenceUnit (6 + u) else s
    | none => s

/-- The test pattern of a channel with no owner. -/
def effSdPatternCheck (ch : Fin 64) (ok : Bool) (s : State) : State :=
  let n := ch.val
  if s.isReady && !ok && !s.isMon n && (s.sdSlot n).isNone then s.fenceUnit (64 + n) else s

/-- The loopback of a link with EN 0. -/
def effGlLoopbackCheck (l : Fin 24) (ok : Bool) (s : State) : State :=
  if s.isReady && !ok && !bit (s.glCfg l.val) 63 then s.fenceUnit (24 + l.val) else s

/-- The loopback of a ring port while the by-pass is closed. -/
def effRingLoopbackCheck (port : Fin 2) (ok : Bool) (s : State) : State :=
  if s.isReady && !ok && s.mu.bypass then s.fenceUnit (48 + port.val) else s

/-- The loopback of a controller in OFF mode. -/
def effCanLoopbackCheck (c : Fin 4) (ok : Bool) (s : State) : State :=
  if s.isReady && !ok && (s.canU c.val).mode = 0 then s.fenceUnit (8 + c.val) else s

/-! ## User patterns (R422, R423) -/

def opBistRun (p : Pkt) (s : State) : Res :=
  let b := p.payload
  let bank := byteAt b 0
  let first := le b 2 2
  let n := le b 4 2
  let total := if bank = 255 then segCount else 64
  if !lenIs p 8 then s.fail stBadLength
  else if s.mu.lc = 2 || s.mu.lc = 4 || s.anyEnabled then s.fail stState
  else if s.throttled then s.fail stThrottled
  else if s.dia.run.isSome then s.fail stBusy
  else if !(testedBank bank || bank = 255) || byteAt b 1 > 3 || n = 0 || first + n > total || !zeros b 6 2 then s.fail stRange
  else
    let d := if s.dia.cur.any fun c => bank = 255 || c.bank = bank then s.dia.preempt else s.dia
    ({ s with dia := { d with run := some (bank, byteAt b 1, first, n) } } : State).accept

def opBistResult (p : Pkt) (s : State) : Res :=
  let b := p.payload
  let first := byteAt b 0
  let n := byteAt b 1
  if !lenIs p 8 then s.fail stBadLength
  else if first > 31 || n > 32 || !zeros b 2 6 then s.fail stRange
  else
    let is := (List.range n).map fun j => Obj.DIA_FAIL + (first + j) % 32
    let out := is.flatMap fun i => toLE 16 (s.readObj i)
    let heads := toLE 4 (s.readObj Obj.DIA_BIST_STAT) ++ toLE 4 (s.obj Obj.DIA_BIST_PASSES) ++ toLE 4 (s.obj Obj.DIA_BIST_INCOMPLETE)
      ++ toLE 4 (s.obj Obj.DIA_BIST_FAIL_CNT)
    (is.foldl (fun (s : State) i => s.readEff i) s).okWith (heads ++ out)

/-! ## Row repair (R420, R421) -/

def opRemapRow (p : Pkt) (s : State) : Res :=
  let b := p.payload
  let bank := byteAt b 0
  let row := le b 2 2
  let used := bget 0 s.dia.spares bank
  if !lenIs p 8 then s.fail stBadLength
  else if 20 ≤ bank && bank ≤ 22 && s.anyEnabled then s.fail stState
  else if bank > 23 || row > 511 || !zeros b 1 1 || !zeros b 4 4 then s.fail stRange
  else if 8 ≤ used then s.fail stNoSpare
  else
    let d := if s.dia.cur.any fun c => c.bank = bank then s.dia.preempt else s.dia
    if s.mu.norBad then ({ s with dia := d } : State).fail stInternal
    else
      ({ s with dia := { d with repairs := d.repairs ++ [(bank, row, used)], spares := bset d.spares bank (used + 1) } } : State).okWith
        (toLE 1 used ++ toLE 1 (7 - used))

/-! ## Trace capture (R427) -/

def State.traceReply (s : State) : List Byte := toLE 2 s.dia.traceNext ++ toLE 4 s.dia.traceCount ++ toLE 4 s.dia.traceDrops

def opTrace (p : Pkt) (s : State) : Res :=
  let b := p.payload
  let op := byteAt b 0
  if !lenIs p 40 then s.fail stBadLength
  else if s.throttled then s.fail stThrottled
  else if s.flk.step = .resync then s.fail stBusy
  else if op > 2 || !zeros b 1 3 then s.fail stRange
  else if op = 0 then
    let s : State := { s with dia := { s.dia with traceOn := false, traceHeld := false, traceWait := [] } }
    s.okWith s.traceReply
  else
    let s : State := { s with dia := { s.dia with
      traceOn := true, traceHeld := false, traceMode := op, traceLimit := le b 4 4, traceMask := le b 8 32
      traceNext := 0, traceCount := 0, traceDrops := 0, traceWait := [] } }
    s.okWith s.traceReply

/-- One record a tick goes into the next slot; capture stops at its limit, or when full in operation 2. -/
def effTraceCapture (s : State) : State :=
  match s.dia.traceOn, s.dia.traceWait with
  | true, r :: rest =>
    let n := s.dia.traceNext
    let cnt := s.dia.traceCount + 1
    let stop := (s.dia.traceLimit ≠ 0 && s.dia.traceLimit ≤ cnt) || (s.dia.traceMode = 2 && 16384 ≤ cnt)
    { s with dia := { s.dia with
        trace := bset s.dia.trace n r, traceBad := s.dia.traceBad.erase n, traceNext := (n + 1) % 16384
        traceCount := min 0xFFFFFFFF cnt, traceWait := if stop then [] else rest, traceOn := !stop } }
  | _, _ => s

/-- A slot as BAR2 shows it (R427, R428): bytes 0 to 62 of the record, then its length, or 0xFF for a corrupt slot. -/
def State.traceSlot (s : State) (n : Nat) : List Byte :=
  match bfind s.dia.trace n with
  | some r =>
    let bs := r.bytes
    (bs ++ List.replicate 63 0#8).take 63 ++ toLE 1 (if s.dia.traceBad.contains n then 0xFF else bs.length)
  | none => List.replicate 63 0#8 ++ toLE 1 (if s.dia.traceBad.contains n then 0xFF else 0)

/-! ## The commands -/

def execMatrixDatapathError (dt : Nat) (unit : Fin 2) (s : State) : Host.Outcome State Fault Refusal :=
  .next (s.run dt (effMatrixDatapathError unit))
def execDiaBistRun (dt : Nat) (p : Pkt) (s : State) : Host.Outcome State Fault Refusal :=
  .next (s.run dt (effCmd (p.asRow 0x8000) opBistRun))
def execDiaBistResult (dt : Nat) (p : Pkt) (s : State) : Host.Outcome State Fault Refusal :=
  .next (s.run dt (effCmd (p.asRow 0x8001) opBistResult))
def execDiaRemapRow (dt : Nat) (p : Pkt) (s : State) : Host.Outcome State Fault Refusal :=
  .next (s.run dt (effCmd (p.asRow 0x8002) opRemapRow))
def execDiaTraceStop (dt : Nat) (p : Pkt) (s : State) : Host.Outcome State Fault Refusal :=
  .next (s.run dt (effCmd ((p.asRow 0x8010).withSel 0 0) opTrace))
def execDiaTraceStartRing (dt : Nat) (p : Pkt) (s : State) : Host.Outcome State Fault Refusal :=
  .next (s.run dt (effCmd ((p.asRow 0x8010).withSel 0 1) opTrace))
def execDiaTraceStartOnce (dt : Nat) (p : Pkt) (s : State) : Host.Outcome State Fault Refusal :=
  .next (s.run dt (effCmd ((p.asRow 0x8010).withSel 0 2) opTrace))
def execBistWindowStart (dt : Nat) (s : State) : Host.Outcome State Fault Refusal := .next (s.run dt effBistWindowStart)
def execBistSliceStart (dt : Nat) (s : State) : Host.Outcome State Fault Refusal := .next (s.run dt effBistSliceStart)
def execBistCopyInDone (dt : Nat) (s : State) : Host.Outcome State Fault Refusal := .next (s.run dt effBistCopyInDone)
def execBistMarchDone (dt : Nat) (fails : List CellFail) (s : State) : Host.Outcome State Fault Refusal :=
  .next (s.run dt (effBistMarchDone fails))
def execBistSliceEnd (dt : Nat) (s : State) : Host.Outcome State Fault Refusal := .next (s.run dt effBistSliceEnd)
def execBistPreempt (dt : Nat) (fails : List CellFail) (s : State) : Host.Outcome State Fault Refusal :=
  .next (s.run dt (effBistPreempt fails))
def execBistBudgetExpire (dt : Nat) (fails : List CellFail) (s : State) : Host.Outcome State Fault Refusal :=
  .next (s.run dt (effBistBudgetExpire fails))
def execRefereeBistSlice (dt : Nat) (ok : Bool) (s : State) : Host.Outcome State Fault Refusal :=
  .next (s.run dt (effRefereeBistSlice ok))
def execSdPatternCheck (dt : Nat) (ch : Fin 64) (ok : Bool) (s : State) : Host.Outcome State Fault Refusal :=
  .next (s.run dt (effSdPatternCheck ch ok))
def execGlLoopbackCheck (dt : Nat) (l : Fin 24) (ok : Bool) (s : State) : Host.Outcome State Fault Refusal :=
  .next (s.run dt (effGlLoopbackCheck l ok))
def execRingLoopbackCheck (dt : Nat) (port : Fin 2) (ok : Bool) (s : State) : Host.Outcome State Fault Refusal :=
  .next (s.run dt (effRingLoopbackCheck port ok))
def execCanLoopbackCheck (dt : Nat) (c : Fin 4) (ok : Bool) (s : State) : Host.Outcome State Fault Refusal :=
  .next (s.run dt (effCanLoopbackCheck c ok))
def execTraceCapture (dt : Nat) (s : State) : Host.Outcome State Fault Refusal := .next (s.run dt effTraceCapture)

end Sys2Proof.Machine
end

