-- ==== Sys2Proof/Machine/System.lean ====
section
/-!
DEFINITION. The system opcodes (R121 to R126) and the re-initialisation of functions (Table 16.5).
-/

namespace Sys2Proof.Machine

/-! ## Sessions (R121 to R124) -/

/-- A session ends (R123): its stored replies, subscriptions, staged sets, pending coefficient copies (R224) and transfer
(R405) go with it. No drive state changes. -/
def State.endSession (s : State) (n : Nat) : State :=
  let s := s.setSess n none
  let s := if (bget [] s.ref.staged n).isEmpty then s
    else s.setObj Obj.SAF_STAGED_COUNT (((bdel s.ref.staged n).map fun e => e.2.length).foldl max 0)
  let s : State := { s with
    host := { s.host with
      deferred := s.host.deferred.map fun d => if d.pkt.session.toNat = n then { d with live := false } else d
      subs := s.host.subs.filter fun e => match e.2 with
        | some x => x.session ≠ n
        | none => false }
    ref := { s.ref with staged := bdel s.ref.staged n }
    eng := { s.eng with
      staged := bdel s.eng.staged n
      ctxs := s.eng.ctxs.map fun (e : Nat × Ctx) => (e.1, if e.2.pendCoef.isSome && e.2.freezeSess = n then
        { e.2 with pendCoef := none, release := none, freezeSess := 0xFF, pendWrites := 0 } else e.2) } }
  match s.mu.transfer with
  | some t => if t.session = some n then s.abandon else s
  | none => s

/-- Bytes of a session nonce, by its number. -/
def nonceBytes (k : Nat) : List Byte := (List.range 16).map (Config.cryptoByte 3 (toLE 8 k))

/-- Method that a link and a level require (Table 5.17): 0 none, 1 ECDH, 2 certificate. -/
def openMethod (l : Link) (level : Nat) : Nat :=
  match l with
  | .eth _ => 1
  | .can _ => 0
  | _ => if level = 4 then 2 else 0

/-- The certificate of an opening is what the level requires (R124, R394): its chain, and the maintenance OID. -/
def State.certOk (s : State) (level : Nat) (cert : List Byte) : Bool :=
  let a := s.anchorBytes
  if a.isEmpty then Config.cryptoOk 5 cert
  else Config.cryptoOk 6 (a.take 32 ++ cert) && (level ≠ 4 || Config.cryptoOk 7 (a ++ cert))

/-- Host signature of an opening over host key, device key and nonce (R124). -/
def State.openAuth (s : State) (p : Pkt) (level : Nat) (k : Nat) : Bool :=
  let b := p.payload
  let cert := b.drop 132
  s.certOk level cert && Config.cryptoOk 3 (b ++ nonceBytes k)

/-- A device key pair or signature of an opening, as bytes. -/
def openBytes (op : Nat) (b : List Byte) (k : Nat) : List Byte := (List.range 64).map (Config.cryptoByte op (b ++ nonceBytes k))

/-- "PLD6T20 cmd", the info string of the key derivation. -/
def keyInfo : List Byte := [0x50#8, 0x4C#8, 0x44#8, 0x36#8, 0x54#8, 0x32#8, 0x30#8, 0x20#8, 0x63#8, 0x6D#8, 0x64#8]

/-- A session key of one direction (R124): what HKDF-SHA-256 yields for the exchange `b`, the nonce `k` as salt and session `n`. -/
def sessionKey (op : Nat) (b : List Byte) (k n : Nat) : List Byte :=
  (List.range 32).map (Config.cryptoByte op (b ++ nonceBytes k ++ keyInfo ++ toLE 1 n))

def opOpenSession (p : Pkt) (s : State) : Res :=
  let b := p.payload
  let level := byteAt b 0
  let method := byteAt b 1
  let cert := b.drop 132
  let need := openMethod p.link level
  let live := s.host.nonce.filter fun e => s.clk ≤ e.2
  let signed := need = 2 || (need = 1 && level ≠ 0)
  if b.length < 132 || b.length ≠ 132 + le b 2 2 then s.fail stBadLength
  else if level = 3 || level > 4 || method > 2 || (method = 0 && !(b.drop 4).all (fun x => x = 0#8)) then s.fail stRange
  else if !s.linkAllows p.link level then s.fail stDenied
  else match (List.range 64).find? fun n => (s.sess n).isNone with
    | none => s.fail stNoSessionSlot
    | some n =>
      if method ≠ need then s.fail stAuth
      else if need = 0 then
        (s.setSess n (some { level := level, link := p.link, idle := s.clk })).okWith (toLE 1 n ++ toLE 3 0 ++ toLE 128 0)
      else match live.find? fun e => !signed || s.openAuth p level e.1 with
        | none => s.fail stAuth
        | some e =>
          let s : State := { s with host := { s.host with nonce := s.host.nonce.filter fun x => x.1 ≠ e.1 } }
          let x : Session := { level := level, link := p.link, idle := s.clk
                               edvoten := signed && Config.cryptoOk 5 cert
                               anchored := signed && !s.anchorBytes.isEmpty && Config.cryptoOk 6 (s.anchorBytes.take 32 ++ cert)
                               keyIn := if need = 1 then sessionKey 8 b e.1 n else []
                               keyOut := if need = 1 then sessionKey 9 b e.1 n else []
                               finger := if signed then ofLE ((List.range 8).map (Config.cryptoByte 6 cert)) else 0 }
          let keys := if need = 1 then openBytes 4 b e.1 ++ openBytes 5 b e.1 else toLE 128 0
          (s.setSess n (some x)).okWith (toLE 1 n ++ toLE 3 0 ++ keys)

/-- Its reply still goes out under the session's keys (R118). -/
def opCloseSession (p : Pkt) (s : State) : Res :=
  if !lenIs p 0 then s.fail stBadLength
  else
    let n := p.session.toNat
    let t := s.endSession n
    ({ t with host := { t.host with closing := (s.sess n).map fun x => (n, x) } } : State).okay

def opNop (p : Pkt) (s : State) : Res := if p.payload.length > 4064 then s.fail stBadLength else s.okWith p.payload

/-- The ASCII text of SYS_GET_INFO. -/
def infoName : List Byte := [0x50#8, 0x4C#8, 0x44#8, 0x2D#8, 0x36#8, 0x54#8, 0x32#8, 0x30#8]

/-- What SYS_GET_INFO answers, with the nonce of a number (Table 5.19). -/
def State.infoBytes (s : State) (k : Nat) : List Byte :=
  infoName ++ toLE 4 s.version ++ toLE 3 s.mu.ownGens ++ toLE 1 s.mu.lc ++ toLE 1 s.mu.phase.code
    ++ toLE 1 s.flk.role.code ++ toLE 2 s.nodeId ++ toLE 4 s.mu.boot ++ (List.range 16).map Config.serial ++ nonceBytes k
    ++ toLE 1 s.sessCount ++ toLE 3 0

def opGetInfo (p : Pkt) (s : State) : Res :=
  if !lenIs p 0 then s.fail stBadLength
  else
    let k := s.host.nonces
    ({ s with host := { s.host with
      nonces := k + 1, nonce := s.host.nonce ++ [(k, s.clk + 10 * sUnits)] } } : State).okWith (s.infoBytes k)

/-! ## Reset and power cycle -/

/-- Device states that take SYS_RESET (R114, R387, R13). -/
def State.resetState (s : State) : Bool :=
  match s.mu.phase with
  | .ready => true
  | .recovery => true
  | .thermalHold => decide (5000 ≤ s.hk.leave)
  | .clockHold => match s.mu.clkGoodAt with
    | some t => decide (t + 10 * msUnits ≤ s.muNow)
    | none => false
  | _ => false

def opReset (p : Pkt) (s : State) : Res :=
  let b := p.payload
  let act := byteAt b 0 = 1
  if !lenIs p 4 then s.fail stBadLength
  else if !s.resetState || (act && (s.mu.banks.getD (1 - s.mu.active) {}).state ≠ 3) then s.fail stState
  else if s.resetLocked then s.fail stSafetyLocked
  else if byteAt b 0 > 1 || !zeros b 1 3 then s.fail stRange
  else ({ s with mu := { s.mu with resetDue := some (s.muNow + 100 * usUnits, act) } } : State).okay

/-- In a Flask the active asserts the line for the pair (R333, R334). -/
def opPwrCycle (p : Pkt) (s : State) : Res :=
  if !lenIs p 4 then s.fail stBadLength
  else if s.inFlask && !s.isActive then s.fail stState
  else if s.resetLocked then s.fail stSafetyLocked
  else if !zeros p.payload 0 4 then s.fail stRange
  else
    let due := s.muNow + 100 * usUnits
    ({ s with mu := { s.mu with
      pwrcycDue := some (match s.mu.pwrcycDue with | some t => min t due | none => due)
      pwrcycHost := s.mu.pwrcycDue.isNone || s.mu.pwrcycHost } } : State).okay

/-! ## SYS_FUNC_REINIT (Table 16.5) -/

/-- Slot channels of a slice. -/
def State.slotChannels (s : State) (k : Nat) : List Nat :=
  ((List.range 16).filter fun j => slotEn (s.slot k j)).map fun j => slotCh (s.slot k j)

/-- A channel of the slice is healthy: clocked, not fenced and not stuck. -/
def State.chanHealthy (s : State) (n : Nat) : Bool :=
  s.groupClocked (n / 8) && (!s.groupExt (n / 8) || s.mclk.inRun) && !s.fenced (64 + n) && decide ((s.sdU n).run < 257)

/-- Every diagnostic of the slice is healthy: its slot channels, its monitors, the Referee's encoder path (Table 12.6). -/
def State.allHealthy (s : State) (k : Nat) : Bool :=
  (s.slotChannels k).all s.chanHealthy
  && (List.range 64).all (fun n => !(s.isMon n && bits (s.monCfg n) 120 118 = k && (s.sdU n).lost))
  && !(decide (s.obj (safo k Obj.SAF_ENC) < 8) && (s.rs k).enc.fault)

/-- A cause of degraded mode stays over the re-initialisation: unless every channel is healthy, each; else those that it does not
clear (Table 12.6). -/
def State.causeStays (s : State) (k c : Nat) : Bool := !s.allHealthy k || decide (3 ≤ c / 256)

/-- A slice: its lost channels and promotions, LOCKOUT and fault flags are cleared; contexts keep their state. -/
def State.sliceReinit (s : State) (k : Nat) : State :=
  let s := (s.slotChannels k).foldl (fun (s : State) n =>
    if s.fenced (64 + n) then s else s.modSd n fun u => { u with lost := false, okSince := none }) s
  let s := (s.setObj (slc k Obj.SLC_SD_PROMOTED) 0).clrFlag (slc k Obj.SLC_STATUS) 0xE
  let s := s.modSl k fun x => { x with loss := {}, promoteAt := [] }
  s.undegrade k (s.causeStays k)

/-- A context (R212): the fault, the flags and the counters are cleared, the state is zero. -/
def State.ctxReinit (s : State) (c : Nat) : State :=
  let s := s.modCtx c fun x => { x.settled s.now with
    stateAt := s.now, fault := false, consec := 0, xhat := List.replicate 8 0#32, z := List.replicate 4 0#32, evals := [], repeats := [] }
  (s.setObj (ctxo c Obj.ENG_STAT) 0).setObj (ctxo c Obj.ENG_OVERRUN_CNT) 0

/-- A queue pair: owned entries discarded, indices 0, PHASE 1, QERR cleared, bases kept, EN 1. -/
def State.pairReinit (s : State) (n : Nat) : State :=
  (s.discardOwned n).modPair n fun q => { q with
    sqTail := 0, sqHead := 0, cqTail := 0, cqHead := 0, phase := true, posted := [], qerr := 0, en := !s.isSpi n }

/-- The unit of class 0 that a target names. -/
def State.unitReinit (s : State) (t : Nat) : Res :=
  if t < 6 then
    if s.enabled t || s.fenced t then s.fail stState else (s.sliceReinit t).okay
  else if 0x10 ≤ t && t ≤ 0x13 then
    if s.fenced (8 + (t - 0x10)) then s.fail stState else (s.canReinit (t - 0x10)).okay
  else if 0x18 ≤ t && t ≤ 0x19 then (s.ethReinit (t - 0x18)).okay
  else if 0x20 ≤ t && t ≤ 0x37 then
    let l := t - 0x20
    let k := s.linkSlice l
    if s.fenced (24 + l) || (k < 6 && s.enabled k) then s.fail stState else (s.linkReinit l).okay
  else s.fail stState

/-- SYS_FUNC_REINIT (Table 5.19): the state of the unit is judged before the payload's fields (Table 5.2). -/
def opReinit (p : Pkt) (s : State) : Res :=
  let b := p.payload
  let n := byteAt b 1
  let owned := fun (o : Nat) => decide (o < 6) && s.enabled o
  if !lenIs p 4 then s.fail stBadLength
  else match byteAt b 0 with
    | 0 =>
      let r := s.unitReinit p.target.toNat
      if r.status = stOk && !zeros b 1 3 then s.fail stRange else r
    | 1 =>
      if s.pairOf p.link = some n then s.fail stState
      else if n > 15 || !zeros b 2 2 then s.fail stRange
      else (s.pairReinit n).okay
    | 2 =>
      if n ≤ 63 && (s.ctx n).hdr ≠ 0 && owned (hSlice (s.ctx n).hdr) then s.fail stState
      else if n > 63 || (s.ctx n).hdr = 0 || !zeros b 2 2 then s.fail stRange
      else (s.ctxReinit n).okay
    | 3 =>
      if n ≤ 3 && s.fenced (12 + n) then s.fail stState
      else if n > 3 || !zeros b 2 2 then s.fail stRange
      else (s.auxReinit n).okay
    | 4 =>
      if n ≤ 7 && (s.fenced (16 + n) || owned (s.encOwner n)) then s.fail stState
      else if n > 7 || !zeros b 2 2 then s.fail stRange
      else (s.encReinit n).okay
    | _ => s.fail stRange

/-! ## The commands -/

def execSysNop (dt : Nat) (p : Pkt) (s : State) : Host.Outcome State Fault Refusal := .next (s.run dt (effCmd p.asNop opNop))
def execSysOpenSession (dt : Nat) (p : Pkt) (s : State) : Host.Outcome State Fault Refusal :=
  .next (s.run dt (effCmd (p.asRow 0x0001) opOpenSession))
def execSysCloseSession (dt : Nat) (p : Pkt) (s : State) : Host.Outcome State Fault Refusal :=
  .next (s.run dt (effCmd (p.asRow 0x0002) opCloseSession))
def execSysGetInfo (dt : Nat) (p : Pkt) (s : State) : Host.Outcome State Fault Refusal :=
  .next (s.run dt (effCmd (p.asRow 0x0003) opGetInfo))
def execSysReset (dt : Nat) (p : Pkt) (s : State) : Host.Outcome State Fault Refusal :=
  .next (s.run dt (effCmd ((p.asRow 0x0010).withSel 0 0) opReset))
def execSysResetActivate (dt : Nat) (p : Pkt) (s : State) : Host.Outcome State Fault Refusal :=
  .next (s.run dt (effCmd ((p.asRow 0x0010).withSel 0 1) opReset))
def execSysFuncReinitUnit (dt : Nat) (p : Pkt) (s : State) : Host.Outcome State Fault Refusal :=
  .next (s.run dt (effCmd ((p.asRow 0x0011).withSel 0 0) opReinit))
def execSysFuncReinitPair (dt : Nat) (p : Pkt) (s : State) : Host.Outcome State Fault Refusal :=
  .next (s.run dt (effCmd ((p.asRow 0x0011).withSel 0 1) opReinit))
def execSysFuncReinitContext (dt : Nat) (p : Pkt) (s : State) : Host.Outcome State Fault Refusal :=
  .next (s.run dt (effCmd ((p.asRow 0x0011).withSel 0 2) opReinit))
def execSysFuncReinitAux (dt : Nat) (p : Pkt) (s : State) : Host.Outcome State Fault Refusal :=
  .next (s.run dt (effCmd ((p.asRow 0x0011).withSel 0 3) opReinit))
def execSysFuncReinitEncoder (dt : Nat) (p : Pkt) (s : State) : Host.Outcome State Fault Refusal :=
  .next (s.run dt (effCmd ((p.asRow 0x0011).withSel 0 4) opReinit))
def execSysPwrcycleReq (dt : Nat) (p : Pkt) (s : State) : Host.Outcome State Fault Refusal :=
  .next (s.run dt (effCmd (p.asRow 0x0012) opPwrCycle))

end Sys2Proof.Machine
end

