-- ==== Sys2Proof/Machine/Ring.lean ====
section
/-!
DEFINITION. The Flask opcodes, the ring's frames and the mirror (R324 to R345), and the opcode dispatcher that a mirrored
command and the management unit use.
-/

namespace Sys2Proof.Machine

/-! ## The Flask opcodes (R324, R336, R339) -/

/-- EN goes to 0: role none, nothing of the pair remains (Table 13.4). -/
def State.leaveFlask (s : State) : State :=
  let s := (s.abortHandover 1).setRole .none 2
  { s with flk := { s.flk with
    step := .none, partner := none, partnerDeadline := none, handover := none, mirror := [], missing := [], held := [],
    resyncStep := 0, resyncDeadline := none, snapAt := none, retryAt := none, loose := false, joinRefused := 0 } }

def opFlkConfig (p : Pkt) (s : State) : Res :=
  let b := p.payload
  let v := le b 0 16
  let within := fun (hi lo a z : Nat) => decide (a ≤ bits v hi lo) && decide (bits v hi lo ≤ z)
  let on := bit v 127
  if !lenIs p 16 then s.fail stBadLength
  else if s.anyEnabled then s.fail stState
  else if bits v 124 114 ≠ 0 || bits v 99 96 ≠ 0 || bits v 47 0 ≠ 0 || (on && bits v 113 100 = 0) || !within 95 80 10 150
      || !within 79 64 10 10000 || !within 63 48 50 10000 then s.fail stRange
  else if s.mu.norBad then s.fail stInternal
  else
    let s := s.setKept p.session.toNat Obj.FLK_CFG v
    (if on then s else s.leaveFlask).okay

/-- FLK_HANDOVER, for a command accepted at `acc`. The standby judges a mirrored one by its own step state. -/
def opHandoverAt (acc : Stamp) (p : Pkt) (s : State) : Res :=
  let b := p.payload
  let t0 := le b 0 8
  let t := if t0 = 0 then gridUp (acc + s.handoverLead) else t0
  let may := match s.flk.role with
    | .active => s.mayHandOver
    | .standby => s.host.current.isNone && (s.flk.step = .inStep || s.flk.step = .loose)
    | _ => false
  if !lenIs p 16 then s.fail stBadLength
  else if !s.inFlask || !may then s.fail stState
  else if s.flk.handover.isSome then s.fail stBusy
  else if t < acc + 50 * usUnits then s.fail stState
  else if t % 8000 ≠ 0 || !zeros b 8 8 then s.fail stRange
  else ({ s with flk := { s.flk with handover := some t } } : State).accept

def opHandover (p : Pkt) (s : State) : Res :=
  opHandoverAt (match s.cur with | some d => d.accepted | none => s.now) p s

/-- The partner's heartbeat shows it active. -/
def State.partnerActive (s : State) : Bool := s.flk.partner.any fun h => h.claim / 2 ^ 14 = 3

def opResync (p : Pkt) (s : State) : Res :=
  if !lenIs p 0 then s.fail stBadLength
  else if s.flk.step = .resync then s.fail stBusy
  else if !s.inFlask || !(s.flk.role = .none || (s.flk.role = .standby && s.flk.step = .outOfStep)) || !s.partnerActive then s.fail stState
  else
    let r := s.mayJoin s.flk.partner
    if r.2 then ({ r.1.startResync with flk := { r.1.startResync.flk with retried := false } } : State).accept else r.1.fail stState

/-! ## Every opcode by its code -/

/-- The effect of an opcode (Table 5.18). -/
def opOf (code : Nat) : Option (Pkt → State → Res) :=
  match code with
  | 0x0000 => some opNop
  | 0x0001 => some opOpenSession
  | 0x0002 => some opCloseSession
  | 0x0003 => some opGetInfo
  | 0x0010 => some opReset
  | 0x0011 => some opReinit
  | 0x0012 => some opPwrCycle
  | 0x1000 => some opObjRead
  | 0x1001 => some opObjWrite
  | 0x1002 => some opObjReadBlock
  | 0x1003 => some opObjWriteBlock
  | 0x1010 => some opObjSubscribe
  | 0x2000 => some opDrvEnable
  | 0x2001 => some opDrvDisable
  | 0x2010 => some opSetSpeed
  | 0x2011 => some opSetTorque
  | 0x2020 => some opDrvStop
  | 0x2021 => some opDrvStart
  | 0x2030 => some opDischarge
  | 0x3000 => some opDefineContext
  | 0x3001 => some opWriteCoef
  | 0x3002 => some opFreeze
  | 0x3003 => some opRelease
  | 0x3004 => some opSeedState
  | 0x3010 => some opEngLink
  | 0x3011 => some opEngGroup
  | 0x3020 => some opEngCommit
  | 0x4000 => some opSetIncrement
  | 0x4001 => some opStep
  | 0x4002 => some opServoMode
  | 0x4010 => some opRallyWrite
  | 0x4020 => some opTioConfig
  | 0x5000 => some opCanConfig
  | 0x5001 => some opCanFilter
  | 0x5002 => some opCanTx
  | 0x5003 => some opCanCancel
  | 0x5004 => some opCanAck
  | 0x5010 => some opEthConfig
  | 0x6000 => some opSafLogin
  | 0x6001 => some opSafCommit
  | 0x6002 => some opSafLogRead
  | 0x7000 => some opIngotBegin
  | 0x7001 => some opIngotData
  | 0x7002 => some opIngotEnd
  | 0x7003 => some opActivate
  | 0x7010 => some opAttest
  | 0x7011 => some (opBind none)
  | 0x7020 => some opLogRead
  | 0x8000 => some opBistRun
  | 0x8001 => some opBistResult
  | 0x8002 => some opRemapRow
  | 0x8010 => some opTrace
  | 0x9000 => some opFlkConfig
  | 0x9001 => some opHandover
  | 0x9002 => some opResync
  | _ => none

/-! ## Applying mirrored inputs (R328, R329) -/

/-- The command of a mirror item: on the device that accepted it, it completes; elsewhere only its effect takes place. The
MU's opcodes act on their own device alone (R334). -/
def State.applyCommand (s : State) (arrival : Stamp) (p : Pkt) : State :=
  let run : Pkt → State → Res := fun q t =>
    if q.opcode = 0x9001#16 then opHandoverAt arrival q t
    else match opOf q.opcode.toNat with
      | some op => op q t
      | none => t.fail stBadOpcode
  match s.host.deferred.find? fun d => d.pkt = p && d.accepted = arrival with
  | some d => s.perform d run
  | none =>
    if p.target = 0x0F#8 then s
    else
      let t := (run p { s with host := { s.host with mirrored := some arrival } }).st
      { t with host := { t.host with mirrored := none } }

/-- An item that a TIO capture or a probe latch brings. -/
def State.applyProbe (s : State) (obj v : Nat) : State :=
  if Obj.TIM_TIO_CAPT ≤ obj && obj < Obj.TIM_TIO_CAPT + 8 then
    s.tioPush (obj - Obj.TIM_TIO_CAPT) { stamp := v % 2 ^ 64, level := bit v 64, seq := v / 2 ^ 96 }
  else s.setObj obj v

def State.applyItem (s : State) (m : MirrorItem) : State :=
  let s := match m.body with
    | .command p => s.applyCommand m.arrival p
    | .can c sof f => s.canSignals c f sof
    | .eth p node slot rx data => s.ethSignals p node slot rx data
    | .aux k _ _ sample v => s.auxValue k sample v
    | .probe obj v => s.applyProbe obj v
    | .increment v => s.setInc (clampNat v (bandLo s.anyEnabled) (bandHi s.anyEnabled))
    | .stepBy a => if s.anyEnabled then s else s.stepBy a
    | .throttle on => s.setEnforced on
  { s with flk := { s.flk with applied := m.seq } }

/-- Items in the order of their apply stamps, then of their sequence. -/
def insertItem (m : MirrorItem) : List MirrorItem → List MirrorItem
  | [] => [m]
  | a :: l => if m.apply < a.apply then m :: a :: l else a :: insertItem m l

/-- Every item whose apply stamp is reached applies; a resynchronising device buffers them (R339). -/
def State.mirrorDue (s : State) : State :=
  let due := s.flk.mirror.filter fun m => m.apply ≤ s.now
  let s : State := { s with flk := { s.flk with mirror := s.flk.mirror.filter fun m => !decide (m.apply ≤ s.now) } }
  due.foldl (fun (s : State) m => s.applyItem m) s

/-- A joining device has caught up: step 8 of Table 13.8 waits for the update interval. -/
def State.caughtUp (s : State) : Bool := s.flk.step = .resync && decide (s.flk.resyncStep = 8)

def effMirrorApply (s : State) : State := if s.isReady && (s.flk.step ≠ .resync || s.caughtUp) then s.mirrorDue else s

/-- The standby leaves step (R330 to R332); its role stays. -/
def State.outOfStep (s : State) : State :=
  if s.flk.role = .standby then { s with flk := { s.flk with step := .outOfStep } } else s

/-! ## Hearing the ring (R340 to R343) -/

/-- Frames reach this device: it is up, and its by-pass is open. -/
def State.hears (s : State) : Bool := s.isReady && !s.mu.bypass

/-- How far a sequence lies after another, modulo 2^32. -/
def seqAfter (a b : Nat) : Nat := (a + 2 ^ 32 - b) % 2 ^ 32

/-- One received item: a gap is noted for a NAK; a late item puts the standby out of step. -/
def State.mirrorIn (s : State) (m : MirrorItem) : State :=
  let joining := s.flk.step = .resync && !s.caughtUp
  let last := s.flk.seqNo
  let ahead := seqAfter m.seq last
  let isNew := 0 < ahead && ahead < 2 ^ 31
  if !isNew && !s.flk.missing.contains m.seq then s
  else
    let gap := if isNew then (List.range (min 65535 (ahead - 1))).map fun j => (last + 1 + j) % 2 ^ 32 else []
    let lost := if m.whole then [] else [m.seq]
    let miss := (s.flk.missing.filter fun q => q ≠ m.seq) ++ gap ++ lost
    let s : State := { s with flk := { s.flk with missing := miss, seqNo := if isNew then m.seq else s.flk.seqNo } }
    let ask := gap ++ lost
    let s := if ask.isEmpty then s else s.ringTx 5 s.partnerId (toLE 4 (ask.headD 0) ++ toLE 2 ask.length)
    if !m.whole then s
    else if m.apply ≤ s.now && !joining then s.outOfStep
    else
      -- the accepted stamp of a mirrored TIM_SET_INCREMENT restarts the standby's host watchdog too (R72)
      let s := match m.body with
        | .command p => s.watchFrom p true
        | _ => s
      { s with flk := { s.flk with mirror := insertItem m s.flk.mirror } }

/-- A MIRROR frame of the partner (R330, R410), and its record (Table 4.15). -/
def effRingMirrorRx (port : Fin 2) (items : List MirrorItem) (s : State) : State :=
  let joins := s.flk.role = .standby || (s.flk.step = .resync && 4 ≤ s.flk.resyncStep)
  if s.hears && !s.fenced (48 + port.val) then
    let s := s.record (0x5B + port.val) s.now []
    if s.inFlask && joins && !s.ring.badGens.contains s.partnerId then items.foldl (fun (s : State) m => s.mirrorIn m) s else s
  else s

/-- A NAK arrives on this tick and is still to come (R66). -/
def State.nakComes (s : State) : Bool :=
  s.awaits fun i => match i with
    | .ringNakRx _ _ _ => true
    | _ => false

/-- The active's 200 µs hold of a sent item ends; a NAK of that tick still finds it (R66). -/
def effMirrorHoldExpire (s : State) : State :=
  { s with flk := { s.flk with held := s.flk.held.filter fun h => decide (s.clk < h.2) || (decide (s.clk = h.2) && s.nakComes) } }

/-- A NAK: the active sends again every missing item it still holds (R330). -/
def effRingNakRx (first count : Nat) (s : State) : State :=
  if s.hears && s.inFlask && s.isActive then
    let due := s.flk.held.filter fun h => decide (seqAfter h.1.seq first < count) && decide (s.clk ≤ h.2)
    if due.isEmpty then s
    else due.foldl (fun (s : State) h => s.sendItem h.1)
      (s.setObj Obj.RING_RETRY_CNT (min 0xFFFFFFFF (s.obj Obj.RING_RETRY_CNT + due.length)))
  else s

def effRingMirrorResetRx (s : State) : State := if s.hears && s.inFlask then s.outOfStep else s

/-- A DIGEST of the active (R331); it waits for this device's own sample where that is still to come. -/
def effRingDigestRx (sl : Fin 6) (sample : Stamp) (crc : Word) (s : State) : State :=
  if s.hears && s.inFlask && s.flk.role = .standby then
    ({ s with flk := { s.flk with remote := bset s.flk.remote sl.val (sample, crc.toNat) } } : State).digestCheck sl.val
  else s

/-! ## Heartbeats (Table 13.10, R326) -/

def State.ownHeartbeat (s : State) : Heartbeat :=
  { src := s.nodeId, claim := s.claim, step := s.flk.step.code, throttle := s.hk.enfOwn, cpAlive := !s.cp.restarting
    mirrorSeq := if s.isActive then s.flk.seqNo else s.flk.applied
    validMask := s.validMask, gens := s.mu.ownGens, partner := s.mu.bound.elim 0 Binding.partner, setCrc := s.obj Obj.SAF_SET_CRC
    version := s.version, servo := s.servoSel, tq := s.tq, clkMargin := s.flk.clkMargin }

/-- The payload of a heartbeat sent at a stamp (Table 13.10). -/
def heartbeatBytes (h : Heartbeat) (t : Stamp) : List Byte :=
  toLE 8 t ++ toLE 2 h.claim ++ toLE 1 h.step ++ toLE 1 (b2n h.throttle + 2 * b2n h.cpAlive) ++ toLE 4 h.mirrorSeq
    ++ toLE 3 h.validMask ++ toLE 1 0 ++ toLE 3 h.gens ++ toLE 1 0

/-- At every multiple of 40,000 units. A joining device without a running carrier has no update interval to wait for (R339). -/
def effRingHeartbeatSend (s : State) : State :=
  if s.ringOn && decide (s.ring.hbAt / 40000 < s.now / 40000) then
    let s : State := { s with ring := { s.ring with hbAt := s.now, hb := some s.ownHeartbeat } }
    let s := (s.ringTx 1 0 (heartbeatBytes s.ownHeartbeat s.now)).tryPromote
    if s.caughtUp && !(List.range 6).any (fun k => (s.sl k).modu.running) then s.joinPair else s
  else s

def tqOf (v : Nat) : TqStatus := [.unsynced, .locking, .synced, .holdover].getD (v / 64 % 4) .unsynced

/-- The standby's time status copies the active's (R333). -/
def State.copyTq (s : State) (h : Heartbeat) : State :=
  if s.flk.role = .standby && h.claim / 2 ^ 14 = 3 then
    let st := tqOf h.tq
    { s with tl := { s.tl with
      status := st, slew := bit h.tq 5, stepped := bit h.tq 4
      err := if h.tq % 16 = 15 then none else some (4 * 2 ^ (h.tq % 16))
      holdEntry := if st = .holdover then some s.clk else s.tl.holdEntry } }
  else s

/-- Order of time quality for a ring time source (R344): SYNCED, HOLDOVER, LOCKING, UNSYNCED. -/
def tqRank (v : Nat) : Nat := [3, 2, 0, 1].getD (v / 64 % 4) 3

/-- Ring time sources: nodes heard within 1 ms, and this node, whose mode is not RING. The best quality wins, then the lowest
node ID. -/
def State.bestSource (s : State) : Nat :=
  let live := s.ring.srcs.filter fun e => s.ring.nodes.any fun n => n.1 = e.1 && decide (s.clk ≤ n.2 + msUnits)
  let own := if s.servoSel ≠ 3 && s.nodeId ≠ 0 then [(s.nodeId, tqRank s.tq)] else []
  match (live ++ own).foldl (fun (b : Option (Nat × Nat)) e => match b with
    | none => some e
    | some x => if e.2 < x.2 || (e.2 = x.2 && e.1 < x.1) then some e else some x) none with
  | some e => e.1
  | none => 0

/-- Choose the source afresh; for a node in mode RING a change counts as a grandmaster change. -/
def State.chooseSource (s : State) : State :=
  let old := s.obj Obj.RING_TIME_SRC
  let new := s.bestSource
  if new = old then s
  else
    let s := s.setObj Obj.RING_TIME_SRC new
    if s.servoSel = 3 && old ≠ 0 && !s.follows then s.gmLost 2 else s

/-- The node is heard: RING_NODES, OVERSIZE, generations (R410) and time source. -/
def State.hearNode (s : State) (port : Nat) (h : Heartbeat) : State :=
  let nodes := (s.ring.nodes.filter fun n => n.1 ≠ h.src) ++ [(h.src, s.clk)]
  let others := s.ring.srcs.filter fun e => e.1 ≠ h.src
  let partner := s.inFlask && h.src = s.partnerId
  { s with ring := { s.ring with
    nodes := nodes
    oversize := s.ring.oversize || decide (32 < nodes.length)
    badGens := if s.gensFit h.gens then s.ring.badGens.erase h.src
      else if s.ring.badGens.contains h.src then s.ring.badGens else h.src :: s.ring.badGens
    srcs := if h.servo = 3 then others else others ++ [(h.src, tqRank h.tq)]
    lastA := if partner && port = 0 then some s.clk else s.ring.lastA
    lastB := if partner && port = 1 then some s.clk else s.ring.lastB } }

/-- Role transitions that a partner heartbeat brings (Table 13.4). -/
def State.partnerRole (s : State) (h : Heartbeat) : State :=
  let role := h.claim / 2 ^ 14
  match s.flk.role with
  | .none =>
    if s.flk.step = .resync then s
    else if role = 3 then s.autoResync h
    else if role = 0 && decide (h.claim < s.claim) then
      let r := s.mayJoin (some h)
      if r.2 then r.1.candidate 2 else r.1
    else s
  | .standby =>
    if role = 0 then s.candidate 4
    else if s.flk.step = .outOfStep && role = 3 then s.autoResync h else s
  | _ => s

/-- The mirror sequence counts from the resynchronisation: the active begins afresh where its partner's heartbeat first shows one
(R330). -/
def State.countAfresh (s : State) (h : Heartbeat) : State :=
  if s.isActive && decide (h.step = StepSt.resync.code) && !s.flk.partner.any (fun o => o.step = h.step) then
    { s with flk := { s.flk with seqNo := 0, held := [] } }
  else s

/-- A heartbeat of the partner that lacks an enabled link cancels a pending handover (R336). -/
def State.partnerFault (s : State) (h : Heartbeat) : State :=
  if s.flk.handover.isSome && !s.enabledLinks.all (fun l => bit h.validMask l) then s.abortHandover 2 else s

/-- A heartbeat of the partner. -/
def State.hearPartner (s : State) (h : Heartbeat) : State :=
  let loose := h.version ≠ s.version
  let s := (s.countAfresh h).partnerFault h
  let s : State := { s with flk := { s.flk with
    partner := some h, partnerDeadline := some (s.clk + 30 * usUnits), joinDeadline := none, loose := loose
    step := if s.flk.role = .standby then
        (if loose && s.flk.step = .inStep then .loose else if !loose && s.flk.step = .loose then .inStep else s.flk.step)
      else s.flk.step
    higherAt := if s.claim < h.claim then some (s.clk + 30 * usUnits) else s.flk.higherAt } }
  let s := s.setObj Obj.FLK_PARTNER_CLAIM h.claim
  ((s.copyTq h).throttleMirror).partnerRole h

def effRingHeartbeatRx (port : Fin 2) (hb : Heartbeat) (s : State) : State :=
  if s.hears && hb.src ≠ s.nodeId && !s.fenced (48 + port.val) then
    let s := (s.hearNode port.val hb).chooseSource
    if s.inFlask && hb.src = s.partnerId then s.hearPartner hb else s
  else s

/-- No link shows the partner's claim any more: its own frames have stopped (R337). -/
def State.partnerSilent (s : State) : Bool :=
  match s.flk.partner with
  | some h => s.enabledLinks.all fun l => bits (s.obj (Obj.GL_STATUS_LAST + l)) 63 48 ≠ h.claim
  | none => true

/-- A heartbeat of the partner arrives on this tick and is still to come (R66). -/
def State.partnerComes (s : State) : Bool :=
  s.awaits fun i => match i with
    | .ringHeartbeatRx _ p hb => hb.src = s.partnerId && s.hears && !s.fenced (48 + p.val)
    | _ => false

/-- No heartbeat by the last arrival plus 30 µs (R326). -/
def effHeartbeatFailure (s : State) : State :=
  match s.flk.partnerDeadline with
  | some d =>
    if s.isReady && s.inFlask && decide (d ≤ s.clk) && !s.partnerComes then
      let why := if s.flk.role = .standby && s.partnerSilent then 1 else 2
      let s := s.setFlag Obj.FLK_STATUS 0x80000
      let s := s.abortHandover 0
      let s : State := { s with flk := { s.flk with partner := none, partnerDeadline := none } }
      let s := s.throttleMirror
      if s.flk.step = .resync then s.failResync
      else match s.flk.role with
        | .standby | .active => s.candidate why
        | _ => s
    else s
  | none => s

/-- No partner within JOIN_WAIT after the by-pass opened. -/
def effJoinWaitExpire (s : State) : State :=
  match s.flk.joinDeadline with
  | some d =>
    if s.isReady && s.inFlask && s.flk.role = .none && s.flk.step ≠ .resync && s.flk.partner.isNone && decide (d ≤ s.clk) && !s.partnerComes then
      let r := s.mayJoin none
      if r.2 then ({ r.1 with flk := { r.1.flk with joinDeadline := none } } : State).candidate 2 else r.1
    else s
  | none => s

/-! ## Claims -/

def effRingClaimSend (s : State) : State := if s.flk.role = .candidate then s.sendClaim.tryPromote else s

/-- A CLAIM frame of the partner: a higher one of role candidate or active demotes. -/
def effRingClaimRx (port : Fin 2) (src claim : Nat) (s : State) : State :=
  if s.hears && !s.fenced (48 + port.val) then
    let s := s.record (0x5B + port.val) s.now []
    if s.inFlask && src = s.partnerId then
      let higher := decide (s.claim < claim)
      let s := s.setObj Obj.FLK_PARTNER_CLAIM claim
      let s : State := if higher then { s with flk := { s.flk with higherAt := some (s.clk + 30 * usUnits) } } else s
      match s.flk.role with
      | .active | .candidate => if higher && decide (2 ≤ claim / 2 ^ 14) then s.demote else s
      | _ => s
    else s
  else s

def effHandoverBoundary (s : State) : State := if s.isReady then s.handoverNow else s

/-! ## Time over the ring (R344) -/

/-- Whom this node aligns to: its active while it resynchronises, else the ring time source. -/
def State.alignPeer (s : State) : Nat :=
  if s.flk.step = .resync then (if s.flk.resyncStep = 2 then s.partnerId else 0)
  else if s.servoSel = 3 && !s.follows then (if s.obj Obj.RING_TIME_SRC = s.nodeId then 0 else s.obj Obj.RING_TIME_SRC) else 0

def effRingAlignExchange (s : State) : State :=
  if s.ringOn && s.alignPeer ≠ 0 && decide (s.ring.alignDue ≤ s.clk) then
    let gap := if s.flk.step = .resync then 100 * usUnits else msUnits
    ({ s with ring := { s.ring with alignT1 := some s.now, alignDue := s.clk + gap } } : State).ringTx 7 s.alignPeer
      (toLE 8 0 ++ toLE 8 s.now ++ toLE 16 0)
  else s

/-- A request is answered; a response gives an offset, or counts as one of the eight exchanges of R339. A CP that does not run
leaves time as it is (R17). -/
def effRingAlignRx (src : Nat) (response : Bool) (t1 t2 t3 : Stamp) (s : State) : State :=
  if !s.hears then s
  else if !response then s.ringTx 7 src (toLE 8 1 ++ toLE 8 t1 ++ toLE 8 s.now ++ toLE 8 s.now)
  else if s.cpStands then s
  else if src = s.alignPeer && s.ring.alignT1 = some t1 then
    let s : State := { s with ring := { s.ring with alignT1 := none } }
    if s.flk.step = .resync then { s with flk := { s.flk with alignCount := s.flk.alignCount + 1 } }
    else
      let off : Int := (((t2 : Int) - t1) - ((s.now : Int) - t3)).tdiv 2
      let s : State := { s with tl := { s.tl with gmDeadline := some (s.clk + 3 * msUnits) } }
      s.measure off
  else s

/-! ## Object exchange (R345) -/

/-- What an OBJX packet may ask for. -/
def objxAllowed (p : Pkt) : Bool :=
  let i := le p.payload 0 4
  p.session = 0xFF#8 && (p.opcode = 0x1000#16 || (p.opcode = 0x1001#16 && decide (0x1C000 ≤ i) && decide (i ≤ 0x1FFFF)))

def effRingObjxRx (src : Nat) (p : Pkt) (s : State) : State :=
  let p := { p with link := .ring src }
  if !s.hears || !s.cpTakes || s.ring.badGens.contains src || p.flags.getLsbD 0 then s
  else
    let full := decide (8 ≤ s.ring.objx)
    let s : State := { s with ring := { s.ring with objx := s.ring.objx + 1 } }
    let d : Deferred := { pkt := p, accepted := s.now, entry := 0xFFFF }
    if full then s.answer p 0xFFFF stBusy
    else match checkHead p with
      | some e => s.answer p 0xFFFF e
      | none =>
        if !objxAllowed p then s.answer p 0xFFFF stDenied
        else if p.target ≠ 0x0E#8 then s.answer p 0xFFFF stBadTarget
        else if p.opcode = 0x1000#16 then s.perform d opObjRead
        else if !s.inFlask then s.perform d opObjWrite
        else if s.isActive then
          ({ s with host := { s.host with deferred := s.host.deferred ++ [d] } } : State).mirrorPut s.now (.command p)
        else s.answer p 0xFFFF stState

/-! ## Port lock (R342) -/

def State.setLock (s : State) (port : Fin 2) (on : Bool) : State :=
  if port.val = 0 then { s with ring := { s.ring with lockA := on } } else { s with ring := { s.ring with lockB := on } }

def effRingPortLock (port : Fin 2) (s : State) : State := if s.isReady && !s.fenced (48 + port.val) then s.setLock port true else s
def effRingPortUnlock (port : Fin 2) (s : State) : State := s.setLock port false

/-! ## Resynchronisation (R339, Table 13.8) -/

def State.inResync (s : State) (n : Nat) : Bool := s.isReady && s.flk.step = .resync && s.flk.resyncStep = n

/-- Step 2 ends: the counter is stepped forward to the active's and INCREMENT copied; the mirror opens. A counter that is
ahead of the active's cannot come to a zero-tick offset by a step, since it never moves backwards (R67): the step fails. -/
def effResyncTimeAligned (activeTime : Stamp) (activeInc : Nat) (zeroOffset : Bool) (s : State) : State :=
  if s.inResync 2 then
    if !zeroOffset || s.flk.alignCount < 8 || activeTime < s.now then s.failResync
    else
      let s := if s.now < activeTime then s.stepBy (activeTime - s.now) else s
      -- s0 is the last sequence that the active's heartbeats have shown
      { (s.setInc activeInc) with flk := { s.flk with
        resyncStep := 4, image := [], imageLen := 0, seqNo := (s.flk.partner.map Heartbeat.mirrorSeq).getD 0 } }
  else s

/-- RESYNC frames arrive in order of their offsets: the image in step 4. -/
def effRingResyncRx (offset : Nat) (recs : List ObjRec) (bytes : Nat) (s : State) : State :=
  if s.hears && s.inResync 4 && offset = s.flk.imageLen then
    { s with flk := { s.flk with image := s.flk.image ++ recs, imageLen := s.flk.imageLen + bytes } }
  else s

/-- Objects that the configuration image carries. -/
def imageObj (i : Nat) : Bool :=
  decide (0x1000 ≤ i) && !(decide (0x14000 ≤ i) && decide (i ≤ 0x17FFF)) && match descOf i with
    | some d => d.per = 1
    | none => false

/-- Step 4 ends: the image is taken over; the snapshot stamp is fixed. -/
def effResyncImageDone (s : State) : State :=
  if s.inResync 4 then
    let s := (s.flk.image.filter fun r => imageObj r.idx).foldl (fun (s : State) r =>
      ((s.placeObj r.idx r.data).keep r.idx).written r.idx (s.readObj r.idx) r.data) s
    { s with flk := { s.flk with resyncStep := 5, image := [], imageLen := 0, snapAt := some (gridUp (s.now + msUnits)) } }
  else s

/-- Step 5, at t_j: from here the joining device buffers its inputs; the active sends its snapshot. -/
def effResyncSnapshot (s : State) : State :=
  match s.flk.snapAt with
  | some t =>
    if s.inResync 5 && decide (t ≤ s.now) then
      { s with flk := { s.flk with resyncStep := 6, resyncDeadline := some (t + 2 * msUnits - s.tl.steps), encAt := s.enc } }
    else s
  | none => if s.isReady && s.isActive && s.flk.partner.any (fun h => h.step = 2) then s.ringTx 9 s.partnerId (toLE 4 0) else s

/-- A decoder of the snapshot with what this device has counted itself since t_j (Table 13.8 step 7). -/
def Enc.since (snap own0 own : Enc) : Enc :=
  let fresh := own.hist.filter fun e => !own0.hist.contains e
  { snap with
    a := own.a, b := own.b, hall := own.hall
    raw := wrap32 (snap.raw + (own.raw - own0.raw)), rep := wrap32 (snap.rep + (own.rep - own0.rep))
    d := if own.edgeAt = own0.edgeAt then snap.d else own.d
    hist := (fresh ++ snap.hist).take 64
    edgeAt := max snap.edgeAt own.edgeAt
    lastTrans := if own.lastTrans = own0.lastTrans then snap.lastTrans else own.lastTrans }

/-- Step 6 ends: the dynamic state at t_j is loaded. -/
def effResyncSnapshotDone (snap : Snapshot) (s : State) : State :=
  if s.inResync 6 then
    let s : State := { s with
      slices := snap.slices
      enc := snap.encs.map (fun e => (e.1, e.2.since (bget {} s.flk.encAt e.1) (s.encU e.1)))
      eng := { s.eng with ctxs := snap.ctxs }, 
      -- the count at t_j, and the edges that have come since
      mclk := { s.mclk with
        inEdges := snap.mclkEdges + (s.now - (s.flk.snapAt).getD s.now) * s.obj Obj.SD_MCLK_IN_NOM / sUnits
        edge0 := s.extClk.edge (s.extClk.by s.tick) } }
    let s := snap.seqs.foldl (fun (s : State) e => if e.1 < 24 then s.modGl e.1 fun g => { g with nextSeq := e.2 % 65536 } else s) s
    { s with flk := { s.flk with resyncStep := 7 } }
  else s

/-- Step 7: the buffered mirror items are replayed, and the device is live. It is standby from the first update interval at least
the lead time later, or at once where no carrier runs (step 8). -/
def effResyncLive (s : State) : State :=
  if s.inResync 7 then
    let late := match s.flk.resyncDeadline with
      | some d => decide (d < s.clk)
      | none => false
    if late then s.failResync
    else
      let s : State := { s with flk := { s.flk with
        resyncStep := 8, resyncDeadline := none, edgesFrom := some s.now, digest := [], remote := [] } }
      let s := s.mirrorDue
      if (List.range 6).any (fun k => (s.sl k).modu.running) then s else s.joinPair
  else s

/-- The resynchronisation ends on this tick (R66). -/
def State.liveComes (s : State) : Bool :=
  s.awaits fun i => match i with
    | .resyncLive _ => true
    | _ => false

def effResyncLiveDeadline (s : State) : State :=
  match s.flk.resyncDeadline with
  | some d => if s.isReady && decide (d ≤ s.clk) && !s.liveComes then s.failResync else s
  | none => s

/-- One retry after 1 s, with AUTO_RESYNC. -/
def effResyncRetry (s : State) : State :=
  match s.flk.retryAt with
  | some t =>
    if s.isReady && s.inFlask && decide (t ≤ s.clk) then
      let s : State := { s with flk := { s.flk with retryAt := none } }
      if (s.flk.role = .none || (s.flk.role = .standby && s.flk.step = .outOfStep)) && s.flk.step ≠ .resync && s.partnerActive then
        let r := s.mayJoin s.flk.partner
        if r.2 then r.1.startResync else r.1
      else s
    else s
  | none => s

/-! ## The commands -/

def execFlkConfig (dt : Nat) (p : Pkt) (s : State) : Host.Outcome State Fault Refusal :=
  .next (s.run dt (effCmd (p.asRow 0x9000) opFlkConfig))
def execFlkResync (dt : Nat) (p : Pkt) (s : State) : Host.Outcome State Fault Refusal :=
  .next (s.run dt (effCmd (p.asRow 0x9002) opResync))
def execFlkHandover (dt : Nat) (p : Pkt) (s : State) : Host.Outcome State Fault Refusal :=
  .next (s.run dt (effCmd (p.asRow 0x9001) opHandover))
def execRingHeartbeatSend (dt : Nat) (s : State) : Host.Outcome State Fault Refusal := .next (s.run dt effRingHeartbeatSend)
def execRingHeartbeatRx (dt : Nat) (port : Fin 2) (hb : Heartbeat) (s : State) : Host.Outcome State Fault Refusal :=
  .next (s.runT dt (effRingHeartbeatRx port hb))
def execHeartbeatFailure (dt : Nat) (s : State) : Host.Outcome State Fault Refusal := .next (s.run dt effHeartbeatFailure)
def execJoinWaitExpire (dt : Nat) (s : State) : Host.Outcome State Fault Refusal := .next (s.run dt effJoinWaitExpire)
def execRingClaimSend (dt : Nat) (s : State) : Host.Outcome State Fault Refusal := .next (s.run dt effRingClaimSend)
def execRingClaimRx (dt : Nat) (port : Fin 2) (src : Nat) (claim : Nat) (s : State) : Host.Outcome State Fault Refusal :=
  .next (s.run dt (effRingClaimRx port src claim))
def execHandoverBoundary (dt : Nat) (s : State) : Host.Outcome State Fault Refusal := .next (s.run dt effHandoverBoundary)
def execRingMirrorRx (dt : Nat) (port : Fin 2) (items : List MirrorItem) (s : State) : Host.Outcome State Fault Refusal :=
  .next (s.run dt (effRingMirrorRx port items))
def execMirrorApply (dt : Nat) (s : State) : Host.Outcome State Fault Refusal :=
  .next (s.runT dt (State.enabling dt effMirrorApply))
def execMirrorHoldExpire (dt : Nat) (s : State) : Host.Outcome State Fault Refusal := .next (s.run dt effMirrorHoldExpire)
def execRingNakRx (dt : Nat) (first count : Nat) (s : State) : Host.Outcome State Fault Refusal :=
  .next (s.run dt (effRingNakRx first count))
def execRingMirrorResetRx (dt : Nat) (s : State) : Host.Outcome State Fault Refusal := .next (s.run dt effRingMirrorResetRx)
def execRingDigestRx (dt : Nat) (sl : Fin 6) (sample : Stamp) (crc : Word) (s : State) : Host.Outcome State Fault Refusal :=
  .next (s.run dt (effRingDigestRx sl sample crc))
def execRingAlignExchange (dt : Nat) (s : State) : Host.Outcome State Fault Refusal := .next (s.run dt effRingAlignExchange)
def execRingAlignRx (dt : Nat) (src : Nat) (response : Bool) (t1 t2 t3 : Stamp) (s : State) : Host.Outcome State Fault Refusal :=
  .next (s.runT dt (effRingAlignRx src response t1 t2 t3))
def execRingObjxRx (dt : Nat) (src : Nat) (p : Pkt) (s : State) : Host.Outcome State Fault Refusal :=
  .next (s.runT dt (effRingObjxRx src p))
def execRingResyncRx (dt : Nat) (offset : Nat) (recs : List ObjRec) (bytes : Nat) (s : State) : Host.Outcome State Fault Refusal :=
  .next (s.run dt (effRingResyncRx offset recs bytes))
def execRingPortLock (dt : Nat) (port : Fin 2) (s : State) : Host.Outcome State Fault Refusal := .next (s.run dt (effRingPortLock port))
def execRingPortUnlock (dt : Nat) (port : Fin 2) (s : State) : Host.Outcome State Fault Refusal := .next (s.run dt (effRingPortUnlock port))
def execResyncTimeAligned (dt : Nat) (activeTime : Stamp) (activeInc : Nat) (zeroOffset : Bool) (s : State) :
    Host.Outcome State Fault Refusal := .next (s.runT dt (effResyncTimeAligned activeTime activeInc zeroOffset))
def execResyncImageDone (dt : Nat) (s : State) : Host.Outcome State Fault Refusal := .next (s.run dt effResyncImageDone)
def execResyncSnapshot (dt : Nat) (s : State) : Host.Outcome State Fault Refusal := .next (s.run dt effResyncSnapshot)
def execResyncSnapshotDone (dt : Nat) (snap : Snapshot) (s : State) : Host.Outcome State Fault Refusal :=
  .next (s.run dt (effResyncSnapshotDone snap))
def execResyncLive (dt : Nat) (s : State) : Host.Outcome State Fault Refusal := .next (s.runT dt effResyncLive)
def execResyncLiveDeadline (dt : Nat) (s : State) : Host.Outcome State Fault Refusal := .next (s.run dt effResyncLiveDeadline)
def execResyncRetry (dt : Nat) (s : State) : Host.Outcome State Fault Refusal := .next (s.run dt effResyncRetry)

end Sys2Proof.Machine
end

