-- ==== Sys2Proof/Machine/Startup.lean ====
section
/-!
DEFINITION. The start from t0 to READY (R43 to R48, R396, R400 to R402, R407, R445, R447). Each event ends one step of
Table 3.1; an event whose step is not the running one has no effect.
-/

namespace Sys2Proof.Machine

/-- The device fails its start and waits in RECOVERY (R45): the CP does not start. -/
def State.toRecovery (s : State) : State := s.setPhase .recovery

def State.toStep (s : State) (n : Nat) : State := s.setPhase (.starting n)

/-! ## Step 1 (R45, R53, R400) -/

def effRomStartDone (otpOk : Bool) (norKiB : Nat) (s : State) : State :=
  if s.mu.phase ≠ .starting 1 then s
  else if norKiB < 155648 then (s.post srcMu 0x010C 0xFF (min 0xFFFFFFFF norKiB)).toRecovery
  else if !otpOk then (s.jot 1 0).toRecovery
  else if s.mu.lc = 4 then s.toRecovery
  else s.toStep 2

/-! ## Step 2 (R45, R407) -/

/-- The first check that a bank fails: 1 signature, 2 hash, 3 rollback; 0 none. The rollback check is the device's own. -/
def State.bankCheck (s : State) (b : Nat) (r : BankRead) : Nat :=
  let k := s.mu.banks.getD b {}
  let index := if k.state = 0 then r.rollback else k.rollback
  if r.check = 1 || r.check = 2 then r.check else if index < s.mu.otpRollback then 3 else 0

/-- A bank has been read: one the model knew nothing of shows its manifest, and its state follows the checks. -/
def State.bankSeen (s : State) (b : Nat) (r : BankRead) : State :=
  let k := s.mu.banks.getD b {}
  let k := if k.state = 0 then { k with version := r.version, rollback := r.rollback, gens := r.gens } else k
  s.setBank b { k with state := if s.bankCheck b r = 0 then 3 else 4 }

def State.runBank (s : State) (b : Nat) : State :=
  let s := { s with mu := { s.mu with active := b, ownGens := (s.mu.banks.getD b {}).gens } }
  s.toStep 3

def effBootIngotVerified (bankA bankB : BankRead) (s : State) : State :=
  if s.mu.phase ≠ .starting 2 then s
  else
    let b := s.mu.active
    let rd := fun (n : Nat) => if n = 0 then bankA else bankB
    let chk := s.bankCheck b (rd b)
    let s := s.bankSeen b (rd b)
    if chk = 0 then s.runBank b
    else
      let o := 1 - b
      let chk' := s.bankCheck o (rd o)
      let s := s.bankSeen o (rd o)
      if chk' = 0 then (s.post srcMu 0x0102 b (chk + o * 2 ^ 8)).runBank o else ((s.jot 2 b).jot 2 o).toRecovery

/-! ## Step 3 (R46, Table 3.2) -/

/-- How a failure of step 3 names what has failed: a block of DIA_BIST_START_n by its number, the CP, the comparator injection, and a
unit by its bit of DIA_FENCE (R45, log entry 13). -/
def cpBlock : Nat := 0x100
def injBlock : Nat := 0x101
def unitBlock (k : Nat) : Nat := 0x200 + k

/-- DIA_BIST_START_n of one block: its number, its result and its duration in µs. -/
def bistStartVal (n : Nat) (r : Bool × Nat) : Nat := n * 2 ^ 24 + b2n r.1 * 2 ^ 16 + min 65535 r.2

/-- The result of one block, where it has one, in its object; a failure is logged with its step and block (R45). -/
def State.bistNote (r : BistResult) (s : State) (n : Nat) : State :=
  match r.blocks[n]? with
  | some x =>
    let s := s.setObj (Obj.DIA_BIST_START + n) (bistStartVal n x)
    if x.1 then s else s.jot 3 n
  | none => s

def effStartupBistDone (r : BistResult) (s : State) : State :=
  if s.mu.phase ≠ .starting 3 then s
  else
    let s := (List.range 9).foldl (fun (s : State) n => s.bistNote r n) s
    let s := if r.cpFail then s.jot 3 cpBlock else s
    let s := if r.compareFail then s.jot 3 injBlock else s
    if r.cpFail then s.toRecovery
    else
      let s := if r.refFail then s.refereeFault 5 else s
      let s : State := if r.compareFail then { s with ref := { s.ref with compareFault := true } } else s
      let units := (List.range 128).filter fun k => bit r.fences k && (decide (k < 50) || decide (64 ≤ k))
      (units.foldl (fun (s : State) k => (s.fenceUnit k).jot 3 (unitBlock k)) s).toStep 4

/-! ## Step 4 (R396, R402) -/

/-- The valid copy with the higher generation: 0 copy A, 1 copy B. -/
def State.cfgChoice (s : State) : Option (Nat × CfgImage) :=
  let a := s.mu.cfgA.filter s.imageOk
  let b := s.mu.cfgB.filter s.imageOk
  match a, b with
  | some x, some y => if x.gen < y.gen then some (1, y) else some (0, x)
  | some x, none => some (0, x)
  | none, some y => some (1, y)
  | none, none => none

/-- A change-log entry of a commit by the configuration records. -/
def State.changeByCfg (s : State) (idx old new commit : Nat) : ChangeEntry :=
  { stamp := s.now, session := 0xFD, link := 0, finger := 0, idx := idx
    oldCrc := crc32c (toLE 16 old), newCrc := crc32c (toLE 16 new), commit := commit }

/-- The image's safety objects are applied as one commit with change-log session 0xFD, each as its object can hold it (R4). -/
def State.commitImage (s : State) (recs : List ObjRec) : State :=
  if recs.isEmpty then s
  else
    let n := min 0xFFFFFFFF (bget 0 s.dict.safe Obj.SAF_COMMIT_COUNT + 1)
    let s := recs.foldl (fun (s : State) r =>
      let old := bget (objDefault r.idx) s.dict.safe r.idx
      let v := maskVal r.idx r.data
      let s : State := { s with dict := { s.dict with safe := bset s.dict.safe r.idx v } }
      if old = v then s else s.logChange (s.changeByCfg r.idx old v (n % 65536))) s
    { s with dict := { s.dict with safe := bset (bset s.dict.safe Obj.SAF_COMMIT_COUNT n) Obj.SAF_SET_CRC s.setCrc } }

/-- Records of an image of one persistence class. -/
def imageRecs (i : CfgImage) (per : Nat) : List ObjRec :=
  i.recs.filter fun r => match descOf r.idx with
    | some d => d.per = per
    | none => false

/-- What the configuration region holds: what the model has seen written, or, at its first reading, what the event reports.
The checks of a binding are made afresh at each start (R396). -/
def State.readRegion (s : State) (a b : Option CfgImage) (bind : Option Binding) : State :=
  let fresh := fun (x : Binding) => match bind with
    | some y => { x with check := y.check }
    | none => x
  { s with mu := { s.mu with
      norKnown := true, norBad := false
      cfgA := if s.mu.norKnown then s.mu.cfgA else s.mu.cfgA.or a
      cfgB := if s.mu.norKnown then s.mu.cfgB else s.mu.cfgB.or b
      binding := if s.mu.norKnown then s.mu.binding.map fresh else s.mu.binding.or bind } }

/-- The device is UNBOUND, for a cause as the log codes it. -/
def State.unbound (s : State) (cause : Nat) : State :=
  ({ s with mu := { s.mu with bound := none } } : State).post srcMu 0x0921 0xFF cause

/-- The binding is checked (R396); without a valid one the device is UNBOUND. -/
def State.bindCheck (s : State) : State :=
  match s.mu.binding with
  | none => s.unbound 0
  | some x =>
    let c := if x.check = 5 && (x.node = 0 || decide (16383 < x.node)) then 4 else x.check
    if c = 5 then { s with mu := { s.mu with bound := some x } }
    else s.unbound c

/-- A change by the configuration records has session 0xFD (R130). -/
def State.markCfg (s : State) (i : Nat) : State :=
  { s with dict := { s.dict with info := bset s.dict.info i { stamp := s.now, session := 0xFD } } }

/-- Load the image of this start (R402): its RETAINED values, which those persisted override unless its generation is new;
a new one clears them, and commits the image's safety objects. -/
def State.loadImage (s : State) : State :=
  let choice := s.cfgChoice
  let gen := match choice with
    | some (_, i) => i.gen
    | none => 0
  let new := s.mu.cfgRecorded ≠ some gen
  let s : State := { s with mu := { s.mu with
    cfgLoaded := choice.map fun c => (c.1, c.2.gen), cfgRecorded := some gen } }
  let s := s.setObj Obj.MGT_FEATURE_GATE s.mu.ownGens
  let s := match choice with
    | none => s.post srcMu 0x0103 0xFF 0
    | some (_, i) => (imageRecs i 1).foldl (fun (s : State) r => (s.placeObj r.idx r.data).markCfg r.idx) s
  let s : State := if new then { s with dict := { s.dict with nor := [] } } else s
  let s := if new then match choice with
    | some (_, i) => s.commitImage (imageRecs i 2)
    | none => s else s
  s.dict.nor.foldl (fun (s : State) e => if e.1 < 0x20000 then s.placeObj e.1 e.2 else s) s
/-- The committed SAFETY values stand in the dictionary and in the Referee's copy of it. -/
def State.loadSafety (s : State) : State :=
  s.dict.safe.foldl (fun (s : State) e => s.setObj e.1 (maskVal e.1 e.2)) s

def effConfigLoaded (a b : Option CfgImage) (bind : Option Binding) (s : State) : State :=
  if s.mu.phase ≠ .starting 4 then s
  else
    let s := ((s.readRegion a b bind).loadImage).loadSafety
    let s := if s.mu.cfgLoaded.isSome then s.bindCheck else s.unbound 0
    ({ s with mu := { s.mu with cfgApplied := true } } : State).toStep 5

/-! ## Step 5 and READY (R44, R445, R447) -/

/-- The networks' stored configurations and filters return (log entry 42). -/
def State.loadNets (s : State) : State :=
  s.dict.nor.foldl (fun (s : State) e =>
    let k := e.1
    if k < 0x20000 then s
    else if k < 0x20010 then s.modCan (k - 0x20000) fun u => u.configured (toLE 160 e.2) s.clk
    else if k < 0x20020 then s.modCan (k - 0x20010) fun u => { u with listLen := e.2 }
    else if k < 0x24000 then s.modEth (k - 0x20020) fun u => { u with cfg := toLE 40 e.2, on := byteAt (toLE 40 e.2) 0 = 1 }
    else s.modCan ((k - 0x24000) / 0x1000) fun u => { u with filters := bset u.filters ((k - 0x24000) % 0x1000) e.2 }) s

/-- Whether an object stands at one of `n` indices from `base` on. -/
def inBlock (i base n : Nat) : Bool := decide (base ≤ i ∧ i < base + n)

/-- The sensing and feedback units, the rally lists and the publish slots start (R445). -/
def State.startUnits (s : State) : State :=
  let s := (List.range 8).foldl (fun (s : State) g =>
    if bit (s.mclkCfg g) 15 && !bit (s.mclkCfg g) 14 then
      { s with mclk := { s.mclk with pendDiv := bset s.mclk.pendDiv g (s.mclkCfg g, s.now) } }
    else s) s
  let s := if !s.anyExt then s
    else if s.mclk.inRun then ({ s with mclk := { s.mclk with lastEdge := s.clk } } : State).putFlag Obj.SD_MCLK_IN_STAT 2 true
    else s.mclkFault 1
  let s := (s.extChannels.filter s.isMon).foldl (fun (s : State) n => s.freshSd n) s
  let s := (List.range 8).foldl (fun (s : State) n => if bit (s.encCfg n) 127 then s.encStart n else s) s
  s.dict.vals.foldl (fun (s : State) e =>
    if !bit e.2 127 then s
    else if inBlock e.1 0x8100 0x180 then s.rallyStart ((e.1 - 0x8100) / 0x40) ((e.1 - 0x8100) % 0x40)
    else if inBlock e.1 Obj.CAN_PUB 256 then { s with canPub := bset s.canPub (e.1 - Obj.CAN_PUB) s.now }
    else if inBlock e.1 Obj.ETH_PUB 64 then { s with canPub := bset s.canPub (256 + e.1 - Obj.ETH_PUB) s.now }
    else s) s

/-- The Referee runs with its committed copy; STO inputs that differ have SAF_STO_DISC to agree (R303); and the hold lines' release sources follow it (R44, R27, R310). -/
def State.startReferee (s : State) : State :=
  let s : State := { s with ref := { s.ref with
    runs := true, hbDeadline := s.clk + 10 * usUnits
    stoDisc := if s.ref.stoA = s.ref.stoB then none else some (s.clk + s.obj Obj.SAF_STO_DISC * msUnits) } }
  ((List.range 24).foldl (fun (s : State) l => s.linkRefresh l) s).holdSources

/-- The first READY of an ingot raises the anti-rollback counter to its index; the bank is the last good one (R407). -/
def State.rollbackAdvance (s : State) : State :=
  let k := s.mu.banks.getD s.mu.active {}
  let other := s.mu.banks.getD (1 - s.mu.active) {}
  let s := (s.setBank s.mu.active { k with lastGood := true }).setBank (1 - s.mu.active) { other with lastGood := false }
  if s.mu.otpRollback < k.rollback then
    let was := s.mu.otpRollback
    ({ s with mu := { s.mu with otpRollback := min 64 k.rollback } } : State).post srcMu 0x0913 0xFF (was + min 64 k.rollback * 2 ^ 8)
  else s

def effReady (s : State) : State :=
  if s.mu.phase ≠ .starting 5 || s.cp.restarting then s
  else
    let us := (s.muNow - s.mu.t0At) / usUnits
    let s : State := { s with
      mu := { s.mu with reached := true, readyAt := s.muNow, failedStarts := 0 }
      host := { s.host with spiMask := s.obj Obj.HOST_SPI_PAIRS } }
    let s := (s.loadReject 64).loadNets
    let s := s.setObj Obj.MGT_START_TIME (min 10000000 us)
    let s := (s.setPhase .ready).startReferee
    let s := s.startUnits
    let s := s.post srcMu 0x0101 0xFF (min 10000000 us + s.mu.lc * 2 ^ 32)
    let s := s.rollbackAdvance
    if fGe s.hk.tmax (f32OfInt (s.obj Obj.MGT_THR_THRESH)) then s.thermRequest else s

/-! ## The commands -/

def execRomStartDone (dt : Nat) (otpOk : Bool) (norKiB : Nat) (s : State) : Host.Outcome State Fault Refusal :=
  .next (s.run dt (effRomStartDone otpOk norKiB))
def execBootIngotVerified (dt : Nat) (bankA bankB : BankRead) (s : State) : Host.Outcome State Fault Refusal :=
  .next (s.run dt (effBootIngotVerified bankA bankB))
def execStartupBistDone (dt : Nat) (r : BistResult) (s : State) : Host.Outcome State Fault Refusal :=
  .next (s.run dt (effStartupBistDone r))
def execConfigLoaded (dt : Nat) (a b : Option CfgImage) (bind : Option Binding) (s : State) : Host.Outcome State Fault Refusal :=
  .next (s.run dt (effConfigLoaded a b bind))
def execReady (dt : Nat) (s : State) : Host.Outcome State Fault Refusal := .next (s.run dt effReady)

end Sys2Proof.Machine
end

