-- ==== Sys2Proof/Machine/Links.lean ====
section
/-!
DEFINITION. Host links (R104 to R124, R127, R444): doorbells, queue configuration, the BAR0 and BAR2 windows, the mailbox,
SPI transactions, command datagrams, CAN tunnels, completions that wait, notifications, and the end of a link.
-/

namespace Sys2Proof.Machine

/-! ## Queue pairs (R104, R107, R110, R112) -/

/-- A pair is disabled: what it owns is discarded (R112). -/
def State.disablePair (s : State) (n : Nat) : State :=
  (s.discardOwned n).modPair n fun q => { q with en := false }

/-- QERR is set: the pair is disabled, and DEV_EVENT tells it (Tables 5.8, 5.10). -/
def State.pairError (s : State) (n code : Nat) : State :=
  ((s.disablePair n).modPair n fun q => { q with qerr := code, qerrAt := s.tick }).devEvent 3

/-- A PCIe pair that takes doorbells. -/
def State.pciePair (s : State) (n : Nat) : Bool := (s.pair n).en && !s.isSpi n

/-- A new tail hands the entries before it to the device; one at or beyond the depth is an error. -/
def effSqTailDoorbell (n : Fin 16) (v : Word) (s : State) : State :=
  let q := s.pair n.val
  let i := bits v.toNat 9 0
  let cap := s.pairCap n.val
  if !s.pciePair n.val then s
  else if cap ≤ i then s.pairError n.val 1
  else s.setPair n.val { q with owned := q.owned + (i + cap - q.sqTail) % cap, sqTail := i }

/-- A new head frees the completions before it. -/
def effCqHeadDoorbell (n : Fin 16) (v : Word) (s : State) : State :=
  let q := s.pair n.val
  let i := bits v.toNat 9 0
  let cap := s.pairCap n.val
  if !s.pciePair n.val then s
  else if cap ≤ i then s.pairError n.val 1
  else s.setPair n.val { q with posted := q.posted.drop ((i + cap - q.cqHead) % cap), cqHead := i }

/-- The fields of QCFG that may change while the pair is disabled. -/
def Pair.cfgFrom (q : Pair) (v : Nat) : Pair := { q with depth := bits v 30 27, vector := bits v 26 22, weight := bits v 21 18 }

/-- A configuration that R104 and Table 5.9 allow. -/
def Pair.cfgOk (q : Pair) : Bool :=
  4 ≤ q.depth && q.depth ≤ 10 && 1 ≤ q.vector && q.sqBase % 4096 = 0 && q.cqBase % 4096 = 0 && q.rbuf % 4096 = 0

/-- A pair that EN has just created: empty queues, PHASE 1 on the first pass. -/
def Pair.opened (q : Pair) : Pair :=
  { q with
    en := true, sqTail := 0, sqHead := 0, owned := 0, cqTail := 0, cqHead := 0, phase := true
    posted := [], waiting := [], sq := [], started := [], held := [], redo := [], reexec := [] }

def effQcfgEnable (n : Fin 16) (v : Word) (s : State) : State :=
  let q := s.pair n.val
  let c := q.cfgFrom v.toNat
  if !s.isReady then s
  else if q.en then s.setPair n.val { q with weight := bits v.toNat 21 18 }
  else if s.isSpi n.val then (s.setPair n.val { q with qerr := 5, qerrAt := s.tick }).devEvent 3
  else if !c.cfgOk then (s.setPair n.val c).pairError n.val 4
  else s.setPair n.val c.opened

def effQcfgDisable (n : Fin 16) (v : Word) (s : State) : State :=
  let q := s.pair n.val
  if q.en then (s.disablePair n.val).modPair n.val fun q => { q with weight := bits v.toNat 21 18 }
  else s.setPair n.val (q.cfgFrom v.toNat)

/-- The oldest completion that waits is posted once its CQ has room (R110, R111). -/
def effCompletionPost (n : Fin 16) (s : State) : State :=
  let q := s.pair n.val
  match q.waiting with
  | r :: rest =>
    if !s.cpStands && (q.en || s.isSpi n.val) && decide (q.posted.length < s.pairCap n.val) then
      (s.setPair n.val ({ q with waiting := rest }.release r)).postCq n.val r
    else s
  | [] => s

/-- Every enabled PCIe pair is disabled, with a QERR value that the spec does not state, and PCIe sessions close (R112). -/
def State.pcieLost (s : State) : State :=
  let s := (List.range 16).foldl (fun (s : State) n =>
    if s.pciePair n then
      let r := s.drawNat
      r.2.pairError n (1 + r.1 % 255)
    else s) s
  (List.range 64).foldl (fun (s : State) n => match s.sess n with
    | some x => match x.link with
      | .pcie _ => s.endSession n
      | _ => s
    | none => s) s

def effPerstAssert (s : State) : State :=
  { s.pcieLost with host := { s.pcieLost.host with perst := true, pcieUp := false, pcieDown := none } }

/-- The link has been down for more than 100 ms: a link that is back on the deadline itself is in time (R66, R112). -/
def effPcieLinkDownTimeout (s : State) : State :=
  match s.host.pcieDown with
  | some d =>
    if d < s.clk then { s.pcieLost with host := { s.pcieLost.host with pcieDown := none } } else s
  | none => s

def effPcieLinkChange (up : Bool) (s : State) : State :=
  let s := effPcieLinkDownTimeout s
  if up then { s with host := { s.host with perst := false, pcieUp := true, pcieDown := none } }
  else
    let d := if s.host.pcieUp then some (s.clk + 100 * msUnits) else s.host.pcieDown
    { s with host := { s.host with pcieUp := false, pcieDown := d } }

def effPcieHostMemoryError (n : Fin 16) (write : Bool) (s : State) : State :=
  if s.pciePair n.val then s.pairError n.val (if write then 3 else 2) else s

/-! ## Commands that the MU answers (R114, R117, R444) -/

/-- The opcodes of R45, in the states in which R114 executes them. -/
def State.muTakes (s : State) (code : Nat) : Bool :=
  let off := s.mu.phase = .recovery || s.mu.phase = .thermalHold
  if code = 0x0003 || code = 0x7010 || code = 0x7020 then true
  else if s.mu.lc = 4 then false
  else if 0x7000 ≤ code && code ≤ 0x7002 then off
  else if code = 0x0010 then (off || s.mu.phase = .clockHold) && s.resetState
  else false

/-- A command that the MU executes itself, or answers: its records, and its reply without a place in a replay window. -/
def State.muExec (s : State) (p : Pkt) : State :=
  let s := s.record (srcAccept p.link) s.now []
  let r := match opInfo p.opcode.toNat with
    | none => s.fail (if p.session = 0xFF#8 then stBadOpcode else stNoSession)
    | some o =>
      if p.session ≠ 0xFF#8 then s.fail stNoSession
      else if !s.muTakes p.opcode.toNat then s.fail stState
      else if !o.tgt.ok p.target.toNat then s.fail stBadTarget
      else match opOf p.opcode.toNat with
        | some op => op p s
        | none => s.fail stBadOpcode
  let t := r.st.record (srcComplete p.link) r.st.now []
  t.deliver (mkReply p 0xFFFF false s.now t.now r.status r.extra)

/-- Judge and execute a command that the MU takes (R444). Each mailbox command posts its two records, one that fails steps 1 to
4 too (R114). -/
def State.muRun (s : State) (p : Pkt) : State :=
  match checkHead p with
  | some e =>
    if p.link = .mailbox then (((s.record 0x5D s.now []).record 0xC8 s.now []).answer p 0xFFFF e) else s.answer p 0xFFFF e
  | none =>
    let busy : Bool := match p.link with
      | .spi _ => decide (s.mu.phase.code = 0)
      | _ => false
    if busy then s.answer p 0xFFFF stBusy else s.muExec p

/-- The packet in the mailbox's request memory. -/
def State.mbxPkt (s : State) : Pkt :=
  pktOf .mailbox ((List.range 1024).flatMap fun n => toLE 4 (bget 0#32 s.host.mbxReq n).toNat)

/-- GO starts the request; it is ignored while BUSY. An MU that restarts serves the request when it is back. -/
def effMbxGo (s : State) : State :=
  if !s.mu.booted || s.host.mbxBusy then s
  else
    let s : State := { s with host := { s.host with mbxBusy := true } }
    if s.mu.restarting then s else s.muRun s.mbxPkt

def effMuBack (s : State) : State :=
  let waits := s.mu.restarting && s.host.mbxBusy
  let t := effMuRestartDone s
  if waits then t.muRun t.mbxPkt else t

/-! ## SPI (R115 to R117) -/

/-- The status byte that opens every transaction (Table 5.13). -/
def State.spiByte (s : State) : Nat :=
  let thr := s.obj Obj.MGT_THERM_STAT
  b2n s.isReady * 2 ^ 7 + b2n (s.mu.phase = .recovery) * 2 ^ 6 + b2n (s.spiPairs.any fun n => !(s.pair n).posted.isEmpty) * 2 ^ 5
    + b2n s.host.subRej * 2 ^ 4 + b2n (bit thr 3 || bit thr 4) * 2 ^ 3

/-- Bytes 1 to 8 of STATUS: free SQ entries and waiting completions of each SPI pair (Table 5.14). Two zero bytes stand for a
pair that HOST_SPI_PAIRS does not bind: the model's choice (log entry 52). -/
def State.spiLevels (s : State) : List Byte :=
  (List.range 4).flatMap fun k => match s.spiPairs[k]? with
    | some n => toLE 1 (8 - (s.pair n).owned) ++ toLE 1 (s.pair n).posted.length
    | none => toLE 2 0

/-- SPI_MISO of a FETCH after the status byte (Table 5.14): 0xFF up to byte 3, the reply length, 0 of an empty CQ, and the
reply. Byte 1, for which the table gives nothing, is 0xFF too (log entry 52). -/
def State.fetchOut (s : State) (k : Nat) : List Byte :=
  let r : List Byte := match s.spiPairs[k]? with
    | some n => match (s.pair n).posted with
      | e :: _ => e.1.bytes
      | [] => []
    | none => []
  List.replicate 3 0xFF#8 ++ toLE 2 r.length ++ r

/-- A transaction shifts out the status byte and then these bytes; an unpowered device drives nothing. -/
def State.shiftOut (s : State) (l : List Byte) : State :=
  if s.mu.vstby then { s with host := { s.host with spiOut := toLE 1 s.spiByte ++ l } } else s

/-- SPI_IRQ_N is asserted while any SPI CQ holds a completion (R116). -/
def State.spiIrq (s : State) : Bool := s.spiPairs.any fun n => !(s.pair n).posted.isEmpty

def State.subReject (s : State) : State := { s with host := { s.host with subRej := true } }

/-- What a SUBMIT of `clocked` packet bytes does as SPI_CS_N rises (R116, R117). -/
def State.takeSubmit (s : State) (pair : Nat) (p : Pkt) (clocked : Nat) : State :=
  let p := { p with link := .spi pair }
  match s.spiPairs[pair]? with
  | none => s.subReject
  | some n =>
    let q := s.pair n
    if !s.mu.booted then s
    else if clocked ≠ 16 + p.len.toNat then s.subReject
    else if s.isReady then
      if 8 ≤ q.owned then s.subReject
      else s.setPair n { q with sq := q.sq ++ [p], owned := q.owned + 1, sqTail := (q.sqTail + 1) % 8 }
    else if s.mu.restarting then s.subReject
    else s.muRun p

/-- A SUBMIT ends with SPI_CS_N rising after `clocked` bytes of packet; 0xFF is shifted out beside it. -/
def effSpiSubmit (pair : Nat) (p : Pkt) (clocked : Nat) (s : State) : State :=
  (s.shiftOut (List.replicate (min 4097 (1 + clocked)) 0xFF#8)).takeSubmit pair p clocked

/-- The completion of a FETCH goes once all `6 + L` bytes have been clocked (R116). -/
def State.takeFetch (s : State) (pair clocked : Nat) : State :=
  match s.spiPairs[pair]? with
  | none => s
  | some n =>
    let q := s.pair n
    match q.posted with
    | r :: rest =>
      if 6 + r.1.bytes.length ≤ clocked then s.setPair n { q with posted := rest, cqHead := (q.cqHead + 1) % 8 } else s
    | [] => s

/-- A FETCH ends after `clocked` bytes. -/
def effSpiFetch (pair : Fin 4) (clocked : Nat) (s : State) : State :=
  (s.shiftOut ((s.fetchOut pair.val).take (clocked - 1))).takeFetch pair.val clocked

/-- STATUS shifts out the levels and clears SUB_REJ. -/
def effSpiStatus (s : State) : State :=
  let t := s.shiftOut s.spiLevels
  { t with host := { t.host with subRej := false } }

/-- An unknown instruction is ignored; 0xFF is shifted out for the rest of the transaction, one byte of which stands here. -/
def effSpiUnknown (_b : Byte) (s : State) : State := s.shiftOut [0xFF#8]

/-! ## Tunnels (R118 to R120) -/

def State.intoInbox (s : State) (p : Pkt) : State := { s with host := { s.host with inbox := s.host.inbox ++ [p] } }

/-- The reassembly that a fragmented datagram completes, and the state without it; none where it is not held. -/
def State.whole (s : State) (frag : Option Nat) : Option State :=
  match frag with
  | none => some s
  | some id => match s.host.reasm.find? fun e => e.2.1 = id && decide (s.clk ≤ e.2.2.1) && decide (e.2.2.2 ≤ 4224) with
    | some e => some { s with host := { s.host with reasm := bdel s.host.reasm e.1 } }
    | none => none

def ethDrop (s : State) : State := s.bump Obj.HOST_ETH_DROPS 0xFFFFFFFF

/-- A datagram on the command port, its fragments of at most 4,224 bytes in total (R119): authenticated against its session's counter, then queued for the CP. -/
def effCmdDatagramRx (port : Fin 2) (d : Datagram) (s : State) : State :=
  let u := s.ethU port.val
  if !s.isReady || !u.on || !u.link || d.version ≠ 1 then s
  else match s.whole d.frag with
    | none => s
    | some s =>
      let p := { d.pkt with link := Link.eth port.val }
      if d.session = 0xFF then
        if d.counter = 0 && clearOp p.opcode.toNat then s.intoInbox p else s
      else match s.sess d.session with
        | some x =>
          if d.session < 64 && x.link = Link.eth port.val && d.tagOk && decide (x.rx < d.counter) then
            (s.setSess d.session (some { x with rx := d.counter })).intoInbox p
          else ethDrop s
        | none => ethDrop s

/-- The datagram that a reassembly completes arrives on this tick (R66). -/
def State.fragmentComes (s : State) (id : Nat) : Bool :=
  s.awaits fun i => match i with
    | .cmdDatagramRx _ _ d => d.frag = some id
    | _ => false

def effIpv4ReassemblyTimeout (slot : Fin 4) (s : State) : State :=
  match bfind s.host.reasm slot.val with
  | some (id, d, _) =>
    if d ≤ s.clk && !s.fragmentComes id then { s with host := { s.host with reasm := bdel s.host.reasm slot.val } } else s
  | none => s

def Can.noTunnel (u : Can) : Can := { u with tunnel := [], tunnelNext := none }

/-- A tunnel frame on the command identifier: the packet grows by its 63 bytes, and is queued with the LAST frame. -/
def effCanTunnelFrameRx (c : Fin 4) (data : List Byte) (s : State) : State :=
  let u := s.canU c.val
  let head := byteAt data 0
  let idx := bits head 5 0
  let live := if u.tunnelStart + 50 * msUnits < s.clk then none else u.tunnelNext
  if !s.canOn c.val || u.busOff || !bit (le u.cfg 28 4) 31 || data.length ≠ 64 then s
  else if (if bit head 7 then idx ≠ 0 else live ≠ some idx) then s.setCan c.val u.noTunnel
  else
    let got := (if bit head 7 then [] else u.tunnel) ++ data.drop 1
    if bit head 6 then (s.setCan c.val u.noTunnel).intoInbox (pktOf (.can c.val) got)
    else s.setCan c.val { u with
      tunnel := got, tunnelNext := some ((idx + 1) % 64), tunnelStart := if bit head 7 then s.clk else u.tunnelStart }

/-- A frame of the controller's tunnel arrives on this tick (R66). -/
def State.segmentComes (s : State) (c : Fin 4) : Bool :=
  s.awaits fun i => match i with
    | .canTunnelFrameRx _ d _ => d = c
    | _ => false

def effCanTunnelTimeout (c : Fin 4) (s : State) : State :=
  let u := s.canU c.val
  if u.tunnelNext.isSome && decide (u.tunnelStart + 50 * msUnits ≤ s.clk) && !s.segmentComes c then s.setCan c.val u.noTunnel else s

/-! ## Notifications and idle sessions (R110, R123, R127) -/

/-- The notification that a subscription posts now; its completed stamp is the value's (R127). -/
def State.notice (s : State) (x : Sub) : Reply :=
  let r : Reply :=
    { link := x.link, flags := 5#8, opcode := 0x1010#16, seq := BitVec.ofNat 16 x.seq, session := BitVec.ofNat 8 x.session
      target := 0x0E#8, status := 0#16, crc := 0#32, payload := toLE 8 x.accepted ++ toLE 8 (s.changeStamp x.idx) ++ s.readRec x.idx }
  { r with crc := BitVec.ofNat 32 r.crcOf }

/-- A notification is dropped and counted while the CQ's free entries do not exceed the SQ entries the device owns. -/
def State.notify (s : State) (r : Reply) : State :=
  match s.pairOf r.link with
  | some n =>
    let q := s.pair n
    if !q.en && !s.isSpi n then s
    else if s.pairCap n - q.posted.length - q.waiting.length ≤ q.owned then s.bump Obj.HOST_NOTIFY_DROPS 0xFFFFFFFF
    else s.postCq n r
  | none => s.deliver r

/-- A subscription falls due: its period has passed, or its value has changed and the least spacing has passed. -/
def effSubscriptionNotify (i : Fin 256) (s : State) : State :=
  match bget none s.host.subs i.val with
  | some x =>
    let v := s.readObj x.idx
    if !s.cpTakes || s.clk < x.due || (x.mode = 2 && v = x.lastVal) then s
    else
      let next := if x.mode = 1 then x.due + x.period * usUnits else s.clk + x.period * usUnits
      ({ s with host := { s.host with subs := bset s.host.subs i.val (some { x with due := next, lastVal := v }) } } : State).notify (s.notice x)
  | none => s

/-- A command that its session accepts is taken on this tick (R66, R123). -/
def State.commandComes (s : State) (n : Nat) : Bool :=
  s.awaits fun i => match i.pkt with
    | some p => p.session.toNat = n && (s.sessOf p).isSome && (checkHead p).isNone && s.cpTakes && (s.takeEntry p).isSome
    | none => false

def effSessionIdleTimeout (n : Fin 64) (s : State) : State :=
  match s.sess n.val with
  | some x => match x.link with
    | .eth _ | .can _ =>
      if x.idle + s.obj Obj.HOST_ETH_IDLE * sUnits ≤ s.clk && !s.commandComes n.val then s.endSession n.val else s
    | _ => s
  | none => s

/-! ## The windows (R113, R361, R428) -/

/-- Replace one half of a 64-bit base. -/
def halfOf (v : Nat) (high : Bool) (w : Nat) : Nat := if high then v % 2 ^ 32 + w * 2 ^ 32 else v / 2 ^ 32 * 2 ^ 32 + w

/-- A write of a pair's block of registers, at offset `o` of its 64 bytes. -/
def State.writePair (s : State) (n : Fin 16) (o : Nat) (v : Word) : State :=
  let q := s.pair n.val
  let w := v.toNat
  if o = 0x18 then (if bit w 31 then effQcfgEnable n v s else effQcfgDisable n v s)
  else if o = 0x1C then (if q.qerrAt = s.tick then s else s.setPair n.val { q with qerr := q.qerr &&& (0xFF ^^^ bits w 31 24) })
  else if q.en then s
  else if o = 0x00 ∨ o = 0x04 then s.setPair n.val { q with sqBase := halfOf q.sqBase (o = 0x04) w }
  else if o = 0x08 ∨ o = 0x0C then s.setPair n.val { q with cqBase := halfOf q.cqBase (o = 0x0C) w }
  else if o = 0x10 ∨ o = 0x14 then s.setPair n.val { q with rbuf := halfOf q.rbuf (o = 0x14) w }
  else s

/-- A write of the MSI-X table; a vector unmasked with its pending bit set is sent. -/
def State.writeMsix (s : State) (i : Nat) (v : Word) : State :=
  let s : State := { s with host := { s.host with msixTab := bset s.host.msixTab i v } }
  if i % 4 = 3 && !v.getLsbD 0 && bit s.host.msixPend (i / 4) then
    ({ s with host := { s.host with msixPend := s.host.msixPend - 2 ^ (i / 4) } } : State).msix (i / 4)
  else s

def State.writeBar0 (s : State) (o : Nat) (v : Word) : State :=
  let w := v.toNat
  if o = 0x0008 then { s with host := { s.host with devEvent := s.host.devEvent &&& ((0x3F ^^^ bits w 5 0) ||| s.evNow) } }
  else if 0x0400 ≤ o ∧ o < 0x0800 then s.writePair (Fin.ofNat 16 ((o - 0x400) / 0x40)) ((o - 0x400) % 0x40) v
  else if 0x1000 ≤ o ∧ o < 0x1080 then
    let n := Fin.ofNat 16 ((o - 0x1000) / 8)
    if o % 8 = 0 then effSqTailDoorbell n v s else effCqHeadDoorbell n v s
  else if 0x1800 ≤ o ∧ o < 0x1A00 then s.writeMsix ((o - 0x1800) / 4) v
  else if o = 0x1F00 then (if bit w 0 then effMbxGo s else s)
  else if 0x2000 ≤ o ∧ o < 0x3000 then { s with host := { s.host with mbxReq := bset s.host.mbxReq ((o - 0x2000) / 4) v } }
  else s

/-- A write of a CAN queue's registers; those of transmit queues have no writable field. -/
def State.writeBar2 (s : State) (o : Nat) (v : Word) : State :=
  let c := Fin.ofNat 4 ((o - 0xF0000) / 0x100)
  let q := (o - 0xF0000) % 0x100 / 0x10
  if o < 0xF0000 || 0xF0400 ≤ o || 8 < q then s
  else if o % 0x10 = 8 then effCanQackDoorbell c (Fin.ofNat 9 q) (bits v.toNat 9 0) s
  else if o % 0x10 = 0xC && bit v.toNat 1 then s.modCan c.val fun u => { u with ackErr := u.ackErr.filter fun j => j ≠ q || (u.ackNow s.tick).contains j }
  else s

/-- A write of a whole, aligned word; one to an unmapped offset is ignored. -/
def effRegisterWrite (bar2 : Bool) (o : Nat) (v : Word) (s : State) : State :=
  if o % 4 ≠ 0 then s else if bar2 then s.writeBar2 o v else s.writeBar0 o v

/-- A word of BAR0 as the host reads it; an unmapped offset reads as zero. -/
def State.readBar0 (s : State) (o : Nat) : Nat :=
  let q := s.pair ((o - 0x400) / 0x40)
  if o = 0 then 0x60200000 + Config.revision.toNat
  else if o = 4 then s.devStatus
  else if o = 8 then s.host.devEvent
  else if 0x0400 ≤ o ∧ o < 0x0800 then
    match (o - 0x400) % 0x40 with
    | 0x00 => q.sqBase % 2 ^ 32
    | 0x04 => q.sqBase / 2 ^ 32
    | 0x08 => q.cqBase % 2 ^ 32
    | 0x0C => q.cqBase / 2 ^ 32
    | 0x10 => q.rbuf % 2 ^ 32
    | 0x14 => q.rbuf / 2 ^ 32
    | 0x18 => b2n q.en * 2 ^ 31 + q.depth * 2 ^ 27 + q.vector * 2 ^ 22 + q.weight * 2 ^ 18 + b2n (s.isSpi ((o - 0x400) / 0x40)) * 2 ^ 16
    | 0x1C => q.qerr * 2 ^ 24 + min 2047 q.owned
    | _ => 0
  else if 0x1800 ≤ o ∧ o < 0x1A00 then (bget 0#32 s.host.msixTab ((o - 0x1800) / 4)).toNat
  else if o = 0x1A00 then s.host.msixPend
  else if o = 0x1F00 then b2n s.host.mbxBusy * 2
  else if 0x2000 ≤ o ∧ o < 0x3000 then (bget 0#32 s.host.mbxReq ((o - 0x2000) / 4)).toNat
  else if 0x3000 ≤ o ∧ o < 0x4000 then match s.host.mbxReply with
    | some r => le r.bytes (o - 0x3000) 4
    | none => 0
  else 0

/-- A word of BAR2 as the host reads it: the trace readout, and the registers of a controller's queues but QINFO. -/
def State.readBar2 (s : State) (o : Nat) : Nat :=
  let u := s.canU ((o - 0xF0000) / 0x100)
  let q := (o - 0xF0000) % 0x100 / 0x10
  let depth := if q = 8 then 64 else if q < 8 then u.rxDepth q else u.txDepth (q - 9)
  let used := if q ≤ 8 then (u.owned q).length else (bget [] u.tx (q - 9)).length
  let next := if q < 8 then bget 0 u.rxIdx q else if q = 8 then u.repIdx else bget 0 u.txIdx (q - 9)
  if 0xC0000 ≤ o && o < 0xF0000 then
    le (s.traceSlot ((s.obj Obj.DIA_TRACE_WINDOW + (o - 0xC0000) / 64) % 16384)) (o % 64) 4
  else if o < 0xF0000 || 0xF0400 ≤ o || 12 < q then 0
  else match o % 0x10 with
    | 4 => next * 2 ^ 16 + (next + depth - used) % max 1 depth
    | 0xC => b2n (u.ackErr.contains q) * 2 + b2n (depth ≠ 0 && depth ≤ used)
    | _ => 0

/-! ## The commands -/

def execSqTailDoorbell (dt : Nat) (n : Fin 16) (v : Word) (s : State) : Host.Outcome State Fault Refusal :=
  .next (s.run dt (effSqTailDoorbell n v))
def execCqHeadDoorbell (dt : Nat) (n : Fin 16) (v : Word) (s : State) : Host.Outcome State Fault Refusal :=
  .next (s.run dt (effCqHeadDoorbell n v))
def execQcfgEnable (dt : Nat) (n : Fin 16) (v : Word) (s : State) : Host.Outcome State Fault Refusal :=
  .next (s.run dt (effQcfgEnable n v))
def execQcfgDisable (dt : Nat) (n : Fin 16) (v : Word) (s : State) : Host.Outcome State Fault Refusal :=
  .next (s.run dt (effQcfgDisable n v))
def execMbxGo (dt : Nat) (s : State) : Host.Outcome State Fault Refusal := .next (s.run dt effMbxGo)
def execRegisterWrite (dt : Nat) (bar2 : Bool) (offset : Nat) (v : Word) (s : State) : Host.Outcome State Fault Refusal :=
  .next (s.run dt (effRegisterWrite bar2 offset v))
def execSpiSubmit (dt : Nat) (pair : Nat) (p : Pkt) (clocked : Nat) (s : State) : Host.Outcome State Fault Refusal :=
  .next (s.run dt (effSpiSubmit pair p clocked))
def execSpiFetch (dt : Nat) (pair : Fin 4) (clocked : Nat) (s : State) : Host.Outcome State Fault Refusal :=
  .next (s.run dt (effSpiFetch pair clocked))
def execSpiStatus (dt : Nat) (s : State) : Host.Outcome State Fault Refusal := .next (s.run dt effSpiStatus)
def execSpiUnknownInstruction (dt : Nat) (b : Byte) (s : State) : Host.Outcome State Fault Refusal := .next (s.run dt (effSpiUnknown b))
def execCmdDatagramRx (dt : Nat) (port : Fin 2) (d : Datagram) (s : State) : Host.Outcome State Fault Refusal :=
  .next (s.run dt (effCmdDatagramRx port d))
def execIpv4ReassemblyTimeout (dt : Nat) (slot : Fin 4) (s : State) : Host.Outcome State Fault Refusal :=
  .next (s.run dt (effIpv4ReassemblyTimeout slot))
def execCanTunnelFrameRx (dt : Nat) (c : Fin 4) (data : List Byte) (s : State) : Host.Outcome State Fault Refusal :=
  .next (s.run dt (effCanTunnelFrameRx c data))
def execCanTunnelTimeout (dt : Nat) (c : Fin 4) (s : State) : Host.Outcome State Fault Refusal := .next (s.run dt (effCanTunnelTimeout c))
def execCompletionPost (dt : Nat) (q : Fin 16) (s : State) : Host.Outcome State Fault Refusal := .next (s.run dt (effCompletionPost q))
def execSubscriptionNotify (dt : Nat) (i : Fin 256) (s : State) : Host.Outcome State Fault Refusal :=
  .next (s.run dt (effSubscriptionNotify i))
def execSessionIdleTimeout (dt : Nat) (session : Fin 64) (s : State) : Host.Outcome State Fault Refusal :=
  .next (s.run dt (effSessionIdleTimeout session))
def execPerstAssert (dt : Nat) (s : State) : Host.Outcome State Fault Refusal := .next (s.run dt effPerstAssert)
def execPcieLinkDownTimeout (dt : Nat) (s : State) : Host.Outcome State Fault Refusal := .next (s.run dt effPcieLinkDownTimeout)
def execPcieHostMemoryError (dt : Nat) (q : Fin 16) (write : Bool) (s : State) : Host.Outcome State Fault Refusal :=
  .next (s.run dt (effPcieHostMemoryError q write))
def execPcieLinkChange (dt : Nat) (up : Bool) (s : State) : Host.Outcome State Fault Refusal := .next (s.run dt (effPcieLinkChange up))
def execMuRestartDone (dt : Nat) (s : State) : Host.Outcome State Fault Refusal := .next (s.run dt effMuBack)

end Sys2Proof.Machine
end

