-- ==== Sys2Proof/Machine/Balls.lean ====
section
/-!
DEFINITION. The states of the balls (R18, R24, Table 2.3): by supply and reset state, and, once its unit is configured and
enabled, as that unit drives or reads the ball.
-/

namespace Sys2Proof.Machine

/-- The ball groups of Table 2.3, with the instance of their unit. -/
inductive Ball where
  | glTx (l : Fin 24)
  | glRx (l : Fin 24)
  | hold (high : Bool)
  | sdIn (n : Fin 64)
  | mclkIn
  | mclkOut (g : Fin 8)
  | enc (n : Fin 8)
  | auxIn (k : Fin 32)
  | canTx (c : Fin 4)
  | canRx (c : Fin 4)
  | sgmiiTx (p : Fin 2)
  | pcie
  | spiMiso
  | spiIrq
  | pwrcycReq
  | ringPort
  | ospi
  | tio (n : Fin 8)
  | stoIn
  | safeOut
  | dbgTdo
  deriving DecidableEq, Repr

/-- What Table 2.3 says of a ball. -/
inductive BallState where
  | highZ                -- high impedance
  | terminated           -- termination present, input fail-safe
  | ignored              -- an input that is ignored
  | monitored            -- an input that is read
  | failSafe             -- a fail-safe input
  | pullUp               -- an input with its pull-up; ENC_A high impedance
  | pullDown             -- an input with its pull-down
  | unprotected          -- an analogue input without protection
  | switchOpen           -- the sampling switch is open
  | low
  | high
  | released             -- an open drain that does not sink
  | off
  | linkDown
  | training             -- link training once PERST_N is released
  | unpoweredEndpoint    -- as PCI Express requires of an unpowered endpoint
  | bypassClosed
  | norReset             -- SCK low, CS_N high, RST_N low
  | muBoot               -- driven by the boot of the MU
  | syncMode             -- SYNC and MODE frames, no EDGE frames
  | stoRequested         -- pulled down: reads as STO requested
  | unit                 -- as the configured and enabled unit drives or reads it
  deriving DecidableEq, Repr

/-- The columns of Table 2.3, and the time after them. -/
inductive Column where
  | unpowered | inReset | beforeConfig | inUse
  deriving DecidableEq, Repr

/-- The I/O supply of a group (Table 2.1), numbered as R20 lists the rails; 5 is VSTBY. -/
def Ball.rail : Ball → Nat
  | .glTx _ | .glRx _ | .ospi | .dbgTdo => 2
  | .sgmiiTx _ | .pcie | .ringPort => 1
  | .auxIn _ => 4
  | .pwrcycReq => 5
  | .hold _ | .sdIn _ | .mclkIn | .mclkOut _ | .enc _ | .canTx _ | .canRx _ | .spiMiso | .spiIrq | .tio _ | .stoIn | .safeOut => 3

/-- A rail counts as off while it lies below its undervoltage trip (log entry 54). -/
def State.railOff (s : State) (r : Nat) : Bool :=
  if r = 5 then !s.mu.vstby else ((s.mu.rails.getD r {}).below).isSome

/-- The unit of a ball is configured and enabled. -/
def State.ballUsed (s : State) : Ball → Bool
  | .glTx l => s.linksSpeak && s.linkSlice l.val < 6 && s.enabled (s.linkSlice l.val)
  | .glRx _ => s.linksSpeak
  | .hold _ | .stoIn | .safeOut => s.ref.runs
  | .sdIn n => s.sdLive n.val
  | .mclkIn => s.isReady && s.anyExt
  | .mclkOut g => s.isReady && !s.groupExt g.val && s.groupClocked g.val
  | .enc n => s.isReady && s.encOn n.val
  | .auxIn k => s.isReady && bit (s.obj (Obj.AUX_CFG + k.val / 8)) 31
  | .canTx c | .canRx c => s.canOn c.val
  | .sgmiiTx p => s.isReady && (s.ethU p.val).on
  | .pcie => s.host.pcieUp
  | .spiIrq => s.isReady
  | .pwrcycReq => s.mu.pwrcyc.isSome
  | .ringPort => !s.mu.bypass
  | .ospi => s.mu.vstby
  | .tio n => s.isReady && s.tioMode n.val ≠ 0
  | .spiMiso | .dbgTdo => false

/-- The ball's domain is held in reset: between resets, in CLOCK_HOLD (R13) and in THERMAL_HOLD (R386); PCIe stays up in both holds,
where the MU serves BAR0. -/
def State.ballsHeld (s : State) (b : Ball) : Bool :=
  !s.mu.phase.up || (decide (b ≠ .pcie) && (s.mu.phase = .clockHold || s.mu.phase = .thermalHold))

/-- The column that holds for a ball now. The OSPI row and PWRCYC_REQ_N belong to the MU: that their `in reset' means the MU's own
reset, with VSTBY out, and no reset or hold of the main domains, is the model's choice (log entry 54). -/
def State.column (s : State) (b : Ball) : Column :=
  if s.railOff b.rail then .unpowered
  else if b = .pwrcycReq || b = .ospi then (if s.ballUsed b then .inUse else .inReset)
  else if s.ballsHeld b then .inReset
  else if s.ballUsed b then .inUse
  else .beforeConfig

/-- Table 2.3. -/
def table23 : Ball → Column → BallState
  | .ospi, .inUse => .muBoot
  | _, .inUse => .unit
  | .glTx _, _ => .highZ
  | .glRx _, .unpowered => .terminated
  | .glRx _, .inReset => .ignored
  | .glRx _, .beforeConfig => .monitored
  | .hold _, _ => .highZ
  | .sdIn _, .unpowered | .mclkIn, .unpowered => .failSafe
  | .sdIn _, _ | .mclkIn, _ => .ignored
  | .mclkOut _, .unpowered => .highZ
  | .mclkOut _, _ => .low
  | .enc _, .unpowered => .failSafe
  | .enc _, _ => .pullUp
  | .auxIn _, .unpowered => .unprotected
  | .auxIn _, _ => .switchOpen
  | .canTx _, .unpowered => .highZ
  | .canTx _, _ => .high
  | .canRx _, .unpowered => .failSafe
  | .canRx _, _ => .ignored
  | .sgmiiTx _, _ => .off
  | .pcie, .unpowered => .unpoweredEndpoint
  | .pcie, .inReset => .linkDown
  | .pcie, .beforeConfig => .training
  | .spiMiso, _ => .highZ
  | .spiIrq, .unpowered | .pwrcycReq, .unpowered => .highZ
  | .spiIrq, _ | .pwrcycReq, _ => .released
  | .ringPort, _ => .bypassClosed
  | .ospi, .unpowered => .highZ
  | .ospi, .inReset => .norReset
  | .ospi, .beforeConfig => .muBoot
  | .tio _, .unpowered => .highZ
  | .tio _, _ => .pullDown
  | .stoIn, .unpowered => .failSafe
  | .stoIn, _ => .stoRequested
  | .safeOut, .unpowered => .highZ
  | .safeOut, _ => .low
  | .dbgTdo, _ => .highZ

/-- The state of a ball. Before its slice is enabled a gate link whose CP has started sends SYNC and MODE frames. -/
def State.ball (s : State) (b : Ball) : BallState :=
  match b, s.column b with
  | .glTx _, .beforeConfig => if s.linksSpeak then .syncMode else .highZ
  | b, c => table23 b c

end Sys2Proof.Machine
end

