-- ==== Sys2Proof/Machine/Dispatch.lean ====
section
/-!
DEFINITION. One arm per command: the arm is one direct call of the command's meaning.
-/

namespace Sys2Proof.Machine

open Sys2Proof

def exec (i : Instr) (s : State) : Host.Outcome State Fault Refusal :=
  match i with
  | .vstbyInRange dt => Sys2Proof.Machine.execVstbyInRange dt s
  | .standbyBootDone dt => Sys2Proof.Machine.execStandbyBootDone dt s
  | .vstbyTrip dt => Sys2Proof.Machine.execVstbyTrip dt s
  | .mainRailInRange dt rail => Sys2Proof.Machine.execMainRailInRange dt rail s
  | .supplyFault dt rail high => Sys2Proof.Machine.execSupplyFault dt rail high s
  | .supplyRestart dt => Sys2Proof.Machine.execSupplyRestart dt s
  | .resetNLow dt => Sys2Proof.Machine.execResetNLow dt s
  | .resetNRelease dt => Sys2Proof.Machine.execResetNRelease dt s
  | .deviceReset dt cause => Sys2Proof.Machine.execDeviceReset dt cause s
  | .bypassOpen dt => Sys2Proof.Machine.execBypassOpen dt s
  | .xtalDetect dt edges => Sys2Proof.Machine.execXtalDetect dt edges s
  | .deviceStart dt => Sys2Proof.Machine.execDeviceStart dt s
  | .romStartDone dt otpOk norKiB => Sys2Proof.Machine.execRomStartDone dt otpOk norKiB s
  | .bootIngotVerified dt bankA bankB => Sys2Proof.Machine.execBootIngotVerified dt bankA bankB s
  | .startupBistDone dt r => Sys2Proof.Machine.execStartupBistDone dt r s
  | .configLoaded dt a b bind => Sys2Proof.Machine.execConfigLoaded dt a b bind s
  | .ready dt => Sys2Proof.Machine.execReady dt s
  | .clockMonitorWindow dt clk edges => Sys2Proof.Machine.execClockMonitorWindow dt clk edges s
  | .clockEdgeTimeout dt clk => Sys2Proof.Machine.execClockEdgeTimeout dt clk s
  | .clockStable dt => Sys2Proof.Machine.execClockStable dt s
  | .clockHoldTimeout dt => Sys2Proof.Machine.execClockHoldTimeout dt s
  | .startFailTimeout dt => Sys2Proof.Machine.execStartFailTimeout dt s
  | .pwrcycAssert dt => Sys2Proof.Machine.execPwrcycAssert dt s
  | .pwrcycRelease dt => Sys2Proof.Machine.execPwrcycRelease dt s
  | .pwrcycNoResponse dt => Sys2Proof.Machine.execPwrcycNoResponse dt s
  | .timSetIncrement dt p => Sys2Proof.Machine.execTimSetIncrement dt p s
  | .incrementApply dt => Sys2Proof.Machine.execIncrementApply dt s
  | .timStep dt p => Sys2Proof.Machine.execTimStep dt p s
  | .timeStepApply dt => Sys2Proof.Machine.execTimeStepApply dt s
  | .timServoMode dt p => Sys2Proof.Machine.execTimServoMode dt p s
  | .servoModeApply dt => Sys2Proof.Machine.execServoModeApply dt s
  | .timRallyWrite dt p => Sys2Proof.Machine.execTimRallyWrite dt p s
  | .timTioConfig dt p => Sys2Proof.Machine.execTimTioConfig dt p s
  | .ptpSyncRx dt port source gmTime logSync followUp => Sys2Proof.Machine.execPtpSyncRx dt port source gmTime logSync followUp s
  | .gmTimeout dt => Sys2Proof.Machine.execGmTimeout dt s
  | .holdoverMaxExpire dt => Sys2Proof.Machine.execHoldoverMaxExpire dt s
  | .hostWatchdogExpire dt => Sys2Proof.Machine.execHostWatchdogExpire dt s
  | .ringAlignTimeout dt => Sys2Proof.Machine.execRingAlignTimeout dt s
  | .ethTxtsPop dt port p => Sys2Proof.Machine.execEthTxtsPop dt port p s
  | .rallyTimeOccurrence dt sl entry => Sys2Proof.Machine.execRallyTimeOccurrence dt sl entry s
  | .rallyPwmPhaseOccurrence dt sl entry => Sys2Proof.Machine.execRallyPwmPhaseOccurrence dt sl entry s
  | .rallyAngleOccurrence dt sl entry => Sys2Proof.Machine.execRallyAngleOccurrence dt sl entry s
  | .tioPulseTrailingEdge dt pin => Sys2Proof.Machine.execTioPulseTrailingEdge dt pin s
  | .tioCaptureEdge dt pin level => Sys2Proof.Machine.execTioCaptureEdge dt pin level s
  | .sqTailDoorbell dt n v => Sys2Proof.Machine.execSqTailDoorbell dt n v s
  | .cqHeadDoorbell dt n v => Sys2Proof.Machine.execCqHeadDoorbell dt n v s
  | .qcfgEnable dt n v => Sys2Proof.Machine.execQcfgEnable dt n v s
  | .qcfgDisable dt n v => Sys2Proof.Machine.execQcfgDisable dt n v s
  | .mbxGo dt => Sys2Proof.Machine.execMbxGo dt s
  | .registerWrite dt bar2 offset v => Sys2Proof.Machine.execRegisterWrite dt bar2 offset v s
  | .spiSubmit dt pair p clocked => Sys2Proof.Machine.execSpiSubmit dt pair p clocked s
  | .spiFetch dt pair clocked => Sys2Proof.Machine.execSpiFetch dt pair clocked s
  | .spiStatus dt => Sys2Proof.Machine.execSpiStatus dt s
  | .spiUnknownInstruction dt b => Sys2Proof.Machine.execSpiUnknownInstruction dt b s
  | .cmdDatagramRx dt port d => Sys2Proof.Machine.execCmdDatagramRx dt port d s
  | .ipv4ReassemblyTimeout dt slot => Sys2Proof.Machine.execIpv4ReassemblyTimeout dt slot s
  | .canTunnelFrameRx dt c data => Sys2Proof.Machine.execCanTunnelFrameRx dt c data s
  | .canTunnelTimeout dt c => Sys2Proof.Machine.execCanTunnelTimeout dt c s
  | .completionPost dt q => Sys2Proof.Machine.execCompletionPost dt q s
  | .subscriptionNotify dt sub => Sys2Proof.Machine.execSubscriptionNotify dt sub s
  | .sessionIdleTimeout dt session => Sys2Proof.Machine.execSessionIdleTimeout dt session s
  | .perstAssert dt => Sys2Proof.Machine.execPerstAssert dt s
  | .pcieLinkDownTimeout dt => Sys2Proof.Machine.execPcieLinkDownTimeout dt s
  | .pcieHostMemoryError dt q write => Sys2Proof.Machine.execPcieHostMemoryError dt q write s
  | .sysNop dt p => Sys2Proof.Machine.execSysNop dt p s
  | .sysOpenSession dt p => Sys2Proof.Machine.execSysOpenSession dt p s
  | .sysCloseSession dt p => Sys2Proof.Machine.execSysCloseSession dt p s
  | .sysGetInfo dt p => Sys2Proof.Machine.execSysGetInfo dt p s
  | .sysReset dt p => Sys2Proof.Machine.execSysReset dt p s
  | .sysResetActivate dt p => Sys2Proof.Machine.execSysResetActivate dt p s
  | .sysFuncReinitUnit dt p => Sys2Proof.Machine.execSysFuncReinitUnit dt p s
  | .sysFuncReinitPair dt p => Sys2Proof.Machine.execSysFuncReinitPair dt p s
  | .sysFuncReinitContext dt p => Sys2Proof.Machine.execSysFuncReinitContext dt p s
  | .sysFuncReinitAux dt p => Sys2Proof.Machine.execSysFuncReinitAux dt p s
  | .sysFuncReinitEncoder dt p => Sys2Proof.Machine.execSysFuncReinitEncoder dt p s
  | .sysPwrcycleReq dt p => Sys2Proof.Machine.execSysPwrcycleReq dt p s
  | .objRead dt p => Sys2Proof.Machine.execObjRead dt p s
  | .objReadBlock dt p => Sys2Proof.Machine.execObjReadBlock dt p s
  | .objSubscribe dt p => Sys2Proof.Machine.execObjSubscribe dt p s
  | .objSubscribeCancel dt p => Sys2Proof.Machine.execObjSubscribeCancel dt p s
  | .objWrite dt p => Sys2Proof.Machine.execObjWrite dt p s
  | .objWriteBlock dt p => Sys2Proof.Machine.execObjWriteBlock dt p s
  | .auxHostTrig dt p => Sys2Proof.Machine.execAuxHostTrig dt p s
  | .encSsiTrig dt p => Sys2Proof.Machine.execEncSsiTrig dt p s
  | .mgtLifecycleReq dt p => Sys2Proof.Machine.execMgtLifecycleReq dt p s
  | .mgtFeatureGate dt p => Sys2Proof.Machine.execMgtFeatureGate dt p s
  | .encCfgWrite dt n p => Sys2Proof.Machine.execEncCfgWrite dt n p s
  | .sdMclkDivApply dt group => Sys2Proof.Machine.execSdMclkDivApply dt group s
  | .pwmPeriodApply dt sl => Sys2Proof.Machine.execPwmPeriodApply dt sl s
  | .drvEnable dt p => Sys2Proof.Machine.execDrvEnable dt p s
  | .drvDisable dt p => Sys2Proof.Machine.execDrvDisable dt p s
  | .drvSetSpeed dt p => Sys2Proof.Machine.execDrvSetSpeed dt p s
  | .drvSetTorque dt p => Sys2Proof.Machine.execDrvSetTorque dt p s
  | .drvStopRamp dt p => Sys2Proof.Machine.execDrvStopRamp dt p s
  | .drvStopCoast dt p => Sys2Proof.Machine.execDrvStopCoast dt p s
  | .drvStopShort dt p => Sys2Proof.Machine.execDrvStopShort dt p s
  | .drvStart dt p => Sys2Proof.Machine.execDrvStart dt p s
  | .drvDischargeWinding dt p => Sys2Proof.Machine.execDrvDischargeWinding dt p s
  | .drvDischargeSwitch dt p => Sys2Proof.Machine.execDrvDischargeSwitch dt p s
  | .engDefineContext dt p => Sys2Proof.Machine.execEngDefineContext dt p s
  | .engDeleteContext dt p => Sys2Proof.Machine.execEngDeleteContext dt p s
  | .engWriteCoef dt p => Sys2Proof.Machine.execEngWriteCoef dt p s
  | .engFreeze dt p => Sys2Proof.Machine.execEngFreeze dt p s
  | .engRelease dt p => Sys2Proof.Machine.execEngRelease dt p s
  | .engReleaseSwap dt ctx => Sys2Proof.Machine.execEngReleaseSwap dt ctx s
  | .engSeedState dt p => Sys2Proof.Machine.execEngSeedState dt p s
  | .engLink dt p => Sys2Proof.Machine.execEngLink dt p s
  | .engGroup dt p => Sys2Proof.Machine.execEngGroup dt p s
  | .engCommit dt p => Sys2Proof.Machine.execEngCommit dt p s
  | .engCommitDiscard dt p => Sys2Proof.Machine.execEngCommitDiscard dt p s
  | .netCanConfig dt p => Sys2Proof.Machine.execNetCanConfig dt p s
  | .netCanConfigRead dt p => Sys2Proof.Machine.execNetCanConfigRead dt p s
  | .netCanFilter dt p => Sys2Proof.Machine.execNetCanFilter dt p s
  | .netCanFilterRead dt p => Sys2Proof.Machine.execNetCanFilterRead dt p s
  | .netCanTx dt p => Sys2Proof.Machine.execNetCanTx dt p s
  | .netCanCancel dt p => Sys2Proof.Machine.execNetCanCancel dt p s
  | .netCanAck dt p => Sys2Proof.Machine.execNetCanAck dt p s
  | .netEthConfig dt p => Sys2Proof.Machine.execNetEthConfig dt p s
  | .netEthConfigRead dt p => Sys2Proof.Machine.execNetEthConfigRead dt p s
  | .safLogin dt p => Sys2Proof.Machine.execSafLogin dt p s
  | .safSetPassword dt p => Sys2Proof.Machine.execSafSetPassword dt p s
  | .safCommit dt p => Sys2Proof.Machine.execSafCommit dt p s
  | .safLogRead dt p => Sys2Proof.Machine.execSafLogRead dt p s
  | .mgtIngotBegin dt p => Sys2Proof.Machine.execMgtIngotBegin dt p s
  | .mgtIngotBeginConfig dt p => Sys2Proof.Machine.execMgtIngotBeginConfig dt p s
  | .mgtIngotData dt p => Sys2Proof.Machine.execMgtIngotData dt p s
  | .mgtIngotEnd dt p => Sys2Proof.Machine.execMgtIngotEnd dt p s
  | .ingotCheckDone dt r => Sys2Proof.Machine.execIngotCheckDone dt r s
  | .ingotTransferTimeout dt => Sys2Proof.Machine.execIngotTransferTimeout dt s
  | .mgtActivate dt p => Sys2Proof.Machine.execMgtActivate dt p s
  | .mgtActivateApply dt => Sys2Proof.Machine.execMgtActivateApply dt s
  | .mgtBind dt p check => Sys2Proof.Machine.execMgtBind dt p check s
  | .mgtInstallAnchor dt p => Sys2Proof.Machine.execMgtInstallAnchor dt p s
  | .mgtRemoveBinding dt p => Sys2Proof.Machine.execMgtRemoveBinding dt p s
  | .mgtAttest dt p => Sys2Proof.Machine.execMgtAttest dt p s
  | .mgtLogRead dt p => Sys2Proof.Machine.execMgtLogRead dt p s
  | .diaBistRun dt p => Sys2Proof.Machine.execDiaBistRun dt p s
  | .diaBistResult dt p => Sys2Proof.Machine.execDiaBistResult dt p s
  | .diaRemapRow dt p => Sys2Proof.Machine.execDiaRemapRow dt p s
  | .diaTraceStop dt p => Sys2Proof.Machine.execDiaTraceStop dt p s
  | .diaTraceStartRing dt p => Sys2Proof.Machine.execDiaTraceStartRing dt p s
  | .diaTraceStartOnce dt p => Sys2Proof.Machine.execDiaTraceStartOnce dt p s
  | .flkConfig dt p => Sys2Proof.Machine.execFlkConfig dt p s
  | .flkResync dt p => Sys2Proof.Machine.execFlkResync dt p s
  | .flkHandover dt p => Sys2Proof.Machine.execFlkHandover dt p s
  | .sdMainResult dt ch shadow stream => Sys2Proof.Machine.execSdMainResult dt ch shadow stream s
  | .sdInterpResult dt ch => Sys2Proof.Machine.execSdInterpResult dt ch s
  | .sdFastTrip dt ch stream last => Sys2Proof.Machine.execSdFastTrip dt ch stream last s
  | .sdStuck dt c => Sys2Proof.Machine.execSdStuck dt c s
  | .mclkInLost dt => Sys2Proof.Machine.execMclkInLost dt s
  | .mclkInFreqWindow dt hertz margin => Sys2Proof.Machine.execMclkInFreqWindow dt hertz margin s
  | .sdMonitorRecover dt ch => Sys2Proof.Machine.execSdMonitorRecover dt ch s
  | .auxSampleEnd dt u level => Sys2Proof.Machine.execAuxSampleEnd dt u level s
  | .auxConversionEnd dt u => Sys2Proof.Machine.execAuxConversionEnd dt u s
  | .auxPowerDown dt u => Sys2Proof.Machine.execAuxPowerDown dt u s
  | .hkSlot dt v => Sys2Proof.Machine.execHkSlot dt v s
  | .hkRoundEnd dt => Sys2Proof.Machine.execHkRoundEnd dt s
  | .hkRoundLate dt => Sys2Proof.Machine.execHkRoundLate dt s
  | .throttleEnforce dt => Sys2Proof.Machine.execThrottleEnforce dt s
  | .thermalStopDeadline dt => Sys2Proof.Machine.execThermalStopDeadline dt s
  | .thermalHoldEntry dt => Sys2Proof.Machine.execThermalHoldEntry dt s
  | .encQuadTransition dt n a b => Sys2Proof.Machine.execEncQuadTransition dt n a b s
  | .encHallTransition dt n h => Sys2Proof.Machine.execEncHallTransition dt n h s
  | .encIndex dt n rising => Sys2Proof.Machine.execEncIndex dt n rising s
  | .encProbeEdge dt n rising => Sys2Proof.Machine.execEncProbeEdge dt n rising s
  | .encStandstill dt n => Sys2Proof.Machine.execEncStandstill dt n s
  | .encSpeedEval dt n => Sys2Proof.Machine.execEncSpeedEval dt n s
  | .ssiFrameEnd dt n bits parity => Sys2Proof.Machine.execSsiFrameEnd dt n bits parity s
  | .engEvalStart dt unit => Sys2Proof.Machine.execEngEvalStart dt unit s
  | .engEvalDone dt unit => Sys2Proof.Machine.execEngEvalDone dt unit s
  | .engOutputWrite dt ctx => Sys2Proof.Machine.execEngOutputWrite dt ctx s
  | .controlSample dt sl => Sys2Proof.Machine.execControlSample dt sl s
  | .zeroSpeedHoldDone dt sl => Sys2Proof.Machine.execZeroSpeedHoldDone dt sl s
  | .catchPulse dt sl => Sys2Proof.Machine.execCatchPulse dt sl s
  | .catchTimeout dt sl => Sys2Proof.Machine.execCatchTimeout dt sl s
  | .polarityTestPhaseEnd dt sl => Sys2Proof.Machine.execPolarityTestPhaseEnd dt sl s
  | .recatchDelayExpire dt sl => Sys2Proof.Machine.execRecatchDelayExpire dt sl s
  | .recatchWindowExpire dt sl => Sys2Proof.Machine.execRecatchWindowExpire dt sl s
  | .dischargeTimeout dt sl => Sys2Proof.Machine.execDischargeTimeout dt sl s
  | .setpointRefresh dt => Sys2Proof.Machine.execSetpointRefresh dt s
  | .setpointTimeout dt sl => Sys2Proof.Machine.execSetpointTimeout dt sl s
  | .updateIntervalStart dt sl => Sys2Proof.Machine.execUpdateIntervalStart dt sl s
  | .modulatorComputeDone dt sl => Sys2Proof.Machine.execModulatorComputeDone dt sl s
  | .modulationModeBoundary dt sl => Sys2Proof.Machine.execModulationModeBoundary dt sl s
  | .edgeSend dt l => Sys2Proof.Machine.execEdgeSend dt l s
  | .glSyncSend dt l => Sys2Proof.Machine.execGlSyncSend dt l s
  | .glModeSend dt l => Sys2Proof.Machine.execGlModeSend dt l s
  | .glStatusRx dt l body crc => Sys2Proof.Machine.execGlStatusRx dt l body crc s
  | .glExecRx dt l body crc => Sys2Proof.Machine.execGlExecRx dt l body crc s
  | .glEchoTimeout dt l => Sys2Proof.Machine.execGlEchoTimeout dt l s
  | .glStatusTimeout dt l => Sys2Proof.Machine.execGlStatusTimeout dt l s
  | .stoInputChange dt inputB level => Sys2Proof.Machine.execStoInputChange dt inputB level s
  | .stoDiscrepancy dt => Sys2Proof.Machine.execStoDiscrepancy dt s
  | .refereeEvaluation dt => Sys2Proof.Machine.execRefereeEvaluation dt s
  | .ss1TmaxExpire dt sl => Sys2Proof.Machine.execSs1TmaxExpire dt sl s
  | .degradedTimeExpire dt sl => Sys2Proof.Machine.execDegradedTimeExpire dt sl s
  | .refereeHeartbeat dt railsAgree => Sys2Proof.Machine.execRefereeHeartbeat dt railsAgree s
  | .refereeHeartbeatTimeout dt => Sys2Proof.Machine.execRefereeHeartbeatTimeout dt s
  | .refereeInjection dt comparatorOk fastOk => Sys2Proof.Machine.execRefereeInjection dt comparatorOk fastOk s
  | .refereeLockstepMismatch dt => Sys2Proof.Machine.execRefereeLockstepMismatch dt s
  | .dischargeMonitorDeadline dt sl => Sys2Proof.Machine.execDischargeMonitorDeadline dt sl s
  | .safLoginLockExpire dt => Sys2Proof.Machine.execSafLoginLockExpire dt s
  | .cpLockstepMismatch dt => Sys2Proof.Machine.execCpLockstepMismatch dt s
  | .cpRestartDone dt injectionOk => Sys2Proof.Machine.execCpRestartDone dt injectionOk s
  | .cpCheckpoint dt => Sys2Proof.Machine.execCpCheckpoint dt s
  | .eccCorrectable dt owner => Sys2Proof.Machine.execEccCorrectable dt owner s
  | .eccUncorrectable dt owner detail => Sys2Proof.Machine.execEccUncorrectable dt owner detail s
  | .muRestartDone dt => Sys2Proof.Machine.execMuRestartDone dt s
  | .matrixDatapathError dt unit => Sys2Proof.Machine.execMatrixDatapathError dt unit s
  | .debugHalt dt => Sys2Proof.Machine.execDebugHalt dt s
  | .debugResume dt => Sys2Proof.Machine.execDebugResume dt s
  | .debugWrite dt addr v agree => Sys2Proof.Machine.execDebugWrite dt addr v agree s
  | .ringHeartbeatSend dt => Sys2Proof.Machine.execRingHeartbeatSend dt s
  | .ringHeartbeatRx dt port hb => Sys2Proof.Machine.execRingHeartbeatRx dt port hb s
  | .heartbeatFailure dt => Sys2Proof.Machine.execHeartbeatFailure dt s
  | .joinWaitExpire dt => Sys2Proof.Machine.execJoinWaitExpire dt s
  | .ringClaimSend dt => Sys2Proof.Machine.execRingClaimSend dt s
  | .ringClaimRx dt port src claim => Sys2Proof.Machine.execRingClaimRx dt port src claim s
  | .handoverBoundary dt => Sys2Proof.Machine.execHandoverBoundary dt s
  | .ringMirrorRx dt port items => Sys2Proof.Machine.execRingMirrorRx dt port items s
  | .mirrorApply dt => Sys2Proof.Machine.execMirrorApply dt s
  | .mirrorHoldExpire dt => Sys2Proof.Machine.execMirrorHoldExpire dt s
  | .ringNakRx dt first count => Sys2Proof.Machine.execRingNakRx dt first count s
  | .ringMirrorResetRx dt => Sys2Proof.Machine.execRingMirrorResetRx dt s
  | .ringDigestRx dt sl sample crc => Sys2Proof.Machine.execRingDigestRx dt sl sample crc s
  | .ringAlignExchange dt => Sys2Proof.Machine.execRingAlignExchange dt s
  | .ringAlignRx dt src response t1 t2 t3 => Sys2Proof.Machine.execRingAlignRx dt src response t1 t2 t3 s
  | .ringObjxRx dt src p => Sys2Proof.Machine.execRingObjxRx dt src p s
  | .ringResyncRx dt offset recs bytes => Sys2Proof.Machine.execRingResyncRx dt offset recs bytes s
  | .ringPortLock dt port => Sys2Proof.Machine.execRingPortLock dt port s
  | .ringPortUnlock dt port => Sys2Proof.Machine.execRingPortUnlock dt port s
  | .resyncTimeAligned dt activeTime activeInc zeroOffset => Sys2Proof.Machine.execResyncTimeAligned dt activeTime activeInc zeroOffset s
  | .resyncImageDone dt => Sys2Proof.Machine.execResyncImageDone dt s
  | .resyncSnapshot dt => Sys2Proof.Machine.execResyncSnapshot dt s
  | .resyncSnapshotDone dt snap => Sys2Proof.Machine.execResyncSnapshotDone dt snap s
  | .resyncLive dt => Sys2Proof.Machine.execResyncLive dt s
  | .resyncLiveDeadline dt => Sys2Proof.Machine.execResyncLiveDeadline dt s
  | .resyncRetry dt => Sys2Proof.Machine.execResyncRetry dt s
  | .canFrameRx dt c f sofAgo eofAgo => Sys2Proof.Machine.execCanFrameRx dt c f sofAgo eofAgo s
  | .canTxSof dt c => Sys2Proof.Machine.execCanTxSof dt c s
  | .canTxDone dt c => Sys2Proof.Machine.execCanTxDone dt c s
  | .canArbitrationLost dt c => Sys2Proof.Machine.execCanArbitrationLost dt c s
  | .canBusError dt c e dataPhase transmitting dominantAfterFlag => Sys2Proof.Machine.execCanBusError dt c e dataPhase transmitting dominantAfterFlag s
  | .canBusOffRecovery dt c => Sys2Proof.Machine.execCanBusOffRecovery dt c s
  | .canTxExpire dt c q => Sys2Proof.Machine.execCanTxExpire dt c q s
  | .canRateTimeout dt c => Sys2Proof.Machine.execCanRateTimeout dt c s
  | .canPublish dt slot => Sys2Proof.Machine.execCanPublish dt slot s
  | .canQackDoorbell dt c q n => Sys2Proof.Machine.execCanQackDoorbell dt c q n s
  | .ethFrameRx dt port kind len fcsOk body => Sys2Proof.Machine.execEthFrameRx dt port kind len fcsOk body s
  | .ethFrameTx dt port => Sys2Proof.Machine.execEthFrameTx dt port s
  | .ethLinkChange dt port up speed => Sys2Proof.Machine.execEthLinkChange dt port up speed s
  | .ptpPdelayExchange dt port delayNs => Sys2Proof.Machine.execPtpPdelayExchange dt port delayNs s
  | .ptpAnnounceRx dt port source gm prio utcOffset logSync => Sys2Proof.Machine.execPtpAnnounceRx dt port source gm prio utcOffset logSync s
  | .ptpSyncTx dt port => Sys2Proof.Machine.execPtpSyncTx dt port s
  | .ethPublish dt slot => Sys2Proof.Machine.execEthPublish dt slot s
  | .ethPublishRx dt port assembly node slot tq seq data => Sys2Proof.Machine.execEthPublishRx dt port assembly node slot tq seq data s
  | .norPersistWrite dt idx ok => Sys2Proof.Machine.execNorPersistWrite dt idx ok s
  | .logNorCopy dt => Sys2Proof.Machine.execLogNorCopy dt s
  | .bistWindowStart dt => Sys2Proof.Machine.execBistWindowStart dt s
  | .bistSliceStart dt => Sys2Proof.Machine.execBistSliceStart dt s
  | .bistCopyInDone dt => Sys2Proof.Machine.execBistCopyInDone dt s
  | .bistMarchDone dt fails => Sys2Proof.Machine.execBistMarchDone dt fails s
  | .bistSliceEnd dt => Sys2Proof.Machine.execBistSliceEnd dt s
  | .bistPreempt dt fails => Sys2Proof.Machine.execBistPreempt dt fails s
  | .bistBudgetExpire dt fails => Sys2Proof.Machine.execBistBudgetExpire dt fails s
  | .refereeBistSlice dt ok => Sys2Proof.Machine.execRefereeBistSlice dt ok s
  | .sdPatternCheck dt ch ok => Sys2Proof.Machine.execSdPatternCheck dt ch ok s
  | .glLoopbackCheck dt l ok => Sys2Proof.Machine.execGlLoopbackCheck dt l ok s
  | .ringLoopbackCheck dt port ok => Sys2Proof.Machine.execRingLoopbackCheck dt port ok s
  | .canLoopbackCheck dt c ok => Sys2Proof.Machine.execCanLoopbackCheck dt c ok s
  | .traceCapture dt => Sys2Proof.Machine.execTraceCapture dt s
  | .mclkInReturn dt => Sys2Proof.Machine.execMclkInReturn dt s
  | .pcieLinkChange dt up => Sys2Proof.Machine.execPcieLinkChange dt up s

end Sys2Proof.Machine
end

