-- ==== Sys2Proof/Safety.lean ====
section
/-!
DEFINITION. What claims call a safe state and a safe run: the registers of the time counter hold what their widths and R64
allow, and a run never stops; and, for a command packet, the state its opcode begins in and the state its completion leaves.
-/

namespace Sys2Proof

open Sys2Proof.Machine

/-- INCREMENT lies in the wide band of R64. -/
def Safety.incOk (s : State) : Prop := bandLo false ≤ s.time.inc ∧ s.time.inc ≤ bandHi false

/-- The time counter holds a STAMP64 and a 32-bit fraction (R61, R63). -/
def Safety.timeOk (s : State) : Prop := s.time.ctr < 2 ^ 64 ∧ s.time.frac < 2 ^ 32 ∧ Safety.incOk s

/-- A command packet that the CP takes now and that passes every check of Table 5.2, on a device that executes it for itself:
the state in which the opcode's own effect begins, with the command as accepted. `none` where the CP has no such entry to
take, where a check fails, where a stored reply or a repeat answers it, or where the Flask mirrors it. -/
def Safety.admitted (u : State) (p : Pkt) : Option (State × Deferred) :=
  if u.cpTakes then
    match u.takeEntry p with
    | some (v, e) =>
      if checkHead p = none ∧ v.sessionOk p = true then
        let w := v.noteAccepted p
        let x := w.remember p
        if ((w.sessOf p).bind fun x => x.replyOf p.seq.toNat) = none ∧
            (w.host.deferred.find? fun d =>
              d.live && (w.sessOf p).isSome && d.pkt.session = p.session && d.pkt.seq = p.seq && d.pkt.crc = p.crc) = none ∧
            x.checkOp p = none ∧ (x.inFlask && !localOp p.opcode.toNat) = false then
          some (x.setCur (some (p, w.now, e)), { pkt := p, accepted := w.now, entry := e })
        else none
      else none
    | none => none
  else none

/-- What stands after a command that began in `w`: its opcode has led to `v`, the command completes now with a status and
the bytes that follow the two stamps in its reply, and the time of `u` and the queue of `s` stand. -/
def Safety.done (s u v : State) (d : Deferred) (status : Nat) (extra : List Byte) : State :=
  { v.complete (v.withRepeats d) status extra with time := u.time, pending := s.pending }

/-- The same where the opcode may have clamped INCREMENT (R64): the counter's registers hold what `v` left in them. -/
def Safety.doneT (s v : State) (d : Deferred) (status : Nat) (extra : List Byte) : State :=
  { v.complete (v.withRepeats d) status extra with time := (v.complete (v.withRepeats d) status extra).time.held, pending := s.pending }

/-- Every condition that a DRV_ENABLE, admitted in `w`, has to meet (R237, R261 to R265, R267, R309). -/
def Safety.enables (w : State) (q : Pkt) : Prop :=
  let k := q.target.toNat
  q.payload.length = 8 ∧ zeros q.payload 0 8 = true ∧ (w.sl k).st = .disabled ∧ w.fenced k = false ∧ w.testRuns = false ∧
  w.enableLocked k = false ∧ w.slotsThere k = true ∧ w.slotsClocked k = true ∧ w.monitorsFit k = true ∧ w.lostCovered k = true ∧
  w.sourceOwn k = true ∧ w.linksFit k = true ∧ w.unlockedSlot k (w.slo k Obj.SLC_PWM_PERIOD) = none ∧
  w.periodOk k (w.slo k Obj.SLC_PWM_PERIOD) = true ∧ w.pulsesFit k = true ∧ w.tablesOk k = true

/-- The tick at which an enable takes effect. Where INCREMENT stands outside the narrow band, the tick adds the clamped value
(R64, R67). -/
def Safety.enableAt (s : State) (dt : Nat) : State :=
  let e := s.elapse dt
  if e.time.narrow = e.time.inc then e else { e with time := e.time.narrowed (decide (0 < dt)) }

/-- What stands after a command whose completion comes later. -/
def Safety.later (s u v : State) : State := { v with time := u.time, pending := s.pending }

/-- The packet that a command row gives the CP: the packet it arrived as, with the row's opcode and its selector
(Tables 5.18 and 4.7). `none`: the row is no command packet that the CP executes. -/
def Safety.packetOf : Instr → Option (Nat × Pkt)
  | .timSetIncrement dt p => some (dt, p.asRow 0x4000)
  | .timStep dt p => some (dt, p.asRow 0x4001)
  | .timServoMode dt p => some (dt, p.asRow 0x4002)
  | .timRallyWrite dt p => some (dt, p.asRow 0x4010)
  | .timTioConfig dt p => some (dt, p.asRow 0x4020)
  | .ethTxtsPop dt port p => some (dt, (p.asRow 0x1000).withIdx (Obj.ETH0_TXTS_POP + 0x10 * port.val))
  | .sysNop dt p => some (dt, p.asNop)
  | .sysOpenSession dt p => some (dt, p.asRow 0x0001)
  | .sysCloseSession dt p => some (dt, p.asRow 0x0002)
  | .sysGetInfo dt p => some (dt, p.asRow 0x0003)
  | .sysReset dt p => some (dt, (p.asRow 0x0010).withSel 0 0)
  | .sysResetActivate dt p => some (dt, (p.asRow 0x0010).withSel 0 1)
  | .sysFuncReinitUnit dt p => some (dt, (p.asRow 0x0011).withSel 0 0)
  | .sysFuncReinitPair dt p => some (dt, (p.asRow 0x0011).withSel 0 1)
  | .sysFuncReinitContext dt p => some (dt, (p.asRow 0x0011).withSel 0 2)
  | .sysFuncReinitAux dt p => some (dt, (p.asRow 0x0011).withSel 0 3)
  | .sysFuncReinitEncoder dt p => some (dt, (p.asRow 0x0011).withSel 0 4)
  | .sysPwrcycleReq dt p => some (dt, p.asRow 0x0012)
  | .objRead dt p => some (dt, p.asRow 0x1000)
  | .objReadBlock dt p => some (dt, p.asRow 0x1002)
  | .objSubscribe dt p => some (dt, p.asRow 0x1010)
  | .objSubscribeCancel dt p => some (dt, (p.asRow 0x1010).withSel 4 0)
  | .objWrite dt p => some (dt, p.asRow 0x1001)
  | .objWriteBlock dt p => some (dt, p.asRow 0x1003)
  | .auxHostTrig dt p => some (dt, (p.asRow 0x1001).withIdx Obj.AUX_HOST_TRIG)
  | .encSsiTrig dt p => some (dt, (p.asRow 0x1001).withIdx Obj.ENC_SSI_TRIG)
  | .mgtLifecycleReq dt p => some (dt, (p.asRow 0x1001).withIdx Obj.MGT_LIFECYCLE_REQ)
  | .mgtFeatureGate dt p => some (dt, (p.asRow 0x1001).withIdx Obj.MGT_FEATURE_GATE)
  | .encCfgWrite dt n p => some (dt, (p.asRow 0x1001).withIdx (Obj.ENC_CFG + n.val))
  | .drvEnable dt p => some (dt, p.asRow 0x2000)
  | .drvDisable dt p => some (dt, p.asRow 0x2001)
  | .drvSetSpeed dt p => some (dt, p.asRow 0x2010)
  | .drvSetTorque dt p => some (dt, p.asRow 0x2011)
  | .drvStopRamp dt p => some (dt, (p.asRow 0x2020).withSel 0 0)
  | .drvStopCoast dt p => some (dt, (p.asRow 0x2020).withSel 0 1)
  | .drvStopShort dt p => some (dt, (p.asRow 0x2020).withSel 0 2)
  | .drvStart dt p => some (dt, p.asRow 0x2021)
  | .drvDischargeWinding dt p => some (dt, (p.asRow 0x2030).withSel 0 0)
  | .drvDischargeSwitch dt p => some (dt, (p.asRow 0x2030).withSel 0 1)
  | .engDefineContext dt p => some (dt, p.asRow 0x3000)
  | .engDeleteContext dt p => some (dt, (p.asRow 0x3000).withSel 1 1)
  | .engWriteCoef dt p => some (dt, p.asRow 0x3001)
  | .engFreeze dt p => some (dt, p.asRow 0x3002)
  | .engRelease dt p => some (dt, p.asRow 0x3003)
  | .engSeedState dt p => some (dt, p.asRow 0x3004)
  | .engLink dt p => some (dt, p.asRow 0x3010)
  | .engGroup dt p => some (dt, p.asRow 0x3011)
  | .engCommit dt p => some (dt, (p.asRow 0x3020).withSel 0 0)
  | .engCommitDiscard dt p => some (dt, (p.asRow 0x3020).withSel 0 1)
  | .netCanConfig dt p => some (dt, p.asRow 0x5000)
  | .netCanConfigRead dt p => some (dt, { p.asRow 0x5000 with payload := [] })
  | .netCanFilter dt p => some (dt, (p.asRow 0x5001).withSel 6 0)
  | .netCanFilterRead dt p => some (dt, (p.asRow 0x5001).withSel 6 1)
  | .netCanTx dt p => some (dt, p.asRow 0x5002)
  | .netCanCancel dt p => some (dt, p.asRow 0x5003)
  | .netCanAck dt p => some (dt, p.asRow 0x5004)
  | .netEthConfig dt p => some (dt, p.asRow 0x5010)
  | .netEthConfigRead dt p => some (dt, { p.asRow 0x5010 with payload := [] })
  | .safLogin dt p => some (dt, (p.asRow 0x6000).withSel 0 0)
  | .safSetPassword dt p => some (dt, (p.asRow 0x6000).withSel 0 1)
  | .safCommit dt p => some (dt, p.asRow 0x6001)
  | .safLogRead dt p => some (dt, p.asRow 0x6002)
  | .mgtIngotBegin dt p => some (dt, (p.asRow 0x7000).withSel 0 0)
  | .mgtIngotBeginConfig dt p => some (dt, (p.asRow 0x7000).withSel 0 1)
  | .mgtIngotData dt p => some (dt, p.asRow 0x7001)
  | .mgtIngotEnd dt p => some (dt, p.asRow 0x7002)
  | .mgtActivate dt p => some (dt, p.asRow 0x7003)
  | .mgtBind dt p _ => some (dt, (p.asRow 0x7011).withSel 0 0)
  | .mgtInstallAnchor dt p => some (dt, (p.asRow 0x7011).withSel 0 1)
  | .mgtRemoveBinding dt p => some (dt, (p.asRow 0x7011).withSel 0 2)
  | .mgtAttest dt p => some (dt, p.asRow 0x7010)
  | .mgtLogRead dt p => some (dt, p.asRow 0x7020)
  | .diaBistRun dt p => some (dt, p.asRow 0x8000)
  | .diaBistResult dt p => some (dt, p.asRow 0x8001)
  | .diaRemapRow dt p => some (dt, p.asRow 0x8002)
  | .diaTraceStop dt p => some (dt, (p.asRow 0x8010).withSel 0 0)
  | .diaTraceStartRing dt p => some (dt, (p.asRow 0x8010).withSel 0 1)
  | .diaTraceStartOnce dt p => some (dt, (p.asRow 0x8010).withSel 0 2)
  | .flkConfig dt p => some (dt, p.asRow 0x9000)
  | .flkResync dt p => some (dt, p.asRow 0x9002)
  | .flkHandover dt p => some (dt, p.asRow 0x9001)
  | _ => none

/-- A step neither faults nor refuses. -/
def Safety.goesOn (s : State) : Prop := ∃ t, step s = .next t

end Sys2Proof
end

