-- ==== Sys2Proof/Certificates/Slice0/Obligations.lean ====
section
/-!
DEFINITION. The statements for the provers. In each, `u` is the state once the command's `dt` ticks have passed; for a command
packet, `q` is the packet as its row gives it to the CP, `w` the state in which its opcode's effect begins and `d` the command
as accepted (`Safety.admitted`), and `v` the state that the opcode leaves.
-/

open Sys2Proof Sys2Proof.Machine

/-- A step takes the command at the front of the queue and runs `exec` on it, with the queue's rest in the state. -/
def Obligations.StepRunsTheFrontCommand : Prop :=
  ∀ (s : State) (c : Instr) (rest : List Instr), s.pending = c :: rest → step s = exec c { s with pending := rest }

/-- With an empty queue a step is one tick (the model's choice, log entry 4): a running counter and its fraction take INCREMENT as one 96-bit sum, a counter that does not run stands, and the Management Unit counts its own time on. Of the rest of the state only the tick count changes. -/
def Obligations.EmptyQueueStepIsOneTick : Prop :=
  ∀ s : State, s.pending = [] →
    ∃ t, step s = .next t ∧ t = { s with tick := s.tick + 1, time := t.time } ∧ t.time.inc = s.time.inc ∧
      t.time.running = s.time.running ∧
      (s.time.running = false → t.time.ctr = s.time.ctr ∧ t.time.frac = s.time.frac ∧ t.time.mu = s.time.mu + 10) ∧
      (s.time.running = true →
        t.time.ctr = (s.time.ctr * 2 ^ 32 + s.time.frac + s.time.inc) / 2 ^ 32 % 2 ^ 64 ∧
        t.time.frac = (s.time.ctr * 2 ^ 32 + s.time.frac + s.time.inc) % 2 ^ 32)

/-- The state after reset: no supply in range, by-pass closed, INCREMENT 10.0, every object at its default, slices disabled, no session, queue, context or role, the Referee stopped with its outputs released and SAFE_OUT_N low, an empty log; and the invariants hold in it. The values that no rule gives are the model's (log entries 7 and 8). -/
def Obligations.ResetState : Prop :=
  State.reset.time.inc = 10 * 2 ^ 32 ∧ State.reset.time.running = false ∧ State.reset.mu.phase = .unpowered ∧
    State.reset.mu.bypass = true ∧ State.reset.mu.refOk = false ∧ (∀ i, State.reset.obj i = objDefault i) ∧ (∀ k, (State.reset.sl k).st = .disabled) ∧
    (∀ n, State.reset.sess n = none) ∧ (∀ n, (State.reset.pair n).en = false) ∧ (∀ c, (State.reset.ctx c).hdr = 0) ∧
    (∀ c, (State.reset.canU c).mode = 0) ∧ (∀ p, (State.reset.ethU p).on = false) ∧ State.reset.flk.role = .none ∧
    State.reset.flk.step = .none ∧ State.reset.ref.runs = false ∧ State.reset.ref.holdLo = false ∧
    State.reset.ref.holdHi = false ∧ State.reset.ref.safeOut = false ∧ State.reset.tl.status = .unsynced ∧
    State.reset.log.ring = [] ∧ State.reset.dia.trace = [] ∧ State.reset.pending = [] ∧
    Safety.timeOk State.reset ∧ Memory.wf State.reset.cp.mem = true ∧ Memory.wf State.reset.cp.ckptMem = true

/-- An invariant of every step, from every state that has it: STAMP64 is below 2^64, the fraction below 2^32, and INCREMENT lies in the wide band of R64 (9.00 to 11.00), so the counter never stands still while it runs. -/
def Obligations.StepKeepsTheCounterInItsRegisters : Prop :=
  ∀ s t : State, Safety.timeOk s → step s = .next t → Safety.timeOk t

/-- An invariant of every step, from every state that has it: the words of CP memory that the debug port has written, and those of the last checkpoint, are listed with addresses strictly rising. Beside it, a word that DEBUG_WRITE writes reads back and every other word stands, where the CP is halted by the debug port and both copies agree (R320). -/
def Obligations.StepKeepsTheMemoryForm : Prop :=
  (∀ s t : State, Memory.wf s.cp.mem = true → Memory.wf s.cp.ckptMem = true → step s = .next t →
    Memory.wf t.cp.mem = true ∧ Memory.wf t.cp.ckptMem = true) ∧
  (∀ (s u : State) (dt addr : Nat) (v : Word), u = s.elapse dt → u.debugOk = true → u.cp.halted = true →
    ∃ t, exec (.debugWrite dt addr v true) s = .next t ∧ bget 0#32 t.cp.mem addr = v ∧
      ∀ a, a ≠ addr → bget 0#32 t.cp.mem a = bget 0#32 s.cp.mem a)

/-- From every state a step answers a next state, which holds the queue without its front command and a real-time tick count that has not gone back. -/
def Obligations.EveryStepGoesOn : Prop :=
  ∀ s : State, Safety.goesOn s ∧ ∀ t, step s = .next t → t.pending = s.pending.tail ∧ s.tick ≤ t.tick

/-- For every command packet row, whatever its opcode: with no entry for the CP to take nothing happens; a packet that fails steps 1 to 4, or whose session is not open, is answered with that status and not stored; one that fails steps 7 to 9 completes with that status. In each case the opcode's own effect does not run. -/
def Obligations.PacketsThatFailTheirChecksExecuteNothing : Prop :=
  (∀ (s u : State) (c : Instr) (dt : Nat) (q : Pkt), Safety.packetOf c = some (dt, q) → u = s.elapse dt →
    u.cpTakes = false ∨ u.takeEntry q = none →
    ∃ t, exec c s = .next t ∧ t = { u with time := t.time } ∧ (t.time = u.time ∨ t.time = u.time.held)) ∧
  (∀ (s u v : State) (c : Instr) (dt : Nat) (q : Pkt) (e : Nat) (st : Nat), Safety.packetOf c = some (dt, q) → u = s.elapse dt →
    u.cpTakes = true → u.takeEntry q = some (v, e) → checkHead q = some st →
    ∃ t, exec c s = .next t ∧ t = { v.answer q e st with time := t.time, pending := s.pending } ∧ (t.time = u.time ∨ t.time = u.time.held)) ∧
  (∀ (s u v : State) (c : Instr) (dt : Nat) (q : Pkt) (e : Nat), Safety.packetOf c = some (dt, q) → u = s.elapse dt →
    u.cpTakes = true → u.takeEntry q = some (v, e) → checkHead q = none → v.sessionOk q = false →
    ∃ t, exec c s = .next t ∧ t = { v.answer q e stNoSession with time := t.time, pending := s.pending } ∧ (t.time = u.time ∨ t.time = u.time.held)) ∧
  (∀ (s u v w x : State) (c : Instr) (dt : Nat) (q : Pkt) (e st : Nat), Safety.packetOf c = some (dt, q) → u = s.elapse dt →
    u.cpTakes = true → u.takeEntry q = some (v, e) → checkHead q = none → v.sessionOk q = true → w = v.noteAccepted q →
    ((w.sessOf q).bind fun x => x.replyOf q.seq.toNat) = none →
    (w.host.deferred.find? fun d =>
      d.live && (w.sessOf q).isSome && d.pkt.session = q.session && d.pkt.seq = q.seq && d.pkt.crc = q.crc) = none →
    x = w.remember q → x.checkOp q = some st →
    ∃ t, exec c s = .next t ∧ t = { x.complete { pkt := q, accepted := w.now, entry := e } st [] with time := t.time, pending := s.pending } ∧ (t.time = u.time ∨ t.time = u.time.held))

/-- Supplies, reset and by-pass: each event, in the states where it has an effect, answers a next state with that effect
(R20 to R23, R31, R32, R37, R42, R47, R49, R50). -/
def Obligations.SupplyAndResetEventsComplete : Prop :=
  (∀ (s u : State) (dt : Nat), u = s.elapse dt →
      u.mu.vstby = false →
      ∃ t, exec (.vstbyInRange dt) s = .next t ∧
        t.mu.vstby = true ∧
        t.mu.vstbyAt = u.muNow ∧
        t.mu.booted = false ∧
        t.mu.cold = true ∧
        t.mu.cause = some .coldStart) ∧
  (∀ (s u : State) (dt : Nat), u = s.elapse dt →
      u.mu.vstby = true →
      u.mu.booted = false →
      ∃ t, exec (.standbyBootDone dt) s = .next t ∧
        t.mu.booted = true ∧
        t.mu.phase = .held ∧
        t.mu.bootKept = false ∧
        t.log.ring = u.log.nor.take 8192 ∧
        t.log.norDone = t.log.next ∧
        (t.mu.pwrcyc = (if u.mu.norPwr then some u.muNow else none))) ∧
  (∀ (s u : State) (dt : Nat), u = s.elapse dt →
      u.mu.vstby = true →
      ∃ t, exec (.vstbyTrip dt) s = .next t ∧
        t.mu.vstby = false ∧
        t.mu.phase = .unpowered ∧
        t.log.ring = [] ∧
        t.log.nor = u.log.nor ∧
        t.slices = [] ∧
        t.eng = {} ∧
        t.host.sessions = [] ∧
        t.time.running = false ∧
        t.mu.cfgA = u.mu.cfgA ∧
        t.mu.cfgB = u.mu.cfgB ∧
        t.mu.lcWords = u.lcAbort.mu.lcWords ∧
        t.mu.otpRollback = u.mu.otpRollback ∧
        t.dict.nor = u.dict.nor ∧
        t.dict.safe = u.dict.safe) ∧
  (∀ (s u : State) (dt : Nat) (rail : Fin 5), u = s.elapse dt →
      ∃ t, exec (.mainRailInRange dt rail) s = .next t ∧
        t.mu.rails = u.mu.rails.set rail.val { inRange := true, below := none } ∧
        t.mu.railsAt = u.muNow) ∧
  (∀ (s u : State) (dt : Nat) (rail : Fin 5) (high : Bool), u = s.elapse dt →
      u.mu.phase.up = true →
      ∃ t, exec (.supplyFault dt rail high) s = .next t ∧
        t.mu.supplyFault = true ∧
        (t.mu.rails = u.mu.rails.set rail.val { inRange := false, below := if high then (u.mu.rails[rail.val]?.getD {}).below else some u.muNow }) ∧
        t.mu.cause = higherCause u.mu.cause .supplyFault ∧
        t.mu.bypass = true ∧
        t.slices = [] ∧
        t.host.sessions = [] ∧
        t.time.running = false ∧
        t.mu.phase = .held) ∧
  (∀ (s u : State) (dt : Nat), u = s.elapse dt →
      u.mu.supplyFault = true →
      u.railsOk = true →
      u.mu.resetN = true →
      u.mu.railsAt + msUnits ≤ u.muNow →
      ∃ t, exec (.supplyRestart dt) s = .next t ∧
        t.mu.supplyFault = false) ∧
  (∀ (s u : State) (dt : Nat), u = s.elapse dt →
      u.mu.phase.up = true →
      u.mu.phase ≠ .clockHold →
      ∃ t, exec (.resetNLow dt) s = .next t ∧
        t.mu.resetN = false ∧
        t.mu.cause = higherCause u.mu.cause .resetN ∧
        t.slices = [] ∧
        t.time.running = false ∧
        t.mu.phase = .held) ∧
  (∀ (s u : State) (dt : Nat), u = s.elapse dt →
      ∃ t, exec (.resetNRelease dt) s = .next t ∧
        t.mu.resetN = true) ∧
  (∀ (s u : State) (dt : Nat) (at_ : Nat) (act : Bool), u = s.elapse dt →
      u.mu.resetDue = some (at_, act) →
      at_ ≤ u.muNow →
      u.mu.phase ≠ .unpowered →
      u.resetLocked = false →
      ∃ t, exec (.deviceReset dt .sysReset) s = .next t ∧
        t.mu.resetDue = none ∧
        t.mu.cause = higherCause u.mu.cause .sysReset ∧
        (t.mu.active = (if act then 1 - u.mu.active else u.mu.active)) ∧
        t.mu.pwrStop = false ∧
        t.slices = [] ∧
        t.host.sessions = [] ∧
        t.mu.phase = .held) ∧
  (∀ (s u : State) (dt : Nat), u = s.elapse dt →
      u.cp.escalate = true →
      ∃ t, exec (.deviceReset dt .cpEscalation) s = .next t ∧
        t.mu.cause = higherCause u.mu.cause .cpEscalation ∧
        t.mu.phase = .held ∧
        t.cp = {} ∧
        t.slices = []) ∧
  (∀ (s u : State) (dt : Nat), u = s.elapse dt →
      u.mu.booted = true →
      u.mu.phase ≠ .clockHold →
      ∃ t, exec (.deviceReset dt .muDecision) s = .next t ∧
        t.mu.cause = higherCause u.mu.cause .muDecision ∧
        t.mu.phase = .held ∧
        t.slices = []) ∧
  (∀ (s u : State) (dt : Nat), u = s.elapse dt →
      u.mu.phase = .ready →
      u.mu.bypass = true →
      u.ring.lockA = true →
      u.ring.lockB = true →
      u.fenced 48 = false →
      u.mu.restarting = false →
      u.mu.readyAt + 50 * usUnits ≤ u.muNow →
      ∃ t, exec (.bypassOpen dt) s = .next t ∧
        t.mu.bypass = false ∧
        t.flk.joinDeadline = some (u.clk + bits (u.obj Obj.FLK_CFG) 79 64 * msUnits)) ∧
  (∀ (s u : State) (dt : Nat) (edges : Nat), u = s.elapse dt →
      u.mu.booted = true →
      u.railsOk = true →
      u.mu.extClock = none →
      ∃ t, exec (.xtalDetect dt edges) s = .next t ∧
        (t.mu.extClock = some (decide (2475 ≤ edges ∧ edges ≤ 2525))))

/-- The clock monitor and the power-cycle request: windows, edge timeouts, CLOCK_HOLD, its end, and PWRCYC_REQ_N (R13,
R38 to R40, R172, R430). -/
def Obligations.ClockAndPowerCycleEventsComplete : Prop :=
  (∀ (s u : State) (dt : Nat) (clk : Fin 4) (edges : Nat), u = s.elapse dt →
      u.mu.booted = true →
      (20 * (if edges ≤ u.clkNominal clk.val then u.clkNominal clk.val - edges else edges - u.clkNominal clk.val) ≤ u.clkNominal clk.val) →
      ∃ t, exec (.clockMonitorWindow dt clk edges) s = .next t ∧
        t.mu.clkFreq = u.mu.clkFreq.set clk.val (f32OfRatio edges 10) ∧
        t.mu.clkBad = u.mu.clkBad.set clk.val false ∧
        t.mu.phase = u.mu.phase) ∧
  (∀ (s u : State) (dt : Nat) (clk : Fin 4) (edges : Nat), u = s.elapse dt →
      u.mu.booted = true →
      u.mu.phase = .ready →
      (u.clkNominal clk.val < 20 * (if edges ≤ u.clkNominal clk.val then u.clkNominal clk.val - edges else edges - u.clkNominal clk.val)) →
      ∃ t, exec (.clockMonitorWindow dt clk edges) s = .next t ∧
        t.mu.clkFreq = u.mu.clkFreq.set clk.val (f32OfRatio edges 10) ∧
        t.mu.clkBad = u.mu.clkBad.set clk.val true ∧
        t.mu.phase = .clockHold ∧
        t.mu.cause = higherCause u.mu.cause .clockFault ∧
        t.mu.clkHoldAt = u.muNow ∧
        t.slices = [] ∧
        t.time.running = false) ∧
  (∀ (s u : State) (dt : Nat) (clk : Fin 4), u = s.elapse dt →
      u.mu.booted = true →
      u.mu.phase = .ready →
      ∃ t, exec (.clockEdgeTimeout dt clk) s = .next t ∧
        t.mu.clkBad = u.mu.clkBad.set clk.val true ∧
        t.mu.phase = .clockHold ∧
        t.mu.cause = higherCause u.mu.cause .clockFault ∧
        t.mu.clkHoldAt = u.muNow ∧
        t.slices = [] ∧
        t.time.running = false) ∧
  (∀ (s u : State) (dt : Nat), u = s.elapse dt →
      u.mu.phase = .clockHold →
      (u.mu.clkBad.all (fun b => !b) = true) →
      u.mu.clkGoodAt = none →
      ∃ t, exec (.clockStable dt) s = .next t ∧
        t.mu.clkGoodAt = some (u.muNow - 10 * msUnits) ∧
        t.mu.phase = .clockHold) ∧
  (∀ (s u : State) (dt : Nat), u = s.elapse dt →
      u.mu.phase = .clockHold →
      u.mu.clkHoldAt + 100 * msUnits ≤ u.muNow →
      u.mu.pwrcycDue = none →
      u.mu.pwrcyc = none →
      ((u.mu.pwrDecisions.filter fun d => u.muNow ≤ d + 3600 * sUnits).length < 3) →
      ∃ t, exec (.clockHoldTimeout dt) s = .next t ∧
        t.mu.pwrcycDue = some u.muNow ∧
        u.muNow ∈ t.mu.pwrDecisions) ∧
  (∀ (s u : State) (dt : Nat) (n : Nat), u = s.elapse dt →
      u.mu.phase = .starting n →
      u.mu.reached = false →
      u.mu.failSeen = false →
      u.mu.t0At + 2 * sUnits ≤ u.muNow →
      u.readyComes = false →
      ∃ t, exec (.startFailTimeout dt) s = .next t ∧
        (u.mu.failedStarts = 0 → t.mu.failSeen = true ∧ t.mu.failedStarts = 1) ∧
        (1 ≤ u.mu.failedStarts → (u.mu.pwrDecisions.filter fun d => u.muNow ≤ d + 3600 * sUnits).length < 3 → t.mu.failedStarts = 0 ∧ t.mu.pwrcycDue = some u.muNow)) ∧
  (∀ (s u : State) (dt : Nat) (at_ : Nat), u = s.elapse dt →
      u.mu.pwrcycDue = some at_ →
      at_ ≤ u.muNow →
      u.mu.pwrcyc = none →
      (u.mu.pwrcycHost = false ∨ u.resetLocked = false) →
      ∃ t, exec (.pwrcycAssert dt) s = .next t ∧
        t.mu.pwrcyc = some u.muNow ∧
        t.mu.cause = none ∧
        t.mu.norPwr = true ∧
        t.mu.pwrcycDue = none ∧
        t.mu.phase = .held ∧
        t.mu.bypass = true ∧
        t.slices = [] ∧
        t.time.running = false) ∧
  (∀ (s u : State) (dt : Nat), u = s.elapse dt →
      u.mu.pwrcyc.isSome = true →
      (u.mu.rails.all (fun r => match r.below with | some b => decide (u.muNow ≥ b + 10 * msUnits) | none => false) = true) →
      ∃ t, exec (.pwrcycRelease dt) s = .next t ∧
        t.mu.pwrcyc = none ∧
        t.mu.cause = higherCause u.mu.cause .powerCycle ∧
        t.mu.supplyFault = false) ∧
  (∀ (s u : State) (dt : Nat) (from_ : Nat), u = s.elapse dt →
      u.mu.pwrcyc = some from_ →
      from_ + sUnits ≤ u.muNow →
      (u.mu.rails.all (fun r => r.below.isSome) = false) →
      ∃ t, exec (.pwrcycNoResponse dt) s = .next t ∧
        t.mu.pwrcyc = none ∧
        t.mu.phase = .held ∧
        t.mu.cause = higherCause u.mu.cause .muDecision)

/-- The start from t0 to READY: each event that ends the running step of Table 3.1 leads to the next step, and to RECOVERY where
the spec says so (R42 to R46, R51, R52, R400, R402, R407). -/
def Obligations.StartReachesReadyStepByStep : Prop :=
  (∀ (s u : State) (dt : Nat) (c : ResetCause), u = s.elapse dt →
      u.mu.phase = .held →
      u.mu.booted = true →
      u.mu.vstby = true →
      u.railsOk = true →
      u.mu.resetN = true →
      u.mu.refOk = true →
      u.mu.supplyFault = false →
      u.mu.pwrcyc = none →
      u.mu.cause = some c →
      c ≠ .cpEscalation →
      u.mu.pwrStop = false →
      u.hk.holdKept = false →
      ∃ t, exec (.deviceStart dt) s = .next t ∧
        t.mu.phase = .starting 1 ∧
        t.mu.t0 = u.tick ∧
        t.mu.t0At = u.muNow ∧
        t.mu.startCause = some c ∧
        t.mu.cause = none ∧
        t.mu.cold = false ∧
        t.time.running = true ∧
        t.time.inc = 0xA00000000 ∧
        t.time.frac = 0 ∧
        (u.mu.cold = false → t.time.ctr = (u.tl.lastLatch + (u.muNow - u.tl.latchAt) + 2 ^ 32) % 2 ^ 64) ∧
        (u.mu.bootKept = true → t.mu.boot = min 0xFFFFFFFF (u.mu.boot + 1)) ∧
        t.mu.bootKept = true) ∧
  (∀ (s u : State) (dt : Nat) (otpOk : Bool) (norKiB : Nat), u = s.elapse dt →
      u.mu.phase = .starting 1 →
      ∃ t, exec (.romStartDone dt otpOk norKiB) s = .next t ∧
        (norKiB < 155648 → t.mu.phase = .recovery) ∧
        (155648 ≤ norKiB → otpOk = true → u.mu.lc ≠ 4 → t.mu.phase = .starting 2) ∧
        (155648 ≤ norKiB → (otpOk = false ∨ u.mu.lc = 4) → t.mu.phase = .recovery)) ∧
  (∀ (s u : State) (dt : Nat) (bankA bankB : BankRead), u = s.elapse dt →
      u.mu.phase = .starting 2 →
      (u.bankCheck u.mu.active (if u.mu.active = 0 then bankA else bankB) = 0) →
      ∃ t, exec (.bootIngotVerified dt bankA bankB) s = .next t ∧
        t.mu.phase = .starting 3 ∧
        t.mu.active = u.mu.active ∧
        (t.mu.banks.getD u.mu.active {}).gens = t.mu.ownGens) ∧
  (∀ (s u : State) (dt : Nat) (bankA bankB : BankRead), u = s.elapse dt →
      u.mu.phase = .starting 2 →
      u.mu.active < 2 →
      (u.bankCheck u.mu.active (if u.mu.active = 0 then bankA else bankB) ≠ 0) →
      (u.bankCheck (1 - u.mu.active) (if 1 - u.mu.active = 0 then bankA else bankB) = 0) →
      ∃ t, exec (.bootIngotVerified dt bankA bankB) s = .next t ∧
        t.mu.phase = .starting 3 ∧
        t.mu.active = 1 - u.mu.active) ∧
  (∀ (s u : State) (dt : Nat) (r : BistResult), u = s.elapse dt →
      u.mu.phase = .starting 3 →
      ∃ t, exec (.startupBistDone dt r) s = .next t ∧
        (r.cpFail = true → t.mu.phase = .recovery) ∧
        (r.cpFail = false → t.mu.phase = .starting 4)) ∧
  (∀ (s u : State) (dt : Nat) (a b : Option CfgImage) (bind : Option Binding), u = s.elapse dt →
      u.mu.phase = .starting 4 →
      ∃ t, exec (.configLoaded dt a b bind) s = .next t ∧
        t.mu.phase = .starting 5 ∧
        t.mu.cfgApplied = true) ∧
  (∀ (s u : State) (dt : Nat), u = s.elapse dt →
      u.mu.phase = .starting 5 →
      u.cp.restarting = false →
      ∃ t, exec (.ready dt) s = .next t ∧
        t.mu.phase = .ready ∧
        t.mu.reached = true ∧
        t.mu.readyAt = u.muNow ∧
        t.mu.failedStarts = 0)

/-- The timeline opcodes: each packet that passes its checks is answered as the chapter says, an increment, a step and a rally
write with their own reply bytes, the first two when they apply (R64, R68, R70, R75, R76, R85, R90). -/
def Obligations.TimelineCommandsComplete : Prop :=
  (∀ (s u w : State) (dt : Nat) (p q : Pkt) (d : Deferred), u = s.elapse dt →
      q = p.asRow 0x4000 →
      Safety.admitted u q = some (w, d) →
      q.payload.length = 16 →
      w.servoSel = 1 ∨ w.servoSel = 2 ∧ byteAt q.payload 5 = 0 →
      byteAt q.payload 5 / 64 ≠ 3 →
      zeros q.payload 6 2 = true →
      bandLo w.anyEnabled ≤ le q.payload 0 5 →
      le q.payload 0 5 ≤ bandHi w.anyEnabled →
      w.tooLate (le q.payload 8 8) = false →
      ∃ v, exec (.timSetIncrement dt p) s = .next (Safety.later s u v) ∧
        (v.tl.pendInc = w.tl.pendInc ++ [{ value := le q.payload 0 5, claim := byteAt q.payload 5, apply := if le q.payload 8 8 = 0 then w.now + 1 else le q.payload 8 8, cmd := some d }]) ∧
        v.host.deferred = w.host.deferred ++ [d] ∧
        (w.servoSel = 1 → v.tl.hostDeadline = some (max (w.tl.hostDeadline.getD 0) (w.clk - (w.now - d.accepted) + w.obj Obj.TIM_HOST_WATCHDOG * msUnits)))) ∧
  (∀ (s u w : State) (dt : Nat) (p q : Pkt) (d : Deferred), u = s.elapse dt →
      q = p.asRow 0x4001 →
      Safety.admitted u q = some (w, d) →
      q.payload.length = 16 →
      w.anyEnabled = false →
      w.hostSteers = true →
      0 < le q.payload 0 8 →
      le q.payload 0 8 < 2 ^ 63 →
      w.tooLate (le q.payload 8 8) = false →
      ∃ v, exec (.timStep dt p) s = .next (Safety.later s u v) ∧
        (v.tl.pendStep = w.tl.pendStep ++ [{ amount := le q.payload 0 8, apply := if le q.payload 8 8 = 0 then w.now + 1 else le q.payload 8 8, cmd := some d }]) ∧
        v.host.deferred = w.host.deferred ++ [d]) ∧
  (∀ (s u w : State) (dt : Nat) (p q : Pkt) (d : Deferred), u = s.elapse dt →
      q = p.asRow 0x4002 →
      Safety.admitted u q = some (w, d) →
      q.payload.length = 8 →
      byteAt q.payload 0 ≤ 3 →
      byteAt q.payload 1 ≤ 3 →
      (byteAt q.payload 0 = 0 ↔ byteAt q.payload 1 ≠ 0) →
      zeros q.payload 2 6 = true →
      w.mu.norBad = false →
      ∃ v, exec (.timServoMode dt p) s = .next (Safety.done s u v d stOk []) ∧
        v.tl.pendMode = some (byteAt q.payload 0, byteAt q.payload 1, w.now, q.session.toNat)) ∧
  (∀ (s u w : State) (dt : Nat) (p q : Pkt) (d : Deferred), u = s.elapse dt →
      q = p.asRow 0x4010 →
      Safety.admitted u q = some (w, d) →
      8 ≤ q.payload.length →
      q.payload.length = 8 + 16 * byteAt q.payload 2 →
      byteAt q.payload 0 ≤ 5 →
      0 < byteAt q.payload 2 →
      byteAt q.payload 1 + byteAt q.payload 2 ≤ 64 →
      zeros q.payload 3 5 = true →
      ((List.range (byteAt q.payload 2)).all (fun i => w.rallyOk (byteAt q.payload 0) (le q.payload (8 + 16 * i) 16)) = true) →
      w.mu.norBad = false →
      ∃ v, exec (.timRallyWrite dt p) s = .next (Safety.done s u v d stOk (toLE 8 w.now)) ∧
        (v = ((List.range (byteAt q.payload 2)).foldl (fun x i => (x.setKept q.session.toNat (0x8100 + 0x40 * byteAt q.payload 0 + byteAt q.payload 1 + i) (le q.payload (8 + 16 * i) 16)).rallyStart (byteAt q.payload 0) (byteAt q.payload 1 + i)) w.fireAll).setCur none)) ∧
  (∀ (s u w : State) (dt : Nat) (p q : Pkt) (d : Deferred), u = s.elapse dt →
      q = p.asRow 0x4020 →
      Safety.admitted u q = some (w, d) →
      q.payload.length = 12 →
      tioOk q.payload = true →
      w.mu.norBad = false →
      ∃ v, exec (.timTioConfig dt p) s = .next (Safety.done s u v d stOk []) ∧
        v.obj (Obj.TIM_TIO_CFG + byteAt q.payload 0) = le q.payload 0 12 ∧
        (v.tioU (byteAt q.payload 0)).level = (byteAt q.payload 1 = 2 && byteAt q.payload 2 = 1) ∧
        (v.tioU (byteAt q.payload 0)).trailing = none)

/-- The timeline's events: increments, steps and servo modes at their apply stamps, the Syncs a servo takes, and the timers
that end a time status (R64, R67 to R73, R76). -/
def Obligations.TimelineEventsComplete : Prop :=
  (∀ (s u : State) (dt : Nat) (i : PendInc), u = s.elapse dt →
      u.tl.pendInc = [i] →
      i.apply ≤ u.now →
      ∃ t, exec (.incrementApply dt) s = .next t ∧
        t.tl.pendInc = [] ∧
        t.time.inc = clampNat i.value (bandLo u.anyEnabled) (bandHi u.anyEnabled) ∧
        t.time.ctr % 2 ^ 64 = u.time.ctr % 2 ^ 64) ∧
  (∀ (s u : State) (dt : Nat) (i : PendStep), u = s.elapse dt →
      u.tl.pendStep = [i] →
      i.apply ≤ u.now →
      u.anyEnabled = false →
      ∃ t, exec (.timeStepApply dt) s = .next t ∧
        t.tl.pendStep = [] ∧
        t.time.ctr = (u.time.ctr + i.amount) % 2 ^ 64 ∧
        t.tl.steps = u.tl.steps + i.amount ∧
        t.tl.stepped = true) ∧
  (∀ (s u : State) (dt : Nat) (mode mask at_ sess : Nat), u = s.elapse dt →
      u.tl.pendMode = some (mode, mask, at_, sess) →
      at_ < u.now →
      ∃ t, exec (.servoModeApply dt) s = .next t ∧
        t.tl.pendMode = none ∧
        t.obj Obj.TIM_SERVO_SEL = mode ∧
        (mode = 0 → t.obj Obj.TIM_SERVO_PORTS = mask) ∧
        (mode = 2 → t.tl.status = .unsynced)) ∧
  (∀ (s u : State) (dt : Nat) (port : Fin 2) (source : Nat) (gmTime : PtpTime) (logSync : Int) (followUp : Bool), u = s.elapse dt →
      u.isReady = true →
      u.cpStands = false →
      u.servoSel = 0 →
      bit (u.obj Obj.TIM_SERVO_PORTS) port.val = true →
      (u.ethU port.val).on = true →
      (u.ethU port.val).portState = 2 →
      (u.ethU port.val).asCapable = true →
      (u.ethU port.val).parent = source →
      followUp = true →
      u.inFlask = false →
      ∃ t, exec (.ptpSyncRx dt port source gmTime logSync followUp) s = .next t ∧
        (t.ethU port.val).logSync = logSync ∧
        t.tl.gmDeadline = some (u.clk + gmTimeoutLen logSync) ∧
        (u.tl.status = .unsynced → t.tl.status = .locking) ∧
        (u.tl.status = .unsynced ∨ u.tl.status = .locking ∧ u.tl.lockRun < 7 → t.tl.err = some (ptpStamp gmTime - (u.rxStamp port.val true : Int)).natAbs) ∧
        (u.tl.status = .locking → u.tl.lockRun < 7 → t.tl.status = .locking) ∧
        (u.tl.status = .locking → 7 ≤ u.tl.lockRun → (ptpStamp gmTime - (u.rxStamp port.val true : Int)).natAbs ≤ u.obj Obj.TIM_LOCK_THRESH → t.tl.status = .synced)) ∧
  (∀ (s u : State) (dt : Nat) (e : Nat), u = s.elapse dt →
      u.servoSel = 0 →
      u.tl.gmDeadline = some e →
      e ≤ u.clk →
      u.ownTime = true →
      u.syncComes = false →
      ∃ t, exec (.gmTimeout dt) s = .next t ∧
        t.tl.gmDeadline = none ∧
        (u.tl.status = .synced → t.tl.status = .holdover) ∧
        (u.tl.status = .locking → t.tl.status = .unsynced) ∧
        (u.tl.status = .holdover → t.tl.status = .holdover ∧ t.tl.holdRun = u.tl.holdRun)) ∧
  (∀ (s u : State) (dt : Nat) (e : Nat), u = s.elapse dt →
      u.servoSel = 3 →
      u.tl.gmDeadline = some e →
      e ≤ u.clk →
      u.ownTime = true →
      u.alignComes = false →
      ∃ t, exec (.ringAlignTimeout dt) s = .next t ∧
        t.tl.gmDeadline = none ∧
        (u.tl.status = .synced → t.tl.status = .holdover) ∧
        (u.tl.status = .locking → t.tl.status = .unsynced)) ∧
  (∀ (s u : State) (dt : Nat) (e : Nat), u = s.elapse dt →
      u.tl.status = .holdover →
      u.tl.holdEntry = some e →
      e + u.obj Obj.TIM_HOLDOVER_MAX * sUnits ≤ u.clk →
      u.ownTime = true →
      u.holdoverEnds = false →
      ∃ t, exec (.holdoverMaxExpire dt) s = .next t ∧
        t.tl.status = .unsynced ∧
        t.tl.holdEntry = none) ∧
  (∀ (s u : State) (dt : Nat) (e : Nat), u = s.elapse dt →
      u.servoSel = 1 →
      u.tl.hostDeadline = some e →
      e ≤ u.clk →
      u.ownTime = true →
      u.incrementComes = false →
      ∃ t, exec (.hostWatchdogExpire dt) s = .next t ∧
        t.tl.hostDeadline = none ∧
        (u.tl.status = .synced → t.tl.status = .holdover) ∧
        (u.tl.status = .locking → t.tl.status = .unsynced))

/-- Queue pairs, the register windows and the PCIe link: doorbells, QCFG, waiting completions, register writes, and the ends
of the link (R104, R105, R107, R110 to R113, R114). -/
def Obligations.QueuePairAndPcieCommandsComplete : Prop :=
  (∀ (s u : State) (dt : Nat) (n : Fin 16) (v : Word), u = s.elapse dt →
      u.pciePair n.val = true →
      ∃ t, exec (.sqTailDoorbell dt n v) s = .next t ∧
        (bits v.toNat 9 0 < u.pairCap n.val → (t.pair n.val).sqTail = bits v.toNat 9 0 ∧ (t.pair n.val).owned = (u.pair n.val).owned + (bits v.toNat 9 0 + u.pairCap n.val - (u.pair n.val).sqTail) % u.pairCap n.val) ∧
        (u.pairCap n.val ≤ bits v.toNat 9 0 → (t.pair n.val).en = false ∧ (t.pair n.val).qerr = 1)) ∧
  (∀ (s u : State) (dt : Nat) (n : Fin 16) (v : Word), u = s.elapse dt →
      u.pciePair n.val = true →
      ∃ t, exec (.cqHeadDoorbell dt n v) s = .next t ∧
        (bits v.toNat 9 0 < u.pairCap n.val → (t.pair n.val).cqHead = bits v.toNat 9 0 ∧ (t.pair n.val).posted = (u.pair n.val).posted.drop ((bits v.toNat 9 0 + u.pairCap n.val - (u.pair n.val).cqHead) % u.pairCap n.val)) ∧
        (u.pairCap n.val ≤ bits v.toNat 9 0 → (t.pair n.val).en = false ∧ (t.pair n.val).qerr = 1)) ∧
  (∀ (s u : State) (dt : Nat) (n : Fin 16) (v : Word), u = s.elapse dt →
      u.isReady = true →
      (u.pair n.val).en = false →
      u.isSpi n.val = false →
      ∃ t, exec (.qcfgEnable dt n v) s = .next t ∧
        (((u.pair n.val).cfgFrom v.toNat).cfgOk = true → t.pair n.val = ((u.pair n.val).cfgFrom v.toNat).opened) ∧
        (((u.pair n.val).cfgFrom v.toNat).cfgOk = false → (t.pair n.val).en = false ∧ (t.pair n.val).qerr = 4)) ∧
  (∀ (s u : State) (dt : Nat) (n : Fin 16) (v : Word), u = s.elapse dt →
      (u.pair n.val).en = true →
      ∃ t, exec (.qcfgDisable dt n v) s = .next t ∧
        (t.pair n.val).en = false ∧
        (t.pair n.val).owned = 0 ∧
        (t.pair n.val).waiting = [] ∧
        (t.pair n.val).weight = bits v.toNat 21 18) ∧
  (∀ (s u : State) (dt : Nat) (k : Fin 16) (r : Reply) (rest : List Reply), u = s.elapse dt →
      (u.pair k.val).waiting = r :: rest →
      (u.pair k.val).en = true ∨ u.isSpi k.val = true →
      (u.pair k.val).posted.length < u.pairCap k.val →
      u.cpStands = false →
      ∃ t, exec (.completionPost dt k) s = .next t ∧
        (t.pair k.val).waiting = rest ∧
        (t.pair k.val).posted = (u.pair k.val).posted ++ [(r, (u.pair k.val).phase, !u.isSpi k.val && decide (44 < r.payload.length))]) ∧
  (∀ (s u : State) (dt : Nat), u = s.elapse dt →
      u.mu.booted = true →
      u.host.mbxBusy = false →
      u.mu.restarting = false →
      ∃ t, exec (.mbxGo dt) s = .next t ∧
        t.host.mbxBusy = false ∧
        t.host.mbxReply.isSome = true) ∧
  (∀ (s u : State) (dt : Nat) (v : Word), u = s.elapse dt →
      ∃ t, exec (.registerWrite dt false 8 v) s = .next t ∧
        t.host.devEvent = u.host.devEvent &&& ((0x3F ^^^ bits v.toNat 5 0) ||| u.evNow)) ∧
  (∀ (s u : State) (dt : Nat) (o : Nat) (v : Word), u = s.elapse dt →
      o % 4 = 0 →
      0x2000 ≤ o →
      o < 0x3000 →
      ∃ t, exec (.registerWrite dt false o v) s = .next t ∧
        bget 0#32 t.host.mbxReq ((o - 0x2000) / 4) = v) ∧
  (∀ (s u : State) (dt : Nat) (bar2 : Bool) (o : Nat) (v : Word), u = s.elapse dt →
      o % 4 ≠ 0 ∨ 0x100000 ≤ o →
      ∃ t, exec (.registerWrite dt bar2 o v) s = .next t ∧
        t.host = u.host ∧
        t.can = u.can) ∧
  (∀ (s u : State) (dt : Nat), u = s.elapse dt →
      ∃ t, exec (.perstAssert dt) s = .next t ∧
        t.host.perst = true ∧
        t.host.pcieUp = false ∧
        t.host.pcieDown = none ∧
        (∀ k : Fin 16, t.pciePair k.val = false)) ∧
  (∀ (s u : State) (dt : Nat) (e : Nat), u = s.elapse dt →
      u.host.pcieDown = some e →
      e < u.clk →
      ∃ t, exec (.pcieLinkDownTimeout dt) s = .next t ∧
        t.host.pcieDown = none ∧
        (∀ k : Fin 16, t.pciePair k.val = false)) ∧
  (∀ (s u : State) (dt : Nat) (k : Fin 16) (write : Bool), u = s.elapse dt →
      u.pciePair k.val = true →
      ∃ t, exec (.pcieHostMemoryError dt k write) s = .next t ∧
        (t.pair k.val).en = false ∧
        ((t.pair k.val).qerr = (if write then 3 else 2)) ∧
        bit t.host.devEvent 3 = true) ∧
  (∀ (s u : State) (dt : Nat) (up : Bool), u = s.elapse dt →
      u.host.pcieDown = none →
      ∃ t, exec (.pcieLinkChange dt up) s = .next t ∧
        t.host.pcieUp = up ∧
        (up = true → t.host.perst = false) ∧
        (up = false → u.host.pcieUp = true → t.host.pcieDown = some (u.clk + 100 * msUnits)))

/-- SPI transactions, command datagrams, CAN tunnels, notifications and idle sessions (R110, R115 to R120, R123, R127). -/
def Obligations.SpiTunnelAndNotifyCommandsComplete : Prop :=
  (∀ (s u : State) (dt : Nat) (k : Nat) (p : Pkt) (c n : Nat), u = s.elapse dt →
      u.spiPairs[k]? = some n →
      u.mu.booted = true →
      u.isReady = true →
      c = 16 + p.len.toNat →
      (u.pair n).owned < 8 →
      ∃ t, exec (.spiSubmit dt k p c) s = .next t ∧
        (t.pair n).sq = (u.pair n).sq ++ [{ p with link := .spi k }] ∧
        (t.pair n).owned = (u.pair n).owned + 1 ∧
        t.host.subRej = u.host.subRej) ∧
  (∀ (s u : State) (dt : Nat) (k : Nat) (p : Pkt) (c n : Nat), u = s.elapse dt →
      u.spiPairs[k]? = some n →
      u.mu.booted = true →
      c ≠ 16 + p.len.toNat →
      ∃ t, exec (.spiSubmit dt k p c) s = .next t ∧
        t.host.subRej = true ∧
        t.host.pairs = u.host.pairs) ∧
  (∀ (s u : State) (dt : Nat) (k : Fin 4) (c n : Nat) (x : Reply × Bool × Bool) (rest : List (Reply × Bool × Bool)), u = s.elapse dt →
      u.spiPairs[k.val]? = some n →
      (u.pair n).posted = x :: rest →
      6 + x.1.bytes.length ≤ c →
      ∃ t, exec (.spiFetch dt k c) s = .next t ∧
        (t.pair n).posted = rest ∧
        (u.mu.vstby = true → t.host.spiOut = toLE 1 u.spiByte ++ (u.fetchOut k.val).take (c - 1))) ∧
  (∀ (s u : State) (dt : Nat), u = s.elapse dt →
      ∃ t, exec (.spiStatus dt) s = .next t ∧
        t.host.subRej = false ∧
        (u.mu.vstby = true → t.host.spiOut = toLE 1 u.spiByte ++ u.spiLevels)) ∧
  (∀ (s u : State) (dt : Nat) (b : Byte), u = s.elapse dt →
      ∃ t, exec (.spiUnknownInstruction dt b) s = .next t ∧
        (u.mu.vstby = true → t.host.spiOut = toLE 1 u.spiByte ++ [0xFF#8]) ∧
        t.host.pairs = u.host.pairs ∧
        t.host.subRej = u.host.subRej ∧
        t.dict = u.dict ∧
        t.log = u.log) ∧
  (∀ (s u : State) (dt : Nat) (k : Fin 2) (x : Datagram) (y : Session), u = s.elapse dt →
      u.isReady = true →
      (u.ethU k.val).on = true →
      (u.ethU k.val).link = true →
      x.version = 1 →
      x.frag = none →
      x.session < 64 →
      u.sess x.session = some y →
      y.link = .eth k.val →
      x.tagOk = true →
      y.rx < x.counter →
      ∃ t, exec (.cmdDatagramRx dt k x) s = .next t ∧
        t.host.inbox = u.host.inbox ++ [{ x.pkt with link := .eth k.val }] ∧
        t.sess x.session = some { y with rx := x.counter }) ∧
  (∀ (s u : State) (dt : Nat) (k : Fin 2) (x : Datagram) (y : Session), u = s.elapse dt →
      u.isReady = true →
      (u.ethU k.val).on = true →
      (u.ethU k.val).link = true →
      x.version = 1 →
      x.frag = none →
      x.session < 64 →
      u.sess x.session = some y →
      x.tagOk = false ∨ x.counter ≤ y.rx →
      ∃ t, exec (.cmdDatagramRx dt k x) s = .next t ∧
        t.host.inbox = u.host.inbox ∧
        t.sess x.session = some y ∧
        t.obj Obj.HOST_ETH_DROPS = min 0xFFFFFFFF (u.obj Obj.HOST_ETH_DROPS + 1)) ∧
  (∀ (s u : State) (dt : Nat) (k : Fin 4) (i e n : Nat), u = s.elapse dt →
      bfind u.host.reasm k.val = some (i, e, n) →
      e ≤ u.clk →
      u.fragmentComes i = false →
      ∃ t, exec (.ipv4ReassemblyTimeout dt k) s = .next t ∧
        t.host.reasm = bdel u.host.reasm k.val) ∧
  (∀ (s u : State) (dt : Nat) (c : Fin 4) (b : List Byte), u = s.elapse dt →
      u.canOn c.val = true →
      (u.canU c.val).busOff = false →
      bit (le (u.canU c.val).cfg 28 4) 31 = true →
      b.length = 64 →
      bit (byteAt b 0) 7 = true →
      bits (byteAt b 0) 5 0 = 0 →
      ∃ t, exec (.canTunnelFrameRx dt c b) s = .next t ∧
        (bit (byteAt b 0) 6 = true → t.host.inbox = u.host.inbox ++ [pktOf (.can c.val) (b.drop 1)] ∧ (t.canU c.val).tunnelNext = none) ∧
        (bit (byteAt b 0) 6 = false → (t.canU c.val).tunnel = b.drop 1 ∧ (t.canU c.val).tunnelNext = some 1)) ∧
  (∀ (s u : State) (dt : Nat) (c : Fin 4), u = s.elapse dt →
      (u.canU c.val).tunnelNext.isSome = true →
      (u.canU c.val).tunnelStart + 50 * msUnits ≤ u.clk →
      u.segmentComes c = false →
      ∃ t, exec (.canTunnelTimeout dt c) s = .next t ∧
        (t.canU c.val).tunnelNext = none ∧
        (t.canU c.val).tunnel = []) ∧
  (∀ (s u : State) (dt : Nat) (i : Fin 256) (x : Sub), u = s.elapse dt →
      bget none u.host.subs i.val = some x →
      u.cpTakes = true →
      x.due ≤ u.clk →
      x.mode ≠ 2 ∨ u.readObj x.idx ≠ x.lastVal →
      ∃ t, exec (.subscriptionNotify dt i) s = .next t ∧
        (bget none t.host.subs i.val = some { x with due := (if x.mode = 1 then x.due + x.period * usUnits else u.clk + x.period * usUnits), lastVal := u.readObj x.idx })) ∧
  (∀ (s u : State) (dt : Nat) (k : Fin 64) (x : Session) (m : Nat), u = s.elapse dt →
      u.sess k.val = some x →
      x.link = .eth m ∨ x.link = .can m →
      x.idle + u.obj Obj.HOST_ETH_IDLE * sUnits ≤ u.clk →
      u.commandComes k.val = false →
      ∃ t, exec (.sessionIdleTimeout dt k) s = .next t ∧
        t.sess k.val = none)

/-- The system opcodes: each packet that passes its checks has the effect and the reply of its row (R49, R121 to R126,
R212, Table 16.5). -/
def Obligations.SystemOpcodesComplete : Prop :=
  (∀ (s u w : State) (dt : Nat) (p q : Pkt) (d : Deferred), u = s.elapse dt →
      q = p.asNop →
      Safety.admitted u q = some (w, d) →
      q.payload.length ≤ 4064 →
      ∃ v, exec (.sysNop dt p) s = .next (Safety.done s u v d stOk q.payload) ∧
        v = w.setCur none) ∧
  (∀ (s u w : State) (dt : Nat) (p q : Pkt) (d : Deferred) (n : Nat), u = s.elapse dt →
      q = p.asRow 0x0001 →
      Safety.admitted u q = some (w, d) →
      q.payload.length = 132 + le q.payload 2 2 →
      byteAt q.payload 0 ≠ 3 →
      byteAt q.payload 0 ≤ 4 →
      byteAt q.payload 1 = 0 →
      ((q.payload.drop 4).all (fun x => x = 0#8) = true) →
      w.linkAllows q.link (byteAt q.payload 0) = true →
      openMethod q.link (byteAt q.payload 0) = 0 →
      (((List.range 64).find? fun n => (w.sess n).isNone) = some n) →
      ∃ v, exec (.sysOpenSession dt p) s = .next (Safety.done s u v d stOk (toLE 1 n ++ toLE 3 0 ++ toLE 128 0)) ∧
        v.sess n = some { level := byteAt q.payload 0, link := q.link, idle := w.clk }) ∧
  (∀ (s u w : State) (dt : Nat) (p q : Pkt) (d : Deferred) (n : Nat) (e : Nat × Nat) (signed : Bool), u = s.elapse dt →
      q = p.asRow 0x0001 →
      Safety.admitted u q = some (w, d) →
      q.payload.length = 132 + le q.payload 2 2 →
      byteAt q.payload 0 ≠ 3 →
      byteAt q.payload 0 ≤ 4 →
      byteAt q.payload 1 ≤ 2 →
      byteAt q.payload 1 ≠ 0 →
      w.linkAllows q.link (byteAt q.payload 0) = true →
      openMethod q.link (byteAt q.payload 0) = byteAt q.payload 1 →
      (((List.range 64).find? fun n => (w.sess n).isNone) = some n) →
      signed = (decide (byteAt q.payload 1 = 2) || (decide (byteAt q.payload 1 = 1) && decide (byteAt q.payload 0 ≠ 0))) →
      (((w.host.nonce.filter fun e => w.clk ≤ e.2).find? fun e => !signed || w.openAuth q (byteAt q.payload 0) e.1) = some e) →
      ∃ v, exec (.sysOpenSession dt p) s = .next (Safety.done s u v d stOk (toLE 1 n ++ toLE 3 0 ++ (if byteAt q.payload 1 = 1 then openBytes 4 q.payload e.1 ++ openBytes 5 q.payload e.1 else toLE 128 0))) ∧
        ((v.sess n).map (fun x => (x.level, x.link, x.idle)) = some (byteAt q.payload 0, q.link, w.clk)) ∧
        (v.host.nonce = w.host.nonce.filter fun x => x.1 ≠ e.1)) ∧
  (∀ (s u w : State) (dt : Nat) (p q : Pkt) (d : Deferred), u = s.elapse dt →
      q = p.asRow 0x0002 →
      Safety.admitted u q = some (w, d) →
      q.payload.length = 0 →
      ∃ v, exec (.sysCloseSession dt p) s = .next (Safety.done s u v d stOk []) ∧
        v.sess q.session.toNat = none) ∧
  (∀ (s u w : State) (dt : Nat) (p q : Pkt) (d : Deferred), u = s.elapse dt →
      q = p.asRow 0x0003 →
      Safety.admitted u q = some (w, d) →
      q.payload.length = 0 →
      ∃ v, exec (.sysGetInfo dt p) s = .next (Safety.done s u v d stOk (w.infoBytes w.host.nonces)) ∧
        v.host.nonces = w.host.nonces + 1 ∧
        v.host.nonce = w.host.nonce ++ [(w.host.nonces, w.clk + 10 * sUnits)]) ∧
  (∀ (s u w : State) (dt : Nat) (p q : Pkt) (d : Deferred), u = s.elapse dt →
      q = (p.asRow 0x0010).withSel 0 0 →
      Safety.admitted u q = some (w, d) →
      q.payload.length = 4 →
      zeros q.payload 1 3 = true →
      w.resetState = true →
      w.resetLocked = false →
      ∃ v, exec (.sysReset dt p) s = .next (Safety.done s u v d stOk []) ∧
        v.mu.resetDue = some (w.muNow + 100 * usUnits, false)) ∧
  (∀ (s u w : State) (dt : Nat) (p q : Pkt) (d : Deferred), u = s.elapse dt →
      q = (p.asRow 0x0010).withSel 0 1 →
      Safety.admitted u q = some (w, d) →
      q.payload.length = 4 →
      zeros q.payload 1 3 = true →
      w.resetState = true →
      w.resetLocked = false →
      (w.mu.banks.getD (1 - w.mu.active) {}).state = 3 →
      ∃ v, exec (.sysResetActivate dt p) s = .next (Safety.done s u v d stOk []) ∧
        v.mu.resetDue = some (w.muNow + 100 * usUnits, true)) ∧
  (∀ (s u w : State) (dt : Nat) (p q : Pkt) (d : Deferred) (k : Nat), u = s.elapse dt →
      q = (p.asRow 0x0011).withSel 0 0 →
      Safety.admitted u q = some (w, d) →
      q.payload.length = 4 →
      zeros q.payload 1 3 = true →
      q.target.toNat = k →
      k < 6 →
      w.enabled k = false →
      w.fenced k = false →
      ∃ v, exec (.sysFuncReinitUnit dt p) s = .next (Safety.done s u v d stOk []) ∧
        v.obj (slc k Obj.SLC_SD_PROMOTED) = 0 ∧
        (v.sl k).loss = {} ∧
        (v.sl k).promoteAt = []) ∧
  (∀ (s u w : State) (dt : Nat) (p q : Pkt) (d : Deferred) (c : Nat), u = s.elapse dt →
      q = (p.asRow 0x0011).withSel 0 0 →
      Safety.admitted u q = some (w, d) →
      q.payload.length = 4 →
      zeros q.payload 1 3 = true →
      q.target.toNat = 0x10 + c →
      c < 4 →
      w.fenced (8 + c) = false →
      ∃ v, exec (.sysFuncReinitUnit dt p) s = .next (Safety.done s u v d stOk []) ∧
        (v.canU c).tec = 0 ∧
        (v.canU c).recCnt = 0 ∧
        (v.canU c).busOff = false ∧
        (v.canU c).rx = [] ∧
        (v.canU c).integrating = true) ∧
  (∀ (s u w : State) (dt : Nat) (p q : Pkt) (d : Deferred) (m : Nat), u = s.elapse dt →
      q = (p.asRow 0x0011).withSel 0 0 →
      Safety.admitted u q = some (w, d) →
      q.payload.length = 4 →
      zeros q.payload 1 3 = true →
      q.target.toNat = 0x18 + m →
      m < 2 →
      ∃ v, exec (.sysFuncReinitUnit dt p) s = .next (Safety.done s u v d stOk []) ∧
        (v.ethU m).link = false ∧
        (v.ethU m).speed = 0) ∧
  (∀ (s u w : State) (dt : Nat) (p q : Pkt) (d : Deferred) (l : Nat), u = s.elapse dt →
      q = (p.asRow 0x0011).withSel 0 0 →
      Safety.admitted u q = some (w, d) →
      q.payload.length = 4 →
      zeros q.payload 1 3 = true →
      q.target.toNat = 0x20 + l →
      l < 24 →
      w.fenced (24 + l) = false →
      6 ≤ w.linkSlice l ∨ w.enabled (w.linkSlice l) = false →
      ∃ v, exec (.sysFuncReinitUnit dt p) s = .next (Safety.done s u v d stOk []) ∧
        (v.glU l).linkSafe = false) ∧
  (∀ (s u w : State) (dt : Nat) (p q : Pkt) (d : Deferred) (n : Nat), u = s.elapse dt →
      q = (p.asRow 0x0011).withSel 0 1 →
      Safety.admitted u q = some (w, d) →
      q.payload.length = 4 →
      byteAt q.payload 1 = n →
      zeros q.payload 2 2 = true →
      w.pairOf q.link ≠ some n →
      n ≤ 15 →
      ∃ v, exec (.sysFuncReinitPair dt p) s = .next (Safety.done s u v d stOk []) ∧
        (v.pair n).owned = 0 ∧
        (v.pair n).sqTail = 0 ∧
        (v.pair n).sqHead = 0 ∧
        (v.pair n).cqTail = 0 ∧
        (v.pair n).cqHead = 0 ∧
        (v.pair n).phase = true ∧
        (v.pair n).qerr = 0 ∧
        (v.pair n).posted = [] ∧
        (v.pair n).en = !w.isSpi n ∧
        (v.pair n).sqBase = (w.pair n).sqBase ∧
        (v.pair n).cqBase = (w.pair n).cqBase) ∧
  (∀ (s u w : State) (dt : Nat) (p q : Pkt) (d : Deferred) (n : Nat), u = s.elapse dt →
      q = (p.asRow 0x0011).withSel 0 2 →
      Safety.admitted u q = some (w, d) →
      q.payload.length = 4 →
      byteAt q.payload 1 = n →
      zeros q.payload 2 2 = true →
      n ≤ 63 →
      (w.ctx n).hdr ≠ 0 →
      6 ≤ hSlice (w.ctx n).hdr ∨ w.enabled (hSlice (w.ctx n).hdr) = false →
      ∃ v, exec (.sysFuncReinitContext dt p) s = .next (Safety.done s u v d stOk []) ∧
        (v.ctx n).fault = false ∧
        (v.ctx n).xhat = List.replicate 8 0#32 ∧
        (v.ctx n).z = List.replicate 4 0#32 ∧
        (v.ctx n).coef = ((w.ctx n).settled w.now).coef ∧
        v.obj (ctxo n Obj.ENG_STAT) = 0 ∧
        v.obj (ctxo n Obj.ENG_OVERRUN_CNT) = 0) ∧
  (∀ (s u w : State) (dt : Nat) (p q : Pkt) (d : Deferred) (n : Nat), u = s.elapse dt →
      q = (p.asRow 0x0011).withSel 0 3 →
      Safety.admitted u q = some (w, d) →
      q.payload.length = 4 →
      byteAt q.payload 1 = n →
      zeros q.payload 2 2 = true →
      n ≤ 3 →
      w.fenced (12 + n) = false →
      ∃ v, exec (.sysFuncReinitAux dt p) s = .next (Safety.done s u v d stOk []) ∧
        v.auxU n = { cold := true }) ∧
  (∀ (s u w : State) (dt : Nat) (p q : Pkt) (d : Deferred) (n : Nat), u = s.elapse dt →
      q = (p.asRow 0x0011).withSel 0 4 →
      Safety.admitted u q = some (w, d) →
      q.payload.length = 4 →
      byteAt q.payload 1 = n →
      zeros q.payload 2 2 = true →
      n ≤ 7 →
      w.fenced (16 + n) = false →
      6 ≤ w.encOwner n ∨ w.enabled (w.encOwner n) = false →
      ∃ v, exec (.sysFuncReinitEncoder dt p) s = .next (Safety.done s u v d stOk []) ∧
        v.encU n = { (w.encU n).fresh (w.clk + bits (w.ssiCfg n) 31 24 * usUnits) with fault := false }) ∧
  (∀ (s u w : State) (dt : Nat) (p q : Pkt) (d : Deferred), u = s.elapse dt →
      q = p.asRow 0x0012 →
      Safety.admitted u q = some (w, d) →
      q.payload.length = 4 →
      zeros q.payload 0 4 = true →
      w.inFlask = false ∨ w.isActive = true →
      w.resetLocked = false →
      ∃ v, exec (.sysPwrcycleReq dt p) s = .next (Safety.done s u v d stOk []) ∧
        (v.mu.pwrcycDue = some (match w.mu.pwrcycDue with | some x => min x (w.muNow + 100 * usUnits) | none => w.muNow + 100 * usUnits)))

/-- The object opcodes: a read and a block read answer records of the objects' values, a write stores its value, a trigger, a
life-cycle move, a feature gate and an encoder configuration have their own effect, a subscription is kept or ended
(R55, R78, R127 to R132, R161, R193, R410). -/
def Obligations.ObjectOpcodesComplete : Prop :=
  (∀ (s u w : State) (dt : Nat) (p q : Pkt) (d : Deferred) (i : Nat), u = s.elapse dt →
      q = p.asRow 0x1000 →
      Safety.admitted u q = some (w, d) →
      q.payload.length = 8 →
      le q.payload 0 4 = i →
      zeros q.payload 4 4 = true →
      i ≤ 0x1FFFF →
      (descOf i).isSome = true →
      ∃ v, exec (.objRead dt p) s = .next (Safety.done s u v d stOk (w.readRec i)) ∧
        v = (w.readEff i).setCur none) ∧
  (∀ (s u w : State) (dt : Nat) (p q : Pkt) (d : Deferred) (k : Fin 2) (x : TxStamp) (rest : List TxStamp), u = s.elapse dt →
      q = (p.asRow 0x1000).withIdx (Obj.ETH0_TXTS_POP + 0x10 * k.val) →
      Safety.admitted u q = some (w, d) →
      q.payload.length = 8 →
      le q.payload 0 4 = Obj.ETH0_TXTS_POP + 0x10 * k.val →
      zeros q.payload 4 4 = true →
      (w.ethU k.val).txts = x :: rest →
      ∃ v, exec (.ethTxtsPop dt k p) s = .next (Safety.done s u v d stOk (recBytes (Obj.ETH0_TXTS_POP + 0x10 * k.val) ((descOf (Obj.ETH0_TXTS_POP + 0x10 * k.val)).elim 0 Desc.ty) (typeLen ((descOf (Obj.ETH0_TXTS_POP + 0x10 * k.val)).elim 0 Desc.ty)) stOk x.val)) ∧
        (v.ethU k.val).txts = rest) ∧
  (∀ (s u w : State) (dt : Nat) (p q : Pkt) (d : Deferred) (i n : Nat) (m : Bool), u = s.elapse dt →
      q = p.asRow 0x1002 →
      Safety.admitted u q = some (w, d) →
      q.payload.length = 8 →
      le q.payload 0 4 = i →
      le q.payload 4 2 = n →
      (byteAt q.payload 6 = (if m then 1 else 0)) →
      zeros q.payload 7 1 = true →
      0 < n →
      (n ≤ (if m then 96 else 160)) →
      i + n ≤ 0x20000 →
      ∃ v, exec (.objReadBlock dt p) s = .next (Safety.done s u v d stOk (State.readMany n i m w).2) ∧
        v = (State.readMany n i m w).1.setCur none) ∧
  (∀ (s u w : State) (dt : Nat) (p q : Pkt) (d : Deferred) (r : ObjRec) (y : Desc), u = s.elapse dt →
      q = p.asRow 0x1001 →
      Safety.admitted u q = some (w, d) →
      q.payload.length = 24 →
      w.recCheck q q.payload 0 = stOk →
      recAt q.payload 0 = r →
      descOf r.idx = some y →
      safIdx r.idx = false →
      y.acc ≠ 3 →
      ∃ v, exec (.objWrite dt p) s = .next (Safety.done s u v d stOk (toLE 4 r.idx ++ toLE 4 0 ++ toLE 8 w.now)) ∧
        v = ((w.setKept q.session.toNat r.idx (w.mergeWrite y r.idx r.data)).written r.idx (w.obj r.idx) r.data).setCur none) ∧
  (∀ (s u w : State) (dt : Nat) (p q : Pkt) (d : Deferred) (n : Nat), u = s.elapse dt →
      q = p.asRow 0x1003 →
      Safety.admitted u q = some (w, d) →
      q.payload.length = 8 + 24 * n →
      le q.payload 0 2 = n →
      0 < n →
      n ≤ 169 →
      zeros q.payload 2 6 = true →
      (((List.range n).find? fun j => w.blockCheck q j ≠ stOk) = none) →
      ∃ v, exec (.objWriteBlock dt p) s = .next (Safety.done s u v d stOk (toLE 2 0xFFFF ++ toLE 6 0 ++ toLE 8 w.now)) ∧
        (v = ((List.range n).foldl (fun x j => x.putObj q.session.toNat (recAt q.payload (8 + 24 * j))) w).setCur none)) ∧
  (∀ (s u w : State) (dt : Nat) (p q : Pkt) (d : Deferred) (r : ObjRec), u = s.elapse dt →
      q = (p.asRow 0x1001).withIdx Obj.AUX_HOST_TRIG →
      Safety.admitted u q = some (w, d) →
      q.payload.length = 24 →
      w.recCheck q q.payload 0 = stOk →
      recAt q.payload 0 = r →
      r.idx = Obj.AUX_HOST_TRIG →
      ∃ v, exec (.auxHostTrig dt p) s = .next (Safety.done s u v d stOk (toLE 4 r.idx ++ toLE 4 0 ++ toLE 8 w.now)) ∧
        v = ((w.setKept q.session.toNat r.idx (w.obj r.idx)).fireAux.auxTrigger (bits r.data 9 8) (bits r.data 2 0) w.now true).setCur none) ∧
  (∀ (s u w : State) (dt : Nat) (p q : Pkt) (d : Deferred) (r : ObjRec), u = s.elapse dt →
      q = (p.asRow 0x1001).withIdx Obj.ENC_SSI_TRIG →
      Safety.admitted u q = some (w, d) →
      q.payload.length = 24 →
      w.recCheck q q.payload 0 = stOk →
      recAt q.payload 0 = r →
      r.idx = Obj.ENC_SSI_TRIG →
      ∃ v, exec (.encSsiTrig dt p) s = .next (Safety.done s u v d stOk (toLE 4 r.idx ++ toLE 4 0 ++ toLE 8 w.now)) ∧
        v = ((w.setKept q.session.toNat r.idx (w.obj r.idx)).ssiTrigger r.data w.now).setCur none) ∧
  (∀ (s u w : State) (dt : Nat) (p q : Pkt) (d : Deferred) (r : ObjRec), u = s.elapse dt →
      q = (p.asRow 0x1001).withIdx Obj.MGT_LIFECYCLE_REQ →
      Safety.admitted u q = some (w, d) →
      q.payload.length = 24 →
      w.recCheck q q.payload 0 = stOk →
      recAt q.payload 0 = r →
      r.idx = Obj.MGT_LIFECYCLE_REQ →
      ∃ v, exec (.mgtLifecycleReq dt p) s = .next (Safety.done s u v d stOk (toLE 4 r.idx ++ toLE 4 0 ++ toLE 8 w.now)) ∧
        v.mu.lcWords = w.mu.lcWords.set (r.data - 1) (lcPattern (r.data - 1)) ∧
        v.mu.lcWrite = some (w.tick, r.data - 1, w.mu.lcWords.getD (r.data - 1) 0) ∧
        (3 ≤ r.data → v.mu.binding = none ∧ v.ref.pw = none ∧ v.mu.anchors = w.mu.anchors.map fun a => { a with revoked := true })) ∧
  (∀ (s u w : State) (dt : Nat) (p q : Pkt) (d : Deferred) (r : ObjRec), u = s.elapse dt →
      q = (p.asRow 0x1001).withIdx Obj.MGT_FEATURE_GATE →
      Safety.admitted u q = some (w, d) →
      q.payload.length = 24 →
      w.recCheck q q.payload 0 = stOk →
      recAt q.payload 0 = r →
      r.idx = Obj.MGT_FEATURE_GATE →
      ∃ v, exec (.mgtFeatureGate dt p) s = .next (Safety.done s u v d stOk (toLE 4 r.idx ++ toLE 4 0 ++ toLE 8 w.now)) ∧
        v.obj Obj.MGT_FEATURE_GATE = r.data) ∧
  (∀ (s u w : State) (dt : Nat) (p q : Pkt) (d : Deferred) (n : Fin 8) (r : ObjRec), u = s.elapse dt →
      q = (p.asRow 0x1001).withIdx (Obj.ENC_CFG + n.val) →
      Safety.admitted u q = some (w, d) →
      q.payload.length = 24 →
      w.recCheck q q.payload 0 = stOk →
      recAt q.payload 0 = r →
      r.idx = Obj.ENC_CFG + n.val →
      ∃ v, exec (.encCfgWrite dt n p) s = .next (Safety.done s u v d stOk (toLE 4 r.idx ++ toLE 4 0 ++ toLE 8 w.now)) ∧
        v.obj (Obj.ENC_CFG + n.val) = r.data ∧
        (bit r.data 127 = true → bit (w.obj (Obj.ENC_CFG + n.val)) 127 = false → v.encU n.val = { (w.encU n.val).fresh (w.clk + bits (w.ssiCfg n.val) 31 24 * usUnits) with fault := w.fenced (16 + n.val) })) ∧
  (∀ (s u w : State) (dt : Nat) (p q : Pkt) (d : Deferred) (i n : Nat), u = s.elapse dt →
      q = p.asRow 0x1010 →
      Safety.admitted u q = some (w, d) →
      q.payload.length = 12 →
      le q.payload 0 4 = i →
      i ≤ 0x1FFFF →
      (descOf i).isSome = true →
      byteAt q.payload 4 = 1 ∨ byteAt q.payload 4 = 2 →
      zeros q.payload 5 3 = true →
      100 ≤ le q.payload 8 4 →
      le q.payload 8 4 ≤ 10000000 →
      w.freeSub = some n →
      ∃ v, exec (.objSubscribe dt p) s = .next (Safety.done s u v d stOk []) ∧
        (bget none v.host.subs n = some { session := q.session.toNat, link := q.link, seq := q.seq.toNat, idx := i, mode := byteAt q.payload 4, period := le q.payload 8 4, accepted := d.accepted, due := (if byteAt q.payload 4 = 1 then w.clk + le q.payload 8 4 * usUnits else w.clk), lastVal := w.readObj i })) ∧
  (∀ (s u w : State) (dt : Nat) (p q : Pkt) (d : Deferred) (i : Nat), u = s.elapse dt →
      q = (p.asRow 0x1010).withSel 4 0 →
      Safety.admitted u q = some (w, d) →
      q.payload.length = 12 →
      le q.payload 0 4 = i →
      i ≤ 0x1FFFF →
      (descOf i).isSome = true →
      byteAt q.payload 4 = 0 →
      zeros q.payload 5 3 = true →
      ∃ v, exec (.objSubscribeCancel dt p) s = .next (Safety.done s u v d stOk []) ∧
        (v.host.subs = w.host.subs.filter fun e => match e.2 with | some x => !(x.session = q.session.toNat && x.idx = i) | none => true))

/-- The drive opcodes (R237, R254, R259): an enable that passes its checks arms the slice, a disable ends it, a setpoint waits
for its sample, each stop mode leads to its state, a start catches, a discharge begins. -/
def Obligations.DriveOpcodesComplete : Prop :=
  (∀ (s u w x : State) (dt : Nat) (p q : Pkt) (d e : Deferred) (k : Nat), q = p.asRow 0x2000 → k = q.target.toNat →
      Safety.admitted (s.elapse dt) q = some (x, e) → Safety.enables x q →
      u = Safety.enableAt s dt → Safety.admitted u q = some (w, d) → Safety.enables w q →
      ∃ v, exec (.drvEnable dt p) s = .next (Safety.doneT s v d stOk []) ∧
        ((v.rs k).forced = none → (v.sl k).st = .armed) ∧
        (v.sl k).modu.running = true ∧
        (v.sl k).modu.period = w.slo k Obj.SLC_PWM_PERIOD ∧
        (v.sl k).torqueMode = (w.sl k).torqueMode ∧
        (v.sl k).target = (w.sl k).target ∧
        v.tl.pendStep = [] ∧
        v.time.inc = clampNat w.time.inc (bandLo true) (bandHi true) ∧
        (w.time.inc = clampNat w.time.inc (bandLo true) (bandHi true) → v.time = w.time)) ∧
  (∀ (s u w : State) (dt : Nat) (p q : Pkt) (d : Deferred) (k : Nat), u = s.elapse dt →
      q = p.asRow 0x2001 →
      Safety.admitted u q = some (w, d) →
      k = q.target.toNat →
      q.payload.length = 8 →
      (w.sl k).st = .armed ∨ (w.sl k).st = .heldBlock →
      zeros q.payload 0 8 = true →
      ∃ v, exec (.drvDisable dt p) s = .next (Safety.done s u v d stOk []) ∧
        (v.sl k).st = .disabled ∧
        (v.sl k).loss = {} ∧
        (v.sl k).modu = {} ∧
        (v.sl k).pendSet = []) ∧
  (∀ (s u w : State) (dt : Nat) (p q : Pkt) (d : Deferred) (k : Nat), u = s.elapse dt →
      q = p.asRow 0x2001 →
      Safety.admitted u q = some (w, d) →
      k = q.target.toNat →
      q.payload.length = 8 →
      (w.sl k).st = .disabled →
      zeros q.payload 0 8 = true →
      ∃ v, exec (.drvDisable dt p) s = .next (Safety.done s u v d stOk []) ∧
        v = (w.clearLockout k).setCur none) ∧
  (∀ (s u w : State) (dt : Nat) (p q : Pkt) (d : Deferred) (k : Nat), u = s.elapse dt →
      q = p.asRow 0x2010 →
      Safety.admitted u q = some (w, d) →
      k = q.target.toNat →
      q.payload.length = 16 →
      w.enabled k = true →
      fFin (leF q.payload 0) = true →
      fGt (fAbs (leF q.payload 0)) (w.sloF k Obj.SLC_SPEED_MAX) = false →
      zeros q.payload 4 4 = true →
      w.tooLate (le q.payload 8 8) = false →
      ∃ v, exec (.drvSetSpeed dt p) s = .next (Safety.done s u v d stAccepted []) ∧
        (v.sl k).pendSet = (w.sl k).pendSet ++ [{ torqueMode := false, value := leF q.payload 0, limit := 0#32, apply := le q.payload 8 8, sess := q.session.toNat }]) ∧
  (∀ (s u w : State) (dt : Nat) (p q : Pkt) (d : Deferred) (k : Nat), u = s.elapse dt →
      q = p.asRow 0x2011 →
      Safety.admitted u q = some (w, d) →
      k = q.target.toNat →
      q.payload.length = 16 →
      w.enabled k = true →
      fFin (leF q.payload 0) = true →
      fFin (leF q.payload 4) = true →
      fGt (fAbs (leF q.payload 0)) (w.sloF k Obj.SLC_MTPA_TMAX) = false →
      fPositive (leF q.payload 4) = true →
      fGt (leF q.payload 4) (w.sloF k Obj.SLC_SPEED_MAX) = false →
      w.tooLate (le q.payload 8 8) = false →
      ∃ v, exec (.drvSetTorque dt p) s = .next (Safety.done s u v d stAccepted []) ∧
        (v.sl k).pendSet = (w.sl k).pendSet ++ [{ torqueMode := true, value := leF q.payload 0, limit := leF q.payload 4, apply := le q.payload 8 8, sess := q.session.toNat }]) ∧
  (∀ (s u w : State) (dt : Nat) (p q : Pkt) (d : Deferred) (k : Nat), u = s.elapse dt →
      q = (p.asRow 0x2020).withSel 0 0 →
      Safety.admitted u q = some (w, d) →
      k = q.target.toNat →
      q.payload.length = 8 →
      zeros q.payload 1 7 = true →
      (w.sl k).st = .running →
      w.speedFaulted k = false →
      (w.sl k).actAt ≠ some w.now →
      (w.rs k).forced = none →
      ∃ v, exec (.drvStopRamp dt p) s = .next (Safety.done s u v d stAccepted []) ∧
        (v.sl k).st = .stopping ∧
        (v.sl k).stopMode = 0 ∧
        (v.sl k).stopCause = 0 ∧
        (v.sl k).stopOpen = true ∧
        (v.sl k).torqueMode = false ∧
        ((w.sl k).torqueMode = true → (v.sl k).rampRef = (w.sl k).sig.omegaE)) ∧
  (∀ (s u w : State) (dt : Nat) (p q : Pkt) (d : Deferred) (k : Nat), u = s.elapse dt →
      q = (p.asRow 0x2020).withSel 0 1 →
      Safety.admitted u q = some (w, d) →
      k = q.target.toNat →
      q.payload.length = 8 →
      zeros q.payload 1 7 = true →
      (w.sl k).st = .running ∨ (w.sl k).st = .stopping ∨ (w.sl k).st = .engaging ∨ (w.sl k).st = .catching →
      (w.sl k).actAt ≠ some w.now →
      (w.rs k).forced = none →
      ∃ v, exec (.drvStopCoast dt p) s = .next (Safety.done s u v d stAccepted []) ∧
        (v.sl k).st = .heldBlock ∧
        (v.sl k).stopMode = 1 ∧
        (v.sl k).stopCause = 0 ∧
        (v.sl k).stopOpen = false ∧
        (v.sl k).loss.recatchAt = none ∧
        (v.sl k).modu.pend = some .block) ∧
  (∀ (s u w : State) (dt : Nat) (p q : Pkt) (d : Deferred) (k : Nat), u = s.elapse dt →
      q = (p.asRow 0x2020).withSel 0 2 →
      Safety.admitted u q = some (w, d) →
      k = q.target.toNat →
      q.payload.length = 8 →
      zeros q.payload 1 7 = true →
      (w.sl k).st ≠ .disabled →
      (w.sl k).st ≠ .heldShort →
      (w.sl k).actAt ≠ some w.now →
      (w.rs k).forced = none →
      ∃ v, exec (.drvStopShort dt p) s = .next (Safety.done s u v d stAccepted []) ∧
        (v.sl k).st = .heldShort ∧
        (v.sl k).stopMode = 2 ∧
        (v.sl k).stopCause = 0 ∧
        (v.sl k).stopOpen = false ∧
        (v.sl k).modu.pend = some .shortCircuit) ∧
  (∀ (s u w : State) (dt : Nat) (p q : Pkt) (d : Deferred) (k : Nat), u = s.elapse dt →
      q = p.asRow 0x2021 →
      Safety.admitted u q = some (w, d) →
      k = q.target.toNat →
      q.payload.length = 8 →
      zeros q.payload 0 8 = true →
      (w.sl k).st = .armed ∧ (w.sl k).actAt ≠ some w.now ∨ (w.sl k).st = .heldBlock ∨ (w.sl k).st = .heldShort →
      (w.sl k).loss.lockout = false →
      (w.slo k Obj.SLC_ANGLE_SRC = 1 → w.hasObs k = true) →
      (w.rs k).forced = none →
      ∃ v, exec (.drvStart dt p) s = .next (Safety.done s u v d stAccepted []) ∧
        (v.sl k).st = .catching ∧
        ((v.sl k).catchRun = some { method := (if (w.sl k).st = .heldShort && w.ascCond k then .asc else if (w.encAngle k).isSome then .encoder else if (w.lineSlots k).isSome then .backEmf else .pulses), fromShort := decide ((w.sl k).st = .heldShort), start := (if (w.sl k).st = .armed then w.now else w.now + 1) })) ∧
  (∀ (s u w : State) (dt : Nat) (p q : Pkt) (d : Deferred) (k n : Nat), u = s.elapse dt →
      q = (p.asRow 0x2030).withSel 0 0 →
      Safety.admitted u q = some (w, d) →
      k = q.target.toNat →
      q.payload.length = 8 →
      byteAt q.payload 1 = 0 →
      le q.payload 2 2 = n →
      n ≤ 1000 →
      zeros q.payload 4 4 = true →
      fLe (fAbs (w.sl k).sig.omegaE) (w.sloF k Obj.SLC_ZERO_SPEED) = true →
      (w.sl k).pred.valid = true →
      (w.sl k).st = .armed ∨ (w.sl k).st = .heldBlock →
      (w.sl k).actAt ≠ some w.now →
      (w.rs k).forced = none →
      ∃ v, exec (.drvDischargeWinding dt p) s = .next (Safety.done s u v d stAccepted []) ∧
        (v.sl k).st = .discharging ∧
        ((v.sl k).dis = some { switchM := false, start := w.now, threshold := (if n = 0 then w.slo k Obj.SLC_DIS_THRESH else n) }) ∧
        (v.sl k).sig.idRef = w.sloF k Obj.SLC_DIS_ID ∧
        (v.sl k).sig.iqRef = 0#32 ∧
        ((v.rs k).disDeadline = some (w.clk + 5 * sUnits, if n = 0 then w.slo k Obj.SLC_DIS_THRESH else n))) ∧
  (∀ (s u w : State) (dt : Nat) (p q : Pkt) (d : Deferred) (k n : Nat), u = s.elapse dt →
      q = (p.asRow 0x2030).withSel 0 1 →
      Safety.admitted u q = some (w, d) →
      k = q.target.toNat →
      q.payload.length = 8 →
      byteAt q.payload 1 = 0 →
      le q.payload 2 2 = n →
      n ≤ 1000 →
      zeros q.payload 4 4 = true →
      w.slo k Obj.SLC_DIS_LINK < 24 →
      w.linkSlice (w.slo k Obj.SLC_DIS_LINK) = k →
      w.linkRole (w.slo k Obj.SLC_DIS_LINK) = 6 →
      (w.sl k).st = .armed ∨ (w.sl k).st = .heldBlock →
      (w.sl k).actAt ≠ some w.now →
      (w.rs k).forced = none →
      ∃ v, exec (.drvDischargeSwitch dt p) s = .next (Safety.done s u v d stAccepted []) ∧
        (v.sl k).st = .discharging ∧
        ((v.sl k).dis = some { switchM := true, start := w.now, threshold := (if n = 0 then w.slo k Obj.SLC_DIS_THRESH else n) }) ∧
        (v.sl k).modu.pend = some .discharge ∧
        ((v.rs k).disDeadline = some (w.clk + 5 * sUnits, if n = 0 then w.slo k Obj.SLC_DIS_THRESH else n)))

/-- The engine opcodes (R213, R214, R218 to R224): definitions, links and group changes are staged, a commit applies the
staged set, coefficients are written, frozen and released, observer states are seeded. -/
def Obligations.EngineOpcodesComplete : Prop :=
  (∀ (s u w : State) (dt : Nat) (p q : Pkt) (d : Deferred) (c h : Nat) (img : Bank F32), u = s.elapse dt →
      q = p.asRow 0x3000 →
      Safety.admitted u q = some (w, d) →
      q.payload.length = 1144 →
      w.stageBusy q = false →
      byteAt q.payload 0 = c →
      c ≤ 63 →
      byteAt q.payload 1 = 0 →
      zeros q.payload 2 6 = true →
      h = le q.payload 8 32 →
      (img = (List.range 276).filterMap (fun i => if le q.payload (40 + 4 * i) 4 = 0 then none else some (i, BitVec.ofNat 32 (le q.payload (40 + 4 * i) 4)))) →
      defCheck h img = 0 →
      ∃ v, exec (.engDefineContext dt p) s = .next (Safety.done s u v d stOk (toLE 8 c)) ∧
        bfind v.stagedSet c = some { hdr := h, coef := img, deleted := false } ∧
        v.stageOwner = some q.session.toNat ∧
        v.eng.ctxs = w.eng.ctxs) ∧
  (∀ (s u w : State) (dt : Nat) (p q : Pkt) (d : Deferred) (c : Nat), u = s.elapse dt →
      q = p.asRow 0x3000 →
      Safety.admitted u q = some (w, d) →
      q.payload.length = 1144 →
      w.stageBusy q = false →
      byteAt q.payload 0 = 0xFF →
      byteAt q.payload 1 = 0 →
      zeros q.payload 2 6 = true →
      ((List.range 64).find? (fun c => (w.ctx c).hdr = 0 && (bfind w.stagedSet c).isNone) = some c) →
      (defCheck (le q.payload 8 32) ((List.range 276).filterMap (fun i => if le q.payload (40 + 4 * i) 4 = 0 then none else some (i, BitVec.ofNat 32 (le q.payload (40 + 4 * i) 4)))) = 0) →
      ∃ v, exec (.engDefineContext dt p) s = .next (Safety.done s u v d stOk (toLE 8 c)) ∧
        (bfind v.stagedSet c).map Staged.hdr = some (le q.payload 8 32) ∧
        v.eng.ctxs = w.eng.ctxs) ∧
  (∀ (s u w : State) (dt : Nat) (p q : Pkt) (d : Deferred) (c : Nat), u = s.elapse dt →
      q = (p.asRow 0x3000).withSel 1 1 →
      Safety.admitted u q = some (w, d) →
      q.payload.length = 8 →
      w.stageBusy q = false →
      byteAt q.payload 0 = c →
      byteAt q.payload 1 = 1 →
      zeros q.payload 2 6 = true →
      c ≤ 63 →
      (w.wouldBe c).1 ≠ 0 →
      ∃ v, exec (.engDeleteContext dt p) s = .next (Safety.done s u v d stOk (toLE 8 c)) ∧
        bfind v.stagedSet c = some { hdr := 0, coef := [], deleted := true } ∧
        v.eng.ctxs = w.eng.ctxs) ∧
  (∀ (s u w : State) (dt : Nat) (p q : Pkt) (d : Deferred) (c m i j : Nat) (img : Bank F32), u = s.elapse dt →
      q = p.asRow 0x3001 →
      Safety.admitted u q = some (w, d) →
      q.payload.length = 8 →
      byteAt q.payload 0 = c →
      c ≤ 63 →
      byteAt q.payload 1 = m →
      m ≤ 13 →
      byteAt q.payload 2 = i →
      byteAt q.payload 3 = j →
      i < (matrixOf m).2.1 →
      j < (matrixOf m).2.2 →
      (w.ctx c).hdr ≠ 0 →
      (w.ctx c).pendCoef = none →
      ((w.ctx c).evals.all (fun e => e.started.isNone || e.done) = true) →
      (w.ctx c).waitCoef = [] →
      w.mu.norBad = false →
      img = bset (w.ctx c).coef ((matrixOf m).1 + i * (matrixOf m).2.2 + j) (leF q.payload 4) →
      imageOk (w.ctx c).hdr img = true →
      ∃ v, exec (.engWriteCoef dt p) s = .next (Safety.done s u v d stOk (toLE 8 0)) ∧
        (v.ctx c).coef = img) ∧
  (∀ (s u w : State) (dt : Nat) (p q : Pkt) (d : Deferred) (c m i j : Nat) (img : Bank F32), u = s.elapse dt →
      q = p.asRow 0x3001 →
      Safety.admitted u q = some (w, d) →
      q.payload.length = 8 →
      byteAt q.payload 0 = c →
      c ≤ 63 →
      byteAt q.payload 1 = m →
      m ≤ 13 →
      byteAt q.payload 2 = i →
      byteAt q.payload 3 = j →
      i < (matrixOf m).2.1 →
      j < (matrixOf m).2.2 →
      (w.ctx c).hdr ≠ 0 →
      (w.ctx c).pendCoef = some img →
      imageOk (w.ctx c).hdr (bset img ((matrixOf m).1 + i * (matrixOf m).2.2 + j) (leF q.payload 4)) = true →
      ∃ v, exec (.engWriteCoef dt p) s = .next (Safety.done s u v d stOk (toLE 8 1)) ∧
        (v.ctx c).pendCoef = some (bset img ((matrixOf m).1 + i * (matrixOf m).2.2 + j) (leF q.payload 4)) ∧
        (v.ctx c).pendWrites = min 65535 ((w.ctx c).pendWrites + 1) ∧
        (v.ctx c).coef = (w.ctx c).coef) ∧
  (∀ (s u w : State) (dt : Nat) (p q : Pkt) (d : Deferred) (c : Nat), u = s.elapse dt →
      q = p.asRow 0x3002 →
      Safety.admitted u q = some (w, d) →
      q.payload.length = 8 →
      byteAt q.payload 0 = c →
      c ≤ 63 →
      (w.ctx c).hdr ≠ 0 →
      zeros q.payload 1 7 = true →
      (w.ctx c).pendCoef = none →
      (w.ctx c).waitCoef = [] →
      ∃ v, exec (.engFreeze dt p) s = .next (Safety.done s u v d stOk []) ∧
        (v.ctx c).pendCoef = some (w.ctx c).coef ∧
        (v.ctx c).freezeSess = q.session.toNat ∧
        (v.ctx c).pendWrites = 0) ∧
  (∀ (s u w : State) (dt : Nat) (p q : Pkt) (d : Deferred) (c : Nat), u = s.elapse dt →
      q = p.asRow 0x3003 →
      Safety.admitted u q = some (w, d) →
      q.payload.length = 16 →
      byteAt q.payload 0 = c →
      c ≤ 63 →
      (w.ctx c).hdr ≠ 0 →
      zeros q.payload 1 7 = true →
      (w.ctx c).pendCoef.isSome = true →
      w.tooLate (le q.payload 8 8) = false →
      w.mu.norBad = false →
      ∃ v, exec (.engRelease dt p) s = .next (Safety.done s u v d stAccepted []) ∧
        ((v.ctx c).release = some (if le q.payload 8 8 = 0 then w.now + 1 else le q.payload 8 8)) ∧
        (v.ctx c).pendCoef = (w.ctx c).pendCoef) ∧
  (∀ (s u w : State) (dt : Nat) (p q : Pkt) (d : Deferred) (c : Nat) (l : List F32), u = s.elapse dt →
      q = p.asRow 0x3004 →
      Safety.admitted u q = some (w, d) →
      q.payload.length = 40 →
      byteAt q.payload 0 = c →
      c ≤ 63 →
      (w.ctx c).hdr ≠ 0 →
      byteAt q.payload 1 = hNX (w.ctx c).hdr →
      zeros q.payload 2 6 = true →
      (l = (List.range 8).map (fun i => leF q.payload (8 + 4 * i))) →
      l.all fFin = true →
      zeros q.payload (8 + 4 * hNX (w.ctx c).hdr) (32 - 4 * hNX (w.ctx c).hdr) = true →
      w.enabled (hSlice (w.ctx c).hdr) = false →
      ∃ v, exec (.engSeedState dt p) s = .next (Safety.done s u v d stOk []) ∧
        (v.ctx c).seed = some l) ∧
  (∀ (s u w : State) (dt : Nat) (p q : Pkt) (d : Deferred) (c : Nat) (l : List F32), u = s.elapse dt →
      q = p.asRow 0x3004 →
      Safety.admitted u q = some (w, d) →
      q.payload.length = 40 →
      byteAt q.payload 0 = c →
      c ≤ 63 →
      (w.ctx c).hdr ≠ 0 →
      byteAt q.payload 1 = hNX (w.ctx c).hdr →
      zeros q.payload 2 6 = true →
      (l = (List.range 8).map (fun i => leF q.payload (8 + 4 * i))) →
      l.all fFin = true →
      zeros q.payload (8 + 4 * hNX (w.ctx c).hdr) (32 - 4 * hNX (w.ctx c).hdr) = true →
      w.enabled (hSlice (w.ctx c).hdr) = true →
      w.ctxState c = 2 →
      (w.ctx c).evals = [] →
      ∃ v, exec (.engSeedState dt p) s = .next (Safety.done s u v d stOk []) ∧
        (v.ctx c).xhat = l) ∧
  (∀ (s u w : State) (dt : Nat) (p q : Pkt) (d : Deferred) (c i h h2 : Nat), u = s.elapse dt →
      q = p.asRow 0x3010 →
      Safety.admitted u q = some (w, d) →
      byteAt q.payload 1 = i →
      i ≤ 7 →
      zeros q.payload 4 4 = true →
      (h2 = (if i < 4 then putBits h (79 + 16 * i) (64 + 16 * i) (le q.payload 2 2) else putBits h (15 + 16 * (i - 4)) (16 * (i - 4)) (le q.payload 2 2))) →
      q.payload.length = 8 →
      w.stageBusy q = false →
      byteAt q.payload 0 = c →
      c ≤ 63 →
      (w.wouldBe c).1 = h →
      h ≠ 0 →
      defCheck h2 (w.wouldBe c).2 = 0 →
      ∃ v, exec (.engLink dt p) s = .next (Safety.done s u v d stOk []) ∧
        bfind v.stagedSet c = some { hdr := h2, coef := (w.wouldBe c).2, deleted := false } ∧
        v.eng.ctxs = w.eng.ctxs) ∧
  (∀ (s u w : State) (dt : Nat) (p q : Pkt) (d : Deferred) (c f h h2 : Nat), u = s.elapse dt →
      q = p.asRow 0x3011 →
      Safety.admitted u q = some (w, d) →
      byteAt q.payload 1 = f →
      f ≤ 7 →
      zeros q.payload 2 6 = true →
      (h2 = putBits (putBits (putBits h 135 128 (if f % 2 = 1 then 5 else if hDest h 0 = 5 then 0 else hDest h 0)) 230 230 (f / 2)) 229 229 (f / 4)) →
      q.payload.length = 8 →
      w.stageBusy q = false →
      byteAt q.payload 0 = c →
      c ≤ 63 →
      (w.wouldBe c).1 = h →
      h ≠ 0 →
      defCheck h2 (w.wouldBe c).2 = 0 →
      ∃ v, exec (.engGroup dt p) s = .next (Safety.done s u v d stOk []) ∧
        bfind v.stagedSet c = some { hdr := h2, coef := (w.wouldBe c).2, deleted := false } ∧
        v.eng.ctxs = w.eng.ctxs) ∧
  (∀ (s u w : State) (dt : Nat) (p q : Pkt) (d : Deferred) (df : List Nat) (r0 r1 : Nat) (hv : Bool), u = s.elapse dt →
      q = (p.asRow 0x3020).withSel 0 0 →
      Safety.admitted u q = some (w, d) →
      q.payload.length = 8 →
      zeros q.payload 1 7 = true →
      w.stageBusy q = false →
      byteAt q.payload 0 = 0 →
      (w.stagedSet.map Prod.fst).Nodup →
      w.throttled = false →
      w.mu.norBad = false →
      (w.stagedSet.all (fun e => ((w.ctx e.1).hdr = 0 || !w.enabled (hSlice (w.ctx e.1).hdr)) && (e.2.deleted || !w.enabled (hSlice e.2.hdr))) = true) →
      (df = (List.range 64).filter (fun c => (w.wouldBe c).1 ≠ 0)) →
      (r0 = ((df.filter fun c => hUnit (w.wouldBe c).1 = 0).map fun c => hdrRate (w.wouldBe c).1).sum) →
      (r1 = ((df.filter fun c => hUnit (w.wouldBe c).1 = 1).map fun c => hdrRate (w.wouldBe c).1).sum) →
      hv = decide (6400000 < r0 + r1) →
      (commitCheck (fun c => (w.wouldBe c).1) df (r0 + r1) ((df.map fun c => if hv && hShed (w.wouldBe c).1 && hUnit (w.wouldBe c).1 = 1 then hdrRate (w.wouldBe c).1 / 2 else hdrRate (w.wouldBe c).1).sum) = (stOk, 0, 0xFF)) →
      ∃ v, exec (.engCommit dt p) s = .next (Safety.done s u v d stOk (toLE 4 r0 ++ toLE 4 r1 ++ toLE 1 (b2n hv) ++ toLE 1 0xFF ++ toLE 1 0 ++ toLE 5 0)) ∧
        (∀ c < 64, (v.ctx c).hdr = (w.wouldBe c).1 ∧ (v.ctx c).coef = (w.wouldBe c).2) ∧
        v.stagedSet = []) ∧
  (∀ (s u w : State) (dt : Nat) (p q : Pkt) (d : Deferred), u = s.elapse dt →
      q = (p.asRow 0x3020).withSel 0 1 →
      Safety.admitted u q = some (w, d) →
      q.payload.length = 8 →
      zeros q.payload 1 7 = true →
      w.stageBusy q = false →
      byteAt q.payload 0 = 1 →
      ∃ v, exec (.engCommitDiscard dt p) s = .next (Safety.done s u v d stOk (engCommitReply (fun c => (w.ctx c).hdr) 0xFF 0)) ∧
        v.stagedSet = [] ∧
        v.eng.ctxs = w.eng.ctxs)

/-- The engine's events (R206 to R210, R224): a unit takes the ready evaluation, its end advances the context, the output
stamp writes the outputs, a released image is swapped in. -/
def Obligations.EngineEventsComplete : Prop :=
  (∀ (s u : State) (dt : Nat) (ctx : Fin 64) (a : Stamp) (img : Bank F32) (unit : Fin 2) (e : Eval), u = s.elapse dt →
      (u.ctx ctx.val).release = some a →
      a ≤ u.now →
      (u.ctx ctx.val).pendCoef = some img →
      u.unitOpen unit.val = true →
      u.nextEval unit.val = some (ctx.val, e) →
      ∃ t, exec (.engReleaseSwap dt ctx) s = .next t ∧
        (t.ctx ctx.val).coef = img ∧
        (t.ctx ctx.val).pendCoef = none ∧
        (t.ctx ctx.val).release = none ∧
        (t.ctx ctx.val).freezeSess = 0xFF) ∧
  (∀ (s u : State) (dt : Nat) (unit : Fin 2) (c : Nat) (e : Eval) (w : State), u = s.elapse dt →
      u.isReady = true →
      u.eng.busy.getD unit.val none = none →
      u.fenced (6 + unit.val) = false →
      u.throttled = false →
      w = u.writesFirst →
      w.eng.busy.length = 2 →
      w.nextEval unit.val = some (c, e) →
      (w.ctx c).evals = [e] →
      (w.ctx c).release = none →
      ∃ t, exec (.engEvalStart dt unit) s = .next t ∧
        t.eng.busy.getD unit.val none = some (c, u.now + 10 * hCycles (w.ctx c).hdr) ∧
        ((t.ctx c).evals.map (fun a => (a.trigger, a.started)) = [(e.trigger, some (u.now, u.now + 10 * hCycles (w.ctx c).hdr + if hDisc (w.ctx c).hdr then 80 else 0))]) ∧
        (t.ctx c).xhat = (w.ctx c).xhat) ∧
  (∀ (s u : State) (dt : Nat) (unit : Fin 2) (c : Nat) (e : Eval) (f r : Stamp) (ul xn zn : List F32) (lim stp : Bool), u = s.elapse dt →
      u.eng.busy.length = 2 →
      u.eng.busy.getD unit.val none = some (c, r) →
      r ≤ u.now →
      c < 64 →
      (u.ctx c).evals = [e] →
      e.unit = unit.val →
      e.done = false →
      e.started = some (f, r) →
      e.result = some (ul, xn, zn, lim, stp) →
      hEarly (u.ctx c).hdr = false →
      r ≤ u.outAt (outStamp (u.ctx c).hdr e.sample) →
      (u.ctx c).waitSeed = none →
      (u.ctx c).waitCoef = [] →
      ((List.range 64).all (fun d => d = c || (u.ctx d).evals = []) = true) →
      ∃ t, exec (.engEvalDone dt unit) s = .next t ∧
        t.eng.busy.getD unit.val none = none ∧
        (t.ctx c).evals = [{ e with done := true }] ∧
        (t.ctx c).xhat = padTo 8 xn ∧
        (t.ctx c).z = padTo 4 zn ∧
        (t.ctx c).consec = 0 ∧
        (t.ctx c).out = (u.ctx c).out) ∧
  (∀ (s u : State) (dt : Nat) (ctx : Fin 64) (e : Eval) (ul xn zn : List F32) (lim stp : Bool), u = s.elapse dt →
      (u.ctx ctx.val).hdr ≠ 0 →
      (u.ctx ctx.val).evals = [e] →
      (u.ctx ctx.val).repeats = [] →
      e.done = true →
      e.result = some (ul, xn, zn, lim, stp) →
      hEarly (u.ctx ctx.val).hdr = false →
      outStamp (u.ctx ctx.val).hdr e.sample ≤ u.now →
      hMember (u.ctx ctx.val).hdr = false →
      u.chained ctx.val = [] →
      ((u.ctxWith (fun h => hSlice h = hSlice (u.ctx ctx.val).hdr)).filter u.hasWrite = [ctx.val]) →
      ∃ t, exec (.engOutputWrite dt ctx) s = .next t ∧
        (t.ctx ctx.val).out = padTo 4 ul ∧
        (t.ctx ctx.val).lastSample = e.sample ∧
        (t.ctx ctx.val).lastOutput = u.now ∧
        (t.ctx ctx.val).evals = []) ∧
  (∀ (s u : State) (dt : Nat) (ctx : Fin 64) (a b : Stamp) (late shed : Bool), u = s.elapse dt →
      (u.ctx ctx.val).hdr ≠ 0 →
      (u.ctx ctx.val).evals = [] →
      (u.ctx ctx.val).repeats = [(a, b, late, shed)] →
      a ≤ u.now →
      hMember (u.ctx ctx.val).hdr = false →
      u.chained ctx.val = [] →
      ((u.ctxWith (fun h => hSlice h = hSlice (u.ctx ctx.val).hdr)).filter u.hasWrite = [ctx.val]) →
      ∃ t, exec (.engOutputWrite dt ctx) s = .next t ∧
        (t.ctx ctx.val).out = padTo 4 (u.ctx ctx.val).out ∧
        (t.ctx ctx.val).lastSample = b ∧
        (t.ctx ctx.val).lastOutput = u.now ∧
        (t.ctx ctx.val).repeats = [])

/-- The CAN opcodes (R349 to R365): a configuration is stored and taken, filters are stored, frames are queued, cancelled and
acknowledged, and each read answers what is stored. -/
def Obligations.CanOpcodesComplete : Prop :=
  (∀ (s u w : State) (dt : Nat) (p q : Pkt) (d : Deferred) (c : Nat), u = s.elapse dt →
      q = p.asRow 0x5000 →
      Safety.admitted u q = some (w, d) →
      c = q.target.toNat - 0x10 →
      w.fenced (8 + c) = false →
      q.payload.length = 160 →
      (w.canU c).mode = 0 ∨ byteAt q.payload 0 = 0 →
      canCfgOk q.payload = true →
      w.mu.norBad = false →
      ∃ v, exec (.netCanConfig dt p) s = .next (Safety.done s u v d stOk []) ∧
        (v.canU c).cfg = q.payload ∧
        (v.canU c).mode = byteAt q.payload 0 ∧
        (v.canU c).tec = 0 ∧
        (v.canU c).recCnt = 0 ∧
        (v.canU c).busOff = false ∧
        (byteAt q.payload 0 = 0 → (v.canU c).tx = []) ∧
        v.obj (Obj.CAN_RATE_IDX + c) = 0xFF) ∧
  (∀ (s u w : State) (dt : Nat) (p q : Pkt) (d : Deferred) (c : Nat), u = s.elapse dt →
      q = { p.asRow 0x5000 with payload := [] } →
      Safety.admitted u q = some (w, d) →
      c = q.target.toNat - 0x10 →
      w.fenced (8 + c) = false →
      ∃ v, exec (.netCanConfigRead dt p) s = .next (Safety.done s u v d stOk (w.canU c).cfgBytes) ∧
        v = w.setCur none) ∧
  (∀ (s u w : State) (dt : Nat) (p q : Pkt) (d : Deferred) (c first n : Nat), u = s.elapse dt →
      q = (p.asRow 0x5001).withSel 6 0 →
      Safety.admitted u q = some (w, d) →
      c = q.target.toNat - 0x10 →
      le q.payload 0 2 = first →
      le q.payload 2 2 = n →
      w.fenced (8 + c) = false →
      zeros q.payload 7 1 = true →
      n ≤ 254 →
      first ≤ 4095 →
      first + n ≤ 4096 →
      le q.payload 4 2 ≤ 4096 ∨ le q.payload 4 2 = 0xFFFF →
      q.payload.length = 8 + 16 * n →
      byteAt q.payload 6 = 0 →
      (((List.range n).map fun i => le q.payload (8 + 16 * i) 16).all filterOk = true) →
      w.mu.norBad = false →
      ∃ v, exec (.netCanFilter dt p) s = .next (Safety.done s u v d stOk []) ∧
        ((v.canU c).filters = (List.range n).foldl (fun f i => bset f (first + i) (le q.payload (8 + 16 * i) 16)) (w.canU c).filters) ∧
        ((v.canU c).listLen = if le q.payload 4 2 = 0xFFFF then (w.canU c).listLen else le q.payload 4 2)) ∧
  (∀ (s u w : State) (dt : Nat) (p q : Pkt) (d : Deferred) (c first n : Nat), u = s.elapse dt →
      q = (p.asRow 0x5001).withSel 6 1 →
      Safety.admitted u q = some (w, d) →
      c = q.target.toNat - 0x10 →
      le q.payload 0 2 = first →
      le q.payload 2 2 = n →
      w.fenced (8 + c) = false →
      zeros q.payload 7 1 = true →
      n ≤ 254 →
      first ≤ 4095 →
      first + n ≤ 4096 →
      le q.payload 4 2 ≤ 4096 ∨ le q.payload 4 2 = 0xFFFF →
      q.payload.length = 8 →
      byteAt q.payload 6 = 1 →
      ∃ v, exec (.netCanFilterRead dt p) s = .next (Safety.done s u v d stOk ((List.range n).flatMap fun i => toLE 16 (bget 0 (w.canU c).filters (first + i)))) ∧
        v = w.setCur none) ∧
  (∀ (s u w : State) (dt : Nat) (p q : Pkt) (d : Deferred) (c k : Nat), u = s.elapse dt →
      q = p.asRow 0x5002 →
      Safety.admitted u q = some (w, d) →
      c = q.target.toNat - 0x10 →
      byteAt q.payload 0 = k →
      q.payload.length = 88 →
      w.fenced (8 + c) = false →
      (w.canU c).mode ≠ 0 →
      (bget [] (w.canU c).tx k).length < (w.canU c).txDepth k →
      w.canTxOk c q.payload = true →
      ∃ v, exec (.netCanTx dt p) s = .next (Safety.done s u v d stAccepted (toLE 2 (bget 0 (w.canU c).txIdx k))) ∧
        ((bget [] (v.canU c).tx k).map (fun e => (e.frame, e.oneShot, e.tag, e.expiry)) = (bget [] (w.canU c).tx k).map (fun e => (e.frame, e.oneShot, e.tag, e.expiry)) ++ [({ id := le q.payload 4 4, ide := bit (byteAt q.payload 1) 0, rtr := bit (byteAt q.payload 1) 3, fdf := bit (byteAt q.payload 1) 1, brs := bit (byteAt q.payload 1) 2, dlc := byteAt q.payload 2, data := (q.payload.drop 24).take (dlcLen (bit (byteAt q.payload 1) 1) (byteAt q.payload 2)) }, bit (byteAt q.payload 1) 4, le q.payload 8 2, le q.payload 16 8)])) ∧
  (∀ (s u w : State) (dt : Nat) (p q : Pkt) (d : Deferred) (c k i : Nat) (e : CanTx), u = s.elapse dt →
      q = p.asRow 0x5003 →
      Safety.admitted u q = some (w, d) →
      c = q.target.toNat - 0x10 →
      byteAt q.payload 0 = k →
      k ≤ 3 →
      q.payload.length = 8 →
      w.fenced (8 + c) = false →
      zeros q.payload 1 1 = true →
      zeros q.payload 4 4 = true →
      ((bget [] (w.canU c).tx k).findIdx? (fun x => x.tag = le q.payload 2 2) = some i) →
      (bget [] (w.canU c).tx k)[i]? = some e →
      e.sof = none ∨ e.sof = some w.now →
      ∃ v, exec (.netCanCancel dt p) s = .next (Safety.done s u v d stOk []) ∧
        bget [] (v.canU c).tx k = (bget [] (w.canU c).tx k).eraseIdx i) ∧
  (∀ (s u w : State) (dt : Nat) (p q : Pkt) (d : Deferred) (c k i : Nat) (e : CanTx), u = s.elapse dt →
      q = p.asRow 0x5003 →
      Safety.admitted u q = some (w, d) →
      c = q.target.toNat - 0x10 →
      byteAt q.payload 0 = k →
      k ≤ 3 →
      q.payload.length = 8 →
      w.fenced (8 + c) = false →
      zeros q.payload 1 1 = true →
      zeros q.payload 4 4 = true →
      ((bget [] (w.canU c).tx k).findIdx? (fun x => x.tag = le q.payload 2 2) = some i) →
      (bget [] (w.canU c).tx k)[i]? = some e →
      e.sof.isSome = true →
      e.sof ≠ some w.now →
      ∃ v, exec (.netCanCancel dt p) s = .next (Safety.done s u v d stAccepted []) ∧
        bget [] (v.canU c).tx k = (bget [] (w.canU c).tx k).set i { e with marked := true }) ∧
  (∀ (s u w : State) (dt : Nat) (p q : Pkt) (d : Deferred) (c k n f : Nat), u = s.elapse dt →
      q = p.asRow 0x5004 →
      Safety.admitted u q = some (w, d) →
      c = q.target.toNat - 0x10 →
      byteAt q.payload 0 = k →
      le q.payload 2 2 = n →
      byteAt q.payload 4 = f →
      q.payload.length = 8 →
      w.fenced (8 + c) = false →
      k ≤ 8 →
      zeros q.payload 1 1 = true →
      n ≤ 512 →
      f ≤ 40 →
      zeros q.payload 5 3 = true →
      n ≤ ((w.canU c).owned k).length →
      ∃ v, exec (.netCanAck dt p) s = .next (Safety.done s u v d stOk (toLE 2 (((w.canU c).owned k).length - n) ++ toLE 1 (min f (((w.canU c).owned k).length - n)) ++ toLE 5 0 ++ ((((w.canU c).owned k).drop n).take f).flatMap id)) ∧
        (v.canU c).owned k = ((w.canU c).owned k).drop n)

/-- The bus events of a controller (R352 to R368): reception, transmission, errors, bus-off and its end, expiry, rate detection,
publishing and acknowledgement. How far an error moves its counter is taken from ISO 11898-1, which R354 names (the model's, log entry 56). -/
def Obligations.CanEventsComplete : Prop :=
  (∀ (s u : State) (dt : Nat) (c : Fin 4) (f : CanFrame) (sofAgo eofAgo n e : Nat), u = s.elapse dt →
      u.canOn c.val = true →
      (u.canU c.val).busOff = false →
      u.canDetects c.val = false →
      f.fdf = false ∨ bit (byteAt (u.canU c.val).cfg 1) 0 = true →
      (u.canU c.val).isTunnel f = false →
      (u.canU c.val).hits f = ([(n, e)], true) →
      bits e 124 123 = 0 →
      bits e 115 112 ≤ 7 →
      (bget [] (u.canU c.val).rx (bits e 115 112)).length < (u.canU c.val).rxDepth (bits e 115 112) →
      u.canFeedsMap c.val f = false →
      (u.canU c.val).recCnt ≤ 127 →
      ∃ t, exec (.canFrameRx dt c f sofAgo eofAgo) s = .next t ∧
        ((bget [] (t.canU c.val).rx (bits e 115 112)).map (fun r => (r.frame, r.filt, r.rcd.stamp, r.eof)) = (bget [] (u.canU c.val).rx (bits e 115 112)).map (fun r => (r.frame, r.filt, r.rcd.stamp, r.eof)) ++ [(f, n, u.stampAgo sofAgo, u.stampAgo eofAgo)]) ∧
        (t.canU c.val).integrating = false ∧
        ((t.canU c.val).recCnt = if u.canListens c.val then (u.canU c.val).recCnt else (u.canU c.val).recCnt - 1)) ∧
  (∀ (s u : State) (dt : Nat) (c : Fin 4) (k : Nat) (e : CanTx), u = s.elapse dt →
      u.canOn c.val = true →
      u.canListens c.val = false →
      (u.canU c.val).busOff = false →
      (u.canU c.val).sending = none →
      (u.canU c.val).integrating = false →
      (u.canU c.val).offer u.now = some (k, e) →
      (bget [] (u.canU c.val).tx k).head? = some e →
      ∃ t, exec (.canTxSof dt c) s = .next t ∧
        bget [] (t.canU c.val).tx k = { e with sof := some u.now, attempts := e.attempts + 1 } :: (bget [] (u.canU c.val).tx k).drop 1) ∧
  (∀ (s u : State) (dt : Nat) (c : Fin 4) (k : Nat) (e : CanTx), u = s.elapse dt →
      (u.canU c.val).sending = some (k, e) →
      ∃ t, exec (.canTxDone dt c) s = .next t ∧
        bget [] (t.canU c.val).tx k = (bget [] (u.canU c.val).tx k).drop 1 ∧
        (t.canU c.val).tec = (u.canU c.val).tec - 1 ∧
        (e.tag ≠ 0 → (u.canU c.val).reports.length < 64 → (t.canU c.val).reports.map (fun r => (r.frame, r.outcome, r.tag, r.queue)) = (u.canU c.val).reports.map (fun r => (r.frame, r.outcome, r.tag, r.queue)) ++ [(e.frame, 0, e.tag, k)])) ∧
  (∀ (s u : State) (dt : Nat) (c : Fin 4) (k : Nat) (e : CanTx), u = s.elapse dt →
      (u.canU c.val).sending = some (k, e) →
      e.marked = false →
      e.oneShot = false →
      ∃ t, exec (.canArbitrationLost dt c) s = .next t ∧
        bget [] (t.canU c.val).tx k = { e with sof := none } :: (bget [] (u.canU c.val).tx k).drop 1 ∧
        (t.canU c.val).tec = (u.canU c.val).tec) ∧
  (∀ (s u : State) (dt : Nat) (c : Fin 4) (k : Nat) (e : CanTx), u = s.elapse dt →
      (u.canU c.val).sending = some (k, e) →
      e.marked = true ∨ e.oneShot = true →
      ∃ t, exec (.canArbitrationLost dt c) s = .next t ∧
        bget [] (t.canU c.val).tx k = (bget [] (u.canU c.val).tx k).drop 1 ∧
        (t.canU c.val).tec = (u.canU c.val).tec) ∧
  (∀ (s u : State) (dt : Nat) (c : Fin 4) (er : CanError) (dataPhase dom : Bool) (k : Nat) (e : CanTx), u = s.elapse dt →
      u.canOn c.val = true →
      (u.canU c.val).busOff = false →
      u.canDetects c.val = false →
      u.canListens c.val = false →
      dataPhase = false ∨ bit (u.obj (Obj.CAN_STAT + c.val)) 12 = false ∨ (u.canU c.val).mode ≠ 3 →
      (u.canU c.val).sending = some (k, e) →
      er ≠ .bitInData →
      er ≠ .ack ∨ (u.canU c.val).tec ≤ 127 ∨ dom = true →
      e.marked = false →
      e.oneShot = false →
      ∃ t, exec (.canBusError dt c er dataPhase true dom) s = .next t ∧
        (t.canU c.val).tec = (u.canU c.val).tec + 8 ∧
        bget [] (t.canU c.val).tx k = { e with sof := none } :: (bget [] (u.canU c.val).tx k).drop 1 ∧
        (t.canU c.val).busOff = decide (247 < (u.canU c.val).tec)) ∧
  (∀ (s u : State) (dt : Nat) (c : Fin 4) (er : CanError) (dataPhase dom : Bool), u = s.elapse dt →
      u.canOn c.val = true →
      (u.canU c.val).busOff = false →
      u.canDetects c.val = false →
      u.canListens c.val = false →
      dataPhase = false ∨ bit (u.obj (Obj.CAN_STAT + c.val)) 12 = false ∨ (u.canU c.val).mode ≠ 3 →
      ∃ t, exec (.canBusError dt c er dataPhase false dom) s = .next t ∧
        ((t.canU c.val).recCnt = min 255 ((u.canU c.val).recCnt + (if dom then 9 else 1))) ∧
        (t.canU c.val).tec = (u.canU c.val).tec ∧
        (t.canU c.val).tx = (u.canU c.val).tx) ∧
  (∀ (s u : State) (dt : Nat) (c : Fin 4), u = s.elapse dt →
      u.canOn c.val = true →
      (u.canU c.val).busOff = true →
      (u.canU c.val).busOffAt + le (u.canU c.val).cfg 4 2 * msUnits + 1408 * (u.canU c.val).bitUnits ≤ u.clk →
      ∃ t, exec (.canBusOffRecovery dt c) s = .next t ∧
        (t.canU c.val).busOff = false ∧
        (t.canU c.val).tec = 0 ∧
        (t.canU c.val).recCnt = 0) ∧
  (∀ (s u : State) (dt : Nat) (c k : Fin 4) (e : CanTx), u = s.elapse dt →
      (bget [] (u.canU c.val).tx k.val).head? = some e →
      e.expiry ≠ 0 →
      e.expiry < u.now →
      e.sof = none →
      ∃ t, exec (.canTxExpire dt c k) s = .next t ∧
        bget [] (t.canU c.val).tx k.val = (bget [] (u.canU c.val).tx k.val).drop 1 ∧
        bit (t.obj (Obj.CAN_STAT + c.val)) 2 = true) ∧
  (∀ (s u : State) (dt : Nat) (c : Fin 4), u = s.elapse dt →
      u.canDetects c.val = true →
      (u.canU c.val).rateSof = false →
      (u.canU c.val).rateStart + 100 * msUnits ≤ u.clk →
      u.canFrameComes c = false →
      ∃ t, exec (.canRateTimeout dt c) s = .next t ∧
        (t.canU c.val).ratePair = ((u.canU c.val).ratePair + 1) % max 1 (byteAt (u.canU c.val).cfg 6) ∧
        (t.canU c.val).rateStart = u.clk ∧
        (t.canU c.val).rateGood = 0) ∧
  (∀ (s u : State) (dt : Nat) (slot : Fin 256) (n : Nat), u = s.elapse dt →
      n = u.obj (Obj.CAN_PUB + slot.val) →
      bit n 127 = true →
      u.pubDue slot.val n = true →
      u.publishes = true →
      u.cpGone = false →
      u.canOn (bits n 126 125) = true →
      ((bget [] (u.canU (bits n 126 125)).tx 3).findIdx? (fun e => e.slot = some slot.val && e.sof.isNone) = none) →
      (bget [] (u.canU (bits n 126 125)).tx 3).length < (u.canU (bits n 126 125)).txDepth 3 →
      ∃ t, exec (.canPublish dt slot) s = .next t ∧
        ((bget [] (t.canU (bits n 126 125)).tx 3).map (fun e => (e.frame.id, e.frame.ide, e.frame.fdf, e.frame.dlc)) = (bget [] (u.canU (bits n 126 125)).tx 3).map (fun e => (e.frame.id, e.frame.ide, e.frame.fdf, e.frame.dlc)) ++ [(bits n 28 0, bit n 124, bit n 123, bits n 121 118)]) ∧
        ((bget [] (t.canU (bits n 126 125)).tx 3).map (fun e => (e.tag, e.slot)) = (bget [] (u.canU (bits n 126 125)).tx 3).map (fun e => (e.tag, e.slot)) ++ [(bits n 111 96, some slot.val)]) ∧
        bget 0 t.canPub slot.val = u.now) ∧
  (∀ (s u : State) (dt : Nat) (c : Fin 4) (k : Fin 9) (n : Nat), u = s.elapse dt →
      u.isReady = true →
      n % 1024 + u.ackFirst c.val k.val ≤ ((u.canU c.val).owned k.val).length →
      ∃ t, exec (.canQackDoorbell dt c k n) s = .next t ∧
        (t.canU c.val).owned k.val = ((u.canU c.val).owned k.val).drop (n % 1024))

/-- NET_ETH_CONFIG and the events of an Ethernet port (R78, R369 to R377): a valid configuration is stored and taken, an empty
payload answers what is stored; frames received and sent, the link, gPTP messages, published frames. -/
def Obligations.EthernetCommandsComplete : Prop :=
  (∀ (s u w : State) (dt : Nat) (p q : Pkt) (d : Deferred) (n : Nat), u = s.elapse dt →
      q = p.asRow 0x5010 →
      Safety.admitted u q = some (w, d) →
      n = q.target.toNat - 0x18 →
      n < 2 →
      q.payload.length = 40 →
      (w.ethU n).on = false ∨ byteAt q.payload 0 = 0 →
      ethCfgOk q.payload = true →
      w.mu.norBad = false →
      ∃ v, exec (.netEthConfig dt p) s = .next (Safety.doneT s v d stOk []) ∧
        (v.ethU n).cfg = q.payload ∧
        (v.ethU n).on = decide (byteAt q.payload 0 = 1) ∧
        (byteAt q.payload 0 = 0 → (v.ethU n).link = false ∧ (v.ethU n).txq = [] ∧ (v.ethU n).asCapable = false)) ∧
  (∀ (s u w : State) (dt : Nat) (p q : Pkt) (d : Deferred) (n : Nat), u = s.elapse dt →
      q = { p.asRow 0x5010 with payload := [] } →
      Safety.admitted u q = some (w, d) →
      n = q.target.toNat - 0x18 →
      ∃ v, exec (.netEthConfigRead dt p) s = .next (Safety.done s u v d stOk (w.ethU n).cfgBytes) ∧
        v = w.setCur none) ∧
  (∀ (s u : State) (dt : Nat) (port : Fin 2) (kind len : Nat) (fcsOk : Bool) (body : List Byte), u = s.elapse dt →
      u.isReady = true →
      (u.ethU port.val).on = true →
      (u.ethU port.val).link = true →
      1522 < len ∨ fcsOk = false →
      ∃ t, exec (.ethFrameRx dt port kind len fcsOk body) s = .next t ∧
        t.obj (Obj.ETH_RX_DISCARDS + port.val) = min 0xFFFFFFFF (u.obj (Obj.ETH_RX_DISCARDS + port.val) + 1) ∧
        t.eth = u.eth) ∧
  (∀ (s u : State) (dt : Nat) (port : Fin 2) (len : Nat) (body : List Byte), u = s.elapse dt →
      u.isReady = true →
      (u.ethU port.val).on = true →
      (u.ethU port.val).link = true →
      len ≤ 1522 →
      u.cp.restarting = false →
      ∃ t, exec (.ethFrameRx dt port 1 len true body) s = .next t ∧
        (t.ethU port.val).txq = (u.ethU port.val).txq ++ [{ queue := 0, tag := 0, slot := none, kind := 3, payload := body }]) ∧
  (∀ (s u : State) (dt : Nat) (port : Fin 2) (len : Nat) (body : List Byte) (n : Fin 4), u = s.elapse dt →
      u.isReady = true →
      (u.ethU port.val).on = true →
      (u.ethU port.val).link = true →
      len ≤ 1522 →
      u.cp.restarting = false →
      (u.host.reasm.any (fun e => e.2.1 = le body 0 2) = false) →
      ((List.range 4).find? (fun n => (bfind u.host.reasm n).isNone) = some n.val) →
      ∃ t, exec (.ethFrameRx dt port 5 len true body) s = .next t ∧
        bfind t.host.reasm n.val = some (le body 0 2, u.clk + 10 * msUnits, len - 38)) ∧
  (∀ (s u : State) (dt : Nat) (port : Fin 2) (i : Nat) (e : EthTx), u = s.elapse dt →
      u.isReady = true →
      (u.ethU port.val).on = true →
      (u.ethU port.val).link = true →
      (u.ethU port.val).next = some i →
      (u.ethU port.val).txq[i]? = some e →
      ∃ t, exec (.ethFrameTx dt port) s = .next t ∧
        (t.ethU port.val).txq = (u.ethU port.val).txq.eraseIdx i ∧
        (e.tag = 0 → (t.ethU port.val).txts = (u.ethU port.val).txts) ∧
        (e.tag ≠ 0 → (u.ethU port.val).txts.length < u.txtsRoom port.val → (t.ethU port.val).txts = (u.ethU port.val).txts ++ [{ stamp := u.sfdStamp port.val + u.obj (Obj.ETH0_TX_LAT + 0x10 * port.val), tag := e.tag, tq := u.tqAt (u.sfdStamp port.val + u.obj (Obj.ETH0_TX_LAT + 0x10 * port.val)) }]) ∧
        (e.tag ≠ 0 → u.txtsRoom port.val ≤ (u.ethU port.val).txts.length → (t.ethU port.val).txts = (u.ethU port.val).txts ∧ (t.ethU port.val).ovf = true ∧ (t.ethU port.val).drops = min 65535 ((u.ethU port.val).drops + 1))) ∧
  (∀ (s u : State) (dt : Nat) (port : Fin 2) (speed : Fin 4), u = s.elapse dt →
      u.isReady = true →
      (u.ethU port.val).on = true →
      ∃ t, exec (.ethLinkChange dt port true speed) s = .next t ∧
        (t.ethU port.val).link = true ∧
        (t.ethU port.val).speed = speed.val) ∧
  (∀ (s u : State) (dt : Nat) (port : Fin 2) (speed : Fin 4), u = s.elapse dt →
      u.isReady = true →
      (u.ethU port.val).on = true →
      ∃ t, exec (.ethLinkChange dt port false speed) s = .next t ∧
        (t.ethU port.val).link = false ∧
        (t.ethU port.val).speed = 0 ∧
        (t.ethU port.val).asCapable = false ∧
        (t.ethU port.val).portState = 0) ∧
  (∀ (s u : State) (dt : Nat) (port : Fin 2) (delayNs : Nat), u = s.elapse dt →
      u.isReady = true →
      (u.ethU port.val).ptp = true →
      ∃ t, exec (.ptpPdelayExchange dt port delayNs) s = .next t ∧
        (t.ethU port.val).asCapable = decide (delayNs ≤ le (u.ethU port.val).cfg 30 2)) ∧
  (∀ (s u : State) (dt : Nat) (port : Fin 2) (source gm prio : Nat) (utcOffset logSync : Int), u = s.elapse dt →
      u.isReady = true →
      (u.ethU port.val).ptp = true →
      (u.ethU port.val).bestPrio = none ∨ (u.ethU port.val).parent = source →
      ∃ t, exec (.ptpAnnounceRx dt port source gm prio utcOffset logSync) s = .next t ∧
        (t.ethU port.val).bestPrio = some prio ∧
        (t.ethU port.val).parent = source ∧
        (t.ethU port.val).gmId = gm ∧
        ((t.ethU port.val).portState = 2 → (t.ethU port.val).logSync = logSync ∧ t.obj Obj.TIM_UTC_OFFSET = unsgn 16 utcOffset)) ∧
  (∀ (s u : State) (dt : Nat) (port : Fin 2), u = s.elapse dt →
      u.isReady = true →
      (u.ethU port.val).ptp = true →
      (u.ethU port.val).portState = 3 →
      u.inFlask = false ∨ u.isActive = true →
      (u.ethU port.val).syncDue ≤ u.clk →
      ∃ t, exec (.ptpSyncTx dt port) s = .next t ∧
        (t.ethU port.val).syncDue = u.clk + sUnits / 2 ^ (-(leS (u.ethU port.val).cfg 26 1)).toNat ∧
        (t.ethU port.val).txq.length = (u.ethU port.val).txq.length + 2 ∧
        (((t.ethU port.val).txq.drop (u.ethU port.val).txq.length).map (fun e => (e.queue, e.kind)) = [(7, 0), (7, 0)])) ∧
  (∀ (s u : State) (dt : Nat) (slot : Fin 64) (n k : Nat), u = s.elapse dt →
      n = u.obj (Obj.ETH_PUB + slot.val) →
      k = b2n (bit n 126) →
      bit n 127 = true →
      u.pubDue (256 + slot.val) n = true →
      u.publishes = true →
      (u.ethU k).on = true →
      ((u.ethU k).txq.findIdx? (fun e => e.slot = some slot.val) = none) →
      ∃ t, exec (.ethPublish dt slot) s = .next t ∧
        ((t.ethU k).txq.map (fun e => (e.queue, e.tag, e.slot, e.kind)) = (u.ethU k).txq.map (fun e => (e.queue, e.tag, e.slot, e.kind)) ++ [(bits n 125 123, bits n 111 96, some slot.val, 2)]) ∧
        bget 0 (t.ethU k).pubSeq slot.val = (bget 0 (u.ethU k).pubSeq slot.val + 1) % 65536 ∧
        bget 0 t.canPub (256 + slot.val) = u.now) ∧
  (∀ (s u : State) (dt : Nat) (port : Fin 2) (assembly : Stamp) (node slot tqv seq : Nat) (data : List Byte) (n : Nat), u = s.elapse dt →
      u.isReady = true →
      (u.ethU port.val).on = true →
      (u.ethU port.val).link = true →
      ((List.range 64).filter (fun j => bit (u.obj (Obj.ETH_SUB + j)) 127 && b2n (bit (u.obj (Obj.ETH_SUB + j)) 126) = port.val && bits (u.obj (Obj.ETH_SUB + j)) 125 112 = node && bits (u.obj (Obj.ETH_SUB + j)) 111 104 = slot) = [n]) →
      u.follows = false →
      u.sigEntries false (4 + port.val) n = [] →
      ∃ t, exec (.ethPublishRx dt port assembly node slot tqv seq data) s = .next t ∧
        bfind (t.ethU port.val).subSeq n = some (seq % 65536) ∧
        (∀ e, bfind (u.ethU port.val).subSeq n = some e → (e + 1) % 65536 ≠ seq % 65536 → bit (t.obj (Obj.ETH_STAT + port.val)) 0 = true)) ∧
  (∀ (s u : State) (dt : Nat) (port : Fin 2) (assembly : Stamp) (node slot tqv seq : Nat) (data : List Byte) (n e val : Nat) (x : Desc), u = s.elapse dt →
      u.isReady = true →
      (u.ethU port.val).on = true →
      (u.ethU port.val).link = true →
      ((List.range 64).filter (fun j => bit (u.obj (Obj.ETH_SUB + j)) 127 && b2n (bit (u.obj (Obj.ETH_SUB + j)) 126) = port.val && bits (u.obj (Obj.ETH_SUB + j)) 125 112 = node && bits (u.obj (Obj.ETH_SUB + j)) 111 104 = slot) = [n]) →
      bits (u.obj (Obj.ETH_SUB + n)) 63 32 = 0 →
      u.inFlask = false →
      u.follows = false →
      u.sigEntries false (4 + port.val) n = [e] →
      descOf (bits e 80 64) = some x →
      x.acc = 1 →
      x.per ≠ 2 →
      u.mu.norBad = false →
      u.cmdChanged Obj.TIM_LOCK_THRESH = false →
      bits e 80 64 = Obj.TIM_LOCK_THRESH →
      (sigValue e x (if bit e 124 then sgn (bits e 86 81 + 1) (sigRaw e data) else (sigRaw e data : Int)) = some val) →
      x.inRange val = true →
      ∃ t, exec (.ethPublishRx dt port assembly node slot tqv seq data) s = .next t ∧
        t.obj Obj.TIM_LOCK_THRESH = u.mergeWrite x Obj.TIM_LOCK_THRESH val ∧
        bget {} t.dict.info Obj.TIM_LOCK_THRESH = { stamp := u.rxStamp port.val false, session := 0xFE })

/-- The safety opcodes (R311 to R314): a correct password opens SAFETY level, a password is set, a staged set is committed and the
change log is read. -/
def Obligations.SafetyOpcodesComplete : Prop :=
  (∀ (s u w : State) (dt : Nat) (p q : Pkt) (d : Deferred) (x : Session) (n : Nat) (salt : List Byte), u = s.elapse dt →
      q = (p.asRow 0x6000).withSel 0 0 →
      Safety.admitted u q = some (w, d) →
      q.payload.length = 68 →
      byteAt q.payload 0 = 0 →
      byteAt q.payload 1 = n →
      byteAt q.payload 2 = 0 →
      byteAt q.payload 3 = 0 →
      pwOk q.payload 4 n true = true →
      0 < n →
      zeros q.payload 36 32 = true →
      w.ref.lockUntil = none →
      w.linkAllows q.link 3 = true →
      w.safetyHolder = none →
      w.sessOf q = some x →
      w.ref.pw = some (salt, pwHashOf salt ((q.payload.drop 4).take n)) →
      ∃ v, exec (.safLogin dt p) s = .next (Safety.done s u v d stOk []) ∧
        v.sess q.session.toNat = some { x with level := 3 } ∧
        v.ref.loginFails = 0) ∧
  (∀ (s u w : State) (dt : Nat) (p q : Pkt) (d : Deferred) (m : Nat), u = s.elapse dt →
      q = (p.asRow 0x6000).withSel 0 1 →
      Safety.admitted u q = some (w, d) →
      q.payload.length = 68 →
      byteAt q.payload 0 = 1 →
      byteAt q.payload 1 = 0 →
      byteAt q.payload 2 = m →
      byteAt q.payload 3 = 0 →
      pwOk q.payload 4 0 true = true →
      pwOk q.payload 36 m false = true →
      w.ref.lockUntil = none →
      w.ref.pw = none →
      w.mu.lc ≠ 2 →
      w.mu.lc ≠ 4 →
      w.mu.norBad = false →
      ∃ v, exec (.safSetPassword dt p) s = .next (Safety.done s u v d stOk []) ∧
        v.ref.pw = some (toLE 16 w.drawNat.1, pwHashOf (toLE 16 w.drawNat.1) ((q.payload.drop 36).take m)) ∧
        v.ref.loginFails = 0 ∧
        v.ref.changeNext = w.ref.changeNext + 1) ∧
  (∀ (s u w : State) (dt : Nat) (p q : Pkt) (d : Deferred) (l : List ObjRec), u = s.elapse dt →
      q = p.asRow 0x6001 →
      Safety.admitted u q = some (w, d) →
      q.payload.length = 8 →
      q.flags.getLsbD 3 = true →
      zeros q.payload 4 4 = true →
      l = sortRecs (w.stagedOf q.session.toNat) →
      l = [] →
      ∃ v, exec (.safCommit dt p) s = .next (Safety.done s u v d stOk (commitReply (w.obj Obj.SAF_COMMIT_COUNT) (w.obj Obj.SAF_SET_CRC) 0 0xFFFFFF)) ∧
        v = w.setCur none) ∧
  (∀ (s u w : State) (dt : Nat) (p q : Pkt) (d : Deferred) (l : List ObjRec), u = s.elapse dt →
      q = p.asRow 0x6001 →
      Safety.admitted u q = some (w, d) →
      q.payload.length = 8 →
      q.flags.getLsbD 3 = true →
      zeros q.payload 4 4 = true →
      l = sortRecs (w.stagedOf q.session.toNat) →
      l ≠ [] →
      (l.map ObjRec.idx).Nodup →
      (l.all (fun r => r.idx ≠ Obj.SAF_COMMIT_COUNT && r.idx ≠ Obj.SAF_SET_CRC && r.idx ≠ Obj.SAF_STAGED_COUNT) = true) →
      le q.payload 0 4 = crc32c (recsBytes l) →
      w.commitBad l = none →
      ((l.filter fun r => w.obj r.idx ≠ w.commitVal r).find? (fun r => match w.safSlices r.idx r.data with | some ks => ks.any w.enabled | none => w.anyEnabled) = none) →
      w.mu.norBad = false →
      ∃ v, exec (.safCommit dt p) s = .next (Safety.done s u v d stOk (commitReply (min 0xFFFFFFFF (w.obj Obj.SAF_COMMIT_COUNT + 1)) (v.obj Obj.SAF_SET_CRC) (l.filter fun r => w.obj r.idx ≠ w.commitVal r).length 0xFFFFFF)) ∧
        (∀ r ∈ l, v.obj r.idx = w.commitVal r) ∧
        v.obj Obj.SAF_COMMIT_COUNT = min 0xFFFFFFFF (w.obj Obj.SAF_COMMIT_COUNT + 1) ∧
        v.obj Obj.SAF_STAGED_COUNT = 0 ∧
        v.stagedOf q.session.toNat = []) ∧
  (∀ (s u w : State) (dt : Nat) (p q : Pkt) (d : Deferred) (n : Nat) (es : List ChangeEntry), u = s.elapse dt →
      q = p.asRow 0x6002 →
      Safety.admitted u q = some (w, d) →
      q.payload.length = 8 →
      byteAt q.payload 4 = n →
      0 < n →
      n ≤ 126 →
      zeros q.payload 5 3 = true →
      (es = ((List.range n).map (max (le q.payload 0 4) (w.ref.changeNext - w.ref.changeLog.length) + ·)).filterMap (fun i => if i < w.ref.changeNext then w.ref.changeLog[w.ref.changeNext - 1 - i]? else none)) →
      ∃ v, exec (.safLogRead dt p) s = .next (Safety.done s u v d stOk (toLE 4 (w.ref.changeNext - 1) ++ toLE 1 es.length ++ toLE 3 0 ++ es.flatMap ChangeEntry.bytes)) ∧
        v = w.setCur none)

/-- The Referee's events (R294 to R310): STO inputs and their discrepancy, evaluations, deadlines, heartbeat, injection, lockstep,
discharge watch and login lock. -/
def Obligations.StoAndRefereeEventsComplete : Prop :=
  (∀ (s u : State) (dt : Nat) (inputB : Bool) (k : Nat), u = s.elapse dt →
      u.ref.runs = true →
      k < 6 →
      bit (u.obj Obj.SAF_STO_MAP) k = true →
      u.obj Obj.SAF_STO_MODE ≠ 1 →
      (u.rs k).forced = none →
      ∃ t, exec (.stoInputChange dt inputB false) s = .next t ∧
        (t.rs k).forced = some (.pulseBlock, 1) ∧
        ((if inputB then t.ref.stoB else t.ref.stoA) = false) ∧
        t.ref.safeOut = false) ∧
  (∀ (s u : State) (dt : Nat) (inputB : Bool), u = s.elapse dt →
      u.ref.runs = true →
      ∃ t, exec (.stoInputChange dt inputB true) s = .next t ∧
        ((if inputB then t.ref.stoB else t.ref.stoA) = true) ∧
        t.ref.sl = u.ref.sl ∧
        (t.ref.stoA = t.ref.stoB → t.ref.stoDisc = none)) ∧
  (∀ (s u : State) (dt : Nat) (e k : Nat), u = s.elapse dt →
      u.ref.runs = true →
      u.ref.stoDisc = some e →
      e ≤ u.clk →
      u.stoComes = false →
      k < 6 →
      bit (u.obj Obj.SAF_STO_MAP) k = true →
      (u.rs k).forced = none →
      ∃ t, exec (.stoDiscrepancy dt) s = .next t ∧
        t.ref.stoDisc = none ∧
        t.ref.stoFault = true ∧
        (t.rs k).forced = some (.pulseBlock, 2)) ∧
  (∀ (s u : State) (dt : Nat) (a : Stamp), u = s.elapse dt →
      u.gridNow 400000 = some a →
      u.isReady = true →
      u.ref.runs = true →
      u.ref.fault = false →
      ((List.range 6).all (fun k => u.enabled k = false && (u.rs k).ss1.isNone && (u.rs k).forced.isNone && (List.range 16).all (fun j => !slotEn (u.slot k j))) = true) →
      ∃ t, exec (.refereeEvaluation dt) s = .next t ∧
        t.ref.evals = u.ref.evals + 1 ∧
        (∀ k < 6, u.obj (safo k Obj.SAF_SPD_SRC) ≠ 1 → t.objF (Obj.SAF_SPEED_EST + k) = (u.refSpeed k a).getD 0#32) ∧
        (t.ref.safeOut = (u.ref.stoA && u.ref.stoB && (List.range 6).all fun k => !bit (u.obj Obj.SAF_SAFE_OUT_MAP) k || (t.rs k).forced.isNone && !(t.rs k).disFail))) ∧
  (∀ (s u : State) (dt : Nat) (sl : Fin 6) (a g : Stamp) (o : F32), u = s.elapse dt →
      (u.rs sl.val).ss1 = some (a, o) →
      u.gridNow 400000 = some g →
      a + u.obj (safo sl.val Obj.SAF_SS1_TMAX) * msUnits ≤ g - u.tl.steps →
      u.evaluationComes = false →
      (u.rs sl.val).forced = none →
      ∃ t, exec (.ss1TmaxExpire dt sl) s = .next t ∧
        (t.rs sl.val).ss1 = none ∧
        ((t.rs sl.val).forced = some (.pulseBlock, match u.refSpeed sl.val g with | some v => (if fGt (fAbs v) (fAdd (fMax (fSub o (fMul (u.safoF sl.val Obj.SAF_SS1_DEC_MIN) (secs (g - u.tl.steps - a)))) 0#32) (u.safoF sl.val Obj.SAF_SS1_TOL)) then 4 else 3) | none => 3))) ∧
  (∀ (s u : State) (dt : Nat) (sl : Fin 6) (e : Nat), u = s.elapse dt →
      (u.rs sl.val).degDeadline = some e →
      e ≤ u.clk →
      ∃ t, exec (.degradedTimeExpire dt sl) s = .next t ∧
        (t.rs sl.val).degDeadline = none ∧
        (t.rs sl.val).degLeft = some 0 ∧
        (u.enabled sl.val = true → (u.rs sl.val).ss1 = none → (u.rs sl.val).forced = none → ((u.sl sl.val).st = .running ∨ (u.sl sl.val).st = .engaging ∨ (u.sl sl.val).st = .stopping) → (t.rs sl.val).ss1 = some (u.clk, u.ss1Speed sl.val))) ∧
  (∀ (s u : State) (dt : Nat), u = s.elapse dt →
      u.ref.runs = true →
      ∃ t, exec (.refereeHeartbeat dt true) s = .next t ∧
        t.ref = { u.ref with hbDeadline := u.clk + 10 * usUnits }) ∧
  (∀ (s u : State) (dt : Nat), u = s.elapse dt →
      u.ref.runs = true →
      u.ref.fault = false →
      ∃ t, exec (.refereeHeartbeat dt false) s = .next t ∧
        t.ref.fault = true ∧
        t.ref.srcLo = false ∧
        t.ref.srcHi = false ∧
        t.ref.safeOut = false ∧
        (∀ k < 6, u.enabled k = true → (u.rs k).forced = none → (t.rs k).forced = some (if u.obj (safo k Obj.SAF_REF_FAIL_STATE) = 2 then .ascFrame else .pulseBlock, 0x0B))) ∧
  (∀ (s u : State) (dt : Nat), u = s.elapse dt →
      u.ref.runs = true →
      u.ref.fault = false →
      u.ref.hbDeadline ≤ u.clk →
      u.toggleComes = false →
      ∃ t, exec (.refereeHeartbeatTimeout dt) s = .next t ∧
        t.ref.fault = true ∧
        t.ref.srcLo = false ∧
        t.ref.srcHi = false ∧
        t.ref.safeOut = false ∧
        (∀ k < 6, u.enabled k = true → (u.rs k).forced = none → (t.rs k).forced = some (if u.obj (safo k Obj.SAF_REF_FAIL_STATE) = 2 then .ascFrame else .pulseBlock, 0x0B))) ∧
  (∀ (s u : State) (dt : Nat), u = s.elapse dt →
      ∃ t, exec (.refereeInjection dt true true) s = .next t ∧
        t.ref = u.ref) ∧
  (∀ (s u : State) (dt : Nat) (a b : Bool), u = s.elapse dt →
      u.ref.runs = true →
      u.ref.fault = false →
      (a && b) = false →
      ∃ t, exec (.refereeInjection dt a b) s = .next t ∧
        t.ref.fault = true ∧
        t.ref.srcLo = false ∧
        t.ref.srcHi = false ∧
        t.ref.safeOut = false ∧
        (∀ k < 6, u.enabled k = true → (u.rs k).forced = none → (t.rs k).forced = some (if u.obj (safo k Obj.SAF_REF_FAIL_STATE) = 2 then .ascFrame else .pulseBlock, 0x0B))) ∧
  (∀ (s u : State) (dt : Nat), u = s.elapse dt →
      u.ref.runs = true →
      u.ref.fault = false →
      ∃ t, exec (.refereeLockstepMismatch dt) s = .next t ∧
        t.ref.fault = true ∧
        t.ref.srcLo = false ∧
        t.ref.srcHi = false ∧
        t.ref.safeOut = false ∧
        (∀ k < 6, u.enabled k = true → (u.rs k).forced = none → (t.rs k).forced = some (if u.obj (safo k Obj.SAF_REF_FAIL_STATE) = 2 then .ascFrame else .pulseBlock, 0x0B))) ∧
  (∀ (s u : State) (dt : Nat) (sl : Fin 6) (a : Stamp) (n : Nat), u = s.elapse dt →
      u.ref.runs = true →
      (u.rs sl.val).disDeadline = some (a, n) →
      a ≤ u.clk →
      u.monitorComes sl.val = false →
      u.disBelow sl.val n = false →
      ∃ t, exec (.dischargeMonitorDeadline dt sl) s = .next t ∧
        (t.rs sl.val).disDeadline = none ∧
        (t.rs sl.val).disFail = true ∧
        t.ref.safeOut = false) ∧
  (∀ (s u : State) (dt : Nat) (sl : Fin 6) (a : Stamp) (n : Nat), u = s.elapse dt →
      u.ref.runs = true →
      (u.rs sl.val).disDeadline = some (a, n) →
      a ≤ u.clk →
      u.monitorComes sl.val = false →
      u.disBelow sl.val n = true →
      ∃ t, exec (.dischargeMonitorDeadline dt sl) s = .next t ∧
        (t.rs sl.val).disDeadline = none ∧
        (t.rs sl.val).disFail = (u.rs sl.val).disFail) ∧
  (∀ (s u : State) (dt : Nat) (e : Nat), u = s.elapse dt →
      u.ref.lockUntil = some e →
      e ≤ u.clk →
      ∃ t, exec (.safLoginLockExpire dt) s = .next t ∧
        t.ref.lockUntil = none ∧
        t.ref.loginFails = 0)

/-- Lockstep, memory errors and the debug port (R14, R315 to R320, R390): a mismatch restarts the CP and the third in a second
escalates, each memory's uncorrectable error has its own reaction, a halted CP takes the debugger's writes. -/
def Obligations.LockstepMemoryAndDebugEventsComplete : Prop :=
  (∀ (s u : State) (dt : Nat), u = s.elapse dt →
      u.cpUp = true →
      ((u.cp.mismatches[1]?).all (fun e => e + sUnits < u.now) = true) →
      ∃ t, exec (.cpLockstepMismatch dt) s = .next t ∧
        t.cp.restarting = true ∧
        t.cp.restarts = u.cp.restarts + 1 ∧
        t.cp.mismatches.head? = some u.now ∧
        t.cp.halted = false) ∧
  (∀ (s u : State) (dt : Nat) (e : Stamp), u = s.elapse dt →
      u.cpUp = true →
      u.cp.mismatches[1]? = some e →
      u.now ≤ e + sUnits →
      ∃ t, exec (.cpLockstepMismatch dt) s = .next t ∧
        t.cp.escalate = true) ∧
  (∀ (s u : State) (dt : Nat) (injectionOk : Bool), u = s.elapse dt →
      u.cp.restarting = true →
      ∃ t, exec (.cpRestartDone dt injectionOk) s = .next t ∧
        t.cp.restarting = false ∧
        bit t.host.devEvent 1 = true ∧
        t.ref.compareFault = (u.ref.compareFault || !injectionOk)) ∧
  (∀ (s u : State) (dt : Nat), u = s.elapse dt →
      u.cpUp = true →
      u.cp.restarting = false →
      ∃ t, exec (.cpCheckpoint dt) s = .next t ∧
        t.cp = { u.cp with ckptAt := u.now, ckptMem := u.cp.mem }) ∧
  (∀ (s u : State) (dt : Nat) (o : SramOwner), u = s.elapse dt →
      ∃ t, exec (.eccCorrectable dt o) s = .next t ∧
        bget 0 t.dia.ecc (sramCode o) = bget 0 u.dia.ecc (sramCode o) + 1) ∧
  (∀ (s u : State) (dt : Nat) (detail : Nat), u = s.elapse dt →
      u.cpUp = true →
      ((u.cp.mismatches[1]?).all (fun e => e + sUnits < u.now) = true) →
      ∃ t, exec (.eccUncorrectable dt .cp detail) s = .next t ∧
        t.cp.restarting = true ∧
        t.cp.restarts = u.cp.restarts + 1) ∧
  (∀ (s u : State) (dt : Nat) (detail : Nat), u = s.elapse dt →
      detail < 64 →
      (u.ctx detail).hdr ≠ 0 →
      (u.ctx detail).fault = false →
      ∃ t, exec (.eccUncorrectable dt .crucible detail) s = .next t ∧
        (t.ctx detail).fault = true ∧
        (t.ctx detail).evals = [] ∧
        (t.ctx detail).repeats = []) ∧
  (∀ (s u : State) (dt : Nat) (detail : Nat) (l r : List CanRx) (x : CanRx), u = s.elapse dt →
      bit detail 2 = false →
      bit detail 3 = false →
      bget [] (u.canU (bits detail 1 0)).rx (bits detail 6 4) = l ++ x :: r →
      l.length = detail / 256 →
      ∃ t, exec (.eccUncorrectable dt .canMem detail) s = .next t ∧
        bget [] (t.canU (bits detail 1 0)).rx (bits detail 6 4) = l ++ r ∧
        t.obj (Obj.CAN_RX_DROPS + bits detail 1 0) = min 0xFFFFFFFF (u.obj (Obj.CAN_RX_DROPS + bits detail 1 0) + 1)) ∧
  (∀ (s u : State) (dt : Nat) (detail : Nat) (l r : List CanTx) (x : CanTx), u = s.elapse dt →
      bit detail 2 = false →
      bit detail 3 = true →
      bit detail 7 = false →
      bget [] (u.canU (bits detail 1 0)).tx (bits detail 5 4) = l ++ x :: r →
      l.length = detail / 256 →
      ∃ t, exec (.eccUncorrectable dt .canMem detail) s = .next t ∧
        bget [] (t.canU (bits detail 1 0)).tx (bits detail 5 4) = l ++ r ∧
        bget 0 t.dia.canLost (bits detail 1 0) = bget 0 u.dia.canLost (bits detail 1 0) + 1) ∧
  (∀ (s u : State) (dt : Nat) (detail : Nat), u = s.elapse dt →
      bit detail 2 = true →
      u.isReady = true →
      ∃ t, exec (.eccUncorrectable dt .canMem detail) s = .next t ∧
        t.fenced (8 + bits detail 1 0) = true) ∧
  (∀ (s u : State) (dt : Nat) (detail : Nat), u = s.elapse dt →
      ∃ t, exec (.eccUncorrectable dt .trace detail) s = .next t ∧
        t.dia.traceBad.contains (detail % 16384) = true) ∧
  (∀ (s u : State) (dt : Nat) (detail : Nat), u = s.elapse dt →
      ∃ t, exec (.eccUncorrectable dt .mu detail) s = .next t ∧
        t.mu.restarting = true) ∧
  (∀ (s u : State) (dt : Nat) (detail : Nat), u = s.elapse dt →
      u.ref.runs = true →
      u.ref.fault = false →
      ∃ t, exec (.eccUncorrectable dt .referee detail) s = .next t ∧
        t.ref.fault = true ∧
        t.ref.srcLo = false ∧
        t.ref.srcHi = false ∧
        t.ref.safeOut = false ∧
        (∀ k < 6, u.enabled k = true → (u.rs k).forced = none → (t.rs k).forced = some (if u.obj (safo k Obj.SAF_REF_FAIL_STATE) = 2 then .ascFrame else .pulseBlock, 0x0B))) ∧
  (∀ (s u : State) (dt : Nat) (detail : Nat) (x : Desc), u = s.elapse dt →
      descOf detail = some x →
      x.per = 0 →
      ∃ t, exec (.eccUncorrectable dt .objectCache detail) s = .next t ∧
        bfind t.dict.vals detail = none) ∧
  (∀ (s u : State) (dt : Nat) (detail y : Nat) (x : Desc), u = s.elapse dt →
      descOf detail = some x →
      u.persisted x detail = some y →
      ∃ t, exec (.eccUncorrectable dt .objectCache detail) s = .next t ∧
        t.obj detail = maskVal detail y) ∧
  (∀ (s u : State) (dt : Nat), u = s.elapse dt →
      u.mu.restarting = true →
      u.host.mbxBusy = false →
      ∃ t, exec (.muRestartDone dt) s = .next t ∧
        t.mu.restarting = false ∧
        t.log.cpBuf = [] ∧
        t.log.cpDrops = 0 ∧
        t.hk.slot = 0 ∧
        t.hk.roundDeadline = u.muNow + msUnits ∧
        (u.log.next < 2 ^ 32 → t.log.next = (u.log.next + u.log.cpBuf.length + (if u.log.cpDrops = 0 then 0 else 1)) % 2 ^ 32)) ∧
  (∀ (s u : State) (dt : Nat), u = s.elapse dt →
      u.mu.restarting = true →
      u.host.mbxBusy = true →
      ∃ t, exec (.muRestartDone dt) s = .next t ∧
        (∃ v : State, v.mu.restarting = false ∧ v.log.cpBuf = [] ∧ v.log.cpDrops = 0 ∧ v.mbxPkt = u.mbxPkt ∧ t = { v.muRun v.mbxPkt with time := u.time, pending := s.pending })) ∧
  (∀ (s u : State) (dt : Nat), u = s.elapse dt →
      u.debugOk = true →
      ∃ t, exec (.debugHalt dt) s = .next t ∧
        t.cp = { u.cp with halted := true, stoppedAt := u.cp.stoppedAt.or (some u.clk) }) ∧
  (∀ (s u : State) (dt : Nat), u = s.elapse dt →
      u.debugOk = true →
      ∃ t, exec (.debugResume dt) s = .next t ∧
        t.cp = { u.cp with halted := false, stoppedAt := none }) ∧
  (∀ (s u : State) (dt : Nat) (addr : Nat) (x : Word), u = s.elapse dt →
      u.debugOk = true →
      u.cp.halted = true →
      ∃ t, exec (.debugWrite dt addr x true) s = .next t ∧
        t.cp = { u.cp with mem := bset u.cp.mem addr x })

/-- The management opcodes (R391, R393, R398, R399, R403 to R406): transfers begin, take data and end, a bank is chosen for
activation, bindings and anchors are written and removed, the device attests and its log is read. -/
def Obligations.ManagementOpcodesComplete : Prop :=
  (∀ (s u w : State) (dt : Nat) (p q : Pkt) (d : Deferred) (t : Nat), u = s.elapse dt →
      q = (p.asRow 0x7000).withSel 0 0 →
      Safety.admitted u q = some (w, d) →
      q.payload.length = 16 →
      w.mu.transfer = none →
      zeros q.payload 1 3 = true →
      zeros q.payload 8 8 = true →
      byteAt q.payload 0 = 0 →
      le q.payload 4 4 ≤ 25165824 →
      t = w.beginTarget false →
      ∃ v, exec (.mgtIngotBegin dt p) s = .next (Safety.done s u v d stOk (toLE 1 t ++ toLE 7 0)) ∧
        (v.mu.transfer = some { target := t, total := le q.payload 4 4, session := if q.session ≠ 0xFF#8 then some q.session.toNat else none, link := if q.session ≠ 0xFF#8 then none else some q.link, deadline := some (w.muNow + 10 * sUnits) }) ∧
        (t < 2 → w.mu.banks.length = 2 → (v.mu.banks.getD t {}).state = 1)) ∧
  (∀ (s u w : State) (dt : Nat) (p q : Pkt) (d : Deferred) (t : Nat), u = s.elapse dt →
      q = (p.asRow 0x7000).withSel 0 1 →
      Safety.admitted u q = some (w, d) →
      q.payload.length = 16 →
      w.mu.transfer = none →
      zeros q.payload 1 3 = true →
      zeros q.payload 8 8 = true →
      byteAt q.payload 0 = 1 →
      le q.payload 4 4 ≤ 2097152 →
      t = w.beginTarget true →
      ∃ v, exec (.mgtIngotBeginConfig dt p) s = .next (Safety.done s u v d stOk (toLE 1 t ++ toLE 7 0)) ∧
        (v.mu.transfer = some { target := t, total := le q.payload 4 4, session := if q.session ≠ 0xFF#8 then some q.session.toNat else none, link := if q.session ≠ 0xFF#8 then none else some q.link, deadline := some (w.muNow + 10 * sUnits) }) ∧
        (t = 2 → v.mu.cfgA = none) ∧
        (t = 3 → v.mu.cfgB = none)) ∧
  (∀ (s u w : State) (dt : Nat) (p q : Pkt) (d : Deferred) (t : Transfer) (n : Nat), u = s.elapse dt →
      q = p.asRow 0x7001 →
      Safety.admitted u q = some (w, d) →
      w.mu.transfer = some t →
      t.checking = false →
      State.ownsTransfer q t = true →
      le q.payload 4 2 = n →
      q.payload.length = 8 + n →
      0 < n →
      n ≤ 4056 →
      zeros q.payload 6 2 = true →
      le q.payload 0 4 = t.received →
      t.received + n ≤ t.total →
      ∃ v, exec (.mgtIngotData dt p) s = .next (Safety.done s u v d stOk (toLE 4 (t.received + n))) ∧
        v.mu.transfer = some { t with received := t.received + n, head := (t.head ++ q.payload.drop 8).take 64, deadline := some (w.muNow + 10 * sUnits) }) ∧
  (∀ (s u w : State) (dt : Nat) (p q : Pkt) (d : Deferred) (t : Transfer), u = s.elapse dt →
      q = p.asRow 0x7002 →
      Safety.admitted u q = some (w, d) →
      w.mu.transfer = some t →
      t.checking = false →
      State.ownsTransfer q t = true →
      q.payload.length = 8 →
      zeros q.payload 0 8 = true →
      (t.target < 2 ∨ ((match w.mu.cfgLoaded with | some x => x.2 | none => 0) < le t.head 12 4 ∧ (w.isReady = true → byteAt t.head 8 ≤ w.gateSchema))) →
      ∃ v, exec (.mgtIngotEnd dt p) s = .next (Safety.done s u v d stAccepted []) ∧
        v.mu.transfer = some { t with checking := true, deadline := none } ∧
        (t.target < 2 → w.mu.banks.length = 2 → (v.mu.banks.getD t.target {}).state = 2)) ∧
  (∀ (s u w : State) (dt : Nat) (p q : Pkt) (d : Deferred) (n : Nat), u = s.elapse dt →
      q = p.asRow 0x7003 →
      Safety.admitted u q = some (w, d) →
      q.payload.length = 16 →
      w.slicesRest = true →
      w.resetLocked = false →
      w.mu.activate = none →
      byteAt q.payload 0 = n →
      n ≤ 1 →
      zeros q.payload 1 7 = true →
      (w.mu.banks.getD n {}).state = 3 →
      w.tooLate (le q.payload 8 8) = false →
      ∃ v, exec (.mgtActivate dt p) s = .next (Safety.done s u v d stAccepted []) ∧
        (v.mu.activate = some (n, if le q.payload 8 8 = 0 then w.now + 1 else le q.payload 8 8))) ∧
  (∀ (s u w : State) (dt : Nat) (p q : Pkt) (d : Deferred) (check : Fin 6) (b : List Byte), u = s.elapse dt →
      q = (p.asRow 0x7011).withSel 0 0 →
      Safety.admitted u q = some (w, d) →
      8 ≤ q.payload.length →
      q.payload.length = 8 + le q.payload 4 2 →
      zeros q.payload 1 3 = true →
      zeros q.payload 6 2 = true →
      byteAt q.payload 0 = 0 →
      w.mu.lc = 1 ∨ w.mu.lc = 2 →
      w.anyEnabled = false →
      b = q.payload.drop 8 →
      176 ≤ b.length →
      le b 0 2 = 1 →
      b.length = 176 + le b 2 2 →
      zeros b 23 1 = true →
      zeros b 26 6 = true →
      zeros b 104 8 = true →
      check = 5 →
      0 < le b 20 2 →
      le b 20 2 ≤ 16383 →
      ∃ v, exec (.mgtBind dt p check) s = .next (Safety.done s u v d stOk []) ∧
        v.mu.binding = some { check := 5, systemId := le b 4 16, node := le b 20 2, partner := le b 24 2 } ∧
        v.mu.bound = w.mu.bound) ∧
  (∀ (s u w : State) (dt : Nat) (p q : Pkt) (d : Deferred) (b : List Byte), u = s.elapse dt →
      q = (p.asRow 0x7011).withSel 0 1 →
      Safety.admitted u q = some (w, d) →
      8 ≤ q.payload.length →
      q.payload.length = 8 + le q.payload 4 2 →
      zeros q.payload 1 3 = true →
      zeros q.payload 6 2 = true →
      byteAt q.payload 0 = 1 →
      w.mu.lc = 1 →
      b = q.payload.drop 8 →
      b.length = 64 →
      byteAt b 32 ≤ 3 →
      0 < byteAt b 33 →
      byteAt b 33 ≤ 16 →
      zeros b 50 14 = true →
      w.mu.anchors.length < 4 →
      ∃ v, exec (.mgtInstallAnchor dt p) s = .next (Safety.done s u v d stOk []) ∧
        v.mu.anchors.length = w.mu.anchors.length + 1 ∧
        v.mu.anchors[w.mu.anchors.length]? = some { data := le b 0 64 } ∧
        (∀ k, anchorOf w.mu.anchors = some k → k < w.mu.anchors.length → (v.mu.anchors.getD k { data := 0 }).revoked = true)) ∧
  (∀ (s u w : State) (dt : Nat) (p q : Pkt) (d : Deferred), u = s.elapse dt →
      q = (p.asRow 0x7011).withSel 0 2 →
      Safety.admitted u q = some (w, d) →
      8 ≤ q.payload.length →
      q.payload.length = 8 + le q.payload 4 2 →
      zeros q.payload 1 3 = true →
      zeros q.payload 6 2 = true →
      byteAt q.payload 0 = 2 →
      w.mu.lc = 1 ∨ w.mu.lc = 2 →
      w.anyEnabled = false →
      q.payload.length = 8 →
      ∃ v, exec (.mgtRemoveBinding dt p) s = .next (Safety.done s u v d stOk []) ∧
        v.mu.binding = none ∧
        v.mu.bound = w.mu.bound) ∧
  (∀ (s u w : State) (dt : Nat) (p q : Pkt) (d : Deferred) (c r : List Byte), u = s.elapse dt →
      q = p.asRow 0x7010 →
      Safety.admitted u q = some (w, d) →
      q.payload.length = 40 →
      byteAt q.payload 32 ≤ 1 →
      zeros q.payload 33 7 = true →
      (c = (if byteAt q.payload 32 = 1 then certBytes 0 ++ certBytes 1 else [])) →
      r = w.report (q.payload.take 32) (320 + c.length) →
      ∃ v, exec (.mgtAttest dt p) s = .next (Safety.done s u v d stOk (r ++ (List.range 64).map (Config.cryptoByte 2 r) ++ c)) ∧
        v = w.setCur none) ∧
  (∀ (s u w : State) (dt : Nat) (p q : Pkt) (d : Deferred) (l rs : List LogRec), u = s.elapse dt →
      q = p.asRow 0x7020 →
      Safety.admitted u q = some (w, d) →
      q.payload.length = 8 →
      byteAt q.payload 0 ≤ 1 →
      byteAt q.payload 1 ≤ 4 →
      0 < byteAt q.payload 2 →
      byteAt q.payload 2 ≤ 126 →
      zeros q.payload 3 1 = true →
      (l = (if byteAt q.payload 0 = 0 then w.log.ring else w.log.nor)) →
      (rs = ((l.filter fun r => decide ((r.num + 2 ^ 32 - le q.payload 4 4) % 2 ^ 32 < 2 ^ 31) && decide (byteAt q.payload 1 ≤ r.sev)).reverse).take (byteAt q.payload 2)) →
      ∃ v, exec (.mgtLogRead dt p) s = .next (Safety.done s u v d stOk (toLE 4 (match l with | r :: _ => r.num | [] => 0xFFFFFFFF) ++ toLE 1 rs.length ++ toLE 3 0 ++ rs.flatMap LogRec.bytes)) ∧
        v = w.setCur none)

/-- The management unit's own events (R132, R390, R404 to R406): checks end, transfers time out, an activation applies, values and log
records reach the NOR. -/
def Obligations.StorageEventsComplete : Prop :=
  (∀ (s u : State) (dt : Nat) (r : IngotResult) (x : Transfer), u = s.elapse dt →
      u.mu.transfer = some x →
      x.checking = true →
      x.received = x.total →
      r.failing = 0 →
      x.target < 2 →
      u.mu.banks.length = 2 →
      u.mu.otpRollback ≤ r.rollback →
      ∃ t, exec (.ingotCheckDone dt r) s = .next t ∧
        t.mu.transfer = none ∧
        t.mu.banks.getD x.target {} = { version := r.version, rollback := r.rollback, gens := r.gens, state := 3 }) ∧
  (∀ (s u : State) (dt : Nat) (r : IngotResult) (x : Transfer) (i : CfgImage), u = s.elapse dt →
      u.mu.transfer = some x →
      x.checking = true →
      x.received = x.total →
      r.failing = 0 →
      2 ≤ x.target →
      r.image = some i →
      x.session.isSome = true ∨ i.signedOk = true →
      ∃ t, exec (.ingotCheckDone dt r) s = .next t ∧
        t.mu.transfer = none ∧
        (if x.target = 2 then t.mu.cfgA = some i else t.mu.cfgB = some i)) ∧
  (∀ (s u : State) (dt : Nat) (r : IngotResult) (x : Transfer), u = s.elapse dt →
      u.mu.transfer = some x →
      x.checking = true →
      x.received ≠ x.total →
      x.target < 2 →
      u.mu.banks.length = 2 →
      ∃ t, exec (.ingotCheckDone dt r) s = .next t ∧
        t.mu.transfer = none ∧
        (t.mu.banks.getD x.target {}).state = 4) ∧
  (∀ (s u : State) (dt : Nat) (x : Transfer) (e : Nat), u = s.elapse dt →
      u.mu.transfer = some x →
      x.deadline = some e →
      e ≤ u.muNow →
      u.transferComes = false →
      u.mu.banks.length = 2 →
      ∃ t, exec (.ingotTransferTimeout dt) s = .next t ∧
        t.mu.transfer = none ∧
        (x.target < 2 → (t.mu.banks.getD x.target {}).state = 0) ∧
        (x.target = 2 → t.mu.cfgA = none) ∧
        (x.target = 3 → t.mu.cfgB = none)) ∧
  (∀ (s u : State) (dt : Nat) (n : Nat) (a : Stamp), u = s.elapse dt →
      u.mu.activate = some (n, a) →
      u.isReady = true →
      a ≤ u.now →
      u.slicesRest = true →
      u.resetLocked = false →
      (u.mu.banks.getD n {}).state = 3 →
      ∃ t, exec (.mgtActivateApply dt) s = .next t ∧
        t.mu.activate = none ∧
        t.mu.active = n ∧
        t.mu.cause = higherCause u.mu.cause .sysReset ∧
        t.mu.phase = .held ∧
        t.slices = [] ∧
        t.host.sessions = []) ∧
  (∀ (s u : State) (dt : Nat) (n : Nat) (a : Stamp), u = s.elapse dt →
      u.mu.activate = some (n, a) →
      u.isReady = true →
      a ≤ u.now →
      u.slicesRest = false ∨ u.resetLocked = true ∨ (u.mu.banks.getD n {}).state ≠ 3 →
      ∃ t, exec (.mgtActivateApply dt) s = .next t ∧
        t.mu.activate = none ∧
        t.mu.active = u.mu.active ∧
        t.mu.phase = .ready) ∧
  (∀ (s u : State) (dt : Nat) (idx : Nat), u = s.elapse dt →
      u.isReady = true →
      u.mu.norBad = false →
      u.mu.restarting = false →
      u.dict.dirty.contains idx = true →
      ∃ t, exec (.norPersistWrite dt idx true) s = .next t ∧
        bfind t.dict.nor idx = some (u.keptVal idx) ∧
        t.dict.dirty = u.dict.dirty.erase idx ∧
        t.dict.vals = u.dict.vals) ∧
  (∀ (s u : State) (dt : Nat) (idx : Nat), u = s.elapse dt →
      u.isReady = true →
      u.mu.norBad = false →
      u.mu.restarting = false →
      u.dict.dirty.contains idx = true →
      ∃ t, exec (.norPersistWrite dt idx false) s = .next t ∧
        t.mu.norBad = true ∧
        t.dict.nor = u.dict.nor ∧
        t.dict.dirty = u.dict.dirty) ∧
  (∀ (s u : State) (dt : Nat) (l : List LogRec), u = s.elapse dt →
      u.mu.restarting = false →
      u.mu.norBad = false →
      u.mu.booted = true →
      (l = (u.log.ring.filter fun r => decide (u.log.norDone ≤ r.num) && decide (u.obj Obj.MGT_LOG_NOR_SEV ≤ r.sev))) →
      ((l ++ u.log.nor).Pairwise fun r x => norKeeps r x = true) →
      ∃ t, exec (.logNorCopy dt) s = .next t ∧
        t.log.nor = l ++ u.log.nor ∧
        t.log.norDone = u.log.next ∧
        t.log.ring = u.log.ring)

/-- The diagnostic opcodes (R420 to R423, R427): a user pattern run is taken, results are read, a row is repaired, the trace stops and
starts. -/
def Obligations.DiagnosticOpcodesComplete : Prop :=
  (∀ (s u w : State) (dt : Nat) (p q : Pkt) (d : Deferred) (bank pat first n : Nat), u = s.elapse dt →
      q = p.asRow 0x8000 →
      Safety.admitted u q = some (w, d) →
      q.payload.length = 8 →
      byteAt q.payload 0 = bank →
      byteAt q.payload 1 = pat →
      le q.payload 2 2 = first →
      le q.payload 4 2 = n →
      w.mu.lc ≠ 2 →
      w.mu.lc ≠ 4 →
      w.anyEnabled = false →
      w.throttled = false →
      w.dia.run = none →
      testedBank bank = true ∨ bank = 255 →
      pat ≤ 3 →
      0 < n →
      (first + n ≤ (if bank = 255 then segCount else 64)) →
      zeros q.payload 6 2 = true →
      ∃ v, exec (.diaBistRun dt p) s = .next (Safety.done s u v d stAccepted []) ∧
        v.dia.run = some (bank, pat, first, n)) ∧
  (∀ (s u w : State) (dt : Nat) (p q : Pkt) (d : Deferred) (js : List Nat), u = s.elapse dt →
      q = p.asRow 0x8001 →
      Safety.admitted u q = some (w, d) →
      q.payload.length = 8 →
      byteAt q.payload 0 ≤ 31 →
      byteAt q.payload 1 ≤ 32 →
      zeros q.payload 2 6 = true →
      (js = (List.range (byteAt q.payload 1)).map (fun j => Obj.DIA_FAIL + (byteAt q.payload 0 + j) % 32)) →
      ∃ v, exec (.diaBistResult dt p) s = .next (Safety.done s u v d stOk (toLE 4 (w.readObj Obj.DIA_BIST_STAT) ++ toLE 4 (w.obj Obj.DIA_BIST_PASSES) ++ toLE 4 (w.obj Obj.DIA_BIST_INCOMPLETE) ++ toLE 4 (w.obj Obj.DIA_BIST_FAIL_CNT) ++ js.flatMap (fun j => toLE 16 (w.readObj j)))) ∧
        (v = (js.foldl (fun x j => x.readEff j) w).setCur none)) ∧
  (∀ (s u w : State) (dt : Nat) (p q : Pkt) (d : Deferred) (bank row n : Nat), u = s.elapse dt →
      q = p.asRow 0x8002 →
      Safety.admitted u q = some (w, d) →
      q.payload.length = 8 →
      byteAt q.payload 0 = bank →
      le q.payload 2 2 = row →
      bget 0 w.dia.spares bank = n →
      bank < 20 ∨ 22 < bank ∨ w.anyEnabled = false →
      bank ≤ 23 →
      row ≤ 511 →
      zeros q.payload 1 1 = true →
      zeros q.payload 4 4 = true →
      n < 8 →
      w.mu.norBad = false →
      ∃ v, exec (.diaRemapRow dt p) s = .next (Safety.done s u v d stOk (toLE 1 n ++ toLE 1 (7 - n))) ∧
        v.dia.repairs = w.dia.repairs ++ [(bank, row, n)] ∧
        bget 0 v.dia.spares bank = n + 1) ∧
  (∀ (s u w : State) (dt : Nat) (p q : Pkt) (d : Deferred), u = s.elapse dt →
      q = (p.asRow 0x8010).withSel 0 0 →
      Safety.admitted u q = some (w, d) →
      q.payload.length = 40 →
      w.throttled = false →
      w.flk.step ≠ .resync →
      zeros q.payload 1 3 = true →
      byteAt q.payload 0 = 0 →
      ∃ v, exec (.diaTraceStop dt p) s = .next (Safety.done s u v d stOk w.traceReply) ∧
        v.dia = { w.dia with traceOn := false, traceHeld := false, traceWait := [] }) ∧
  (∀ (s u w : State) (dt : Nat) (p q : Pkt) (d : Deferred), u = s.elapse dt →
      q = (p.asRow 0x8010).withSel 0 1 →
      Safety.admitted u q = some (w, d) →
      q.payload.length = 40 →
      w.throttled = false →
      w.flk.step ≠ .resync →
      zeros q.payload 1 3 = true →
      byteAt q.payload 0 = 1 →
      ∃ v, exec (.diaTraceStartRing dt p) s = .next (Safety.done s u v d stOk (toLE 2 0 ++ toLE 4 0 ++ toLE 4 0)) ∧
        v.dia = { w.dia with traceOn := true, traceHeld := false, traceMode := 1, traceLimit := le q.payload 4 4, traceMask := le q.payload 8 32, traceNext := 0, traceCount := 0, traceDrops := 0, traceWait := [] }) ∧
  (∀ (s u w : State) (dt : Nat) (p q : Pkt) (d : Deferred), u = s.elapse dt →
      q = (p.asRow 0x8010).withSel 0 2 →
      Safety.admitted u q = some (w, d) →
      q.payload.length = 40 →
      w.throttled = false →
      w.flk.step ≠ .resync →
      zeros q.payload 1 3 = true →
      byteAt q.payload 0 = 2 →
      ∃ v, exec (.diaTraceStartOnce dt p) s = .next (Safety.done s u v d stOk (toLE 2 0 ++ toLE 4 0 ++ toLE 4 0)) ∧
        v.dia = { w.dia with traceOn := true, traceHeld := false, traceMode := 2, traceLimit := le q.payload 4 4, traceMask := le q.payload 8 32, traceNext := 0, traceCount := 0, traceDrops := 0, traceWait := [] })

/-- In-service self-test, loopback checks and trace capture (R413 to R419, R424 to R427). -/
def Obligations.SelfTestEventsComplete : Prop :=
  (∀ (s u : State) (dt : Nat), u = s.elapse dt →
      u.isReady = true →
      ∃ t, exec (.bistWindowStart dt) s = .next t ∧
        t.dia.window = u.now / windowUnits * windowUnits ∧
        (t.dia.charged = (if u.dia.window = u.now / windowUnits * windowUnits then u.dia.charged else 0))) ∧
  (∀ (s u : State) (dt : Nat) (b x i n : Nat), u = s.elapse dt →
      u.isReady = true →
      u.dia.cur = none →
      u.dia.run = some (b, x, i, n) →
      b ≠ 255 →
      ∃ t, exec (.bistSliceStart dt) s = .next t ∧
        t.dia.cur = some { bank := b, seg := i % 64, start := u.clk, user := true }) ∧
  (∀ (s u : State) (dt : Nat), u = s.elapse dt →
      u.isReady = true →
      u.dia.cur = none →
      u.dia.run = none →
      u.bistPaused = false →
      50 * usUnits ≤ u.dutyUnits →
      u.dia.window ≠ u.now / windowUnits * windowUnits →
      ∃ t, exec (.bistSliceStart dt) s = .next t ∧
        t.dia.cur = some { bank := segBank u.dia.nextSeg, seg := u.dia.nextSeg % 64, start := u.clk } ∧
        t.dia.charged = 0) ∧
  (∀ (s u : State) (dt : Nat) (x : BistSlice), u = s.elapse dt →
      u.dia.cur = some x →
      x.phase = 0 →
      ∃ t, exec (.bistCopyInDone dt) s = .next t ∧
        t.dia.cur = some { x with phase := 1 }) ∧
  (∀ (s u : State) (dt : Nat) (x : BistSlice), u = s.elapse dt →
      u.dia.cur = some x →
      x.phase = 1 →
      u.clk ≤ u.budgetEnd x →
      ∃ t, exec (.bistMarchDone dt []) s = .next t ∧
        (t.dia.cur = some { x with phase := 2, result := if x.result = 1 then 1 else 0 }) ∧
        t.dia.fails = u.dia.fails) ∧
  (∀ (s u : State) (dt : Nat) (x : BistSlice) (f : CellFail), u = s.elapse dt →
      u.dia.cur = some x →
      x.phase = 1 →
      ∃ t, exec (.bistMarchDone dt [f]) s = .next t ∧
        t.dia.cur = some { x with phase := 2, result := 1 } ∧
        bfind t.dia.fails (u.dia.failNext % 32) = some { stamp := u.stampAgo f.ago, bank := x.bank, elem := f.elem.val, row := f.row.val, word := f.word.val, bit := f.bit.val, expected := f.expected, user := x.user } ∧
        t.dia.failNext = (u.dia.failNext % 32 + 1) % 32) ∧
  (∀ (s u : State) (dt : Nat) (x : BistSlice), u = s.elapse dt →
      u.dia.cur = some x →
      x.phase = 2 →
      x.result = 0 →
      x.user = false →
      u.dia.nextSeg + 1 < segCount →
      ∃ t, exec (.bistSliceEnd dt) s = .next t ∧
        t.dia.cur = none ∧
        t.dia.nextSeg = u.dia.nextSeg + 1 ∧
        t.dia.charged = u.dia.charged + (u.clk - x.start) ∧
        t.obj Obj.DIA_BIST_FAIL_CNT = u.obj Obj.DIA_BIST_FAIL_CNT) ∧
  (∀ (s u : State) (dt : Nat) (x : BistSlice), u = s.elapse dt →
      u.dia.cur = some x →
      x.phase = 2 →
      x.result = 1 →
      x.user = false →
      u.dia.nextSeg + 1 < segCount →
      ∃ t, exec (.bistSliceEnd dt) s = .next t ∧
        t.dia.cur = none ∧
        t.dia.nextSeg = u.dia.nextSeg + 1 ∧
        bget 0 t.dia.segFail x.bank = bget 0 u.dia.segFail x.bank + 1 ∧
        t.obj Obj.DIA_BIST_FAIL_CNT = min 0xFFFFFFFF (u.obj Obj.DIA_BIST_FAIL_CNT + 1) ∧
        bit t.host.devEvent 5 = true) ∧
  (∀ (s u : State) (dt : Nat) (x : BistSlice), u = s.elapse dt →
      u.dia.cur = some x →
      x.phase < 2 →
      ∃ t, exec (.bistPreempt dt []) s = .next t ∧
        (t.dia.cur = some { x with phase := 2, result := if x.result = 1 then 1 else 2 })) ∧
  (∀ (s u : State) (dt : Nat) (x : BistSlice), u = s.elapse dt →
      u.dia.cur = some x →
      x.phase < 2 →
      u.budgetEnd x ≤ u.clk →
      u.marchComes = false →
      ∃ t, exec (.bistBudgetExpire dt []) s = .next t ∧
        (t.dia.cur = some { x with phase := 2, result := if x.result = 1 then 1 else 2 })) ∧
  (∀ (s u : State) (dt : Nat), u = s.elapse dt →
      u.ref.runs = true →
      ∃ t, exec (.refereeBistSlice dt true) s = .next t ∧
        t.dia.refSeg = (u.dia.refSeg + 1) % 64 ∧
        t.ref = u.ref) ∧
  (∀ (s u : State) (dt : Nat), u = s.elapse dt →
      u.ref.runs = true →
      u.ref.fault = false →
      ∃ t, exec (.refereeBistSlice dt false) s = .next t ∧
        t.dia.refSeg = (u.dia.refSeg + 1) % 64 ∧
        t.ref.fault = true) ∧
  (∀ (s u : State) (dt : Nat) (ch : Fin 64), u = s.elapse dt →
      u.isReady = true →
      u.isMon ch.val = false →
      u.sdSlot ch.val = none →
      u.fenced (64 + ch.val) = false →
      ∃ t, exec (.sdPatternCheck dt ch false) s = .next t ∧
        t.fenced (64 + ch.val) = true ∧
        (t.sdU ch.val).lost = true) ∧
  (∀ (s u : State) (dt : Nat) (l : Fin 24), u = s.elapse dt →
      u.isReady = true →
      bit (u.glCfg l.val) 63 = false →
      u.fenced (24 + l.val) = false →
      ∃ t, exec (.glLoopbackCheck dt l false) s = .next t ∧
        t.fenced (24 + l.val) = true ∧
        bit (t.obj (Obj.GL_STAT + l.val)) 15 = true) ∧
  (∀ (s u : State) (dt : Nat) (port : Fin 2), u = s.elapse dt →
      u.isReady = true →
      u.mu.bypass = true →
      u.fenced (48 + port.val) = false →
      ∃ t, exec (.ringLoopbackCheck dt port false) s = .next t ∧
        t.fenced (48 + port.val) = true) ∧
  (∀ (s u : State) (dt : Nat) (c : Fin 4), u = s.elapse dt →
      u.isReady = true →
      (u.canU c.val).mode = 0 →
      u.fenced (8 + c.val) = false →
      ∃ t, exec (.canLoopbackCheck dt c false) s = .next t ∧
        t.fenced (8 + c.val) = true) ∧
  (∀ (s u : State) (dt : Nat) (unit : Fin 2) (a b : Stamp) (l : List Stamp), u = s.elapse dt →
      u.isReady = true →
      u.eng.fenceErr.getD unit.val [] = a :: b :: l →
      u.eng.fenceErr.length = 2 →
      u.now ≤ b + sUnits →
      u.fenced (6 + unit.val) = false →
      ∃ t, exec (.matrixDatapathError dt unit) s = .next t ∧
        t.fenced (6 + unit.val) = true ∧
        t.eng.fenceErr.getD unit.val [] = [u.now, a, b]) ∧
  (∀ (s u : State) (dt : Nat) (unit : Fin 2), u = s.elapse dt →
      u.isReady = true →
      u.eng.fenceErr.getD unit.val [] = [] →
      u.eng.fenceErr.length = 2 →
      ∃ t, exec (.matrixDatapathError dt unit) s = .next t ∧
        t.eng.fenceErr.getD unit.val [] = [u.now] ∧
        t.dia.fence = u.dia.fence) ∧
  (∀ (s u : State) (dt : Nat) (r : Rec) (l : List Rec), u = s.elapse dt →
      u.dia.traceOn = true →
      u.dia.traceWait = r :: l →
      u.dia.traceMode = 1 →
      u.dia.traceLimit = 0 →
      ∃ t, exec (.traceCapture dt) s = .next t ∧
        bfind t.dia.trace u.dia.traceNext = some r ∧
        t.dia.traceNext = (u.dia.traceNext + 1) % 16384 ∧
        t.dia.traceCount = min 0xFFFFFFFF (u.dia.traceCount + 1) ∧
        t.dia.traceWait = l ∧
        t.dia.traceOn = true) ∧
  (∀ (s u : State) (dt : Nat) (r : Rec) (l : List Rec), u = s.elapse dt →
      u.dia.traceOn = true →
      u.dia.traceWait = r :: l →
      u.dia.traceLimit ≠ 0 →
      u.dia.traceLimit ≤ u.dia.traceCount + 1 →
      ∃ t, exec (.traceCapture dt) s = .next t ∧
        bfind t.dia.trace u.dia.traceNext = some r ∧
        t.dia.traceWait = [] ∧
        t.dia.traceOn = false)

/-- The Flask opcodes (R324, R334, R336, R339): a configuration is stored, a resynchronisation starts, and a handover, which like
every opcode outside R334's list is mirrored, is ordered when its apply stamp comes. -/
def Obligations.FlaskOpcodesComplete : Prop :=
  (∀ (s u w : State) (dt : Nat) (p q : Pkt) (d : Deferred) (x : Nat), u = s.elapse dt →
      q = p.asRow 0x9000 →
      Safety.admitted u q = some (w, d) →
      q.payload.length = 16 →
      le q.payload 0 16 = x →
      w.anyEnabled = false →
      w.mu.norBad = false →
      bits x 124 114 = 0 →
      bits x 99 96 = 0 →
      bits x 47 0 = 0 →
      10 ≤ bits x 95 80 →
      bits x 95 80 ≤ 150 →
      10 ≤ bits x 79 64 →
      bits x 79 64 ≤ 10000 →
      50 ≤ bits x 63 48 →
      bits x 63 48 ≤ 10000 →
      bit x 127 = true →
      bits x 113 100 ≠ 0 →
      ∃ v, exec (.flkConfig dt p) s = .next (Safety.done s u v d stOk []) ∧
        v.obj Obj.FLK_CFG = x ∧
        v.flk = w.flk) ∧
  (∀ (s u w : State) (dt : Nat) (p q : Pkt) (d : Deferred) (x : Nat), u = s.elapse dt →
      q = p.asRow 0x9000 →
      Safety.admitted u q = some (w, d) →
      q.payload.length = 16 →
      le q.payload 0 16 = x →
      w.anyEnabled = false →
      w.mu.norBad = false →
      bits x 124 114 = 0 →
      bits x 99 96 = 0 →
      bits x 47 0 = 0 →
      10 ≤ bits x 95 80 →
      bits x 95 80 ≤ 150 →
      10 ≤ bits x 79 64 →
      bits x 79 64 ≤ 10000 →
      50 ≤ bits x 63 48 →
      bits x 63 48 ≤ 10000 →
      bit x 127 = false →
      ∃ v, exec (.flkConfig dt p) s = .next (Safety.done s u v d stOk []) ∧
        v.obj Obj.FLK_CFG = x ∧
        v.flk.role = .none ∧
        v.flk.step = .none ∧
        v.flk.partner = none ∧
        v.flk.handover = none) ∧
  (∀ (s u w : State) (dt : Nat) (p q : Pkt) (d : Deferred), u = s.elapse dt →
      q = p.asRow 0x9002 →
      Safety.admitted u q = some (w, d) →
      q.payload.length = 0 →
      w.flk.step ≠ .resync →
      w.inFlask = true →
      w.flk.role = .none ∨ (w.flk.role = .standby ∧ w.flk.step = .outOfStep) →
      w.partnerActive = true →
      w.joinFail w.flk.partner = 0 →
      ∃ v, exec (.flkResync dt p) s = .next (Safety.done s u v d stAccepted []) ∧
        v.flk.step = .resync ∧
        v.flk.resyncStep = 2 ∧
        v.flk.role = .none ∧
        v.flk.retried = false ∧
        v.flk.mirror = [] ∧
        v.dia.traceOn = false) ∧
  (∀ (s u : State) (dt : Nat) (p q : Pkt) (w y : State) (e : Nat), u = s.elapse dt →
      q = p.asRow 0x9001 →
      u.cpTakes = true →
      u.takeEntry q = some (w, e) →
      checkHead q = none →
      w.sessionOk q = true →
      (((w.noteAccepted q).sessOf q).bind (fun x => x.replyOf q.seq.toNat) = none) →
      y = (w.noteAccepted q).remember q →
      y.host.deferred = [] →
      y.checkOp q = none →
      y.writeDenied q = false →
      y.inFlask = true →
      y.flk.role = .active →
      ∃ t, exec (.flkHandover dt p) s = .next t ∧
        t.host.deferred = [{ pkt := q, accepted := u.now, entry := e }] ∧
        t.flk.mirror = u.flk.mirror ++ [{ arrival := u.now, apply := u.now + u.applyDelay, seq := (u.flk.seqNo + 1) % 2 ^ 32, whole := true, body := .command q }]) ∧
  (∀ (s u : State) (dt : Nat) (m : MirrorItem) (p : Pkt), u = s.elapse dt →
      u.isReady = true →
      u.flk.step ≠ .resync →
      u.flk.mirror = [m] →
      m.apply ≤ u.now →
      m.body = .command p →
      p.opcode = 0x9001#16 →
      p.payload = toLE 16 0 →
      u.host.deferred = [{ pkt := p, accepted := m.arrival, entry := 0xFFFF }] →
      u.inFlask = true →
      u.flk.role = .active →
      u.mayHandOver = true →
      u.flk.handover = none →
      50 * usUnits ≤ u.handoverLead →
      ∃ t, exec (.mirrorApply dt) s = .next t ∧
        t.flk.handover = some (gridUp (m.arrival + u.handoverLead)) ∧
        t.flk.mirror = [] ∧
        t.flk.applied = m.seq ∧
        t.host.deferred = [])

/-- Events of the Flask (R325 to R339): heartbeats, claims, handover, the mirror and resynchronisation. -/
def Obligations.FlaskEventsComplete : Prop :=
  (∀ (s u : State) (dt : Nat) (m : MirrorItem) (x : Nat), u = s.elapse dt →
      u.isReady = true →
      u.flk.step ≠ .resync →
      u.flk.mirror = [m] →
      m.apply ≤ u.now →
      m.body = .increment x →
      bandLo u.anyEnabled ≤ x →
      x ≤ bandHi u.anyEnabled →
      ∃ t, exec (.mirrorApply dt) s = .next t ∧
        t.time.inc = x ∧
        t.time.ctr = u.time.ctr % 2 ^ 64 ∧
        t.flk.mirror = [] ∧
        t.flk.applied = m.seq) ∧
  (∀ (s u : State) (dt : Nat) (m : MirrorItem) (x : Nat), u = s.elapse dt →
      u.isReady = true →
      u.flk.step ≠ .resync →
      u.flk.mirror = [m] →
      m.apply ≤ u.now →
      m.body = .stepBy x →
      u.anyEnabled = false →
      ∃ t, exec (.mirrorApply dt) s = .next t ∧
        t.time.ctr = (u.time.ctr + x) % 2 ^ 64 ∧
        t.flk.mirror = [] ∧
        t.flk.applied = m.seq) ∧
  (∀ (s u : State) (dt : Nat), u = s.elapse dt →
      u.flk.held ≠ [] →
      u.nakComes = false →
      ∃ t, exec (.mirrorHoldExpire dt) s = .next t ∧
        (t.flk.held = u.flk.held.filter fun h => u.clk < h.2)) ∧
  (∀ (s u : State) (dt : Nat), u = s.elapse dt →
      u.ringOn = true →
      u.ring.hbAt / 40000 < u.now / 40000 →
      ∃ t, exec (.ringHeartbeatSend dt) s = .next t ∧
        t.ring.hb = some u.ownHeartbeat ∧
        t.ring.hbAt = u.now) ∧
  (∀ (s u : State) (dt : Nat) (port : Fin 2) (hb : Heartbeat), u = s.elapse dt →
      u.hears = true →
      hb.src ≠ u.nodeId →
      u.fenced (48 + port.val) = false →
      ∃ t, exec (.ringHeartbeatRx dt port hb) s = .next t ∧
        (hb.src, u.clk) ∈ t.ring.nodes ∧
        (u.inFlask = true → hb.src = u.partnerId → t.flk.partner = some hb ∧ t.flk.partnerDeadline = some (u.clk + 30 * usUnits) ∧ t.obj Obj.FLK_PARTNER_CLAIM = hb.claim)) ∧
  (∀ (s u : State) (dt : Nat) (port : Fin 2) (hb : Heartbeat), u = s.elapse dt →
      u.hears = true →
      hb.src ≠ u.nodeId →
      u.fenced (48 + port.val) = false →
      u.inFlask = true →
      hb.src = u.partnerId →
      u.flk.role = .standby →
      hb.claim / 2 ^ 14 = 0 →
      ∃ t, exec (.ringHeartbeatRx dt port hb) s = .next t ∧
        (t.flk.role = .candidate ∨ t.flk.role = .active)) ∧
  (∀ (s u : State) (dt : Nat) (x : Nat), u = s.elapse dt →
      u.flk.partnerDeadline = some x →
      u.isReady = true →
      u.inFlask = true →
      x ≤ u.clk →
      u.partnerComes = false →
      ∃ t, exec (.heartbeatFailure dt) s = .next t ∧
        t.flk.partner = none ∧
        t.flk.partnerDeadline = none ∧
        t.flk.handover = none ∧
        bit (t.obj Obj.FLK_STATUS) 19 = true ∧
        (u.flk.step ≠ .resync → u.flk.role = .standby ∨ u.flk.role = .active → t.flk.role = .candidate ∨ t.flk.role = .active) ∧
        (u.flk.step ≠ .resync → u.flk.role = .none → t.flk.role = .none)) ∧
  (∀ (s u : State) (dt : Nat) (x : Nat), u = s.elapse dt →
      u.flk.joinDeadline = some x →
      u.isReady = true →
      u.inFlask = true →
      u.flk.role = .none →
      u.flk.step ≠ .resync →
      u.flk.partner = none →
      x ≤ u.clk →
      u.partnerComes = false →
      u.joinFail none = 0 →
      ∃ t, exec (.joinWaitExpire dt) s = .next t ∧
        (t.flk.role = .candidate ∨ t.flk.role = .active) ∧
        t.flk.joinDeadline = none) ∧
  (∀ (s u : State) (dt : Nat), u = s.elapse dt →
      u.flk.role = .candidate →
      u.ringOn = true →
      ∃ t, exec (.ringClaimSend dt) s = .next t ∧
        (u.now, u.claim) ∈ t.ring.claims) ∧
  (∀ (s u : State) (dt : Nat) (port : Fin 2) (src claim : Nat), u = s.elapse dt →
      u.hears = true →
      u.inFlask = true →
      src = u.partnerId →
      u.fenced (48 + port.val) = false →
      u.claim < claim →
      2 ≤ claim / 2 ^ 14 →
      u.flk.role = .active ∨ u.flk.role = .candidate →
      ∃ t, exec (.ringClaimRx dt port src claim) s = .next t ∧
        t.flk.role = .standby ∧
        t.obj Obj.FLK_PARTNER_CLAIM = claim ∧
        t.flk.higherAt = some (u.clk + 30 * usUnits)) ∧
  (∀ (s u : State) (dt : Nat) (port : Fin 2) (src claim : Nat), u = s.elapse dt →
      u.hears = true →
      u.inFlask = true →
      src = u.partnerId →
      u.fenced (48 + port.val) = false →
      claim ≤ u.claim ∨ claim / 2 ^ 14 < 2 →
      ∃ t, exec (.ringClaimRx dt port src claim) s = .next t ∧
        t.flk.role = u.flk.role ∧
        t.obj Obj.FLK_PARTNER_CLAIM = claim) ∧
  (∀ (s u : State) (dt : Nat) (x : Stamp), u = s.elapse dt →
      u.isReady = true →
      u.flk.handover = some x →
      x ≤ u.now →
      u.ownFault = false →
      u.flk.role = .active ∨ u.flk.role = .standby →
      ∃ t, exec (.handoverBoundary dt) s = .next t ∧
        (t.flk.role = if u.flk.role = .active then .standby else .active) ∧
        t.flk.handover = none) ∧
  (∀ (s u : State) (dt : Nat) (port : Fin 2) (m : MirrorItem), u = s.elapse dt →
      u.hears = true →
      u.inFlask = true →
      u.flk.role = .standby →
      u.flk.step ≠ .resync →
      (u.ring.badGens.contains u.partnerId) = false →
      u.fenced (48 + port.val) = false →
      m.whole = true →
      u.flk.missing = [] →
      seqAfter m.seq u.flk.seqNo = 1 →
      u.now < m.apply →
      ∃ t, exec (.ringMirrorRx dt port [m]) s = .next t ∧
        t.flk = { u.flk with seqNo := m.seq, missing := [], mirror := insertItem m u.flk.mirror }) ∧
  (∀ (s u : State) (dt : Nat) (port : Fin 2) (m : MirrorItem), u = s.elapse dt →
      u.hears = true →
      u.inFlask = true →
      u.flk.role = .standby →
      u.flk.step ≠ .resync →
      (u.ring.badGens.contains u.partnerId) = false →
      u.fenced (48 + port.val) = false →
      m.whole = true →
      u.flk.missing = [] →
      seqAfter m.seq u.flk.seqNo = 1 →
      m.apply ≤ u.now →
      ∃ t, exec (.ringMirrorRx dt port [m]) s = .next t ∧
        t.flk = { u.flk with seqNo := m.seq, missing := [], step := .outOfStep }) ∧
  (∀ (s u : State) (dt : Nat) (first count : Nat), u = s.elapse dt →
      u.hears = true →
      u.inFlask = true →
      u.flk.role = .active →
      ((u.flk.held.filter fun h => decide (seqAfter h.1.seq first < count) && decide (u.clk ≤ h.2)) ≠ []) →
      ∃ t, exec (.ringNakRx dt first count) s = .next t ∧
        (t.obj Obj.RING_RETRY_CNT = min 0xFFFFFFFF (u.obj Obj.RING_RETRY_CNT + (u.flk.held.filter fun h => decide (seqAfter h.1.seq first < count) && decide (u.clk ≤ h.2)).length))) ∧
  (∀ (s u : State) (dt : Nat), u = s.elapse dt →
      u.hears = true →
      u.inFlask = true →
      u.flk.role = .standby →
      ∃ t, exec (.ringMirrorResetRx dt) s = .next t ∧
        t.flk = { u.flk with step := .outOfStep }) ∧
  (∀ (s u : State) (dt : Nat) (k : Fin 6) (x c n : Nat) (crc : Word), u = s.elapse dt →
      u.hears = true →
      u.inFlask = true →
      u.flk.role = .standby →
      u.flk.loose = false →
      bfind u.flk.digest k.val = some (x, c, n) →
      u.edgeMuted k.val x = false →
      c = crc.toNat →
      ∃ t, exec (.ringDigestRx dt k x crc) s = .next t ∧
        bfind t.flk.digest k.val = some (x, c, 0) ∧
        t.flk.step = u.flk.step) ∧
  (∀ (s u : State) (dt : Nat) (k : Fin 6) (x c n : Nat) (crc : Word), u = s.elapse dt →
      u.hears = true →
      u.inFlask = true →
      u.flk.role = .standby →
      u.flk.loose = false →
      bfind u.flk.digest k.val = some (x, c, n) →
      u.edgeMuted k.val x = false →
      c ≠ crc.toNat →
      ∃ t, exec (.ringDigestRx dt k x crc) s = .next t ∧
        bfind t.flk.digest k.val = some (x, c, n + 1) ∧
        bit (t.obj Obj.FLK_STATUS) 17 = true ∧
        (t.flk.step = if 3 ≤ n + 1 ∧ u.flk.step = .inStep then .outOfStep else u.flk.step))

/-- Time and object exchange over the ring, the lock of a port, and the steps of a resynchronisation (R339 to R345). -/
def Obligations.RingEventsComplete : Prop :=
  (∀ (s u : State) (dt : Nat), u = s.elapse dt →
      u.ringOn = true →
      u.alignPeer ≠ 0 →
      u.ring.alignDue ≤ u.clk →
      ∃ t, exec (.ringAlignExchange dt) s = .next t ∧
        t.ring.alignT1 = some u.now ∧
        (t.ring.alignDue = u.clk + (if u.flk.step = .resync then 100 * usUnits else msUnits))) ∧
  (∀ (s u : State) (dt : Nat) (src : Nat) (t1 t2 t3 : Stamp), u = s.elapse dt →
      u.hears = true →
      u.cpStands = false →
      src = u.alignPeer →
      u.ring.alignT1 = some t1 →
      u.flk.step = .resync →
      ∃ t, exec (.ringAlignRx dt src true t1 t2 t3) s = .next t ∧
        t.ring.alignT1 = none ∧
        t.flk.alignCount = u.flk.alignCount + 1) ∧
  (∀ (s u : State) (dt : Nat) (src : Nat) (t1 t2 t3 : Stamp), u = s.elapse dt →
      u.hears = true →
      u.cpStands = false →
      src = u.alignPeer →
      u.ring.alignT1 = some t1 →
      u.flk.step ≠ .resync →
      ∃ t, exec (.ringAlignRx dt src true t1 t2 t3) s = .next t ∧
        t.ring.alignT1 = none ∧
        t.obj Obj.TIM_OFFSET = unsgn 64 ((((t2 : Int) - t1) - ((u.now : Int) - t3)).tdiv 2)) ∧
  (∀ (s u : State) (dt : Nat) (src : Nat) (p q : Pkt), u = s.elapse dt →
      q = { p with link := .ring src } →
      u.hears = true →
      u.cpTakes = true →
      (u.ring.badGens.contains src) = false →
      q.flags.getLsbD 0 = false →
      u.ring.objx < 8 →
      checkHead q = none →
      objxAllowed q = true →
      q.target = 0x0E#8 →
      q.opcode = 0x1000#16 →
      q.payload.length = 8 →
      zeros q.payload 4 4 = true →
      le q.payload 0 4 = 0x302 →
      u.host.deferred = [] →
      ∃ t, exec (.ringObjxRx dt src p) s = .next t ∧
        t.host.out = u.host.out ++ [mkReply q 0xFFFF false u.now u.now stOk (u.readRec 0x302)] ∧
        t.ring.objx = u.ring.objx) ∧
  (∀ (s u : State) (dt : Nat) (offset bytes : Nat) (recs : List ObjRec), u = s.elapse dt →
      u.hears = true →
      u.inResync 4 = true →
      offset = u.flk.imageLen →
      ∃ t, exec (.ringResyncRx dt offset recs bytes) s = .next t ∧
        t.flk = { u.flk with image := u.flk.image ++ recs, imageLen := u.flk.imageLen + bytes }) ∧
  (∀ (s u : State) (dt : Nat) (port : Fin 2), u = s.elapse dt →
      u.isReady = true →
      u.fenced (48 + port.val) = false →
      ∃ t, exec (.ringPortLock dt port) s = .next t ∧
        t.ring = { u.ring with lockA := port = 0 || u.ring.lockA, lockB := port = 1 || u.ring.lockB }) ∧
  (∀ (s u : State) (dt : Nat) (port : Fin 2), u = s.elapse dt →
      ∃ t, exec (.ringPortUnlock dt port) s = .next t ∧
        t.ring = { u.ring with lockA := port ≠ 0 && u.ring.lockA, lockB := port ≠ 1 && u.ring.lockB }) ∧
  (∀ (s u : State) (dt : Nat) (a : Stamp) (i : Nat), u = s.elapse dt →
      u.inResync 2 = true →
      8 ≤ u.flk.alignCount →
      u.now ≤ a →
      bandLo false ≤ i →
      i ≤ bandHi false →
      ∃ t, exec (.resyncTimeAligned dt a i true) s = .next t ∧
        t.time.ctr = a % 2 ^ 64 ∧
        t.time.inc = i ∧
        t.flk.resyncStep = 4 ∧
        t.flk.image = [] ∧
        t.flk.imageLen = 0) ∧
  (∀ (s u : State) (dt : Nat) (a : Stamp) (i : Nat) (z : Bool), u = s.elapse dt →
      u.inResync 2 = true →
      z = false ∨ u.flk.alignCount < 8 ∨ a < u.now →
      ∃ t, exec (.resyncTimeAligned dt a i z) s = .next t ∧
        t.flk.step = .none ∧
        t.flk.resyncStep = 0 ∧
        (t.flk.retryAt = if bit (u.obj Obj.FLK_CFG) 126 && !u.flk.retried then some (u.clk + sUnits) else none)) ∧
  (∀ (s u : State) (dt : Nat), u = s.elapse dt →
      u.inResync 4 = true →
      ∃ t, exec (.resyncImageDone dt) s = .next t ∧
        t.flk.resyncStep = 5 ∧
        t.flk.image = [] ∧
        t.flk.snapAt = some (gridUp (u.now + msUnits))) ∧
  (∀ (s u : State) (dt : Nat) (x : Stamp), u = s.elapse dt →
      u.flk.snapAt = some x →
      u.inResync 5 = true →
      x ≤ u.now →
      ∃ t, exec (.resyncSnapshot dt) s = .next t ∧
        t.flk = { u.flk with resyncStep := 6, resyncDeadline := some (x + 2 * msUnits - u.tl.steps), encAt := u.enc }) ∧
  (∀ (s u : State) (dt : Nat) (snap : Snapshot), u = s.elapse dt →
      u.inResync 6 = true →
      ∃ t, exec (.resyncSnapshotDone dt snap) s = .next t ∧
        t.slices = snap.slices ∧
        (t.enc = snap.encs.map (fun e => (e.1, e.2.since (bget {} u.flk.encAt e.1) (u.encU e.1)))) ∧
        t.eng.ctxs = snap.ctxs ∧
        t.mclk.inEdges = snap.mclkEdges + (u.now - (u.flk.snapAt).getD u.now) * u.obj Obj.SD_MCLK_IN_NOM / sUnits ∧
        t.flk.resyncStep = 7) ∧
  (∀ (s u : State) (dt : Nat) (x : Nat), u = s.elapse dt →
      u.inResync 7 = true →
      u.flk.resyncDeadline = some x →
      u.clk ≤ x →
      u.flk.mirror = [] →
      ((List.range 6).any (fun k => (u.sl k).modu.running) = false) →
      ∃ t, exec (.resyncLive dt) s = .next t ∧
        t.flk.role = .standby ∧
        (t.flk.step = if u.flk.loose then .loose else .inStep) ∧
        t.flk.resyncStep = 0 ∧
        t.flk.retried = false ∧
        t.flk.edgesFrom = some u.now) ∧
  (∀ (s u : State) (dt : Nat) (x : Nat), u = s.elapse dt →
      u.inResync 7 = true →
      u.flk.resyncDeadline = some x →
      u.clk ≤ x →
      u.flk.mirror = [] →
      ((List.range 6).any (fun k => (u.sl k).modu.running) = true) →
      ∃ t, exec (.resyncLive dt) s = .next t ∧
        t.flk = { u.flk with resyncStep := 8, resyncDeadline := none, edgesFrom := some u.now, digest := [], remote := [] }) ∧
  (∀ (s u : State) (dt : Nat) (x : Nat), u = s.elapse dt →
      u.flk.resyncDeadline = some x →
      u.isReady = true →
      x ≤ u.clk →
      u.liveComes = false →
      u.flk.step = .resync →
      ∃ t, exec (.resyncLiveDeadline dt) s = .next t ∧
        t.flk.step = .none ∧
        t.flk.resyncStep = 0 ∧
        (t.flk.retryAt = if bit (u.obj Obj.FLK_CFG) 126 && !u.flk.retried then some (u.clk + sUnits) else none) ∧
        t.flk.resyncDeadline = none) ∧
  (∀ (s u : State) (dt : Nat) (x : Nat), u = s.elapse dt →
      u.flk.retryAt = some x →
      u.isReady = true →
      u.inFlask = true →
      x ≤ u.clk →
      u.flk.role = .none →
      u.flk.step ≠ .resync →
      u.partnerActive = true →
      u.joinFail u.flk.partner = 0 →
      ∃ t, exec (.resyncRetry dt) s = .next t ∧
        t.flk.step = .resync ∧
        t.flk.resyncStep = 2 ∧
        t.flk.retryAt = none)

/-- Sigma-delta sensing (R136 to R155, R302): results, clocks, stuck and recovered inputs, fast comparators. -/
def Obligations.SensingEventsComplete : Prop :=
  (∀ (s u : State) (dt : Nat) (ch : Fin 64) (stream : List Bool) (w : State) (k j : Nat) (code : Int) (clamp : Bool) (r : SdRes), u = s.elapse dt →
      w = u.capture ch.val stream →
      w.sdLive ch.val = true →
      w.sdSlot ch.val = some (k, j) →
      (w.sdU ch.val).lost = false →
      w.isMon ch.val = false →
      (w.resultDue ch.val (slotOsr (w.slot k j)) (if w.enabled k then some (k, true) else none) = true) →
      sdCode (slotOsr (w.slot k j)) (mainSum (slotOsr (w.slot k j)) (w.sdU ch.val).stream) = (code, clamp) →
      r = { stamp := w.now, code := code, value := sdValue (w.slot k j) code, ovr := clamp || decide (0 < (w.sdU ch.val).ovrLeft) } →
      ∃ t, exec (.sdMainResult dt ch none stream) s = .next t ∧
        bfind (t.sl k).slotRes j = some r ∧
        (t.sdU ch.val).last = some r ∧
        (t.sdU ch.val).prev = (w.sdU ch.val).last ∧
        t.obj (Obj.SD_VALUE + ch.val) = r.value.toNat ∧
        ((t.sdU ch.val).ovrLeft = if clamp then 2 else (w.sdU ch.val).ovrLeft - 1) ∧
        (t.sdU ch.val).stream = (w.sdU ch.val).stream) ∧
  (∀ (s u : State) (dt : Nat) (ch : Fin 64) (sh : Option (Fin 6 × Fin 16)) (b : Bool), u = s.elapse dt →
      u.sdLive ch.val = true →
      (u.sdU ch.val).stream.length < 1534 →
      bit (u.obj (Obj.SAF_SD_FAST + ch.val)) 63 = false →
      bit (u.obj (Obj.SAF_SD_FAST + ch.val)) 62 = false →
      ∃ t, exec (.sdMainResult dt ch sh [b]) s = .next t ∧
        (t.sdU ch.val).stream = b :: (u.sdU ch.val).stream ∧
        ((t.sdU ch.val).run = if (u.sdU ch.val).stream.head? = some b then min 258 ((u.sdU ch.val).run + 1) else 1)) ∧
  (∀ (s u : State) (dt : Nat) (ch : Fin 64) (k j : Nat) (q : InterpReq) (b : SdRes), u = s.elapse dt →
      u.sdLive ch.val = true →
      ((List.range 96).filter (fun i => slotEn (u.slot (i / 16) (i % 16)) && (if u.promoted (i / 16) (i % 16) then slotMon (u.slot (i / 16) (i % 16)) = ch.val else slotCh (u.slot (i / 16) (i % 16)) = ch.val)) = [16 * k + j]) →
      j < 16 →
      u.promoted k j = false →
      (u.sdU ch.val).reqs = [q] →
      q.slice = k →
      q.slot = j →
      q.snapshot = false →
      bfind (u.sl k).slotRes j = some b →
      b.stamp = q.at_ →
      ∃ t, exec (.sdInterpResult dt ch) s = .next t ∧
        (t.sdU ch.val).reqs = [] ∧
        bfind (t.sl k).slotInterp j = some b) ∧
  (∀ (s u : State) (dt : Nat) (ch : Fin 64) (k j : Nat) (q : InterpReq) (a b : SdRes) (c : Int), u = s.elapse dt →
      u.sdLive ch.val = true →
      ((List.range 96).filter (fun i => slotEn (u.slot (i / 16) (i % 16)) && (if u.promoted (i / 16) (i % 16) then slotMon (u.slot (i / 16) (i % 16)) = ch.val else slotCh (u.slot (i / 16) (i % 16)) = ch.val)) = [16 * k + j]) →
      j < 16 →
      u.promoted k j = false →
      (u.sdU ch.val).reqs = [q] →
      q.slice = k →
      q.slot = j →
      q.snapshot = false →
      bfind (u.sl k).slotRes j = some b →
      bfind (u.sl k).slotPrev j = some a →
      a.stamp < q.at_ →
      q.at_ < b.stamp →
      c = a.code + ((b.code - a.code) * ((q.at_ - a.stamp) * 2 ^ 32 / (b.stamp - a.stamp)) + 2 ^ 31) / 2 ^ 32 →
      ∃ t, exec (.sdInterpResult dt ch) s = .next t ∧
        (t.sdU ch.val).reqs = [] ∧
        bfind (t.sl k).slotInterp j = some { stamp := q.at_, code := c, value := sdValue (u.slot k j) c, ovr := a.ovr || b.ovr }) ∧
  (∀ (s u : State) (dt : Nat) (ch : Fin 64) (stream : List Bool) (last : Bool) (w : State) (role k cfg : Nat) (l : List Bool) (x : Int), u = s.elapse dt →
      w = u.capture ch.val stream →
      w.sdLive ch.val = true →
      (w.sdU ch.val).lost = false →
      w.sdRole ch.val = some (role, k) →
      k < 6 →
      cfg = w.obj (Obj.SAF_SD_FAST + ch.val) →
      l = (last :: (w.sdU ch.val).stream).take 1534 →
      2 * bits cfg 61 55 - 1 ≤ l.length →
      x = fastCode (bits cfg 61 55) (fastSum (bits cfg 61 55) l) →
      w.obj (Obj.SD_STAT + ch.val) &&& 0x60 = 0 →
      (w.rs k).forced = none →
      (w.sdU ch.val).stream.head? ≠ some last ∨ (w.sdU ch.val).run < 256 →
      bit cfg 63 = true →
      sgn 16 (bits cfg 31 16) ≤ x →
      bits cfg 54 51 ≤ (w.sdU ch.val).qualHi →
      (w.sdU ch.val).inHi = false →
      bit cfg 62 = false ∨ sgn 16 (bits cfg 15 0) < x →
      ∃ t, exec (.sdFastTrip dt ch stream last) s = .next t ∧
        bit (t.obj (Obj.SD_STAT + ch.val)) 5 = true ∧
        (t.sdU ch.val).tripsHi = 1 ∧
        (t.sdU ch.val).inHi = true ∧
        ((t.rs k).forced = if role = 0 then some (reactForce (w.obj (safo k Obj.SAF_OC_REACT)), 9) else if role = 1 then some (reactForce (w.obj (safo k Obj.SAF_OV_REACT)), 10) else none)) ∧
  (∀ (s u : State) (dt : Nat) (ch : Fin 64) (stream : List Bool) (last : Bool) (w : State) (role k cfg : Nat) (l : List Bool) (x : Int), u = s.elapse dt →
      w = u.capture ch.val stream →
      w.sdLive ch.val = true →
      (w.sdU ch.val).lost = false →
      w.sdRole ch.val = some (role, k) →
      k < 6 →
      cfg = w.obj (Obj.SAF_SD_FAST + ch.val) →
      l = (last :: (w.sdU ch.val).stream).take 1534 →
      2 * bits cfg 61 55 - 1 ≤ l.length →
      x = fastCode (bits cfg 61 55) (fastSum (bits cfg 61 55) l) →
      w.obj (Obj.SD_STAT + ch.val) &&& 0x60 = 0 →
      (w.rs k).forced = none →
      (w.sdU ch.val).stream.head? ≠ some last ∨ (w.sdU ch.val).run < 256 →
      bit cfg 62 = true →
      x ≤ sgn 16 (bits cfg 15 0) →
      bits cfg 54 51 ≤ (w.sdU ch.val).qualLo →
      (w.sdU ch.val).inLo = false →
      bit cfg 63 = false ∨ x < sgn 16 (bits cfg 31 16) →
      ∃ t, exec (.sdFastTrip dt ch stream last) s = .next t ∧
        bit (t.obj (Obj.SD_STAT + ch.val)) 6 = true ∧
        (t.sdU ch.val).tripsLo = 1 ∧
        (t.sdU ch.val).inLo = true ∧
        ((t.rs k).forced = if role = 0 then some (reactForce (w.obj (safo k Obj.SAF_OC_REACT)), 9) else none)) ∧
  (∀ (s u : State) (dt : Nat) (c : SdBits) (l : List Bool) (b : Bool) (w : State), u = s.elapse dt →
      c.stream = l ++ [b] →
      w = u.capture c.ch.val l →
      w.sdLive c.ch.val = true →
      (w.sdU c.ch.val).lost = false →
      (w.sdU c.ch.val).run = 256 →
      (w.sdU c.ch.val).stream.head? = some b →
      bit (w.obj (Obj.SAF_SD_FAST + c.ch.val)) 63 = false →
      bit (w.obj (Obj.SAF_SD_FAST + c.ch.val)) 62 = false →
      ∃ t, exec (.sdStuck dt c) s = .next t ∧
        (t.sdU c.ch.val).lost = true ∧
        (t.sdU c.ch.val).okSince = none ∧
        (t.sdU c.ch.val).run = 257 ∧
        bit (t.obj (Obj.SD_STAT + c.ch.val)) 7 = true) ∧
  (∀ (s u : State) (dt : Nat), u = s.elapse dt →
      u.isReady = true →
      u.anyExt = true →
      2 * sUnits ≤ (u.clk - u.mclk.lastEdge) * u.obj Obj.SD_MCLK_IN_NOM →
      ∃ t, exec (.mclkInLost dt) s = .next t ∧
        t.mclk.inRun = false ∧
        bit (t.obj Obj.SD_MCLK_IN_STAT) 0 = true ∧
        bit (t.obj Obj.SD_MCLK_IN_STAT) 2 = false ∧
        (∀ n ∈ u.extChannels, (u.sdSlot n).isSome = true → (t.sdU n).lost = true)) ∧
  (∀ (s u : State) (dt : Nat) (hertz : Nat) (margin : Bool), u = s.elapse dt →
      u.isReady = true →
      u.anyExt = true →
      u.obj Obj.SD_MCLK_IN_NOM < 100 * (u.obj Obj.SD_MCLK_IN_NOM - hertz) ∨ u.obj Obj.SD_MCLK_IN_NOM < 100 * (hertz - u.obj Obj.SD_MCLK_IN_NOM) →
      ∃ t, exec (.mclkInFreqWindow dt hertz margin) s = .next t ∧
        bit (t.obj Obj.SD_MCLK_IN_STAT) 1 = true ∧
        t.flk.clkMargin = (margin || u.flk.clkMargin) ∧
        (∀ n ∈ u.extChannels, (u.sdSlot n).isSome = true → (t.sdU n).lost = true)) ∧
  (∀ (s u : State) (dt : Nat), u = s.elapse dt →
      u.isReady = true →
      ∃ t, exec (.mclkInReturn dt) s = .next t ∧
        t.mclk.inRun = true ∧
        t.mclk.inEdges = u.mclkCount + 1 ∧
        t.mclk.edge0 = u.tick ∧
        t.mclk.lastEdge = u.clk ∧
        bit (t.obj Obj.SD_MCLK_IN_STAT) 2 = true) ∧
  (∀ (s u : State) (dt : Nat) (ch : Fin 64) (x : Nat), u = s.elapse dt →
      (u.sdU ch.val).okSince = some x →
      u.sdLive ch.val = true →
      u.isMon ch.val = true →
      (u.sdU ch.val).lost = true →
      x + msUnits ≤ u.clk →
      ∃ t, exec (.sdMonitorRecover dt ch) s = .next t ∧
        t.sdU ch.val = { u.sdU ch.val with lost := false }) ∧
  (∀ (s u : State) (dt : Nat) (g : Fin 8) (cfg x : Nat), u = s.elapse dt →
      bfind u.mclk.pendDiv g.val = some (cfg, x) →
      x ≤ u.now →
      0 < bits cfg 6 0 →
      (u.tick - u.mu.t0) % bits cfg 6 0 = 0 →
      ∃ t, exec (.sdMclkDivApply dt g) s = .next t ∧
        bfind t.mclk.pendDiv g.val = none ∧
        bfind t.mclk.div g.val = some (bits cfg 6 0) ∧
        (bit cfg 15 = true → bit cfg 14 = false → bfind t.mclk.started g.val = some ((bfind u.mclk.started g.val).getD u.tick)) ∧
        (bit cfg 15 = false ∨ bit cfg 14 = true → bfind t.mclk.started g.val = none))

/-- The auxiliary converters (R158 to R168), the housekeeping round (R169 to R175) and the thermal rules (R379 to R386). -/
def Obligations.AuxAndHousekeepingEventsComplete : Prop :=
  (∀ (s u : State) (dt : Nat) (k : Fin 4) (level : Int) (c : AuxConv), u = s.elapse dt →
      (u.auxU k.val).conv = some c →
      c.sampled = none →
      (c.start + (if c.cold then 2600 else 1000) ≤ u.clk) →
      ∃ t, exec (.auxSampleEnd dt k level) s = .next t ∧
        t.auxU k.val = { u.auxU k.val with conv := some { c with sampled := some (u.now, level, u.objF (Obj.AUX_REF_CORR + k.val)) } }) ∧
  (∀ (s u : State) (dt : Nat) (k : Fin 4) (c : AuxConv) (x : Stamp) (level : Int) (corr own : F32), u = s.elapse dt →
      (u.auxU k.val).conv = some c →
      c.sampled = some (x, level, corr) →
      (c.start + (if c.cold then 5600 else 4000) ≤ u.clk) →
      (u.auxU k.val).pend = none →
      u.inFlask = false →
      0 ≤ level →
      level ≤ 0xFFF →
      (own = if (bget {} u.dict.info (Obj.AUX_REF_CORR + k.val)).stamp ≤ x then u.objF (Obj.AUX_REF_CORR + k.val) else corr) →
      ∃ t, exec (.auxConversionEnd dt k) s = .next t ∧
        (t.auxU k.val).conv = none ∧
        (t.auxU k.val).ended = some u.now ∧
        t.obj (Obj.AUX_VALUE + (8 * k.val + c.chan)) = (fAddS (fMulS (BitVec.ofNat 32 (bits (u.obj (Obj.AUX_CH_SCALE + (8 * k.val + c.chan))) 63 32)) (fMulS (f32OfInt level) own)) (BitVec.ofNat 32 (bits (u.obj (Obj.AUX_CH_SCALE + (8 * k.val + c.chan))) 31 0))).toNat) ∧
  (∀ (s u : State) (dt : Nat) (k : Fin 4) (x : Stamp), u = s.elapse dt →
      (u.auxU k.val).ended = some x →
      x < u.now →
      ∃ t, exec (.auxPowerDown dt k) s = .next t ∧
        t.auxU k.val = { u.auxU k.val with ended := none }) ∧
  (∀ (s u : State) (dt : Nat) (x : F32), u = s.elapse dt →
      u.mu.booted = true →
      u.mu.restarting = false →
      u.hk.slot < 64 →
      ∃ t, exec (.hkSlot dt x) s = .next t ∧
        t.hk.slot = u.hk.slot + 1 ∧
        (bget 0#32 t.hk.vals u.hk.slot = if u.hk.slot ≤ 36 ∧ fFin x = true then x else 0#32)) ∧
  (∀ (s u : State) (dt : Nat), u = s.elapse dt →
      u.mu.booted = true →
      u.mu.restarting = false →
      u.hk.slot = 64 →
      u.hk.hot = false →
      ∃ t, exec (.hkRoundEnd dt) s = .next t ∧
        t.hk.slot = 0 ∧
        t.hk.vals = [] ∧
        t.hk.lateSeen = false ∧
        t.hk.roundDeadline = u.muNow + msUnits ∧
        (∀ k ∈ List.range 64, t.obj (Obj.HK_VALUE + k) = (u.hkVal k).toNat)) ∧
  (∀ (s u : State) (dt : Nat), u = s.elapse dt →
      u.mu.booted = true →
      u.hk.roundDeadline < u.muNow →
      ∃ t, exec (.hkRoundLate dt) s = .next t ∧
        t.hk.late = u.hk.late + 1 ∧
        t.hk.good = 0 ∧
        t.hk.lateSeen = true ∧
        t.hk.roundDeadline = u.hk.roundDeadline + msUnits ∧
        t.hk.absent = (u.hk.absent || decide (2 ≤ u.hk.late))) ∧
  (∀ (s u : State) (dt : Nat) (x : Nat), u = s.elapse dt →
      u.hk.graceDeadline = some x →
      u.isReady = true →
      x ≤ u.clk →
      bit (u.obj Obj.MGT_THERM_STAT) 3 = true →
      u.inFlask = false →
      ∃ t, exec (.throttleEnforce dt) s = .next t ∧
        t.hk.graceDeadline = none ∧
        t.hk.enfOwn = true ∧
        bit (t.obj Obj.MGT_THERM_STAT) 4 = true) ∧
  (∀ (s u : State) (dt : Nat) (x : Stamp), u = s.elapse dt →
      u.isReady = true →
      u.hk.stopAt = some x →
      u.hk.stopDeadline ≤ u.clk →
      u.hk.holdDue ≠ some u.hk.stopDeadline →
      (∀ k < 6, (u.rs k).forced = none) →
      ∃ t, exec (.thermalStopDeadline dt) s = .next t ∧
        (∀ k < 6, (t.sl k).st = if (u.sl k).st = .disabled then .disabled else .heldBlock)) ∧
  (∀ (s u : State) (dt : Nat) (x : Nat) (y : Stamp), u = s.elapse dt →
      u.hk.holdDue = some x →
      u.isReady = true →
      u.hk.stopAt = some y →
      x ≤ u.clk →
      ∃ t, exec (.thermalHoldEntry dt) s = .next t ∧
        t.mu.phase = .thermalHold ∧
        t.hk.leave = 0)

/-- Position feedback (R176 to R200): steps of the count, sectors, index references, probe latches, SSI frames, speed and standstill. -/
def Obligations.EncoderEventsComplete : Prop :=
  (∀ (s u : State) (dt : Nat) (n : Fin 8) (a b : Bool) (e : Enc), u = s.elapse dt →
      u.encOn n.val = true →
      u.encMode n.val = 0 →
      e = u.encU n.val →
      (e.a ≠ a ∧ e.b = b) ∨ (e.a = a ∧ e.b ≠ b) →
      ∃ t, exec (.encQuadTransition dt n a b) s = .next t ∧
        (t.encU n.val).a = a ∧
        (t.encU n.val).b = b ∧
        ((t.encU n.val).raw = wrap32 (e.raw + if decide ((quadPos a b - quadPos e.a e.b) % 4 = 1) = (u.encPar n.val).dirInv then -1 else 1)) ∧
        (t.encU n.val).standstill = false ∧
        (t.encU n.val).lastTrans = some (u.filtStamp n.val - u.tl.steps)) ∧
  (∀ (s u : State) (dt : Nat) (n : Fin 8) (a b : Bool) (e : Enc), u = s.elapse dt →
      u.encOn n.val = true →
      u.encMode n.val = 0 →
      e = u.encU n.val →
      e.a ≠ a →
      e.b ≠ b →
      ∃ t, exec (.encQuadTransition dt n a b) s = .next t ∧
        (t.encU n.val).a = a ∧
        (t.encU n.val).b = b ∧
        (t.encU n.val).raw = e.raw ∧
        bit (t.obj (Obj.ENC_STAT + n.val)) 0 = true) ∧
  (∀ (s u : State) (dt : Nat) (n : Fin 8) (h : Fin 8) (e : Enc) (i j : Nat) (d : Int), u = s.elapse dt →
      u.encOn n.val = true →
      u.encMode n.val = 1 →
      e = u.encU n.val →
      h.val ≠ e.hall →
      hallSector h.val = some i →
      popcount3 (h.val ^^^ e.hall) < 2 →
      e.sector = some j →
      i = (j + 1) % 6 →
      (d = if (u.encPar n.val).dirInv then -1 else 1) →
      ∃ t, exec (.encHallTransition dt n h) s = .next t ∧
        (t.encU n.val).hall = h.val ∧
        (t.encU n.val).sector = some i ∧
        ((t.encU n.val).hallAng = if (u.encPar n.val).commHyst = true ∧ e.d ≠ 0 ∧ e.d ≠ d then e.hallAng else some (BitVec.ofNat 32 ((u.encPar n.val).offset + (roundHalfAway (i * 2 ^ 32 : Nat) 6).toNat))) ∧
        (t.encU n.val).raw = wrap32 (e.raw + d)) ∧
  (∀ (s u : State) (dt : Nat) (n : Fin 8) (rising : Bool) (e c : Enc), u = s.elapse dt →
      u.encOn n.val = true →
      u.encMode n.val = 0 →
      e = u.encU n.val →
      c = u.encWith n.val (u.encPar n.val) e (u.filtStamp n.val) →
      (u.encPar n.val).indexEn = true →
      (rising = true ∧ 0 ≤ e.d) ∨ (rising = false ∧ e.d = -1) →
      ∃ t, exec (.encIndex dt n rising) s = .next t ∧
        (t.encU n.val).m0 = some (c.comm (u.encPar n.val)) ∧
        (t.encU n.val).refs = e.refs + 1 ∧
        (t.encU n.val).refRaw = c.raw ∧
        (t.encU n.val).raw = e.raw) ∧
  (∀ (s u : State) (dt : Nat) (n : Fin 8), u = s.elapse dt →
      u.encOn n.val = true →
      bit (u.encCfg n.val) 64 = true →
      u.inFlask = false →
      ∃ t, exec (.encProbeEdge dt n true) s = .next t ∧
        t.obj (Obj.ENC_PROBE_RISE + n.val) = latchVal (u.filtStamp n.val) (u.encWith n.val (u.encPar n.val) (u.encU n.val) (u.filtStamp n.val)).raw ((u.encU n.val).riseSeq + 1) ∧
        t.encU n.val = { u.encU n.val with riseUnread := true, riseSeq := (u.encU n.val).riseSeq + 1 }) ∧
  (∀ (s u : State) (dt : Nat) (n : Fin 8), u = s.elapse dt →
      u.encOn n.val = true →
      bit (u.encCfg n.val) 65 = true →
      u.inFlask = false →
      ∃ t, exec (.encProbeEdge dt n false) s = .next t ∧
        t.obj (Obj.ENC_PROBE_FALL + n.val) = latchVal (u.filtStamp n.val) (u.encWith n.val (u.encPar n.val) (u.encU n.val) (u.filtStamp n.val)).raw ((u.encU n.val).fallSeq + 1) ∧
        t.encU n.val = { u.encU n.val with fallUnread := true, fallSeq := (u.encU n.val).fallSeq + 1 }) ∧
  (∀ (s u : State) (dt : Nat) (n : Fin 8), u = s.elapse dt →
      u.encOn n.val = true →
      u.stillNow n.val (u.encPar n.val) (u.encU n.val) (u.filtStamp n.val) = true →
      ∃ t, exec (.encStandstill dt n) s = .next t ∧
        (t.encU n.val).standstill = true ∧
        (t.encU n.val).speed = 0#32 ∧
        (t.encU n.val).valid = false ∧
        (t.encU n.val).hist = []) ∧
  (∀ (s u : State) (dt : Nat) (n : Fin 8) (x : Stamp), u = s.elapse dt →
      u.encOn n.val = true →
      u.gridNow 400000 = some x →
      6 ≤ u.encOwner n.val →
      u.encMode n.val ≠ 2 →
      ∃ t, exec (.encSpeedEval dt n) s = .next t ∧
        t.encU n.val = { u.encU n.val with speed := (u.encLatched n.val x).speedEst (u.encPar n.val).speedWin x, speedAt := x }) ∧
  (∀ (s u : State) (dt : Nat) (n : Fin 8) (w : Nat) (par : Bool) (e : Enc) (x : Stamp) (v : Nat), u = s.elapse dt →
      u.encOn n.val = true →
      u.encMode n.val = 2 →
      e = u.encU n.val →
      e.frameStart = some x →
      e.frameTick + ssiTicks (u.ssiCfg n.val) ≤ u.tick →
      e.frameBHigh = true →
      e.frameCut = false →
      bits (u.ssiCfg n.val) 51 50 = 0 →
      bit (u.ssiCfg n.val) 49 = false →
      e.ssiPos = none →
      v = w % 2 ^ bits (u.ssiCfg n.val) 63 58 →
      ∃ t, exec (.ssiFrameEnd dt n w par) s = .next t ∧
        (t.encU n.val).ssiPos = some (v % 2 ^ bits (u.ssiCfg n.val) 57 52, v / 2 ^ bits (u.ssiCfg n.val) 57 52, x) ∧
        (t.encU n.val).raw = sgn 32 v ∧
        (t.encU n.val).ssiBad = 0 ∧
        (t.encU n.val).frameStart = none ∧
        (t.encU n.val).monoEnd = some (u.clk + bits (u.ssiCfg n.val) 31 24 * usUnits))

/-- Occurrences of rally entries (R82 to R88) and the TIO pins (R90). -/
def Obligations.RallyAndTioEventsComplete : Prop :=
  (∀ (s u : State) (dt : Nat) (k : Fin 6) (e : Fin 64) (w : State) (x : Stamp), u = s.elapse dt →
      w = u.fireBefore k.val e.val →
      w.timeDue k.val e.val = some x →
      ∃ t, exec (.rallyTimeOccurrence dt k e) s = .next t ∧
        t.rallyD k.val e.val = { w.rallyD k.val e.val with occ := (w.rallyD k.val e.val).occ + 1, next := nextTime (rA (w.rallyV k.val e.val)) (rB (w.rallyV k.val e.val)) (x + 1) }) ∧
  (∀ (s u : State) (dt : Nat) (k : Fin 6) (e : Fin 64) (w : State) (x : Stamp), u = s.elapse dt →
      w = u.fireBefore k.val e.val →
      w.pwmDue k.val e.val = some x →
      ∃ t, exec (.rallyPwmPhaseOccurrence dt k e) s = .next t ∧
        t.rallyD k.val e.val = { w.rallyD k.val e.val with occ := (w.rallyD k.val e.val).occ + 1, next := x + 1 }) ∧
  (∀ (s u : State) (dt : Nat) (k : Fin 6) (e : Fin 64) (w : State) (x : Stamp), u = s.elapse dt →
      w = u.fireBefore k.val e.val →
      w.angleDue k.val e.val = some x →
      ∃ t, exec (.rallyAngleOccurrence dt k e) s = .next t ∧
        t.rallyD k.val e.val = { w.rallyD k.val e.val with occ := (w.rallyD k.val e.val).occ + 1, committed := none }) ∧
  (∀ (s u : State) (dt : Nat) (n : Fin 8) (x : Stamp) (l : Bool), u = s.elapse dt →
      (u.tioU n.val).trailing = some (x, l) →
      x ≤ u.now →
      ∃ t, exec (.tioPulseTrailingEdge dt n) s = .next t ∧
        t.tioU n.val = { u.tioU n.val with level := l, trailing := none }) ∧
  (∀ (s u : State) (dt : Nat) (n : Fin 8) (l : Bool), u = s.elapse dt →
      u.isReady = true →
      u.tioMode n.val = 1 →
      (bit (u.tioCfg n.val) (if l then 16 else 17) = true) →
      u.inFlask = false →
      (u.tioU n.val).capts.length < 8 →
      ∃ t, exec (.tioCaptureEdge dt n l) s = .next t ∧
        t.tioU n.val = { u.tioU n.val with level := l, seqNo := ((u.tioU n.val).seqNo + 1) % 2 ^ 32, capts := (u.tioU n.val).capts ++ [{ stamp := u.stampAgo (bits (u.tioCfg n.val) 71 64), level := l, seq := (u.tioU n.val).seqNo }] })

/-- The slice sequencers (R239 to R259, R15): samples, the hold at zero speed, catching, re-catch, discharge, setpoint refresh. -/
def Obligations.SliceEventsComplete : Prop :=
  (∀ (s u : State) (dt : Nat) (k : Fin 6) (x : Stamp), u = s.elapse dt →
      u.isReady = true →
      u.enabled k.val = true →
      u.fenced k.val = false →
      u.sampleDue k.val = some x →
      ∃ t, exec (.controlSample dt k) s = .next t ∧
        (t.sl k.val).lastSample = x ∧
        (t.sl k.val).samples = (u.sl k.val).samples + 1) ∧
  (∀ (s u : State) (dt : Nat) (k : Fin 6) (z : Stamp), u = s.elapse dt →
      (u.sl k.val).st = .stopping ∨ (u.sl k.val).st = .heldShort →
      (u.sl k.val).zeroSince = some z →
      z + u.slo k.val Obj.SLC_ZERO_TIME * msUnits ≤ (u.sl k.val).lastSample →
      (u.rs k.val).forced = none →
      (u.sl k.val).actAt ≠ some u.now →
      ∃ t, exec (.zeroSpeedHoldDone dt k) s = .next t ∧
        (t.sl k.val).st = .heldBlock ∧
        (t.sl k.val).modu.pend = some .block) ∧
  (∀ (s u : State) (dt : Nat) (k : Fin 6) (c : CatchRun), u = s.elapse dt →
      (u.sl k.val).st = .catching →
      (u.sl k.val).catchRun = some c →
      c.method = .pulses →
      c.begun = true →
      c.pulseNo < 8 →
      c.pulse0 + c.pulseNo * 200 * usUnits ≤ u.now →
      ∃ t, exec (.catchPulse dt k) s = .next t ∧
        (t.sl k.val).catchRun = some { c with pulseNo := c.pulseNo + 1 }) ∧
  (∀ (s u : State) (dt : Nat) (k : Fin 6) (c : CatchRun), u = s.elapse dt →
      (u.sl k.val).st = .catching →
      (u.sl k.val).catchRun = some c →
      c.method = .asc ∨ (c.method = .backEmf ∧ c.magAny = true) →
      c.limit ≤ u.now →
      u.awaitsSample k.val = false →
      c.method = .asc ∨ u.lineWaits k.val c.limit = false →
      c.begun = false ∨ c.magOk = false ∨ c.turn.natAbs < 2 ^ 30 →
      (u.rs k.val).forced = none →
      (u.sl k.val).actAt ≠ some u.now →
      ∃ t, exec (.catchTimeout dt k) s = .next t ∧
        ((t.sl k.val).st = .heldBlock ∨ (c.fromShort = true ∧ (t.sl k.val).st = .heldShort)) ∧
        bit (t.slo k.val Obj.SLC_STATUS) 1 = true) ∧
  (∀ (s u : State) (dt : Nat) (k : Fin 6) (c : CatchRun) (b1 b2 b3 b4 : Stamp), u = s.elapse dt →
      (u.sl k.val).st = .catching →
      (u.sl k.val).catchRun = some c →
      c.method = .hfStart →
      u.polEnds k.val c.polFrom = (b1, b2, b3, b4) →
      (c.polPhase = 1 ∧ b1 ≤ u.now) ∨ (c.polPhase = 2 ∧ b2 ≤ u.now) ∨ (c.polPhase = 3 ∧ b3 ≤ u.now) →
      ∃ t, exec (.polarityTestPhaseEnd dt k) s = .next t ∧
        (t.sl k.val).catchRun = some { c with polPhase := c.polPhase + 1 }) ∧
  (∀ (s u : State) (dt : Nat) (k : Fin 6) (x : Stamp), u = s.elapse dt →
      (u.sl k.val).loss.recatchAt = some x →
      (u.sl k.val).st = .heldBlock ∨ (u.sl k.val).st = .heldShort →
      x ≤ (u.sl k.val).lastSample →
      (u.sl k.val).loss.lockout = false →
      (u.rs k.val).forced = none →
      ∃ t, exec (.recatchDelayExpire dt k) s = .next t ∧
        (t.sl k.val).st = .catching ∧
        (t.sl k.val).loss.recatchAt = none ∧
        (t.sl k.val).loss.recatching = true) ∧
  (∀ (s u : State) (dt : Nat) (k : Fin 6) (x : Stamp), u = s.elapse dt →
      (u.sl k.val).loss.windowEnd = some x →
      x < u.now →
      ∃ t, exec (.recatchWindowExpire dt k) s = .next t ∧
        (t.sl k.val).loss.windowEnd = none) ∧
  (∀ (s u : State) (dt : Nat) (k : Fin 6) (d : Discharge), u = s.elapse dt →
      (u.sl k.val).st = .discharging →
      (u.sl k.val).dis = some d →
      d.start + 5 * sUnits ≤ u.now →
      u.awaitsSample k.val = false →
      (u.rs k.val).forced = none →
      (u.sl k.val).actAt ≠ some u.now →
      ∃ t, exec (.dischargeTimeout dt k) s = .next t ∧
        (t.sl k.val).st = .heldBlock ∧
        (t.sl k.val).dis = none ∧
        bits (t.slo k.val Obj.SLC_DIS_RESULT) 15 0 = 1) ∧
  (∀ (s u : State) (dt : Nat), u = s.elapse dt →
      u.isReady = true →
      u.cp.restarting = false →
      u.cp.halted = false →
      ∃ t, exec (.setpointRefresh dt) s = .next t ∧
        (∀ k < 6, u.enabled k = true → (t.sl k).refresh = u.clk ∧ (t.sl k).cpLost = false)) ∧
  (∀ (s u : State) (dt : Nat) (k : Fin 6), u = s.elapse dt →
      u.isReady = true →
      (u.sl k.val).st = .running →
      (u.sl k.val).cpLost = false →
      (u.sl k.val).refresh + u.slo k.val Obj.SLC_SETPOINT_TIMEOUT * msUnits ≤ u.clk →
      u.refreshComes = false →
      u.inFlask = false →
      (u.rs k.val).forced = none →
      (u.sl k.val).actAt ≠ some u.now →
      ∃ t, exec (.setpointTimeout dt k) s = .next t ∧
        (t.sl k.val).cpLost = true ∧
        ((t.sl k.val).st = if u.slo k.val Obj.SLC_CP_LOSS_STOP = 0 ∧ u.speedFaulted k.val = false then .stopping else if u.slo k.val Obj.SLC_CP_LOSS_STOP = 2 then .heldShort else .heldBlock))

/-- The modulator (R11, R235, R262 to R274): update intervals, computed intervals, carrier period, mode changes, EDGE frames. -/
def Obligations.ModulatorEventsComplete : Prop :=
  (∀ (s u : State) (dt : Nat) (k : Fin 6) (p : Plan), u = s.elapse dt →
      u.isReady = true →
      u.enabled k.val = true →
      (((u.sl k.val).modu.plans.filter fun q => q.start ≤ u.now).getLast? = some p) →
      ∃ t, exec (.updateIntervalStart dt k) s = .next t ∧
        (t.sl k.val).modu.active = p.pat ∧
        (t.sl k.val).sig.vdApp = p.vd ∧
        (t.sl k.val).sig.vqApp = p.vq ∧
        ((t.sl k.val).modu.plans = (u.sl k.val).modu.plans.filter fun q => u.now < q.start)) ∧
  (∀ (s u : State) (dt : Nat) (k : Fin 6) (a b : Stamp), u = s.elapse dt →
      u.isReady = true →
      u.enabled k.val = true →
      u.nextStart k.val (u.now + u.lead k.val) = some (a, b) →
      (u.sl k.val).modu.doneTo ≤ a →
      (u.sl k.val).modu.patternAt a = .shortCircuit ∨ (u.sl k.val).modu.patternAt a = .block →
      ∃ t, exec (.modulatorComputeDone dt k) s = .next t ∧
        (t.sl k.val).modu.doneTo = b ∧
        ((t.sl k.val).modu.plans = (if (u.sl k.val).modu.latest = .zeroVector then (u.sl k.val).modu.plans.filter fun q => q.start < a else (u.sl k.val).modu.plans) ++ [{ start := a, stop := b, pat := (u.sl k.val).modu.patternAt a, vd := 0#32, vq := 0#32, vLim := u.vLimOf k.val ((u.sl k.val).modu.modeAt a).1 ((u.sl k.val).modu.modeAt a).2 false, vAlpha := 0#32, vBeta := 0#32 }])) ∧
  (∀ (s u : State) (dt : Nat) (k : Fin 6) (a b : Stamp), u = s.elapse dt →
      u.isReady = true →
      u.enabled k.val = true →
      u.nextStart k.val (u.now + u.lead k.val) = some (a, b) →
      (u.sl k.val).modu.doneTo ≤ a →
      (u.sl k.val).modu.patternAt a = .vectors →
      (u.sl k.val).modu.target = none →
      (u.sl k.val).modu.nextMode = none →
      ∃ t, exec (.modulatorComputeDone dt k) s = .next t ∧
        (t.sl k.val).modu.doneTo = b ∧
        ((t.sl k.val).modu.plans.length = (if (u.sl k.val).modu.latest = .zeroVector then (u.sl k.val).modu.plans.filter fun q => q.start < a else (u.sl k.val).modu.plans).length + 1) ∧
        t.free = u.free + 1) ∧
  (∀ (s u : State) (dt : Nat) (k : Fin 6) (sy : Bool) (n : Nat) (x : Stamp), u = s.elapse dt →
      (u.sl k.val).modu.nextMode = some (sy, n, x) →
      x ≤ u.now →
      ∃ t, exec (.modulationModeBoundary dt k) s = .next t ∧
        (t.sl k.val).modu.syncMode = sy ∧
        ((t.sl k.val).modu.syncN = if sy then n else 0) ∧
        (t.sl k.val).modu.nextMode = none ∧
        (t.sl k.val).modu.target = none) ∧
  (∀ (s u : State) (dt : Nat) (k : Fin 6) (p h : Nat) (x : Stamp) (more : List (Nat × Stamp)), u = s.elapse dt →
      (u.sl k.val).modu.pendPeriod = (p, x) :: more →
      u.extBefore k.val u.tick = some h →
      x ≤ u.extStamp k.val (h - h % 2) →
      ∃ t, exec (.pwmPeriodApply dt k) s = .next t ∧
        (t.sl k.val).modu.period = p ∧
        (t.sl k.val).modu.e0 = (u.sl k.val).modu.e0 + halfCount (u.newPeriods k.val) 0 0 (u.sl k.val).modu.period (h - h % 2) ∧
        (t.sl k.val).modu.pendPeriod = more) ∧
  (∀ (s u : State) (dt : Nat) (l : Fin 24) (e d : Edge) (rest : List Edge) (k : Nat), u = s.elapse dt →
      k = u.linkSlice l.val →
      k < 6 →
      u.isReady = true →
      u.enabled k = true →
      (u.glU l.val).queue = e :: rest →
      u.inFlask = false →
      copyAt u.now + u.lead k ≤ e.stamp →
      u.syncDue l.val = false →
      (((u.glU l.val).sent.filter fun x => u.now < x.stamp).length < 32) →
      u.now % 8000 ≤ 6000 →
      d = { e with seq := (u.glU l.val).nextSeq } →
      ∃ t, exec (.edgeSend dt l) s = .next t ∧
        (t.glU l.val).queue = rest ∧
        (t.glU l.val).await = (u.glU l.val).await ++ [d] ∧
        (t.glU l.val).nextSeq = ((u.glU l.val).nextSeq + 1) % 65536 ∧
        (t.glU l.val).lastSent = (u.glU l.val).nextSeq ∧
        (((t.glU l.val).tx.take 2).map (fun f => (f.stamp, f.start, f.body)) = [copyAt u.now, u.now].map fun a => (a, 0x3C#8, BitVec.ofNat 64 (d.stamp % 2 ^ 32 * 2 ^ 32 + d.seq * 2 ^ 16 + (if d.high then 2 ^ 15 else 0) + (if d.on then 2 ^ 14 else 0))))) ∧
  (∀ (s u : State) (dt : Nat) (l : Fin 24) (e : Edge) (rest : List Edge) (k : Nat), u = s.elapse dt →
      k = u.linkSlice l.val →
      k < 6 →
      u.isReady = true →
      u.enabled k = true →
      (u.glU l.val).queue = e :: rest →
      u.inFlask = false →
      e.stamp < copyAt u.now + u.lead k →
      bit (u.obj (Obj.GL_STAT + l.val)) 15 = false →
      (u.sl k).catchRun = none →
      ∃ t, exec (.edgeSend dt l) s = .next t ∧
        (t.glU l.val).queue = rest ∧
        bit (t.obj (Obj.GL_STAT + l.val)) 9 = true ∧
        bit (t.obj (Obj.GL_STAT + l.val)) 15 = true)

/-- Gate links (R275 to R277, R290, R291): SYNC and MODE frames, STATUS and EXEC frames, and their deadlines. -/
def Obligations.GateLinkEventsComplete : Prop :=
  (∀ (s u : State) (dt : Nat) (l : Fin 24), u = s.elapse dt →
      u.linksSpeak = true →
      (u.glU l.val).lastSync / 8000 < u.now / 8000 →
      u.flk.handover = none →
      ∃ t, exec (.glSyncSend dt l) s = .next t ∧
        (t.glU l.val).lastSync = u.now ∧
        (t.glU l.val).syncs = (u.glU l.val).syncs + 1 ∧
        (t.glU l.val).claimA = u.claim ∧
        (t.glU l.val).claimB = (u.glU l.val).claimA) ∧
  (∀ (s u : State) (dt : Nat) (l : Fin 24), u = s.elapse dt →
      u.linksSpeak = true →
      (u.glU l.val).modeDue.isSome = true →
      u.now % 8000 ≤ 6000 →
      u.syncDue l.val = false →
      u.edgeWaits l.val = false →
      ∃ t, exec (.glModeSend dt l) s = .next t ∧
        (t.glU l.val).modeDue = none ∧
        (t.glU l.val).restart = false ∧
        ((t.glU l.val).tx.head?.map (fun f => (f.stamp, f.start, f.body)) = some (u.now, 0x5C#8, BitVec.ofNat 64 (u.modeBody l.val)))) ∧
  (∀ (s u : State) (dt : Nat) (l : Fin 24) (body : BitVec 64) (crc : Byte), u = s.elapse dt →
      u.linksSpeak = true →
      crc = crc8 (0xBC#8 :: (toLE 8 body.toNat).reverse) →
      ∃ t, exec (.glStatusRx dt l body crc) s = .next t ∧
        t.obj (Obj.GL_STATUS_LAST + l.val) = body.toNat ∧
        (t.glU l.val).lastStatus = some u.clk ∧
        (t.glU l.val).statusSeen = true) ∧
  (∀ (s u : State) (dt : Nat) (l : Fin 24) (body : BitVec 64) (crc : Byte), u = s.elapse dt →
      u.linksSpeak = true →
      crc ≠ crc8 (0xBC#8 :: (toLE 8 body.toNat).reverse) →
      ∃ t, exec (.glStatusRx dt l body crc) s = .next t ∧
        t.glU l.val = u.glU l.val ∧
        bits (t.obj (Obj.GL_STAT + l.val)) 31 24 = min 255 (bits (u.obj (Obj.GL_STAT + l.val)) 31 24 + 1)) ∧
  (∀ (s u : State) (dt : Nat) (l : Fin 24) (body : BitVec 64) (crc : Byte) (d : Edge), u = s.elapse dt →
      u.linksSpeak = true →
      crc = crc8 (0x3C#8 :: (toLE 8 body.toNat).reverse) →
      ((u.glU l.val).await.find? (fun e => e.seq = bits body.toNat 31 16) = some d) →
      bit (u.obj (Obj.GL_STAT + l.val)) 17 = true →
      bits body.toNat 63 32 = d.stamp % 2 ^ 32 →
      d.high = bit body.toNat 15 →
      d.on = bit body.toNat 14 →
      bit body.toNat 12 = false →
      d.stamp < 2 ^ 64 →
      ∃ t, exec (.glExecRx dt l body crc) s = .next t ∧
        ((t.glU l.val).await = (u.glU l.val).await.filter fun e => e.seq ≠ bits body.toNat 31 16) ∧
        bits (t.obj (Obj.GL_STAT + l.val)) 19 18 = 0) ∧
  (∀ (s u : State) (dt : Nat) (l : Fin 24), u = s.elapse dt →
      u.linksSpeak = true →
      u.linkFrameComes true l.val = false →
      ∃ t, exec (.glEchoTimeout dt l) s = .next t ∧
        ((t.glU l.val).await = (u.glU l.val).await.filter fun e => u.now < e.stamp + 8 * usUnits)) ∧
  (∀ (s u : State) (dt : Nat) (l : Fin 24) (x : Nat), u = s.elapse dt →
      u.linksSpeak = true →
      (u.glU l.val).lastStatus = some x →
      bit (u.glCfg l.val) 63 = true →
      x + 10000 ≤ u.clk →
      u.linkFrameComes false l.val = false →
      ∃ t, exec (.glStatusTimeout dt l) s = .next t ∧
        (t.glU l.val).lastStatus = none ∧
        (t.glU l.val).statusSeen = false ∧
        bit (t.obj (Obj.GL_STAT + l.val)) 13 = true ∧
        bit (t.obj (Obj.GL_STAT + l.val)) 15 = true)

/-- What supply, clock, reset and start events leave as it was: the parts of `State` that no clause names, and, where a clause speaks of objects, every
object but the ones it names. `t.x` on the right of a clause stands for a part that the command may change. -/
def Obligations.SupplyClockAndStartFrames : Prop :=
  (∀ (s t : State) (dt : Nat) (c : Instr), (c = .vstbyInRange dt) →
      exec c s = .next t →
        t = { s.elapse dt with time := t.time, mu := t.mu }) ∧
  (∀ (s t : State) (dt : Nat) (c : Instr), (c = .standbyBootDone dt) →
      exec c s = .next t →
        t = { s.elapse dt with mu := t.mu, hk := t.hk, log := t.log }) ∧
  (∀ (s t : State) (dt : Nat) (c : Instr), (c = .vstbyTrip dt) →
      exec c s = .next t →
        t.pending = s.pending ∧ t.tick = s.tick + dt ∧ t.seqs = s.seqs) ∧
  (∀ (s t : State) (dt : Nat) (c : Instr), ((∃ x0, c = .mainRailInRange dt x0)) →
      exec c s = .next t →
        t = { s.elapse dt with mu := t.mu, log := t.log, seqs := t.seqs, dict := t.dict, dia := t.dia } ∧
        ∀ i, i ≠ Obj.MGT_LOG_STAT → t.obj i = s.obj i) ∧
  (∀ (s t : State) (dt : Nat) (c : Instr), ((∃ x0 x1, c = .supplyFault dt x0 x1) ∨ (∃ x0, c = .deviceReset dt x0)) →
      exec c s = .next t →
        t.pending = s.pending ∧ t.tick = s.tick + dt) ∧
  (∀ (s t : State) (dt : Nat) (c : Instr), (c = .supplyRestart dt ∨ c = .resetNRelease dt) →
      exec c s = .next t →
        t = { s.elapse dt with mu := t.mu }) ∧
  (∀ (s t : State) (dt : Nat) (c : Instr), (c = .resetNLow dt) →
      exec c s = .next t →
        t.pending = s.pending ∧ t.tick = s.tick + dt ∧ t.log = s.log ∧ t.seqs = s.seqs) ∧
  (∀ (s t : State) (dt : Nat) (c : Instr), (c = .bypassOpen dt) →
      exec c s = .next t →
        t = { s.elapse dt with mu := t.mu, flk := t.flk }) ∧
  (∀ (s t : State) (dt : Nat) (c : Instr), ((∃ x0, c = .xtalDetect dt x0)) →
      exec c s = .next t →
        t = { s.elapse dt with mu := t.mu, log := t.log }) ∧
  (∀ (s t : State) (dt : Nat) (c : Instr), ((∃ x0 x1, c = .clockMonitorWindow dt x0 x1) ∨ (∃ x0, c = .clockEdgeTimeout dt x0) ∨ c = .pwrcycNoResponse dt) →
      exec c s = .next t →
        t.pending = s.pending ∧ t.tick = s.tick + dt) ∧
  (∀ (s t : State) (dt : Nat) (c : Instr), (c = .clockStable dt ∨ c = .pwrcycRelease dt) →
      exec c s = .next t →
        t = { s.elapse dt with mu := t.mu }) ∧
  (∀ (s t : State) (dt : Nat) (c : Instr), (c = .clockHoldTimeout dt ∨ c = .startFailTimeout dt ∨ c = .pwrcycAssert dt) →
      exec c s = .next t →
        t.pending = s.pending ∧ t.tick = s.tick + dt ∧ t.log = s.log ∧ t.seqs = s.seqs) ∧
  (∀ (s t : State) (dt : Nat) (c : Instr), (c = .deviceStart dt) →
      exec c s = .next t →
        t.pending = s.pending ∧ t.tick = s.tick + dt) ∧
  (∀ (s t : State) (dt : Nat) (c : Instr), ((∃ x0 x1, c = .romStartDone dt x0 x1) ∨ (∃ x0 x1, c = .bootIngotVerified dt x0 x1)) →
      exec c s = .next t →
        t = { s.elapse dt with mu := t.mu, log := t.log, seqs := t.seqs, host := t.host, dict := t.dict, dia := t.dia } ∧
        ∀ i, i ≠ Obj.MGT_LOG_STAT → t.obj i = s.obj i) ∧
  (∀ (s t : State) (dt : Nat) (c : Instr), ((∃ x0, c = .startupBistDone dt x0)) →
      exec c s = .next t →
        t = { s.elapse dt with mu := t.mu, log := t.log, seqs := t.seqs, host := t.host, dict := t.dict, sd := t.sd, enc := t.enc, eng := t.eng, slices := t.slices, gl := t.gl, ref := t.ref, flk := t.flk, dia := t.dia }) ∧
  (∀ (s t : State) (dt : Nat) (c : Instr), ((∃ x0 x1 x2, c = .configLoaded dt x0 x1 x2)) →
      exec c s = .next t →
        t = { s.elapse dt with mu := t.mu, log := t.log, seqs := t.seqs, host := t.host, dict := t.dict, eng := t.eng, ref := t.ref, dia := t.dia }) ∧
  (∀ (s t : State) (dt : Nat) (c : Instr), (c = .ready dt) →
      exec c s = .next t →
        t.pending = s.pending ∧ t.time = (s.elapse dt).time ∧ t.tick = s.tick + dt ∧ t.free = s.free ∧ t.tl = s.tl ∧ t.aux = s.aux ∧ t.cp = s.cp ∧ t.flk = s.flk ∧ t.ring = s.ring ∧ t.tio = s.tio ∧
        ∀ i, (∀ n < 24, i ≠ Obj.GL_STAT + n) → i ≠ Obj.MGT_LOG_STAT → i ≠ Obj.MGT_START_TIME → i ≠ Obj.MGT_THERM_STAT → i ≠ Obj.SD_MCLK_IN_STAT → (∀ k, i ≠ slc k Obj.SLC_DIS_RESULT) → (∀ k, i ≠ slc k Obj.SLC_SD_PROMOTED) → t.obj i = s.obj i)

/-- What the timeline commands and events leave as it was: the parts of `State` that no clause names, and, where a clause speaks of objects, every
object but the ones it names. `t.x` on the right of a clause stands for a part that the command may change. -/
def Obligations.TimelineFrames : Prop :=
  (∀ (s t : State) (dt : Nat) (c : Instr), ((∃ x0, c = .timSetIncrement dt x0) ∨ (∃ x0, c = .timStep dt x0) ∨ (∃ x0, c = .timServoMode dt x0)) →
      exec c s = .next t →
        t = { s.elapse dt with tl := t.tl, seqs := t.seqs, host := t.host, dict := t.dict, flk := t.flk, ring := t.ring, can := t.can, eth := t.eth, dia := t.dia } ∧
        ∀ i, i ≠ Obj.RING_STAT → t.obj i = s.obj i) ∧
  (∀ (s t : State) (dt : Nat) (c : Instr), ((∃ x0, c = .timRallyWrite dt x0)) →
      exec c s = .next t →
        t.pending = s.pending ∧ t.time = (s.elapse dt).time ∧ t.tick = s.tick + dt ∧ t.free = s.free ∧ t.mu = s.mu ∧ t.hk = s.hk ∧ t.mclk = s.mclk ∧ t.gl = s.gl ∧ t.cp = s.cp ∧ t.canPub = s.canPub) ∧
  (∀ (s t : State) (dt : Nat) (c : Instr), ((∃ x0, c = .timTioConfig dt x0)) →
      exec c s = .next t →
        t = { s.elapse dt with tl := t.tl, seqs := t.seqs, host := t.host, dict := t.dict, flk := t.flk, ring := t.ring, can := t.can, eth := t.eth, tio := t.tio, dia := t.dia } ∧
        ∀ i, i ≠ Obj.RING_STAT → (∀ n < 8, i ≠ Obj.TIM_TIO_CFG + n) → t.obj i = s.obj i) ∧
  (∀ (s t : State) (dt : Nat) (c : Instr), (c = .incrementApply dt) →
      exec c s = .next t →
        t = { s.elapse dt with time := t.time, tl := t.tl, log := t.log, seqs := t.seqs, host := t.host, dict := t.dict, ring := t.ring, can := t.can, eth := t.eth, dia := t.dia } ∧
        ∀ i, i ≠ Obj.MGT_LOG_STAT → t.obj i = s.obj i) ∧
  (∀ (s t : State) (dt : Nat) (c : Instr), (c = .timeStepApply dt) →
      exec c s = .next t →
        t = { s.elapse dt with time := t.time, tl := t.tl, log := t.log, seqs := t.seqs, host := t.host, dict := t.dict, slices := t.slices, ring := t.ring, can := t.can, eth := t.eth, tio := t.tio, dia := t.dia } ∧
        ∀ i, i ≠ Obj.MGT_LOG_STAT → (∀ n < 256, i ≠ Obj.TIM_RALLY_SKIP + n) → t.obj i = s.obj i) ∧
  (∀ (s t : State) (dt : Nat) (c : Instr), (c = .servoModeApply dt) →
      exec c s = .next t →
        t = { s.elapse dt with tl := t.tl, log := t.log, seqs := t.seqs, host := t.host, dict := t.dict, ring := t.ring, can := t.can, eth := t.eth, dia := t.dia } ∧
        ∀ i, i ≠ Obj.MGT_LOG_STAT → i ≠ Obj.TIM_SERVO_PORTS → i ≠ Obj.TIM_SERVO_SEL → t.obj i = s.obj i) ∧
  (∀ (s t : State) (dt : Nat) (c : Instr), ((∃ x0 x1 x2 x3 x4, c = .ptpSyncRx dt x0 x1 x2 x3 x4)) →
      exec c s = .next t →
        t = { s.elapse dt with time := t.time, tl := t.tl, log := t.log, seqs := t.seqs, dict := t.dict, slices := t.slices, flk := t.flk, ring := t.ring, eth := t.eth, tio := t.tio, dia := t.dia } ∧
        ∀ i, i ≠ Obj.MGT_LOG_STAT → i ≠ Obj.RING_STAT → i ≠ Obj.TIM_OFFSET → (∀ n < 256, i ≠ Obj.TIM_RALLY_SKIP + n) → i ≠ Obj.TIM_STEP_COUNT → t.obj i = s.obj i) ∧
  (∀ (s t : State) (dt : Nat) (c : Instr), (c = .gmTimeout dt ∨ c = .ringAlignTimeout dt) →
      exec c s = .next t →
        t = { s.elapse dt with time := t.time, tl := t.tl, log := t.log, seqs := t.seqs, dict := t.dict, flk := t.flk, ring := t.ring, dia := t.dia } ∧
        ∀ i, i ≠ Obj.MGT_LOG_STAT → i ≠ Obj.RING_STAT → t.obj i = s.obj i) ∧
  (∀ (s t : State) (dt : Nat) (c : Instr), (c = .holdoverMaxExpire dt) →
      exec c s = .next t →
        t = { s.elapse dt with tl := t.tl, log := t.log, seqs := t.seqs, dict := t.dict, dia := t.dia } ∧
        ∀ i, i ≠ Obj.MGT_LOG_STAT → t.obj i = s.obj i) ∧
  (∀ (s t : State) (dt : Nat) (c : Instr), (c = .hostWatchdogExpire dt) →
      exec c s = .next t →
        t = { s.elapse dt with tl := t.tl, log := t.log, seqs := t.seqs, host := t.host, dict := t.dict, dia := t.dia } ∧
        ∀ i, i ≠ Obj.MGT_LOG_STAT → t.obj i = s.obj i)

/-- What commands of the host links leave as it was: the parts of `State` that no clause names, and, where a clause speaks of objects, every
object but the ones it names. `t.x` on the right of a clause stands for a part that the command may change. -/
def Obligations.HostLinkFrames : Prop :=
  (∀ (s t : State) (dt : Nat) (c : Instr), ((∃ x0 x1, c = .sqTailDoorbell dt x0 x1) ∨ (∃ x0 x1, c = .cqHeadDoorbell dt x0 x1) ∨ (∃ x0 x1, c = .qcfgEnable dt x0 x1) ∨ (∃ x0 x1, c = .qcfgDisable dt x0 x1) ∨ (∃ x0, c = .completionPost dt x0) ∨ (∃ x0 x1, c = .pcieHostMemoryError dt x0 x1)) →
      exec c s = .next t →
        t = { s.elapse dt with host := t.host }) ∧
  (∀ (s t : State) (dt : Nat) (c : Instr), (c = .mbxGo dt ∨ (∃ x0 x1 x2, c = .registerWrite dt x0 x1 x2)) →
      exec c s = .next t →
        t.pending = s.pending ∧ t.time = (s.elapse dt).time ∧ t.tick = s.tick + dt ∧ t.hk = s.hk ∧ t.cp = s.cp) ∧
  (∀ (s t : State) (dt : Nat) (c : Instr), (c = .perstAssert dt ∨ c = .pcieLinkDownTimeout dt ∨ (∃ x0, c = .pcieLinkChange dt x0)) →
      exec c s = .next t →
        t = { s.elapse dt with free := t.free, mu := t.mu, host := t.host, dict := t.dict, eng := t.eng, ref := t.ref } ∧
        ∀ i, i ≠ Obj.SAF_STAGED_COUNT → t.obj i = s.obj i) ∧
  (∀ (s t : State) (dt : Nat) (c : Instr), ((∃ x0 x1 x2, c = .spiSubmit dt x0 x1 x2)) →
      exec c s = .next t →
        t.pending = s.pending ∧ t.time = (s.elapse dt).time ∧ t.tick = s.tick + dt ∧ t.hk = s.hk ∧ t.cp = s.cp) ∧
  (∀ (s t : State) (dt : Nat) (c : Instr), ((∃ x0 x1, c = .spiFetch dt x0 x1) ∨ c = .spiStatus dt ∨ (∃ x0, c = .spiUnknownInstruction dt x0) ∨ (∃ x0, c = .ipv4ReassemblyTimeout dt x0)) →
      exec c s = .next t →
        t = { s.elapse dt with host := t.host }) ∧
  (∀ (s t : State) (dt : Nat) (c : Instr), ((∃ x0 x1, c = .cmdDatagramRx dt x0 x1)) →
      exec c s = .next t →
        t = { s.elapse dt with host := t.host, dict := t.dict } ∧
        ∀ i, i ≠ Obj.HOST_ETH_DROPS → t.obj i = s.obj i) ∧
  (∀ (s t : State) (dt : Nat) (c : Instr), ((∃ x0 x1, c = .canTunnelFrameRx dt x0 x1)) →
      exec c s = .next t →
        t = { s.elapse dt with host := t.host, can := t.can }) ∧
  (∀ (s t : State) (dt : Nat) (c : Instr), ((∃ x0, c = .canTunnelTimeout dt x0)) →
      exec c s = .next t →
        t = { s.elapse dt with can := t.can }) ∧
  (∀ (s t : State) (dt : Nat) (c : Instr), ((∃ x0, c = .subscriptionNotify dt x0)) →
      exec c s = .next t →
        t = { s.elapse dt with seqs := t.seqs, host := t.host, dict := t.dict, ring := t.ring, can := t.can, eth := t.eth, dia := t.dia } ∧
        ∀ i, i ≠ Obj.HOST_NOTIFY_DROPS → t.obj i = s.obj i) ∧
  (∀ (s t : State) (dt : Nat) (c : Instr), ((∃ x0, c = .sessionIdleTimeout dt x0)) →
      exec c s = .next t →
        t = { s.elapse dt with mu := t.mu, host := t.host, dict := t.dict, eng := t.eng, ref := t.ref } ∧
        ∀ i, i ≠ Obj.SAF_STAGED_COUNT → t.obj i = s.obj i) ∧
  (∀ (s t : State) (dt : Nat) (c : Instr) (n : Fin 16), ((∃ x1, c = .sqTailDoorbell dt n x1) ∨ (∃ x1, c = .cqHeadDoorbell dt n x1) ∨ (∃ x1, c = .qcfgEnable dt n x1) ∨ (∃ x1, c = .qcfgDisable dt n x1) ∨ c = .completionPost dt n) →
      exec c s = .next t → ∀ m, m ≠ n.val → t.pair m = s.pair m)

/-- What the system and object opcodes leave as it was: the parts of `State` that no clause names, and, where a clause speaks of objects, every
object but the ones it names. `t.x` on the right of a clause stands for a part that the command may change. -/
def Obligations.SystemAndObjectOpcodeFrames : Prop :=
  (∀ (s t : State) (dt : Nat) (c : Instr), ((∃ x0, c = .sysNop dt x0) ∨ (∃ x0, c = .sysOpenSession dt x0) ∨ (∃ x0, c = .sysGetInfo dt x0)) →
      exec c s = .next t →
        t = { s.elapse dt with tl := t.tl, seqs := t.seqs, host := t.host, dict := t.dict, flk := t.flk, ring := t.ring, can := t.can, eth := t.eth, dia := t.dia } ∧
        ∀ i, i ≠ Obj.RING_STAT → t.obj i = s.obj i) ∧
  (∀ (s t : State) (dt : Nat) (c : Instr), ((∃ x0, c = .sysCloseSession dt x0)) →
      exec c s = .next t →
        t = { s.elapse dt with tl := t.tl, mu := t.mu, seqs := t.seqs, host := t.host, dict := t.dict, eng := t.eng, ref := t.ref, flk := t.flk, ring := t.ring, can := t.can, eth := t.eth, dia := t.dia } ∧
        ∀ i, i ≠ Obj.RING_STAT → i ≠ Obj.SAF_STAGED_COUNT → t.obj i = s.obj i) ∧
  (∀ (s t : State) (dt : Nat) (c : Instr), ((∃ x0, c = .sysReset dt x0) ∨ (∃ x0, c = .sysResetActivate dt x0) ∨ (∃ x0, c = .sysPwrcycleReq dt x0)) →
      exec c s = .next t →
        t = { s.elapse dt with tl := t.tl, mu := t.mu, seqs := t.seqs, host := t.host, dict := t.dict, flk := t.flk, ring := t.ring, can := t.can, eth := t.eth, dia := t.dia } ∧
        ∀ i, i ≠ Obj.RING_STAT → t.obj i = s.obj i) ∧
  (∀ (s t : State) (dt : Nat) (c : Instr), ((∃ x0, c = .sysFuncReinitUnit dt x0) ∨ (∃ x0, c = .sysFuncReinitPair dt x0) ∨ (∃ x0, c = .sysFuncReinitContext dt x0) ∨ (∃ x0, c = .sysFuncReinitAux dt x0) ∨ (∃ x0, c = .sysFuncReinitEncoder dt x0)) →
      exec c s = .next t →
        t.pending = s.pending ∧ t.time = (s.elapse dt).time ∧ t.tick = s.tick + dt ∧ t.free = s.free ∧ t.mu = s.mu ∧ t.hk = s.hk ∧ t.mclk = s.mclk ∧ t.cp = s.cp ∧ t.canPub = s.canPub ∧ t.tio = s.tio) ∧
  (∀ (s t : State) (dt : Nat) (c : Instr), ((∃ x0, c = .objRead dt x0) ∨ (∃ x0 x1, c = .ethTxtsPop dt x0 x1) ∨ (∃ x0, c = .objReadBlock dt x0)) →
      exec c s = .next t →
        t = { s.elapse dt with tl := t.tl, seqs := t.seqs, host := t.host, dict := t.dict, enc := t.enc, flk := t.flk, ring := t.ring, can := t.can, eth := t.eth, tio := t.tio, dia := t.dia } ∧
        ∀ i, i ≠ Obj.RING_STAT → t.obj i = s.obj i) ∧
  (∀ (s t : State) (dt : Nat) (c : Instr), ((∃ x0, c = .objWrite dt x0) ∨ (∃ x0, c = .objWriteBlock dt x0) ∨ (∃ x0, c = .auxHostTrig dt x0) ∨ (∃ x0, c = .encSsiTrig dt x0) ∨ (∃ x0, c = .mgtLifecycleReq dt x0) ∨ (∃ x0, c = .mgtFeatureGate dt x0) ∨ (∃ x0 x1, c = .encCfgWrite dt x0 x1)) →
      exec c s = .next t →
        t.pending = s.pending ∧ t.time = (s.elapse dt).time ∧ t.tick = s.tick + dt ∧ t.free = s.free ∧ t.hk = s.hk ∧ t.cp = s.cp ∧ t.tio = s.tio) ∧
  (∀ (s t : State) (dt : Nat) (c : Instr), ((∃ x0, c = .objSubscribe dt x0) ∨ (∃ x0, c = .objSubscribeCancel dt x0)) →
      exec c s = .next t →
        t = { s.elapse dt with tl := t.tl, seqs := t.seqs, host := t.host, dict := t.dict, flk := t.flk, ring := t.ring, can := t.can, eth := t.eth, dia := t.dia } ∧
        ∀ i, i ≠ Obj.RING_STAT → t.obj i = s.obj i)

/-- What drive opcodes and sequencer events leave as it was: the parts of `State` that no clause names, and, where a clause speaks of objects, every
object but the ones it names. `t.x` on the right of a clause stands for a part that the command may change. -/
def Obligations.DriveFrames : Prop :=
  (∀ (s t : State) (dt : Nat) (c : Instr), ((∃ x0, c = .drvEnable dt x0)) →
      exec c s = .next t →
        t.pending = s.pending ∧ t.tick = s.tick + dt ∧ t.free = s.free ∧ t.mu = s.mu ∧ t.hk = s.hk ∧ t.mclk = s.mclk ∧ t.aux = s.aux ∧ t.enc = s.enc ∧ t.cp = s.cp ∧ t.canPub = s.canPub ∧ t.tio = s.tio ∧
        ∀ i, (∀ n < 24, i ≠ Obj.GL_STAT + n) → i ≠ Obj.MGT_LOG_STAT → i ≠ Obj.RING_STAT → (∀ k, i ≠ slc k Obj.SLC_DIS_RESULT) → (∀ k, i ≠ slc k Obj.SLC_SD_PROMOTED) → t.obj i = s.obj i) ∧
  (∀ (s t : State) (dt : Nat) (c : Instr), ((∃ x0, c = .drvDisable dt x0)) →
      exec c s = .next t →
        t.pending = s.pending ∧ t.time = (s.elapse dt).time ∧ t.tick = s.tick + dt ∧ t.free = s.free ∧ t.mu = s.mu ∧ t.hk = s.hk ∧ t.mclk = s.mclk ∧ t.sd = s.sd ∧ t.aux = s.aux ∧ t.enc = s.enc ∧ t.cp = s.cp ∧ t.canPub = s.canPub ∧ t.tio = s.tio ∧
        ∀ i, (∀ n < 24, i ≠ Obj.GL_STAT + n) → i ≠ Obj.MGT_LOG_STAT → i ≠ Obj.RING_STAT → (∀ k, i ≠ slc k Obj.SLC_DIS_RESULT) → t.obj i = s.obj i) ∧
  (∀ (s t : State) (dt : Nat) (c : Instr), ((∃ x0, c = .drvSetSpeed dt x0) ∨ (∃ x0, c = .drvSetTorque dt x0)) →
      exec c s = .next t →
        t = { s.elapse dt with tl := t.tl, seqs := t.seqs, host := t.host, dict := t.dict, slices := t.slices, flk := t.flk, ring := t.ring, can := t.can, eth := t.eth, dia := t.dia } ∧
        ∀ i, i ≠ Obj.RING_STAT → t.obj i = s.obj i) ∧
  (∀ (s t : State) (dt : Nat) (c : Instr), ((∃ x0, c = .drvStopRamp dt x0) ∨ (∃ x0, c = .drvStopCoast dt x0) ∨ (∃ x0, c = .drvStopShort dt x0)) →
      exec c s = .next t →
        t = { s.elapse dt with tl := t.tl, log := t.log, seqs := t.seqs, host := t.host, dict := t.dict, slices := t.slices, flk := t.flk, ring := t.ring, can := t.can, eth := t.eth, dia := t.dia } ∧
        ∀ i, i ≠ Obj.MGT_LOG_STAT → i ≠ Obj.RING_STAT → (∀ k, i ≠ slc k Obj.SLC_DIS_RESULT) → t.obj i = s.obj i) ∧
  (∀ (s t : State) (dt : Nat) (c : Instr), ((∃ x0, c = .drvStart dt x0)) →
      exec c s = .next t →
        t = { s.elapse dt with tl := t.tl, log := t.log, seqs := t.seqs, host := t.host, dict := t.dict, eng := t.eng, slices := t.slices, flk := t.flk, ring := t.ring, can := t.can, eth := t.eth, dia := t.dia } ∧
        ∀ i, i ≠ Obj.MGT_LOG_STAT → i ≠ Obj.RING_STAT → t.obj i = s.obj i) ∧
  (∀ (s t : State) (dt : Nat) (c : Instr), ((∃ x0, c = .drvDischargeWinding dt x0) ∨ (∃ x0, c = .drvDischargeSwitch dt x0)) →
      exec c s = .next t →
        t = { s.elapse dt with tl := t.tl, log := t.log, seqs := t.seqs, host := t.host, dict := t.dict, slices := t.slices, ref := t.ref, flk := t.flk, ring := t.ring, can := t.can, eth := t.eth, dia := t.dia } ∧
        ∀ i, i ≠ Obj.MGT_LOG_STAT → i ≠ Obj.RING_STAT → (∀ k, i ≠ slc k Obj.SLC_DIS_RESULT) → t.obj i = s.obj i) ∧
  (∀ (s t : State) (dt : Nat) (c : Instr), ((∃ x0, c = .controlSample dt x0)) →
      exec c s = .next t →
        t.pending = s.pending ∧ t.time = (s.elapse dt).time ∧ t.tick = s.tick + dt ∧ t.free = s.free ∧ t.tl = s.tl ∧ t.mu = s.mu ∧ t.hk = s.hk ∧ t.host = s.host ∧ t.mclk = s.mclk ∧ t.cp = s.cp ∧ t.can = s.can ∧ t.canPub = s.canPub ∧ t.eth = s.eth) ∧
  (∀ (s t : State) (dt : Nat) (c : Instr), ((∃ x0, c = .zeroSpeedHoldDone dt x0)) →
      exec c s = .next t →
        t = { s.elapse dt with log := t.log, seqs := t.seqs, dict := t.dict, slices := t.slices, dia := t.dia } ∧
        ∀ i, i ≠ Obj.MGT_LOG_STAT → t.obj i = s.obj i) ∧
  (∀ (s t : State) (dt : Nat) (c : Instr), ((∃ x0, c = .catchPulse dt x0)) →
      exec c s = .next t →
        t = { s.elapse dt with slices := t.slices, gl := t.gl }) ∧
  (∀ (s t : State) (dt : Nat) (c : Instr), ((∃ x0, c = .catchTimeout dt x0)) →
      exec c s = .next t →
        t = { s.elapse dt with log := t.log, seqs := t.seqs, dict := t.dict, enc := t.enc, eng := t.eng, slices := t.slices, gl := t.gl, dia := t.dia } ∧
        ∀ i, i ≠ Obj.MGT_LOG_STAT → (∀ k, i ≠ slc k Obj.SLC_CATCH_RESULT) → (∀ k, i ≠ slc k Obj.SLC_STATUS) → t.obj i = s.obj i) ∧
  (∀ (s t : State) (dt : Nat) (c : Instr), ((∃ x0, c = .polarityTestPhaseEnd dt x0)) →
      exec c s = .next t →
        t = { s.elapse dt with log := t.log, seqs := t.seqs, dict := t.dict, enc := t.enc, eng := t.eng, slices := t.slices, dia := t.dia } ∧
        ∀ i, i ≠ Obj.MGT_LOG_STAT → (∀ k, i ≠ slc k Obj.SLC_CATCH_RESULT) → (∀ k, i ≠ slc k Obj.SLC_STATUS) → t.obj i = s.obj i) ∧
  (∀ (s t : State) (dt : Nat) (c : Instr), ((∃ x0, c = .recatchDelayExpire dt x0)) →
      exec c s = .next t →
        t = { s.elapse dt with log := t.log, seqs := t.seqs, dict := t.dict, eng := t.eng, slices := t.slices, dia := t.dia } ∧
        ∀ i, i ≠ Obj.MGT_LOG_STAT → t.obj i = s.obj i) ∧
  (∀ (s t : State) (dt : Nat) (c : Instr), ((∃ x0, c = .recatchWindowExpire dt x0) ∨ c = .setpointRefresh dt) →
      exec c s = .next t →
        t = { s.elapse dt with slices := t.slices }) ∧
  (∀ (s t : State) (dt : Nat) (c : Instr), ((∃ x0, c = .dischargeTimeout dt x0)) →
      exec c s = .next t →
        t = { s.elapse dt with log := t.log, seqs := t.seqs, dict := t.dict, slices := t.slices, dia := t.dia } ∧
        ∀ i, i ≠ Obj.MGT_LOG_STAT → (∀ k, i ≠ slc k Obj.SLC_DIS_RESULT) → t.obj i = s.obj i) ∧
  (∀ (s t : State) (dt : Nat) (c : Instr), ((∃ x0, c = .setpointTimeout dt x0)) →
      exec c s = .next t →
        t = { s.elapse dt with log := t.log, seqs := t.seqs, dict := t.dict, enc := t.enc, slices := t.slices, gl := t.gl, ref := t.ref, flk := t.flk, ring := t.ring, can := t.can, dia := t.dia } ∧
        ∀ i, i ≠ Obj.FLK_LAST_SWITCH → i ≠ Obj.FLK_SWITCH_CNT → i ≠ Obj.MGT_LOG_STAT → (∀ k, i ≠ slc k Obj.SLC_DIS_RESULT) → t.obj i = s.obj i) ∧
  (∀ (s t : State) (dt : Nat) (c : Instr) (p : Pkt), (c = .drvSetSpeed dt p ∨ c = .drvSetTorque dt p ∨ c = .drvStart dt p ∨ c = .drvStopRamp dt p ∨ c = .drvStopCoast dt p ∨ c = .drvStopShort dt p ∨ c = .drvDisable dt p ∨ c = .drvEnable dt p ∨ c = .drvDischargeWinding dt p ∨ c = .drvDischargeSwitch dt p) →
      exec c s = .next t → ∀ m, m ≠ p.target.toNat → t.sl m = s.sl m) ∧
  (∀ (s t : State) (dt : Nat) (c : Instr) (n : Fin 6), (c = .zeroSpeedHoldDone dt n ∨ c = .catchPulse dt n ∨ c = .catchTimeout dt n ∨ c = .polarityTestPhaseEnd dt n ∨ c = .recatchDelayExpire dt n ∨ c = .recatchWindowExpire dt n ∨ c = .dischargeTimeout dt n) →
      exec c s = .next t → ∀ m, m ≠ n.val → t.sl m = s.sl m) ∧
  (∀ (s u t : State) (dt : Nat) (n : Fin 6), u = s.elapse dt → (u.inFlask && u.isActive) = false →
      exec (.setpointTimeout dt n) s = .next t → ∀ m, m ≠ n.val → t.sl m = s.sl m)

/-- What the engine opcodes and events leave as it was: the parts of `State` that no clause names, and, where a clause speaks of objects, every
object but the ones it names. `t.x` on the right of a clause stands for a part that the command may change. -/
def Obligations.EngineFrames : Prop :=
  (∀ (s t : State) (dt : Nat) (c : Instr), ((∃ x0, c = .engDefineContext dt x0) ∨ (∃ x0, c = .engDeleteContext dt x0) ∨ (∃ x0, c = .engWriteCoef dt x0) ∨ (∃ x0, c = .engFreeze dt x0) ∨ (∃ x0, c = .engRelease dt x0) ∨ (∃ x0, c = .engSeedState dt x0) ∨ (∃ x0, c = .engLink dt x0) ∨ (∃ x0, c = .engGroup dt x0) ∨ (∃ x0, c = .engCommit dt x0) ∨ (∃ x0, c = .engCommitDiscard dt x0)) →
      exec c s = .next t →
        t = { s.elapse dt with tl := t.tl, seqs := t.seqs, host := t.host, dict := t.dict, eng := t.eng, flk := t.flk, ring := t.ring, can := t.can, eth := t.eth, dia := t.dia } ∧
        ∀ i, i ≠ Obj.RING_STAT → t.obj i = s.obj i) ∧
  (∀ (s t : State) (dt : Nat) (c : Instr), ((∃ x0, c = .engReleaseSwap dt x0)) →
      exec c s = .next t →
        t = { s.elapse dt with log := t.log, seqs := t.seqs, dict := t.dict, eng := t.eng, dia := t.dia } ∧
        ∀ i, i ≠ Obj.MGT_LOG_STAT → t.obj i = s.obj i) ∧
  (∀ (s t : State) (dt : Nat) (c : Instr), ((∃ x0, c = .engEvalStart dt x0) ∨ (∃ x0, c = .engEvalDone dt x0) ∨ (∃ x0, c = .engOutputWrite dt x0)) →
      exec c s = .next t →
        t = { s.elapse dt with log := t.log, seqs := t.seqs, dict := t.dict, eng := t.eng, slices := t.slices, dia := t.dia } ∧
        ∀ i, (∀ c, i ≠ ctxo c Obj.ENG_OVERRUN_CNT) → (∀ c, i ≠ ctxo c Obj.ENG_STAT) → i ≠ Obj.MGT_LOG_STAT → (∀ k, i ≠ slc k Obj.SLC_DIS_RESULT) → (∀ k, i ≠ slc k Obj.SLC_GROUP_OUT) → (∀ k, i ≠ slc k Obj.SLC_STATUS) → t.obj i = s.obj i)

/-- What the CAN opcodes and bus events leave as it was: the parts of `State` that no clause names, and, where a clause speaks of objects, every
object but the ones it names. `t.x` on the right of a clause stands for a part that the command may change. -/
def Obligations.CanFrames : Prop :=
  (∀ (s t : State) (dt : Nat) (c : Instr), ((∃ x0, c = .netCanConfig dt x0) ∨ (∃ x0, c = .netCanConfigRead dt x0)) →
      exec c s = .next t →
        t = { s.elapse dt with tl := t.tl, seqs := t.seqs, host := t.host, dict := t.dict, flk := t.flk, ring := t.ring, can := t.can, eth := t.eth, dia := t.dia } ∧
        ∀ i, (∀ n < 4, i ≠ Obj.CAN_RATE_IDX + n) → (∀ n < 4, i ≠ Obj.CAN_REPORT_DROPS + n) → (∀ n < 4, i ≠ Obj.CAN_STAT + n) → i ≠ Obj.RING_STAT → t.obj i = s.obj i) ∧
  (∀ (s t : State) (dt : Nat) (c : Instr), ((∃ x0, c = .netCanFilter dt x0) ∨ (∃ x0, c = .netCanFilterRead dt x0) ∨ (∃ x0, c = .netCanTx dt x0) ∨ (∃ x0, c = .netCanAck dt x0)) →
      exec c s = .next t →
        t = { s.elapse dt with tl := t.tl, seqs := t.seqs, host := t.host, dict := t.dict, flk := t.flk, ring := t.ring, can := t.can, eth := t.eth, dia := t.dia } ∧
        ∀ i, i ≠ Obj.RING_STAT → t.obj i = s.obj i) ∧
  (∀ (s t : State) (dt : Nat) (c : Instr), ((∃ x0, c = .netCanCancel dt x0)) →
      exec c s = .next t →
        t = { s.elapse dt with tl := t.tl, seqs := t.seqs, host := t.host, dict := t.dict, flk := t.flk, ring := t.ring, can := t.can, eth := t.eth, dia := t.dia } ∧
        ∀ i, (∀ n < 4, i ≠ Obj.CAN_REPORT_DROPS + n) → i ≠ Obj.RING_STAT → t.obj i = s.obj i) ∧
  (∀ (s t : State) (dt : Nat) (c : Instr), ((∃ x0 x1 x2 x3, c = .canFrameRx dt x0 x1 x2 x3)) →
      exec c s = .next t →
        t.pending = s.pending ∧ t.time = (s.elapse dt).time ∧ t.tick = s.tick + dt ∧ t.tl = s.tl ∧ t.hk = s.hk ∧ t.cp = s.cp ∧ t.tio = s.tio) ∧
  (∀ (s t : State) (dt : Nat) (c : Instr), ((∃ x0, c = .canTxSof dt x0) ∨ (∃ x0, c = .canBusOffRecovery dt x0) ∨ (∃ x0, c = .canRateTimeout dt x0) ∨ (∃ x0 x1 x2, c = .canQackDoorbell dt x0 x1 x2)) →
      exec c s = .next t →
        t = { s.elapse dt with can := t.can }) ∧
  (∀ (s t : State) (dt : Nat) (c : Instr), ((∃ x0, c = .canTxDone dt x0) ∨ (∃ x0 x1, c = .canTxExpire dt x0 x1)) →
      exec c s = .next t →
        t = { s.elapse dt with seqs := t.seqs, host := t.host, dict := t.dict, can := t.can, dia := t.dia } ∧
        ∀ i, (∀ n < 4, i ≠ Obj.CAN_REPORT_DROPS + n) → (∀ n < 4, i ≠ Obj.CAN_STAT + n) → t.obj i = s.obj i) ∧
  (∀ (s t : State) (dt : Nat) (c : Instr), ((∃ x0, c = .canArbitrationLost dt x0)) →
      exec c s = .next t →
        t = { s.elapse dt with seqs := t.seqs, host := t.host, dict := t.dict, can := t.can, dia := t.dia } ∧
        ∀ i, (∀ n < 4, i ≠ Obj.CAN_REPORT_DROPS + n) → t.obj i = s.obj i) ∧
  (∀ (s t : State) (dt : Nat) (c : Instr), ((∃ x0 x1 x2 x3 x4, c = .canBusError dt x0 x1 x2 x3 x4)) →
      exec c s = .next t →
        t = { s.elapse dt with log := t.log, seqs := t.seqs, host := t.host, dict := t.dict, can := t.can, dia := t.dia } ∧
        ∀ i, (∀ n < 4, i ≠ Obj.CAN_RATE_IDX + n) → (∀ n < 4, i ≠ Obj.CAN_REPORT_DROPS + n) → (∀ n < 4, i ≠ Obj.CAN_STAT + n) → i ≠ Obj.MGT_LOG_STAT → t.obj i = s.obj i) ∧
  (∀ (s t : State) (dt : Nat) (c : Instr), ((∃ x0, c = .canPublish dt x0)) →
      exec c s = .next t →
        t = { s.elapse dt with free := t.free, dict := t.dict, can := t.can, canPub := t.canPub, eth := t.eth } ∧
        ∀ i, (∀ n < 4, i ≠ Obj.CAN_STAT + n) → t.obj i = s.obj i) ∧
  (∀ (s t : State) (dt : Nat) (c : Instr) (n : Fin 4), (c = .canTxSof dt n ∨ c = .canTxDone dt n ∨ c = .canArbitrationLost dt n ∨ (∃ x1 x2 x3 x4, c = .canBusError dt n x1 x2 x3 x4) ∨ c = .canBusOffRecovery dt n ∨ c = .canRateTimeout dt n ∨ (∃ x1, c = .canTxExpire dt n x1) ∨ (∃ x1 x2, c = .canQackDoorbell dt n x1 x2)) →
      exec c s = .next t → ∀ m, m ≠ n.val → t.canU m = s.canU m)

/-- What the Ethernet commands and events leave as it was: the parts of `State` that no clause names, and, where a clause speaks of objects, every
object but the ones it names. `t.x` on the right of a clause stands for a part that the command may change. -/
def Obligations.EthernetFrames : Prop :=
  (∀ (s t : State) (dt : Nat) (c : Instr), ((∃ x0, c = .netEthConfig dt x0)) →
      exec c s = .next t →
        t = { s.elapse dt with time := t.time, tl := t.tl, log := t.log, seqs := t.seqs, host := t.host, dict := t.dict, flk := t.flk, ring := t.ring, can := t.can, eth := t.eth, dia := t.dia } ∧
        ∀ i, i ≠ Obj.MGT_LOG_STAT → i ≠ Obj.RING_STAT → t.obj i = s.obj i) ∧
  (∀ (s t : State) (dt : Nat) (c : Instr), ((∃ x0, c = .netEthConfigRead dt x0)) →
      exec c s = .next t →
        t = { s.elapse dt with tl := t.tl, log := t.log, seqs := t.seqs, host := t.host, dict := t.dict, flk := t.flk, ring := t.ring, can := t.can, eth := t.eth, dia := t.dia } ∧
        ∀ i, i ≠ Obj.MGT_LOG_STAT → i ≠ Obj.RING_STAT → t.obj i = s.obj i) ∧
  (∀ (s t : State) (dt : Nat) (c : Instr), ((∃ x0 x1 x2 x3 x4, c = .ethFrameRx dt x0 x1 x2 x3 x4)) →
      exec c s = .next t →
        t = { s.elapse dt with seqs := t.seqs, host := t.host, dict := t.dict, eth := t.eth, dia := t.dia } ∧
        ∀ i, (∀ n < 2, i ≠ Obj.ETH_RX_DISCARDS + n) → t.obj i = s.obj i) ∧
  (∀ (s t : State) (dt : Nat) (c : Instr), ((∃ x0, c = .ethFrameTx dt x0)) →
      exec c s = .next t →
        t = { s.elapse dt with seqs := t.seqs, dict := t.dict, eth := t.eth, dia := t.dia }) ∧
  (∀ (s t : State) (dt : Nat) (c : Instr), ((∃ x0 x1 x2, c = .ethLinkChange dt x0 x1 x2) ∨ (∃ x0 x1, c = .ptpPdelayExchange dt x0 x1)) →
      exec c s = .next t →
        t = { s.elapse dt with time := t.time, tl := t.tl, log := t.log, seqs := t.seqs, dict := t.dict, flk := t.flk, ring := t.ring, eth := t.eth, dia := t.dia } ∧
        ∀ i, i ≠ Obj.MGT_LOG_STAT → i ≠ Obj.RING_STAT → t.obj i = s.obj i) ∧
  (∀ (s t : State) (dt : Nat) (c : Instr), ((∃ x0 x1 x2 x3 x4 x5, c = .ptpAnnounceRx dt x0 x1 x2 x3 x4 x5)) →
      exec c s = .next t →
        t = { s.elapse dt with time := t.time, tl := t.tl, log := t.log, seqs := t.seqs, dict := t.dict, flk := t.flk, ring := t.ring, eth := t.eth, dia := t.dia } ∧
        ∀ i, i ≠ Obj.MGT_LOG_STAT → i ≠ Obj.RING_STAT → i ≠ Obj.TIM_UTC_OFFSET → t.obj i = s.obj i) ∧
  (∀ (s t : State) (dt : Nat) (c : Instr), ((∃ x0, c = .ptpSyncTx dt x0)) →
      exec c s = .next t →
        t = { s.elapse dt with eth := t.eth }) ∧
  (∀ (s t : State) (dt : Nat) (c : Instr), ((∃ x0, c = .ethPublish dt x0)) →
      exec c s = .next t →
        t = { s.elapse dt with free := t.free, dict := t.dict, canPub := t.canPub, eth := t.eth } ∧
        ∀ i, (∀ n < 2, i ≠ Obj.ETH_PUB_OVERRUN + n) → t.obj i = s.obj i) ∧
  (∀ (s t : State) (dt : Nat) (c : Instr), ((∃ x0 x1 x2 x3 x4 x5 x6, c = .ethPublishRx dt x0 x1 x2 x3 x4 x5 x6)) →
      exec c s = .next t →
        t.pending = s.pending ∧ t.time = (s.elapse dt).time ∧ t.tick = s.tick + dt ∧ t.free = s.free ∧ t.tl = s.tl ∧ t.hk = s.hk ∧ t.host = s.host ∧ t.cp = s.cp ∧ t.can = s.can ∧ t.tio = s.tio) ∧
  (∀ (s t : State) (dt : Nat) (c : Instr) (n : Fin 2), (c = .ethFrameTx dt n ∨ c = .ptpSyncTx dt n) →
      exec c s = .next t → ∀ m, m ≠ n.val → t.ethU m = s.ethU m)

/-- What safety and diagnostic commands and events leave as it was: the parts of `State` that no clause names, and, where a clause speaks of objects, every
object but the ones it names. `t.x` on the right of a clause stands for a part that the command may change. -/
def Obligations.SafetyAndDiagnosticFrames : Prop :=
  (∀ (s t : State) (dt : Nat) (c : Instr), ((∃ x0, c = .safLogin dt x0) ∨ (∃ x0, c = .safSetPassword dt x0)) →
      exec c s = .next t →
        t = { s.elapse dt with free := t.free, tl := t.tl, seqs := t.seqs, host := t.host, dict := t.dict, ref := t.ref, flk := t.flk, ring := t.ring, can := t.can, eth := t.eth, dia := t.dia } ∧
        ∀ i, i ≠ Obj.RING_STAT → t.obj i = s.obj i) ∧
  (∀ (s t : State) (dt : Nat) (c : Instr), ((∃ x0, c = .safCommit dt x0)) →
      exec c s = .next t →
        t = { s.elapse dt with tl := t.tl, seqs := t.seqs, host := t.host, dict := t.dict, sd := t.sd, ref := t.ref, flk := t.flk, ring := t.ring, can := t.can, eth := t.eth, dia := t.dia }) ∧
  (∀ (s t : State) (dt : Nat) (c : Instr), ((∃ x0, c = .safLogRead dt x0)) →
      exec c s = .next t →
        t = { s.elapse dt with tl := t.tl, seqs := t.seqs, host := t.host, dict := t.dict, flk := t.flk, ring := t.ring, can := t.can, eth := t.eth, dia := t.dia } ∧
        ∀ i, i ≠ Obj.RING_STAT → t.obj i = s.obj i) ∧
  (∀ (s t : State) (dt : Nat) (c : Instr), ((∃ x0 x1, c = .stoInputChange dt x0 x1) ∨ c = .stoDiscrepancy dt ∨ (∃ x0, c = .ss1TmaxExpire dt x0) ∨ (∃ x0, c = .degradedTimeExpire dt x0)) →
      exec c s = .next t →
        t = { s.elapse dt with log := t.log, seqs := t.seqs, dict := t.dict, slices := t.slices, gl := t.gl, ref := t.ref, dia := t.dia } ∧
        ∀ i, (∀ n < 24, i ≠ Obj.GL_STAT + n) → i ≠ Obj.MGT_LOG_STAT → (∀ k, i ≠ slc k Obj.SLC_DIS_RESULT) → t.obj i = s.obj i) ∧
  (∀ (s t : State) (dt : Nat) (c : Instr), (c = .refereeEvaluation dt) →
      exec c s = .next t →
        t = { s.elapse dt with log := t.log, seqs := t.seqs, dict := t.dict, sd := t.sd, slices := t.slices, gl := t.gl, ref := t.ref, dia := t.dia } ∧
        ∀ i, (∀ n < 24, i ≠ Obj.GL_STAT + n) → i ≠ Obj.MGT_LOG_STAT → (∀ n < 6, i ≠ Obj.SAF_SLICE_STAT + n) → (∀ n < 6, i ≠ Obj.SAF_SPEED_EST + n) → (∀ n < 6, i ≠ Obj.SAF_T_EST + n) → (∀ k, i ≠ slc k Obj.SLC_DIS_RESULT) → (∀ k, i ≠ slc k Obj.SLC_SD_PROMOTED) → t.obj i = s.obj i) ∧
  (∀ (s t : State) (dt : Nat) (c : Instr), ((∃ x0, c = .refereeHeartbeat dt x0) ∨ c = .refereeHeartbeatTimeout dt ∨ (∃ x0 x1, c = .refereeInjection dt x0 x1) ∨ c = .refereeLockstepMismatch dt) →
      exec c s = .next t →
        t = { s.elapse dt with log := t.log, seqs := t.seqs, dict := t.dict, slices := t.slices, gl := t.gl, ref := t.ref, flk := t.flk, dia := t.dia } ∧
        ∀ i, (∀ n < 24, i ≠ Obj.GL_STAT + n) → i ≠ Obj.MGT_LOG_STAT → (∀ k, i ≠ slc k Obj.SLC_DIS_RESULT) → t.obj i = s.obj i) ∧
  (∀ (s t : State) (dt : Nat) (c : Instr), ((∃ x0, c = .dischargeMonitorDeadline dt x0)) →
      exec c s = .next t →
        t = { s.elapse dt with log := t.log, seqs := t.seqs, dict := t.dict, ref := t.ref, dia := t.dia } ∧
        ∀ i, i ≠ Obj.MGT_LOG_STAT → t.obj i = s.obj i) ∧
  (∀ (s t : State) (dt : Nat) (c : Instr), (c = .safLoginLockExpire dt) →
      exec c s = .next t →
        t = { s.elapse dt with ref := t.ref }) ∧
  (∀ (s t : State) (dt : Nat) (c : Instr), (c = .cpLockstepMismatch dt ∨ (∃ x0 x1 x2, c = .debugWrite dt x0 x1 x2)) →
      exec c s = .next t →
        t = { s.elapse dt with tl := t.tl, host := t.host, dict := t.dict, cp := t.cp } ∧
        ∀ i, i ≠ Obj.SAF_REF_STATUS → t.obj i = s.obj i) ∧
  (∀ (s t : State) (dt : Nat) (c : Instr), ((∃ x0, c = .cpRestartDone dt x0)) →
      exec c s = .next t →
        t = { s.elapse dt with log := t.log, seqs := t.seqs, host := t.host, dict := t.dict, slices := t.slices, gl := t.gl, ref := t.ref, cp := t.cp, ring := t.ring, can := t.can, eth := t.eth, dia := t.dia } ∧
        ∀ i, (∀ n < 24, i ≠ Obj.GL_STAT + n) → i ≠ Obj.MGT_LOG_STAT → (∀ k, i ≠ slc k Obj.SLC_DIS_RESULT) → t.obj i = s.obj i) ∧
  (∀ (s t : State) (dt : Nat) (c : Instr), (c = .cpCheckpoint dt ∨ c = .debugHalt dt) →
      exec c s = .next t →
        t = { s.elapse dt with cp := t.cp }) ∧
  (∀ (s t : State) (dt : Nat) (c : Instr), ((∃ x0, c = .eccCorrectable dt x0)) →
      exec c s = .next t →
        t = { s.elapse dt with dia := t.dia }) ∧
  (∀ (s t : State) (dt : Nat) (c : Instr), ((∃ x0 x1, c = .eccUncorrectable dt x0 x1)) →
      exec c s = .next t →
        t.pending = s.pending ∧ t.time = (s.elapse dt).time ∧ t.tick = s.tick + dt ∧ t.free = s.free ∧ t.hk = s.hk ∧ t.mclk = s.mclk ∧ t.sd = s.sd ∧ t.aux = s.aux ∧ t.enc = s.enc ∧ t.ring = s.ring ∧ t.canPub = s.canPub ∧ t.eth = s.eth ∧ t.tio = s.tio) ∧
  (∀ (s t : State) (dt : Nat) (c : Instr), (c = .muRestartDone dt) →
      exec c s = .next t →
        t.pending = s.pending ∧ t.time = (s.elapse dt).time ∧ t.tick = s.tick + dt ∧ t.cp = s.cp) ∧
  (∀ (s t : State) (dt : Nat) (c : Instr), (c = .debugResume dt) →
      exec c s = .next t →
        t = { s.elapse dt with seqs := t.seqs, host := t.host, cp := t.cp, ring := t.ring, can := t.can, eth := t.eth, dia := t.dia }) ∧
  (∀ (s t : State) (dt : Nat) (c : Instr), ((∃ x0, c = .diaBistRun dt x0) ∨ (∃ x0, c = .diaRemapRow dt x0) ∨ (∃ x0, c = .diaTraceStop dt x0) ∨ (∃ x0, c = .diaTraceStartRing dt x0) ∨ (∃ x0, c = .diaTraceStartOnce dt x0)) →
      exec c s = .next t →
        t = { s.elapse dt with tl := t.tl, seqs := t.seqs, host := t.host, dict := t.dict, flk := t.flk, ring := t.ring, can := t.can, eth := t.eth, dia := t.dia } ∧
        ∀ i, i ≠ Obj.RING_STAT → t.obj i = s.obj i) ∧
  (∀ (s t : State) (dt : Nat) (c : Instr), ((∃ x0, c = .diaBistResult dt x0)) →
      exec c s = .next t →
        t = { s.elapse dt with tl := t.tl, seqs := t.seqs, host := t.host, dict := t.dict, enc := t.enc, flk := t.flk, ring := t.ring, can := t.can, eth := t.eth, tio := t.tio, dia := t.dia } ∧
        ∀ i, i ≠ Obj.RING_STAT → t.obj i = s.obj i) ∧
  (∀ (s t : State) (dt : Nat) (c : Instr), (c = .bistWindowStart dt ∨ c = .bistSliceStart dt ∨ c = .bistCopyInDone dt ∨ c = .traceCapture dt) →
      exec c s = .next t →
        t = { s.elapse dt with dia := t.dia }) ∧
  (∀ (s t : State) (dt : Nat) (c : Instr), ((∃ x0, c = .bistMarchDone dt x0) ∨ (∃ x0, c = .bistPreempt dt x0) ∨ (∃ x0, c = .bistBudgetExpire dt x0)) →
      exec c s = .next t →
        t = { s.elapse dt with dict := t.dict, dia := t.dia } ∧
        ∀ i, i ≠ Obj.DIA_BIST_STAT → t.obj i = s.obj i) ∧
  (∀ (s t : State) (dt : Nat) (c : Instr), (c = .bistSliceEnd dt) →
      exec c s = .next t →
        t = { s.elapse dt with host := t.host, dict := t.dict, dia := t.dia }) ∧
  (∀ (s t : State) (dt : Nat) (c : Instr), ((∃ x0, c = .refereeBistSlice dt x0)) →
      exec c s = .next t →
        t = { s.elapse dt with log := t.log, seqs := t.seqs, dict := t.dict, slices := t.slices, gl := t.gl, ref := t.ref, flk := t.flk, dia := t.dia } ∧
        ∀ i, (∀ n < 24, i ≠ Obj.GL_STAT + n) → i ≠ Obj.MGT_LOG_STAT → (∀ k, i ≠ slc k Obj.SLC_DIS_RESULT) → t.obj i = s.obj i) ∧
  (∀ (s t : State) (dt : Nat) (c : Instr), ((∃ x0 x1, c = .sdPatternCheck dt x0 x1) ∨ (∃ x0 x1, c = .glLoopbackCheck dt x0 x1) ∨ (∃ x0 x1, c = .ringLoopbackCheck dt x0 x1) ∨ (∃ x0 x1, c = .canLoopbackCheck dt x0 x1) ∨ (∃ x0, c = .matrixDatapathError dt x0)) →
      exec c s = .next t →
        t = { s.elapse dt with log := t.log, seqs := t.seqs, dict := t.dict, sd := t.sd, enc := t.enc, eng := t.eng, slices := t.slices, gl := t.gl, ref := t.ref, flk := t.flk, dia := t.dia } ∧
        ∀ i, (∀ n < 8, i ≠ Obj.ENC_STAT + n) → (∀ n < 24, i ≠ Obj.GL_STAT + n) → i ≠ Obj.MGT_LOG_STAT → (∀ k, i ≠ slc k Obj.SLC_DIS_RESULT) → (∀ k, i ≠ slc k Obj.SLC_SD_PROMOTED) → t.obj i = s.obj i)

/-- What management opcodes and storage events leave as it was: the parts of `State` that no clause names, and, where a clause speaks of objects, every
object but the ones it names. `t.x` on the right of a clause stands for a part that the command may change. -/
def Obligations.ManagementAndStorageFrames : Prop :=
  (∀ (s t : State) (dt : Nat) (c : Instr), ((∃ x0, c = .mgtIngotBegin dt x0) ∨ (∃ x0, c = .mgtIngotBeginConfig dt x0) ∨ (∃ x0, c = .mgtIngotData dt x0) ∨ (∃ x0, c = .mgtIngotEnd dt x0) ∨ (∃ x0, c = .mgtActivate dt x0)) →
      exec c s = .next t →
        t = { s.elapse dt with tl := t.tl, mu := t.mu, seqs := t.seqs, host := t.host, dict := t.dict, flk := t.flk, ring := t.ring, can := t.can, eth := t.eth, dia := t.dia } ∧
        ∀ i, i ≠ Obj.RING_STAT → t.obj i = s.obj i) ∧
  (∀ (s t : State) (dt : Nat) (c : Instr), ((∃ x0 x1, c = .mgtBind dt x0 x1) ∨ (∃ x0, c = .mgtInstallAnchor dt x0) ∨ (∃ x0, c = .mgtRemoveBinding dt x0)) →
      exec c s = .next t →
        t = { s.elapse dt with tl := t.tl, mu := t.mu, log := t.log, seqs := t.seqs, host := t.host, dict := t.dict, flk := t.flk, ring := t.ring, can := t.can, eth := t.eth, dia := t.dia } ∧
        ∀ i, i ≠ Obj.MGT_LOG_STAT → i ≠ Obj.RING_STAT → t.obj i = s.obj i) ∧
  (∀ (s t : State) (dt : Nat) (c : Instr), ((∃ x0, c = .mgtAttest dt x0) ∨ (∃ x0, c = .mgtLogRead dt x0)) →
      exec c s = .next t →
        t = { s.elapse dt with tl := t.tl, seqs := t.seqs, host := t.host, dict := t.dict, flk := t.flk, ring := t.ring, can := t.can, eth := t.eth, dia := t.dia } ∧
        ∀ i, i ≠ Obj.RING_STAT → t.obj i = s.obj i) ∧
  (∀ (s t : State) (dt : Nat) (c : Instr), ((∃ x0, c = .ingotCheckDone dt x0)) →
      exec c s = .next t →
        t = { s.elapse dt with mu := t.mu, log := t.log, seqs := t.seqs, dict := t.dict, dia := t.dia } ∧
        ∀ i, i ≠ Obj.MGT_LOG_STAT → t.obj i = s.obj i) ∧
  (∀ (s t : State) (dt : Nat) (c : Instr), (c = .ingotTransferTimeout dt) →
      exec c s = .next t →
        t = { s.elapse dt with mu := t.mu, host := t.host }) ∧
  (∀ (s t : State) (dt : Nat) (c : Instr), (c = .mgtActivateApply dt) →
      exec c s = .next t →
        t.pending = s.pending ∧ t.tick = s.tick + dt) ∧
  (∀ (s t : State) (dt : Nat) (c : Instr), ((∃ x0 x1, c = .norPersistWrite dt x0 x1)) →
      exec c s = .next t →
        t = { s.elapse dt with free := t.free, mu := t.mu, log := t.log, seqs := t.seqs, dict := t.dict, eth := t.eth, dia := t.dia } ∧
        ∀ i, i ≠ Obj.MGT_LOG_STAT → t.obj i = s.obj i) ∧
  (∀ (s t : State) (dt : Nat) (c : Instr), (c = .logNorCopy dt) →
      exec c s = .next t →
        t = { s.elapse dt with log := t.log })

/-- What Flask and ring commands leave as it was: the parts of `State` that no clause names, and, where a clause speaks of objects, every
object but the ones it names. `t.x` on the right of a clause stands for a part that the command may change. -/
def Obligations.FlaskAndRingFrames : Prop :=
  (∀ (s t : State) (dt : Nat) (c : Instr), ((∃ x0, c = .flkConfig dt x0)) →
      exec c s = .next t →
        t = { s.elapse dt with tl := t.tl, log := t.log, seqs := t.seqs, host := t.host, dict := t.dict, enc := t.enc, gl := t.gl, ref := t.ref, flk := t.flk, ring := t.ring, can := t.can, eth := t.eth, dia := t.dia } ∧
        ∀ i, i ≠ Obj.FLK_CFG → i ≠ Obj.FLK_LAST_SWITCH → i ≠ Obj.FLK_SWITCH_CNT → i ≠ Obj.MGT_LOG_STAT → i ≠ Obj.RING_STAT → t.obj i = s.obj i) ∧
  (∀ (s t : State) (dt : Nat) (c : Instr), ((∃ x0, c = .flkResync dt x0)) →
      exec c s = .next t →
        t = { s.elapse dt with tl := t.tl, log := t.log, seqs := t.seqs, host := t.host, dict := t.dict, enc := t.enc, gl := t.gl, ref := t.ref, flk := t.flk, ring := t.ring, can := t.can, eth := t.eth, dia := t.dia } ∧
        ∀ i, i ≠ Obj.FLK_LAST_SWITCH → i ≠ Obj.FLK_SWITCH_CNT → i ≠ Obj.MGT_LOG_STAT → i ≠ Obj.RING_STAT → t.obj i = s.obj i) ∧
  (∀ (s t : State) (dt : Nat) (c : Instr), ((∃ x0, c = .flkHandover dt x0)) →
      exec c s = .next t →
        t = { s.elapse dt with tl := t.tl, seqs := t.seqs, host := t.host, dict := t.dict, flk := t.flk, ring := t.ring, can := t.can, eth := t.eth, dia := t.dia } ∧
        ∀ i, i ≠ Obj.RING_STAT → t.obj i = s.obj i) ∧
  (∀ (s t : State) (dt : Nat) (c : Instr), (c = .mirrorApply dt) →
      exec c s = .next t →
        t.pending = s.pending ∧ t.tick = s.tick + dt ∧ t.hk = s.hk ∧ t.cp = s.cp) ∧
  (∀ (s t : State) (dt : Nat) (c : Instr), (c = .mirrorHoldExpire dt ∨ c = .ringMirrorResetRx dt) →
      exec c s = .next t →
        t = { s.elapse dt with flk := t.flk }) ∧
  (∀ (s t : State) (dt : Nat) (c : Instr), (c = .ringHeartbeatSend dt ∨ c = .ringClaimSend dt) →
      exec c s = .next t →
        t = { s.elapse dt with seqs := t.seqs, dict := t.dict, enc := t.enc, gl := t.gl, ref := t.ref, flk := t.flk, ring := t.ring, can := t.can, dia := t.dia } ∧
        ∀ i, i ≠ Obj.FLK_LAST_SWITCH → i ≠ Obj.FLK_SWITCH_CNT → t.obj i = s.obj i) ∧
  (∀ (s t : State) (dt : Nat) (c : Instr), ((∃ x0 x1, c = .ringHeartbeatRx dt x0 x1)) →
      exec c s = .next t →
        t = { s.elapse dt with time := t.time, tl := t.tl, log := t.log, seqs := t.seqs, dict := t.dict, enc := t.enc, gl := t.gl, ref := t.ref, flk := t.flk, ring := t.ring, can := t.can, dia := t.dia } ∧
        ∀ i, i ≠ Obj.FLK_LAST_SWITCH → i ≠ Obj.FLK_PARTNER_CLAIM → i ≠ Obj.FLK_SWITCH_CNT → i ≠ Obj.MGT_LOG_STAT → i ≠ Obj.RING_STAT → i ≠ Obj.RING_TIME_SRC → t.obj i = s.obj i) ∧
  (∀ (s t : State) (dt : Nat) (c : Instr), (c = .heartbeatFailure dt) →
      exec c s = .next t →
        t = { s.elapse dt with log := t.log, seqs := t.seqs, dict := t.dict, enc := t.enc, gl := t.gl, ref := t.ref, flk := t.flk, ring := t.ring, can := t.can, dia := t.dia } ∧
        ∀ i, i ≠ Obj.FLK_LAST_SWITCH → i ≠ Obj.FLK_STATUS → i ≠ Obj.FLK_SWITCH_CNT → i ≠ Obj.MGT_LOG_STAT → i ≠ Obj.RING_STAT → t.obj i = s.obj i) ∧
  (∀ (s t : State) (dt : Nat) (c : Instr), (c = .joinWaitExpire dt ∨ c = .handoverBoundary dt) →
      exec c s = .next t →
        t = { s.elapse dt with log := t.log, seqs := t.seqs, dict := t.dict, enc := t.enc, gl := t.gl, ref := t.ref, flk := t.flk, ring := t.ring, can := t.can, dia := t.dia } ∧
        ∀ i, i ≠ Obj.FLK_LAST_SWITCH → i ≠ Obj.FLK_SWITCH_CNT → i ≠ Obj.MGT_LOG_STAT → t.obj i = s.obj i) ∧
  (∀ (s t : State) (dt : Nat) (c : Instr), ((∃ x0 x1 x2, c = .ringClaimRx dt x0 x1 x2)) →
      exec c s = .next t →
        t = { s.elapse dt with log := t.log, seqs := t.seqs, dict := t.dict, enc := t.enc, gl := t.gl, ref := t.ref, flk := t.flk, ring := t.ring, can := t.can, dia := t.dia } ∧
        ∀ i, i ≠ Obj.FLK_LAST_SWITCH → i ≠ Obj.FLK_PARTNER_CLAIM → i ≠ Obj.FLK_SWITCH_CNT → i ≠ Obj.MGT_LOG_STAT → t.obj i = s.obj i) ∧
  (∀ (s t : State) (dt : Nat) (c : Instr), ((∃ x0 x1, c = .ringMirrorRx dt x0 x1)) →
      exec c s = .next t →
        t = { s.elapse dt with tl := t.tl, seqs := t.seqs, flk := t.flk, ring := t.ring, dia := t.dia }) ∧
  (∀ (s t : State) (dt : Nat) (c : Instr), ((∃ x0 x1, c = .ringNakRx dt x0 x1)) →
      exec c s = .next t →
        t = { s.elapse dt with seqs := t.seqs, dict := t.dict, ring := t.ring, dia := t.dia } ∧
        ∀ i, i ≠ Obj.RING_RETRY_CNT → t.obj i = s.obj i) ∧
  (∀ (s t : State) (dt : Nat) (c : Instr), ((∃ x0 x1 x2, c = .ringDigestRx dt x0 x1 x2)) →
      exec c s = .next t →
        t = { s.elapse dt with dict := t.dict, flk := t.flk } ∧
        ∀ i, i ≠ Obj.FLK_STATUS → t.obj i = s.obj i) ∧
  (∀ (s t : State) (dt : Nat) (c : Instr), (c = .ringAlignExchange dt) →
      exec c s = .next t →
        t = { s.elapse dt with seqs := t.seqs, ring := t.ring, dia := t.dia }) ∧
  (∀ (s t : State) (dt : Nat) (c : Instr), ((∃ x0 x1 x2 x3 x4, c = .ringAlignRx dt x0 x1 x2 x3 x4)) →
      exec c s = .next t →
        t = { s.elapse dt with time := t.time, tl := t.tl, log := t.log, seqs := t.seqs, dict := t.dict, slices := t.slices, flk := t.flk, ring := t.ring, tio := t.tio, dia := t.dia } ∧
        ∀ i, i ≠ Obj.MGT_LOG_STAT → i ≠ Obj.RING_STAT → i ≠ Obj.TIM_OFFSET → (∀ n < 256, i ≠ Obj.TIM_RALLY_SKIP + n) → i ≠ Obj.TIM_STEP_COUNT → t.obj i = s.obj i) ∧
  (∀ (s t : State) (dt : Nat) (c : Instr), ((∃ x0 x1, c = .ringObjxRx dt x0 x1)) →
      exec c s = .next t →
        t.pending = s.pending ∧ t.tick = s.tick + dt ∧ t.free = s.free ∧ t.tl = s.tl ∧ t.hk = s.hk ∧ t.cp = s.cp) ∧
  (∀ (s t : State) (dt : Nat) (c : Instr), ((∃ x0 x1 x2, c = .ringResyncRx dt x0 x1 x2)) →
      exec c s = .next t →
        t = { s.elapse dt with flk := t.flk }) ∧
  (∀ (s t : State) (dt : Nat) (c : Instr), ((∃ x0, c = .ringPortLock dt x0) ∨ (∃ x0, c = .ringPortUnlock dt x0)) →
      exec c s = .next t →
        t = { s.elapse dt with ring := t.ring }) ∧
  (∀ (s t : State) (dt : Nat) (c : Instr), ((∃ x0 x1 x2, c = .resyncTimeAligned dt x0 x1 x2)) →
      exec c s = .next t →
        t = { s.elapse dt with time := t.time, tl := t.tl, log := t.log, seqs := t.seqs, dict := t.dict, slices := t.slices, flk := t.flk, tio := t.tio, dia := t.dia } ∧
        ∀ i, i ≠ Obj.MGT_LOG_STAT → (∀ n < 256, i ≠ Obj.TIM_RALLY_SKIP + n) → i ≠ Obj.TIM_STEP_COUNT → t.obj i = s.obj i) ∧
  (∀ (s t : State) (dt : Nat) (c : Instr), (c = .resyncImageDone dt) →
      exec c s = .next t →
        t.pending = s.pending ∧ t.time = (s.elapse dt).time ∧ t.tick = s.tick + dt ∧ t.free = s.free ∧ t.tl = s.tl ∧ t.hk = s.hk ∧ t.host = s.host ∧ t.cp = s.cp ∧ t.can = s.can ∧ t.tio = s.tio) ∧
  (∀ (s t : State) (dt : Nat) (c : Instr), (c = .resyncSnapshot dt) →
      exec c s = .next t →
        t = { s.elapse dt with seqs := t.seqs, flk := t.flk, ring := t.ring, dia := t.dia }) ∧
  (∀ (s t : State) (dt : Nat) (c : Instr), ((∃ x0, c = .resyncSnapshotDone dt x0)) →
      exec c s = .next t →
        t = { s.elapse dt with mclk := t.mclk, enc := t.enc, eng := t.eng, slices := t.slices, gl := t.gl, flk := t.flk }) ∧
  (∀ (s t : State) (dt : Nat) (c : Instr), (c = .resyncLive dt) →
      exec c s = .next t →
        t.pending = s.pending ∧ t.tick = s.tick + dt ∧ t.hk = s.hk ∧ t.cp = s.cp) ∧
  (∀ (s t : State) (dt : Nat) (c : Instr), (c = .resyncLiveDeadline dt) →
      exec c s = .next t →
        t = { s.elapse dt with log := t.log, seqs := t.seqs, dict := t.dict, flk := t.flk, dia := t.dia } ∧
        ∀ i, i ≠ Obj.MGT_LOG_STAT → t.obj i = s.obj i) ∧
  (∀ (s t : State) (dt : Nat) (c : Instr), (c = .resyncRetry dt) →
      exec c s = .next t →
        t = { s.elapse dt with log := t.log, seqs := t.seqs, dict := t.dict, enc := t.enc, gl := t.gl, ref := t.ref, flk := t.flk, ring := t.ring, can := t.can, dia := t.dia } ∧
        ∀ i, i ≠ Obj.FLK_LAST_SWITCH → i ≠ Obj.FLK_SWITCH_CNT → i ≠ Obj.MGT_LOG_STAT → t.obj i = s.obj i)

/-- What sensing, auxiliary and housekeeping events leave as it was: the parts of `State` that no clause names, and, where a clause speaks of objects, every
object but the ones it names. `t.x` on the right of a clause stands for a part that the command may change. -/
def Obligations.SensingAndHousekeepingFrames : Prop :=
  (∀ (s t : State) (dt : Nat) (c : Instr), ((∃ x0 x1 x2, c = .sdMainResult dt x0 x1 x2)) →
      exec c s = .next t →
        t = { s.elapse dt with log := t.log, seqs := t.seqs, dict := t.dict, mclk := t.mclk, sd := t.sd, enc := t.enc, eng := t.eng, slices := t.slices, gl := t.gl, ref := t.ref, dia := t.dia } ∧
        ∀ i, (∀ n < 24, i ≠ Obj.GL_STAT + n) → i ≠ Obj.MGT_LOG_STAT → (∀ n < 64, i ≠ Obj.SD_STAT + n) → (∀ n < 64, i ≠ Obj.SD_VALUE + n) → (∀ k, i ≠ slc k Obj.SLC_CATCH_RESULT) → (∀ k, i ≠ slc k Obj.SLC_DIS_RESULT) → (∀ k, i ≠ slc k Obj.SLC_SD_PROMOTED) → (∀ k, i ≠ slc k Obj.SLC_STATUS) → t.obj i = s.obj i) ∧
  (∀ (s t : State) (dt : Nat) (c : Instr), ((∃ x0, c = .sdInterpResult dt x0)) →
      exec c s = .next t →
        t = { s.elapse dt with log := t.log, seqs := t.seqs, dict := t.dict, sd := t.sd, enc := t.enc, eng := t.eng, slices := t.slices, gl := t.gl, dia := t.dia } ∧
        ∀ i, i ≠ Obj.MGT_LOG_STAT → (∀ n < 64, i ≠ Obj.SD_STAT + n) → (∀ k, i ≠ slc k Obj.SLC_CATCH_RESULT) → (∀ k, i ≠ slc k Obj.SLC_STATUS) → t.obj i = s.obj i) ∧
  (∀ (s t : State) (dt : Nat) (c : Instr), ((∃ x0 x1 x2, c = .sdFastTrip dt x0 x1 x2) ∨ (∃ x0, c = .sdStuck dt x0)) →
      exec c s = .next t →
        t = { s.elapse dt with log := t.log, seqs := t.seqs, dict := t.dict, mclk := t.mclk, sd := t.sd, slices := t.slices, gl := t.gl, ref := t.ref, dia := t.dia } ∧
        ∀ i, (∀ n < 24, i ≠ Obj.GL_STAT + n) → i ≠ Obj.MGT_LOG_STAT → (∀ n < 64, i ≠ Obj.SD_STAT + n) → (∀ k, i ≠ slc k Obj.SLC_DIS_RESULT) → (∀ k, i ≠ slc k Obj.SLC_SD_PROMOTED) → t.obj i = s.obj i) ∧
  (∀ (s t : State) (dt : Nat) (c : Instr), (c = .mclkInLost dt) →
      exec c s = .next t →
        t = { s.elapse dt with log := t.log, seqs := t.seqs, dict := t.dict, mclk := t.mclk, sd := t.sd, slices := t.slices, gl := t.gl, ref := t.ref, dia := t.dia } ∧
        ∀ i, (∀ n < 24, i ≠ Obj.GL_STAT + n) → i ≠ Obj.MGT_LOG_STAT → i ≠ Obj.SD_MCLK_IN_STAT → (∀ k, i ≠ slc k Obj.SLC_DIS_RESULT) → (∀ k, i ≠ slc k Obj.SLC_SD_PROMOTED) → t.obj i = s.obj i) ∧
  (∀ (s t : State) (dt : Nat) (c : Instr), ((∃ x0 x1, c = .mclkInFreqWindow dt x0 x1)) →
      exec c s = .next t →
        t = { s.elapse dt with log := t.log, seqs := t.seqs, dict := t.dict, sd := t.sd, slices := t.slices, gl := t.gl, ref := t.ref, flk := t.flk, dia := t.dia } ∧
        ∀ i, (∀ n < 24, i ≠ Obj.GL_STAT + n) → i ≠ Obj.MGT_LOG_STAT → i ≠ Obj.SD_MCLK_IN_STAT → (∀ k, i ≠ slc k Obj.SLC_DIS_RESULT) → (∀ k, i ≠ slc k Obj.SLC_SD_PROMOTED) → t.obj i = s.obj i) ∧
  (∀ (s t : State) (dt : Nat) (c : Instr), (c = .mclkInReturn dt) →
      exec c s = .next t →
        t = { s.elapse dt with dict := t.dict, mclk := t.mclk, sd := t.sd } ∧
        ∀ i, i ≠ Obj.SD_MCLK_IN_STAT → t.obj i = s.obj i) ∧
  (∀ (s t : State) (dt : Nat) (c : Instr), ((∃ x0, c = .sdMonitorRecover dt x0)) →
      exec c s = .next t →
        t = { s.elapse dt with sd := t.sd }) ∧
  (∀ (s t : State) (dt : Nat) (c : Instr), ((∃ x0, c = .sdMclkDivApply dt x0)) →
      exec c s = .next t →
        t = { s.elapse dt with mclk := t.mclk }) ∧
  (∀ (s t : State) (dt : Nat) (c : Instr), ((∃ x0 x1, c = .auxSampleEnd dt x0 x1) ∨ (∃ x0, c = .auxPowerDown dt x0)) →
      exec c s = .next t →
        t = { s.elapse dt with aux := t.aux }) ∧
  (∀ (s t : State) (dt : Nat) (c : Instr), ((∃ x0, c = .auxConversionEnd dt x0)) →
      exec c s = .next t →
        t = { s.elapse dt with log := t.log, seqs := t.seqs, dict := t.dict, aux := t.aux, flk := t.flk, ring := t.ring, dia := t.dia }) ∧
  (∀ (s t : State) (dt : Nat) (c : Instr), ((∃ x0, c = .hkSlot dt x0)) →
      exec c s = .next t →
        t = { s.elapse dt with hk := t.hk }) ∧
  (∀ (s t : State) (dt : Nat) (c : Instr), (c = .hkRoundEnd dt) →
      exec c s = .next t →
        t.pending = s.pending ∧ t.tick = s.tick + dt) ∧
  (∀ (s t : State) (dt : Nat) (c : Instr), (c = .hkRoundLate dt) →
      exec c s = .next t →
        t = { s.elapse dt with hk := t.hk, log := t.log, seqs := t.seqs, dict := t.dict, slices := t.slices, gl := t.gl, ref := t.ref, dia := t.dia } ∧
        ∀ i, (∀ n < 24, i ≠ Obj.GL_STAT + n) → i ≠ Obj.HK_ROUND_STAT → i ≠ Obj.MGT_LOG_STAT → (∀ k, i ≠ slc k Obj.SLC_DIS_RESULT) → t.obj i = s.obj i) ∧
  (∀ (s t : State) (dt : Nat) (c : Instr), (c = .throttleEnforce dt) →
      exec c s = .next t →
        t = { s.elapse dt with hk := t.hk, log := t.log, seqs := t.seqs, host := t.host, dict := t.dict, eng := t.eng, flk := t.flk, ring := t.ring, dia := t.dia } ∧
        ∀ i, i ≠ Obj.MGT_LOG_STAT → i ≠ Obj.MGT_THERM_STAT → i ≠ Obj.RING_STAT → t.obj i = s.obj i) ∧
  (∀ (s t : State) (dt : Nat) (c : Instr), (c = .thermalStopDeadline dt) →
      exec c s = .next t →
        t = { s.elapse dt with log := t.log, seqs := t.seqs, dict := t.dict, slices := t.slices, dia := t.dia } ∧
        ∀ i, i ≠ Obj.MGT_LOG_STAT → (∀ k, i ≠ slc k Obj.SLC_DIS_RESULT) → t.obj i = s.obj i) ∧
  (∀ (s t : State) (dt : Nat) (c : Instr), (c = .thermalHoldEntry dt) →
      exec c s = .next t →
        t.pending = s.pending ∧ t.tick = s.tick + dt ∧ t.log = s.log ∧ t.seqs = s.seqs) ∧
  (∀ (s t : State) (dt : Nat) (c : Instr) (n : Fin 64), ((∃ x1 x2, c = .sdFastTrip dt n x1 x2) ∨ (∃ x1 x2, c = .sdMainResult dt n x1 x2) ∨ c = .sdMonitorRecover dt n) →
      exec c s = .next t → ∀ m, m ≠ n.val → t.sdU m = s.sdU m) ∧
  (∀ (s t : State) (dt : Nat) (c : SdBits), exec (.sdStuck dt c) s = .next t → ∀ m, m ≠ c.ch.val → t.sdU m = s.sdU m) ∧
  (∀ (s t : State) (dt : Nat) (c : Instr) (n : Fin 4), ((∃ x1, c = .auxSampleEnd dt n x1) ∨ c = .auxConversionEnd dt n ∨ c = .auxPowerDown dt n) →
      exec c s = .next t → ∀ m, m ≠ n.val → t.auxU m = s.auxU m) ∧
  (∀ (s u t : State) (dt : Nat) (k : Fin 4) (c : AuxConv), u = s.elapse dt → (u.auxU k.val).conv = some c →
      exec (.auxConversionEnd dt k) s = .next t →
        ∀ i, i ≠ Obj.AUX_VALUE + (8 * k.val + c.chan) → i ≠ Obj.AUX_STAT + k.val → i ≠ Obj.MGT_LOG_STAT → i ≠ Obj.RING_STAT →
          t.obj i = s.obj i)

/-- What encoder, rally and TIO events leave as it was: the parts of `State` that no clause names, and, where a clause speaks of objects, every
object but the ones it names. `t.x` on the right of a clause stands for a part that the command may change. -/
def Obligations.EncoderRallyAndTioFrames : Prop :=
  (∀ (s t : State) (dt : Nat) (c : Instr), ((∃ x0 x1 x2, c = .encQuadTransition dt x0 x1 x2) ∨ (∃ x0 x1, c = .encHallTransition dt x0 x1) ∨ (∃ x0 x1, c = .encIndex dt x0 x1) ∨ (∃ x0 x1 x2, c = .ssiFrameEnd dt x0 x1 x2)) →
      exec c s = .next t →
        t = { s.elapse dt with log := t.log, seqs := t.seqs, dict := t.dict, enc := t.enc, slices := t.slices, gl := t.gl, ref := t.ref, dia := t.dia } ∧
        ∀ i, (∀ n < 8, i ≠ Obj.ENC_STAT + n) → (∀ n < 24, i ≠ Obj.GL_STAT + n) → i ≠ Obj.MGT_LOG_STAT → (∀ k, i ≠ slc k Obj.SLC_DIS_RESULT) → t.obj i = s.obj i) ∧
  (∀ (s t : State) (dt : Nat) (c : Instr), ((∃ x0 x1, c = .encProbeEdge dt x0 x1)) →
      exec c s = .next t →
        t = { s.elapse dt with seqs := t.seqs, dict := t.dict, enc := t.enc, flk := t.flk, ring := t.ring, dia := t.dia } ∧
        ∀ i, (∀ n < 8, i ≠ Obj.ENC_PROBE_RISE + n ∧ i ≠ Obj.ENC_PROBE_FALL + n) → (∀ n < 8, i ≠ Obj.ENC_STAT + n) → i ≠ Obj.RING_STAT → t.obj i = s.obj i) ∧
  (∀ (s t : State) (dt : Nat) (c : Instr), ((∃ x0, c = .encStandstill dt x0)) →
      exec c s = .next t →
        t = { s.elapse dt with seqs := t.seqs, enc := t.enc, ref := t.ref, dia := t.dia }) ∧
  (∀ (s t : State) (dt : Nat) (c : Instr), ((∃ x0, c = .encSpeedEval dt x0)) →
      exec c s = .next t →
        t = { s.elapse dt with enc := t.enc }) ∧
  (∀ (s t : State) (dt : Nat) (c : Instr), ((∃ x0 x1, c = .rallyTimeOccurrence dt x0 x1) ∨ (∃ x0 x1, c = .rallyPwmPhaseOccurrence dt x0 x1) ∨ (∃ x0 x1, c = .rallyAngleOccurrence dt x0 x1)) →
      exec c s = .next t →
        t = { s.elapse dt with log := t.log, seqs := t.seqs, dict := t.dict, sd := t.sd, aux := t.aux, enc := t.enc, eng := t.eng, slices := t.slices, ref := t.ref, flk := t.flk, ring := t.ring, tio := t.tio, dia := t.dia }) ∧
  (∀ (s t : State) (dt : Nat) (c : Instr), ((∃ x0, c = .tioPulseTrailingEdge dt x0)) →
      exec c s = .next t →
        t = { s.elapse dt with tio := t.tio }) ∧
  (∀ (s t : State) (dt : Nat) (c : Instr), ((∃ x0 x1, c = .tioCaptureEdge dt x0 x1)) →
      exec c s = .next t →
        t = { s.elapse dt with seqs := t.seqs, dict := t.dict, flk := t.flk, ring := t.ring, tio := t.tio, dia := t.dia } ∧
        ∀ i, i ≠ Obj.RING_STAT → (∀ n < 8, i ≠ Obj.TIM_TIO_DROPS + n) → t.obj i = s.obj i) ∧
  (∀ (s t : State) (dt : Nat) (c : Instr) (n : Fin 8), ((∃ x1 x2, c = .encQuadTransition dt n x1 x2) ∨ (∃ x1, c = .encHallTransition dt n x1) ∨ (∃ x1, c = .encIndex dt n x1) ∨ (∃ x1 x2, c = .ssiFrameEnd dt n x1 x2) ∨ c = .encStandstill dt n ∨ (∃ x1, c = .encProbeEdge dt n x1) ∨ c = .encSpeedEval dt n) →
      exec c s = .next t → ∀ m, m ≠ n.val → t.encU m = s.encU m) ∧
  (∀ (s t : State) (dt : Nat) (c : Instr) (n : Fin 8), (c = .tioPulseTrailingEdge dt n ∨ (∃ x1, c = .tioCaptureEdge dt n x1)) →
      exec c s = .next t → ∀ m, m ≠ n.val → t.tioU m = s.tioU m)

/-- What modulator and gate link events leave as it was: the parts of `State` that no clause names, and, where a clause speaks of objects, every
object but the ones it names. `t.x` on the right of a clause stands for a part that the command may change. -/
def Obligations.ModulatorAndGateLinkFrames : Prop :=
  (∀ (s t : State) (dt : Nat) (c : Instr), ((∃ x0, c = .updateIntervalStart dt x0)) →
      exec c s = .next t →
        t = { s.elapse dt with seqs := t.seqs, dict := t.dict, enc := t.enc, eng := t.eng, slices := t.slices, gl := t.gl, ref := t.ref, flk := t.flk, ring := t.ring, can := t.can, dia := t.dia } ∧
        ∀ i, i ≠ Obj.FLK_LAST_SWITCH → i ≠ Obj.FLK_SWITCH_CNT → t.obj i = s.obj i) ∧
  (∀ (s t : State) (dt : Nat) (c : Instr), ((∃ x0, c = .modulatorComputeDone dt x0)) →
      exec c s = .next t →
        t = { s.elapse dt with free := t.free, dict := t.dict, slices := t.slices, gl := t.gl } ∧
        ∀ i, (∀ k, i ≠ slc k Obj.SLC_PWM_M) → t.obj i = s.obj i) ∧
  (∀ (s t : State) (dt : Nat) (c : Instr), ((∃ x0, c = .modulationModeBoundary dt x0) ∨ (∃ x0, c = .pwmPeriodApply dt x0)) →
      exec c s = .next t →
        t = { s.elapse dt with slices := t.slices }) ∧
  (∀ (s t : State) (dt : Nat) (c : Instr), ((∃ x0, c = .edgeSend dt x0)) →
      exec c s = .next t →
        t = { s.elapse dt with log := t.log, seqs := t.seqs, dict := t.dict, slices := t.slices, gl := t.gl, flk := t.flk, dia := t.dia } ∧
        ∀ i, (∀ n < 24, i ≠ Obj.GL_STAT + n) → i ≠ Obj.MGT_LOG_STAT → (∀ k, i ≠ slc k Obj.SLC_DIS_RESULT) → t.obj i = s.obj i) ∧
  (∀ (s t : State) (dt : Nat) (c : Instr), ((∃ x0, c = .glSyncSend dt x0)) →
      exec c s = .next t →
        t = { s.elapse dt with log := t.log, seqs := t.seqs, dict := t.dict, enc := t.enc, gl := t.gl, ref := t.ref, flk := t.flk, ring := t.ring, can := t.can, dia := t.dia } ∧
        ∀ i, i ≠ Obj.FLK_LAST_SWITCH → i ≠ Obj.FLK_SWITCH_CNT → i ≠ Obj.MGT_LOG_STAT → t.obj i = s.obj i) ∧
  (∀ (s t : State) (dt : Nat) (c : Instr), ((∃ x0, c = .glModeSend dt x0)) →
      exec c s = .next t →
        t = { s.elapse dt with gl := t.gl }) ∧
  (∀ (s t : State) (dt : Nat) (c : Instr), ((∃ x0 x1 x2, c = .glStatusRx dt x0 x1 x2)) →
      exec c s = .next t →
        t = { s.elapse dt with log := t.log, seqs := t.seqs, dict := t.dict, enc := t.enc, slices := t.slices, gl := t.gl, ref := t.ref, flk := t.flk, ring := t.ring, can := t.can, dia := t.dia } ∧
        ∀ i, i ≠ Obj.FLK_LAST_SWITCH → i ≠ Obj.FLK_STATUS → i ≠ Obj.FLK_SWITCH_CNT → (∀ n < 24, i ≠ Obj.GL_STAT + n) → (∀ n < 24, i ≠ Obj.GL_STATUS_LAST + n) → i ≠ Obj.MGT_LOG_STAT → i ≠ Obj.RING_STAT → (∀ k, i ≠ slc k Obj.SLC_DIS_RESULT) → t.obj i = s.obj i) ∧
  (∀ (s t : State) (dt : Nat) (c : Instr), ((∃ x0 x1 x2, c = .glExecRx dt x0 x1 x2) ∨ (∃ x0, c = .glEchoTimeout dt x0)) →
      exec c s = .next t →
        t = { s.elapse dt with log := t.log, seqs := t.seqs, dict := t.dict, slices := t.slices, gl := t.gl, flk := t.flk, dia := t.dia } ∧
        ∀ i, i ≠ Obj.FLK_STATUS → i ≠ Obj.FLK_STEP_ERR_CNT → (∀ n < 24, i ≠ Obj.GL_STAT + n) → i ≠ Obj.MGT_LOG_STAT → (∀ k, i ≠ slc k Obj.SLC_DIS_RESULT) → t.obj i = s.obj i) ∧
  (∀ (s t : State) (dt : Nat) (c : Instr), ((∃ x0, c = .glStatusTimeout dt x0)) →
      exec c s = .next t →
        t = { s.elapse dt with log := t.log, seqs := t.seqs, dict := t.dict, slices := t.slices, gl := t.gl, flk := t.flk, dia := t.dia } ∧
        ∀ i, (∀ n < 24, i ≠ Obj.GL_STAT + n) → i ≠ Obj.MGT_LOG_STAT → (∀ k, i ≠ slc k Obj.SLC_DIS_RESULT) → t.obj i = s.obj i) ∧
  (∀ (s t : State) (dt : Nat) (c : Instr) (n : Fin 6), (c = .updateIntervalStart dt n ∨ c = .modulationModeBoundary dt n ∨ c = .pwmPeriodApply dt n ∨ c = .modulatorComputeDone dt n) →
      exec c s = .next t → ∀ m, m ≠ n.val → t.sl m = s.sl m) ∧
  (∀ (s t : State) (dt : Nat) (c : Instr) (n : Fin 24), (c = .glModeSend dt n) →
      exec c s = .next t → ∀ m, m ≠ n.val → t.glU m = s.glU m)

/-- A command on SQ0 that is new and passes the checks of its header and session, and whose opcode is not SYS_NOP, DRV_DISABLE, DRV_STOP, DRV_DISCHARGE or a SAF_ opcode, completes with ST_DENIED and has no other effect; where no such opcode exists, step 7 of Table 5.2 has already answered ST_BAD_OPCODE. For the listed opcodes SQ0 is no ground for ST_DENIED: only a missing privilege is. -/
def Obligations.SafetyQueueTakesOnlyItsOpcodes : Prop :=
  ∀ (s u v w x : State) (c : Instr) (dt : Nat) (q : Pkt) (e : Nat), Safety.packetOf c = some (dt, q) → u = s.elapse dt →
    u.cpTakes = true → u.takeEntry q = some (v, e) → checkHead q = none → v.sessionOk q = true → w = v.noteAccepted q →
    ((w.sessOf q).bind fun x => x.replyOf q.seq.toNat) = none →
    (w.host.deferred.find? fun d =>
      d.live && (w.sessOf q).isSome && d.pkt.session = q.session && d.pkt.seq = q.seq && d.pkt.crc = q.crc) = none →
    x = w.remember q → x.pairOf q.link = some 0 →
    (opInfo q.opcode.toNat = none →
      ∃ t, exec c s = .next t ∧
        t = { x.complete { pkt := q, accepted := w.now, entry := e } stBadOpcode [] with time := t.time, pending := s.pending } ∧ (t.time = u.time ∨ t.time = u.time.held)) ∧
    (q.opcode.toNat ∉ [0x0000, 0x2001, 0x2020, 0x2030, 0x6000, 0x6001, 0x6002] → (opInfo q.opcode.toNat).isSome = true →
      ∃ t, exec c s = .next t ∧
        t = { x.complete { pkt := q, accepted := w.now, entry := e } stDenied [] with time := t.time, pending := s.pending } ∧ (t.time = u.time ∨ t.time = u.time.held)) ∧
    (q.opcode.toNat ∈ [0x0000, 0x2001, 0x2020, 0x2030, 0x6000, 0x6001, 0x6002] → x.checkOp q = some stDenied →
      ∃ o, opInfo q.opcode.toNat = some o ∧
        (x.holds q o.priv = false ∨ (q.flags.getLsbD 3 = true ∧ x.holds q 3 = false) ∨ x.opDenied q = true))

/-- A command whose sequence number its session has stored does not run again: with the same CRC the stored reply is delivered to the new entry, with another CRC the answer is ST_SEQ_CONFLICT. A repeat of a command that is still executing only joins the entries that wait for its reply. -/
def Obligations.RepeatedCommandGetsItsStoredReply : Prop :=
  (∀ (s u v w : State) (c : Instr) (dt : Nat) (q : Pkt) (e : Nat) (r : Nat × Reply), Safety.packetOf c = some (dt, q) → u = s.elapse dt →
    u.cpTakes = true → u.takeEntry q = some (v, e) → checkHead q = none → v.sessionOk q = true → w = v.noteAccepted q →
    ((w.sessOf q).bind fun x => x.replyOf q.seq.toNat) = some r →
    ∃ t, exec c s = .next t ∧ (t.time = u.time ∨ t.time = u.time.held) ∧
      t = { (if r.1 = q.crc.toNat then (w.touch q).deliver { r.2 with link := q.link, entry := e } else (w.touch q).answer q e stSeqConflict)
            with time := t.time, pending := s.pending }) ∧
  (∀ (s u v w : State) (c : Instr) (dt : Nat) (q : Pkt) (e : Nat) (d : Deferred), Safety.packetOf c = some (dt, q) → u = s.elapse dt →
    u.cpTakes = true → u.takeEntry q = some (v, e) → checkHead q = none → v.sessionOk q = true → w = v.noteAccepted q →
    ((w.sessOf q).bind fun x => x.replyOf q.seq.toNat) = none →
    (w.host.deferred.find? fun d =>
      d.live && (w.sessOf q).isSome && d.pkt.session = q.session && d.pkt.seq = q.seq && d.pkt.crc = q.crc) = some d →
    ∃ t, exec c s = .next t ∧ (t.time = u.time ∨ t.time = u.time.held) ∧
      t = { w.touch q with time := t.time, pending := s.pending, host := { (w.touch q).host with deferred := (w.touch q).host.deferred.map fun x => if x.pkt = d.pkt && x.accepted = d.accepted then { x with repeats := x.repeats ++ [(q, e)] } else x } })

/-- For each row named here: when the opcode's own checks (step 10 of Table 5.2) end in a status other than ST_OK and ST_ACCEPTED, the command completes with that status and no payload beyond the two stamps, and its opcode has changed nothing. -/
def Obligations.OpcodeRejectionsChangeNothing : Prop :=
  (∀ (s u w : State) (dt : Nat) (p q : Pkt) (d : Deferred), u = s.elapse dt → q = (p.asRow 0x4000) →
    Safety.admitted u q = some (w, d) → (opSetIncrement q w).status ≠ stOk → (opSetIncrement q w).status ≠ stAccepted →
    exec (.timSetIncrement dt p) s = .next (Safety.done s u (w.setCur none) d (opSetIncrement q w).status [])) ∧
  (∀ (s u w : State) (dt : Nat) (p q : Pkt) (d : Deferred), u = s.elapse dt → q = (p.asRow 0x4001) →
    Safety.admitted u q = some (w, d) → (opStep q w).status ≠ stOk → (opStep q w).status ≠ stAccepted →
    exec (.timStep dt p) s = .next (Safety.done s u (w.setCur none) d (opStep q w).status [])) ∧
  (∀ (s u w : State) (dt : Nat) (p q : Pkt) (d : Deferred), u = s.elapse dt → q = (p.asRow 0x4002) →
    Safety.admitted u q = some (w, d) → (opServoMode q w).status ≠ stOk → (opServoMode q w).status ≠ stAccepted →
    exec (.timServoMode dt p) s = .next (Safety.done s u (w.setCur none) d (opServoMode q w).status [])) ∧
  (∀ (s u w : State) (dt : Nat) (p q : Pkt) (d : Deferred), u = s.elapse dt → q = (p.asRow 0x4010) →
    Safety.admitted u q = some (w, d) → (opRallyWrite q w).status ≠ stOk → (opRallyWrite q w).status ≠ stAccepted →
    exec (.timRallyWrite dt p) s = .next (Safety.done s u (w.setCur none) d (opRallyWrite q w).status [])) ∧
  (∀ (s u w : State) (dt : Nat) (p q : Pkt) (d : Deferred), u = s.elapse dt → q = (p.asRow 0x4020) →
    Safety.admitted u q = some (w, d) → (opTioConfig q w).status ≠ stOk → (opTioConfig q w).status ≠ stAccepted →
    exec (.timTioConfig dt p) s = .next (Safety.done s u (w.setCur none) d (opTioConfig q w).status [])) ∧
  (∀ (s u w : State) (dt : Nat) (p q : Pkt) (d : Deferred), u = s.elapse dt → q = (p.asRow 0x0001) →
    Safety.admitted u q = some (w, d) → (opOpenSession q w).status ≠ stOk → (opOpenSession q w).status ≠ stAccepted →
    exec (.sysOpenSession dt p) s = .next (Safety.done s u (w.setCur none) d (opOpenSession q w).status [])) ∧
  (∀ (s u w : State) (dt : Nat) (p q : Pkt) (d : Deferred), u = s.elapse dt → q = (p.asRow 0x0003) →
    Safety.admitted u q = some (w, d) → (opGetInfo q w).status ≠ stOk → (opGetInfo q w).status ≠ stAccepted →
    exec (.sysGetInfo dt p) s = .next (Safety.done s u (w.setCur none) d (opGetInfo q w).status [])) ∧
  (∀ (s u w : State) (dt : Nat) (p q : Pkt) (d : Deferred), u = s.elapse dt → q = ((p.asRow 0x0010).withSel 0 0) →
    Safety.admitted u q = some (w, d) → (opReset q w).status ≠ stOk → (opReset q w).status ≠ stAccepted →
    exec (.sysReset dt p) s = .next (Safety.done s u (w.setCur none) d (opReset q w).status [])) ∧
  (∀ (s u w : State) (dt : Nat) (p q : Pkt) (d : Deferred), u = s.elapse dt → q = ((p.asRow 0x0010).withSel 0 1) →
    Safety.admitted u q = some (w, d) → (opReset q w).status ≠ stOk → (opReset q w).status ≠ stAccepted →
    exec (.sysResetActivate dt p) s = .next (Safety.done s u (w.setCur none) d (opReset q w).status [])) ∧
  (∀ (s u w : State) (dt : Nat) (p q : Pkt) (d : Deferred), u = s.elapse dt → q = (p.asRow 0x0012) →
    Safety.admitted u q = some (w, d) → (opPwrCycle q w).status ≠ stOk → (opPwrCycle q w).status ≠ stAccepted →
    exec (.sysPwrcycleReq dt p) s = .next (Safety.done s u (w.setCur none) d (opPwrCycle q w).status [])) ∧
  (∀ (s u w : State) (dt : Nat) (p q : Pkt) (d : Deferred), u = s.elapse dt → q = (p.asRow 0x1002) →
    Safety.admitted u q = some (w, d) → (opObjReadBlock q w).status ≠ stOk → (opObjReadBlock q w).status ≠ stAccepted →
    exec (.objReadBlock dt p) s = .next (Safety.done s u (w.setCur none) d (opObjReadBlock q w).status [])) ∧
  (∀ (s u w : State) (dt : Nat) (p q : Pkt) (d : Deferred), u = s.elapse dt → q = (p.asRow 0x1010) →
    Safety.admitted u q = some (w, d) → (opObjSubscribe q w).status ≠ stOk → (opObjSubscribe q w).status ≠ stAccepted →
    exec (.objSubscribe dt p) s = .next (Safety.done s u (w.setCur none) d (opObjSubscribe q w).status [])) ∧
  (∀ (s u w : State) (dt : Nat) (p q : Pkt) (d : Deferred), u = s.elapse dt → q = ((p.asRow 0x1010).withSel 4 0) →
    Safety.admitted u q = some (w, d) → (opObjSubscribe q w).status ≠ stOk → (opObjSubscribe q w).status ≠ stAccepted →
    exec (.objSubscribeCancel dt p) s = .next (Safety.done s u (w.setCur none) d (opObjSubscribe q w).status [])) ∧
  (∀ (s u w : State) (dt : Nat) (p q : Pkt) (d : Deferred), u = s.elapse dt → q = (p.asRow 0x2001) →
    Safety.admitted u q = some (w, d) → (opDrvDisable q w).status ≠ stOk → (opDrvDisable q w).status ≠ stAccepted →
    exec (.drvDisable dt p) s = .next (Safety.done s u (w.setCur none) d (opDrvDisable q w).status [])) ∧
  (∀ (s u w : State) (dt : Nat) (p q : Pkt) (d : Deferred), u = s.elapse dt → q = (p.asRow 0x2021) →
    Safety.admitted u q = some (w, d) → (opDrvStart q w).status ≠ stOk → (opDrvStart q w).status ≠ stAccepted →
    exec (.drvStart dt p) s = .next (Safety.done s u (w.setCur none) d (opDrvStart q w).status [])) ∧
  (∀ (s u w : State) (dt : Nat) (p q : Pkt) (d : Deferred), u = s.elapse dt → q = ((p.asRow 0x2030).withSel 0 0) →
    Safety.admitted u q = some (w, d) → (opDischarge q w).status ≠ stOk → (opDischarge q w).status ≠ stAccepted →
    exec (.drvDischargeWinding dt p) s = .next (Safety.done s u (w.setCur none) d (opDischarge q w).status [])) ∧
  (∀ (s u w : State) (dt : Nat) (p q : Pkt) (d : Deferred), u = s.elapse dt → q = ((p.asRow 0x2030).withSel 0 1) →
    Safety.admitted u q = some (w, d) → (opDischarge q w).status ≠ stOk → (opDischarge q w).status ≠ stAccepted →
    exec (.drvDischargeSwitch dt p) s = .next (Safety.done s u (w.setCur none) d (opDischarge q w).status [])) ∧
  (∀ (s u w : State) (dt : Nat) (p q : Pkt) (d : Deferred), u = s.elapse dt → q = (p.asRow 0x3000) →
    Safety.admitted u q = some (w, d) → (opDefineContext q w).status ≠ stOk → (opDefineContext q w).status ≠ stAccepted →
    exec (.engDefineContext dt p) s = .next (Safety.done s u (w.setCur none) d (opDefineContext q w).status [])) ∧
  (∀ (s u w : State) (dt : Nat) (p q : Pkt) (d : Deferred), u = s.elapse dt → q = ((p.asRow 0x3000).withSel 1 1) →
    Safety.admitted u q = some (w, d) → (opDefineContext q w).status ≠ stOk → (opDefineContext q w).status ≠ stAccepted →
    exec (.engDeleteContext dt p) s = .next (Safety.done s u (w.setCur none) d (opDefineContext q w).status [])) ∧
  (∀ (s u w : State) (dt : Nat) (p q : Pkt) (d : Deferred), u = s.elapse dt → q = (p.asRow 0x3001) →
    Safety.admitted u q = some (w, d) → (opWriteCoef q w).status ≠ stOk → (opWriteCoef q w).status ≠ stAccepted →
    exec (.engWriteCoef dt p) s = .next (Safety.done s u (w.setCur none) d (opWriteCoef q w).status [])) ∧
  (∀ (s u w : State) (dt : Nat) (p q : Pkt) (d : Deferred), u = s.elapse dt → q = (p.asRow 0x3002) →
    Safety.admitted u q = some (w, d) → (opFreeze q w).status ≠ stOk → (opFreeze q w).status ≠ stAccepted →
    exec (.engFreeze dt p) s = .next (Safety.done s u (w.setCur none) d (opFreeze q w).status [])) ∧
  (∀ (s u w : State) (dt : Nat) (p q : Pkt) (d : Deferred), u = s.elapse dt → q = (p.asRow 0x3003) →
    Safety.admitted u q = some (w, d) → (opRelease q w).status ≠ stOk → (opRelease q w).status ≠ stAccepted →
    exec (.engRelease dt p) s = .next (Safety.done s u (w.setCur none) d (opRelease q w).status [])) ∧
  (∀ (s u w : State) (dt : Nat) (p q : Pkt) (d : Deferred), u = s.elapse dt → q = (p.asRow 0x3004) →
    Safety.admitted u q = some (w, d) → (opSeedState q w).status ≠ stOk → (opSeedState q w).status ≠ stAccepted →
    exec (.engSeedState dt p) s = .next (Safety.done s u (w.setCur none) d (opSeedState q w).status [])) ∧
  (∀ (s u w : State) (dt : Nat) (p q : Pkt) (d : Deferred), u = s.elapse dt → q = (p.asRow 0x5000) →
    Safety.admitted u q = some (w, d) → (opCanConfig q w).status ≠ stOk → (opCanConfig q w).status ≠ stAccepted →
    exec (.netCanConfig dt p) s = .next (Safety.done s u (w.setCur none) d (opCanConfig q w).status [])) ∧
  (∀ (s u w : State) (dt : Nat) (p q : Pkt) (d : Deferred), u = s.elapse dt → q = ((p.asRow 0x5001).withSel 6 0) →
    Safety.admitted u q = some (w, d) → (opCanFilter q w).status ≠ stOk → (opCanFilter q w).status ≠ stAccepted →
    exec (.netCanFilter dt p) s = .next (Safety.done s u (w.setCur none) d (opCanFilter q w).status [])) ∧
  (∀ (s u w : State) (dt : Nat) (p q : Pkt) (d : Deferred), u = s.elapse dt → q = ((p.asRow 0x5001).withSel 6 1) →
    Safety.admitted u q = some (w, d) → (opCanFilter q w).status ≠ stOk → (opCanFilter q w).status ≠ stAccepted →
    exec (.netCanFilterRead dt p) s = .next (Safety.done s u (w.setCur none) d (opCanFilter q w).status [])) ∧
  (∀ (s u w : State) (dt : Nat) (p q : Pkt) (d : Deferred), u = s.elapse dt → q = (p.asRow 0x5002) →
    Safety.admitted u q = some (w, d) → (opCanTx q w).status ≠ stOk → (opCanTx q w).status ≠ stAccepted →
    exec (.netCanTx dt p) s = .next (Safety.done s u (w.setCur none) d (opCanTx q w).status [])) ∧
  (∀ (s u w : State) (dt : Nat) (p q : Pkt) (d : Deferred), u = s.elapse dt → q = (p.asRow 0x5003) →
    Safety.admitted u q = some (w, d) → (opCanCancel q w).status ≠ stOk → (opCanCancel q w).status ≠ stAccepted →
    exec (.netCanCancel dt p) s = .next (Safety.done s u (w.setCur none) d (opCanCancel q w).status [])) ∧
  (∀ (s u w : State) (dt : Nat) (p q : Pkt) (d : Deferred), u = s.elapse dt → q = (p.asRow 0x5004) →
    Safety.admitted u q = some (w, d) → (opCanAck q w).status ≠ stOk → (opCanAck q w).status ≠ stAccepted →
    exec (.netCanAck dt p) s = .next (Safety.done s u (w.setCur none) d (opCanAck q w).status [])) ∧
  (∀ (s u w : State) (dt : Nat) (p q : Pkt) (d : Deferred), u = s.elapse dt → q = (p.asRow 0x5010) →
    Safety.admitted u q = some (w, d) → (opEthConfig q w).status ≠ stOk → (opEthConfig q w).status ≠ stAccepted →
    exec (.netEthConfig dt p) s = .next (Safety.doneT s (w.setCur none) d (opEthConfig q w).status [])) ∧
  (∀ (s u w : State) (dt : Nat) (p q : Pkt) (d : Deferred), u = s.elapse dt → q = (p.asRow 0x6002) →
    Safety.admitted u q = some (w, d) → (opSafLogRead q w).status ≠ stOk → (opSafLogRead q w).status ≠ stAccepted →
    exec (.safLogRead dt p) s = .next (Safety.done s u (w.setCur none) d (opSafLogRead q w).status [])) ∧
  (∀ (s u w : State) (dt : Nat) (p q : Pkt) (d : Deferred), u = s.elapse dt → q = ((p.asRow 0x7000).withSel 0 0) →
    Safety.admitted u q = some (w, d) → (opIngotBegin q w).status ≠ stOk → (opIngotBegin q w).status ≠ stAccepted →
    exec (.mgtIngotBegin dt p) s = .next (Safety.done s u (w.setCur none) d (opIngotBegin q w).status [])) ∧
  (∀ (s u w : State) (dt : Nat) (p q : Pkt) (d : Deferred), u = s.elapse dt → q = ((p.asRow 0x7000).withSel 0 1) →
    Safety.admitted u q = some (w, d) → (opIngotBegin q w).status ≠ stOk → (opIngotBegin q w).status ≠ stAccepted →
    exec (.mgtIngotBeginConfig dt p) s = .next (Safety.done s u (w.setCur none) d (opIngotBegin q w).status [])) ∧
  (∀ (s u w : State) (dt : Nat) (p q : Pkt) (d : Deferred), u = s.elapse dt → q = (p.asRow 0x7001) →
    Safety.admitted u q = some (w, d) → (opIngotData q w).status ≠ stOk → (opIngotData q w).status ≠ stAccepted →
    exec (.mgtIngotData dt p) s = .next (Safety.done s u (w.setCur none) d (opIngotData q w).status [])) ∧
  (∀ (s u w : State) (dt : Nat) (p q : Pkt) (d : Deferred), u = s.elapse dt → q = (p.asRow 0x7003) →
    Safety.admitted u q = some (w, d) → (opActivate q w).status ≠ stOk → (opActivate q w).status ≠ stAccepted →
    exec (.mgtActivate dt p) s = .next (Safety.done s u (w.setCur none) d (opActivate q w).status [])) ∧
  (∀ (s u w : State) (dt : Nat) (p q : Pkt) (d : Deferred), u = s.elapse dt → q = (p.asRow 0x7010) →
    Safety.admitted u q = some (w, d) → (opAttest q w).status ≠ stOk → (opAttest q w).status ≠ stAccepted →
    exec (.mgtAttest dt p) s = .next (Safety.done s u (w.setCur none) d (opAttest q w).status [])) ∧
  (∀ (s u w : State) (dt : Nat) (p q : Pkt) (d : Deferred), u = s.elapse dt → q = (p.asRow 0x7020) →
    Safety.admitted u q = some (w, d) → (opLogRead q w).status ≠ stOk → (opLogRead q w).status ≠ stAccepted →
    exec (.mgtLogRead dt p) s = .next (Safety.done s u (w.setCur none) d (opLogRead q w).status [])) ∧
  (∀ (s u w : State) (dt : Nat) (p q : Pkt) (d : Deferred), u = s.elapse dt → q = (p.asRow 0x8000) →
    Safety.admitted u q = some (w, d) → (opBistRun q w).status ≠ stOk → (opBistRun q w).status ≠ stAccepted →
    exec (.diaBistRun dt p) s = .next (Safety.done s u (w.setCur none) d (opBistRun q w).status [])) ∧
  (∀ (s u w : State) (dt : Nat) (p q : Pkt) (d : Deferred), u = s.elapse dt → q = (p.asRow 0x8001) →
    Safety.admitted u q = some (w, d) → (opBistResult q w).status ≠ stOk → (opBistResult q w).status ≠ stAccepted →
    exec (.diaBistResult dt p) s = .next (Safety.done s u (w.setCur none) d (opBistResult q w).status [])) ∧
  (∀ (s u w : State) (dt : Nat) (p q : Pkt) (d : Deferred), u = s.elapse dt → q = ((p.asRow 0x8010).withSel 0 0) →
    Safety.admitted u q = some (w, d) → (opTrace q w).status ≠ stOk → (opTrace q w).status ≠ stAccepted →
    exec (.diaTraceStop dt p) s = .next (Safety.done s u (w.setCur none) d (opTrace q w).status [])) ∧
  (∀ (s u w : State) (dt : Nat) (p q : Pkt) (d : Deferred), u = s.elapse dt → q = ((p.asRow 0x8010).withSel 0 1) →
    Safety.admitted u q = some (w, d) → (opTrace q w).status ≠ stOk → (opTrace q w).status ≠ stAccepted →
    exec (.diaTraceStartRing dt p) s = .next (Safety.done s u (w.setCur none) d (opTrace q w).status [])) ∧
  (∀ (s u w : State) (dt : Nat) (p q : Pkt) (d : Deferred), u = s.elapse dt → q = ((p.asRow 0x8010).withSel 0 2) →
    Safety.admitted u q = some (w, d) → (opTrace q w).status ≠ stOk → (opTrace q w).status ≠ stAccepted →
    exec (.diaTraceStartOnce dt p) s = .next (Safety.done s u (w.setCur none) d (opTrace q w).status [])) ∧
  (∀ (s u w : State) (dt : Nat) (p q : Pkt) (d : Deferred), u = s.elapse dt → q = (p.asRow 0x9000) →
    Safety.admitted u q = some (w, d) → (opFlkConfig q w).status ≠ stOk → (opFlkConfig q w).status ≠ stAccepted →
    exec (.flkConfig dt p) s = .next (Safety.done s u (w.setCur none) d (opFlkConfig q w).status [])) ∧
  (∀ (s u w : State) (dt : Nat) (p q : Pkt) (d : Deferred), u = s.elapse dt → q = (p.asRow 0x9001) →
    Safety.admitted u q = some (w, d) → (opHandover q w).status ≠ stOk → (opHandover q w).status ≠ stAccepted →
    exec (.flkHandover dt p) s = .next (Safety.done s u (w.setCur none) d (opHandover q w).status []))

/-- The end of a conversion: a level above full scale gives code 0xFFF with OVR, one below zero gives code 0 with OVR, and every other level gives its own code without OVR, the two end codes included. An OVR result sets the sticky OVR flag of AUX_STAT_u, any other leaves the flag. Outside a Flask the value written is the code with the correction, gain and offset of its channel. -/
def Obligations.AuxResultsAtTheEndsOfTheRange : Prop :=
  ∀ (s u : State) (dt : Nat) (k : Fin 4) (c : AuxConv) (x : Stamp) (level : Int) (corr own : F32) (code : Nat) (ovr : Bool), u = s.elapse dt →
    (u.auxU k.val).conv = some c → c.sampled = some (x, level, corr) → c.start + c.fullLen ≤ u.clk →
    own = (if (bget {} u.dict.info (Obj.AUX_REF_CORR + k.val)).stamp ≤ x then u.objF (Obj.AUX_REF_CORR + k.val) else corr) →
    (code, ovr) = (if level > 0xFFF then (0xFFF, true) else if level < 0 then (0x000, true) else (level.toNat, false)) →
    ∃ t, exec (.auxConversionEnd dt k) s = .next t ∧ (t.auxU k.val).settle = ovr ∧
      bit (t.obj (Obj.AUX_STAT + k.val)) 1 = (ovr || bit (u.obj (Obj.AUX_STAT + k.val)) 1) ∧
      (u.inFlask = false → c.chan < 8 →
        t.obj (Obj.AUX_VALUE + (8 * k.val + c.chan)) =
          (fAddS (fMulS (BitVec.ofNat 32 (bits (u.obj (Obj.AUX_CH_SCALE + (8 * k.val + c.chan))) 63 32)) (fMulS (f32OfInt code) own))
            (BitVec.ofNat 32 (bits (u.obj (Obj.AUX_CH_SCALE + (8 * k.val + c.chan))) 31 0))).toNat)

/-- The ENC_LATCH action of a rally entry, on an interface that the slice of the entry owns: ENC_LATCH_n takes the occurrence stamp, the raw count at that stamp (transitions stamped at or before it are in, log entry 29) or SSI position, and the next latch sequence in the layout of Table 8.6. In SSI mode it also starts a frame whose sample stamp is the occurrence stamp, unless a frame runs or the monoflop time has not passed, which sets SSI_BUSY. -/
def Obligations.EncoderLatchAction : Prop :=
  ∀ (s t : State) (k e n : Nat) (x : Stamp) (waits : Bool), rAction (s.rallyV k e) = 2 → n = rArg (s.rallyV k e) → n < 8 → s.encOn n = true →
    s.fenced (16 + n) = false → s.encOwner n = k →
    waits = ((s.encU n).frameStart.isSome || match (s.encU n).monoEnd with
      | some m => !(s.encU n).b || decide (x - s.tl.steps ≤ m)
      | none => false) →
    t = s.rallyAct k e x →
    t.obj (Obj.ENC_LATCH + n) = x % 2 ^ 64 + unsgn 32 (s.encLatched n x).raw * 2 ^ 64 + ((s.encU n).latchSeq + 1) % 2 ^ 32 * 2 ^ 96 ∧
    (t.encU n).latchSeq = (s.encU n).latchSeq + 1 ∧ (t.encU n).raw = (s.encU n).raw ∧
    (s.encMode n ≠ 2 → (t.encU n).frameStart = (s.encU n).frameStart) ∧
    (s.encMode n = 2 → waits = false → (t.encU n).frameStart = some x ∧ (t.encU n).frameTick = s.tick) ∧
    (s.encMode n = 2 → waits = true → (t.encU n).frameStart = (s.encU n).frameStart ∧ bit (t.obj (Obj.ENC_STAT + n)) 10 = true)

/-- An illegal transition, in QUAD mode (both levels change) or in HALL mode (an unassigned state, or two levels change): the 16 latest stamps are kept, newest first, and the encoder faults exactly when this transition is the 16th and its stamp is at most 10 ms after that of the transition 15 before it. -/
def Obligations.SixteenthIllegalTransitionFaults : Prop :=
  ∀ (s u : State) (dt : Nat) (c : Instr) (n : Fin 8) (e : Enc) (l : List Stamp), u = s.elapse dt → e = u.encU n.val → u.encOn n.val = true →
    ((∃ a b, c = .encQuadTransition dt n a b ∧ u.encMode n.val = 0 ∧ e.a ≠ a ∧ e.b ≠ b) ∨
      (∃ h, c = .encHallTransition dt n h ∧ u.encMode n.val = 1 ∧ h.val ≠ e.hall ∧
        (hallSector h.val = none ∨ 2 ≤ popcount3 (h.val ^^^ e.hall)))) →
    l = u.filtStamp n.val :: e.illegal →
    ∃ t, exec c s = .next t ∧ (t.encU n.val).illegal = l.take 16 ∧
      (t.encU n.val).fault = (e.fault || match l[15]? with
        | some f => decide (u.filtStamp n.val ≤ f + 10 * msUnits)
        | none => false)

/-- A main rail that crosses a trip while the device runs: every ball but PWRCYC_REQ_N and the OSPI balls, which the Management Unit drives on, is then in its in-reset state of Table 2.3, or in its unpowered state where its own rail is the one that fell (log entry 54 says when a rail counts as off). By name: gate link outputs, hold lines, SPI_MISO and DBG_TDO are in high impedance, no CAN_TX drives dominant, MCLK_OUT and SAFE_OUT_N drive low if powered, and the ring by-pass is closed. -/
def Obligations.ASupplyFaultPutsTheBallsInReset : Prop :=
  ∀ (s u : State) (dt : Nat) (rail : Fin 5) (high : Bool), u = s.elapse dt → u.mu.phase.up = true →
    ∃ t, exec (.supplyFault dt rail high) s = .next t ∧
      (∀ b, b ≠ .pwrcycReq → b ≠ .ospi → t.ball b = table23 b (if t.railOff b.rail = true then .unpowered else .inReset)) ∧
      (∀ l, t.ball (.glTx l) = .highZ) ∧ (∀ h, t.ball (.hold h) = .highZ) ∧ t.ball .spiMiso = .highZ ∧ t.ball .dbgTdo = .highZ ∧
      (∀ c, t.ball (.canTx c) = .high ∨ (t.railOff 3 = true ∧ t.ball (.canTx c) = .highZ)) ∧
      (∀ g, t.ball (.mclkOut g) = .low ∨ (t.railOff 3 = true ∧ t.ball (.mclkOut g) = .highZ)) ∧
      (t.ball .safeOut = .low ∨ (t.railOff 3 = true ∧ t.ball .safeOut = .highZ)) ∧ t.ball .ringPort = .bypassClosed ∧
      (t.ball .pcie = .linkDown ∨ (t.railOff 1 = true ∧ t.ball .pcie = .unpoweredEndpoint))
end

