-- ==== Sys2Proof/Laws/State.lean ====
section
/-!
SUPPORT. One lemma per field per update: what each of the small updates of State leaves as it was, and what it sets. Each
is true by unfolding, so that no later proof unfolds a record update.
-/

namespace Sys2Proof.Machine

variable (s : State)

/-! `State.setObjBy` -/

@[simp] theorem State.setObjBy_pending (o i v : Nat) : (s.setObjBy o i v).pending = s.pending := (rfl)
@[simp] theorem State.setObjBy_time (o i v : Nat) : (s.setObjBy o i v).time = s.time := (rfl)
@[simp] theorem State.setObjBy_tick (o i v : Nat) : (s.setObjBy o i v).tick = s.tick := (rfl)
@[simp] theorem State.setObjBy_free (o i v : Nat) : (s.setObjBy o i v).free = s.free := (rfl)
@[simp] theorem State.setObjBy_tl (o i v : Nat) : (s.setObjBy o i v).tl = s.tl := (rfl)
@[simp] theorem State.setObjBy_mu (o i v : Nat) : (s.setObjBy o i v).mu = s.mu := (rfl)
@[simp] theorem State.setObjBy_hk (o i v : Nat) : (s.setObjBy o i v).hk = s.hk := (rfl)
@[simp] theorem State.setObjBy_log (o i v : Nat) : (s.setObjBy o i v).log = s.log := (rfl)
@[simp] theorem State.setObjBy_seqs (o i v : Nat) : (s.setObjBy o i v).seqs = s.seqs := (rfl)
@[simp] theorem State.setObjBy_host (o i v : Nat) : (s.setObjBy o i v).host = s.host := (rfl)
@[simp] theorem State.setObjBy_mclk (o i v : Nat) : (s.setObjBy o i v).mclk = s.mclk := (rfl)
@[simp] theorem State.setObjBy_sd (o i v : Nat) : (s.setObjBy o i v).sd = s.sd := (rfl)
@[simp] theorem State.setObjBy_aux (o i v : Nat) : (s.setObjBy o i v).aux = s.aux := (rfl)
@[simp] theorem State.setObjBy_enc (o i v : Nat) : (s.setObjBy o i v).enc = s.enc := (rfl)
@[simp] theorem State.setObjBy_eng (o i v : Nat) : (s.setObjBy o i v).eng = s.eng := (rfl)
@[simp] theorem State.setObjBy_slices (o i v : Nat) : (s.setObjBy o i v).slices = s.slices := (rfl)
@[simp] theorem State.setObjBy_gl (o i v : Nat) : (s.setObjBy o i v).gl = s.gl := (rfl)
@[simp] theorem State.setObjBy_ref (o i v : Nat) : (s.setObjBy o i v).ref = s.ref := (rfl)
@[simp] theorem State.setObjBy_cp (o i v : Nat) : (s.setObjBy o i v).cp = s.cp := (rfl)
@[simp] theorem State.setObjBy_flk (o i v : Nat) : (s.setObjBy o i v).flk = s.flk := (rfl)
@[simp] theorem State.setObjBy_ring (o i v : Nat) : (s.setObjBy o i v).ring = s.ring := (rfl)
@[simp] theorem State.setObjBy_can (o i v : Nat) : (s.setObjBy o i v).can = s.can := (rfl)
@[simp] theorem State.setObjBy_canPub (o i v : Nat) : (s.setObjBy o i v).canPub = s.canPub := (rfl)
@[simp] theorem State.setObjBy_eth (o i v : Nat) : (s.setObjBy o i v).eth = s.eth := (rfl)
@[simp] theorem State.setObjBy_tio (o i v : Nat) : (s.setObjBy o i v).tio = s.tio := (rfl)
@[simp] theorem State.setObjBy_dia (o i v : Nat) : (s.setObjBy o i v).dia = s.dia := (rfl)

/-! `State.setObj` -/

@[simp] theorem State.setObj_pending (i v : Nat) : (s.setObj i v).pending = s.pending := (rfl)
@[simp] theorem State.setObj_time (i v : Nat) : (s.setObj i v).time = s.time := (rfl)
@[simp] theorem State.setObj_tick (i v : Nat) : (s.setObj i v).tick = s.tick := (rfl)
@[simp] theorem State.setObj_free (i v : Nat) : (s.setObj i v).free = s.free := (rfl)
@[simp] theorem State.setObj_tl (i v : Nat) : (s.setObj i v).tl = s.tl := (rfl)
@[simp] theorem State.setObj_mu (i v : Nat) : (s.setObj i v).mu = s.mu := (rfl)
@[simp] theorem State.setObj_hk (i v : Nat) : (s.setObj i v).hk = s.hk := (rfl)
@[simp] theorem State.setObj_log (i v : Nat) : (s.setObj i v).log = s.log := (rfl)
@[simp] theorem State.setObj_seqs (i v : Nat) : (s.setObj i v).seqs = s.seqs := (rfl)
@[simp] theorem State.setObj_host (i v : Nat) : (s.setObj i v).host = s.host := (rfl)
@[simp] theorem State.setObj_mclk (i v : Nat) : (s.setObj i v).mclk = s.mclk := (rfl)
@[simp] theorem State.setObj_sd (i v : Nat) : (s.setObj i v).sd = s.sd := (rfl)
@[simp] theorem State.setObj_aux (i v : Nat) : (s.setObj i v).aux = s.aux := (rfl)
@[simp] theorem State.setObj_enc (i v : Nat) : (s.setObj i v).enc = s.enc := (rfl)
@[simp] theorem State.setObj_eng (i v : Nat) : (s.setObj i v).eng = s.eng := (rfl)
@[simp] theorem State.setObj_slices (i v : Nat) : (s.setObj i v).slices = s.slices := (rfl)
@[simp] theorem State.setObj_gl (i v : Nat) : (s.setObj i v).gl = s.gl := (rfl)
@[simp] theorem State.setObj_ref (i v : Nat) : (s.setObj i v).ref = s.ref := (rfl)
@[simp] theorem State.setObj_cp (i v : Nat) : (s.setObj i v).cp = s.cp := (rfl)
@[simp] theorem State.setObj_flk (i v : Nat) : (s.setObj i v).flk = s.flk := (rfl)
@[simp] theorem State.setObj_ring (i v : Nat) : (s.setObj i v).ring = s.ring := (rfl)
@[simp] theorem State.setObj_can (i v : Nat) : (s.setObj i v).can = s.can := (rfl)
@[simp] theorem State.setObj_canPub (i v : Nat) : (s.setObj i v).canPub = s.canPub := (rfl)
@[simp] theorem State.setObj_eth (i v : Nat) : (s.setObj i v).eth = s.eth := (rfl)
@[simp] theorem State.setObj_tio (i v : Nat) : (s.setObj i v).tio = s.tio := (rfl)
@[simp] theorem State.setObj_dia (i v : Nat) : (s.setObj i v).dia = s.dia := (rfl)

/-! `State.setObjF` -/

@[simp] theorem State.setObjF_pending (i : Nat) (v : F32) : (s.setObjF i v).pending = s.pending := (rfl)
@[simp] theorem State.setObjF_time (i : Nat) (v : F32) : (s.setObjF i v).time = s.time := (rfl)
@[simp] theorem State.setObjF_tick (i : Nat) (v : F32) : (s.setObjF i v).tick = s.tick := (rfl)
@[simp] theorem State.setObjF_free (i : Nat) (v : F32) : (s.setObjF i v).free = s.free := (rfl)
@[simp] theorem State.setObjF_tl (i : Nat) (v : F32) : (s.setObjF i v).tl = s.tl := (rfl)
@[simp] theorem State.setObjF_mu (i : Nat) (v : F32) : (s.setObjF i v).mu = s.mu := (rfl)
@[simp] theorem State.setObjF_hk (i : Nat) (v : F32) : (s.setObjF i v).hk = s.hk := (rfl)
@[simp] theorem State.setObjF_log (i : Nat) (v : F32) : (s.setObjF i v).log = s.log := (rfl)
@[simp] theorem State.setObjF_seqs (i : Nat) (v : F32) : (s.setObjF i v).seqs = s.seqs := (rfl)
@[simp] theorem State.setObjF_host (i : Nat) (v : F32) : (s.setObjF i v).host = s.host := (rfl)
@[simp] theorem State.setObjF_mclk (i : Nat) (v : F32) : (s.setObjF i v).mclk = s.mclk := (rfl)
@[simp] theorem State.setObjF_sd (i : Nat) (v : F32) : (s.setObjF i v).sd = s.sd := (rfl)
@[simp] theorem State.setObjF_aux (i : Nat) (v : F32) : (s.setObjF i v).aux = s.aux := (rfl)
@[simp] theorem State.setObjF_enc (i : Nat) (v : F32) : (s.setObjF i v).enc = s.enc := (rfl)
@[simp] theorem State.setObjF_eng (i : Nat) (v : F32) : (s.setObjF i v).eng = s.eng := (rfl)
@[simp] theorem State.setObjF_slices (i : Nat) (v : F32) : (s.setObjF i v).slices = s.slices := (rfl)
@[simp] theorem State.setObjF_gl (i : Nat) (v : F32) : (s.setObjF i v).gl = s.gl := (rfl)
@[simp] theorem State.setObjF_ref (i : Nat) (v : F32) : (s.setObjF i v).ref = s.ref := (rfl)
@[simp] theorem State.setObjF_cp (i : Nat) (v : F32) : (s.setObjF i v).cp = s.cp := (rfl)
@[simp] theorem State.setObjF_flk (i : Nat) (v : F32) : (s.setObjF i v).flk = s.flk := (rfl)
@[simp] theorem State.setObjF_ring (i : Nat) (v : F32) : (s.setObjF i v).ring = s.ring := (rfl)
@[simp] theorem State.setObjF_can (i : Nat) (v : F32) : (s.setObjF i v).can = s.can := (rfl)
@[simp] theorem State.setObjF_canPub (i : Nat) (v : F32) : (s.setObjF i v).canPub = s.canPub := (rfl)
@[simp] theorem State.setObjF_eth (i : Nat) (v : F32) : (s.setObjF i v).eth = s.eth := (rfl)
@[simp] theorem State.setObjF_tio (i : Nat) (v : F32) : (s.setObjF i v).tio = s.tio := (rfl)
@[simp] theorem State.setObjF_dia (i : Nat) (v : F32) : (s.setObjF i v).dia = s.dia := (rfl)

/-! `State.setFlag` -/

@[simp] theorem State.setFlag_pending (i m : Nat) : (s.setFlag i m).pending = s.pending := (rfl)
@[simp] theorem State.setFlag_time (i m : Nat) : (s.setFlag i m).time = s.time := (rfl)
@[simp] theorem State.setFlag_tick (i m : Nat) : (s.setFlag i m).tick = s.tick := (rfl)
@[simp] theorem State.setFlag_free (i m : Nat) : (s.setFlag i m).free = s.free := (rfl)
@[simp] theorem State.setFlag_tl (i m : Nat) : (s.setFlag i m).tl = s.tl := (rfl)
@[simp] theorem State.setFlag_mu (i m : Nat) : (s.setFlag i m).mu = s.mu := (rfl)
@[simp] theorem State.setFlag_hk (i m : Nat) : (s.setFlag i m).hk = s.hk := (rfl)
@[simp] theorem State.setFlag_log (i m : Nat) : (s.setFlag i m).log = s.log := (rfl)
@[simp] theorem State.setFlag_seqs (i m : Nat) : (s.setFlag i m).seqs = s.seqs := (rfl)
@[simp] theorem State.setFlag_host (i m : Nat) : (s.setFlag i m).host = s.host := (rfl)
@[simp] theorem State.setFlag_mclk (i m : Nat) : (s.setFlag i m).mclk = s.mclk := (rfl)
@[simp] theorem State.setFlag_sd (i m : Nat) : (s.setFlag i m).sd = s.sd := (rfl)
@[simp] theorem State.setFlag_aux (i m : Nat) : (s.setFlag i m).aux = s.aux := (rfl)
@[simp] theorem State.setFlag_enc (i m : Nat) : (s.setFlag i m).enc = s.enc := (rfl)
@[simp] theorem State.setFlag_eng (i m : Nat) : (s.setFlag i m).eng = s.eng := (rfl)
@[simp] theorem State.setFlag_slices (i m : Nat) : (s.setFlag i m).slices = s.slices := (rfl)
@[simp] theorem State.setFlag_gl (i m : Nat) : (s.setFlag i m).gl = s.gl := (rfl)
@[simp] theorem State.setFlag_ref (i m : Nat) : (s.setFlag i m).ref = s.ref := (rfl)
@[simp] theorem State.setFlag_cp (i m : Nat) : (s.setFlag i m).cp = s.cp := (rfl)
@[simp] theorem State.setFlag_flk (i m : Nat) : (s.setFlag i m).flk = s.flk := (rfl)
@[simp] theorem State.setFlag_ring (i m : Nat) : (s.setFlag i m).ring = s.ring := (rfl)
@[simp] theorem State.setFlag_can (i m : Nat) : (s.setFlag i m).can = s.can := (rfl)
@[simp] theorem State.setFlag_canPub (i m : Nat) : (s.setFlag i m).canPub = s.canPub := (rfl)
@[simp] theorem State.setFlag_eth (i m : Nat) : (s.setFlag i m).eth = s.eth := (rfl)
@[simp] theorem State.setFlag_tio (i m : Nat) : (s.setFlag i m).tio = s.tio := (rfl)
@[simp] theorem State.setFlag_dia (i m : Nat) : (s.setFlag i m).dia = s.dia := (rfl)

/-! `State.clrFlag` -/

@[simp] theorem State.clrFlag_pending (i m : Nat) : (s.clrFlag i m).pending = s.pending := (rfl)
@[simp] theorem State.clrFlag_time (i m : Nat) : (s.clrFlag i m).time = s.time := (rfl)
@[simp] theorem State.clrFlag_tick (i m : Nat) : (s.clrFlag i m).tick = s.tick := (rfl)
@[simp] theorem State.clrFlag_free (i m : Nat) : (s.clrFlag i m).free = s.free := (rfl)
@[simp] theorem State.clrFlag_tl (i m : Nat) : (s.clrFlag i m).tl = s.tl := (rfl)
@[simp] theorem State.clrFlag_mu (i m : Nat) : (s.clrFlag i m).mu = s.mu := (rfl)
@[simp] theorem State.clrFlag_hk (i m : Nat) : (s.clrFlag i m).hk = s.hk := (rfl)
@[simp] theorem State.clrFlag_log (i m : Nat) : (s.clrFlag i m).log = s.log := (rfl)
@[simp] theorem State.clrFlag_seqs (i m : Nat) : (s.clrFlag i m).seqs = s.seqs := (rfl)
@[simp] theorem State.clrFlag_host (i m : Nat) : (s.clrFlag i m).host = s.host := (rfl)
@[simp] theorem State.clrFlag_mclk (i m : Nat) : (s.clrFlag i m).mclk = s.mclk := (rfl)
@[simp] theorem State.clrFlag_sd (i m : Nat) : (s.clrFlag i m).sd = s.sd := (rfl)
@[simp] theorem State.clrFlag_aux (i m : Nat) : (s.clrFlag i m).aux = s.aux := (rfl)
@[simp] theorem State.clrFlag_enc (i m : Nat) : (s.clrFlag i m).enc = s.enc := (rfl)
@[simp] theorem State.clrFlag_eng (i m : Nat) : (s.clrFlag i m).eng = s.eng := (rfl)
@[simp] theorem State.clrFlag_slices (i m : Nat) : (s.clrFlag i m).slices = s.slices := (rfl)
@[simp] theorem State.clrFlag_gl (i m : Nat) : (s.clrFlag i m).gl = s.gl := (rfl)
@[simp] theorem State.clrFlag_ref (i m : Nat) : (s.clrFlag i m).ref = s.ref := (rfl)
@[simp] theorem State.clrFlag_cp (i m : Nat) : (s.clrFlag i m).cp = s.cp := (rfl)
@[simp] theorem State.clrFlag_flk (i m : Nat) : (s.clrFlag i m).flk = s.flk := (rfl)
@[simp] theorem State.clrFlag_ring (i m : Nat) : (s.clrFlag i m).ring = s.ring := (rfl)
@[simp] theorem State.clrFlag_can (i m : Nat) : (s.clrFlag i m).can = s.can := (rfl)
@[simp] theorem State.clrFlag_canPub (i m : Nat) : (s.clrFlag i m).canPub = s.canPub := (rfl)
@[simp] theorem State.clrFlag_eth (i m : Nat) : (s.clrFlag i m).eth = s.eth := (rfl)
@[simp] theorem State.clrFlag_tio (i m : Nat) : (s.clrFlag i m).tio = s.tio := (rfl)
@[simp] theorem State.clrFlag_dia (i m : Nat) : (s.clrFlag i m).dia = s.dia := (rfl)

/-! `State.setField` -/

@[simp] theorem State.setField_pending (i h l x : Nat) : (s.setField i h l x).pending = s.pending := (rfl)
@[simp] theorem State.setField_time (i h l x : Nat) : (s.setField i h l x).time = s.time := (rfl)
@[simp] theorem State.setField_tick (i h l x : Nat) : (s.setField i h l x).tick = s.tick := (rfl)
@[simp] theorem State.setField_free (i h l x : Nat) : (s.setField i h l x).free = s.free := (rfl)
@[simp] theorem State.setField_tl (i h l x : Nat) : (s.setField i h l x).tl = s.tl := (rfl)
@[simp] theorem State.setField_mu (i h l x : Nat) : (s.setField i h l x).mu = s.mu := (rfl)
@[simp] theorem State.setField_hk (i h l x : Nat) : (s.setField i h l x).hk = s.hk := (rfl)
@[simp] theorem State.setField_log (i h l x : Nat) : (s.setField i h l x).log = s.log := (rfl)
@[simp] theorem State.setField_seqs (i h l x : Nat) : (s.setField i h l x).seqs = s.seqs := (rfl)
@[simp] theorem State.setField_host (i h l x : Nat) : (s.setField i h l x).host = s.host := (rfl)
@[simp] theorem State.setField_mclk (i h l x : Nat) : (s.setField i h l x).mclk = s.mclk := (rfl)
@[simp] theorem State.setField_sd (i h l x : Nat) : (s.setField i h l x).sd = s.sd := (rfl)
@[simp] theorem State.setField_aux (i h l x : Nat) : (s.setField i h l x).aux = s.aux := (rfl)
@[simp] theorem State.setField_enc (i h l x : Nat) : (s.setField i h l x).enc = s.enc := (rfl)
@[simp] theorem State.setField_eng (i h l x : Nat) : (s.setField i h l x).eng = s.eng := (rfl)
@[simp] theorem State.setField_slices (i h l x : Nat) : (s.setField i h l x).slices = s.slices := (rfl)
@[simp] theorem State.setField_gl (i h l x : Nat) : (s.setField i h l x).gl = s.gl := (rfl)
@[simp] theorem State.setField_ref (i h l x : Nat) : (s.setField i h l x).ref = s.ref := (rfl)
@[simp] theorem State.setField_cp (i h l x : Nat) : (s.setField i h l x).cp = s.cp := (rfl)
@[simp] theorem State.setField_flk (i h l x : Nat) : (s.setField i h l x).flk = s.flk := (rfl)
@[simp] theorem State.setField_ring (i h l x : Nat) : (s.setField i h l x).ring = s.ring := (rfl)
@[simp] theorem State.setField_can (i h l x : Nat) : (s.setField i h l x).can = s.can := (rfl)
@[simp] theorem State.setField_canPub (i h l x : Nat) : (s.setField i h l x).canPub = s.canPub := (rfl)
@[simp] theorem State.setField_eth (i h l x : Nat) : (s.setField i h l x).eth = s.eth := (rfl)
@[simp] theorem State.setField_tio (i h l x : Nat) : (s.setField i h l x).tio = s.tio := (rfl)
@[simp] theorem State.setField_dia (i h l x : Nat) : (s.setField i h l x).dia = s.dia := (rfl)

/-! `State.putFlag` -/

@[simp] theorem State.putFlag_pending (i k : Nat) (b : Bool) : (s.putFlag i k b).pending = s.pending := by cases b <;> rfl
@[simp] theorem State.putFlag_time (i k : Nat) (b : Bool) : (s.putFlag i k b).time = s.time := by cases b <;> rfl
@[simp] theorem State.putFlag_tick (i k : Nat) (b : Bool) : (s.putFlag i k b).tick = s.tick := by cases b <;> rfl
@[simp] theorem State.putFlag_free (i k : Nat) (b : Bool) : (s.putFlag i k b).free = s.free := by cases b <;> rfl
@[simp] theorem State.putFlag_tl (i k : Nat) (b : Bool) : (s.putFlag i k b).tl = s.tl := by cases b <;> rfl
@[simp] theorem State.putFlag_mu (i k : Nat) (b : Bool) : (s.putFlag i k b).mu = s.mu := by cases b <;> rfl
@[simp] theorem State.putFlag_hk (i k : Nat) (b : Bool) : (s.putFlag i k b).hk = s.hk := by cases b <;> rfl
@[simp] theorem State.putFlag_log (i k : Nat) (b : Bool) : (s.putFlag i k b).log = s.log := by cases b <;> rfl
@[simp] theorem State.putFlag_seqs (i k : Nat) (b : Bool) : (s.putFlag i k b).seqs = s.seqs := by cases b <;> rfl
@[simp] theorem State.putFlag_host (i k : Nat) (b : Bool) : (s.putFlag i k b).host = s.host := by cases b <;> rfl
@[simp] theorem State.putFlag_mclk (i k : Nat) (b : Bool) : (s.putFlag i k b).mclk = s.mclk := by cases b <;> rfl
@[simp] theorem State.putFlag_sd (i k : Nat) (b : Bool) : (s.putFlag i k b).sd = s.sd := by cases b <;> rfl
@[simp] theorem State.putFlag_aux (i k : Nat) (b : Bool) : (s.putFlag i k b).aux = s.aux := by cases b <;> rfl
@[simp] theorem State.putFlag_enc (i k : Nat) (b : Bool) : (s.putFlag i k b).enc = s.enc := by cases b <;> rfl
@[simp] theorem State.putFlag_eng (i k : Nat) (b : Bool) : (s.putFlag i k b).eng = s.eng := by cases b <;> rfl
@[simp] theorem State.putFlag_slices (i k : Nat) (b : Bool) : (s.putFlag i k b).slices = s.slices := by cases b <;> rfl
@[simp] theorem State.putFlag_gl (i k : Nat) (b : Bool) : (s.putFlag i k b).gl = s.gl := by cases b <;> rfl
@[simp] theorem State.putFlag_ref (i k : Nat) (b : Bool) : (s.putFlag i k b).ref = s.ref := by cases b <;> rfl
@[simp] theorem State.putFlag_cp (i k : Nat) (b : Bool) : (s.putFlag i k b).cp = s.cp := by cases b <;> rfl
@[simp] theorem State.putFlag_flk (i k : Nat) (b : Bool) : (s.putFlag i k b).flk = s.flk := by cases b <;> rfl
@[simp] theorem State.putFlag_ring (i k : Nat) (b : Bool) : (s.putFlag i k b).ring = s.ring := by cases b <;> rfl
@[simp] theorem State.putFlag_can (i k : Nat) (b : Bool) : (s.putFlag i k b).can = s.can := by cases b <;> rfl
@[simp] theorem State.putFlag_canPub (i k : Nat) (b : Bool) : (s.putFlag i k b).canPub = s.canPub := by cases b <;> rfl
@[simp] theorem State.putFlag_eth (i k : Nat) (b : Bool) : (s.putFlag i k b).eth = s.eth := by cases b <;> rfl
@[simp] theorem State.putFlag_tio (i k : Nat) (b : Bool) : (s.putFlag i k b).tio = s.tio := by cases b <;> rfl
@[simp] theorem State.putFlag_dia (i k : Nat) (b : Bool) : (s.putFlag i k b).dia = s.dia := by cases b <;> rfl

/-! `State.bump` -/

@[simp] theorem State.bump_pending (i m : Nat) : (s.bump i m).pending = s.pending := (rfl)
@[simp] theorem State.bump_time (i m : Nat) : (s.bump i m).time = s.time := (rfl)
@[simp] theorem State.bump_tick (i m : Nat) : (s.bump i m).tick = s.tick := (rfl)
@[simp] theorem State.bump_free (i m : Nat) : (s.bump i m).free = s.free := (rfl)
@[simp] theorem State.bump_tl (i m : Nat) : (s.bump i m).tl = s.tl := (rfl)
@[simp] theorem State.bump_mu (i m : Nat) : (s.bump i m).mu = s.mu := (rfl)
@[simp] theorem State.bump_hk (i m : Nat) : (s.bump i m).hk = s.hk := (rfl)
@[simp] theorem State.bump_log (i m : Nat) : (s.bump i m).log = s.log := (rfl)
@[simp] theorem State.bump_seqs (i m : Nat) : (s.bump i m).seqs = s.seqs := (rfl)
@[simp] theorem State.bump_host (i m : Nat) : (s.bump i m).host = s.host := (rfl)
@[simp] theorem State.bump_mclk (i m : Nat) : (s.bump i m).mclk = s.mclk := (rfl)
@[simp] theorem State.bump_sd (i m : Nat) : (s.bump i m).sd = s.sd := (rfl)
@[simp] theorem State.bump_aux (i m : Nat) : (s.bump i m).aux = s.aux := (rfl)
@[simp] theorem State.bump_enc (i m : Nat) : (s.bump i m).enc = s.enc := (rfl)
@[simp] theorem State.bump_eng (i m : Nat) : (s.bump i m).eng = s.eng := (rfl)
@[simp] theorem State.bump_slices (i m : Nat) : (s.bump i m).slices = s.slices := (rfl)
@[simp] theorem State.bump_gl (i m : Nat) : (s.bump i m).gl = s.gl := (rfl)
@[simp] theorem State.bump_ref (i m : Nat) : (s.bump i m).ref = s.ref := (rfl)
@[simp] theorem State.bump_cp (i m : Nat) : (s.bump i m).cp = s.cp := (rfl)
@[simp] theorem State.bump_flk (i m : Nat) : (s.bump i m).flk = s.flk := (rfl)
@[simp] theorem State.bump_ring (i m : Nat) : (s.bump i m).ring = s.ring := (rfl)
@[simp] theorem State.bump_can (i m : Nat) : (s.bump i m).can = s.can := (rfl)
@[simp] theorem State.bump_canPub (i m : Nat) : (s.bump i m).canPub = s.canPub := (rfl)
@[simp] theorem State.bump_eth (i m : Nat) : (s.bump i m).eth = s.eth := (rfl)
@[simp] theorem State.bump_tio (i m : Nat) : (s.bump i m).tio = s.tio := (rfl)
@[simp] theorem State.bump_dia (i m : Nat) : (s.bump i m).dia = s.dia := (rfl)

/-! `State.noteSet` -/

@[simp] theorem State.noteSet_pending (i m : Nat) : (s.noteSet i m).pending = s.pending := (rfl)
@[simp] theorem State.noteSet_time (i m : Nat) : (s.noteSet i m).time = s.time := (rfl)
@[simp] theorem State.noteSet_tick (i m : Nat) : (s.noteSet i m).tick = s.tick := (rfl)
@[simp] theorem State.noteSet_free (i m : Nat) : (s.noteSet i m).free = s.free := (rfl)
@[simp] theorem State.noteSet_tl (i m : Nat) : (s.noteSet i m).tl = s.tl := (rfl)
@[simp] theorem State.noteSet_mu (i m : Nat) : (s.noteSet i m).mu = s.mu := (rfl)
@[simp] theorem State.noteSet_hk (i m : Nat) : (s.noteSet i m).hk = s.hk := (rfl)
@[simp] theorem State.noteSet_log (i m : Nat) : (s.noteSet i m).log = s.log := (rfl)
@[simp] theorem State.noteSet_seqs (i m : Nat) : (s.noteSet i m).seqs = s.seqs := (rfl)
@[simp] theorem State.noteSet_host (i m : Nat) : (s.noteSet i m).host = s.host := (rfl)
@[simp] theorem State.noteSet_mclk (i m : Nat) : (s.noteSet i m).mclk = s.mclk := (rfl)
@[simp] theorem State.noteSet_sd (i m : Nat) : (s.noteSet i m).sd = s.sd := (rfl)
@[simp] theorem State.noteSet_aux (i m : Nat) : (s.noteSet i m).aux = s.aux := (rfl)
@[simp] theorem State.noteSet_enc (i m : Nat) : (s.noteSet i m).enc = s.enc := (rfl)
@[simp] theorem State.noteSet_eng (i m : Nat) : (s.noteSet i m).eng = s.eng := (rfl)
@[simp] theorem State.noteSet_slices (i m : Nat) : (s.noteSet i m).slices = s.slices := (rfl)
@[simp] theorem State.noteSet_gl (i m : Nat) : (s.noteSet i m).gl = s.gl := (rfl)
@[simp] theorem State.noteSet_ref (i m : Nat) : (s.noteSet i m).ref = s.ref := (rfl)
@[simp] theorem State.noteSet_cp (i m : Nat) : (s.noteSet i m).cp = s.cp := (rfl)
@[simp] theorem State.noteSet_flk (i m : Nat) : (s.noteSet i m).flk = s.flk := (rfl)
@[simp] theorem State.noteSet_ring (i m : Nat) : (s.noteSet i m).ring = s.ring := (rfl)
@[simp] theorem State.noteSet_can (i m : Nat) : (s.noteSet i m).can = s.can := (rfl)
@[simp] theorem State.noteSet_canPub (i m : Nat) : (s.noteSet i m).canPub = s.canPub := (rfl)
@[simp] theorem State.noteSet_eth (i m : Nat) : (s.noteSet i m).eth = s.eth := (rfl)
@[simp] theorem State.noteSet_tio (i m : Nat) : (s.noteSet i m).tio = s.tio := (rfl)
@[simp] theorem State.noteSet_dia (i m : Nat) : (s.noteSet i m).dia = s.dia := (rfl)

/-! `State.bumpField` -/

@[simp] theorem State.bumpField_pending (i h l : Nat) : (s.bumpField i h l).pending = s.pending := (rfl)
@[simp] theorem State.bumpField_time (i h l : Nat) : (s.bumpField i h l).time = s.time := (rfl)
@[simp] theorem State.bumpField_tick (i h l : Nat) : (s.bumpField i h l).tick = s.tick := (rfl)
@[simp] theorem State.bumpField_free (i h l : Nat) : (s.bumpField i h l).free = s.free := (rfl)
@[simp] theorem State.bumpField_tl (i h l : Nat) : (s.bumpField i h l).tl = s.tl := (rfl)
@[simp] theorem State.bumpField_mu (i h l : Nat) : (s.bumpField i h l).mu = s.mu := (rfl)
@[simp] theorem State.bumpField_hk (i h l : Nat) : (s.bumpField i h l).hk = s.hk := (rfl)
@[simp] theorem State.bumpField_log (i h l : Nat) : (s.bumpField i h l).log = s.log := (rfl)
@[simp] theorem State.bumpField_seqs (i h l : Nat) : (s.bumpField i h l).seqs = s.seqs := (rfl)
@[simp] theorem State.bumpField_host (i h l : Nat) : (s.bumpField i h l).host = s.host := (rfl)
@[simp] theorem State.bumpField_mclk (i h l : Nat) : (s.bumpField i h l).mclk = s.mclk := (rfl)
@[simp] theorem State.bumpField_sd (i h l : Nat) : (s.bumpField i h l).sd = s.sd := (rfl)
@[simp] theorem State.bumpField_aux (i h l : Nat) : (s.bumpField i h l).aux = s.aux := (rfl)
@[simp] theorem State.bumpField_enc (i h l : Nat) : (s.bumpField i h l).enc = s.enc := (rfl)
@[simp] theorem State.bumpField_eng (i h l : Nat) : (s.bumpField i h l).eng = s.eng := (rfl)
@[simp] theorem State.bumpField_slices (i h l : Nat) : (s.bumpField i h l).slices = s.slices := (rfl)
@[simp] theorem State.bumpField_gl (i h l : Nat) : (s.bumpField i h l).gl = s.gl := (rfl)
@[simp] theorem State.bumpField_ref (i h l : Nat) : (s.bumpField i h l).ref = s.ref := (rfl)
@[simp] theorem State.bumpField_cp (i h l : Nat) : (s.bumpField i h l).cp = s.cp := (rfl)
@[simp] theorem State.bumpField_flk (i h l : Nat) : (s.bumpField i h l).flk = s.flk := (rfl)
@[simp] theorem State.bumpField_ring (i h l : Nat) : (s.bumpField i h l).ring = s.ring := (rfl)
@[simp] theorem State.bumpField_can (i h l : Nat) : (s.bumpField i h l).can = s.can := (rfl)
@[simp] theorem State.bumpField_canPub (i h l : Nat) : (s.bumpField i h l).canPub = s.canPub := (rfl)
@[simp] theorem State.bumpField_eth (i h l : Nat) : (s.bumpField i h l).eth = s.eth := (rfl)
@[simp] theorem State.bumpField_tio (i h l : Nat) : (s.bumpField i h l).tio = s.tio := (rfl)
@[simp] theorem State.bumpField_dia (i h l : Nat) : (s.bumpField i h l).dia = s.dia := (rfl)

/-! `State.bumpSeq` -/

@[simp] theorem State.bumpSeq_pending (n : Nat) : (s.bumpSeq n).pending = s.pending := (rfl)
@[simp] theorem State.bumpSeq_time (n : Nat) : (s.bumpSeq n).time = s.time := (rfl)
@[simp] theorem State.bumpSeq_tick (n : Nat) : (s.bumpSeq n).tick = s.tick := (rfl)
@[simp] theorem State.bumpSeq_free (n : Nat) : (s.bumpSeq n).free = s.free := (rfl)
@[simp] theorem State.bumpSeq_tl (n : Nat) : (s.bumpSeq n).tl = s.tl := (rfl)
@[simp] theorem State.bumpSeq_mu (n : Nat) : (s.bumpSeq n).mu = s.mu := (rfl)
@[simp] theorem State.bumpSeq_hk (n : Nat) : (s.bumpSeq n).hk = s.hk := (rfl)
@[simp] theorem State.bumpSeq_log (n : Nat) : (s.bumpSeq n).log = s.log := (rfl)
@[simp] theorem State.bumpSeq_host (n : Nat) : (s.bumpSeq n).host = s.host := (rfl)
@[simp] theorem State.bumpSeq_dict (n : Nat) : (s.bumpSeq n).dict = s.dict := (rfl)
@[simp] theorem State.bumpSeq_mclk (n : Nat) : (s.bumpSeq n).mclk = s.mclk := (rfl)
@[simp] theorem State.bumpSeq_sd (n : Nat) : (s.bumpSeq n).sd = s.sd := (rfl)
@[simp] theorem State.bumpSeq_aux (n : Nat) : (s.bumpSeq n).aux = s.aux := (rfl)
@[simp] theorem State.bumpSeq_enc (n : Nat) : (s.bumpSeq n).enc = s.enc := (rfl)
@[simp] theorem State.bumpSeq_eng (n : Nat) : (s.bumpSeq n).eng = s.eng := (rfl)
@[simp] theorem State.bumpSeq_slices (n : Nat) : (s.bumpSeq n).slices = s.slices := (rfl)
@[simp] theorem State.bumpSeq_gl (n : Nat) : (s.bumpSeq n).gl = s.gl := (rfl)
@[simp] theorem State.bumpSeq_ref (n : Nat) : (s.bumpSeq n).ref = s.ref := (rfl)
@[simp] theorem State.bumpSeq_cp (n : Nat) : (s.bumpSeq n).cp = s.cp := (rfl)
@[simp] theorem State.bumpSeq_flk (n : Nat) : (s.bumpSeq n).flk = s.flk := (rfl)
@[simp] theorem State.bumpSeq_ring (n : Nat) : (s.bumpSeq n).ring = s.ring := (rfl)
@[simp] theorem State.bumpSeq_can (n : Nat) : (s.bumpSeq n).can = s.can := (rfl)
@[simp] theorem State.bumpSeq_canPub (n : Nat) : (s.bumpSeq n).canPub = s.canPub := (rfl)
@[simp] theorem State.bumpSeq_eth (n : Nat) : (s.bumpSeq n).eth = s.eth := (rfl)
@[simp] theorem State.bumpSeq_tio (n : Nat) : (s.bumpSeq n).tio = s.tio := (rfl)
@[simp] theorem State.bumpSeq_dia (n : Nat) : (s.bumpSeq n).dia = s.dia := (rfl)

/-! `State.elapse` -/

@[simp] theorem State.elapse_pending (n : Nat) : (s.elapse n).pending = s.pending := (rfl)
@[simp] theorem State.elapse_free (n : Nat) : (s.elapse n).free = s.free := (rfl)
@[simp] theorem State.elapse_tl (n : Nat) : (s.elapse n).tl = s.tl := (rfl)
@[simp] theorem State.elapse_mu (n : Nat) : (s.elapse n).mu = s.mu := (rfl)
@[simp] theorem State.elapse_hk (n : Nat) : (s.elapse n).hk = s.hk := (rfl)
@[simp] theorem State.elapse_log (n : Nat) : (s.elapse n).log = s.log := (rfl)
@[simp] theorem State.elapse_seqs (n : Nat) : (s.elapse n).seqs = s.seqs := (rfl)
@[simp] theorem State.elapse_host (n : Nat) : (s.elapse n).host = s.host := (rfl)
@[simp] theorem State.elapse_dict (n : Nat) : (s.elapse n).dict = s.dict := (rfl)
@[simp] theorem State.elapse_mclk (n : Nat) : (s.elapse n).mclk = s.mclk := (rfl)
@[simp] theorem State.elapse_sd (n : Nat) : (s.elapse n).sd = s.sd := (rfl)
@[simp] theorem State.elapse_aux (n : Nat) : (s.elapse n).aux = s.aux := (rfl)
@[simp] theorem State.elapse_enc (n : Nat) : (s.elapse n).enc = s.enc := (rfl)
@[simp] theorem State.elapse_eng (n : Nat) : (s.elapse n).eng = s.eng := (rfl)
@[simp] theorem State.elapse_slices (n : Nat) : (s.elapse n).slices = s.slices := (rfl)
@[simp] theorem State.elapse_gl (n : Nat) : (s.elapse n).gl = s.gl := (rfl)
@[simp] theorem State.elapse_ref (n : Nat) : (s.elapse n).ref = s.ref := (rfl)
@[simp] theorem State.elapse_cp (n : Nat) : (s.elapse n).cp = s.cp := (rfl)
@[simp] theorem State.elapse_flk (n : Nat) : (s.elapse n).flk = s.flk := (rfl)
@[simp] theorem State.elapse_ring (n : Nat) : (s.elapse n).ring = s.ring := (rfl)
@[simp] theorem State.elapse_can (n : Nat) : (s.elapse n).can = s.can := (rfl)
@[simp] theorem State.elapse_canPub (n : Nat) : (s.elapse n).canPub = s.canPub := (rfl)
@[simp] theorem State.elapse_eth (n : Nat) : (s.elapse n).eth = s.eth := (rfl)
@[simp] theorem State.elapse_tio (n : Nat) : (s.elapse n).tio = s.tio := (rfl)
@[simp] theorem State.elapse_dia (n : Nat) : (s.elapse n).dia = s.dia := (rfl)

/-! `State.setInc` -/

@[simp] theorem State.setInc_pending (v : Nat) : (s.setInc v).pending = s.pending := (rfl)
@[simp] theorem State.setInc_tick (v : Nat) : (s.setInc v).tick = s.tick := (rfl)
@[simp] theorem State.setInc_free (v : Nat) : (s.setInc v).free = s.free := (rfl)
@[simp] theorem State.setInc_tl (v : Nat) : (s.setInc v).tl = s.tl := (rfl)
@[simp] theorem State.setInc_mu (v : Nat) : (s.setInc v).mu = s.mu := (rfl)
@[simp] theorem State.setInc_hk (v : Nat) : (s.setInc v).hk = s.hk := (rfl)
@[simp] theorem State.setInc_log (v : Nat) : (s.setInc v).log = s.log := (rfl)
@[simp] theorem State.setInc_seqs (v : Nat) : (s.setInc v).seqs = s.seqs := (rfl)
@[simp] theorem State.setInc_host (v : Nat) : (s.setInc v).host = s.host := (rfl)
@[simp] theorem State.setInc_dict (v : Nat) : (s.setInc v).dict = s.dict := (rfl)
@[simp] theorem State.setInc_mclk (v : Nat) : (s.setInc v).mclk = s.mclk := (rfl)
@[simp] theorem State.setInc_sd (v : Nat) : (s.setInc v).sd = s.sd := (rfl)
@[simp] theorem State.setInc_aux (v : Nat) : (s.setInc v).aux = s.aux := (rfl)
@[simp] theorem State.setInc_enc (v : Nat) : (s.setInc v).enc = s.enc := (rfl)
@[simp] theorem State.setInc_eng (v : Nat) : (s.setInc v).eng = s.eng := (rfl)
@[simp] theorem State.setInc_slices (v : Nat) : (s.setInc v).slices = s.slices := (rfl)
@[simp] theorem State.setInc_gl (v : Nat) : (s.setInc v).gl = s.gl := (rfl)
@[simp] theorem State.setInc_ref (v : Nat) : (s.setInc v).ref = s.ref := (rfl)
@[simp] theorem State.setInc_cp (v : Nat) : (s.setInc v).cp = s.cp := (rfl)
@[simp] theorem State.setInc_flk (v : Nat) : (s.setInc v).flk = s.flk := (rfl)
@[simp] theorem State.setInc_ring (v : Nat) : (s.setInc v).ring = s.ring := (rfl)
@[simp] theorem State.setInc_can (v : Nat) : (s.setInc v).can = s.can := (rfl)
@[simp] theorem State.setInc_canPub (v : Nat) : (s.setInc v).canPub = s.canPub := (rfl)
@[simp] theorem State.setInc_eth (v : Nat) : (s.setInc v).eth = s.eth := (rfl)
@[simp] theorem State.setInc_tio (v : Nat) : (s.setInc v).tio = s.tio := (rfl)
@[simp] theorem State.setInc_dia (v : Nat) : (s.setInc v).dia = s.dia := (rfl)

/-! `State.setSl` -/

@[simp] theorem State.setSl_pending (k : Nat) (v : Slice) : (s.setSl k v).pending = s.pending := (rfl)
@[simp] theorem State.setSl_time (k : Nat) (v : Slice) : (s.setSl k v).time = s.time := (rfl)
@[simp] theorem State.setSl_tick (k : Nat) (v : Slice) : (s.setSl k v).tick = s.tick := (rfl)
@[simp] theorem State.setSl_free (k : Nat) (v : Slice) : (s.setSl k v).free = s.free := (rfl)
@[simp] theorem State.setSl_tl (k : Nat) (v : Slice) : (s.setSl k v).tl = s.tl := (rfl)
@[simp] theorem State.setSl_mu (k : Nat) (v : Slice) : (s.setSl k v).mu = s.mu := (rfl)
@[simp] theorem State.setSl_hk (k : Nat) (v : Slice) : (s.setSl k v).hk = s.hk := (rfl)
@[simp] theorem State.setSl_log (k : Nat) (v : Slice) : (s.setSl k v).log = s.log := (rfl)
@[simp] theorem State.setSl_seqs (k : Nat) (v : Slice) : (s.setSl k v).seqs = s.seqs := (rfl)
@[simp] theorem State.setSl_host (k : Nat) (v : Slice) : (s.setSl k v).host = s.host := (rfl)
@[simp] theorem State.setSl_dict (k : Nat) (v : Slice) : (s.setSl k v).dict = s.dict := (rfl)
@[simp] theorem State.setSl_mclk (k : Nat) (v : Slice) : (s.setSl k v).mclk = s.mclk := (rfl)
@[simp] theorem State.setSl_sd (k : Nat) (v : Slice) : (s.setSl k v).sd = s.sd := (rfl)
@[simp] theorem State.setSl_aux (k : Nat) (v : Slice) : (s.setSl k v).aux = s.aux := (rfl)
@[simp] theorem State.setSl_enc (k : Nat) (v : Slice) : (s.setSl k v).enc = s.enc := (rfl)
@[simp] theorem State.setSl_eng (k : Nat) (v : Slice) : (s.setSl k v).eng = s.eng := (rfl)
@[simp] theorem State.setSl_gl (k : Nat) (v : Slice) : (s.setSl k v).gl = s.gl := (rfl)
@[simp] theorem State.setSl_ref (k : Nat) (v : Slice) : (s.setSl k v).ref = s.ref := (rfl)
@[simp] theorem State.setSl_cp (k : Nat) (v : Slice) : (s.setSl k v).cp = s.cp := (rfl)
@[simp] theorem State.setSl_flk (k : Nat) (v : Slice) : (s.setSl k v).flk = s.flk := (rfl)
@[simp] theorem State.setSl_ring (k : Nat) (v : Slice) : (s.setSl k v).ring = s.ring := (rfl)
@[simp] theorem State.setSl_can (k : Nat) (v : Slice) : (s.setSl k v).can = s.can := (rfl)
@[simp] theorem State.setSl_canPub (k : Nat) (v : Slice) : (s.setSl k v).canPub = s.canPub := (rfl)
@[simp] theorem State.setSl_eth (k : Nat) (v : Slice) : (s.setSl k v).eth = s.eth := (rfl)
@[simp] theorem State.setSl_tio (k : Nat) (v : Slice) : (s.setSl k v).tio = s.tio := (rfl)
@[simp] theorem State.setSl_dia (k : Nat) (v : Slice) : (s.setSl k v).dia = s.dia := (rfl)

/-! `State.modSl` -/

@[simp] theorem State.modSl_pending (k : Nat) (f : Slice → Slice) : (s.modSl k f).pending = s.pending := (rfl)
@[simp] theorem State.modSl_time (k : Nat) (f : Slice → Slice) : (s.modSl k f).time = s.time := (rfl)
@[simp] theorem State.modSl_tick (k : Nat) (f : Slice → Slice) : (s.modSl k f).tick = s.tick := (rfl)
@[simp] theorem State.modSl_free (k : Nat) (f : Slice → Slice) : (s.modSl k f).free = s.free := (rfl)
@[simp] theorem State.modSl_tl (k : Nat) (f : Slice → Slice) : (s.modSl k f).tl = s.tl := (rfl)
@[simp] theorem State.modSl_mu (k : Nat) (f : Slice → Slice) : (s.modSl k f).mu = s.mu := (rfl)
@[simp] theorem State.modSl_hk (k : Nat) (f : Slice → Slice) : (s.modSl k f).hk = s.hk := (rfl)
@[simp] theorem State.modSl_log (k : Nat) (f : Slice → Slice) : (s.modSl k f).log = s.log := (rfl)
@[simp] theorem State.modSl_seqs (k : Nat) (f : Slice → Slice) : (s.modSl k f).seqs = s.seqs := (rfl)
@[simp] theorem State.modSl_host (k : Nat) (f : Slice → Slice) : (s.modSl k f).host = s.host := (rfl)
@[simp] theorem State.modSl_dict (k : Nat) (f : Slice → Slice) : (s.modSl k f).dict = s.dict := (rfl)
@[simp] theorem State.modSl_mclk (k : Nat) (f : Slice → Slice) : (s.modSl k f).mclk = s.mclk := (rfl)
@[simp] theorem State.modSl_sd (k : Nat) (f : Slice → Slice) : (s.modSl k f).sd = s.sd := (rfl)
@[simp] theorem State.modSl_aux (k : Nat) (f : Slice → Slice) : (s.modSl k f).aux = s.aux := (rfl)
@[simp] theorem State.modSl_enc (k : Nat) (f : Slice → Slice) : (s.modSl k f).enc = s.enc := (rfl)
@[simp] theorem State.modSl_eng (k : Nat) (f : Slice → Slice) : (s.modSl k f).eng = s.eng := (rfl)
@[simp] theorem State.modSl_gl (k : Nat) (f : Slice → Slice) : (s.modSl k f).gl = s.gl := (rfl)
@[simp] theorem State.modSl_ref (k : Nat) (f : Slice → Slice) : (s.modSl k f).ref = s.ref := (rfl)
@[simp] theorem State.modSl_cp (k : Nat) (f : Slice → Slice) : (s.modSl k f).cp = s.cp := (rfl)
@[simp] theorem State.modSl_flk (k : Nat) (f : Slice → Slice) : (s.modSl k f).flk = s.flk := (rfl)
@[simp] theorem State.modSl_ring (k : Nat) (f : Slice → Slice) : (s.modSl k f).ring = s.ring := (rfl)
@[simp] theorem State.modSl_can (k : Nat) (f : Slice → Slice) : (s.modSl k f).can = s.can := (rfl)
@[simp] theorem State.modSl_canPub (k : Nat) (f : Slice → Slice) : (s.modSl k f).canPub = s.canPub := (rfl)
@[simp] theorem State.modSl_eth (k : Nat) (f : Slice → Slice) : (s.modSl k f).eth = s.eth := (rfl)
@[simp] theorem State.modSl_tio (k : Nat) (f : Slice → Slice) : (s.modSl k f).tio = s.tio := (rfl)
@[simp] theorem State.modSl_dia (k : Nat) (f : Slice → Slice) : (s.modSl k f).dia = s.dia := (rfl)

/-! `State.setCtx` -/

@[simp] theorem State.setCtx_pending (k : Nat) (v : Ctx) : (s.setCtx k v).pending = s.pending := (rfl)
@[simp] theorem State.setCtx_time (k : Nat) (v : Ctx) : (s.setCtx k v).time = s.time := (rfl)
@[simp] theorem State.setCtx_tick (k : Nat) (v : Ctx) : (s.setCtx k v).tick = s.tick := (rfl)
@[simp] theorem State.setCtx_free (k : Nat) (v : Ctx) : (s.setCtx k v).free = s.free := (rfl)
@[simp] theorem State.setCtx_tl (k : Nat) (v : Ctx) : (s.setCtx k v).tl = s.tl := (rfl)
@[simp] theorem State.setCtx_mu (k : Nat) (v : Ctx) : (s.setCtx k v).mu = s.mu := (rfl)
@[simp] theorem State.setCtx_hk (k : Nat) (v : Ctx) : (s.setCtx k v).hk = s.hk := (rfl)
@[simp] theorem State.setCtx_log (k : Nat) (v : Ctx) : (s.setCtx k v).log = s.log := (rfl)
@[simp] theorem State.setCtx_seqs (k : Nat) (v : Ctx) : (s.setCtx k v).seqs = s.seqs := (rfl)
@[simp] theorem State.setCtx_host (k : Nat) (v : Ctx) : (s.setCtx k v).host = s.host := (rfl)
@[simp] theorem State.setCtx_dict (k : Nat) (v : Ctx) : (s.setCtx k v).dict = s.dict := (rfl)
@[simp] theorem State.setCtx_mclk (k : Nat) (v : Ctx) : (s.setCtx k v).mclk = s.mclk := (rfl)
@[simp] theorem State.setCtx_sd (k : Nat) (v : Ctx) : (s.setCtx k v).sd = s.sd := (rfl)
@[simp] theorem State.setCtx_aux (k : Nat) (v : Ctx) : (s.setCtx k v).aux = s.aux := (rfl)
@[simp] theorem State.setCtx_enc (k : Nat) (v : Ctx) : (s.setCtx k v).enc = s.enc := (rfl)
@[simp] theorem State.setCtx_slices (k : Nat) (v : Ctx) : (s.setCtx k v).slices = s.slices := (rfl)
@[simp] theorem State.setCtx_gl (k : Nat) (v : Ctx) : (s.setCtx k v).gl = s.gl := (rfl)
@[simp] theorem State.setCtx_ref (k : Nat) (v : Ctx) : (s.setCtx k v).ref = s.ref := (rfl)
@[simp] theorem State.setCtx_cp (k : Nat) (v : Ctx) : (s.setCtx k v).cp = s.cp := (rfl)
@[simp] theorem State.setCtx_flk (k : Nat) (v : Ctx) : (s.setCtx k v).flk = s.flk := (rfl)
@[simp] theorem State.setCtx_ring (k : Nat) (v : Ctx) : (s.setCtx k v).ring = s.ring := (rfl)
@[simp] theorem State.setCtx_can (k : Nat) (v : Ctx) : (s.setCtx k v).can = s.can := (rfl)
@[simp] theorem State.setCtx_canPub (k : Nat) (v : Ctx) : (s.setCtx k v).canPub = s.canPub := (rfl)
@[simp] theorem State.setCtx_eth (k : Nat) (v : Ctx) : (s.setCtx k v).eth = s.eth := (rfl)
@[simp] theorem State.setCtx_tio (k : Nat) (v : Ctx) : (s.setCtx k v).tio = s.tio := (rfl)
@[simp] theorem State.setCtx_dia (k : Nat) (v : Ctx) : (s.setCtx k v).dia = s.dia := (rfl)

/-! `State.modCtx` -/

@[simp] theorem State.modCtx_pending (k : Nat) (f : Ctx → Ctx) : (s.modCtx k f).pending = s.pending := (rfl)
@[simp] theorem State.modCtx_time (k : Nat) (f : Ctx → Ctx) : (s.modCtx k f).time = s.time := (rfl)
@[simp] theorem State.modCtx_tick (k : Nat) (f : Ctx → Ctx) : (s.modCtx k f).tick = s.tick := (rfl)
@[simp] theorem State.modCtx_free (k : Nat) (f : Ctx → Ctx) : (s.modCtx k f).free = s.free := (rfl)
@[simp] theorem State.modCtx_tl (k : Nat) (f : Ctx → Ctx) : (s.modCtx k f).tl = s.tl := (rfl)
@[simp] theorem State.modCtx_mu (k : Nat) (f : Ctx → Ctx) : (s.modCtx k f).mu = s.mu := (rfl)
@[simp] theorem State.modCtx_hk (k : Nat) (f : Ctx → Ctx) : (s.modCtx k f).hk = s.hk := (rfl)
@[simp] theorem State.modCtx_log (k : Nat) (f : Ctx → Ctx) : (s.modCtx k f).log = s.log := (rfl)
@[simp] theorem State.modCtx_seqs (k : Nat) (f : Ctx → Ctx) : (s.modCtx k f).seqs = s.seqs := (rfl)
@[simp] theorem State.modCtx_host (k : Nat) (f : Ctx → Ctx) : (s.modCtx k f).host = s.host := (rfl)
@[simp] theorem State.modCtx_dict (k : Nat) (f : Ctx → Ctx) : (s.modCtx k f).dict = s.dict := (rfl)
@[simp] theorem State.modCtx_mclk (k : Nat) (f : Ctx → Ctx) : (s.modCtx k f).mclk = s.mclk := (rfl)
@[simp] theorem State.modCtx_sd (k : Nat) (f : Ctx → Ctx) : (s.modCtx k f).sd = s.sd := (rfl)
@[simp] theorem State.modCtx_aux (k : Nat) (f : Ctx → Ctx) : (s.modCtx k f).aux = s.aux := (rfl)
@[simp] theorem State.modCtx_enc (k : Nat) (f : Ctx → Ctx) : (s.modCtx k f).enc = s.enc := (rfl)
@[simp] theorem State.modCtx_slices (k : Nat) (f : Ctx → Ctx) : (s.modCtx k f).slices = s.slices := (rfl)
@[simp] theorem State.modCtx_gl (k : Nat) (f : Ctx → Ctx) : (s.modCtx k f).gl = s.gl := (rfl)
@[simp] theorem State.modCtx_ref (k : Nat) (f : Ctx → Ctx) : (s.modCtx k f).ref = s.ref := (rfl)
@[simp] theorem State.modCtx_cp (k : Nat) (f : Ctx → Ctx) : (s.modCtx k f).cp = s.cp := (rfl)
@[simp] theorem State.modCtx_flk (k : Nat) (f : Ctx → Ctx) : (s.modCtx k f).flk = s.flk := (rfl)
@[simp] theorem State.modCtx_ring (k : Nat) (f : Ctx → Ctx) : (s.modCtx k f).ring = s.ring := (rfl)
@[simp] theorem State.modCtx_can (k : Nat) (f : Ctx → Ctx) : (s.modCtx k f).can = s.can := (rfl)
@[simp] theorem State.modCtx_canPub (k : Nat) (f : Ctx → Ctx) : (s.modCtx k f).canPub = s.canPub := (rfl)
@[simp] theorem State.modCtx_eth (k : Nat) (f : Ctx → Ctx) : (s.modCtx k f).eth = s.eth := (rfl)
@[simp] theorem State.modCtx_tio (k : Nat) (f : Ctx → Ctx) : (s.modCtx k f).tio = s.tio := (rfl)
@[simp] theorem State.modCtx_dia (k : Nat) (f : Ctx → Ctx) : (s.modCtx k f).dia = s.dia := (rfl)

/-! `State.setEnc` -/

@[simp] theorem State.setEnc_pending (k : Nat) (v : Enc) : (s.setEnc k v).pending = s.pending := (rfl)
@[simp] theorem State.setEnc_time (k : Nat) (v : Enc) : (s.setEnc k v).time = s.time := (rfl)
@[simp] theorem State.setEnc_tick (k : Nat) (v : Enc) : (s.setEnc k v).tick = s.tick := (rfl)
@[simp] theorem State.setEnc_free (k : Nat) (v : Enc) : (s.setEnc k v).free = s.free := (rfl)
@[simp] theorem State.setEnc_tl (k : Nat) (v : Enc) : (s.setEnc k v).tl = s.tl := (rfl)
@[simp] theorem State.setEnc_mu (k : Nat) (v : Enc) : (s.setEnc k v).mu = s.mu := (rfl)
@[simp] theorem State.setEnc_hk (k : Nat) (v : Enc) : (s.setEnc k v).hk = s.hk := (rfl)
@[simp] theorem State.setEnc_log (k : Nat) (v : Enc) : (s.setEnc k v).log = s.log := (rfl)
@[simp] theorem State.setEnc_seqs (k : Nat) (v : Enc) : (s.setEnc k v).seqs = s.seqs := (rfl)
@[simp] theorem State.setEnc_host (k : Nat) (v : Enc) : (s.setEnc k v).host = s.host := (rfl)
@[simp] theorem State.setEnc_dict (k : Nat) (v : Enc) : (s.setEnc k v).dict = s.dict := (rfl)
@[simp] theorem State.setEnc_mclk (k : Nat) (v : Enc) : (s.setEnc k v).mclk = s.mclk := (rfl)
@[simp] theorem State.setEnc_sd (k : Nat) (v : Enc) : (s.setEnc k v).sd = s.sd := (rfl)
@[simp] theorem State.setEnc_aux (k : Nat) (v : Enc) : (s.setEnc k v).aux = s.aux := (rfl)
@[simp] theorem State.setEnc_eng (k : Nat) (v : Enc) : (s.setEnc k v).eng = s.eng := (rfl)
@[simp] theorem State.setEnc_slices (k : Nat) (v : Enc) : (s.setEnc k v).slices = s.slices := (rfl)
@[simp] theorem State.setEnc_gl (k : Nat) (v : Enc) : (s.setEnc k v).gl = s.gl := (rfl)
@[simp] theorem State.setEnc_ref (k : Nat) (v : Enc) : (s.setEnc k v).ref = s.ref := (rfl)
@[simp] theorem State.setEnc_cp (k : Nat) (v : Enc) : (s.setEnc k v).cp = s.cp := (rfl)
@[simp] theorem State.setEnc_flk (k : Nat) (v : Enc) : (s.setEnc k v).flk = s.flk := (rfl)
@[simp] theorem State.setEnc_ring (k : Nat) (v : Enc) : (s.setEnc k v).ring = s.ring := (rfl)
@[simp] theorem State.setEnc_can (k : Nat) (v : Enc) : (s.setEnc k v).can = s.can := (rfl)
@[simp] theorem State.setEnc_canPub (k : Nat) (v : Enc) : (s.setEnc k v).canPub = s.canPub := (rfl)
@[simp] theorem State.setEnc_eth (k : Nat) (v : Enc) : (s.setEnc k v).eth = s.eth := (rfl)
@[simp] theorem State.setEnc_tio (k : Nat) (v : Enc) : (s.setEnc k v).tio = s.tio := (rfl)
@[simp] theorem State.setEnc_dia (k : Nat) (v : Enc) : (s.setEnc k v).dia = s.dia := (rfl)

/-! `State.modEnc` -/

@[simp] theorem State.modEnc_pending (k : Nat) (f : Enc → Enc) : (s.modEnc k f).pending = s.pending := (rfl)
@[simp] theorem State.modEnc_time (k : Nat) (f : Enc → Enc) : (s.modEnc k f).time = s.time := (rfl)
@[simp] theorem State.modEnc_tick (k : Nat) (f : Enc → Enc) : (s.modEnc k f).tick = s.tick := (rfl)
@[simp] theorem State.modEnc_free (k : Nat) (f : Enc → Enc) : (s.modEnc k f).free = s.free := (rfl)
@[simp] theorem State.modEnc_tl (k : Nat) (f : Enc → Enc) : (s.modEnc k f).tl = s.tl := (rfl)
@[simp] theorem State.modEnc_mu (k : Nat) (f : Enc → Enc) : (s.modEnc k f).mu = s.mu := (rfl)
@[simp] theorem State.modEnc_hk (k : Nat) (f : Enc → Enc) : (s.modEnc k f).hk = s.hk := (rfl)
@[simp] theorem State.modEnc_log (k : Nat) (f : Enc → Enc) : (s.modEnc k f).log = s.log := (rfl)
@[simp] theorem State.modEnc_seqs (k : Nat) (f : Enc → Enc) : (s.modEnc k f).seqs = s.seqs := (rfl)
@[simp] theorem State.modEnc_host (k : Nat) (f : Enc → Enc) : (s.modEnc k f).host = s.host := (rfl)
@[simp] theorem State.modEnc_dict (k : Nat) (f : Enc → Enc) : (s.modEnc k f).dict = s.dict := (rfl)
@[simp] theorem State.modEnc_mclk (k : Nat) (f : Enc → Enc) : (s.modEnc k f).mclk = s.mclk := (rfl)
@[simp] theorem State.modEnc_sd (k : Nat) (f : Enc → Enc) : (s.modEnc k f).sd = s.sd := (rfl)
@[simp] theorem State.modEnc_aux (k : Nat) (f : Enc → Enc) : (s.modEnc k f).aux = s.aux := (rfl)
@[simp] theorem State.modEnc_eng (k : Nat) (f : Enc → Enc) : (s.modEnc k f).eng = s.eng := (rfl)
@[simp] theorem State.modEnc_slices (k : Nat) (f : Enc → Enc) : (s.modEnc k f).slices = s.slices := (rfl)
@[simp] theorem State.modEnc_gl (k : Nat) (f : Enc → Enc) : (s.modEnc k f).gl = s.gl := (rfl)
@[simp] theorem State.modEnc_ref (k : Nat) (f : Enc → Enc) : (s.modEnc k f).ref = s.ref := (rfl)
@[simp] theorem State.modEnc_cp (k : Nat) (f : Enc → Enc) : (s.modEnc k f).cp = s.cp := (rfl)
@[simp] theorem State.modEnc_flk (k : Nat) (f : Enc → Enc) : (s.modEnc k f).flk = s.flk := (rfl)
@[simp] theorem State.modEnc_ring (k : Nat) (f : Enc → Enc) : (s.modEnc k f).ring = s.ring := (rfl)
@[simp] theorem State.modEnc_can (k : Nat) (f : Enc → Enc) : (s.modEnc k f).can = s.can := (rfl)
@[simp] theorem State.modEnc_canPub (k : Nat) (f : Enc → Enc) : (s.modEnc k f).canPub = s.canPub := (rfl)
@[simp] theorem State.modEnc_eth (k : Nat) (f : Enc → Enc) : (s.modEnc k f).eth = s.eth := (rfl)
@[simp] theorem State.modEnc_tio (k : Nat) (f : Enc → Enc) : (s.modEnc k f).tio = s.tio := (rfl)
@[simp] theorem State.modEnc_dia (k : Nat) (f : Enc → Enc) : (s.modEnc k f).dia = s.dia := (rfl)

/-! `State.setSd` -/

@[simp] theorem State.setSd_pending (k : Nat) (v : Sd) : (s.setSd k v).pending = s.pending := (rfl)
@[simp] theorem State.setSd_time (k : Nat) (v : Sd) : (s.setSd k v).time = s.time := (rfl)
@[simp] theorem State.setSd_tick (k : Nat) (v : Sd) : (s.setSd k v).tick = s.tick := (rfl)
@[simp] theorem State.setSd_free (k : Nat) (v : Sd) : (s.setSd k v).free = s.free := (rfl)
@[simp] theorem State.setSd_tl (k : Nat) (v : Sd) : (s.setSd k v).tl = s.tl := (rfl)
@[simp] theorem State.setSd_mu (k : Nat) (v : Sd) : (s.setSd k v).mu = s.mu := (rfl)
@[simp] theorem State.setSd_hk (k : Nat) (v : Sd) : (s.setSd k v).hk = s.hk := (rfl)
@[simp] theorem State.setSd_log (k : Nat) (v : Sd) : (s.setSd k v).log = s.log := (rfl)
@[simp] theorem State.setSd_seqs (k : Nat) (v : Sd) : (s.setSd k v).seqs = s.seqs := (rfl)
@[simp] theorem State.setSd_host (k : Nat) (v : Sd) : (s.setSd k v).host = s.host := (rfl)
@[simp] theorem State.setSd_dict (k : Nat) (v : Sd) : (s.setSd k v).dict = s.dict := (rfl)
@[simp] theorem State.setSd_mclk (k : Nat) (v : Sd) : (s.setSd k v).mclk = s.mclk := (rfl)
@[simp] theorem State.setSd_aux (k : Nat) (v : Sd) : (s.setSd k v).aux = s.aux := (rfl)
@[simp] theorem State.setSd_enc (k : Nat) (v : Sd) : (s.setSd k v).enc = s.enc := (rfl)
@[simp] theorem State.setSd_eng (k : Nat) (v : Sd) : (s.setSd k v).eng = s.eng := (rfl)
@[simp] theorem State.setSd_slices (k : Nat) (v : Sd) : (s.setSd k v).slices = s.slices := (rfl)
@[simp] theorem State.setSd_gl (k : Nat) (v : Sd) : (s.setSd k v).gl = s.gl := (rfl)
@[simp] theorem State.setSd_ref (k : Nat) (v : Sd) : (s.setSd k v).ref = s.ref := (rfl)
@[simp] theorem State.setSd_cp (k : Nat) (v : Sd) : (s.setSd k v).cp = s.cp := (rfl)
@[simp] theorem State.setSd_flk (k : Nat) (v : Sd) : (s.setSd k v).flk = s.flk := (rfl)
@[simp] theorem State.setSd_ring (k : Nat) (v : Sd) : (s.setSd k v).ring = s.ring := (rfl)
@[simp] theorem State.setSd_can (k : Nat) (v : Sd) : (s.setSd k v).can = s.can := (rfl)
@[simp] theorem State.setSd_canPub (k : Nat) (v : Sd) : (s.setSd k v).canPub = s.canPub := (rfl)
@[simp] theorem State.setSd_eth (k : Nat) (v : Sd) : (s.setSd k v).eth = s.eth := (rfl)
@[simp] theorem State.setSd_tio (k : Nat) (v : Sd) : (s.setSd k v).tio = s.tio := (rfl)
@[simp] theorem State.setSd_dia (k : Nat) (v : Sd) : (s.setSd k v).dia = s.dia := (rfl)

/-! `State.modSd` -/

@[simp] theorem State.modSd_pending (k : Nat) (f : Sd → Sd) : (s.modSd k f).pending = s.pending := (rfl)
@[simp] theorem State.modSd_time (k : Nat) (f : Sd → Sd) : (s.modSd k f).time = s.time := (rfl)
@[simp] theorem State.modSd_tick (k : Nat) (f : Sd → Sd) : (s.modSd k f).tick = s.tick := (rfl)
@[simp] theorem State.modSd_free (k : Nat) (f : Sd → Sd) : (s.modSd k f).free = s.free := (rfl)
@[simp] theorem State.modSd_tl (k : Nat) (f : Sd → Sd) : (s.modSd k f).tl = s.tl := (rfl)
@[simp] theorem State.modSd_mu (k : Nat) (f : Sd → Sd) : (s.modSd k f).mu = s.mu := (rfl)
@[simp] theorem State.modSd_hk (k : Nat) (f : Sd → Sd) : (s.modSd k f).hk = s.hk := (rfl)
@[simp] theorem State.modSd_log (k : Nat) (f : Sd → Sd) : (s.modSd k f).log = s.log := (rfl)
@[simp] theorem State.modSd_seqs (k : Nat) (f : Sd → Sd) : (s.modSd k f).seqs = s.seqs := (rfl)
@[simp] theorem State.modSd_host (k : Nat) (f : Sd → Sd) : (s.modSd k f).host = s.host := (rfl)
@[simp] theorem State.modSd_dict (k : Nat) (f : Sd → Sd) : (s.modSd k f).dict = s.dict := (rfl)
@[simp] theorem State.modSd_mclk (k : Nat) (f : Sd → Sd) : (s.modSd k f).mclk = s.mclk := (rfl)
@[simp] theorem State.modSd_aux (k : Nat) (f : Sd → Sd) : (s.modSd k f).aux = s.aux := (rfl)
@[simp] theorem State.modSd_enc (k : Nat) (f : Sd → Sd) : (s.modSd k f).enc = s.enc := (rfl)
@[simp] theorem State.modSd_eng (k : Nat) (f : Sd → Sd) : (s.modSd k f).eng = s.eng := (rfl)
@[simp] theorem State.modSd_slices (k : Nat) (f : Sd → Sd) : (s.modSd k f).slices = s.slices := (rfl)
@[simp] theorem State.modSd_gl (k : Nat) (f : Sd → Sd) : (s.modSd k f).gl = s.gl := (rfl)
@[simp] theorem State.modSd_ref (k : Nat) (f : Sd → Sd) : (s.modSd k f).ref = s.ref := (rfl)
@[simp] theorem State.modSd_cp (k : Nat) (f : Sd → Sd) : (s.modSd k f).cp = s.cp := (rfl)
@[simp] theorem State.modSd_flk (k : Nat) (f : Sd → Sd) : (s.modSd k f).flk = s.flk := (rfl)
@[simp] theorem State.modSd_ring (k : Nat) (f : Sd → Sd) : (s.modSd k f).ring = s.ring := (rfl)
@[simp] theorem State.modSd_can (k : Nat) (f : Sd → Sd) : (s.modSd k f).can = s.can := (rfl)
@[simp] theorem State.modSd_canPub (k : Nat) (f : Sd → Sd) : (s.modSd k f).canPub = s.canPub := (rfl)
@[simp] theorem State.modSd_eth (k : Nat) (f : Sd → Sd) : (s.modSd k f).eth = s.eth := (rfl)
@[simp] theorem State.modSd_tio (k : Nat) (f : Sd → Sd) : (s.modSd k f).tio = s.tio := (rfl)
@[simp] theorem State.modSd_dia (k : Nat) (f : Sd → Sd) : (s.modSd k f).dia = s.dia := (rfl)

/-! `State.setAux` -/

@[simp] theorem State.setAux_pending (k : Nat) (v : Aux) : (s.setAux k v).pending = s.pending := (rfl)
@[simp] theorem State.setAux_time (k : Nat) (v : Aux) : (s.setAux k v).time = s.time := (rfl)
@[simp] theorem State.setAux_tick (k : Nat) (v : Aux) : (s.setAux k v).tick = s.tick := (rfl)
@[simp] theorem State.setAux_free (k : Nat) (v : Aux) : (s.setAux k v).free = s.free := (rfl)
@[simp] theorem State.setAux_tl (k : Nat) (v : Aux) : (s.setAux k v).tl = s.tl := (rfl)
@[simp] theorem State.setAux_mu (k : Nat) (v : Aux) : (s.setAux k v).mu = s.mu := (rfl)
@[simp] theorem State.setAux_hk (k : Nat) (v : Aux) : (s.setAux k v).hk = s.hk := (rfl)
@[simp] theorem State.setAux_log (k : Nat) (v : Aux) : (s.setAux k v).log = s.log := (rfl)
@[simp] theorem State.setAux_seqs (k : Nat) (v : Aux) : (s.setAux k v).seqs = s.seqs := (rfl)
@[simp] theorem State.setAux_host (k : Nat) (v : Aux) : (s.setAux k v).host = s.host := (rfl)
@[simp] theorem State.setAux_dict (k : Nat) (v : Aux) : (s.setAux k v).dict = s.dict := (rfl)
@[simp] theorem State.setAux_mclk (k : Nat) (v : Aux) : (s.setAux k v).mclk = s.mclk := (rfl)
@[simp] theorem State.setAux_sd (k : Nat) (v : Aux) : (s.setAux k v).sd = s.sd := (rfl)
@[simp] theorem State.setAux_enc (k : Nat) (v : Aux) : (s.setAux k v).enc = s.enc := (rfl)
@[simp] theorem State.setAux_eng (k : Nat) (v : Aux) : (s.setAux k v).eng = s.eng := (rfl)
@[simp] theorem State.setAux_slices (k : Nat) (v : Aux) : (s.setAux k v).slices = s.slices := (rfl)
@[simp] theorem State.setAux_gl (k : Nat) (v : Aux) : (s.setAux k v).gl = s.gl := (rfl)
@[simp] theorem State.setAux_ref (k : Nat) (v : Aux) : (s.setAux k v).ref = s.ref := (rfl)
@[simp] theorem State.setAux_cp (k : Nat) (v : Aux) : (s.setAux k v).cp = s.cp := (rfl)
@[simp] theorem State.setAux_flk (k : Nat) (v : Aux) : (s.setAux k v).flk = s.flk := (rfl)
@[simp] theorem State.setAux_ring (k : Nat) (v : Aux) : (s.setAux k v).ring = s.ring := (rfl)
@[simp] theorem State.setAux_can (k : Nat) (v : Aux) : (s.setAux k v).can = s.can := (rfl)
@[simp] theorem State.setAux_canPub (k : Nat) (v : Aux) : (s.setAux k v).canPub = s.canPub := (rfl)
@[simp] theorem State.setAux_eth (k : Nat) (v : Aux) : (s.setAux k v).eth = s.eth := (rfl)
@[simp] theorem State.setAux_tio (k : Nat) (v : Aux) : (s.setAux k v).tio = s.tio := (rfl)
@[simp] theorem State.setAux_dia (k : Nat) (v : Aux) : (s.setAux k v).dia = s.dia := (rfl)

/-! `State.modAux` -/

@[simp] theorem State.modAux_pending (k : Nat) (f : Aux → Aux) : (s.modAux k f).pending = s.pending := (rfl)
@[simp] theorem State.modAux_time (k : Nat) (f : Aux → Aux) : (s.modAux k f).time = s.time := (rfl)
@[simp] theorem State.modAux_tick (k : Nat) (f : Aux → Aux) : (s.modAux k f).tick = s.tick := (rfl)
@[simp] theorem State.modAux_free (k : Nat) (f : Aux → Aux) : (s.modAux k f).free = s.free := (rfl)
@[simp] theorem State.modAux_tl (k : Nat) (f : Aux → Aux) : (s.modAux k f).tl = s.tl := (rfl)
@[simp] theorem State.modAux_mu (k : Nat) (f : Aux → Aux) : (s.modAux k f).mu = s.mu := (rfl)
@[simp] theorem State.modAux_hk (k : Nat) (f : Aux → Aux) : (s.modAux k f).hk = s.hk := (rfl)
@[simp] theorem State.modAux_log (k : Nat) (f : Aux → Aux) : (s.modAux k f).log = s.log := (rfl)
@[simp] theorem State.modAux_seqs (k : Nat) (f : Aux → Aux) : (s.modAux k f).seqs = s.seqs := (rfl)
@[simp] theorem State.modAux_host (k : Nat) (f : Aux → Aux) : (s.modAux k f).host = s.host := (rfl)
@[simp] theorem State.modAux_dict (k : Nat) (f : Aux → Aux) : (s.modAux k f).dict = s.dict := (rfl)
@[simp] theorem State.modAux_mclk (k : Nat) (f : Aux → Aux) : (s.modAux k f).mclk = s.mclk := (rfl)
@[simp] theorem State.modAux_sd (k : Nat) (f : Aux → Aux) : (s.modAux k f).sd = s.sd := (rfl)
@[simp] theorem State.modAux_enc (k : Nat) (f : Aux → Aux) : (s.modAux k f).enc = s.enc := (rfl)
@[simp] theorem State.modAux_eng (k : Nat) (f : Aux → Aux) : (s.modAux k f).eng = s.eng := (rfl)
@[simp] theorem State.modAux_slices (k : Nat) (f : Aux → Aux) : (s.modAux k f).slices = s.slices := (rfl)
@[simp] theorem State.modAux_gl (k : Nat) (f : Aux → Aux) : (s.modAux k f).gl = s.gl := (rfl)
@[simp] theorem State.modAux_ref (k : Nat) (f : Aux → Aux) : (s.modAux k f).ref = s.ref := (rfl)
@[simp] theorem State.modAux_cp (k : Nat) (f : Aux → Aux) : (s.modAux k f).cp = s.cp := (rfl)
@[simp] theorem State.modAux_flk (k : Nat) (f : Aux → Aux) : (s.modAux k f).flk = s.flk := (rfl)
@[simp] theorem State.modAux_ring (k : Nat) (f : Aux → Aux) : (s.modAux k f).ring = s.ring := (rfl)
@[simp] theorem State.modAux_can (k : Nat) (f : Aux → Aux) : (s.modAux k f).can = s.can := (rfl)
@[simp] theorem State.modAux_canPub (k : Nat) (f : Aux → Aux) : (s.modAux k f).canPub = s.canPub := (rfl)
@[simp] theorem State.modAux_eth (k : Nat) (f : Aux → Aux) : (s.modAux k f).eth = s.eth := (rfl)
@[simp] theorem State.modAux_tio (k : Nat) (f : Aux → Aux) : (s.modAux k f).tio = s.tio := (rfl)
@[simp] theorem State.modAux_dia (k : Nat) (f : Aux → Aux) : (s.modAux k f).dia = s.dia := (rfl)

/-! `State.setGl` -/

@[simp] theorem State.setGl_pending (k : Nat) (v : Gl) : (s.setGl k v).pending = s.pending := (rfl)
@[simp] theorem State.setGl_time (k : Nat) (v : Gl) : (s.setGl k v).time = s.time := (rfl)
@[simp] theorem State.setGl_tick (k : Nat) (v : Gl) : (s.setGl k v).tick = s.tick := (rfl)
@[simp] theorem State.setGl_free (k : Nat) (v : Gl) : (s.setGl k v).free = s.free := (rfl)
@[simp] theorem State.setGl_tl (k : Nat) (v : Gl) : (s.setGl k v).tl = s.tl := (rfl)
@[simp] theorem State.setGl_mu (k : Nat) (v : Gl) : (s.setGl k v).mu = s.mu := (rfl)
@[simp] theorem State.setGl_hk (k : Nat) (v : Gl) : (s.setGl k v).hk = s.hk := (rfl)
@[simp] theorem State.setGl_log (k : Nat) (v : Gl) : (s.setGl k v).log = s.log := (rfl)
@[simp] theorem State.setGl_seqs (k : Nat) (v : Gl) : (s.setGl k v).seqs = s.seqs := (rfl)
@[simp] theorem State.setGl_host (k : Nat) (v : Gl) : (s.setGl k v).host = s.host := (rfl)
@[simp] theorem State.setGl_dict (k : Nat) (v : Gl) : (s.setGl k v).dict = s.dict := (rfl)
@[simp] theorem State.setGl_mclk (k : Nat) (v : Gl) : (s.setGl k v).mclk = s.mclk := (rfl)
@[simp] theorem State.setGl_sd (k : Nat) (v : Gl) : (s.setGl k v).sd = s.sd := (rfl)
@[simp] theorem State.setGl_aux (k : Nat) (v : Gl) : (s.setGl k v).aux = s.aux := (rfl)
@[simp] theorem State.setGl_enc (k : Nat) (v : Gl) : (s.setGl k v).enc = s.enc := (rfl)
@[simp] theorem State.setGl_eng (k : Nat) (v : Gl) : (s.setGl k v).eng = s.eng := (rfl)
@[simp] theorem State.setGl_slices (k : Nat) (v : Gl) : (s.setGl k v).slices = s.slices := (rfl)
@[simp] theorem State.setGl_ref (k : Nat) (v : Gl) : (s.setGl k v).ref = s.ref := (rfl)
@[simp] theorem State.setGl_cp (k : Nat) (v : Gl) : (s.setGl k v).cp = s.cp := (rfl)
@[simp] theorem State.setGl_flk (k : Nat) (v : Gl) : (s.setGl k v).flk = s.flk := (rfl)
@[simp] theorem State.setGl_ring (k : Nat) (v : Gl) : (s.setGl k v).ring = s.ring := (rfl)
@[simp] theorem State.setGl_can (k : Nat) (v : Gl) : (s.setGl k v).can = s.can := (rfl)
@[simp] theorem State.setGl_canPub (k : Nat) (v : Gl) : (s.setGl k v).canPub = s.canPub := (rfl)
@[simp] theorem State.setGl_eth (k : Nat) (v : Gl) : (s.setGl k v).eth = s.eth := (rfl)
@[simp] theorem State.setGl_tio (k : Nat) (v : Gl) : (s.setGl k v).tio = s.tio := (rfl)
@[simp] theorem State.setGl_dia (k : Nat) (v : Gl) : (s.setGl k v).dia = s.dia := (rfl)

/-! `State.modGl` -/

@[simp] theorem State.modGl_pending (k : Nat) (f : Gl → Gl) : (s.modGl k f).pending = s.pending := (rfl)
@[simp] theorem State.modGl_time (k : Nat) (f : Gl → Gl) : (s.modGl k f).time = s.time := (rfl)
@[simp] theorem State.modGl_tick (k : Nat) (f : Gl → Gl) : (s.modGl k f).tick = s.tick := (rfl)
@[simp] theorem State.modGl_free (k : Nat) (f : Gl → Gl) : (s.modGl k f).free = s.free := (rfl)
@[simp] theorem State.modGl_tl (k : Nat) (f : Gl → Gl) : (s.modGl k f).tl = s.tl := (rfl)
@[simp] theorem State.modGl_mu (k : Nat) (f : Gl → Gl) : (s.modGl k f).mu = s.mu := (rfl)
@[simp] theorem State.modGl_hk (k : Nat) (f : Gl → Gl) : (s.modGl k f).hk = s.hk := (rfl)
@[simp] theorem State.modGl_log (k : Nat) (f : Gl → Gl) : (s.modGl k f).log = s.log := (rfl)
@[simp] theorem State.modGl_seqs (k : Nat) (f : Gl → Gl) : (s.modGl k f).seqs = s.seqs := (rfl)
@[simp] theorem State.modGl_host (k : Nat) (f : Gl → Gl) : (s.modGl k f).host = s.host := (rfl)
@[simp] theorem State.modGl_dict (k : Nat) (f : Gl → Gl) : (s.modGl k f).dict = s.dict := (rfl)
@[simp] theorem State.modGl_mclk (k : Nat) (f : Gl → Gl) : (s.modGl k f).mclk = s.mclk := (rfl)
@[simp] theorem State.modGl_sd (k : Nat) (f : Gl → Gl) : (s.modGl k f).sd = s.sd := (rfl)
@[simp] theorem State.modGl_aux (k : Nat) (f : Gl → Gl) : (s.modGl k f).aux = s.aux := (rfl)
@[simp] theorem State.modGl_enc (k : Nat) (f : Gl → Gl) : (s.modGl k f).enc = s.enc := (rfl)
@[simp] theorem State.modGl_eng (k : Nat) (f : Gl → Gl) : (s.modGl k f).eng = s.eng := (rfl)
@[simp] theorem State.modGl_slices (k : Nat) (f : Gl → Gl) : (s.modGl k f).slices = s.slices := (rfl)
@[simp] theorem State.modGl_ref (k : Nat) (f : Gl → Gl) : (s.modGl k f).ref = s.ref := (rfl)
@[simp] theorem State.modGl_cp (k : Nat) (f : Gl → Gl) : (s.modGl k f).cp = s.cp := (rfl)
@[simp] theorem State.modGl_flk (k : Nat) (f : Gl → Gl) : (s.modGl k f).flk = s.flk := (rfl)
@[simp] theorem State.modGl_ring (k : Nat) (f : Gl → Gl) : (s.modGl k f).ring = s.ring := (rfl)
@[simp] theorem State.modGl_can (k : Nat) (f : Gl → Gl) : (s.modGl k f).can = s.can := (rfl)
@[simp] theorem State.modGl_canPub (k : Nat) (f : Gl → Gl) : (s.modGl k f).canPub = s.canPub := (rfl)
@[simp] theorem State.modGl_eth (k : Nat) (f : Gl → Gl) : (s.modGl k f).eth = s.eth := (rfl)
@[simp] theorem State.modGl_tio (k : Nat) (f : Gl → Gl) : (s.modGl k f).tio = s.tio := (rfl)
@[simp] theorem State.modGl_dia (k : Nat) (f : Gl → Gl) : (s.modGl k f).dia = s.dia := (rfl)

/-! `State.setCan` -/

@[simp] theorem State.setCan_pending (k : Nat) (v : Can) : (s.setCan k v).pending = s.pending := (rfl)
@[simp] theorem State.setCan_time (k : Nat) (v : Can) : (s.setCan k v).time = s.time := (rfl)
@[simp] theorem State.setCan_tick (k : Nat) (v : Can) : (s.setCan k v).tick = s.tick := (rfl)
@[simp] theorem State.setCan_free (k : Nat) (v : Can) : (s.setCan k v).free = s.free := (rfl)
@[simp] theorem State.setCan_tl (k : Nat) (v : Can) : (s.setCan k v).tl = s.tl := (rfl)
@[simp] theorem State.setCan_mu (k : Nat) (v : Can) : (s.setCan k v).mu = s.mu := (rfl)
@[simp] theorem State.setCan_hk (k : Nat) (v : Can) : (s.setCan k v).hk = s.hk := (rfl)
@[simp] theorem State.setCan_log (k : Nat) (v : Can) : (s.setCan k v).log = s.log := (rfl)
@[simp] theorem State.setCan_seqs (k : Nat) (v : Can) : (s.setCan k v).seqs = s.seqs := (rfl)
@[simp] theorem State.setCan_host (k : Nat) (v : Can) : (s.setCan k v).host = s.host := (rfl)
@[simp] theorem State.setCan_dict (k : Nat) (v : Can) : (s.setCan k v).dict = s.dict := (rfl)
@[simp] theorem State.setCan_mclk (k : Nat) (v : Can) : (s.setCan k v).mclk = s.mclk := (rfl)
@[simp] theorem State.setCan_sd (k : Nat) (v : Can) : (s.setCan k v).sd = s.sd := (rfl)
@[simp] theorem State.setCan_aux (k : Nat) (v : Can) : (s.setCan k v).aux = s.aux := (rfl)
@[simp] theorem State.setCan_enc (k : Nat) (v : Can) : (s.setCan k v).enc = s.enc := (rfl)
@[simp] theorem State.setCan_eng (k : Nat) (v : Can) : (s.setCan k v).eng = s.eng := (rfl)
@[simp] theorem State.setCan_slices (k : Nat) (v : Can) : (s.setCan k v).slices = s.slices := (rfl)
@[simp] theorem State.setCan_gl (k : Nat) (v : Can) : (s.setCan k v).gl = s.gl := (rfl)
@[simp] theorem State.setCan_ref (k : Nat) (v : Can) : (s.setCan k v).ref = s.ref := (rfl)
@[simp] theorem State.setCan_cp (k : Nat) (v : Can) : (s.setCan k v).cp = s.cp := (rfl)
@[simp] theorem State.setCan_flk (k : Nat) (v : Can) : (s.setCan k v).flk = s.flk := (rfl)
@[simp] theorem State.setCan_ring (k : Nat) (v : Can) : (s.setCan k v).ring = s.ring := (rfl)
@[simp] theorem State.setCan_canPub (k : Nat) (v : Can) : (s.setCan k v).canPub = s.canPub := (rfl)
@[simp] theorem State.setCan_eth (k : Nat) (v : Can) : (s.setCan k v).eth = s.eth := (rfl)
@[simp] theorem State.setCan_tio (k : Nat) (v : Can) : (s.setCan k v).tio = s.tio := (rfl)
@[simp] theorem State.setCan_dia (k : Nat) (v : Can) : (s.setCan k v).dia = s.dia := (rfl)

/-! `State.modCan` -/

@[simp] theorem State.modCan_pending (k : Nat) (f : Can → Can) : (s.modCan k f).pending = s.pending := (rfl)
@[simp] theorem State.modCan_time (k : Nat) (f : Can → Can) : (s.modCan k f).time = s.time := (rfl)
@[simp] theorem State.modCan_tick (k : Nat) (f : Can → Can) : (s.modCan k f).tick = s.tick := (rfl)
@[simp] theorem State.modCan_free (k : Nat) (f : Can → Can) : (s.modCan k f).free = s.free := (rfl)
@[simp] theorem State.modCan_tl (k : Nat) (f : Can → Can) : (s.modCan k f).tl = s.tl := (rfl)
@[simp] theorem State.modCan_mu (k : Nat) (f : Can → Can) : (s.modCan k f).mu = s.mu := (rfl)
@[simp] theorem State.modCan_hk (k : Nat) (f : Can → Can) : (s.modCan k f).hk = s.hk := (rfl)
@[simp] theorem State.modCan_log (k : Nat) (f : Can → Can) : (s.modCan k f).log = s.log := (rfl)
@[simp] theorem State.modCan_seqs (k : Nat) (f : Can → Can) : (s.modCan k f).seqs = s.seqs := (rfl)
@[simp] theorem State.modCan_host (k : Nat) (f : Can → Can) : (s.modCan k f).host = s.host := (rfl)
@[simp] theorem State.modCan_dict (k : Nat) (f : Can → Can) : (s.modCan k f).dict = s.dict := (rfl)
@[simp] theorem State.modCan_mclk (k : Nat) (f : Can → Can) : (s.modCan k f).mclk = s.mclk := (rfl)
@[simp] theorem State.modCan_sd (k : Nat) (f : Can → Can) : (s.modCan k f).sd = s.sd := (rfl)
@[simp] theorem State.modCan_aux (k : Nat) (f : Can → Can) : (s.modCan k f).aux = s.aux := (rfl)
@[simp] theorem State.modCan_enc (k : Nat) (f : Can → Can) : (s.modCan k f).enc = s.enc := (rfl)
@[simp] theorem State.modCan_eng (k : Nat) (f : Can → Can) : (s.modCan k f).eng = s.eng := (rfl)
@[simp] theorem State.modCan_slices (k : Nat) (f : Can → Can) : (s.modCan k f).slices = s.slices := (rfl)
@[simp] theorem State.modCan_gl (k : Nat) (f : Can → Can) : (s.modCan k f).gl = s.gl := (rfl)
@[simp] theorem State.modCan_ref (k : Nat) (f : Can → Can) : (s.modCan k f).ref = s.ref := (rfl)
@[simp] theorem State.modCan_cp (k : Nat) (f : Can → Can) : (s.modCan k f).cp = s.cp := (rfl)
@[simp] theorem State.modCan_flk (k : Nat) (f : Can → Can) : (s.modCan k f).flk = s.flk := (rfl)
@[simp] theorem State.modCan_ring (k : Nat) (f : Can → Can) : (s.modCan k f).ring = s.ring := (rfl)
@[simp] theorem State.modCan_canPub (k : Nat) (f : Can → Can) : (s.modCan k f).canPub = s.canPub := (rfl)
@[simp] theorem State.modCan_eth (k : Nat) (f : Can → Can) : (s.modCan k f).eth = s.eth := (rfl)
@[simp] theorem State.modCan_tio (k : Nat) (f : Can → Can) : (s.modCan k f).tio = s.tio := (rfl)
@[simp] theorem State.modCan_dia (k : Nat) (f : Can → Can) : (s.modCan k f).dia = s.dia := (rfl)

/-! `State.setEth` -/

@[simp] theorem State.setEth_pending (k : Nat) (v : Eth) : (s.setEth k v).pending = s.pending := (rfl)
@[simp] theorem State.setEth_time (k : Nat) (v : Eth) : (s.setEth k v).time = s.time := (rfl)
@[simp] theorem State.setEth_tick (k : Nat) (v : Eth) : (s.setEth k v).tick = s.tick := (rfl)
@[simp] theorem State.setEth_free (k : Nat) (v : Eth) : (s.setEth k v).free = s.free := (rfl)
@[simp] theorem State.setEth_tl (k : Nat) (v : Eth) : (s.setEth k v).tl = s.tl := (rfl)
@[simp] theorem State.setEth_mu (k : Nat) (v : Eth) : (s.setEth k v).mu = s.mu := (rfl)
@[simp] theorem State.setEth_hk (k : Nat) (v : Eth) : (s.setEth k v).hk = s.hk := (rfl)
@[simp] theorem State.setEth_log (k : Nat) (v : Eth) : (s.setEth k v).log = s.log := (rfl)
@[simp] theorem State.setEth_seqs (k : Nat) (v : Eth) : (s.setEth k v).seqs = s.seqs := (rfl)
@[simp] theorem State.setEth_host (k : Nat) (v : Eth) : (s.setEth k v).host = s.host := (rfl)
@[simp] theorem State.setEth_dict (k : Nat) (v : Eth) : (s.setEth k v).dict = s.dict := (rfl)
@[simp] theorem State.setEth_mclk (k : Nat) (v : Eth) : (s.setEth k v).mclk = s.mclk := (rfl)
@[simp] theorem State.setEth_sd (k : Nat) (v : Eth) : (s.setEth k v).sd = s.sd := (rfl)
@[simp] theorem State.setEth_aux (k : Nat) (v : Eth) : (s.setEth k v).aux = s.aux := (rfl)
@[simp] theorem State.setEth_enc (k : Nat) (v : Eth) : (s.setEth k v).enc = s.enc := (rfl)
@[simp] theorem State.setEth_eng (k : Nat) (v : Eth) : (s.setEth k v).eng = s.eng := (rfl)
@[simp] theorem State.setEth_slices (k : Nat) (v : Eth) : (s.setEth k v).slices = s.slices := (rfl)
@[simp] theorem State.setEth_gl (k : Nat) (v : Eth) : (s.setEth k v).gl = s.gl := (rfl)
@[simp] theorem State.setEth_ref (k : Nat) (v : Eth) : (s.setEth k v).ref = s.ref := (rfl)
@[simp] theorem State.setEth_cp (k : Nat) (v : Eth) : (s.setEth k v).cp = s.cp := (rfl)
@[simp] theorem State.setEth_flk (k : Nat) (v : Eth) : (s.setEth k v).flk = s.flk := (rfl)
@[simp] theorem State.setEth_ring (k : Nat) (v : Eth) : (s.setEth k v).ring = s.ring := (rfl)
@[simp] theorem State.setEth_can (k : Nat) (v : Eth) : (s.setEth k v).can = s.can := (rfl)
@[simp] theorem State.setEth_canPub (k : Nat) (v : Eth) : (s.setEth k v).canPub = s.canPub := (rfl)
@[simp] theorem State.setEth_tio (k : Nat) (v : Eth) : (s.setEth k v).tio = s.tio := (rfl)
@[simp] theorem State.setEth_dia (k : Nat) (v : Eth) : (s.setEth k v).dia = s.dia := (rfl)

/-! `State.modEth` -/

@[simp] theorem State.modEth_pending (k : Nat) (f : Eth → Eth) : (s.modEth k f).pending = s.pending := (rfl)
@[simp] theorem State.modEth_time (k : Nat) (f : Eth → Eth) : (s.modEth k f).time = s.time := (rfl)
@[simp] theorem State.modEth_tick (k : Nat) (f : Eth → Eth) : (s.modEth k f).tick = s.tick := (rfl)
@[simp] theorem State.modEth_free (k : Nat) (f : Eth → Eth) : (s.modEth k f).free = s.free := (rfl)
@[simp] theorem State.modEth_tl (k : Nat) (f : Eth → Eth) : (s.modEth k f).tl = s.tl := (rfl)
@[simp] theorem State.modEth_mu (k : Nat) (f : Eth → Eth) : (s.modEth k f).mu = s.mu := (rfl)
@[simp] theorem State.modEth_hk (k : Nat) (f : Eth → Eth) : (s.modEth k f).hk = s.hk := (rfl)
@[simp] theorem State.modEth_log (k : Nat) (f : Eth → Eth) : (s.modEth k f).log = s.log := (rfl)
@[simp] theorem State.modEth_seqs (k : Nat) (f : Eth → Eth) : (s.modEth k f).seqs = s.seqs := (rfl)
@[simp] theorem State.modEth_host (k : Nat) (f : Eth → Eth) : (s.modEth k f).host = s.host := (rfl)
@[simp] theorem State.modEth_dict (k : Nat) (f : Eth → Eth) : (s.modEth k f).dict = s.dict := (rfl)
@[simp] theorem State.modEth_mclk (k : Nat) (f : Eth → Eth) : (s.modEth k f).mclk = s.mclk := (rfl)
@[simp] theorem State.modEth_sd (k : Nat) (f : Eth → Eth) : (s.modEth k f).sd = s.sd := (rfl)
@[simp] theorem State.modEth_aux (k : Nat) (f : Eth → Eth) : (s.modEth k f).aux = s.aux := (rfl)
@[simp] theorem State.modEth_enc (k : Nat) (f : Eth → Eth) : (s.modEth k f).enc = s.enc := (rfl)
@[simp] theorem State.modEth_eng (k : Nat) (f : Eth → Eth) : (s.modEth k f).eng = s.eng := (rfl)
@[simp] theorem State.modEth_slices (k : Nat) (f : Eth → Eth) : (s.modEth k f).slices = s.slices := (rfl)
@[simp] theorem State.modEth_gl (k : Nat) (f : Eth → Eth) : (s.modEth k f).gl = s.gl := (rfl)
@[simp] theorem State.modEth_ref (k : Nat) (f : Eth → Eth) : (s.modEth k f).ref = s.ref := (rfl)
@[simp] theorem State.modEth_cp (k : Nat) (f : Eth → Eth) : (s.modEth k f).cp = s.cp := (rfl)
@[simp] theorem State.modEth_flk (k : Nat) (f : Eth → Eth) : (s.modEth k f).flk = s.flk := (rfl)
@[simp] theorem State.modEth_ring (k : Nat) (f : Eth → Eth) : (s.modEth k f).ring = s.ring := (rfl)
@[simp] theorem State.modEth_can (k : Nat) (f : Eth → Eth) : (s.modEth k f).can = s.can := (rfl)
@[simp] theorem State.modEth_canPub (k : Nat) (f : Eth → Eth) : (s.modEth k f).canPub = s.canPub := (rfl)
@[simp] theorem State.modEth_tio (k : Nat) (f : Eth → Eth) : (s.modEth k f).tio = s.tio := (rfl)
@[simp] theorem State.modEth_dia (k : Nat) (f : Eth → Eth) : (s.modEth k f).dia = s.dia := (rfl)

/-! `State.setRs` -/

@[simp] theorem State.setRs_pending (k : Nat) (v : RefSlice) : (s.setRs k v).pending = s.pending := (rfl)
@[simp] theorem State.setRs_time (k : Nat) (v : RefSlice) : (s.setRs k v).time = s.time := (rfl)
@[simp] theorem State.setRs_tick (k : Nat) (v : RefSlice) : (s.setRs k v).tick = s.tick := (rfl)
@[simp] theorem State.setRs_free (k : Nat) (v : RefSlice) : (s.setRs k v).free = s.free := (rfl)
@[simp] theorem State.setRs_tl (k : Nat) (v : RefSlice) : (s.setRs k v).tl = s.tl := (rfl)
@[simp] theorem State.setRs_mu (k : Nat) (v : RefSlice) : (s.setRs k v).mu = s.mu := (rfl)
@[simp] theorem State.setRs_hk (k : Nat) (v : RefSlice) : (s.setRs k v).hk = s.hk := (rfl)
@[simp] theorem State.setRs_log (k : Nat) (v : RefSlice) : (s.setRs k v).log = s.log := (rfl)
@[simp] theorem State.setRs_seqs (k : Nat) (v : RefSlice) : (s.setRs k v).seqs = s.seqs := (rfl)
@[simp] theorem State.setRs_host (k : Nat) (v : RefSlice) : (s.setRs k v).host = s.host := (rfl)
@[simp] theorem State.setRs_dict (k : Nat) (v : RefSlice) : (s.setRs k v).dict = s.dict := (rfl)
@[simp] theorem State.setRs_mclk (k : Nat) (v : RefSlice) : (s.setRs k v).mclk = s.mclk := (rfl)
@[simp] theorem State.setRs_sd (k : Nat) (v : RefSlice) : (s.setRs k v).sd = s.sd := (rfl)
@[simp] theorem State.setRs_aux (k : Nat) (v : RefSlice) : (s.setRs k v).aux = s.aux := (rfl)
@[simp] theorem State.setRs_enc (k : Nat) (v : RefSlice) : (s.setRs k v).enc = s.enc := (rfl)
@[simp] theorem State.setRs_eng (k : Nat) (v : RefSlice) : (s.setRs k v).eng = s.eng := (rfl)
@[simp] theorem State.setRs_slices (k : Nat) (v : RefSlice) : (s.setRs k v).slices = s.slices := (rfl)
@[simp] theorem State.setRs_gl (k : Nat) (v : RefSlice) : (s.setRs k v).gl = s.gl := (rfl)
@[simp] theorem State.setRs_cp (k : Nat) (v : RefSlice) : (s.setRs k v).cp = s.cp := (rfl)
@[simp] theorem State.setRs_flk (k : Nat) (v : RefSlice) : (s.setRs k v).flk = s.flk := (rfl)
@[simp] theorem State.setRs_ring (k : Nat) (v : RefSlice) : (s.setRs k v).ring = s.ring := (rfl)
@[simp] theorem State.setRs_can (k : Nat) (v : RefSlice) : (s.setRs k v).can = s.can := (rfl)
@[simp] theorem State.setRs_canPub (k : Nat) (v : RefSlice) : (s.setRs k v).canPub = s.canPub := (rfl)
@[simp] theorem State.setRs_eth (k : Nat) (v : RefSlice) : (s.setRs k v).eth = s.eth := (rfl)
@[simp] theorem State.setRs_tio (k : Nat) (v : RefSlice) : (s.setRs k v).tio = s.tio := (rfl)
@[simp] theorem State.setRs_dia (k : Nat) (v : RefSlice) : (s.setRs k v).dia = s.dia := (rfl)

/-! `State.modRs` -/

@[simp] theorem State.modRs_pending (k : Nat) (f : RefSlice → RefSlice) : (s.modRs k f).pending = s.pending := (rfl)
@[simp] theorem State.modRs_time (k : Nat) (f : RefSlice → RefSlice) : (s.modRs k f).time = s.time := (rfl)
@[simp] theorem State.modRs_tick (k : Nat) (f : RefSlice → RefSlice) : (s.modRs k f).tick = s.tick := (rfl)
@[simp] theorem State.modRs_free (k : Nat) (f : RefSlice → RefSlice) : (s.modRs k f).free = s.free := (rfl)
@[simp] theorem State.modRs_tl (k : Nat) (f : RefSlice → RefSlice) : (s.modRs k f).tl = s.tl := (rfl)
@[simp] theorem State.modRs_mu (k : Nat) (f : RefSlice → RefSlice) : (s.modRs k f).mu = s.mu := (rfl)
@[simp] theorem State.modRs_hk (k : Nat) (f : RefSlice → RefSlice) : (s.modRs k f).hk = s.hk := (rfl)
@[simp] theorem State.modRs_log (k : Nat) (f : RefSlice → RefSlice) : (s.modRs k f).log = s.log := (rfl)
@[simp] theorem State.modRs_seqs (k : Nat) (f : RefSlice → RefSlice) : (s.modRs k f).seqs = s.seqs := (rfl)
@[simp] theorem State.modRs_host (k : Nat) (f : RefSlice → RefSlice) : (s.modRs k f).host = s.host := (rfl)
@[simp] theorem State.modRs_dict (k : Nat) (f : RefSlice → RefSlice) : (s.modRs k f).dict = s.dict := (rfl)
@[simp] theorem State.modRs_mclk (k : Nat) (f : RefSlice → RefSlice) : (s.modRs k f).mclk = s.mclk := (rfl)
@[simp] theorem State.modRs_sd (k : Nat) (f : RefSlice → RefSlice) : (s.modRs k f).sd = s.sd := (rfl)
@[simp] theorem State.modRs_aux (k : Nat) (f : RefSlice → RefSlice) : (s.modRs k f).aux = s.aux := (rfl)
@[simp] theorem State.modRs_enc (k : Nat) (f : RefSlice → RefSlice) : (s.modRs k f).enc = s.enc := (rfl)
@[simp] theorem State.modRs_eng (k : Nat) (f : RefSlice → RefSlice) : (s.modRs k f).eng = s.eng := (rfl)
@[simp] theorem State.modRs_slices (k : Nat) (f : RefSlice → RefSlice) : (s.modRs k f).slices = s.slices := (rfl)
@[simp] theorem State.modRs_gl (k : Nat) (f : RefSlice → RefSlice) : (s.modRs k f).gl = s.gl := (rfl)
@[simp] theorem State.modRs_cp (k : Nat) (f : RefSlice → RefSlice) : (s.modRs k f).cp = s.cp := (rfl)
@[simp] theorem State.modRs_flk (k : Nat) (f : RefSlice → RefSlice) : (s.modRs k f).flk = s.flk := (rfl)
@[simp] theorem State.modRs_ring (k : Nat) (f : RefSlice → RefSlice) : (s.modRs k f).ring = s.ring := (rfl)
@[simp] theorem State.modRs_can (k : Nat) (f : RefSlice → RefSlice) : (s.modRs k f).can = s.can := (rfl)
@[simp] theorem State.modRs_canPub (k : Nat) (f : RefSlice → RefSlice) : (s.modRs k f).canPub = s.canPub := (rfl)
@[simp] theorem State.modRs_eth (k : Nat) (f : RefSlice → RefSlice) : (s.modRs k f).eth = s.eth := (rfl)
@[simp] theorem State.modRs_tio (k : Nat) (f : RefSlice → RefSlice) : (s.modRs k f).tio = s.tio := (rfl)
@[simp] theorem State.modRs_dia (k : Nat) (f : RefSlice → RefSlice) : (s.modRs k f).dia = s.dia := (rfl)

/-! `State.setPair` -/

@[simp] theorem State.setPair_pending (k : Nat) (v : Pair) : (s.setPair k v).pending = s.pending := (rfl)
@[simp] theorem State.setPair_time (k : Nat) (v : Pair) : (s.setPair k v).time = s.time := (rfl)
@[simp] theorem State.setPair_tick (k : Nat) (v : Pair) : (s.setPair k v).tick = s.tick := (rfl)
@[simp] theorem State.setPair_free (k : Nat) (v : Pair) : (s.setPair k v).free = s.free := (rfl)
@[simp] theorem State.setPair_tl (k : Nat) (v : Pair) : (s.setPair k v).tl = s.tl := (rfl)
@[simp] theorem State.setPair_mu (k : Nat) (v : Pair) : (s.setPair k v).mu = s.mu := (rfl)
@[simp] theorem State.setPair_hk (k : Nat) (v : Pair) : (s.setPair k v).hk = s.hk := (rfl)
@[simp] theorem State.setPair_log (k : Nat) (v : Pair) : (s.setPair k v).log = s.log := (rfl)
@[simp] theorem State.setPair_seqs (k : Nat) (v : Pair) : (s.setPair k v).seqs = s.seqs := (rfl)
@[simp] theorem State.setPair_dict (k : Nat) (v : Pair) : (s.setPair k v).dict = s.dict := (rfl)
@[simp] theorem State.setPair_mclk (k : Nat) (v : Pair) : (s.setPair k v).mclk = s.mclk := (rfl)
@[simp] theorem State.setPair_sd (k : Nat) (v : Pair) : (s.setPair k v).sd = s.sd := (rfl)
@[simp] theorem State.setPair_aux (k : Nat) (v : Pair) : (s.setPair k v).aux = s.aux := (rfl)
@[simp] theorem State.setPair_enc (k : Nat) (v : Pair) : (s.setPair k v).enc = s.enc := (rfl)
@[simp] theorem State.setPair_eng (k : Nat) (v : Pair) : (s.setPair k v).eng = s.eng := (rfl)
@[simp] theorem State.setPair_slices (k : Nat) (v : Pair) : (s.setPair k v).slices = s.slices := (rfl)
@[simp] theorem State.setPair_gl (k : Nat) (v : Pair) : (s.setPair k v).gl = s.gl := (rfl)
@[simp] theorem State.setPair_ref (k : Nat) (v : Pair) : (s.setPair k v).ref = s.ref := (rfl)
@[simp] theorem State.setPair_cp (k : Nat) (v : Pair) : (s.setPair k v).cp = s.cp := (rfl)
@[simp] theorem State.setPair_flk (k : Nat) (v : Pair) : (s.setPair k v).flk = s.flk := (rfl)
@[simp] theorem State.setPair_ring (k : Nat) (v : Pair) : (s.setPair k v).ring = s.ring := (rfl)
@[simp] theorem State.setPair_can (k : Nat) (v : Pair) : (s.setPair k v).can = s.can := (rfl)
@[simp] theorem State.setPair_canPub (k : Nat) (v : Pair) : (s.setPair k v).canPub = s.canPub := (rfl)
@[simp] theorem State.setPair_eth (k : Nat) (v : Pair) : (s.setPair k v).eth = s.eth := (rfl)
@[simp] theorem State.setPair_tio (k : Nat) (v : Pair) : (s.setPair k v).tio = s.tio := (rfl)
@[simp] theorem State.setPair_dia (k : Nat) (v : Pair) : (s.setPair k v).dia = s.dia := (rfl)

/-! `State.modPair` -/

@[simp] theorem State.modPair_pending (k : Nat) (f : Pair → Pair) : (s.modPair k f).pending = s.pending := (rfl)
@[simp] theorem State.modPair_time (k : Nat) (f : Pair → Pair) : (s.modPair k f).time = s.time := (rfl)
@[simp] theorem State.modPair_tick (k : Nat) (f : Pair → Pair) : (s.modPair k f).tick = s.tick := (rfl)
@[simp] theorem State.modPair_free (k : Nat) (f : Pair → Pair) : (s.modPair k f).free = s.free := (rfl)
@[simp] theorem State.modPair_tl (k : Nat) (f : Pair → Pair) : (s.modPair k f).tl = s.tl := (rfl)
@[simp] theorem State.modPair_mu (k : Nat) (f : Pair → Pair) : (s.modPair k f).mu = s.mu := (rfl)
@[simp] theorem State.modPair_hk (k : Nat) (f : Pair → Pair) : (s.modPair k f).hk = s.hk := (rfl)
@[simp] theorem State.modPair_log (k : Nat) (f : Pair → Pair) : (s.modPair k f).log = s.log := (rfl)
@[simp] theorem State.modPair_seqs (k : Nat) (f : Pair → Pair) : (s.modPair k f).seqs = s.seqs := (rfl)
@[simp] theorem State.modPair_dict (k : Nat) (f : Pair → Pair) : (s.modPair k f).dict = s.dict := (rfl)
@[simp] theorem State.modPair_mclk (k : Nat) (f : Pair → Pair) : (s.modPair k f).mclk = s.mclk := (rfl)
@[simp] theorem State.modPair_sd (k : Nat) (f : Pair → Pair) : (s.modPair k f).sd = s.sd := (rfl)
@[simp] theorem State.modPair_aux (k : Nat) (f : Pair → Pair) : (s.modPair k f).aux = s.aux := (rfl)
@[simp] theorem State.modPair_enc (k : Nat) (f : Pair → Pair) : (s.modPair k f).enc = s.enc := (rfl)
@[simp] theorem State.modPair_eng (k : Nat) (f : Pair → Pair) : (s.modPair k f).eng = s.eng := (rfl)
@[simp] theorem State.modPair_slices (k : Nat) (f : Pair → Pair) : (s.modPair k f).slices = s.slices := (rfl)
@[simp] theorem State.modPair_gl (k : Nat) (f : Pair → Pair) : (s.modPair k f).gl = s.gl := (rfl)
@[simp] theorem State.modPair_ref (k : Nat) (f : Pair → Pair) : (s.modPair k f).ref = s.ref := (rfl)
@[simp] theorem State.modPair_cp (k : Nat) (f : Pair → Pair) : (s.modPair k f).cp = s.cp := (rfl)
@[simp] theorem State.modPair_flk (k : Nat) (f : Pair → Pair) : (s.modPair k f).flk = s.flk := (rfl)
@[simp] theorem State.modPair_ring (k : Nat) (f : Pair → Pair) : (s.modPair k f).ring = s.ring := (rfl)
@[simp] theorem State.modPair_can (k : Nat) (f : Pair → Pair) : (s.modPair k f).can = s.can := (rfl)
@[simp] theorem State.modPair_canPub (k : Nat) (f : Pair → Pair) : (s.modPair k f).canPub = s.canPub := (rfl)
@[simp] theorem State.modPair_eth (k : Nat) (f : Pair → Pair) : (s.modPair k f).eth = s.eth := (rfl)
@[simp] theorem State.modPair_tio (k : Nat) (f : Pair → Pair) : (s.modPair k f).tio = s.tio := (rfl)
@[simp] theorem State.modPair_dia (k : Nat) (f : Pair → Pair) : (s.modPair k f).dia = s.dia := (rfl)

/-! `State.setTio` -/

@[simp] theorem State.setTio_pending (k : Nat) (v : Tio) : (s.setTio k v).pending = s.pending := (rfl)
@[simp] theorem State.setTio_time (k : Nat) (v : Tio) : (s.setTio k v).time = s.time := (rfl)
@[simp] theorem State.setTio_tick (k : Nat) (v : Tio) : (s.setTio k v).tick = s.tick := (rfl)
@[simp] theorem State.setTio_free (k : Nat) (v : Tio) : (s.setTio k v).free = s.free := (rfl)
@[simp] theorem State.setTio_tl (k : Nat) (v : Tio) : (s.setTio k v).tl = s.tl := (rfl)
@[simp] theorem State.setTio_mu (k : Nat) (v : Tio) : (s.setTio k v).mu = s.mu := (rfl)
@[simp] theorem State.setTio_hk (k : Nat) (v : Tio) : (s.setTio k v).hk = s.hk := (rfl)
@[simp] theorem State.setTio_log (k : Nat) (v : Tio) : (s.setTio k v).log = s.log := (rfl)
@[simp] theorem State.setTio_seqs (k : Nat) (v : Tio) : (s.setTio k v).seqs = s.seqs := (rfl)
@[simp] theorem State.setTio_host (k : Nat) (v : Tio) : (s.setTio k v).host = s.host := (rfl)
@[simp] theorem State.setTio_dict (k : Nat) (v : Tio) : (s.setTio k v).dict = s.dict := (rfl)
@[simp] theorem State.setTio_mclk (k : Nat) (v : Tio) : (s.setTio k v).mclk = s.mclk := (rfl)
@[simp] theorem State.setTio_sd (k : Nat) (v : Tio) : (s.setTio k v).sd = s.sd := (rfl)
@[simp] theorem State.setTio_aux (k : Nat) (v : Tio) : (s.setTio k v).aux = s.aux := (rfl)
@[simp] theorem State.setTio_enc (k : Nat) (v : Tio) : (s.setTio k v).enc = s.enc := (rfl)
@[simp] theorem State.setTio_eng (k : Nat) (v : Tio) : (s.setTio k v).eng = s.eng := (rfl)
@[simp] theorem State.setTio_slices (k : Nat) (v : Tio) : (s.setTio k v).slices = s.slices := (rfl)
@[simp] theorem State.setTio_gl (k : Nat) (v : Tio) : (s.setTio k v).gl = s.gl := (rfl)
@[simp] theorem State.setTio_ref (k : Nat) (v : Tio) : (s.setTio k v).ref = s.ref := (rfl)
@[simp] theorem State.setTio_cp (k : Nat) (v : Tio) : (s.setTio k v).cp = s.cp := (rfl)
@[simp] theorem State.setTio_flk (k : Nat) (v : Tio) : (s.setTio k v).flk = s.flk := (rfl)
@[simp] theorem State.setTio_ring (k : Nat) (v : Tio) : (s.setTio k v).ring = s.ring := (rfl)
@[simp] theorem State.setTio_can (k : Nat) (v : Tio) : (s.setTio k v).can = s.can := (rfl)
@[simp] theorem State.setTio_canPub (k : Nat) (v : Tio) : (s.setTio k v).canPub = s.canPub := (rfl)
@[simp] theorem State.setTio_eth (k : Nat) (v : Tio) : (s.setTio k v).eth = s.eth := (rfl)
@[simp] theorem State.setTio_dia (k : Nat) (v : Tio) : (s.setTio k v).dia = s.dia := (rfl)

/-! `State.setSess` -/

@[simp] theorem State.setSess_pending (k : Nat) (v : Option Session) : (s.setSess k v).pending = s.pending := (rfl)
@[simp] theorem State.setSess_time (k : Nat) (v : Option Session) : (s.setSess k v).time = s.time := (rfl)
@[simp] theorem State.setSess_tick (k : Nat) (v : Option Session) : (s.setSess k v).tick = s.tick := (rfl)
@[simp] theorem State.setSess_free (k : Nat) (v : Option Session) : (s.setSess k v).free = s.free := (rfl)
@[simp] theorem State.setSess_tl (k : Nat) (v : Option Session) : (s.setSess k v).tl = s.tl := (rfl)
@[simp] theorem State.setSess_mu (k : Nat) (v : Option Session) : (s.setSess k v).mu = s.mu := (rfl)
@[simp] theorem State.setSess_hk (k : Nat) (v : Option Session) : (s.setSess k v).hk = s.hk := (rfl)
@[simp] theorem State.setSess_log (k : Nat) (v : Option Session) : (s.setSess k v).log = s.log := (rfl)
@[simp] theorem State.setSess_seqs (k : Nat) (v : Option Session) : (s.setSess k v).seqs = s.seqs := (rfl)
@[simp] theorem State.setSess_dict (k : Nat) (v : Option Session) : (s.setSess k v).dict = s.dict := (rfl)
@[simp] theorem State.setSess_mclk (k : Nat) (v : Option Session) : (s.setSess k v).mclk = s.mclk := (rfl)
@[simp] theorem State.setSess_sd (k : Nat) (v : Option Session) : (s.setSess k v).sd = s.sd := (rfl)
@[simp] theorem State.setSess_aux (k : Nat) (v : Option Session) : (s.setSess k v).aux = s.aux := (rfl)
@[simp] theorem State.setSess_enc (k : Nat) (v : Option Session) : (s.setSess k v).enc = s.enc := (rfl)
@[simp] theorem State.setSess_eng (k : Nat) (v : Option Session) : (s.setSess k v).eng = s.eng := (rfl)
@[simp] theorem State.setSess_slices (k : Nat) (v : Option Session) : (s.setSess k v).slices = s.slices := (rfl)
@[simp] theorem State.setSess_gl (k : Nat) (v : Option Session) : (s.setSess k v).gl = s.gl := (rfl)
@[simp] theorem State.setSess_ref (k : Nat) (v : Option Session) : (s.setSess k v).ref = s.ref := (rfl)
@[simp] theorem State.setSess_cp (k : Nat) (v : Option Session) : (s.setSess k v).cp = s.cp := (rfl)
@[simp] theorem State.setSess_flk (k : Nat) (v : Option Session) : (s.setSess k v).flk = s.flk := (rfl)
@[simp] theorem State.setSess_ring (k : Nat) (v : Option Session) : (s.setSess k v).ring = s.ring := (rfl)
@[simp] theorem State.setSess_can (k : Nat) (v : Option Session) : (s.setSess k v).can = s.can := (rfl)
@[simp] theorem State.setSess_canPub (k : Nat) (v : Option Session) : (s.setSess k v).canPub = s.canPub := (rfl)
@[simp] theorem State.setSess_eth (k : Nat) (v : Option Session) : (s.setSess k v).eth = s.eth := (rfl)
@[simp] theorem State.setSess_tio (k : Nat) (v : Option Session) : (s.setSess k v).tio = s.tio := (rfl)
@[simp] theorem State.setSess_dia (k : Nat) (v : Option Session) : (s.setSess k v).dia = s.dia := (rfl)

/-! `State.drawNat` -/

@[simp] theorem State.drawNat_pending : s.drawNat.2.pending = s.pending := (rfl)
@[simp] theorem State.drawNat_time : s.drawNat.2.time = s.time := (rfl)
@[simp] theorem State.drawNat_tick : s.drawNat.2.tick = s.tick := (rfl)
@[simp] theorem State.drawNat_tl : s.drawNat.2.tl = s.tl := (rfl)
@[simp] theorem State.drawNat_mu : s.drawNat.2.mu = s.mu := (rfl)
@[simp] theorem State.drawNat_hk : s.drawNat.2.hk = s.hk := (rfl)
@[simp] theorem State.drawNat_log : s.drawNat.2.log = s.log := (rfl)
@[simp] theorem State.drawNat_seqs : s.drawNat.2.seqs = s.seqs := (rfl)
@[simp] theorem State.drawNat_host : s.drawNat.2.host = s.host := (rfl)
@[simp] theorem State.drawNat_dict : s.drawNat.2.dict = s.dict := (rfl)
@[simp] theorem State.drawNat_mclk : s.drawNat.2.mclk = s.mclk := (rfl)
@[simp] theorem State.drawNat_sd : s.drawNat.2.sd = s.sd := (rfl)
@[simp] theorem State.drawNat_aux : s.drawNat.2.aux = s.aux := (rfl)
@[simp] theorem State.drawNat_enc : s.drawNat.2.enc = s.enc := (rfl)
@[simp] theorem State.drawNat_eng : s.drawNat.2.eng = s.eng := (rfl)
@[simp] theorem State.drawNat_slices : s.drawNat.2.slices = s.slices := (rfl)
@[simp] theorem State.drawNat_gl : s.drawNat.2.gl = s.gl := (rfl)
@[simp] theorem State.drawNat_ref : s.drawNat.2.ref = s.ref := (rfl)
@[simp] theorem State.drawNat_cp : s.drawNat.2.cp = s.cp := (rfl)
@[simp] theorem State.drawNat_flk : s.drawNat.2.flk = s.flk := (rfl)
@[simp] theorem State.drawNat_ring : s.drawNat.2.ring = s.ring := (rfl)
@[simp] theorem State.drawNat_can : s.drawNat.2.can = s.can := (rfl)
@[simp] theorem State.drawNat_canPub : s.drawNat.2.canPub = s.canPub := (rfl)
@[simp] theorem State.drawNat_eth : s.drawNat.2.eth = s.eth := (rfl)
@[simp] theorem State.drawNat_tio : s.drawNat.2.tio = s.tio := (rfl)
@[simp] theorem State.drawNat_dia : s.drawNat.2.dia = s.dia := (rfl)

/-! `State.drawF32` -/

@[simp] theorem State.drawF32_pending : s.drawF32.2.pending = s.pending := (rfl)
@[simp] theorem State.drawF32_time : s.drawF32.2.time = s.time := (rfl)
@[simp] theorem State.drawF32_tick : s.drawF32.2.tick = s.tick := (rfl)
@[simp] theorem State.drawF32_tl : s.drawF32.2.tl = s.tl := (rfl)
@[simp] theorem State.drawF32_mu : s.drawF32.2.mu = s.mu := (rfl)
@[simp] theorem State.drawF32_hk : s.drawF32.2.hk = s.hk := (rfl)
@[simp] theorem State.drawF32_log : s.drawF32.2.log = s.log := (rfl)
@[simp] theorem State.drawF32_seqs : s.drawF32.2.seqs = s.seqs := (rfl)
@[simp] theorem State.drawF32_host : s.drawF32.2.host = s.host := (rfl)
@[simp] theorem State.drawF32_dict : s.drawF32.2.dict = s.dict := (rfl)
@[simp] theorem State.drawF32_mclk : s.drawF32.2.mclk = s.mclk := (rfl)
@[simp] theorem State.drawF32_sd : s.drawF32.2.sd = s.sd := (rfl)
@[simp] theorem State.drawF32_aux : s.drawF32.2.aux = s.aux := (rfl)
@[simp] theorem State.drawF32_enc : s.drawF32.2.enc = s.enc := (rfl)
@[simp] theorem State.drawF32_eng : s.drawF32.2.eng = s.eng := (rfl)
@[simp] theorem State.drawF32_slices : s.drawF32.2.slices = s.slices := (rfl)
@[simp] theorem State.drawF32_gl : s.drawF32.2.gl = s.gl := (rfl)
@[simp] theorem State.drawF32_ref : s.drawF32.2.ref = s.ref := (rfl)
@[simp] theorem State.drawF32_cp : s.drawF32.2.cp = s.cp := (rfl)
@[simp] theorem State.drawF32_flk : s.drawF32.2.flk = s.flk := (rfl)
@[simp] theorem State.drawF32_ring : s.drawF32.2.ring = s.ring := (rfl)
@[simp] theorem State.drawF32_can : s.drawF32.2.can = s.can := (rfl)
@[simp] theorem State.drawF32_canPub : s.drawF32.2.canPub = s.canPub := (rfl)
@[simp] theorem State.drawF32_eth : s.drawF32.2.eth = s.eth := (rfl)
@[simp] theorem State.drawF32_tio : s.drawF32.2.tio = s.tio := (rfl)
@[simp] theorem State.drawF32_dia : s.drawF32.2.dia = s.dia := (rfl)

/-! `State.run` and `State.runT`: the frame around a command -/

variable (dt : Nat) (f : State → State)

@[simp] theorem State.run_pending : (s.run dt f).pending = s.pending := (rfl)
@[simp] theorem State.run_time : (s.run dt f).time = (s.elapse dt).time := (rfl)
@[simp] theorem State.run_tick : (s.run dt f).tick = (f (s.elapse dt)).tick := (rfl)
@[simp] theorem State.run_free : (s.run dt f).free = (f (s.elapse dt)).free := (rfl)
@[simp] theorem State.run_tl : (s.run dt f).tl = (f (s.elapse dt)).tl := (rfl)
@[simp] theorem State.run_mu : (s.run dt f).mu = (f (s.elapse dt)).mu := (rfl)
@[simp] theorem State.run_hk : (s.run dt f).hk = (f (s.elapse dt)).hk := (rfl)
@[simp] theorem State.run_log : (s.run dt f).log = (f (s.elapse dt)).log := (rfl)
@[simp] theorem State.run_seqs : (s.run dt f).seqs = (f (s.elapse dt)).seqs := (rfl)
@[simp] theorem State.run_host : (s.run dt f).host = (f (s.elapse dt)).host := (rfl)
@[simp] theorem State.run_dict : (s.run dt f).dict = (f (s.elapse dt)).dict := (rfl)
@[simp] theorem State.run_mclk : (s.run dt f).mclk = (f (s.elapse dt)).mclk := (rfl)
@[simp] theorem State.run_sd : (s.run dt f).sd = (f (s.elapse dt)).sd := (rfl)
@[simp] theorem State.run_aux : (s.run dt f).aux = (f (s.elapse dt)).aux := (rfl)
@[simp] theorem State.run_enc : (s.run dt f).enc = (f (s.elapse dt)).enc := (rfl)
@[simp] theorem State.run_eng : (s.run dt f).eng = (f (s.elapse dt)).eng := (rfl)
@[simp] theorem State.run_slices : (s.run dt f).slices = (f (s.elapse dt)).slices := (rfl)
@[simp] theorem State.run_gl : (s.run dt f).gl = (f (s.elapse dt)).gl := (rfl)
@[simp] theorem State.run_ref : (s.run dt f).ref = (f (s.elapse dt)).ref := (rfl)
@[simp] theorem State.run_cp : (s.run dt f).cp = (f (s.elapse dt)).cp := (rfl)
@[simp] theorem State.run_flk : (s.run dt f).flk = (f (s.elapse dt)).flk := (rfl)
@[simp] theorem State.run_ring : (s.run dt f).ring = (f (s.elapse dt)).ring := (rfl)
@[simp] theorem State.run_can : (s.run dt f).can = (f (s.elapse dt)).can := (rfl)
@[simp] theorem State.run_canPub : (s.run dt f).canPub = (f (s.elapse dt)).canPub := (rfl)
@[simp] theorem State.run_eth : (s.run dt f).eth = (f (s.elapse dt)).eth := (rfl)
@[simp] theorem State.run_tio : (s.run dt f).tio = (f (s.elapse dt)).tio := (rfl)
@[simp] theorem State.run_dia : (s.run dt f).dia = (f (s.elapse dt)).dia := (rfl)
@[simp] theorem State.runT_pending : (s.runT dt f).pending = s.pending := (rfl)
@[simp] theorem State.runT_time : (s.runT dt f).time = (f (s.elapse dt)).time.held := (rfl)
@[simp] theorem State.runT_tick : (s.runT dt f).tick = (f (s.elapse dt)).tick := (rfl)
@[simp] theorem State.runT_free : (s.runT dt f).free = (f (s.elapse dt)).free := (rfl)
@[simp] theorem State.runT_tl : (s.runT dt f).tl = (f (s.elapse dt)).tl := (rfl)
@[simp] theorem State.runT_mu : (s.runT dt f).mu = (f (s.elapse dt)).mu := (rfl)
@[simp] theorem State.runT_hk : (s.runT dt f).hk = (f (s.elapse dt)).hk := (rfl)
@[simp] theorem State.runT_log : (s.runT dt f).log = (f (s.elapse dt)).log := (rfl)
@[simp] theorem State.runT_seqs : (s.runT dt f).seqs = (f (s.elapse dt)).seqs := (rfl)
@[simp] theorem State.runT_host : (s.runT dt f).host = (f (s.elapse dt)).host := (rfl)
@[simp] theorem State.runT_dict : (s.runT dt f).dict = (f (s.elapse dt)).dict := (rfl)
@[simp] theorem State.runT_mclk : (s.runT dt f).mclk = (f (s.elapse dt)).mclk := (rfl)
@[simp] theorem State.runT_sd : (s.runT dt f).sd = (f (s.elapse dt)).sd := (rfl)
@[simp] theorem State.runT_aux : (s.runT dt f).aux = (f (s.elapse dt)).aux := (rfl)
@[simp] theorem State.runT_enc : (s.runT dt f).enc = (f (s.elapse dt)).enc := (rfl)
@[simp] theorem State.runT_eng : (s.runT dt f).eng = (f (s.elapse dt)).eng := (rfl)
@[simp] theorem State.runT_slices : (s.runT dt f).slices = (f (s.elapse dt)).slices := (rfl)
@[simp] theorem State.runT_gl : (s.runT dt f).gl = (f (s.elapse dt)).gl := (rfl)
@[simp] theorem State.runT_ref : (s.runT dt f).ref = (f (s.elapse dt)).ref := (rfl)
@[simp] theorem State.runT_cp : (s.runT dt f).cp = (f (s.elapse dt)).cp := (rfl)
@[simp] theorem State.runT_flk : (s.runT dt f).flk = (f (s.elapse dt)).flk := (rfl)
@[simp] theorem State.runT_ring : (s.runT dt f).ring = (f (s.elapse dt)).ring := (rfl)
@[simp] theorem State.runT_can : (s.runT dt f).can = (f (s.elapse dt)).can := (rfl)
@[simp] theorem State.runT_canPub : (s.runT dt f).canPub = (f (s.elapse dt)).canPub := (rfl)
@[simp] theorem State.runT_eth : (s.runT dt f).eth = (f (s.elapse dt)).eth := (rfl)
@[simp] theorem State.runT_tio : (s.runT dt f).tio = (f (s.elapse dt)).tio := (rfl)
@[simp] theorem State.runT_dia : (s.runT dt f).dia = (f (s.elapse dt)).dia := (rfl)

theorem State.elapse_time : (s.elapse dt).time = (if dt = 0 then s.time else s.time.note s.tick s.quality).run dt := rfl
@[simp] theorem State.elapse_tick : (s.elapse dt).tick = s.tick + dt := rfl

end Sys2Proof.Machine
end

