-- ==== Sys2Proof/Laws/Fold.lean ====
section
/-!
SUPPORT. A loop over a list keeps a part of State that every pass of it keeps; a choice between two states.
-/

namespace Sys2Proof.Machine

/-- What every pass of a loop keeps, the loop keeps. -/
theorem foldl_keep {α β γ : Type} (f : β → γ) (g : β → α → β) (h : ∀ b a, f (g b a) = f b) :
    ∀ (l : List α) (b : β), f (l.foldl g b) = f b
  | [], _ => rfl
  | a :: l, b => (foldl_keep f g h l (g b a)).trans (h b a)

variable {α : Type} (l : List α) (g : State → α → State) (s : State)

@[simp] theorem foldl_pending (h : ∀ t a, (g t a).pending = t.pending) : (l.foldl g s).pending = s.pending := foldl_keep State.pending g h l s
@[simp] theorem foldl_time (h : ∀ t a, (g t a).time = t.time) : (l.foldl g s).time = s.time := foldl_keep State.time g h l s
@[simp] theorem foldl_tick (h : ∀ t a, (g t a).tick = t.tick) : (l.foldl g s).tick = s.tick := foldl_keep State.tick g h l s
@[simp] theorem foldl_free (h : ∀ t a, (g t a).free = t.free) : (l.foldl g s).free = s.free := foldl_keep State.free g h l s
@[simp] theorem foldl_tl (h : ∀ t a, (g t a).tl = t.tl) : (l.foldl g s).tl = s.tl := foldl_keep State.tl g h l s
@[simp] theorem foldl_mu (h : ∀ t a, (g t a).mu = t.mu) : (l.foldl g s).mu = s.mu := foldl_keep State.mu g h l s
@[simp] theorem foldl_hk (h : ∀ t a, (g t a).hk = t.hk) : (l.foldl g s).hk = s.hk := foldl_keep State.hk g h l s
@[simp] theorem foldl_log (h : ∀ t a, (g t a).log = t.log) : (l.foldl g s).log = s.log := foldl_keep State.log g h l s
@[simp] theorem foldl_seqs (h : ∀ t a, (g t a).seqs = t.seqs) : (l.foldl g s).seqs = s.seqs := foldl_keep State.seqs g h l s
@[simp] theorem foldl_host (h : ∀ t a, (g t a).host = t.host) : (l.foldl g s).host = s.host := foldl_keep State.host g h l s
@[simp] theorem foldl_dict (h : ∀ t a, (g t a).dict = t.dict) : (l.foldl g s).dict = s.dict := foldl_keep State.dict g h l s
@[simp] theorem foldl_mclk (h : ∀ t a, (g t a).mclk = t.mclk) : (l.foldl g s).mclk = s.mclk := foldl_keep State.mclk g h l s
@[simp] theorem foldl_sd (h : ∀ t a, (g t a).sd = t.sd) : (l.foldl g s).sd = s.sd := foldl_keep State.sd g h l s
@[simp] theorem foldl_aux (h : ∀ t a, (g t a).aux = t.aux) : (l.foldl g s).aux = s.aux := foldl_keep State.aux g h l s
@[simp] theorem foldl_enc (h : ∀ t a, (g t a).enc = t.enc) : (l.foldl g s).enc = s.enc := foldl_keep State.enc g h l s
@[simp] theorem foldl_eng (h : ∀ t a, (g t a).eng = t.eng) : (l.foldl g s).eng = s.eng := foldl_keep State.eng g h l s
@[simp] theorem foldl_slices (h : ∀ t a, (g t a).slices = t.slices) : (l.foldl g s).slices = s.slices := foldl_keep State.slices g h l s
@[simp] theorem foldl_gl (h : ∀ t a, (g t a).gl = t.gl) : (l.foldl g s).gl = s.gl := foldl_keep State.gl g h l s
@[simp] theorem foldl_ref (h : ∀ t a, (g t a).ref = t.ref) : (l.foldl g s).ref = s.ref := foldl_keep State.ref g h l s
@[simp] theorem foldl_cp (h : ∀ t a, (g t a).cp = t.cp) : (l.foldl g s).cp = s.cp := foldl_keep State.cp g h l s
@[simp] theorem foldl_flk (h : ∀ t a, (g t a).flk = t.flk) : (l.foldl g s).flk = s.flk := foldl_keep State.flk g h l s
@[simp] theorem foldl_ring (h : ∀ t a, (g t a).ring = t.ring) : (l.foldl g s).ring = s.ring := foldl_keep State.ring g h l s
@[simp] theorem foldl_can (h : ∀ t a, (g t a).can = t.can) : (l.foldl g s).can = s.can := foldl_keep State.can g h l s
@[simp] theorem foldl_canPub (h : ∀ t a, (g t a).canPub = t.canPub) : (l.foldl g s).canPub = s.canPub := foldl_keep State.canPub g h l s
@[simp] theorem foldl_eth (h : ∀ t a, (g t a).eth = t.eth) : (l.foldl g s).eth = s.eth := foldl_keep State.eth g h l s
@[simp] theorem foldl_tio (h : ∀ t a, (g t a).tio = t.tio) : (l.foldl g s).tio = s.tio := foldl_keep State.tio g h l s
@[simp] theorem foldl_dia (h : ∀ t a, (g t a).dia = t.dia) : (l.foldl g s).dia = s.dia := foldl_keep State.dia g h l s

/-! A choice between two states: each part is the same choice between the parts. -/

variable (c : Prop) [Decidable c] (a b : State)

theorem State.ite_frame :
    (if c then a else b).pending = (if c then a.pending else b.pending) ∧
    (if c then a else b).time = (if c then a.time else b.time) ∧
    (if c then a else b).tick = (if c then a.tick else b.tick) ∧
    (if c then a else b).free = (if c then a.free else b.free) ∧
    (if c then a else b).tl = (if c then a.tl else b.tl) ∧
    (if c then a else b).mu = (if c then a.mu else b.mu) ∧
    (if c then a else b).hk = (if c then a.hk else b.hk) ∧
    (if c then a else b).log = (if c then a.log else b.log) ∧
    (if c then a else b).seqs = (if c then a.seqs else b.seqs) ∧
    (if c then a else b).host = (if c then a.host else b.host) ∧
    (if c then a else b).dict = (if c then a.dict else b.dict) ∧
    (if c then a else b).mclk = (if c then a.mclk else b.mclk) ∧
    (if c then a else b).sd = (if c then a.sd else b.sd) ∧
    (if c then a else b).aux = (if c then a.aux else b.aux) ∧
    (if c then a else b).enc = (if c then a.enc else b.enc) ∧
    (if c then a else b).eng = (if c then a.eng else b.eng) ∧
    (if c then a else b).slices = (if c then a.slices else b.slices) ∧
    (if c then a else b).gl = (if c then a.gl else b.gl) ∧
    (if c then a else b).ref = (if c then a.ref else b.ref) ∧
    (if c then a else b).cp = (if c then a.cp else b.cp) ∧
    (if c then a else b).flk = (if c then a.flk else b.flk) ∧
    (if c then a else b).ring = (if c then a.ring else b.ring) ∧
    (if c then a else b).can = (if c then a.can else b.can) ∧
    (if c then a else b).canPub = (if c then a.canPub else b.canPub) ∧
    (if c then a else b).eth = (if c then a.eth else b.eth) ∧
    (if c then a else b).tio = (if c then a.tio else b.tio) ∧
    (if c then a else b).dia = (if c then a.dia else b.dia) := by
  split <;> simp

end Sys2Proof.Machine
end

