-- ==== Sys2Proof/Laws/Ops.lean ====
section
/-!
SUPPORT. What each operation of Machine/Ops.lean leaves as it was: the parts of State that it cannot change.
-/

namespace Sys2Proof.Machine

open Sys2Proof

theorem State.elapse_frame (s : State) (a1 : Nat) :
    (State.elapse s a1).pending = s.pending ∧
    (State.elapse s a1).free = s.free ∧
    (State.elapse s a1).tl = s.tl ∧
    (State.elapse s a1).mu = s.mu ∧
    (State.elapse s a1).hk = s.hk ∧
    (State.elapse s a1).log = s.log ∧
    (State.elapse s a1).seqs = s.seqs ∧
    (State.elapse s a1).host = s.host ∧
    (State.elapse s a1).dict = s.dict ∧
    (State.elapse s a1).mclk = s.mclk ∧
    (State.elapse s a1).sd = s.sd ∧
    (State.elapse s a1).aux = s.aux ∧
    (State.elapse s a1).enc = s.enc ∧
    (State.elapse s a1).eng = s.eng ∧
    (State.elapse s a1).slices = s.slices ∧
    (State.elapse s a1).gl = s.gl ∧
    (State.elapse s a1).ref = s.ref ∧
    (State.elapse s a1).cp = s.cp ∧
    (State.elapse s a1).flk = s.flk ∧
    (State.elapse s a1).ring = s.ring ∧
    (State.elapse s a1).can = s.can ∧
    (State.elapse s a1).canPub = s.canPub ∧
    (State.elapse s a1).eth = s.eth ∧
    (State.elapse s a1).tio = s.tio ∧
    (State.elapse s a1).dia = s.dia := by
  unfold State.elapse
  simp

theorem State.setInc_frame (s : State) (a1 : Nat) :
    (State.setInc s a1).pending = s.pending ∧
    (State.setInc s a1).tick = s.tick ∧
    (State.setInc s a1).free = s.free ∧
    (State.setInc s a1).tl = s.tl ∧
    (State.setInc s a1).mu = s.mu ∧
    (State.setInc s a1).hk = s.hk ∧
    (State.setInc s a1).log = s.log ∧
    (State.setInc s a1).seqs = s.seqs ∧
    (State.setInc s a1).host = s.host ∧
    (State.setInc s a1).dict = s.dict ∧
    (State.setInc s a1).mclk = s.mclk ∧
    (State.setInc s a1).sd = s.sd ∧
    (State.setInc s a1).aux = s.aux ∧
    (State.setInc s a1).enc = s.enc ∧
    (State.setInc s a1).eng = s.eng ∧
    (State.setInc s a1).slices = s.slices ∧
    (State.setInc s a1).gl = s.gl ∧
    (State.setInc s a1).ref = s.ref ∧
    (State.setInc s a1).cp = s.cp ∧
    (State.setInc s a1).flk = s.flk ∧
    (State.setInc s a1).ring = s.ring ∧
    (State.setInc s a1).can = s.can ∧
    (State.setInc s a1).canPub = s.canPub ∧
    (State.setInc s a1).eth = s.eth ∧
    (State.setInc s a1).tio = s.tio ∧
    (State.setInc s a1).dia = s.dia := by
  unfold State.setInc
  simp

theorem State.bumpSeq_frame (s : State) (a1 : Nat) :
    (State.bumpSeq s a1).pending = s.pending ∧
    (State.bumpSeq s a1).time = s.time ∧
    (State.bumpSeq s a1).tick = s.tick ∧
    (State.bumpSeq s a1).free = s.free ∧
    (State.bumpSeq s a1).tl = s.tl ∧
    (State.bumpSeq s a1).mu = s.mu ∧
    (State.bumpSeq s a1).hk = s.hk ∧
    (State.bumpSeq s a1).log = s.log ∧
    (State.bumpSeq s a1).host = s.host ∧
    (State.bumpSeq s a1).dict = s.dict ∧
    (State.bumpSeq s a1).mclk = s.mclk ∧
    (State.bumpSeq s a1).sd = s.sd ∧
    (State.bumpSeq s a1).aux = s.aux ∧
    (State.bumpSeq s a1).enc = s.enc ∧
    (State.bumpSeq s a1).eng = s.eng ∧
    (State.bumpSeq s a1).slices = s.slices ∧
    (State.bumpSeq s a1).gl = s.gl ∧
    (State.bumpSeq s a1).ref = s.ref ∧
    (State.bumpSeq s a1).cp = s.cp ∧
    (State.bumpSeq s a1).flk = s.flk ∧
    (State.bumpSeq s a1).ring = s.ring ∧
    (State.bumpSeq s a1).can = s.can ∧
    (State.bumpSeq s a1).canPub = s.canPub ∧
    (State.bumpSeq s a1).eth = s.eth ∧
    (State.bumpSeq s a1).tio = s.tio ∧
    (State.bumpSeq s a1).dia = s.dia := by
  unfold State.bumpSeq
  simp

theorem State.trace_frame (s : State) (a1 : Rec) :
    (State.trace s a1).pending = s.pending ∧
    (State.trace s a1).time = s.time ∧
    (State.trace s a1).tick = s.tick ∧
    (State.trace s a1).free = s.free ∧
    (State.trace s a1).tl = s.tl ∧
    (State.trace s a1).mu = s.mu ∧
    (State.trace s a1).hk = s.hk ∧
    (State.trace s a1).log = s.log ∧
    (State.trace s a1).seqs = s.seqs ∧
    (State.trace s a1).host = s.host ∧
    (State.trace s a1).dict = s.dict ∧
    (State.trace s a1).mclk = s.mclk ∧
    (State.trace s a1).sd = s.sd ∧
    (State.trace s a1).aux = s.aux ∧
    (State.trace s a1).enc = s.enc ∧
    (State.trace s a1).eng = s.eng ∧
    (State.trace s a1).slices = s.slices ∧
    (State.trace s a1).gl = s.gl ∧
    (State.trace s a1).ref = s.ref ∧
    (State.trace s a1).cp = s.cp ∧
    (State.trace s a1).flk = s.flk ∧
    (State.trace s a1).ring = s.ring ∧
    (State.trace s a1).can = s.can ∧
    (State.trace s a1).canPub = s.canPub ∧
    (State.trace s a1).eth = s.eth ∧
    (State.trace s a1).tio = s.tio := by
  have k1 := @State.ite_frame
  unfold State.trace
  simp [k1]

theorem State.record_frame (s : State) (a1 : Nat) (a2 : Stamp) (a3 : List Byte) :
    (State.record s a1 a2 a3).pending = s.pending ∧
    (State.record s a1 a2 a3).time = s.time ∧
    (State.record s a1 a2 a3).tick = s.tick ∧
    (State.record s a1 a2 a3).free = s.free ∧
    (State.record s a1 a2 a3).tl = s.tl ∧
    (State.record s a1 a2 a3).mu = s.mu ∧
    (State.record s a1 a2 a3).hk = s.hk ∧
    (State.record s a1 a2 a3).log = s.log ∧
    (State.record s a1 a2 a3).host = s.host ∧
    (State.record s a1 a2 a3).dict = s.dict ∧
    (State.record s a1 a2 a3).mclk = s.mclk ∧
    (State.record s a1 a2 a3).sd = s.sd ∧
    (State.record s a1 a2 a3).aux = s.aux ∧
    (State.record s a1 a2 a3).enc = s.enc ∧
    (State.record s a1 a2 a3).eng = s.eng ∧
    (State.record s a1 a2 a3).slices = s.slices ∧
    (State.record s a1 a2 a3).gl = s.gl ∧
    (State.record s a1 a2 a3).ref = s.ref ∧
    (State.record s a1 a2 a3).cp = s.cp ∧
    (State.record s a1 a2 a3).flk = s.flk ∧
    (State.record s a1 a2 a3).ring = s.ring ∧
    (State.record s a1 a2 a3).can = s.can ∧
    (State.record s a1 a2 a3).canPub = s.canPub ∧
    (State.record s a1 a2 a3).eth = s.eth ∧
    (State.record s a1 a2 a3).tio = s.tio := by
  have k1 := @State.trace_frame
  unfold State.record
  simp [k1]

theorem State.logAppend_frame (s : State) (a1 : LogRec) :
    (State.logAppend s a1).pending = s.pending ∧
    (State.logAppend s a1).time = s.time ∧
    (State.logAppend s a1).tick = s.tick ∧
    (State.logAppend s a1).free = s.free ∧
    (State.logAppend s a1).tl = s.tl ∧
    (State.logAppend s a1).mu = s.mu ∧
    (State.logAppend s a1).hk = s.hk ∧
    (State.logAppend s a1).seqs = s.seqs ∧
    (State.logAppend s a1).host = s.host ∧
    (State.logAppend s a1).mclk = s.mclk ∧
    (State.logAppend s a1).sd = s.sd ∧
    (State.logAppend s a1).aux = s.aux ∧
    (State.logAppend s a1).enc = s.enc ∧
    (State.logAppend s a1).eng = s.eng ∧
    (State.logAppend s a1).slices = s.slices ∧
    (State.logAppend s a1).gl = s.gl ∧
    (State.logAppend s a1).ref = s.ref ∧
    (State.logAppend s a1).cp = s.cp ∧
    (State.logAppend s a1).flk = s.flk ∧
    (State.logAppend s a1).ring = s.ring ∧
    (State.logAppend s a1).can = s.can ∧
    (State.logAppend s a1).canPub = s.canPub ∧
    (State.logAppend s a1).eth = s.eth ∧
    (State.logAppend s a1).tio = s.tio ∧
    (State.logAppend s a1).dia = s.dia := by
  have k1 := @State.ite_frame
  unfold State.logAppend
  simp [k1]

theorem State.postAt_frame (s : State) (a1 : Nat) (a2 : Stamp) (a3 : Nat) (a4 : Nat) (a5 : Nat) :
    (State.postAt s a1 a2 a3 a4 a5).pending = s.pending ∧
    (State.postAt s a1 a2 a3 a4 a5).time = s.time ∧
    (State.postAt s a1 a2 a3 a4 a5).tick = s.tick ∧
    (State.postAt s a1 a2 a3 a4 a5).free = s.free ∧
    (State.postAt s a1 a2 a3 a4 a5).tl = s.tl ∧
    (State.postAt s a1 a2 a3 a4 a5).mu = s.mu ∧
    (State.postAt s a1 a2 a3 a4 a5).hk = s.hk ∧
    (State.postAt s a1 a2 a3 a4 a5).host = s.host ∧
    (State.postAt s a1 a2 a3 a4 a5).mclk = s.mclk ∧
    (State.postAt s a1 a2 a3 a4 a5).sd = s.sd ∧
    (State.postAt s a1 a2 a3 a4 a5).aux = s.aux ∧
    (State.postAt s a1 a2 a3 a4 a5).enc = s.enc ∧
    (State.postAt s a1 a2 a3 a4 a5).eng = s.eng ∧
    (State.postAt s a1 a2 a3 a4 a5).slices = s.slices ∧
    (State.postAt s a1 a2 a3 a4 a5).gl = s.gl ∧
    (State.postAt s a1 a2 a3 a4 a5).ref = s.ref ∧
    (State.postAt s a1 a2 a3 a4 a5).cp = s.cp ∧
    (State.postAt s a1 a2 a3 a4 a5).flk = s.flk ∧
    (State.postAt s a1 a2 a3 a4 a5).ring = s.ring ∧
    (State.postAt s a1 a2 a3 a4 a5).can = s.can ∧
    (State.postAt s a1 a2 a3 a4 a5).canPub = s.canPub ∧
    (State.postAt s a1 a2 a3 a4 a5).eth = s.eth ∧
    (State.postAt s a1 a2 a3 a4 a5).tio = s.tio := by
  have k1 := @State.logAppend_frame
  have k2 := @State.trace_frame
  have k3 := @State.ite_frame
  unfold State.postAt
  simp [k1, k2, k3]

theorem State.post_frame (s : State) (a1 : Nat) (a2 : Nat) (a3 : Nat) (a4 : Nat) :
    (State.post s a1 a2 a3 a4).pending = s.pending ∧
    (State.post s a1 a2 a3 a4).time = s.time ∧
    (State.post s a1 a2 a3 a4).tick = s.tick ∧
    (State.post s a1 a2 a3 a4).free = s.free ∧
    (State.post s a1 a2 a3 a4).tl = s.tl ∧
    (State.post s a1 a2 a3 a4).mu = s.mu ∧
    (State.post s a1 a2 a3 a4).hk = s.hk ∧
    (State.post s a1 a2 a3 a4).host = s.host ∧
    (State.post s a1 a2 a3 a4).mclk = s.mclk ∧
    (State.post s a1 a2 a3 a4).sd = s.sd ∧
    (State.post s a1 a2 a3 a4).aux = s.aux ∧
    (State.post s a1 a2 a3 a4).enc = s.enc ∧
    (State.post s a1 a2 a3 a4).eng = s.eng ∧
    (State.post s a1 a2 a3 a4).slices = s.slices ∧
    (State.post s a1 a2 a3 a4).gl = s.gl ∧
    (State.post s a1 a2 a3 a4).ref = s.ref ∧
    (State.post s a1 a2 a3 a4).cp = s.cp ∧
    (State.post s a1 a2 a3 a4).flk = s.flk ∧
    (State.post s a1 a2 a3 a4).ring = s.ring ∧
    (State.post s a1 a2 a3 a4).can = s.can ∧
    (State.post s a1 a2 a3 a4).canPub = s.canPub ∧
    (State.post s a1 a2 a3 a4).eth = s.eth ∧
    (State.post s a1 a2 a3 a4).tio = s.tio := by
  have k1 := @State.postAt_frame
  unfold State.post
  simp [k1]

theorem State.jot_frame (s : State) (a1 : Nat) (a2 : Nat) :
    (State.jot s a1 a2).pending = s.pending ∧
    (State.jot s a1 a2).time = s.time ∧
    (State.jot s a1 a2).tick = s.tick ∧
    (State.jot s a1 a2).free = s.free ∧
    (State.jot s a1 a2).tl = s.tl ∧
    (State.jot s a1 a2).mu = s.mu ∧
    (State.jot s a1 a2).hk = s.hk ∧
    (State.jot s a1 a2).seqs = s.seqs ∧
    (State.jot s a1 a2).host = s.host ∧
    (State.jot s a1 a2).dict = s.dict ∧
    (State.jot s a1 a2).mclk = s.mclk ∧
    (State.jot s a1 a2).sd = s.sd ∧
    (State.jot s a1 a2).aux = s.aux ∧
    (State.jot s a1 a2).enc = s.enc ∧
    (State.jot s a1 a2).eng = s.eng ∧
    (State.jot s a1 a2).slices = s.slices ∧
    (State.jot s a1 a2).gl = s.gl ∧
    (State.jot s a1 a2).ref = s.ref ∧
    (State.jot s a1 a2).cp = s.cp ∧
    (State.jot s a1 a2).flk = s.flk ∧
    (State.jot s a1 a2).ring = s.ring ∧
    (State.jot s a1 a2).can = s.can ∧
    (State.jot s a1 a2).canPub = s.canPub ∧
    (State.jot s a1 a2).eth = s.eth ∧
    (State.jot s a1 a2).tio = s.tio ∧
    (State.jot s a1 a2).dia = s.dia := by
  unfold State.jot
  simp

theorem State.msix_frame (s : State) (a1 : Nat) :
    (State.msix s a1).pending = s.pending ∧
    (State.msix s a1).time = s.time ∧
    (State.msix s a1).tick = s.tick ∧
    (State.msix s a1).free = s.free ∧
    (State.msix s a1).tl = s.tl ∧
    (State.msix s a1).mu = s.mu ∧
    (State.msix s a1).hk = s.hk ∧
    (State.msix s a1).log = s.log ∧
    (State.msix s a1).seqs = s.seqs ∧
    (State.msix s a1).dict = s.dict ∧
    (State.msix s a1).mclk = s.mclk ∧
    (State.msix s a1).sd = s.sd ∧
    (State.msix s a1).aux = s.aux ∧
    (State.msix s a1).enc = s.enc ∧
    (State.msix s a1).eng = s.eng ∧
    (State.msix s a1).slices = s.slices ∧
    (State.msix s a1).gl = s.gl ∧
    (State.msix s a1).ref = s.ref ∧
    (State.msix s a1).cp = s.cp ∧
    (State.msix s a1).flk = s.flk ∧
    (State.msix s a1).ring = s.ring ∧
    (State.msix s a1).can = s.can ∧
    (State.msix s a1).canPub = s.canPub ∧
    (State.msix s a1).eth = s.eth ∧
    (State.msix s a1).tio = s.tio ∧
    (State.msix s a1).dia = s.dia := by
  have k1 := @State.ite_frame
  unfold State.msix
  simp [k1]

theorem State.devEvent_frame (s : State) (a1 : Nat) :
    (State.devEvent s a1).pending = s.pending ∧
    (State.devEvent s a1).time = s.time ∧
    (State.devEvent s a1).tick = s.tick ∧
    (State.devEvent s a1).free = s.free ∧
    (State.devEvent s a1).tl = s.tl ∧
    (State.devEvent s a1).mu = s.mu ∧
    (State.devEvent s a1).hk = s.hk ∧
    (State.devEvent s a1).log = s.log ∧
    (State.devEvent s a1).seqs = s.seqs ∧
    (State.devEvent s a1).dict = s.dict ∧
    (State.devEvent s a1).mclk = s.mclk ∧
    (State.devEvent s a1).sd = s.sd ∧
    (State.devEvent s a1).aux = s.aux ∧
    (State.devEvent s a1).enc = s.enc ∧
    (State.devEvent s a1).eng = s.eng ∧
    (State.devEvent s a1).slices = s.slices ∧
    (State.devEvent s a1).gl = s.gl ∧
    (State.devEvent s a1).ref = s.ref ∧
    (State.devEvent s a1).cp = s.cp ∧
    (State.devEvent s a1).flk = s.flk ∧
    (State.devEvent s a1).ring = s.ring ∧
    (State.devEvent s a1).can = s.can ∧
    (State.devEvent s a1).canPub = s.canPub ∧
    (State.devEvent s a1).eth = s.eth ∧
    (State.devEvent s a1).tio = s.tio ∧
    (State.devEvent s a1).dia = s.dia := by
  have k1 := @State.msix_frame
  unfold State.devEvent
  simp [k1]

theorem State.setPhase_frame (s : State) (a1 : Phase) :
    (State.setPhase s a1).pending = s.pending ∧
    (State.setPhase s a1).time = s.time ∧
    (State.setPhase s a1).tick = s.tick ∧
    (State.setPhase s a1).free = s.free ∧
    (State.setPhase s a1).tl = s.tl ∧
    (State.setPhase s a1).hk = s.hk ∧
    (State.setPhase s a1).log = s.log ∧
    (State.setPhase s a1).seqs = s.seqs ∧
    (State.setPhase s a1).dict = s.dict ∧
    (State.setPhase s a1).mclk = s.mclk ∧
    (State.setPhase s a1).sd = s.sd ∧
    (State.setPhase s a1).aux = s.aux ∧
    (State.setPhase s a1).enc = s.enc ∧
    (State.setPhase s a1).eng = s.eng ∧
    (State.setPhase s a1).slices = s.slices ∧
    (State.setPhase s a1).gl = s.gl ∧
    (State.setPhase s a1).ref = s.ref ∧
    (State.setPhase s a1).cp = s.cp ∧
    (State.setPhase s a1).flk = s.flk ∧
    (State.setPhase s a1).ring = s.ring ∧
    (State.setPhase s a1).can = s.can ∧
    (State.setPhase s a1).canPub = s.canPub ∧
    (State.setPhase s a1).eth = s.eth ∧
    (State.setPhase s a1).tio = s.tio ∧
    (State.setPhase s a1).dia = s.dia := by
  have k1 := @State.devEvent_frame
  have k2 := @State.ite_frame
  unfold State.setPhase
  simp [k1, k2]

theorem State.postCq_frame (s : State) (a1 : Nat) (a2 : Reply) :
    (State.postCq s a1 a2).pending = s.pending ∧
    (State.postCq s a1 a2).time = s.time ∧
    (State.postCq s a1 a2).tick = s.tick ∧
    (State.postCq s a1 a2).free = s.free ∧
    (State.postCq s a1 a2).tl = s.tl ∧
    (State.postCq s a1 a2).mu = s.mu ∧
    (State.postCq s a1 a2).hk = s.hk ∧
    (State.postCq s a1 a2).log = s.log ∧
    (State.postCq s a1 a2).seqs = s.seqs ∧
    (State.postCq s a1 a2).dict = s.dict ∧
    (State.postCq s a1 a2).mclk = s.mclk ∧
    (State.postCq s a1 a2).sd = s.sd ∧
    (State.postCq s a1 a2).aux = s.aux ∧
    (State.postCq s a1 a2).enc = s.enc ∧
    (State.postCq s a1 a2).eng = s.eng ∧
    (State.postCq s a1 a2).slices = s.slices ∧
    (State.postCq s a1 a2).gl = s.gl ∧
    (State.postCq s a1 a2).ref = s.ref ∧
    (State.postCq s a1 a2).cp = s.cp ∧
    (State.postCq s a1 a2).flk = s.flk ∧
    (State.postCq s a1 a2).ring = s.ring ∧
    (State.postCq s a1 a2).can = s.can ∧
    (State.postCq s a1 a2).canPub = s.canPub ∧
    (State.postCq s a1 a2).eth = s.eth ∧
    (State.postCq s a1 a2).tio = s.tio ∧
    (State.postCq s a1 a2).dia = s.dia := by
  have k1 := @State.msix_frame
  have k2 := @State.ite_frame
  unfold State.postCq
  simp [k1, k2]

theorem State.discardOwned_frame (s : State) (a1 : Nat) :
    (State.discardOwned s a1).pending = s.pending ∧
    (State.discardOwned s a1).time = s.time ∧
    (State.discardOwned s a1).tick = s.tick ∧
    (State.discardOwned s a1).free = s.free ∧
    (State.discardOwned s a1).tl = s.tl ∧
    (State.discardOwned s a1).mu = s.mu ∧
    (State.discardOwned s a1).hk = s.hk ∧
    (State.discardOwned s a1).log = s.log ∧
    (State.discardOwned s a1).seqs = s.seqs ∧
    (State.discardOwned s a1).dict = s.dict ∧
    (State.discardOwned s a1).mclk = s.mclk ∧
    (State.discardOwned s a1).sd = s.sd ∧
    (State.discardOwned s a1).aux = s.aux ∧
    (State.discardOwned s a1).enc = s.enc ∧
    (State.discardOwned s a1).eng = s.eng ∧
    (State.discardOwned s a1).slices = s.slices ∧
    (State.discardOwned s a1).gl = s.gl ∧
    (State.discardOwned s a1).ref = s.ref ∧
    (State.discardOwned s a1).cp = s.cp ∧
    (State.discardOwned s a1).flk = s.flk ∧
    (State.discardOwned s a1).ring = s.ring ∧
    (State.discardOwned s a1).can = s.can ∧
    (State.discardOwned s a1).canPub = s.canPub ∧
    (State.discardOwned s a1).eth = s.eth ∧
    (State.discardOwned s a1).tio = s.tio ∧
    (State.discardOwned s a1).dia = s.dia := by
  unfold State.discardOwned
  simp

theorem State.toPair_frame (s : State) (a1 : Nat) (a2 : Reply) :
    (State.toPair s a1 a2).pending = s.pending ∧
    (State.toPair s a1 a2).time = s.time ∧
    (State.toPair s a1 a2).tick = s.tick ∧
    (State.toPair s a1 a2).free = s.free ∧
    (State.toPair s a1 a2).tl = s.tl ∧
    (State.toPair s a1 a2).mu = s.mu ∧
    (State.toPair s a1 a2).hk = s.hk ∧
    (State.toPair s a1 a2).log = s.log ∧
    (State.toPair s a1 a2).seqs = s.seqs ∧
    (State.toPair s a1 a2).dict = s.dict ∧
    (State.toPair s a1 a2).mclk = s.mclk ∧
    (State.toPair s a1 a2).sd = s.sd ∧
    (State.toPair s a1 a2).aux = s.aux ∧
    (State.toPair s a1 a2).enc = s.enc ∧
    (State.toPair s a1 a2).eng = s.eng ∧
    (State.toPair s a1 a2).slices = s.slices ∧
    (State.toPair s a1 a2).gl = s.gl ∧
    (State.toPair s a1 a2).ref = s.ref ∧
    (State.toPair s a1 a2).cp = s.cp ∧
    (State.toPair s a1 a2).flk = s.flk ∧
    (State.toPair s a1 a2).ring = s.ring ∧
    (State.toPair s a1 a2).can = s.can ∧
    (State.toPair s a1 a2).canPub = s.canPub ∧
    (State.toPair s a1 a2).eth = s.eth ∧
    (State.toPair s a1 a2).tio = s.tio ∧
    (State.toPair s a1 a2).dia = s.dia := by
  have k1 := @State.postCq_frame
  have k2 := @State.ite_frame
  unfold State.toPair
  simp [k1, k2]

theorem State.canPut_frame (s : State) (a1 : Nat) (a2 : Nat) (a3 : CanTx) :
    (State.canPut s a1 a2 a3).pending = s.pending ∧
    (State.canPut s a1 a2 a3).time = s.time ∧
    (State.canPut s a1 a2 a3).tick = s.tick ∧
    (State.canPut s a1 a2 a3).free = s.free ∧
    (State.canPut s a1 a2 a3).tl = s.tl ∧
    (State.canPut s a1 a2 a3).mu = s.mu ∧
    (State.canPut s a1 a2 a3).hk = s.hk ∧
    (State.canPut s a1 a2 a3).log = s.log ∧
    (State.canPut s a1 a2 a3).seqs = s.seqs ∧
    (State.canPut s a1 a2 a3).host = s.host ∧
    (State.canPut s a1 a2 a3).dict = s.dict ∧
    (State.canPut s a1 a2 a3).mclk = s.mclk ∧
    (State.canPut s a1 a2 a3).sd = s.sd ∧
    (State.canPut s a1 a2 a3).aux = s.aux ∧
    (State.canPut s a1 a2 a3).enc = s.enc ∧
    (State.canPut s a1 a2 a3).eng = s.eng ∧
    (State.canPut s a1 a2 a3).slices = s.slices ∧
    (State.canPut s a1 a2 a3).gl = s.gl ∧
    (State.canPut s a1 a2 a3).ref = s.ref ∧
    (State.canPut s a1 a2 a3).cp = s.cp ∧
    (State.canPut s a1 a2 a3).flk = s.flk ∧
    (State.canPut s a1 a2 a3).ring = s.ring ∧
    (State.canPut s a1 a2 a3).canPub = s.canPub ∧
    (State.canPut s a1 a2 a3).eth = s.eth ∧
    (State.canPut s a1 a2 a3).tio = s.tio ∧
    (State.canPut s a1 a2 a3).dia = s.dia := by
  unfold State.canPut
  simp

theorem State.canReply_frame (s : State) (a1 : Nat) (a2 : Reply) :
    (State.canReply s a1 a2).pending = s.pending ∧
    (State.canReply s a1 a2).time = s.time ∧
    (State.canReply s a1 a2).tick = s.tick ∧
    (State.canReply s a1 a2).free = s.free ∧
    (State.canReply s a1 a2).tl = s.tl ∧
    (State.canReply s a1 a2).mu = s.mu ∧
    (State.canReply s a1 a2).hk = s.hk ∧
    (State.canReply s a1 a2).log = s.log ∧
    (State.canReply s a1 a2).seqs = s.seqs ∧
    (State.canReply s a1 a2).host = s.host ∧
    (State.canReply s a1 a2).dict = s.dict ∧
    (State.canReply s a1 a2).mclk = s.mclk ∧
    (State.canReply s a1 a2).sd = s.sd ∧
    (State.canReply s a1 a2).aux = s.aux ∧
    (State.canReply s a1 a2).enc = s.enc ∧
    (State.canReply s a1 a2).eng = s.eng ∧
    (State.canReply s a1 a2).slices = s.slices ∧
    (State.canReply s a1 a2).gl = s.gl ∧
    (State.canReply s a1 a2).ref = s.ref ∧
    (State.canReply s a1 a2).cp = s.cp ∧
    (State.canReply s a1 a2).flk = s.flk ∧
    (State.canReply s a1 a2).ring = s.ring ∧
    (State.canReply s a1 a2).canPub = s.canPub ∧
    (State.canReply s a1 a2).eth = s.eth ∧
    (State.canReply s a1 a2).tio = s.tio ∧
    (State.canReply s a1 a2).dia = s.dia := by
  have k1 := @State.canPut_frame
  unfold State.canReply
  simp [k1]

theorem State.ethReply_frame (s : State) (a1 : Nat) (a2 : Reply) :
    (State.ethReply s a1 a2).pending = s.pending ∧
    (State.ethReply s a1 a2).time = s.time ∧
    (State.ethReply s a1 a2).tick = s.tick ∧
    (State.ethReply s a1 a2).free = s.free ∧
    (State.ethReply s a1 a2).tl = s.tl ∧
    (State.ethReply s a1 a2).mu = s.mu ∧
    (State.ethReply s a1 a2).hk = s.hk ∧
    (State.ethReply s a1 a2).log = s.log ∧
    (State.ethReply s a1 a2).seqs = s.seqs ∧
    (State.ethReply s a1 a2).dict = s.dict ∧
    (State.ethReply s a1 a2).mclk = s.mclk ∧
    (State.ethReply s a1 a2).sd = s.sd ∧
    (State.ethReply s a1 a2).aux = s.aux ∧
    (State.ethReply s a1 a2).enc = s.enc ∧
    (State.ethReply s a1 a2).eng = s.eng ∧
    (State.ethReply s a1 a2).slices = s.slices ∧
    (State.ethReply s a1 a2).gl = s.gl ∧
    (State.ethReply s a1 a2).ref = s.ref ∧
    (State.ethReply s a1 a2).cp = s.cp ∧
    (State.ethReply s a1 a2).flk = s.flk ∧
    (State.ethReply s a1 a2).ring = s.ring ∧
    (State.ethReply s a1 a2).can = s.can ∧
    (State.ethReply s a1 a2).canPub = s.canPub ∧
    (State.ethReply s a1 a2).tio = s.tio ∧
    (State.ethReply s a1 a2).dia = s.dia := by
  have k1 := @State.ite_frame
  unfold State.ethReply
  dsimp only
  repeat' (first | (simp [k1]; done) | split)

theorem State.ringTx_frame (s : State) (a1 : Nat) (a2 : Nat) (a3 : List Byte) :
    (State.ringTx s a1 a2 a3).pending = s.pending ∧
    (State.ringTx s a1 a2 a3).time = s.time ∧
    (State.ringTx s a1 a2 a3).tick = s.tick ∧
    (State.ringTx s a1 a2 a3).free = s.free ∧
    (State.ringTx s a1 a2 a3).tl = s.tl ∧
    (State.ringTx s a1 a2 a3).mu = s.mu ∧
    (State.ringTx s a1 a2 a3).hk = s.hk ∧
    (State.ringTx s a1 a2 a3).log = s.log ∧
    (State.ringTx s a1 a2 a3).host = s.host ∧
    (State.ringTx s a1 a2 a3).dict = s.dict ∧
    (State.ringTx s a1 a2 a3).mclk = s.mclk ∧
    (State.ringTx s a1 a2 a3).sd = s.sd ∧
    (State.ringTx s a1 a2 a3).aux = s.aux ∧
    (State.ringTx s a1 a2 a3).enc = s.enc ∧
    (State.ringTx s a1 a2 a3).eng = s.eng ∧
    (State.ringTx s a1 a2 a3).slices = s.slices ∧
    (State.ringTx s a1 a2 a3).gl = s.gl ∧
    (State.ringTx s a1 a2 a3).ref = s.ref ∧
    (State.ringTx s a1 a2 a3).cp = s.cp ∧
    (State.ringTx s a1 a2 a3).flk = s.flk ∧
    (State.ringTx s a1 a2 a3).can = s.can ∧
    (State.ringTx s a1 a2 a3).canPub = s.canPub ∧
    (State.ringTx s a1 a2 a3).eth = s.eth ∧
    (State.ringTx s a1 a2 a3).tio = s.tio := by
  have k1 := @State.record_frame
  have k2 := @State.ite_frame
  unfold State.ringTx
  simp [k1, k2]

theorem State.objxReply_frame (s : State) (a1 : Nat) (a2 : Reply) :
    (State.objxReply s a1 a2).pending = s.pending ∧
    (State.objxReply s a1 a2).time = s.time ∧
    (State.objxReply s a1 a2).tick = s.tick ∧
    (State.objxReply s a1 a2).free = s.free ∧
    (State.objxReply s a1 a2).tl = s.tl ∧
    (State.objxReply s a1 a2).mu = s.mu ∧
    (State.objxReply s a1 a2).hk = s.hk ∧
    (State.objxReply s a1 a2).log = s.log ∧
    (State.objxReply s a1 a2).dict = s.dict ∧
    (State.objxReply s a1 a2).mclk = s.mclk ∧
    (State.objxReply s a1 a2).sd = s.sd ∧
    (State.objxReply s a1 a2).aux = s.aux ∧
    (State.objxReply s a1 a2).enc = s.enc ∧
    (State.objxReply s a1 a2).eng = s.eng ∧
    (State.objxReply s a1 a2).slices = s.slices ∧
    (State.objxReply s a1 a2).gl = s.gl ∧
    (State.objxReply s a1 a2).ref = s.ref ∧
    (State.objxReply s a1 a2).cp = s.cp ∧
    (State.objxReply s a1 a2).flk = s.flk ∧
    (State.objxReply s a1 a2).can = s.can ∧
    (State.objxReply s a1 a2).canPub = s.canPub ∧
    (State.objxReply s a1 a2).eth = s.eth ∧
    (State.objxReply s a1 a2).tio = s.tio := by
  have k1 := @State.ringTx_frame
  unfold State.objxReply
  simp [k1]

theorem State.deliver_frame (s : State) (a1 : Reply) :
    (State.deliver s a1).pending = s.pending ∧
    (State.deliver s a1).time = s.time ∧
    (State.deliver s a1).tick = s.tick ∧
    (State.deliver s a1).free = s.free ∧
    (State.deliver s a1).tl = s.tl ∧
    (State.deliver s a1).mu = s.mu ∧
    (State.deliver s a1).hk = s.hk ∧
    (State.deliver s a1).log = s.log ∧
    (State.deliver s a1).dict = s.dict ∧
    (State.deliver s a1).mclk = s.mclk ∧
    (State.deliver s a1).sd = s.sd ∧
    (State.deliver s a1).aux = s.aux ∧
    (State.deliver s a1).enc = s.enc ∧
    (State.deliver s a1).eng = s.eng ∧
    (State.deliver s a1).slices = s.slices ∧
    (State.deliver s a1).gl = s.gl ∧
    (State.deliver s a1).ref = s.ref ∧
    (State.deliver s a1).cp = s.cp ∧
    (State.deliver s a1).flk = s.flk ∧
    (State.deliver s a1).canPub = s.canPub ∧
    (State.deliver s a1).tio = s.tio := by
  have k1 := @State.canReply_frame
  have k2 := @State.devEvent_frame
  have k3 := @State.ethReply_frame
  have k4 := @State.objxReply_frame
  have k5 := @State.toPair_frame
  unfold State.deliver
  repeat' (first | (simp [k1, k2, k3, k4, k5]; done) | split)

theorem State.remember_frame (s : State) (a1 : Pkt) :
    (State.remember s a1).pending = s.pending ∧
    (State.remember s a1).time = s.time ∧
    (State.remember s a1).tick = s.tick ∧
    (State.remember s a1).free = s.free ∧
    (State.remember s a1).tl = s.tl ∧
    (State.remember s a1).mu = s.mu ∧
    (State.remember s a1).hk = s.hk ∧
    (State.remember s a1).log = s.log ∧
    (State.remember s a1).seqs = s.seqs ∧
    (State.remember s a1).dict = s.dict ∧
    (State.remember s a1).mclk = s.mclk ∧
    (State.remember s a1).sd = s.sd ∧
    (State.remember s a1).aux = s.aux ∧
    (State.remember s a1).enc = s.enc ∧
    (State.remember s a1).eng = s.eng ∧
    (State.remember s a1).slices = s.slices ∧
    (State.remember s a1).gl = s.gl ∧
    (State.remember s a1).ref = s.ref ∧
    (State.remember s a1).cp = s.cp ∧
    (State.remember s a1).flk = s.flk ∧
    (State.remember s a1).ring = s.ring ∧
    (State.remember s a1).can = s.can ∧
    (State.remember s a1).canPub = s.canPub ∧
    (State.remember s a1).eth = s.eth ∧
    (State.remember s a1).tio = s.tio ∧
    (State.remember s a1).dia = s.dia := by
  unfold State.remember
  repeat' (first | (simp; done) | split)

theorem State.store_frame (s : State) (a1 : Pkt) (a2 : Reply) :
    (State.store s a1 a2).pending = s.pending ∧
    (State.store s a1 a2).time = s.time ∧
    (State.store s a1 a2).tick = s.tick ∧
    (State.store s a1 a2).free = s.free ∧
    (State.store s a1 a2).tl = s.tl ∧
    (State.store s a1 a2).mu = s.mu ∧
    (State.store s a1 a2).hk = s.hk ∧
    (State.store s a1 a2).log = s.log ∧
    (State.store s a1 a2).seqs = s.seqs ∧
    (State.store s a1 a2).dict = s.dict ∧
    (State.store s a1 a2).mclk = s.mclk ∧
    (State.store s a1 a2).sd = s.sd ∧
    (State.store s a1 a2).aux = s.aux ∧
    (State.store s a1 a2).enc = s.enc ∧
    (State.store s a1 a2).eng = s.eng ∧
    (State.store s a1 a2).slices = s.slices ∧
    (State.store s a1 a2).gl = s.gl ∧
    (State.store s a1 a2).ref = s.ref ∧
    (State.store s a1 a2).cp = s.cp ∧
    (State.store s a1 a2).flk = s.flk ∧
    (State.store s a1 a2).ring = s.ring ∧
    (State.store s a1 a2).can = s.can ∧
    (State.store s a1 a2).canPub = s.canPub ∧
    (State.store s a1 a2).eth = s.eth ∧
    (State.store s a1 a2).tio = s.tio ∧
    (State.store s a1 a2).dia = s.dia := by
  unfold State.store
  repeat' (first | (simp; done) | split)

theorem State.answer_frame (s : State) (a1 : Pkt) (a2 : Nat) (a3 : Nat) :
    (State.answer s a1 a2 a3).pending = s.pending ∧
    (State.answer s a1 a2 a3).time = s.time ∧
    (State.answer s a1 a2 a3).tick = s.tick ∧
    (State.answer s a1 a2 a3).free = s.free ∧
    (State.answer s a1 a2 a3).tl = s.tl ∧
    (State.answer s a1 a2 a3).mu = s.mu ∧
    (State.answer s a1 a2 a3).hk = s.hk ∧
    (State.answer s a1 a2 a3).log = s.log ∧
    (State.answer s a1 a2 a3).dict = s.dict ∧
    (State.answer s a1 a2 a3).mclk = s.mclk ∧
    (State.answer s a1 a2 a3).sd = s.sd ∧
    (State.answer s a1 a2 a3).aux = s.aux ∧
    (State.answer s a1 a2 a3).enc = s.enc ∧
    (State.answer s a1 a2 a3).eng = s.eng ∧
    (State.answer s a1 a2 a3).slices = s.slices ∧
    (State.answer s a1 a2 a3).gl = s.gl ∧
    (State.answer s a1 a2 a3).ref = s.ref ∧
    (State.answer s a1 a2 a3).cp = s.cp ∧
    (State.answer s a1 a2 a3).flk = s.flk ∧
    (State.answer s a1 a2 a3).canPub = s.canPub ∧
    (State.answer s a1 a2 a3).tio = s.tio := by
  have k1 := @State.deliver_frame
  unfold State.answer
  simp [k1]

theorem State.storeLive_frame (s : State) (a1 : Deferred) (a2 : Reply) :
    (State.storeLive s a1 a2).pending = s.pending ∧
    (State.storeLive s a1 a2).time = s.time ∧
    (State.storeLive s a1 a2).tick = s.tick ∧
    (State.storeLive s a1 a2).free = s.free ∧
    (State.storeLive s a1 a2).tl = s.tl ∧
    (State.storeLive s a1 a2).mu = s.mu ∧
    (State.storeLive s a1 a2).hk = s.hk ∧
    (State.storeLive s a1 a2).log = s.log ∧
    (State.storeLive s a1 a2).seqs = s.seqs ∧
    (State.storeLive s a1 a2).dict = s.dict ∧
    (State.storeLive s a1 a2).mclk = s.mclk ∧
    (State.storeLive s a1 a2).sd = s.sd ∧
    (State.storeLive s a1 a2).aux = s.aux ∧
    (State.storeLive s a1 a2).enc = s.enc ∧
    (State.storeLive s a1 a2).eng = s.eng ∧
    (State.storeLive s a1 a2).slices = s.slices ∧
    (State.storeLive s a1 a2).gl = s.gl ∧
    (State.storeLive s a1 a2).ref = s.ref ∧
    (State.storeLive s a1 a2).cp = s.cp ∧
    (State.storeLive s a1 a2).flk = s.flk ∧
    (State.storeLive s a1 a2).ring = s.ring ∧
    (State.storeLive s a1 a2).can = s.can ∧
    (State.storeLive s a1 a2).canPub = s.canPub ∧
    (State.storeLive s a1 a2).eth = s.eth ∧
    (State.storeLive s a1 a2).tio = s.tio ∧
    (State.storeLive s a1 a2).dia = s.dia := by
  have k1 := @State.store_frame
  have k2 := @State.ite_frame
  unfold State.storeLive
  simp [k1, k2]

theorem State.completeNow_frame (s : State) (a1 : Deferred) (a2 : Nat) (a3 : List Byte) :
    (State.completeNow s a1 a2 a3).pending = s.pending ∧
    (State.completeNow s a1 a2 a3).time = s.time ∧
    (State.completeNow s a1 a2 a3).tick = s.tick ∧
    (State.completeNow s a1 a2 a3).free = s.free ∧
    (State.completeNow s a1 a2 a3).tl = s.tl ∧
    (State.completeNow s a1 a2 a3).mu = s.mu ∧
    (State.completeNow s a1 a2 a3).hk = s.hk ∧
    (State.completeNow s a1 a2 a3).log = s.log ∧
    (State.completeNow s a1 a2 a3).dict = s.dict ∧
    (State.completeNow s a1 a2 a3).mclk = s.mclk ∧
    (State.completeNow s a1 a2 a3).sd = s.sd ∧
    (State.completeNow s a1 a2 a3).aux = s.aux ∧
    (State.completeNow s a1 a2 a3).enc = s.enc ∧
    (State.completeNow s a1 a2 a3).eng = s.eng ∧
    (State.completeNow s a1 a2 a3).slices = s.slices ∧
    (State.completeNow s a1 a2 a3).gl = s.gl ∧
    (State.completeNow s a1 a2 a3).ref = s.ref ∧
    (State.completeNow s a1 a2 a3).cp = s.cp ∧
    (State.completeNow s a1 a2 a3).flk = s.flk ∧
    (State.completeNow s a1 a2 a3).canPub = s.canPub ∧
    (State.completeNow s a1 a2 a3).tio = s.tio := by
  have k1 := @State.deliver_frame
  have k2 := @State.record_frame
  have k3 := @State.storeLive_frame
  have k4 := @State.ite_frame
  unfold State.completeNow
  dsimp only
  repeat' (first | (simp [k1, k2, k3, k4]; done) | split)

theorem State.complete_frame (s : State) (a1 : Deferred) (a2 : Nat) (a3 : List Byte) :
    (State.complete s a1 a2 a3).pending = s.pending ∧
    (State.complete s a1 a2 a3).time = s.time ∧
    (State.complete s a1 a2 a3).tick = s.tick ∧
    (State.complete s a1 a2 a3).free = s.free ∧
    (State.complete s a1 a2 a3).tl = s.tl ∧
    (State.complete s a1 a2 a3).mu = s.mu ∧
    (State.complete s a1 a2 a3).hk = s.hk ∧
    (State.complete s a1 a2 a3).log = s.log ∧
    (State.complete s a1 a2 a3).dict = s.dict ∧
    (State.complete s a1 a2 a3).mclk = s.mclk ∧
    (State.complete s a1 a2 a3).sd = s.sd ∧
    (State.complete s a1 a2 a3).aux = s.aux ∧
    (State.complete s a1 a2 a3).enc = s.enc ∧
    (State.complete s a1 a2 a3).eng = s.eng ∧
    (State.complete s a1 a2 a3).slices = s.slices ∧
    (State.complete s a1 a2 a3).gl = s.gl ∧
    (State.complete s a1 a2 a3).ref = s.ref ∧
    (State.complete s a1 a2 a3).cp = s.cp ∧
    (State.complete s a1 a2 a3).flk = s.flk ∧
    (State.complete s a1 a2 a3).canPub = s.canPub ∧
    (State.complete s a1 a2 a3).tio = s.tio := by
  have k1 := @State.completeNow_frame
  have k2 := @State.ite_frame
  unfold State.complete
  repeat' (first | (simp [k1, k2]; done) | split)

theorem State.mainReset_frame (s : State) :
    (State.mainReset s).pending = s.pending ∧
    (State.mainReset s).tick = s.tick ∧
    (State.mainReset s).free = s.free ∧
    (State.mainReset s).log = s.log ∧
    (State.mainReset s).seqs = s.seqs := by
  unfold State.mainReset
  simp

theorem State.lcAbort_frame (s : State) :
    (State.lcAbort s).pending = s.pending ∧
    (State.lcAbort s).time = s.time ∧
    (State.lcAbort s).tick = s.tick ∧
    (State.lcAbort s).tl = s.tl ∧
    (State.lcAbort s).hk = s.hk ∧
    (State.lcAbort s).log = s.log ∧
    (State.lcAbort s).seqs = s.seqs ∧
    (State.lcAbort s).host = s.host ∧
    (State.lcAbort s).dict = s.dict ∧
    (State.lcAbort s).mclk = s.mclk ∧
    (State.lcAbort s).sd = s.sd ∧
    (State.lcAbort s).aux = s.aux ∧
    (State.lcAbort s).enc = s.enc ∧
    (State.lcAbort s).eng = s.eng ∧
    (State.lcAbort s).slices = s.slices ∧
    (State.lcAbort s).gl = s.gl ∧
    (State.lcAbort s).ref = s.ref ∧
    (State.lcAbort s).cp = s.cp ∧
    (State.lcAbort s).flk = s.flk ∧
    (State.lcAbort s).ring = s.ring ∧
    (State.lcAbort s).can = s.can ∧
    (State.lcAbort s).canPub = s.canPub ∧
    (State.lcAbort s).eth = s.eth ∧
    (State.lcAbort s).tio = s.tio ∧
    (State.lcAbort s).dia = s.dia := by
  have k1 := @State.ite_frame
  unfold State.lcAbort
  dsimp only
  repeat' (first | (simp [k1]; done) | split)

theorem State.domainReset_frame (s : State) :
    (State.domainReset s).pending = s.pending ∧
    (State.domainReset s).tick = s.tick ∧
    (State.domainReset s).log = s.log ∧
    (State.domainReset s).seqs = s.seqs := by
  have k1 := @State.lcAbort_frame
  have k2 := @State.mainReset_frame
  unfold State.domainReset
  simp [k1, k2]

theorem State.devReset_frame (s : State) (a1 : ResetCause) :
    (State.devReset s a1).pending = s.pending ∧
    (State.devReset s a1).tick = s.tick ∧
    (State.devReset s a1).log = s.log ∧
    (State.devReset s a1).seqs = s.seqs := by
  have k1 := @State.domainReset_frame
  unfold State.devReset
  simp [k1]

end Sys2Proof.Machine
end

