-- ==== Sys2Proof/Laws/Supplies.lean ====
section
/-!
SUPPORT. What each operation of Machine/Supplies.lean leaves as it was: the parts of State that it cannot change.
-/

namespace Sys2Proof.Machine

open Sys2Proof

theorem State.setRail_frame (s : State) (a1 : Nat) (a2 : Rail) :
    (State.setRail s a1 a2).pending = s.pending ∧
    (State.setRail s a1 a2).time = s.time ∧
    (State.setRail s a1 a2).tick = s.tick ∧
    (State.setRail s a1 a2).free = s.free ∧
    (State.setRail s a1 a2).tl = s.tl ∧
    (State.setRail s a1 a2).hk = s.hk ∧
    (State.setRail s a1 a2).log = s.log ∧
    (State.setRail s a1 a2).seqs = s.seqs ∧
    (State.setRail s a1 a2).host = s.host ∧
    (State.setRail s a1 a2).dict = s.dict ∧
    (State.setRail s a1 a2).mclk = s.mclk ∧
    (State.setRail s a1 a2).sd = s.sd ∧
    (State.setRail s a1 a2).aux = s.aux ∧
    (State.setRail s a1 a2).enc = s.enc ∧
    (State.setRail s a1 a2).eng = s.eng ∧
    (State.setRail s a1 a2).slices = s.slices ∧
    (State.setRail s a1 a2).gl = s.gl ∧
    (State.setRail s a1 a2).ref = s.ref ∧
    (State.setRail s a1 a2).cp = s.cp ∧
    (State.setRail s a1 a2).flk = s.flk ∧
    (State.setRail s a1 a2).ring = s.ring ∧
    (State.setRail s a1 a2).can = s.can ∧
    (State.setRail s a1 a2).canPub = s.canPub ∧
    (State.setRail s a1 a2).eth = s.eth ∧
    (State.setRail s a1 a2).tio = s.tio ∧
    (State.setRail s a1 a2).dia = s.dia := by
  unfold State.setRail
  simp

theorem effVstbyInRange_frame (s : State) :
    (effVstbyInRange s).pending = s.pending ∧
    (effVstbyInRange s).time = s.time ∧
    (effVstbyInRange s).tick = s.tick ∧
    (effVstbyInRange s).free = s.free ∧
    (effVstbyInRange s).tl = s.tl ∧
    (effVstbyInRange s).hk = s.hk ∧
    (effVstbyInRange s).log = s.log ∧
    (effVstbyInRange s).seqs = s.seqs ∧
    (effVstbyInRange s).host = s.host ∧
    (effVstbyInRange s).dict = s.dict ∧
    (effVstbyInRange s).mclk = s.mclk ∧
    (effVstbyInRange s).sd = s.sd ∧
    (effVstbyInRange s).aux = s.aux ∧
    (effVstbyInRange s).enc = s.enc ∧
    (effVstbyInRange s).eng = s.eng ∧
    (effVstbyInRange s).slices = s.slices ∧
    (effVstbyInRange s).gl = s.gl ∧
    (effVstbyInRange s).ref = s.ref ∧
    (effVstbyInRange s).cp = s.cp ∧
    (effVstbyInRange s).flk = s.flk ∧
    (effVstbyInRange s).ring = s.ring ∧
    (effVstbyInRange s).can = s.can ∧
    (effVstbyInRange s).canPub = s.canPub ∧
    (effVstbyInRange s).eth = s.eth ∧
    (effVstbyInRange s).tio = s.tio ∧
    (effVstbyInRange s).dia = s.dia := by
  have k1 := @State.ite_frame
  unfold effVstbyInRange
  simp [k1]

theorem effStandbyBootDone_frame (s : State) :
    (effStandbyBootDone s).pending = s.pending ∧
    (effStandbyBootDone s).time = s.time ∧
    (effStandbyBootDone s).tick = s.tick ∧
    (effStandbyBootDone s).free = s.free ∧
    (effStandbyBootDone s).tl = s.tl ∧
    (effStandbyBootDone s).seqs = s.seqs ∧
    (effStandbyBootDone s).host = s.host ∧
    (effStandbyBootDone s).dict = s.dict ∧
    (effStandbyBootDone s).mclk = s.mclk ∧
    (effStandbyBootDone s).sd = s.sd ∧
    (effStandbyBootDone s).aux = s.aux ∧
    (effStandbyBootDone s).enc = s.enc ∧
    (effStandbyBootDone s).eng = s.eng ∧
    (effStandbyBootDone s).slices = s.slices ∧
    (effStandbyBootDone s).gl = s.gl ∧
    (effStandbyBootDone s).ref = s.ref ∧
    (effStandbyBootDone s).cp = s.cp ∧
    (effStandbyBootDone s).flk = s.flk ∧
    (effStandbyBootDone s).ring = s.ring ∧
    (effStandbyBootDone s).can = s.can ∧
    (effStandbyBootDone s).canPub = s.canPub ∧
    (effStandbyBootDone s).eth = s.eth ∧
    (effStandbyBootDone s).tio = s.tio ∧
    (effStandbyBootDone s).dia = s.dia := by
  have k1 := @State.ite_frame
  unfold effStandbyBootDone
  simp [k1]

theorem effVstbyTrip_frame (s : State) :
    (effVstbyTrip s).pending = s.pending ∧
    (effVstbyTrip s).tick = s.tick ∧
    (effVstbyTrip s).seqs = s.seqs := by
  have k1 := @State.domainReset_frame
  have k2 := @State.ite_frame
  unfold effVstbyTrip
  simp [k1, k2]

theorem effMainRailInRange_frame (a0 : Fin 5) (s : State) :
    (effMainRailInRange a0 s).pending = s.pending ∧
    (effMainRailInRange a0 s).time = s.time ∧
    (effMainRailInRange a0 s).tick = s.tick ∧
    (effMainRailInRange a0 s).free = s.free ∧
    (effMainRailInRange a0 s).tl = s.tl ∧
    (effMainRailInRange a0 s).hk = s.hk ∧
    (effMainRailInRange a0 s).host = s.host ∧
    (effMainRailInRange a0 s).mclk = s.mclk ∧
    (effMainRailInRange a0 s).sd = s.sd ∧
    (effMainRailInRange a0 s).aux = s.aux ∧
    (effMainRailInRange a0 s).enc = s.enc ∧
    (effMainRailInRange a0 s).eng = s.eng ∧
    (effMainRailInRange a0 s).slices = s.slices ∧
    (effMainRailInRange a0 s).gl = s.gl ∧
    (effMainRailInRange a0 s).ref = s.ref ∧
    (effMainRailInRange a0 s).cp = s.cp ∧
    (effMainRailInRange a0 s).flk = s.flk ∧
    (effMainRailInRange a0 s).ring = s.ring ∧
    (effMainRailInRange a0 s).can = s.can ∧
    (effMainRailInRange a0 s).canPub = s.canPub ∧
    (effMainRailInRange a0 s).eth = s.eth ∧
    (effMainRailInRange a0 s).tio = s.tio := by
  have k1 := @State.post_frame
  have k2 := @State.setRail_frame
  have k3 := @State.ite_frame
  unfold effMainRailInRange
  simp [k1, k2, k3]

theorem State.causeToo_frame (s : State) (a1 : ResetCause) :
    (State.causeToo s a1).pending = s.pending ∧
    (State.causeToo s a1).time = s.time ∧
    (State.causeToo s a1).tick = s.tick ∧
    (State.causeToo s a1).free = s.free ∧
    (State.causeToo s a1).tl = s.tl ∧
    (State.causeToo s a1).hk = s.hk ∧
    (State.causeToo s a1).log = s.log ∧
    (State.causeToo s a1).seqs = s.seqs ∧
    (State.causeToo s a1).host = s.host ∧
    (State.causeToo s a1).dict = s.dict ∧
    (State.causeToo s a1).mclk = s.mclk ∧
    (State.causeToo s a1).sd = s.sd ∧
    (State.causeToo s a1).aux = s.aux ∧
    (State.causeToo s a1).enc = s.enc ∧
    (State.causeToo s a1).eng = s.eng ∧
    (State.causeToo s a1).slices = s.slices ∧
    (State.causeToo s a1).gl = s.gl ∧
    (State.causeToo s a1).ref = s.ref ∧
    (State.causeToo s a1).cp = s.cp ∧
    (State.causeToo s a1).flk = s.flk ∧
    (State.causeToo s a1).ring = s.ring ∧
    (State.causeToo s a1).can = s.can ∧
    (State.causeToo s a1).canPub = s.canPub ∧
    (State.causeToo s a1).eth = s.eth ∧
    (State.causeToo s a1).tio = s.tio ∧
    (State.causeToo s a1).dia = s.dia := by
  have k1 := @State.ite_frame
  unfold State.causeToo
  simp [k1]

theorem effSupplyFault_frame (a0 : Fin 5) (a1 : Bool) (s : State) :
    (effSupplyFault a0 a1 s).pending = s.pending ∧
    (effSupplyFault a0 a1 s).tick = s.tick := by
  have k1 := @State.causeToo_frame
  have k2 := @State.devReset_frame
  have k3 := @State.post_frame
  have k4 := @State.setRail_frame
  have k5 := @State.ite_frame
  unfold effSupplyFault
  simp [k1, k2, k3, k4, k5]

theorem effSupplyRestart_frame (s : State) :
    (effSupplyRestart s).pending = s.pending ∧
    (effSupplyRestart s).time = s.time ∧
    (effSupplyRestart s).tick = s.tick ∧
    (effSupplyRestart s).free = s.free ∧
    (effSupplyRestart s).tl = s.tl ∧
    (effSupplyRestart s).hk = s.hk ∧
    (effSupplyRestart s).log = s.log ∧
    (effSupplyRestart s).seqs = s.seqs ∧
    (effSupplyRestart s).host = s.host ∧
    (effSupplyRestart s).dict = s.dict ∧
    (effSupplyRestart s).mclk = s.mclk ∧
    (effSupplyRestart s).sd = s.sd ∧
    (effSupplyRestart s).aux = s.aux ∧
    (effSupplyRestart s).enc = s.enc ∧
    (effSupplyRestart s).eng = s.eng ∧
    (effSupplyRestart s).slices = s.slices ∧
    (effSupplyRestart s).gl = s.gl ∧
    (effSupplyRestart s).ref = s.ref ∧
    (effSupplyRestart s).cp = s.cp ∧
    (effSupplyRestart s).flk = s.flk ∧
    (effSupplyRestart s).ring = s.ring ∧
    (effSupplyRestart s).can = s.can ∧
    (effSupplyRestart s).canPub = s.canPub ∧
    (effSupplyRestart s).eth = s.eth ∧
    (effSupplyRestart s).tio = s.tio ∧
    (effSupplyRestart s).dia = s.dia := by
  have k1 := @State.ite_frame
  unfold effSupplyRestart
  simp [k1]

theorem effResetNLow_frame (s : State) :
    (effResetNLow s).pending = s.pending ∧
    (effResetNLow s).tick = s.tick ∧
    (effResetNLow s).log = s.log ∧
    (effResetNLow s).seqs = s.seqs := by
  have k1 := @State.causeToo_frame
  have k2 := @State.devReset_frame
  have k3 := @State.ite_frame
  unfold effResetNLow
  simp [k1, k2, k3]

theorem effResetNRelease_frame (s : State) :
    (effResetNRelease s).pending = s.pending ∧
    (effResetNRelease s).time = s.time ∧
    (effResetNRelease s).tick = s.tick ∧
    (effResetNRelease s).free = s.free ∧
    (effResetNRelease s).tl = s.tl ∧
    (effResetNRelease s).hk = s.hk ∧
    (effResetNRelease s).log = s.log ∧
    (effResetNRelease s).seqs = s.seqs ∧
    (effResetNRelease s).host = s.host ∧
    (effResetNRelease s).dict = s.dict ∧
    (effResetNRelease s).mclk = s.mclk ∧
    (effResetNRelease s).sd = s.sd ∧
    (effResetNRelease s).aux = s.aux ∧
    (effResetNRelease s).enc = s.enc ∧
    (effResetNRelease s).eng = s.eng ∧
    (effResetNRelease s).slices = s.slices ∧
    (effResetNRelease s).gl = s.gl ∧
    (effResetNRelease s).ref = s.ref ∧
    (effResetNRelease s).cp = s.cp ∧
    (effResetNRelease s).flk = s.flk ∧
    (effResetNRelease s).ring = s.ring ∧
    (effResetNRelease s).can = s.can ∧
    (effResetNRelease s).canPub = s.canPub ∧
    (effResetNRelease s).eth = s.eth ∧
    (effResetNRelease s).tio = s.tio ∧
    (effResetNRelease s).dia = s.dia := by
  unfold effResetNRelease
  simp

theorem State.selectBank_frame (s : State) (a1 : Nat) :
    (State.selectBank s a1).pending = s.pending ∧
    (State.selectBank s a1).time = s.time ∧
    (State.selectBank s a1).tick = s.tick ∧
    (State.selectBank s a1).free = s.free ∧
    (State.selectBank s a1).tl = s.tl ∧
    (State.selectBank s a1).hk = s.hk ∧
    (State.selectBank s a1).host = s.host ∧
    (State.selectBank s a1).mclk = s.mclk ∧
    (State.selectBank s a1).sd = s.sd ∧
    (State.selectBank s a1).aux = s.aux ∧
    (State.selectBank s a1).enc = s.enc ∧
    (State.selectBank s a1).eng = s.eng ∧
    (State.selectBank s a1).slices = s.slices ∧
    (State.selectBank s a1).gl = s.gl ∧
    (State.selectBank s a1).ref = s.ref ∧
    (State.selectBank s a1).cp = s.cp ∧
    (State.selectBank s a1).flk = s.flk ∧
    (State.selectBank s a1).ring = s.ring ∧
    (State.selectBank s a1).can = s.can ∧
    (State.selectBank s a1).canPub = s.canPub ∧
    (State.selectBank s a1).eth = s.eth ∧
    (State.selectBank s a1).tio = s.tio := by
  have k1 := @State.post_frame
  unfold State.selectBank
  simp [k1]

theorem effDeviceReset_frame (a0 : ResetCause) (s : State) :
    (effDeviceReset a0 s).pending = s.pending ∧
    (effDeviceReset a0 s).tick = s.tick := by
  have k1 := @State.devReset_frame
  have k2 := @State.post_frame
  have k3 := @State.selectBank_frame
  have k4 := @State.ite_frame
  unfold effDeviceReset
  repeat' (first | (simp [k1, k2, k3, k4]; done) | split)

theorem effBypassOpen_frame (s : State) :
    (effBypassOpen s).pending = s.pending ∧
    (effBypassOpen s).time = s.time ∧
    (effBypassOpen s).tick = s.tick ∧
    (effBypassOpen s).free = s.free ∧
    (effBypassOpen s).tl = s.tl ∧
    (effBypassOpen s).hk = s.hk ∧
    (effBypassOpen s).log = s.log ∧
    (effBypassOpen s).seqs = s.seqs ∧
    (effBypassOpen s).host = s.host ∧
    (effBypassOpen s).dict = s.dict ∧
    (effBypassOpen s).mclk = s.mclk ∧
    (effBypassOpen s).sd = s.sd ∧
    (effBypassOpen s).aux = s.aux ∧
    (effBypassOpen s).enc = s.enc ∧
    (effBypassOpen s).eng = s.eng ∧
    (effBypassOpen s).slices = s.slices ∧
    (effBypassOpen s).gl = s.gl ∧
    (effBypassOpen s).ref = s.ref ∧
    (effBypassOpen s).cp = s.cp ∧
    (effBypassOpen s).ring = s.ring ∧
    (effBypassOpen s).can = s.can ∧
    (effBypassOpen s).canPub = s.canPub ∧
    (effBypassOpen s).eth = s.eth ∧
    (effBypassOpen s).tio = s.tio ∧
    (effBypassOpen s).dia = s.dia := by
  have k1 := @State.ite_frame
  unfold effBypassOpen
  simp [k1]

theorem effXtalDetect_frame (a0 : Nat) (s : State) :
    (effXtalDetect a0 s).pending = s.pending ∧
    (effXtalDetect a0 s).time = s.time ∧
    (effXtalDetect a0 s).tick = s.tick ∧
    (effXtalDetect a0 s).free = s.free ∧
    (effXtalDetect a0 s).tl = s.tl ∧
    (effXtalDetect a0 s).hk = s.hk ∧
    (effXtalDetect a0 s).seqs = s.seqs ∧
    (effXtalDetect a0 s).host = s.host ∧
    (effXtalDetect a0 s).dict = s.dict ∧
    (effXtalDetect a0 s).mclk = s.mclk ∧
    (effXtalDetect a0 s).sd = s.sd ∧
    (effXtalDetect a0 s).aux = s.aux ∧
    (effXtalDetect a0 s).enc = s.enc ∧
    (effXtalDetect a0 s).eng = s.eng ∧
    (effXtalDetect a0 s).slices = s.slices ∧
    (effXtalDetect a0 s).gl = s.gl ∧
    (effXtalDetect a0 s).ref = s.ref ∧
    (effXtalDetect a0 s).cp = s.cp ∧
    (effXtalDetect a0 s).flk = s.flk ∧
    (effXtalDetect a0 s).ring = s.ring ∧
    (effXtalDetect a0 s).can = s.can ∧
    (effXtalDetect a0 s).canPub = s.canPub ∧
    (effXtalDetect a0 s).eth = s.eth ∧
    (effXtalDetect a0 s).tio = s.tio ∧
    (effXtalDetect a0 s).dia = s.dia := by
  have k1 := @State.jot_frame
  have k2 := @State.ite_frame
  unfold effXtalDetect
  simp [k1, k2]

theorem State.decidePwr_frame (s : State) :
    (State.decidePwr s).pending = s.pending ∧
    (State.decidePwr s).tick = s.tick ∧
    (State.decidePwr s).log = s.log ∧
    (State.decidePwr s).seqs = s.seqs := by
  have k1 := @State.domainReset_frame
  have k2 := @State.setPhase_frame
  have k3 := @State.ite_frame
  unfold State.decidePwr
  simp [k1, k2, k3]

theorem State.countBoot_frame (s : State) :
    (State.countBoot s).pending = s.pending ∧
    (State.countBoot s).time = s.time ∧
    (State.countBoot s).tick = s.tick ∧
    (State.countBoot s).free = s.free ∧
    (State.countBoot s).tl = s.tl ∧
    (State.countBoot s).hk = s.hk ∧
    (State.countBoot s).log = s.log ∧
    (State.countBoot s).seqs = s.seqs ∧
    (State.countBoot s).host = s.host ∧
    (State.countBoot s).dict = s.dict ∧
    (State.countBoot s).mclk = s.mclk ∧
    (State.countBoot s).sd = s.sd ∧
    (State.countBoot s).aux = s.aux ∧
    (State.countBoot s).enc = s.enc ∧
    (State.countBoot s).eng = s.eng ∧
    (State.countBoot s).slices = s.slices ∧
    (State.countBoot s).gl = s.gl ∧
    (State.countBoot s).ref = s.ref ∧
    (State.countBoot s).cp = s.cp ∧
    (State.countBoot s).flk = s.flk ∧
    (State.countBoot s).ring = s.ring ∧
    (State.countBoot s).can = s.can ∧
    (State.countBoot s).canPub = s.canPub ∧
    (State.countBoot s).eth = s.eth ∧
    (State.countBoot s).tio = s.tio ∧
    (State.countBoot s).dia = s.dia := by
  have k1 := @State.ite_frame
  unfold State.countBoot
  dsimp only
  repeat' (first | (simp [k1]; done) | split)

theorem effDeviceStart_frame (s : State) :
    (effDeviceStart s).pending = s.pending ∧
    (effDeviceStart s).tick = s.tick := by
  have k1 := @State.countBoot_frame
  have k2 := @State.decidePwr_frame
  have k3 := @State.post_frame
  have k4 := @State.setPhase_frame
  have k5 := @State.ite_frame
  unfold effDeviceStart
  simp [k1, k2, k3, k4, k5]

theorem State.clockFault_frame (s : State) (a1 : Nat) (a2 : Bool) :
    (State.clockFault s a1 a2).pending = s.pending ∧
    (State.clockFault s a1 a2).tick = s.tick := by
  have k1 := @State.domainReset_frame
  have k2 := @State.post_frame
  have k3 := @State.setPhase_frame
  unfold State.clockFault
  simp [k1, k2, k3]

theorem State.clkJudge_frame (s : State) (a1 : Nat) (a2 : Bool) (a3 : Bool) :
    (State.clkJudge s a1 a2 a3).pending = s.pending ∧
    (State.clkJudge s a1 a2 a3).tick = s.tick := by
  have k1 := @State.clockFault_frame
  have k2 := @State.ite_frame
  unfold State.clkJudge
  dsimp only
  repeat' (first | (simp [k1, k2]; done) | split)

theorem effClockMonitorWindow_frame (a0 : Fin 4) (a1 : Nat) (s : State) :
    (effClockMonitorWindow a0 a1 s).pending = s.pending ∧
    (effClockMonitorWindow a0 a1 s).tick = s.tick := by
  have k1 := @State.clkJudge_frame
  have k2 := @State.ite_frame
  unfold effClockMonitorWindow
  simp [k1, k2]

theorem effClockEdgeTimeout_frame (a0 : Fin 4) (s : State) :
    (effClockEdgeTimeout a0 s).pending = s.pending ∧
    (effClockEdgeTimeout a0 s).tick = s.tick := by
  have k1 := @State.clkJudge_frame
  have k2 := @State.ite_frame
  unfold effClockEdgeTimeout
  simp [k1, k2]

theorem effClockStable_frame (s : State) :
    (effClockStable s).pending = s.pending ∧
    (effClockStable s).time = s.time ∧
    (effClockStable s).tick = s.tick ∧
    (effClockStable s).free = s.free ∧
    (effClockStable s).tl = s.tl ∧
    (effClockStable s).hk = s.hk ∧
    (effClockStable s).log = s.log ∧
    (effClockStable s).seqs = s.seqs ∧
    (effClockStable s).host = s.host ∧
    (effClockStable s).dict = s.dict ∧
    (effClockStable s).mclk = s.mclk ∧
    (effClockStable s).sd = s.sd ∧
    (effClockStable s).aux = s.aux ∧
    (effClockStable s).enc = s.enc ∧
    (effClockStable s).eng = s.eng ∧
    (effClockStable s).slices = s.slices ∧
    (effClockStable s).gl = s.gl ∧
    (effClockStable s).ref = s.ref ∧
    (effClockStable s).cp = s.cp ∧
    (effClockStable s).flk = s.flk ∧
    (effClockStable s).ring = s.ring ∧
    (effClockStable s).can = s.can ∧
    (effClockStable s).canPub = s.canPub ∧
    (effClockStable s).eth = s.eth ∧
    (effClockStable s).tio = s.tio ∧
    (effClockStable s).dia = s.dia := by
  have k1 := @State.ite_frame
  unfold effClockStable
  simp [k1]

theorem effClockHoldTimeout_frame (s : State) :
    (effClockHoldTimeout s).pending = s.pending ∧
    (effClockHoldTimeout s).tick = s.tick ∧
    (effClockHoldTimeout s).log = s.log ∧
    (effClockHoldTimeout s).seqs = s.seqs := by
  have k1 := @State.decidePwr_frame
  have k2 := @State.ite_frame
  unfold effClockHoldTimeout
  simp [k1, k2]

theorem effStartFailTimeout_frame (s : State) :
    (effStartFailTimeout s).pending = s.pending ∧
    (effStartFailTimeout s).tick = s.tick ∧
    (effStartFailTimeout s).log = s.log ∧
    (effStartFailTimeout s).seqs = s.seqs := by
  have k1 := @State.decidePwr_frame
  have k2 := @State.ite_frame
  unfold effStartFailTimeout
  simp [k1, k2]

theorem effPwrcycAssert_frame (s : State) :
    (effPwrcycAssert s).pending = s.pending ∧
    (effPwrcycAssert s).tick = s.tick ∧
    (effPwrcycAssert s).log = s.log ∧
    (effPwrcycAssert s).seqs = s.seqs := by
  have k1 := @State.domainReset_frame
  have k2 := @State.ite_frame
  unfold effPwrcycAssert
  repeat' (first | (simp [k1, k2]; done) | split)

theorem effPwrcycRelease_frame (s : State) :
    (effPwrcycRelease s).pending = s.pending ∧
    (effPwrcycRelease s).time = s.time ∧
    (effPwrcycRelease s).tick = s.tick ∧
    (effPwrcycRelease s).free = s.free ∧
    (effPwrcycRelease s).tl = s.tl ∧
    (effPwrcycRelease s).hk = s.hk ∧
    (effPwrcycRelease s).log = s.log ∧
    (effPwrcycRelease s).seqs = s.seqs ∧
    (effPwrcycRelease s).host = s.host ∧
    (effPwrcycRelease s).dict = s.dict ∧
    (effPwrcycRelease s).mclk = s.mclk ∧
    (effPwrcycRelease s).sd = s.sd ∧
    (effPwrcycRelease s).aux = s.aux ∧
    (effPwrcycRelease s).enc = s.enc ∧
    (effPwrcycRelease s).eng = s.eng ∧
    (effPwrcycRelease s).slices = s.slices ∧
    (effPwrcycRelease s).gl = s.gl ∧
    (effPwrcycRelease s).ref = s.ref ∧
    (effPwrcycRelease s).cp = s.cp ∧
    (effPwrcycRelease s).flk = s.flk ∧
    (effPwrcycRelease s).ring = s.ring ∧
    (effPwrcycRelease s).can = s.can ∧
    (effPwrcycRelease s).canPub = s.canPub ∧
    (effPwrcycRelease s).eth = s.eth ∧
    (effPwrcycRelease s).tio = s.tio ∧
    (effPwrcycRelease s).dia = s.dia := by
  have k1 := @State.ite_frame
  unfold effPwrcycRelease
  simp [k1]

theorem effPwrcycNoResponse_frame (s : State) :
    (effPwrcycNoResponse s).pending = s.pending ∧
    (effPwrcycNoResponse s).tick = s.tick := by
  have k1 := @State.devReset_frame
  have k2 := @State.post_frame
  have k3 := @State.ite_frame
  unfold effPwrcycNoResponse
  repeat' (first | (simp [k1, k2, k3]; done) | split)

end Sys2Proof.Machine
end

