-- ==== Sys2Proof/Laws/Commands.lean ====
section
/-!
SUPPORT. What each operation of Machine/Commands.lean leaves as it was: the parts of State that it cannot change.
-/

namespace Sys2Proof.Machine

open Sys2Proof

theorem State.fail_frame (s : State) (a1 : Nat) :
    (State.fail s a1).st.pending = s.pending ∧
    (State.fail s a1).st.time = s.time ∧
    (State.fail s a1).st.tick = s.tick ∧
    (State.fail s a1).st.free = s.free ∧
    (State.fail s a1).st.tl = s.tl ∧
    (State.fail s a1).st.mu = s.mu ∧
    (State.fail s a1).st.hk = s.hk ∧
    (State.fail s a1).st.log = s.log ∧
    (State.fail s a1).st.seqs = s.seqs ∧
    (State.fail s a1).st.host = s.host ∧
    (State.fail s a1).st.dict = s.dict ∧
    (State.fail s a1).st.mclk = s.mclk ∧
    (State.fail s a1).st.sd = s.sd ∧
    (State.fail s a1).st.aux = s.aux ∧
    (State.fail s a1).st.enc = s.enc ∧
    (State.fail s a1).st.eng = s.eng ∧
    (State.fail s a1).st.slices = s.slices ∧
    (State.fail s a1).st.gl = s.gl ∧
    (State.fail s a1).st.ref = s.ref ∧
    (State.fail s a1).st.cp = s.cp ∧
    (State.fail s a1).st.flk = s.flk ∧
    (State.fail s a1).st.ring = s.ring ∧
    (State.fail s a1).st.can = s.can ∧
    (State.fail s a1).st.canPub = s.canPub ∧
    (State.fail s a1).st.eth = s.eth ∧
    (State.fail s a1).st.tio = s.tio ∧
    (State.fail s a1).st.dia = s.dia := by
  unfold State.fail
  simp

theorem State.okay_frame (s : State) :
    (State.okay s).st.pending = s.pending ∧
    (State.okay s).st.time = s.time ∧
    (State.okay s).st.tick = s.tick ∧
    (State.okay s).st.free = s.free ∧
    (State.okay s).st.tl = s.tl ∧
    (State.okay s).st.mu = s.mu ∧
    (State.okay s).st.hk = s.hk ∧
    (State.okay s).st.log = s.log ∧
    (State.okay s).st.seqs = s.seqs ∧
    (State.okay s).st.host = s.host ∧
    (State.okay s).st.dict = s.dict ∧
    (State.okay s).st.mclk = s.mclk ∧
    (State.okay s).st.sd = s.sd ∧
    (State.okay s).st.aux = s.aux ∧
    (State.okay s).st.enc = s.enc ∧
    (State.okay s).st.eng = s.eng ∧
    (State.okay s).st.slices = s.slices ∧
    (State.okay s).st.gl = s.gl ∧
    (State.okay s).st.ref = s.ref ∧
    (State.okay s).st.cp = s.cp ∧
    (State.okay s).st.flk = s.flk ∧
    (State.okay s).st.ring = s.ring ∧
    (State.okay s).st.can = s.can ∧
    (State.okay s).st.canPub = s.canPub ∧
    (State.okay s).st.eth = s.eth ∧
    (State.okay s).st.tio = s.tio ∧
    (State.okay s).st.dia = s.dia := by
  unfold State.okay
  simp

theorem State.okWith_frame (s : State) (a1 : List Byte) :
    (State.okWith s a1).st.pending = s.pending ∧
    (State.okWith s a1).st.time = s.time ∧
    (State.okWith s a1).st.tick = s.tick ∧
    (State.okWith s a1).st.free = s.free ∧
    (State.okWith s a1).st.tl = s.tl ∧
    (State.okWith s a1).st.mu = s.mu ∧
    (State.okWith s a1).st.hk = s.hk ∧
    (State.okWith s a1).st.log = s.log ∧
    (State.okWith s a1).st.seqs = s.seqs ∧
    (State.okWith s a1).st.host = s.host ∧
    (State.okWith s a1).st.dict = s.dict ∧
    (State.okWith s a1).st.mclk = s.mclk ∧
    (State.okWith s a1).st.sd = s.sd ∧
    (State.okWith s a1).st.aux = s.aux ∧
    (State.okWith s a1).st.enc = s.enc ∧
    (State.okWith s a1).st.eng = s.eng ∧
    (State.okWith s a1).st.slices = s.slices ∧
    (State.okWith s a1).st.gl = s.gl ∧
    (State.okWith s a1).st.ref = s.ref ∧
    (State.okWith s a1).st.cp = s.cp ∧
    (State.okWith s a1).st.flk = s.flk ∧
    (State.okWith s a1).st.ring = s.ring ∧
    (State.okWith s a1).st.can = s.can ∧
    (State.okWith s a1).st.canPub = s.canPub ∧
    (State.okWith s a1).st.eth = s.eth ∧
    (State.okWith s a1).st.tio = s.tio ∧
    (State.okWith s a1).st.dia = s.dia := by
  unfold State.okWith
  simp

theorem State.accept_frame (s : State) :
    (State.accept s).st.pending = s.pending ∧
    (State.accept s).st.time = s.time ∧
    (State.accept s).st.tick = s.tick ∧
    (State.accept s).st.free = s.free ∧
    (State.accept s).st.tl = s.tl ∧
    (State.accept s).st.mu = s.mu ∧
    (State.accept s).st.hk = s.hk ∧
    (State.accept s).st.log = s.log ∧
    (State.accept s).st.seqs = s.seqs ∧
    (State.accept s).st.host = s.host ∧
    (State.accept s).st.dict = s.dict ∧
    (State.accept s).st.mclk = s.mclk ∧
    (State.accept s).st.sd = s.sd ∧
    (State.accept s).st.aux = s.aux ∧
    (State.accept s).st.enc = s.enc ∧
    (State.accept s).st.eng = s.eng ∧
    (State.accept s).st.slices = s.slices ∧
    (State.accept s).st.gl = s.gl ∧
    (State.accept s).st.ref = s.ref ∧
    (State.accept s).st.cp = s.cp ∧
    (State.accept s).st.flk = s.flk ∧
    (State.accept s).st.ring = s.ring ∧
    (State.accept s).st.can = s.can ∧
    (State.accept s).st.canPub = s.canPub ∧
    (State.accept s).st.eth = s.eth ∧
    (State.accept s).st.tio = s.tio ∧
    (State.accept s).st.dia = s.dia := by
  unfold State.accept
  simp

theorem State.served_frame (s : State) (a1 : Nat) :
    (State.served s a1).pending = s.pending ∧
    (State.served s a1).time = s.time ∧
    (State.served s a1).tick = s.tick ∧
    (State.served s a1).free = s.free ∧
    (State.served s a1).tl = s.tl ∧
    (State.served s a1).mu = s.mu ∧
    (State.served s a1).hk = s.hk ∧
    (State.served s a1).log = s.log ∧
    (State.served s a1).seqs = s.seqs ∧
    (State.served s a1).dict = s.dict ∧
    (State.served s a1).mclk = s.mclk ∧
    (State.served s a1).sd = s.sd ∧
    (State.served s a1).aux = s.aux ∧
    (State.served s a1).enc = s.enc ∧
    (State.served s a1).eng = s.eng ∧
    (State.served s a1).slices = s.slices ∧
    (State.served s a1).gl = s.gl ∧
    (State.served s a1).ref = s.ref ∧
    (State.served s a1).cp = s.cp ∧
    (State.served s a1).flk = s.flk ∧
    (State.served s a1).ring = s.ring ∧
    (State.served s a1).can = s.can ∧
    (State.served s a1).canPub = s.canPub ∧
    (State.served s a1).eth = s.eth ∧
    (State.served s a1).tio = s.tio ∧
    (State.served s a1).dia = s.dia := by
  have k1 := @State.ite_frame
  unfold State.served
  simp [k1]

theorem State.startEntry_frame (s : State) (a1 : Nat) (a2 : Pkt) :
    (State.startEntry s a1 a2).1.pending = s.pending ∧
    (State.startEntry s a1 a2).1.time = s.time ∧
    (State.startEntry s a1 a2).1.tick = s.tick ∧
    (State.startEntry s a1 a2).1.free = s.free ∧
    (State.startEntry s a1 a2).1.tl = s.tl ∧
    (State.startEntry s a1 a2).1.mu = s.mu ∧
    (State.startEntry s a1 a2).1.hk = s.hk ∧
    (State.startEntry s a1 a2).1.log = s.log ∧
    (State.startEntry s a1 a2).1.seqs = s.seqs ∧
    (State.startEntry s a1 a2).1.dict = s.dict ∧
    (State.startEntry s a1 a2).1.mclk = s.mclk ∧
    (State.startEntry s a1 a2).1.sd = s.sd ∧
    (State.startEntry s a1 a2).1.aux = s.aux ∧
    (State.startEntry s a1 a2).1.enc = s.enc ∧
    (State.startEntry s a1 a2).1.eng = s.eng ∧
    (State.startEntry s a1 a2).1.slices = s.slices ∧
    (State.startEntry s a1 a2).1.gl = s.gl ∧
    (State.startEntry s a1 a2).1.ref = s.ref ∧
    (State.startEntry s a1 a2).1.cp = s.cp ∧
    (State.startEntry s a1 a2).1.flk = s.flk ∧
    (State.startEntry s a1 a2).1.ring = s.ring ∧
    (State.startEntry s a1 a2).1.can = s.can ∧
    (State.startEntry s a1 a2).1.canPub = s.canPub ∧
    (State.startEntry s a1 a2).1.eth = s.eth ∧
    (State.startEntry s a1 a2).1.tio = s.tio ∧
    (State.startEntry s a1 a2).1.dia = s.dia := by
  unfold State.startEntry
  dsimp only
  repeat' (first | (simp; done) | split)

theorem State.sendItem_frame (s : State) (a1 : MirrorItem) :
    (State.sendItem s a1).pending = s.pending ∧
    (State.sendItem s a1).time = s.time ∧
    (State.sendItem s a1).tick = s.tick ∧
    (State.sendItem s a1).free = s.free ∧
    (State.sendItem s a1).tl = s.tl ∧
    (State.sendItem s a1).mu = s.mu ∧
    (State.sendItem s a1).hk = s.hk ∧
    (State.sendItem s a1).log = s.log ∧
    (State.sendItem s a1).host = s.host ∧
    (State.sendItem s a1).dict = s.dict ∧
    (State.sendItem s a1).mclk = s.mclk ∧
    (State.sendItem s a1).sd = s.sd ∧
    (State.sendItem s a1).aux = s.aux ∧
    (State.sendItem s a1).enc = s.enc ∧
    (State.sendItem s a1).eng = s.eng ∧
    (State.sendItem s a1).slices = s.slices ∧
    (State.sendItem s a1).gl = s.gl ∧
    (State.sendItem s a1).ref = s.ref ∧
    (State.sendItem s a1).cp = s.cp ∧
    (State.sendItem s a1).flk = s.flk ∧
    (State.sendItem s a1).can = s.can ∧
    (State.sendItem s a1).canPub = s.canPub ∧
    (State.sendItem s a1).eth = s.eth ∧
    (State.sendItem s a1).tio = s.tio := by
  have k1 := @State.ringTx_frame
  unfold State.sendItem
  simp [k1]

theorem State.mirrorOverflow_frame (s : State) :
    (State.mirrorOverflow s).pending = s.pending ∧
    (State.mirrorOverflow s).time = s.time ∧
    (State.mirrorOverflow s).tick = s.tick ∧
    (State.mirrorOverflow s).free = s.free ∧
    (State.mirrorOverflow s).tl = s.tl ∧
    (State.mirrorOverflow s).mu = s.mu ∧
    (State.mirrorOverflow s).hk = s.hk ∧
    (State.mirrorOverflow s).log = s.log ∧
    (State.mirrorOverflow s).host = s.host ∧
    (State.mirrorOverflow s).mclk = s.mclk ∧
    (State.mirrorOverflow s).sd = s.sd ∧
    (State.mirrorOverflow s).aux = s.aux ∧
    (State.mirrorOverflow s).enc = s.enc ∧
    (State.mirrorOverflow s).eng = s.eng ∧
    (State.mirrorOverflow s).slices = s.slices ∧
    (State.mirrorOverflow s).gl = s.gl ∧
    (State.mirrorOverflow s).ref = s.ref ∧
    (State.mirrorOverflow s).cp = s.cp ∧
    (State.mirrorOverflow s).can = s.can ∧
    (State.mirrorOverflow s).canPub = s.canPub ∧
    (State.mirrorOverflow s).eth = s.eth ∧
    (State.mirrorOverflow s).tio = s.tio := by
  have k1 := @State.ringTx_frame
  unfold State.mirrorOverflow
  simp [k1]

theorem State.mirrorPut_frame (s : State) (a1 : Stamp) (a2 : MirrorBody) :
    (State.mirrorPut s a1 a2).pending = s.pending ∧
    (State.mirrorPut s a1 a2).time = s.time ∧
    (State.mirrorPut s a1 a2).tick = s.tick ∧
    (State.mirrorPut s a1 a2).free = s.free ∧
    (State.mirrorPut s a1 a2).tl = s.tl ∧
    (State.mirrorPut s a1 a2).mu = s.mu ∧
    (State.mirrorPut s a1 a2).hk = s.hk ∧
    (State.mirrorPut s a1 a2).log = s.log ∧
    (State.mirrorPut s a1 a2).host = s.host ∧
    (State.mirrorPut s a1 a2).mclk = s.mclk ∧
    (State.mirrorPut s a1 a2).sd = s.sd ∧
    (State.mirrorPut s a1 a2).aux = s.aux ∧
    (State.mirrorPut s a1 a2).enc = s.enc ∧
    (State.mirrorPut s a1 a2).eng = s.eng ∧
    (State.mirrorPut s a1 a2).slices = s.slices ∧
    (State.mirrorPut s a1 a2).gl = s.gl ∧
    (State.mirrorPut s a1 a2).ref = s.ref ∧
    (State.mirrorPut s a1 a2).cp = s.cp ∧
    (State.mirrorPut s a1 a2).can = s.can ∧
    (State.mirrorPut s a1 a2).canPub = s.canPub ∧
    (State.mirrorPut s a1 a2).eth = s.eth ∧
    (State.mirrorPut s a1 a2).tio = s.tio := by
  have k1 := @State.mirrorOverflow_frame
  have k2 := @State.sendItem_frame
  have k3 := @State.ite_frame
  unfold State.mirrorPut
  simp [k1, k2, k3]

theorem State.setCur_frame (s : State) (a1 : Option (Pkt × Stamp × Nat)) :
    (State.setCur s a1).pending = s.pending ∧
    (State.setCur s a1).time = s.time ∧
    (State.setCur s a1).tick = s.tick ∧
    (State.setCur s a1).free = s.free ∧
    (State.setCur s a1).tl = s.tl ∧
    (State.setCur s a1).mu = s.mu ∧
    (State.setCur s a1).hk = s.hk ∧
    (State.setCur s a1).log = s.log ∧
    (State.setCur s a1).seqs = s.seqs ∧
    (State.setCur s a1).dict = s.dict ∧
    (State.setCur s a1).mclk = s.mclk ∧
    (State.setCur s a1).sd = s.sd ∧
    (State.setCur s a1).aux = s.aux ∧
    (State.setCur s a1).enc = s.enc ∧
    (State.setCur s a1).eng = s.eng ∧
    (State.setCur s a1).slices = s.slices ∧
    (State.setCur s a1).gl = s.gl ∧
    (State.setCur s a1).ref = s.ref ∧
    (State.setCur s a1).cp = s.cp ∧
    (State.setCur s a1).flk = s.flk ∧
    (State.setCur s a1).ring = s.ring ∧
    (State.setCur s a1).can = s.can ∧
    (State.setCur s a1).canPub = s.canPub ∧
    (State.setCur s a1).eth = s.eth ∧
    (State.setCur s a1).tio = s.tio ∧
    (State.setCur s a1).dia = s.dia := by
  unfold State.setCur
  simp

theorem State.deferCur_frame (s : State) :
    (State.deferCur s).pending = s.pending ∧
    (State.deferCur s).time = s.time ∧
    (State.deferCur s).tick = s.tick ∧
    (State.deferCur s).free = s.free ∧
    (State.deferCur s).tl = s.tl ∧
    (State.deferCur s).mu = s.mu ∧
    (State.deferCur s).hk = s.hk ∧
    (State.deferCur s).log = s.log ∧
    (State.deferCur s).seqs = s.seqs ∧
    (State.deferCur s).dict = s.dict ∧
    (State.deferCur s).mclk = s.mclk ∧
    (State.deferCur s).sd = s.sd ∧
    (State.deferCur s).aux = s.aux ∧
    (State.deferCur s).enc = s.enc ∧
    (State.deferCur s).eng = s.eng ∧
    (State.deferCur s).slices = s.slices ∧
    (State.deferCur s).gl = s.gl ∧
    (State.deferCur s).ref = s.ref ∧
    (State.deferCur s).cp = s.cp ∧
    (State.deferCur s).flk = s.flk ∧
    (State.deferCur s).ring = s.ring ∧
    (State.deferCur s).can = s.can ∧
    (State.deferCur s).canPub = s.canPub ∧
    (State.deferCur s).eth = s.eth ∧
    (State.deferCur s).tio = s.tio ∧
    (State.deferCur s).dia = s.dia := by
  unfold State.deferCur
  repeat' (first | (simp; done) | split)

theorem State.finish_frame (s : State) (a1 : Deferred) (a2 : Nat) (a3 : List Byte) :
    (State.finish s a1 a2 a3).pending = s.pending ∧
    (State.finish s a1 a2 a3).time = s.time ∧
    (State.finish s a1 a2 a3).tick = s.tick ∧
    (State.finish s a1 a2 a3).free = s.free ∧
    (State.finish s a1 a2 a3).tl = s.tl ∧
    (State.finish s a1 a2 a3).mu = s.mu ∧
    (State.finish s a1 a2 a3).hk = s.hk ∧
    (State.finish s a1 a2 a3).log = s.log ∧
    (State.finish s a1 a2 a3).dict = s.dict ∧
    (State.finish s a1 a2 a3).mclk = s.mclk ∧
    (State.finish s a1 a2 a3).sd = s.sd ∧
    (State.finish s a1 a2 a3).aux = s.aux ∧
    (State.finish s a1 a2 a3).enc = s.enc ∧
    (State.finish s a1 a2 a3).eng = s.eng ∧
    (State.finish s a1 a2 a3).slices = s.slices ∧
    (State.finish s a1 a2 a3).gl = s.gl ∧
    (State.finish s a1 a2 a3).ref = s.ref ∧
    (State.finish s a1 a2 a3).cp = s.cp ∧
    (State.finish s a1 a2 a3).flk = s.flk ∧
    (State.finish s a1 a2 a3).canPub = s.canPub ∧
    (State.finish s a1 a2 a3).tio = s.tio := by
  have k1 := @State.complete_frame
  unfold State.finish
  simp [k1]

theorem State.flushHeld_frame (s : State) :
    (State.flushHeld s).pending = s.pending ∧
    (State.flushHeld s).time = s.time ∧
    (State.flushHeld s).tick = s.tick ∧
    (State.flushHeld s).free = s.free ∧
    (State.flushHeld s).tl = s.tl ∧
    (State.flushHeld s).mu = s.mu ∧
    (State.flushHeld s).hk = s.hk ∧
    (State.flushHeld s).log = s.log ∧
    (State.flushHeld s).dict = s.dict ∧
    (State.flushHeld s).mclk = s.mclk ∧
    (State.flushHeld s).sd = s.sd ∧
    (State.flushHeld s).aux = s.aux ∧
    (State.flushHeld s).enc = s.enc ∧
    (State.flushHeld s).eng = s.eng ∧
    (State.flushHeld s).slices = s.slices ∧
    (State.flushHeld s).gl = s.gl ∧
    (State.flushHeld s).ref = s.ref ∧
    (State.flushHeld s).cp = s.cp ∧
    (State.flushHeld s).flk = s.flk ∧
    (State.flushHeld s).canPub = s.canPub ∧
    (State.flushHeld s).tio = s.tio := by
  have k1 := @State.finish_frame
  unfold State.flushHeld
  simp [k1]

theorem State.noteAccepted_frame (s : State) (a1 : Pkt) :
    (State.noteAccepted s a1).pending = s.pending ∧
    (State.noteAccepted s a1).time = s.time ∧
    (State.noteAccepted s a1).tick = s.tick ∧
    (State.noteAccepted s a1).free = s.free ∧
    (State.noteAccepted s a1).tl = s.tl ∧
    (State.noteAccepted s a1).mu = s.mu ∧
    (State.noteAccepted s a1).hk = s.hk ∧
    (State.noteAccepted s a1).log = s.log ∧
    (State.noteAccepted s a1).dict = s.dict ∧
    (State.noteAccepted s a1).mclk = s.mclk ∧
    (State.noteAccepted s a1).sd = s.sd ∧
    (State.noteAccepted s a1).aux = s.aux ∧
    (State.noteAccepted s a1).enc = s.enc ∧
    (State.noteAccepted s a1).eng = s.eng ∧
    (State.noteAccepted s a1).slices = s.slices ∧
    (State.noteAccepted s a1).gl = s.gl ∧
    (State.noteAccepted s a1).ref = s.ref ∧
    (State.noteAccepted s a1).cp = s.cp ∧
    (State.noteAccepted s a1).flk = s.flk ∧
    (State.noteAccepted s a1).ring = s.ring ∧
    (State.noteAccepted s a1).can = s.can ∧
    (State.noteAccepted s a1).canPub = s.canPub ∧
    (State.noteAccepted s a1).eth = s.eth ∧
    (State.noteAccepted s a1).tio = s.tio := by
  have k1 := @State.record_frame
  unfold State.noteAccepted
  dsimp only
  repeat' (first | (simp [k1]; done) | split)

theorem State.touch_frame (s : State) (a1 : Pkt) :
    (State.touch s a1).pending = s.pending ∧
    (State.touch s a1).time = s.time ∧
    (State.touch s a1).tick = s.tick ∧
    (State.touch s a1).free = s.free ∧
    (State.touch s a1).tl = s.tl ∧
    (State.touch s a1).mu = s.mu ∧
    (State.touch s a1).hk = s.hk ∧
    (State.touch s a1).log = s.log ∧
    (State.touch s a1).seqs = s.seqs ∧
    (State.touch s a1).dict = s.dict ∧
    (State.touch s a1).mclk = s.mclk ∧
    (State.touch s a1).sd = s.sd ∧
    (State.touch s a1).aux = s.aux ∧
    (State.touch s a1).enc = s.enc ∧
    (State.touch s a1).eng = s.eng ∧
    (State.touch s a1).slices = s.slices ∧
    (State.touch s a1).gl = s.gl ∧
    (State.touch s a1).ref = s.ref ∧
    (State.touch s a1).cp = s.cp ∧
    (State.touch s a1).flk = s.flk ∧
    (State.touch s a1).ring = s.ring ∧
    (State.touch s a1).can = s.can ∧
    (State.touch s a1).canPub = s.canPub ∧
    (State.touch s a1).eth = s.eth ∧
    (State.touch s a1).tio = s.tio ∧
    (State.touch s a1).dia = s.dia := by
  unfold State.touch
  repeat' (first | (simp; done) | split)

theorem State.watchFrom_frame (s : State) (a1 : Pkt) (a2 : Bool) :
    (State.watchFrom s a1 a2).pending = s.pending ∧
    (State.watchFrom s a1 a2).time = s.time ∧
    (State.watchFrom s a1 a2).tick = s.tick ∧
    (State.watchFrom s a1 a2).free = s.free ∧
    (State.watchFrom s a1 a2).mu = s.mu ∧
    (State.watchFrom s a1 a2).hk = s.hk ∧
    (State.watchFrom s a1 a2).log = s.log ∧
    (State.watchFrom s a1 a2).seqs = s.seqs ∧
    (State.watchFrom s a1 a2).host = s.host ∧
    (State.watchFrom s a1 a2).dict = s.dict ∧
    (State.watchFrom s a1 a2).mclk = s.mclk ∧
    (State.watchFrom s a1 a2).sd = s.sd ∧
    (State.watchFrom s a1 a2).aux = s.aux ∧
    (State.watchFrom s a1 a2).enc = s.enc ∧
    (State.watchFrom s a1 a2).eng = s.eng ∧
    (State.watchFrom s a1 a2).slices = s.slices ∧
    (State.watchFrom s a1 a2).gl = s.gl ∧
    (State.watchFrom s a1 a2).ref = s.ref ∧
    (State.watchFrom s a1 a2).cp = s.cp ∧
    (State.watchFrom s a1 a2).flk = s.flk ∧
    (State.watchFrom s a1 a2).ring = s.ring ∧
    (State.watchFrom s a1 a2).can = s.can ∧
    (State.watchFrom s a1 a2).canPub = s.canPub ∧
    (State.watchFrom s a1 a2).eth = s.eth ∧
    (State.watchFrom s a1 a2).tio = s.tio ∧
    (State.watchFrom s a1 a2).dia = s.dia := by
  have k1 := @State.ite_frame
  unfold State.watchFrom
  simp [k1]

end Sys2Proof.Machine
end

