-- ==== Sys2Proof/Laws/Timeline.lean ====
section
/-!
SUPPORT. What each operation of Machine/Timeline.lean leaves as it was: the parts of State that it cannot change.
-/

namespace Sys2Proof.Machine

open Sys2Proof

theorem State.keep_frame (s : State) (a1 : Nat) :
    (State.keep s a1).pending = s.pending ∧
    (State.keep s a1).time = s.time ∧
    (State.keep s a1).tick = s.tick ∧
    (State.keep s a1).free = s.free ∧
    (State.keep s a1).tl = s.tl ∧
    (State.keep s a1).mu = s.mu ∧
    (State.keep s a1).hk = s.hk ∧
    (State.keep s a1).log = s.log ∧
    (State.keep s a1).seqs = s.seqs ∧
    (State.keep s a1).host = s.host ∧
    (State.keep s a1).mclk = s.mclk ∧
    (State.keep s a1).sd = s.sd ∧
    (State.keep s a1).aux = s.aux ∧
    (State.keep s a1).enc = s.enc ∧
    (State.keep s a1).eng = s.eng ∧
    (State.keep s a1).slices = s.slices ∧
    (State.keep s a1).gl = s.gl ∧
    (State.keep s a1).ref = s.ref ∧
    (State.keep s a1).cp = s.cp ∧
    (State.keep s a1).flk = s.flk ∧
    (State.keep s a1).ring = s.ring ∧
    (State.keep s a1).can = s.can ∧
    (State.keep s a1).canPub = s.canPub ∧
    (State.keep s a1).eth = s.eth ∧
    (State.keep s a1).tio = s.tio ∧
    (State.keep s a1).dia = s.dia := by
  have k1 := @State.ite_frame
  unfold State.keep
  repeat' (first | (simp [k1]; done) | split)

theorem State.setKept_frame (s : State) (a1 : Nat) (a2 : Nat) (a3 : Nat) :
    (State.setKept s a1 a2 a3).pending = s.pending ∧
    (State.setKept s a1 a2 a3).time = s.time ∧
    (State.setKept s a1 a2 a3).tick = s.tick ∧
    (State.setKept s a1 a2 a3).free = s.free ∧
    (State.setKept s a1 a2 a3).tl = s.tl ∧
    (State.setKept s a1 a2 a3).mu = s.mu ∧
    (State.setKept s a1 a2 a3).hk = s.hk ∧
    (State.setKept s a1 a2 a3).log = s.log ∧
    (State.setKept s a1 a2 a3).seqs = s.seqs ∧
    (State.setKept s a1 a2 a3).host = s.host ∧
    (State.setKept s a1 a2 a3).mclk = s.mclk ∧
    (State.setKept s a1 a2 a3).sd = s.sd ∧
    (State.setKept s a1 a2 a3).aux = s.aux ∧
    (State.setKept s a1 a2 a3).enc = s.enc ∧
    (State.setKept s a1 a2 a3).eng = s.eng ∧
    (State.setKept s a1 a2 a3).slices = s.slices ∧
    (State.setKept s a1 a2 a3).gl = s.gl ∧
    (State.setKept s a1 a2 a3).ref = s.ref ∧
    (State.setKept s a1 a2 a3).cp = s.cp ∧
    (State.setKept s a1 a2 a3).flk = s.flk ∧
    (State.setKept s a1 a2 a3).ring = s.ring ∧
    (State.setKept s a1 a2 a3).can = s.can ∧
    (State.setKept s a1 a2 a3).canPub = s.canPub ∧
    (State.setKept s a1 a2 a3).eth = s.eth ∧
    (State.setKept s a1 a2 a3).tio = s.tio ∧
    (State.setKept s a1 a2 a3).dia = s.dia := by
  have k1 := @State.keep_frame
  unfold State.setKept
  simp [k1]

theorem State.setStatus_frame (s : State) (a1 : TqStatus) (a2 : Nat) :
    (State.setStatus s a1 a2).pending = s.pending ∧
    (State.setStatus s a1 a2).time = s.time ∧
    (State.setStatus s a1 a2).tick = s.tick ∧
    (State.setStatus s a1 a2).free = s.free ∧
    (State.setStatus s a1 a2).mu = s.mu ∧
    (State.setStatus s a1 a2).hk = s.hk ∧
    (State.setStatus s a1 a2).host = s.host ∧
    (State.setStatus s a1 a2).mclk = s.mclk ∧
    (State.setStatus s a1 a2).sd = s.sd ∧
    (State.setStatus s a1 a2).aux = s.aux ∧
    (State.setStatus s a1 a2).enc = s.enc ∧
    (State.setStatus s a1 a2).eng = s.eng ∧
    (State.setStatus s a1 a2).slices = s.slices ∧
    (State.setStatus s a1 a2).gl = s.gl ∧
    (State.setStatus s a1 a2).ref = s.ref ∧
    (State.setStatus s a1 a2).cp = s.cp ∧
    (State.setStatus s a1 a2).flk = s.flk ∧
    (State.setStatus s a1 a2).ring = s.ring ∧
    (State.setStatus s a1 a2).can = s.can ∧
    (State.setStatus s a1 a2).canPub = s.canPub ∧
    (State.setStatus s a1 a2).eth = s.eth ∧
    (State.setStatus s a1 a2).tio = s.tio := by
  have k1 := @State.post_frame
  have k2 := @State.ite_frame
  unfold State.setStatus
  simp [k1, k2]

theorem State.servoInc_frame (s : State) (a1 : Nat) :
    (State.servoInc s a1).pending = s.pending ∧
    (State.servoInc s a1).tick = s.tick ∧
    (State.servoInc s a1).free = s.free ∧
    (State.servoInc s a1).tl = s.tl ∧
    (State.servoInc s a1).mu = s.mu ∧
    (State.servoInc s a1).hk = s.hk ∧
    (State.servoInc s a1).log = s.log ∧
    (State.servoInc s a1).host = s.host ∧
    (State.servoInc s a1).mclk = s.mclk ∧
    (State.servoInc s a1).sd = s.sd ∧
    (State.servoInc s a1).aux = s.aux ∧
    (State.servoInc s a1).enc = s.enc ∧
    (State.servoInc s a1).eng = s.eng ∧
    (State.servoInc s a1).slices = s.slices ∧
    (State.servoInc s a1).gl = s.gl ∧
    (State.servoInc s a1).ref = s.ref ∧
    (State.servoInc s a1).cp = s.cp ∧
    (State.servoInc s a1).can = s.can ∧
    (State.servoInc s a1).canPub = s.canPub ∧
    (State.servoInc s a1).eth = s.eth ∧
    (State.servoInc s a1).tio = s.tio := by
  have k1 := @State.mirrorPut_frame
  have k2 := @State.ite_frame
  unfold State.servoInc
  simp [k1, k2]

theorem State.skipTimes_frame (s : State) (a1 : Nat) (a2 : Nat) :
    (State.skipTimes s a1 a2).pending = s.pending ∧
    (State.skipTimes s a1 a2).time = s.time ∧
    (State.skipTimes s a1 a2).tick = s.tick ∧
    (State.skipTimes s a1 a2).free = s.free ∧
    (State.skipTimes s a1 a2).tl = s.tl ∧
    (State.skipTimes s a1 a2).mu = s.mu ∧
    (State.skipTimes s a1 a2).hk = s.hk ∧
    (State.skipTimes s a1 a2).log = s.log ∧
    (State.skipTimes s a1 a2).seqs = s.seqs ∧
    (State.skipTimes s a1 a2).host = s.host ∧
    (State.skipTimes s a1 a2).mclk = s.mclk ∧
    (State.skipTimes s a1 a2).sd = s.sd ∧
    (State.skipTimes s a1 a2).aux = s.aux ∧
    (State.skipTimes s a1 a2).enc = s.enc ∧
    (State.skipTimes s a1 a2).eng = s.eng ∧
    (State.skipTimes s a1 a2).gl = s.gl ∧
    (State.skipTimes s a1 a2).ref = s.ref ∧
    (State.skipTimes s a1 a2).cp = s.cp ∧
    (State.skipTimes s a1 a2).flk = s.flk ∧
    (State.skipTimes s a1 a2).ring = s.ring ∧
    (State.skipTimes s a1 a2).can = s.can ∧
    (State.skipTimes s a1 a2).canPub = s.canPub ∧
    (State.skipTimes s a1 a2).eth = s.eth ∧
    (State.skipTimes s a1 a2).tio = s.tio ∧
    (State.skipTimes s a1 a2).dia = s.dia := by
  have k1 := @State.ite_frame
  unfold State.skipTimes
  simp [k1]

theorem State.skipTio_frame (s : State) (a1 : Nat) :
    (State.skipTio s a1).pending = s.pending ∧
    (State.skipTio s a1).time = s.time ∧
    (State.skipTio s a1).tick = s.tick ∧
    (State.skipTio s a1).free = s.free ∧
    (State.skipTio s a1).tl = s.tl ∧
    (State.skipTio s a1).mu = s.mu ∧
    (State.skipTio s a1).hk = s.hk ∧
    (State.skipTio s a1).log = s.log ∧
    (State.skipTio s a1).seqs = s.seqs ∧
    (State.skipTio s a1).host = s.host ∧
    (State.skipTio s a1).mclk = s.mclk ∧
    (State.skipTio s a1).sd = s.sd ∧
    (State.skipTio s a1).aux = s.aux ∧
    (State.skipTio s a1).enc = s.enc ∧
    (State.skipTio s a1).eng = s.eng ∧
    (State.skipTio s a1).slices = s.slices ∧
    (State.skipTio s a1).gl = s.gl ∧
    (State.skipTio s a1).ref = s.ref ∧
    (State.skipTio s a1).cp = s.cp ∧
    (State.skipTio s a1).flk = s.flk ∧
    (State.skipTio s a1).ring = s.ring ∧
    (State.skipTio s a1).can = s.can ∧
    (State.skipTio s a1).canPub = s.canPub ∧
    (State.skipTio s a1).eth = s.eth ∧
    (State.skipTio s a1).dia = s.dia := by
  have k1 := @State.ite_frame
  unfold State.skipTio
  refine ⟨foldl_pending _ _ _ ?_, foldl_time _ _ _ ?_, foldl_tick _ _ _ ?_, foldl_free _ _ _ ?_,
    foldl_tl _ _ _ ?_, foldl_mu _ _ _ ?_, foldl_hk _ _ _ ?_, foldl_log _ _ _ ?_, foldl_seqs _ _ _ ?_,
    foldl_host _ _ _ ?_, foldl_mclk _ _ _ ?_, foldl_sd _ _ _ ?_, foldl_aux _ _ _ ?_,
    foldl_enc _ _ _ ?_, foldl_eng _ _ _ ?_, foldl_slices _ _ _ ?_, foldl_gl _ _ _ ?_,
    foldl_ref _ _ _ ?_, foldl_cp _ _ _ ?_, foldl_flk _ _ _ ?_, foldl_ring _ _ _ ?_, foldl_can _ _ _ ?_,
    foldl_canPub _ _ _ ?_, foldl_eth _ _ _ ?_, foldl_dia _ _ _ ?_⟩
  all_goals intros; repeat' (first | (simp [k1]; done) | split)

theorem State.stepFrom_frame (s : State) (a1 : Stamp) (a2 : Stamp) (a3 : Nat) :
    (State.stepFrom s a1 a2 a3).pending = s.pending ∧
    (State.stepFrom s a1 a2 a3).tick = s.tick ∧
    (State.stepFrom s a1 a2 a3).free = s.free ∧
    (State.stepFrom s a1 a2 a3).mu = s.mu ∧
    (State.stepFrom s a1 a2 a3).hk = s.hk ∧
    (State.stepFrom s a1 a2 a3).host = s.host ∧
    (State.stepFrom s a1 a2 a3).mclk = s.mclk ∧
    (State.stepFrom s a1 a2 a3).sd = s.sd ∧
    (State.stepFrom s a1 a2 a3).aux = s.aux ∧
    (State.stepFrom s a1 a2 a3).enc = s.enc ∧
    (State.stepFrom s a1 a2 a3).eng = s.eng ∧
    (State.stepFrom s a1 a2 a3).gl = s.gl ∧
    (State.stepFrom s a1 a2 a3).ref = s.ref ∧
    (State.stepFrom s a1 a2 a3).cp = s.cp ∧
    (State.stepFrom s a1 a2 a3).flk = s.flk ∧
    (State.stepFrom s a1 a2 a3).ring = s.ring ∧
    (State.stepFrom s a1 a2 a3).can = s.can ∧
    (State.stepFrom s a1 a2 a3).canPub = s.canPub ∧
    (State.stepFrom s a1 a2 a3).eth = s.eth := by
  have k1 := @State.post_frame
  have k2 := @State.skipTimes_frame
  have k3 := @State.skipTio_frame
  unfold State.stepFrom
  simp [k1, k2, k3]

theorem State.stepBy_frame (s : State) (a1 : Nat) :
    (State.stepBy s a1).pending = s.pending ∧
    (State.stepBy s a1).tick = s.tick ∧
    (State.stepBy s a1).free = s.free ∧
    (State.stepBy s a1).mu = s.mu ∧
    (State.stepBy s a1).hk = s.hk ∧
    (State.stepBy s a1).host = s.host ∧
    (State.stepBy s a1).mclk = s.mclk ∧
    (State.stepBy s a1).sd = s.sd ∧
    (State.stepBy s a1).aux = s.aux ∧
    (State.stepBy s a1).enc = s.enc ∧
    (State.stepBy s a1).eng = s.eng ∧
    (State.stepBy s a1).gl = s.gl ∧
    (State.stepBy s a1).ref = s.ref ∧
    (State.stepBy s a1).cp = s.cp ∧
    (State.stepBy s a1).flk = s.flk ∧
    (State.stepBy s a1).ring = s.ring ∧
    (State.stepBy s a1).can = s.can ∧
    (State.stepBy s a1).canPub = s.canPub ∧
    (State.stepBy s a1).eth = s.eth := by
  have k1 := @State.stepFrom_frame
  unfold State.stepBy
  simp [k1]

theorem State.cancelStep_frame (s : State) :
    (State.cancelStep s).pending = s.pending ∧
    (State.cancelStep s).time = s.time ∧
    (State.cancelStep s).tick = s.tick ∧
    (State.cancelStep s).free = s.free ∧
    (State.cancelStep s).mu = s.mu ∧
    (State.cancelStep s).hk = s.hk ∧
    (State.cancelStep s).log = s.log ∧
    (State.cancelStep s).dict = s.dict ∧
    (State.cancelStep s).mclk = s.mclk ∧
    (State.cancelStep s).sd = s.sd ∧
    (State.cancelStep s).aux = s.aux ∧
    (State.cancelStep s).enc = s.enc ∧
    (State.cancelStep s).eng = s.eng ∧
    (State.cancelStep s).slices = s.slices ∧
    (State.cancelStep s).gl = s.gl ∧
    (State.cancelStep s).ref = s.ref ∧
    (State.cancelStep s).cp = s.cp ∧
    (State.cancelStep s).flk = s.flk ∧
    (State.cancelStep s).canPub = s.canPub ∧
    (State.cancelStep s).tio = s.tio := by
  have k1 := @State.finish_frame
  unfold State.cancelStep
  repeat' (first | (simp [k1]; done) | split)

theorem State.clampForEnable_frame (s : State) (a1 : Nat) :
    (State.clampForEnable s a1).pending = s.pending ∧
    (State.clampForEnable s a1).tick = s.tick ∧
    (State.clampForEnable s a1).free = s.free ∧
    (State.clampForEnable s a1).tl = s.tl ∧
    (State.clampForEnable s a1).mu = s.mu ∧
    (State.clampForEnable s a1).hk = s.hk ∧
    (State.clampForEnable s a1).host = s.host ∧
    (State.clampForEnable s a1).mclk = s.mclk ∧
    (State.clampForEnable s a1).sd = s.sd ∧
    (State.clampForEnable s a1).aux = s.aux ∧
    (State.clampForEnable s a1).enc = s.enc ∧
    (State.clampForEnable s a1).eng = s.eng ∧
    (State.clampForEnable s a1).slices = s.slices ∧
    (State.clampForEnable s a1).gl = s.gl ∧
    (State.clampForEnable s a1).ref = s.ref ∧
    (State.clampForEnable s a1).cp = s.cp ∧
    (State.clampForEnable s a1).flk = s.flk ∧
    (State.clampForEnable s a1).ring = s.ring ∧
    (State.clampForEnable s a1).can = s.can ∧
    (State.clampForEnable s a1).canPub = s.canPub ∧
    (State.clampForEnable s a1).eth = s.eth ∧
    (State.clampForEnable s a1).tio = s.tio := by
  have k1 := @State.post_frame
  have k2 := @State.ite_frame
  unfold State.clampForEnable
  simp [k1, k2]

theorem State.correct_frame (s : State) (a1 : Int) :
    (State.correct s a1).pending = s.pending ∧
    (State.correct s a1).tick = s.tick ∧
    (State.correct s a1).free = s.free ∧
    (State.correct s a1).mu = s.mu ∧
    (State.correct s a1).hk = s.hk ∧
    (State.correct s a1).host = s.host ∧
    (State.correct s a1).mclk = s.mclk ∧
    (State.correct s a1).sd = s.sd ∧
    (State.correct s a1).aux = s.aux ∧
    (State.correct s a1).enc = s.enc ∧
    (State.correct s a1).eng = s.eng ∧
    (State.correct s a1).gl = s.gl ∧
    (State.correct s a1).ref = s.ref ∧
    (State.correct s a1).cp = s.cp ∧
    (State.correct s a1).can = s.can ∧
    (State.correct s a1).canPub = s.canPub ∧
    (State.correct s a1).eth = s.eth := by
  have k1 := @State.mirrorPut_frame
  have k2 := @State.servoInc_frame
  have k3 := @State.stepBy_frame
  have k4 := @State.ite_frame
  unfold State.correct
  simp [k1, k2, k3, k4]

theorem State.servoPi_frame (s : State) (a1 : Int) :
    (State.servoPi s a1).pending = s.pending ∧
    (State.servoPi s a1).tick = s.tick ∧
    (State.servoPi s a1).free = s.free ∧
    (State.servoPi s a1).mu = s.mu ∧
    (State.servoPi s a1).hk = s.hk ∧
    (State.servoPi s a1).log = s.log ∧
    (State.servoPi s a1).host = s.host ∧
    (State.servoPi s a1).mclk = s.mclk ∧
    (State.servoPi s a1).sd = s.sd ∧
    (State.servoPi s a1).aux = s.aux ∧
    (State.servoPi s a1).enc = s.enc ∧
    (State.servoPi s a1).eng = s.eng ∧
    (State.servoPi s a1).slices = s.slices ∧
    (State.servoPi s a1).gl = s.gl ∧
    (State.servoPi s a1).ref = s.ref ∧
    (State.servoPi s a1).cp = s.cp ∧
    (State.servoPi s a1).can = s.can ∧
    (State.servoPi s a1).canPub = s.canPub ∧
    (State.servoPi s a1).eth = s.eth ∧
    (State.servoPi s a1).tio = s.tio := by
  have k1 := @State.servoInc_frame
  unfold State.servoPi
  simp [k1]

theorem State.measure_frame (s : State) (a1 : Int) :
    (State.measure s a1).pending = s.pending ∧
    (State.measure s a1).tick = s.tick ∧
    (State.measure s a1).free = s.free ∧
    (State.measure s a1).mu = s.mu ∧
    (State.measure s a1).hk = s.hk ∧
    (State.measure s a1).host = s.host ∧
    (State.measure s a1).mclk = s.mclk ∧
    (State.measure s a1).sd = s.sd ∧
    (State.measure s a1).aux = s.aux ∧
    (State.measure s a1).enc = s.enc ∧
    (State.measure s a1).eng = s.eng ∧
    (State.measure s a1).gl = s.gl ∧
    (State.measure s a1).ref = s.ref ∧
    (State.measure s a1).cp = s.cp ∧
    (State.measure s a1).can = s.can ∧
    (State.measure s a1).canPub = s.canPub ∧
    (State.measure s a1).eth = s.eth := by
  have k1 := @State.correct_frame
  have k2 := @State.servoPi_frame
  have k3 := @State.setStatus_frame
  have k4 := @State.ite_frame
  unfold State.measure
  dsimp only
  repeat' (first | (simp [k1, k2, k3, k4]; done) | split)

theorem State.gmLost_frame (s : State) (a1 : Nat) :
    (State.gmLost s a1).pending = s.pending ∧
    (State.gmLost s a1).tick = s.tick ∧
    (State.gmLost s a1).free = s.free ∧
    (State.gmLost s a1).mu = s.mu ∧
    (State.gmLost s a1).hk = s.hk ∧
    (State.gmLost s a1).host = s.host ∧
    (State.gmLost s a1).mclk = s.mclk ∧
    (State.gmLost s a1).sd = s.sd ∧
    (State.gmLost s a1).aux = s.aux ∧
    (State.gmLost s a1).enc = s.enc ∧
    (State.gmLost s a1).eng = s.eng ∧
    (State.gmLost s a1).slices = s.slices ∧
    (State.gmLost s a1).gl = s.gl ∧
    (State.gmLost s a1).ref = s.ref ∧
    (State.gmLost s a1).cp = s.cp ∧
    (State.gmLost s a1).can = s.can ∧
    (State.gmLost s a1).canPub = s.canPub ∧
    (State.gmLost s a1).eth = s.eth ∧
    (State.gmLost s a1).tio = s.tio := by
  have k1 := @State.servoInc_frame
  have k2 := @State.setStatus_frame
  unfold State.gmLost
  repeat' (first | (simp [k1, k2]; done) | split)

theorem State.bmca_frame (s : State) :
    (State.bmca s).pending = s.pending ∧
    (State.bmca s).time = s.time ∧
    (State.bmca s).tick = s.tick ∧
    (State.bmca s).free = s.free ∧
    (State.bmca s).tl = s.tl ∧
    (State.bmca s).mu = s.mu ∧
    (State.bmca s).hk = s.hk ∧
    (State.bmca s).log = s.log ∧
    (State.bmca s).seqs = s.seqs ∧
    (State.bmca s).host = s.host ∧
    (State.bmca s).dict = s.dict ∧
    (State.bmca s).mclk = s.mclk ∧
    (State.bmca s).sd = s.sd ∧
    (State.bmca s).aux = s.aux ∧
    (State.bmca s).enc = s.enc ∧
    (State.bmca s).eng = s.eng ∧
    (State.bmca s).slices = s.slices ∧
    (State.bmca s).gl = s.gl ∧
    (State.bmca s).ref = s.ref ∧
    (State.bmca s).cp = s.cp ∧
    (State.bmca s).flk = s.flk ∧
    (State.bmca s).ring = s.ring ∧
    (State.bmca s).can = s.can ∧
    (State.bmca s).canPub = s.canPub ∧
    (State.bmca s).tio = s.tio ∧
    (State.bmca s).dia = s.dia := by
  unfold State.bmca
  simp

theorem State.selectGm_frame (s : State) :
    (State.selectGm s).pending = s.pending ∧
    (State.selectGm s).time = s.time ∧
    (State.selectGm s).tick = s.tick ∧
    (State.selectGm s).free = s.free ∧
    (State.selectGm s).mu = s.mu ∧
    (State.selectGm s).hk = s.hk ∧
    (State.selectGm s).log = s.log ∧
    (State.selectGm s).seqs = s.seqs ∧
    (State.selectGm s).host = s.host ∧
    (State.selectGm s).dict = s.dict ∧
    (State.selectGm s).mclk = s.mclk ∧
    (State.selectGm s).sd = s.sd ∧
    (State.selectGm s).aux = s.aux ∧
    (State.selectGm s).enc = s.enc ∧
    (State.selectGm s).eng = s.eng ∧
    (State.selectGm s).slices = s.slices ∧
    (State.selectGm s).gl = s.gl ∧
    (State.selectGm s).ref = s.ref ∧
    (State.selectGm s).cp = s.cp ∧
    (State.selectGm s).flk = s.flk ∧
    (State.selectGm s).ring = s.ring ∧
    (State.selectGm s).can = s.can ∧
    (State.selectGm s).canPub = s.canPub ∧
    (State.selectGm s).tio = s.tio ∧
    (State.selectGm s).dia = s.dia := by
  have k1 := @State.bmca_frame
  unfold State.selectGm
  simp [k1]

theorem State.runBmca_frame (s : State) :
    (State.runBmca s).pending = s.pending ∧
    (State.runBmca s).tick = s.tick ∧
    (State.runBmca s).free = s.free ∧
    (State.runBmca s).mu = s.mu ∧
    (State.runBmca s).hk = s.hk ∧
    (State.runBmca s).host = s.host ∧
    (State.runBmca s).mclk = s.mclk ∧
    (State.runBmca s).sd = s.sd ∧
    (State.runBmca s).aux = s.aux ∧
    (State.runBmca s).enc = s.enc ∧
    (State.runBmca s).eng = s.eng ∧
    (State.runBmca s).slices = s.slices ∧
    (State.runBmca s).gl = s.gl ∧
    (State.runBmca s).ref = s.ref ∧
    (State.runBmca s).cp = s.cp ∧
    (State.runBmca s).can = s.can ∧
    (State.runBmca s).canPub = s.canPub ∧
    (State.runBmca s).tio = s.tio := by
  have k1 := @State.gmLost_frame
  have k2 := @State.selectGm_frame
  have k3 := @State.ite_frame
  unfold State.runBmca
  simp [k1, k2, k3]

theorem State.portDown_frame (s : State) (a1 : Nat) :
    (State.portDown s a1).pending = s.pending ∧
    (State.portDown s a1).tick = s.tick ∧
    (State.portDown s a1).free = s.free ∧
    (State.portDown s a1).mu = s.mu ∧
    (State.portDown s a1).hk = s.hk ∧
    (State.portDown s a1).host = s.host ∧
    (State.portDown s a1).mclk = s.mclk ∧
    (State.portDown s a1).sd = s.sd ∧
    (State.portDown s a1).aux = s.aux ∧
    (State.portDown s a1).enc = s.enc ∧
    (State.portDown s a1).eng = s.eng ∧
    (State.portDown s a1).slices = s.slices ∧
    (State.portDown s a1).gl = s.gl ∧
    (State.portDown s a1).ref = s.ref ∧
    (State.portDown s a1).cp = s.cp ∧
    (State.portDown s a1).can = s.can ∧
    (State.portDown s a1).canPub = s.canPub ∧
    (State.portDown s a1).tio = s.tio := by
  have k1 := @State.runBmca_frame
  unfold State.portDown
  simp [k1]

theorem opSetIncrement_frame (a0 : Pkt) (s : State) :
    (opSetIncrement a0 s).st.pending = s.pending ∧
    (opSetIncrement a0 s).st.time = s.time ∧
    (opSetIncrement a0 s).st.tick = s.tick ∧
    (opSetIncrement a0 s).st.free = s.free ∧
    (opSetIncrement a0 s).st.mu = s.mu ∧
    (opSetIncrement a0 s).st.hk = s.hk ∧
    (opSetIncrement a0 s).st.log = s.log ∧
    (opSetIncrement a0 s).st.seqs = s.seqs ∧
    (opSetIncrement a0 s).st.dict = s.dict ∧
    (opSetIncrement a0 s).st.mclk = s.mclk ∧
    (opSetIncrement a0 s).st.sd = s.sd ∧
    (opSetIncrement a0 s).st.aux = s.aux ∧
    (opSetIncrement a0 s).st.enc = s.enc ∧
    (opSetIncrement a0 s).st.eng = s.eng ∧
    (opSetIncrement a0 s).st.slices = s.slices ∧
    (opSetIncrement a0 s).st.gl = s.gl ∧
    (opSetIncrement a0 s).st.ref = s.ref ∧
    (opSetIncrement a0 s).st.cp = s.cp ∧
    (opSetIncrement a0 s).st.flk = s.flk ∧
    (opSetIncrement a0 s).st.ring = s.ring ∧
    (opSetIncrement a0 s).st.can = s.can ∧
    (opSetIncrement a0 s).st.canPub = s.canPub ∧
    (opSetIncrement a0 s).st.eth = s.eth ∧
    (opSetIncrement a0 s).st.tio = s.tio ∧
    (opSetIncrement a0 s).st.dia = s.dia := by
  have k1 := @State.deferCur_frame
  have k2 := @State.fail_frame
  have k3 := @State.ite_frame
  unfold opSetIncrement
  dsimp only
  repeat' (first | (simp [k1, k2, k3]; done) | split)

theorem State.applyInc_frame (s : State) (a1 : PendInc) :
    (State.applyInc s a1).pending = s.pending ∧
    (State.applyInc s a1).tick = s.tick ∧
    (State.applyInc s a1).free = s.free ∧
    (State.applyInc s a1).mu = s.mu ∧
    (State.applyInc s a1).hk = s.hk ∧
    (State.applyInc s a1).mclk = s.mclk ∧
    (State.applyInc s a1).sd = s.sd ∧
    (State.applyInc s a1).aux = s.aux ∧
    (State.applyInc s a1).enc = s.enc ∧
    (State.applyInc s a1).eng = s.eng ∧
    (State.applyInc s a1).slices = s.slices ∧
    (State.applyInc s a1).gl = s.gl ∧
    (State.applyInc s a1).ref = s.ref ∧
    (State.applyInc s a1).cp = s.cp ∧
    (State.applyInc s a1).flk = s.flk ∧
    (State.applyInc s a1).canPub = s.canPub ∧
    (State.applyInc s a1).tio = s.tio := by
  have k1 := @State.finish_frame
  have k2 := @State.post_frame
  have k3 := @State.setStatus_frame
  have k4 := @State.ite_frame
  unfold State.applyInc
  repeat' (first | (simp [k1, k2, k3, k4]; done) | split)

theorem effIncrementApply_frame (s : State) :
    (effIncrementApply s).pending = s.pending ∧
    (effIncrementApply s).tick = s.tick ∧
    (effIncrementApply s).free = s.free ∧
    (effIncrementApply s).mu = s.mu ∧
    (effIncrementApply s).hk = s.hk ∧
    (effIncrementApply s).mclk = s.mclk ∧
    (effIncrementApply s).sd = s.sd ∧
    (effIncrementApply s).aux = s.aux ∧
    (effIncrementApply s).enc = s.enc ∧
    (effIncrementApply s).eng = s.eng ∧
    (effIncrementApply s).slices = s.slices ∧
    (effIncrementApply s).gl = s.gl ∧
    (effIncrementApply s).ref = s.ref ∧
    (effIncrementApply s).cp = s.cp ∧
    (effIncrementApply s).flk = s.flk ∧
    (effIncrementApply s).canPub = s.canPub ∧
    (effIncrementApply s).tio = s.tio := by
  have k1 := @State.applyInc_frame
  unfold effIncrementApply
  simp [k1]

theorem opStep_frame (a0 : Pkt) (s : State) :
    (opStep a0 s).st.pending = s.pending ∧
    (opStep a0 s).st.time = s.time ∧
    (opStep a0 s).st.tick = s.tick ∧
    (opStep a0 s).st.free = s.free ∧
    (opStep a0 s).st.mu = s.mu ∧
    (opStep a0 s).st.hk = s.hk ∧
    (opStep a0 s).st.log = s.log ∧
    (opStep a0 s).st.seqs = s.seqs ∧
    (opStep a0 s).st.dict = s.dict ∧
    (opStep a0 s).st.mclk = s.mclk ∧
    (opStep a0 s).st.sd = s.sd ∧
    (opStep a0 s).st.aux = s.aux ∧
    (opStep a0 s).st.enc = s.enc ∧
    (opStep a0 s).st.eng = s.eng ∧
    (opStep a0 s).st.slices = s.slices ∧
    (opStep a0 s).st.gl = s.gl ∧
    (opStep a0 s).st.ref = s.ref ∧
    (opStep a0 s).st.cp = s.cp ∧
    (opStep a0 s).st.flk = s.flk ∧
    (opStep a0 s).st.ring = s.ring ∧
    (opStep a0 s).st.can = s.can ∧
    (opStep a0 s).st.canPub = s.canPub ∧
    (opStep a0 s).st.eth = s.eth ∧
    (opStep a0 s).st.tio = s.tio ∧
    (opStep a0 s).st.dia = s.dia := by
  have k1 := @State.deferCur_frame
  have k2 := @State.fail_frame
  have k3 := @State.ite_frame
  unfold opStep
  dsimp only
  repeat' (first | (simp [k1, k2, k3]; done) | split)

theorem State.applyStep_frame (s : State) (a1 : Stamp) (a2 : Stamp) (a3 : PendStep) :
    (State.applyStep s a1 a2 a3).pending = s.pending ∧
    (State.applyStep s a1 a2 a3).tick = s.tick ∧
    (State.applyStep s a1 a2 a3).free = s.free ∧
    (State.applyStep s a1 a2 a3).mu = s.mu ∧
    (State.applyStep s a1 a2 a3).hk = s.hk ∧
    (State.applyStep s a1 a2 a3).mclk = s.mclk ∧
    (State.applyStep s a1 a2 a3).sd = s.sd ∧
    (State.applyStep s a1 a2 a3).aux = s.aux ∧
    (State.applyStep s a1 a2 a3).enc = s.enc ∧
    (State.applyStep s a1 a2 a3).eng = s.eng ∧
    (State.applyStep s a1 a2 a3).gl = s.gl ∧
    (State.applyStep s a1 a2 a3).ref = s.ref ∧
    (State.applyStep s a1 a2 a3).cp = s.cp ∧
    (State.applyStep s a1 a2 a3).flk = s.flk ∧
    (State.applyStep s a1 a2 a3).canPub = s.canPub := by
  have k1 := @State.finish_frame
  have k2 := @State.stepFrom_frame
  unfold State.applyStep
  dsimp only
  repeat' (first | (simp [k1, k2]; done) | split)

theorem effTimeStepApply_frame (s : State) :
    (effTimeStepApply s).pending = s.pending ∧
    (effTimeStepApply s).tick = s.tick ∧
    (effTimeStepApply s).free = s.free ∧
    (effTimeStepApply s).mu = s.mu ∧
    (effTimeStepApply s).hk = s.hk ∧
    (effTimeStepApply s).mclk = s.mclk ∧
    (effTimeStepApply s).sd = s.sd ∧
    (effTimeStepApply s).aux = s.aux ∧
    (effTimeStepApply s).enc = s.enc ∧
    (effTimeStepApply s).eng = s.eng ∧
    (effTimeStepApply s).gl = s.gl ∧
    (effTimeStepApply s).ref = s.ref ∧
    (effTimeStepApply s).cp = s.cp ∧
    (effTimeStepApply s).flk = s.flk ∧
    (effTimeStepApply s).canPub = s.canPub := by
  have k1 := @State.applyStep_frame
  have k2 := @State.ite_frame
  unfold effTimeStepApply
  repeat' (first | (simp [k1, k2]; done) | split)

theorem opServoMode_frame (a0 : Pkt) (s : State) :
    (opServoMode a0 s).st.pending = s.pending ∧
    (opServoMode a0 s).st.time = s.time ∧
    (opServoMode a0 s).st.tick = s.tick ∧
    (opServoMode a0 s).st.free = s.free ∧
    (opServoMode a0 s).st.mu = s.mu ∧
    (opServoMode a0 s).st.hk = s.hk ∧
    (opServoMode a0 s).st.log = s.log ∧
    (opServoMode a0 s).st.seqs = s.seqs ∧
    (opServoMode a0 s).st.host = s.host ∧
    (opServoMode a0 s).st.dict = s.dict ∧
    (opServoMode a0 s).st.mclk = s.mclk ∧
    (opServoMode a0 s).st.sd = s.sd ∧
    (opServoMode a0 s).st.aux = s.aux ∧
    (opServoMode a0 s).st.enc = s.enc ∧
    (opServoMode a0 s).st.eng = s.eng ∧
    (opServoMode a0 s).st.slices = s.slices ∧
    (opServoMode a0 s).st.gl = s.gl ∧
    (opServoMode a0 s).st.ref = s.ref ∧
    (opServoMode a0 s).st.cp = s.cp ∧
    (opServoMode a0 s).st.flk = s.flk ∧
    (opServoMode a0 s).st.ring = s.ring ∧
    (opServoMode a0 s).st.can = s.can ∧
    (opServoMode a0 s).st.canPub = s.canPub ∧
    (opServoMode a0 s).st.eth = s.eth ∧
    (opServoMode a0 s).st.tio = s.tio ∧
    (opServoMode a0 s).st.dia = s.dia := by
  have k1 := @State.fail_frame
  have k2 := @State.okay_frame
  have k3 := @State.ite_frame
  unfold opServoMode
  dsimp only
  repeat' (first | (simp [k1, k2, k3]; done) | split)

theorem effServoModeApply_frame (s : State) :
    (effServoModeApply s).pending = s.pending ∧
    (effServoModeApply s).time = s.time ∧
    (effServoModeApply s).tick = s.tick ∧
    (effServoModeApply s).free = s.free ∧
    (effServoModeApply s).mu = s.mu ∧
    (effServoModeApply s).hk = s.hk ∧
    (effServoModeApply s).mclk = s.mclk ∧
    (effServoModeApply s).sd = s.sd ∧
    (effServoModeApply s).aux = s.aux ∧
    (effServoModeApply s).enc = s.enc ∧
    (effServoModeApply s).eng = s.eng ∧
    (effServoModeApply s).slices = s.slices ∧
    (effServoModeApply s).gl = s.gl ∧
    (effServoModeApply s).ref = s.ref ∧
    (effServoModeApply s).cp = s.cp ∧
    (effServoModeApply s).flk = s.flk ∧
    (effServoModeApply s).canPub = s.canPub ∧
    (effServoModeApply s).tio = s.tio := by
  have k1 := @State.cancelStep_frame
  have k2 := @State.selectGm_frame
  have k3 := @State.setKept_frame
  have k4 := @State.setStatus_frame
  have k5 := @State.ite_frame
  unfold effServoModeApply
  repeat' (first | (simp [k1, k2, k3, k4, k5]; done) | split)

theorem effPtpSyncRx_frame (a0 : Fin 2) (a1 : Nat) (a2 : PtpTime) (a3 : Int) (a4 : Bool) (s : State) :
    (effPtpSyncRx a0 a1 a2 a3 a4 s).pending = s.pending ∧
    (effPtpSyncRx a0 a1 a2 a3 a4 s).tick = s.tick ∧
    (effPtpSyncRx a0 a1 a2 a3 a4 s).free = s.free ∧
    (effPtpSyncRx a0 a1 a2 a3 a4 s).mu = s.mu ∧
    (effPtpSyncRx a0 a1 a2 a3 a4 s).hk = s.hk ∧
    (effPtpSyncRx a0 a1 a2 a3 a4 s).host = s.host ∧
    (effPtpSyncRx a0 a1 a2 a3 a4 s).mclk = s.mclk ∧
    (effPtpSyncRx a0 a1 a2 a3 a4 s).sd = s.sd ∧
    (effPtpSyncRx a0 a1 a2 a3 a4 s).aux = s.aux ∧
    (effPtpSyncRx a0 a1 a2 a3 a4 s).enc = s.enc ∧
    (effPtpSyncRx a0 a1 a2 a3 a4 s).eng = s.eng ∧
    (effPtpSyncRx a0 a1 a2 a3 a4 s).gl = s.gl ∧
    (effPtpSyncRx a0 a1 a2 a3 a4 s).ref = s.ref ∧
    (effPtpSyncRx a0 a1 a2 a3 a4 s).cp = s.cp ∧
    (effPtpSyncRx a0 a1 a2 a3 a4 s).can = s.can ∧
    (effPtpSyncRx a0 a1 a2 a3 a4 s).canPub = s.canPub := by
  have k1 := @State.measure_frame
  have k2 := @State.ite_frame
  unfold effPtpSyncRx
  simp [k1, k2]

theorem effGmTimeout_frame (s : State) :
    (effGmTimeout s).pending = s.pending ∧
    (effGmTimeout s).tick = s.tick ∧
    (effGmTimeout s).free = s.free ∧
    (effGmTimeout s).mu = s.mu ∧
    (effGmTimeout s).hk = s.hk ∧
    (effGmTimeout s).host = s.host ∧
    (effGmTimeout s).mclk = s.mclk ∧
    (effGmTimeout s).sd = s.sd ∧
    (effGmTimeout s).aux = s.aux ∧
    (effGmTimeout s).enc = s.enc ∧
    (effGmTimeout s).eng = s.eng ∧
    (effGmTimeout s).slices = s.slices ∧
    (effGmTimeout s).gl = s.gl ∧
    (effGmTimeout s).ref = s.ref ∧
    (effGmTimeout s).cp = s.cp ∧
    (effGmTimeout s).can = s.can ∧
    (effGmTimeout s).canPub = s.canPub ∧
    (effGmTimeout s).eth = s.eth ∧
    (effGmTimeout s).tio = s.tio := by
  have k1 := @State.gmLost_frame
  have k2 := @State.ite_frame
  unfold effGmTimeout
  repeat' (first | (simp [k1, k2]; done) | split)

theorem effRingAlignTimeout_frame (s : State) :
    (effRingAlignTimeout s).pending = s.pending ∧
    (effRingAlignTimeout s).tick = s.tick ∧
    (effRingAlignTimeout s).free = s.free ∧
    (effRingAlignTimeout s).mu = s.mu ∧
    (effRingAlignTimeout s).hk = s.hk ∧
    (effRingAlignTimeout s).host = s.host ∧
    (effRingAlignTimeout s).mclk = s.mclk ∧
    (effRingAlignTimeout s).sd = s.sd ∧
    (effRingAlignTimeout s).aux = s.aux ∧
    (effRingAlignTimeout s).enc = s.enc ∧
    (effRingAlignTimeout s).eng = s.eng ∧
    (effRingAlignTimeout s).slices = s.slices ∧
    (effRingAlignTimeout s).gl = s.gl ∧
    (effRingAlignTimeout s).ref = s.ref ∧
    (effRingAlignTimeout s).cp = s.cp ∧
    (effRingAlignTimeout s).can = s.can ∧
    (effRingAlignTimeout s).canPub = s.canPub ∧
    (effRingAlignTimeout s).eth = s.eth ∧
    (effRingAlignTimeout s).tio = s.tio := by
  have k1 := @State.gmLost_frame
  have k2 := @State.ite_frame
  unfold effRingAlignTimeout
  repeat' (first | (simp [k1, k2]; done) | split)

theorem effHoldoverMaxExpire_frame (s : State) :
    (effHoldoverMaxExpire s).pending = s.pending ∧
    (effHoldoverMaxExpire s).time = s.time ∧
    (effHoldoverMaxExpire s).tick = s.tick ∧
    (effHoldoverMaxExpire s).free = s.free ∧
    (effHoldoverMaxExpire s).mu = s.mu ∧
    (effHoldoverMaxExpire s).hk = s.hk ∧
    (effHoldoverMaxExpire s).host = s.host ∧
    (effHoldoverMaxExpire s).mclk = s.mclk ∧
    (effHoldoverMaxExpire s).sd = s.sd ∧
    (effHoldoverMaxExpire s).aux = s.aux ∧
    (effHoldoverMaxExpire s).enc = s.enc ∧
    (effHoldoverMaxExpire s).eng = s.eng ∧
    (effHoldoverMaxExpire s).slices = s.slices ∧
    (effHoldoverMaxExpire s).gl = s.gl ∧
    (effHoldoverMaxExpire s).ref = s.ref ∧
    (effHoldoverMaxExpire s).cp = s.cp ∧
    (effHoldoverMaxExpire s).flk = s.flk ∧
    (effHoldoverMaxExpire s).ring = s.ring ∧
    (effHoldoverMaxExpire s).can = s.can ∧
    (effHoldoverMaxExpire s).canPub = s.canPub ∧
    (effHoldoverMaxExpire s).eth = s.eth ∧
    (effHoldoverMaxExpire s).tio = s.tio := by
  have k1 := @State.setStatus_frame
  have k2 := @State.ite_frame
  unfold effHoldoverMaxExpire
  repeat' (first | (simp [k1, k2]; done) | split)

theorem effHostWatchdogExpire_frame (s : State) :
    (effHostWatchdogExpire s).pending = s.pending ∧
    (effHostWatchdogExpire s).time = s.time ∧
    (effHostWatchdogExpire s).tick = s.tick ∧
    (effHostWatchdogExpire s).free = s.free ∧
    (effHostWatchdogExpire s).mu = s.mu ∧
    (effHostWatchdogExpire s).hk = s.hk ∧
    (effHostWatchdogExpire s).mclk = s.mclk ∧
    (effHostWatchdogExpire s).sd = s.sd ∧
    (effHostWatchdogExpire s).aux = s.aux ∧
    (effHostWatchdogExpire s).enc = s.enc ∧
    (effHostWatchdogExpire s).eng = s.eng ∧
    (effHostWatchdogExpire s).slices = s.slices ∧
    (effHostWatchdogExpire s).gl = s.gl ∧
    (effHostWatchdogExpire s).ref = s.ref ∧
    (effHostWatchdogExpire s).cp = s.cp ∧
    (effHostWatchdogExpire s).flk = s.flk ∧
    (effHostWatchdogExpire s).ring = s.ring ∧
    (effHostWatchdogExpire s).can = s.can ∧
    (effHostWatchdogExpire s).canPub = s.canPub ∧
    (effHostWatchdogExpire s).eth = s.eth ∧
    (effHostWatchdogExpire s).tio = s.tio := by
  have k1 := @State.setStatus_frame
  have k2 := @State.ite_frame
  unfold effHostWatchdogExpire
  dsimp only
  repeat' (first | (simp [k1, k2]; done) | split)

theorem State.rallyStart_frame (s : State) (a1 : Nat) (a2 : Nat) :
    (State.rallyStart s a1 a2).pending = s.pending ∧
    (State.rallyStart s a1 a2).time = s.time ∧
    (State.rallyStart s a1 a2).tick = s.tick ∧
    (State.rallyStart s a1 a2).free = s.free ∧
    (State.rallyStart s a1 a2).tl = s.tl ∧
    (State.rallyStart s a1 a2).mu = s.mu ∧
    (State.rallyStart s a1 a2).hk = s.hk ∧
    (State.rallyStart s a1 a2).log = s.log ∧
    (State.rallyStart s a1 a2).seqs = s.seqs ∧
    (State.rallyStart s a1 a2).host = s.host ∧
    (State.rallyStart s a1 a2).dict = s.dict ∧
    (State.rallyStart s a1 a2).mclk = s.mclk ∧
    (State.rallyStart s a1 a2).sd = s.sd ∧
    (State.rallyStart s a1 a2).aux = s.aux ∧
    (State.rallyStart s a1 a2).enc = s.enc ∧
    (State.rallyStart s a1 a2).eng = s.eng ∧
    (State.rallyStart s a1 a2).gl = s.gl ∧
    (State.rallyStart s a1 a2).ref = s.ref ∧
    (State.rallyStart s a1 a2).cp = s.cp ∧
    (State.rallyStart s a1 a2).flk = s.flk ∧
    (State.rallyStart s a1 a2).ring = s.ring ∧
    (State.rallyStart s a1 a2).can = s.can ∧
    (State.rallyStart s a1 a2).canPub = s.canPub ∧
    (State.rallyStart s a1 a2).eth = s.eth ∧
    (State.rallyStart s a1 a2).tio = s.tio ∧
    (State.rallyStart s a1 a2).dia = s.dia := by
  unfold State.rallyStart
  simp

theorem opTioConfig_frame (a0 : Pkt) (s : State) :
    (opTioConfig a0 s).st.pending = s.pending ∧
    (opTioConfig a0 s).st.time = s.time ∧
    (opTioConfig a0 s).st.tick = s.tick ∧
    (opTioConfig a0 s).st.free = s.free ∧
    (opTioConfig a0 s).st.tl = s.tl ∧
    (opTioConfig a0 s).st.mu = s.mu ∧
    (opTioConfig a0 s).st.hk = s.hk ∧
    (opTioConfig a0 s).st.log = s.log ∧
    (opTioConfig a0 s).st.seqs = s.seqs ∧
    (opTioConfig a0 s).st.host = s.host ∧
    (opTioConfig a0 s).st.mclk = s.mclk ∧
    (opTioConfig a0 s).st.sd = s.sd ∧
    (opTioConfig a0 s).st.aux = s.aux ∧
    (opTioConfig a0 s).st.enc = s.enc ∧
    (opTioConfig a0 s).st.eng = s.eng ∧
    (opTioConfig a0 s).st.slices = s.slices ∧
    (opTioConfig a0 s).st.gl = s.gl ∧
    (opTioConfig a0 s).st.ref = s.ref ∧
    (opTioConfig a0 s).st.cp = s.cp ∧
    (opTioConfig a0 s).st.flk = s.flk ∧
    (opTioConfig a0 s).st.ring = s.ring ∧
    (opTioConfig a0 s).st.can = s.can ∧
    (opTioConfig a0 s).st.canPub = s.canPub ∧
    (opTioConfig a0 s).st.eth = s.eth ∧
    (opTioConfig a0 s).st.dia = s.dia := by
  have k1 := @State.fail_frame
  have k2 := @State.okay_frame
  have k3 := @State.setKept_frame
  have k4 := @State.ite_frame
  unfold opTioConfig
  dsimp only
  repeat' (first | (simp [k1, k2, k3, k4]; done) | split)

theorem State.popTxts_frame (s : State) (a1 : Nat) :
    (State.popTxts s a1).2.pending = s.pending ∧
    (State.popTxts s a1).2.time = s.time ∧
    (State.popTxts s a1).2.tick = s.tick ∧
    (State.popTxts s a1).2.free = s.free ∧
    (State.popTxts s a1).2.tl = s.tl ∧
    (State.popTxts s a1).2.mu = s.mu ∧
    (State.popTxts s a1).2.hk = s.hk ∧
    (State.popTxts s a1).2.log = s.log ∧
    (State.popTxts s a1).2.seqs = s.seqs ∧
    (State.popTxts s a1).2.host = s.host ∧
    (State.popTxts s a1).2.dict = s.dict ∧
    (State.popTxts s a1).2.mclk = s.mclk ∧
    (State.popTxts s a1).2.sd = s.sd ∧
    (State.popTxts s a1).2.aux = s.aux ∧
    (State.popTxts s a1).2.enc = s.enc ∧
    (State.popTxts s a1).2.eng = s.eng ∧
    (State.popTxts s a1).2.slices = s.slices ∧
    (State.popTxts s a1).2.gl = s.gl ∧
    (State.popTxts s a1).2.ref = s.ref ∧
    (State.popTxts s a1).2.cp = s.cp ∧
    (State.popTxts s a1).2.flk = s.flk ∧
    (State.popTxts s a1).2.ring = s.ring ∧
    (State.popTxts s a1).2.can = s.can ∧
    (State.popTxts s a1).2.canPub = s.canPub ∧
    (State.popTxts s a1).2.tio = s.tio ∧
    (State.popTxts s a1).2.dia = s.dia := by
  unfold State.popTxts
  repeat' (first | (simp; done) | split)

end Sys2Proof.Machine
end

