-- ==== Sys2Proof/Laws/ObjectView.lean ====
section
/-!
SUPPORT. What each operation of Machine/ObjectView.lean leaves as it was: the parts of State that it cannot change.
-/

namespace Sys2Proof.Machine

open Sys2Proof

theorem State.fence_frame (s : State) (a1 : Nat) :
    (State.fence s a1).pending = s.pending ∧
    (State.fence s a1).time = s.time ∧
    (State.fence s a1).tick = s.tick ∧
    (State.fence s a1).free = s.free ∧
    (State.fence s a1).tl = s.tl ∧
    (State.fence s a1).mu = s.mu ∧
    (State.fence s a1).hk = s.hk ∧
    (State.fence s a1).log = s.log ∧
    (State.fence s a1).seqs = s.seqs ∧
    (State.fence s a1).host = s.host ∧
    (State.fence s a1).dict = s.dict ∧
    (State.fence s a1).mclk = s.mclk ∧
    (State.fence s a1).sd = s.sd ∧
    (State.fence s a1).aux = s.aux ∧
    (State.fence s a1).enc = s.enc ∧
    (State.fence s a1).eng = s.eng ∧
    (State.fence s a1).slices = s.slices ∧
    (State.fence s a1).gl = s.gl ∧
    (State.fence s a1).ref = s.ref ∧
    (State.fence s a1).cp = s.cp ∧
    (State.fence s a1).flk = s.flk ∧
    (State.fence s a1).ring = s.ring ∧
    (State.fence s a1).can = s.can ∧
    (State.fence s a1).canPub = s.canPub ∧
    (State.fence s a1).eth = s.eth ∧
    (State.fence s a1).tio = s.tio := by
  unfold State.fence
  simp

theorem State.readEff_frame (s : State) (a1 : Nat) :
    (State.readEff s a1).pending = s.pending ∧
    (State.readEff s a1).time = s.time ∧
    (State.readEff s a1).tick = s.tick ∧
    (State.readEff s a1).free = s.free ∧
    (State.readEff s a1).tl = s.tl ∧
    (State.readEff s a1).mu = s.mu ∧
    (State.readEff s a1).hk = s.hk ∧
    (State.readEff s a1).log = s.log ∧
    (State.readEff s a1).seqs = s.seqs ∧
    (State.readEff s a1).host = s.host ∧
    (State.readEff s a1).dict = s.dict ∧
    (State.readEff s a1).mclk = s.mclk ∧
    (State.readEff s a1).sd = s.sd ∧
    (State.readEff s a1).aux = s.aux ∧
    (State.readEff s a1).eng = s.eng ∧
    (State.readEff s a1).slices = s.slices ∧
    (State.readEff s a1).gl = s.gl ∧
    (State.readEff s a1).ref = s.ref ∧
    (State.readEff s a1).cp = s.cp ∧
    (State.readEff s a1).flk = s.flk ∧
    (State.readEff s a1).ring = s.ring ∧
    (State.readEff s a1).can = s.can ∧
    (State.readEff s a1).canPub = s.canPub := by
  have k1 := @State.popTxts_frame
  have k2 := @State.ite_frame
  unfold State.readEff
  simp [k1, k2]

end Sys2Proof.Machine
end

