-- ==== Sys2Proof/Laws/SliceView.lean ====
section
/-!
SUPPORT. What each operation of Machine/SliceView.lean leaves as it was: the parts of State that it cannot change.
-/

namespace Sys2Proof.Machine

open Sys2Proof

end Sys2Proof.Machine
end

