-- ==== Sys2Proof/Laws/Reactions.lean ====
section
/-!
SUPPORT. What each operation of Machine/Reactions.lean leaves as it was: the parts of State that it cannot change.
-/

namespace Sys2Proof.Machine

open Sys2Proof

theorem State.glSendAt_frame (s : State) (a1 : Nat) (a2 : Stamp) (a3 : Nat) (a4 : Nat) :
    (State.glSendAt s a1 a2 a3 a4).pending = s.pending ∧
    (State.glSendAt s a1 a2 a3 a4).time = s.time ∧
    (State.glSendAt s a1 a2 a3 a4).tick = s.tick ∧
    (State.glSendAt s a1 a2 a3 a4).free = s.free ∧
    (State.glSendAt s a1 a2 a3 a4).tl = s.tl ∧
    (State.glSendAt s a1 a2 a3 a4).mu = s.mu ∧
    (State.glSendAt s a1 a2 a3 a4).hk = s.hk ∧
    (State.glSendAt s a1 a2 a3 a4).log = s.log ∧
    (State.glSendAt s a1 a2 a3 a4).seqs = s.seqs ∧
    (State.glSendAt s a1 a2 a3 a4).host = s.host ∧
    (State.glSendAt s a1 a2 a3 a4).dict = s.dict ∧
    (State.glSendAt s a1 a2 a3 a4).mclk = s.mclk ∧
    (State.glSendAt s a1 a2 a3 a4).sd = s.sd ∧
    (State.glSendAt s a1 a2 a3 a4).aux = s.aux ∧
    (State.glSendAt s a1 a2 a3 a4).enc = s.enc ∧
    (State.glSendAt s a1 a2 a3 a4).eng = s.eng ∧
    (State.glSendAt s a1 a2 a3 a4).slices = s.slices ∧
    (State.glSendAt s a1 a2 a3 a4).ref = s.ref ∧
    (State.glSendAt s a1 a2 a3 a4).cp = s.cp ∧
    (State.glSendAt s a1 a2 a3 a4).flk = s.flk ∧
    (State.glSendAt s a1 a2 a3 a4).ring = s.ring ∧
    (State.glSendAt s a1 a2 a3 a4).can = s.can ∧
    (State.glSendAt s a1 a2 a3 a4).canPub = s.canPub ∧
    (State.glSendAt s a1 a2 a3 a4).eth = s.eth ∧
    (State.glSendAt s a1 a2 a3 a4).tio = s.tio ∧
    (State.glSendAt s a1 a2 a3 a4).dia = s.dia := by
  unfold State.glSendAt
  simp

theorem State.glSend_frame (s : State) (a1 : Nat) (a2 : Nat) (a3 : Nat) :
    (State.glSend s a1 a2 a3).pending = s.pending ∧
    (State.glSend s a1 a2 a3).time = s.time ∧
    (State.glSend s a1 a2 a3).tick = s.tick ∧
    (State.glSend s a1 a2 a3).free = s.free ∧
    (State.glSend s a1 a2 a3).tl = s.tl ∧
    (State.glSend s a1 a2 a3).mu = s.mu ∧
    (State.glSend s a1 a2 a3).hk = s.hk ∧
    (State.glSend s a1 a2 a3).log = s.log ∧
    (State.glSend s a1 a2 a3).seqs = s.seqs ∧
    (State.glSend s a1 a2 a3).host = s.host ∧
    (State.glSend s a1 a2 a3).dict = s.dict ∧
    (State.glSend s a1 a2 a3).mclk = s.mclk ∧
    (State.glSend s a1 a2 a3).sd = s.sd ∧
    (State.glSend s a1 a2 a3).aux = s.aux ∧
    (State.glSend s a1 a2 a3).enc = s.enc ∧
    (State.glSend s a1 a2 a3).eng = s.eng ∧
    (State.glSend s a1 a2 a3).slices = s.slices ∧
    (State.glSend s a1 a2 a3).ref = s.ref ∧
    (State.glSend s a1 a2 a3).cp = s.cp ∧
    (State.glSend s a1 a2 a3).flk = s.flk ∧
    (State.glSend s a1 a2 a3).ring = s.ring ∧
    (State.glSend s a1 a2 a3).can = s.can ∧
    (State.glSend s a1 a2 a3).canPub = s.canPub ∧
    (State.glSend s a1 a2 a3).eth = s.eth ∧
    (State.glSend s a1 a2 a3).tio = s.tio ∧
    (State.glSend s a1 a2 a3).dia = s.dia := by
  have k1 := @State.glSendAt_frame
  unfold State.glSend
  simp [k1]

theorem State.glSafe_frame (s : State) (a1 : Nat) (a2 : Nat) :
    (State.glSafe s a1 a2).pending = s.pending ∧
    (State.glSafe s a1 a2).time = s.time ∧
    (State.glSafe s a1 a2).tick = s.tick ∧
    (State.glSafe s a1 a2).free = s.free ∧
    (State.glSafe s a1 a2).tl = s.tl ∧
    (State.glSafe s a1 a2).mu = s.mu ∧
    (State.glSafe s a1 a2).hk = s.hk ∧
    (State.glSafe s a1 a2).log = s.log ∧
    (State.glSafe s a1 a2).seqs = s.seqs ∧
    (State.glSafe s a1 a2).host = s.host ∧
    (State.glSafe s a1 a2).dict = s.dict ∧
    (State.glSafe s a1 a2).mclk = s.mclk ∧
    (State.glSafe s a1 a2).sd = s.sd ∧
    (State.glSafe s a1 a2).aux = s.aux ∧
    (State.glSafe s a1 a2).enc = s.enc ∧
    (State.glSafe s a1 a2).eng = s.eng ∧
    (State.glSafe s a1 a2).slices = s.slices ∧
    (State.glSafe s a1 a2).ref = s.ref ∧
    (State.glSafe s a1 a2).cp = s.cp ∧
    (State.glSafe s a1 a2).flk = s.flk ∧
    (State.glSafe s a1 a2).ring = s.ring ∧
    (State.glSafe s a1 a2).can = s.can ∧
    (State.glSafe s a1 a2).canPub = s.canPub ∧
    (State.glSafe s a1 a2).eth = s.eth ∧
    (State.glSafe s a1 a2).tio = s.tio ∧
    (State.glSafe s a1 a2).dia = s.dia := by
  have k1 := @State.glSend_frame
  unfold State.glSafe
  simp [k1]

theorem State.linkRefresh_frame (s : State) (a1 : Nat) :
    (State.linkRefresh s a1).pending = s.pending ∧
    (State.linkRefresh s a1).time = s.time ∧
    (State.linkRefresh s a1).tick = s.tick ∧
    (State.linkRefresh s a1).free = s.free ∧
    (State.linkRefresh s a1).tl = s.tl ∧
    (State.linkRefresh s a1).mu = s.mu ∧
    (State.linkRefresh s a1).hk = s.hk ∧
    (State.linkRefresh s a1).log = s.log ∧
    (State.linkRefresh s a1).seqs = s.seqs ∧
    (State.linkRefresh s a1).host = s.host ∧
    (State.linkRefresh s a1).mclk = s.mclk ∧
    (State.linkRefresh s a1).sd = s.sd ∧
    (State.linkRefresh s a1).aux = s.aux ∧
    (State.linkRefresh s a1).enc = s.enc ∧
    (State.linkRefresh s a1).eng = s.eng ∧
    (State.linkRefresh s a1).slices = s.slices ∧
    (State.linkRefresh s a1).ref = s.ref ∧
    (State.linkRefresh s a1).cp = s.cp ∧
    (State.linkRefresh s a1).flk = s.flk ∧
    (State.linkRefresh s a1).ring = s.ring ∧
    (State.linkRefresh s a1).can = s.can ∧
    (State.linkRefresh s a1).canPub = s.canPub ∧
    (State.linkRefresh s a1).eth = s.eth ∧
    (State.linkRefresh s a1).tio = s.tio ∧
    (State.linkRefresh s a1).dia = s.dia := by
  have k1 := @State.glSafe_frame
  have k2 := @State.ite_frame
  unfold State.linkRefresh
  dsimp only
  repeat' (first | (simp [k1, k2]; done) | split)

theorem State.linksRefresh_frame (s : State) (a1 : Nat) :
    (State.linksRefresh s a1).pending = s.pending ∧
    (State.linksRefresh s a1).time = s.time ∧
    (State.linksRefresh s a1).tick = s.tick ∧
    (State.linksRefresh s a1).free = s.free ∧
    (State.linksRefresh s a1).tl = s.tl ∧
    (State.linksRefresh s a1).mu = s.mu ∧
    (State.linksRefresh s a1).hk = s.hk ∧
    (State.linksRefresh s a1).log = s.log ∧
    (State.linksRefresh s a1).seqs = s.seqs ∧
    (State.linksRefresh s a1).host = s.host ∧
    (State.linksRefresh s a1).mclk = s.mclk ∧
    (State.linksRefresh s a1).sd = s.sd ∧
    (State.linksRefresh s a1).aux = s.aux ∧
    (State.linksRefresh s a1).enc = s.enc ∧
    (State.linksRefresh s a1).eng = s.eng ∧
    (State.linksRefresh s a1).slices = s.slices ∧
    (State.linksRefresh s a1).ref = s.ref ∧
    (State.linksRefresh s a1).cp = s.cp ∧
    (State.linksRefresh s a1).flk = s.flk ∧
    (State.linksRefresh s a1).ring = s.ring ∧
    (State.linksRefresh s a1).can = s.can ∧
    (State.linksRefresh s a1).canPub = s.canPub ∧
    (State.linksRefresh s a1).eth = s.eth ∧
    (State.linksRefresh s a1).tio = s.tio ∧
    (State.linksRefresh s a1).dia = s.dia := by
  have k1 := @State.linkRefresh_frame
  unfold State.linksRefresh
  simp [k1]

theorem State.setPat_frame (s : State) (a1 : Nat) (a2 : Pattern) :
    (State.setPat s a1 a2).pending = s.pending ∧
    (State.setPat s a1 a2).time = s.time ∧
    (State.setPat s a1 a2).tick = s.tick ∧
    (State.setPat s a1 a2).free = s.free ∧
    (State.setPat s a1 a2).tl = s.tl ∧
    (State.setPat s a1 a2).mu = s.mu ∧
    (State.setPat s a1 a2).hk = s.hk ∧
    (State.setPat s a1 a2).log = s.log ∧
    (State.setPat s a1 a2).seqs = s.seqs ∧
    (State.setPat s a1 a2).host = s.host ∧
    (State.setPat s a1 a2).dict = s.dict ∧
    (State.setPat s a1 a2).mclk = s.mclk ∧
    (State.setPat s a1 a2).sd = s.sd ∧
    (State.setPat s a1 a2).aux = s.aux ∧
    (State.setPat s a1 a2).enc = s.enc ∧
    (State.setPat s a1 a2).eng = s.eng ∧
    (State.setPat s a1 a2).gl = s.gl ∧
    (State.setPat s a1 a2).ref = s.ref ∧
    (State.setPat s a1 a2).cp = s.cp ∧
    (State.setPat s a1 a2).flk = s.flk ∧
    (State.setPat s a1 a2).ring = s.ring ∧
    (State.setPat s a1 a2).can = s.can ∧
    (State.setPat s a1 a2).canPub = s.canPub ∧
    (State.setPat s a1 a2).eth = s.eth ∧
    (State.setPat s a1 a2).tio = s.tio ∧
    (State.setPat s a1 a2).dia = s.dia := by
  unfold State.setPat
  simp

theorem State.toDisabled_frame (s : State) (a1 : Nat) :
    (State.toDisabled s a1).pending = s.pending ∧
    (State.toDisabled s a1).time = s.time ∧
    (State.toDisabled s a1).tick = s.tick ∧
    (State.toDisabled s a1).free = s.free ∧
    (State.toDisabled s a1).tl = s.tl ∧
    (State.toDisabled s a1).mu = s.mu ∧
    (State.toDisabled s a1).hk = s.hk ∧
    (State.toDisabled s a1).log = s.log ∧
    (State.toDisabled s a1).seqs = s.seqs ∧
    (State.toDisabled s a1).host = s.host ∧
    (State.toDisabled s a1).dict = s.dict ∧
    (State.toDisabled s a1).mclk = s.mclk ∧
    (State.toDisabled s a1).sd = s.sd ∧
    (State.toDisabled s a1).aux = s.aux ∧
    (State.toDisabled s a1).enc = s.enc ∧
    (State.toDisabled s a1).ref = s.ref ∧
    (State.toDisabled s a1).cp = s.cp ∧
    (State.toDisabled s a1).flk = s.flk ∧
    (State.toDisabled s a1).ring = s.ring ∧
    (State.toDisabled s a1).can = s.can ∧
    (State.toDisabled s a1).canPub = s.canPub ∧
    (State.toDisabled s a1).eth = s.eth ∧
    (State.toDisabled s a1).tio = s.tio ∧
    (State.toDisabled s a1).dia = s.dia := by
  unfold State.toDisabled
  simp

theorem State.enter_frame (s : State) (a1 : Nat) (a2 : SliceState) :
    (State.enter s a1 a2).pending = s.pending ∧
    (State.enter s a1 a2).time = s.time ∧
    (State.enter s a1 a2).tick = s.tick ∧
    (State.enter s a1 a2).free = s.free ∧
    (State.enter s a1 a2).tl = s.tl ∧
    (State.enter s a1 a2).mu = s.mu ∧
    (State.enter s a1 a2).hk = s.hk ∧
    (State.enter s a1 a2).host = s.host ∧
    (State.enter s a1 a2).mclk = s.mclk ∧
    (State.enter s a1 a2).sd = s.sd ∧
    (State.enter s a1 a2).aux = s.aux ∧
    (State.enter s a1 a2).enc = s.enc ∧
    (State.enter s a1 a2).eng = s.eng ∧
    (State.enter s a1 a2).gl = s.gl ∧
    (State.enter s a1 a2).ref = s.ref ∧
    (State.enter s a1 a2).cp = s.cp ∧
    (State.enter s a1 a2).flk = s.flk ∧
    (State.enter s a1 a2).ring = s.ring ∧
    (State.enter s a1 a2).can = s.can ∧
    (State.enter s a1 a2).canPub = s.canPub ∧
    (State.enter s a1 a2).eth = s.eth ∧
    (State.enter s a1 a2).tio = s.tio := by
  have k1 := @State.post_frame
  have k2 := @State.setPat_frame
  have k3 := @State.ite_frame
  unfold State.enter
  repeat' (first | (simp [k1, k2, k3]; done) | split)

theorem State.go_frame (s : State) (a1 : Nat) (a2 : Nat) (a3 : SliceState) (a4 : Option (Nat × Nat)) :
    (State.go s a1 a2 a3 a4).pending = s.pending ∧
    (State.go s a1 a2 a3 a4).time = s.time ∧
    (State.go s a1 a2 a3 a4).tick = s.tick ∧
    (State.go s a1 a2 a3 a4).free = s.free ∧
    (State.go s a1 a2 a3 a4).tl = s.tl ∧
    (State.go s a1 a2 a3 a4).mu = s.mu ∧
    (State.go s a1 a2 a3 a4).hk = s.hk ∧
    (State.go s a1 a2 a3 a4).host = s.host ∧
    (State.go s a1 a2 a3 a4).mclk = s.mclk ∧
    (State.go s a1 a2 a3 a4).sd = s.sd ∧
    (State.go s a1 a2 a3 a4).aux = s.aux ∧
    (State.go s a1 a2 a3 a4).enc = s.enc ∧
    (State.go s a1 a2 a3 a4).eng = s.eng ∧
    (State.go s a1 a2 a3 a4).gl = s.gl ∧
    (State.go s a1 a2 a3 a4).ref = s.ref ∧
    (State.go s a1 a2 a3 a4).cp = s.cp ∧
    (State.go s a1 a2 a3 a4).flk = s.flk ∧
    (State.go s a1 a2 a3 a4).ring = s.ring ∧
    (State.go s a1 a2 a3 a4).can = s.can ∧
    (State.go s a1 a2 a3 a4).canPub = s.canPub ∧
    (State.go s a1 a2 a3 a4).eth = s.eth ∧
    (State.go s a1 a2 a3 a4).tio = s.tio := by
  have k1 := @State.enter_frame
  have k2 := @State.ite_frame
  unfold State.go
  simp [k1, k2]

theorem State.endDischarge_frame (s : State) (a1 : Nat) (a2 : Nat) :
    (State.endDischarge s a1 a2).pending = s.pending ∧
    (State.endDischarge s a1 a2).time = s.time ∧
    (State.endDischarge s a1 a2).tick = s.tick ∧
    (State.endDischarge s a1 a2).free = s.free ∧
    (State.endDischarge s a1 a2).tl = s.tl ∧
    (State.endDischarge s a1 a2).mu = s.mu ∧
    (State.endDischarge s a1 a2).hk = s.hk ∧
    (State.endDischarge s a1 a2).host = s.host ∧
    (State.endDischarge s a1 a2).mclk = s.mclk ∧
    (State.endDischarge s a1 a2).sd = s.sd ∧
    (State.endDischarge s a1 a2).aux = s.aux ∧
    (State.endDischarge s a1 a2).enc = s.enc ∧
    (State.endDischarge s a1 a2).eng = s.eng ∧
    (State.endDischarge s a1 a2).gl = s.gl ∧
    (State.endDischarge s a1 a2).ref = s.ref ∧
    (State.endDischarge s a1 a2).cp = s.cp ∧
    (State.endDischarge s a1 a2).flk = s.flk ∧
    (State.endDischarge s a1 a2).ring = s.ring ∧
    (State.endDischarge s a1 a2).can = s.can ∧
    (State.endDischarge s a1 a2).canPub = s.canPub ∧
    (State.endDischarge s a1 a2).eth = s.eth ∧
    (State.endDischarge s a1 a2).tio = s.tio := by
  have k1 := @State.post_frame
  unfold State.endDischarge
  repeat' (first | (simp [k1]; done) | split)

theorem State.stop_frame (s : State) (a1 : Nat) (a2 : Nat) (a3 : Nat) :
    (State.stop s a1 a2 a3).pending = s.pending ∧
    (State.stop s a1 a2 a3).time = s.time ∧
    (State.stop s a1 a2 a3).tick = s.tick ∧
    (State.stop s a1 a2 a3).free = s.free ∧
    (State.stop s a1 a2 a3).tl = s.tl ∧
    (State.stop s a1 a2 a3).mu = s.mu ∧
    (State.stop s a1 a2 a3).hk = s.hk ∧
    (State.stop s a1 a2 a3).host = s.host ∧
    (State.stop s a1 a2 a3).mclk = s.mclk ∧
    (State.stop s a1 a2 a3).sd = s.sd ∧
    (State.stop s a1 a2 a3).aux = s.aux ∧
    (State.stop s a1 a2 a3).enc = s.enc ∧
    (State.stop s a1 a2 a3).eng = s.eng ∧
    (State.stop s a1 a2 a3).gl = s.gl ∧
    (State.stop s a1 a2 a3).ref = s.ref ∧
    (State.stop s a1 a2 a3).cp = s.cp ∧
    (State.stop s a1 a2 a3).flk = s.flk ∧
    (State.stop s a1 a2 a3).ring = s.ring ∧
    (State.stop s a1 a2 a3).can = s.can ∧
    (State.stop s a1 a2 a3).canPub = s.canPub ∧
    (State.stop s a1 a2 a3).eth = s.eth ∧
    (State.stop s a1 a2 a3).tio = s.tio := by
  have k1 := @State.endDischarge_frame
  have k2 := @State.go_frame
  have k3 := @State.ite_frame
  unfold State.stop
  dsimp only
  repeat' (first | (simp [k1, k2, k3]; done) | split)

theorem State.lossReact_frame (s : State) (a1 : Nat) :
    (State.lossReact s a1).pending = s.pending ∧
    (State.lossReact s a1).time = s.time ∧
    (State.lossReact s a1).tick = s.tick ∧
    (State.lossReact s a1).free = s.free ∧
    (State.lossReact s a1).tl = s.tl ∧
    (State.lossReact s a1).mu = s.mu ∧
    (State.lossReact s a1).hk = s.hk ∧
    (State.lossReact s a1).host = s.host ∧
    (State.lossReact s a1).mclk = s.mclk ∧
    (State.lossReact s a1).sd = s.sd ∧
    (State.lossReact s a1).aux = s.aux ∧
    (State.lossReact s a1).enc = s.enc ∧
    (State.lossReact s a1).eng = s.eng ∧
    (State.lossReact s a1).gl = s.gl ∧
    (State.lossReact s a1).ref = s.ref ∧
    (State.lossReact s a1).cp = s.cp ∧
    (State.lossReact s a1).flk = s.flk ∧
    (State.lossReact s a1).ring = s.ring ∧
    (State.lossReact s a1).can = s.can ∧
    (State.lossReact s a1).canPub = s.canPub ∧
    (State.lossReact s a1).eth = s.eth ∧
    (State.lossReact s a1).tio = s.tio := by
  have k1 := @State.endDischarge_frame
  have k2 := @State.go_frame
  have k3 := @State.ite_frame
  unfold State.lossReact
  dsimp only
  repeat' (first | (simp [k1, k2, k3]; done) | split)

theorem State.safeOutDrop_frame (s : State) :
    (State.safeOutDrop s).pending = s.pending ∧
    (State.safeOutDrop s).time = s.time ∧
    (State.safeOutDrop s).tick = s.tick ∧
    (State.safeOutDrop s).free = s.free ∧
    (State.safeOutDrop s).tl = s.tl ∧
    (State.safeOutDrop s).mu = s.mu ∧
    (State.safeOutDrop s).hk = s.hk ∧
    (State.safeOutDrop s).log = s.log ∧
    (State.safeOutDrop s).seqs = s.seqs ∧
    (State.safeOutDrop s).host = s.host ∧
    (State.safeOutDrop s).dict = s.dict ∧
    (State.safeOutDrop s).mclk = s.mclk ∧
    (State.safeOutDrop s).sd = s.sd ∧
    (State.safeOutDrop s).aux = s.aux ∧
    (State.safeOutDrop s).enc = s.enc ∧
    (State.safeOutDrop s).eng = s.eng ∧
    (State.safeOutDrop s).slices = s.slices ∧
    (State.safeOutDrop s).gl = s.gl ∧
    (State.safeOutDrop s).cp = s.cp ∧
    (State.safeOutDrop s).flk = s.flk ∧
    (State.safeOutDrop s).ring = s.ring ∧
    (State.safeOutDrop s).can = s.can ∧
    (State.safeOutDrop s).canPub = s.canPub ∧
    (State.safeOutDrop s).eth = s.eth ∧
    (State.safeOutDrop s).tio = s.tio ∧
    (State.safeOutDrop s).dia = s.dia := by
  have k1 := @State.ite_frame
  unfold State.safeOutDrop
  simp [k1]

theorem State.latch_frame (s : State) (a1 : Nat) (a2 : Forced) (a3 : Nat) :
    (State.latch s a1 a2 a3).pending = s.pending ∧
    (State.latch s a1 a2 a3).time = s.time ∧
    (State.latch s a1 a2 a3).tick = s.tick ∧
    (State.latch s a1 a2 a3).free = s.free ∧
    (State.latch s a1 a2 a3).tl = s.tl ∧
    (State.latch s a1 a2 a3).mu = s.mu ∧
    (State.latch s a1 a2 a3).hk = s.hk ∧
    (State.latch s a1 a2 a3).host = s.host ∧
    (State.latch s a1 a2 a3).mclk = s.mclk ∧
    (State.latch s a1 a2 a3).sd = s.sd ∧
    (State.latch s a1 a2 a3).aux = s.aux ∧
    (State.latch s a1 a2 a3).enc = s.enc ∧
    (State.latch s a1 a2 a3).eng = s.eng ∧
    (State.latch s a1 a2 a3).cp = s.cp ∧
    (State.latch s a1 a2 a3).flk = s.flk ∧
    (State.latch s a1 a2 a3).ring = s.ring ∧
    (State.latch s a1 a2 a3).can = s.can ∧
    (State.latch s a1 a2 a3).canPub = s.canPub ∧
    (State.latch s a1 a2 a3).eth = s.eth ∧
    (State.latch s a1 a2 a3).tio = s.tio := by
  have k1 := @State.endDischarge_frame
  have k2 := @State.go_frame
  have k3 := @State.linksRefresh_frame
  have k4 := @State.post_frame
  have k5 := @State.ite_frame
  unfold State.latch
  dsimp only
  repeat' (first | (simp [k1, k2, k3, k4, k5]; done) | split)

theorem State.request_frame (s : State) (a1 : Nat) (a2 : Forced) (a3 : Nat) :
    (State.request s a1 a2 a3).pending = s.pending ∧
    (State.request s a1 a2 a3).time = s.time ∧
    (State.request s a1 a2 a3).tick = s.tick ∧
    (State.request s a1 a2 a3).free = s.free ∧
    (State.request s a1 a2 a3).tl = s.tl ∧
    (State.request s a1 a2 a3).mu = s.mu ∧
    (State.request s a1 a2 a3).hk = s.hk ∧
    (State.request s a1 a2 a3).host = s.host ∧
    (State.request s a1 a2 a3).mclk = s.mclk ∧
    (State.request s a1 a2 a3).sd = s.sd ∧
    (State.request s a1 a2 a3).aux = s.aux ∧
    (State.request s a1 a2 a3).enc = s.enc ∧
    (State.request s a1 a2 a3).eng = s.eng ∧
    (State.request s a1 a2 a3).cp = s.cp ∧
    (State.request s a1 a2 a3).flk = s.flk ∧
    (State.request s a1 a2 a3).ring = s.ring ∧
    (State.request s a1 a2 a3).can = s.can ∧
    (State.request s a1 a2 a3).canPub = s.canPub ∧
    (State.request s a1 a2 a3).eth = s.eth ∧
    (State.request s a1 a2 a3).tio = s.tio := by
  have k1 := @State.latch_frame
  have k2 := @State.ite_frame
  unfold State.request
  repeat' (first | (simp [k1, k2]; done) | split)

theorem State.force_frame (s : State) (a1 : Nat) (a2 : Forced) (a3 : Nat) :
    (State.force s a1 a2 a3).pending = s.pending ∧
    (State.force s a1 a2 a3).time = s.time ∧
    (State.force s a1 a2 a3).tick = s.tick ∧
    (State.force s a1 a2 a3).free = s.free ∧
    (State.force s a1 a2 a3).tl = s.tl ∧
    (State.force s a1 a2 a3).mu = s.mu ∧
    (State.force s a1 a2 a3).hk = s.hk ∧
    (State.force s a1 a2 a3).host = s.host ∧
    (State.force s a1 a2 a3).mclk = s.mclk ∧
    (State.force s a1 a2 a3).sd = s.sd ∧
    (State.force s a1 a2 a3).aux = s.aux ∧
    (State.force s a1 a2 a3).enc = s.enc ∧
    (State.force s a1 a2 a3).eng = s.eng ∧
    (State.force s a1 a2 a3).cp = s.cp ∧
    (State.force s a1 a2 a3).flk = s.flk ∧
    (State.force s a1 a2 a3).ring = s.ring ∧
    (State.force s a1 a2 a3).can = s.can ∧
    (State.force s a1 a2 a3).canPub = s.canPub ∧
    (State.force s a1 a2 a3).eth = s.eth ∧
    (State.force s a1 a2 a3).tio = s.tio := by
  have k1 := @State.request_frame
  have k2 := @State.safeOutDrop_frame
  have k3 := @State.ite_frame
  unfold State.force
  repeat' (first | (simp [k1, k2, k3]; done) | split)

theorem State.unforce_frame (s : State) (a1 : Nat) :
    (State.unforce s a1).pending = s.pending ∧
    (State.unforce s a1).time = s.time ∧
    (State.unforce s a1).tick = s.tick ∧
    (State.unforce s a1).free = s.free ∧
    (State.unforce s a1).tl = s.tl ∧
    (State.unforce s a1).mu = s.mu ∧
    (State.unforce s a1).hk = s.hk ∧
    (State.unforce s a1).host = s.host ∧
    (State.unforce s a1).mclk = s.mclk ∧
    (State.unforce s a1).sd = s.sd ∧
    (State.unforce s a1).aux = s.aux ∧
    (State.unforce s a1).enc = s.enc ∧
    (State.unforce s a1).eng = s.eng ∧
    (State.unforce s a1).cp = s.cp ∧
    (State.unforce s a1).flk = s.flk ∧
    (State.unforce s a1).ring = s.ring ∧
    (State.unforce s a1).can = s.can ∧
    (State.unforce s a1).canPub = s.canPub ∧
    (State.unforce s a1).eth = s.eth ∧
    (State.unforce s a1).tio = s.tio := by
  have k1 := @State.latch_frame
  have k2 := @State.linksRefresh_frame
  unfold State.unforce
  dsimp only
  repeat' (first | (simp [k1, k2]; done) | split)

theorem State.ascRelease_frame (s : State) (a1 : Nat) :
    (State.ascRelease s a1).pending = s.pending ∧
    (State.ascRelease s a1).time = s.time ∧
    (State.ascRelease s a1).tick = s.tick ∧
    (State.ascRelease s a1).free = s.free ∧
    (State.ascRelease s a1).tl = s.tl ∧
    (State.ascRelease s a1).mu = s.mu ∧
    (State.ascRelease s a1).hk = s.hk ∧
    (State.ascRelease s a1).host = s.host ∧
    (State.ascRelease s a1).mclk = s.mclk ∧
    (State.ascRelease s a1).sd = s.sd ∧
    (State.ascRelease s a1).aux = s.aux ∧
    (State.ascRelease s a1).enc = s.enc ∧
    (State.ascRelease s a1).eng = s.eng ∧
    (State.ascRelease s a1).cp = s.cp ∧
    (State.ascRelease s a1).flk = s.flk ∧
    (State.ascRelease s a1).ring = s.ring ∧
    (State.ascRelease s a1).can = s.can ∧
    (State.ascRelease s a1).canPub = s.canPub ∧
    (State.ascRelease s a1).eth = s.eth ∧
    (State.ascRelease s a1).tio = s.tio := by
  have k1 := @State.latch_frame
  unfold State.ascRelease
  repeat' (first | (simp [k1]; done) | split)

theorem State.ss1Request_frame (s : State) (a1 : Nat) (a2 : Nat) :
    (State.ss1Request s a1 a2).pending = s.pending ∧
    (State.ss1Request s a1 a2).time = s.time ∧
    (State.ss1Request s a1 a2).tick = s.tick ∧
    (State.ss1Request s a1 a2).free = s.free ∧
    (State.ss1Request s a1 a2).tl = s.tl ∧
    (State.ss1Request s a1 a2).mu = s.mu ∧
    (State.ss1Request s a1 a2).hk = s.hk ∧
    (State.ss1Request s a1 a2).host = s.host ∧
    (State.ss1Request s a1 a2).mclk = s.mclk ∧
    (State.ss1Request s a1 a2).sd = s.sd ∧
    (State.ss1Request s a1 a2).aux = s.aux ∧
    (State.ss1Request s a1 a2).enc = s.enc ∧
    (State.ss1Request s a1 a2).eng = s.eng ∧
    (State.ss1Request s a1 a2).cp = s.cp ∧
    (State.ss1Request s a1 a2).flk = s.flk ∧
    (State.ss1Request s a1 a2).ring = s.ring ∧
    (State.ss1Request s a1 a2).can = s.can ∧
    (State.ss1Request s a1 a2).canPub = s.canPub ∧
    (State.ss1Request s a1 a2).eth = s.eth ∧
    (State.ss1Request s a1 a2).tio = s.tio := by
  have k1 := @State.force_frame
  have k2 := @State.stop_frame
  have k3 := @State.ite_frame
  unfold State.ss1Request
  repeat' (first | (simp [k1, k2, k3]; done) | split)

theorem State.degradeBy_frame (s : State) (a1 : Nat) (a2 : Nat) (a3 : Nat) (a4 : Bool) :
    (State.degradeBy s a1 a2 a3 a4).pending = s.pending ∧
    (State.degradeBy s a1 a2 a3 a4).time = s.time ∧
    (State.degradeBy s a1 a2 a3 a4).tick = s.tick ∧
    (State.degradeBy s a1 a2 a3 a4).free = s.free ∧
    (State.degradeBy s a1 a2 a3 a4).tl = s.tl ∧
    (State.degradeBy s a1 a2 a3 a4).mu = s.mu ∧
    (State.degradeBy s a1 a2 a3 a4).hk = s.hk ∧
    (State.degradeBy s a1 a2 a3 a4).host = s.host ∧
    (State.degradeBy s a1 a2 a3 a4).mclk = s.mclk ∧
    (State.degradeBy s a1 a2 a3 a4).sd = s.sd ∧
    (State.degradeBy s a1 a2 a3 a4).aux = s.aux ∧
    (State.degradeBy s a1 a2 a3 a4).enc = s.enc ∧
    (State.degradeBy s a1 a2 a3 a4).eng = s.eng ∧
    (State.degradeBy s a1 a2 a3 a4).cp = s.cp ∧
    (State.degradeBy s a1 a2 a3 a4).flk = s.flk ∧
    (State.degradeBy s a1 a2 a3 a4).ring = s.ring ∧
    (State.degradeBy s a1 a2 a3 a4).can = s.can ∧
    (State.degradeBy s a1 a2 a3 a4).canPub = s.canPub ∧
    (State.degradeBy s a1 a2 a3 a4).eth = s.eth ∧
    (State.degradeBy s a1 a2 a3 a4).tio = s.tio := by
  have k1 := @State.post_frame
  have k2 := @State.ss1Request_frame
  have k3 := @State.ite_frame
  unfold State.degradeBy
  simp [k1, k2, k3]

theorem State.degrade_frame (s : State) (a1 : Nat) (a2 : Nat) (a3 : Nat) :
    (State.degrade s a1 a2 a3).pending = s.pending ∧
    (State.degrade s a1 a2 a3).time = s.time ∧
    (State.degrade s a1 a2 a3).tick = s.tick ∧
    (State.degrade s a1 a2 a3).free = s.free ∧
    (State.degrade s a1 a2 a3).tl = s.tl ∧
    (State.degrade s a1 a2 a3).mu = s.mu ∧
    (State.degrade s a1 a2 a3).hk = s.hk ∧
    (State.degrade s a1 a2 a3).host = s.host ∧
    (State.degrade s a1 a2 a3).mclk = s.mclk ∧
    (State.degrade s a1 a2 a3).sd = s.sd ∧
    (State.degrade s a1 a2 a3).aux = s.aux ∧
    (State.degrade s a1 a2 a3).enc = s.enc ∧
    (State.degrade s a1 a2 a3).eng = s.eng ∧
    (State.degrade s a1 a2 a3).cp = s.cp ∧
    (State.degrade s a1 a2 a3).flk = s.flk ∧
    (State.degrade s a1 a2 a3).ring = s.ring ∧
    (State.degrade s a1 a2 a3).can = s.can ∧
    (State.degrade s a1 a2 a3).canPub = s.canPub ∧
    (State.degrade s a1 a2 a3).eth = s.eth ∧
    (State.degrade s a1 a2 a3).tio = s.tio := by
  have k1 := @State.degradeBy_frame
  unfold State.degrade
  simp [k1]

theorem State.undegrade_frame (s : State) (a1 : Nat) (a2 : (Nat → Bool)) :
    (State.undegrade s a1 a2).pending = s.pending ∧
    (State.undegrade s a1 a2).time = s.time ∧
    (State.undegrade s a1 a2).tick = s.tick ∧
    (State.undegrade s a1 a2).free = s.free ∧
    (State.undegrade s a1 a2).tl = s.tl ∧
    (State.undegrade s a1 a2).mu = s.mu ∧
    (State.undegrade s a1 a2).hk = s.hk ∧
    (State.undegrade s a1 a2).log = s.log ∧
    (State.undegrade s a1 a2).seqs = s.seqs ∧
    (State.undegrade s a1 a2).host = s.host ∧
    (State.undegrade s a1 a2).dict = s.dict ∧
    (State.undegrade s a1 a2).mclk = s.mclk ∧
    (State.undegrade s a1 a2).sd = s.sd ∧
    (State.undegrade s a1 a2).aux = s.aux ∧
    (State.undegrade s a1 a2).enc = s.enc ∧
    (State.undegrade s a1 a2).eng = s.eng ∧
    (State.undegrade s a1 a2).slices = s.slices ∧
    (State.undegrade s a1 a2).gl = s.gl ∧
    (State.undegrade s a1 a2).cp = s.cp ∧
    (State.undegrade s a1 a2).flk = s.flk ∧
    (State.undegrade s a1 a2).ring = s.ring ∧
    (State.undegrade s a1 a2).can = s.can ∧
    (State.undegrade s a1 a2).canPub = s.canPub ∧
    (State.undegrade s a1 a2).eth = s.eth ∧
    (State.undegrade s a1 a2).tio = s.tio ∧
    (State.undegrade s a1 a2).dia = s.dia := by
  have k1 := @State.ite_frame
  unfold State.undegrade
  simp [k1]

theorem State.abortHandover_frame (s : State) (a1 : Nat) :
    (State.abortHandover s a1).pending = s.pending ∧
    (State.abortHandover s a1).time = s.time ∧
    (State.abortHandover s a1).tick = s.tick ∧
    (State.abortHandover s a1).free = s.free ∧
    (State.abortHandover s a1).tl = s.tl ∧
    (State.abortHandover s a1).mu = s.mu ∧
    (State.abortHandover s a1).hk = s.hk ∧
    (State.abortHandover s a1).host = s.host ∧
    (State.abortHandover s a1).mclk = s.mclk ∧
    (State.abortHandover s a1).sd = s.sd ∧
    (State.abortHandover s a1).aux = s.aux ∧
    (State.abortHandover s a1).enc = s.enc ∧
    (State.abortHandover s a1).eng = s.eng ∧
    (State.abortHandover s a1).slices = s.slices ∧
    (State.abortHandover s a1).gl = s.gl ∧
    (State.abortHandover s a1).ref = s.ref ∧
    (State.abortHandover s a1).cp = s.cp ∧
    (State.abortHandover s a1).ring = s.ring ∧
    (State.abortHandover s a1).can = s.can ∧
    (State.abortHandover s a1).canPub = s.canPub ∧
    (State.abortHandover s a1).eth = s.eth ∧
    (State.abortHandover s a1).tio = s.tio := by
  have k1 := @State.post_frame
  have k2 := @State.ite_frame
  unfold State.abortHandover
  simp [k1, k2]

theorem State.refereeFault_frame (s : State) (a1 : Nat) :
    (State.refereeFault s a1).pending = s.pending ∧
    (State.refereeFault s a1).time = s.time ∧
    (State.refereeFault s a1).tick = s.tick ∧
    (State.refereeFault s a1).free = s.free ∧
    (State.refereeFault s a1).tl = s.tl ∧
    (State.refereeFault s a1).mu = s.mu ∧
    (State.refereeFault s a1).hk = s.hk ∧
    (State.refereeFault s a1).host = s.host ∧
    (State.refereeFault s a1).mclk = s.mclk ∧
    (State.refereeFault s a1).sd = s.sd ∧
    (State.refereeFault s a1).aux = s.aux ∧
    (State.refereeFault s a1).enc = s.enc ∧
    (State.refereeFault s a1).eng = s.eng ∧
    (State.refereeFault s a1).cp = s.cp ∧
    (State.refereeFault s a1).ring = s.ring ∧
    (State.refereeFault s a1).can = s.can ∧
    (State.refereeFault s a1).canPub = s.canPub ∧
    (State.refereeFault s a1).eth = s.eth ∧
    (State.refereeFault s a1).tio = s.tio := by
  have k1 := @State.abortHandover_frame
  have k2 := @State.force_frame
  have k3 := @State.post_frame
  have k4 := @State.ite_frame
  unfold State.refereeFault
  simp [k1, k2, k3, k4]

theorem State.linkFault_frame (s : State) (a1 : Nat) (a2 : Nat) :
    (State.linkFault s a1 a2).pending = s.pending ∧
    (State.linkFault s a1 a2).time = s.time ∧
    (State.linkFault s a1 a2).tick = s.tick ∧
    (State.linkFault s a1 a2).free = s.free ∧
    (State.linkFault s a1 a2).tl = s.tl ∧
    (State.linkFault s a1 a2).mu = s.mu ∧
    (State.linkFault s a1 a2).hk = s.hk ∧
    (State.linkFault s a1 a2).host = s.host ∧
    (State.linkFault s a1 a2).mclk = s.mclk ∧
    (State.linkFault s a1 a2).sd = s.sd ∧
    (State.linkFault s a1 a2).aux = s.aux ∧
    (State.linkFault s a1 a2).enc = s.enc ∧
    (State.linkFault s a1 a2).eng = s.eng ∧
    (State.linkFault s a1 a2).ref = s.ref ∧
    (State.linkFault s a1 a2).cp = s.cp ∧
    (State.linkFault s a1 a2).ring = s.ring ∧
    (State.linkFault s a1 a2).can = s.can ∧
    (State.linkFault s a1 a2).canPub = s.canPub ∧
    (State.linkFault s a1 a2).eth = s.eth ∧
    (State.linkFault s a1 a2).tio = s.tio := by
  have k1 := @State.abortHandover_frame
  have k2 := @State.linkRefresh_frame
  have k3 := @State.lossReact_frame
  have k4 := @State.post_frame
  have k5 := @State.ite_frame
  unfold State.linkFault
  simp [k1, k2, k3, k4, k5]

end Sys2Proof.Machine
end

