-- ==== Sys2Proof/Laws/Roles.lean ====
section
/-!
SUPPORT. What each operation of Machine/Roles.lean leaves as it was: the parts of State that it cannot change.
-/

namespace Sys2Proof.Machine

open Sys2Proof

theorem State.sendClaim_frame (s : State) :
    (State.sendClaim s).pending = s.pending ∧
    (State.sendClaim s).time = s.time ∧
    (State.sendClaim s).tick = s.tick ∧
    (State.sendClaim s).free = s.free ∧
    (State.sendClaim s).tl = s.tl ∧
    (State.sendClaim s).mu = s.mu ∧
    (State.sendClaim s).hk = s.hk ∧
    (State.sendClaim s).log = s.log ∧
    (State.sendClaim s).host = s.host ∧
    (State.sendClaim s).dict = s.dict ∧
    (State.sendClaim s).mclk = s.mclk ∧
    (State.sendClaim s).sd = s.sd ∧
    (State.sendClaim s).aux = s.aux ∧
    (State.sendClaim s).enc = s.enc ∧
    (State.sendClaim s).eng = s.eng ∧
    (State.sendClaim s).slices = s.slices ∧
    (State.sendClaim s).gl = s.gl ∧
    (State.sendClaim s).ref = s.ref ∧
    (State.sendClaim s).cp = s.cp ∧
    (State.sendClaim s).flk = s.flk ∧
    (State.sendClaim s).can = s.can ∧
    (State.sendClaim s).canPub = s.canPub ∧
    (State.sendClaim s).eth = s.eth ∧
    (State.sendClaim s).tio = s.tio := by
  have k1 := @State.ringTx_frame
  have k2 := @State.ite_frame
  unfold State.sendClaim
  simp [k1, k2]

theorem State.noteSwitch_frame (s : State) (a1 : Nat) :
    (State.noteSwitch s a1).pending = s.pending ∧
    (State.noteSwitch s a1).time = s.time ∧
    (State.noteSwitch s a1).tick = s.tick ∧
    (State.noteSwitch s a1).free = s.free ∧
    (State.noteSwitch s a1).tl = s.tl ∧
    (State.noteSwitch s a1).mu = s.mu ∧
    (State.noteSwitch s a1).hk = s.hk ∧
    (State.noteSwitch s a1).log = s.log ∧
    (State.noteSwitch s a1).seqs = s.seqs ∧
    (State.noteSwitch s a1).host = s.host ∧
    (State.noteSwitch s a1).mclk = s.mclk ∧
    (State.noteSwitch s a1).sd = s.sd ∧
    (State.noteSwitch s a1).aux = s.aux ∧
    (State.noteSwitch s a1).enc = s.enc ∧
    (State.noteSwitch s a1).eng = s.eng ∧
    (State.noteSwitch s a1).slices = s.slices ∧
    (State.noteSwitch s a1).gl = s.gl ∧
    (State.noteSwitch s a1).ref = s.ref ∧
    (State.noteSwitch s a1).cp = s.cp ∧
    (State.noteSwitch s a1).flk = s.flk ∧
    (State.noteSwitch s a1).ring = s.ring ∧
    (State.noteSwitch s a1).can = s.can ∧
    (State.noteSwitch s a1).canPub = s.canPub ∧
    (State.noteSwitch s a1).eth = s.eth ∧
    (State.noteSwitch s a1).tio = s.tio ∧
    (State.noteSwitch s a1).dia = s.dia := by
  unfold State.noteSwitch
  simp

theorem State.cutFrames_frame (s : State) :
    (State.cutFrames s).pending = s.pending ∧
    (State.cutFrames s).time = s.time ∧
    (State.cutFrames s).tick = s.tick ∧
    (State.cutFrames s).free = s.free ∧
    (State.cutFrames s).tl = s.tl ∧
    (State.cutFrames s).mu = s.mu ∧
    (State.cutFrames s).hk = s.hk ∧
    (State.cutFrames s).log = s.log ∧
    (State.cutFrames s).seqs = s.seqs ∧
    (State.cutFrames s).host = s.host ∧
    (State.cutFrames s).dict = s.dict ∧
    (State.cutFrames s).mclk = s.mclk ∧
    (State.cutFrames s).sd = s.sd ∧
    (State.cutFrames s).aux = s.aux ∧
    (State.cutFrames s).eng = s.eng ∧
    (State.cutFrames s).slices = s.slices ∧
    (State.cutFrames s).gl = s.gl ∧
    (State.cutFrames s).cp = s.cp ∧
    (State.cutFrames s).flk = s.flk ∧
    (State.cutFrames s).ring = s.ring ∧
    (State.cutFrames s).can = s.can ∧
    (State.cutFrames s).canPub = s.canPub ∧
    (State.cutFrames s).eth = s.eth ∧
    (State.cutFrames s).tio = s.tio ∧
    (State.cutFrames s).dia = s.dia := by
  unfold State.cutFrames
  simp

theorem State.setRole_frame (s : State) (a1 : Role) (a2 : Nat) :
    (State.setRole s a1 a2).pending = s.pending ∧
    (State.setRole s a1 a2).time = s.time ∧
    (State.setRole s a1 a2).tick = s.tick ∧
    (State.setRole s a1 a2).free = s.free ∧
    (State.setRole s a1 a2).tl = s.tl ∧
    (State.setRole s a1 a2).mu = s.mu ∧
    (State.setRole s a1 a2).hk = s.hk ∧
    (State.setRole s a1 a2).log = s.log ∧
    (State.setRole s a1 a2).host = s.host ∧
    (State.setRole s a1 a2).mclk = s.mclk ∧
    (State.setRole s a1 a2).sd = s.sd ∧
    (State.setRole s a1 a2).aux = s.aux ∧
    (State.setRole s a1 a2).eng = s.eng ∧
    (State.setRole s a1 a2).slices = s.slices ∧
    (State.setRole s a1 a2).cp = s.cp ∧
    (State.setRole s a1 a2).canPub = s.canPub ∧
    (State.setRole s a1 a2).eth = s.eth ∧
    (State.setRole s a1 a2).tio = s.tio := by
  have k1 := @State.cutFrames_frame
  have k2 := @State.noteSwitch_frame
  have k3 := @State.sendClaim_frame
  have k4 := @State.ite_frame
  unfold State.setRole
  simp [k1, k2, k3, k4]

theorem State.demote_frame (s : State) :
    (State.demote s).pending = s.pending ∧
    (State.demote s).time = s.time ∧
    (State.demote s).tick = s.tick ∧
    (State.demote s).free = s.free ∧
    (State.demote s).tl = s.tl ∧
    (State.demote s).mu = s.mu ∧
    (State.demote s).hk = s.hk ∧
    (State.demote s).host = s.host ∧
    (State.demote s).mclk = s.mclk ∧
    (State.demote s).sd = s.sd ∧
    (State.demote s).aux = s.aux ∧
    (State.demote s).eng = s.eng ∧
    (State.demote s).slices = s.slices ∧
    (State.demote s).cp = s.cp ∧
    (State.demote s).canPub = s.canPub ∧
    (State.demote s).eth = s.eth ∧
    (State.demote s).tio = s.tio := by
  have k1 := @State.abortHandover_frame
  have k2 := @State.setRole_frame
  unfold State.demote
  simp [k1, k2]

theorem State.tryPromote_frame (s : State) :
    (State.tryPromote s).pending = s.pending ∧
    (State.tryPromote s).time = s.time ∧
    (State.tryPromote s).tick = s.tick ∧
    (State.tryPromote s).free = s.free ∧
    (State.tryPromote s).tl = s.tl ∧
    (State.tryPromote s).mu = s.mu ∧
    (State.tryPromote s).hk = s.hk ∧
    (State.tryPromote s).log = s.log ∧
    (State.tryPromote s).host = s.host ∧
    (State.tryPromote s).mclk = s.mclk ∧
    (State.tryPromote s).sd = s.sd ∧
    (State.tryPromote s).aux = s.aux ∧
    (State.tryPromote s).eng = s.eng ∧
    (State.tryPromote s).slices = s.slices ∧
    (State.tryPromote s).cp = s.cp ∧
    (State.tryPromote s).canPub = s.canPub ∧
    (State.tryPromote s).eth = s.eth ∧
    (State.tryPromote s).tio = s.tio := by
  have k1 := @State.setRole_frame
  have k2 := @State.ite_frame
  unfold State.tryPromote
  simp [k1, k2]

theorem State.candidate_frame (s : State) (a1 : Nat) :
    (State.candidate s a1).pending = s.pending ∧
    (State.candidate s a1).time = s.time ∧
    (State.candidate s a1).tick = s.tick ∧
    (State.candidate s a1).free = s.free ∧
    (State.candidate s a1).tl = s.tl ∧
    (State.candidate s a1).mu = s.mu ∧
    (State.candidate s a1).hk = s.hk ∧
    (State.candidate s a1).log = s.log ∧
    (State.candidate s a1).host = s.host ∧
    (State.candidate s a1).mclk = s.mclk ∧
    (State.candidate s a1).sd = s.sd ∧
    (State.candidate s a1).aux = s.aux ∧
    (State.candidate s a1).eng = s.eng ∧
    (State.candidate s a1).slices = s.slices ∧
    (State.candidate s a1).cp = s.cp ∧
    (State.candidate s a1).canPub = s.canPub ∧
    (State.candidate s a1).eth = s.eth ∧
    (State.candidate s a1).tio = s.tio := by
  have k1 := @State.setRole_frame
  have k2 := @State.tryPromote_frame
  unfold State.candidate
  simp [k1, k2]

theorem State.joinCheck_frame (s : State) (a1 : Option Heartbeat) :
    (State.joinCheck s a1).1.pending = s.pending ∧
    (State.joinCheck s a1).1.time = s.time ∧
    (State.joinCheck s a1).1.tick = s.tick ∧
    (State.joinCheck s a1).1.free = s.free ∧
    (State.joinCheck s a1).1.tl = s.tl ∧
    (State.joinCheck s a1).1.mu = s.mu ∧
    (State.joinCheck s a1).1.hk = s.hk ∧
    (State.joinCheck s a1).1.log = s.log ∧
    (State.joinCheck s a1).1.seqs = s.seqs ∧
    (State.joinCheck s a1).1.host = s.host ∧
    (State.joinCheck s a1).1.dict = s.dict ∧
    (State.joinCheck s a1).1.mclk = s.mclk ∧
    (State.joinCheck s a1).1.sd = s.sd ∧
    (State.joinCheck s a1).1.aux = s.aux ∧
    (State.joinCheck s a1).1.enc = s.enc ∧
    (State.joinCheck s a1).1.eng = s.eng ∧
    (State.joinCheck s a1).1.slices = s.slices ∧
    (State.joinCheck s a1).1.gl = s.gl ∧
    (State.joinCheck s a1).1.ref = s.ref ∧
    (State.joinCheck s a1).1.cp = s.cp ∧
    (State.joinCheck s a1).1.ring = s.ring ∧
    (State.joinCheck s a1).1.can = s.can ∧
    (State.joinCheck s a1).1.canPub = s.canPub ∧
    (State.joinCheck s a1).1.eth = s.eth ∧
    (State.joinCheck s a1).1.tio = s.tio ∧
    (State.joinCheck s a1).1.dia = s.dia := by
  unfold State.joinCheck
  simp

theorem State.refuseJoin_frame (s : State) (a1 : Nat) :
    (State.refuseJoin s a1).pending = s.pending ∧
    (State.refuseJoin s a1).time = s.time ∧
    (State.refuseJoin s a1).tick = s.tick ∧
    (State.refuseJoin s a1).free = s.free ∧
    (State.refuseJoin s a1).tl = s.tl ∧
    (State.refuseJoin s a1).mu = s.mu ∧
    (State.refuseJoin s a1).hk = s.hk ∧
    (State.refuseJoin s a1).host = s.host ∧
    (State.refuseJoin s a1).mclk = s.mclk ∧
    (State.refuseJoin s a1).sd = s.sd ∧
    (State.refuseJoin s a1).aux = s.aux ∧
    (State.refuseJoin s a1).enc = s.enc ∧
    (State.refuseJoin s a1).eng = s.eng ∧
    (State.refuseJoin s a1).slices = s.slices ∧
    (State.refuseJoin s a1).gl = s.gl ∧
    (State.refuseJoin s a1).ref = s.ref ∧
    (State.refuseJoin s a1).cp = s.cp ∧
    (State.refuseJoin s a1).flk = s.flk ∧
    (State.refuseJoin s a1).ring = s.ring ∧
    (State.refuseJoin s a1).can = s.can ∧
    (State.refuseJoin s a1).canPub = s.canPub ∧
    (State.refuseJoin s a1).eth = s.eth ∧
    (State.refuseJoin s a1).tio = s.tio := by
  have k1 := @State.post_frame
  have k2 := @State.ite_frame
  unfold State.refuseJoin
  simp [k1, k2]

theorem State.mayJoin_frame (s : State) (a1 : Option Heartbeat) :
    (State.mayJoin s a1).1.pending = s.pending ∧
    (State.mayJoin s a1).1.time = s.time ∧
    (State.mayJoin s a1).1.tick = s.tick ∧
    (State.mayJoin s a1).1.free = s.free ∧
    (State.mayJoin s a1).1.tl = s.tl ∧
    (State.mayJoin s a1).1.mu = s.mu ∧
    (State.mayJoin s a1).1.hk = s.hk ∧
    (State.mayJoin s a1).1.host = s.host ∧
    (State.mayJoin s a1).1.mclk = s.mclk ∧
    (State.mayJoin s a1).1.sd = s.sd ∧
    (State.mayJoin s a1).1.aux = s.aux ∧
    (State.mayJoin s a1).1.enc = s.enc ∧
    (State.mayJoin s a1).1.eng = s.eng ∧
    (State.mayJoin s a1).1.slices = s.slices ∧
    (State.mayJoin s a1).1.gl = s.gl ∧
    (State.mayJoin s a1).1.ref = s.ref ∧
    (State.mayJoin s a1).1.cp = s.cp ∧
    (State.mayJoin s a1).1.ring = s.ring ∧
    (State.mayJoin s a1).1.can = s.can ∧
    (State.mayJoin s a1).1.canPub = s.canPub ∧
    (State.mayJoin s a1).1.eth = s.eth ∧
    (State.mayJoin s a1).1.tio = s.tio := by
  have k1 := @State.joinCheck_frame
  have k2 := @State.refuseJoin_frame
  unfold State.mayJoin
  repeat' split
  all_goals (rename_i h; try (have h := congrArg Prod.fst h; dsimp only at h; subst h))
  all_goals simp [k1, k2]

theorem State.startResync_frame (s : State) :
    (State.startResync s).pending = s.pending ∧
    (State.startResync s).time = s.time ∧
    (State.startResync s).tick = s.tick ∧
    (State.startResync s).free = s.free ∧
    (State.startResync s).tl = s.tl ∧
    (State.startResync s).mu = s.mu ∧
    (State.startResync s).hk = s.hk ∧
    (State.startResync s).log = s.log ∧
    (State.startResync s).host = s.host ∧
    (State.startResync s).mclk = s.mclk ∧
    (State.startResync s).sd = s.sd ∧
    (State.startResync s).aux = s.aux ∧
    (State.startResync s).eng = s.eng ∧
    (State.startResync s).slices = s.slices ∧
    (State.startResync s).cp = s.cp ∧
    (State.startResync s).canPub = s.canPub ∧
    (State.startResync s).eth = s.eth ∧
    (State.startResync s).tio = s.tio := by
  have k1 := @State.setRole_frame
  unfold State.startResync
  simp [k1]

theorem State.failResync_frame (s : State) :
    (State.failResync s).pending = s.pending ∧
    (State.failResync s).time = s.time ∧
    (State.failResync s).tick = s.tick ∧
    (State.failResync s).free = s.free ∧
    (State.failResync s).tl = s.tl ∧
    (State.failResync s).mu = s.mu ∧
    (State.failResync s).hk = s.hk ∧
    (State.failResync s).host = s.host ∧
    (State.failResync s).mclk = s.mclk ∧
    (State.failResync s).sd = s.sd ∧
    (State.failResync s).aux = s.aux ∧
    (State.failResync s).enc = s.enc ∧
    (State.failResync s).eng = s.eng ∧
    (State.failResync s).slices = s.slices ∧
    (State.failResync s).gl = s.gl ∧
    (State.failResync s).ref = s.ref ∧
    (State.failResync s).cp = s.cp ∧
    (State.failResync s).ring = s.ring ∧
    (State.failResync s).can = s.can ∧
    (State.failResync s).canPub = s.canPub ∧
    (State.failResync s).eth = s.eth ∧
    (State.failResync s).tio = s.tio := by
  have k1 := @State.post_frame
  have k2 := @State.ite_frame
  unfold State.failResync
  simp [k1, k2]

theorem State.autoResync_frame (s : State) (a1 : Heartbeat) :
    (State.autoResync s a1).pending = s.pending ∧
    (State.autoResync s a1).time = s.time ∧
    (State.autoResync s a1).tick = s.tick ∧
    (State.autoResync s a1).free = s.free ∧
    (State.autoResync s a1).tl = s.tl ∧
    (State.autoResync s a1).mu = s.mu ∧
    (State.autoResync s a1).hk = s.hk ∧
    (State.autoResync s a1).host = s.host ∧
    (State.autoResync s a1).mclk = s.mclk ∧
    (State.autoResync s a1).sd = s.sd ∧
    (State.autoResync s a1).aux = s.aux ∧
    (State.autoResync s a1).eng = s.eng ∧
    (State.autoResync s a1).slices = s.slices ∧
    (State.autoResync s a1).cp = s.cp ∧
    (State.autoResync s a1).canPub = s.canPub ∧
    (State.autoResync s a1).eth = s.eth ∧
    (State.autoResync s a1).tio = s.tio := by
  have k1 := @State.mayJoin_frame
  have k2 := @State.startResync_frame
  have k3 := @State.ite_frame
  unfold State.autoResync
  dsimp only
  repeat' split
  all_goals simp [k1, k2, k3]

theorem State.joinPair_frame (s : State) :
    (State.joinPair s).pending = s.pending ∧
    (State.joinPair s).time = s.time ∧
    (State.joinPair s).tick = s.tick ∧
    (State.joinPair s).free = s.free ∧
    (State.joinPair s).tl = s.tl ∧
    (State.joinPair s).mu = s.mu ∧
    (State.joinPair s).hk = s.hk ∧
    (State.joinPair s).log = s.log ∧
    (State.joinPair s).host = s.host ∧
    (State.joinPair s).mclk = s.mclk ∧
    (State.joinPair s).sd = s.sd ∧
    (State.joinPair s).aux = s.aux ∧
    (State.joinPair s).eng = s.eng ∧
    (State.joinPair s).slices = s.slices ∧
    (State.joinPair s).cp = s.cp ∧
    (State.joinPair s).canPub = s.canPub ∧
    (State.joinPair s).eth = s.eth ∧
    (State.joinPair s).tio = s.tio := by
  have k1 := @State.setRole_frame
  unfold State.joinPair
  simp [k1]

theorem State.joinAt_frame (s : State) (a1 : Nat) :
    (State.joinAt s a1).pending = s.pending ∧
    (State.joinAt s a1).time = s.time ∧
    (State.joinAt s a1).tick = s.tick ∧
    (State.joinAt s a1).free = s.free ∧
    (State.joinAt s a1).tl = s.tl ∧
    (State.joinAt s a1).mu = s.mu ∧
    (State.joinAt s a1).hk = s.hk ∧
    (State.joinAt s a1).log = s.log ∧
    (State.joinAt s a1).host = s.host ∧
    (State.joinAt s a1).mclk = s.mclk ∧
    (State.joinAt s a1).sd = s.sd ∧
    (State.joinAt s a1).aux = s.aux ∧
    (State.joinAt s a1).eng = s.eng ∧
    (State.joinAt s a1).slices = s.slices ∧
    (State.joinAt s a1).cp = s.cp ∧
    (State.joinAt s a1).canPub = s.canPub ∧
    (State.joinAt s a1).eth = s.eth ∧
    (State.joinAt s a1).tio = s.tio := by
  have k1 := @State.joinPair_frame
  have k2 := @State.ite_frame
  unfold State.joinAt
  simp [k1, k2]

theorem State.handoverNow_frame (s : State) :
    (State.handoverNow s).pending = s.pending ∧
    (State.handoverNow s).time = s.time ∧
    (State.handoverNow s).tick = s.tick ∧
    (State.handoverNow s).free = s.free ∧
    (State.handoverNow s).tl = s.tl ∧
    (State.handoverNow s).mu = s.mu ∧
    (State.handoverNow s).hk = s.hk ∧
    (State.handoverNow s).host = s.host ∧
    (State.handoverNow s).mclk = s.mclk ∧
    (State.handoverNow s).sd = s.sd ∧
    (State.handoverNow s).aux = s.aux ∧
    (State.handoverNow s).eng = s.eng ∧
    (State.handoverNow s).slices = s.slices ∧
    (State.handoverNow s).cp = s.cp ∧
    (State.handoverNow s).canPub = s.canPub ∧
    (State.handoverNow s).eth = s.eth ∧
    (State.handoverNow s).tio = s.tio := by
  have k1 := @State.abortHandover_frame
  have k2 := @State.post_frame
  have k3 := @State.setRole_frame
  have k4 := @State.ite_frame
  unfold State.handoverNow
  dsimp only
  repeat' (first | (simp [k1, k2, k3, k4]; done) | split)

end Sys2Proof.Machine
end

