-- ==== Sys2Proof/Laws/Engine.lean ====
section
/-!
SUPPORT. What each operation of Machine/Engine.lean leaves as it was: the parts of State that it cannot change.
-/

namespace Sys2Proof.Machine

open Sys2Proof

theorem State.holdSignals_frame (s : State) (a1 : Nat) :
    (State.holdSignals s a1).pending = s.pending ∧
    (State.holdSignals s a1).time = s.time ∧
    (State.holdSignals s a1).tick = s.tick ∧
    (State.holdSignals s a1).free = s.free ∧
    (State.holdSignals s a1).tl = s.tl ∧
    (State.holdSignals s a1).mu = s.mu ∧
    (State.holdSignals s a1).hk = s.hk ∧
    (State.holdSignals s a1).log = s.log ∧
    (State.holdSignals s a1).seqs = s.seqs ∧
    (State.holdSignals s a1).host = s.host ∧
    (State.holdSignals s a1).dict = s.dict ∧
    (State.holdSignals s a1).mclk = s.mclk ∧
    (State.holdSignals s a1).sd = s.sd ∧
    (State.holdSignals s a1).aux = s.aux ∧
    (State.holdSignals s a1).enc = s.enc ∧
    (State.holdSignals s a1).slices = s.slices ∧
    (State.holdSignals s a1).gl = s.gl ∧
    (State.holdSignals s a1).ref = s.ref ∧
    (State.holdSignals s a1).cp = s.cp ∧
    (State.holdSignals s a1).flk = s.flk ∧
    (State.holdSignals s a1).ring = s.ring ∧
    (State.holdSignals s a1).can = s.can ∧
    (State.holdSignals s a1).canPub = s.canPub ∧
    (State.holdSignals s a1).eth = s.eth ∧
    (State.holdSignals s a1).tio = s.tio ∧
    (State.holdSignals s a1).dia = s.dia := by
  unfold State.holdSignals
  simp

theorem State.setBusy_frame (s : State) (a1 : Nat) (a2 : Option (Nat × Stamp)) :
    (State.setBusy s a1 a2).pending = s.pending ∧
    (State.setBusy s a1 a2).time = s.time ∧
    (State.setBusy s a1 a2).tick = s.tick ∧
    (State.setBusy s a1 a2).free = s.free ∧
    (State.setBusy s a1 a2).tl = s.tl ∧
    (State.setBusy s a1 a2).mu = s.mu ∧
    (State.setBusy s a1 a2).hk = s.hk ∧
    (State.setBusy s a1 a2).log = s.log ∧
    (State.setBusy s a1 a2).seqs = s.seqs ∧
    (State.setBusy s a1 a2).host = s.host ∧
    (State.setBusy s a1 a2).dict = s.dict ∧
    (State.setBusy s a1 a2).mclk = s.mclk ∧
    (State.setBusy s a1 a2).sd = s.sd ∧
    (State.setBusy s a1 a2).aux = s.aux ∧
    (State.setBusy s a1 a2).enc = s.enc ∧
    (State.setBusy s a1 a2).slices = s.slices ∧
    (State.setBusy s a1 a2).gl = s.gl ∧
    (State.setBusy s a1 a2).ref = s.ref ∧
    (State.setBusy s a1 a2).cp = s.cp ∧
    (State.setBusy s a1 a2).flk = s.flk ∧
    (State.setBusy s a1 a2).ring = s.ring ∧
    (State.setBusy s a1 a2).can = s.can ∧
    (State.setBusy s a1 a2).canPub = s.canPub ∧
    (State.setBusy s a1 a2).eth = s.eth ∧
    (State.setBusy s a1 a2).tio = s.tio ∧
    (State.setBusy s a1 a2).dia = s.dia := by
  unfold State.setBusy
  simp

theorem State.freeUnits_frame (s : State) (a1 : Nat) :
    (State.freeUnits s a1).pending = s.pending ∧
    (State.freeUnits s a1).time = s.time ∧
    (State.freeUnits s a1).tick = s.tick ∧
    (State.freeUnits s a1).free = s.free ∧
    (State.freeUnits s a1).tl = s.tl ∧
    (State.freeUnits s a1).mu = s.mu ∧
    (State.freeUnits s a1).hk = s.hk ∧
    (State.freeUnits s a1).log = s.log ∧
    (State.freeUnits s a1).seqs = s.seqs ∧
    (State.freeUnits s a1).host = s.host ∧
    (State.freeUnits s a1).dict = s.dict ∧
    (State.freeUnits s a1).mclk = s.mclk ∧
    (State.freeUnits s a1).sd = s.sd ∧
    (State.freeUnits s a1).aux = s.aux ∧
    (State.freeUnits s a1).enc = s.enc ∧
    (State.freeUnits s a1).slices = s.slices ∧
    (State.freeUnits s a1).gl = s.gl ∧
    (State.freeUnits s a1).ref = s.ref ∧
    (State.freeUnits s a1).cp = s.cp ∧
    (State.freeUnits s a1).flk = s.flk ∧
    (State.freeUnits s a1).ring = s.ring ∧
    (State.freeUnits s a1).can = s.can ∧
    (State.freeUnits s a1).canPub = s.canPub ∧
    (State.freeUnits s a1).eth = s.eth ∧
    (State.freeUnits s a1).tio = s.tio ∧
    (State.freeUnits s a1).dia = s.dia := by
  unfold State.freeUnits
  simp

theorem State.ctxReact_frame (s : State) (a1 : Nat) :
    (State.ctxReact s a1).pending = s.pending ∧
    (State.ctxReact s a1).time = s.time ∧
    (State.ctxReact s a1).tick = s.tick ∧
    (State.ctxReact s a1).free = s.free ∧
    (State.ctxReact s a1).tl = s.tl ∧
    (State.ctxReact s a1).mu = s.mu ∧
    (State.ctxReact s a1).hk = s.hk ∧
    (State.ctxReact s a1).host = s.host ∧
    (State.ctxReact s a1).mclk = s.mclk ∧
    (State.ctxReact s a1).sd = s.sd ∧
    (State.ctxReact s a1).aux = s.aux ∧
    (State.ctxReact s a1).enc = s.enc ∧
    (State.ctxReact s a1).eng = s.eng ∧
    (State.ctxReact s a1).gl = s.gl ∧
    (State.ctxReact s a1).ref = s.ref ∧
    (State.ctxReact s a1).cp = s.cp ∧
    (State.ctxReact s a1).flk = s.flk ∧
    (State.ctxReact s a1).ring = s.ring ∧
    (State.ctxReact s a1).can = s.can ∧
    (State.ctxReact s a1).canPub = s.canPub ∧
    (State.ctxReact s a1).eth = s.eth ∧
    (State.ctxReact s a1).tio = s.tio := by
  have k1 := @State.lossReact_frame
  have k2 := @State.stop_frame
  have k3 := @State.ite_frame
  unfold State.ctxReact
  simp [k1, k2, k3]

theorem State.ctxFault_frame (s : State) (a1 : Nat) (a2 : Nat) :
    (State.ctxFault s a1 a2).pending = s.pending ∧
    (State.ctxFault s a1 a2).time = s.time ∧
    (State.ctxFault s a1 a2).tick = s.tick ∧
    (State.ctxFault s a1 a2).free = s.free ∧
    (State.ctxFault s a1 a2).tl = s.tl ∧
    (State.ctxFault s a1 a2).mu = s.mu ∧
    (State.ctxFault s a1 a2).hk = s.hk ∧
    (State.ctxFault s a1 a2).host = s.host ∧
    (State.ctxFault s a1 a2).mclk = s.mclk ∧
    (State.ctxFault s a1 a2).sd = s.sd ∧
    (State.ctxFault s a1 a2).aux = s.aux ∧
    (State.ctxFault s a1 a2).enc = s.enc ∧
    (State.ctxFault s a1 a2).gl = s.gl ∧
    (State.ctxFault s a1 a2).ref = s.ref ∧
    (State.ctxFault s a1 a2).cp = s.cp ∧
    (State.ctxFault s a1 a2).flk = s.flk ∧
    (State.ctxFault s a1 a2).ring = s.ring ∧
    (State.ctxFault s a1 a2).can = s.can ∧
    (State.ctxFault s a1 a2).canPub = s.canPub ∧
    (State.ctxFault s a1 a2).eth = s.eth ∧
    (State.ctxFault s a1 a2).tio = s.tio := by
  have k1 := @State.ctxReact_frame
  have k2 := @State.freeUnits_frame
  have k3 := @State.post_frame
  have k4 := @State.ite_frame
  unfold State.ctxFault
  simp [k1, k2, k3, k4]

theorem State.overrun_frame (s : State) (a1 : Nat) (a2 : Stamp) :
    (State.overrun s a1 a2).pending = s.pending ∧
    (State.overrun s a1 a2).time = s.time ∧
    (State.overrun s a1 a2).tick = s.tick ∧
    (State.overrun s a1 a2).free = s.free ∧
    (State.overrun s a1 a2).tl = s.tl ∧
    (State.overrun s a1 a2).mu = s.mu ∧
    (State.overrun s a1 a2).hk = s.hk ∧
    (State.overrun s a1 a2).host = s.host ∧
    (State.overrun s a1 a2).mclk = s.mclk ∧
    (State.overrun s a1 a2).sd = s.sd ∧
    (State.overrun s a1 a2).aux = s.aux ∧
    (State.overrun s a1 a2).enc = s.enc ∧
    (State.overrun s a1 a2).gl = s.gl ∧
    (State.overrun s a1 a2).ref = s.ref ∧
    (State.overrun s a1 a2).cp = s.cp ∧
    (State.overrun s a1 a2).flk = s.flk ∧
    (State.overrun s a1 a2).ring = s.ring ∧
    (State.overrun s a1 a2).can = s.can ∧
    (State.overrun s a1 a2).canPub = s.canPub ∧
    (State.overrun s a1 a2).eth = s.eth ∧
    (State.overrun s a1 a2).tio = s.tio := by
  have k1 := @State.ctxFault_frame
  have k2 := @State.ite_frame
  unfold State.overrun
  simp [k1, k2]

theorem State.torqueToCurrent_frame (s : State) (a1 : Nat) :
    (State.torqueToCurrent s a1).pending = s.pending ∧
    (State.torqueToCurrent s a1).time = s.time ∧
    (State.torqueToCurrent s a1).tick = s.tick ∧
    (State.torqueToCurrent s a1).free = s.free ∧
    (State.torqueToCurrent s a1).tl = s.tl ∧
    (State.torqueToCurrent s a1).mu = s.mu ∧
    (State.torqueToCurrent s a1).hk = s.hk ∧
    (State.torqueToCurrent s a1).log = s.log ∧
    (State.torqueToCurrent s a1).seqs = s.seqs ∧
    (State.torqueToCurrent s a1).host = s.host ∧
    (State.torqueToCurrent s a1).mclk = s.mclk ∧
    (State.torqueToCurrent s a1).sd = s.sd ∧
    (State.torqueToCurrent s a1).aux = s.aux ∧
    (State.torqueToCurrent s a1).enc = s.enc ∧
    (State.torqueToCurrent s a1).eng = s.eng ∧
    (State.torqueToCurrent s a1).gl = s.gl ∧
    (State.torqueToCurrent s a1).ref = s.ref ∧
    (State.torqueToCurrent s a1).cp = s.cp ∧
    (State.torqueToCurrent s a1).flk = s.flk ∧
    (State.torqueToCurrent s a1).ring = s.ring ∧
    (State.torqueToCurrent s a1).can = s.can ∧
    (State.torqueToCurrent s a1).canPub = s.canPub ∧
    (State.torqueToCurrent s a1).eth = s.eth ∧
    (State.torqueToCurrent s a1).tio = s.tio ∧
    (State.torqueToCurrent s a1).dia = s.dia := by
  unfold State.torqueToCurrent
  simp

theorem State.groupDecide_frame (s : State) (a1 : Nat) :
    (State.groupDecide s a1).pending = s.pending ∧
    (State.groupDecide s a1).time = s.time ∧
    (State.groupDecide s a1).tick = s.tick ∧
    (State.groupDecide s a1).free = s.free ∧
    (State.groupDecide s a1).tl = s.tl ∧
    (State.groupDecide s a1).mu = s.mu ∧
    (State.groupDecide s a1).hk = s.hk ∧
    (State.groupDecide s a1).log = s.log ∧
    (State.groupDecide s a1).seqs = s.seqs ∧
    (State.groupDecide s a1).host = s.host ∧
    (State.groupDecide s a1).mclk = s.mclk ∧
    (State.groupDecide s a1).sd = s.sd ∧
    (State.groupDecide s a1).aux = s.aux ∧
    (State.groupDecide s a1).enc = s.enc ∧
    (State.groupDecide s a1).gl = s.gl ∧
    (State.groupDecide s a1).ref = s.ref ∧
    (State.groupDecide s a1).cp = s.cp ∧
    (State.groupDecide s a1).flk = s.flk ∧
    (State.groupDecide s a1).ring = s.ring ∧
    (State.groupDecide s a1).can = s.can ∧
    (State.groupDecide s a1).canPub = s.canPub ∧
    (State.groupDecide s a1).eth = s.eth ∧
    (State.groupDecide s a1).tio = s.tio ∧
    (State.groupDecide s a1).dia = s.dia := by
  have k1 := @State.holdSignals_frame
  have k2 := @State.torqueToCurrent_frame
  have k3 := @State.ite_frame
  unfold State.groupDecide
  dsimp only
  repeat' (first | (simp [k1, k2, k3]; done) | split)

theorem State.putRepeat_frame (s : State) (a1 : Nat) (a2 : Stamp) (a3 : Bool) (a4 : Bool) :
    (State.putRepeat s a1 a2 a3 a4).pending = s.pending ∧
    (State.putRepeat s a1 a2 a3 a4).time = s.time ∧
    (State.putRepeat s a1 a2 a3 a4).tick = s.tick ∧
    (State.putRepeat s a1 a2 a3 a4).free = s.free ∧
    (State.putRepeat s a1 a2 a3 a4).tl = s.tl ∧
    (State.putRepeat s a1 a2 a3 a4).mu = s.mu ∧
    (State.putRepeat s a1 a2 a3 a4).hk = s.hk ∧
    (State.putRepeat s a1 a2 a3 a4).log = s.log ∧
    (State.putRepeat s a1 a2 a3 a4).seqs = s.seqs ∧
    (State.putRepeat s a1 a2 a3 a4).host = s.host ∧
    (State.putRepeat s a1 a2 a3 a4).dict = s.dict ∧
    (State.putRepeat s a1 a2 a3 a4).mclk = s.mclk ∧
    (State.putRepeat s a1 a2 a3 a4).sd = s.sd ∧
    (State.putRepeat s a1 a2 a3 a4).aux = s.aux ∧
    (State.putRepeat s a1 a2 a3 a4).enc = s.enc ∧
    (State.putRepeat s a1 a2 a3 a4).slices = s.slices ∧
    (State.putRepeat s a1 a2 a3 a4).gl = s.gl ∧
    (State.putRepeat s a1 a2 a3 a4).ref = s.ref ∧
    (State.putRepeat s a1 a2 a3 a4).cp = s.cp ∧
    (State.putRepeat s a1 a2 a3 a4).flk = s.flk ∧
    (State.putRepeat s a1 a2 a3 a4).ring = s.ring ∧
    (State.putRepeat s a1 a2 a3 a4).can = s.can ∧
    (State.putRepeat s a1 a2 a3 a4).canPub = s.canPub ∧
    (State.putRepeat s a1 a2 a3 a4).eth = s.eth ∧
    (State.putRepeat s a1 a2 a3 a4).tio = s.tio ∧
    (State.putRepeat s a1 a2 a3 a4).dia = s.dia := by
  unfold State.putRepeat
  simp

theorem State.evalHeld_frame (s : State) (a1 : Nat) (a2 : Eval) :
    (State.evalHeld s a1 a2).pending = s.pending ∧
    (State.evalHeld s a1 a2).time = s.time ∧
    (State.evalHeld s a1 a2).tick = s.tick ∧
    (State.evalHeld s a1 a2).free = s.free ∧
    (State.evalHeld s a1 a2).tl = s.tl ∧
    (State.evalHeld s a1 a2).mu = s.mu ∧
    (State.evalHeld s a1 a2).hk = s.hk ∧
    (State.evalHeld s a1 a2).host = s.host ∧
    (State.evalHeld s a1 a2).mclk = s.mclk ∧
    (State.evalHeld s a1 a2).sd = s.sd ∧
    (State.evalHeld s a1 a2).aux = s.aux ∧
    (State.evalHeld s a1 a2).enc = s.enc ∧
    (State.evalHeld s a1 a2).gl = s.gl ∧
    (State.evalHeld s a1 a2).ref = s.ref ∧
    (State.evalHeld s a1 a2).cp = s.cp ∧
    (State.evalHeld s a1 a2).flk = s.flk ∧
    (State.evalHeld s a1 a2).ring = s.ring ∧
    (State.evalHeld s a1 a2).can = s.can ∧
    (State.evalHeld s a1 a2).canPub = s.canPub ∧
    (State.evalHeld s a1 a2).eth = s.eth ∧
    (State.evalHeld s a1 a2).tio = s.tio := by
  have k1 := @State.ctxFault_frame
  have k2 := @State.ite_frame
  unfold State.evalHeld
  rcases a2.result with _ | ⟨_, xn, zn, lim, stp⟩ <;> simp [k1, k2]

theorem State.takeReady_frame (s : State) (a1 : Nat) :
    (State.takeReady s a1).pending = s.pending ∧
    (State.takeReady s a1).time = s.time ∧
    (State.takeReady s a1).tick = s.tick ∧
    (State.takeReady s a1).free = s.free ∧
    (State.takeReady s a1).tl = s.tl ∧
    (State.takeReady s a1).mu = s.mu ∧
    (State.takeReady s a1).hk = s.hk ∧
    (State.takeReady s a1).host = s.host ∧
    (State.takeReady s a1).mclk = s.mclk ∧
    (State.takeReady s a1).sd = s.sd ∧
    (State.takeReady s a1).aux = s.aux ∧
    (State.takeReady s a1).enc = s.enc ∧
    (State.takeReady s a1).gl = s.gl ∧
    (State.takeReady s a1).ref = s.ref ∧
    (State.takeReady s a1).cp = s.cp ∧
    (State.takeReady s a1).flk = s.flk ∧
    (State.takeReady s a1).ring = s.ring ∧
    (State.takeReady s a1).can = s.can ∧
    (State.takeReady s a1).canPub = s.canPub ∧
    (State.takeReady s a1).eth = s.eth ∧
    (State.takeReady s a1).tio = s.tio := by
  have k1 := @State.evalHeld_frame
  have k2 := @State.ite_frame
  unfold State.takeReady
  dsimp only
  repeat' (first | (simp [k1, k2]; done) | split)

theorem State.trigger_frame (s : State) (a1 : Nat) (a2 : Stamp) :
    (State.trigger s a1 a2).pending = s.pending ∧
    (State.trigger s a1 a2).time = s.time ∧
    (State.trigger s a1 a2).tick = s.tick ∧
    (State.trigger s a1 a2).free = s.free ∧
    (State.trigger s a1 a2).tl = s.tl ∧
    (State.trigger s a1 a2).mu = s.mu ∧
    (State.trigger s a1 a2).hk = s.hk ∧
    (State.trigger s a1 a2).host = s.host ∧
    (State.trigger s a1 a2).mclk = s.mclk ∧
    (State.trigger s a1 a2).sd = s.sd ∧
    (State.trigger s a1 a2).aux = s.aux ∧
    (State.trigger s a1 a2).enc = s.enc ∧
    (State.trigger s a1 a2).gl = s.gl ∧
    (State.trigger s a1 a2).ref = s.ref ∧
    (State.trigger s a1 a2).cp = s.cp ∧
    (State.trigger s a1 a2).flk = s.flk ∧
    (State.trigger s a1 a2).ring = s.ring ∧
    (State.trigger s a1 a2).can = s.can ∧
    (State.trigger s a1 a2).canPub = s.canPub ∧
    (State.trigger s a1 a2).eth = s.eth ∧
    (State.trigger s a1 a2).tio = s.tio := by
  have k1 := @State.overrun_frame
  have k2 := @State.putRepeat_frame
  have k3 := @State.takeReady_frame
  have k4 := @State.ite_frame
  unfold State.trigger
  simp [k1, k2, k3, k4]

theorem State.deliverOut_frame (s : State) (a1 : Write) :
    (State.deliverOut s a1).pending = s.pending ∧
    (State.deliverOut s a1).time = s.time ∧
    (State.deliverOut s a1).tick = s.tick ∧
    (State.deliverOut s a1).free = s.free ∧
    (State.deliverOut s a1).tl = s.tl ∧
    (State.deliverOut s a1).mu = s.mu ∧
    (State.deliverOut s a1).hk = s.hk ∧
    (State.deliverOut s a1).log = s.log ∧
    (State.deliverOut s a1).seqs = s.seqs ∧
    (State.deliverOut s a1).host = s.host ∧
    (State.deliverOut s a1).dict = s.dict ∧
    (State.deliverOut s a1).mclk = s.mclk ∧
    (State.deliverOut s a1).sd = s.sd ∧
    (State.deliverOut s a1).aux = s.aux ∧
    (State.deliverOut s a1).enc = s.enc ∧
    (State.deliverOut s a1).gl = s.gl ∧
    (State.deliverOut s a1).ref = s.ref ∧
    (State.deliverOut s a1).cp = s.cp ∧
    (State.deliverOut s a1).flk = s.flk ∧
    (State.deliverOut s a1).ring = s.ring ∧
    (State.deliverOut s a1).can = s.can ∧
    (State.deliverOut s a1).canPub = s.canPub ∧
    (State.deliverOut s a1).eth = s.eth ∧
    (State.deliverOut s a1).tio = s.tio ∧
    (State.deliverOut s a1).dia = s.dia := by
  unfold State.deliverOut
  simp

theorem State.evalRecord_frame (s : State) (a1 : Write) :
    (State.evalRecord s a1).pending = s.pending ∧
    (State.evalRecord s a1).time = s.time ∧
    (State.evalRecord s a1).tick = s.tick ∧
    (State.evalRecord s a1).free = s.free ∧
    (State.evalRecord s a1).tl = s.tl ∧
    (State.evalRecord s a1).mu = s.mu ∧
    (State.evalRecord s a1).hk = s.hk ∧
    (State.evalRecord s a1).log = s.log ∧
    (State.evalRecord s a1).host = s.host ∧
    (State.evalRecord s a1).dict = s.dict ∧
    (State.evalRecord s a1).mclk = s.mclk ∧
    (State.evalRecord s a1).sd = s.sd ∧
    (State.evalRecord s a1).aux = s.aux ∧
    (State.evalRecord s a1).enc = s.enc ∧
    (State.evalRecord s a1).eng = s.eng ∧
    (State.evalRecord s a1).slices = s.slices ∧
    (State.evalRecord s a1).gl = s.gl ∧
    (State.evalRecord s a1).ref = s.ref ∧
    (State.evalRecord s a1).cp = s.cp ∧
    (State.evalRecord s a1).flk = s.flk ∧
    (State.evalRecord s a1).ring = s.ring ∧
    (State.evalRecord s a1).can = s.can ∧
    (State.evalRecord s a1).canPub = s.canPub ∧
    (State.evalRecord s a1).eth = s.eth ∧
    (State.evalRecord s a1).tio = s.tio := by
  have k1 := @State.record_frame
  unfold State.evalRecord
  simp [k1]

theorem State.chainFrom_frame (s : State) (a1 : Nat) :
    (State.chainFrom s a1).pending = s.pending ∧
    (State.chainFrom s a1).time = s.time ∧
    (State.chainFrom s a1).tick = s.tick ∧
    (State.chainFrom s a1).free = s.free ∧
    (State.chainFrom s a1).tl = s.tl ∧
    (State.chainFrom s a1).mu = s.mu ∧
    (State.chainFrom s a1).hk = s.hk ∧
    (State.chainFrom s a1).host = s.host ∧
    (State.chainFrom s a1).mclk = s.mclk ∧
    (State.chainFrom s a1).sd = s.sd ∧
    (State.chainFrom s a1).aux = s.aux ∧
    (State.chainFrom s a1).enc = s.enc ∧
    (State.chainFrom s a1).gl = s.gl ∧
    (State.chainFrom s a1).ref = s.ref ∧
    (State.chainFrom s a1).cp = s.cp ∧
    (State.chainFrom s a1).flk = s.flk ∧
    (State.chainFrom s a1).ring = s.ring ∧
    (State.chainFrom s a1).can = s.can ∧
    (State.chainFrom s a1).canPub = s.canPub ∧
    (State.chainFrom s a1).eth = s.eth ∧
    (State.chainFrom s a1).tio = s.tio := by
  have k1 := @State.trigger_frame
  have k2 := @State.ite_frame
  unfold State.chainFrom
  simp [k1, k2]

theorem State.engageCheck_frame (s : State) (a1 : Nat) :
    (State.engageCheck s a1).pending = s.pending ∧
    (State.engageCheck s a1).time = s.time ∧
    (State.engageCheck s a1).tick = s.tick ∧
    (State.engageCheck s a1).free = s.free ∧
    (State.engageCheck s a1).tl = s.tl ∧
    (State.engageCheck s a1).mu = s.mu ∧
    (State.engageCheck s a1).hk = s.hk ∧
    (State.engageCheck s a1).host = s.host ∧
    (State.engageCheck s a1).mclk = s.mclk ∧
    (State.engageCheck s a1).sd = s.sd ∧
    (State.engageCheck s a1).aux = s.aux ∧
    (State.engageCheck s a1).enc = s.enc ∧
    (State.engageCheck s a1).eng = s.eng ∧
    (State.engageCheck s a1).gl = s.gl ∧
    (State.engageCheck s a1).ref = s.ref ∧
    (State.engageCheck s a1).cp = s.cp ∧
    (State.engageCheck s a1).flk = s.flk ∧
    (State.engageCheck s a1).ring = s.ring ∧
    (State.engageCheck s a1).can = s.can ∧
    (State.engageCheck s a1).canPub = s.canPub ∧
    (State.engageCheck s a1).eth = s.eth ∧
    (State.engageCheck s a1).tio = s.tio := by
  have k1 := @State.go_frame
  have k2 := @State.post_frame
  have k3 := @State.ite_frame
  unfold State.engageCheck
  simp [k1, k2, k3]

theorem State.writeAll_frame (s : State) (a1 : Nat) (a2 : List Write) :
    (State.writeAll s a1 a2).pending = s.pending ∧
    (State.writeAll s a1 a2).time = s.time ∧
    (State.writeAll s a1 a2).tick = s.tick ∧
    (State.writeAll s a1 a2).free = s.free ∧
    (State.writeAll s a1 a2).tl = s.tl ∧
    (State.writeAll s a1 a2).mu = s.mu ∧
    (State.writeAll s a1 a2).hk = s.hk ∧
    (State.writeAll s a1 a2).host = s.host ∧
    (State.writeAll s a1 a2).mclk = s.mclk ∧
    (State.writeAll s a1 a2).sd = s.sd ∧
    (State.writeAll s a1 a2).aux = s.aux ∧
    (State.writeAll s a1 a2).enc = s.enc ∧
    (State.writeAll s a1 a2).gl = s.gl ∧
    (State.writeAll s a1 a2).ref = s.ref ∧
    (State.writeAll s a1 a2).cp = s.cp ∧
    (State.writeAll s a1 a2).flk = s.flk ∧
    (State.writeAll s a1 a2).ring = s.ring ∧
    (State.writeAll s a1 a2).can = s.can ∧
    (State.writeAll s a1 a2).canPub = s.canPub ∧
    (State.writeAll s a1 a2).eth = s.eth ∧
    (State.writeAll s a1 a2).tio = s.tio := by
  have k1 := @State.chainFrom_frame
  have k2 := @State.deliverOut_frame
  have k3 := @State.engageCheck_frame
  have k4 := @State.evalRecord_frame
  have k5 := @State.groupDecide_frame
  have k6 := @State.ite_frame
  unfold State.writeAll
  simp [k1, k2, k3, k4, k5, k6]

theorem State.takeRepeats_frame (s : State) (a1 : Nat) :
    (State.takeRepeats s a1).1.pending = s.pending ∧
    (State.takeRepeats s a1).1.time = s.time ∧
    (State.takeRepeats s a1).1.tick = s.tick ∧
    (State.takeRepeats s a1).1.free = s.free ∧
    (State.takeRepeats s a1).1.tl = s.tl ∧
    (State.takeRepeats s a1).1.mu = s.mu ∧
    (State.takeRepeats s a1).1.hk = s.hk ∧
    (State.takeRepeats s a1).1.log = s.log ∧
    (State.takeRepeats s a1).1.seqs = s.seqs ∧
    (State.takeRepeats s a1).1.host = s.host ∧
    (State.takeRepeats s a1).1.dict = s.dict ∧
    (State.takeRepeats s a1).1.mclk = s.mclk ∧
    (State.takeRepeats s a1).1.sd = s.sd ∧
    (State.takeRepeats s a1).1.aux = s.aux ∧
    (State.takeRepeats s a1).1.enc = s.enc ∧
    (State.takeRepeats s a1).1.slices = s.slices ∧
    (State.takeRepeats s a1).1.gl = s.gl ∧
    (State.takeRepeats s a1).1.ref = s.ref ∧
    (State.takeRepeats s a1).1.cp = s.cp ∧
    (State.takeRepeats s a1).1.flk = s.flk ∧
    (State.takeRepeats s a1).1.ring = s.ring ∧
    (State.takeRepeats s a1).1.can = s.can ∧
    (State.takeRepeats s a1).1.canPub = s.canPub ∧
    (State.takeRepeats s a1).1.eth = s.eth ∧
    (State.takeRepeats s a1).1.tio = s.tio ∧
    (State.takeRepeats s a1).1.dia = s.dia := by
  unfold State.takeRepeats
  simp

theorem State.takeOutput_frame (s : State) (a1 : Nat) :
    (State.takeOutput s a1).1.pending = s.pending ∧
    (State.takeOutput s a1).1.time = s.time ∧
    (State.takeOutput s a1).1.tick = s.tick ∧
    (State.takeOutput s a1).1.free = s.free ∧
    (State.takeOutput s a1).1.tl = s.tl ∧
    (State.takeOutput s a1).1.mu = s.mu ∧
    (State.takeOutput s a1).1.hk = s.hk ∧
    (State.takeOutput s a1).1.host = s.host ∧
    (State.takeOutput s a1).1.mclk = s.mclk ∧
    (State.takeOutput s a1).1.sd = s.sd ∧
    (State.takeOutput s a1).1.aux = s.aux ∧
    (State.takeOutput s a1).1.enc = s.enc ∧
    (State.takeOutput s a1).1.gl = s.gl ∧
    (State.takeOutput s a1).1.ref = s.ref ∧
    (State.takeOutput s a1).1.cp = s.cp ∧
    (State.takeOutput s a1).1.flk = s.flk ∧
    (State.takeOutput s a1).1.ring = s.ring ∧
    (State.takeOutput s a1).1.can = s.can ∧
    (State.takeOutput s a1).1.canPub = s.canPub ∧
    (State.takeOutput s a1).1.eth = s.eth ∧
    (State.takeOutput s a1).1.tio = s.tio := by
  have k1 := @State.evalHeld_frame
  have k2 := @State.freeUnits_frame
  have k3 := @State.overrun_frame
  have k4 := @State.takeReady_frame
  have k5 := @State.ite_frame
  unfold State.takeOutput
  dsimp only
  repeat' (first | (simp [k1, k2, k3, k4, k5]; done) | split)

theorem State.takeWrites_frame (s : State) (a1 : Nat) :
    (State.takeWrites s a1).1.pending = s.pending ∧
    (State.takeWrites s a1).1.time = s.time ∧
    (State.takeWrites s a1).1.tick = s.tick ∧
    (State.takeWrites s a1).1.free = s.free ∧
    (State.takeWrites s a1).1.tl = s.tl ∧
    (State.takeWrites s a1).1.mu = s.mu ∧
    (State.takeWrites s a1).1.hk = s.hk ∧
    (State.takeWrites s a1).1.host = s.host ∧
    (State.takeWrites s a1).1.mclk = s.mclk ∧
    (State.takeWrites s a1).1.sd = s.sd ∧
    (State.takeWrites s a1).1.aux = s.aux ∧
    (State.takeWrites s a1).1.enc = s.enc ∧
    (State.takeWrites s a1).1.gl = s.gl ∧
    (State.takeWrites s a1).1.ref = s.ref ∧
    (State.takeWrites s a1).1.cp = s.cp ∧
    (State.takeWrites s a1).1.flk = s.flk ∧
    (State.takeWrites s a1).1.ring = s.ring ∧
    (State.takeWrites s a1).1.can = s.can ∧
    (State.takeWrites s a1).1.canPub = s.canPub ∧
    (State.takeWrites s a1).1.eth = s.eth ∧
    (State.takeWrites s a1).1.tio = s.tio := by
  have k1 := @State.takeOutput_frame
  have k2 := @State.takeRepeats_frame
  unfold State.takeWrites
  dsimp only
  simp [k1, k2]

theorem State.takeAll_frame (a0 : List Nat) (s : State) :
    (State.takeAll a0 s).1.pending = s.pending ∧
    (State.takeAll a0 s).1.time = s.time ∧
    (State.takeAll a0 s).1.tick = s.tick ∧
    (State.takeAll a0 s).1.free = s.free ∧
    (State.takeAll a0 s).1.tl = s.tl ∧
    (State.takeAll a0 s).1.mu = s.mu ∧
    (State.takeAll a0 s).1.hk = s.hk ∧
    (State.takeAll a0 s).1.host = s.host ∧
    (State.takeAll a0 s).1.mclk = s.mclk ∧
    (State.takeAll a0 s).1.sd = s.sd ∧
    (State.takeAll a0 s).1.aux = s.aux ∧
    (State.takeAll a0 s).1.enc = s.enc ∧
    (State.takeAll a0 s).1.gl = s.gl ∧
    (State.takeAll a0 s).1.ref = s.ref ∧
    (State.takeAll a0 s).1.cp = s.cp ∧
    (State.takeAll a0 s).1.flk = s.flk ∧
    (State.takeAll a0 s).1.ring = s.ring ∧
    (State.takeAll a0 s).1.can = s.can ∧
    (State.takeAll a0 s).1.canPub = s.canPub ∧
    (State.takeAll a0 s).1.eth = s.eth ∧
    (State.takeAll a0 s).1.tio = s.tio := by
  have k1 := @State.takeWrites_frame
  induction a0 generalizing s with
  | nil => simp [State.takeAll]
  | cons a l ih => simp [State.takeAll, ih, k1]

theorem State.outputsWith_frame (s : State) (a1 : Nat) :
    (State.outputsWith s a1).pending = s.pending ∧
    (State.outputsWith s a1).time = s.time ∧
    (State.outputsWith s a1).tick = s.tick ∧
    (State.outputsWith s a1).free = s.free ∧
    (State.outputsWith s a1).tl = s.tl ∧
    (State.outputsWith s a1).mu = s.mu ∧
    (State.outputsWith s a1).hk = s.hk ∧
    (State.outputsWith s a1).host = s.host ∧
    (State.outputsWith s a1).mclk = s.mclk ∧
    (State.outputsWith s a1).sd = s.sd ∧
    (State.outputsWith s a1).aux = s.aux ∧
    (State.outputsWith s a1).enc = s.enc ∧
    (State.outputsWith s a1).gl = s.gl ∧
    (State.outputsWith s a1).ref = s.ref ∧
    (State.outputsWith s a1).cp = s.cp ∧
    (State.outputsWith s a1).flk = s.flk ∧
    (State.outputsWith s a1).ring = s.ring ∧
    (State.outputsWith s a1).can = s.can ∧
    (State.outputsWith s a1).canPub = s.canPub ∧
    (State.outputsWith s a1).eth = s.eth ∧
    (State.outputsWith s a1).tio = s.tio := by
  have k1 := @State.takeAll_frame
  have k2 := @State.writeAll_frame
  have k3 := @State.ite_frame
  unfold State.outputsWith
  simp [k1, k2, k3]

theorem effEngOutputWrite_frame (a0 : Fin 64) (s : State) :
    (effEngOutputWrite a0 s).pending = s.pending ∧
    (effEngOutputWrite a0 s).time = s.time ∧
    (effEngOutputWrite a0 s).tick = s.tick ∧
    (effEngOutputWrite a0 s).free = s.free ∧
    (effEngOutputWrite a0 s).tl = s.tl ∧
    (effEngOutputWrite a0 s).mu = s.mu ∧
    (effEngOutputWrite a0 s).hk = s.hk ∧
    (effEngOutputWrite a0 s).host = s.host ∧
    (effEngOutputWrite a0 s).mclk = s.mclk ∧
    (effEngOutputWrite a0 s).sd = s.sd ∧
    (effEngOutputWrite a0 s).aux = s.aux ∧
    (effEngOutputWrite a0 s).enc = s.enc ∧
    (effEngOutputWrite a0 s).gl = s.gl ∧
    (effEngOutputWrite a0 s).ref = s.ref ∧
    (effEngOutputWrite a0 s).cp = s.cp ∧
    (effEngOutputWrite a0 s).flk = s.flk ∧
    (effEngOutputWrite a0 s).ring = s.ring ∧
    (effEngOutputWrite a0 s).can = s.can ∧
    (effEngOutputWrite a0 s).canPub = s.canPub ∧
    (effEngOutputWrite a0 s).eth = s.eth ∧
    (effEngOutputWrite a0 s).tio = s.tio := by
  have k1 := @State.outputsWith_frame
  unfold effEngOutputWrite
  simp [k1]

theorem State.swapDue_frame (s : State) (a1 : Nat) :
    (State.swapDue s a1).pending = s.pending ∧
    (State.swapDue s a1).time = s.time ∧
    (State.swapDue s a1).tick = s.tick ∧
    (State.swapDue s a1).free = s.free ∧
    (State.swapDue s a1).tl = s.tl ∧
    (State.swapDue s a1).mu = s.mu ∧
    (State.swapDue s a1).hk = s.hk ∧
    (State.swapDue s a1).host = s.host ∧
    (State.swapDue s a1).mclk = s.mclk ∧
    (State.swapDue s a1).sd = s.sd ∧
    (State.swapDue s a1).aux = s.aux ∧
    (State.swapDue s a1).enc = s.enc ∧
    (State.swapDue s a1).slices = s.slices ∧
    (State.swapDue s a1).gl = s.gl ∧
    (State.swapDue s a1).ref = s.ref ∧
    (State.swapDue s a1).cp = s.cp ∧
    (State.swapDue s a1).flk = s.flk ∧
    (State.swapDue s a1).ring = s.ring ∧
    (State.swapDue s a1).can = s.can ∧
    (State.swapDue s a1).canPub = s.canPub ∧
    (State.swapDue s a1).eth = s.eth ∧
    (State.swapDue s a1).tio = s.tio := by
  have k1 := @State.keep_frame
  have k2 := @State.post_frame
  have k3 := @State.ite_frame
  unfold State.swapDue
  dsimp only
  repeat' (first | (simp [k1, k2, k3]; done) | split)

theorem effEngReleaseSwap_frame (a0 : Fin 64) (s : State) :
    (effEngReleaseSwap a0 s).pending = s.pending ∧
    (effEngReleaseSwap a0 s).time = s.time ∧
    (effEngReleaseSwap a0 s).tick = s.tick ∧
    (effEngReleaseSwap a0 s).free = s.free ∧
    (effEngReleaseSwap a0 s).tl = s.tl ∧
    (effEngReleaseSwap a0 s).mu = s.mu ∧
    (effEngReleaseSwap a0 s).hk = s.hk ∧
    (effEngReleaseSwap a0 s).host = s.host ∧
    (effEngReleaseSwap a0 s).mclk = s.mclk ∧
    (effEngReleaseSwap a0 s).sd = s.sd ∧
    (effEngReleaseSwap a0 s).aux = s.aux ∧
    (effEngReleaseSwap a0 s).enc = s.enc ∧
    (effEngReleaseSwap a0 s).slices = s.slices ∧
    (effEngReleaseSwap a0 s).gl = s.gl ∧
    (effEngReleaseSwap a0 s).ref = s.ref ∧
    (effEngReleaseSwap a0 s).cp = s.cp ∧
    (effEngReleaseSwap a0 s).flk = s.flk ∧
    (effEngReleaseSwap a0 s).ring = s.ring ∧
    (effEngReleaseSwap a0 s).can = s.can ∧
    (effEngReleaseSwap a0 s).canPub = s.canPub ∧
    (effEngReleaseSwap a0 s).eth = s.eth ∧
    (effEngReleaseSwap a0 s).tio = s.tio := by
  have k1 := @State.swapDue_frame
  have k2 := @State.ite_frame
  unfold effEngReleaseSwap
  repeat' (first | (simp [k1, k2]; done) | split)

theorem State.takeResults_frame (s : State) (a1 : Nat) :
    (State.takeResults s a1).pending = s.pending ∧
    (State.takeResults s a1).time = s.time ∧
    (State.takeResults s a1).tick = s.tick ∧
    (State.takeResults s a1).free = s.free ∧
    (State.takeResults s a1).tl = s.tl ∧
    (State.takeResults s a1).mu = s.mu ∧
    (State.takeResults s a1).hk = s.hk ∧
    (State.takeResults s a1).host = s.host ∧
    (State.takeResults s a1).mclk = s.mclk ∧
    (State.takeResults s a1).sd = s.sd ∧
    (State.takeResults s a1).aux = s.aux ∧
    (State.takeResults s a1).enc = s.enc ∧
    (State.takeResults s a1).gl = s.gl ∧
    (State.takeResults s a1).ref = s.ref ∧
    (State.takeResults s a1).cp = s.cp ∧
    (State.takeResults s a1).flk = s.flk ∧
    (State.takeResults s a1).ring = s.ring ∧
    (State.takeResults s a1).can = s.can ∧
    (State.takeResults s a1).canPub = s.canPub ∧
    (State.takeResults s a1).eth = s.eth ∧
    (State.takeResults s a1).tio = s.tio := by
  have k1 := @State.evalHeld_frame
  have k2 := @State.outputsWith_frame
  have k3 := @State.ite_frame
  unfold State.takeResults
  (repeat' (first | split | simp [k1, k2, k3])) <;> (repeat' apply And.intro) <;> (first | rw [foldl_pending] | rw [foldl_time] | rw [foldl_tick] | rw [foldl_free] | rw [foldl_tl] | rw [foldl_mu] | rw [foldl_hk] | rw [foldl_host] | rw [foldl_mclk] | rw [foldl_sd] | rw [foldl_aux] | rw [foldl_enc] | rw [foldl_gl] | rw [foldl_ref] | rw [foldl_cp] | rw [foldl_flk] | rw [foldl_ring] | rw [foldl_can] | rw [foldl_canPub] | rw [foldl_eth] | rw [foldl_tio] | skip) <;> intros <;> (repeat' (first | split | simp [k1, k2, k3]))

theorem effEngEvalDone_frame (a0 : Fin 2) (s : State) :
    (effEngEvalDone a0 s).pending = s.pending ∧
    (effEngEvalDone a0 s).time = s.time ∧
    (effEngEvalDone a0 s).tick = s.tick ∧
    (effEngEvalDone a0 s).free = s.free ∧
    (effEngEvalDone a0 s).tl = s.tl ∧
    (effEngEvalDone a0 s).mu = s.mu ∧
    (effEngEvalDone a0 s).hk = s.hk ∧
    (effEngEvalDone a0 s).host = s.host ∧
    (effEngEvalDone a0 s).mclk = s.mclk ∧
    (effEngEvalDone a0 s).sd = s.sd ∧
    (effEngEvalDone a0 s).aux = s.aux ∧
    (effEngEvalDone a0 s).enc = s.enc ∧
    (effEngEvalDone a0 s).gl = s.gl ∧
    (effEngEvalDone a0 s).ref = s.ref ∧
    (effEngEvalDone a0 s).cp = s.cp ∧
    (effEngEvalDone a0 s).flk = s.flk ∧
    (effEngEvalDone a0 s).ring = s.ring ∧
    (effEngEvalDone a0 s).can = s.can ∧
    (effEngEvalDone a0 s).canPub = s.canPub ∧
    (effEngEvalDone a0 s).eth = s.eth ∧
    (effEngEvalDone a0 s).tio = s.tio := by
  have k1 := @State.setBusy_frame
  have k2 := @State.takeResults_frame
  have k3 := @State.ite_frame
  unfold effEngEvalDone
  dsimp only
  repeat' (first | (simp [k1, k2, k3]; done) | split)

theorem State.writesFirst_frame (s : State) :
    (State.writesFirst s).pending = s.pending ∧
    (State.writesFirst s).time = s.time ∧
    (State.writesFirst s).tick = s.tick ∧
    (State.writesFirst s).free = s.free ∧
    (State.writesFirst s).tl = s.tl ∧
    (State.writesFirst s).mu = s.mu ∧
    (State.writesFirst s).hk = s.hk ∧
    (State.writesFirst s).host = s.host ∧
    (State.writesFirst s).mclk = s.mclk ∧
    (State.writesFirst s).sd = s.sd ∧
    (State.writesFirst s).aux = s.aux ∧
    (State.writesFirst s).enc = s.enc ∧
    (State.writesFirst s).gl = s.gl ∧
    (State.writesFirst s).ref = s.ref ∧
    (State.writesFirst s).cp = s.cp ∧
    (State.writesFirst s).flk = s.flk ∧
    (State.writesFirst s).ring = s.ring ∧
    (State.writesFirst s).can = s.can ∧
    (State.writesFirst s).canPub = s.canPub ∧
    (State.writesFirst s).eth = s.eth ∧
    (State.writesFirst s).tio = s.tio := by
  have k1 := @State.outputsWith_frame
  have k2 := @State.takeResults_frame
  unfold State.writesFirst
  simp [k1, k2]

theorem State.refetch_frame (s : State) (a1 : Nat) :
    (State.refetch s a1).pending = s.pending ∧
    (State.refetch s a1).time = s.time ∧
    (State.refetch s a1).tick = s.tick ∧
    (State.refetch s a1).free = s.free ∧
    (State.refetch s a1).tl = s.tl ∧
    (State.refetch s a1).mu = s.mu ∧
    (State.refetch s a1).hk = s.hk ∧
    (State.refetch s a1).log = s.log ∧
    (State.refetch s a1).seqs = s.seqs ∧
    (State.refetch s a1).host = s.host ∧
    (State.refetch s a1).dict = s.dict ∧
    (State.refetch s a1).mclk = s.mclk ∧
    (State.refetch s a1).sd = s.sd ∧
    (State.refetch s a1).aux = s.aux ∧
    (State.refetch s a1).enc = s.enc ∧
    (State.refetch s a1).slices = s.slices ∧
    (State.refetch s a1).gl = s.gl ∧
    (State.refetch s a1).ref = s.ref ∧
    (State.refetch s a1).cp = s.cp ∧
    (State.refetch s a1).flk = s.flk ∧
    (State.refetch s a1).ring = s.ring ∧
    (State.refetch s a1).can = s.can ∧
    (State.refetch s a1).canPub = s.canPub ∧
    (State.refetch s a1).eth = s.eth ∧
    (State.refetch s a1).tio = s.tio ∧
    (State.refetch s a1).dia = s.dia := by
  unfold State.refetch
  simp

theorem effEngEvalStart_frame (a0 : Fin 2) (s : State) :
    (effEngEvalStart a0 s).pending = s.pending ∧
    (effEngEvalStart a0 s).time = s.time ∧
    (effEngEvalStart a0 s).tick = s.tick ∧
    (effEngEvalStart a0 s).free = s.free ∧
    (effEngEvalStart a0 s).tl = s.tl ∧
    (effEngEvalStart a0 s).mu = s.mu ∧
    (effEngEvalStart a0 s).hk = s.hk ∧
    (effEngEvalStart a0 s).host = s.host ∧
    (effEngEvalStart a0 s).mclk = s.mclk ∧
    (effEngEvalStart a0 s).sd = s.sd ∧
    (effEngEvalStart a0 s).aux = s.aux ∧
    (effEngEvalStart a0 s).enc = s.enc ∧
    (effEngEvalStart a0 s).gl = s.gl ∧
    (effEngEvalStart a0 s).ref = s.ref ∧
    (effEngEvalStart a0 s).cp = s.cp ∧
    (effEngEvalStart a0 s).flk = s.flk ∧
    (effEngEvalStart a0 s).ring = s.ring ∧
    (effEngEvalStart a0 s).can = s.can ∧
    (effEngEvalStart a0 s).canPub = s.canPub ∧
    (effEngEvalStart a0 s).eth = s.eth ∧
    (effEngEvalStart a0 s).tio = s.tio := by
  have k1 := @State.setBusy_frame
  have k2 := @State.swapDue_frame
  have k3 := @State.writesFirst_frame
  have k4 := @State.ite_frame
  unfold effEngEvalStart
  dsimp only
  repeat' (first | (simp [k1, k2, k3, k4]; done) | split)

theorem State.primeContexts_frame (s : State) (a1 : Nat) :
    (State.primeContexts s a1).pending = s.pending ∧
    (State.primeContexts s a1).time = s.time ∧
    (State.primeContexts s a1).tick = s.tick ∧
    (State.primeContexts s a1).free = s.free ∧
    (State.primeContexts s a1).tl = s.tl ∧
    (State.primeContexts s a1).mu = s.mu ∧
    (State.primeContexts s a1).hk = s.hk ∧
    (State.primeContexts s a1).log = s.log ∧
    (State.primeContexts s a1).seqs = s.seqs ∧
    (State.primeContexts s a1).host = s.host ∧
    (State.primeContexts s a1).dict = s.dict ∧
    (State.primeContexts s a1).mclk = s.mclk ∧
    (State.primeContexts s a1).sd = s.sd ∧
    (State.primeContexts s a1).aux = s.aux ∧
    (State.primeContexts s a1).enc = s.enc ∧
    (State.primeContexts s a1).slices = s.slices ∧
    (State.primeContexts s a1).gl = s.gl ∧
    (State.primeContexts s a1).ref = s.ref ∧
    (State.primeContexts s a1).cp = s.cp ∧
    (State.primeContexts s a1).flk = s.flk ∧
    (State.primeContexts s a1).ring = s.ring ∧
    (State.primeContexts s a1).can = s.can ∧
    (State.primeContexts s a1).canPub = s.canPub ∧
    (State.primeContexts s a1).eth = s.eth ∧
    (State.primeContexts s a1).tio = s.tio ∧
    (State.primeContexts s a1).dia = s.dia := by
  unfold State.primeContexts
  simp

theorem State.seedNow_frame (s : State) (a1 : Nat) (a2 : List F32) :
    (State.seedNow s a1 a2).pending = s.pending ∧
    (State.seedNow s a1 a2).time = s.time ∧
    (State.seedNow s a1 a2).tick = s.tick ∧
    (State.seedNow s a1 a2).free = s.free ∧
    (State.seedNow s a1 a2).tl = s.tl ∧
    (State.seedNow s a1 a2).mu = s.mu ∧
    (State.seedNow s a1 a2).hk = s.hk ∧
    (State.seedNow s a1 a2).log = s.log ∧
    (State.seedNow s a1 a2).seqs = s.seqs ∧
    (State.seedNow s a1 a2).host = s.host ∧
    (State.seedNow s a1 a2).dict = s.dict ∧
    (State.seedNow s a1 a2).mclk = s.mclk ∧
    (State.seedNow s a1 a2).sd = s.sd ∧
    (State.seedNow s a1 a2).aux = s.aux ∧
    (State.seedNow s a1 a2).enc = s.enc ∧
    (State.seedNow s a1 a2).slices = s.slices ∧
    (State.seedNow s a1 a2).gl = s.gl ∧
    (State.seedNow s a1 a2).ref = s.ref ∧
    (State.seedNow s a1 a2).cp = s.cp ∧
    (State.seedNow s a1 a2).flk = s.flk ∧
    (State.seedNow s a1 a2).ring = s.ring ∧
    (State.seedNow s a1 a2).can = s.can ∧
    (State.seedNow s a1 a2).canPub = s.canPub ∧
    (State.seedNow s a1 a2).eth = s.eth ∧
    (State.seedNow s a1 a2).tio = s.tio ∧
    (State.seedNow s a1 a2).dia = s.dia := by
  have k1 := @State.refetch_frame
  unfold State.seedNow
  simp [k1]

theorem State.setStaged_frame (s : State) (a1 : Nat) (a2 : Bank Staged) :
    (State.setStaged s a1 a2).pending = s.pending ∧
    (State.setStaged s a1 a2).time = s.time ∧
    (State.setStaged s a1 a2).tick = s.tick ∧
    (State.setStaged s a1 a2).free = s.free ∧
    (State.setStaged s a1 a2).tl = s.tl ∧
    (State.setStaged s a1 a2).mu = s.mu ∧
    (State.setStaged s a1 a2).hk = s.hk ∧
    (State.setStaged s a1 a2).log = s.log ∧
    (State.setStaged s a1 a2).seqs = s.seqs ∧
    (State.setStaged s a1 a2).host = s.host ∧
    (State.setStaged s a1 a2).dict = s.dict ∧
    (State.setStaged s a1 a2).mclk = s.mclk ∧
    (State.setStaged s a1 a2).sd = s.sd ∧
    (State.setStaged s a1 a2).aux = s.aux ∧
    (State.setStaged s a1 a2).enc = s.enc ∧
    (State.setStaged s a1 a2).slices = s.slices ∧
    (State.setStaged s a1 a2).gl = s.gl ∧
    (State.setStaged s a1 a2).ref = s.ref ∧
    (State.setStaged s a1 a2).cp = s.cp ∧
    (State.setStaged s a1 a2).flk = s.flk ∧
    (State.setStaged s a1 a2).ring = s.ring ∧
    (State.setStaged s a1 a2).can = s.can ∧
    (State.setStaged s a1 a2).canPub = s.canPub ∧
    (State.setStaged s a1 a2).eth = s.eth ∧
    (State.setStaged s a1 a2).tio = s.tio ∧
    (State.setStaged s a1 a2).dia = s.dia := by
  unfold State.setStaged
  simp

theorem State.stagePut_frame (s : State) (a1 : Nat) (a2 : Nat) (a3 : Staged) :
    (State.stagePut s a1 a2 a3).pending = s.pending ∧
    (State.stagePut s a1 a2 a3).time = s.time ∧
    (State.stagePut s a1 a2 a3).tick = s.tick ∧
    (State.stagePut s a1 a2 a3).free = s.free ∧
    (State.stagePut s a1 a2 a3).tl = s.tl ∧
    (State.stagePut s a1 a2 a3).mu = s.mu ∧
    (State.stagePut s a1 a2 a3).hk = s.hk ∧
    (State.stagePut s a1 a2 a3).log = s.log ∧
    (State.stagePut s a1 a2 a3).seqs = s.seqs ∧
    (State.stagePut s a1 a2 a3).host = s.host ∧
    (State.stagePut s a1 a2 a3).dict = s.dict ∧
    (State.stagePut s a1 a2 a3).mclk = s.mclk ∧
    (State.stagePut s a1 a2 a3).sd = s.sd ∧
    (State.stagePut s a1 a2 a3).aux = s.aux ∧
    (State.stagePut s a1 a2 a3).enc = s.enc ∧
    (State.stagePut s a1 a2 a3).slices = s.slices ∧
    (State.stagePut s a1 a2 a3).gl = s.gl ∧
    (State.stagePut s a1 a2 a3).ref = s.ref ∧
    (State.stagePut s a1 a2 a3).cp = s.cp ∧
    (State.stagePut s a1 a2 a3).flk = s.flk ∧
    (State.stagePut s a1 a2 a3).ring = s.ring ∧
    (State.stagePut s a1 a2 a3).can = s.can ∧
    (State.stagePut s a1 a2 a3).canPub = s.canPub ∧
    (State.stagePut s a1 a2 a3).eth = s.eth ∧
    (State.stagePut s a1 a2 a3).tio = s.tio ∧
    (State.stagePut s a1 a2 a3).dia = s.dia := by
  have k1 := @State.setStaged_frame
  unfold State.stagePut
  simp [k1]

theorem opDefineContext_frame (a0 : Pkt) (s : State) :
    (opDefineContext a0 s).st.pending = s.pending ∧
    (opDefineContext a0 s).st.time = s.time ∧
    (opDefineContext a0 s).st.tick = s.tick ∧
    (opDefineContext a0 s).st.free = s.free ∧
    (opDefineContext a0 s).st.tl = s.tl ∧
    (opDefineContext a0 s).st.mu = s.mu ∧
    (opDefineContext a0 s).st.hk = s.hk ∧
    (opDefineContext a0 s).st.log = s.log ∧
    (opDefineContext a0 s).st.seqs = s.seqs ∧
    (opDefineContext a0 s).st.host = s.host ∧
    (opDefineContext a0 s).st.dict = s.dict ∧
    (opDefineContext a0 s).st.mclk = s.mclk ∧
    (opDefineContext a0 s).st.sd = s.sd ∧
    (opDefineContext a0 s).st.aux = s.aux ∧
    (opDefineContext a0 s).st.enc = s.enc ∧
    (opDefineContext a0 s).st.slices = s.slices ∧
    (opDefineContext a0 s).st.gl = s.gl ∧
    (opDefineContext a0 s).st.ref = s.ref ∧
    (opDefineContext a0 s).st.cp = s.cp ∧
    (opDefineContext a0 s).st.flk = s.flk ∧
    (opDefineContext a0 s).st.ring = s.ring ∧
    (opDefineContext a0 s).st.can = s.can ∧
    (opDefineContext a0 s).st.canPub = s.canPub ∧
    (opDefineContext a0 s).st.eth = s.eth ∧
    (opDefineContext a0 s).st.tio = s.tio ∧
    (opDefineContext a0 s).st.dia = s.dia := by
  have k1 := @State.fail_frame
  have k2 := @State.okWith_frame
  have k3 := @State.stagePut_frame
  have k4 := @State.ite_frame
  unfold opDefineContext
  dsimp only
  repeat' (first | (simp [k1, k2, k3, k4]; done) | split)

theorem State.stageHdr_frame (s : State) (a1 : Pkt) (a2 : Nat) (a3 : (Nat → Nat)) :
    (State.stageHdr s a1 a2 a3).st.pending = s.pending ∧
    (State.stageHdr s a1 a2 a3).st.time = s.time ∧
    (State.stageHdr s a1 a2 a3).st.tick = s.tick ∧
    (State.stageHdr s a1 a2 a3).st.free = s.free ∧
    (State.stageHdr s a1 a2 a3).st.tl = s.tl ∧
    (State.stageHdr s a1 a2 a3).st.mu = s.mu ∧
    (State.stageHdr s a1 a2 a3).st.hk = s.hk ∧
    (State.stageHdr s a1 a2 a3).st.log = s.log ∧
    (State.stageHdr s a1 a2 a3).st.seqs = s.seqs ∧
    (State.stageHdr s a1 a2 a3).st.host = s.host ∧
    (State.stageHdr s a1 a2 a3).st.dict = s.dict ∧
    (State.stageHdr s a1 a2 a3).st.mclk = s.mclk ∧
    (State.stageHdr s a1 a2 a3).st.sd = s.sd ∧
    (State.stageHdr s a1 a2 a3).st.aux = s.aux ∧
    (State.stageHdr s a1 a2 a3).st.enc = s.enc ∧
    (State.stageHdr s a1 a2 a3).st.slices = s.slices ∧
    (State.stageHdr s a1 a2 a3).st.gl = s.gl ∧
    (State.stageHdr s a1 a2 a3).st.ref = s.ref ∧
    (State.stageHdr s a1 a2 a3).st.cp = s.cp ∧
    (State.stageHdr s a1 a2 a3).st.flk = s.flk ∧
    (State.stageHdr s a1 a2 a3).st.ring = s.ring ∧
    (State.stageHdr s a1 a2 a3).st.can = s.can ∧
    (State.stageHdr s a1 a2 a3).st.canPub = s.canPub ∧
    (State.stageHdr s a1 a2 a3).st.eth = s.eth ∧
    (State.stageHdr s a1 a2 a3).st.tio = s.tio ∧
    (State.stageHdr s a1 a2 a3).st.dia = s.dia := by
  have k1 := @State.fail_frame
  have k2 := @State.okay_frame
  have k3 := @State.stagePut_frame
  have k4 := @State.ite_frame
  unfold State.stageHdr
  dsimp only
  repeat' (first | (simp [k1, k2, k3, k4]; done) | split)

theorem opEngLink_frame (a0 : Pkt) (s : State) :
    (opEngLink a0 s).st.pending = s.pending ∧
    (opEngLink a0 s).st.time = s.time ∧
    (opEngLink a0 s).st.tick = s.tick ∧
    (opEngLink a0 s).st.free = s.free ∧
    (opEngLink a0 s).st.tl = s.tl ∧
    (opEngLink a0 s).st.mu = s.mu ∧
    (opEngLink a0 s).st.hk = s.hk ∧
    (opEngLink a0 s).st.log = s.log ∧
    (opEngLink a0 s).st.seqs = s.seqs ∧
    (opEngLink a0 s).st.host = s.host ∧
    (opEngLink a0 s).st.dict = s.dict ∧
    (opEngLink a0 s).st.mclk = s.mclk ∧
    (opEngLink a0 s).st.sd = s.sd ∧
    (opEngLink a0 s).st.aux = s.aux ∧
    (opEngLink a0 s).st.enc = s.enc ∧
    (opEngLink a0 s).st.slices = s.slices ∧
    (opEngLink a0 s).st.gl = s.gl ∧
    (opEngLink a0 s).st.ref = s.ref ∧
    (opEngLink a0 s).st.cp = s.cp ∧
    (opEngLink a0 s).st.flk = s.flk ∧
    (opEngLink a0 s).st.ring = s.ring ∧
    (opEngLink a0 s).st.can = s.can ∧
    (opEngLink a0 s).st.canPub = s.canPub ∧
    (opEngLink a0 s).st.eth = s.eth ∧
    (opEngLink a0 s).st.tio = s.tio ∧
    (opEngLink a0 s).st.dia = s.dia := by
  have k1 := @State.fail_frame
  have k2 := @State.stageHdr_frame
  have k3 := @State.ite_frame
  unfold opEngLink
  dsimp only
  repeat' (first | (simp [k1, k2, k3]; done) | split)

theorem opEngGroup_frame (a0 : Pkt) (s : State) :
    (opEngGroup a0 s).st.pending = s.pending ∧
    (opEngGroup a0 s).st.time = s.time ∧
    (opEngGroup a0 s).st.tick = s.tick ∧
    (opEngGroup a0 s).st.free = s.free ∧
    (opEngGroup a0 s).st.tl = s.tl ∧
    (opEngGroup a0 s).st.mu = s.mu ∧
    (opEngGroup a0 s).st.hk = s.hk ∧
    (opEngGroup a0 s).st.log = s.log ∧
    (opEngGroup a0 s).st.seqs = s.seqs ∧
    (opEngGroup a0 s).st.host = s.host ∧
    (opEngGroup a0 s).st.dict = s.dict ∧
    (opEngGroup a0 s).st.mclk = s.mclk ∧
    (opEngGroup a0 s).st.sd = s.sd ∧
    (opEngGroup a0 s).st.aux = s.aux ∧
    (opEngGroup a0 s).st.enc = s.enc ∧
    (opEngGroup a0 s).st.slices = s.slices ∧
    (opEngGroup a0 s).st.gl = s.gl ∧
    (opEngGroup a0 s).st.ref = s.ref ∧
    (opEngGroup a0 s).st.cp = s.cp ∧
    (opEngGroup a0 s).st.flk = s.flk ∧
    (opEngGroup a0 s).st.ring = s.ring ∧
    (opEngGroup a0 s).st.can = s.can ∧
    (opEngGroup a0 s).st.canPub = s.canPub ∧
    (opEngGroup a0 s).st.eth = s.eth ∧
    (opEngGroup a0 s).st.tio = s.tio ∧
    (opEngGroup a0 s).st.dia = s.dia := by
  have k1 := @State.fail_frame
  have k2 := @State.stageHdr_frame
  have k3 := @State.ite_frame
  unfold opEngGroup
  dsimp only
  repeat' (first | (simp [k1, k2, k3]; done) | split)

theorem State.keepCtx_frame (s : State) (a1 : Nat) :
    (State.keepCtx s a1).pending = s.pending ∧
    (State.keepCtx s a1).time = s.time ∧
    (State.keepCtx s a1).tick = s.tick ∧
    (State.keepCtx s a1).free = s.free ∧
    (State.keepCtx s a1).tl = s.tl ∧
    (State.keepCtx s a1).mu = s.mu ∧
    (State.keepCtx s a1).hk = s.hk ∧
    (State.keepCtx s a1).log = s.log ∧
    (State.keepCtx s a1).seqs = s.seqs ∧
    (State.keepCtx s a1).host = s.host ∧
    (State.keepCtx s a1).mclk = s.mclk ∧
    (State.keepCtx s a1).sd = s.sd ∧
    (State.keepCtx s a1).aux = s.aux ∧
    (State.keepCtx s a1).enc = s.enc ∧
    (State.keepCtx s a1).eng = s.eng ∧
    (State.keepCtx s a1).slices = s.slices ∧
    (State.keepCtx s a1).gl = s.gl ∧
    (State.keepCtx s a1).ref = s.ref ∧
    (State.keepCtx s a1).cp = s.cp ∧
    (State.keepCtx s a1).flk = s.flk ∧
    (State.keepCtx s a1).ring = s.ring ∧
    (State.keepCtx s a1).can = s.can ∧
    (State.keepCtx s a1).canPub = s.canPub ∧
    (State.keepCtx s a1).eth = s.eth ∧
    (State.keepCtx s a1).tio = s.tio ∧
    (State.keepCtx s a1).dia = s.dia := by
  have k1 := @State.keep_frame
  unfold State.keepCtx
  simp [k1]

theorem State.applyStaged_frame (s : State) (a1 : Nat) (a2 : Nat) (a3 : Staged) :
    (State.applyStaged s a1 a2 a3).pending = s.pending ∧
    (State.applyStaged s a1 a2 a3).time = s.time ∧
    (State.applyStaged s a1 a2 a3).tick = s.tick ∧
    (State.applyStaged s a1 a2 a3).free = s.free ∧
    (State.applyStaged s a1 a2 a3).tl = s.tl ∧
    (State.applyStaged s a1 a2 a3).mu = s.mu ∧
    (State.applyStaged s a1 a2 a3).hk = s.hk ∧
    (State.applyStaged s a1 a2 a3).log = s.log ∧
    (State.applyStaged s a1 a2 a3).seqs = s.seqs ∧
    (State.applyStaged s a1 a2 a3).host = s.host ∧
    (State.applyStaged s a1 a2 a3).mclk = s.mclk ∧
    (State.applyStaged s a1 a2 a3).sd = s.sd ∧
    (State.applyStaged s a1 a2 a3).aux = s.aux ∧
    (State.applyStaged s a1 a2 a3).enc = s.enc ∧
    (State.applyStaged s a1 a2 a3).slices = s.slices ∧
    (State.applyStaged s a1 a2 a3).gl = s.gl ∧
    (State.applyStaged s a1 a2 a3).ref = s.ref ∧
    (State.applyStaged s a1 a2 a3).cp = s.cp ∧
    (State.applyStaged s a1 a2 a3).flk = s.flk ∧
    (State.applyStaged s a1 a2 a3).ring = s.ring ∧
    (State.applyStaged s a1 a2 a3).can = s.can ∧
    (State.applyStaged s a1 a2 a3).canPub = s.canPub ∧
    (State.applyStaged s a1 a2 a3).eth = s.eth ∧
    (State.applyStaged s a1 a2 a3).tio = s.tio ∧
    (State.applyStaged s a1 a2 a3).dia = s.dia := by
  have k1 := @State.keepCtx_frame
  have k2 := @State.ite_frame
  unfold State.applyStaged
  simp [k1, k2]

theorem opEngCommit_frame (a0 : Pkt) (s : State) :
    (opEngCommit a0 s).st.pending = s.pending ∧
    (opEngCommit a0 s).st.time = s.time ∧
    (opEngCommit a0 s).st.tick = s.tick ∧
    (opEngCommit a0 s).st.free = s.free ∧
    (opEngCommit a0 s).st.tl = s.tl ∧
    (opEngCommit a0 s).st.mu = s.mu ∧
    (opEngCommit a0 s).st.hk = s.hk ∧
    (opEngCommit a0 s).st.log = s.log ∧
    (opEngCommit a0 s).st.seqs = s.seqs ∧
    (opEngCommit a0 s).st.host = s.host ∧
    (opEngCommit a0 s).st.mclk = s.mclk ∧
    (opEngCommit a0 s).st.sd = s.sd ∧
    (opEngCommit a0 s).st.aux = s.aux ∧
    (opEngCommit a0 s).st.enc = s.enc ∧
    (opEngCommit a0 s).st.slices = s.slices ∧
    (opEngCommit a0 s).st.gl = s.gl ∧
    (opEngCommit a0 s).st.ref = s.ref ∧
    (opEngCommit a0 s).st.cp = s.cp ∧
    (opEngCommit a0 s).st.flk = s.flk ∧
    (opEngCommit a0 s).st.ring = s.ring ∧
    (opEngCommit a0 s).st.can = s.can ∧
    (opEngCommit a0 s).st.canPub = s.canPub ∧
    (opEngCommit a0 s).st.eth = s.eth ∧
    (opEngCommit a0 s).st.tio = s.tio ∧
    (opEngCommit a0 s).st.dia = s.dia := by
  have k1 := @State.applyStaged_frame
  have k2 := @State.fail_frame
  have k3 := @State.okWith_frame
  have k4 := @State.setStaged_frame
  unfold opEngCommit
  repeat' (first | split | simp [k1, k2, k3, k4])

theorem State.loadReject_frame (a0 : Nat) (s : State) :
    (State.loadReject a0 s).pending = s.pending ∧
    (State.loadReject a0 s).time = s.time ∧
    (State.loadReject a0 s).tick = s.tick ∧
    (State.loadReject a0 s).free = s.free ∧
    (State.loadReject a0 s).tl = s.tl ∧
    (State.loadReject a0 s).mu = s.mu ∧
    (State.loadReject a0 s).hk = s.hk ∧
    (State.loadReject a0 s).host = s.host ∧
    (State.loadReject a0 s).mclk = s.mclk ∧
    (State.loadReject a0 s).sd = s.sd ∧
    (State.loadReject a0 s).aux = s.aux ∧
    (State.loadReject a0 s).enc = s.enc ∧
    (State.loadReject a0 s).slices = s.slices ∧
    (State.loadReject a0 s).gl = s.gl ∧
    (State.loadReject a0 s).ref = s.ref ∧
    (State.loadReject a0 s).cp = s.cp ∧
    (State.loadReject a0 s).flk = s.flk ∧
    (State.loadReject a0 s).ring = s.ring ∧
    (State.loadReject a0 s).can = s.can ∧
    (State.loadReject a0 s).canPub = s.canPub ∧
    (State.loadReject a0 s).eth = s.eth ∧
    (State.loadReject a0 s).tio = s.tio := by
  have k1 := @State.applyStaged_frame
  have k2 := @State.post_frame
  have k3 := @State.ite_frame
  induction a0 generalizing s with
  | zero => simp [k1, k2, State.loadReject]
  | succ n ih =>
    unfold State.loadReject
    dsimp only
    repeat' split
    all_goals first | (simp [k1, k2, ih]; done) | skip

theorem opWriteCoef_frame (a0 : Pkt) (s : State) :
    (opWriteCoef a0 s).st.pending = s.pending ∧
    (opWriteCoef a0 s).st.time = s.time ∧
    (opWriteCoef a0 s).st.tick = s.tick ∧
    (opWriteCoef a0 s).st.free = s.free ∧
    (opWriteCoef a0 s).st.tl = s.tl ∧
    (opWriteCoef a0 s).st.mu = s.mu ∧
    (opWriteCoef a0 s).st.hk = s.hk ∧
    (opWriteCoef a0 s).st.log = s.log ∧
    (opWriteCoef a0 s).st.seqs = s.seqs ∧
    (opWriteCoef a0 s).st.host = s.host ∧
    (opWriteCoef a0 s).st.mclk = s.mclk ∧
    (opWriteCoef a0 s).st.sd = s.sd ∧
    (opWriteCoef a0 s).st.aux = s.aux ∧
    (opWriteCoef a0 s).st.enc = s.enc ∧
    (opWriteCoef a0 s).st.slices = s.slices ∧
    (opWriteCoef a0 s).st.gl = s.gl ∧
    (opWriteCoef a0 s).st.ref = s.ref ∧
    (opWriteCoef a0 s).st.cp = s.cp ∧
    (opWriteCoef a0 s).st.flk = s.flk ∧
    (opWriteCoef a0 s).st.ring = s.ring ∧
    (opWriteCoef a0 s).st.can = s.can ∧
    (opWriteCoef a0 s).st.canPub = s.canPub ∧
    (opWriteCoef a0 s).st.eth = s.eth ∧
    (opWriteCoef a0 s).st.tio = s.tio ∧
    (opWriteCoef a0 s).st.dia = s.dia := by
  have k1 := @State.fail_frame
  have k2 := @State.keep_frame
  have k3 := @State.okWith_frame
  have k4 := @State.refetch_frame
  have k5 := @State.ite_frame
  unfold opWriteCoef
  dsimp only
  repeat' (first | (simp [k1, k2, k3, k4, k5]; done) | split)

theorem opFreeze_frame (a0 : Pkt) (s : State) :
    (opFreeze a0 s).st.pending = s.pending ∧
    (opFreeze a0 s).st.time = s.time ∧
    (opFreeze a0 s).st.tick = s.tick ∧
    (opFreeze a0 s).st.free = s.free ∧
    (opFreeze a0 s).st.tl = s.tl ∧
    (opFreeze a0 s).st.mu = s.mu ∧
    (opFreeze a0 s).st.hk = s.hk ∧
    (opFreeze a0 s).st.log = s.log ∧
    (opFreeze a0 s).st.seqs = s.seqs ∧
    (opFreeze a0 s).st.host = s.host ∧
    (opFreeze a0 s).st.dict = s.dict ∧
    (opFreeze a0 s).st.mclk = s.mclk ∧
    (opFreeze a0 s).st.sd = s.sd ∧
    (opFreeze a0 s).st.aux = s.aux ∧
    (opFreeze a0 s).st.enc = s.enc ∧
    (opFreeze a0 s).st.slices = s.slices ∧
    (opFreeze a0 s).st.gl = s.gl ∧
    (opFreeze a0 s).st.ref = s.ref ∧
    (opFreeze a0 s).st.cp = s.cp ∧
    (opFreeze a0 s).st.flk = s.flk ∧
    (opFreeze a0 s).st.ring = s.ring ∧
    (opFreeze a0 s).st.can = s.can ∧
    (opFreeze a0 s).st.canPub = s.canPub ∧
    (opFreeze a0 s).st.eth = s.eth ∧
    (opFreeze a0 s).st.tio = s.tio ∧
    (opFreeze a0 s).st.dia = s.dia := by
  have k1 := @State.fail_frame
  have k2 := @State.okay_frame
  have k3 := @State.ite_frame
  unfold opFreeze
  dsimp only
  repeat' (first | (simp [k1, k2, k3]; done) | split)

theorem opRelease_frame (a0 : Pkt) (s : State) :
    (opRelease a0 s).st.pending = s.pending ∧
    (opRelease a0 s).st.time = s.time ∧
    (opRelease a0 s).st.tick = s.tick ∧
    (opRelease a0 s).st.free = s.free ∧
    (opRelease a0 s).st.tl = s.tl ∧
    (opRelease a0 s).st.mu = s.mu ∧
    (opRelease a0 s).st.hk = s.hk ∧
    (opRelease a0 s).st.log = s.log ∧
    (opRelease a0 s).st.seqs = s.seqs ∧
    (opRelease a0 s).st.host = s.host ∧
    (opRelease a0 s).st.dict = s.dict ∧
    (opRelease a0 s).st.mclk = s.mclk ∧
    (opRelease a0 s).st.sd = s.sd ∧
    (opRelease a0 s).st.aux = s.aux ∧
    (opRelease a0 s).st.enc = s.enc ∧
    (opRelease a0 s).st.slices = s.slices ∧
    (opRelease a0 s).st.gl = s.gl ∧
    (opRelease a0 s).st.ref = s.ref ∧
    (opRelease a0 s).st.cp = s.cp ∧
    (opRelease a0 s).st.flk = s.flk ∧
    (opRelease a0 s).st.ring = s.ring ∧
    (opRelease a0 s).st.can = s.can ∧
    (opRelease a0 s).st.canPub = s.canPub ∧
    (opRelease a0 s).st.eth = s.eth ∧
    (opRelease a0 s).st.tio = s.tio ∧
    (opRelease a0 s).st.dia = s.dia := by
  have k1 := @State.accept_frame
  have k2 := @State.fail_frame
  have k3 := @State.ite_frame
  unfold opRelease
  dsimp only
  repeat' (first | (simp [k1, k2, k3]; done) | split)

theorem opSeedState_frame (a0 : Pkt) (s : State) :
    (opSeedState a0 s).st.pending = s.pending ∧
    (opSeedState a0 s).st.time = s.time ∧
    (opSeedState a0 s).st.tick = s.tick ∧
    (opSeedState a0 s).st.free = s.free ∧
    (opSeedState a0 s).st.tl = s.tl ∧
    (opSeedState a0 s).st.mu = s.mu ∧
    (opSeedState a0 s).st.hk = s.hk ∧
    (opSeedState a0 s).st.log = s.log ∧
    (opSeedState a0 s).st.seqs = s.seqs ∧
    (opSeedState a0 s).st.host = s.host ∧
    (opSeedState a0 s).st.dict = s.dict ∧
    (opSeedState a0 s).st.mclk = s.mclk ∧
    (opSeedState a0 s).st.sd = s.sd ∧
    (opSeedState a0 s).st.aux = s.aux ∧
    (opSeedState a0 s).st.enc = s.enc ∧
    (opSeedState a0 s).st.slices = s.slices ∧
    (opSeedState a0 s).st.gl = s.gl ∧
    (opSeedState a0 s).st.ref = s.ref ∧
    (opSeedState a0 s).st.cp = s.cp ∧
    (opSeedState a0 s).st.flk = s.flk ∧
    (opSeedState a0 s).st.ring = s.ring ∧
    (opSeedState a0 s).st.can = s.can ∧
    (opSeedState a0 s).st.canPub = s.canPub ∧
    (opSeedState a0 s).st.eth = s.eth ∧
    (opSeedState a0 s).st.tio = s.tio ∧
    (opSeedState a0 s).st.dia = s.dia := by
  have k1 := @State.fail_frame
  have k2 := @State.okay_frame
  have k3 := @State.seedNow_frame
  have k4 := @State.ite_frame
  unfold opSeedState
  dsimp only
  repeat' (first | (simp [k1, k2, k3, k4]; done) | split)

end Sys2Proof.Machine
end

