-- ==== Sys2Proof/Laws/Sensing.lean ====
section
/-!
SUPPORT. What each operation of Machine/Sensing.lean leaves as it was: the parts of State that it cannot change.
-/

namespace Sys2Proof.Machine

open Sys2Proof

theorem effSdMclkDivApply_frame (a0 : Fin 8) (s : State) :
    (effSdMclkDivApply a0 s).pending = s.pending ∧
    (effSdMclkDivApply a0 s).time = s.time ∧
    (effSdMclkDivApply a0 s).tick = s.tick ∧
    (effSdMclkDivApply a0 s).free = s.free ∧
    (effSdMclkDivApply a0 s).tl = s.tl ∧
    (effSdMclkDivApply a0 s).mu = s.mu ∧
    (effSdMclkDivApply a0 s).hk = s.hk ∧
    (effSdMclkDivApply a0 s).log = s.log ∧
    (effSdMclkDivApply a0 s).seqs = s.seqs ∧
    (effSdMclkDivApply a0 s).host = s.host ∧
    (effSdMclkDivApply a0 s).dict = s.dict ∧
    (effSdMclkDivApply a0 s).sd = s.sd ∧
    (effSdMclkDivApply a0 s).aux = s.aux ∧
    (effSdMclkDivApply a0 s).enc = s.enc ∧
    (effSdMclkDivApply a0 s).eng = s.eng ∧
    (effSdMclkDivApply a0 s).slices = s.slices ∧
    (effSdMclkDivApply a0 s).gl = s.gl ∧
    (effSdMclkDivApply a0 s).ref = s.ref ∧
    (effSdMclkDivApply a0 s).cp = s.cp ∧
    (effSdMclkDivApply a0 s).flk = s.flk ∧
    (effSdMclkDivApply a0 s).ring = s.ring ∧
    (effSdMclkDivApply a0 s).can = s.can ∧
    (effSdMclkDivApply a0 s).canPub = s.canPub ∧
    (effSdMclkDivApply a0 s).eth = s.eth ∧
    (effSdMclkDivApply a0 s).tio = s.tio ∧
    (effSdMclkDivApply a0 s).dia = s.dia := by
  have k1 := @State.ite_frame
  unfold effSdMclkDivApply
  repeat' (first | (simp [k1]; done) | split)

theorem State.freshSd_frame (s : State) (a1 : Nat) :
    (State.freshSd s a1).pending = s.pending ∧
    (State.freshSd s a1).time = s.time ∧
    (State.freshSd s a1).tick = s.tick ∧
    (State.freshSd s a1).free = s.free ∧
    (State.freshSd s a1).tl = s.tl ∧
    (State.freshSd s a1).mu = s.mu ∧
    (State.freshSd s a1).hk = s.hk ∧
    (State.freshSd s a1).log = s.log ∧
    (State.freshSd s a1).seqs = s.seqs ∧
    (State.freshSd s a1).host = s.host ∧
    (State.freshSd s a1).dict = s.dict ∧
    (State.freshSd s a1).mclk = s.mclk ∧
    (State.freshSd s a1).aux = s.aux ∧
    (State.freshSd s a1).enc = s.enc ∧
    (State.freshSd s a1).eng = s.eng ∧
    (State.freshSd s a1).slices = s.slices ∧
    (State.freshSd s a1).gl = s.gl ∧
    (State.freshSd s a1).ref = s.ref ∧
    (State.freshSd s a1).cp = s.cp ∧
    (State.freshSd s a1).flk = s.flk ∧
    (State.freshSd s a1).ring = s.ring ∧
    (State.freshSd s a1).can = s.can ∧
    (State.freshSd s a1).canPub = s.canPub ∧
    (State.freshSd s a1).eth = s.eth ∧
    (State.freshSd s a1).tio = s.tio ∧
    (State.freshSd s a1).dia = s.dia := by
  unfold State.freshSd
  simp

theorem State.promote_frame (s : State) (a1 : Nat) (a2 : Nat) :
    (State.promote s a1 a2).pending = s.pending ∧
    (State.promote s a1 a2).time = s.time ∧
    (State.promote s a1 a2).tick = s.tick ∧
    (State.promote s a1 a2).free = s.free ∧
    (State.promote s a1 a2).tl = s.tl ∧
    (State.promote s a1 a2).mu = s.mu ∧
    (State.promote s a1 a2).hk = s.hk ∧
    (State.promote s a1 a2).host = s.host ∧
    (State.promote s a1 a2).mclk = s.mclk ∧
    (State.promote s a1 a2).sd = s.sd ∧
    (State.promote s a1 a2).aux = s.aux ∧
    (State.promote s a1 a2).enc = s.enc ∧
    (State.promote s a1 a2).eng = s.eng ∧
    (State.promote s a1 a2).cp = s.cp ∧
    (State.promote s a1 a2).flk = s.flk ∧
    (State.promote s a1 a2).ring = s.ring ∧
    (State.promote s a1 a2).can = s.can ∧
    (State.promote s a1 a2).canPub = s.canPub ∧
    (State.promote s a1 a2).eth = s.eth ∧
    (State.promote s a1 a2).tio = s.tio := by
  have k1 := @State.degrade_frame
  have k2 := @State.post_frame
  unfold State.promote
  simp [k1, k2]

theorem State.lossSlice_frame (s : State) (a1 : List Nat) (a2 : Nat) :
    (State.lossSlice s a1 a2).pending = s.pending ∧
    (State.lossSlice s a1 a2).time = s.time ∧
    (State.lossSlice s a1 a2).tick = s.tick ∧
    (State.lossSlice s a1 a2).free = s.free ∧
    (State.lossSlice s a1 a2).tl = s.tl ∧
    (State.lossSlice s a1 a2).mu = s.mu ∧
    (State.lossSlice s a1 a2).hk = s.hk ∧
    (State.lossSlice s a1 a2).host = s.host ∧
    (State.lossSlice s a1 a2).mclk = s.mclk ∧
    (State.lossSlice s a1 a2).sd = s.sd ∧
    (State.lossSlice s a1 a2).aux = s.aux ∧
    (State.lossSlice s a1 a2).enc = s.enc ∧
    (State.lossSlice s a1 a2).eng = s.eng ∧
    (State.lossSlice s a1 a2).cp = s.cp ∧
    (State.lossSlice s a1 a2).flk = s.flk ∧
    (State.lossSlice s a1 a2).ring = s.ring ∧
    (State.lossSlice s a1 a2).can = s.can ∧
    (State.lossSlice s a1 a2).canPub = s.canPub ∧
    (State.lossSlice s a1 a2).eth = s.eth ∧
    (State.lossSlice s a1 a2).tio = s.tio := by
  have k1 := @State.lossReact_frame
  have k2 := @State.promote_frame
  have k3 := @State.ite_frame
  unfold State.lossSlice
  simp [k1, k2, k3]

theorem State.lose_frame (s : State) (a1 : List Nat) :
    (State.lose s a1).pending = s.pending ∧
    (State.lose s a1).time = s.time ∧
    (State.lose s a1).tick = s.tick ∧
    (State.lose s a1).free = s.free ∧
    (State.lose s a1).tl = s.tl ∧
    (State.lose s a1).mu = s.mu ∧
    (State.lose s a1).hk = s.hk ∧
    (State.lose s a1).host = s.host ∧
    (State.lose s a1).mclk = s.mclk ∧
    (State.lose s a1).aux = s.aux ∧
    (State.lose s a1).enc = s.enc ∧
    (State.lose s a1).eng = s.eng ∧
    (State.lose s a1).cp = s.cp ∧
    (State.lose s a1).flk = s.flk ∧
    (State.lose s a1).ring = s.ring ∧
    (State.lose s a1).can = s.can ∧
    (State.lose s a1).canPub = s.canPub ∧
    (State.lose s a1).eth = s.eth ∧
    (State.lose s a1).tio = s.tio := by
  have k1 := @State.degradeBy_frame
  have k2 := @State.lossSlice_frame
  unfold State.lose
  simp [k1, k2]

theorem State.stuck_frame (s : State) (a1 : Nat) :
    (State.stuck s a1).pending = s.pending ∧
    (State.stuck s a1).time = s.time ∧
    (State.stuck s a1).tick = s.tick ∧
    (State.stuck s a1).free = s.free ∧
    (State.stuck s a1).tl = s.tl ∧
    (State.stuck s a1).mu = s.mu ∧
    (State.stuck s a1).hk = s.hk ∧
    (State.stuck s a1).host = s.host ∧
    (State.stuck s a1).mclk = s.mclk ∧
    (State.stuck s a1).aux = s.aux ∧
    (State.stuck s a1).enc = s.enc ∧
    (State.stuck s a1).eng = s.eng ∧
    (State.stuck s a1).cp = s.cp ∧
    (State.stuck s a1).flk = s.flk ∧
    (State.stuck s a1).ring = s.ring ∧
    (State.stuck s a1).can = s.can ∧
    (State.stuck s a1).canPub = s.canPub ∧
    (State.stuck s a1).eth = s.eth ∧
    (State.stuck s a1).tio = s.tio := by
  have k1 := @State.lose_frame
  unfold State.stuck
  simp [k1]

theorem State.mclkFault_frame (s : State) (a1 : Nat) :
    (State.mclkFault s a1).pending = s.pending ∧
    (State.mclkFault s a1).time = s.time ∧
    (State.mclkFault s a1).tick = s.tick ∧
    (State.mclkFault s a1).free = s.free ∧
    (State.mclkFault s a1).tl = s.tl ∧
    (State.mclkFault s a1).mu = s.mu ∧
    (State.mclkFault s a1).hk = s.hk ∧
    (State.mclkFault s a1).host = s.host ∧
    (State.mclkFault s a1).mclk = s.mclk ∧
    (State.mclkFault s a1).aux = s.aux ∧
    (State.mclkFault s a1).enc = s.enc ∧
    (State.mclkFault s a1).eng = s.eng ∧
    (State.mclkFault s a1).cp = s.cp ∧
    (State.mclkFault s a1).flk = s.flk ∧
    (State.mclkFault s a1).ring = s.ring ∧
    (State.mclkFault s a1).can = s.can ∧
    (State.mclkFault s a1).canPub = s.canPub ∧
    (State.mclkFault s a1).eth = s.eth ∧
    (State.mclkFault s a1).tio = s.tio := by
  have k1 := @State.lose_frame
  have k2 := @State.ite_frame
  unfold State.mclkFault
  simp [k1, k2]

theorem effMclkInLost_frame (s : State) :
    (effMclkInLost s).pending = s.pending ∧
    (effMclkInLost s).time = s.time ∧
    (effMclkInLost s).tick = s.tick ∧
    (effMclkInLost s).free = s.free ∧
    (effMclkInLost s).tl = s.tl ∧
    (effMclkInLost s).mu = s.mu ∧
    (effMclkInLost s).hk = s.hk ∧
    (effMclkInLost s).host = s.host ∧
    (effMclkInLost s).aux = s.aux ∧
    (effMclkInLost s).enc = s.enc ∧
    (effMclkInLost s).eng = s.eng ∧
    (effMclkInLost s).cp = s.cp ∧
    (effMclkInLost s).flk = s.flk ∧
    (effMclkInLost s).ring = s.ring ∧
    (effMclkInLost s).can = s.can ∧
    (effMclkInLost s).canPub = s.canPub ∧
    (effMclkInLost s).eth = s.eth ∧
    (effMclkInLost s).tio = s.tio := by
  have k1 := @State.mclkFault_frame
  have k2 := @State.ite_frame
  unfold effMclkInLost
  simp [k1, k2]

theorem effMclkInFreqWindow_frame (a0 : Nat) (a1 : Bool) (s : State) :
    (effMclkInFreqWindow a0 a1 s).pending = s.pending ∧
    (effMclkInFreqWindow a0 a1 s).time = s.time ∧
    (effMclkInFreqWindow a0 a1 s).tick = s.tick ∧
    (effMclkInFreqWindow a0 a1 s).free = s.free ∧
    (effMclkInFreqWindow a0 a1 s).tl = s.tl ∧
    (effMclkInFreqWindow a0 a1 s).mu = s.mu ∧
    (effMclkInFreqWindow a0 a1 s).hk = s.hk ∧
    (effMclkInFreqWindow a0 a1 s).host = s.host ∧
    (effMclkInFreqWindow a0 a1 s).mclk = s.mclk ∧
    (effMclkInFreqWindow a0 a1 s).aux = s.aux ∧
    (effMclkInFreqWindow a0 a1 s).enc = s.enc ∧
    (effMclkInFreqWindow a0 a1 s).eng = s.eng ∧
    (effMclkInFreqWindow a0 a1 s).cp = s.cp ∧
    (effMclkInFreqWindow a0 a1 s).ring = s.ring ∧
    (effMclkInFreqWindow a0 a1 s).can = s.can ∧
    (effMclkInFreqWindow a0 a1 s).canPub = s.canPub ∧
    (effMclkInFreqWindow a0 a1 s).eth = s.eth ∧
    (effMclkInFreqWindow a0 a1 s).tio = s.tio := by
  have k1 := @State.mclkFault_frame
  have k2 := @State.ite_frame
  unfold effMclkInFreqWindow
  simp [k1, k2]

theorem effMclkInReturn_frame (s : State) :
    (effMclkInReturn s).pending = s.pending ∧
    (effMclkInReturn s).time = s.time ∧
    (effMclkInReturn s).tick = s.tick ∧
    (effMclkInReturn s).free = s.free ∧
    (effMclkInReturn s).tl = s.tl ∧
    (effMclkInReturn s).mu = s.mu ∧
    (effMclkInReturn s).hk = s.hk ∧
    (effMclkInReturn s).log = s.log ∧
    (effMclkInReturn s).seqs = s.seqs ∧
    (effMclkInReturn s).host = s.host ∧
    (effMclkInReturn s).aux = s.aux ∧
    (effMclkInReturn s).enc = s.enc ∧
    (effMclkInReturn s).eng = s.eng ∧
    (effMclkInReturn s).slices = s.slices ∧
    (effMclkInReturn s).gl = s.gl ∧
    (effMclkInReturn s).ref = s.ref ∧
    (effMclkInReturn s).cp = s.cp ∧
    (effMclkInReturn s).flk = s.flk ∧
    (effMclkInReturn s).ring = s.ring ∧
    (effMclkInReturn s).can = s.can ∧
    (effMclkInReturn s).canPub = s.canPub ∧
    (effMclkInReturn s).eth = s.eth ∧
    (effMclkInReturn s).tio = s.tio ∧
    (effMclkInReturn s).dia = s.dia := by
  have k1 := @State.freshSd_frame
  have k2 := @State.ite_frame
  unfold effMclkInReturn
  simp [k1, k2]

theorem effSdMonitorRecover_frame (a0 : Fin 64) (s : State) :
    (effSdMonitorRecover a0 s).pending = s.pending ∧
    (effSdMonitorRecover a0 s).time = s.time ∧
    (effSdMonitorRecover a0 s).tick = s.tick ∧
    (effSdMonitorRecover a0 s).free = s.free ∧
    (effSdMonitorRecover a0 s).tl = s.tl ∧
    (effSdMonitorRecover a0 s).mu = s.mu ∧
    (effSdMonitorRecover a0 s).hk = s.hk ∧
    (effSdMonitorRecover a0 s).log = s.log ∧
    (effSdMonitorRecover a0 s).seqs = s.seqs ∧
    (effSdMonitorRecover a0 s).host = s.host ∧
    (effSdMonitorRecover a0 s).dict = s.dict ∧
    (effSdMonitorRecover a0 s).mclk = s.mclk ∧
    (effSdMonitorRecover a0 s).aux = s.aux ∧
    (effSdMonitorRecover a0 s).enc = s.enc ∧
    (effSdMonitorRecover a0 s).eng = s.eng ∧
    (effSdMonitorRecover a0 s).slices = s.slices ∧
    (effSdMonitorRecover a0 s).gl = s.gl ∧
    (effSdMonitorRecover a0 s).ref = s.ref ∧
    (effSdMonitorRecover a0 s).cp = s.cp ∧
    (effSdMonitorRecover a0 s).flk = s.flk ∧
    (effSdMonitorRecover a0 s).ring = s.ring ∧
    (effSdMonitorRecover a0 s).can = s.can ∧
    (effSdMonitorRecover a0 s).canPub = s.canPub ∧
    (effSdMonitorRecover a0 s).eth = s.eth ∧
    (effSdMonitorRecover a0 s).tio = s.tio ∧
    (effSdMonitorRecover a0 s).dia = s.dia := by
  have k1 := @State.ite_frame
  unfold effSdMonitorRecover
  dsimp only
  repeat' (first | (simp [k1]; done) | split)

theorem State.sampleRecord_frame (s : State) (a1 : Nat) (a2 : SdRes) (a3 : Nat) (a4 : Bool) (a5 : Bool) (a6 : Nat) :
    (State.sampleRecord s a1 a2 a3 a4 a5 a6).pending = s.pending ∧
    (State.sampleRecord s a1 a2 a3 a4 a5 a6).time = s.time ∧
    (State.sampleRecord s a1 a2 a3 a4 a5 a6).tick = s.tick ∧
    (State.sampleRecord s a1 a2 a3 a4 a5 a6).free = s.free ∧
    (State.sampleRecord s a1 a2 a3 a4 a5 a6).tl = s.tl ∧
    (State.sampleRecord s a1 a2 a3 a4 a5 a6).mu = s.mu ∧
    (State.sampleRecord s a1 a2 a3 a4 a5 a6).hk = s.hk ∧
    (State.sampleRecord s a1 a2 a3 a4 a5 a6).log = s.log ∧
    (State.sampleRecord s a1 a2 a3 a4 a5 a6).host = s.host ∧
    (State.sampleRecord s a1 a2 a3 a4 a5 a6).dict = s.dict ∧
    (State.sampleRecord s a1 a2 a3 a4 a5 a6).mclk = s.mclk ∧
    (State.sampleRecord s a1 a2 a3 a4 a5 a6).sd = s.sd ∧
    (State.sampleRecord s a1 a2 a3 a4 a5 a6).aux = s.aux ∧
    (State.sampleRecord s a1 a2 a3 a4 a5 a6).enc = s.enc ∧
    (State.sampleRecord s a1 a2 a3 a4 a5 a6).eng = s.eng ∧
    (State.sampleRecord s a1 a2 a3 a4 a5 a6).slices = s.slices ∧
    (State.sampleRecord s a1 a2 a3 a4 a5 a6).gl = s.gl ∧
    (State.sampleRecord s a1 a2 a3 a4 a5 a6).ref = s.ref ∧
    (State.sampleRecord s a1 a2 a3 a4 a5 a6).cp = s.cp ∧
    (State.sampleRecord s a1 a2 a3 a4 a5 a6).flk = s.flk ∧
    (State.sampleRecord s a1 a2 a3 a4 a5 a6).ring = s.ring ∧
    (State.sampleRecord s a1 a2 a3 a4 a5 a6).can = s.can ∧
    (State.sampleRecord s a1 a2 a3 a4 a5 a6).canPub = s.canPub ∧
    (State.sampleRecord s a1 a2 a3 a4 a5 a6).eth = s.eth ∧
    (State.sampleRecord s a1 a2 a3 a4 a5 a6).tio = s.tio := by
  have k1 := @State.record_frame
  unfold State.sampleRecord
  simp [k1]

theorem State.countResult_frame (s : State) (a1 : Nat) (a2 : Bool) :
    (State.countResult s a1 a2).pending = s.pending ∧
    (State.countResult s a1 a2).time = s.time ∧
    (State.countResult s a1 a2).tick = s.tick ∧
    (State.countResult s a1 a2).free = s.free ∧
    (State.countResult s a1 a2).tl = s.tl ∧
    (State.countResult s a1 a2).mu = s.mu ∧
    (State.countResult s a1 a2).hk = s.hk ∧
    (State.countResult s a1 a2).log = s.log ∧
    (State.countResult s a1 a2).seqs = s.seqs ∧
    (State.countResult s a1 a2).host = s.host ∧
    (State.countResult s a1 a2).mclk = s.mclk ∧
    (State.countResult s a1 a2).sd = s.sd ∧
    (State.countResult s a1 a2).aux = s.aux ∧
    (State.countResult s a1 a2).enc = s.enc ∧
    (State.countResult s a1 a2).eng = s.eng ∧
    (State.countResult s a1 a2).slices = s.slices ∧
    (State.countResult s a1 a2).gl = s.gl ∧
    (State.countResult s a1 a2).ref = s.ref ∧
    (State.countResult s a1 a2).cp = s.cp ∧
    (State.countResult s a1 a2).flk = s.flk ∧
    (State.countResult s a1 a2).ring = s.ring ∧
    (State.countResult s a1 a2).can = s.can ∧
    (State.countResult s a1 a2).canPub = s.canPub ∧
    (State.countResult s a1 a2).eth = s.eth ∧
    (State.countResult s a1 a2).tio = s.tio ∧
    (State.countResult s a1 a2).dia = s.dia := by
  have k1 := @State.ite_frame
  unfold State.countResult
  simp [k1]

theorem State.anchor_frame (s : State) (a1 : Nat) (a2 : Option Nat) :
    (State.anchor s a1 a2).pending = s.pending ∧
    (State.anchor s a1 a2).time = s.time ∧
    (State.anchor s a1 a2).tick = s.tick ∧
    (State.anchor s a1 a2).free = s.free ∧
    (State.anchor s a1 a2).tl = s.tl ∧
    (State.anchor s a1 a2).mu = s.mu ∧
    (State.anchor s a1 a2).hk = s.hk ∧
    (State.anchor s a1 a2).log = s.log ∧
    (State.anchor s a1 a2).seqs = s.seqs ∧
    (State.anchor s a1 a2).host = s.host ∧
    (State.anchor s a1 a2).dict = s.dict ∧
    (State.anchor s a1 a2).sd = s.sd ∧
    (State.anchor s a1 a2).aux = s.aux ∧
    (State.anchor s a1 a2).enc = s.enc ∧
    (State.anchor s a1 a2).eng = s.eng ∧
    (State.anchor s a1 a2).slices = s.slices ∧
    (State.anchor s a1 a2).gl = s.gl ∧
    (State.anchor s a1 a2).ref = s.ref ∧
    (State.anchor s a1 a2).cp = s.cp ∧
    (State.anchor s a1 a2).flk = s.flk ∧
    (State.anchor s a1 a2).ring = s.ring ∧
    (State.anchor s a1 a2).can = s.can ∧
    (State.anchor s a1 a2).canPub = s.canPub ∧
    (State.anchor s a1 a2).eth = s.eth ∧
    (State.anchor s a1 a2).tio = s.tio ∧
    (State.anchor s a1 a2).dia = s.dia := by
  have k1 := @State.ite_frame
  unfold State.anchor
  dsimp only
  repeat' (first | (simp [k1]; done) | split)

theorem State.ownResult_frame (s : State) (a1 : Nat) :
    (State.ownResult s a1).pending = s.pending ∧
    (State.ownResult s a1).time = s.time ∧
    (State.ownResult s a1).tick = s.tick ∧
    (State.ownResult s a1).free = s.free ∧
    (State.ownResult s a1).tl = s.tl ∧
    (State.ownResult s a1).mu = s.mu ∧
    (State.ownResult s a1).hk = s.hk ∧
    (State.ownResult s a1).log = s.log ∧
    (State.ownResult s a1).host = s.host ∧
    (State.ownResult s a1).aux = s.aux ∧
    (State.ownResult s a1).enc = s.enc ∧
    (State.ownResult s a1).eng = s.eng ∧
    (State.ownResult s a1).gl = s.gl ∧
    (State.ownResult s a1).ref = s.ref ∧
    (State.ownResult s a1).cp = s.cp ∧
    (State.ownResult s a1).flk = s.flk ∧
    (State.ownResult s a1).ring = s.ring ∧
    (State.ownResult s a1).can = s.can ∧
    (State.ownResult s a1).canPub = s.canPub ∧
    (State.ownResult s a1).eth = s.eth ∧
    (State.ownResult s a1).tio = s.tio := by
  have k1 := @State.anchor_frame
  have k2 := @State.countResult_frame
  have k3 := @State.sampleRecord_frame
  have k4 := @State.ite_frame
  unfold State.ownResult
  repeat' (first | (simp [k1, k2, k3, k4]; done) | split)

theorem State.deliverShadow_frame (s : State) (a1 : Nat) (a2 : Nat) (a3 : SdRes) :
    (State.deliverShadow s a1 a2 a3).pending = s.pending ∧
    (State.deliverShadow s a1 a2 a3).time = s.time ∧
    (State.deliverShadow s a1 a2 a3).tick = s.tick ∧
    (State.deliverShadow s a1 a2 a3).free = s.free ∧
    (State.deliverShadow s a1 a2 a3).tl = s.tl ∧
    (State.deliverShadow s a1 a2 a3).mu = s.mu ∧
    (State.deliverShadow s a1 a2 a3).hk = s.hk ∧
    (State.deliverShadow s a1 a2 a3).log = s.log ∧
    (State.deliverShadow s a1 a2 a3).host = s.host ∧
    (State.deliverShadow s a1 a2 a3).mclk = s.mclk ∧
    (State.deliverShadow s a1 a2 a3).sd = s.sd ∧
    (State.deliverShadow s a1 a2 a3).aux = s.aux ∧
    (State.deliverShadow s a1 a2 a3).enc = s.enc ∧
    (State.deliverShadow s a1 a2 a3).eng = s.eng ∧
    (State.deliverShadow s a1 a2 a3).slices = s.slices ∧
    (State.deliverShadow s a1 a2 a3).gl = s.gl ∧
    (State.deliverShadow s a1 a2 a3).ref = s.ref ∧
    (State.deliverShadow s a1 a2 a3).cp = s.cp ∧
    (State.deliverShadow s a1 a2 a3).flk = s.flk ∧
    (State.deliverShadow s a1 a2 a3).ring = s.ring ∧
    (State.deliverShadow s a1 a2 a3).can = s.can ∧
    (State.deliverShadow s a1 a2 a3).canPub = s.canPub ∧
    (State.deliverShadow s a1 a2 a3).eth = s.eth ∧
    (State.deliverShadow s a1 a2 a3).tio = s.tio := by
  have k1 := @State.countResult_frame
  have k2 := @State.sampleRecord_frame
  unfold State.deliverShadow
  simp [k1, k2]

theorem State.shadowResult_frame (s : State) (a1 : Nat) (a2 : Nat) (a3 : Nat) :
    (State.shadowResult s a1 a2 a3).pending = s.pending ∧
    (State.shadowResult s a1 a2 a3).time = s.time ∧
    (State.shadowResult s a1 a2 a3).tick = s.tick ∧
    (State.shadowResult s a1 a2 a3).free = s.free ∧
    (State.shadowResult s a1 a2 a3).tl = s.tl ∧
    (State.shadowResult s a1 a2 a3).mu = s.mu ∧
    (State.shadowResult s a1 a2 a3).hk = s.hk ∧
    (State.shadowResult s a1 a2 a3).log = s.log ∧
    (State.shadowResult s a1 a2 a3).host = s.host ∧
    (State.shadowResult s a1 a2 a3).sd = s.sd ∧
    (State.shadowResult s a1 a2 a3).aux = s.aux ∧
    (State.shadowResult s a1 a2 a3).enc = s.enc ∧
    (State.shadowResult s a1 a2 a3).eng = s.eng ∧
    (State.shadowResult s a1 a2 a3).gl = s.gl ∧
    (State.shadowResult s a1 a2 a3).ref = s.ref ∧
    (State.shadowResult s a1 a2 a3).cp = s.cp ∧
    (State.shadowResult s a1 a2 a3).flk = s.flk ∧
    (State.shadowResult s a1 a2 a3).ring = s.ring ∧
    (State.shadowResult s a1 a2 a3).can = s.can ∧
    (State.shadowResult s a1 a2 a3).canPub = s.canPub ∧
    (State.shadowResult s a1 a2 a3).eth = s.eth ∧
    (State.shadowResult s a1 a2 a3).tio = s.tio := by
  have k1 := @State.anchor_frame
  have k2 := @State.deliverShadow_frame
  have k3 := @State.ite_frame
  unfold State.shadowResult
  simp [k1, k2, k3]

theorem State.interp_frame (s : State) (a1 : Nat) (a2 : InterpReq) :
    (State.interp s a1 a2).pending = s.pending ∧
    (State.interp s a1 a2).time = s.time ∧
    (State.interp s a1 a2).tick = s.tick ∧
    (State.interp s a1 a2).free = s.free ∧
    (State.interp s a1 a2).tl = s.tl ∧
    (State.interp s a1 a2).mu = s.mu ∧
    (State.interp s a1 a2).hk = s.hk ∧
    (State.interp s a1 a2).log = s.log ∧
    (State.interp s a1 a2).host = s.host ∧
    (State.interp s a1 a2).mclk = s.mclk ∧
    (State.interp s a1 a2).sd = s.sd ∧
    (State.interp s a1 a2).aux = s.aux ∧
    (State.interp s a1 a2).enc = s.enc ∧
    (State.interp s a1 a2).eng = s.eng ∧
    (State.interp s a1 a2).gl = s.gl ∧
    (State.interp s a1 a2).ref = s.ref ∧
    (State.interp s a1 a2).cp = s.cp ∧
    (State.interp s a1 a2).flk = s.flk ∧
    (State.interp s a1 a2).ring = s.ring ∧
    (State.interp s a1 a2).can = s.can ∧
    (State.interp s a1 a2).canPub = s.canPub ∧
    (State.interp s a1 a2).eth = s.eth ∧
    (State.interp s a1 a2).tio = s.tio := by
  have k1 := @State.countResult_frame
  have k2 := @State.sampleRecord_frame
  have k3 := @State.ite_frame
  unfold State.interp
  dsimp only
  repeat' (first | (simp [k1, k2, k3]; done) | split)

theorem effSdInterpResult_frame (a0 : Fin 64) (s : State) :
    (effSdInterpResult a0 s).pending = s.pending ∧
    (effSdInterpResult a0 s).time = s.time ∧
    (effSdInterpResult a0 s).tick = s.tick ∧
    (effSdInterpResult a0 s).free = s.free ∧
    (effSdInterpResult a0 s).tl = s.tl ∧
    (effSdInterpResult a0 s).mu = s.mu ∧
    (effSdInterpResult a0 s).hk = s.hk ∧
    (effSdInterpResult a0 s).log = s.log ∧
    (effSdInterpResult a0 s).host = s.host ∧
    (effSdInterpResult a0 s).mclk = s.mclk ∧
    (effSdInterpResult a0 s).aux = s.aux ∧
    (effSdInterpResult a0 s).enc = s.enc ∧
    (effSdInterpResult a0 s).eng = s.eng ∧
    (effSdInterpResult a0 s).gl = s.gl ∧
    (effSdInterpResult a0 s).ref = s.ref ∧
    (effSdInterpResult a0 s).cp = s.cp ∧
    (effSdInterpResult a0 s).flk = s.flk ∧
    (effSdInterpResult a0 s).ring = s.ring ∧
    (effSdInterpResult a0 s).can = s.can ∧
    (effSdInterpResult a0 s).canPub = s.canPub ∧
    (effSdInterpResult a0 s).eth = s.eth ∧
    (effSdInterpResult a0 s).tio = s.tio := by
  have k1 := @State.interp_frame
  have k2 := @State.ite_frame
  unfold effSdInterpResult
  simp [k1, k2]

theorem State.askInterp_frame (s : State) (a1 : Nat) (a2 : Nat) (a3 : Stamp) (a4 : Bool) :
    (State.askInterp s a1 a2 a3 a4).pending = s.pending ∧
    (State.askInterp s a1 a2 a3 a4).time = s.time ∧
    (State.askInterp s a1 a2 a3 a4).tick = s.tick ∧
    (State.askInterp s a1 a2 a3 a4).free = s.free ∧
    (State.askInterp s a1 a2 a3 a4).tl = s.tl ∧
    (State.askInterp s a1 a2 a3 a4).mu = s.mu ∧
    (State.askInterp s a1 a2 a3 a4).hk = s.hk ∧
    (State.askInterp s a1 a2 a3 a4).log = s.log ∧
    (State.askInterp s a1 a2 a3 a4).seqs = s.seqs ∧
    (State.askInterp s a1 a2 a3 a4).host = s.host ∧
    (State.askInterp s a1 a2 a3 a4).dict = s.dict ∧
    (State.askInterp s a1 a2 a3 a4).mclk = s.mclk ∧
    (State.askInterp s a1 a2 a3 a4).aux = s.aux ∧
    (State.askInterp s a1 a2 a3 a4).enc = s.enc ∧
    (State.askInterp s a1 a2 a3 a4).eng = s.eng ∧
    (State.askInterp s a1 a2 a3 a4).slices = s.slices ∧
    (State.askInterp s a1 a2 a3 a4).gl = s.gl ∧
    (State.askInterp s a1 a2 a3 a4).ref = s.ref ∧
    (State.askInterp s a1 a2 a3 a4).cp = s.cp ∧
    (State.askInterp s a1 a2 a3 a4).flk = s.flk ∧
    (State.askInterp s a1 a2 a3 a4).ring = s.ring ∧
    (State.askInterp s a1 a2 a3 a4).can = s.can ∧
    (State.askInterp s a1 a2 a3 a4).canPub = s.canPub ∧
    (State.askInterp s a1 a2 a3 a4).eth = s.eth ∧
    (State.askInterp s a1 a2 a3 a4).tio = s.tio ∧
    (State.askInterp s a1 a2 a3 a4).dia = s.dia := by
  unfold State.askInterp
  simp

theorem State.fastTrip_frame (s : State) (a1 : Nat) (a2 : Bool) (a3 : Int) :
    (State.fastTrip s a1 a2 a3).pending = s.pending ∧
    (State.fastTrip s a1 a2 a3).time = s.time ∧
    (State.fastTrip s a1 a2 a3).tick = s.tick ∧
    (State.fastTrip s a1 a2 a3).free = s.free ∧
    (State.fastTrip s a1 a2 a3).tl = s.tl ∧
    (State.fastTrip s a1 a2 a3).mu = s.mu ∧
    (State.fastTrip s a1 a2 a3).hk = s.hk ∧
    (State.fastTrip s a1 a2 a3).host = s.host ∧
    (State.fastTrip s a1 a2 a3).mclk = s.mclk ∧
    (State.fastTrip s a1 a2 a3).aux = s.aux ∧
    (State.fastTrip s a1 a2 a3).enc = s.enc ∧
    (State.fastTrip s a1 a2 a3).eng = s.eng ∧
    (State.fastTrip s a1 a2 a3).cp = s.cp ∧
    (State.fastTrip s a1 a2 a3).flk = s.flk ∧
    (State.fastTrip s a1 a2 a3).ring = s.ring ∧
    (State.fastTrip s a1 a2 a3).can = s.can ∧
    (State.fastTrip s a1 a2 a3).canPub = s.canPub ∧
    (State.fastTrip s a1 a2 a3).eth = s.eth ∧
    (State.fastTrip s a1 a2 a3).tio = s.tio := by
  have k1 := @State.force_frame
  have k2 := @State.post_frame
  have k3 := @State.ite_frame
  unfold State.fastTrip
  dsimp only
  repeat' (first | (simp [k1, k2, k3]; done) | split)

theorem State.captureBit_frame (s : State) (a1 : Nat) (a2 : Bool) :
    (State.captureBit s a1 a2).pending = s.pending ∧
    (State.captureBit s a1 a2).time = s.time ∧
    (State.captureBit s a1 a2).tick = s.tick ∧
    (State.captureBit s a1 a2).free = s.free ∧
    (State.captureBit s a1 a2).tl = s.tl ∧
    (State.captureBit s a1 a2).mu = s.mu ∧
    (State.captureBit s a1 a2).hk = s.hk ∧
    (State.captureBit s a1 a2).host = s.host ∧
    (State.captureBit s a1 a2).mclk = s.mclk ∧
    (State.captureBit s a1 a2).aux = s.aux ∧
    (State.captureBit s a1 a2).enc = s.enc ∧
    (State.captureBit s a1 a2).eng = s.eng ∧
    (State.captureBit s a1 a2).cp = s.cp ∧
    (State.captureBit s a1 a2).flk = s.flk ∧
    (State.captureBit s a1 a2).ring = s.ring ∧
    (State.captureBit s a1 a2).can = s.can ∧
    (State.captureBit s a1 a2).canPub = s.canPub ∧
    (State.captureBit s a1 a2).eth = s.eth ∧
    (State.captureBit s a1 a2).tio = s.tio := by
  have k1 := @State.fastTrip_frame
  have k2 := @State.stuck_frame
  have k3 := @State.ite_frame
  unfold State.captureBit
  simp [k1, k2, k3]

theorem State.capture_frame (s : State) (a1 : Nat) (a2 : List Bool) :
    (State.capture s a1 a2).pending = s.pending ∧
    (State.capture s a1 a2).time = s.time ∧
    (State.capture s a1 a2).tick = s.tick ∧
    (State.capture s a1 a2).free = s.free ∧
    (State.capture s a1 a2).tl = s.tl ∧
    (State.capture s a1 a2).mu = s.mu ∧
    (State.capture s a1 a2).hk = s.hk ∧
    (State.capture s a1 a2).host = s.host ∧
    (State.capture s a1 a2).aux = s.aux ∧
    (State.capture s a1 a2).enc = s.enc ∧
    (State.capture s a1 a2).eng = s.eng ∧
    (State.capture s a1 a2).cp = s.cp ∧
    (State.capture s a1 a2).flk = s.flk ∧
    (State.capture s a1 a2).ring = s.ring ∧
    (State.capture s a1 a2).can = s.can ∧
    (State.capture s a1 a2).canPub = s.canPub ∧
    (State.capture s a1 a2).eth = s.eth ∧
    (State.capture s a1 a2).tio = s.tio := by
  have k1 := @State.captureBit_frame
  have k2 := @State.ite_frame
  unfold State.capture
  simp [k1, k2]

theorem effSdMainResult_frame (a0 : Fin 64) (a1 : Option (Fin 6 × Fin 16)) (a2 : List Bool) (s : State) :
    (effSdMainResult a0 a1 a2 s).pending = s.pending ∧
    (effSdMainResult a0 a1 a2 s).time = s.time ∧
    (effSdMainResult a0 a1 a2 s).tick = s.tick ∧
    (effSdMainResult a0 a1 a2 s).free = s.free ∧
    (effSdMainResult a0 a1 a2 s).tl = s.tl ∧
    (effSdMainResult a0 a1 a2 s).mu = s.mu ∧
    (effSdMainResult a0 a1 a2 s).hk = s.hk ∧
    (effSdMainResult a0 a1 a2 s).host = s.host ∧
    (effSdMainResult a0 a1 a2 s).aux = s.aux ∧
    (effSdMainResult a0 a1 a2 s).enc = s.enc ∧
    (effSdMainResult a0 a1 a2 s).eng = s.eng ∧
    (effSdMainResult a0 a1 a2 s).cp = s.cp ∧
    (effSdMainResult a0 a1 a2 s).flk = s.flk ∧
    (effSdMainResult a0 a1 a2 s).ring = s.ring ∧
    (effSdMainResult a0 a1 a2 s).can = s.can ∧
    (effSdMainResult a0 a1 a2 s).canPub = s.canPub ∧
    (effSdMainResult a0 a1 a2 s).eth = s.eth ∧
    (effSdMainResult a0 a1 a2 s).tio = s.tio := by
  have k1 := @State.capture_frame
  have k2 := @State.ownResult_frame
  have k3 := @State.shadowResult_frame
  have k4 := @State.ite_frame
  unfold effSdMainResult
  repeat' (first | (simp [k1, k2, k3, k4]; done) | split)

theorem effSdFastTrip_frame (a0 : Fin 64) (a1 : List Bool) (a2 : Bool) (s : State) :
    (effSdFastTrip a0 a1 a2 s).pending = s.pending ∧
    (effSdFastTrip a0 a1 a2 s).time = s.time ∧
    (effSdFastTrip a0 a1 a2 s).tick = s.tick ∧
    (effSdFastTrip a0 a1 a2 s).free = s.free ∧
    (effSdFastTrip a0 a1 a2 s).tl = s.tl ∧
    (effSdFastTrip a0 a1 a2 s).mu = s.mu ∧
    (effSdFastTrip a0 a1 a2 s).hk = s.hk ∧
    (effSdFastTrip a0 a1 a2 s).host = s.host ∧
    (effSdFastTrip a0 a1 a2 s).aux = s.aux ∧
    (effSdFastTrip a0 a1 a2 s).enc = s.enc ∧
    (effSdFastTrip a0 a1 a2 s).eng = s.eng ∧
    (effSdFastTrip a0 a1 a2 s).cp = s.cp ∧
    (effSdFastTrip a0 a1 a2 s).flk = s.flk ∧
    (effSdFastTrip a0 a1 a2 s).ring = s.ring ∧
    (effSdFastTrip a0 a1 a2 s).can = s.can ∧
    (effSdFastTrip a0 a1 a2 s).canPub = s.canPub ∧
    (effSdFastTrip a0 a1 a2 s).eth = s.eth ∧
    (effSdFastTrip a0 a1 a2 s).tio = s.tio := by
  have k1 := @State.capture_frame
  unfold effSdFastTrip
  simp [k1]

theorem effSdStuck_frame (a0 : SdBits) (s : State) :
    (effSdStuck a0 s).pending = s.pending ∧
    (effSdStuck a0 s).time = s.time ∧
    (effSdStuck a0 s).tick = s.tick ∧
    (effSdStuck a0 s).free = s.free ∧
    (effSdStuck a0 s).tl = s.tl ∧
    (effSdStuck a0 s).mu = s.mu ∧
    (effSdStuck a0 s).hk = s.hk ∧
    (effSdStuck a0 s).host = s.host ∧
    (effSdStuck a0 s).aux = s.aux ∧
    (effSdStuck a0 s).enc = s.enc ∧
    (effSdStuck a0 s).eng = s.eng ∧
    (effSdStuck a0 s).cp = s.cp ∧
    (effSdStuck a0 s).flk = s.flk ∧
    (effSdStuck a0 s).ring = s.ring ∧
    (effSdStuck a0 s).can = s.can ∧
    (effSdStuck a0 s).canPub = s.canPub ∧
    (effSdStuck a0 s).eth = s.eth ∧
    (effSdStuck a0 s).tio = s.tio := by
  have k1 := @State.capture_frame
  unfold effSdStuck
  simp [k1]

end Sys2Proof.Machine
end

