-- ==== Sys2Proof/Laws/AuxHk.lean ====
section
/-!
SUPPORT. What each operation of Machine/AuxHk.lean leaves as it was: the parts of State that it cannot change.
-/

namespace Sys2Proof.Machine

open Sys2Proof

theorem State.auxStart_frame (s : State) (a1 : Nat) (a2 : Nat) (a3 : Stamp) (a4 : Bool) (a5 : Bool) :
    (State.auxStart s a1 a2 a3 a4 a5).pending = s.pending ∧
    (State.auxStart s a1 a2 a3 a4 a5).time = s.time ∧
    (State.auxStart s a1 a2 a3 a4 a5).tick = s.tick ∧
    (State.auxStart s a1 a2 a3 a4 a5).free = s.free ∧
    (State.auxStart s a1 a2 a3 a4 a5).tl = s.tl ∧
    (State.auxStart s a1 a2 a3 a4 a5).mu = s.mu ∧
    (State.auxStart s a1 a2 a3 a4 a5).hk = s.hk ∧
    (State.auxStart s a1 a2 a3 a4 a5).log = s.log ∧
    (State.auxStart s a1 a2 a3 a4 a5).seqs = s.seqs ∧
    (State.auxStart s a1 a2 a3 a4 a5).host = s.host ∧
    (State.auxStart s a1 a2 a3 a4 a5).dict = s.dict ∧
    (State.auxStart s a1 a2 a3 a4 a5).mclk = s.mclk ∧
    (State.auxStart s a1 a2 a3 a4 a5).sd = s.sd ∧
    (State.auxStart s a1 a2 a3 a4 a5).enc = s.enc ∧
    (State.auxStart s a1 a2 a3 a4 a5).eng = s.eng ∧
    (State.auxStart s a1 a2 a3 a4 a5).slices = s.slices ∧
    (State.auxStart s a1 a2 a3 a4 a5).gl = s.gl ∧
    (State.auxStart s a1 a2 a3 a4 a5).ref = s.ref ∧
    (State.auxStart s a1 a2 a3 a4 a5).cp = s.cp ∧
    (State.auxStart s a1 a2 a3 a4 a5).flk = s.flk ∧
    (State.auxStart s a1 a2 a3 a4 a5).ring = s.ring ∧
    (State.auxStart s a1 a2 a3 a4 a5).can = s.can ∧
    (State.auxStart s a1 a2 a3 a4 a5).canPub = s.canPub ∧
    (State.auxStart s a1 a2 a3 a4 a5).eth = s.eth ∧
    (State.auxStart s a1 a2 a3 a4 a5).tio = s.tio ∧
    (State.auxStart s a1 a2 a3 a4 a5).dia = s.dia := by
  unfold State.auxStart
  simp

theorem State.auxValue_frame (s : State) (a1 : Nat) (a2 : Stamp) (a3 : F32) :
    (State.auxValue s a1 a2 a3).pending = s.pending ∧
    (State.auxValue s a1 a2 a3).time = s.time ∧
    (State.auxValue s a1 a2 a3).tick = s.tick ∧
    (State.auxValue s a1 a2 a3).free = s.free ∧
    (State.auxValue s a1 a2 a3).tl = s.tl ∧
    (State.auxValue s a1 a2 a3).mu = s.mu ∧
    (State.auxValue s a1 a2 a3).hk = s.hk ∧
    (State.auxValue s a1 a2 a3).log = s.log ∧
    (State.auxValue s a1 a2 a3).seqs = s.seqs ∧
    (State.auxValue s a1 a2 a3).host = s.host ∧
    (State.auxValue s a1 a2 a3).mclk = s.mclk ∧
    (State.auxValue s a1 a2 a3).sd = s.sd ∧
    (State.auxValue s a1 a2 a3).aux = s.aux ∧
    (State.auxValue s a1 a2 a3).enc = s.enc ∧
    (State.auxValue s a1 a2 a3).eng = s.eng ∧
    (State.auxValue s a1 a2 a3).slices = s.slices ∧
    (State.auxValue s a1 a2 a3).gl = s.gl ∧
    (State.auxValue s a1 a2 a3).ref = s.ref ∧
    (State.auxValue s a1 a2 a3).cp = s.cp ∧
    (State.auxValue s a1 a2 a3).flk = s.flk ∧
    (State.auxValue s a1 a2 a3).ring = s.ring ∧
    (State.auxValue s a1 a2 a3).can = s.can ∧
    (State.auxValue s a1 a2 a3).canPub = s.canPub ∧
    (State.auxValue s a1 a2 a3).eth = s.eth ∧
    (State.auxValue s a1 a2 a3).tio = s.tio ∧
    (State.auxValue s a1 a2 a3).dia = s.dia := by
  unfold State.auxValue
  simp

theorem State.auxDeliver_frame (s : State) (a1 : Nat) (a2 : AuxConv) (a3 : Stamp) (a4 : Int) (a5 : F32) :
    (State.auxDeliver s a1 a2 a3 a4 a5).pending = s.pending ∧
    (State.auxDeliver s a1 a2 a3 a4 a5).time = s.time ∧
    (State.auxDeliver s a1 a2 a3 a4 a5).tick = s.tick ∧
    (State.auxDeliver s a1 a2 a3 a4 a5).free = s.free ∧
    (State.auxDeliver s a1 a2 a3 a4 a5).tl = s.tl ∧
    (State.auxDeliver s a1 a2 a3 a4 a5).mu = s.mu ∧
    (State.auxDeliver s a1 a2 a3 a4 a5).hk = s.hk ∧
    (State.auxDeliver s a1 a2 a3 a4 a5).log = s.log ∧
    (State.auxDeliver s a1 a2 a3 a4 a5).host = s.host ∧
    (State.auxDeliver s a1 a2 a3 a4 a5).mclk = s.mclk ∧
    (State.auxDeliver s a1 a2 a3 a4 a5).sd = s.sd ∧
    (State.auxDeliver s a1 a2 a3 a4 a5).enc = s.enc ∧
    (State.auxDeliver s a1 a2 a3 a4 a5).eng = s.eng ∧
    (State.auxDeliver s a1 a2 a3 a4 a5).slices = s.slices ∧
    (State.auxDeliver s a1 a2 a3 a4 a5).gl = s.gl ∧
    (State.auxDeliver s a1 a2 a3 a4 a5).ref = s.ref ∧
    (State.auxDeliver s a1 a2 a3 a4 a5).cp = s.cp ∧
    (State.auxDeliver s a1 a2 a3 a4 a5).can = s.can ∧
    (State.auxDeliver s a1 a2 a3 a4 a5).canPub = s.canPub ∧
    (State.auxDeliver s a1 a2 a3 a4 a5).eth = s.eth ∧
    (State.auxDeliver s a1 a2 a3 a4 a5).tio = s.tio := by
  have k1 := @State.auxValue_frame
  have k2 := @State.mirrorPut_frame
  have k3 := @State.record_frame
  have k4 := @State.ite_frame
  unfold State.auxDeliver
  simp [k1, k2, k3, k4]

theorem State.auxEnd_frame (s : State) (a1 : Nat) :
    (State.auxEnd s a1).pending = s.pending ∧
    (State.auxEnd s a1).time = s.time ∧
    (State.auxEnd s a1).tick = s.tick ∧
    (State.auxEnd s a1).free = s.free ∧
    (State.auxEnd s a1).tl = s.tl ∧
    (State.auxEnd s a1).mu = s.mu ∧
    (State.auxEnd s a1).hk = s.hk ∧
    (State.auxEnd s a1).host = s.host ∧
    (State.auxEnd s a1).mclk = s.mclk ∧
    (State.auxEnd s a1).sd = s.sd ∧
    (State.auxEnd s a1).enc = s.enc ∧
    (State.auxEnd s a1).eng = s.eng ∧
    (State.auxEnd s a1).slices = s.slices ∧
    (State.auxEnd s a1).gl = s.gl ∧
    (State.auxEnd s a1).ref = s.ref ∧
    (State.auxEnd s a1).cp = s.cp ∧
    (State.auxEnd s a1).can = s.can ∧
    (State.auxEnd s a1).canPub = s.canPub ∧
    (State.auxEnd s a1).eth = s.eth ∧
    (State.auxEnd s a1).tio = s.tio := by
  have k1 := @State.auxDeliver_frame
  have k2 := @State.auxStart_frame
  have k3 := @State.post_frame
  have k4 := @State.ite_frame
  unfold State.auxEnd
  dsimp only
  repeat' (first | (simp [k1, k2, k3, k4]; done) | split)

theorem State.auxTrigger_frame (s : State) (a1 : Nat) (a2 : Nat) (a3 : Stamp) (a4 : Bool) :
    (State.auxTrigger s a1 a2 a3 a4).pending = s.pending ∧
    (State.auxTrigger s a1 a2 a3 a4).time = s.time ∧
    (State.auxTrigger s a1 a2 a3 a4).tick = s.tick ∧
    (State.auxTrigger s a1 a2 a3 a4).free = s.free ∧
    (State.auxTrigger s a1 a2 a3 a4).tl = s.tl ∧
    (State.auxTrigger s a1 a2 a3 a4).mu = s.mu ∧
    (State.auxTrigger s a1 a2 a3 a4).hk = s.hk ∧
    (State.auxTrigger s a1 a2 a3 a4).host = s.host ∧
    (State.auxTrigger s a1 a2 a3 a4).mclk = s.mclk ∧
    (State.auxTrigger s a1 a2 a3 a4).sd = s.sd ∧
    (State.auxTrigger s a1 a2 a3 a4).enc = s.enc ∧
    (State.auxTrigger s a1 a2 a3 a4).eng = s.eng ∧
    (State.auxTrigger s a1 a2 a3 a4).slices = s.slices ∧
    (State.auxTrigger s a1 a2 a3 a4).gl = s.gl ∧
    (State.auxTrigger s a1 a2 a3 a4).ref = s.ref ∧
    (State.auxTrigger s a1 a2 a3 a4).cp = s.cp ∧
    (State.auxTrigger s a1 a2 a3 a4).can = s.can ∧
    (State.auxTrigger s a1 a2 a3 a4).canPub = s.canPub ∧
    (State.auxTrigger s a1 a2 a3 a4).eth = s.eth ∧
    (State.auxTrigger s a1 a2 a3 a4).tio = s.tio := by
  have k1 := @State.auxEnd_frame
  have k2 := @State.auxStart_frame
  have k3 := @State.post_frame
  have k4 := @State.ite_frame
  unfold State.auxTrigger
  simp [k1, k2, k3, k4]

theorem effAuxSampleEnd_frame (a0 : Fin 4) (a1 : Int) (s : State) :
    (effAuxSampleEnd a0 a1 s).pending = s.pending ∧
    (effAuxSampleEnd a0 a1 s).time = s.time ∧
    (effAuxSampleEnd a0 a1 s).tick = s.tick ∧
    (effAuxSampleEnd a0 a1 s).free = s.free ∧
    (effAuxSampleEnd a0 a1 s).tl = s.tl ∧
    (effAuxSampleEnd a0 a1 s).mu = s.mu ∧
    (effAuxSampleEnd a0 a1 s).hk = s.hk ∧
    (effAuxSampleEnd a0 a1 s).log = s.log ∧
    (effAuxSampleEnd a0 a1 s).seqs = s.seqs ∧
    (effAuxSampleEnd a0 a1 s).host = s.host ∧
    (effAuxSampleEnd a0 a1 s).dict = s.dict ∧
    (effAuxSampleEnd a0 a1 s).mclk = s.mclk ∧
    (effAuxSampleEnd a0 a1 s).sd = s.sd ∧
    (effAuxSampleEnd a0 a1 s).enc = s.enc ∧
    (effAuxSampleEnd a0 a1 s).eng = s.eng ∧
    (effAuxSampleEnd a0 a1 s).slices = s.slices ∧
    (effAuxSampleEnd a0 a1 s).gl = s.gl ∧
    (effAuxSampleEnd a0 a1 s).ref = s.ref ∧
    (effAuxSampleEnd a0 a1 s).cp = s.cp ∧
    (effAuxSampleEnd a0 a1 s).flk = s.flk ∧
    (effAuxSampleEnd a0 a1 s).ring = s.ring ∧
    (effAuxSampleEnd a0 a1 s).can = s.can ∧
    (effAuxSampleEnd a0 a1 s).canPub = s.canPub ∧
    (effAuxSampleEnd a0 a1 s).eth = s.eth ∧
    (effAuxSampleEnd a0 a1 s).tio = s.tio ∧
    (effAuxSampleEnd a0 a1 s).dia = s.dia := by
  unfold effAuxSampleEnd
  simp

theorem effAuxConversionEnd_frame (a0 : Fin 4) (s : State) :
    (effAuxConversionEnd a0 s).pending = s.pending ∧
    (effAuxConversionEnd a0 s).time = s.time ∧
    (effAuxConversionEnd a0 s).tick = s.tick ∧
    (effAuxConversionEnd a0 s).free = s.free ∧
    (effAuxConversionEnd a0 s).tl = s.tl ∧
    (effAuxConversionEnd a0 s).mu = s.mu ∧
    (effAuxConversionEnd a0 s).hk = s.hk ∧
    (effAuxConversionEnd a0 s).host = s.host ∧
    (effAuxConversionEnd a0 s).mclk = s.mclk ∧
    (effAuxConversionEnd a0 s).sd = s.sd ∧
    (effAuxConversionEnd a0 s).enc = s.enc ∧
    (effAuxConversionEnd a0 s).eng = s.eng ∧
    (effAuxConversionEnd a0 s).slices = s.slices ∧
    (effAuxConversionEnd a0 s).gl = s.gl ∧
    (effAuxConversionEnd a0 s).ref = s.ref ∧
    (effAuxConversionEnd a0 s).cp = s.cp ∧
    (effAuxConversionEnd a0 s).can = s.can ∧
    (effAuxConversionEnd a0 s).canPub = s.canPub ∧
    (effAuxConversionEnd a0 s).eth = s.eth ∧
    (effAuxConversionEnd a0 s).tio = s.tio := by
  have k1 := @State.auxEnd_frame
  unfold effAuxConversionEnd
  simp [k1]

theorem effAuxPowerDown_frame (a0 : Fin 4) (s : State) :
    (effAuxPowerDown a0 s).pending = s.pending ∧
    (effAuxPowerDown a0 s).time = s.time ∧
    (effAuxPowerDown a0 s).tick = s.tick ∧
    (effAuxPowerDown a0 s).free = s.free ∧
    (effAuxPowerDown a0 s).tl = s.tl ∧
    (effAuxPowerDown a0 s).mu = s.mu ∧
    (effAuxPowerDown a0 s).hk = s.hk ∧
    (effAuxPowerDown a0 s).log = s.log ∧
    (effAuxPowerDown a0 s).seqs = s.seqs ∧
    (effAuxPowerDown a0 s).host = s.host ∧
    (effAuxPowerDown a0 s).dict = s.dict ∧
    (effAuxPowerDown a0 s).mclk = s.mclk ∧
    (effAuxPowerDown a0 s).sd = s.sd ∧
    (effAuxPowerDown a0 s).enc = s.enc ∧
    (effAuxPowerDown a0 s).eng = s.eng ∧
    (effAuxPowerDown a0 s).slices = s.slices ∧
    (effAuxPowerDown a0 s).gl = s.gl ∧
    (effAuxPowerDown a0 s).ref = s.ref ∧
    (effAuxPowerDown a0 s).cp = s.cp ∧
    (effAuxPowerDown a0 s).flk = s.flk ∧
    (effAuxPowerDown a0 s).ring = s.ring ∧
    (effAuxPowerDown a0 s).can = s.can ∧
    (effAuxPowerDown a0 s).canPub = s.canPub ∧
    (effAuxPowerDown a0 s).eth = s.eth ∧
    (effAuxPowerDown a0 s).tio = s.tio ∧
    (effAuxPowerDown a0 s).dia = s.dia := by
  unfold effAuxPowerDown
  simp

theorem State.auxReinit_frame (s : State) (a1 : Nat) :
    (State.auxReinit s a1).pending = s.pending ∧
    (State.auxReinit s a1).time = s.time ∧
    (State.auxReinit s a1).tick = s.tick ∧
    (State.auxReinit s a1).free = s.free ∧
    (State.auxReinit s a1).tl = s.tl ∧
    (State.auxReinit s a1).mu = s.mu ∧
    (State.auxReinit s a1).hk = s.hk ∧
    (State.auxReinit s a1).host = s.host ∧
    (State.auxReinit s a1).mclk = s.mclk ∧
    (State.auxReinit s a1).sd = s.sd ∧
    (State.auxReinit s a1).enc = s.enc ∧
    (State.auxReinit s a1).eng = s.eng ∧
    (State.auxReinit s a1).slices = s.slices ∧
    (State.auxReinit s a1).gl = s.gl ∧
    (State.auxReinit s a1).ref = s.ref ∧
    (State.auxReinit s a1).cp = s.cp ∧
    (State.auxReinit s a1).flk = s.flk ∧
    (State.auxReinit s a1).ring = s.ring ∧
    (State.auxReinit s a1).can = s.can ∧
    (State.auxReinit s a1).canPub = s.canPub ∧
    (State.auxReinit s a1).eth = s.eth ∧
    (State.auxReinit s a1).tio = s.tio := by
  have k1 := @State.post_frame
  unfold State.auxReinit
  simp [k1]

theorem State.setEnforced_frame (s : State) (a1 : Bool) :
    (State.setEnforced s a1).pending = s.pending ∧
    (State.setEnforced s a1).time = s.time ∧
    (State.setEnforced s a1).tick = s.tick ∧
    (State.setEnforced s a1).free = s.free ∧
    (State.setEnforced s a1).tl = s.tl ∧
    (State.setEnforced s a1).mu = s.mu ∧
    (State.setEnforced s a1).hk = s.hk ∧
    (State.setEnforced s a1).mclk = s.mclk ∧
    (State.setEnforced s a1).sd = s.sd ∧
    (State.setEnforced s a1).aux = s.aux ∧
    (State.setEnforced s a1).enc = s.enc ∧
    (State.setEnforced s a1).slices = s.slices ∧
    (State.setEnforced s a1).gl = s.gl ∧
    (State.setEnforced s a1).ref = s.ref ∧
    (State.setEnforced s a1).cp = s.cp ∧
    (State.setEnforced s a1).flk = s.flk ∧
    (State.setEnforced s a1).ring = s.ring ∧
    (State.setEnforced s a1).can = s.can ∧
    (State.setEnforced s a1).canPub = s.canPub ∧
    (State.setEnforced s a1).eth = s.eth ∧
    (State.setEnforced s a1).tio = s.tio := by
  have k1 := @State.devEvent_frame
  have k2 := @State.post_frame
  have k3 := @State.ite_frame
  unfold State.setEnforced
  simp [k1, k2, k3]

theorem State.throttleMirror_frame (s : State) :
    (State.throttleMirror s).pending = s.pending ∧
    (State.throttleMirror s).time = s.time ∧
    (State.throttleMirror s).tick = s.tick ∧
    (State.throttleMirror s).free = s.free ∧
    (State.throttleMirror s).tl = s.tl ∧
    (State.throttleMirror s).mu = s.mu ∧
    (State.throttleMirror s).hk = s.hk ∧
    (State.throttleMirror s).log = s.log ∧
    (State.throttleMirror s).host = s.host ∧
    (State.throttleMirror s).mclk = s.mclk ∧
    (State.throttleMirror s).sd = s.sd ∧
    (State.throttleMirror s).aux = s.aux ∧
    (State.throttleMirror s).enc = s.enc ∧
    (State.throttleMirror s).eng = s.eng ∧
    (State.throttleMirror s).slices = s.slices ∧
    (State.throttleMirror s).gl = s.gl ∧
    (State.throttleMirror s).ref = s.ref ∧
    (State.throttleMirror s).cp = s.cp ∧
    (State.throttleMirror s).can = s.can ∧
    (State.throttleMirror s).canPub = s.canPub ∧
    (State.throttleMirror s).eth = s.eth ∧
    (State.throttleMirror s).tio = s.tio := by
  have k1 := @State.mirrorPut_frame
  have k2 := @State.ite_frame
  unfold State.throttleMirror
  simp [k1, k2]

theorem State.enforceOwn_frame (s : State) (a1 : Bool) :
    (State.enforceOwn s a1).pending = s.pending ∧
    (State.enforceOwn s a1).time = s.time ∧
    (State.enforceOwn s a1).tick = s.tick ∧
    (State.enforceOwn s a1).free = s.free ∧
    (State.enforceOwn s a1).tl = s.tl ∧
    (State.enforceOwn s a1).mu = s.mu ∧
    (State.enforceOwn s a1).mclk = s.mclk ∧
    (State.enforceOwn s a1).sd = s.sd ∧
    (State.enforceOwn s a1).aux = s.aux ∧
    (State.enforceOwn s a1).enc = s.enc ∧
    (State.enforceOwn s a1).slices = s.slices ∧
    (State.enforceOwn s a1).gl = s.gl ∧
    (State.enforceOwn s a1).ref = s.ref ∧
    (State.enforceOwn s a1).cp = s.cp ∧
    (State.enforceOwn s a1).can = s.can ∧
    (State.enforceOwn s a1).canPub = s.canPub ∧
    (State.enforceOwn s a1).eth = s.eth ∧
    (State.enforceOwn s a1).tio = s.tio := by
  have k1 := @State.setEnforced_frame
  have k2 := @State.throttleMirror_frame
  have k3 := @State.ite_frame
  unfold State.enforceOwn
  simp [k1, k2, k3]

theorem State.thermRequest_frame (s : State) :
    (State.thermRequest s).pending = s.pending ∧
    (State.thermRequest s).time = s.time ∧
    (State.thermRequest s).tick = s.tick ∧
    (State.thermRequest s).free = s.free ∧
    (State.thermRequest s).tl = s.tl ∧
    (State.thermRequest s).mu = s.mu ∧
    (State.thermRequest s).mclk = s.mclk ∧
    (State.thermRequest s).sd = s.sd ∧
    (State.thermRequest s).aux = s.aux ∧
    (State.thermRequest s).enc = s.enc ∧
    (State.thermRequest s).eng = s.eng ∧
    (State.thermRequest s).slices = s.slices ∧
    (State.thermRequest s).gl = s.gl ∧
    (State.thermRequest s).ref = s.ref ∧
    (State.thermRequest s).cp = s.cp ∧
    (State.thermRequest s).flk = s.flk ∧
    (State.thermRequest s).ring = s.ring ∧
    (State.thermRequest s).can = s.can ∧
    (State.thermRequest s).canPub = s.canPub ∧
    (State.thermRequest s).eth = s.eth ∧
    (State.thermRequest s).tio = s.tio := by
  have k1 := @State.devEvent_frame
  have k2 := @State.post_frame
  have k3 := @State.ite_frame
  unfold State.thermRequest
  simp [k1, k2, k3]

theorem effThrottleEnforce_frame (s : State) :
    (effThrottleEnforce s).pending = s.pending ∧
    (effThrottleEnforce s).time = s.time ∧
    (effThrottleEnforce s).tick = s.tick ∧
    (effThrottleEnforce s).free = s.free ∧
    (effThrottleEnforce s).tl = s.tl ∧
    (effThrottleEnforce s).mu = s.mu ∧
    (effThrottleEnforce s).mclk = s.mclk ∧
    (effThrottleEnforce s).sd = s.sd ∧
    (effThrottleEnforce s).aux = s.aux ∧
    (effThrottleEnforce s).enc = s.enc ∧
    (effThrottleEnforce s).slices = s.slices ∧
    (effThrottleEnforce s).gl = s.gl ∧
    (effThrottleEnforce s).ref = s.ref ∧
    (effThrottleEnforce s).cp = s.cp ∧
    (effThrottleEnforce s).can = s.can ∧
    (effThrottleEnforce s).canPub = s.canPub ∧
    (effThrottleEnforce s).eth = s.eth ∧
    (effThrottleEnforce s).tio = s.tio := by
  have k1 := @State.enforceOwn_frame
  have k2 := @State.ite_frame
  unfold effThrottleEnforce
  repeat' (first | (simp [k1, k2]; done) | split)

theorem State.thermClear_frame (s : State) :
    (State.thermClear s).pending = s.pending ∧
    (State.thermClear s).time = s.time ∧
    (State.thermClear s).tick = s.tick ∧
    (State.thermClear s).free = s.free ∧
    (State.thermClear s).tl = s.tl ∧
    (State.thermClear s).mu = s.mu ∧
    (State.thermClear s).mclk = s.mclk ∧
    (State.thermClear s).sd = s.sd ∧
    (State.thermClear s).aux = s.aux ∧
    (State.thermClear s).enc = s.enc ∧
    (State.thermClear s).slices = s.slices ∧
    (State.thermClear s).gl = s.gl ∧
    (State.thermClear s).ref = s.ref ∧
    (State.thermClear s).cp = s.cp ∧
    (State.thermClear s).can = s.can ∧
    (State.thermClear s).canPub = s.canPub ∧
    (State.thermClear s).eth = s.eth ∧
    (State.thermClear s).tio = s.tio := by
  have k1 := @State.devEvent_frame
  have k2 := @State.enforceOwn_frame
  have k3 := @State.post_frame
  have k4 := @State.ite_frame
  unfold State.thermClear
  simp [k1, k2, k3, k4]

theorem State.thermStopSlice_frame (s : State) (a1 : Nat) :
    (State.thermStopSlice s a1).pending = s.pending ∧
    (State.thermStopSlice s a1).time = s.time ∧
    (State.thermStopSlice s a1).tick = s.tick ∧
    (State.thermStopSlice s a1).free = s.free ∧
    (State.thermStopSlice s a1).tl = s.tl ∧
    (State.thermStopSlice s a1).mu = s.mu ∧
    (State.thermStopSlice s a1).hk = s.hk ∧
    (State.thermStopSlice s a1).host = s.host ∧
    (State.thermStopSlice s a1).mclk = s.mclk ∧
    (State.thermStopSlice s a1).sd = s.sd ∧
    (State.thermStopSlice s a1).aux = s.aux ∧
    (State.thermStopSlice s a1).enc = s.enc ∧
    (State.thermStopSlice s a1).eng = s.eng ∧
    (State.thermStopSlice s a1).gl = s.gl ∧
    (State.thermStopSlice s a1).ref = s.ref ∧
    (State.thermStopSlice s a1).cp = s.cp ∧
    (State.thermStopSlice s a1).flk = s.flk ∧
    (State.thermStopSlice s a1).ring = s.ring ∧
    (State.thermStopSlice s a1).can = s.can ∧
    (State.thermStopSlice s a1).canPub = s.canPub ∧
    (State.thermStopSlice s a1).eth = s.eth ∧
    (State.thermStopSlice s a1).tio = s.tio := by
  have k1 := @State.stop_frame
  have k2 := @State.ite_frame
  unfold State.thermStopSlice
  repeat' (first | (simp [k1, k2]; done) | split)

theorem State.thermalHold_frame (s : State) :
    (State.thermalHold s).pending = s.pending ∧
    (State.thermalHold s).tick = s.tick ∧
    (State.thermalHold s).log = s.log ∧
    (State.thermalHold s).seqs = s.seqs := by
  have k1 := @State.domainReset_frame
  have k2 := @State.setPhase_frame
  unfold State.thermalHold
  simp [k1, k2]

theorem State.thermalShutdown_frame (s : State) :
    (State.thermalShutdown s).pending = s.pending ∧
    (State.thermalShutdown s).tick = s.tick := by
  have k1 := @State.post_frame
  have k2 := @State.setRole_frame
  have k3 := @State.thermStopSlice_frame
  have k4 := @State.thermalHold_frame
  have k5 := @State.ite_frame
  unfold State.thermalShutdown
  simp [k1, k2, k3, k4, k5]

theorem effThermalStopDeadline_frame (s : State) :
    (effThermalStopDeadline s).pending = s.pending ∧
    (effThermalStopDeadline s).time = s.time ∧
    (effThermalStopDeadline s).tick = s.tick ∧
    (effThermalStopDeadline s).free = s.free ∧
    (effThermalStopDeadline s).tl = s.tl ∧
    (effThermalStopDeadline s).mu = s.mu ∧
    (effThermalStopDeadline s).hk = s.hk ∧
    (effThermalStopDeadline s).host = s.host ∧
    (effThermalStopDeadline s).mclk = s.mclk ∧
    (effThermalStopDeadline s).sd = s.sd ∧
    (effThermalStopDeadline s).aux = s.aux ∧
    (effThermalStopDeadline s).enc = s.enc ∧
    (effThermalStopDeadline s).eng = s.eng ∧
    (effThermalStopDeadline s).gl = s.gl ∧
    (effThermalStopDeadline s).ref = s.ref ∧
    (effThermalStopDeadline s).cp = s.cp ∧
    (effThermalStopDeadline s).flk = s.flk ∧
    (effThermalStopDeadline s).ring = s.ring ∧
    (effThermalStopDeadline s).can = s.can ∧
    (effThermalStopDeadline s).canPub = s.canPub ∧
    (effThermalStopDeadline s).eth = s.eth ∧
    (effThermalStopDeadline s).tio = s.tio := by
  have k1 := @State.endDischarge_frame
  have k2 := @State.go_frame
  have k3 := @State.ite_frame
  unfold effThermalStopDeadline
  (repeat' (first | split | simp [k1, k2, k3])) <;> (repeat' apply And.intro) <;> (first | rw [foldl_pending] | rw [foldl_time] | rw [foldl_tick] | rw [foldl_free] | rw [foldl_tl] | rw [foldl_mu] | rw [foldl_hk] | rw [foldl_host] | rw [foldl_mclk] | rw [foldl_sd] | rw [foldl_aux] | rw [foldl_enc] | rw [foldl_eng] | rw [foldl_gl] | rw [foldl_ref] | rw [foldl_cp] | rw [foldl_flk] | rw [foldl_ring] | rw [foldl_can] | rw [foldl_canPub] | rw [foldl_eth] | rw [foldl_tio] | skip) <;> intros <;> (repeat' (first | split | simp [k1, k2, k3]))

theorem effThermalHoldEntry_frame (s : State) :
    (effThermalHoldEntry s).pending = s.pending ∧
    (effThermalHoldEntry s).tick = s.tick ∧
    (effThermalHoldEntry s).log = s.log ∧
    (effThermalHoldEntry s).seqs = s.seqs := by
  have k1 := @State.thermalHold_frame
  have k2 := @State.ite_frame
  unfold effThermalHoldEntry
  repeat' (first | (simp [k1, k2]; done) | split)

theorem effHkSlot_frame (a0 : F32) (s : State) :
    (effHkSlot a0 s).pending = s.pending ∧
    (effHkSlot a0 s).time = s.time ∧
    (effHkSlot a0 s).tick = s.tick ∧
    (effHkSlot a0 s).free = s.free ∧
    (effHkSlot a0 s).tl = s.tl ∧
    (effHkSlot a0 s).mu = s.mu ∧
    (effHkSlot a0 s).log = s.log ∧
    (effHkSlot a0 s).seqs = s.seqs ∧
    (effHkSlot a0 s).host = s.host ∧
    (effHkSlot a0 s).dict = s.dict ∧
    (effHkSlot a0 s).mclk = s.mclk ∧
    (effHkSlot a0 s).sd = s.sd ∧
    (effHkSlot a0 s).aux = s.aux ∧
    (effHkSlot a0 s).enc = s.enc ∧
    (effHkSlot a0 s).eng = s.eng ∧
    (effHkSlot a0 s).slices = s.slices ∧
    (effHkSlot a0 s).gl = s.gl ∧
    (effHkSlot a0 s).ref = s.ref ∧
    (effHkSlot a0 s).cp = s.cp ∧
    (effHkSlot a0 s).flk = s.flk ∧
    (effHkSlot a0 s).ring = s.ring ∧
    (effHkSlot a0 s).can = s.can ∧
    (effHkSlot a0 s).canPub = s.canPub ∧
    (effHkSlot a0 s).eth = s.eth ∧
    (effHkSlot a0 s).tio = s.tio ∧
    (effHkSlot a0 s).dia = s.dia := by
  have k1 := @State.ite_frame
  unfold effHkSlot
  simp [k1]

theorem State.hkRails_frame (s : State) :
    (State.hkRails s).pending = s.pending ∧
    (State.hkRails s).time = s.time ∧
    (State.hkRails s).tick = s.tick ∧
    (State.hkRails s).free = s.free ∧
    (State.hkRails s).tl = s.tl ∧
    (State.hkRails s).mu = s.mu ∧
    (State.hkRails s).host = s.host ∧
    (State.hkRails s).mclk = s.mclk ∧
    (State.hkRails s).sd = s.sd ∧
    (State.hkRails s).aux = s.aux ∧
    (State.hkRails s).enc = s.enc ∧
    (State.hkRails s).eng = s.eng ∧
    (State.hkRails s).slices = s.slices ∧
    (State.hkRails s).gl = s.gl ∧
    (State.hkRails s).ref = s.ref ∧
    (State.hkRails s).cp = s.cp ∧
    (State.hkRails s).flk = s.flk ∧
    (State.hkRails s).ring = s.ring ∧
    (State.hkRails s).can = s.can ∧
    (State.hkRails s).canPub = s.canPub ∧
    (State.hkRails s).eth = s.eth ∧
    (State.hkRails s).tio = s.tio := by
  have k1 := @State.post_frame
  have k2 := @State.ite_frame
  unfold State.hkRails
  simp [k1, k2]

theorem State.hkTrim_frame (s : State) :
    (State.hkTrim s).pending = s.pending ∧
    (State.hkTrim s).time = s.time ∧
    (State.hkTrim s).tick = s.tick ∧
    (State.hkTrim s).free = s.free ∧
    (State.hkTrim s).tl = s.tl ∧
    (State.hkTrim s).mu = s.mu ∧
    (State.hkTrim s).log = s.log ∧
    (State.hkTrim s).seqs = s.seqs ∧
    (State.hkTrim s).host = s.host ∧
    (State.hkTrim s).dict = s.dict ∧
    (State.hkTrim s).mclk = s.mclk ∧
    (State.hkTrim s).sd = s.sd ∧
    (State.hkTrim s).aux = s.aux ∧
    (State.hkTrim s).enc = s.enc ∧
    (State.hkTrim s).eng = s.eng ∧
    (State.hkTrim s).slices = s.slices ∧
    (State.hkTrim s).gl = s.gl ∧
    (State.hkTrim s).ref = s.ref ∧
    (State.hkTrim s).cp = s.cp ∧
    (State.hkTrim s).flk = s.flk ∧
    (State.hkTrim s).ring = s.ring ∧
    (State.hkTrim s).can = s.can ∧
    (State.hkTrim s).canPub = s.canPub ∧
    (State.hkTrim s).eth = s.eth ∧
    (State.hkTrim s).tio = s.tio ∧
    (State.hkTrim s).dia = s.dia := by
  have k1 := @State.ite_frame
  unfold State.hkTrim
  simp

theorem State.hkRefs_frame (s : State) :
    (State.hkRefs s).pending = s.pending ∧
    (State.hkRefs s).time = s.time ∧
    (State.hkRefs s).tick = s.tick ∧
    (State.hkRefs s).free = s.free ∧
    (State.hkRefs s).tl = s.tl ∧
    (State.hkRefs s).mu = s.mu ∧
    (State.hkRefs s).host = s.host ∧
    (State.hkRefs s).mclk = s.mclk ∧
    (State.hkRefs s).sd = s.sd ∧
    (State.hkRefs s).aux = s.aux ∧
    (State.hkRefs s).enc = s.enc ∧
    (State.hkRefs s).eng = s.eng ∧
    (State.hkRefs s).slices = s.slices ∧
    (State.hkRefs s).gl = s.gl ∧
    (State.hkRefs s).ref = s.ref ∧
    (State.hkRefs s).cp = s.cp ∧
    (State.hkRefs s).flk = s.flk ∧
    (State.hkRefs s).ring = s.ring ∧
    (State.hkRefs s).can = s.can ∧
    (State.hkRefs s).canPub = s.canPub ∧
    (State.hkRefs s).eth = s.eth ∧
    (State.hkRefs s).tio = s.tio := by
  have k1 := @State.fence_frame
  have k2 := @State.post_frame
  have k3 := @State.ite_frame
  unfold State.hkRefs
  simp [k1, k2, k3]

theorem State.hkSensors_frame (s : State) :
    (State.hkSensors s).1.pending = s.pending ∧
    (State.hkSensors s).1.time = s.time ∧
    (State.hkSensors s).1.tick = s.tick ∧
    (State.hkSensors s).1.free = s.free ∧
    (State.hkSensors s).1.tl = s.tl ∧
    (State.hkSensors s).1.mu = s.mu ∧
    (State.hkSensors s).1.mclk = s.mclk ∧
    (State.hkSensors s).1.sd = s.sd ∧
    (State.hkSensors s).1.aux = s.aux ∧
    (State.hkSensors s).1.enc = s.enc ∧
    (State.hkSensors s).1.slices = s.slices ∧
    (State.hkSensors s).1.gl = s.gl ∧
    (State.hkSensors s).1.ref = s.ref ∧
    (State.hkSensors s).1.cp = s.cp ∧
    (State.hkSensors s).1.can = s.can ∧
    (State.hkSensors s).1.canPub = s.canPub ∧
    (State.hkSensors s).1.eth = s.eth ∧
    (State.hkSensors s).1.tio = s.tio := by
  have k1 := @State.enforceOwn_frame
  have k2 := @State.post_frame
  have k3 := @State.ite_frame
  unfold State.hkSensors
  dsimp only
  repeat' (first | (simp [k1, k2, k3]; done) | split)

theorem State.hkThrottle_frame (s : State) (a1 : Bool) :
    (State.hkThrottle s a1).pending = s.pending ∧
    (State.hkThrottle s a1).time = s.time ∧
    (State.hkThrottle s a1).tick = s.tick ∧
    (State.hkThrottle s a1).free = s.free ∧
    (State.hkThrottle s a1).tl = s.tl ∧
    (State.hkThrottle s a1).mu = s.mu ∧
    (State.hkThrottle s a1).mclk = s.mclk ∧
    (State.hkThrottle s a1).sd = s.sd ∧
    (State.hkThrottle s a1).aux = s.aux ∧
    (State.hkThrottle s a1).enc = s.enc ∧
    (State.hkThrottle s a1).slices = s.slices ∧
    (State.hkThrottle s a1).gl = s.gl ∧
    (State.hkThrottle s a1).ref = s.ref ∧
    (State.hkThrottle s a1).cp = s.cp ∧
    (State.hkThrottle s a1).can = s.can ∧
    (State.hkThrottle s a1).canPub = s.canPub ∧
    (State.hkThrottle s a1).eth = s.eth ∧
    (State.hkThrottle s a1).tio = s.tio := by
  have k1 := @State.thermClear_frame
  have k2 := @State.thermRequest_frame
  have k3 := @State.ite_frame
  unfold State.hkThrottle
  simp [k1, k2, k3]

theorem State.hkShutdown_frame (s : State) (a1 : Bool) :
    (State.hkShutdown s a1).pending = s.pending ∧
    (State.hkShutdown s a1).tick = s.tick := by
  have k1 := @State.thermalShutdown_frame
  have k2 := @State.ite_frame
  unfold State.hkShutdown
  simp [k1, k2]

theorem State.hkThermal_frame (s : State) :
    (State.hkThermal s).pending = s.pending ∧
    (State.hkThermal s).tick = s.tick := by
  have k1 := @State.hkSensors_frame
  have k2 := @State.hkShutdown_frame
  have k3 := @State.hkThrottle_frame
  unfold State.hkThermal
  simp [k1, k2, k3]

theorem State.lateRound_frame (s : State) :
    (State.lateRound s).pending = s.pending ∧
    (State.lateRound s).time = s.time ∧
    (State.lateRound s).tick = s.tick ∧
    (State.lateRound s).free = s.free ∧
    (State.lateRound s).tl = s.tl ∧
    (State.lateRound s).mu = s.mu ∧
    (State.lateRound s).host = s.host ∧
    (State.lateRound s).mclk = s.mclk ∧
    (State.lateRound s).sd = s.sd ∧
    (State.lateRound s).aux = s.aux ∧
    (State.lateRound s).enc = s.enc ∧
    (State.lateRound s).eng = s.eng ∧
    (State.lateRound s).cp = s.cp ∧
    (State.lateRound s).flk = s.flk ∧
    (State.lateRound s).ring = s.ring ∧
    (State.lateRound s).can = s.can ∧
    (State.lateRound s).canPub = s.canPub ∧
    (State.lateRound s).eth = s.eth ∧
    (State.lateRound s).tio = s.tio := by
  have k1 := @State.degrade_frame
  have k2 := @State.ite_frame
  unfold State.lateRound
  simp [k1, k2]

theorem effHkRoundLate_frame (s : State) :
    (effHkRoundLate s).pending = s.pending ∧
    (effHkRoundLate s).time = s.time ∧
    (effHkRoundLate s).tick = s.tick ∧
    (effHkRoundLate s).free = s.free ∧
    (effHkRoundLate s).tl = s.tl ∧
    (effHkRoundLate s).mu = s.mu ∧
    (effHkRoundLate s).host = s.host ∧
    (effHkRoundLate s).mclk = s.mclk ∧
    (effHkRoundLate s).sd = s.sd ∧
    (effHkRoundLate s).aux = s.aux ∧
    (effHkRoundLate s).enc = s.enc ∧
    (effHkRoundLate s).eng = s.eng ∧
    (effHkRoundLate s).cp = s.cp ∧
    (effHkRoundLate s).flk = s.flk ∧
    (effHkRoundLate s).ring = s.ring ∧
    (effHkRoundLate s).can = s.can ∧
    (effHkRoundLate s).canPub = s.canPub ∧
    (effHkRoundLate s).eth = s.eth ∧
    (effHkRoundLate s).tio = s.tio := by
  have k1 := @State.lateRound_frame
  have k2 := @State.ite_frame
  unfold effHkRoundLate
  simp [k1, k2]

theorem State.goodRound_frame (s : State) :
    (State.goodRound s).pending = s.pending ∧
    (State.goodRound s).time = s.time ∧
    (State.goodRound s).tick = s.tick ∧
    (State.goodRound s).free = s.free ∧
    (State.goodRound s).tl = s.tl ∧
    (State.goodRound s).mu = s.mu ∧
    (State.goodRound s).log = s.log ∧
    (State.goodRound s).seqs = s.seqs ∧
    (State.goodRound s).host = s.host ∧
    (State.goodRound s).dict = s.dict ∧
    (State.goodRound s).mclk = s.mclk ∧
    (State.goodRound s).sd = s.sd ∧
    (State.goodRound s).aux = s.aux ∧
    (State.goodRound s).enc = s.enc ∧
    (State.goodRound s).eng = s.eng ∧
    (State.goodRound s).slices = s.slices ∧
    (State.goodRound s).gl = s.gl ∧
    (State.goodRound s).cp = s.cp ∧
    (State.goodRound s).flk = s.flk ∧
    (State.goodRound s).ring = s.ring ∧
    (State.goodRound s).can = s.can ∧
    (State.goodRound s).canPub = s.canPub ∧
    (State.goodRound s).eth = s.eth ∧
    (State.goodRound s).tio = s.tio ∧
    (State.goodRound s).dia = s.dia := by
  have k1 := @State.undegrade_frame
  have k2 := @State.ite_frame
  unfold State.goodRound
  simp [k1, k2]

theorem effHkRoundEnd_frame (s : State) :
    (effHkRoundEnd s).pending = s.pending ∧
    (effHkRoundEnd s).tick = s.tick := by
  have k1 := @State.goodRound_frame
  have k2 := @State.hkRails_frame
  have k3 := @State.hkRefs_frame
  have k4 := @State.hkThermal_frame
  have k5 := @State.hkTrim_frame
  have k6 := @State.lateRound_frame
  have k7 := @State.ite_frame
  unfold effHkRoundEnd
  simp [k1, k2, k3, k4, k5, k6, k7]

end Sys2Proof.Machine
end

