-- ==== Sys2Proof/Laws/Encoders.lean ====
section
/-!
SUPPORT. What each operation of Machine/Encoders.lean leaves as it was: the parts of State that it cannot change.
-/

namespace Sys2Proof.Machine

open Sys2Proof

theorem State.encRecordOf_frame (s : State) (a1 : Nat) (a2 : Stamp) (a3 : Enc) (a4 : Nat) (a5 : Nat) :
    (State.encRecordOf s a1 a2 a3 a4 a5).pending = s.pending ∧
    (State.encRecordOf s a1 a2 a3 a4 a5).time = s.time ∧
    (State.encRecordOf s a1 a2 a3 a4 a5).tick = s.tick ∧
    (State.encRecordOf s a1 a2 a3 a4 a5).free = s.free ∧
    (State.encRecordOf s a1 a2 a3 a4 a5).tl = s.tl ∧
    (State.encRecordOf s a1 a2 a3 a4 a5).mu = s.mu ∧
    (State.encRecordOf s a1 a2 a3 a4 a5).hk = s.hk ∧
    (State.encRecordOf s a1 a2 a3 a4 a5).log = s.log ∧
    (State.encRecordOf s a1 a2 a3 a4 a5).host = s.host ∧
    (State.encRecordOf s a1 a2 a3 a4 a5).dict = s.dict ∧
    (State.encRecordOf s a1 a2 a3 a4 a5).mclk = s.mclk ∧
    (State.encRecordOf s a1 a2 a3 a4 a5).sd = s.sd ∧
    (State.encRecordOf s a1 a2 a3 a4 a5).aux = s.aux ∧
    (State.encRecordOf s a1 a2 a3 a4 a5).enc = s.enc ∧
    (State.encRecordOf s a1 a2 a3 a4 a5).eng = s.eng ∧
    (State.encRecordOf s a1 a2 a3 a4 a5).slices = s.slices ∧
    (State.encRecordOf s a1 a2 a3 a4 a5).gl = s.gl ∧
    (State.encRecordOf s a1 a2 a3 a4 a5).ref = s.ref ∧
    (State.encRecordOf s a1 a2 a3 a4 a5).cp = s.cp ∧
    (State.encRecordOf s a1 a2 a3 a4 a5).flk = s.flk ∧
    (State.encRecordOf s a1 a2 a3 a4 a5).ring = s.ring ∧
    (State.encRecordOf s a1 a2 a3 a4 a5).can = s.can ∧
    (State.encRecordOf s a1 a2 a3 a4 a5).canPub = s.canPub ∧
    (State.encRecordOf s a1 a2 a3 a4 a5).eth = s.eth ∧
    (State.encRecordOf s a1 a2 a3 a4 a5).tio = s.tio := by
  have k1 := @State.record_frame
  unfold State.encRecordOf
  simp [k1]

theorem State.encRecord_frame (s : State) (a1 : Nat) (a2 : Stamp) (a3 : Nat) (a4 : Nat) :
    (State.encRecord s a1 a2 a3 a4).pending = s.pending ∧
    (State.encRecord s a1 a2 a3 a4).time = s.time ∧
    (State.encRecord s a1 a2 a3 a4).tick = s.tick ∧
    (State.encRecord s a1 a2 a3 a4).free = s.free ∧
    (State.encRecord s a1 a2 a3 a4).tl = s.tl ∧
    (State.encRecord s a1 a2 a3 a4).mu = s.mu ∧
    (State.encRecord s a1 a2 a3 a4).hk = s.hk ∧
    (State.encRecord s a1 a2 a3 a4).log = s.log ∧
    (State.encRecord s a1 a2 a3 a4).host = s.host ∧
    (State.encRecord s a1 a2 a3 a4).dict = s.dict ∧
    (State.encRecord s a1 a2 a3 a4).mclk = s.mclk ∧
    (State.encRecord s a1 a2 a3 a4).sd = s.sd ∧
    (State.encRecord s a1 a2 a3 a4).aux = s.aux ∧
    (State.encRecord s a1 a2 a3 a4).enc = s.enc ∧
    (State.encRecord s a1 a2 a3 a4).eng = s.eng ∧
    (State.encRecord s a1 a2 a3 a4).slices = s.slices ∧
    (State.encRecord s a1 a2 a3 a4).gl = s.gl ∧
    (State.encRecord s a1 a2 a3 a4).ref = s.ref ∧
    (State.encRecord s a1 a2 a3 a4).cp = s.cp ∧
    (State.encRecord s a1 a2 a3 a4).flk = s.flk ∧
    (State.encRecord s a1 a2 a3 a4).ring = s.ring ∧
    (State.encRecord s a1 a2 a3 a4).can = s.can ∧
    (State.encRecord s a1 a2 a3 a4).canPub = s.canPub ∧
    (State.encRecord s a1 a2 a3 a4).eth = s.eth ∧
    (State.encRecord s a1 a2 a3 a4).tio = s.tio := by
  have k1 := @State.encRecordOf_frame
  unfold State.encRecord
  simp [k1]

theorem State.encReact_frame (s : State) (a1 : Nat) :
    (State.encReact s a1).pending = s.pending ∧
    (State.encReact s a1).time = s.time ∧
    (State.encReact s a1).tick = s.tick ∧
    (State.encReact s a1).free = s.free ∧
    (State.encReact s a1).tl = s.tl ∧
    (State.encReact s a1).mu = s.mu ∧
    (State.encReact s a1).hk = s.hk ∧
    (State.encReact s a1).host = s.host ∧
    (State.encReact s a1).mclk = s.mclk ∧
    (State.encReact s a1).sd = s.sd ∧
    (State.encReact s a1).aux = s.aux ∧
    (State.encReact s a1).enc = s.enc ∧
    (State.encReact s a1).eng = s.eng ∧
    (State.encReact s a1).gl = s.gl ∧
    (State.encReact s a1).ref = s.ref ∧
    (State.encReact s a1).cp = s.cp ∧
    (State.encReact s a1).flk = s.flk ∧
    (State.encReact s a1).ring = s.ring ∧
    (State.encReact s a1).can = s.can ∧
    (State.encReact s a1).canPub = s.canPub ∧
    (State.encReact s a1).eth = s.eth ∧
    (State.encReact s a1).tio = s.tio := by
  have k1 := @State.lossReact_frame
  have k2 := @State.ite_frame
  unfold State.encReact
  simp [k1, k2]

theorem State.encEvent_frame (s : State) (a1 : Nat) (a2 : Stamp) (a3 : EncEv) :
    (State.encEvent s a1 a2 a3).pending = s.pending ∧
    (State.encEvent s a1 a2 a3).time = s.time ∧
    (State.encEvent s a1 a2 a3).tick = s.tick ∧
    (State.encEvent s a1 a2 a3).free = s.free ∧
    (State.encEvent s a1 a2 a3).tl = s.tl ∧
    (State.encEvent s a1 a2 a3).mu = s.mu ∧
    (State.encEvent s a1 a2 a3).hk = s.hk ∧
    (State.encEvent s a1 a2 a3).host = s.host ∧
    (State.encEvent s a1 a2 a3).mclk = s.mclk ∧
    (State.encEvent s a1 a2 a3).sd = s.sd ∧
    (State.encEvent s a1 a2 a3).aux = s.aux ∧
    (State.encEvent s a1 a2 a3).enc = s.enc ∧
    (State.encEvent s a1 a2 a3).eng = s.eng ∧
    (State.encEvent s a1 a2 a3).gl = s.gl ∧
    (State.encEvent s a1 a2 a3).ref = s.ref ∧
    (State.encEvent s a1 a2 a3).cp = s.cp ∧
    (State.encEvent s a1 a2 a3).flk = s.flk ∧
    (State.encEvent s a1 a2 a3).ring = s.ring ∧
    (State.encEvent s a1 a2 a3).can = s.can ∧
    (State.encEvent s a1 a2 a3).canPub = s.canPub ∧
    (State.encEvent s a1 a2 a3).eth = s.eth ∧
    (State.encEvent s a1 a2 a3).tio = s.tio := by
  have k1 := @State.encReact_frame
  have k2 := @State.encRecord_frame
  have k3 := @State.encRecordOf_frame
  have k4 := @State.postAt_frame
  unfold State.encEvent
  repeat' (first | (simp [k1, k2, k3, k4]; done) | split)

theorem State.refEvent_frame (s : State) (a1 : Nat) (a2 : Nat) (a3 : Stamp) (a4 : EncEv) :
    (State.refEvent s a1 a2 a3 a4).pending = s.pending ∧
    (State.refEvent s a1 a2 a3 a4).time = s.time ∧
    (State.refEvent s a1 a2 a3 a4).tick = s.tick ∧
    (State.refEvent s a1 a2 a3 a4).free = s.free ∧
    (State.refEvent s a1 a2 a3 a4).tl = s.tl ∧
    (State.refEvent s a1 a2 a3 a4).mu = s.mu ∧
    (State.refEvent s a1 a2 a3 a4).hk = s.hk ∧
    (State.refEvent s a1 a2 a3 a4).host = s.host ∧
    (State.refEvent s a1 a2 a3 a4).mclk = s.mclk ∧
    (State.refEvent s a1 a2 a3 a4).sd = s.sd ∧
    (State.refEvent s a1 a2 a3 a4).aux = s.aux ∧
    (State.refEvent s a1 a2 a3 a4).enc = s.enc ∧
    (State.refEvent s a1 a2 a3 a4).eng = s.eng ∧
    (State.refEvent s a1 a2 a3 a4).cp = s.cp ∧
    (State.refEvent s a1 a2 a3 a4).flk = s.flk ∧
    (State.refEvent s a1 a2 a3 a4).ring = s.ring ∧
    (State.refEvent s a1 a2 a3 a4).can = s.can ∧
    (State.refEvent s a1 a2 a3 a4).canPub = s.canPub ∧
    (State.refEvent s a1 a2 a3 a4).eth = s.eth ∧
    (State.refEvent s a1 a2 a3 a4).tio = s.tio := by
  have k1 := @State.degrade_frame
  have k2 := @State.post_frame
  have k3 := @State.postAt_frame
  unfold State.refEvent
  repeat' (first | (simp [k1, k2, k3]; done) | split)

theorem State.decodeAll_frame (s : State) (a1 : Nat) (a2 : Stamp) (a3 : (EncPar → Enc → Enc × List EncEv)) :
    (State.decodeAll s a1 a2 a3).pending = s.pending ∧
    (State.decodeAll s a1 a2 a3).time = s.time ∧
    (State.decodeAll s a1 a2 a3).tick = s.tick ∧
    (State.decodeAll s a1 a2 a3).free = s.free ∧
    (State.decodeAll s a1 a2 a3).tl = s.tl ∧
    (State.decodeAll s a1 a2 a3).mu = s.mu ∧
    (State.decodeAll s a1 a2 a3).hk = s.hk ∧
    (State.decodeAll s a1 a2 a3).host = s.host ∧
    (State.decodeAll s a1 a2 a3).mclk = s.mclk ∧
    (State.decodeAll s a1 a2 a3).sd = s.sd ∧
    (State.decodeAll s a1 a2 a3).aux = s.aux ∧
    (State.decodeAll s a1 a2 a3).eng = s.eng ∧
    (State.decodeAll s a1 a2 a3).cp = s.cp ∧
    (State.decodeAll s a1 a2 a3).flk = s.flk ∧
    (State.decodeAll s a1 a2 a3).ring = s.ring ∧
    (State.decodeAll s a1 a2 a3).can = s.can ∧
    (State.decodeAll s a1 a2 a3).canPub = s.canPub ∧
    (State.decodeAll s a1 a2 a3).eth = s.eth ∧
    (State.decodeAll s a1 a2 a3).tio = s.tio := by
  have k1 := @State.encEvent_frame
  have k2 := @State.refEvent_frame
  unfold State.decodeAll
  simp [k1, k2]

theorem effEncQuadTransition_frame (a0 : Fin 8) (a1 : Bool) (a2 : Bool) (s : State) :
    (effEncQuadTransition a0 a1 a2 s).pending = s.pending ∧
    (effEncQuadTransition a0 a1 a2 s).time = s.time ∧
    (effEncQuadTransition a0 a1 a2 s).tick = s.tick ∧
    (effEncQuadTransition a0 a1 a2 s).free = s.free ∧
    (effEncQuadTransition a0 a1 a2 s).tl = s.tl ∧
    (effEncQuadTransition a0 a1 a2 s).mu = s.mu ∧
    (effEncQuadTransition a0 a1 a2 s).hk = s.hk ∧
    (effEncQuadTransition a0 a1 a2 s).host = s.host ∧
    (effEncQuadTransition a0 a1 a2 s).mclk = s.mclk ∧
    (effEncQuadTransition a0 a1 a2 s).sd = s.sd ∧
    (effEncQuadTransition a0 a1 a2 s).aux = s.aux ∧
    (effEncQuadTransition a0 a1 a2 s).eng = s.eng ∧
    (effEncQuadTransition a0 a1 a2 s).cp = s.cp ∧
    (effEncQuadTransition a0 a1 a2 s).flk = s.flk ∧
    (effEncQuadTransition a0 a1 a2 s).ring = s.ring ∧
    (effEncQuadTransition a0 a1 a2 s).can = s.can ∧
    (effEncQuadTransition a0 a1 a2 s).canPub = s.canPub ∧
    (effEncQuadTransition a0 a1 a2 s).eth = s.eth ∧
    (effEncQuadTransition a0 a1 a2 s).tio = s.tio := by
  have k1 := @State.decodeAll_frame
  have k2 := @State.ite_frame
  unfold effEncQuadTransition
  simp [k1, k2]

theorem effEncHallTransition_frame (a0 : Fin 8) (a1 : Fin 8) (s : State) :
    (effEncHallTransition a0 a1 s).pending = s.pending ∧
    (effEncHallTransition a0 a1 s).time = s.time ∧
    (effEncHallTransition a0 a1 s).tick = s.tick ∧
    (effEncHallTransition a0 a1 s).free = s.free ∧
    (effEncHallTransition a0 a1 s).tl = s.tl ∧
    (effEncHallTransition a0 a1 s).mu = s.mu ∧
    (effEncHallTransition a0 a1 s).hk = s.hk ∧
    (effEncHallTransition a0 a1 s).host = s.host ∧
    (effEncHallTransition a0 a1 s).mclk = s.mclk ∧
    (effEncHallTransition a0 a1 s).sd = s.sd ∧
    (effEncHallTransition a0 a1 s).aux = s.aux ∧
    (effEncHallTransition a0 a1 s).eng = s.eng ∧
    (effEncHallTransition a0 a1 s).cp = s.cp ∧
    (effEncHallTransition a0 a1 s).flk = s.flk ∧
    (effEncHallTransition a0 a1 s).ring = s.ring ∧
    (effEncHallTransition a0 a1 s).can = s.can ∧
    (effEncHallTransition a0 a1 s).canPub = s.canPub ∧
    (effEncHallTransition a0 a1 s).eth = s.eth ∧
    (effEncHallTransition a0 a1 s).tio = s.tio := by
  have k1 := @State.decodeAll_frame
  have k2 := @State.ite_frame
  unfold effEncHallTransition
  simp [k1, k2]

theorem effEncIndex_frame (a0 : Fin 8) (a1 : Bool) (s : State) :
    (effEncIndex a0 a1 s).pending = s.pending ∧
    (effEncIndex a0 a1 s).time = s.time ∧
    (effEncIndex a0 a1 s).tick = s.tick ∧
    (effEncIndex a0 a1 s).free = s.free ∧
    (effEncIndex a0 a1 s).tl = s.tl ∧
    (effEncIndex a0 a1 s).mu = s.mu ∧
    (effEncIndex a0 a1 s).hk = s.hk ∧
    (effEncIndex a0 a1 s).host = s.host ∧
    (effEncIndex a0 a1 s).mclk = s.mclk ∧
    (effEncIndex a0 a1 s).sd = s.sd ∧
    (effEncIndex a0 a1 s).aux = s.aux ∧
    (effEncIndex a0 a1 s).eng = s.eng ∧
    (effEncIndex a0 a1 s).cp = s.cp ∧
    (effEncIndex a0 a1 s).flk = s.flk ∧
    (effEncIndex a0 a1 s).ring = s.ring ∧
    (effEncIndex a0 a1 s).can = s.can ∧
    (effEncIndex a0 a1 s).canPub = s.canPub ∧
    (effEncIndex a0 a1 s).eth = s.eth ∧
    (effEncIndex a0 a1 s).tio = s.tio := by
  have k1 := @State.decodeAll_frame
  have k2 := @State.ite_frame
  unfold effEncIndex
  simp [k1, k2]

theorem State.putProbe_frame (s : State) (a1 : Nat) (a2 : Nat) :
    (State.putProbe s a1 a2).pending = s.pending ∧
    (State.putProbe s a1 a2).time = s.time ∧
    (State.putProbe s a1 a2).tick = s.tick ∧
    (State.putProbe s a1 a2).free = s.free ∧
    (State.putProbe s a1 a2).tl = s.tl ∧
    (State.putProbe s a1 a2).mu = s.mu ∧
    (State.putProbe s a1 a2).hk = s.hk ∧
    (State.putProbe s a1 a2).log = s.log ∧
    (State.putProbe s a1 a2).host = s.host ∧
    (State.putProbe s a1 a2).mclk = s.mclk ∧
    (State.putProbe s a1 a2).sd = s.sd ∧
    (State.putProbe s a1 a2).aux = s.aux ∧
    (State.putProbe s a1 a2).enc = s.enc ∧
    (State.putProbe s a1 a2).eng = s.eng ∧
    (State.putProbe s a1 a2).slices = s.slices ∧
    (State.putProbe s a1 a2).gl = s.gl ∧
    (State.putProbe s a1 a2).ref = s.ref ∧
    (State.putProbe s a1 a2).cp = s.cp ∧
    (State.putProbe s a1 a2).can = s.can ∧
    (State.putProbe s a1 a2).canPub = s.canPub ∧
    (State.putProbe s a1 a2).eth = s.eth ∧
    (State.putProbe s a1 a2).tio = s.tio := by
  have k1 := @State.mirrorPut_frame
  have k2 := @State.ite_frame
  unfold State.putProbe
  simp [k1, k2]

theorem effEncProbeEdge_frame (a0 : Fin 8) (a1 : Bool) (s : State) :
    (effEncProbeEdge a0 a1 s).pending = s.pending ∧
    (effEncProbeEdge a0 a1 s).time = s.time ∧
    (effEncProbeEdge a0 a1 s).tick = s.tick ∧
    (effEncProbeEdge a0 a1 s).free = s.free ∧
    (effEncProbeEdge a0 a1 s).tl = s.tl ∧
    (effEncProbeEdge a0 a1 s).mu = s.mu ∧
    (effEncProbeEdge a0 a1 s).hk = s.hk ∧
    (effEncProbeEdge a0 a1 s).log = s.log ∧
    (effEncProbeEdge a0 a1 s).host = s.host ∧
    (effEncProbeEdge a0 a1 s).mclk = s.mclk ∧
    (effEncProbeEdge a0 a1 s).sd = s.sd ∧
    (effEncProbeEdge a0 a1 s).aux = s.aux ∧
    (effEncProbeEdge a0 a1 s).eng = s.eng ∧
    (effEncProbeEdge a0 a1 s).slices = s.slices ∧
    (effEncProbeEdge a0 a1 s).gl = s.gl ∧
    (effEncProbeEdge a0 a1 s).ref = s.ref ∧
    (effEncProbeEdge a0 a1 s).cp = s.cp ∧
    (effEncProbeEdge a0 a1 s).can = s.can ∧
    (effEncProbeEdge a0 a1 s).canPub = s.canPub ∧
    (effEncProbeEdge a0 a1 s).eth = s.eth ∧
    (effEncProbeEdge a0 a1 s).tio = s.tio := by
  have k1 := @State.encRecordOf_frame
  have k2 := @State.putProbe_frame
  have k3 := @State.ite_frame
  unfold effEncProbeEdge
  simp [k1, k2, k3]

theorem State.ssiTrigger_frame (s : State) (a1 : Nat) (a2 : Stamp) :
    (State.ssiTrigger s a1 a2).pending = s.pending ∧
    (State.ssiTrigger s a1 a2).time = s.time ∧
    (State.ssiTrigger s a1 a2).tick = s.tick ∧
    (State.ssiTrigger s a1 a2).free = s.free ∧
    (State.ssiTrigger s a1 a2).tl = s.tl ∧
    (State.ssiTrigger s a1 a2).mu = s.mu ∧
    (State.ssiTrigger s a1 a2).hk = s.hk ∧
    (State.ssiTrigger s a1 a2).log = s.log ∧
    (State.ssiTrigger s a1 a2).seqs = s.seqs ∧
    (State.ssiTrigger s a1 a2).host = s.host ∧
    (State.ssiTrigger s a1 a2).mclk = s.mclk ∧
    (State.ssiTrigger s a1 a2).sd = s.sd ∧
    (State.ssiTrigger s a1 a2).aux = s.aux ∧
    (State.ssiTrigger s a1 a2).eng = s.eng ∧
    (State.ssiTrigger s a1 a2).slices = s.slices ∧
    (State.ssiTrigger s a1 a2).gl = s.gl ∧
    (State.ssiTrigger s a1 a2).cp = s.cp ∧
    (State.ssiTrigger s a1 a2).flk = s.flk ∧
    (State.ssiTrigger s a1 a2).ring = s.ring ∧
    (State.ssiTrigger s a1 a2).can = s.can ∧
    (State.ssiTrigger s a1 a2).canPub = s.canPub ∧
    (State.ssiTrigger s a1 a2).eth = s.eth ∧
    (State.ssiTrigger s a1 a2).tio = s.tio ∧
    (State.ssiTrigger s a1 a2).dia = s.dia := by
  have k1 := @State.ite_frame
  unfold State.ssiTrigger
  simp [k1]

theorem State.encLatch_frame (s : State) (a1 : Nat) (a2 : Stamp) :
    (State.encLatch s a1 a2).pending = s.pending ∧
    (State.encLatch s a1 a2).time = s.time ∧
    (State.encLatch s a1 a2).tick = s.tick ∧
    (State.encLatch s a1 a2).free = s.free ∧
    (State.encLatch s a1 a2).tl = s.tl ∧
    (State.encLatch s a1 a2).mu = s.mu ∧
    (State.encLatch s a1 a2).hk = s.hk ∧
    (State.encLatch s a1 a2).log = s.log ∧
    (State.encLatch s a1 a2).host = s.host ∧
    (State.encLatch s a1 a2).mclk = s.mclk ∧
    (State.encLatch s a1 a2).sd = s.sd ∧
    (State.encLatch s a1 a2).aux = s.aux ∧
    (State.encLatch s a1 a2).eng = s.eng ∧
    (State.encLatch s a1 a2).slices = s.slices ∧
    (State.encLatch s a1 a2).gl = s.gl ∧
    (State.encLatch s a1 a2).cp = s.cp ∧
    (State.encLatch s a1 a2).flk = s.flk ∧
    (State.encLatch s a1 a2).ring = s.ring ∧
    (State.encLatch s a1 a2).can = s.can ∧
    (State.encLatch s a1 a2).canPub = s.canPub ∧
    (State.encLatch s a1 a2).eth = s.eth ∧
    (State.encLatch s a1 a2).tio = s.tio := by
  have k1 := @State.encRecordOf_frame
  have k2 := @State.ssiTrigger_frame
  have k3 := @State.ite_frame
  unfold State.encLatch
  simp [k1, k2, k3]

theorem effSsiFrameEnd_frame (a0 : Fin 8) (a1 : Nat) (a2 : Bool) (s : State) :
    (effSsiFrameEnd a0 a1 a2 s).pending = s.pending ∧
    (effSsiFrameEnd a0 a1 a2 s).time = s.time ∧
    (effSsiFrameEnd a0 a1 a2 s).tick = s.tick ∧
    (effSsiFrameEnd a0 a1 a2 s).free = s.free ∧
    (effSsiFrameEnd a0 a1 a2 s).tl = s.tl ∧
    (effSsiFrameEnd a0 a1 a2 s).mu = s.mu ∧
    (effSsiFrameEnd a0 a1 a2 s).hk = s.hk ∧
    (effSsiFrameEnd a0 a1 a2 s).host = s.host ∧
    (effSsiFrameEnd a0 a1 a2 s).mclk = s.mclk ∧
    (effSsiFrameEnd a0 a1 a2 s).sd = s.sd ∧
    (effSsiFrameEnd a0 a1 a2 s).aux = s.aux ∧
    (effSsiFrameEnd a0 a1 a2 s).eng = s.eng ∧
    (effSsiFrameEnd a0 a1 a2 s).cp = s.cp ∧
    (effSsiFrameEnd a0 a1 a2 s).flk = s.flk ∧
    (effSsiFrameEnd a0 a1 a2 s).ring = s.ring ∧
    (effSsiFrameEnd a0 a1 a2 s).can = s.can ∧
    (effSsiFrameEnd a0 a1 a2 s).canPub = s.canPub ∧
    (effSsiFrameEnd a0 a1 a2 s).eth = s.eth ∧
    (effSsiFrameEnd a0 a1 a2 s).tio = s.tio := by
  have k1 := @State.encEvent_frame
  have k2 := @State.encRecord_frame
  have k3 := @State.refEvent_frame
  have k4 := @State.ite_frame
  unfold effSsiFrameEnd
  dsimp only
  repeat' (first | (simp [k1, k2, k3, k4]; done) | split)

theorem effEncStandstill_frame (a0 : Fin 8) (s : State) :
    (effEncStandstill a0 s).pending = s.pending ∧
    (effEncStandstill a0 s).time = s.time ∧
    (effEncStandstill a0 s).tick = s.tick ∧
    (effEncStandstill a0 s).free = s.free ∧
    (effEncStandstill a0 s).tl = s.tl ∧
    (effEncStandstill a0 s).mu = s.mu ∧
    (effEncStandstill a0 s).hk = s.hk ∧
    (effEncStandstill a0 s).log = s.log ∧
    (effEncStandstill a0 s).host = s.host ∧
    (effEncStandstill a0 s).dict = s.dict ∧
    (effEncStandstill a0 s).mclk = s.mclk ∧
    (effEncStandstill a0 s).sd = s.sd ∧
    (effEncStandstill a0 s).aux = s.aux ∧
    (effEncStandstill a0 s).eng = s.eng ∧
    (effEncStandstill a0 s).slices = s.slices ∧
    (effEncStandstill a0 s).gl = s.gl ∧
    (effEncStandstill a0 s).cp = s.cp ∧
    (effEncStandstill a0 s).flk = s.flk ∧
    (effEncStandstill a0 s).ring = s.ring ∧
    (effEncStandstill a0 s).can = s.can ∧
    (effEncStandstill a0 s).canPub = s.canPub ∧
    (effEncStandstill a0 s).eth = s.eth ∧
    (effEncStandstill a0 s).tio = s.tio := by
  have k1 := @State.encRecord_frame
  have k2 := @State.ite_frame
  unfold effEncStandstill
  simp [k1, k2]

theorem State.encEval_frame (s : State) (a1 : Nat) (a2 : Stamp) :
    (State.encEval s a1 a2).pending = s.pending ∧
    (State.encEval s a1 a2).time = s.time ∧
    (State.encEval s a1 a2).tick = s.tick ∧
    (State.encEval s a1 a2).free = s.free ∧
    (State.encEval s a1 a2).tl = s.tl ∧
    (State.encEval s a1 a2).mu = s.mu ∧
    (State.encEval s a1 a2).hk = s.hk ∧
    (State.encEval s a1 a2).log = s.log ∧
    (State.encEval s a1 a2).seqs = s.seqs ∧
    (State.encEval s a1 a2).host = s.host ∧
    (State.encEval s a1 a2).dict = s.dict ∧
    (State.encEval s a1 a2).mclk = s.mclk ∧
    (State.encEval s a1 a2).sd = s.sd ∧
    (State.encEval s a1 a2).aux = s.aux ∧
    (State.encEval s a1 a2).eng = s.eng ∧
    (State.encEval s a1 a2).slices = s.slices ∧
    (State.encEval s a1 a2).gl = s.gl ∧
    (State.encEval s a1 a2).ref = s.ref ∧
    (State.encEval s a1 a2).cp = s.cp ∧
    (State.encEval s a1 a2).flk = s.flk ∧
    (State.encEval s a1 a2).ring = s.ring ∧
    (State.encEval s a1 a2).can = s.can ∧
    (State.encEval s a1 a2).canPub = s.canPub ∧
    (State.encEval s a1 a2).eth = s.eth ∧
    (State.encEval s a1 a2).tio = s.tio ∧
    (State.encEval s a1 a2).dia = s.dia := by
  have k1 := @State.ite_frame
  unfold State.encEval
  simp [k1]

theorem effEncSpeedEval_frame (a0 : Fin 8) (s : State) :
    (effEncSpeedEval a0 s).pending = s.pending ∧
    (effEncSpeedEval a0 s).time = s.time ∧
    (effEncSpeedEval a0 s).tick = s.tick ∧
    (effEncSpeedEval a0 s).free = s.free ∧
    (effEncSpeedEval a0 s).tl = s.tl ∧
    (effEncSpeedEval a0 s).mu = s.mu ∧
    (effEncSpeedEval a0 s).hk = s.hk ∧
    (effEncSpeedEval a0 s).log = s.log ∧
    (effEncSpeedEval a0 s).seqs = s.seqs ∧
    (effEncSpeedEval a0 s).host = s.host ∧
    (effEncSpeedEval a0 s).dict = s.dict ∧
    (effEncSpeedEval a0 s).mclk = s.mclk ∧
    (effEncSpeedEval a0 s).sd = s.sd ∧
    (effEncSpeedEval a0 s).aux = s.aux ∧
    (effEncSpeedEval a0 s).eng = s.eng ∧
    (effEncSpeedEval a0 s).slices = s.slices ∧
    (effEncSpeedEval a0 s).gl = s.gl ∧
    (effEncSpeedEval a0 s).ref = s.ref ∧
    (effEncSpeedEval a0 s).cp = s.cp ∧
    (effEncSpeedEval a0 s).flk = s.flk ∧
    (effEncSpeedEval a0 s).ring = s.ring ∧
    (effEncSpeedEval a0 s).can = s.can ∧
    (effEncSpeedEval a0 s).canPub = s.canPub ∧
    (effEncSpeedEval a0 s).eth = s.eth ∧
    (effEncSpeedEval a0 s).tio = s.tio ∧
    (effEncSpeedEval a0 s).dia = s.dia := by
  have k1 := @State.encEval_frame
  have k2 := @State.ite_frame
  unfold effEncSpeedEval
  repeat' (first | (simp [k1, k2]; done) | split)

theorem State.encStart_frame (s : State) (a1 : Nat) :
    (State.encStart s a1).pending = s.pending ∧
    (State.encStart s a1).time = s.time ∧
    (State.encStart s a1).tick = s.tick ∧
    (State.encStart s a1).free = s.free ∧
    (State.encStart s a1).tl = s.tl ∧
    (State.encStart s a1).mu = s.mu ∧
    (State.encStart s a1).hk = s.hk ∧
    (State.encStart s a1).log = s.log ∧
    (State.encStart s a1).seqs = s.seqs ∧
    (State.encStart s a1).host = s.host ∧
    (State.encStart s a1).dict = s.dict ∧
    (State.encStart s a1).mclk = s.mclk ∧
    (State.encStart s a1).sd = s.sd ∧
    (State.encStart s a1).aux = s.aux ∧
    (State.encStart s a1).eng = s.eng ∧
    (State.encStart s a1).slices = s.slices ∧
    (State.encStart s a1).gl = s.gl ∧
    (State.encStart s a1).cp = s.cp ∧
    (State.encStart s a1).flk = s.flk ∧
    (State.encStart s a1).ring = s.ring ∧
    (State.encStart s a1).can = s.can ∧
    (State.encStart s a1).canPub = s.canPub ∧
    (State.encStart s a1).eth = s.eth ∧
    (State.encStart s a1).tio = s.tio ∧
    (State.encStart s a1).dia = s.dia := by
  unfold State.encStart
  simp

theorem State.encWritten_frame (s : State) (a1 : Nat) (a2 : Nat) (a3 : Nat) :
    (State.encWritten s a1 a2 a3).pending = s.pending ∧
    (State.encWritten s a1 a2 a3).time = s.time ∧
    (State.encWritten s a1 a2 a3).tick = s.tick ∧
    (State.encWritten s a1 a2 a3).free = s.free ∧
    (State.encWritten s a1 a2 a3).tl = s.tl ∧
    (State.encWritten s a1 a2 a3).mu = s.mu ∧
    (State.encWritten s a1 a2 a3).hk = s.hk ∧
    (State.encWritten s a1 a2 a3).log = s.log ∧
    (State.encWritten s a1 a2 a3).seqs = s.seqs ∧
    (State.encWritten s a1 a2 a3).host = s.host ∧
    (State.encWritten s a1 a2 a3).mclk = s.mclk ∧
    (State.encWritten s a1 a2 a3).sd = s.sd ∧
    (State.encWritten s a1 a2 a3).aux = s.aux ∧
    (State.encWritten s a1 a2 a3).eng = s.eng ∧
    (State.encWritten s a1 a2 a3).slices = s.slices ∧
    (State.encWritten s a1 a2 a3).gl = s.gl ∧
    (State.encWritten s a1 a2 a3).cp = s.cp ∧
    (State.encWritten s a1 a2 a3).flk = s.flk ∧
    (State.encWritten s a1 a2 a3).ring = s.ring ∧
    (State.encWritten s a1 a2 a3).can = s.can ∧
    (State.encWritten s a1 a2 a3).canPub = s.canPub ∧
    (State.encWritten s a1 a2 a3).eth = s.eth ∧
    (State.encWritten s a1 a2 a3).tio = s.tio ∧
    (State.encWritten s a1 a2 a3).dia = s.dia := by
  have k1 := @State.encStart_frame
  have k2 := @State.ite_frame
  unfold State.encWritten
  simp [k1, k2]

theorem State.encReinit_frame (s : State) (a1 : Nat) :
    (State.encReinit s a1).pending = s.pending ∧
    (State.encReinit s a1).time = s.time ∧
    (State.encReinit s a1).tick = s.tick ∧
    (State.encReinit s a1).free = s.free ∧
    (State.encReinit s a1).tl = s.tl ∧
    (State.encReinit s a1).mu = s.mu ∧
    (State.encReinit s a1).hk = s.hk ∧
    (State.encReinit s a1).log = s.log ∧
    (State.encReinit s a1).seqs = s.seqs ∧
    (State.encReinit s a1).host = s.host ∧
    (State.encReinit s a1).mclk = s.mclk ∧
    (State.encReinit s a1).sd = s.sd ∧
    (State.encReinit s a1).aux = s.aux ∧
    (State.encReinit s a1).eng = s.eng ∧
    (State.encReinit s a1).slices = s.slices ∧
    (State.encReinit s a1).gl = s.gl ∧
    (State.encReinit s a1).cp = s.cp ∧
    (State.encReinit s a1).flk = s.flk ∧
    (State.encReinit s a1).ring = s.ring ∧
    (State.encReinit s a1).can = s.can ∧
    (State.encReinit s a1).canPub = s.canPub ∧
    (State.encReinit s a1).eth = s.eth ∧
    (State.encReinit s a1).tio = s.tio ∧
    (State.encReinit s a1).dia = s.dia := by
  have k1 := @State.encStart_frame
  unfold State.encReinit
  simp [k1]

theorem State.encTeach_frame (s : State) (a1 : Nat) (a2 : Ang32) :
    (State.encTeach s a1 a2).pending = s.pending ∧
    (State.encTeach s a1 a2).time = s.time ∧
    (State.encTeach s a1 a2).tick = s.tick ∧
    (State.encTeach s a1 a2).free = s.free ∧
    (State.encTeach s a1 a2).tl = s.tl ∧
    (State.encTeach s a1 a2).mu = s.mu ∧
    (State.encTeach s a1 a2).hk = s.hk ∧
    (State.encTeach s a1 a2).log = s.log ∧
    (State.encTeach s a1 a2).seqs = s.seqs ∧
    (State.encTeach s a1 a2).host = s.host ∧
    (State.encTeach s a1 a2).dict = s.dict ∧
    (State.encTeach s a1 a2).mclk = s.mclk ∧
    (State.encTeach s a1 a2).sd = s.sd ∧
    (State.encTeach s a1 a2).aux = s.aux ∧
    (State.encTeach s a1 a2).eng = s.eng ∧
    (State.encTeach s a1 a2).slices = s.slices ∧
    (State.encTeach s a1 a2).gl = s.gl ∧
    (State.encTeach s a1 a2).ref = s.ref ∧
    (State.encTeach s a1 a2).cp = s.cp ∧
    (State.encTeach s a1 a2).flk = s.flk ∧
    (State.encTeach s a1 a2).ring = s.ring ∧
    (State.encTeach s a1 a2).can = s.can ∧
    (State.encTeach s a1 a2).canPub = s.canPub ∧
    (State.encTeach s a1 a2).eth = s.eth ∧
    (State.encTeach s a1 a2).tio = s.tio ∧
    (State.encTeach s a1 a2).dia = s.dia := by
  have k1 := @State.ite_frame
  unfold State.encTeach
  simp [k1]

end Sys2Proof.Machine
end

