-- ==== Sys2Proof/Laws/Rally.lean ====
section
/-!
SUPPORT. What each operation of Machine/Rally.lean leaves as it was: the parts of State that it cannot change.
-/

namespace Sys2Proof.Machine

open Sys2Proof

theorem State.modRally_frame (s : State) (a1 : Nat) (a2 : Nat) (a3 : (RallyDyn → RallyDyn)) :
    (State.modRally s a1 a2 a3).pending = s.pending ∧
    (State.modRally s a1 a2 a3).time = s.time ∧
    (State.modRally s a1 a2 a3).tick = s.tick ∧
    (State.modRally s a1 a2 a3).free = s.free ∧
    (State.modRally s a1 a2 a3).tl = s.tl ∧
    (State.modRally s a1 a2 a3).mu = s.mu ∧
    (State.modRally s a1 a2 a3).hk = s.hk ∧
    (State.modRally s a1 a2 a3).log = s.log ∧
    (State.modRally s a1 a2 a3).seqs = s.seqs ∧
    (State.modRally s a1 a2 a3).host = s.host ∧
    (State.modRally s a1 a2 a3).dict = s.dict ∧
    (State.modRally s a1 a2 a3).mclk = s.mclk ∧
    (State.modRally s a1 a2 a3).sd = s.sd ∧
    (State.modRally s a1 a2 a3).aux = s.aux ∧
    (State.modRally s a1 a2 a3).enc = s.enc ∧
    (State.modRally s a1 a2 a3).eng = s.eng ∧
    (State.modRally s a1 a2 a3).gl = s.gl ∧
    (State.modRally s a1 a2 a3).ref = s.ref ∧
    (State.modRally s a1 a2 a3).cp = s.cp ∧
    (State.modRally s a1 a2 a3).flk = s.flk ∧
    (State.modRally s a1 a2 a3).ring = s.ring ∧
    (State.modRally s a1 a2 a3).can = s.can ∧
    (State.modRally s a1 a2 a3).canPub = s.canPub ∧
    (State.modRally s a1 a2 a3).eth = s.eth ∧
    (State.modRally s a1 a2 a3).tio = s.tio ∧
    (State.modRally s a1 a2 a3).dia = s.dia := by
  unfold State.modRally
  simp

theorem State.tioPush_frame (s : State) (a1 : Nat) (a2 : TioCapt) :
    (State.tioPush s a1 a2).pending = s.pending ∧
    (State.tioPush s a1 a2).time = s.time ∧
    (State.tioPush s a1 a2).tick = s.tick ∧
    (State.tioPush s a1 a2).free = s.free ∧
    (State.tioPush s a1 a2).tl = s.tl ∧
    (State.tioPush s a1 a2).mu = s.mu ∧
    (State.tioPush s a1 a2).hk = s.hk ∧
    (State.tioPush s a1 a2).log = s.log ∧
    (State.tioPush s a1 a2).seqs = s.seqs ∧
    (State.tioPush s a1 a2).host = s.host ∧
    (State.tioPush s a1 a2).mclk = s.mclk ∧
    (State.tioPush s a1 a2).sd = s.sd ∧
    (State.tioPush s a1 a2).aux = s.aux ∧
    (State.tioPush s a1 a2).enc = s.enc ∧
    (State.tioPush s a1 a2).eng = s.eng ∧
    (State.tioPush s a1 a2).slices = s.slices ∧
    (State.tioPush s a1 a2).gl = s.gl ∧
    (State.tioPush s a1 a2).ref = s.ref ∧
    (State.tioPush s a1 a2).cp = s.cp ∧
    (State.tioPush s a1 a2).flk = s.flk ∧
    (State.tioPush s a1 a2).ring = s.ring ∧
    (State.tioPush s a1 a2).can = s.can ∧
    (State.tioPush s a1 a2).canPub = s.canPub ∧
    (State.tioPush s a1 a2).eth = s.eth ∧
    (State.tioPush s a1 a2).dia = s.dia := by
  have k1 := @State.ite_frame
  unfold State.tioPush
  simp [k1]

theorem State.tioCapture_frame (s : State) (a1 : Nat) (a2 : Stamp) (a3 : Bool) :
    (State.tioCapture s a1 a2 a3).pending = s.pending ∧
    (State.tioCapture s a1 a2 a3).time = s.time ∧
    (State.tioCapture s a1 a2 a3).tick = s.tick ∧
    (State.tioCapture s a1 a2 a3).free = s.free ∧
    (State.tioCapture s a1 a2 a3).tl = s.tl ∧
    (State.tioCapture s a1 a2 a3).mu = s.mu ∧
    (State.tioCapture s a1 a2 a3).hk = s.hk ∧
    (State.tioCapture s a1 a2 a3).log = s.log ∧
    (State.tioCapture s a1 a2 a3).host = s.host ∧
    (State.tioCapture s a1 a2 a3).mclk = s.mclk ∧
    (State.tioCapture s a1 a2 a3).sd = s.sd ∧
    (State.tioCapture s a1 a2 a3).aux = s.aux ∧
    (State.tioCapture s a1 a2 a3).enc = s.enc ∧
    (State.tioCapture s a1 a2 a3).eng = s.eng ∧
    (State.tioCapture s a1 a2 a3).slices = s.slices ∧
    (State.tioCapture s a1 a2 a3).gl = s.gl ∧
    (State.tioCapture s a1 a2 a3).ref = s.ref ∧
    (State.tioCapture s a1 a2 a3).cp = s.cp ∧
    (State.tioCapture s a1 a2 a3).can = s.can ∧
    (State.tioCapture s a1 a2 a3).canPub = s.canPub ∧
    (State.tioCapture s a1 a2 a3).eth = s.eth := by
  have k1 := @State.mirrorPut_frame
  have k2 := @State.record_frame
  have k3 := @State.tioPush_frame
  have k4 := @State.ite_frame
  unfold State.tioCapture
  simp [k1, k2, k3, k4]

theorem State.tioDrive_frame (s : State) (a1 : Nat) (a2 : Nat) (a3 : Stamp) :
    (State.tioDrive s a1 a2 a3).pending = s.pending ∧
    (State.tioDrive s a1 a2 a3).time = s.time ∧
    (State.tioDrive s a1 a2 a3).tick = s.tick ∧
    (State.tioDrive s a1 a2 a3).free = s.free ∧
    (State.tioDrive s a1 a2 a3).tl = s.tl ∧
    (State.tioDrive s a1 a2 a3).mu = s.mu ∧
    (State.tioDrive s a1 a2 a3).hk = s.hk ∧
    (State.tioDrive s a1 a2 a3).log = s.log ∧
    (State.tioDrive s a1 a2 a3).seqs = s.seqs ∧
    (State.tioDrive s a1 a2 a3).host = s.host ∧
    (State.tioDrive s a1 a2 a3).dict = s.dict ∧
    (State.tioDrive s a1 a2 a3).mclk = s.mclk ∧
    (State.tioDrive s a1 a2 a3).sd = s.sd ∧
    (State.tioDrive s a1 a2 a3).aux = s.aux ∧
    (State.tioDrive s a1 a2 a3).enc = s.enc ∧
    (State.tioDrive s a1 a2 a3).eng = s.eng ∧
    (State.tioDrive s a1 a2 a3).slices = s.slices ∧
    (State.tioDrive s a1 a2 a3).gl = s.gl ∧
    (State.tioDrive s a1 a2 a3).ref = s.ref ∧
    (State.tioDrive s a1 a2 a3).cp = s.cp ∧
    (State.tioDrive s a1 a2 a3).flk = s.flk ∧
    (State.tioDrive s a1 a2 a3).ring = s.ring ∧
    (State.tioDrive s a1 a2 a3).can = s.can ∧
    (State.tioDrive s a1 a2 a3).canPub = s.canPub ∧
    (State.tioDrive s a1 a2 a3).eth = s.eth ∧
    (State.tioDrive s a1 a2 a3).dia = s.dia := by
  unfold State.tioDrive
  repeat' (first | (simp; done) | split)

theorem effTioPulseTrailingEdge_frame (a0 : Fin 8) (s : State) :
    (effTioPulseTrailingEdge a0 s).pending = s.pending ∧
    (effTioPulseTrailingEdge a0 s).time = s.time ∧
    (effTioPulseTrailingEdge a0 s).tick = s.tick ∧
    (effTioPulseTrailingEdge a0 s).free = s.free ∧
    (effTioPulseTrailingEdge a0 s).tl = s.tl ∧
    (effTioPulseTrailingEdge a0 s).mu = s.mu ∧
    (effTioPulseTrailingEdge a0 s).hk = s.hk ∧
    (effTioPulseTrailingEdge a0 s).log = s.log ∧
    (effTioPulseTrailingEdge a0 s).seqs = s.seqs ∧
    (effTioPulseTrailingEdge a0 s).host = s.host ∧
    (effTioPulseTrailingEdge a0 s).dict = s.dict ∧
    (effTioPulseTrailingEdge a0 s).mclk = s.mclk ∧
    (effTioPulseTrailingEdge a0 s).sd = s.sd ∧
    (effTioPulseTrailingEdge a0 s).aux = s.aux ∧
    (effTioPulseTrailingEdge a0 s).enc = s.enc ∧
    (effTioPulseTrailingEdge a0 s).eng = s.eng ∧
    (effTioPulseTrailingEdge a0 s).slices = s.slices ∧
    (effTioPulseTrailingEdge a0 s).gl = s.gl ∧
    (effTioPulseTrailingEdge a0 s).ref = s.ref ∧
    (effTioPulseTrailingEdge a0 s).cp = s.cp ∧
    (effTioPulseTrailingEdge a0 s).flk = s.flk ∧
    (effTioPulseTrailingEdge a0 s).ring = s.ring ∧
    (effTioPulseTrailingEdge a0 s).can = s.can ∧
    (effTioPulseTrailingEdge a0 s).canPub = s.canPub ∧
    (effTioPulseTrailingEdge a0 s).eth = s.eth ∧
    (effTioPulseTrailingEdge a0 s).dia = s.dia := by
  have k1 := @State.ite_frame
  unfold effTioPulseTrailingEdge
  dsimp only
  repeat' (first | (simp [k1]; done) | split)

theorem effTioCaptureEdge_frame (a0 : Fin 8) (a1 : Bool) (s : State) :
    (effTioCaptureEdge a0 a1 s).pending = s.pending ∧
    (effTioCaptureEdge a0 a1 s).time = s.time ∧
    (effTioCaptureEdge a0 a1 s).tick = s.tick ∧
    (effTioCaptureEdge a0 a1 s).free = s.free ∧
    (effTioCaptureEdge a0 a1 s).tl = s.tl ∧
    (effTioCaptureEdge a0 a1 s).mu = s.mu ∧
    (effTioCaptureEdge a0 a1 s).hk = s.hk ∧
    (effTioCaptureEdge a0 a1 s).log = s.log ∧
    (effTioCaptureEdge a0 a1 s).host = s.host ∧
    (effTioCaptureEdge a0 a1 s).mclk = s.mclk ∧
    (effTioCaptureEdge a0 a1 s).sd = s.sd ∧
    (effTioCaptureEdge a0 a1 s).aux = s.aux ∧
    (effTioCaptureEdge a0 a1 s).enc = s.enc ∧
    (effTioCaptureEdge a0 a1 s).eng = s.eng ∧
    (effTioCaptureEdge a0 a1 s).slices = s.slices ∧
    (effTioCaptureEdge a0 a1 s).gl = s.gl ∧
    (effTioCaptureEdge a0 a1 s).ref = s.ref ∧
    (effTioCaptureEdge a0 a1 s).cp = s.cp ∧
    (effTioCaptureEdge a0 a1 s).can = s.can ∧
    (effTioCaptureEdge a0 a1 s).canPub = s.canPub ∧
    (effTioCaptureEdge a0 a1 s).eth = s.eth := by
  have k1 := @State.tioCapture_frame
  have k2 := @State.ite_frame
  unfold effTioCaptureEdge
  simp [k1, k2]

theorem State.rallySkip_frame (s : State) (a1 : Nat) :
    (State.rallySkip s a1).pending = s.pending ∧
    (State.rallySkip s a1).time = s.time ∧
    (State.rallySkip s a1).tick = s.tick ∧
    (State.rallySkip s a1).free = s.free ∧
    (State.rallySkip s a1).tl = s.tl ∧
    (State.rallySkip s a1).mu = s.mu ∧
    (State.rallySkip s a1).hk = s.hk ∧
    (State.rallySkip s a1).log = s.log ∧
    (State.rallySkip s a1).seqs = s.seqs ∧
    (State.rallySkip s a1).host = s.host ∧
    (State.rallySkip s a1).mclk = s.mclk ∧
    (State.rallySkip s a1).sd = s.sd ∧
    (State.rallySkip s a1).aux = s.aux ∧
    (State.rallySkip s a1).enc = s.enc ∧
    (State.rallySkip s a1).eng = s.eng ∧
    (State.rallySkip s a1).slices = s.slices ∧
    (State.rallySkip s a1).gl = s.gl ∧
    (State.rallySkip s a1).ref = s.ref ∧
    (State.rallySkip s a1).cp = s.cp ∧
    (State.rallySkip s a1).flk = s.flk ∧
    (State.rallySkip s a1).ring = s.ring ∧
    (State.rallySkip s a1).can = s.can ∧
    (State.rallySkip s a1).canPub = s.canPub ∧
    (State.rallySkip s a1).eth = s.eth ∧
    (State.rallySkip s a1).tio = s.tio ∧
    (State.rallySkip s a1).dia = s.dia := by
  unfold State.rallySkip
  simp

theorem State.startContext_frame (s : State) (a1 : Nat) (a2 : Nat) (a3 : Stamp) :
    (State.startContext s a1 a2 a3).pending = s.pending ∧
    (State.startContext s a1 a2 a3).time = s.time ∧
    (State.startContext s a1 a2 a3).tick = s.tick ∧
    (State.startContext s a1 a2 a3).free = s.free ∧
    (State.startContext s a1 a2 a3).tl = s.tl ∧
    (State.startContext s a1 a2 a3).mu = s.mu ∧
    (State.startContext s a1 a2 a3).hk = s.hk ∧
    (State.startContext s a1 a2 a3).host = s.host ∧
    (State.startContext s a1 a2 a3).mclk = s.mclk ∧
    (State.startContext s a1 a2 a3).sd = s.sd ∧
    (State.startContext s a1 a2 a3).aux = s.aux ∧
    (State.startContext s a1 a2 a3).enc = s.enc ∧
    (State.startContext s a1 a2 a3).gl = s.gl ∧
    (State.startContext s a1 a2 a3).ref = s.ref ∧
    (State.startContext s a1 a2 a3).cp = s.cp ∧
    (State.startContext s a1 a2 a3).flk = s.flk ∧
    (State.startContext s a1 a2 a3).ring = s.ring ∧
    (State.startContext s a1 a2 a3).can = s.can ∧
    (State.startContext s a1 a2 a3).canPub = s.canPub ∧
    (State.startContext s a1 a2 a3).eth = s.eth ∧
    (State.startContext s a1 a2 a3).tio = s.tio := by
  have k1 := @State.rallySkip_frame
  have k2 := @State.trigger_frame
  have k3 := @State.ite_frame
  unfold State.startContext
  simp [k1, k2, k3]

theorem State.rallyAux_frame (s : State) (a1 : Nat) (a2 : Nat) (a3 : Stamp) :
    (State.rallyAux s a1 a2 a3).pending = s.pending ∧
    (State.rallyAux s a1 a2 a3).time = s.time ∧
    (State.rallyAux s a1 a2 a3).tick = s.tick ∧
    (State.rallyAux s a1 a2 a3).free = s.free ∧
    (State.rallyAux s a1 a2 a3).tl = s.tl ∧
    (State.rallyAux s a1 a2 a3).mu = s.mu ∧
    (State.rallyAux s a1 a2 a3).hk = s.hk ∧
    (State.rallyAux s a1 a2 a3).host = s.host ∧
    (State.rallyAux s a1 a2 a3).mclk = s.mclk ∧
    (State.rallyAux s a1 a2 a3).sd = s.sd ∧
    (State.rallyAux s a1 a2 a3).enc = s.enc ∧
    (State.rallyAux s a1 a2 a3).eng = s.eng ∧
    (State.rallyAux s a1 a2 a3).slices = s.slices ∧
    (State.rallyAux s a1 a2 a3).gl = s.gl ∧
    (State.rallyAux s a1 a2 a3).ref = s.ref ∧
    (State.rallyAux s a1 a2 a3).cp = s.cp ∧
    (State.rallyAux s a1 a2 a3).can = s.can ∧
    (State.rallyAux s a1 a2 a3).canPub = s.canPub ∧
    (State.rallyAux s a1 a2 a3).eth = s.eth ∧
    (State.rallyAux s a1 a2 a3).tio = s.tio := by
  have k1 := @State.auxTrigger_frame
  have k2 := @State.rallySkip_frame
  have k3 := @State.ite_frame
  unfold State.rallyAux
  simp [k1, k2, k3]

theorem State.rallyAct_frame (s : State) (a1 : Nat) (a2 : Nat) (a3 : Stamp) :
    (State.rallyAct s a1 a2 a3).pending = s.pending ∧
    (State.rallyAct s a1 a2 a3).time = s.time ∧
    (State.rallyAct s a1 a2 a3).tick = s.tick ∧
    (State.rallyAct s a1 a2 a3).free = s.free ∧
    (State.rallyAct s a1 a2 a3).tl = s.tl ∧
    (State.rallyAct s a1 a2 a3).mu = s.mu ∧
    (State.rallyAct s a1 a2 a3).hk = s.hk ∧
    (State.rallyAct s a1 a2 a3).host = s.host ∧
    (State.rallyAct s a1 a2 a3).mclk = s.mclk ∧
    (State.rallyAct s a1 a2 a3).gl = s.gl ∧
    (State.rallyAct s a1 a2 a3).cp = s.cp ∧
    (State.rallyAct s a1 a2 a3).can = s.can ∧
    (State.rallyAct s a1 a2 a3).canPub = s.canPub ∧
    (State.rallyAct s a1 a2 a3).eth = s.eth := by
  have k1 := @State.askInterp_frame
  have k2 := @State.encLatch_frame
  have k3 := @State.postAt_frame
  have k4 := @State.rallyAux_frame
  have k5 := @State.rallySkip_frame
  have k6 := @State.startContext_frame
  have k7 := @State.tioCapture_frame
  have k8 := @State.tioDrive_frame
  have k9 := @State.ite_frame
  unfold State.rallyAct
  dsimp only
  repeat' (first | (simp [k1, k2, k3, k4, k5, k6, k7, k8, k9]; done) | split)

theorem State.occur_frame (a0 : Act) (h : ∀ (t : State) (k e : Nat) (x : Stamp), (a0 t k e x).pending = t.pending ∧ (a0 t k e x).time = t.time ∧ (a0 t k e x).tick = t.tick ∧ (a0 t k e x).free = t.free ∧ (a0 t k e x).tl = t.tl ∧ (a0 t k e x).mu = t.mu ∧ (a0 t k e x).hk = t.hk ∧ (a0 t k e x).host = t.host ∧ (a0 t k e x).mclk = t.mclk ∧ (a0 t k e x).gl = t.gl ∧ (a0 t k e x).cp = t.cp ∧ (a0 t k e x).can = t.can ∧ (a0 t k e x).canPub = t.canPub ∧ (a0 t k e x).eth = t.eth) (s : State) (a2 : Nat) (a3 : Nat) (a4 : Stamp) :
    (State.occur a0 s a2 a3 a4).1.pending = s.pending ∧
    (State.occur a0 s a2 a3 a4).1.time = s.time ∧
    (State.occur a0 s a2 a3 a4).1.tick = s.tick ∧
    (State.occur a0 s a2 a3 a4).1.free = s.free ∧
    (State.occur a0 s a2 a3 a4).1.tl = s.tl ∧
    (State.occur a0 s a2 a3 a4).1.mu = s.mu ∧
    (State.occur a0 s a2 a3 a4).1.hk = s.hk ∧
    (State.occur a0 s a2 a3 a4).1.host = s.host ∧
    (State.occur a0 s a2 a3 a4).1.mclk = s.mclk ∧
    (State.occur a0 s a2 a3 a4).1.gl = s.gl ∧
    (State.occur a0 s a2 a3 a4).1.cp = s.cp ∧
    (State.occur a0 s a2 a3 a4).1.can = s.can ∧
    (State.occur a0 s a2 a3 a4).1.canPub = s.canPub ∧
    (State.occur a0 s a2 a3 a4).1.eth = s.eth := by
  have k1 := @State.modRally_frame
  have k2 := @State.ite_frame
  unfold State.occur
  dsimp only
  repeat' (first | (simp [h, k1, k2]; done) | split)

theorem State.occur_aux_frame (a0 : Act) (h : ∀ (t : State) (k e : Nat) (x : Stamp), (a0 t k e x).pending = t.pending ∧ (a0 t k e x).time = t.time ∧ (a0 t k e x).tick = t.tick ∧ (a0 t k e x).free = t.free ∧ (a0 t k e x).tl = t.tl ∧ (a0 t k e x).mu = t.mu ∧ (a0 t k e x).hk = t.hk ∧ (a0 t k e x).host = t.host ∧ (a0 t k e x).mclk = t.mclk ∧ (a0 t k e x).sd = t.sd ∧ (a0 t k e x).enc = t.enc ∧ (a0 t k e x).eng = t.eng ∧ (a0 t k e x).slices = t.slices ∧ (a0 t k e x).gl = t.gl ∧ (a0 t k e x).ref = t.ref ∧ (a0 t k e x).cp = t.cp ∧ (a0 t k e x).can = t.can ∧ (a0 t k e x).canPub = t.canPub ∧ (a0 t k e x).eth = t.eth ∧ (a0 t k e x).tio = t.tio) (s : State) (a2 : Nat) (a3 : Nat) (a4 : Stamp) :
    (State.occur a0 s a2 a3 a4).1.pending = s.pending ∧
    (State.occur a0 s a2 a3 a4).1.time = s.time ∧
    (State.occur a0 s a2 a3 a4).1.tick = s.tick ∧
    (State.occur a0 s a2 a3 a4).1.free = s.free ∧
    (State.occur a0 s a2 a3 a4).1.tl = s.tl ∧
    (State.occur a0 s a2 a3 a4).1.mu = s.mu ∧
    (State.occur a0 s a2 a3 a4).1.hk = s.hk ∧
    (State.occur a0 s a2 a3 a4).1.host = s.host ∧
    (State.occur a0 s a2 a3 a4).1.mclk = s.mclk ∧
    (State.occur a0 s a2 a3 a4).1.sd = s.sd ∧
    (State.occur a0 s a2 a3 a4).1.enc = s.enc ∧
    (State.occur a0 s a2 a3 a4).1.eng = s.eng ∧
    (State.occur a0 s a2 a3 a4).1.gl = s.gl ∧
    (State.occur a0 s a2 a3 a4).1.ref = s.ref ∧
    (State.occur a0 s a2 a3 a4).1.cp = s.cp ∧
    (State.occur a0 s a2 a3 a4).1.can = s.can ∧
    (State.occur a0 s a2 a3 a4).1.canPub = s.canPub ∧
    (State.occur a0 s a2 a3 a4).1.eth = s.eth ∧
    (State.occur a0 s a2 a3 a4).1.tio = s.tio := by
  have k1 := @State.modRally_frame
  have k2 := @State.ite_frame
  unfold State.occur
  dsimp only
  repeat' (first | (simp [h, k1, k2]; done) | split)

theorem State.fireTime_frame (a0 : Act) (h : ∀ (t : State) (k e : Nat) (x : Stamp), (a0 t k e x).pending = t.pending ∧ (a0 t k e x).time = t.time ∧ (a0 t k e x).tick = t.tick ∧ (a0 t k e x).free = t.free ∧ (a0 t k e x).tl = t.tl ∧ (a0 t k e x).mu = t.mu ∧ (a0 t k e x).hk = t.hk ∧ (a0 t k e x).host = t.host ∧ (a0 t k e x).mclk = t.mclk ∧ (a0 t k e x).gl = t.gl ∧ (a0 t k e x).cp = t.cp ∧ (a0 t k e x).can = t.can ∧ (a0 t k e x).canPub = t.canPub ∧ (a0 t k e x).eth = t.eth) (s : State) (a2 : Nat) (a3 : Nat) :
    (State.fireTime a0 s a2 a3).pending = s.pending ∧
    (State.fireTime a0 s a2 a3).time = s.time ∧
    (State.fireTime a0 s a2 a3).tick = s.tick ∧
    (State.fireTime a0 s a2 a3).free = s.free ∧
    (State.fireTime a0 s a2 a3).tl = s.tl ∧
    (State.fireTime a0 s a2 a3).mu = s.mu ∧
    (State.fireTime a0 s a2 a3).hk = s.hk ∧
    (State.fireTime a0 s a2 a3).host = s.host ∧
    (State.fireTime a0 s a2 a3).mclk = s.mclk ∧
    (State.fireTime a0 s a2 a3).gl = s.gl ∧
    (State.fireTime a0 s a2 a3).cp = s.cp ∧
    (State.fireTime a0 s a2 a3).can = s.can ∧
    (State.fireTime a0 s a2 a3).canPub = s.canPub ∧
    (State.fireTime a0 s a2 a3).eth = s.eth := by
  have k1 := @State.modRally_frame
  have k2 := @State.occur_frame a0 h
  unfold State.fireTime
  repeat' (first | (simp [k1, k2]; done) | split)

theorem State.fireTime_aux_frame (a0 : Act) (h : ∀ (t : State) (k e : Nat) (x : Stamp), (a0 t k e x).pending = t.pending ∧ (a0 t k e x).time = t.time ∧ (a0 t k e x).tick = t.tick ∧ (a0 t k e x).free = t.free ∧ (a0 t k e x).tl = t.tl ∧ (a0 t k e x).mu = t.mu ∧ (a0 t k e x).hk = t.hk ∧ (a0 t k e x).host = t.host ∧ (a0 t k e x).mclk = t.mclk ∧ (a0 t k e x).sd = t.sd ∧ (a0 t k e x).enc = t.enc ∧ (a0 t k e x).eng = t.eng ∧ (a0 t k e x).slices = t.slices ∧ (a0 t k e x).gl = t.gl ∧ (a0 t k e x).ref = t.ref ∧ (a0 t k e x).cp = t.cp ∧ (a0 t k e x).can = t.can ∧ (a0 t k e x).canPub = t.canPub ∧ (a0 t k e x).eth = t.eth ∧ (a0 t k e x).tio = t.tio) (s : State) (a2 : Nat) (a3 : Nat) :
    (State.fireTime a0 s a2 a3).pending = s.pending ∧
    (State.fireTime a0 s a2 a3).time = s.time ∧
    (State.fireTime a0 s a2 a3).tick = s.tick ∧
    (State.fireTime a0 s a2 a3).free = s.free ∧
    (State.fireTime a0 s a2 a3).tl = s.tl ∧
    (State.fireTime a0 s a2 a3).mu = s.mu ∧
    (State.fireTime a0 s a2 a3).hk = s.hk ∧
    (State.fireTime a0 s a2 a3).host = s.host ∧
    (State.fireTime a0 s a2 a3).mclk = s.mclk ∧
    (State.fireTime a0 s a2 a3).sd = s.sd ∧
    (State.fireTime a0 s a2 a3).enc = s.enc ∧
    (State.fireTime a0 s a2 a3).eng = s.eng ∧
    (State.fireTime a0 s a2 a3).gl = s.gl ∧
    (State.fireTime a0 s a2 a3).ref = s.ref ∧
    (State.fireTime a0 s a2 a3).cp = s.cp ∧
    (State.fireTime a0 s a2 a3).can = s.can ∧
    (State.fireTime a0 s a2 a3).canPub = s.canPub ∧
    (State.fireTime a0 s a2 a3).eth = s.eth ∧
    (State.fireTime a0 s a2 a3).tio = s.tio := by
  have k1 := @State.modRally_frame
  have k2 := @State.occur_aux_frame a0 h
  unfold State.fireTime
  repeat' (first | (simp [k1, k2]; done) | split)

theorem State.firePwm_frame (a0 : Act) (h : ∀ (t : State) (k e : Nat) (x : Stamp), (a0 t k e x).pending = t.pending ∧ (a0 t k e x).time = t.time ∧ (a0 t k e x).tick = t.tick ∧ (a0 t k e x).free = t.free ∧ (a0 t k e x).tl = t.tl ∧ (a0 t k e x).mu = t.mu ∧ (a0 t k e x).hk = t.hk ∧ (a0 t k e x).host = t.host ∧ (a0 t k e x).mclk = t.mclk ∧ (a0 t k e x).gl = t.gl ∧ (a0 t k e x).cp = t.cp ∧ (a0 t k e x).can = t.can ∧ (a0 t k e x).canPub = t.canPub ∧ (a0 t k e x).eth = t.eth) (s : State) (a2 : Nat) (a3 : Nat) :
    (State.firePwm a0 s a2 a3).pending = s.pending ∧
    (State.firePwm a0 s a2 a3).time = s.time ∧
    (State.firePwm a0 s a2 a3).tick = s.tick ∧
    (State.firePwm a0 s a2 a3).free = s.free ∧
    (State.firePwm a0 s a2 a3).tl = s.tl ∧
    (State.firePwm a0 s a2 a3).mu = s.mu ∧
    (State.firePwm a0 s a2 a3).hk = s.hk ∧
    (State.firePwm a0 s a2 a3).host = s.host ∧
    (State.firePwm a0 s a2 a3).mclk = s.mclk ∧
    (State.firePwm a0 s a2 a3).gl = s.gl ∧
    (State.firePwm a0 s a2 a3).cp = s.cp ∧
    (State.firePwm a0 s a2 a3).can = s.can ∧
    (State.firePwm a0 s a2 a3).canPub = s.canPub ∧
    (State.firePwm a0 s a2 a3).eth = s.eth := by
  have k1 := @State.modRally_frame
  have k2 := @State.occur_frame a0 h
  unfold State.firePwm
  repeat' (first | (simp [k1, k2]; done) | split)

theorem State.firePwm_aux_frame (a0 : Act) (h : ∀ (t : State) (k e : Nat) (x : Stamp), (a0 t k e x).pending = t.pending ∧ (a0 t k e x).time = t.time ∧ (a0 t k e x).tick = t.tick ∧ (a0 t k e x).free = t.free ∧ (a0 t k e x).tl = t.tl ∧ (a0 t k e x).mu = t.mu ∧ (a0 t k e x).hk = t.hk ∧ (a0 t k e x).host = t.host ∧ (a0 t k e x).mclk = t.mclk ∧ (a0 t k e x).sd = t.sd ∧ (a0 t k e x).enc = t.enc ∧ (a0 t k e x).eng = t.eng ∧ (a0 t k e x).slices = t.slices ∧ (a0 t k e x).gl = t.gl ∧ (a0 t k e x).ref = t.ref ∧ (a0 t k e x).cp = t.cp ∧ (a0 t k e x).can = t.can ∧ (a0 t k e x).canPub = t.canPub ∧ (a0 t k e x).eth = t.eth ∧ (a0 t k e x).tio = t.tio) (s : State) (a2 : Nat) (a3 : Nat) :
    (State.firePwm a0 s a2 a3).pending = s.pending ∧
    (State.firePwm a0 s a2 a3).time = s.time ∧
    (State.firePwm a0 s a2 a3).tick = s.tick ∧
    (State.firePwm a0 s a2 a3).free = s.free ∧
    (State.firePwm a0 s a2 a3).tl = s.tl ∧
    (State.firePwm a0 s a2 a3).mu = s.mu ∧
    (State.firePwm a0 s a2 a3).hk = s.hk ∧
    (State.firePwm a0 s a2 a3).host = s.host ∧
    (State.firePwm a0 s a2 a3).mclk = s.mclk ∧
    (State.firePwm a0 s a2 a3).sd = s.sd ∧
    (State.firePwm a0 s a2 a3).enc = s.enc ∧
    (State.firePwm a0 s a2 a3).eng = s.eng ∧
    (State.firePwm a0 s a2 a3).gl = s.gl ∧
    (State.firePwm a0 s a2 a3).ref = s.ref ∧
    (State.firePwm a0 s a2 a3).cp = s.cp ∧
    (State.firePwm a0 s a2 a3).can = s.can ∧
    (State.firePwm a0 s a2 a3).canPub = s.canPub ∧
    (State.firePwm a0 s a2 a3).eth = s.eth ∧
    (State.firePwm a0 s a2 a3).tio = s.tio := by
  have k1 := @State.modRally_frame
  have k2 := @State.occur_aux_frame a0 h
  unfold State.firePwm
  repeat' (first | (simp [k1, k2]; done) | split)

theorem State.angRecord_frame (s : State) (a1 : Nat) (a2 : Nat) (a3 : Nat) (a4 : Stamp) (a5 : Ang32) (a6 : Bool) :
    (State.angRecord s a1 a2 a3 a4 a5 a6).pending = s.pending ∧
    (State.angRecord s a1 a2 a3 a4 a5 a6).time = s.time ∧
    (State.angRecord s a1 a2 a3 a4 a5 a6).tick = s.tick ∧
    (State.angRecord s a1 a2 a3 a4 a5 a6).free = s.free ∧
    (State.angRecord s a1 a2 a3 a4 a5 a6).tl = s.tl ∧
    (State.angRecord s a1 a2 a3 a4 a5 a6).mu = s.mu ∧
    (State.angRecord s a1 a2 a3 a4 a5 a6).hk = s.hk ∧
    (State.angRecord s a1 a2 a3 a4 a5 a6).log = s.log ∧
    (State.angRecord s a1 a2 a3 a4 a5 a6).host = s.host ∧
    (State.angRecord s a1 a2 a3 a4 a5 a6).dict = s.dict ∧
    (State.angRecord s a1 a2 a3 a4 a5 a6).mclk = s.mclk ∧
    (State.angRecord s a1 a2 a3 a4 a5 a6).sd = s.sd ∧
    (State.angRecord s a1 a2 a3 a4 a5 a6).aux = s.aux ∧
    (State.angRecord s a1 a2 a3 a4 a5 a6).enc = s.enc ∧
    (State.angRecord s a1 a2 a3 a4 a5 a6).eng = s.eng ∧
    (State.angRecord s a1 a2 a3 a4 a5 a6).slices = s.slices ∧
    (State.angRecord s a1 a2 a3 a4 a5 a6).gl = s.gl ∧
    (State.angRecord s a1 a2 a3 a4 a5 a6).ref = s.ref ∧
    (State.angRecord s a1 a2 a3 a4 a5 a6).cp = s.cp ∧
    (State.angRecord s a1 a2 a3 a4 a5 a6).flk = s.flk ∧
    (State.angRecord s a1 a2 a3 a4 a5 a6).ring = s.ring ∧
    (State.angRecord s a1 a2 a3 a4 a5 a6).can = s.can ∧
    (State.angRecord s a1 a2 a3 a4 a5 a6).canPub = s.canPub ∧
    (State.angRecord s a1 a2 a3 a4 a5 a6).eth = s.eth ∧
    (State.angRecord s a1 a2 a3 a4 a5 a6).tio = s.tio := by
  have k1 := @State.record_frame
  unfold State.angRecord
  simp [k1]

theorem State.angleOccur_frame (a0 : Act) (h : ∀ (t : State) (k e : Nat) (x : Stamp), (a0 t k e x).pending = t.pending ∧ (a0 t k e x).time = t.time ∧ (a0 t k e x).tick = t.tick ∧ (a0 t k e x).free = t.free ∧ (a0 t k e x).tl = t.tl ∧ (a0 t k e x).mu = t.mu ∧ (a0 t k e x).hk = t.hk ∧ (a0 t k e x).host = t.host ∧ (a0 t k e x).mclk = t.mclk ∧ (a0 t k e x).gl = t.gl ∧ (a0 t k e x).cp = t.cp ∧ (a0 t k e x).can = t.can ∧ (a0 t k e x).canPub = t.canPub ∧ (a0 t k e x).eth = t.eth) (s : State) (a2 : Nat) (a3 : Nat) (a4 : Stamp) (a5 : Bool) :
    (State.angleOccur a0 s a2 a3 a4 a5).pending = s.pending ∧
    (State.angleOccur a0 s a2 a3 a4 a5).time = s.time ∧
    (State.angleOccur a0 s a2 a3 a4 a5).tick = s.tick ∧
    (State.angleOccur a0 s a2 a3 a4 a5).free = s.free ∧
    (State.angleOccur a0 s a2 a3 a4 a5).tl = s.tl ∧
    (State.angleOccur a0 s a2 a3 a4 a5).mu = s.mu ∧
    (State.angleOccur a0 s a2 a3 a4 a5).hk = s.hk ∧
    (State.angleOccur a0 s a2 a3 a4 a5).host = s.host ∧
    (State.angleOccur a0 s a2 a3 a4 a5).mclk = s.mclk ∧
    (State.angleOccur a0 s a2 a3 a4 a5).gl = s.gl ∧
    (State.angleOccur a0 s a2 a3 a4 a5).cp = s.cp ∧
    (State.angleOccur a0 s a2 a3 a4 a5).can = s.can ∧
    (State.angleOccur a0 s a2 a3 a4 a5).canPub = s.canPub ∧
    (State.angleOccur a0 s a2 a3 a4 a5).eth = s.eth := by
  have k1 := @State.angRecord_frame
  have k2 := @State.occur_frame a0 h
  have k3 := @State.ite_frame
  unfold State.angleOccur
  dsimp only
  repeat' (first | (simp [k1, k2, k3]; done) | split)

theorem State.angleOccur_aux_frame (a0 : Act) (h : ∀ (t : State) (k e : Nat) (x : Stamp), (a0 t k e x).pending = t.pending ∧ (a0 t k e x).time = t.time ∧ (a0 t k e x).tick = t.tick ∧ (a0 t k e x).free = t.free ∧ (a0 t k e x).tl = t.tl ∧ (a0 t k e x).mu = t.mu ∧ (a0 t k e x).hk = t.hk ∧ (a0 t k e x).host = t.host ∧ (a0 t k e x).mclk = t.mclk ∧ (a0 t k e x).sd = t.sd ∧ (a0 t k e x).enc = t.enc ∧ (a0 t k e x).eng = t.eng ∧ (a0 t k e x).slices = t.slices ∧ (a0 t k e x).gl = t.gl ∧ (a0 t k e x).ref = t.ref ∧ (a0 t k e x).cp = t.cp ∧ (a0 t k e x).can = t.can ∧ (a0 t k e x).canPub = t.canPub ∧ (a0 t k e x).eth = t.eth ∧ (a0 t k e x).tio = t.tio) (s : State) (a2 : Nat) (a3 : Nat) (a4 : Stamp) (a5 : Bool) :
    (State.angleOccur a0 s a2 a3 a4 a5).pending = s.pending ∧
    (State.angleOccur a0 s a2 a3 a4 a5).time = s.time ∧
    (State.angleOccur a0 s a2 a3 a4 a5).tick = s.tick ∧
    (State.angleOccur a0 s a2 a3 a4 a5).free = s.free ∧
    (State.angleOccur a0 s a2 a3 a4 a5).tl = s.tl ∧
    (State.angleOccur a0 s a2 a3 a4 a5).mu = s.mu ∧
    (State.angleOccur a0 s a2 a3 a4 a5).hk = s.hk ∧
    (State.angleOccur a0 s a2 a3 a4 a5).host = s.host ∧
    (State.angleOccur a0 s a2 a3 a4 a5).mclk = s.mclk ∧
    (State.angleOccur a0 s a2 a3 a4 a5).sd = s.sd ∧
    (State.angleOccur a0 s a2 a3 a4 a5).enc = s.enc ∧
    (State.angleOccur a0 s a2 a3 a4 a5).eng = s.eng ∧
    (State.angleOccur a0 s a2 a3 a4 a5).gl = s.gl ∧
    (State.angleOccur a0 s a2 a3 a4 a5).ref = s.ref ∧
    (State.angleOccur a0 s a2 a3 a4 a5).cp = s.cp ∧
    (State.angleOccur a0 s a2 a3 a4 a5).can = s.can ∧
    (State.angleOccur a0 s a2 a3 a4 a5).canPub = s.canPub ∧
    (State.angleOccur a0 s a2 a3 a4 a5).eth = s.eth ∧
    (State.angleOccur a0 s a2 a3 a4 a5).tio = s.tio := by
  have k1 := @State.angRecord_frame
  have k2 := @State.occur_aux_frame a0 h
  have k3 := @State.ite_frame
  unfold State.angleOccur
  dsimp only
  repeat' (first | (simp [h, k1, k2, k3]; done) | split)

theorem State.angFlush_frame (s : State) (a1 : Nat) (a2 : Stamp) :
    (State.angFlush s a1 a2).pending = s.pending ∧
    (State.angFlush s a1 a2).time = s.time ∧
    (State.angFlush s a1 a2).tick = s.tick ∧
    (State.angFlush s a1 a2).free = s.free ∧
    (State.angFlush s a1 a2).tl = s.tl ∧
    (State.angFlush s a1 a2).mu = s.mu ∧
    (State.angFlush s a1 a2).hk = s.hk ∧
    (State.angFlush s a1 a2).log = s.log ∧
    (State.angFlush s a1 a2).host = s.host ∧
    (State.angFlush s a1 a2).dict = s.dict ∧
    (State.angFlush s a1 a2).mclk = s.mclk ∧
    (State.angFlush s a1 a2).sd = s.sd ∧
    (State.angFlush s a1 a2).aux = s.aux ∧
    (State.angFlush s a1 a2).enc = s.enc ∧
    (State.angFlush s a1 a2).eng = s.eng ∧
    (State.angFlush s a1 a2).gl = s.gl ∧
    (State.angFlush s a1 a2).ref = s.ref ∧
    (State.angFlush s a1 a2).cp = s.cp ∧
    (State.angFlush s a1 a2).flk = s.flk ∧
    (State.angFlush s a1 a2).ring = s.ring ∧
    (State.angFlush s a1 a2).can = s.can ∧
    (State.angFlush s a1 a2).canPub = s.canPub ∧
    (State.angFlush s a1 a2).eth = s.eth ∧
    (State.angFlush s a1 a2).tio = s.tio := by
  have k1 := @State.angRecord_frame
  unfold State.angFlush
  simp [k1]

theorem State.fireAngle_frame (a0 : Act) (h : ∀ (t : State) (k e : Nat) (x : Stamp), (a0 t k e x).pending = t.pending ∧ (a0 t k e x).time = t.time ∧ (a0 t k e x).tick = t.tick ∧ (a0 t k e x).free = t.free ∧ (a0 t k e x).tl = t.tl ∧ (a0 t k e x).mu = t.mu ∧ (a0 t k e x).hk = t.hk ∧ (a0 t k e x).host = t.host ∧ (a0 t k e x).mclk = t.mclk ∧ (a0 t k e x).gl = t.gl ∧ (a0 t k e x).cp = t.cp ∧ (a0 t k e x).can = t.can ∧ (a0 t k e x).canPub = t.canPub ∧ (a0 t k e x).eth = t.eth) (s : State) (a2 : Nat) (a3 : Nat) :
    (State.fireAngle a0 s a2 a3).pending = s.pending ∧
    (State.fireAngle a0 s a2 a3).time = s.time ∧
    (State.fireAngle a0 s a2 a3).tick = s.tick ∧
    (State.fireAngle a0 s a2 a3).free = s.free ∧
    (State.fireAngle a0 s a2 a3).tl = s.tl ∧
    (State.fireAngle a0 s a2 a3).mu = s.mu ∧
    (State.fireAngle a0 s a2 a3).hk = s.hk ∧
    (State.fireAngle a0 s a2 a3).host = s.host ∧
    (State.fireAngle a0 s a2 a3).mclk = s.mclk ∧
    (State.fireAngle a0 s a2 a3).gl = s.gl ∧
    (State.fireAngle a0 s a2 a3).cp = s.cp ∧
    (State.fireAngle a0 s a2 a3).can = s.can ∧
    (State.fireAngle a0 s a2 a3).canPub = s.canPub ∧
    (State.fireAngle a0 s a2 a3).eth = s.eth := by
  have k1 := @State.angleOccur_frame a0 h
  have k2 := @State.modRally_frame
  unfold State.fireAngle
  repeat' (first | (simp [k1, k2]; done) | split)

theorem State.fireAngle_aux_frame (a0 : Act) (h : ∀ (t : State) (k e : Nat) (x : Stamp), (a0 t k e x).pending = t.pending ∧ (a0 t k e x).time = t.time ∧ (a0 t k e x).tick = t.tick ∧ (a0 t k e x).free = t.free ∧ (a0 t k e x).tl = t.tl ∧ (a0 t k e x).mu = t.mu ∧ (a0 t k e x).hk = t.hk ∧ (a0 t k e x).host = t.host ∧ (a0 t k e x).mclk = t.mclk ∧ (a0 t k e x).sd = t.sd ∧ (a0 t k e x).enc = t.enc ∧ (a0 t k e x).eng = t.eng ∧ (a0 t k e x).slices = t.slices ∧ (a0 t k e x).gl = t.gl ∧ (a0 t k e x).ref = t.ref ∧ (a0 t k e x).cp = t.cp ∧ (a0 t k e x).can = t.can ∧ (a0 t k e x).canPub = t.canPub ∧ (a0 t k e x).eth = t.eth ∧ (a0 t k e x).tio = t.tio) (s : State) (a2 : Nat) (a3 : Nat) :
    (State.fireAngle a0 s a2 a3).pending = s.pending ∧
    (State.fireAngle a0 s a2 a3).time = s.time ∧
    (State.fireAngle a0 s a2 a3).tick = s.tick ∧
    (State.fireAngle a0 s a2 a3).free = s.free ∧
    (State.fireAngle a0 s a2 a3).tl = s.tl ∧
    (State.fireAngle a0 s a2 a3).mu = s.mu ∧
    (State.fireAngle a0 s a2 a3).hk = s.hk ∧
    (State.fireAngle a0 s a2 a3).host = s.host ∧
    (State.fireAngle a0 s a2 a3).mclk = s.mclk ∧
    (State.fireAngle a0 s a2 a3).sd = s.sd ∧
    (State.fireAngle a0 s a2 a3).enc = s.enc ∧
    (State.fireAngle a0 s a2 a3).eng = s.eng ∧
    (State.fireAngle a0 s a2 a3).gl = s.gl ∧
    (State.fireAngle a0 s a2 a3).ref = s.ref ∧
    (State.fireAngle a0 s a2 a3).cp = s.cp ∧
    (State.fireAngle a0 s a2 a3).can = s.can ∧
    (State.fireAngle a0 s a2 a3).canPub = s.canPub ∧
    (State.fireAngle a0 s a2 a3).eth = s.eth ∧
    (State.fireAngle a0 s a2 a3).tio = s.tio := by
  have k1 := @State.angleOccur_aux_frame a0 h
  have k2 := @State.modRally_frame
  unfold State.fireAngle
  repeat' (first | (simp [k1, k2]; done) | split)

theorem State.rallyFire_frame (a0 : Act) (h : ∀ (t : State) (k e : Nat) (x : Stamp), (a0 t k e x).pending = t.pending ∧ (a0 t k e x).time = t.time ∧ (a0 t k e x).tick = t.tick ∧ (a0 t k e x).free = t.free ∧ (a0 t k e x).tl = t.tl ∧ (a0 t k e x).mu = t.mu ∧ (a0 t k e x).hk = t.hk ∧ (a0 t k e x).host = t.host ∧ (a0 t k e x).mclk = t.mclk ∧ (a0 t k e x).gl = t.gl ∧ (a0 t k e x).cp = t.cp ∧ (a0 t k e x).can = t.can ∧ (a0 t k e x).canPub = t.canPub ∧ (a0 t k e x).eth = t.eth) (s : State) (a2 : Nat) (a3 : Nat) :
    (State.rallyFire a0 s a2 a3).pending = s.pending ∧
    (State.rallyFire a0 s a2 a3).time = s.time ∧
    (State.rallyFire a0 s a2 a3).tick = s.tick ∧
    (State.rallyFire a0 s a2 a3).free = s.free ∧
    (State.rallyFire a0 s a2 a3).tl = s.tl ∧
    (State.rallyFire a0 s a2 a3).mu = s.mu ∧
    (State.rallyFire a0 s a2 a3).hk = s.hk ∧
    (State.rallyFire a0 s a2 a3).host = s.host ∧
    (State.rallyFire a0 s a2 a3).mclk = s.mclk ∧
    (State.rallyFire a0 s a2 a3).gl = s.gl ∧
    (State.rallyFire a0 s a2 a3).cp = s.cp ∧
    (State.rallyFire a0 s a2 a3).can = s.can ∧
    (State.rallyFire a0 s a2 a3).canPub = s.canPub ∧
    (State.rallyFire a0 s a2 a3).eth = s.eth := by
  have k1 := @State.fireAngle_frame a0 h
  have k2 := @State.firePwm_frame a0 h
  have k3 := @State.fireTime_frame a0 h
  have k4 := @State.ite_frame
  unfold State.rallyFire
  simp [k1, k2, k3, k4]

theorem State.rallyFire_aux_frame (a0 : Act) (h : ∀ (t : State) (k e : Nat) (x : Stamp), (a0 t k e x).pending = t.pending ∧ (a0 t k e x).time = t.time ∧ (a0 t k e x).tick = t.tick ∧ (a0 t k e x).free = t.free ∧ (a0 t k e x).tl = t.tl ∧ (a0 t k e x).mu = t.mu ∧ (a0 t k e x).hk = t.hk ∧ (a0 t k e x).host = t.host ∧ (a0 t k e x).mclk = t.mclk ∧ (a0 t k e x).sd = t.sd ∧ (a0 t k e x).enc = t.enc ∧ (a0 t k e x).eng = t.eng ∧ (a0 t k e x).slices = t.slices ∧ (a0 t k e x).gl = t.gl ∧ (a0 t k e x).ref = t.ref ∧ (a0 t k e x).cp = t.cp ∧ (a0 t k e x).can = t.can ∧ (a0 t k e x).canPub = t.canPub ∧ (a0 t k e x).eth = t.eth ∧ (a0 t k e x).tio = t.tio) (s : State) (a2 : Nat) (a3 : Nat) :
    (State.rallyFire a0 s a2 a3).pending = s.pending ∧
    (State.rallyFire a0 s a2 a3).time = s.time ∧
    (State.rallyFire a0 s a2 a3).tick = s.tick ∧
    (State.rallyFire a0 s a2 a3).free = s.free ∧
    (State.rallyFire a0 s a2 a3).tl = s.tl ∧
    (State.rallyFire a0 s a2 a3).mu = s.mu ∧
    (State.rallyFire a0 s a2 a3).hk = s.hk ∧
    (State.rallyFire a0 s a2 a3).host = s.host ∧
    (State.rallyFire a0 s a2 a3).mclk = s.mclk ∧
    (State.rallyFire a0 s a2 a3).sd = s.sd ∧
    (State.rallyFire a0 s a2 a3).enc = s.enc ∧
    (State.rallyFire a0 s a2 a3).eng = s.eng ∧
    (State.rallyFire a0 s a2 a3).gl = s.gl ∧
    (State.rallyFire a0 s a2 a3).ref = s.ref ∧
    (State.rallyFire a0 s a2 a3).cp = s.cp ∧
    (State.rallyFire a0 s a2 a3).can = s.can ∧
    (State.rallyFire a0 s a2 a3).canPub = s.canPub ∧
    (State.rallyFire a0 s a2 a3).eth = s.eth ∧
    (State.rallyFire a0 s a2 a3).tio = s.tio := by
  have k1 := @State.fireAngle_aux_frame a0 h
  have k2 := @State.firePwm_aux_frame a0 h
  have k3 := @State.fireTime_aux_frame a0 h
  have k4 := @State.ite_frame
  unfold State.rallyFire
  simp [k1, k2, k3, k4]

theorem State.fireBefore_frame (s : State) (a1 : Nat) (a2 : Nat) :
    (State.fireBefore s a1 a2).pending = s.pending ∧
    (State.fireBefore s a1 a2).time = s.time ∧
    (State.fireBefore s a1 a2).tick = s.tick ∧
    (State.fireBefore s a1 a2).free = s.free ∧
    (State.fireBefore s a1 a2).tl = s.tl ∧
    (State.fireBefore s a1 a2).mu = s.mu ∧
    (State.fireBefore s a1 a2).hk = s.hk ∧
    (State.fireBefore s a1 a2).host = s.host ∧
    (State.fireBefore s a1 a2).mclk = s.mclk ∧
    (State.fireBefore s a1 a2).gl = s.gl ∧
    (State.fireBefore s a1 a2).cp = s.cp ∧
    (State.fireBefore s a1 a2).can = s.can ∧
    (State.fireBefore s a1 a2).canPub = s.canPub ∧
    (State.fireBefore s a1 a2).eth = s.eth := by
  have k2 := @State.rallyFire_frame State.rallyAct State.rallyAct_frame
  unfold State.fireBefore
  simp [k2]

theorem State.fireAux_frame (s : State) :
    (State.fireAux s).pending = s.pending ∧
    (State.fireAux s).time = s.time ∧
    (State.fireAux s).tick = s.tick ∧
    (State.fireAux s).free = s.free ∧
    (State.fireAux s).tl = s.tl ∧
    (State.fireAux s).mu = s.mu ∧
    (State.fireAux s).hk = s.hk ∧
    (State.fireAux s).host = s.host ∧
    (State.fireAux s).mclk = s.mclk ∧
    (State.fireAux s).sd = s.sd ∧
    (State.fireAux s).enc = s.enc ∧
    (State.fireAux s).eng = s.eng ∧
    (State.fireAux s).gl = s.gl ∧
    (State.fireAux s).ref = s.ref ∧
    (State.fireAux s).cp = s.cp ∧
    (State.fireAux s).can = s.can ∧
    (State.fireAux s).canPub = s.canPub ∧
    (State.fireAux s).eth = s.eth ∧
    (State.fireAux s).tio = s.tio := by
  have k2 := @State.rallyFire_aux_frame State.rallyAux State.rallyAux_frame
  unfold State.fireAux
  simp [k2]

theorem State.fireAll_frame (s : State) :
    (State.fireAll s).pending = s.pending ∧
    (State.fireAll s).time = s.time ∧
    (State.fireAll s).tick = s.tick ∧
    (State.fireAll s).free = s.free ∧
    (State.fireAll s).tl = s.tl ∧
    (State.fireAll s).mu = s.mu ∧
    (State.fireAll s).hk = s.hk ∧
    (State.fireAll s).host = s.host ∧
    (State.fireAll s).mclk = s.mclk ∧
    (State.fireAll s).gl = s.gl ∧
    (State.fireAll s).cp = s.cp ∧
    (State.fireAll s).can = s.can ∧
    (State.fireAll s).canPub = s.canPub ∧
    (State.fireAll s).eth = s.eth := by
  have k1 := @State.fireBefore_frame
  unfold State.fireAll
  simp [k1]

theorem effRallyTimeOccurrence_frame (a0 : Fin 6) (a1 : Fin 64) (s : State) :
    (effRallyTimeOccurrence a0 a1 s).pending = s.pending ∧
    (effRallyTimeOccurrence a0 a1 s).time = s.time ∧
    (effRallyTimeOccurrence a0 a1 s).tick = s.tick ∧
    (effRallyTimeOccurrence a0 a1 s).free = s.free ∧
    (effRallyTimeOccurrence a0 a1 s).tl = s.tl ∧
    (effRallyTimeOccurrence a0 a1 s).mu = s.mu ∧
    (effRallyTimeOccurrence a0 a1 s).hk = s.hk ∧
    (effRallyTimeOccurrence a0 a1 s).host = s.host ∧
    (effRallyTimeOccurrence a0 a1 s).mclk = s.mclk ∧
    (effRallyTimeOccurrence a0 a1 s).gl = s.gl ∧
    (effRallyTimeOccurrence a0 a1 s).cp = s.cp ∧
    (effRallyTimeOccurrence a0 a1 s).can = s.can ∧
    (effRallyTimeOccurrence a0 a1 s).canPub = s.canPub ∧
    (effRallyTimeOccurrence a0 a1 s).eth = s.eth := by
  have k1 := @State.fireBefore_frame
  have k2 := @State.fireTime_frame State.rallyAct State.rallyAct_frame
  unfold effRallyTimeOccurrence
  simp [k1, k2]

theorem effRallyPwmPhaseOccurrence_frame (a0 : Fin 6) (a1 : Fin 64) (s : State) :
    (effRallyPwmPhaseOccurrence a0 a1 s).pending = s.pending ∧
    (effRallyPwmPhaseOccurrence a0 a1 s).time = s.time ∧
    (effRallyPwmPhaseOccurrence a0 a1 s).tick = s.tick ∧
    (effRallyPwmPhaseOccurrence a0 a1 s).free = s.free ∧
    (effRallyPwmPhaseOccurrence a0 a1 s).tl = s.tl ∧
    (effRallyPwmPhaseOccurrence a0 a1 s).mu = s.mu ∧
    (effRallyPwmPhaseOccurrence a0 a1 s).hk = s.hk ∧
    (effRallyPwmPhaseOccurrence a0 a1 s).host = s.host ∧
    (effRallyPwmPhaseOccurrence a0 a1 s).mclk = s.mclk ∧
    (effRallyPwmPhaseOccurrence a0 a1 s).gl = s.gl ∧
    (effRallyPwmPhaseOccurrence a0 a1 s).cp = s.cp ∧
    (effRallyPwmPhaseOccurrence a0 a1 s).can = s.can ∧
    (effRallyPwmPhaseOccurrence a0 a1 s).canPub = s.canPub ∧
    (effRallyPwmPhaseOccurrence a0 a1 s).eth = s.eth := by
  have k1 := @State.fireBefore_frame
  have k2 := @State.firePwm_frame State.rallyAct State.rallyAct_frame
  unfold effRallyPwmPhaseOccurrence
  simp [k1, k2]

theorem effRallyAngleOccurrence_frame (a0 : Fin 6) (a1 : Fin 64) (s : State) :
    (effRallyAngleOccurrence a0 a1 s).pending = s.pending ∧
    (effRallyAngleOccurrence a0 a1 s).time = s.time ∧
    (effRallyAngleOccurrence a0 a1 s).tick = s.tick ∧
    (effRallyAngleOccurrence a0 a1 s).free = s.free ∧
    (effRallyAngleOccurrence a0 a1 s).tl = s.tl ∧
    (effRallyAngleOccurrence a0 a1 s).mu = s.mu ∧
    (effRallyAngleOccurrence a0 a1 s).hk = s.hk ∧
    (effRallyAngleOccurrence a0 a1 s).host = s.host ∧
    (effRallyAngleOccurrence a0 a1 s).mclk = s.mclk ∧
    (effRallyAngleOccurrence a0 a1 s).gl = s.gl ∧
    (effRallyAngleOccurrence a0 a1 s).cp = s.cp ∧
    (effRallyAngleOccurrence a0 a1 s).can = s.can ∧
    (effRallyAngleOccurrence a0 a1 s).canPub = s.canPub ∧
    (effRallyAngleOccurrence a0 a1 s).eth = s.eth := by
  have k1 := @State.fireAngle_frame State.rallyAct State.rallyAct_frame
  have k2 := @State.fireBefore_frame
  unfold effRallyAngleOccurrence
  simp [k1, k2]

theorem State.refreshEntry_frame (s : State) (a1 : Nat) (a2 : Nat) (a3 : Stamp) (a4 : Option Nat) (a5 : Option Stamp) :
    (State.refreshEntry s a1 a2 a3 a4 a5).pending = s.pending ∧
    (State.refreshEntry s a1 a2 a3 a4 a5).time = s.time ∧
    (State.refreshEntry s a1 a2 a3 a4 a5).tick = s.tick ∧
    (State.refreshEntry s a1 a2 a3 a4 a5).free = s.free ∧
    (State.refreshEntry s a1 a2 a3 a4 a5).tl = s.tl ∧
    (State.refreshEntry s a1 a2 a3 a4 a5).mu = s.mu ∧
    (State.refreshEntry s a1 a2 a3 a4 a5).hk = s.hk ∧
    (State.refreshEntry s a1 a2 a3 a4 a5).host = s.host ∧
    (State.refreshEntry s a1 a2 a3 a4 a5).mclk = s.mclk ∧
    (State.refreshEntry s a1 a2 a3 a4 a5).gl = s.gl ∧
    (State.refreshEntry s a1 a2 a3 a4 a5).cp = s.cp ∧
    (State.refreshEntry s a1 a2 a3 a4 a5).can = s.can ∧
    (State.refreshEntry s a1 a2 a3 a4 a5).canPub = s.canPub ∧
    (State.refreshEntry s a1 a2 a3 a4 a5).eth = s.eth := by
  have k1 := @State.angleOccur_frame State.rallyAct State.rallyAct_frame
  have k2 := @State.fireBefore_frame
  have k3 := @State.modRally_frame
  have k5 := @State.ite_frame
  unfold State.refreshEntry
  simp [k1, k2, k3, k5]

theorem State.rallyRefresh_frame (s : State) (a1 : Nat) (a2 : Stamp) (a3 : Option Nat) :
    (State.rallyRefresh s a1 a2 a3).pending = s.pending ∧
    (State.rallyRefresh s a1 a2 a3).time = s.time ∧
    (State.rallyRefresh s a1 a2 a3).tick = s.tick ∧
    (State.rallyRefresh s a1 a2 a3).free = s.free ∧
    (State.rallyRefresh s a1 a2 a3).tl = s.tl ∧
    (State.rallyRefresh s a1 a2 a3).mu = s.mu ∧
    (State.rallyRefresh s a1 a2 a3).hk = s.hk ∧
    (State.rallyRefresh s a1 a2 a3).host = s.host ∧
    (State.rallyRefresh s a1 a2 a3).mclk = s.mclk ∧
    (State.rallyRefresh s a1 a2 a3).gl = s.gl ∧
    (State.rallyRefresh s a1 a2 a3).cp = s.cp ∧
    (State.rallyRefresh s a1 a2 a3).can = s.can ∧
    (State.rallyRefresh s a1 a2 a3).canPub = s.canPub ∧
    (State.rallyRefresh s a1 a2 a3).eth = s.eth := by
  have k1 := @State.angFlush_frame
  have k2 := @State.modRally_frame
  have k3 := @State.refreshEntry_frame
  have k4 := @State.ite_frame
  unfold State.rallyRefresh
  simp [k1, k2, k3, k4]

theorem opRallyWrite_frame (a0 : Pkt) (s : State) :
    (opRallyWrite a0 s).st.pending = s.pending ∧
    (opRallyWrite a0 s).st.time = s.time ∧
    (opRallyWrite a0 s).st.tick = s.tick ∧
    (opRallyWrite a0 s).st.free = s.free ∧
    (opRallyWrite a0 s).st.tl = s.tl ∧
    (opRallyWrite a0 s).st.mu = s.mu ∧
    (opRallyWrite a0 s).st.hk = s.hk ∧
    (opRallyWrite a0 s).st.host = s.host ∧
    (opRallyWrite a0 s).st.mclk = s.mclk ∧
    (opRallyWrite a0 s).st.gl = s.gl ∧
    (opRallyWrite a0 s).st.cp = s.cp ∧
    (opRallyWrite a0 s).st.can = s.can ∧
    (opRallyWrite a0 s).st.canPub = s.canPub ∧
    (opRallyWrite a0 s).st.eth = s.eth := by
  have k1 := @State.fail_frame
  have k2 := @State.fireAll_frame
  have k3 := @State.okWith_frame
  have k4 := @State.rallyStart_frame
  have k5 := @State.setKept_frame
  have k6 := @State.ite_frame
  unfold opRallyWrite
  dsimp only
  repeat' (first | (simp [k1, k2, k3, k4, k5, k6]; done) | split)

end Sys2Proof.Machine
end

