-- ==== Sys2Proof/Laws/Pwm.lean ====
section
/-!
SUPPORT. What each operation of Machine/Pwm.lean leaves as it was: the parts of State that it cannot change.
-/

namespace Sys2Proof.Machine

open Sys2Proof

theorem State.driveLeg_frame (s : State) (a1 : Nat) (a2 : Nat) (a3 : List (Stamp × LegCmd)) :
    (State.driveLeg s a1 a2 a3).pending = s.pending ∧
    (State.driveLeg s a1 a2 a3).time = s.time ∧
    (State.driveLeg s a1 a2 a3).tick = s.tick ∧
    (State.driveLeg s a1 a2 a3).free = s.free ∧
    (State.driveLeg s a1 a2 a3).tl = s.tl ∧
    (State.driveLeg s a1 a2 a3).mu = s.mu ∧
    (State.driveLeg s a1 a2 a3).hk = s.hk ∧
    (State.driveLeg s a1 a2 a3).log = s.log ∧
    (State.driveLeg s a1 a2 a3).seqs = s.seqs ∧
    (State.driveLeg s a1 a2 a3).host = s.host ∧
    (State.driveLeg s a1 a2 a3).dict = s.dict ∧
    (State.driveLeg s a1 a2 a3).mclk = s.mclk ∧
    (State.driveLeg s a1 a2 a3).sd = s.sd ∧
    (State.driveLeg s a1 a2 a3).aux = s.aux ∧
    (State.driveLeg s a1 a2 a3).enc = s.enc ∧
    (State.driveLeg s a1 a2 a3).eng = s.eng ∧
    (State.driveLeg s a1 a2 a3).slices = s.slices ∧
    (State.driveLeg s a1 a2 a3).ref = s.ref ∧
    (State.driveLeg s a1 a2 a3).cp = s.cp ∧
    (State.driveLeg s a1 a2 a3).flk = s.flk ∧
    (State.driveLeg s a1 a2 a3).ring = s.ring ∧
    (State.driveLeg s a1 a2 a3).can = s.can ∧
    (State.driveLeg s a1 a2 a3).canPub = s.canPub ∧
    (State.driveLeg s a1 a2 a3).eth = s.eth ∧
    (State.driveLeg s a1 a2 a3).tio = s.tio ∧
    (State.driveLeg s a1 a2 a3).dia = s.dia := by
  unfold State.driveLeg
  simp

theorem State.driveAll_frame (s : State) (a1 : Nat) (a2 : Stamp) (a3 : LegCmd) :
    (State.driveAll s a1 a2 a3).pending = s.pending ∧
    (State.driveAll s a1 a2 a3).time = s.time ∧
    (State.driveAll s a1 a2 a3).tick = s.tick ∧
    (State.driveAll s a1 a2 a3).free = s.free ∧
    (State.driveAll s a1 a2 a3).tl = s.tl ∧
    (State.driveAll s a1 a2 a3).mu = s.mu ∧
    (State.driveAll s a1 a2 a3).hk = s.hk ∧
    (State.driveAll s a1 a2 a3).log = s.log ∧
    (State.driveAll s a1 a2 a3).seqs = s.seqs ∧
    (State.driveAll s a1 a2 a3).host = s.host ∧
    (State.driveAll s a1 a2 a3).dict = s.dict ∧
    (State.driveAll s a1 a2 a3).mclk = s.mclk ∧
    (State.driveAll s a1 a2 a3).sd = s.sd ∧
    (State.driveAll s a1 a2 a3).aux = s.aux ∧
    (State.driveAll s a1 a2 a3).enc = s.enc ∧
    (State.driveAll s a1 a2 a3).eng = s.eng ∧
    (State.driveAll s a1 a2 a3).slices = s.slices ∧
    (State.driveAll s a1 a2 a3).ref = s.ref ∧
    (State.driveAll s a1 a2 a3).cp = s.cp ∧
    (State.driveAll s a1 a2 a3).flk = s.flk ∧
    (State.driveAll s a1 a2 a3).ring = s.ring ∧
    (State.driveAll s a1 a2 a3).can = s.can ∧
    (State.driveAll s a1 a2 a3).canPub = s.canPub ∧
    (State.driveAll s a1 a2 a3).eth = s.eth ∧
    (State.driveAll s a1 a2 a3).tio = s.tio ∧
    (State.driveAll s a1 a2 a3).dia = s.dia := by
  have k1 := @State.driveLeg_frame
  unfold State.driveAll
  simp [k1]

theorem State.placeCarrier_frame (s : State) (a1 : Nat) (a2 : Stamp) :
    (State.placeCarrier s a1 a2).pending = s.pending ∧
    (State.placeCarrier s a1 a2).time = s.time ∧
    (State.placeCarrier s a1 a2).tick = s.tick ∧
    (State.placeCarrier s a1 a2).free = s.free ∧
    (State.placeCarrier s a1 a2).tl = s.tl ∧
    (State.placeCarrier s a1 a2).mu = s.mu ∧
    (State.placeCarrier s a1 a2).hk = s.hk ∧
    (State.placeCarrier s a1 a2).log = s.log ∧
    (State.placeCarrier s a1 a2).seqs = s.seqs ∧
    (State.placeCarrier s a1 a2).host = s.host ∧
    (State.placeCarrier s a1 a2).dict = s.dict ∧
    (State.placeCarrier s a1 a2).mclk = s.mclk ∧
    (State.placeCarrier s a1 a2).sd = s.sd ∧
    (State.placeCarrier s a1 a2).aux = s.aux ∧
    (State.placeCarrier s a1 a2).enc = s.enc ∧
    (State.placeCarrier s a1 a2).eng = s.eng ∧
    (State.placeCarrier s a1 a2).gl = s.gl ∧
    (State.placeCarrier s a1 a2).ref = s.ref ∧
    (State.placeCarrier s a1 a2).cp = s.cp ∧
    (State.placeCarrier s a1 a2).flk = s.flk ∧
    (State.placeCarrier s a1 a2).ring = s.ring ∧
    (State.placeCarrier s a1 a2).can = s.can ∧
    (State.placeCarrier s a1 a2).canPub = s.canPub ∧
    (State.placeCarrier s a1 a2).eth = s.eth ∧
    (State.placeCarrier s a1 a2).tio = s.tio ∧
    (State.placeCarrier s a1 a2).dia = s.dia := by
  unfold State.placeCarrier
  simp

theorem State.driveSet_frame (s : State) (a1 : Nat) (a2 : SetCalc) (a3 : Ang32) (a4 : Bool × Nat) (a5 : Bool) (a6 : F32) (a7 : Stamp) (a8 : Stamp) :
    (State.driveSet s a1 a2 a3 a4 a5 a6 a7 a8).pending = s.pending ∧
    (State.driveSet s a1 a2 a3 a4 a5 a6 a7 a8).time = s.time ∧
    (State.driveSet s a1 a2 a3 a4 a5 a6 a7 a8).tick = s.tick ∧
    (State.driveSet s a1 a2 a3 a4 a5 a6 a7 a8).free = s.free ∧
    (State.driveSet s a1 a2 a3 a4 a5 a6 a7 a8).tl = s.tl ∧
    (State.driveSet s a1 a2 a3 a4 a5 a6 a7 a8).mu = s.mu ∧
    (State.driveSet s a1 a2 a3 a4 a5 a6 a7 a8).hk = s.hk ∧
    (State.driveSet s a1 a2 a3 a4 a5 a6 a7 a8).log = s.log ∧
    (State.driveSet s a1 a2 a3 a4 a5 a6 a7 a8).seqs = s.seqs ∧
    (State.driveSet s a1 a2 a3 a4 a5 a6 a7 a8).host = s.host ∧
    (State.driveSet s a1 a2 a3 a4 a5 a6 a7 a8).dict = s.dict ∧
    (State.driveSet s a1 a2 a3 a4 a5 a6 a7 a8).mclk = s.mclk ∧
    (State.driveSet s a1 a2 a3 a4 a5 a6 a7 a8).sd = s.sd ∧
    (State.driveSet s a1 a2 a3 a4 a5 a6 a7 a8).aux = s.aux ∧
    (State.driveSet s a1 a2 a3 a4 a5 a6 a7 a8).enc = s.enc ∧
    (State.driveSet s a1 a2 a3 a4 a5 a6 a7 a8).eng = s.eng ∧
    (State.driveSet s a1 a2 a3 a4 a5 a6 a7 a8).slices = s.slices ∧
    (State.driveSet s a1 a2 a3 a4 a5 a6 a7 a8).ref = s.ref ∧
    (State.driveSet s a1 a2 a3 a4 a5 a6 a7 a8).cp = s.cp ∧
    (State.driveSet s a1 a2 a3 a4 a5 a6 a7 a8).flk = s.flk ∧
    (State.driveSet s a1 a2 a3 a4 a5 a6 a7 a8).ring = s.ring ∧
    (State.driveSet s a1 a2 a3 a4 a5 a6 a7 a8).can = s.can ∧
    (State.driveSet s a1 a2 a3 a4 a5 a6 a7 a8).canPub = s.canPub ∧
    (State.driveSet s a1 a2 a3 a4 a5 a6 a7 a8).eth = s.eth ∧
    (State.driveSet s a1 a2 a3 a4 a5 a6 a7 a8).tio = s.tio ∧
    (State.driveSet s a1 a2 a3 a4 a5 a6 a7 a8).dia = s.dia := by
  have k1 := @State.driveLeg_frame
  have k2 := @State.ite_frame
  unfold State.driveSet
  simp [k1, k2]

theorem State.driveSets_frame (s : State) (a1 : Nat) (a2 : List SetCalc) (a3 : Ang32) (a4 : Bool × Nat) (a5 : Bool) (a6 : F32) (a7 : Stamp) (a8 : Stamp) :
    (State.driveSets s a1 a2 a3 a4 a5 a6 a7 a8).pending = s.pending ∧
    (State.driveSets s a1 a2 a3 a4 a5 a6 a7 a8).time = s.time ∧
    (State.driveSets s a1 a2 a3 a4 a5 a6 a7 a8).tick = s.tick ∧
    (State.driveSets s a1 a2 a3 a4 a5 a6 a7 a8).free = s.free ∧
    (State.driveSets s a1 a2 a3 a4 a5 a6 a7 a8).tl = s.tl ∧
    (State.driveSets s a1 a2 a3 a4 a5 a6 a7 a8).mu = s.mu ∧
    (State.driveSets s a1 a2 a3 a4 a5 a6 a7 a8).hk = s.hk ∧
    (State.driveSets s a1 a2 a3 a4 a5 a6 a7 a8).log = s.log ∧
    (State.driveSets s a1 a2 a3 a4 a5 a6 a7 a8).seqs = s.seqs ∧
    (State.driveSets s a1 a2 a3 a4 a5 a6 a7 a8).host = s.host ∧
    (State.driveSets s a1 a2 a3 a4 a5 a6 a7 a8).dict = s.dict ∧
    (State.driveSets s a1 a2 a3 a4 a5 a6 a7 a8).mclk = s.mclk ∧
    (State.driveSets s a1 a2 a3 a4 a5 a6 a7 a8).sd = s.sd ∧
    (State.driveSets s a1 a2 a3 a4 a5 a6 a7 a8).aux = s.aux ∧
    (State.driveSets s a1 a2 a3 a4 a5 a6 a7 a8).enc = s.enc ∧
    (State.driveSets s a1 a2 a3 a4 a5 a6 a7 a8).eng = s.eng ∧
    (State.driveSets s a1 a2 a3 a4 a5 a6 a7 a8).slices = s.slices ∧
    (State.driveSets s a1 a2 a3 a4 a5 a6 a7 a8).ref = s.ref ∧
    (State.driveSets s a1 a2 a3 a4 a5 a6 a7 a8).cp = s.cp ∧
    (State.driveSets s a1 a2 a3 a4 a5 a6 a7 a8).flk = s.flk ∧
    (State.driveSets s a1 a2 a3 a4 a5 a6 a7 a8).ring = s.ring ∧
    (State.driveSets s a1 a2 a3 a4 a5 a6 a7 a8).can = s.can ∧
    (State.driveSets s a1 a2 a3 a4 a5 a6 a7 a8).canPub = s.canPub ∧
    (State.driveSets s a1 a2 a3 a4 a5 a6 a7 a8).eth = s.eth ∧
    (State.driveSets s a1 a2 a3 a4 a5 a6 a7 a8).tio = s.tio ∧
    (State.driveSets s a1 a2 a3 a4 a5 a6 a7 a8).dia = s.dia := by
  have k1 := @State.driveSet_frame
  have k2 := @State.ite_frame
  unfold State.driveSets
  simp [k1, k2]

theorem State.setBoundary_frame (s : State) (a1 : Nat) (a2 : F32 × F32) (a3 : Stamp) :
    (State.setBoundary s a1 a2 a3).pending = s.pending ∧
    (State.setBoundary s a1 a2 a3).time = s.time ∧
    (State.setBoundary s a1 a2 a3).tick = s.tick ∧
    (State.setBoundary s a1 a2 a3).free = s.free ∧
    (State.setBoundary s a1 a2 a3).tl = s.tl ∧
    (State.setBoundary s a1 a2 a3).mu = s.mu ∧
    (State.setBoundary s a1 a2 a3).hk = s.hk ∧
    (State.setBoundary s a1 a2 a3).log = s.log ∧
    (State.setBoundary s a1 a2 a3).seqs = s.seqs ∧
    (State.setBoundary s a1 a2 a3).host = s.host ∧
    (State.setBoundary s a1 a2 a3).dict = s.dict ∧
    (State.setBoundary s a1 a2 a3).mclk = s.mclk ∧
    (State.setBoundary s a1 a2 a3).sd = s.sd ∧
    (State.setBoundary s a1 a2 a3).aux = s.aux ∧
    (State.setBoundary s a1 a2 a3).enc = s.enc ∧
    (State.setBoundary s a1 a2 a3).eng = s.eng ∧
    (State.setBoundary s a1 a2 a3).gl = s.gl ∧
    (State.setBoundary s a1 a2 a3).ref = s.ref ∧
    (State.setBoundary s a1 a2 a3).cp = s.cp ∧
    (State.setBoundary s a1 a2 a3).flk = s.flk ∧
    (State.setBoundary s a1 a2 a3).ring = s.ring ∧
    (State.setBoundary s a1 a2 a3).can = s.can ∧
    (State.setBoundary s a1 a2 a3).canPub = s.canPub ∧
    (State.setBoundary s a1 a2 a3).eth = s.eth ∧
    (State.setBoundary s a1 a2 a3).tio = s.tio ∧
    (State.setBoundary s a1 a2 a3).dia = s.dia := by
  have k1 := @State.placeCarrier_frame
  have k2 := @State.ite_frame
  unfold State.setBoundary
  dsimp only
  repeat' split
  all_goals simp [k1, k2]

theorem State.driveVectors_frame (s : State) (a1 : Nat) (a2 : List SetCalc) (a3 : Ang32) (a4 : F32) (a5 : Stamp) (a6 : Stamp) :
    (State.driveVectors s a1 a2 a3 a4 a5 a6).pending = s.pending ∧
    (State.driveVectors s a1 a2 a3 a4 a5 a6).time = s.time ∧
    (State.driveVectors s a1 a2 a3 a4 a5 a6).tick = s.tick ∧
    (State.driveVectors s a1 a2 a3 a4 a5 a6).free = s.free ∧
    (State.driveVectors s a1 a2 a3 a4 a5 a6).tl = s.tl ∧
    (State.driveVectors s a1 a2 a3 a4 a5 a6).mu = s.mu ∧
    (State.driveVectors s a1 a2 a3 a4 a5 a6).hk = s.hk ∧
    (State.driveVectors s a1 a2 a3 a4 a5 a6).log = s.log ∧
    (State.driveVectors s a1 a2 a3 a4 a5 a6).seqs = s.seqs ∧
    (State.driveVectors s a1 a2 a3 a4 a5 a6).host = s.host ∧
    (State.driveVectors s a1 a2 a3 a4 a5 a6).dict = s.dict ∧
    (State.driveVectors s a1 a2 a3 a4 a5 a6).mclk = s.mclk ∧
    (State.driveVectors s a1 a2 a3 a4 a5 a6).sd = s.sd ∧
    (State.driveVectors s a1 a2 a3 a4 a5 a6).aux = s.aux ∧
    (State.driveVectors s a1 a2 a3 a4 a5 a6).enc = s.enc ∧
    (State.driveVectors s a1 a2 a3 a4 a5 a6).eng = s.eng ∧
    (State.driveVectors s a1 a2 a3 a4 a5 a6).slices = s.slices ∧
    (State.driveVectors s a1 a2 a3 a4 a5 a6).ref = s.ref ∧
    (State.driveVectors s a1 a2 a3 a4 a5 a6).cp = s.cp ∧
    (State.driveVectors s a1 a2 a3 a4 a5 a6).flk = s.flk ∧
    (State.driveVectors s a1 a2 a3 a4 a5 a6).ring = s.ring ∧
    (State.driveVectors s a1 a2 a3 a4 a5 a6).can = s.can ∧
    (State.driveVectors s a1 a2 a3 a4 a5 a6).canPub = s.canPub ∧
    (State.driveVectors s a1 a2 a3 a4 a5 a6).eth = s.eth ∧
    (State.driveVectors s a1 a2 a3 a4 a5 a6).tio = s.tio ∧
    (State.driveVectors s a1 a2 a3 a4 a5 a6).dia = s.dia := by
  have k1 := @State.driveSets_frame
  have k2 := @State.ite_frame
  unfold State.driveVectors
  dsimp only
  repeat' (first | (simp [k1, k2]; done) | split)

theorem State.driveDischarge_frame (s : State) (a1 : Nat) (a2 : Pattern) (a3 : Stamp) :
    (State.driveDischarge s a1 a2 a3).pending = s.pending ∧
    (State.driveDischarge s a1 a2 a3).time = s.time ∧
    (State.driveDischarge s a1 a2 a3).tick = s.tick ∧
    (State.driveDischarge s a1 a2 a3).free = s.free ∧
    (State.driveDischarge s a1 a2 a3).tl = s.tl ∧
    (State.driveDischarge s a1 a2 a3).mu = s.mu ∧
    (State.driveDischarge s a1 a2 a3).hk = s.hk ∧
    (State.driveDischarge s a1 a2 a3).log = s.log ∧
    (State.driveDischarge s a1 a2 a3).seqs = s.seqs ∧
    (State.driveDischarge s a1 a2 a3).host = s.host ∧
    (State.driveDischarge s a1 a2 a3).dict = s.dict ∧
    (State.driveDischarge s a1 a2 a3).mclk = s.mclk ∧
    (State.driveDischarge s a1 a2 a3).sd = s.sd ∧
    (State.driveDischarge s a1 a2 a3).aux = s.aux ∧
    (State.driveDischarge s a1 a2 a3).enc = s.enc ∧
    (State.driveDischarge s a1 a2 a3).eng = s.eng ∧
    (State.driveDischarge s a1 a2 a3).slices = s.slices ∧
    (State.driveDischarge s a1 a2 a3).ref = s.ref ∧
    (State.driveDischarge s a1 a2 a3).cp = s.cp ∧
    (State.driveDischarge s a1 a2 a3).flk = s.flk ∧
    (State.driveDischarge s a1 a2 a3).ring = s.ring ∧
    (State.driveDischarge s a1 a2 a3).can = s.can ∧
    (State.driveDischarge s a1 a2 a3).canPub = s.canPub ∧
    (State.driveDischarge s a1 a2 a3).eth = s.eth ∧
    (State.driveDischarge s a1 a2 a3).tio = s.tio ∧
    (State.driveDischarge s a1 a2 a3).dia = s.dia := by
  have k1 := @State.driveLeg_frame
  have k2 := @State.ite_frame
  unfold State.driveDischarge
  simp [k1, k2]

theorem State.addPlan_frame (s : State) (a1 : Nat) (a2 : Plan) :
    (State.addPlan s a1 a2).pending = s.pending ∧
    (State.addPlan s a1 a2).time = s.time ∧
    (State.addPlan s a1 a2).tick = s.tick ∧
    (State.addPlan s a1 a2).free = s.free ∧
    (State.addPlan s a1 a2).tl = s.tl ∧
    (State.addPlan s a1 a2).mu = s.mu ∧
    (State.addPlan s a1 a2).hk = s.hk ∧
    (State.addPlan s a1 a2).log = s.log ∧
    (State.addPlan s a1 a2).seqs = s.seqs ∧
    (State.addPlan s a1 a2).host = s.host ∧
    (State.addPlan s a1 a2).dict = s.dict ∧
    (State.addPlan s a1 a2).mclk = s.mclk ∧
    (State.addPlan s a1 a2).sd = s.sd ∧
    (State.addPlan s a1 a2).aux = s.aux ∧
    (State.addPlan s a1 a2).enc = s.enc ∧
    (State.addPlan s a1 a2).eng = s.eng ∧
    (State.addPlan s a1 a2).gl = s.gl ∧
    (State.addPlan s a1 a2).ref = s.ref ∧
    (State.addPlan s a1 a2).cp = s.cp ∧
    (State.addPlan s a1 a2).flk = s.flk ∧
    (State.addPlan s a1 a2).ring = s.ring ∧
    (State.addPlan s a1 a2).can = s.can ∧
    (State.addPlan s a1 a2).canPub = s.canPub ∧
    (State.addPlan s a1 a2).eth = s.eth ∧
    (State.addPlan s a1 a2).tio = s.tio ∧
    (State.addPlan s a1 a2).dia = s.dia := by
  unfold State.addPlan
  simp

theorem State.computeVectors_frame (s : State) (a1 : Nat) (a2 : Pattern) (a3 : Stamp) (a4 : Stamp) :
    (State.computeVectors s a1 a2 a3 a4).pending = s.pending ∧
    (State.computeVectors s a1 a2 a3 a4).time = s.time ∧
    (State.computeVectors s a1 a2 a3 a4).tick = s.tick ∧
    (State.computeVectors s a1 a2 a3 a4).tl = s.tl ∧
    (State.computeVectors s a1 a2 a3 a4).mu = s.mu ∧
    (State.computeVectors s a1 a2 a3 a4).hk = s.hk ∧
    (State.computeVectors s a1 a2 a3 a4).log = s.log ∧
    (State.computeVectors s a1 a2 a3 a4).seqs = s.seqs ∧
    (State.computeVectors s a1 a2 a3 a4).host = s.host ∧
    (State.computeVectors s a1 a2 a3 a4).mclk = s.mclk ∧
    (State.computeVectors s a1 a2 a3 a4).sd = s.sd ∧
    (State.computeVectors s a1 a2 a3 a4).aux = s.aux ∧
    (State.computeVectors s a1 a2 a3 a4).enc = s.enc ∧
    (State.computeVectors s a1 a2 a3 a4).eng = s.eng ∧
    (State.computeVectors s a1 a2 a3 a4).ref = s.ref ∧
    (State.computeVectors s a1 a2 a3 a4).cp = s.cp ∧
    (State.computeVectors s a1 a2 a3 a4).flk = s.flk ∧
    (State.computeVectors s a1 a2 a3 a4).ring = s.ring ∧
    (State.computeVectors s a1 a2 a3 a4).can = s.can ∧
    (State.computeVectors s a1 a2 a3 a4).canPub = s.canPub ∧
    (State.computeVectors s a1 a2 a3 a4).eth = s.eth ∧
    (State.computeVectors s a1 a2 a3 a4).tio = s.tio ∧
    (State.computeVectors s a1 a2 a3 a4).dia = s.dia := by
  have k1 := @State.addPlan_frame
  have k2 := @State.driveVectors_frame
  have k3 := @State.setBoundary_frame
  have k4 := @State.ite_frame
  unfold State.computeVectors
  dsimp only
  repeat' split
  all_goals simp [k1, k2, k3, k4]

theorem State.cutFrom_frame (s : State) (a1 : Nat) (a2 : Stamp) :
    (State.cutFrom s a1 a2).pending = s.pending ∧
    (State.cutFrom s a1 a2).time = s.time ∧
    (State.cutFrom s a1 a2).tick = s.tick ∧
    (State.cutFrom s a1 a2).free = s.free ∧
    (State.cutFrom s a1 a2).tl = s.tl ∧
    (State.cutFrom s a1 a2).mu = s.mu ∧
    (State.cutFrom s a1 a2).hk = s.hk ∧
    (State.cutFrom s a1 a2).log = s.log ∧
    (State.cutFrom s a1 a2).seqs = s.seqs ∧
    (State.cutFrom s a1 a2).host = s.host ∧
    (State.cutFrom s a1 a2).dict = s.dict ∧
    (State.cutFrom s a1 a2).mclk = s.mclk ∧
    (State.cutFrom s a1 a2).sd = s.sd ∧
    (State.cutFrom s a1 a2).aux = s.aux ∧
    (State.cutFrom s a1 a2).enc = s.enc ∧
    (State.cutFrom s a1 a2).eng = s.eng ∧
    (State.cutFrom s a1 a2).ref = s.ref ∧
    (State.cutFrom s a1 a2).cp = s.cp ∧
    (State.cutFrom s a1 a2).flk = s.flk ∧
    (State.cutFrom s a1 a2).ring = s.ring ∧
    (State.cutFrom s a1 a2).can = s.can ∧
    (State.cutFrom s a1 a2).canPub = s.canPub ∧
    (State.cutFrom s a1 a2).eth = s.eth ∧
    (State.cutFrom s a1 a2).tio = s.tio ∧
    (State.cutFrom s a1 a2).dia = s.dia := by
  unfold State.cutFrom
  simp

theorem State.compute_frame (s : State) (a1 : Nat) (a2 : Stamp) (a3 : Stamp) :
    (State.compute s a1 a2 a3).pending = s.pending ∧
    (State.compute s a1 a2 a3).time = s.time ∧
    (State.compute s a1 a2 a3).tick = s.tick ∧
    (State.compute s a1 a2 a3).tl = s.tl ∧
    (State.compute s a1 a2 a3).mu = s.mu ∧
    (State.compute s a1 a2 a3).hk = s.hk ∧
    (State.compute s a1 a2 a3).log = s.log ∧
    (State.compute s a1 a2 a3).seqs = s.seqs ∧
    (State.compute s a1 a2 a3).host = s.host ∧
    (State.compute s a1 a2 a3).mclk = s.mclk ∧
    (State.compute s a1 a2 a3).sd = s.sd ∧
    (State.compute s a1 a2 a3).aux = s.aux ∧
    (State.compute s a1 a2 a3).enc = s.enc ∧
    (State.compute s a1 a2 a3).eng = s.eng ∧
    (State.compute s a1 a2 a3).ref = s.ref ∧
    (State.compute s a1 a2 a3).cp = s.cp ∧
    (State.compute s a1 a2 a3).flk = s.flk ∧
    (State.compute s a1 a2 a3).ring = s.ring ∧
    (State.compute s a1 a2 a3).can = s.can ∧
    (State.compute s a1 a2 a3).canPub = s.canPub ∧
    (State.compute s a1 a2 a3).eth = s.eth ∧
    (State.compute s a1 a2 a3).tio = s.tio ∧
    (State.compute s a1 a2 a3).dia = s.dia := by
  have k1 := @State.addPlan_frame
  have k2 := @State.computeVectors_frame
  have k3 := @State.cutFrom_frame
  have k4 := @State.driveAll_frame
  have k5 := @State.driveDischarge_frame
  have k6 := @State.ite_frame
  unfold State.compute
  dsimp only
  repeat' split
  all_goals simp [k1, k2, k3, k4, k5, k6]

theorem effModulatorComputeDone_frame (a0 : Fin 6) (s : State) :
    (effModulatorComputeDone a0 s).pending = s.pending ∧
    (effModulatorComputeDone a0 s).time = s.time ∧
    (effModulatorComputeDone a0 s).tick = s.tick ∧
    (effModulatorComputeDone a0 s).tl = s.tl ∧
    (effModulatorComputeDone a0 s).mu = s.mu ∧
    (effModulatorComputeDone a0 s).hk = s.hk ∧
    (effModulatorComputeDone a0 s).log = s.log ∧
    (effModulatorComputeDone a0 s).seqs = s.seqs ∧
    (effModulatorComputeDone a0 s).host = s.host ∧
    (effModulatorComputeDone a0 s).mclk = s.mclk ∧
    (effModulatorComputeDone a0 s).sd = s.sd ∧
    (effModulatorComputeDone a0 s).aux = s.aux ∧
    (effModulatorComputeDone a0 s).enc = s.enc ∧
    (effModulatorComputeDone a0 s).eng = s.eng ∧
    (effModulatorComputeDone a0 s).ref = s.ref ∧
    (effModulatorComputeDone a0 s).cp = s.cp ∧
    (effModulatorComputeDone a0 s).flk = s.flk ∧
    (effModulatorComputeDone a0 s).ring = s.ring ∧
    (effModulatorComputeDone a0 s).can = s.can ∧
    (effModulatorComputeDone a0 s).canPub = s.canPub ∧
    (effModulatorComputeDone a0 s).eth = s.eth ∧
    (effModulatorComputeDone a0 s).tio = s.tio ∧
    (effModulatorComputeDone a0 s).dia = s.dia := by
  have k1 := @State.compute_frame
  have k2 := @State.cutFrom_frame
  have k3 := @State.ite_frame
  unfold effModulatorComputeDone
  dsimp only
  repeat' (first | (simp [k1, k2, k3]; done) | split)

theorem effUpdateIntervalStart_frame (a0 : Fin 6) (s : State) :
    (effUpdateIntervalStart a0 s).pending = s.pending ∧
    (effUpdateIntervalStart a0 s).time = s.time ∧
    (effUpdateIntervalStart a0 s).tick = s.tick ∧
    (effUpdateIntervalStart a0 s).free = s.free ∧
    (effUpdateIntervalStart a0 s).tl = s.tl ∧
    (effUpdateIntervalStart a0 s).mu = s.mu ∧
    (effUpdateIntervalStart a0 s).hk = s.hk ∧
    (effUpdateIntervalStart a0 s).log = s.log ∧
    (effUpdateIntervalStart a0 s).host = s.host ∧
    (effUpdateIntervalStart a0 s).mclk = s.mclk ∧
    (effUpdateIntervalStart a0 s).sd = s.sd ∧
    (effUpdateIntervalStart a0 s).aux = s.aux ∧
    (effUpdateIntervalStart a0 s).cp = s.cp ∧
    (effUpdateIntervalStart a0 s).canPub = s.canPub ∧
    (effUpdateIntervalStart a0 s).eth = s.eth ∧
    (effUpdateIntervalStart a0 s).tio = s.tio := by
  have k1 := @State.holdSignals_frame
  have k2 := @State.joinAt_frame
  have k3 := @State.ite_frame
  unfold effUpdateIntervalStart
  dsimp only
  repeat' (first | (simp [k1, k2, k3]; done) | split)

theorem effPwmPeriodApply_frame (a0 : Fin 6) (s : State) :
    (effPwmPeriodApply a0 s).pending = s.pending ∧
    (effPwmPeriodApply a0 s).time = s.time ∧
    (effPwmPeriodApply a0 s).tick = s.tick ∧
    (effPwmPeriodApply a0 s).free = s.free ∧
    (effPwmPeriodApply a0 s).tl = s.tl ∧
    (effPwmPeriodApply a0 s).mu = s.mu ∧
    (effPwmPeriodApply a0 s).hk = s.hk ∧
    (effPwmPeriodApply a0 s).log = s.log ∧
    (effPwmPeriodApply a0 s).seqs = s.seqs ∧
    (effPwmPeriodApply a0 s).host = s.host ∧
    (effPwmPeriodApply a0 s).dict = s.dict ∧
    (effPwmPeriodApply a0 s).mclk = s.mclk ∧
    (effPwmPeriodApply a0 s).sd = s.sd ∧
    (effPwmPeriodApply a0 s).aux = s.aux ∧
    (effPwmPeriodApply a0 s).enc = s.enc ∧
    (effPwmPeriodApply a0 s).eng = s.eng ∧
    (effPwmPeriodApply a0 s).gl = s.gl ∧
    (effPwmPeriodApply a0 s).ref = s.ref ∧
    (effPwmPeriodApply a0 s).cp = s.cp ∧
    (effPwmPeriodApply a0 s).flk = s.flk ∧
    (effPwmPeriodApply a0 s).ring = s.ring ∧
    (effPwmPeriodApply a0 s).can = s.can ∧
    (effPwmPeriodApply a0 s).canPub = s.canPub ∧
    (effPwmPeriodApply a0 s).eth = s.eth ∧
    (effPwmPeriodApply a0 s).tio = s.tio ∧
    (effPwmPeriodApply a0 s).dia = s.dia := by
  have k1 := @State.ite_frame
  unfold effPwmPeriodApply
  dsimp only
  repeat' (first | (simp [k1]; done) | split)

theorem effModulationModeBoundary_frame (a0 : Fin 6) (s : State) :
    (effModulationModeBoundary a0 s).pending = s.pending ∧
    (effModulationModeBoundary a0 s).time = s.time ∧
    (effModulationModeBoundary a0 s).tick = s.tick ∧
    (effModulationModeBoundary a0 s).free = s.free ∧
    (effModulationModeBoundary a0 s).tl = s.tl ∧
    (effModulationModeBoundary a0 s).mu = s.mu ∧
    (effModulationModeBoundary a0 s).hk = s.hk ∧
    (effModulationModeBoundary a0 s).log = s.log ∧
    (effModulationModeBoundary a0 s).seqs = s.seqs ∧
    (effModulationModeBoundary a0 s).host = s.host ∧
    (effModulationModeBoundary a0 s).dict = s.dict ∧
    (effModulationModeBoundary a0 s).mclk = s.mclk ∧
    (effModulationModeBoundary a0 s).sd = s.sd ∧
    (effModulationModeBoundary a0 s).aux = s.aux ∧
    (effModulationModeBoundary a0 s).enc = s.enc ∧
    (effModulationModeBoundary a0 s).eng = s.eng ∧
    (effModulationModeBoundary a0 s).gl = s.gl ∧
    (effModulationModeBoundary a0 s).ref = s.ref ∧
    (effModulationModeBoundary a0 s).cp = s.cp ∧
    (effModulationModeBoundary a0 s).flk = s.flk ∧
    (effModulationModeBoundary a0 s).ring = s.ring ∧
    (effModulationModeBoundary a0 s).can = s.can ∧
    (effModulationModeBoundary a0 s).canPub = s.canPub ∧
    (effModulationModeBoundary a0 s).eth = s.eth ∧
    (effModulationModeBoundary a0 s).tio = s.tio ∧
    (effModulationModeBoundary a0 s).dia = s.dia := by
  have k1 := @State.ite_frame
  unfold effModulationModeBoundary
  dsimp only
  repeat' (first | (simp [k1]; done) | split)

theorem effEdgeSend_frame (a0 : Fin 24) (s : State) :
    (effEdgeSend a0 s).pending = s.pending ∧
    (effEdgeSend a0 s).time = s.time ∧
    (effEdgeSend a0 s).tick = s.tick ∧
    (effEdgeSend a0 s).free = s.free ∧
    (effEdgeSend a0 s).tl = s.tl ∧
    (effEdgeSend a0 s).mu = s.mu ∧
    (effEdgeSend a0 s).hk = s.hk ∧
    (effEdgeSend a0 s).host = s.host ∧
    (effEdgeSend a0 s).mclk = s.mclk ∧
    (effEdgeSend a0 s).sd = s.sd ∧
    (effEdgeSend a0 s).aux = s.aux ∧
    (effEdgeSend a0 s).enc = s.enc ∧
    (effEdgeSend a0 s).eng = s.eng ∧
    (effEdgeSend a0 s).ref = s.ref ∧
    (effEdgeSend a0 s).cp = s.cp ∧
    (effEdgeSend a0 s).ring = s.ring ∧
    (effEdgeSend a0 s).can = s.can ∧
    (effEdgeSend a0 s).canPub = s.canPub ∧
    (effEdgeSend a0 s).eth = s.eth ∧
    (effEdgeSend a0 s).tio = s.tio := by
  have k1 := @State.glSend_frame
  have k2 := @State.glSendAt_frame
  have k3 := @State.linkFault_frame
  have k4 := @State.record_frame
  have k5 := @State.ite_frame
  unfold effEdgeSend
  dsimp only
  repeat' (first | (simp [k1, k2, k3, k4, k5]; done) | split)

end Sys2Proof.Machine
end

