-- ==== Sys2Proof/Laws/SafetyFns.lean ====
section
/-!
SUPPORT. What each operation of Machine/SafetyFns.lean leaves as it was: the parts of State that it cannot change.
-/

namespace Sys2Proof.Machine

open Sys2Proof

theorem State.refReact_frame (s : State) (a1 : Nat) (a2 : Nat) (a3 : Nat) :
    (State.refReact s a1 a2 a3).pending = s.pending ∧
    (State.refReact s a1 a2 a3).time = s.time ∧
    (State.refReact s a1 a2 a3).tick = s.tick ∧
    (State.refReact s a1 a2 a3).free = s.free ∧
    (State.refReact s a1 a2 a3).tl = s.tl ∧
    (State.refReact s a1 a2 a3).mu = s.mu ∧
    (State.refReact s a1 a2 a3).hk = s.hk ∧
    (State.refReact s a1 a2 a3).host = s.host ∧
    (State.refReact s a1 a2 a3).mclk = s.mclk ∧
    (State.refReact s a1 a2 a3).sd = s.sd ∧
    (State.refReact s a1 a2 a3).aux = s.aux ∧
    (State.refReact s a1 a2 a3).enc = s.enc ∧
    (State.refReact s a1 a2 a3).eng = s.eng ∧
    (State.refReact s a1 a2 a3).cp = s.cp ∧
    (State.refReact s a1 a2 a3).flk = s.flk ∧
    (State.refReact s a1 a2 a3).ring = s.ring ∧
    (State.refReact s a1 a2 a3).can = s.can ∧
    (State.refReact s a1 a2 a3).canPub = s.canPub ∧
    (State.refReact s a1 a2 a3).eth = s.eth ∧
    (State.refReact s a1 a2 a3).tio = s.tio := by
  have k1 := @State.force_frame
  have k2 := @State.ss1Request_frame
  have k3 := @State.ite_frame
  unfold State.refReact
  simp [k1, k2, k3]

theorem State.ss1End_frame (s : State) (a1 : Nat) (a2 : Nat) :
    (State.ss1End s a1 a2).pending = s.pending ∧
    (State.ss1End s a1 a2).time = s.time ∧
    (State.ss1End s a1 a2).tick = s.tick ∧
    (State.ss1End s a1 a2).free = s.free ∧
    (State.ss1End s a1 a2).tl = s.tl ∧
    (State.ss1End s a1 a2).mu = s.mu ∧
    (State.ss1End s a1 a2).hk = s.hk ∧
    (State.ss1End s a1 a2).host = s.host ∧
    (State.ss1End s a1 a2).mclk = s.mclk ∧
    (State.ss1End s a1 a2).sd = s.sd ∧
    (State.ss1End s a1 a2).aux = s.aux ∧
    (State.ss1End s a1 a2).enc = s.enc ∧
    (State.ss1End s a1 a2).eng = s.eng ∧
    (State.ss1End s a1 a2).cp = s.cp ∧
    (State.ss1End s a1 a2).flk = s.flk ∧
    (State.ss1End s a1 a2).ring = s.ring ∧
    (State.ss1End s a1 a2).can = s.can ∧
    (State.ss1End s a1 a2).canPub = s.canPub ∧
    (State.ss1End s a1 a2).eth = s.eth ∧
    (State.ss1End s a1 a2).tio = s.tio := by
  have k1 := @State.force_frame
  unfold State.ss1End
  simp [k1]

theorem State.ss1Check_frame (s : State) (a1 : Nat) (a2 : Nat) (a3 : Option F32) :
    (State.ss1Check s a1 a2 a3).pending = s.pending ∧
    (State.ss1Check s a1 a2 a3).time = s.time ∧
    (State.ss1Check s a1 a2 a3).tick = s.tick ∧
    (State.ss1Check s a1 a2 a3).free = s.free ∧
    (State.ss1Check s a1 a2 a3).tl = s.tl ∧
    (State.ss1Check s a1 a2 a3).mu = s.mu ∧
    (State.ss1Check s a1 a2 a3).hk = s.hk ∧
    (State.ss1Check s a1 a2 a3).host = s.host ∧
    (State.ss1Check s a1 a2 a3).mclk = s.mclk ∧
    (State.ss1Check s a1 a2 a3).sd = s.sd ∧
    (State.ss1Check s a1 a2 a3).aux = s.aux ∧
    (State.ss1Check s a1 a2 a3).enc = s.enc ∧
    (State.ss1Check s a1 a2 a3).eng = s.eng ∧
    (State.ss1Check s a1 a2 a3).cp = s.cp ∧
    (State.ss1Check s a1 a2 a3).flk = s.flk ∧
    (State.ss1Check s a1 a2 a3).ring = s.ring ∧
    (State.ss1Check s a1 a2 a3).can = s.can ∧
    (State.ss1Check s a1 a2 a3).canPub = s.canPub ∧
    (State.ss1Check s a1 a2 a3).eth = s.eth ∧
    (State.ss1Check s a1 a2 a3).tio = s.tio := by
  have k1 := @State.ss1End_frame
  have k2 := @State.ite_frame
  unfold State.ss1Check
  repeat' (first | (simp [k1, k2]; done) | split)

theorem State.slsCheck_frame (s : State) (a1 : Nat) (a2 : Option F32) :
    (State.slsCheck s a1 a2).pending = s.pending ∧
    (State.slsCheck s a1 a2).time = s.time ∧
    (State.slsCheck s a1 a2).tick = s.tick ∧
    (State.slsCheck s a1 a2).free = s.free ∧
    (State.slsCheck s a1 a2).tl = s.tl ∧
    (State.slsCheck s a1 a2).mu = s.mu ∧
    (State.slsCheck s a1 a2).hk = s.hk ∧
    (State.slsCheck s a1 a2).host = s.host ∧
    (State.slsCheck s a1 a2).mclk = s.mclk ∧
    (State.slsCheck s a1 a2).sd = s.sd ∧
    (State.slsCheck s a1 a2).aux = s.aux ∧
    (State.slsCheck s a1 a2).enc = s.enc ∧
    (State.slsCheck s a1 a2).eng = s.eng ∧
    (State.slsCheck s a1 a2).cp = s.cp ∧
    (State.slsCheck s a1 a2).flk = s.flk ∧
    (State.slsCheck s a1 a2).ring = s.ring ∧
    (State.slsCheck s a1 a2).can = s.can ∧
    (State.slsCheck s a1 a2).canPub = s.canPub ∧
    (State.slsCheck s a1 a2).eth = s.eth ∧
    (State.slsCheck s a1 a2).tio = s.tio := by
  have k1 := @State.refReact_frame
  have k2 := @State.ite_frame
  unfold State.slsCheck
  simp [k1, k2]

theorem State.stlCheck_frame (s : State) (a1 : Nat) (a2 : Nat) (a3 : Option F32) :
    (State.stlCheck s a1 a2 a3).pending = s.pending ∧
    (State.stlCheck s a1 a2 a3).time = s.time ∧
    (State.stlCheck s a1 a2 a3).tick = s.tick ∧
    (State.stlCheck s a1 a2 a3).free = s.free ∧
    (State.stlCheck s a1 a2 a3).tl = s.tl ∧
    (State.stlCheck s a1 a2 a3).mu = s.mu ∧
    (State.stlCheck s a1 a2 a3).hk = s.hk ∧
    (State.stlCheck s a1 a2 a3).host = s.host ∧
    (State.stlCheck s a1 a2 a3).mclk = s.mclk ∧
    (State.stlCheck s a1 a2 a3).sd = s.sd ∧
    (State.stlCheck s a1 a2 a3).aux = s.aux ∧
    (State.stlCheck s a1 a2 a3).enc = s.enc ∧
    (State.stlCheck s a1 a2 a3).eng = s.eng ∧
    (State.stlCheck s a1 a2 a3).cp = s.cp ∧
    (State.stlCheck s a1 a2 a3).flk = s.flk ∧
    (State.stlCheck s a1 a2 a3).ring = s.ring ∧
    (State.stlCheck s a1 a2 a3).can = s.can ∧
    (State.stlCheck s a1 a2 a3).canPub = s.canPub ∧
    (State.stlCheck s a1 a2 a3).eth = s.eth ∧
    (State.stlCheck s a1 a2 a3).tio = s.tio := by
  have k1 := @State.refReact_frame
  have k2 := @State.ite_frame
  unfold State.stlCheck
  dsimp only
  repeat' (first | (simp [k1, k2]; done) | split)

theorem State.tmonCheck_frame (s : State) (a1 : Nat) (a2 : Stamp) (a3 : Option (F32 × F32)) (a4 : Option F32) :
    (State.tmonCheck s a1 a2 a3 a4).pending = s.pending ∧
    (State.tmonCheck s a1 a2 a3 a4).time = s.time ∧
    (State.tmonCheck s a1 a2 a3 a4).tick = s.tick ∧
    (State.tmonCheck s a1 a2 a3 a4).free = s.free ∧
    (State.tmonCheck s a1 a2 a3 a4).tl = s.tl ∧
    (State.tmonCheck s a1 a2 a3 a4).mu = s.mu ∧
    (State.tmonCheck s a1 a2 a3 a4).hk = s.hk ∧
    (State.tmonCheck s a1 a2 a3 a4).host = s.host ∧
    (State.tmonCheck s a1 a2 a3 a4).mclk = s.mclk ∧
    (State.tmonCheck s a1 a2 a3 a4).sd = s.sd ∧
    (State.tmonCheck s a1 a2 a3 a4).aux = s.aux ∧
    (State.tmonCheck s a1 a2 a3 a4).enc = s.enc ∧
    (State.tmonCheck s a1 a2 a3 a4).eng = s.eng ∧
    (State.tmonCheck s a1 a2 a3 a4).cp = s.cp ∧
    (State.tmonCheck s a1 a2 a3 a4).flk = s.flk ∧
    (State.tmonCheck s a1 a2 a3 a4).ring = s.ring ∧
    (State.tmonCheck s a1 a2 a3 a4).can = s.can ∧
    (State.tmonCheck s a1 a2 a3 a4).canPub = s.canPub ∧
    (State.tmonCheck s a1 a2 a3 a4).eth = s.eth ∧
    (State.tmonCheck s a1 a2 a3 a4).tio = s.tio := by
  have k1 := @State.refReact_frame
  have k2 := @State.ite_frame
  unfold State.tmonCheck
  dsimp only
  repeat' (first | (simp [k1, k2]; done) | split)

theorem State.disCheck_frame (s : State) (a1 : Nat) :
    (State.disCheck s a1).pending = s.pending ∧
    (State.disCheck s a1).time = s.time ∧
    (State.disCheck s a1).tick = s.tick ∧
    (State.disCheck s a1).free = s.free ∧
    (State.disCheck s a1).tl = s.tl ∧
    (State.disCheck s a1).mu = s.mu ∧
    (State.disCheck s a1).hk = s.hk ∧
    (State.disCheck s a1).host = s.host ∧
    (State.disCheck s a1).mclk = s.mclk ∧
    (State.disCheck s a1).aux = s.aux ∧
    (State.disCheck s a1).enc = s.enc ∧
    (State.disCheck s a1).eng = s.eng ∧
    (State.disCheck s a1).cp = s.cp ∧
    (State.disCheck s a1).flk = s.flk ∧
    (State.disCheck s a1).ring = s.ring ∧
    (State.disCheck s a1).can = s.can ∧
    (State.disCheck s a1).canPub = s.canPub ∧
    (State.disCheck s a1).eth = s.eth ∧
    (State.disCheck s a1).tio = s.tio := by
  have k1 := @State.lose_frame
  have k2 := @State.ite_frame
  unfold State.disCheck
  simp [k1, k2]

theorem State.tryRelease_frame (s : State) (a1 : Nat) :
    (State.tryRelease s a1).pending = s.pending ∧
    (State.tryRelease s a1).time = s.time ∧
    (State.tryRelease s a1).tick = s.tick ∧
    (State.tryRelease s a1).free = s.free ∧
    (State.tryRelease s a1).tl = s.tl ∧
    (State.tryRelease s a1).mu = s.mu ∧
    (State.tryRelease s a1).hk = s.hk ∧
    (State.tryRelease s a1).host = s.host ∧
    (State.tryRelease s a1).mclk = s.mclk ∧
    (State.tryRelease s a1).sd = s.sd ∧
    (State.tryRelease s a1).aux = s.aux ∧
    (State.tryRelease s a1).enc = s.enc ∧
    (State.tryRelease s a1).eng = s.eng ∧
    (State.tryRelease s a1).cp = s.cp ∧
    (State.tryRelease s a1).flk = s.flk ∧
    (State.tryRelease s a1).ring = s.ring ∧
    (State.tryRelease s a1).can = s.can ∧
    (State.tryRelease s a1).canPub = s.canPub ∧
    (State.tryRelease s a1).eth = s.eth ∧
    (State.tryRelease s a1).tio = s.tio := by
  have k1 := @State.unforce_frame
  have k2 := @State.ite_frame
  unfold State.tryRelease
  repeat' (first | (simp [k1, k2]; done) | split)

theorem State.holdRelease_frame (s : State) :
    (State.holdRelease s).pending = s.pending ∧
    (State.holdRelease s).time = s.time ∧
    (State.holdRelease s).tick = s.tick ∧
    (State.holdRelease s).free = s.free ∧
    (State.holdRelease s).tl = s.tl ∧
    (State.holdRelease s).mu = s.mu ∧
    (State.holdRelease s).hk = s.hk ∧
    (State.holdRelease s).host = s.host ∧
    (State.holdRelease s).mclk = s.mclk ∧
    (State.holdRelease s).sd = s.sd ∧
    (State.holdRelease s).aux = s.aux ∧
    (State.holdRelease s).enc = s.enc ∧
    (State.holdRelease s).eng = s.eng ∧
    (State.holdRelease s).cp = s.cp ∧
    (State.holdRelease s).flk = s.flk ∧
    (State.holdRelease s).ring = s.ring ∧
    (State.holdRelease s).can = s.can ∧
    (State.holdRelease s).canPub = s.canPub ∧
    (State.holdRelease s).eth = s.eth ∧
    (State.holdRelease s).tio = s.tio := by
  have k1 := @State.ascRelease_frame
  have k2 := @State.ite_frame
  unfold State.holdRelease
  dsimp only
  split
  · refine ⟨foldl_pending _ _ _ ?_, foldl_time _ _ _ ?_, foldl_tick _ _ _ ?_, foldl_free _ _ _ ?_,
    foldl_tl _ _ _ ?_, foldl_mu _ _ _ ?_, foldl_hk _ _ _ ?_, foldl_host _ _ _ ?_, foldl_mclk _ _ _ ?_,
    foldl_sd _ _ _ ?_, foldl_aux _ _ _ ?_, foldl_enc _ _ _ ?_, foldl_eng _ _ _ ?_, foldl_cp _ _ _ ?_,
    foldl_flk _ _ _ ?_, foldl_ring _ _ _ ?_, foldl_can _ _ _ ?_, foldl_canPub _ _ _ ?_,
    foldl_eth _ _ _ ?_, foldl_tio _ _ _ ?_⟩
    all_goals intros; repeat' (first | (simp [k1, k2]; done) | split)
  · simp [k1, k2]

theorem State.holdSources_frame (s : State) :
    (State.holdSources s).pending = s.pending ∧
    (State.holdSources s).time = s.time ∧
    (State.holdSources s).tick = s.tick ∧
    (State.holdSources s).free = s.free ∧
    (State.holdSources s).tl = s.tl ∧
    (State.holdSources s).mu = s.mu ∧
    (State.holdSources s).hk = s.hk ∧
    (State.holdSources s).log = s.log ∧
    (State.holdSources s).seqs = s.seqs ∧
    (State.holdSources s).host = s.host ∧
    (State.holdSources s).dict = s.dict ∧
    (State.holdSources s).mclk = s.mclk ∧
    (State.holdSources s).sd = s.sd ∧
    (State.holdSources s).aux = s.aux ∧
    (State.holdSources s).enc = s.enc ∧
    (State.holdSources s).eng = s.eng ∧
    (State.holdSources s).slices = s.slices ∧
    (State.holdSources s).gl = s.gl ∧
    (State.holdSources s).cp = s.cp ∧
    (State.holdSources s).flk = s.flk ∧
    (State.holdSources s).ring = s.ring ∧
    (State.holdSources s).can = s.can ∧
    (State.holdSources s).canPub = s.canPub ∧
    (State.holdSources s).eth = s.eth ∧
    (State.holdSources s).tio = s.tio ∧
    (State.holdSources s).dia = s.dia := by
  unfold State.holdSources
  simp

theorem State.evalSlice_frame (s : State) (a1 : Stamp) (a2 : Nat) :
    (State.evalSlice s a1 a2).pending = s.pending ∧
    (State.evalSlice s a1 a2).time = s.time ∧
    (State.evalSlice s a1 a2).tick = s.tick ∧
    (State.evalSlice s a1 a2).free = s.free ∧
    (State.evalSlice s a1 a2).tl = s.tl ∧
    (State.evalSlice s a1 a2).mu = s.mu ∧
    (State.evalSlice s a1 a2).hk = s.hk ∧
    (State.evalSlice s a1 a2).host = s.host ∧
    (State.evalSlice s a1 a2).mclk = s.mclk ∧
    (State.evalSlice s a1 a2).aux = s.aux ∧
    (State.evalSlice s a1 a2).enc = s.enc ∧
    (State.evalSlice s a1 a2).eng = s.eng ∧
    (State.evalSlice s a1 a2).cp = s.cp ∧
    (State.evalSlice s a1 a2).flk = s.flk ∧
    (State.evalSlice s a1 a2).ring = s.ring ∧
    (State.evalSlice s a1 a2).can = s.can ∧
    (State.evalSlice s a1 a2).canPub = s.canPub ∧
    (State.evalSlice s a1 a2).eth = s.eth ∧
    (State.evalSlice s a1 a2).tio = s.tio := by
  have k1 := @State.ascRelease_frame
  have k2 := @State.disCheck_frame
  have k3 := @State.slsCheck_frame
  have k4 := @State.ss1Check_frame
  have k5 := @State.stlCheck_frame
  have k6 := @State.tmonCheck_frame
  have k7 := @State.ite_frame
  unfold State.evalSlice
  dsimp only
  repeat' (first | (simp [k1, k2, k3, k4, k5, k6, k7]; done) | split)

theorem effRefereeEvaluation_frame (s : State) :
    (effRefereeEvaluation s).pending = s.pending ∧
    (effRefereeEvaluation s).time = s.time ∧
    (effRefereeEvaluation s).tick = s.tick ∧
    (effRefereeEvaluation s).free = s.free ∧
    (effRefereeEvaluation s).tl = s.tl ∧
    (effRefereeEvaluation s).mu = s.mu ∧
    (effRefereeEvaluation s).hk = s.hk ∧
    (effRefereeEvaluation s).host = s.host ∧
    (effRefereeEvaluation s).mclk = s.mclk ∧
    (effRefereeEvaluation s).aux = s.aux ∧
    (effRefereeEvaluation s).enc = s.enc ∧
    (effRefereeEvaluation s).eng = s.eng ∧
    (effRefereeEvaluation s).cp = s.cp ∧
    (effRefereeEvaluation s).flk = s.flk ∧
    (effRefereeEvaluation s).ring = s.ring ∧
    (effRefereeEvaluation s).can = s.can ∧
    (effRefereeEvaluation s).canPub = s.canPub ∧
    (effRefereeEvaluation s).eth = s.eth ∧
    (effRefereeEvaluation s).tio = s.tio := by
  have k1 := @State.evalSlice_frame
  have k2 := @State.holdRelease_frame
  have k3 := @State.holdSources_frame
  have k4 := @State.ite_frame
  unfold effRefereeEvaluation
  repeat' (first | (simp [k1, k2, k3, k4]; done) | split)

theorem effStoInputChange_frame (a0 : Bool) (a1 : Bool) (s : State) :
    (effStoInputChange a0 a1 s).pending = s.pending ∧
    (effStoInputChange a0 a1 s).time = s.time ∧
    (effStoInputChange a0 a1 s).tick = s.tick ∧
    (effStoInputChange a0 a1 s).free = s.free ∧
    (effStoInputChange a0 a1 s).tl = s.tl ∧
    (effStoInputChange a0 a1 s).mu = s.mu ∧
    (effStoInputChange a0 a1 s).hk = s.hk ∧
    (effStoInputChange a0 a1 s).host = s.host ∧
    (effStoInputChange a0 a1 s).mclk = s.mclk ∧
    (effStoInputChange a0 a1 s).sd = s.sd ∧
    (effStoInputChange a0 a1 s).aux = s.aux ∧
    (effStoInputChange a0 a1 s).enc = s.enc ∧
    (effStoInputChange a0 a1 s).eng = s.eng ∧
    (effStoInputChange a0 a1 s).cp = s.cp ∧
    (effStoInputChange a0 a1 s).flk = s.flk ∧
    (effStoInputChange a0 a1 s).ring = s.ring ∧
    (effStoInputChange a0 a1 s).can = s.can ∧
    (effStoInputChange a0 a1 s).canPub = s.canPub ∧
    (effStoInputChange a0 a1 s).eth = s.eth ∧
    (effStoInputChange a0 a1 s).tio = s.tio := by
  have k1 := @State.force_frame
  have k2 := @State.safeOutDrop_frame
  have k3 := @State.ss1Request_frame
  have k4 := @State.ite_frame
  unfold effStoInputChange
  simp [k1, k2, k3, k4]

theorem effStoDiscrepancy_frame (s : State) :
    (effStoDiscrepancy s).pending = s.pending ∧
    (effStoDiscrepancy s).time = s.time ∧
    (effStoDiscrepancy s).tick = s.tick ∧
    (effStoDiscrepancy s).free = s.free ∧
    (effStoDiscrepancy s).tl = s.tl ∧
    (effStoDiscrepancy s).mu = s.mu ∧
    (effStoDiscrepancy s).hk = s.hk ∧
    (effStoDiscrepancy s).host = s.host ∧
    (effStoDiscrepancy s).mclk = s.mclk ∧
    (effStoDiscrepancy s).sd = s.sd ∧
    (effStoDiscrepancy s).aux = s.aux ∧
    (effStoDiscrepancy s).enc = s.enc ∧
    (effStoDiscrepancy s).eng = s.eng ∧
    (effStoDiscrepancy s).cp = s.cp ∧
    (effStoDiscrepancy s).flk = s.flk ∧
    (effStoDiscrepancy s).ring = s.ring ∧
    (effStoDiscrepancy s).can = s.can ∧
    (effStoDiscrepancy s).canPub = s.canPub ∧
    (effStoDiscrepancy s).eth = s.eth ∧
    (effStoDiscrepancy s).tio = s.tio := by
  have k1 := @State.force_frame
  have k2 := @State.ite_frame
  unfold effStoDiscrepancy
  repeat' (first | (simp [k1, k2]; done) | split)

theorem effSs1TmaxExpire_frame (a0 : Fin 6) (s : State) :
    (effSs1TmaxExpire a0 s).pending = s.pending ∧
    (effSs1TmaxExpire a0 s).time = s.time ∧
    (effSs1TmaxExpire a0 s).tick = s.tick ∧
    (effSs1TmaxExpire a0 s).free = s.free ∧
    (effSs1TmaxExpire a0 s).tl = s.tl ∧
    (effSs1TmaxExpire a0 s).mu = s.mu ∧
    (effSs1TmaxExpire a0 s).hk = s.hk ∧
    (effSs1TmaxExpire a0 s).host = s.host ∧
    (effSs1TmaxExpire a0 s).mclk = s.mclk ∧
    (effSs1TmaxExpire a0 s).sd = s.sd ∧
    (effSs1TmaxExpire a0 s).aux = s.aux ∧
    (effSs1TmaxExpire a0 s).enc = s.enc ∧
    (effSs1TmaxExpire a0 s).eng = s.eng ∧
    (effSs1TmaxExpire a0 s).cp = s.cp ∧
    (effSs1TmaxExpire a0 s).flk = s.flk ∧
    (effSs1TmaxExpire a0 s).ring = s.ring ∧
    (effSs1TmaxExpire a0 s).can = s.can ∧
    (effSs1TmaxExpire a0 s).canPub = s.canPub ∧
    (effSs1TmaxExpire a0 s).eth = s.eth ∧
    (effSs1TmaxExpire a0 s).tio = s.tio := by
  have k1 := @State.ss1Check_frame
  have k2 := @State.ite_frame
  unfold effSs1TmaxExpire
  dsimp only
  repeat' (first | (simp [k1, k2]; done) | split)

theorem effDegradedTimeExpire_frame (a0 : Fin 6) (s : State) :
    (effDegradedTimeExpire a0 s).pending = s.pending ∧
    (effDegradedTimeExpire a0 s).time = s.time ∧
    (effDegradedTimeExpire a0 s).tick = s.tick ∧
    (effDegradedTimeExpire a0 s).free = s.free ∧
    (effDegradedTimeExpire a0 s).tl = s.tl ∧
    (effDegradedTimeExpire a0 s).mu = s.mu ∧
    (effDegradedTimeExpire a0 s).hk = s.hk ∧
    (effDegradedTimeExpire a0 s).host = s.host ∧
    (effDegradedTimeExpire a0 s).mclk = s.mclk ∧
    (effDegradedTimeExpire a0 s).sd = s.sd ∧
    (effDegradedTimeExpire a0 s).aux = s.aux ∧
    (effDegradedTimeExpire a0 s).enc = s.enc ∧
    (effDegradedTimeExpire a0 s).eng = s.eng ∧
    (effDegradedTimeExpire a0 s).cp = s.cp ∧
    (effDegradedTimeExpire a0 s).flk = s.flk ∧
    (effDegradedTimeExpire a0 s).ring = s.ring ∧
    (effDegradedTimeExpire a0 s).can = s.can ∧
    (effDegradedTimeExpire a0 s).canPub = s.canPub ∧
    (effDegradedTimeExpire a0 s).eth = s.eth ∧
    (effDegradedTimeExpire a0 s).tio = s.tio := by
  have k1 := @State.ss1Request_frame
  have k2 := @State.ite_frame
  unfold effDegradedTimeExpire
  dsimp only
  repeat' (first | (simp [k1, k2]; done) | split)

theorem effRefereeHeartbeat_frame (a0 : Bool) (s : State) :
    (effRefereeHeartbeat a0 s).pending = s.pending ∧
    (effRefereeHeartbeat a0 s).time = s.time ∧
    (effRefereeHeartbeat a0 s).tick = s.tick ∧
    (effRefereeHeartbeat a0 s).free = s.free ∧
    (effRefereeHeartbeat a0 s).tl = s.tl ∧
    (effRefereeHeartbeat a0 s).mu = s.mu ∧
    (effRefereeHeartbeat a0 s).hk = s.hk ∧
    (effRefereeHeartbeat a0 s).host = s.host ∧
    (effRefereeHeartbeat a0 s).mclk = s.mclk ∧
    (effRefereeHeartbeat a0 s).sd = s.sd ∧
    (effRefereeHeartbeat a0 s).aux = s.aux ∧
    (effRefereeHeartbeat a0 s).enc = s.enc ∧
    (effRefereeHeartbeat a0 s).eng = s.eng ∧
    (effRefereeHeartbeat a0 s).cp = s.cp ∧
    (effRefereeHeartbeat a0 s).ring = s.ring ∧
    (effRefereeHeartbeat a0 s).can = s.can ∧
    (effRefereeHeartbeat a0 s).canPub = s.canPub ∧
    (effRefereeHeartbeat a0 s).eth = s.eth ∧
    (effRefereeHeartbeat a0 s).tio = s.tio := by
  have k1 := @State.refereeFault_frame
  have k2 := @State.ite_frame
  unfold effRefereeHeartbeat
  simp [k1, k2]

theorem effRefereeHeartbeatTimeout_frame (s : State) :
    (effRefereeHeartbeatTimeout s).pending = s.pending ∧
    (effRefereeHeartbeatTimeout s).time = s.time ∧
    (effRefereeHeartbeatTimeout s).tick = s.tick ∧
    (effRefereeHeartbeatTimeout s).free = s.free ∧
    (effRefereeHeartbeatTimeout s).tl = s.tl ∧
    (effRefereeHeartbeatTimeout s).mu = s.mu ∧
    (effRefereeHeartbeatTimeout s).hk = s.hk ∧
    (effRefereeHeartbeatTimeout s).host = s.host ∧
    (effRefereeHeartbeatTimeout s).mclk = s.mclk ∧
    (effRefereeHeartbeatTimeout s).sd = s.sd ∧
    (effRefereeHeartbeatTimeout s).aux = s.aux ∧
    (effRefereeHeartbeatTimeout s).enc = s.enc ∧
    (effRefereeHeartbeatTimeout s).eng = s.eng ∧
    (effRefereeHeartbeatTimeout s).cp = s.cp ∧
    (effRefereeHeartbeatTimeout s).ring = s.ring ∧
    (effRefereeHeartbeatTimeout s).can = s.can ∧
    (effRefereeHeartbeatTimeout s).canPub = s.canPub ∧
    (effRefereeHeartbeatTimeout s).eth = s.eth ∧
    (effRefereeHeartbeatTimeout s).tio = s.tio := by
  have k1 := @State.refereeFault_frame
  have k2 := @State.ite_frame
  unfold effRefereeHeartbeatTimeout
  simp [k1, k2]

theorem effRefereeInjection_frame (a0 : Bool) (a1 : Bool) (s : State) :
    (effRefereeInjection a0 a1 s).pending = s.pending ∧
    (effRefereeInjection a0 a1 s).time = s.time ∧
    (effRefereeInjection a0 a1 s).tick = s.tick ∧
    (effRefereeInjection a0 a1 s).free = s.free ∧
    (effRefereeInjection a0 a1 s).tl = s.tl ∧
    (effRefereeInjection a0 a1 s).mu = s.mu ∧
    (effRefereeInjection a0 a1 s).hk = s.hk ∧
    (effRefereeInjection a0 a1 s).host = s.host ∧
    (effRefereeInjection a0 a1 s).mclk = s.mclk ∧
    (effRefereeInjection a0 a1 s).sd = s.sd ∧
    (effRefereeInjection a0 a1 s).aux = s.aux ∧
    (effRefereeInjection a0 a1 s).enc = s.enc ∧
    (effRefereeInjection a0 a1 s).eng = s.eng ∧
    (effRefereeInjection a0 a1 s).cp = s.cp ∧
    (effRefereeInjection a0 a1 s).ring = s.ring ∧
    (effRefereeInjection a0 a1 s).can = s.can ∧
    (effRefereeInjection a0 a1 s).canPub = s.canPub ∧
    (effRefereeInjection a0 a1 s).eth = s.eth ∧
    (effRefereeInjection a0 a1 s).tio = s.tio := by
  have k1 := @State.refereeFault_frame
  have k2 := @State.ite_frame
  unfold effRefereeInjection
  simp [k1, k2]

theorem effRefereeLockstepMismatch_frame (s : State) :
    (effRefereeLockstepMismatch s).pending = s.pending ∧
    (effRefereeLockstepMismatch s).time = s.time ∧
    (effRefereeLockstepMismatch s).tick = s.tick ∧
    (effRefereeLockstepMismatch s).free = s.free ∧
    (effRefereeLockstepMismatch s).tl = s.tl ∧
    (effRefereeLockstepMismatch s).mu = s.mu ∧
    (effRefereeLockstepMismatch s).hk = s.hk ∧
    (effRefereeLockstepMismatch s).host = s.host ∧
    (effRefereeLockstepMismatch s).mclk = s.mclk ∧
    (effRefereeLockstepMismatch s).sd = s.sd ∧
    (effRefereeLockstepMismatch s).aux = s.aux ∧
    (effRefereeLockstepMismatch s).enc = s.enc ∧
    (effRefereeLockstepMismatch s).eng = s.eng ∧
    (effRefereeLockstepMismatch s).cp = s.cp ∧
    (effRefereeLockstepMismatch s).ring = s.ring ∧
    (effRefereeLockstepMismatch s).can = s.can ∧
    (effRefereeLockstepMismatch s).canPub = s.canPub ∧
    (effRefereeLockstepMismatch s).eth = s.eth ∧
    (effRefereeLockstepMismatch s).tio = s.tio := by
  have k1 := @State.refereeFault_frame
  have k2 := @State.ite_frame
  unfold effRefereeLockstepMismatch
  simp [k1, k2]

theorem effDischargeMonitorDeadline_frame (a0 : Fin 6) (s : State) :
    (effDischargeMonitorDeadline a0 s).pending = s.pending ∧
    (effDischargeMonitorDeadline a0 s).time = s.time ∧
    (effDischargeMonitorDeadline a0 s).tick = s.tick ∧
    (effDischargeMonitorDeadline a0 s).free = s.free ∧
    (effDischargeMonitorDeadline a0 s).tl = s.tl ∧
    (effDischargeMonitorDeadline a0 s).mu = s.mu ∧
    (effDischargeMonitorDeadline a0 s).hk = s.hk ∧
    (effDischargeMonitorDeadline a0 s).host = s.host ∧
    (effDischargeMonitorDeadline a0 s).mclk = s.mclk ∧
    (effDischargeMonitorDeadline a0 s).sd = s.sd ∧
    (effDischargeMonitorDeadline a0 s).aux = s.aux ∧
    (effDischargeMonitorDeadline a0 s).enc = s.enc ∧
    (effDischargeMonitorDeadline a0 s).eng = s.eng ∧
    (effDischargeMonitorDeadline a0 s).slices = s.slices ∧
    (effDischargeMonitorDeadline a0 s).gl = s.gl ∧
    (effDischargeMonitorDeadline a0 s).cp = s.cp ∧
    (effDischargeMonitorDeadline a0 s).flk = s.flk ∧
    (effDischargeMonitorDeadline a0 s).ring = s.ring ∧
    (effDischargeMonitorDeadline a0 s).can = s.can ∧
    (effDischargeMonitorDeadline a0 s).canPub = s.canPub ∧
    (effDischargeMonitorDeadline a0 s).eth = s.eth ∧
    (effDischargeMonitorDeadline a0 s).tio = s.tio := by
  have k1 := @State.post_frame
  have k2 := @State.ite_frame
  unfold effDischargeMonitorDeadline
  dsimp only
  repeat' (first | (simp [k1, k2]; done) | split)

theorem effSafLoginLockExpire_frame (s : State) :
    (effSafLoginLockExpire s).pending = s.pending ∧
    (effSafLoginLockExpire s).time = s.time ∧
    (effSafLoginLockExpire s).tick = s.tick ∧
    (effSafLoginLockExpire s).free = s.free ∧
    (effSafLoginLockExpire s).tl = s.tl ∧
    (effSafLoginLockExpire s).mu = s.mu ∧
    (effSafLoginLockExpire s).hk = s.hk ∧
    (effSafLoginLockExpire s).log = s.log ∧
    (effSafLoginLockExpire s).seqs = s.seqs ∧
    (effSafLoginLockExpire s).host = s.host ∧
    (effSafLoginLockExpire s).dict = s.dict ∧
    (effSafLoginLockExpire s).mclk = s.mclk ∧
    (effSafLoginLockExpire s).sd = s.sd ∧
    (effSafLoginLockExpire s).aux = s.aux ∧
    (effSafLoginLockExpire s).enc = s.enc ∧
    (effSafLoginLockExpire s).eng = s.eng ∧
    (effSafLoginLockExpire s).slices = s.slices ∧
    (effSafLoginLockExpire s).gl = s.gl ∧
    (effSafLoginLockExpire s).cp = s.cp ∧
    (effSafLoginLockExpire s).flk = s.flk ∧
    (effSafLoginLockExpire s).ring = s.ring ∧
    (effSafLoginLockExpire s).can = s.can ∧
    (effSafLoginLockExpire s).canPub = s.canPub ∧
    (effSafLoginLockExpire s).eth = s.eth ∧
    (effSafLoginLockExpire s).tio = s.tio ∧
    (effSafLoginLockExpire s).dia = s.dia := by
  have k1 := @State.ite_frame
  unfold effSafLoginLockExpire
  repeat' (first | (simp [k1]; done) | split)

theorem State.logChange_frame (s : State) (a1 : ChangeEntry) :
    (State.logChange s a1).pending = s.pending ∧
    (State.logChange s a1).time = s.time ∧
    (State.logChange s a1).tick = s.tick ∧
    (State.logChange s a1).free = s.free ∧
    (State.logChange s a1).tl = s.tl ∧
    (State.logChange s a1).mu = s.mu ∧
    (State.logChange s a1).hk = s.hk ∧
    (State.logChange s a1).log = s.log ∧
    (State.logChange s a1).seqs = s.seqs ∧
    (State.logChange s a1).host = s.host ∧
    (State.logChange s a1).dict = s.dict ∧
    (State.logChange s a1).mclk = s.mclk ∧
    (State.logChange s a1).sd = s.sd ∧
    (State.logChange s a1).aux = s.aux ∧
    (State.logChange s a1).enc = s.enc ∧
    (State.logChange s a1).eng = s.eng ∧
    (State.logChange s a1).slices = s.slices ∧
    (State.logChange s a1).gl = s.gl ∧
    (State.logChange s a1).cp = s.cp ∧
    (State.logChange s a1).flk = s.flk ∧
    (State.logChange s a1).ring = s.ring ∧
    (State.logChange s a1).can = s.can ∧
    (State.logChange s a1).canPub = s.canPub ∧
    (State.logChange s a1).eth = s.eth ∧
    (State.logChange s a1).tio = s.tio ∧
    (State.logChange s a1).dia = s.dia := by
  unfold State.logChange
  simp

theorem State.drawSalt_frame (s : State) :
    (State.drawSalt s).2.pending = s.pending ∧
    (State.drawSalt s).2.time = s.time ∧
    (State.drawSalt s).2.tick = s.tick ∧
    (State.drawSalt s).2.tl = s.tl ∧
    (State.drawSalt s).2.mu = s.mu ∧
    (State.drawSalt s).2.hk = s.hk ∧
    (State.drawSalt s).2.log = s.log ∧
    (State.drawSalt s).2.seqs = s.seqs ∧
    (State.drawSalt s).2.host = s.host ∧
    (State.drawSalt s).2.dict = s.dict ∧
    (State.drawSalt s).2.mclk = s.mclk ∧
    (State.drawSalt s).2.sd = s.sd ∧
    (State.drawSalt s).2.aux = s.aux ∧
    (State.drawSalt s).2.enc = s.enc ∧
    (State.drawSalt s).2.eng = s.eng ∧
    (State.drawSalt s).2.slices = s.slices ∧
    (State.drawSalt s).2.gl = s.gl ∧
    (State.drawSalt s).2.ref = s.ref ∧
    (State.drawSalt s).2.cp = s.cp ∧
    (State.drawSalt s).2.flk = s.flk ∧
    (State.drawSalt s).2.ring = s.ring ∧
    (State.drawSalt s).2.can = s.can ∧
    (State.drawSalt s).2.canPub = s.canPub ∧
    (State.drawSalt s).2.eth = s.eth ∧
    (State.drawSalt s).2.tio = s.tio ∧
    (State.drawSalt s).2.dia = s.dia := by
  unfold State.drawSalt
  simp

theorem State.loginFail_frame (s : State) :
    (State.loginFail s).st.pending = s.pending ∧
    (State.loginFail s).st.time = s.time ∧
    (State.loginFail s).st.tick = s.tick ∧
    (State.loginFail s).st.free = s.free ∧
    (State.loginFail s).st.tl = s.tl ∧
    (State.loginFail s).st.mu = s.mu ∧
    (State.loginFail s).st.hk = s.hk ∧
    (State.loginFail s).st.log = s.log ∧
    (State.loginFail s).st.seqs = s.seqs ∧
    (State.loginFail s).st.host = s.host ∧
    (State.loginFail s).st.dict = s.dict ∧
    (State.loginFail s).st.mclk = s.mclk ∧
    (State.loginFail s).st.sd = s.sd ∧
    (State.loginFail s).st.aux = s.aux ∧
    (State.loginFail s).st.enc = s.enc ∧
    (State.loginFail s).st.eng = s.eng ∧
    (State.loginFail s).st.slices = s.slices ∧
    (State.loginFail s).st.gl = s.gl ∧
    (State.loginFail s).st.cp = s.cp ∧
    (State.loginFail s).st.flk = s.flk ∧
    (State.loginFail s).st.ring = s.ring ∧
    (State.loginFail s).st.can = s.can ∧
    (State.loginFail s).st.canPub = s.canPub ∧
    (State.loginFail s).st.eth = s.eth ∧
    (State.loginFail s).st.tio = s.tio ∧
    (State.loginFail s).st.dia = s.dia := by
  have k1 := @State.fail_frame
  unfold State.loginFail
  simp [k1]

theorem State.safEffect_frame (s : State) (a1 : Nat) :
    (State.safEffect s a1).pending = s.pending ∧
    (State.safEffect s a1).time = s.time ∧
    (State.safEffect s a1).tick = s.tick ∧
    (State.safEffect s a1).free = s.free ∧
    (State.safEffect s a1).tl = s.tl ∧
    (State.safEffect s a1).mu = s.mu ∧
    (State.safEffect s a1).hk = s.hk ∧
    (State.safEffect s a1).log = s.log ∧
    (State.safEffect s a1).seqs = s.seqs ∧
    (State.safEffect s a1).host = s.host ∧
    (State.safEffect s a1).dict = s.dict ∧
    (State.safEffect s a1).mclk = s.mclk ∧
    (State.safEffect s a1).aux = s.aux ∧
    (State.safEffect s a1).enc = s.enc ∧
    (State.safEffect s a1).eng = s.eng ∧
    (State.safEffect s a1).slices = s.slices ∧
    (State.safEffect s a1).gl = s.gl ∧
    (State.safEffect s a1).cp = s.cp ∧
    (State.safEffect s a1).flk = s.flk ∧
    (State.safEffect s a1).ring = s.ring ∧
    (State.safEffect s a1).can = s.can ∧
    (State.safEffect s a1).canPub = s.canPub ∧
    (State.safEffect s a1).eth = s.eth ∧
    (State.safEffect s a1).tio = s.tio ∧
    (State.safEffect s a1).dia = s.dia := by
  have k1 := @State.freshSd_frame
  have k2 := @State.ite_frame
  unfold State.safEffect
  simp [k1, k2]

theorem State.commitOne_frame (s : State) (a1 : Pkt) (a2 : Nat) (a3 : ObjRec) :
    (State.commitOne s a1 a2 a3).pending = s.pending ∧
    (State.commitOne s a1 a2 a3).time = s.time ∧
    (State.commitOne s a1 a2 a3).tick = s.tick ∧
    (State.commitOne s a1 a2 a3).free = s.free ∧
    (State.commitOne s a1 a2 a3).tl = s.tl ∧
    (State.commitOne s a1 a2 a3).mu = s.mu ∧
    (State.commitOne s a1 a2 a3).hk = s.hk ∧
    (State.commitOne s a1 a2 a3).log = s.log ∧
    (State.commitOne s a1 a2 a3).seqs = s.seqs ∧
    (State.commitOne s a1 a2 a3).host = s.host ∧
    (State.commitOne s a1 a2 a3).mclk = s.mclk ∧
    (State.commitOne s a1 a2 a3).aux = s.aux ∧
    (State.commitOne s a1 a2 a3).enc = s.enc ∧
    (State.commitOne s a1 a2 a3).eng = s.eng ∧
    (State.commitOne s a1 a2 a3).slices = s.slices ∧
    (State.commitOne s a1 a2 a3).gl = s.gl ∧
    (State.commitOne s a1 a2 a3).cp = s.cp ∧
    (State.commitOne s a1 a2 a3).flk = s.flk ∧
    (State.commitOne s a1 a2 a3).ring = s.ring ∧
    (State.commitOne s a1 a2 a3).can = s.can ∧
    (State.commitOne s a1 a2 a3).canPub = s.canPub ∧
    (State.commitOne s a1 a2 a3).eth = s.eth ∧
    (State.commitOne s a1 a2 a3).tio = s.tio ∧
    (State.commitOne s a1 a2 a3).dia = s.dia := by
  have k1 := @State.logChange_frame
  have k2 := @State.safEffect_frame
  have k3 := @State.ite_frame
  unfold State.commitOne
  simp [k1, k2, k3]

theorem opSafCommit_frame (a0 : Pkt) (s : State) :
    (opSafCommit a0 s).st.pending = s.pending ∧
    (opSafCommit a0 s).st.time = s.time ∧
    (opSafCommit a0 s).st.tick = s.tick ∧
    (opSafCommit a0 s).st.free = s.free ∧
    (opSafCommit a0 s).st.tl = s.tl ∧
    (opSafCommit a0 s).st.mu = s.mu ∧
    (opSafCommit a0 s).st.hk = s.hk ∧
    (opSafCommit a0 s).st.log = s.log ∧
    (opSafCommit a0 s).st.seqs = s.seqs ∧
    (opSafCommit a0 s).st.host = s.host ∧
    (opSafCommit a0 s).st.mclk = s.mclk ∧
    (opSafCommit a0 s).st.aux = s.aux ∧
    (opSafCommit a0 s).st.enc = s.enc ∧
    (opSafCommit a0 s).st.eng = s.eng ∧
    (opSafCommit a0 s).st.slices = s.slices ∧
    (opSafCommit a0 s).st.gl = s.gl ∧
    (opSafCommit a0 s).st.cp = s.cp ∧
    (opSafCommit a0 s).st.flk = s.flk ∧
    (opSafCommit a0 s).st.ring = s.ring ∧
    (opSafCommit a0 s).st.can = s.can ∧
    (opSafCommit a0 s).st.canPub = s.canPub ∧
    (opSafCommit a0 s).st.eth = s.eth ∧
    (opSafCommit a0 s).st.tio = s.tio ∧
    (opSafCommit a0 s).st.dia = s.dia := by
  have k1 := @State.commitOne_frame
  have k2 := @State.fail_frame
  have k3 := @State.holdSources_frame
  have k4 := @State.okWith_frame
  have k5 := @State.ite_frame
  unfold opSafCommit
  dsimp only
  repeat' (first | (simp [k1, k2, k3, k4, k5]; done) | split)

theorem opSafLogRead_frame (a0 : Pkt) (s : State) :
    (opSafLogRead a0 s).st.pending = s.pending ∧
    (opSafLogRead a0 s).st.time = s.time ∧
    (opSafLogRead a0 s).st.tick = s.tick ∧
    (opSafLogRead a0 s).st.free = s.free ∧
    (opSafLogRead a0 s).st.tl = s.tl ∧
    (opSafLogRead a0 s).st.mu = s.mu ∧
    (opSafLogRead a0 s).st.hk = s.hk ∧
    (opSafLogRead a0 s).st.log = s.log ∧
    (opSafLogRead a0 s).st.seqs = s.seqs ∧
    (opSafLogRead a0 s).st.host = s.host ∧
    (opSafLogRead a0 s).st.dict = s.dict ∧
    (opSafLogRead a0 s).st.mclk = s.mclk ∧
    (opSafLogRead a0 s).st.sd = s.sd ∧
    (opSafLogRead a0 s).st.aux = s.aux ∧
    (opSafLogRead a0 s).st.enc = s.enc ∧
    (opSafLogRead a0 s).st.eng = s.eng ∧
    (opSafLogRead a0 s).st.slices = s.slices ∧
    (opSafLogRead a0 s).st.gl = s.gl ∧
    (opSafLogRead a0 s).st.ref = s.ref ∧
    (opSafLogRead a0 s).st.cp = s.cp ∧
    (opSafLogRead a0 s).st.flk = s.flk ∧
    (opSafLogRead a0 s).st.ring = s.ring ∧
    (opSafLogRead a0 s).st.can = s.can ∧
    (opSafLogRead a0 s).st.canPub = s.canPub ∧
    (opSafLogRead a0 s).st.eth = s.eth ∧
    (opSafLogRead a0 s).st.tio = s.tio ∧
    (opSafLogRead a0 s).st.dia = s.dia := by
  have k1 := @State.fail_frame
  have k2 := @State.okWith_frame
  have k3 := @State.ite_frame
  unfold opSafLogRead
  dsimp only
  repeat' (first | (simp [k1, k2, k3]; done) | split)

theorem State.cpRestart_frame (s : State) :
    (State.cpRestart s).pending = s.pending ∧
    (State.cpRestart s).time = s.time ∧
    (State.cpRestart s).tick = s.tick ∧
    (State.cpRestart s).free = s.free ∧
    (State.cpRestart s).mu = s.mu ∧
    (State.cpRestart s).hk = s.hk ∧
    (State.cpRestart s).log = s.log ∧
    (State.cpRestart s).seqs = s.seqs ∧
    (State.cpRestart s).dict = s.dict ∧
    (State.cpRestart s).mclk = s.mclk ∧
    (State.cpRestart s).sd = s.sd ∧
    (State.cpRestart s).aux = s.aux ∧
    (State.cpRestart s).enc = s.enc ∧
    (State.cpRestart s).eng = s.eng ∧
    (State.cpRestart s).slices = s.slices ∧
    (State.cpRestart s).gl = s.gl ∧
    (State.cpRestart s).ref = s.ref ∧
    (State.cpRestart s).flk = s.flk ∧
    (State.cpRestart s).ring = s.ring ∧
    (State.cpRestart s).can = s.can ∧
    (State.cpRestart s).canPub = s.canPub ∧
    (State.cpRestart s).eth = s.eth ∧
    (State.cpRestart s).tio = s.tio ∧
    (State.cpRestart s).dia = s.dia := by
  unfold State.cpRestart
  simp

theorem State.cpMismatch_frame (s : State) :
    (State.cpMismatch s).pending = s.pending ∧
    (State.cpMismatch s).time = s.time ∧
    (State.cpMismatch s).tick = s.tick ∧
    (State.cpMismatch s).free = s.free ∧
    (State.cpMismatch s).mu = s.mu ∧
    (State.cpMismatch s).hk = s.hk ∧
    (State.cpMismatch s).log = s.log ∧
    (State.cpMismatch s).seqs = s.seqs ∧
    (State.cpMismatch s).mclk = s.mclk ∧
    (State.cpMismatch s).sd = s.sd ∧
    (State.cpMismatch s).aux = s.aux ∧
    (State.cpMismatch s).enc = s.enc ∧
    (State.cpMismatch s).eng = s.eng ∧
    (State.cpMismatch s).slices = s.slices ∧
    (State.cpMismatch s).gl = s.gl ∧
    (State.cpMismatch s).ref = s.ref ∧
    (State.cpMismatch s).flk = s.flk ∧
    (State.cpMismatch s).ring = s.ring ∧
    (State.cpMismatch s).can = s.can ∧
    (State.cpMismatch s).canPub = s.canPub ∧
    (State.cpMismatch s).eth = s.eth ∧
    (State.cpMismatch s).tio = s.tio ∧
    (State.cpMismatch s).dia = s.dia := by
  have k1 := @State.cpRestart_frame
  have k2 := @State.ite_frame
  unfold State.cpMismatch
  dsimp only
  repeat' (first | (simp [k1, k2]; done) | split)

theorem effCpLockstepMismatch_frame (s : State) :
    (effCpLockstepMismatch s).pending = s.pending ∧
    (effCpLockstepMismatch s).time = s.time ∧
    (effCpLockstepMismatch s).tick = s.tick ∧
    (effCpLockstepMismatch s).free = s.free ∧
    (effCpLockstepMismatch s).mu = s.mu ∧
    (effCpLockstepMismatch s).hk = s.hk ∧
    (effCpLockstepMismatch s).log = s.log ∧
    (effCpLockstepMismatch s).seqs = s.seqs ∧
    (effCpLockstepMismatch s).mclk = s.mclk ∧
    (effCpLockstepMismatch s).sd = s.sd ∧
    (effCpLockstepMismatch s).aux = s.aux ∧
    (effCpLockstepMismatch s).enc = s.enc ∧
    (effCpLockstepMismatch s).eng = s.eng ∧
    (effCpLockstepMismatch s).slices = s.slices ∧
    (effCpLockstepMismatch s).gl = s.gl ∧
    (effCpLockstepMismatch s).ref = s.ref ∧
    (effCpLockstepMismatch s).flk = s.flk ∧
    (effCpLockstepMismatch s).ring = s.ring ∧
    (effCpLockstepMismatch s).can = s.can ∧
    (effCpLockstepMismatch s).canPub = s.canPub ∧
    (effCpLockstepMismatch s).eth = s.eth ∧
    (effCpLockstepMismatch s).tio = s.tio ∧
    (effCpLockstepMismatch s).dia = s.dia := by
  have k1 := @State.cpMismatch_frame
  have k2 := @State.ite_frame
  unfold effCpLockstepMismatch
  simp [k1, k2]

theorem effCpRestartDone_frame (a0 : Bool) (s : State) :
    (effCpRestartDone a0 s).pending = s.pending ∧
    (effCpRestartDone a0 s).time = s.time ∧
    (effCpRestartDone a0 s).tick = s.tick ∧
    (effCpRestartDone a0 s).free = s.free ∧
    (effCpRestartDone a0 s).tl = s.tl ∧
    (effCpRestartDone a0 s).mu = s.mu ∧
    (effCpRestartDone a0 s).hk = s.hk ∧
    (effCpRestartDone a0 s).mclk = s.mclk ∧
    (effCpRestartDone a0 s).sd = s.sd ∧
    (effCpRestartDone a0 s).aux = s.aux ∧
    (effCpRestartDone a0 s).enc = s.enc ∧
    (effCpRestartDone a0 s).eng = s.eng ∧
    (effCpRestartDone a0 s).flk = s.flk ∧
    (effCpRestartDone a0 s).canPub = s.canPub ∧
    (effCpRestartDone a0 s).tio = s.tio := by
  have k1 := @State.degrade_frame
  have k2 := @State.devEvent_frame
  have k3 := @State.flushHeld_frame
  have k4 := @State.ite_frame
  unfold effCpRestartDone
  simp [k1, k2, k3, k4]

theorem effCpCheckpoint_frame (s : State) :
    (effCpCheckpoint s).pending = s.pending ∧
    (effCpCheckpoint s).time = s.time ∧
    (effCpCheckpoint s).tick = s.tick ∧
    (effCpCheckpoint s).free = s.free ∧
    (effCpCheckpoint s).tl = s.tl ∧
    (effCpCheckpoint s).mu = s.mu ∧
    (effCpCheckpoint s).hk = s.hk ∧
    (effCpCheckpoint s).log = s.log ∧
    (effCpCheckpoint s).seqs = s.seqs ∧
    (effCpCheckpoint s).host = s.host ∧
    (effCpCheckpoint s).dict = s.dict ∧
    (effCpCheckpoint s).mclk = s.mclk ∧
    (effCpCheckpoint s).sd = s.sd ∧
    (effCpCheckpoint s).aux = s.aux ∧
    (effCpCheckpoint s).enc = s.enc ∧
    (effCpCheckpoint s).eng = s.eng ∧
    (effCpCheckpoint s).slices = s.slices ∧
    (effCpCheckpoint s).gl = s.gl ∧
    (effCpCheckpoint s).ref = s.ref ∧
    (effCpCheckpoint s).flk = s.flk ∧
    (effCpCheckpoint s).ring = s.ring ∧
    (effCpCheckpoint s).can = s.can ∧
    (effCpCheckpoint s).canPub = s.canPub ∧
    (effCpCheckpoint s).eth = s.eth ∧
    (effCpCheckpoint s).tio = s.tio ∧
    (effCpCheckpoint s).dia = s.dia := by
  have k1 := @State.ite_frame
  unfold effCpCheckpoint
  simp [k1]

theorem effEccCorrectable_frame (a0 : SramOwner) (s : State) :
    (effEccCorrectable a0 s).pending = s.pending ∧
    (effEccCorrectable a0 s).time = s.time ∧
    (effEccCorrectable a0 s).tick = s.tick ∧
    (effEccCorrectable a0 s).free = s.free ∧
    (effEccCorrectable a0 s).tl = s.tl ∧
    (effEccCorrectable a0 s).mu = s.mu ∧
    (effEccCorrectable a0 s).hk = s.hk ∧
    (effEccCorrectable a0 s).log = s.log ∧
    (effEccCorrectable a0 s).seqs = s.seqs ∧
    (effEccCorrectable a0 s).host = s.host ∧
    (effEccCorrectable a0 s).dict = s.dict ∧
    (effEccCorrectable a0 s).mclk = s.mclk ∧
    (effEccCorrectable a0 s).sd = s.sd ∧
    (effEccCorrectable a0 s).aux = s.aux ∧
    (effEccCorrectable a0 s).enc = s.enc ∧
    (effEccCorrectable a0 s).eng = s.eng ∧
    (effEccCorrectable a0 s).slices = s.slices ∧
    (effEccCorrectable a0 s).gl = s.gl ∧
    (effEccCorrectable a0 s).ref = s.ref ∧
    (effEccCorrectable a0 s).cp = s.cp ∧
    (effEccCorrectable a0 s).flk = s.flk ∧
    (effEccCorrectable a0 s).ring = s.ring ∧
    (effEccCorrectable a0 s).can = s.can ∧
    (effEccCorrectable a0 s).canPub = s.canPub ∧
    (effEccCorrectable a0 s).eth = s.eth ∧
    (effEccCorrectable a0 s).tio = s.tio := by
  unfold effEccCorrectable
  simp

theorem State.fenceCan_frame (s : State) (a1 : Nat) :
    (State.fenceCan s a1).pending = s.pending ∧
    (State.fenceCan s a1).time = s.time ∧
    (State.fenceCan s a1).tick = s.tick ∧
    (State.fenceCan s a1).free = s.free ∧
    (State.fenceCan s a1).tl = s.tl ∧
    (State.fenceCan s a1).mu = s.mu ∧
    (State.fenceCan s a1).hk = s.hk ∧
    (State.fenceCan s a1).log = s.log ∧
    (State.fenceCan s a1).seqs = s.seqs ∧
    (State.fenceCan s a1).host = s.host ∧
    (State.fenceCan s a1).dict = s.dict ∧
    (State.fenceCan s a1).mclk = s.mclk ∧
    (State.fenceCan s a1).sd = s.sd ∧
    (State.fenceCan s a1).aux = s.aux ∧
    (State.fenceCan s a1).enc = s.enc ∧
    (State.fenceCan s a1).eng = s.eng ∧
    (State.fenceCan s a1).slices = s.slices ∧
    (State.fenceCan s a1).gl = s.gl ∧
    (State.fenceCan s a1).ref = s.ref ∧
    (State.fenceCan s a1).cp = s.cp ∧
    (State.fenceCan s a1).flk = s.flk ∧
    (State.fenceCan s a1).ring = s.ring ∧
    (State.fenceCan s a1).canPub = s.canPub ∧
    (State.fenceCan s a1).eth = s.eth ∧
    (State.fenceCan s a1).tio = s.tio := by
  have k1 := @State.fence_frame
  unfold State.fenceCan
  simp [k1]

theorem State.canMemError_frame (s : State) (a1 : Nat) :
    (State.canMemError s a1).pending = s.pending ∧
    (State.canMemError s a1).time = s.time ∧
    (State.canMemError s a1).tick = s.tick ∧
    (State.canMemError s a1).free = s.free ∧
    (State.canMemError s a1).tl = s.tl ∧
    (State.canMemError s a1).mu = s.mu ∧
    (State.canMemError s a1).hk = s.hk ∧
    (State.canMemError s a1).log = s.log ∧
    (State.canMemError s a1).seqs = s.seqs ∧
    (State.canMemError s a1).host = s.host ∧
    (State.canMemError s a1).mclk = s.mclk ∧
    (State.canMemError s a1).sd = s.sd ∧
    (State.canMemError s a1).aux = s.aux ∧
    (State.canMemError s a1).enc = s.enc ∧
    (State.canMemError s a1).eng = s.eng ∧
    (State.canMemError s a1).slices = s.slices ∧
    (State.canMemError s a1).gl = s.gl ∧
    (State.canMemError s a1).ref = s.ref ∧
    (State.canMemError s a1).cp = s.cp ∧
    (State.canMemError s a1).flk = s.flk ∧
    (State.canMemError s a1).ring = s.ring ∧
    (State.canMemError s a1).canPub = s.canPub ∧
    (State.canMemError s a1).eth = s.eth ∧
    (State.canMemError s a1).tio = s.tio := by
  have k1 := @State.fenceCan_frame
  have k2 := @State.ite_frame
  unfold State.canMemError
  simp [k1, k2]

theorem State.cacheError_frame (s : State) (a1 : Nat) :
    (State.cacheError s a1).pending = s.pending ∧
    (State.cacheError s a1).time = s.time ∧
    (State.cacheError s a1).tick = s.tick ∧
    (State.cacheError s a1).free = s.free ∧
    (State.cacheError s a1).tl = s.tl ∧
    (State.cacheError s a1).mu = s.mu ∧
    (State.cacheError s a1).hk = s.hk ∧
    (State.cacheError s a1).seqs = s.seqs ∧
    (State.cacheError s a1).host = s.host ∧
    (State.cacheError s a1).mclk = s.mclk ∧
    (State.cacheError s a1).sd = s.sd ∧
    (State.cacheError s a1).aux = s.aux ∧
    (State.cacheError s a1).enc = s.enc ∧
    (State.cacheError s a1).eng = s.eng ∧
    (State.cacheError s a1).slices = s.slices ∧
    (State.cacheError s a1).gl = s.gl ∧
    (State.cacheError s a1).ref = s.ref ∧
    (State.cacheError s a1).cp = s.cp ∧
    (State.cacheError s a1).flk = s.flk ∧
    (State.cacheError s a1).ring = s.ring ∧
    (State.cacheError s a1).can = s.can ∧
    (State.cacheError s a1).canPub = s.canPub ∧
    (State.cacheError s a1).eth = s.eth ∧
    (State.cacheError s a1).tio = s.tio ∧
    (State.cacheError s a1).dia = s.dia := by
  have k1 := @State.jot_frame
  unfold State.cacheError
  dsimp only
  repeat' (first | (simp [k1]; done) | split)

theorem effEccUncorrectable_frame (a0 : SramOwner) (a1 : Nat) (s : State) :
    (effEccUncorrectable a0 a1 s).pending = s.pending ∧
    (effEccUncorrectable a0 a1 s).time = s.time ∧
    (effEccUncorrectable a0 a1 s).tick = s.tick ∧
    (effEccUncorrectable a0 a1 s).free = s.free ∧
    (effEccUncorrectable a0 a1 s).hk = s.hk ∧
    (effEccUncorrectable a0 a1 s).mclk = s.mclk ∧
    (effEccUncorrectable a0 a1 s).sd = s.sd ∧
    (effEccUncorrectable a0 a1 s).aux = s.aux ∧
    (effEccUncorrectable a0 a1 s).enc = s.enc ∧
    (effEccUncorrectable a0 a1 s).ring = s.ring ∧
    (effEccUncorrectable a0 a1 s).canPub = s.canPub ∧
    (effEccUncorrectable a0 a1 s).eth = s.eth ∧
    (effEccUncorrectable a0 a1 s).tio = s.tio := by
  have k1 := @State.cacheError_frame
  have k2 := @State.canMemError_frame
  have k3 := @State.cpMismatch_frame
  have k4 := @State.ctxFault_frame
  have k5 := @State.refereeFault_frame
  have k6 := @State.ite_frame
  unfold effEccUncorrectable
  repeat' (first | (simp [k1, k2, k3, k4, k5, k6]; done) | split)

theorem effMuRestartDone_frame (s : State) :
    (effMuRestartDone s).pending = s.pending ∧
    (effMuRestartDone s).time = s.time ∧
    (effMuRestartDone s).tick = s.tick ∧
    (effMuRestartDone s).free = s.free ∧
    (effMuRestartDone s).tl = s.tl ∧
    (effMuRestartDone s).host = s.host ∧
    (effMuRestartDone s).mclk = s.mclk ∧
    (effMuRestartDone s).sd = s.sd ∧
    (effMuRestartDone s).aux = s.aux ∧
    (effMuRestartDone s).enc = s.enc ∧
    (effMuRestartDone s).eng = s.eng ∧
    (effMuRestartDone s).slices = s.slices ∧
    (effMuRestartDone s).gl = s.gl ∧
    (effMuRestartDone s).ref = s.ref ∧
    (effMuRestartDone s).cp = s.cp ∧
    (effMuRestartDone s).flk = s.flk ∧
    (effMuRestartDone s).ring = s.ring ∧
    (effMuRestartDone s).can = s.can ∧
    (effMuRestartDone s).canPub = s.canPub ∧
    (effMuRestartDone s).eth = s.eth ∧
    (effMuRestartDone s).tio = s.tio := by
  have k1 := @State.logAppend_frame
  have k2 := @State.post_frame
  have k3 := @State.ite_frame
  unfold effMuRestartDone
  split
  · dsimp only
    split <;> simp [k1, k2, -List.foldl_reverse]
  · simp [k1, k2, k3]

theorem effDebugHalt_frame (s : State) :
    (effDebugHalt s).pending = s.pending ∧
    (effDebugHalt s).time = s.time ∧
    (effDebugHalt s).tick = s.tick ∧
    (effDebugHalt s).free = s.free ∧
    (effDebugHalt s).tl = s.tl ∧
    (effDebugHalt s).mu = s.mu ∧
    (effDebugHalt s).hk = s.hk ∧
    (effDebugHalt s).log = s.log ∧
    (effDebugHalt s).seqs = s.seqs ∧
    (effDebugHalt s).host = s.host ∧
    (effDebugHalt s).dict = s.dict ∧
    (effDebugHalt s).mclk = s.mclk ∧
    (effDebugHalt s).sd = s.sd ∧
    (effDebugHalt s).aux = s.aux ∧
    (effDebugHalt s).enc = s.enc ∧
    (effDebugHalt s).eng = s.eng ∧
    (effDebugHalt s).slices = s.slices ∧
    (effDebugHalt s).gl = s.gl ∧
    (effDebugHalt s).ref = s.ref ∧
    (effDebugHalt s).flk = s.flk ∧
    (effDebugHalt s).ring = s.ring ∧
    (effDebugHalt s).can = s.can ∧
    (effDebugHalt s).canPub = s.canPub ∧
    (effDebugHalt s).eth = s.eth ∧
    (effDebugHalt s).tio = s.tio ∧
    (effDebugHalt s).dia = s.dia := by
  have k1 := @State.ite_frame
  unfold effDebugHalt
  simp [k1]

theorem effDebugResume_frame (s : State) :
    (effDebugResume s).pending = s.pending ∧
    (effDebugResume s).time = s.time ∧
    (effDebugResume s).tick = s.tick ∧
    (effDebugResume s).free = s.free ∧
    (effDebugResume s).tl = s.tl ∧
    (effDebugResume s).mu = s.mu ∧
    (effDebugResume s).hk = s.hk ∧
    (effDebugResume s).log = s.log ∧
    (effDebugResume s).dict = s.dict ∧
    (effDebugResume s).mclk = s.mclk ∧
    (effDebugResume s).sd = s.sd ∧
    (effDebugResume s).aux = s.aux ∧
    (effDebugResume s).enc = s.enc ∧
    (effDebugResume s).eng = s.eng ∧
    (effDebugResume s).slices = s.slices ∧
    (effDebugResume s).gl = s.gl ∧
    (effDebugResume s).ref = s.ref ∧
    (effDebugResume s).flk = s.flk ∧
    (effDebugResume s).canPub = s.canPub ∧
    (effDebugResume s).tio = s.tio := by
  have k1 := @State.flushHeld_frame
  have k2 := @State.ite_frame
  unfold effDebugResume
  simp [k1, k2]

theorem effDebugWrite_frame (a0 : Nat) (a1 : Word) (a2 : Bool) (s : State) :
    (effDebugWrite a0 a1 a2 s).pending = s.pending ∧
    (effDebugWrite a0 a1 a2 s).time = s.time ∧
    (effDebugWrite a0 a1 a2 s).tick = s.tick ∧
    (effDebugWrite a0 a1 a2 s).free = s.free ∧
    (effDebugWrite a0 a1 a2 s).mu = s.mu ∧
    (effDebugWrite a0 a1 a2 s).hk = s.hk ∧
    (effDebugWrite a0 a1 a2 s).log = s.log ∧
    (effDebugWrite a0 a1 a2 s).seqs = s.seqs ∧
    (effDebugWrite a0 a1 a2 s).mclk = s.mclk ∧
    (effDebugWrite a0 a1 a2 s).sd = s.sd ∧
    (effDebugWrite a0 a1 a2 s).aux = s.aux ∧
    (effDebugWrite a0 a1 a2 s).enc = s.enc ∧
    (effDebugWrite a0 a1 a2 s).eng = s.eng ∧
    (effDebugWrite a0 a1 a2 s).slices = s.slices ∧
    (effDebugWrite a0 a1 a2 s).gl = s.gl ∧
    (effDebugWrite a0 a1 a2 s).ref = s.ref ∧
    (effDebugWrite a0 a1 a2 s).flk = s.flk ∧
    (effDebugWrite a0 a1 a2 s).ring = s.ring ∧
    (effDebugWrite a0 a1 a2 s).can = s.can ∧
    (effDebugWrite a0 a1 a2 s).canPub = s.canPub ∧
    (effDebugWrite a0 a1 a2 s).eth = s.eth ∧
    (effDebugWrite a0 a1 a2 s).tio = s.tio ∧
    (effDebugWrite a0 a1 a2 s).dia = s.dia := by
  have k1 := @State.cpMismatch_frame
  have k2 := @State.ite_frame
  unfold effDebugWrite
  simp [k1, k2]

end Sys2Proof.Machine
end

