-- ==== Sys2Proof/Laws/Samples.lean ====
section
/-!
SUPPORT. What each operation of Machine/Samples.lean leaves as it was: the parts of State that it cannot change.
-/

namespace Sys2Proof.Machine

open Sys2Proof

theorem State.askSlots_frame (s : State) (a1 : Nat) (a2 : Stamp) :
    (State.askSlots s a1 a2).pending = s.pending ∧
    (State.askSlots s a1 a2).time = s.time ∧
    (State.askSlots s a1 a2).tick = s.tick ∧
    (State.askSlots s a1 a2).free = s.free ∧
    (State.askSlots s a1 a2).tl = s.tl ∧
    (State.askSlots s a1 a2).mu = s.mu ∧
    (State.askSlots s a1 a2).hk = s.hk ∧
    (State.askSlots s a1 a2).log = s.log ∧
    (State.askSlots s a1 a2).seqs = s.seqs ∧
    (State.askSlots s a1 a2).host = s.host ∧
    (State.askSlots s a1 a2).dict = s.dict ∧
    (State.askSlots s a1 a2).mclk = s.mclk ∧
    (State.askSlots s a1 a2).aux = s.aux ∧
    (State.askSlots s a1 a2).enc = s.enc ∧
    (State.askSlots s a1 a2).eng = s.eng ∧
    (State.askSlots s a1 a2).slices = s.slices ∧
    (State.askSlots s a1 a2).gl = s.gl ∧
    (State.askSlots s a1 a2).ref = s.ref ∧
    (State.askSlots s a1 a2).cp = s.cp ∧
    (State.askSlots s a1 a2).flk = s.flk ∧
    (State.askSlots s a1 a2).ring = s.ring ∧
    (State.askSlots s a1 a2).can = s.can ∧
    (State.askSlots s a1 a2).canPub = s.canPub ∧
    (State.askSlots s a1 a2).eth = s.eth ∧
    (State.askSlots s a1 a2).tio = s.tio ∧
    (State.askSlots s a1 a2).dia = s.dia := by
  have k1 := @State.askInterp_frame
  have k2 := @State.ite_frame
  unfold State.askSlots
  simp [k1, k2]

theorem State.fallback_frame (s : State) (a1 : Nat) (a2 : Stamp) :
    (State.fallback s a1 a2).pending = s.pending ∧
    (State.fallback s a1 a2).time = s.time ∧
    (State.fallback s a1 a2).tick = s.tick ∧
    (State.fallback s a1 a2).free = s.free ∧
    (State.fallback s a1 a2).tl = s.tl ∧
    (State.fallback s a1 a2).mu = s.mu ∧
    (State.fallback s a1 a2).hk = s.hk ∧
    (State.fallback s a1 a2).host = s.host ∧
    (State.fallback s a1 a2).mclk = s.mclk ∧
    (State.fallback s a1 a2).sd = s.sd ∧
    (State.fallback s a1 a2).aux = s.aux ∧
    (State.fallback s a1 a2).enc = s.enc ∧
    (State.fallback s a1 a2).eng = s.eng ∧
    (State.fallback s a1 a2).gl = s.gl ∧
    (State.fallback s a1 a2).ref = s.ref ∧
    (State.fallback s a1 a2).cp = s.cp ∧
    (State.fallback s a1 a2).flk = s.flk ∧
    (State.fallback s a1 a2).ring = s.ring ∧
    (State.fallback s a1 a2).can = s.can ∧
    (State.fallback s a1 a2).canPub = s.canPub ∧
    (State.fallback s a1 a2).eth = s.eth ∧
    (State.fallback s a1 a2).tio = s.tio := by
  have k1 := @State.lossReact_frame
  have k2 := @State.post_frame
  have k3 := @State.ite_frame
  unfold State.fallback
  simp [k1, k2, k3]

theorem State.refreshPred_frame (s : State) (a1 : Nat) (a2 : Nat) (a3 : Stamp) (a4 : Bool) :
    (State.refreshPred s a1 a2 a3 a4).pending = s.pending ∧
    (State.refreshPred s a1 a2 a3 a4).time = s.time ∧
    (State.refreshPred s a1 a2 a3 a4).tick = s.tick ∧
    (State.refreshPred s a1 a2 a3 a4).free = s.free ∧
    (State.refreshPred s a1 a2 a3 a4).tl = s.tl ∧
    (State.refreshPred s a1 a2 a3 a4).mu = s.mu ∧
    (State.refreshPred s a1 a2 a3 a4).hk = s.hk ∧
    (State.refreshPred s a1 a2 a3 a4).log = s.log ∧
    (State.refreshPred s a1 a2 a3 a4).seqs = s.seqs ∧
    (State.refreshPred s a1 a2 a3 a4).host = s.host ∧
    (State.refreshPred s a1 a2 a3 a4).dict = s.dict ∧
    (State.refreshPred s a1 a2 a3 a4).mclk = s.mclk ∧
    (State.refreshPred s a1 a2 a3 a4).sd = s.sd ∧
    (State.refreshPred s a1 a2 a3 a4).aux = s.aux ∧
    (State.refreshPred s a1 a2 a3 a4).enc = s.enc ∧
    (State.refreshPred s a1 a2 a3 a4).eng = s.eng ∧
    (State.refreshPred s a1 a2 a3 a4).gl = s.gl ∧
    (State.refreshPred s a1 a2 a3 a4).ref = s.ref ∧
    (State.refreshPred s a1 a2 a3 a4).cp = s.cp ∧
    (State.refreshPred s a1 a2 a3 a4).flk = s.flk ∧
    (State.refreshPred s a1 a2 a3 a4).ring = s.ring ∧
    (State.refreshPred s a1 a2 a3 a4).can = s.can ∧
    (State.refreshPred s a1 a2 a3 a4).canPub = s.canPub ∧
    (State.refreshPred s a1 a2 a3 a4).eth = s.eth ∧
    (State.refreshPred s a1 a2 a3 a4).tio = s.tio ∧
    (State.refreshPred s a1 a2 a3 a4).dia = s.dia := by
  unfold State.refreshPred
  simp

theorem State.frame_frame (s : State) (a1 : Nat) (a2 : Stamp) (a3 : Bool) :
    (State.frame s a1 a2 a3).pending = s.pending ∧
    (State.frame s a1 a2 a3).time = s.time ∧
    (State.frame s a1 a2 a3).tick = s.tick ∧
    (State.frame s a1 a2 a3).free = s.free ∧
    (State.frame s a1 a2 a3).tl = s.tl ∧
    (State.frame s a1 a2 a3).mu = s.mu ∧
    (State.frame s a1 a2 a3).hk = s.hk ∧
    (State.frame s a1 a2 a3).log = s.log ∧
    (State.frame s a1 a2 a3).seqs = s.seqs ∧
    (State.frame s a1 a2 a3).host = s.host ∧
    (State.frame s a1 a2 a3).dict = s.dict ∧
    (State.frame s a1 a2 a3).mclk = s.mclk ∧
    (State.frame s a1 a2 a3).sd = s.sd ∧
    (State.frame s a1 a2 a3).aux = s.aux ∧
    (State.frame s a1 a2 a3).enc = s.enc ∧
    (State.frame s a1 a2 a3).eng = s.eng ∧
    (State.frame s a1 a2 a3).gl = s.gl ∧
    (State.frame s a1 a2 a3).ref = s.ref ∧
    (State.frame s a1 a2 a3).cp = s.cp ∧
    (State.frame s a1 a2 a3).flk = s.flk ∧
    (State.frame s a1 a2 a3).ring = s.ring ∧
    (State.frame s a1 a2 a3).can = s.can ∧
    (State.frame s a1 a2 a3).canPub = s.canPub ∧
    (State.frame s a1 a2 a3).eth = s.eth ∧
    (State.frame s a1 a2 a3).tio = s.tio ∧
    (State.frame s a1 a2 a3).dia = s.dia := by
  unfold State.frame
  simp

theorem State.ramp_frame (s : State) (a1 : Nat) (a2 : Nat) :
    (State.ramp s a1 a2).pending = s.pending ∧
    (State.ramp s a1 a2).time = s.time ∧
    (State.ramp s a1 a2).tick = s.tick ∧
    (State.ramp s a1 a2).free = s.free ∧
    (State.ramp s a1 a2).tl = s.tl ∧
    (State.ramp s a1 a2).mu = s.mu ∧
    (State.ramp s a1 a2).hk = s.hk ∧
    (State.ramp s a1 a2).log = s.log ∧
    (State.ramp s a1 a2).seqs = s.seqs ∧
    (State.ramp s a1 a2).host = s.host ∧
    (State.ramp s a1 a2).dict = s.dict ∧
    (State.ramp s a1 a2).mclk = s.mclk ∧
    (State.ramp s a1 a2).sd = s.sd ∧
    (State.ramp s a1 a2).aux = s.aux ∧
    (State.ramp s a1 a2).enc = s.enc ∧
    (State.ramp s a1 a2).eng = s.eng ∧
    (State.ramp s a1 a2).gl = s.gl ∧
    (State.ramp s a1 a2).ref = s.ref ∧
    (State.ramp s a1 a2).cp = s.cp ∧
    (State.ramp s a1 a2).flk = s.flk ∧
    (State.ramp s a1 a2).ring = s.ring ∧
    (State.ramp s a1 a2).can = s.can ∧
    (State.ramp s a1 a2).canPub = s.canPub ∧
    (State.ramp s a1 a2).eth = s.eth ∧
    (State.ramp s a1 a2).tio = s.tio ∧
    (State.ramp s a1 a2).dia = s.dia := by
  have k1 := @State.ite_frame
  cases h : (s.sl a1).st <;> simp [State.ramp, h]

theorem State.vdcTrip_frame (s : State) (a1 : Nat) :
    (State.vdcTrip s a1).pending = s.pending ∧
    (State.vdcTrip s a1).time = s.time ∧
    (State.vdcTrip s a1).tick = s.tick ∧
    (State.vdcTrip s a1).free = s.free ∧
    (State.vdcTrip s a1).tl = s.tl ∧
    (State.vdcTrip s a1).mu = s.mu ∧
    (State.vdcTrip s a1).hk = s.hk ∧
    (State.vdcTrip s a1).host = s.host ∧
    (State.vdcTrip s a1).mclk = s.mclk ∧
    (State.vdcTrip s a1).sd = s.sd ∧
    (State.vdcTrip s a1).aux = s.aux ∧
    (State.vdcTrip s a1).enc = s.enc ∧
    (State.vdcTrip s a1).eng = s.eng ∧
    (State.vdcTrip s a1).gl = s.gl ∧
    (State.vdcTrip s a1).ref = s.ref ∧
    (State.vdcTrip s a1).cp = s.cp ∧
    (State.vdcTrip s a1).flk = s.flk ∧
    (State.vdcTrip s a1).ring = s.ring ∧
    (State.vdcTrip s a1).can = s.can ∧
    (State.vdcTrip s a1).canPub = s.canPub ∧
    (State.vdcTrip s a1).eth = s.eth ∧
    (State.vdcTrip s a1).tio = s.tio := by
  have k1 := @State.endDischarge_frame
  have k2 := @State.go_frame
  have k3 := @State.post_frame
  have k4 := @State.ite_frame
  unfold State.vdcTrip
  dsimp only
  repeat' (first | (simp [k1, k2, k3, k4]; done) | split)

theorem State.declareLoss_frame (s : State) (a1 : Nat) (a2 : Stamp) (a3 : Nat) :
    (State.declareLoss s a1 a2 a3).pending = s.pending ∧
    (State.declareLoss s a1 a2 a3).time = s.time ∧
    (State.declareLoss s a1 a2 a3).tick = s.tick ∧
    (State.declareLoss s a1 a2 a3).free = s.free ∧
    (State.declareLoss s a1 a2 a3).tl = s.tl ∧
    (State.declareLoss s a1 a2 a3).mu = s.mu ∧
    (State.declareLoss s a1 a2 a3).hk = s.hk ∧
    (State.declareLoss s a1 a2 a3).host = s.host ∧
    (State.declareLoss s a1 a2 a3).mclk = s.mclk ∧
    (State.declareLoss s a1 a2 a3).sd = s.sd ∧
    (State.declareLoss s a1 a2 a3).aux = s.aux ∧
    (State.declareLoss s a1 a2 a3).enc = s.enc ∧
    (State.declareLoss s a1 a2 a3).eng = s.eng ∧
    (State.declareLoss s a1 a2 a3).gl = s.gl ∧
    (State.declareLoss s a1 a2 a3).ref = s.ref ∧
    (State.declareLoss s a1 a2 a3).cp = s.cp ∧
    (State.declareLoss s a1 a2 a3).flk = s.flk ∧
    (State.declareLoss s a1 a2 a3).ring = s.ring ∧
    (State.declareLoss s a1 a2 a3).can = s.can ∧
    (State.declareLoss s a1 a2 a3).canPub = s.canPub ∧
    (State.declareLoss s a1 a2 a3).eth = s.eth ∧
    (State.declareLoss s a1 a2 a3).tio = s.tio := by
  have k1 := @State.go_frame
  have k2 := @State.post_frame
  unfold State.declareLoss
  simp [k1, k2]

theorem State.lossCheck_frame (s : State) (a1 : Nat) (a2 : Stamp) :
    (State.lossCheck s a1 a2).pending = s.pending ∧
    (State.lossCheck s a1 a2).time = s.time ∧
    (State.lossCheck s a1 a2).tick = s.tick ∧
    (State.lossCheck s a1 a2).free = s.free ∧
    (State.lossCheck s a1 a2).tl = s.tl ∧
    (State.lossCheck s a1 a2).mu = s.mu ∧
    (State.lossCheck s a1 a2).hk = s.hk ∧
    (State.lossCheck s a1 a2).host = s.host ∧
    (State.lossCheck s a1 a2).mclk = s.mclk ∧
    (State.lossCheck s a1 a2).sd = s.sd ∧
    (State.lossCheck s a1 a2).aux = s.aux ∧
    (State.lossCheck s a1 a2).enc = s.enc ∧
    (State.lossCheck s a1 a2).eng = s.eng ∧
    (State.lossCheck s a1 a2).gl = s.gl ∧
    (State.lossCheck s a1 a2).ref = s.ref ∧
    (State.lossCheck s a1 a2).cp = s.cp ∧
    (State.lossCheck s a1 a2).flk = s.flk ∧
    (State.lossCheck s a1 a2).ring = s.ring ∧
    (State.lossCheck s a1 a2).can = s.can ∧
    (State.lossCheck s a1 a2).canPub = s.canPub ∧
    (State.lossCheck s a1 a2).eth = s.eth ∧
    (State.lossCheck s a1 a2).tio = s.tio := by
  have k1 := @State.declareLoss_frame
  have k2 := @State.ite_frame
  unfold State.lossCheck
  repeat' (first | (simp [k1, k2]; done) | split)

theorem State.modTarget_frame (s : State) (a1 : Nat) :
    (State.modTarget s a1).pending = s.pending ∧
    (State.modTarget s a1).time = s.time ∧
    (State.modTarget s a1).tick = s.tick ∧
    (State.modTarget s a1).free = s.free ∧
    (State.modTarget s a1).tl = s.tl ∧
    (State.modTarget s a1).mu = s.mu ∧
    (State.modTarget s a1).hk = s.hk ∧
    (State.modTarget s a1).log = s.log ∧
    (State.modTarget s a1).seqs = s.seqs ∧
    (State.modTarget s a1).host = s.host ∧
    (State.modTarget s a1).dict = s.dict ∧
    (State.modTarget s a1).mclk = s.mclk ∧
    (State.modTarget s a1).sd = s.sd ∧
    (State.modTarget s a1).aux = s.aux ∧
    (State.modTarget s a1).enc = s.enc ∧
    (State.modTarget s a1).eng = s.eng ∧
    (State.modTarget s a1).gl = s.gl ∧
    (State.modTarget s a1).ref = s.ref ∧
    (State.modTarget s a1).cp = s.cp ∧
    (State.modTarget s a1).flk = s.flk ∧
    (State.modTarget s a1).ring = s.ring ∧
    (State.modTarget s a1).can = s.can ∧
    (State.modTarget s a1).canPub = s.canPub ∧
    (State.modTarget s a1).eth = s.eth ∧
    (State.modTarget s a1).tio = s.tio ∧
    (State.modTarget s a1).dia = s.dia := by
  unfold State.modTarget
  simp

theorem State.digestCheck_frame (s : State) (a1 : Nat) :
    (State.digestCheck s a1).pending = s.pending ∧
    (State.digestCheck s a1).time = s.time ∧
    (State.digestCheck s a1).tick = s.tick ∧
    (State.digestCheck s a1).free = s.free ∧
    (State.digestCheck s a1).tl = s.tl ∧
    (State.digestCheck s a1).mu = s.mu ∧
    (State.digestCheck s a1).hk = s.hk ∧
    (State.digestCheck s a1).log = s.log ∧
    (State.digestCheck s a1).seqs = s.seqs ∧
    (State.digestCheck s a1).host = s.host ∧
    (State.digestCheck s a1).mclk = s.mclk ∧
    (State.digestCheck s a1).sd = s.sd ∧
    (State.digestCheck s a1).aux = s.aux ∧
    (State.digestCheck s a1).enc = s.enc ∧
    (State.digestCheck s a1).eng = s.eng ∧
    (State.digestCheck s a1).slices = s.slices ∧
    (State.digestCheck s a1).gl = s.gl ∧
    (State.digestCheck s a1).ref = s.ref ∧
    (State.digestCheck s a1).cp = s.cp ∧
    (State.digestCheck s a1).ring = s.ring ∧
    (State.digestCheck s a1).can = s.can ∧
    (State.digestCheck s a1).canPub = s.canPub ∧
    (State.digestCheck s a1).eth = s.eth ∧
    (State.digestCheck s a1).tio = s.tio ∧
    (State.digestCheck s a1).dia = s.dia := by
  have k1 := @State.ite_frame
  unfold State.digestCheck
  repeat' (first | (simp [k1]; done) | split)

theorem State.digest_frame (s : State) (a1 : Nat) (a2 : Stamp) :
    (State.digest s a1 a2).pending = s.pending ∧
    (State.digest s a1 a2).time = s.time ∧
    (State.digest s a1 a2).tick = s.tick ∧
    (State.digest s a1 a2).free = s.free ∧
    (State.digest s a1 a2).tl = s.tl ∧
    (State.digest s a1 a2).mu = s.mu ∧
    (State.digest s a1 a2).hk = s.hk ∧
    (State.digest s a1 a2).log = s.log ∧
    (State.digest s a1 a2).host = s.host ∧
    (State.digest s a1 a2).mclk = s.mclk ∧
    (State.digest s a1 a2).sd = s.sd ∧
    (State.digest s a1 a2).aux = s.aux ∧
    (State.digest s a1 a2).enc = s.enc ∧
    (State.digest s a1 a2).eng = s.eng ∧
    (State.digest s a1 a2).slices = s.slices ∧
    (State.digest s a1 a2).gl = s.gl ∧
    (State.digest s a1 a2).ref = s.ref ∧
    (State.digest s a1 a2).cp = s.cp ∧
    (State.digest s a1 a2).can = s.can ∧
    (State.digest s a1 a2).canPub = s.canPub ∧
    (State.digest s a1 a2).eth = s.eth ∧
    (State.digest s a1 a2).tio = s.tio := by
  have k1 := @State.digestCheck_frame
  have k2 := @State.ringTx_frame
  have k3 := @State.ite_frame
  unfold State.digest
  simp [k1, k2, k3]

end Sys2Proof.Machine
end

