-- ==== Sys2Proof/Laws/Catching.lean ====
section
/-!
SUPPORT. What each operation of Machine/Catching.lean leaves as it was: the parts of State that it cannot change.
-/

namespace Sys2Proof.Machine

open Sys2Proof

theorem State.modCatch_frame (s : State) (a1 : Nat) (a2 : (CatchRun → CatchRun)) :
    (State.modCatch s a1 a2).pending = s.pending ∧
    (State.modCatch s a1 a2).time = s.time ∧
    (State.modCatch s a1 a2).tick = s.tick ∧
    (State.modCatch s a1 a2).free = s.free ∧
    (State.modCatch s a1 a2).tl = s.tl ∧
    (State.modCatch s a1 a2).mu = s.mu ∧
    (State.modCatch s a1 a2).hk = s.hk ∧
    (State.modCatch s a1 a2).log = s.log ∧
    (State.modCatch s a1 a2).seqs = s.seqs ∧
    (State.modCatch s a1 a2).host = s.host ∧
    (State.modCatch s a1 a2).dict = s.dict ∧
    (State.modCatch s a1 a2).mclk = s.mclk ∧
    (State.modCatch s a1 a2).sd = s.sd ∧
    (State.modCatch s a1 a2).aux = s.aux ∧
    (State.modCatch s a1 a2).enc = s.enc ∧
    (State.modCatch s a1 a2).eng = s.eng ∧
    (State.modCatch s a1 a2).gl = s.gl ∧
    (State.modCatch s a1 a2).ref = s.ref ∧
    (State.modCatch s a1 a2).cp = s.cp ∧
    (State.modCatch s a1 a2).flk = s.flk ∧
    (State.modCatch s a1 a2).ring = s.ring ∧
    (State.modCatch s a1 a2).can = s.can ∧
    (State.modCatch s a1 a2).canPub = s.canPub ∧
    (State.modCatch s a1 a2).eth = s.eth ∧
    (State.modCatch s a1 a2).tio = s.tio ∧
    (State.modCatch s a1 a2).dia = s.dia := by
  unfold State.modCatch
  simp

theorem State.seedMaps_frame (s : State) (a1 : Nat) (a2 : Stamp) (a3 : Ang32) (a4 : F32) :
    (State.seedMaps s a1 a2 a3 a4).pending = s.pending ∧
    (State.seedMaps s a1 a2 a3 a4).time = s.time ∧
    (State.seedMaps s a1 a2 a3 a4).tick = s.tick ∧
    (State.seedMaps s a1 a2 a3 a4).free = s.free ∧
    (State.seedMaps s a1 a2 a3 a4).tl = s.tl ∧
    (State.seedMaps s a1 a2 a3 a4).mu = s.mu ∧
    (State.seedMaps s a1 a2 a3 a4).hk = s.hk ∧
    (State.seedMaps s a1 a2 a3 a4).log = s.log ∧
    (State.seedMaps s a1 a2 a3 a4).seqs = s.seqs ∧
    (State.seedMaps s a1 a2 a3 a4).host = s.host ∧
    (State.seedMaps s a1 a2 a3 a4).dict = s.dict ∧
    (State.seedMaps s a1 a2 a3 a4).mclk = s.mclk ∧
    (State.seedMaps s a1 a2 a3 a4).sd = s.sd ∧
    (State.seedMaps s a1 a2 a3 a4).aux = s.aux ∧
    (State.seedMaps s a1 a2 a3 a4).enc = s.enc ∧
    (State.seedMaps s a1 a2 a3 a4).slices = s.slices ∧
    (State.seedMaps s a1 a2 a3 a4).gl = s.gl ∧
    (State.seedMaps s a1 a2 a3 a4).ref = s.ref ∧
    (State.seedMaps s a1 a2 a3 a4).cp = s.cp ∧
    (State.seedMaps s a1 a2 a3 a4).flk = s.flk ∧
    (State.seedMaps s a1 a2 a3 a4).ring = s.ring ∧
    (State.seedMaps s a1 a2 a3 a4).can = s.can ∧
    (State.seedMaps s a1 a2 a3 a4).canPub = s.canPub ∧
    (State.seedMaps s a1 a2 a3 a4).eth = s.eth ∧
    (State.seedMaps s a1 a2 a3 a4).tio = s.tio ∧
    (State.seedMaps s a1 a2 a3 a4).dia = s.dia := by
  have k1 := @State.seedNow_frame
  have k2 := @State.ite_frame
  unfold State.seedMaps
  simp [k1, k2]

theorem State.catchResult_frame (s : State) (a1 : Nat) (a2 : CatchMethod) (a3 : Stamp) (a4 : Ang32) (a5 : F32) :
    (State.catchResult s a1 a2 a3 a4 a5).pending = s.pending ∧
    (State.catchResult s a1 a2 a3 a4 a5).time = s.time ∧
    (State.catchResult s a1 a2 a3 a4 a5).tick = s.tick ∧
    (State.catchResult s a1 a2 a3 a4 a5).free = s.free ∧
    (State.catchResult s a1 a2 a3 a4 a5).tl = s.tl ∧
    (State.catchResult s a1 a2 a3 a4 a5).mu = s.mu ∧
    (State.catchResult s a1 a2 a3 a4 a5).hk = s.hk ∧
    (State.catchResult s a1 a2 a3 a4 a5).host = s.host ∧
    (State.catchResult s a1 a2 a3 a4 a5).mclk = s.mclk ∧
    (State.catchResult s a1 a2 a3 a4 a5).sd = s.sd ∧
    (State.catchResult s a1 a2 a3 a4 a5).aux = s.aux ∧
    (State.catchResult s a1 a2 a3 a4 a5).gl = s.gl ∧
    (State.catchResult s a1 a2 a3 a4 a5).ref = s.ref ∧
    (State.catchResult s a1 a2 a3 a4 a5).cp = s.cp ∧
    (State.catchResult s a1 a2 a3 a4 a5).flk = s.flk ∧
    (State.catchResult s a1 a2 a3 a4 a5).ring = s.ring ∧
    (State.catchResult s a1 a2 a3 a4 a5).can = s.can ∧
    (State.catchResult s a1 a2 a3 a4 a5).canPub = s.canPub ∧
    (State.catchResult s a1 a2 a3 a4 a5).eth = s.eth ∧
    (State.catchResult s a1 a2 a3 a4 a5).tio = s.tio := by
  have k1 := @State.encTeach_frame
  have k2 := @State.go_frame
  have k3 := @State.seedMaps_frame
  have k4 := @State.setPat_frame
  have k5 := @State.ite_frame
  unfold State.catchResult
  simp [k1, k2, k3, k4, k5]

theorem State.catchFail_frame (s : State) (a1 : Nat) (a2 : Nat) :
    (State.catchFail s a1 a2).pending = s.pending ∧
    (State.catchFail s a1 a2).time = s.time ∧
    (State.catchFail s a1 a2).tick = s.tick ∧
    (State.catchFail s a1 a2).free = s.free ∧
    (State.catchFail s a1 a2).tl = s.tl ∧
    (State.catchFail s a1 a2).mu = s.mu ∧
    (State.catchFail s a1 a2).hk = s.hk ∧
    (State.catchFail s a1 a2).host = s.host ∧
    (State.catchFail s a1 a2).mclk = s.mclk ∧
    (State.catchFail s a1 a2).sd = s.sd ∧
    (State.catchFail s a1 a2).aux = s.aux ∧
    (State.catchFail s a1 a2).enc = s.enc ∧
    (State.catchFail s a1 a2).eng = s.eng ∧
    (State.catchFail s a1 a2).gl = s.gl ∧
    (State.catchFail s a1 a2).ref = s.ref ∧
    (State.catchFail s a1 a2).cp = s.cp ∧
    (State.catchFail s a1 a2).flk = s.flk ∧
    (State.catchFail s a1 a2).ring = s.ring ∧
    (State.catchFail s a1 a2).can = s.can ∧
    (State.catchFail s a1 a2).canPub = s.canPub ∧
    (State.catchFail s a1 a2).eth = s.eth ∧
    (State.catchFail s a1 a2).tio = s.tio := by
  have k1 := @State.go_frame
  have k2 := @State.post_frame
  unfold State.catchFail
  repeat' (first | (simp [k1, k2]; done) | split)

theorem State.hfBegin_frame (s : State) (a1 : Nat) :
    (State.hfBegin s a1).pending = s.pending ∧
    (State.hfBegin s a1).time = s.time ∧
    (State.hfBegin s a1).tick = s.tick ∧
    (State.hfBegin s a1).free = s.free ∧
    (State.hfBegin s a1).tl = s.tl ∧
    (State.hfBegin s a1).mu = s.mu ∧
    (State.hfBegin s a1).hk = s.hk ∧
    (State.hfBegin s a1).host = s.host ∧
    (State.hfBegin s a1).mclk = s.mclk ∧
    (State.hfBegin s a1).sd = s.sd ∧
    (State.hfBegin s a1).aux = s.aux ∧
    (State.hfBegin s a1).enc = s.enc ∧
    (State.hfBegin s a1).eng = s.eng ∧
    (State.hfBegin s a1).gl = s.gl ∧
    (State.hfBegin s a1).ref = s.ref ∧
    (State.hfBegin s a1).cp = s.cp ∧
    (State.hfBegin s a1).flk = s.flk ∧
    (State.hfBegin s a1).ring = s.ring ∧
    (State.hfBegin s a1).can = s.can ∧
    (State.hfBegin s a1).canPub = s.canPub ∧
    (State.hfBegin s a1).eth = s.eth ∧
    (State.hfBegin s a1).tio = s.tio := by
  have k1 := @State.catchFail_frame
  have k2 := @State.modCatch_frame
  have k3 := @State.setPat_frame
  have k4 := @State.ite_frame
  unfold State.hfBegin
  simp [k1, k2, k3, k4]

theorem State.polBegin_frame (s : State) (a1 : Nat) :
    (State.polBegin s a1).pending = s.pending ∧
    (State.polBegin s a1).time = s.time ∧
    (State.polBegin s a1).tick = s.tick ∧
    (State.polBegin s a1).free = s.free ∧
    (State.polBegin s a1).tl = s.tl ∧
    (State.polBegin s a1).mu = s.mu ∧
    (State.polBegin s a1).hk = s.hk ∧
    (State.polBegin s a1).log = s.log ∧
    (State.polBegin s a1).seqs = s.seqs ∧
    (State.polBegin s a1).host = s.host ∧
    (State.polBegin s a1).dict = s.dict ∧
    (State.polBegin s a1).mclk = s.mclk ∧
    (State.polBegin s a1).sd = s.sd ∧
    (State.polBegin s a1).aux = s.aux ∧
    (State.polBegin s a1).enc = s.enc ∧
    (State.polBegin s a1).eng = s.eng ∧
    (State.polBegin s a1).gl = s.gl ∧
    (State.polBegin s a1).ref = s.ref ∧
    (State.polBegin s a1).cp = s.cp ∧
    (State.polBegin s a1).flk = s.flk ∧
    (State.polBegin s a1).ring = s.ring ∧
    (State.polBegin s a1).can = s.can ∧
    (State.polBegin s a1).canPub = s.canPub ∧
    (State.polBegin s a1).eth = s.eth ∧
    (State.polBegin s a1).tio = s.tio ∧
    (State.polBegin s a1).dia = s.dia := by
  have k1 := @State.modCatch_frame
  unfold State.polBegin
  simp [k1]

theorem State.hfSample_frame (s : State) (a1 : Nat) (a2 : Stamp) (a3 : CatchRun) :
    (State.hfSample s a1 a2 a3).pending = s.pending ∧
    (State.hfSample s a1 a2 a3).time = s.time ∧
    (State.hfSample s a1 a2 a3).tick = s.tick ∧
    (State.hfSample s a1 a2 a3).free = s.free ∧
    (State.hfSample s a1 a2 a3).tl = s.tl ∧
    (State.hfSample s a1 a2 a3).mu = s.mu ∧
    (State.hfSample s a1 a2 a3).hk = s.hk ∧
    (State.hfSample s a1 a2 a3).log = s.log ∧
    (State.hfSample s a1 a2 a3).seqs = s.seqs ∧
    (State.hfSample s a1 a2 a3).host = s.host ∧
    (State.hfSample s a1 a2 a3).dict = s.dict ∧
    (State.hfSample s a1 a2 a3).mclk = s.mclk ∧
    (State.hfSample s a1 a2 a3).sd = s.sd ∧
    (State.hfSample s a1 a2 a3).aux = s.aux ∧
    (State.hfSample s a1 a2 a3).enc = s.enc ∧
    (State.hfSample s a1 a2 a3).eng = s.eng ∧
    (State.hfSample s a1 a2 a3).gl = s.gl ∧
    (State.hfSample s a1 a2 a3).ref = s.ref ∧
    (State.hfSample s a1 a2 a3).cp = s.cp ∧
    (State.hfSample s a1 a2 a3).flk = s.flk ∧
    (State.hfSample s a1 a2 a3).ring = s.ring ∧
    (State.hfSample s a1 a2 a3).can = s.can ∧
    (State.hfSample s a1 a2 a3).canPub = s.canPub ∧
    (State.hfSample s a1 a2 a3).eth = s.eth ∧
    (State.hfSample s a1 a2 a3).tio = s.tio ∧
    (State.hfSample s a1 a2 a3).dia = s.dia := by
  have k1 := @State.modCatch_frame
  have k2 := @State.polBegin_frame
  have k3 := @State.ite_frame
  unfold State.hfSample
  simp [k1, k2, k3]

theorem State.polDecide_frame (s : State) (a1 : Nat) (a2 : CatchRun) :
    (State.polDecide s a1 a2).pending = s.pending ∧
    (State.polDecide s a1 a2).time = s.time ∧
    (State.polDecide s a1 a2).tick = s.tick ∧
    (State.polDecide s a1 a2).free = s.free ∧
    (State.polDecide s a1 a2).tl = s.tl ∧
    (State.polDecide s a1 a2).mu = s.mu ∧
    (State.polDecide s a1 a2).hk = s.hk ∧
    (State.polDecide s a1 a2).host = s.host ∧
    (State.polDecide s a1 a2).mclk = s.mclk ∧
    (State.polDecide s a1 a2).sd = s.sd ∧
    (State.polDecide s a1 a2).aux = s.aux ∧
    (State.polDecide s a1 a2).gl = s.gl ∧
    (State.polDecide s a1 a2).ref = s.ref ∧
    (State.polDecide s a1 a2).cp = s.cp ∧
    (State.polDecide s a1 a2).flk = s.flk ∧
    (State.polDecide s a1 a2).ring = s.ring ∧
    (State.polDecide s a1 a2).can = s.can ∧
    (State.polDecide s a1 a2).canPub = s.canPub ∧
    (State.polDecide s a1 a2).eth = s.eth ∧
    (State.polDecide s a1 a2).tio = s.tio := by
  have k1 := @State.catchFail_frame
  have k2 := @State.catchResult_frame
  have k3 := @State.modCatch_frame
  have k4 := @State.polBegin_frame
  have k5 := @State.ite_frame
  unfold State.polDecide
  simp [k1, k2, k3, k4, k5]

theorem effPolarityTestPhaseEnd_frame (a0 : Fin 6) (s : State) :
    (effPolarityTestPhaseEnd a0 s).pending = s.pending ∧
    (effPolarityTestPhaseEnd a0 s).time = s.time ∧
    (effPolarityTestPhaseEnd a0 s).tick = s.tick ∧
    (effPolarityTestPhaseEnd a0 s).free = s.free ∧
    (effPolarityTestPhaseEnd a0 s).tl = s.tl ∧
    (effPolarityTestPhaseEnd a0 s).mu = s.mu ∧
    (effPolarityTestPhaseEnd a0 s).hk = s.hk ∧
    (effPolarityTestPhaseEnd a0 s).host = s.host ∧
    (effPolarityTestPhaseEnd a0 s).mclk = s.mclk ∧
    (effPolarityTestPhaseEnd a0 s).sd = s.sd ∧
    (effPolarityTestPhaseEnd a0 s).aux = s.aux ∧
    (effPolarityTestPhaseEnd a0 s).gl = s.gl ∧
    (effPolarityTestPhaseEnd a0 s).ref = s.ref ∧
    (effPolarityTestPhaseEnd a0 s).cp = s.cp ∧
    (effPolarityTestPhaseEnd a0 s).flk = s.flk ∧
    (effPolarityTestPhaseEnd a0 s).ring = s.ring ∧
    (effPolarityTestPhaseEnd a0 s).can = s.can ∧
    (effPolarityTestPhaseEnd a0 s).canPub = s.canPub ∧
    (effPolarityTestPhaseEnd a0 s).eth = s.eth ∧
    (effPolarityTestPhaseEnd a0 s).tio = s.tio := by
  have k1 := @State.modCatch_frame
  have k2 := @State.polDecide_frame
  have k3 := @State.ite_frame
  unfold effPolarityTestPhaseEnd
  dsimp only
  repeat' (first | (simp [k1, k2, k3]; done) | split)

theorem State.schedulePulse_frame (s : State) (a1 : Nat) (a2 : Nat) (a3 : Stamp) :
    (State.schedulePulse s a1 a2 a3).pending = s.pending ∧
    (State.schedulePulse s a1 a2 a3).time = s.time ∧
    (State.schedulePulse s a1 a2 a3).tick = s.tick ∧
    (State.schedulePulse s a1 a2 a3).free = s.free ∧
    (State.schedulePulse s a1 a2 a3).tl = s.tl ∧
    (State.schedulePulse s a1 a2 a3).mu = s.mu ∧
    (State.schedulePulse s a1 a2 a3).hk = s.hk ∧
    (State.schedulePulse s a1 a2 a3).log = s.log ∧
    (State.schedulePulse s a1 a2 a3).seqs = s.seqs ∧
    (State.schedulePulse s a1 a2 a3).host = s.host ∧
    (State.schedulePulse s a1 a2 a3).dict = s.dict ∧
    (State.schedulePulse s a1 a2 a3).mclk = s.mclk ∧
    (State.schedulePulse s a1 a2 a3).sd = s.sd ∧
    (State.schedulePulse s a1 a2 a3).aux = s.aux ∧
    (State.schedulePulse s a1 a2 a3).enc = s.enc ∧
    (State.schedulePulse s a1 a2 a3).eng = s.eng ∧
    (State.schedulePulse s a1 a2 a3).slices = s.slices ∧
    (State.schedulePulse s a1 a2 a3).ref = s.ref ∧
    (State.schedulePulse s a1 a2 a3).cp = s.cp ∧
    (State.schedulePulse s a1 a2 a3).flk = s.flk ∧
    (State.schedulePulse s a1 a2 a3).ring = s.ring ∧
    (State.schedulePulse s a1 a2 a3).can = s.can ∧
    (State.schedulePulse s a1 a2 a3).canPub = s.canPub ∧
    (State.schedulePulse s a1 a2 a3).eth = s.eth ∧
    (State.schedulePulse s a1 a2 a3).tio = s.tio ∧
    (State.schedulePulse s a1 a2 a3).dia = s.dia := by
  unfold State.schedulePulse
  simp

theorem State.pulsesBegin_frame (s : State) (a1 : Nat) :
    (State.pulsesBegin s a1).pending = s.pending ∧
    (State.pulsesBegin s a1).time = s.time ∧
    (State.pulsesBegin s a1).tick = s.tick ∧
    (State.pulsesBegin s a1).free = s.free ∧
    (State.pulsesBegin s a1).tl = s.tl ∧
    (State.pulsesBegin s a1).mu = s.mu ∧
    (State.pulsesBegin s a1).hk = s.hk ∧
    (State.pulsesBegin s a1).host = s.host ∧
    (State.pulsesBegin s a1).mclk = s.mclk ∧
    (State.pulsesBegin s a1).sd = s.sd ∧
    (State.pulsesBegin s a1).aux = s.aux ∧
    (State.pulsesBegin s a1).enc = s.enc ∧
    (State.pulsesBegin s a1).eng = s.eng ∧
    (State.pulsesBegin s a1).ref = s.ref ∧
    (State.pulsesBegin s a1).cp = s.cp ∧
    (State.pulsesBegin s a1).flk = s.flk ∧
    (State.pulsesBegin s a1).ring = s.ring ∧
    (State.pulsesBegin s a1).can = s.can ∧
    (State.pulsesBegin s a1).canPub = s.canPub ∧
    (State.pulsesBegin s a1).eth = s.eth ∧
    (State.pulsesBegin s a1).tio = s.tio := by
  have k1 := @State.catchFail_frame
  have k2 := @State.modCatch_frame
  have k3 := @State.schedulePulse_frame
  have k4 := @State.setPat_frame
  unfold State.pulsesBegin
  repeat' (first | (simp [k1, k2, k3, k4]; done) | split)

theorem effCatchPulse_frame (a0 : Fin 6) (s : State) :
    (effCatchPulse a0 s).pending = s.pending ∧
    (effCatchPulse a0 s).time = s.time ∧
    (effCatchPulse a0 s).tick = s.tick ∧
    (effCatchPulse a0 s).free = s.free ∧
    (effCatchPulse a0 s).tl = s.tl ∧
    (effCatchPulse a0 s).mu = s.mu ∧
    (effCatchPulse a0 s).hk = s.hk ∧
    (effCatchPulse a0 s).log = s.log ∧
    (effCatchPulse a0 s).seqs = s.seqs ∧
    (effCatchPulse a0 s).host = s.host ∧
    (effCatchPulse a0 s).dict = s.dict ∧
    (effCatchPulse a0 s).mclk = s.mclk ∧
    (effCatchPulse a0 s).sd = s.sd ∧
    (effCatchPulse a0 s).aux = s.aux ∧
    (effCatchPulse a0 s).enc = s.enc ∧
    (effCatchPulse a0 s).eng = s.eng ∧
    (effCatchPulse a0 s).ref = s.ref ∧
    (effCatchPulse a0 s).cp = s.cp ∧
    (effCatchPulse a0 s).flk = s.flk ∧
    (effCatchPulse a0 s).ring = s.ring ∧
    (effCatchPulse a0 s).can = s.can ∧
    (effCatchPulse a0 s).canPub = s.canPub ∧
    (effCatchPulse a0 s).eth = s.eth ∧
    (effCatchPulse a0 s).tio = s.tio ∧
    (effCatchPulse a0 s).dia = s.dia := by
  have k1 := @State.modCatch_frame
  have k2 := @State.schedulePulse_frame
  have k3 := @State.ite_frame
  unfold effCatchPulse
  dsimp only
  repeat' (first | (simp [k1, k2, k3]; done) | split)

theorem State.pulseVector_frame (s : State) (a1 : Nat) (a2 : Stamp) :
    (State.pulseVector s a1 a2).pending = s.pending ∧
    (State.pulseVector s a1 a2).time = s.time ∧
    (State.pulseVector s a1 a2).tick = s.tick ∧
    (State.pulseVector s a1 a2).free = s.free ∧
    (State.pulseVector s a1 a2).tl = s.tl ∧
    (State.pulseVector s a1 a2).mu = s.mu ∧
    (State.pulseVector s a1 a2).hk = s.hk ∧
    (State.pulseVector s a1 a2).log = s.log ∧
    (State.pulseVector s a1 a2).seqs = s.seqs ∧
    (State.pulseVector s a1 a2).host = s.host ∧
    (State.pulseVector s a1 a2).dict = s.dict ∧
    (State.pulseVector s a1 a2).mclk = s.mclk ∧
    (State.pulseVector s a1 a2).sd = s.sd ∧
    (State.pulseVector s a1 a2).aux = s.aux ∧
    (State.pulseVector s a1 a2).enc = s.enc ∧
    (State.pulseVector s a1 a2).eng = s.eng ∧
    (State.pulseVector s a1 a2).gl = s.gl ∧
    (State.pulseVector s a1 a2).ref = s.ref ∧
    (State.pulseVector s a1 a2).cp = s.cp ∧
    (State.pulseVector s a1 a2).flk = s.flk ∧
    (State.pulseVector s a1 a2).ring = s.ring ∧
    (State.pulseVector s a1 a2).can = s.can ∧
    (State.pulseVector s a1 a2).canPub = s.canPub ∧
    (State.pulseVector s a1 a2).eth = s.eth ∧
    (State.pulseVector s a1 a2).tio = s.tio ∧
    (State.pulseVector s a1 a2).dia = s.dia := by
  have k1 := @State.modCatch_frame
  have k2 := @State.ite_frame
  unfold State.pulseVector
  repeat' (first | (simp [k1, k2]; done) | split)

theorem State.pulsesEnd_frame (s : State) (a1 : Nat) (a2 : CatchRun) :
    (State.pulsesEnd s a1 a2).pending = s.pending ∧
    (State.pulsesEnd s a1 a2).time = s.time ∧
    (State.pulsesEnd s a1 a2).tick = s.tick ∧
    (State.pulsesEnd s a1 a2).free = s.free ∧
    (State.pulsesEnd s a1 a2).tl = s.tl ∧
    (State.pulsesEnd s a1 a2).mu = s.mu ∧
    (State.pulsesEnd s a1 a2).hk = s.hk ∧
    (State.pulsesEnd s a1 a2).host = s.host ∧
    (State.pulsesEnd s a1 a2).mclk = s.mclk ∧
    (State.pulsesEnd s a1 a2).sd = s.sd ∧
    (State.pulsesEnd s a1 a2).aux = s.aux ∧
    (State.pulsesEnd s a1 a2).gl = s.gl ∧
    (State.pulsesEnd s a1 a2).ref = s.ref ∧
    (State.pulsesEnd s a1 a2).cp = s.cp ∧
    (State.pulsesEnd s a1 a2).flk = s.flk ∧
    (State.pulsesEnd s a1 a2).ring = s.ring ∧
    (State.pulsesEnd s a1 a2).can = s.can ∧
    (State.pulsesEnd s a1 a2).canPub = s.canPub ∧
    (State.pulsesEnd s a1 a2).eth = s.eth ∧
    (State.pulsesEnd s a1 a2).tio = s.tio := by
  have k1 := @State.catchFail_frame
  have k2 := @State.catchResult_frame
  have k3 := @State.hfBegin_frame
  have k4 := @State.ite_frame
  unfold State.pulsesEnd
  simp [k1, k2, k3, k4]

theorem State.pulsesCheck_frame (s : State) (a1 : Nat) :
    (State.pulsesCheck s a1).pending = s.pending ∧
    (State.pulsesCheck s a1).time = s.time ∧
    (State.pulsesCheck s a1).tick = s.tick ∧
    (State.pulsesCheck s a1).free = s.free ∧
    (State.pulsesCheck s a1).tl = s.tl ∧
    (State.pulsesCheck s a1).mu = s.mu ∧
    (State.pulsesCheck s a1).hk = s.hk ∧
    (State.pulsesCheck s a1).host = s.host ∧
    (State.pulsesCheck s a1).mclk = s.mclk ∧
    (State.pulsesCheck s a1).sd = s.sd ∧
    (State.pulsesCheck s a1).aux = s.aux ∧
    (State.pulsesCheck s a1).gl = s.gl ∧
    (State.pulsesCheck s a1).ref = s.ref ∧
    (State.pulsesCheck s a1).cp = s.cp ∧
    (State.pulsesCheck s a1).flk = s.flk ∧
    (State.pulsesCheck s a1).ring = s.ring ∧
    (State.pulsesCheck s a1).can = s.can ∧
    (State.pulsesCheck s a1).canPub = s.canPub ∧
    (State.pulsesCheck s a1).eth = s.eth ∧
    (State.pulsesCheck s a1).tio = s.tio := by
  have k1 := @State.pulsesEnd_frame
  have k2 := @State.ite_frame
  unfold State.pulsesCheck
  repeat' (first | (simp [k1, k2]; done) | split)

theorem State.vectorEnd_frame (s : State) (a1 : Nat) (a2 : CatchRun) :
    (State.vectorEnd s a1 a2).pending = s.pending ∧
    (State.vectorEnd s a1 a2).time = s.time ∧
    (State.vectorEnd s a1 a2).tick = s.tick ∧
    (State.vectorEnd s a1 a2).free = s.free ∧
    (State.vectorEnd s a1 a2).tl = s.tl ∧
    (State.vectorEnd s a1 a2).mu = s.mu ∧
    (State.vectorEnd s a1 a2).hk = s.hk ∧
    (State.vectorEnd s a1 a2).host = s.host ∧
    (State.vectorEnd s a1 a2).mclk = s.mclk ∧
    (State.vectorEnd s a1 a2).sd = s.sd ∧
    (State.vectorEnd s a1 a2).aux = s.aux ∧
    (State.vectorEnd s a1 a2).ref = s.ref ∧
    (State.vectorEnd s a1 a2).cp = s.cp ∧
    (State.vectorEnd s a1 a2).flk = s.flk ∧
    (State.vectorEnd s a1 a2).ring = s.ring ∧
    (State.vectorEnd s a1 a2).can = s.can ∧
    (State.vectorEnd s a1 a2).canPub = s.canPub ∧
    (State.vectorEnd s a1 a2).eth = s.eth ∧
    (State.vectorEnd s a1 a2).tio = s.tio := by
  have k1 := @State.catchFail_frame
  have k2 := @State.catchResult_frame
  have k3 := @State.pulsesBegin_frame
  have k4 := @State.ite_frame
  unfold State.vectorEnd
  simp [k1, k2, k3, k4]

theorem State.vectorTake_frame (s : State) (a1 : Nat) (a2 : Stamp) (a3 : F32 × F32) (a4 : F32) :
    (State.vectorTake s a1 a2 a3 a4).pending = s.pending ∧
    (State.vectorTake s a1 a2 a3 a4).time = s.time ∧
    (State.vectorTake s a1 a2 a3 a4).tick = s.tick ∧
    (State.vectorTake s a1 a2 a3 a4).free = s.free ∧
    (State.vectorTake s a1 a2 a3 a4).tl = s.tl ∧
    (State.vectorTake s a1 a2 a3 a4).mu = s.mu ∧
    (State.vectorTake s a1 a2 a3 a4).hk = s.hk ∧
    (State.vectorTake s a1 a2 a3 a4).host = s.host ∧
    (State.vectorTake s a1 a2 a3 a4).mclk = s.mclk ∧
    (State.vectorTake s a1 a2 a3 a4).sd = s.sd ∧
    (State.vectorTake s a1 a2 a3 a4).aux = s.aux ∧
    (State.vectorTake s a1 a2 a3 a4).ref = s.ref ∧
    (State.vectorTake s a1 a2 a3 a4).cp = s.cp ∧
    (State.vectorTake s a1 a2 a3 a4).flk = s.flk ∧
    (State.vectorTake s a1 a2 a3 a4).ring = s.ring ∧
    (State.vectorTake s a1 a2 a3 a4).can = s.can ∧
    (State.vectorTake s a1 a2 a3 a4).canPub = s.canPub ∧
    (State.vectorTake s a1 a2 a3 a4).eth = s.eth ∧
    (State.vectorTake s a1 a2 a3 a4).tio = s.tio := by
  have k1 := @State.modCatch_frame
  have k2 := @State.vectorEnd_frame
  have k3 := @State.ite_frame
  unfold State.vectorTake
  dsimp only
  repeat' (first | (simp [k1, k2, k3]; done) | split)

theorem State.catchLine_frame (s : State) (a1 : Nat) :
    (State.catchLine s a1).pending = s.pending ∧
    (State.catchLine s a1).time = s.time ∧
    (State.catchLine s a1).tick = s.tick ∧
    (State.catchLine s a1).free = s.free ∧
    (State.catchLine s a1).tl = s.tl ∧
    (State.catchLine s a1).mu = s.mu ∧
    (State.catchLine s a1).hk = s.hk ∧
    (State.catchLine s a1).host = s.host ∧
    (State.catchLine s a1).mclk = s.mclk ∧
    (State.catchLine s a1).sd = s.sd ∧
    (State.catchLine s a1).aux = s.aux ∧
    (State.catchLine s a1).ref = s.ref ∧
    (State.catchLine s a1).cp = s.cp ∧
    (State.catchLine s a1).flk = s.flk ∧
    (State.catchLine s a1).ring = s.ring ∧
    (State.catchLine s a1).can = s.can ∧
    (State.catchLine s a1).canPub = s.canPub ∧
    (State.catchLine s a1).eth = s.eth ∧
    (State.catchLine s a1).tio = s.tio := by
  have k1 := @State.vectorTake_frame
  have k2 := @State.ite_frame
  unfold State.catchLine
  repeat' (first | (simp [k1, k2]; done) | split)

theorem effCatchTimeout_frame (a0 : Fin 6) (s : State) :
    (effCatchTimeout a0 s).pending = s.pending ∧
    (effCatchTimeout a0 s).time = s.time ∧
    (effCatchTimeout a0 s).tick = s.tick ∧
    (effCatchTimeout a0 s).free = s.free ∧
    (effCatchTimeout a0 s).tl = s.tl ∧
    (effCatchTimeout a0 s).mu = s.mu ∧
    (effCatchTimeout a0 s).hk = s.hk ∧
    (effCatchTimeout a0 s).host = s.host ∧
    (effCatchTimeout a0 s).mclk = s.mclk ∧
    (effCatchTimeout a0 s).sd = s.sd ∧
    (effCatchTimeout a0 s).aux = s.aux ∧
    (effCatchTimeout a0 s).ref = s.ref ∧
    (effCatchTimeout a0 s).cp = s.cp ∧
    (effCatchTimeout a0 s).flk = s.flk ∧
    (effCatchTimeout a0 s).ring = s.ring ∧
    (effCatchTimeout a0 s).can = s.can ∧
    (effCatchTimeout a0 s).canPub = s.canPub ∧
    (effCatchTimeout a0 s).eth = s.eth ∧
    (effCatchTimeout a0 s).tio = s.tio := by
  have k1 := @State.vectorEnd_frame
  have k2 := @State.ite_frame
  unfold effCatchTimeout
  dsimp only
  repeat' (first | (simp [k1, k2]; done) | split)

theorem State.catchRest_frame (s : State) (a1 : Nat) :
    (State.catchRest s a1).pending = s.pending ∧
    (State.catchRest s a1).time = s.time ∧
    (State.catchRest s a1).tick = s.tick ∧
    (State.catchRest s a1).free = s.free ∧
    (State.catchRest s a1).tl = s.tl ∧
    (State.catchRest s a1).mu = s.mu ∧
    (State.catchRest s a1).hk = s.hk ∧
    (State.catchRest s a1).host = s.host ∧
    (State.catchRest s a1).mclk = s.mclk ∧
    (State.catchRest s a1).sd = s.sd ∧
    (State.catchRest s a1).aux = s.aux ∧
    (State.catchRest s a1).enc = s.enc ∧
    (State.catchRest s a1).eng = s.eng ∧
    (State.catchRest s a1).ref = s.ref ∧
    (State.catchRest s a1).cp = s.cp ∧
    (State.catchRest s a1).flk = s.flk ∧
    (State.catchRest s a1).ring = s.ring ∧
    (State.catchRest s a1).can = s.can ∧
    (State.catchRest s a1).canPub = s.canPub ∧
    (State.catchRest s a1).eth = s.eth ∧
    (State.catchRest s a1).tio = s.tio := by
  have k1 := @State.modCatch_frame
  have k2 := @State.pulsesBegin_frame
  have k3 := @State.ite_frame
  unfold State.catchRest
  simp [k1, k2, k3]

theorem State.catchSample_frame (s : State) (a1 : Nat) (a2 : Stamp) :
    (State.catchSample s a1 a2).pending = s.pending ∧
    (State.catchSample s a1 a2).time = s.time ∧
    (State.catchSample s a1 a2).tick = s.tick ∧
    (State.catchSample s a1 a2).free = s.free ∧
    (State.catchSample s a1 a2).tl = s.tl ∧
    (State.catchSample s a1 a2).mu = s.mu ∧
    (State.catchSample s a1 a2).hk = s.hk ∧
    (State.catchSample s a1 a2).host = s.host ∧
    (State.catchSample s a1 a2).mclk = s.mclk ∧
    (State.catchSample s a1 a2).sd = s.sd ∧
    (State.catchSample s a1 a2).aux = s.aux ∧
    (State.catchSample s a1 a2).ref = s.ref ∧
    (State.catchSample s a1 a2).cp = s.cp ∧
    (State.catchSample s a1 a2).flk = s.flk ∧
    (State.catchSample s a1 a2).ring = s.ring ∧
    (State.catchSample s a1 a2).can = s.can ∧
    (State.catchSample s a1 a2).canPub = s.canPub ∧
    (State.catchSample s a1 a2).eth = s.eth ∧
    (State.catchSample s a1 a2).tio = s.tio := by
  have k1 := @State.catchRest_frame
  have k2 := @State.catchResult_frame
  have k3 := @State.hfSample_frame
  have k4 := @State.modCatch_frame
  have k5 := @State.pulsesBegin_frame
  have k6 := @State.pulsesCheck_frame
  have k7 := @State.vectorTake_frame
  have k8 := @State.ite_frame
  unfold State.catchSample
  repeat' (first | (simp [k1, k2, k3, k4, k5, k6, k7, k8]; done) | split)

theorem State.startCatch_frame (s : State) (a1 : Nat) (a2 : Stamp) :
    (State.startCatch s a1 a2).pending = s.pending ∧
    (State.startCatch s a1 a2).time = s.time ∧
    (State.startCatch s a1 a2).tick = s.tick ∧
    (State.startCatch s a1 a2).free = s.free ∧
    (State.startCatch s a1 a2).tl = s.tl ∧
    (State.startCatch s a1 a2).mu = s.mu ∧
    (State.startCatch s a1 a2).hk = s.hk ∧
    (State.startCatch s a1 a2).host = s.host ∧
    (State.startCatch s a1 a2).mclk = s.mclk ∧
    (State.startCatch s a1 a2).sd = s.sd ∧
    (State.startCatch s a1 a2).aux = s.aux ∧
    (State.startCatch s a1 a2).enc = s.enc ∧
    (State.startCatch s a1 a2).eng = s.eng ∧
    (State.startCatch s a1 a2).gl = s.gl ∧
    (State.startCatch s a1 a2).ref = s.ref ∧
    (State.startCatch s a1 a2).cp = s.cp ∧
    (State.startCatch s a1 a2).flk = s.flk ∧
    (State.startCatch s a1 a2).ring = s.ring ∧
    (State.startCatch s a1 a2).can = s.can ∧
    (State.startCatch s a1 a2).canPub = s.canPub ∧
    (State.startCatch s a1 a2).eth = s.eth ∧
    (State.startCatch s a1 a2).tio = s.tio := by
  have k1 := @State.go_frame
  have k2 := @State.setPat_frame
  have k3 := @State.ite_frame
  unfold State.startCatch
  simp [k1, k2, k3]

theorem State.rearm_frame (s : State) (a1 : Nat) :
    (State.rearm s a1).pending = s.pending ∧
    (State.rearm s a1).time = s.time ∧
    (State.rearm s a1).tick = s.tick ∧
    (State.rearm s a1).free = s.free ∧
    (State.rearm s a1).tl = s.tl ∧
    (State.rearm s a1).mu = s.mu ∧
    (State.rearm s a1).hk = s.hk ∧
    (State.rearm s a1).log = s.log ∧
    (State.rearm s a1).seqs = s.seqs ∧
    (State.rearm s a1).host = s.host ∧
    (State.rearm s a1).dict = s.dict ∧
    (State.rearm s a1).mclk = s.mclk ∧
    (State.rearm s a1).sd = s.sd ∧
    (State.rearm s a1).aux = s.aux ∧
    (State.rearm s a1).enc = s.enc ∧
    (State.rearm s a1).gl = s.gl ∧
    (State.rearm s a1).ref = s.ref ∧
    (State.rearm s a1).cp = s.cp ∧
    (State.rearm s a1).flk = s.flk ∧
    (State.rearm s a1).ring = s.ring ∧
    (State.rearm s a1).can = s.can ∧
    (State.rearm s a1).canPub = s.canPub ∧
    (State.rearm s a1).eth = s.eth ∧
    (State.rearm s a1).tio = s.tio ∧
    (State.rearm s a1).dia = s.dia := by
  have k1 := @State.primeContexts_frame
  unfold State.rearm
  simp [k1]

theorem State.afterMain_frame (s : State) (a1 : Nat) (a2 : Stamp) :
    (State.afterMain s a1 a2).pending = s.pending ∧
    (State.afterMain s a1 a2).time = s.time ∧
    (State.afterMain s a1 a2).tick = s.tick ∧
    (State.afterMain s a1 a2).free = s.free ∧
    (State.afterMain s a1 a2).tl = s.tl ∧
    (State.afterMain s a1 a2).mu = s.mu ∧
    (State.afterMain s a1 a2).hk = s.hk ∧
    (State.afterMain s a1 a2).host = s.host ∧
    (State.afterMain s a1 a2).mclk = s.mclk ∧
    (State.afterMain s a1 a2).sd = s.sd ∧
    (State.afterMain s a1 a2).aux = s.aux ∧
    (State.afterMain s a1 a2).gl = s.gl ∧
    (State.afterMain s a1 a2).ref = s.ref ∧
    (State.afterMain s a1 a2).cp = s.cp ∧
    (State.afterMain s a1 a2).flk = s.flk ∧
    (State.afterMain s a1 a2).ring = s.ring ∧
    (State.afterMain s a1 a2).can = s.can ∧
    (State.afterMain s a1 a2).canPub = s.canPub ∧
    (State.afterMain s a1 a2).eth = s.eth ∧
    (State.afterMain s a1 a2).tio = s.tio := by
  have k1 := @State.pulseVector_frame
  have k2 := @State.pulsesCheck_frame
  have k3 := @State.ite_frame
  unfold State.afterMain
  simp [k1, k2, k3]

end Sys2Proof.Machine
end

