-- ==== Sys2Proof/Laws/Drive.lean ====
section
/-!
SUPPORT. What each operation of Machine/Drive.lean leaves as it was: the parts of State that it cannot change.
-/

namespace Sys2Proof.Machine

open Sys2Proof

theorem State.windingOn_frame (s : State) (a1 : Nat) :
    (State.windingOn s a1).pending = s.pending ∧
    (State.windingOn s a1).time = s.time ∧
    (State.windingOn s a1).tick = s.tick ∧
    (State.windingOn s a1).free = s.free ∧
    (State.windingOn s a1).tl = s.tl ∧
    (State.windingOn s a1).mu = s.mu ∧
    (State.windingOn s a1).hk = s.hk ∧
    (State.windingOn s a1).log = s.log ∧
    (State.windingOn s a1).seqs = s.seqs ∧
    (State.windingOn s a1).host = s.host ∧
    (State.windingOn s a1).dict = s.dict ∧
    (State.windingOn s a1).mclk = s.mclk ∧
    (State.windingOn s a1).sd = s.sd ∧
    (State.windingOn s a1).aux = s.aux ∧
    (State.windingOn s a1).enc = s.enc ∧
    (State.windingOn s a1).eng = s.eng ∧
    (State.windingOn s a1).gl = s.gl ∧
    (State.windingOn s a1).ref = s.ref ∧
    (State.windingOn s a1).cp = s.cp ∧
    (State.windingOn s a1).flk = s.flk ∧
    (State.windingOn s a1).ring = s.ring ∧
    (State.windingOn s a1).can = s.can ∧
    (State.windingOn s a1).canPub = s.canPub ∧
    (State.windingOn s a1).eth = s.eth ∧
    (State.windingOn s a1).tio = s.tio ∧
    (State.windingOn s a1).dia = s.dia := by
  have k1 := @State.setPat_frame
  unfold State.windingOn
  simp [k1]

theorem State.dischargeSample_frame (s : State) (a1 : Nat) (a2 : Stamp) :
    (State.dischargeSample s a1 a2).pending = s.pending ∧
    (State.dischargeSample s a1 a2).time = s.time ∧
    (State.dischargeSample s a1 a2).tick = s.tick ∧
    (State.dischargeSample s a1 a2).free = s.free ∧
    (State.dischargeSample s a1 a2).tl = s.tl ∧
    (State.dischargeSample s a1 a2).mu = s.mu ∧
    (State.dischargeSample s a1 a2).hk = s.hk ∧
    (State.dischargeSample s a1 a2).host = s.host ∧
    (State.dischargeSample s a1 a2).mclk = s.mclk ∧
    (State.dischargeSample s a1 a2).sd = s.sd ∧
    (State.dischargeSample s a1 a2).aux = s.aux ∧
    (State.dischargeSample s a1 a2).enc = s.enc ∧
    (State.dischargeSample s a1 a2).eng = s.eng ∧
    (State.dischargeSample s a1 a2).gl = s.gl ∧
    (State.dischargeSample s a1 a2).ref = s.ref ∧
    (State.dischargeSample s a1 a2).cp = s.cp ∧
    (State.dischargeSample s a1 a2).flk = s.flk ∧
    (State.dischargeSample s a1 a2).ring = s.ring ∧
    (State.dischargeSample s a1 a2).can = s.can ∧
    (State.dischargeSample s a1 a2).canPub = s.canPub ∧
    (State.dischargeSample s a1 a2).eth = s.eth ∧
    (State.dischargeSample s a1 a2).tio = s.tio := by
  have k1 := @State.endDischarge_frame
  have k2 := @State.go_frame
  have k3 := @State.windingOn_frame
  have k4 := @State.ite_frame
  unfold State.dischargeSample
  repeat' (first | (simp [k1, k2, k3, k4]; done) | split)

theorem effDischargeTimeout_frame (a0 : Fin 6) (s : State) :
    (effDischargeTimeout a0 s).pending = s.pending ∧
    (effDischargeTimeout a0 s).time = s.time ∧
    (effDischargeTimeout a0 s).tick = s.tick ∧
    (effDischargeTimeout a0 s).free = s.free ∧
    (effDischargeTimeout a0 s).tl = s.tl ∧
    (effDischargeTimeout a0 s).mu = s.mu ∧
    (effDischargeTimeout a0 s).hk = s.hk ∧
    (effDischargeTimeout a0 s).host = s.host ∧
    (effDischargeTimeout a0 s).mclk = s.mclk ∧
    (effDischargeTimeout a0 s).sd = s.sd ∧
    (effDischargeTimeout a0 s).aux = s.aux ∧
    (effDischargeTimeout a0 s).enc = s.enc ∧
    (effDischargeTimeout a0 s).eng = s.eng ∧
    (effDischargeTimeout a0 s).gl = s.gl ∧
    (effDischargeTimeout a0 s).ref = s.ref ∧
    (effDischargeTimeout a0 s).cp = s.cp ∧
    (effDischargeTimeout a0 s).flk = s.flk ∧
    (effDischargeTimeout a0 s).ring = s.ring ∧
    (effDischargeTimeout a0 s).can = s.can ∧
    (effDischargeTimeout a0 s).canPub = s.canPub ∧
    (effDischargeTimeout a0 s).eth = s.eth ∧
    (effDischargeTimeout a0 s).tio = s.tio := by
  have k1 := @State.endDischarge_frame
  have k2 := @State.go_frame
  have k3 := @State.ite_frame
  unfold effDischargeTimeout
  dsimp only
  repeat' (first | (simp [k1, k2, k3]; done) | split)

theorem State.zeroTrack_frame (s : State) (a1 : Nat) (a2 : Stamp) :
    (State.zeroTrack s a1 a2).pending = s.pending ∧
    (State.zeroTrack s a1 a2).time = s.time ∧
    (State.zeroTrack s a1 a2).tick = s.tick ∧
    (State.zeroTrack s a1 a2).free = s.free ∧
    (State.zeroTrack s a1 a2).tl = s.tl ∧
    (State.zeroTrack s a1 a2).mu = s.mu ∧
    (State.zeroTrack s a1 a2).hk = s.hk ∧
    (State.zeroTrack s a1 a2).log = s.log ∧
    (State.zeroTrack s a1 a2).seqs = s.seqs ∧
    (State.zeroTrack s a1 a2).host = s.host ∧
    (State.zeroTrack s a1 a2).dict = s.dict ∧
    (State.zeroTrack s a1 a2).mclk = s.mclk ∧
    (State.zeroTrack s a1 a2).sd = s.sd ∧
    (State.zeroTrack s a1 a2).aux = s.aux ∧
    (State.zeroTrack s a1 a2).enc = s.enc ∧
    (State.zeroTrack s a1 a2).eng = s.eng ∧
    (State.zeroTrack s a1 a2).gl = s.gl ∧
    (State.zeroTrack s a1 a2).ref = s.ref ∧
    (State.zeroTrack s a1 a2).cp = s.cp ∧
    (State.zeroTrack s a1 a2).flk = s.flk ∧
    (State.zeroTrack s a1 a2).ring = s.ring ∧
    (State.zeroTrack s a1 a2).can = s.can ∧
    (State.zeroTrack s a1 a2).canPub = s.canPub ∧
    (State.zeroTrack s a1 a2).eth = s.eth ∧
    (State.zeroTrack s a1 a2).tio = s.tio ∧
    (State.zeroTrack s a1 a2).dia = s.dia := by
  have k1 := @State.ite_frame
  unfold State.zeroTrack
  simp

theorem State.evalOwned_frame (s : State) (a1 : Nat) (a2 : Stamp) :
    (State.evalOwned s a1 a2).pending = s.pending ∧
    (State.evalOwned s a1 a2).time = s.time ∧
    (State.evalOwned s a1 a2).tick = s.tick ∧
    (State.evalOwned s a1 a2).free = s.free ∧
    (State.evalOwned s a1 a2).tl = s.tl ∧
    (State.evalOwned s a1 a2).mu = s.mu ∧
    (State.evalOwned s a1 a2).hk = s.hk ∧
    (State.evalOwned s a1 a2).log = s.log ∧
    (State.evalOwned s a1 a2).seqs = s.seqs ∧
    (State.evalOwned s a1 a2).host = s.host ∧
    (State.evalOwned s a1 a2).dict = s.dict ∧
    (State.evalOwned s a1 a2).mclk = s.mclk ∧
    (State.evalOwned s a1 a2).sd = s.sd ∧
    (State.evalOwned s a1 a2).aux = s.aux ∧
    (State.evalOwned s a1 a2).eng = s.eng ∧
    (State.evalOwned s a1 a2).slices = s.slices ∧
    (State.evalOwned s a1 a2).gl = s.gl ∧
    (State.evalOwned s a1 a2).ref = s.ref ∧
    (State.evalOwned s a1 a2).cp = s.cp ∧
    (State.evalOwned s a1 a2).flk = s.flk ∧
    (State.evalOwned s a1 a2).ring = s.ring ∧
    (State.evalOwned s a1 a2).can = s.can ∧
    (State.evalOwned s a1 a2).canPub = s.canPub ∧
    (State.evalOwned s a1 a2).eth = s.eth ∧
    (State.evalOwned s a1 a2).tio = s.tio ∧
    (State.evalOwned s a1 a2).dia = s.dia := by
  have k1 := @State.encEval_frame
  have k2 := @State.ite_frame
  unfold State.evalOwned
  simp [k1, k2]

theorem State.promoteNow_frame (s : State) (a1 : Nat) (a2 : Stamp) :
    (State.promoteNow s a1 a2).pending = s.pending ∧
    (State.promoteNow s a1 a2).time = s.time ∧
    (State.promoteNow s a1 a2).tick = s.tick ∧
    (State.promoteNow s a1 a2).free = s.free ∧
    (State.promoteNow s a1 a2).tl = s.tl ∧
    (State.promoteNow s a1 a2).mu = s.mu ∧
    (State.promoteNow s a1 a2).hk = s.hk ∧
    (State.promoteNow s a1 a2).log = s.log ∧
    (State.promoteNow s a1 a2).host = s.host ∧
    (State.promoteNow s a1 a2).mclk = s.mclk ∧
    (State.promoteNow s a1 a2).sd = s.sd ∧
    (State.promoteNow s a1 a2).aux = s.aux ∧
    (State.promoteNow s a1 a2).enc = s.enc ∧
    (State.promoteNow s a1 a2).eng = s.eng ∧
    (State.promoteNow s a1 a2).gl = s.gl ∧
    (State.promoteNow s a1 a2).ref = s.ref ∧
    (State.promoteNow s a1 a2).cp = s.cp ∧
    (State.promoteNow s a1 a2).flk = s.flk ∧
    (State.promoteNow s a1 a2).ring = s.ring ∧
    (State.promoteNow s a1 a2).can = s.can ∧
    (State.promoteNow s a1 a2).canPub = s.canPub ∧
    (State.promoteNow s a1 a2).eth = s.eth ∧
    (State.promoteNow s a1 a2).tio = s.tio := by
  have k1 := @State.deliverShadow_frame
  have k2 := @State.ite_frame
  unfold State.promoteNow
  (repeat' (first | split | simp [k1, k2])) <;> (repeat' apply And.intro) <;> (first | rw [foldl_pending] | rw [foldl_time] | rw [foldl_tick] | rw [foldl_free] | rw [foldl_tl] | rw [foldl_mu] | rw [foldl_hk] | rw [foldl_log] | rw [foldl_host] | rw [foldl_mclk] | rw [foldl_sd] | rw [foldl_aux] | rw [foldl_enc] | rw [foldl_eng] | rw [foldl_gl] | rw [foldl_ref] | rw [foldl_cp] | rw [foldl_flk] | rw [foldl_ring] | rw [foldl_can] | rw [foldl_canPub] | rw [foldl_eth] | rw [foldl_tio] | skip) <;> intros <;> (repeat' (first | split | simp [k1, k2]))

theorem State.sample_frame (s : State) (a1 : Nat) (a2 : Stamp) :
    (State.sample s a1 a2).pending = s.pending ∧
    (State.sample s a1 a2).time = s.time ∧
    (State.sample s a1 a2).tick = s.tick ∧
    (State.sample s a1 a2).free = s.free ∧
    (State.sample s a1 a2).tl = s.tl ∧
    (State.sample s a1 a2).mu = s.mu ∧
    (State.sample s a1 a2).hk = s.hk ∧
    (State.sample s a1 a2).host = s.host ∧
    (State.sample s a1 a2).mclk = s.mclk ∧
    (State.sample s a1 a2).cp = s.cp ∧
    (State.sample s a1 a2).can = s.can ∧
    (State.sample s a1 a2).canPub = s.canPub ∧
    (State.sample s a1 a2).eth = s.eth := by
  have k1 := @State.askSlots_frame
  have k2 := @State.catchSample_frame
  have k3 := @State.digest_frame
  have k4 := @State.dischargeSample_frame
  have k5 := @State.evalOwned_frame
  have k6 := @State.fallback_frame
  have k7 := @State.frame_frame
  have k8 := @State.holdSignals_frame
  have k9 := @State.lossCheck_frame
  have k10 := @State.modTarget_frame
  have k11 := @State.promoteNow_frame
  have k12 := @State.rallyRefresh_frame
  have k13 := @State.ramp_frame
  have k14 := @State.refreshPred_frame
  have k15 := @State.vdcTrip_frame
  have k16 := @State.zeroTrack_frame
  unfold State.sample
  simp [k1, k2, k3, k4, k5, k6, k7, k8, k9, k10, k11, k12, k13, k14, k15, k16]

theorem effControlSample_frame (a0 : Fin 6) (s : State) :
    (effControlSample a0 s).pending = s.pending ∧
    (effControlSample a0 s).time = s.time ∧
    (effControlSample a0 s).tick = s.tick ∧
    (effControlSample a0 s).free = s.free ∧
    (effControlSample a0 s).tl = s.tl ∧
    (effControlSample a0 s).mu = s.mu ∧
    (effControlSample a0 s).hk = s.hk ∧
    (effControlSample a0 s).host = s.host ∧
    (effControlSample a0 s).mclk = s.mclk ∧
    (effControlSample a0 s).cp = s.cp ∧
    (effControlSample a0 s).can = s.can ∧
    (effControlSample a0 s).canPub = s.canPub ∧
    (effControlSample a0 s).eth = s.eth := by
  have k1 := @State.sample_frame
  have k2 := @State.ite_frame
  unfold effControlSample
  dsimp only
  repeat' (first | (simp [k1, k2]; done) | split)

theorem effZeroSpeedHoldDone_frame (a0 : Fin 6) (s : State) :
    (effZeroSpeedHoldDone a0 s).pending = s.pending ∧
    (effZeroSpeedHoldDone a0 s).time = s.time ∧
    (effZeroSpeedHoldDone a0 s).tick = s.tick ∧
    (effZeroSpeedHoldDone a0 s).free = s.free ∧
    (effZeroSpeedHoldDone a0 s).tl = s.tl ∧
    (effZeroSpeedHoldDone a0 s).mu = s.mu ∧
    (effZeroSpeedHoldDone a0 s).hk = s.hk ∧
    (effZeroSpeedHoldDone a0 s).host = s.host ∧
    (effZeroSpeedHoldDone a0 s).mclk = s.mclk ∧
    (effZeroSpeedHoldDone a0 s).sd = s.sd ∧
    (effZeroSpeedHoldDone a0 s).aux = s.aux ∧
    (effZeroSpeedHoldDone a0 s).enc = s.enc ∧
    (effZeroSpeedHoldDone a0 s).eng = s.eng ∧
    (effZeroSpeedHoldDone a0 s).gl = s.gl ∧
    (effZeroSpeedHoldDone a0 s).ref = s.ref ∧
    (effZeroSpeedHoldDone a0 s).cp = s.cp ∧
    (effZeroSpeedHoldDone a0 s).flk = s.flk ∧
    (effZeroSpeedHoldDone a0 s).ring = s.ring ∧
    (effZeroSpeedHoldDone a0 s).can = s.can ∧
    (effZeroSpeedHoldDone a0 s).canPub = s.canPub ∧
    (effZeroSpeedHoldDone a0 s).eth = s.eth ∧
    (effZeroSpeedHoldDone a0 s).tio = s.tio := by
  have k1 := @State.go_frame
  have k2 := @State.ite_frame
  unfold effZeroSpeedHoldDone
  dsimp only
  repeat' (first | (simp [k1, k2]; done) | split)

theorem effMainResult_frame (a0 : Fin 64) (a1 : Option (Fin 6 × Fin 16)) (a2 : List Bool) (s : State) :
    (effMainResult a0 a1 a2 s).pending = s.pending ∧
    (effMainResult a0 a1 a2 s).time = s.time ∧
    (effMainResult a0 a1 a2 s).tick = s.tick ∧
    (effMainResult a0 a1 a2 s).free = s.free ∧
    (effMainResult a0 a1 a2 s).tl = s.tl ∧
    (effMainResult a0 a1 a2 s).mu = s.mu ∧
    (effMainResult a0 a1 a2 s).hk = s.hk ∧
    (effMainResult a0 a1 a2 s).host = s.host ∧
    (effMainResult a0 a1 a2 s).aux = s.aux ∧
    (effMainResult a0 a1 a2 s).cp = s.cp ∧
    (effMainResult a0 a1 a2 s).flk = s.flk ∧
    (effMainResult a0 a1 a2 s).ring = s.ring ∧
    (effMainResult a0 a1 a2 s).can = s.can ∧
    (effMainResult a0 a1 a2 s).canPub = s.canPub ∧
    (effMainResult a0 a1 a2 s).eth = s.eth ∧
    (effMainResult a0 a1 a2 s).tio = s.tio := by
  have k1 := @State.afterMain_frame
  have k2 := @effSdMainResult_frame
  unfold effMainResult
  simp [k1, k2]

theorem State.lateFrame_frame (s : State) (a1 : Nat) (a2 : Nat) :
    (State.lateFrame s a1 a2).pending = s.pending ∧
    (State.lateFrame s a1 a2).time = s.time ∧
    (State.lateFrame s a1 a2).tick = s.tick ∧
    (State.lateFrame s a1 a2).free = s.free ∧
    (State.lateFrame s a1 a2).tl = s.tl ∧
    (State.lateFrame s a1 a2).mu = s.mu ∧
    (State.lateFrame s a1 a2).hk = s.hk ∧
    (State.lateFrame s a1 a2).log = s.log ∧
    (State.lateFrame s a1 a2).seqs = s.seqs ∧
    (State.lateFrame s a1 a2).host = s.host ∧
    (State.lateFrame s a1 a2).dict = s.dict ∧
    (State.lateFrame s a1 a2).mclk = s.mclk ∧
    (State.lateFrame s a1 a2).sd = s.sd ∧
    (State.lateFrame s a1 a2).aux = s.aux ∧
    (State.lateFrame s a1 a2).enc = s.enc ∧
    (State.lateFrame s a1 a2).gl = s.gl ∧
    (State.lateFrame s a1 a2).ref = s.ref ∧
    (State.lateFrame s a1 a2).cp = s.cp ∧
    (State.lateFrame s a1 a2).flk = s.flk ∧
    (State.lateFrame s a1 a2).ring = s.ring ∧
    (State.lateFrame s a1 a2).can = s.can ∧
    (State.lateFrame s a1 a2).canPub = s.canPub ∧
    (State.lateFrame s a1 a2).eth = s.eth ∧
    (State.lateFrame s a1 a2).tio = s.tio ∧
    (State.lateFrame s a1 a2).dia = s.dia := by
  have k1 := @State.frame_frame
  have k2 := @State.ite_frame
  unfold State.lateFrame
  simp [k1, k2]

theorem effInterpResult_frame (a0 : Fin 64) (s : State) :
    (effInterpResult a0 s).pending = s.pending ∧
    (effInterpResult a0 s).time = s.time ∧
    (effInterpResult a0 s).tick = s.tick ∧
    (effInterpResult a0 s).free = s.free ∧
    (effInterpResult a0 s).tl = s.tl ∧
    (effInterpResult a0 s).mu = s.mu ∧
    (effInterpResult a0 s).hk = s.hk ∧
    (effInterpResult a0 s).host = s.host ∧
    (effInterpResult a0 s).mclk = s.mclk ∧
    (effInterpResult a0 s).aux = s.aux ∧
    (effInterpResult a0 s).ref = s.ref ∧
    (effInterpResult a0 s).cp = s.cp ∧
    (effInterpResult a0 s).flk = s.flk ∧
    (effInterpResult a0 s).ring = s.ring ∧
    (effInterpResult a0 s).can = s.can ∧
    (effInterpResult a0 s).canPub = s.canPub ∧
    (effInterpResult a0 s).eth = s.eth ∧
    (effInterpResult a0 s).tio = s.tio := by
  have k1 := @State.catchLine_frame
  have k2 := @State.lateFrame_frame
  have k3 := @effSdInterpResult_frame
  unfold effInterpResult
  simp [k1, k2, k3]

theorem State.lockErr_frame (s : State) (a1 : Nat) (a2 : Nat) :
    (State.lockErr s a1 a2).pending = s.pending ∧
    (State.lockErr s a1 a2).time = s.time ∧
    (State.lockErr s a1 a2).tick = s.tick ∧
    (State.lockErr s a1 a2).free = s.free ∧
    (State.lockErr s a1 a2).tl = s.tl ∧
    (State.lockErr s a1 a2).mu = s.mu ∧
    (State.lockErr s a1 a2).hk = s.hk ∧
    (State.lockErr s a1 a2).host = s.host ∧
    (State.lockErr s a1 a2).mclk = s.mclk ∧
    (State.lockErr s a1 a2).sd = s.sd ∧
    (State.lockErr s a1 a2).aux = s.aux ∧
    (State.lockErr s a1 a2).enc = s.enc ∧
    (State.lockErr s a1 a2).eng = s.eng ∧
    (State.lockErr s a1 a2).slices = s.slices ∧
    (State.lockErr s a1 a2).gl = s.gl ∧
    (State.lockErr s a1 a2).ref = s.ref ∧
    (State.lockErr s a1 a2).cp = s.cp ∧
    (State.lockErr s a1 a2).flk = s.flk ∧
    (State.lockErr s a1 a2).ring = s.ring ∧
    (State.lockErr s a1 a2).can = s.can ∧
    (State.lockErr s a1 a2).canPub = s.canPub ∧
    (State.lockErr s a1 a2).eth = s.eth ∧
    (State.lockErr s a1 a2).tio = s.tio := by
  have k1 := @State.post_frame
  unfold State.lockErr
  simp [k1]

theorem State.enableCauses_frame (s : State) (a1 : Nat) :
    (State.enableCauses s a1).pending = s.pending ∧
    (State.enableCauses s a1).time = s.time ∧
    (State.enableCauses s a1).tick = s.tick ∧
    (State.enableCauses s a1).free = s.free ∧
    (State.enableCauses s a1).tl = s.tl ∧
    (State.enableCauses s a1).mu = s.mu ∧
    (State.enableCauses s a1).hk = s.hk ∧
    (State.enableCauses s a1).host = s.host ∧
    (State.enableCauses s a1).mclk = s.mclk ∧
    (State.enableCauses s a1).sd = s.sd ∧
    (State.enableCauses s a1).aux = s.aux ∧
    (State.enableCauses s a1).enc = s.enc ∧
    (State.enableCauses s a1).eng = s.eng ∧
    (State.enableCauses s a1).cp = s.cp ∧
    (State.enableCauses s a1).flk = s.flk ∧
    (State.enableCauses s a1).ring = s.ring ∧
    (State.enableCauses s a1).can = s.can ∧
    (State.enableCauses s a1).canPub = s.canPub ∧
    (State.enableCauses s a1).eth = s.eth ∧
    (State.enableCauses s a1).tio = s.tio := by
  have k1 := @State.degrade_frame
  have k2 := @State.promote_frame
  have k3 := @State.ite_frame
  unfold State.enableCauses
  simp [k1, k2, k3]

theorem State.restartSlots_frame (s : State) (a1 : Nat) :
    (State.restartSlots s a1).pending = s.pending ∧
    (State.restartSlots s a1).time = s.time ∧
    (State.restartSlots s a1).tick = s.tick ∧
    (State.restartSlots s a1).free = s.free ∧
    (State.restartSlots s a1).tl = s.tl ∧
    (State.restartSlots s a1).mu = s.mu ∧
    (State.restartSlots s a1).hk = s.hk ∧
    (State.restartSlots s a1).log = s.log ∧
    (State.restartSlots s a1).seqs = s.seqs ∧
    (State.restartSlots s a1).host = s.host ∧
    (State.restartSlots s a1).dict = s.dict ∧
    (State.restartSlots s a1).mclk = s.mclk ∧
    (State.restartSlots s a1).aux = s.aux ∧
    (State.restartSlots s a1).enc = s.enc ∧
    (State.restartSlots s a1).eng = s.eng ∧
    (State.restartSlots s a1).slices = s.slices ∧
    (State.restartSlots s a1).gl = s.gl ∧
    (State.restartSlots s a1).ref = s.ref ∧
    (State.restartSlots s a1).cp = s.cp ∧
    (State.restartSlots s a1).flk = s.flk ∧
    (State.restartSlots s a1).ring = s.ring ∧
    (State.restartSlots s a1).can = s.can ∧
    (State.restartSlots s a1).canPub = s.canPub ∧
    (State.restartSlots s a1).eth = s.eth ∧
    (State.restartSlots s a1).tio = s.tio ∧
    (State.restartSlots s a1).dia = s.dia := by
  have k1 := @State.ite_frame
  unfold State.restartSlots
  simp [k1]

theorem State.enableSlice_frame (s : State) (a1 : Nat) :
    (State.enableSlice s a1).pending = s.pending ∧
    (State.enableSlice s a1).tick = s.tick ∧
    (State.enableSlice s a1).free = s.free ∧
    (State.enableSlice s a1).mu = s.mu ∧
    (State.enableSlice s a1).hk = s.hk ∧
    (State.enableSlice s a1).mclk = s.mclk ∧
    (State.enableSlice s a1).aux = s.aux ∧
    (State.enableSlice s a1).enc = s.enc ∧
    (State.enableSlice s a1).cp = s.cp ∧
    (State.enableSlice s a1).flk = s.flk ∧
    (State.enableSlice s a1).canPub = s.canPub ∧
    (State.enableSlice s a1).tio = s.tio := by
  have k1 := @State.cancelStep_frame
  have k2 := @State.clampForEnable_frame
  have k3 := @State.enableCauses_frame
  have k4 := @State.primeContexts_frame
  have k5 := @State.restartSlots_frame
  have k6 := @State.tryRelease_frame
  unfold State.enableSlice
  simp [k1, k2, k3, k4, k5, k6]

theorem opDrvEnable_frame (a0 : Pkt) (s : State) :
    (opDrvEnable a0 s).st.pending = s.pending ∧
    (opDrvEnable a0 s).st.tick = s.tick ∧
    (opDrvEnable a0 s).st.free = s.free ∧
    (opDrvEnable a0 s).st.mu = s.mu ∧
    (opDrvEnable a0 s).st.hk = s.hk ∧
    (opDrvEnable a0 s).st.mclk = s.mclk ∧
    (opDrvEnable a0 s).st.aux = s.aux ∧
    (opDrvEnable a0 s).st.enc = s.enc ∧
    (opDrvEnable a0 s).st.cp = s.cp ∧
    (opDrvEnable a0 s).st.flk = s.flk ∧
    (opDrvEnable a0 s).st.canPub = s.canPub ∧
    (opDrvEnable a0 s).st.tio = s.tio := by
  have k1 := @State.enableSlice_frame
  have k2 := @State.fail_frame
  have k3 := @State.lockErr_frame
  have k4 := @State.okay_frame
  have k5 := @State.ite_frame
  unfold opDrvEnable
  dsimp only
  repeat' (first | (simp [k1, k2, k3, k4, k5]; done) | split)

theorem State.clearLockout_frame (s : State) (a1 : Nat) :
    (State.clearLockout s a1).pending = s.pending ∧
    (State.clearLockout s a1).time = s.time ∧
    (State.clearLockout s a1).tick = s.tick ∧
    (State.clearLockout s a1).free = s.free ∧
    (State.clearLockout s a1).tl = s.tl ∧
    (State.clearLockout s a1).mu = s.mu ∧
    (State.clearLockout s a1).hk = s.hk ∧
    (State.clearLockout s a1).log = s.log ∧
    (State.clearLockout s a1).seqs = s.seqs ∧
    (State.clearLockout s a1).host = s.host ∧
    (State.clearLockout s a1).dict = s.dict ∧
    (State.clearLockout s a1).mclk = s.mclk ∧
    (State.clearLockout s a1).sd = s.sd ∧
    (State.clearLockout s a1).aux = s.aux ∧
    (State.clearLockout s a1).enc = s.enc ∧
    (State.clearLockout s a1).eng = s.eng ∧
    (State.clearLockout s a1).gl = s.gl ∧
    (State.clearLockout s a1).ref = s.ref ∧
    (State.clearLockout s a1).cp = s.cp ∧
    (State.clearLockout s a1).flk = s.flk ∧
    (State.clearLockout s a1).ring = s.ring ∧
    (State.clearLockout s a1).can = s.can ∧
    (State.clearLockout s a1).canPub = s.canPub ∧
    (State.clearLockout s a1).eth = s.eth ∧
    (State.clearLockout s a1).tio = s.tio ∧
    (State.clearLockout s a1).dia = s.dia := by
  unfold State.clearLockout
  simp

theorem opDrvDisable_frame (a0 : Pkt) (s : State) :
    (opDrvDisable a0 s).st.pending = s.pending ∧
    (opDrvDisable a0 s).st.time = s.time ∧
    (opDrvDisable a0 s).st.tick = s.tick ∧
    (opDrvDisable a0 s).st.free = s.free ∧
    (opDrvDisable a0 s).st.tl = s.tl ∧
    (opDrvDisable a0 s).st.mu = s.mu ∧
    (opDrvDisable a0 s).st.hk = s.hk ∧
    (opDrvDisable a0 s).st.host = s.host ∧
    (opDrvDisable a0 s).st.mclk = s.mclk ∧
    (opDrvDisable a0 s).st.sd = s.sd ∧
    (opDrvDisable a0 s).st.aux = s.aux ∧
    (opDrvDisable a0 s).st.enc = s.enc ∧
    (opDrvDisable a0 s).st.cp = s.cp ∧
    (opDrvDisable a0 s).st.flk = s.flk ∧
    (opDrvDisable a0 s).st.ring = s.ring ∧
    (opDrvDisable a0 s).st.can = s.can ∧
    (opDrvDisable a0 s).st.canPub = s.canPub ∧
    (opDrvDisable a0 s).st.eth = s.eth ∧
    (opDrvDisable a0 s).st.tio = s.tio := by
  have k1 := @State.clearLockout_frame
  have k2 := @State.fail_frame
  have k3 := @State.okay_frame
  have k4 := @State.toDisabled_frame
  have k5 := @State.tryRelease_frame
  have k6 := @State.ite_frame
  unfold opDrvDisable State.clearLockout
  dsimp only
  repeat' (first | (simp [k1, k2, k3, k4, k5, k6]; done) | split)

theorem State.putSet_frame (s : State) (a1 : Nat) (a2 : Setpoint) :
    (State.putSet s a1 a2).st.pending = s.pending ∧
    (State.putSet s a1 a2).st.time = s.time ∧
    (State.putSet s a1 a2).st.tick = s.tick ∧
    (State.putSet s a1 a2).st.free = s.free ∧
    (State.putSet s a1 a2).st.tl = s.tl ∧
    (State.putSet s a1 a2).st.mu = s.mu ∧
    (State.putSet s a1 a2).st.hk = s.hk ∧
    (State.putSet s a1 a2).st.log = s.log ∧
    (State.putSet s a1 a2).st.seqs = s.seqs ∧
    (State.putSet s a1 a2).st.host = s.host ∧
    (State.putSet s a1 a2).st.dict = s.dict ∧
    (State.putSet s a1 a2).st.mclk = s.mclk ∧
    (State.putSet s a1 a2).st.sd = s.sd ∧
    (State.putSet s a1 a2).st.aux = s.aux ∧
    (State.putSet s a1 a2).st.enc = s.enc ∧
    (State.putSet s a1 a2).st.eng = s.eng ∧
    (State.putSet s a1 a2).st.gl = s.gl ∧
    (State.putSet s a1 a2).st.ref = s.ref ∧
    (State.putSet s a1 a2).st.cp = s.cp ∧
    (State.putSet s a1 a2).st.flk = s.flk ∧
    (State.putSet s a1 a2).st.ring = s.ring ∧
    (State.putSet s a1 a2).st.can = s.can ∧
    (State.putSet s a1 a2).st.canPub = s.canPub ∧
    (State.putSet s a1 a2).st.eth = s.eth ∧
    (State.putSet s a1 a2).st.tio = s.tio ∧
    (State.putSet s a1 a2).st.dia = s.dia := by
  have k1 := @State.accept_frame
  unfold State.putSet
  simp [k1]

theorem opSetSpeed_frame (a0 : Pkt) (s : State) :
    (opSetSpeed a0 s).st.pending = s.pending ∧
    (opSetSpeed a0 s).st.time = s.time ∧
    (opSetSpeed a0 s).st.tick = s.tick ∧
    (opSetSpeed a0 s).st.free = s.free ∧
    (opSetSpeed a0 s).st.tl = s.tl ∧
    (opSetSpeed a0 s).st.mu = s.mu ∧
    (opSetSpeed a0 s).st.hk = s.hk ∧
    (opSetSpeed a0 s).st.log = s.log ∧
    (opSetSpeed a0 s).st.seqs = s.seqs ∧
    (opSetSpeed a0 s).st.host = s.host ∧
    (opSetSpeed a0 s).st.dict = s.dict ∧
    (opSetSpeed a0 s).st.mclk = s.mclk ∧
    (opSetSpeed a0 s).st.sd = s.sd ∧
    (opSetSpeed a0 s).st.aux = s.aux ∧
    (opSetSpeed a0 s).st.enc = s.enc ∧
    (opSetSpeed a0 s).st.eng = s.eng ∧
    (opSetSpeed a0 s).st.gl = s.gl ∧
    (opSetSpeed a0 s).st.ref = s.ref ∧
    (opSetSpeed a0 s).st.cp = s.cp ∧
    (opSetSpeed a0 s).st.flk = s.flk ∧
    (opSetSpeed a0 s).st.ring = s.ring ∧
    (opSetSpeed a0 s).st.can = s.can ∧
    (opSetSpeed a0 s).st.canPub = s.canPub ∧
    (opSetSpeed a0 s).st.eth = s.eth ∧
    (opSetSpeed a0 s).st.tio = s.tio ∧
    (opSetSpeed a0 s).st.dia = s.dia := by
  have k1 := @State.fail_frame
  have k2 := @State.putSet_frame
  have k3 := @State.ite_frame
  unfold opSetSpeed
  dsimp only
  repeat' (first | (simp [k1, k2, k3]; done) | split)

theorem opSetTorque_frame (a0 : Pkt) (s : State) :
    (opSetTorque a0 s).st.pending = s.pending ∧
    (opSetTorque a0 s).st.time = s.time ∧
    (opSetTorque a0 s).st.tick = s.tick ∧
    (opSetTorque a0 s).st.free = s.free ∧
    (opSetTorque a0 s).st.tl = s.tl ∧
    (opSetTorque a0 s).st.mu = s.mu ∧
    (opSetTorque a0 s).st.hk = s.hk ∧
    (opSetTorque a0 s).st.log = s.log ∧
    (opSetTorque a0 s).st.seqs = s.seqs ∧
    (opSetTorque a0 s).st.host = s.host ∧
    (opSetTorque a0 s).st.dict = s.dict ∧
    (opSetTorque a0 s).st.mclk = s.mclk ∧
    (opSetTorque a0 s).st.sd = s.sd ∧
    (opSetTorque a0 s).st.aux = s.aux ∧
    (opSetTorque a0 s).st.enc = s.enc ∧
    (opSetTorque a0 s).st.eng = s.eng ∧
    (opSetTorque a0 s).st.gl = s.gl ∧
    (opSetTorque a0 s).st.ref = s.ref ∧
    (opSetTorque a0 s).st.cp = s.cp ∧
    (opSetTorque a0 s).st.flk = s.flk ∧
    (opSetTorque a0 s).st.ring = s.ring ∧
    (opSetTorque a0 s).st.can = s.can ∧
    (opSetTorque a0 s).st.canPub = s.canPub ∧
    (opSetTorque a0 s).st.eth = s.eth ∧
    (opSetTorque a0 s).st.tio = s.tio ∧
    (opSetTorque a0 s).st.dia = s.dia := by
  have k1 := @State.fail_frame
  have k2 := @State.putSet_frame
  have k3 := @State.ite_frame
  unfold opSetTorque
  dsimp only
  repeat' (first | (simp [k1, k2, k3]; done) | split)

theorem opDrvStop_frame (a0 : Pkt) (s : State) :
    (opDrvStop a0 s).st.pending = s.pending ∧
    (opDrvStop a0 s).st.time = s.time ∧
    (opDrvStop a0 s).st.tick = s.tick ∧
    (opDrvStop a0 s).st.free = s.free ∧
    (opDrvStop a0 s).st.tl = s.tl ∧
    (opDrvStop a0 s).st.mu = s.mu ∧
    (opDrvStop a0 s).st.hk = s.hk ∧
    (opDrvStop a0 s).st.host = s.host ∧
    (opDrvStop a0 s).st.mclk = s.mclk ∧
    (opDrvStop a0 s).st.sd = s.sd ∧
    (opDrvStop a0 s).st.aux = s.aux ∧
    (opDrvStop a0 s).st.enc = s.enc ∧
    (opDrvStop a0 s).st.eng = s.eng ∧
    (opDrvStop a0 s).st.gl = s.gl ∧
    (opDrvStop a0 s).st.ref = s.ref ∧
    (opDrvStop a0 s).st.cp = s.cp ∧
    (opDrvStop a0 s).st.flk = s.flk ∧
    (opDrvStop a0 s).st.ring = s.ring ∧
    (opDrvStop a0 s).st.can = s.can ∧
    (opDrvStop a0 s).st.canPub = s.canPub ∧
    (opDrvStop a0 s).st.eth = s.eth ∧
    (opDrvStop a0 s).st.tio = s.tio := by
  have k1 := @State.fail_frame
  have k2 := @State.okay_frame
  have k3 := @State.post_frame
  have k4 := @State.stop_frame
  have k5 := @State.ite_frame
  unfold opDrvStop
  dsimp only
  repeat' (first | (simp [k1, k2, k3, k4, k5]; done) | split)

theorem opDrvStart_frame (a0 : Pkt) (s : State) :
    (opDrvStart a0 s).st.pending = s.pending ∧
    (opDrvStart a0 s).st.time = s.time ∧
    (opDrvStart a0 s).st.tick = s.tick ∧
    (opDrvStart a0 s).st.free = s.free ∧
    (opDrvStart a0 s).st.tl = s.tl ∧
    (opDrvStart a0 s).st.mu = s.mu ∧
    (opDrvStart a0 s).st.hk = s.hk ∧
    (opDrvStart a0 s).st.host = s.host ∧
    (opDrvStart a0 s).st.mclk = s.mclk ∧
    (opDrvStart a0 s).st.sd = s.sd ∧
    (opDrvStart a0 s).st.aux = s.aux ∧
    (opDrvStart a0 s).st.enc = s.enc ∧
    (opDrvStart a0 s).st.gl = s.gl ∧
    (opDrvStart a0 s).st.ref = s.ref ∧
    (opDrvStart a0 s).st.cp = s.cp ∧
    (opDrvStart a0 s).st.flk = s.flk ∧
    (opDrvStart a0 s).st.ring = s.ring ∧
    (opDrvStart a0 s).st.can = s.can ∧
    (opDrvStart a0 s).st.canPub = s.canPub ∧
    (opDrvStart a0 s).st.eth = s.eth ∧
    (opDrvStart a0 s).st.tio = s.tio := by
  have k1 := @State.accept_frame
  have k2 := @State.fail_frame
  have k3 := @State.rearm_frame
  have k4 := @State.startCatch_frame
  have k5 := @State.ite_frame
  unfold opDrvStart
  dsimp only
  repeat' (first | (simp [k1, k2, k3, k4, k5]; done) | split)

theorem State.watchDischarge_frame (s : State) (a1 : Nat) (a2 : Nat) :
    (State.watchDischarge s a1 a2).pending = s.pending ∧
    (State.watchDischarge s a1 a2).time = s.time ∧
    (State.watchDischarge s a1 a2).tick = s.tick ∧
    (State.watchDischarge s a1 a2).free = s.free ∧
    (State.watchDischarge s a1 a2).tl = s.tl ∧
    (State.watchDischarge s a1 a2).mu = s.mu ∧
    (State.watchDischarge s a1 a2).hk = s.hk ∧
    (State.watchDischarge s a1 a2).log = s.log ∧
    (State.watchDischarge s a1 a2).seqs = s.seqs ∧
    (State.watchDischarge s a1 a2).host = s.host ∧
    (State.watchDischarge s a1 a2).dict = s.dict ∧
    (State.watchDischarge s a1 a2).mclk = s.mclk ∧
    (State.watchDischarge s a1 a2).sd = s.sd ∧
    (State.watchDischarge s a1 a2).aux = s.aux ∧
    (State.watchDischarge s a1 a2).enc = s.enc ∧
    (State.watchDischarge s a1 a2).eng = s.eng ∧
    (State.watchDischarge s a1 a2).slices = s.slices ∧
    (State.watchDischarge s a1 a2).gl = s.gl ∧
    (State.watchDischarge s a1 a2).cp = s.cp ∧
    (State.watchDischarge s a1 a2).flk = s.flk ∧
    (State.watchDischarge s a1 a2).ring = s.ring ∧
    (State.watchDischarge s a1 a2).can = s.can ∧
    (State.watchDischarge s a1 a2).canPub = s.canPub ∧
    (State.watchDischarge s a1 a2).eth = s.eth ∧
    (State.watchDischarge s a1 a2).tio = s.tio ∧
    (State.watchDischarge s a1 a2).dia = s.dia := by
  unfold State.watchDischarge
  simp

theorem State.discharge_frame (s : State) (a1 : Nat) (a2 : Bool) (a3 : Nat) :
    (State.discharge s a1 a2 a3).pending = s.pending ∧
    (State.discharge s a1 a2 a3).time = s.time ∧
    (State.discharge s a1 a2 a3).tick = s.tick ∧
    (State.discharge s a1 a2 a3).free = s.free ∧
    (State.discharge s a1 a2 a3).tl = s.tl ∧
    (State.discharge s a1 a2 a3).mu = s.mu ∧
    (State.discharge s a1 a2 a3).hk = s.hk ∧
    (State.discharge s a1 a2 a3).host = s.host ∧
    (State.discharge s a1 a2 a3).mclk = s.mclk ∧
    (State.discharge s a1 a2 a3).sd = s.sd ∧
    (State.discharge s a1 a2 a3).aux = s.aux ∧
    (State.discharge s a1 a2 a3).enc = s.enc ∧
    (State.discharge s a1 a2 a3).eng = s.eng ∧
    (State.discharge s a1 a2 a3).gl = s.gl ∧
    (State.discharge s a1 a2 a3).cp = s.cp ∧
    (State.discharge s a1 a2 a3).flk = s.flk ∧
    (State.discharge s a1 a2 a3).ring = s.ring ∧
    (State.discharge s a1 a2 a3).can = s.can ∧
    (State.discharge s a1 a2 a3).canPub = s.canPub ∧
    (State.discharge s a1 a2 a3).eth = s.eth ∧
    (State.discharge s a1 a2 a3).tio = s.tio := by
  have k1 := @State.endDischarge_frame
  have k2 := @State.go_frame
  have k3 := @State.setPat_frame
  have k4 := @State.watchDischarge_frame
  have k5 := @State.windingOn_frame
  have k6 := @State.ite_frame
  unfold State.discharge
  simp [k1, k2, k3, k4, k5, k6]

theorem opDischarge_frame (a0 : Pkt) (s : State) :
    (opDischarge a0 s).st.pending = s.pending ∧
    (opDischarge a0 s).st.time = s.time ∧
    (opDischarge a0 s).st.tick = s.tick ∧
    (opDischarge a0 s).st.free = s.free ∧
    (opDischarge a0 s).st.tl = s.tl ∧
    (opDischarge a0 s).st.mu = s.mu ∧
    (opDischarge a0 s).st.hk = s.hk ∧
    (opDischarge a0 s).st.host = s.host ∧
    (opDischarge a0 s).st.mclk = s.mclk ∧
    (opDischarge a0 s).st.sd = s.sd ∧
    (opDischarge a0 s).st.aux = s.aux ∧
    (opDischarge a0 s).st.enc = s.enc ∧
    (opDischarge a0 s).st.eng = s.eng ∧
    (opDischarge a0 s).st.gl = s.gl ∧
    (opDischarge a0 s).st.cp = s.cp ∧
    (opDischarge a0 s).st.flk = s.flk ∧
    (opDischarge a0 s).st.ring = s.ring ∧
    (opDischarge a0 s).st.can = s.can ∧
    (opDischarge a0 s).st.canPub = s.canPub ∧
    (opDischarge a0 s).st.eth = s.eth ∧
    (opDischarge a0 s).st.tio = s.tio := by
  have k1 := @State.accept_frame
  have k2 := @State.discharge_frame
  have k3 := @State.fail_frame
  have k4 := @State.ite_frame
  unfold opDischarge
  dsimp only
  repeat' (first | (simp [k1, k2, k3, k4]; done) | split)

theorem effRecatchDelayExpire_frame (a0 : Fin 6) (s : State) :
    (effRecatchDelayExpire a0 s).pending = s.pending ∧
    (effRecatchDelayExpire a0 s).time = s.time ∧
    (effRecatchDelayExpire a0 s).tick = s.tick ∧
    (effRecatchDelayExpire a0 s).free = s.free ∧
    (effRecatchDelayExpire a0 s).tl = s.tl ∧
    (effRecatchDelayExpire a0 s).mu = s.mu ∧
    (effRecatchDelayExpire a0 s).hk = s.hk ∧
    (effRecatchDelayExpire a0 s).host = s.host ∧
    (effRecatchDelayExpire a0 s).mclk = s.mclk ∧
    (effRecatchDelayExpire a0 s).sd = s.sd ∧
    (effRecatchDelayExpire a0 s).aux = s.aux ∧
    (effRecatchDelayExpire a0 s).enc = s.enc ∧
    (effRecatchDelayExpire a0 s).gl = s.gl ∧
    (effRecatchDelayExpire a0 s).ref = s.ref ∧
    (effRecatchDelayExpire a0 s).cp = s.cp ∧
    (effRecatchDelayExpire a0 s).flk = s.flk ∧
    (effRecatchDelayExpire a0 s).ring = s.ring ∧
    (effRecatchDelayExpire a0 s).can = s.can ∧
    (effRecatchDelayExpire a0 s).canPub = s.canPub ∧
    (effRecatchDelayExpire a0 s).eth = s.eth ∧
    (effRecatchDelayExpire a0 s).tio = s.tio := by
  have k1 := @State.rearm_frame
  have k2 := @State.startCatch_frame
  have k3 := @State.ite_frame
  unfold effRecatchDelayExpire
  dsimp only
  repeat' (first | (simp [k1, k2, k3]; done) | split)

theorem effRecatchWindowExpire_frame (a0 : Fin 6) (s : State) :
    (effRecatchWindowExpire a0 s).pending = s.pending ∧
    (effRecatchWindowExpire a0 s).time = s.time ∧
    (effRecatchWindowExpire a0 s).tick = s.tick ∧
    (effRecatchWindowExpire a0 s).free = s.free ∧
    (effRecatchWindowExpire a0 s).tl = s.tl ∧
    (effRecatchWindowExpire a0 s).mu = s.mu ∧
    (effRecatchWindowExpire a0 s).hk = s.hk ∧
    (effRecatchWindowExpire a0 s).log = s.log ∧
    (effRecatchWindowExpire a0 s).seqs = s.seqs ∧
    (effRecatchWindowExpire a0 s).host = s.host ∧
    (effRecatchWindowExpire a0 s).dict = s.dict ∧
    (effRecatchWindowExpire a0 s).mclk = s.mclk ∧
    (effRecatchWindowExpire a0 s).sd = s.sd ∧
    (effRecatchWindowExpire a0 s).aux = s.aux ∧
    (effRecatchWindowExpire a0 s).enc = s.enc ∧
    (effRecatchWindowExpire a0 s).eng = s.eng ∧
    (effRecatchWindowExpire a0 s).gl = s.gl ∧
    (effRecatchWindowExpire a0 s).ref = s.ref ∧
    (effRecatchWindowExpire a0 s).cp = s.cp ∧
    (effRecatchWindowExpire a0 s).flk = s.flk ∧
    (effRecatchWindowExpire a0 s).ring = s.ring ∧
    (effRecatchWindowExpire a0 s).can = s.can ∧
    (effRecatchWindowExpire a0 s).canPub = s.canPub ∧
    (effRecatchWindowExpire a0 s).eth = s.eth ∧
    (effRecatchWindowExpire a0 s).tio = s.tio ∧
    (effRecatchWindowExpire a0 s).dia = s.dia := by
  have k1 := @State.ite_frame
  unfold effRecatchWindowExpire
  dsimp only
  repeat' (first | (simp [k1]; done) | split)

theorem effSetpointRefresh_frame (s : State) :
    (effSetpointRefresh s).pending = s.pending ∧
    (effSetpointRefresh s).time = s.time ∧
    (effSetpointRefresh s).tick = s.tick ∧
    (effSetpointRefresh s).free = s.free ∧
    (effSetpointRefresh s).tl = s.tl ∧
    (effSetpointRefresh s).mu = s.mu ∧
    (effSetpointRefresh s).hk = s.hk ∧
    (effSetpointRefresh s).log = s.log ∧
    (effSetpointRefresh s).seqs = s.seqs ∧
    (effSetpointRefresh s).host = s.host ∧
    (effSetpointRefresh s).dict = s.dict ∧
    (effSetpointRefresh s).mclk = s.mclk ∧
    (effSetpointRefresh s).sd = s.sd ∧
    (effSetpointRefresh s).aux = s.aux ∧
    (effSetpointRefresh s).enc = s.enc ∧
    (effSetpointRefresh s).eng = s.eng ∧
    (effSetpointRefresh s).gl = s.gl ∧
    (effSetpointRefresh s).ref = s.ref ∧
    (effSetpointRefresh s).cp = s.cp ∧
    (effSetpointRefresh s).flk = s.flk ∧
    (effSetpointRefresh s).ring = s.ring ∧
    (effSetpointRefresh s).can = s.can ∧
    (effSetpointRefresh s).canPub = s.canPub ∧
    (effSetpointRefresh s).eth = s.eth ∧
    (effSetpointRefresh s).tio = s.tio ∧
    (effSetpointRefresh s).dia = s.dia := by
  have k1 := @State.ite_frame
  unfold effSetpointRefresh
  simp [k1]

theorem effSetpointTimeout_frame (a0 : Fin 6) (s : State) :
    (effSetpointTimeout a0 s).pending = s.pending ∧
    (effSetpointTimeout a0 s).time = s.time ∧
    (effSetpointTimeout a0 s).tick = s.tick ∧
    (effSetpointTimeout a0 s).free = s.free ∧
    (effSetpointTimeout a0 s).tl = s.tl ∧
    (effSetpointTimeout a0 s).mu = s.mu ∧
    (effSetpointTimeout a0 s).hk = s.hk ∧
    (effSetpointTimeout a0 s).host = s.host ∧
    (effSetpointTimeout a0 s).mclk = s.mclk ∧
    (effSetpointTimeout a0 s).sd = s.sd ∧
    (effSetpointTimeout a0 s).aux = s.aux ∧
    (effSetpointTimeout a0 s).eng = s.eng ∧
    (effSetpointTimeout a0 s).cp = s.cp ∧
    (effSetpointTimeout a0 s).canPub = s.canPub ∧
    (effSetpointTimeout a0 s).eth = s.eth ∧
    (effSetpointTimeout a0 s).tio = s.tio := by
  have k1 := @State.setRole_frame
  have k2 := @State.stop_frame
  have k3 := @State.ite_frame
  unfold effSetpointTimeout
  simp [k1, k2, k3]

end Sys2Proof.Machine
end

