-- ==== Sys2Proof/Laws/GateLink.lean ====
section
/-!
SUPPORT. What each operation of Machine/GateLink.lean leaves as it was: the parts of State that it cannot change.
-/

namespace Sys2Proof.Machine

open Sys2Proof

theorem State.sendMode_frame (s : State) (a1 : Nat) :
    (State.sendMode s a1).pending = s.pending ∧
    (State.sendMode s a1).time = s.time ∧
    (State.sendMode s a1).tick = s.tick ∧
    (State.sendMode s a1).free = s.free ∧
    (State.sendMode s a1).tl = s.tl ∧
    (State.sendMode s a1).mu = s.mu ∧
    (State.sendMode s a1).hk = s.hk ∧
    (State.sendMode s a1).log = s.log ∧
    (State.sendMode s a1).seqs = s.seqs ∧
    (State.sendMode s a1).host = s.host ∧
    (State.sendMode s a1).dict = s.dict ∧
    (State.sendMode s a1).mclk = s.mclk ∧
    (State.sendMode s a1).sd = s.sd ∧
    (State.sendMode s a1).aux = s.aux ∧
    (State.sendMode s a1).enc = s.enc ∧
    (State.sendMode s a1).eng = s.eng ∧
    (State.sendMode s a1).slices = s.slices ∧
    (State.sendMode s a1).ref = s.ref ∧
    (State.sendMode s a1).cp = s.cp ∧
    (State.sendMode s a1).flk = s.flk ∧
    (State.sendMode s a1).ring = s.ring ∧
    (State.sendMode s a1).can = s.can ∧
    (State.sendMode s a1).canPub = s.canPub ∧
    (State.sendMode s a1).eth = s.eth ∧
    (State.sendMode s a1).tio = s.tio ∧
    (State.sendMode s a1).dia = s.dia := by
  have k1 := @State.glSend_frame
  unfold State.sendMode
  simp [k1]

theorem State.modeChanged_frame (s : State) (a1 : Nat) :
    (State.modeChanged s a1).pending = s.pending ∧
    (State.modeChanged s a1).time = s.time ∧
    (State.modeChanged s a1).tick = s.tick ∧
    (State.modeChanged s a1).free = s.free ∧
    (State.modeChanged s a1).tl = s.tl ∧
    (State.modeChanged s a1).mu = s.mu ∧
    (State.modeChanged s a1).hk = s.hk ∧
    (State.modeChanged s a1).log = s.log ∧
    (State.modeChanged s a1).seqs = s.seqs ∧
    (State.modeChanged s a1).host = s.host ∧
    (State.modeChanged s a1).dict = s.dict ∧
    (State.modeChanged s a1).mclk = s.mclk ∧
    (State.modeChanged s a1).sd = s.sd ∧
    (State.modeChanged s a1).aux = s.aux ∧
    (State.modeChanged s a1).enc = s.enc ∧
    (State.modeChanged s a1).eng = s.eng ∧
    (State.modeChanged s a1).slices = s.slices ∧
    (State.modeChanged s a1).ref = s.ref ∧
    (State.modeChanged s a1).cp = s.cp ∧
    (State.modeChanged s a1).flk = s.flk ∧
    (State.modeChanged s a1).ring = s.ring ∧
    (State.modeChanged s a1).can = s.can ∧
    (State.modeChanged s a1).canPub = s.canPub ∧
    (State.modeChanged s a1).eth = s.eth ∧
    (State.modeChanged s a1).tio = s.tio ∧
    (State.modeChanged s a1).dia = s.dia := by
  unfold State.modeChanged
  simp

theorem State.sendSafe_frame (s : State) (a1 : Nat) :
    (State.sendSafe s a1).pending = s.pending ∧
    (State.sendSafe s a1).time = s.time ∧
    (State.sendSafe s a1).tick = s.tick ∧
    (State.sendSafe s a1).free = s.free ∧
    (State.sendSafe s a1).tl = s.tl ∧
    (State.sendSafe s a1).mu = s.mu ∧
    (State.sendSafe s a1).hk = s.hk ∧
    (State.sendSafe s a1).log = s.log ∧
    (State.sendSafe s a1).seqs = s.seqs ∧
    (State.sendSafe s a1).host = s.host ∧
    (State.sendSafe s a1).dict = s.dict ∧
    (State.sendSafe s a1).mclk = s.mclk ∧
    (State.sendSafe s a1).sd = s.sd ∧
    (State.sendSafe s a1).aux = s.aux ∧
    (State.sendSafe s a1).enc = s.enc ∧
    (State.sendSafe s a1).eng = s.eng ∧
    (State.sendSafe s a1).slices = s.slices ∧
    (State.sendSafe s a1).ref = s.ref ∧
    (State.sendSafe s a1).cp = s.cp ∧
    (State.sendSafe s a1).flk = s.flk ∧
    (State.sendSafe s a1).ring = s.ring ∧
    (State.sendSafe s a1).can = s.can ∧
    (State.sendSafe s a1).canPub = s.canPub ∧
    (State.sendSafe s a1).eth = s.eth ∧
    (State.sendSafe s a1).tio = s.tio ∧
    (State.sendSafe s a1).dia = s.dia := by
  have k1 := @State.glSend_frame
  have k2 := @State.ite_frame
  unfold State.sendSafe
  repeat' (first | (simp [k1, k2]; done) | split)

theorem effGlSyncSend_frame (a0 : Fin 24) (s : State) :
    (effGlSyncSend a0 s).pending = s.pending ∧
    (effGlSyncSend a0 s).time = s.time ∧
    (effGlSyncSend a0 s).tick = s.tick ∧
    (effGlSyncSend a0 s).free = s.free ∧
    (effGlSyncSend a0 s).tl = s.tl ∧
    (effGlSyncSend a0 s).mu = s.mu ∧
    (effGlSyncSend a0 s).hk = s.hk ∧
    (effGlSyncSend a0 s).host = s.host ∧
    (effGlSyncSend a0 s).mclk = s.mclk ∧
    (effGlSyncSend a0 s).sd = s.sd ∧
    (effGlSyncSend a0 s).aux = s.aux ∧
    (effGlSyncSend a0 s).eng = s.eng ∧
    (effGlSyncSend a0 s).slices = s.slices ∧
    (effGlSyncSend a0 s).cp = s.cp ∧
    (effGlSyncSend a0 s).canPub = s.canPub ∧
    (effGlSyncSend a0 s).eth = s.eth ∧
    (effGlSyncSend a0 s).tio = s.tio := by
  have k1 := @State.glSend_frame
  have k2 := @State.handoverNow_frame
  have k3 := @State.modeChanged_frame
  have k4 := @State.sendMode_frame
  have k5 := @State.sendSafe_frame
  have k6 := @State.ite_frame
  unfold effGlSyncSend
  simp [k1, k2, k3, k4, k5, k6]

theorem effGlModeSend_frame (a0 : Fin 24) (s : State) :
    (effGlModeSend a0 s).pending = s.pending ∧
    (effGlModeSend a0 s).time = s.time ∧
    (effGlModeSend a0 s).tick = s.tick ∧
    (effGlModeSend a0 s).free = s.free ∧
    (effGlModeSend a0 s).tl = s.tl ∧
    (effGlModeSend a0 s).mu = s.mu ∧
    (effGlModeSend a0 s).hk = s.hk ∧
    (effGlModeSend a0 s).log = s.log ∧
    (effGlModeSend a0 s).seqs = s.seqs ∧
    (effGlModeSend a0 s).host = s.host ∧
    (effGlModeSend a0 s).dict = s.dict ∧
    (effGlModeSend a0 s).mclk = s.mclk ∧
    (effGlModeSend a0 s).sd = s.sd ∧
    (effGlModeSend a0 s).aux = s.aux ∧
    (effGlModeSend a0 s).enc = s.enc ∧
    (effGlModeSend a0 s).eng = s.eng ∧
    (effGlModeSend a0 s).slices = s.slices ∧
    (effGlModeSend a0 s).ref = s.ref ∧
    (effGlModeSend a0 s).cp = s.cp ∧
    (effGlModeSend a0 s).flk = s.flk ∧
    (effGlModeSend a0 s).ring = s.ring ∧
    (effGlModeSend a0 s).can = s.can ∧
    (effGlModeSend a0 s).canPub = s.canPub ∧
    (effGlModeSend a0 s).eth = s.eth ∧
    (effGlModeSend a0 s).tio = s.tio ∧
    (effGlModeSend a0 s).dia = s.dia := by
  have k1 := @State.sendMode_frame
  have k2 := @State.ite_frame
  unfold effGlModeSend
  simp [k1, k2]

theorem State.crcErr_frame (s : State) (a1 : Nat) :
    (State.crcErr s a1).pending = s.pending ∧
    (State.crcErr s a1).time = s.time ∧
    (State.crcErr s a1).tick = s.tick ∧
    (State.crcErr s a1).free = s.free ∧
    (State.crcErr s a1).tl = s.tl ∧
    (State.crcErr s a1).mu = s.mu ∧
    (State.crcErr s a1).hk = s.hk ∧
    (State.crcErr s a1).log = s.log ∧
    (State.crcErr s a1).seqs = s.seqs ∧
    (State.crcErr s a1).host = s.host ∧
    (State.crcErr s a1).mclk = s.mclk ∧
    (State.crcErr s a1).sd = s.sd ∧
    (State.crcErr s a1).aux = s.aux ∧
    (State.crcErr s a1).enc = s.enc ∧
    (State.crcErr s a1).eng = s.eng ∧
    (State.crcErr s a1).slices = s.slices ∧
    (State.crcErr s a1).gl = s.gl ∧
    (State.crcErr s a1).ref = s.ref ∧
    (State.crcErr s a1).cp = s.cp ∧
    (State.crcErr s a1).flk = s.flk ∧
    (State.crcErr s a1).ring = s.ring ∧
    (State.crcErr s a1).can = s.can ∧
    (State.crcErr s a1).canPub = s.canPub ∧
    (State.crcErr s a1).eth = s.eth ∧
    (State.crcErr s a1).tio = s.tio ∧
    (State.crcErr s a1).dia = s.dia := by
  unfold State.crcErr
  simp

theorem State.noteGap_frame (s : State) (a1 : Nat) :
    (State.noteGap s a1).pending = s.pending ∧
    (State.noteGap s a1).time = s.time ∧
    (State.noteGap s a1).tick = s.tick ∧
    (State.noteGap s a1).free = s.free ∧
    (State.noteGap s a1).tl = s.tl ∧
    (State.noteGap s a1).mu = s.mu ∧
    (State.noteGap s a1).hk = s.hk ∧
    (State.noteGap s a1).log = s.log ∧
    (State.noteGap s a1).seqs = s.seqs ∧
    (State.noteGap s a1).host = s.host ∧
    (State.noteGap s a1).mclk = s.mclk ∧
    (State.noteGap s a1).sd = s.sd ∧
    (State.noteGap s a1).aux = s.aux ∧
    (State.noteGap s a1).enc = s.enc ∧
    (State.noteGap s a1).eng = s.eng ∧
    (State.noteGap s a1).slices = s.slices ∧
    (State.noteGap s a1).gl = s.gl ∧
    (State.noteGap s a1).ref = s.ref ∧
    (State.noteGap s a1).cp = s.cp ∧
    (State.noteGap s a1).flk = s.flk ∧
    (State.noteGap s a1).ring = s.ring ∧
    (State.noteGap s a1).can = s.can ∧
    (State.noteGap s a1).canPub = s.canPub ∧
    (State.noteGap s a1).eth = s.eth ∧
    (State.noteGap s a1).tio = s.tio ∧
    (State.noteGap s a1).dia = s.dia := by
  have k1 := @State.ite_frame
  unfold State.noteGap
  simp [k1]

theorem State.autoHandover_frame (s : State) :
    (State.autoHandover s).pending = s.pending ∧
    (State.autoHandover s).time = s.time ∧
    (State.autoHandover s).tick = s.tick ∧
    (State.autoHandover s).free = s.free ∧
    (State.autoHandover s).tl = s.tl ∧
    (State.autoHandover s).mu = s.mu ∧
    (State.autoHandover s).hk = s.hk ∧
    (State.autoHandover s).log = s.log ∧
    (State.autoHandover s).host = s.host ∧
    (State.autoHandover s).mclk = s.mclk ∧
    (State.autoHandover s).sd = s.sd ∧
    (State.autoHandover s).aux = s.aux ∧
    (State.autoHandover s).enc = s.enc ∧
    (State.autoHandover s).eng = s.eng ∧
    (State.autoHandover s).slices = s.slices ∧
    (State.autoHandover s).gl = s.gl ∧
    (State.autoHandover s).ref = s.ref ∧
    (State.autoHandover s).cp = s.cp ∧
    (State.autoHandover s).can = s.can ∧
    (State.autoHandover s).canPub = s.canPub ∧
    (State.autoHandover s).eth = s.eth ∧
    (State.autoHandover s).tio = s.tio := by
  have k1 := @State.mirrorPut_frame
  have k2 := @State.ite_frame
  unfold State.autoHandover
  simp [k1, k2]

theorem State.flaskStatus_frame (s : State) (a1 : Nat) (a2 : Nat) :
    (State.flaskStatus s a1 a2).pending = s.pending ∧
    (State.flaskStatus s a1 a2).time = s.time ∧
    (State.flaskStatus s a1 a2).tick = s.tick ∧
    (State.flaskStatus s a1 a2).free = s.free ∧
    (State.flaskStatus s a1 a2).tl = s.tl ∧
    (State.flaskStatus s a1 a2).mu = s.mu ∧
    (State.flaskStatus s a1 a2).hk = s.hk ∧
    (State.flaskStatus s a1 a2).host = s.host ∧
    (State.flaskStatus s a1 a2).mclk = s.mclk ∧
    (State.flaskStatus s a1 a2).sd = s.sd ∧
    (State.flaskStatus s a1 a2).aux = s.aux ∧
    (State.flaskStatus s a1 a2).eng = s.eng ∧
    (State.flaskStatus s a1 a2).slices = s.slices ∧
    (State.flaskStatus s a1 a2).cp = s.cp ∧
    (State.flaskStatus s a1 a2).canPub = s.canPub ∧
    (State.flaskStatus s a1 a2).eth = s.eth ∧
    (State.flaskStatus s a1 a2).tio = s.tio := by
  have k1 := @State.autoHandover_frame
  have k2 := @State.demote_frame
  have k3 := @State.post_frame
  have k4 := @State.tryPromote_frame
  have k5 := @State.ite_frame
  unfold State.flaskStatus
  dsimp only
  repeat' (first | (simp [k1, k2, k3, k4, k5]; done) | split)

theorem State.claimCheck_frame (s : State) (a1 : Nat) (a2 : Nat) :
    (State.claimCheck s a1 a2).pending = s.pending ∧
    (State.claimCheck s a1 a2).time = s.time ∧
    (State.claimCheck s a1 a2).tick = s.tick ∧
    (State.claimCheck s a1 a2).free = s.free ∧
    (State.claimCheck s a1 a2).tl = s.tl ∧
    (State.claimCheck s a1 a2).mu = s.mu ∧
    (State.claimCheck s a1 a2).hk = s.hk ∧
    (State.claimCheck s a1 a2).host = s.host ∧
    (State.claimCheck s a1 a2).mclk = s.mclk ∧
    (State.claimCheck s a1 a2).sd = s.sd ∧
    (State.claimCheck s a1 a2).aux = s.aux ∧
    (State.claimCheck s a1 a2).enc = s.enc ∧
    (State.claimCheck s a1 a2).eng = s.eng ∧
    (State.claimCheck s a1 a2).ref = s.ref ∧
    (State.claimCheck s a1 a2).cp = s.cp ∧
    (State.claimCheck s a1 a2).ring = s.ring ∧
    (State.claimCheck s a1 a2).can = s.can ∧
    (State.claimCheck s a1 a2).canPub = s.canPub ∧
    (State.claimCheck s a1 a2).eth = s.eth ∧
    (State.claimCheck s a1 a2).tio = s.tio := by
  have k1 := @State.linkFault_frame
  have k2 := @State.ite_frame
  unfold State.claimCheck
  simp [k1, k2]

theorem State.statusFaults_frame (s : State) (a1 : Nat) (a2 : Nat) :
    (State.statusFaults s a1 a2).pending = s.pending ∧
    (State.statusFaults s a1 a2).time = s.time ∧
    (State.statusFaults s a1 a2).tick = s.tick ∧
    (State.statusFaults s a1 a2).free = s.free ∧
    (State.statusFaults s a1 a2).tl = s.tl ∧
    (State.statusFaults s a1 a2).mu = s.mu ∧
    (State.statusFaults s a1 a2).hk = s.hk ∧
    (State.statusFaults s a1 a2).host = s.host ∧
    (State.statusFaults s a1 a2).mclk = s.mclk ∧
    (State.statusFaults s a1 a2).sd = s.sd ∧
    (State.statusFaults s a1 a2).aux = s.aux ∧
    (State.statusFaults s a1 a2).enc = s.enc ∧
    (State.statusFaults s a1 a2).eng = s.eng ∧
    (State.statusFaults s a1 a2).ref = s.ref ∧
    (State.statusFaults s a1 a2).cp = s.cp ∧
    (State.statusFaults s a1 a2).ring = s.ring ∧
    (State.statusFaults s a1 a2).can = s.can ∧
    (State.statusFaults s a1 a2).canPub = s.canPub ∧
    (State.statusFaults s a1 a2).eth = s.eth ∧
    (State.statusFaults s a1 a2).tio = s.tio := by
  have k1 := @State.linkFault_frame
  have k2 := @State.ite_frame
  unfold State.statusFaults
  simp [k1, k2]

theorem effGlStatusRx_frame (a0 : Fin 24) (a1 : BitVec 64) (a2 : Byte) (s : State) :
    (effGlStatusRx a0 a1 a2 s).pending = s.pending ∧
    (effGlStatusRx a0 a1 a2 s).time = s.time ∧
    (effGlStatusRx a0 a1 a2 s).tick = s.tick ∧
    (effGlStatusRx a0 a1 a2 s).free = s.free ∧
    (effGlStatusRx a0 a1 a2 s).tl = s.tl ∧
    (effGlStatusRx a0 a1 a2 s).mu = s.mu ∧
    (effGlStatusRx a0 a1 a2 s).hk = s.hk ∧
    (effGlStatusRx a0 a1 a2 s).host = s.host ∧
    (effGlStatusRx a0 a1 a2 s).mclk = s.mclk ∧
    (effGlStatusRx a0 a1 a2 s).sd = s.sd ∧
    (effGlStatusRx a0 a1 a2 s).aux = s.aux ∧
    (effGlStatusRx a0 a1 a2 s).eng = s.eng ∧
    (effGlStatusRx a0 a1 a2 s).cp = s.cp ∧
    (effGlStatusRx a0 a1 a2 s).canPub = s.canPub ∧
    (effGlStatusRx a0 a1 a2 s).eth = s.eth ∧
    (effGlStatusRx a0 a1 a2 s).tio = s.tio := by
  have k1 := @State.claimCheck_frame
  have k2 := @State.crcErr_frame
  have k3 := @State.flaskStatus_frame
  have k4 := @State.noteGap_frame
  have k5 := @State.statusFaults_frame
  have k6 := @State.ite_frame
  unfold effGlStatusRx
  simp [k1, k2, k3, k4, k5, k6]

theorem effGlStatusTimeout_frame (a0 : Fin 24) (s : State) :
    (effGlStatusTimeout a0 s).pending = s.pending ∧
    (effGlStatusTimeout a0 s).time = s.time ∧
    (effGlStatusTimeout a0 s).tick = s.tick ∧
    (effGlStatusTimeout a0 s).free = s.free ∧
    (effGlStatusTimeout a0 s).tl = s.tl ∧
    (effGlStatusTimeout a0 s).mu = s.mu ∧
    (effGlStatusTimeout a0 s).hk = s.hk ∧
    (effGlStatusTimeout a0 s).host = s.host ∧
    (effGlStatusTimeout a0 s).mclk = s.mclk ∧
    (effGlStatusTimeout a0 s).sd = s.sd ∧
    (effGlStatusTimeout a0 s).aux = s.aux ∧
    (effGlStatusTimeout a0 s).enc = s.enc ∧
    (effGlStatusTimeout a0 s).eng = s.eng ∧
    (effGlStatusTimeout a0 s).ref = s.ref ∧
    (effGlStatusTimeout a0 s).cp = s.cp ∧
    (effGlStatusTimeout a0 s).ring = s.ring ∧
    (effGlStatusTimeout a0 s).can = s.can ∧
    (effGlStatusTimeout a0 s).canPub = s.canPub ∧
    (effGlStatusTimeout a0 s).eth = s.eth ∧
    (effGlStatusTimeout a0 s).tio = s.tio := by
  have k1 := @State.linkFault_frame
  have k2 := @State.ite_frame
  unfold effGlStatusTimeout
  dsimp only
  repeat' (first | (simp [k1, k2]; done) | split)

theorem State.echoJudge_frame (s : State) (a1 : Nat) (a2 : Bool) :
    (State.echoJudge s a1 a2).pending = s.pending ∧
    (State.echoJudge s a1 a2).time = s.time ∧
    (State.echoJudge s a1 a2).tick = s.tick ∧
    (State.echoJudge s a1 a2).free = s.free ∧
    (State.echoJudge s a1 a2).tl = s.tl ∧
    (State.echoJudge s a1 a2).mu = s.mu ∧
    (State.echoJudge s a1 a2).hk = s.hk ∧
    (State.echoJudge s a1 a2).host = s.host ∧
    (State.echoJudge s a1 a2).mclk = s.mclk ∧
    (State.echoJudge s a1 a2).sd = s.sd ∧
    (State.echoJudge s a1 a2).aux = s.aux ∧
    (State.echoJudge s a1 a2).enc = s.enc ∧
    (State.echoJudge s a1 a2).eng = s.eng ∧
    (State.echoJudge s a1 a2).ref = s.ref ∧
    (State.echoJudge s a1 a2).cp = s.cp ∧
    (State.echoJudge s a1 a2).ring = s.ring ∧
    (State.echoJudge s a1 a2).can = s.can ∧
    (State.echoJudge s a1 a2).canPub = s.canPub ∧
    (State.echoJudge s a1 a2).eth = s.eth ∧
    (State.echoJudge s a1 a2).tio = s.tio := by
  have k1 := @State.linkFault_frame
  have k2 := @State.ite_frame
  unfold State.echoJudge
  simp [k1, k2]

theorem State.stepJudge_frame (s : State) (a1 : Nat) (a2 : Bool) :
    (State.stepJudge s a1 a2).pending = s.pending ∧
    (State.stepJudge s a1 a2).time = s.time ∧
    (State.stepJudge s a1 a2).tick = s.tick ∧
    (State.stepJudge s a1 a2).free = s.free ∧
    (State.stepJudge s a1 a2).tl = s.tl ∧
    (State.stepJudge s a1 a2).mu = s.mu ∧
    (State.stepJudge s a1 a2).hk = s.hk ∧
    (State.stepJudge s a1 a2).log = s.log ∧
    (State.stepJudge s a1 a2).seqs = s.seqs ∧
    (State.stepJudge s a1 a2).host = s.host ∧
    (State.stepJudge s a1 a2).mclk = s.mclk ∧
    (State.stepJudge s a1 a2).sd = s.sd ∧
    (State.stepJudge s a1 a2).aux = s.aux ∧
    (State.stepJudge s a1 a2).enc = s.enc ∧
    (State.stepJudge s a1 a2).eng = s.eng ∧
    (State.stepJudge s a1 a2).slices = s.slices ∧
    (State.stepJudge s a1 a2).ref = s.ref ∧
    (State.stepJudge s a1 a2).cp = s.cp ∧
    (State.stepJudge s a1 a2).ring = s.ring ∧
    (State.stepJudge s a1 a2).can = s.can ∧
    (State.stepJudge s a1 a2).canPub = s.canPub ∧
    (State.stepJudge s a1 a2).eth = s.eth ∧
    (State.stepJudge s a1 a2).tio = s.tio ∧
    (State.stepJudge s a1 a2).dia = s.dia := by
  have k1 := @State.ite_frame
  unfold State.stepJudge
  simp [k1]

theorem State.judge_frame (s : State) (a1 : Nat) (a2 : Bool) :
    (State.judge s a1 a2).pending = s.pending ∧
    (State.judge s a1 a2).time = s.time ∧
    (State.judge s a1 a2).tick = s.tick ∧
    (State.judge s a1 a2).free = s.free ∧
    (State.judge s a1 a2).tl = s.tl ∧
    (State.judge s a1 a2).mu = s.mu ∧
    (State.judge s a1 a2).hk = s.hk ∧
    (State.judge s a1 a2).host = s.host ∧
    (State.judge s a1 a2).mclk = s.mclk ∧
    (State.judge s a1 a2).sd = s.sd ∧
    (State.judge s a1 a2).aux = s.aux ∧
    (State.judge s a1 a2).enc = s.enc ∧
    (State.judge s a1 a2).eng = s.eng ∧
    (State.judge s a1 a2).ref = s.ref ∧
    (State.judge s a1 a2).cp = s.cp ∧
    (State.judge s a1 a2).ring = s.ring ∧
    (State.judge s a1 a2).can = s.can ∧
    (State.judge s a1 a2).canPub = s.canPub ∧
    (State.judge s a1 a2).eth = s.eth ∧
    (State.judge s a1 a2).tio = s.tio := by
  have k1 := @State.echoJudge_frame
  have k2 := @State.stepJudge_frame
  have k3 := @State.ite_frame
  unfold State.judge
  simp [k1, k2, k3]

theorem effGlExecRx_frame (a0 : Fin 24) (a1 : BitVec 64) (a2 : Byte) (s : State) :
    (effGlExecRx a0 a1 a2 s).pending = s.pending ∧
    (effGlExecRx a0 a1 a2 s).time = s.time ∧
    (effGlExecRx a0 a1 a2 s).tick = s.tick ∧
    (effGlExecRx a0 a1 a2 s).free = s.free ∧
    (effGlExecRx a0 a1 a2 s).tl = s.tl ∧
    (effGlExecRx a0 a1 a2 s).mu = s.mu ∧
    (effGlExecRx a0 a1 a2 s).hk = s.hk ∧
    (effGlExecRx a0 a1 a2 s).host = s.host ∧
    (effGlExecRx a0 a1 a2 s).mclk = s.mclk ∧
    (effGlExecRx a0 a1 a2 s).sd = s.sd ∧
    (effGlExecRx a0 a1 a2 s).aux = s.aux ∧
    (effGlExecRx a0 a1 a2 s).enc = s.enc ∧
    (effGlExecRx a0 a1 a2 s).eng = s.eng ∧
    (effGlExecRx a0 a1 a2 s).ref = s.ref ∧
    (effGlExecRx a0 a1 a2 s).cp = s.cp ∧
    (effGlExecRx a0 a1 a2 s).ring = s.ring ∧
    (effGlExecRx a0 a1 a2 s).can = s.can ∧
    (effGlExecRx a0 a1 a2 s).canPub = s.canPub ∧
    (effGlExecRx a0 a1 a2 s).eth = s.eth ∧
    (effGlExecRx a0 a1 a2 s).tio = s.tio := by
  have k1 := @State.crcErr_frame
  have k2 := @State.judge_frame
  have k3 := @State.record_frame
  have k4 := @State.ite_frame
  unfold effGlExecRx
  simp [k1, k2, k3, k4]

theorem State.echoMissing_frame (s : State) (a1 : Nat) (a2 : Edge) :
    (State.echoMissing s a1 a2).pending = s.pending ∧
    (State.echoMissing s a1 a2).time = s.time ∧
    (State.echoMissing s a1 a2).tick = s.tick ∧
    (State.echoMissing s a1 a2).free = s.free ∧
    (State.echoMissing s a1 a2).tl = s.tl ∧
    (State.echoMissing s a1 a2).mu = s.mu ∧
    (State.echoMissing s a1 a2).hk = s.hk ∧
    (State.echoMissing s a1 a2).host = s.host ∧
    (State.echoMissing s a1 a2).mclk = s.mclk ∧
    (State.echoMissing s a1 a2).sd = s.sd ∧
    (State.echoMissing s a1 a2).aux = s.aux ∧
    (State.echoMissing s a1 a2).enc = s.enc ∧
    (State.echoMissing s a1 a2).eng = s.eng ∧
    (State.echoMissing s a1 a2).ref = s.ref ∧
    (State.echoMissing s a1 a2).cp = s.cp ∧
    (State.echoMissing s a1 a2).ring = s.ring ∧
    (State.echoMissing s a1 a2).can = s.can ∧
    (State.echoMissing s a1 a2).canPub = s.canPub ∧
    (State.echoMissing s a1 a2).eth = s.eth ∧
    (State.echoMissing s a1 a2).tio = s.tio := by
  have k1 := @State.judge_frame
  have k2 := @State.record_frame
  have k3 := @State.ite_frame
  unfold State.echoMissing
  simp [k1, k2, k3]

theorem effGlEchoTimeout_frame (a0 : Fin 24) (s : State) :
    (effGlEchoTimeout a0 s).pending = s.pending ∧
    (effGlEchoTimeout a0 s).time = s.time ∧
    (effGlEchoTimeout a0 s).tick = s.tick ∧
    (effGlEchoTimeout a0 s).free = s.free ∧
    (effGlEchoTimeout a0 s).tl = s.tl ∧
    (effGlEchoTimeout a0 s).mu = s.mu ∧
    (effGlEchoTimeout a0 s).hk = s.hk ∧
    (effGlEchoTimeout a0 s).host = s.host ∧
    (effGlEchoTimeout a0 s).mclk = s.mclk ∧
    (effGlEchoTimeout a0 s).sd = s.sd ∧
    (effGlEchoTimeout a0 s).aux = s.aux ∧
    (effGlEchoTimeout a0 s).enc = s.enc ∧
    (effGlEchoTimeout a0 s).eng = s.eng ∧
    (effGlEchoTimeout a0 s).ref = s.ref ∧
    (effGlEchoTimeout a0 s).cp = s.cp ∧
    (effGlEchoTimeout a0 s).ring = s.ring ∧
    (effGlEchoTimeout a0 s).can = s.can ∧
    (effGlEchoTimeout a0 s).canPub = s.canPub ∧
    (effGlEchoTimeout a0 s).eth = s.eth ∧
    (effGlEchoTimeout a0 s).tio = s.tio := by
  have k1 := @State.echoMissing_frame
  have k2 := @State.ite_frame
  unfold effGlEchoTimeout
  simp [k1, k2]

theorem State.linkReinit_frame (s : State) (a1 : Nat) :
    (State.linkReinit s a1).pending = s.pending ∧
    (State.linkReinit s a1).time = s.time ∧
    (State.linkReinit s a1).tick = s.tick ∧
    (State.linkReinit s a1).free = s.free ∧
    (State.linkReinit s a1).tl = s.tl ∧
    (State.linkReinit s a1).mu = s.mu ∧
    (State.linkReinit s a1).hk = s.hk ∧
    (State.linkReinit s a1).log = s.log ∧
    (State.linkReinit s a1).seqs = s.seqs ∧
    (State.linkReinit s a1).host = s.host ∧
    (State.linkReinit s a1).mclk = s.mclk ∧
    (State.linkReinit s a1).sd = s.sd ∧
    (State.linkReinit s a1).aux = s.aux ∧
    (State.linkReinit s a1).enc = s.enc ∧
    (State.linkReinit s a1).eng = s.eng ∧
    (State.linkReinit s a1).slices = s.slices ∧
    (State.linkReinit s a1).ref = s.ref ∧
    (State.linkReinit s a1).cp = s.cp ∧
    (State.linkReinit s a1).flk = s.flk ∧
    (State.linkReinit s a1).ring = s.ring ∧
    (State.linkReinit s a1).can = s.can ∧
    (State.linkReinit s a1).canPub = s.canPub ∧
    (State.linkReinit s a1).eth = s.eth ∧
    (State.linkReinit s a1).tio = s.tio ∧
    (State.linkReinit s a1).dia = s.dia := by
  have k1 := @State.linkRefresh_frame
  have k2 := @State.modeChanged_frame
  unfold State.linkReinit
  simp [k1, k2]

end Sys2Proof.Machine
end

