-- ==== Sys2Proof/Laws/Objects.lean ====
section
/-!
SUPPORT. What each operation of Machine/Objects.lean leaves as it was: the parts of State that it cannot change.
-/

namespace Sys2Proof.Machine

open Sys2Proof

theorem State.refused_frame (s : State) (a1 : ObjRec) :
    (State.refused s a1).pending = s.pending ∧
    (State.refused s a1).time = s.time ∧
    (State.refused s a1).tick = s.tick ∧
    (State.refused s a1).free = s.free ∧
    (State.refused s a1).tl = s.tl ∧
    (State.refused s a1).mu = s.mu ∧
    (State.refused s a1).hk = s.hk ∧
    (State.refused s a1).host = s.host ∧
    (State.refused s a1).mclk = s.mclk ∧
    (State.refused s a1).sd = s.sd ∧
    (State.refused s a1).aux = s.aux ∧
    (State.refused s a1).enc = s.enc ∧
    (State.refused s a1).eng = s.eng ∧
    (State.refused s a1).slices = s.slices ∧
    (State.refused s a1).gl = s.gl ∧
    (State.refused s a1).ref = s.ref ∧
    (State.refused s a1).cp = s.cp ∧
    (State.refused s a1).flk = s.flk ∧
    (State.refused s a1).ring = s.ring ∧
    (State.refused s a1).can = s.can ∧
    (State.refused s a1).canPub = s.canPub ∧
    (State.refused s a1).eth = s.eth ∧
    (State.refused s a1).tio = s.tio := by
  have k1 := @State.lockErr_frame
  have k2 := @State.ite_frame
  unfold State.refused
  dsimp only
  repeat' (first | (simp [k1, k2]; done) | split)

theorem State.slotWritten_frame (s : State) (a1 : Nat) (a2 : Nat) :
    (State.slotWritten s a1 a2).pending = s.pending ∧
    (State.slotWritten s a1 a2).time = s.time ∧
    (State.slotWritten s a1 a2).tick = s.tick ∧
    (State.slotWritten s a1 a2).free = s.free ∧
    (State.slotWritten s a1 a2).tl = s.tl ∧
    (State.slotWritten s a1 a2).mu = s.mu ∧
    (State.slotWritten s a1 a2).hk = s.hk ∧
    (State.slotWritten s a1 a2).log = s.log ∧
    (State.slotWritten s a1 a2).seqs = s.seqs ∧
    (State.slotWritten s a1 a2).host = s.host ∧
    (State.slotWritten s a1 a2).dict = s.dict ∧
    (State.slotWritten s a1 a2).mclk = s.mclk ∧
    (State.slotWritten s a1 a2).aux = s.aux ∧
    (State.slotWritten s a1 a2).enc = s.enc ∧
    (State.slotWritten s a1 a2).eng = s.eng ∧
    (State.slotWritten s a1 a2).gl = s.gl ∧
    (State.slotWritten s a1 a2).ref = s.ref ∧
    (State.slotWritten s a1 a2).cp = s.cp ∧
    (State.slotWritten s a1 a2).flk = s.flk ∧
    (State.slotWritten s a1 a2).ring = s.ring ∧
    (State.slotWritten s a1 a2).can = s.can ∧
    (State.slotWritten s a1 a2).canPub = s.canPub ∧
    (State.slotWritten s a1 a2).eth = s.eth ∧
    (State.slotWritten s a1 a2).tio = s.tio ∧
    (State.slotWritten s a1 a2).dia = s.dia := by
  have k1 := @State.freshSd_frame
  have k2 := @State.ite_frame
  unfold State.slotWritten
  simp [k1, k2]

theorem State.moveLc_frame (s : State) (a1 : Nat) :
    (State.moveLc s a1).pending = s.pending ∧
    (State.moveLc s a1).time = s.time ∧
    (State.moveLc s a1).tick = s.tick ∧
    (State.moveLc s a1).free = s.free ∧
    (State.moveLc s a1).tl = s.tl ∧
    (State.moveLc s a1).hk = s.hk ∧
    (State.moveLc s a1).host = s.host ∧
    (State.moveLc s a1).mclk = s.mclk ∧
    (State.moveLc s a1).sd = s.sd ∧
    (State.moveLc s a1).aux = s.aux ∧
    (State.moveLc s a1).enc = s.enc ∧
    (State.moveLc s a1).eng = s.eng ∧
    (State.moveLc s a1).slices = s.slices ∧
    (State.moveLc s a1).gl = s.gl ∧
    (State.moveLc s a1).cp = s.cp ∧
    (State.moveLc s a1).flk = s.flk ∧
    (State.moveLc s a1).ring = s.ring ∧
    (State.moveLc s a1).can = s.can ∧
    (State.moveLc s a1).canPub = s.canPub ∧
    (State.moveLc s a1).eth = s.eth ∧
    (State.moveLc s a1).tio = s.tio := by
  have k1 := @State.post_frame
  have k2 := @State.ite_frame
  unfold State.moveLc
  simp [k1, k2]

theorem State.holdOld_frame (s : State) (a1 : Nat) (a2 : Nat) (a3 : Nat) :
    (State.holdOld s a1 a2 a3).pending = s.pending ∧
    (State.holdOld s a1 a2 a3).time = s.time ∧
    (State.holdOld s a1 a2 a3).tick = s.tick ∧
    (State.holdOld s a1 a2 a3).free = s.free ∧
    (State.holdOld s a1 a2 a3).tl = s.tl ∧
    (State.holdOld s a1 a2 a3).mu = s.mu ∧
    (State.holdOld s a1 a2 a3).hk = s.hk ∧
    (State.holdOld s a1 a2 a3).log = s.log ∧
    (State.holdOld s a1 a2 a3).seqs = s.seqs ∧
    (State.holdOld s a1 a2 a3).host = s.host ∧
    (State.holdOld s a1 a2 a3).dict = s.dict ∧
    (State.holdOld s a1 a2 a3).mclk = s.mclk ∧
    (State.holdOld s a1 a2 a3).sd = s.sd ∧
    (State.holdOld s a1 a2 a3).aux = s.aux ∧
    (State.holdOld s a1 a2 a3).enc = s.enc ∧
    (State.holdOld s a1 a2 a3).eng = s.eng ∧
    (State.holdOld s a1 a2 a3).gl = s.gl ∧
    (State.holdOld s a1 a2 a3).ref = s.ref ∧
    (State.holdOld s a1 a2 a3).cp = s.cp ∧
    (State.holdOld s a1 a2 a3).flk = s.flk ∧
    (State.holdOld s a1 a2 a3).ring = s.ring ∧
    (State.holdOld s a1 a2 a3).can = s.can ∧
    (State.holdOld s a1 a2 a3).canPub = s.canPub ∧
    (State.holdOld s a1 a2 a3).eth = s.eth ∧
    (State.holdOld s a1 a2 a3).tio = s.tio ∧
    (State.holdOld s a1 a2 a3).dia = s.dia := by
  have k1 := @State.ite_frame
  unfold State.holdOld
  simp [k1]

theorem State.written_frame (s : State) (a1 : Nat) (a2 : Nat) (a3 : Nat) :
    (State.written s a1 a2 a3).pending = s.pending ∧
    (State.written s a1 a2 a3).time = s.time ∧
    (State.written s a1 a2 a3).tick = s.tick ∧
    (State.written s a1 a2 a3).free = s.free ∧
    (State.written s a1 a2 a3).tl = s.tl ∧
    (State.written s a1 a2 a3).hk = s.hk ∧
    (State.written s a1 a2 a3).host = s.host ∧
    (State.written s a1 a2 a3).cp = s.cp ∧
    (State.written s a1 a2 a3).can = s.can ∧
    (State.written s a1 a2 a3).tio = s.tio := by
  have k1 := @State.auxTrigger_frame
  have k2 := @State.encWritten_frame
  have k3 := @State.fireAux_frame
  have k4 := @State.holdOld_frame
  have k5 := @State.linkRefresh_frame
  have k6 := @State.mclkFault_frame
  have k7 := @State.modeChanged_frame
  have k8 := @State.moveLc_frame
  have k9 := @State.post_frame
  have k10 := @State.refetch_frame
  have k11 := @State.slotWritten_frame
  have k12 := @State.ssiTrigger_frame
  have k13 := @State.ite_frame
  unfold State.written
  simp [k1, k2, k3, k4, k5, k6, k7, k8, k9, k10, k11, k12, k13]

theorem State.stageRec_frame (s : State) (a1 : Nat) (a2 : ObjRec) :
    (State.stageRec s a1 a2).pending = s.pending ∧
    (State.stageRec s a1 a2).time = s.time ∧
    (State.stageRec s a1 a2).tick = s.tick ∧
    (State.stageRec s a1 a2).free = s.free ∧
    (State.stageRec s a1 a2).tl = s.tl ∧
    (State.stageRec s a1 a2).mu = s.mu ∧
    (State.stageRec s a1 a2).hk = s.hk ∧
    (State.stageRec s a1 a2).log = s.log ∧
    (State.stageRec s a1 a2).seqs = s.seqs ∧
    (State.stageRec s a1 a2).host = s.host ∧
    (State.stageRec s a1 a2).mclk = s.mclk ∧
    (State.stageRec s a1 a2).sd = s.sd ∧
    (State.stageRec s a1 a2).aux = s.aux ∧
    (State.stageRec s a1 a2).enc = s.enc ∧
    (State.stageRec s a1 a2).eng = s.eng ∧
    (State.stageRec s a1 a2).slices = s.slices ∧
    (State.stageRec s a1 a2).gl = s.gl ∧
    (State.stageRec s a1 a2).cp = s.cp ∧
    (State.stageRec s a1 a2).flk = s.flk ∧
    (State.stageRec s a1 a2).ring = s.ring ∧
    (State.stageRec s a1 a2).can = s.can ∧
    (State.stageRec s a1 a2).canPub = s.canPub ∧
    (State.stageRec s a1 a2).eth = s.eth ∧
    (State.stageRec s a1 a2).tio = s.tio ∧
    (State.stageRec s a1 a2).dia = s.dia := by
  unfold State.stageRec
  simp

theorem State.putObj_frame (s : State) (a1 : Nat) (a2 : ObjRec) :
    (State.putObj s a1 a2).pending = s.pending ∧
    (State.putObj s a1 a2).time = s.time ∧
    (State.putObj s a1 a2).tick = s.tick ∧
    (State.putObj s a1 a2).free = s.free ∧
    (State.putObj s a1 a2).tl = s.tl ∧
    (State.putObj s a1 a2).hk = s.hk ∧
    (State.putObj s a1 a2).host = s.host ∧
    (State.putObj s a1 a2).cp = s.cp ∧
    (State.putObj s a1 a2).can = s.can ∧
    (State.putObj s a1 a2).tio = s.tio := by
  have k1 := @State.setKept_frame
  have k2 := @State.stageRec_frame
  have k3 := @State.written_frame
  have k4 := @State.ite_frame
  unfold State.putObj
  repeat' (first | (simp [k1, k2, k3, k4]; done) | split)

theorem opObjRead_frame (a0 : Pkt) (s : State) :
    (opObjRead a0 s).st.pending = s.pending ∧
    (opObjRead a0 s).st.time = s.time ∧
    (opObjRead a0 s).st.tick = s.tick ∧
    (opObjRead a0 s).st.free = s.free ∧
    (opObjRead a0 s).st.tl = s.tl ∧
    (opObjRead a0 s).st.mu = s.mu ∧
    (opObjRead a0 s).st.hk = s.hk ∧
    (opObjRead a0 s).st.log = s.log ∧
    (opObjRead a0 s).st.seqs = s.seqs ∧
    (opObjRead a0 s).st.host = s.host ∧
    (opObjRead a0 s).st.dict = s.dict ∧
    (opObjRead a0 s).st.mclk = s.mclk ∧
    (opObjRead a0 s).st.sd = s.sd ∧
    (opObjRead a0 s).st.aux = s.aux ∧
    (opObjRead a0 s).st.eng = s.eng ∧
    (opObjRead a0 s).st.slices = s.slices ∧
    (opObjRead a0 s).st.gl = s.gl ∧
    (opObjRead a0 s).st.ref = s.ref ∧
    (opObjRead a0 s).st.cp = s.cp ∧
    (opObjRead a0 s).st.flk = s.flk ∧
    (opObjRead a0 s).st.ring = s.ring ∧
    (opObjRead a0 s).st.can = s.can ∧
    (opObjRead a0 s).st.canPub = s.canPub := by
  have k1 := @State.fail_frame
  have k2 := @State.readEff_frame
  have k3 := @State.ite_frame
  unfold opObjRead
  dsimp only
  repeat' (first | (simp [k1, k2, k3]; done) | split)

theorem State.readMany_frame (a0 : Nat) (a1 : Nat) (a2 : Bool) (s : State) :
    (State.readMany a0 a1 a2 s).1.pending = s.pending ∧
    (State.readMany a0 a1 a2 s).1.time = s.time ∧
    (State.readMany a0 a1 a2 s).1.tick = s.tick ∧
    (State.readMany a0 a1 a2 s).1.free = s.free ∧
    (State.readMany a0 a1 a2 s).1.tl = s.tl ∧
    (State.readMany a0 a1 a2 s).1.mu = s.mu ∧
    (State.readMany a0 a1 a2 s).1.hk = s.hk ∧
    (State.readMany a0 a1 a2 s).1.log = s.log ∧
    (State.readMany a0 a1 a2 s).1.seqs = s.seqs ∧
    (State.readMany a0 a1 a2 s).1.host = s.host ∧
    (State.readMany a0 a1 a2 s).1.dict = s.dict ∧
    (State.readMany a0 a1 a2 s).1.mclk = s.mclk ∧
    (State.readMany a0 a1 a2 s).1.sd = s.sd ∧
    (State.readMany a0 a1 a2 s).1.aux = s.aux ∧
    (State.readMany a0 a1 a2 s).1.eng = s.eng ∧
    (State.readMany a0 a1 a2 s).1.slices = s.slices ∧
    (State.readMany a0 a1 a2 s).1.gl = s.gl ∧
    (State.readMany a0 a1 a2 s).1.ref = s.ref ∧
    (State.readMany a0 a1 a2 s).1.cp = s.cp ∧
    (State.readMany a0 a1 a2 s).1.flk = s.flk ∧
    (State.readMany a0 a1 a2 s).1.ring = s.ring ∧
    (State.readMany a0 a1 a2 s).1.can = s.can ∧
    (State.readMany a0 a1 a2 s).1.canPub = s.canPub := by
  have k1 := @State.readEff_frame
  have k2 := @State.ite_frame
  induction a0 generalizing s a1 with
  | zero => simp [k1, State.readMany]
  | succ n ih => simp [k1, State.readMany, ih]

theorem opObjReadBlock_frame (a0 : Pkt) (s : State) :
    (opObjReadBlock a0 s).st.pending = s.pending ∧
    (opObjReadBlock a0 s).st.time = s.time ∧
    (opObjReadBlock a0 s).st.tick = s.tick ∧
    (opObjReadBlock a0 s).st.free = s.free ∧
    (opObjReadBlock a0 s).st.tl = s.tl ∧
    (opObjReadBlock a0 s).st.mu = s.mu ∧
    (opObjReadBlock a0 s).st.hk = s.hk ∧
    (opObjReadBlock a0 s).st.log = s.log ∧
    (opObjReadBlock a0 s).st.seqs = s.seqs ∧
    (opObjReadBlock a0 s).st.host = s.host ∧
    (opObjReadBlock a0 s).st.dict = s.dict ∧
    (opObjReadBlock a0 s).st.mclk = s.mclk ∧
    (opObjReadBlock a0 s).st.sd = s.sd ∧
    (opObjReadBlock a0 s).st.aux = s.aux ∧
    (opObjReadBlock a0 s).st.eng = s.eng ∧
    (opObjReadBlock a0 s).st.slices = s.slices ∧
    (opObjReadBlock a0 s).st.gl = s.gl ∧
    (opObjReadBlock a0 s).st.ref = s.ref ∧
    (opObjReadBlock a0 s).st.cp = s.cp ∧
    (opObjReadBlock a0 s).st.flk = s.flk ∧
    (opObjReadBlock a0 s).st.ring = s.ring ∧
    (opObjReadBlock a0 s).st.can = s.can ∧
    (opObjReadBlock a0 s).st.canPub = s.canPub := by
  have k1 := @State.fail_frame
  have k2 := @State.okWith_frame
  have k3 := @State.readMany_frame
  have k4 := @State.ite_frame
  unfold opObjReadBlock
  dsimp only
  repeat' (first | (simp [k1, k2, k3, k4]; done) | split)

theorem opObjWrite_frame (a0 : Pkt) (s : State) :
    (opObjWrite a0 s).st.pending = s.pending ∧
    (opObjWrite a0 s).st.time = s.time ∧
    (opObjWrite a0 s).st.tick = s.tick ∧
    (opObjWrite a0 s).st.free = s.free ∧
    (opObjWrite a0 s).st.tl = s.tl ∧
    (opObjWrite a0 s).st.hk = s.hk ∧
    (opObjWrite a0 s).st.host = s.host ∧
    (opObjWrite a0 s).st.cp = s.cp ∧
    (opObjWrite a0 s).st.can = s.can ∧
    (opObjWrite a0 s).st.tio = s.tio := by
  have k1 := @State.fail_frame
  have k2 := @State.okWith_frame
  have k3 := @State.putObj_frame
  have k4 := @State.refused_frame
  have k5 := @State.ite_frame
  unfold opObjWrite
  dsimp only
  repeat' (first | (simp [k1, k2, k3, k4, k5]; done) | split)

theorem opObjWriteBlock_frame (a0 : Pkt) (s : State) :
    (opObjWriteBlock a0 s).st.pending = s.pending ∧
    (opObjWriteBlock a0 s).st.time = s.time ∧
    (opObjWriteBlock a0 s).st.tick = s.tick ∧
    (opObjWriteBlock a0 s).st.free = s.free ∧
    (opObjWriteBlock a0 s).st.tl = s.tl ∧
    (opObjWriteBlock a0 s).st.hk = s.hk ∧
    (opObjWriteBlock a0 s).st.host = s.host ∧
    (opObjWriteBlock a0 s).st.cp = s.cp ∧
    (opObjWriteBlock a0 s).st.can = s.can ∧
    (opObjWriteBlock a0 s).st.tio = s.tio := by
  have k1 := @State.fail_frame
  have k2 := @State.okWith_frame
  have k3 := @State.putObj_frame
  have k4 := @State.refused_frame
  have k5 := @State.ite_frame
  unfold opObjWriteBlock
  dsimp only
  repeat' (first | (simp [k1, k2, k3, k4, k5]; done) | split)

theorem opObjSubscribe_frame (a0 : Pkt) (s : State) :
    (opObjSubscribe a0 s).st.pending = s.pending ∧
    (opObjSubscribe a0 s).st.time = s.time ∧
    (opObjSubscribe a0 s).st.tick = s.tick ∧
    (opObjSubscribe a0 s).st.free = s.free ∧
    (opObjSubscribe a0 s).st.tl = s.tl ∧
    (opObjSubscribe a0 s).st.mu = s.mu ∧
    (opObjSubscribe a0 s).st.hk = s.hk ∧
    (opObjSubscribe a0 s).st.log = s.log ∧
    (opObjSubscribe a0 s).st.seqs = s.seqs ∧
    (opObjSubscribe a0 s).st.dict = s.dict ∧
    (opObjSubscribe a0 s).st.mclk = s.mclk ∧
    (opObjSubscribe a0 s).st.sd = s.sd ∧
    (opObjSubscribe a0 s).st.aux = s.aux ∧
    (opObjSubscribe a0 s).st.enc = s.enc ∧
    (opObjSubscribe a0 s).st.eng = s.eng ∧
    (opObjSubscribe a0 s).st.slices = s.slices ∧
    (opObjSubscribe a0 s).st.gl = s.gl ∧
    (opObjSubscribe a0 s).st.ref = s.ref ∧
    (opObjSubscribe a0 s).st.cp = s.cp ∧
    (opObjSubscribe a0 s).st.flk = s.flk ∧
    (opObjSubscribe a0 s).st.ring = s.ring ∧
    (opObjSubscribe a0 s).st.can = s.can ∧
    (opObjSubscribe a0 s).st.canPub = s.canPub ∧
    (opObjSubscribe a0 s).st.tio = s.tio ∧
    (opObjSubscribe a0 s).st.dia = s.dia := by
  have k1 := @State.fail_frame
  have k2 := @State.okay_frame
  have k3 := @State.ite_frame
  unfold opObjSubscribe
  dsimp only
  repeat' (first | (simp [k1, k2, k3]; done) | split)

end Sys2Proof.Machine
end

