-- ==== Sys2Proof/Laws/Signals.lean ====
section
/-!
SUPPORT. What each operation of Machine/Signals.lean leaves as it was: the parts of State that it cannot change.
-/

namespace Sys2Proof.Machine

open Sys2Proof

theorem State.sigPut_frame (s : State) (a1 : Nat) (a2 : List Byte) (a3 : Stamp) :
    (State.sigPut s a1 a2 a3).pending = s.pending ∧
    (State.sigPut s a1 a2 a3).time = s.time ∧
    (State.sigPut s a1 a2 a3).tick = s.tick ∧
    (State.sigPut s a1 a2 a3).free = s.free ∧
    (State.sigPut s a1 a2 a3).tl = s.tl ∧
    (State.sigPut s a1 a2 a3).hk = s.hk ∧
    (State.sigPut s a1 a2 a3).host = s.host ∧
    (State.sigPut s a1 a2 a3).cp = s.cp ∧
    (State.sigPut s a1 a2 a3).can = s.can ∧
    (State.sigPut s a1 a2 a3).tio = s.tio := by
  have k1 := @State.keep_frame
  have k2 := @State.written_frame
  have k3 := @State.ite_frame
  unfold State.sigPut
  dsimp only
  repeat' (first | (simp [k1, k2, k3]; done) | split)

theorem State.sigReceive_frame (s : State) (a1 : Nat) (a2 : Nat) (a3 : List Byte) (a4 : Stamp) :
    (State.sigReceive s a1 a2 a3 a4).pending = s.pending ∧
    (State.sigReceive s a1 a2 a3 a4).time = s.time ∧
    (State.sigReceive s a1 a2 a3 a4).tick = s.tick ∧
    (State.sigReceive s a1 a2 a3 a4).free = s.free ∧
    (State.sigReceive s a1 a2 a3 a4).tl = s.tl ∧
    (State.sigReceive s a1 a2 a3 a4).hk = s.hk ∧
    (State.sigReceive s a1 a2 a3 a4).host = s.host ∧
    (State.sigReceive s a1 a2 a3 a4).cp = s.cp ∧
    (State.sigReceive s a1 a2 a3 a4).can = s.can ∧
    (State.sigReceive s a1 a2 a3 a4).tio = s.tio := by
  have k1 := @State.sigPut_frame
  unfold State.sigReceive
  simp [k1]

theorem State.sigOut_frame (s : State) (a1 : Nat) :
    (State.sigOut s a1).2.pending = s.pending ∧
    (State.sigOut s a1).2.time = s.time ∧
    (State.sigOut s a1).2.tick = s.tick ∧
    (State.sigOut s a1).2.tl = s.tl ∧
    (State.sigOut s a1).2.mu = s.mu ∧
    (State.sigOut s a1).2.hk = s.hk ∧
    (State.sigOut s a1).2.log = s.log ∧
    (State.sigOut s a1).2.seqs = s.seqs ∧
    (State.sigOut s a1).2.host = s.host ∧
    (State.sigOut s a1).2.dict = s.dict ∧
    (State.sigOut s a1).2.mclk = s.mclk ∧
    (State.sigOut s a1).2.sd = s.sd ∧
    (State.sigOut s a1).2.aux = s.aux ∧
    (State.sigOut s a1).2.enc = s.enc ∧
    (State.sigOut s a1).2.eng = s.eng ∧
    (State.sigOut s a1).2.slices = s.slices ∧
    (State.sigOut s a1).2.gl = s.gl ∧
    (State.sigOut s a1).2.ref = s.ref ∧
    (State.sigOut s a1).2.cp = s.cp ∧
    (State.sigOut s a1).2.flk = s.flk ∧
    (State.sigOut s a1).2.ring = s.ring ∧
    (State.sigOut s a1).2.can = s.can ∧
    (State.sigOut s a1).2.canPub = s.canPub ∧
    (State.sigOut s a1).2.tio = s.tio ∧
    (State.sigOut s a1).2.dia = s.dia := by
  have k1 := @State.ite_frame
  unfold State.sigOut
  dsimp only
  repeat' (first | (simp [k1]; done) | split)

end Sys2Proof.Machine
end

