-- ==== Sys2Proof/Laws/CanBus.lean ====
section
/-!
SUPPORT. What each operation of Machine/CanBus.lean leaves as it was: the parts of State that it cannot change.
-/

namespace Sys2Proof.Machine

open Sys2Proof

theorem State.keepKey_frame (s : State) (a1 : Nat) :
    (State.keepKey s a1).pending = s.pending ∧
    (State.keepKey s a1).time = s.time ∧
    (State.keepKey s a1).tick = s.tick ∧
    (State.keepKey s a1).free = s.free ∧
    (State.keepKey s a1).tl = s.tl ∧
    (State.keepKey s a1).mu = s.mu ∧
    (State.keepKey s a1).hk = s.hk ∧
    (State.keepKey s a1).log = s.log ∧
    (State.keepKey s a1).seqs = s.seqs ∧
    (State.keepKey s a1).host = s.host ∧
    (State.keepKey s a1).mclk = s.mclk ∧
    (State.keepKey s a1).sd = s.sd ∧
    (State.keepKey s a1).aux = s.aux ∧
    (State.keepKey s a1).enc = s.enc ∧
    (State.keepKey s a1).eng = s.eng ∧
    (State.keepKey s a1).slices = s.slices ∧
    (State.keepKey s a1).gl = s.gl ∧
    (State.keepKey s a1).ref = s.ref ∧
    (State.keepKey s a1).cp = s.cp ∧
    (State.keepKey s a1).flk = s.flk ∧
    (State.keepKey s a1).ring = s.ring ∧
    (State.keepKey s a1).can = s.can ∧
    (State.keepKey s a1).canPub = s.canPub ∧
    (State.keepKey s a1).eth = s.eth ∧
    (State.keepKey s a1).tio = s.tio ∧
    (State.keepKey s a1).dia = s.dia := by
  have k1 := @State.ite_frame
  unfold State.keepKey
  simp [k1]

theorem State.canVector_frame (s : State) (a1 : Nat) :
    (State.canVector s a1).pending = s.pending ∧
    (State.canVector s a1).time = s.time ∧
    (State.canVector s a1).tick = s.tick ∧
    (State.canVector s a1).free = s.free ∧
    (State.canVector s a1).tl = s.tl ∧
    (State.canVector s a1).mu = s.mu ∧
    (State.canVector s a1).hk = s.hk ∧
    (State.canVector s a1).log = s.log ∧
    (State.canVector s a1).seqs = s.seqs ∧
    (State.canVector s a1).dict = s.dict ∧
    (State.canVector s a1).mclk = s.mclk ∧
    (State.canVector s a1).sd = s.sd ∧
    (State.canVector s a1).aux = s.aux ∧
    (State.canVector s a1).enc = s.enc ∧
    (State.canVector s a1).eng = s.eng ∧
    (State.canVector s a1).slices = s.slices ∧
    (State.canVector s a1).gl = s.gl ∧
    (State.canVector s a1).ref = s.ref ∧
    (State.canVector s a1).cp = s.cp ∧
    (State.canVector s a1).flk = s.flk ∧
    (State.canVector s a1).ring = s.ring ∧
    (State.canVector s a1).can = s.can ∧
    (State.canVector s a1).canPub = s.canPub ∧
    (State.canVector s a1).eth = s.eth ∧
    (State.canVector s a1).tio = s.tio ∧
    (State.canVector s a1).dia = s.dia := by
  have k1 := @State.msix_frame
  have k2 := @State.ite_frame
  unfold State.canVector
  simp [k1, k2]

theorem State.canRetire_frame (s : State) (a1 : Nat) (a2 : Nat) (a3 : CanTx) (a4 : Nat) (a5 : Bool) (a6 : Stamp) :
    (State.canRetire s a1 a2 a3 a4 a5 a6).pending = s.pending ∧
    (State.canRetire s a1 a2 a3 a4 a5 a6).time = s.time ∧
    (State.canRetire s a1 a2 a3 a4 a5 a6).tick = s.tick ∧
    (State.canRetire s a1 a2 a3 a4 a5 a6).free = s.free ∧
    (State.canRetire s a1 a2 a3 a4 a5 a6).tl = s.tl ∧
    (State.canRetire s a1 a2 a3 a4 a5 a6).mu = s.mu ∧
    (State.canRetire s a1 a2 a3 a4 a5 a6).hk = s.hk ∧
    (State.canRetire s a1 a2 a3 a4 a5 a6).log = s.log ∧
    (State.canRetire s a1 a2 a3 a4 a5 a6).mclk = s.mclk ∧
    (State.canRetire s a1 a2 a3 a4 a5 a6).sd = s.sd ∧
    (State.canRetire s a1 a2 a3 a4 a5 a6).aux = s.aux ∧
    (State.canRetire s a1 a2 a3 a4 a5 a6).enc = s.enc ∧
    (State.canRetire s a1 a2 a3 a4 a5 a6).eng = s.eng ∧
    (State.canRetire s a1 a2 a3 a4 a5 a6).slices = s.slices ∧
    (State.canRetire s a1 a2 a3 a4 a5 a6).gl = s.gl ∧
    (State.canRetire s a1 a2 a3 a4 a5 a6).ref = s.ref ∧
    (State.canRetire s a1 a2 a3 a4 a5 a6).cp = s.cp ∧
    (State.canRetire s a1 a2 a3 a4 a5 a6).flk = s.flk ∧
    (State.canRetire s a1 a2 a3 a4 a5 a6).ring = s.ring ∧
    (State.canRetire s a1 a2 a3 a4 a5 a6).canPub = s.canPub ∧
    (State.canRetire s a1 a2 a3 a4 a5 a6).eth = s.eth ∧
    (State.canRetire s a1 a2 a3 a4 a5 a6).tio = s.tio := by
  have k1 := @State.canVector_frame
  have k2 := @State.record_frame
  have k3 := @State.ite_frame
  unfold State.canRetire
  simp [k1, k2, k3]

theorem State.canAbort_frame (s : State) (a1 : Nat) :
    (State.canAbort s a1).pending = s.pending ∧
    (State.canAbort s a1).time = s.time ∧
    (State.canAbort s a1).tick = s.tick ∧
    (State.canAbort s a1).free = s.free ∧
    (State.canAbort s a1).tl = s.tl ∧
    (State.canAbort s a1).mu = s.mu ∧
    (State.canAbort s a1).hk = s.hk ∧
    (State.canAbort s a1).log = s.log ∧
    (State.canAbort s a1).mclk = s.mclk ∧
    (State.canAbort s a1).sd = s.sd ∧
    (State.canAbort s a1).aux = s.aux ∧
    (State.canAbort s a1).enc = s.enc ∧
    (State.canAbort s a1).eng = s.eng ∧
    (State.canAbort s a1).slices = s.slices ∧
    (State.canAbort s a1).gl = s.gl ∧
    (State.canAbort s a1).ref = s.ref ∧
    (State.canAbort s a1).cp = s.cp ∧
    (State.canAbort s a1).flk = s.flk ∧
    (State.canAbort s a1).ring = s.ring ∧
    (State.canAbort s a1).canPub = s.canPub ∧
    (State.canAbort s a1).eth = s.eth ∧
    (State.canAbort s a1).tio = s.tio := by
  have k1 := @State.canRetire_frame
  unfold State.canAbort
  simp [k1]

theorem opCanConfig_frame (a0 : Pkt) (s : State) :
    (opCanConfig a0 s).st.pending = s.pending ∧
    (opCanConfig a0 s).st.time = s.time ∧
    (opCanConfig a0 s).st.tick = s.tick ∧
    (opCanConfig a0 s).st.free = s.free ∧
    (opCanConfig a0 s).st.tl = s.tl ∧
    (opCanConfig a0 s).st.mu = s.mu ∧
    (opCanConfig a0 s).st.hk = s.hk ∧
    (opCanConfig a0 s).st.log = s.log ∧
    (opCanConfig a0 s).st.mclk = s.mclk ∧
    (opCanConfig a0 s).st.sd = s.sd ∧
    (opCanConfig a0 s).st.aux = s.aux ∧
    (opCanConfig a0 s).st.enc = s.enc ∧
    (opCanConfig a0 s).st.eng = s.eng ∧
    (opCanConfig a0 s).st.slices = s.slices ∧
    (opCanConfig a0 s).st.gl = s.gl ∧
    (opCanConfig a0 s).st.ref = s.ref ∧
    (opCanConfig a0 s).st.cp = s.cp ∧
    (opCanConfig a0 s).st.flk = s.flk ∧
    (opCanConfig a0 s).st.ring = s.ring ∧
    (opCanConfig a0 s).st.canPub = s.canPub ∧
    (opCanConfig a0 s).st.eth = s.eth ∧
    (opCanConfig a0 s).st.tio = s.tio := by
  have k1 := @State.canAbort_frame
  have k2 := @State.fail_frame
  have k3 := @State.keepKey_frame
  have k4 := @State.okWith_frame
  have k5 := @State.okay_frame
  have k6 := @State.ite_frame
  unfold opCanConfig
  dsimp only
  repeat' (first | (simp [k1, k2, k3, k4, k5, k6]; done) | split)

theorem opCanFilter_frame (a0 : Pkt) (s : State) :
    (opCanFilter a0 s).st.pending = s.pending ∧
    (opCanFilter a0 s).st.time = s.time ∧
    (opCanFilter a0 s).st.tick = s.tick ∧
    (opCanFilter a0 s).st.free = s.free ∧
    (opCanFilter a0 s).st.tl = s.tl ∧
    (opCanFilter a0 s).st.mu = s.mu ∧
    (opCanFilter a0 s).st.hk = s.hk ∧
    (opCanFilter a0 s).st.log = s.log ∧
    (opCanFilter a0 s).st.seqs = s.seqs ∧
    (opCanFilter a0 s).st.host = s.host ∧
    (opCanFilter a0 s).st.mclk = s.mclk ∧
    (opCanFilter a0 s).st.sd = s.sd ∧
    (opCanFilter a0 s).st.aux = s.aux ∧
    (opCanFilter a0 s).st.enc = s.enc ∧
    (opCanFilter a0 s).st.eng = s.eng ∧
    (opCanFilter a0 s).st.slices = s.slices ∧
    (opCanFilter a0 s).st.gl = s.gl ∧
    (opCanFilter a0 s).st.ref = s.ref ∧
    (opCanFilter a0 s).st.cp = s.cp ∧
    (opCanFilter a0 s).st.flk = s.flk ∧
    (opCanFilter a0 s).st.ring = s.ring ∧
    (opCanFilter a0 s).st.canPub = s.canPub ∧
    (opCanFilter a0 s).st.eth = s.eth ∧
    (opCanFilter a0 s).st.tio = s.tio ∧
    (opCanFilter a0 s).st.dia = s.dia := by
  have k1 := @State.fail_frame
  have k2 := @State.keepKey_frame
  have k3 := @State.okWith_frame
  have k4 := @State.okay_frame
  have k5 := @State.ite_frame
  unfold opCanFilter
  dsimp only
  repeat' (first | (simp [k1, k2, k3, k4, k5]; done) | split)

theorem State.canStore_frame (s : State) (a1 : Nat) (a2 : Nat) (a3 : Nat) (a4 : Bool) (a5 : CanFrame) (a6 : Stamp) (a7 : Stamp) :
    (State.canStore s a1 a2 a3 a4 a5 a6 a7).pending = s.pending ∧
    (State.canStore s a1 a2 a3 a4 a5 a6 a7).time = s.time ∧
    (State.canStore s a1 a2 a3 a4 a5 a6 a7).tick = s.tick ∧
    (State.canStore s a1 a2 a3 a4 a5 a6 a7).free = s.free ∧
    (State.canStore s a1 a2 a3 a4 a5 a6 a7).tl = s.tl ∧
    (State.canStore s a1 a2 a3 a4 a5 a6 a7).mu = s.mu ∧
    (State.canStore s a1 a2 a3 a4 a5 a6 a7).hk = s.hk ∧
    (State.canStore s a1 a2 a3 a4 a5 a6 a7).log = s.log ∧
    (State.canStore s a1 a2 a3 a4 a5 a6 a7).host = s.host ∧
    (State.canStore s a1 a2 a3 a4 a5 a6 a7).mclk = s.mclk ∧
    (State.canStore s a1 a2 a3 a4 a5 a6 a7).sd = s.sd ∧
    (State.canStore s a1 a2 a3 a4 a5 a6 a7).aux = s.aux ∧
    (State.canStore s a1 a2 a3 a4 a5 a6 a7).enc = s.enc ∧
    (State.canStore s a1 a2 a3 a4 a5 a6 a7).eng = s.eng ∧
    (State.canStore s a1 a2 a3 a4 a5 a6 a7).slices = s.slices ∧
    (State.canStore s a1 a2 a3 a4 a5 a6 a7).gl = s.gl ∧
    (State.canStore s a1 a2 a3 a4 a5 a6 a7).ref = s.ref ∧
    (State.canStore s a1 a2 a3 a4 a5 a6 a7).cp = s.cp ∧
    (State.canStore s a1 a2 a3 a4 a5 a6 a7).flk = s.flk ∧
    (State.canStore s a1 a2 a3 a4 a5 a6 a7).ring = s.ring ∧
    (State.canStore s a1 a2 a3 a4 a5 a6 a7).canPub = s.canPub ∧
    (State.canStore s a1 a2 a3 a4 a5 a6 a7).eth = s.eth ∧
    (State.canStore s a1 a2 a3 a4 a5 a6 a7).tio = s.tio := by
  have k1 := @State.record_frame
  have k2 := @State.ite_frame
  unfold State.canStore
  simp [k1, k2]

theorem State.canSignals_frame (s : State) (a1 : Nat) (a2 : CanFrame) (a3 : Stamp) :
    (State.canSignals s a1 a2 a3).pending = s.pending ∧
    (State.canSignals s a1 a2 a3).time = s.time ∧
    (State.canSignals s a1 a2 a3).tick = s.tick ∧
    (State.canSignals s a1 a2 a3).free = s.free ∧
    (State.canSignals s a1 a2 a3).tl = s.tl ∧
    (State.canSignals s a1 a2 a3).hk = s.hk ∧
    (State.canSignals s a1 a2 a3).host = s.host ∧
    (State.canSignals s a1 a2 a3).cp = s.cp ∧
    (State.canSignals s a1 a2 a3).can = s.can ∧
    (State.canSignals s a1 a2 a3).tio = s.tio := by
  have k1 := @State.sigReceive_frame
  unfold State.canSignals
  simp [k1]

theorem State.canAccept_frame (s : State) (a1 : Nat) (a2 : CanFrame) (a3 : Stamp) (a4 : Stamp) :
    (State.canAccept s a1 a2 a3 a4).pending = s.pending ∧
    (State.canAccept s a1 a2 a3 a4).time = s.time ∧
    (State.canAccept s a1 a2 a3 a4).tick = s.tick ∧
    (State.canAccept s a1 a2 a3 a4).free = s.free ∧
    (State.canAccept s a1 a2 a3 a4).tl = s.tl ∧
    (State.canAccept s a1 a2 a3 a4).hk = s.hk ∧
    (State.canAccept s a1 a2 a3 a4).cp = s.cp ∧
    (State.canAccept s a1 a2 a3 a4).tio = s.tio := by
  have k1 := @State.canSignals_frame
  have k2 := @State.canStore_frame
  have k3 := @State.canVector_frame
  have k4 := @State.mirrorPut_frame
  have k5 := @State.ite_frame
  unfold State.canAccept
  simp [k1, k2, k3, k4, k5]

theorem State.nextRate_frame (s : State) (a1 : Nat) :
    (State.nextRate s a1).pending = s.pending ∧
    (State.nextRate s a1).time = s.time ∧
    (State.nextRate s a1).tick = s.tick ∧
    (State.nextRate s a1).free = s.free ∧
    (State.nextRate s a1).tl = s.tl ∧
    (State.nextRate s a1).mu = s.mu ∧
    (State.nextRate s a1).hk = s.hk ∧
    (State.nextRate s a1).log = s.log ∧
    (State.nextRate s a1).seqs = s.seqs ∧
    (State.nextRate s a1).host = s.host ∧
    (State.nextRate s a1).dict = s.dict ∧
    (State.nextRate s a1).mclk = s.mclk ∧
    (State.nextRate s a1).sd = s.sd ∧
    (State.nextRate s a1).aux = s.aux ∧
    (State.nextRate s a1).enc = s.enc ∧
    (State.nextRate s a1).eng = s.eng ∧
    (State.nextRate s a1).slices = s.slices ∧
    (State.nextRate s a1).gl = s.gl ∧
    (State.nextRate s a1).ref = s.ref ∧
    (State.nextRate s a1).cp = s.cp ∧
    (State.nextRate s a1).flk = s.flk ∧
    (State.nextRate s a1).ring = s.ring ∧
    (State.nextRate s a1).canPub = s.canPub ∧
    (State.nextRate s a1).eth = s.eth ∧
    (State.nextRate s a1).tio = s.tio ∧
    (State.nextRate s a1).dia = s.dia := by
  unfold State.nextRate
  simp

theorem State.rateLock_frame (s : State) (a1 : Nat) :
    (State.rateLock s a1).pending = s.pending ∧
    (State.rateLock s a1).time = s.time ∧
    (State.rateLock s a1).tick = s.tick ∧
    (State.rateLock s a1).free = s.free ∧
    (State.rateLock s a1).tl = s.tl ∧
    (State.rateLock s a1).hk = s.hk ∧
    (State.rateLock s a1).cp = s.cp ∧
    (State.rateLock s a1).tio = s.tio := by
  have k1 := @State.canAccept_frame
  have k2 := @State.post_frame
  unfold State.rateLock
  simp [k1, k2]

theorem State.rateGoodFrame_frame (s : State) (a1 : Nat) (a2 : CanFrame) (a3 : Stamp) (a4 : Stamp) :
    (State.rateGoodFrame s a1 a2 a3 a4).pending = s.pending ∧
    (State.rateGoodFrame s a1 a2 a3 a4).time = s.time ∧
    (State.rateGoodFrame s a1 a2 a3 a4).tick = s.tick ∧
    (State.rateGoodFrame s a1 a2 a3 a4).free = s.free ∧
    (State.rateGoodFrame s a1 a2 a3 a4).tl = s.tl ∧
    (State.rateGoodFrame s a1 a2 a3 a4).hk = s.hk ∧
    (State.rateGoodFrame s a1 a2 a3 a4).cp = s.cp ∧
    (State.rateGoodFrame s a1 a2 a3 a4).tio = s.tio := by
  have k1 := @State.nextRate_frame
  have k2 := @State.rateLock_frame
  have k3 := @State.ite_frame
  unfold State.rateGoodFrame
  simp [k1, k2, k3]

theorem effCanRateTimeout_frame (a0 : Fin 4) (s : State) :
    (effCanRateTimeout a0 s).pending = s.pending ∧
    (effCanRateTimeout a0 s).time = s.time ∧
    (effCanRateTimeout a0 s).tick = s.tick ∧
    (effCanRateTimeout a0 s).free = s.free ∧
    (effCanRateTimeout a0 s).tl = s.tl ∧
    (effCanRateTimeout a0 s).mu = s.mu ∧
    (effCanRateTimeout a0 s).hk = s.hk ∧
    (effCanRateTimeout a0 s).log = s.log ∧
    (effCanRateTimeout a0 s).seqs = s.seqs ∧
    (effCanRateTimeout a0 s).host = s.host ∧
    (effCanRateTimeout a0 s).dict = s.dict ∧
    (effCanRateTimeout a0 s).mclk = s.mclk ∧
    (effCanRateTimeout a0 s).sd = s.sd ∧
    (effCanRateTimeout a0 s).aux = s.aux ∧
    (effCanRateTimeout a0 s).enc = s.enc ∧
    (effCanRateTimeout a0 s).eng = s.eng ∧
    (effCanRateTimeout a0 s).slices = s.slices ∧
    (effCanRateTimeout a0 s).gl = s.gl ∧
    (effCanRateTimeout a0 s).ref = s.ref ∧
    (effCanRateTimeout a0 s).cp = s.cp ∧
    (effCanRateTimeout a0 s).flk = s.flk ∧
    (effCanRateTimeout a0 s).ring = s.ring ∧
    (effCanRateTimeout a0 s).canPub = s.canPub ∧
    (effCanRateTimeout a0 s).eth = s.eth ∧
    (effCanRateTimeout a0 s).tio = s.tio ∧
    (effCanRateTimeout a0 s).dia = s.dia := by
  have k1 := @State.nextRate_frame
  have k2 := @State.ite_frame
  unfold effCanRateTimeout
  simp [k1, k2]

theorem State.canRecDown_frame (s : State) (a1 : Nat) :
    (State.canRecDown s a1).pending = s.pending ∧
    (State.canRecDown s a1).time = s.time ∧
    (State.canRecDown s a1).tick = s.tick ∧
    (State.canRecDown s a1).tl = s.tl ∧
    (State.canRecDown s a1).mu = s.mu ∧
    (State.canRecDown s a1).hk = s.hk ∧
    (State.canRecDown s a1).log = s.log ∧
    (State.canRecDown s a1).seqs = s.seqs ∧
    (State.canRecDown s a1).host = s.host ∧
    (State.canRecDown s a1).dict = s.dict ∧
    (State.canRecDown s a1).mclk = s.mclk ∧
    (State.canRecDown s a1).sd = s.sd ∧
    (State.canRecDown s a1).aux = s.aux ∧
    (State.canRecDown s a1).enc = s.enc ∧
    (State.canRecDown s a1).eng = s.eng ∧
    (State.canRecDown s a1).slices = s.slices ∧
    (State.canRecDown s a1).gl = s.gl ∧
    (State.canRecDown s a1).ref = s.ref ∧
    (State.canRecDown s a1).cp = s.cp ∧
    (State.canRecDown s a1).flk = s.flk ∧
    (State.canRecDown s a1).ring = s.ring ∧
    (State.canRecDown s a1).canPub = s.canPub ∧
    (State.canRecDown s a1).eth = s.eth ∧
    (State.canRecDown s a1).tio = s.tio ∧
    (State.canRecDown s a1).dia = s.dia := by
  have k1 := @State.ite_frame
  unfold State.canRecDown
  simp [k1]

theorem effCanFrameRx_frame (a0 : Fin 4) (a1 : CanFrame) (a2 : Nat) (a3 : Nat) (s : State) :
    (effCanFrameRx a0 a1 a2 a3 s).pending = s.pending ∧
    (effCanFrameRx a0 a1 a2 a3 s).time = s.time ∧
    (effCanFrameRx a0 a1 a2 a3 s).tick = s.tick ∧
    (effCanFrameRx a0 a1 a2 a3 s).tl = s.tl ∧
    (effCanFrameRx a0 a1 a2 a3 s).hk = s.hk ∧
    (effCanFrameRx a0 a1 a2 a3 s).cp = s.cp ∧
    (effCanFrameRx a0 a1 a2 a3 s).tio = s.tio := by
  have k1 := @State.canAccept_frame
  have k2 := @State.canRecDown_frame
  have k3 := @State.rateGoodFrame_frame
  have k4 := @State.ite_frame
  unfold effCanFrameRx
  simp [k1, k2, k3, k4]

theorem opCanAck_frame (a0 : Pkt) (s : State) :
    (opCanAck a0 s).st.pending = s.pending ∧
    (opCanAck a0 s).st.time = s.time ∧
    (opCanAck a0 s).st.tick = s.tick ∧
    (opCanAck a0 s).st.free = s.free ∧
    (opCanAck a0 s).st.tl = s.tl ∧
    (opCanAck a0 s).st.mu = s.mu ∧
    (opCanAck a0 s).st.hk = s.hk ∧
    (opCanAck a0 s).st.log = s.log ∧
    (opCanAck a0 s).st.seqs = s.seqs ∧
    (opCanAck a0 s).st.host = s.host ∧
    (opCanAck a0 s).st.dict = s.dict ∧
    (opCanAck a0 s).st.mclk = s.mclk ∧
    (opCanAck a0 s).st.sd = s.sd ∧
    (opCanAck a0 s).st.aux = s.aux ∧
    (opCanAck a0 s).st.enc = s.enc ∧
    (opCanAck a0 s).st.eng = s.eng ∧
    (opCanAck a0 s).st.slices = s.slices ∧
    (opCanAck a0 s).st.gl = s.gl ∧
    (opCanAck a0 s).st.ref = s.ref ∧
    (opCanAck a0 s).st.cp = s.cp ∧
    (opCanAck a0 s).st.flk = s.flk ∧
    (opCanAck a0 s).st.ring = s.ring ∧
    (opCanAck a0 s).st.canPub = s.canPub ∧
    (opCanAck a0 s).st.eth = s.eth ∧
    (opCanAck a0 s).st.tio = s.tio ∧
    (opCanAck a0 s).st.dia = s.dia := by
  have k1 := @State.fail_frame
  have k2 := @State.okWith_frame
  have k3 := @State.ite_frame
  unfold opCanAck
  dsimp only
  repeat' (first | (simp [k1, k2, k3]; done) | split)

theorem effCanQackDoorbell_frame (a0 : Fin 4) (a1 : Fin 9) (a2 : Nat) (s : State) :
    (effCanQackDoorbell a0 a1 a2 s).pending = s.pending ∧
    (effCanQackDoorbell a0 a1 a2 s).time = s.time ∧
    (effCanQackDoorbell a0 a1 a2 s).tick = s.tick ∧
    (effCanQackDoorbell a0 a1 a2 s).free = s.free ∧
    (effCanQackDoorbell a0 a1 a2 s).tl = s.tl ∧
    (effCanQackDoorbell a0 a1 a2 s).mu = s.mu ∧
    (effCanQackDoorbell a0 a1 a2 s).hk = s.hk ∧
    (effCanQackDoorbell a0 a1 a2 s).log = s.log ∧
    (effCanQackDoorbell a0 a1 a2 s).seqs = s.seqs ∧
    (effCanQackDoorbell a0 a1 a2 s).host = s.host ∧
    (effCanQackDoorbell a0 a1 a2 s).dict = s.dict ∧
    (effCanQackDoorbell a0 a1 a2 s).mclk = s.mclk ∧
    (effCanQackDoorbell a0 a1 a2 s).sd = s.sd ∧
    (effCanQackDoorbell a0 a1 a2 s).aux = s.aux ∧
    (effCanQackDoorbell a0 a1 a2 s).enc = s.enc ∧
    (effCanQackDoorbell a0 a1 a2 s).eng = s.eng ∧
    (effCanQackDoorbell a0 a1 a2 s).slices = s.slices ∧
    (effCanQackDoorbell a0 a1 a2 s).gl = s.gl ∧
    (effCanQackDoorbell a0 a1 a2 s).ref = s.ref ∧
    (effCanQackDoorbell a0 a1 a2 s).cp = s.cp ∧
    (effCanQackDoorbell a0 a1 a2 s).flk = s.flk ∧
    (effCanQackDoorbell a0 a1 a2 s).ring = s.ring ∧
    (effCanQackDoorbell a0 a1 a2 s).canPub = s.canPub ∧
    (effCanQackDoorbell a0 a1 a2 s).eth = s.eth ∧
    (effCanQackDoorbell a0 a1 a2 s).tio = s.tio ∧
    (effCanQackDoorbell a0 a1 a2 s).dia = s.dia := by
  have k1 := @State.ite_frame
  unfold effCanQackDoorbell
  simp [k1]

theorem opCanTx_frame (a0 : Pkt) (s : State) :
    (opCanTx a0 s).st.pending = s.pending ∧
    (opCanTx a0 s).st.time = s.time ∧
    (opCanTx a0 s).st.tick = s.tick ∧
    (opCanTx a0 s).st.free = s.free ∧
    (opCanTx a0 s).st.tl = s.tl ∧
    (opCanTx a0 s).st.mu = s.mu ∧
    (opCanTx a0 s).st.hk = s.hk ∧
    (opCanTx a0 s).st.log = s.log ∧
    (opCanTx a0 s).st.seqs = s.seqs ∧
    (opCanTx a0 s).st.host = s.host ∧
    (opCanTx a0 s).st.dict = s.dict ∧
    (opCanTx a0 s).st.mclk = s.mclk ∧
    (opCanTx a0 s).st.sd = s.sd ∧
    (opCanTx a0 s).st.aux = s.aux ∧
    (opCanTx a0 s).st.enc = s.enc ∧
    (opCanTx a0 s).st.eng = s.eng ∧
    (opCanTx a0 s).st.slices = s.slices ∧
    (opCanTx a0 s).st.gl = s.gl ∧
    (opCanTx a0 s).st.ref = s.ref ∧
    (opCanTx a0 s).st.cp = s.cp ∧
    (opCanTx a0 s).st.flk = s.flk ∧
    (opCanTx a0 s).st.ring = s.ring ∧
    (opCanTx a0 s).st.canPub = s.canPub ∧
    (opCanTx a0 s).st.eth = s.eth ∧
    (opCanTx a0 s).st.tio = s.tio ∧
    (opCanTx a0 s).st.dia = s.dia := by
  have k1 := @State.canPut_frame
  have k2 := @State.fail_frame
  have k3 := @State.ite_frame
  unfold opCanTx
  dsimp only
  repeat' (first | (simp [k1, k2, k3]; done) | split)

theorem opCanCancel_frame (a0 : Pkt) (s : State) :
    (opCanCancel a0 s).st.pending = s.pending ∧
    (opCanCancel a0 s).st.time = s.time ∧
    (opCanCancel a0 s).st.tick = s.tick ∧
    (opCanCancel a0 s).st.free = s.free ∧
    (opCanCancel a0 s).st.tl = s.tl ∧
    (opCanCancel a0 s).st.mu = s.mu ∧
    (opCanCancel a0 s).st.hk = s.hk ∧
    (opCanCancel a0 s).st.log = s.log ∧
    (opCanCancel a0 s).st.mclk = s.mclk ∧
    (opCanCancel a0 s).st.sd = s.sd ∧
    (opCanCancel a0 s).st.aux = s.aux ∧
    (opCanCancel a0 s).st.enc = s.enc ∧
    (opCanCancel a0 s).st.eng = s.eng ∧
    (opCanCancel a0 s).st.slices = s.slices ∧
    (opCanCancel a0 s).st.gl = s.gl ∧
    (opCanCancel a0 s).st.ref = s.ref ∧
    (opCanCancel a0 s).st.cp = s.cp ∧
    (opCanCancel a0 s).st.flk = s.flk ∧
    (opCanCancel a0 s).st.ring = s.ring ∧
    (opCanCancel a0 s).st.canPub = s.canPub ∧
    (opCanCancel a0 s).st.eth = s.eth ∧
    (opCanCancel a0 s).st.tio = s.tio := by
  have k1 := @State.accept_frame
  have k2 := @State.canRetire_frame
  have k3 := @State.fail_frame
  have k4 := @State.okay_frame
  have k5 := @State.ite_frame
  unfold opCanCancel
  dsimp only
  repeat' (first | (simp [k1, k2, k3, k4, k5]; done) | split)

theorem State.modHead_frame (s : State) (a1 : Nat) (a2 : Nat) (a3 : (CanTx → CanTx)) :
    (State.modHead s a1 a2 a3).pending = s.pending ∧
    (State.modHead s a1 a2 a3).time = s.time ∧
    (State.modHead s a1 a2 a3).tick = s.tick ∧
    (State.modHead s a1 a2 a3).free = s.free ∧
    (State.modHead s a1 a2 a3).tl = s.tl ∧
    (State.modHead s a1 a2 a3).mu = s.mu ∧
    (State.modHead s a1 a2 a3).hk = s.hk ∧
    (State.modHead s a1 a2 a3).log = s.log ∧
    (State.modHead s a1 a2 a3).seqs = s.seqs ∧
    (State.modHead s a1 a2 a3).host = s.host ∧
    (State.modHead s a1 a2 a3).dict = s.dict ∧
    (State.modHead s a1 a2 a3).mclk = s.mclk ∧
    (State.modHead s a1 a2 a3).sd = s.sd ∧
    (State.modHead s a1 a2 a3).aux = s.aux ∧
    (State.modHead s a1 a2 a3).enc = s.enc ∧
    (State.modHead s a1 a2 a3).eng = s.eng ∧
    (State.modHead s a1 a2 a3).slices = s.slices ∧
    (State.modHead s a1 a2 a3).gl = s.gl ∧
    (State.modHead s a1 a2 a3).ref = s.ref ∧
    (State.modHead s a1 a2 a3).cp = s.cp ∧
    (State.modHead s a1 a2 a3).flk = s.flk ∧
    (State.modHead s a1 a2 a3).ring = s.ring ∧
    (State.modHead s a1 a2 a3).canPub = s.canPub ∧
    (State.modHead s a1 a2 a3).eth = s.eth ∧
    (State.modHead s a1 a2 a3).tio = s.tio ∧
    (State.modHead s a1 a2 a3).dia = s.dia := by
  unfold State.modHead
  simp

theorem State.popHead_frame (s : State) (a1 : Nat) (a2 : Nat) :
    (State.popHead s a1 a2).pending = s.pending ∧
    (State.popHead s a1 a2).time = s.time ∧
    (State.popHead s a1 a2).tick = s.tick ∧
    (State.popHead s a1 a2).free = s.free ∧
    (State.popHead s a1 a2).tl = s.tl ∧
    (State.popHead s a1 a2).mu = s.mu ∧
    (State.popHead s a1 a2).hk = s.hk ∧
    (State.popHead s a1 a2).log = s.log ∧
    (State.popHead s a1 a2).seqs = s.seqs ∧
    (State.popHead s a1 a2).host = s.host ∧
    (State.popHead s a1 a2).dict = s.dict ∧
    (State.popHead s a1 a2).mclk = s.mclk ∧
    (State.popHead s a1 a2).sd = s.sd ∧
    (State.popHead s a1 a2).aux = s.aux ∧
    (State.popHead s a1 a2).enc = s.enc ∧
    (State.popHead s a1 a2).eng = s.eng ∧
    (State.popHead s a1 a2).slices = s.slices ∧
    (State.popHead s a1 a2).gl = s.gl ∧
    (State.popHead s a1 a2).ref = s.ref ∧
    (State.popHead s a1 a2).cp = s.cp ∧
    (State.popHead s a1 a2).flk = s.flk ∧
    (State.popHead s a1 a2).ring = s.ring ∧
    (State.popHead s a1 a2).canPub = s.canPub ∧
    (State.popHead s a1 a2).eth = s.eth ∧
    (State.popHead s a1 a2).tio = s.tio ∧
    (State.popHead s a1 a2).dia = s.dia := by
  unfold State.popHead
  simp

theorem effCanTxSof_frame (a0 : Fin 4) (s : State) :
    (effCanTxSof a0 s).pending = s.pending ∧
    (effCanTxSof a0 s).time = s.time ∧
    (effCanTxSof a0 s).tick = s.tick ∧
    (effCanTxSof a0 s).free = s.free ∧
    (effCanTxSof a0 s).tl = s.tl ∧
    (effCanTxSof a0 s).mu = s.mu ∧
    (effCanTxSof a0 s).hk = s.hk ∧
    (effCanTxSof a0 s).log = s.log ∧
    (effCanTxSof a0 s).seqs = s.seqs ∧
    (effCanTxSof a0 s).host = s.host ∧
    (effCanTxSof a0 s).dict = s.dict ∧
    (effCanTxSof a0 s).mclk = s.mclk ∧
    (effCanTxSof a0 s).sd = s.sd ∧
    (effCanTxSof a0 s).aux = s.aux ∧
    (effCanTxSof a0 s).enc = s.enc ∧
    (effCanTxSof a0 s).eng = s.eng ∧
    (effCanTxSof a0 s).slices = s.slices ∧
    (effCanTxSof a0 s).gl = s.gl ∧
    (effCanTxSof a0 s).ref = s.ref ∧
    (effCanTxSof a0 s).cp = s.cp ∧
    (effCanTxSof a0 s).flk = s.flk ∧
    (effCanTxSof a0 s).ring = s.ring ∧
    (effCanTxSof a0 s).canPub = s.canPub ∧
    (effCanTxSof a0 s).eth = s.eth ∧
    (effCanTxSof a0 s).tio = s.tio ∧
    (effCanTxSof a0 s).dia = s.dia := by
  have k1 := @State.modHead_frame
  have k2 := @State.ite_frame
  unfold effCanTxSof
  dsimp only
  repeat' (first | (simp [k1, k2]; done) | split)

theorem effCanTxDone_frame (a0 : Fin 4) (s : State) :
    (effCanTxDone a0 s).pending = s.pending ∧
    (effCanTxDone a0 s).time = s.time ∧
    (effCanTxDone a0 s).tick = s.tick ∧
    (effCanTxDone a0 s).free = s.free ∧
    (effCanTxDone a0 s).tl = s.tl ∧
    (effCanTxDone a0 s).mu = s.mu ∧
    (effCanTxDone a0 s).hk = s.hk ∧
    (effCanTxDone a0 s).log = s.log ∧
    (effCanTxDone a0 s).mclk = s.mclk ∧
    (effCanTxDone a0 s).sd = s.sd ∧
    (effCanTxDone a0 s).aux = s.aux ∧
    (effCanTxDone a0 s).enc = s.enc ∧
    (effCanTxDone a0 s).eng = s.eng ∧
    (effCanTxDone a0 s).slices = s.slices ∧
    (effCanTxDone a0 s).gl = s.gl ∧
    (effCanTxDone a0 s).ref = s.ref ∧
    (effCanTxDone a0 s).cp = s.cp ∧
    (effCanTxDone a0 s).flk = s.flk ∧
    (effCanTxDone a0 s).ring = s.ring ∧
    (effCanTxDone a0 s).canPub = s.canPub ∧
    (effCanTxDone a0 s).eth = s.eth ∧
    (effCanTxDone a0 s).tio = s.tio := by
  have k1 := @State.canRetire_frame
  have k2 := @State.popHead_frame
  have k3 := @State.ite_frame
  unfold effCanTxDone
  dsimp only
  repeat' (first | (simp [k1, k2, k3]; done) | split)

theorem State.attemptLost_frame (s : State) (a1 : Nat) (a2 : Nat) (a3 : CanTx) :
    (State.attemptLost s a1 a2 a3).pending = s.pending ∧
    (State.attemptLost s a1 a2 a3).time = s.time ∧
    (State.attemptLost s a1 a2 a3).tick = s.tick ∧
    (State.attemptLost s a1 a2 a3).free = s.free ∧
    (State.attemptLost s a1 a2 a3).tl = s.tl ∧
    (State.attemptLost s a1 a2 a3).mu = s.mu ∧
    (State.attemptLost s a1 a2 a3).hk = s.hk ∧
    (State.attemptLost s a1 a2 a3).log = s.log ∧
    (State.attemptLost s a1 a2 a3).mclk = s.mclk ∧
    (State.attemptLost s a1 a2 a3).sd = s.sd ∧
    (State.attemptLost s a1 a2 a3).aux = s.aux ∧
    (State.attemptLost s a1 a2 a3).enc = s.enc ∧
    (State.attemptLost s a1 a2 a3).eng = s.eng ∧
    (State.attemptLost s a1 a2 a3).slices = s.slices ∧
    (State.attemptLost s a1 a2 a3).gl = s.gl ∧
    (State.attemptLost s a1 a2 a3).ref = s.ref ∧
    (State.attemptLost s a1 a2 a3).cp = s.cp ∧
    (State.attemptLost s a1 a2 a3).flk = s.flk ∧
    (State.attemptLost s a1 a2 a3).ring = s.ring ∧
    (State.attemptLost s a1 a2 a3).canPub = s.canPub ∧
    (State.attemptLost s a1 a2 a3).eth = s.eth ∧
    (State.attemptLost s a1 a2 a3).tio = s.tio := by
  have k1 := @State.canRetire_frame
  have k2 := @State.modHead_frame
  have k3 := @State.popHead_frame
  have k4 := @State.ite_frame
  unfold State.attemptLost
  simp [k1, k2, k3, k4]

theorem effCanArbitrationLost_frame (a0 : Fin 4) (s : State) :
    (effCanArbitrationLost a0 s).pending = s.pending ∧
    (effCanArbitrationLost a0 s).time = s.time ∧
    (effCanArbitrationLost a0 s).tick = s.tick ∧
    (effCanArbitrationLost a0 s).free = s.free ∧
    (effCanArbitrationLost a0 s).tl = s.tl ∧
    (effCanArbitrationLost a0 s).mu = s.mu ∧
    (effCanArbitrationLost a0 s).hk = s.hk ∧
    (effCanArbitrationLost a0 s).log = s.log ∧
    (effCanArbitrationLost a0 s).mclk = s.mclk ∧
    (effCanArbitrationLost a0 s).sd = s.sd ∧
    (effCanArbitrationLost a0 s).aux = s.aux ∧
    (effCanArbitrationLost a0 s).enc = s.enc ∧
    (effCanArbitrationLost a0 s).eng = s.eng ∧
    (effCanArbitrationLost a0 s).slices = s.slices ∧
    (effCanArbitrationLost a0 s).gl = s.gl ∧
    (effCanArbitrationLost a0 s).ref = s.ref ∧
    (effCanArbitrationLost a0 s).cp = s.cp ∧
    (effCanArbitrationLost a0 s).flk = s.flk ∧
    (effCanArbitrationLost a0 s).ring = s.ring ∧
    (effCanArbitrationLost a0 s).canPub = s.canPub ∧
    (effCanArbitrationLost a0 s).eth = s.eth ∧
    (effCanArbitrationLost a0 s).tio = s.tio := by
  have k1 := @State.attemptLost_frame
  unfold effCanArbitrationLost
  repeat' (first | (simp [k1]; done) | split)

theorem effCanTxExpire_frame (a0 : Fin 4) (a1 : Fin 4) (s : State) :
    (effCanTxExpire a0 a1 s).pending = s.pending ∧
    (effCanTxExpire a0 a1 s).time = s.time ∧
    (effCanTxExpire a0 a1 s).tick = s.tick ∧
    (effCanTxExpire a0 a1 s).free = s.free ∧
    (effCanTxExpire a0 a1 s).tl = s.tl ∧
    (effCanTxExpire a0 a1 s).mu = s.mu ∧
    (effCanTxExpire a0 a1 s).hk = s.hk ∧
    (effCanTxExpire a0 a1 s).log = s.log ∧
    (effCanTxExpire a0 a1 s).mclk = s.mclk ∧
    (effCanTxExpire a0 a1 s).sd = s.sd ∧
    (effCanTxExpire a0 a1 s).aux = s.aux ∧
    (effCanTxExpire a0 a1 s).enc = s.enc ∧
    (effCanTxExpire a0 a1 s).eng = s.eng ∧
    (effCanTxExpire a0 a1 s).slices = s.slices ∧
    (effCanTxExpire a0 a1 s).gl = s.gl ∧
    (effCanTxExpire a0 a1 s).ref = s.ref ∧
    (effCanTxExpire a0 a1 s).cp = s.cp ∧
    (effCanTxExpire a0 a1 s).flk = s.flk ∧
    (effCanTxExpire a0 a1 s).ring = s.ring ∧
    (effCanTxExpire a0 a1 s).canPub = s.canPub ∧
    (effCanTxExpire a0 a1 s).eth = s.eth ∧
    (effCanTxExpire a0 a1 s).tio = s.tio := by
  have k1 := @State.canRetire_frame
  have k2 := @State.popHead_frame
  have k3 := @State.ite_frame
  unfold effCanTxExpire
  repeat' (first | (simp [k1, k2, k3]; done) | split)

theorem State.sameIdError_frame (s : State) (a1 : Nat) (a2 : Nat) (a3 : CanTx) :
    (State.sameIdError s a1 a2 a3).pending = s.pending ∧
    (State.sameIdError s a1 a2 a3).time = s.time ∧
    (State.sameIdError s a1 a2 a3).tick = s.tick ∧
    (State.sameIdError s a1 a2 a3).free = s.free ∧
    (State.sameIdError s a1 a2 a3).tl = s.tl ∧
    (State.sameIdError s a1 a2 a3).mu = s.mu ∧
    (State.sameIdError s a1 a2 a3).hk = s.hk ∧
    (State.sameIdError s a1 a2 a3).host = s.host ∧
    (State.sameIdError s a1 a2 a3).mclk = s.mclk ∧
    (State.sameIdError s a1 a2 a3).sd = s.sd ∧
    (State.sameIdError s a1 a2 a3).aux = s.aux ∧
    (State.sameIdError s a1 a2 a3).enc = s.enc ∧
    (State.sameIdError s a1 a2 a3).eng = s.eng ∧
    (State.sameIdError s a1 a2 a3).slices = s.slices ∧
    (State.sameIdError s a1 a2 a3).gl = s.gl ∧
    (State.sameIdError s a1 a2 a3).ref = s.ref ∧
    (State.sameIdError s a1 a2 a3).cp = s.cp ∧
    (State.sameIdError s a1 a2 a3).flk = s.flk ∧
    (State.sameIdError s a1 a2 a3).ring = s.ring ∧
    (State.sameIdError s a1 a2 a3).canPub = s.canPub ∧
    (State.sameIdError s a1 a2 a3).eth = s.eth ∧
    (State.sameIdError s a1 a2 a3).tio = s.tio := by
  have k1 := @State.modHead_frame
  have k2 := @State.post_frame
  have k3 := @State.ite_frame
  unfold State.sameIdError
  simp [k1, k2, k3]

theorem State.busOffCheck_frame (s : State) (a1 : Nat) :
    (State.busOffCheck s a1).pending = s.pending ∧
    (State.busOffCheck s a1).time = s.time ∧
    (State.busOffCheck s a1).tick = s.tick ∧
    (State.busOffCheck s a1).free = s.free ∧
    (State.busOffCheck s a1).tl = s.tl ∧
    (State.busOffCheck s a1).mu = s.mu ∧
    (State.busOffCheck s a1).hk = s.hk ∧
    (State.busOffCheck s a1).host = s.host ∧
    (State.busOffCheck s a1).mclk = s.mclk ∧
    (State.busOffCheck s a1).sd = s.sd ∧
    (State.busOffCheck s a1).aux = s.aux ∧
    (State.busOffCheck s a1).enc = s.enc ∧
    (State.busOffCheck s a1).eng = s.eng ∧
    (State.busOffCheck s a1).slices = s.slices ∧
    (State.busOffCheck s a1).gl = s.gl ∧
    (State.busOffCheck s a1).ref = s.ref ∧
    (State.busOffCheck s a1).cp = s.cp ∧
    (State.busOffCheck s a1).flk = s.flk ∧
    (State.busOffCheck s a1).ring = s.ring ∧
    (State.busOffCheck s a1).canPub = s.canPub ∧
    (State.busOffCheck s a1).eth = s.eth ∧
    (State.busOffCheck s a1).tio = s.tio := by
  have k1 := @State.post_frame
  have k2 := @State.ite_frame
  unfold State.busOffCheck
  simp [k1, k2]

theorem effCanBusError_frame (a0 : Fin 4) (a1 : CanError) (a2 : Bool) (a3 : Bool) (a4 : Bool) (s : State) :
    (effCanBusError a0 a1 a2 a3 a4 s).pending = s.pending ∧
    (effCanBusError a0 a1 a2 a3 a4 s).time = s.time ∧
    (effCanBusError a0 a1 a2 a3 a4 s).tick = s.tick ∧
    (effCanBusError a0 a1 a2 a3 a4 s).free = s.free ∧
    (effCanBusError a0 a1 a2 a3 a4 s).tl = s.tl ∧
    (effCanBusError a0 a1 a2 a3 a4 s).mu = s.mu ∧
    (effCanBusError a0 a1 a2 a3 a4 s).hk = s.hk ∧
    (effCanBusError a0 a1 a2 a3 a4 s).mclk = s.mclk ∧
    (effCanBusError a0 a1 a2 a3 a4 s).sd = s.sd ∧
    (effCanBusError a0 a1 a2 a3 a4 s).aux = s.aux ∧
    (effCanBusError a0 a1 a2 a3 a4 s).enc = s.enc ∧
    (effCanBusError a0 a1 a2 a3 a4 s).eng = s.eng ∧
    (effCanBusError a0 a1 a2 a3 a4 s).slices = s.slices ∧
    (effCanBusError a0 a1 a2 a3 a4 s).gl = s.gl ∧
    (effCanBusError a0 a1 a2 a3 a4 s).ref = s.ref ∧
    (effCanBusError a0 a1 a2 a3 a4 s).cp = s.cp ∧
    (effCanBusError a0 a1 a2 a3 a4 s).flk = s.flk ∧
    (effCanBusError a0 a1 a2 a3 a4 s).ring = s.ring ∧
    (effCanBusError a0 a1 a2 a3 a4 s).canPub = s.canPub ∧
    (effCanBusError a0 a1 a2 a3 a4 s).eth = s.eth ∧
    (effCanBusError a0 a1 a2 a3 a4 s).tio = s.tio := by
  have k1 := @State.attemptLost_frame
  have k2 := @State.busOffCheck_frame
  have k3 := @State.nextRate_frame
  have k4 := @State.sameIdError_frame
  have k5 := @State.ite_frame
  unfold effCanBusError
  dsimp only
  repeat' (first | (simp [k1, k2, k3, k4, k5]; done) | split)

theorem effCanBusOffRecovery_frame (a0 : Fin 4) (s : State) :
    (effCanBusOffRecovery a0 s).pending = s.pending ∧
    (effCanBusOffRecovery a0 s).time = s.time ∧
    (effCanBusOffRecovery a0 s).tick = s.tick ∧
    (effCanBusOffRecovery a0 s).free = s.free ∧
    (effCanBusOffRecovery a0 s).tl = s.tl ∧
    (effCanBusOffRecovery a0 s).mu = s.mu ∧
    (effCanBusOffRecovery a0 s).hk = s.hk ∧
    (effCanBusOffRecovery a0 s).log = s.log ∧
    (effCanBusOffRecovery a0 s).seqs = s.seqs ∧
    (effCanBusOffRecovery a0 s).host = s.host ∧
    (effCanBusOffRecovery a0 s).dict = s.dict ∧
    (effCanBusOffRecovery a0 s).mclk = s.mclk ∧
    (effCanBusOffRecovery a0 s).sd = s.sd ∧
    (effCanBusOffRecovery a0 s).aux = s.aux ∧
    (effCanBusOffRecovery a0 s).enc = s.enc ∧
    (effCanBusOffRecovery a0 s).eng = s.eng ∧
    (effCanBusOffRecovery a0 s).slices = s.slices ∧
    (effCanBusOffRecovery a0 s).gl = s.gl ∧
    (effCanBusOffRecovery a0 s).ref = s.ref ∧
    (effCanBusOffRecovery a0 s).cp = s.cp ∧
    (effCanBusOffRecovery a0 s).flk = s.flk ∧
    (effCanBusOffRecovery a0 s).ring = s.ring ∧
    (effCanBusOffRecovery a0 s).canPub = s.canPub ∧
    (effCanBusOffRecovery a0 s).eth = s.eth ∧
    (effCanBusOffRecovery a0 s).tio = s.tio ∧
    (effCanBusOffRecovery a0 s).dia = s.dia := by
  have k1 := @State.ite_frame
  unfold effCanBusOffRecovery
  simp [k1]

theorem State.canReinit_frame (s : State) (a1 : Nat) :
    (State.canReinit s a1).pending = s.pending ∧
    (State.canReinit s a1).time = s.time ∧
    (State.canReinit s a1).tick = s.tick ∧
    (State.canReinit s a1).free = s.free ∧
    (State.canReinit s a1).tl = s.tl ∧
    (State.canReinit s a1).mu = s.mu ∧
    (State.canReinit s a1).hk = s.hk ∧
    (State.canReinit s a1).log = s.log ∧
    (State.canReinit s a1).mclk = s.mclk ∧
    (State.canReinit s a1).sd = s.sd ∧
    (State.canReinit s a1).aux = s.aux ∧
    (State.canReinit s a1).enc = s.enc ∧
    (State.canReinit s a1).eng = s.eng ∧
    (State.canReinit s a1).slices = s.slices ∧
    (State.canReinit s a1).gl = s.gl ∧
    (State.canReinit s a1).ref = s.ref ∧
    (State.canReinit s a1).cp = s.cp ∧
    (State.canReinit s a1).flk = s.flk ∧
    (State.canReinit s a1).ring = s.ring ∧
    (State.canReinit s a1).canPub = s.canPub ∧
    (State.canReinit s a1).eth = s.eth ∧
    (State.canReinit s a1).tio = s.tio := by
  have k1 := @State.canAbort_frame
  unfold State.canReinit
  simp [k1]

end Sys2Proof.Machine
end

