-- ==== Sys2Proof/Laws/Ethernet.lean ====
section
/-!
SUPPORT. What each operation of Machine/Ethernet.lean leaves as it was: the parts of State that it cannot change.
-/

namespace Sys2Proof.Machine

open Sys2Proof

theorem opEthConfig_frame (a0 : Pkt) (s : State) :
    (opEthConfig a0 s).st.pending = s.pending ∧
    (opEthConfig a0 s).st.tick = s.tick ∧
    (opEthConfig a0 s).st.free = s.free ∧
    (opEthConfig a0 s).st.mu = s.mu ∧
    (opEthConfig a0 s).st.hk = s.hk ∧
    (opEthConfig a0 s).st.host = s.host ∧
    (opEthConfig a0 s).st.mclk = s.mclk ∧
    (opEthConfig a0 s).st.sd = s.sd ∧
    (opEthConfig a0 s).st.aux = s.aux ∧
    (opEthConfig a0 s).st.enc = s.enc ∧
    (opEthConfig a0 s).st.eng = s.eng ∧
    (opEthConfig a0 s).st.slices = s.slices ∧
    (opEthConfig a0 s).st.gl = s.gl ∧
    (opEthConfig a0 s).st.ref = s.ref ∧
    (opEthConfig a0 s).st.cp = s.cp ∧
    (opEthConfig a0 s).st.can = s.can ∧
    (opEthConfig a0 s).st.canPub = s.canPub ∧
    (opEthConfig a0 s).st.tio = s.tio := by
  have k1 := @State.fail_frame
  have k2 := @State.keepKey_frame
  have k3 := @State.okWith_frame
  have k4 := @State.okay_frame
  have k5 := @State.portDown_frame
  have k6 := @State.ite_frame
  unfold opEthConfig
  dsimp only
  repeat' (first | (simp [k1, k2, k3, k4, k5, k6]; done) | split)

theorem State.ethReinit_frame (s : State) (a1 : Nat) :
    (State.ethReinit s a1).pending = s.pending ∧
    (State.ethReinit s a1).tick = s.tick ∧
    (State.ethReinit s a1).free = s.free ∧
    (State.ethReinit s a1).mu = s.mu ∧
    (State.ethReinit s a1).hk = s.hk ∧
    (State.ethReinit s a1).host = s.host ∧
    (State.ethReinit s a1).mclk = s.mclk ∧
    (State.ethReinit s a1).sd = s.sd ∧
    (State.ethReinit s a1).aux = s.aux ∧
    (State.ethReinit s a1).enc = s.enc ∧
    (State.ethReinit s a1).eng = s.eng ∧
    (State.ethReinit s a1).slices = s.slices ∧
    (State.ethReinit s a1).gl = s.gl ∧
    (State.ethReinit s a1).ref = s.ref ∧
    (State.ethReinit s a1).cp = s.cp ∧
    (State.ethReinit s a1).can = s.can ∧
    (State.ethReinit s a1).canPub = s.canPub ∧
    (State.ethReinit s a1).tio = s.tio := by
  have k1 := @State.portDown_frame
  unfold State.ethReinit
  simp [k1]

theorem effPtpAnnounceRx_frame (a0 : Fin 2) (a1 : Nat) (a2 : Nat) (a3 : Nat) (a4 : Int) (a5 : Int) (s : State) :
    (effPtpAnnounceRx a0 a1 a2 a3 a4 a5 s).pending = s.pending ∧
    (effPtpAnnounceRx a0 a1 a2 a3 a4 a5 s).tick = s.tick ∧
    (effPtpAnnounceRx a0 a1 a2 a3 a4 a5 s).free = s.free ∧
    (effPtpAnnounceRx a0 a1 a2 a3 a4 a5 s).mu = s.mu ∧
    (effPtpAnnounceRx a0 a1 a2 a3 a4 a5 s).hk = s.hk ∧
    (effPtpAnnounceRx a0 a1 a2 a3 a4 a5 s).host = s.host ∧
    (effPtpAnnounceRx a0 a1 a2 a3 a4 a5 s).mclk = s.mclk ∧
    (effPtpAnnounceRx a0 a1 a2 a3 a4 a5 s).sd = s.sd ∧
    (effPtpAnnounceRx a0 a1 a2 a3 a4 a5 s).aux = s.aux ∧
    (effPtpAnnounceRx a0 a1 a2 a3 a4 a5 s).enc = s.enc ∧
    (effPtpAnnounceRx a0 a1 a2 a3 a4 a5 s).eng = s.eng ∧
    (effPtpAnnounceRx a0 a1 a2 a3 a4 a5 s).slices = s.slices ∧
    (effPtpAnnounceRx a0 a1 a2 a3 a4 a5 s).gl = s.gl ∧
    (effPtpAnnounceRx a0 a1 a2 a3 a4 a5 s).ref = s.ref ∧
    (effPtpAnnounceRx a0 a1 a2 a3 a4 a5 s).cp = s.cp ∧
    (effPtpAnnounceRx a0 a1 a2 a3 a4 a5 s).can = s.can ∧
    (effPtpAnnounceRx a0 a1 a2 a3 a4 a5 s).canPub = s.canPub ∧
    (effPtpAnnounceRx a0 a1 a2 a3 a4 a5 s).tio = s.tio := by
  have k1 := @State.runBmca_frame
  have k2 := @State.ite_frame
  unfold effPtpAnnounceRx
  simp [k1, k2]

theorem effPtpPdelayExchange_frame (a0 : Fin 2) (a1 : Nat) (s : State) :
    (effPtpPdelayExchange a0 a1 s).pending = s.pending ∧
    (effPtpPdelayExchange a0 a1 s).tick = s.tick ∧
    (effPtpPdelayExchange a0 a1 s).free = s.free ∧
    (effPtpPdelayExchange a0 a1 s).mu = s.mu ∧
    (effPtpPdelayExchange a0 a1 s).hk = s.hk ∧
    (effPtpPdelayExchange a0 a1 s).host = s.host ∧
    (effPtpPdelayExchange a0 a1 s).mclk = s.mclk ∧
    (effPtpPdelayExchange a0 a1 s).sd = s.sd ∧
    (effPtpPdelayExchange a0 a1 s).aux = s.aux ∧
    (effPtpPdelayExchange a0 a1 s).enc = s.enc ∧
    (effPtpPdelayExchange a0 a1 s).eng = s.eng ∧
    (effPtpPdelayExchange a0 a1 s).slices = s.slices ∧
    (effPtpPdelayExchange a0 a1 s).gl = s.gl ∧
    (effPtpPdelayExchange a0 a1 s).ref = s.ref ∧
    (effPtpPdelayExchange a0 a1 s).cp = s.cp ∧
    (effPtpPdelayExchange a0 a1 s).can = s.can ∧
    (effPtpPdelayExchange a0 a1 s).canPub = s.canPub ∧
    (effPtpPdelayExchange a0 a1 s).tio = s.tio := by
  have k1 := @State.runBmca_frame
  have k2 := @State.ite_frame
  unfold effPtpPdelayExchange
  simp [k1, k2]

theorem effPtpSyncTx_frame (a0 : Fin 2) (s : State) :
    (effPtpSyncTx a0 s).pending = s.pending ∧
    (effPtpSyncTx a0 s).time = s.time ∧
    (effPtpSyncTx a0 s).tick = s.tick ∧
    (effPtpSyncTx a0 s).free = s.free ∧
    (effPtpSyncTx a0 s).tl = s.tl ∧
    (effPtpSyncTx a0 s).mu = s.mu ∧
    (effPtpSyncTx a0 s).hk = s.hk ∧
    (effPtpSyncTx a0 s).log = s.log ∧
    (effPtpSyncTx a0 s).seqs = s.seqs ∧
    (effPtpSyncTx a0 s).host = s.host ∧
    (effPtpSyncTx a0 s).dict = s.dict ∧
    (effPtpSyncTx a0 s).mclk = s.mclk ∧
    (effPtpSyncTx a0 s).sd = s.sd ∧
    (effPtpSyncTx a0 s).aux = s.aux ∧
    (effPtpSyncTx a0 s).enc = s.enc ∧
    (effPtpSyncTx a0 s).eng = s.eng ∧
    (effPtpSyncTx a0 s).slices = s.slices ∧
    (effPtpSyncTx a0 s).gl = s.gl ∧
    (effPtpSyncTx a0 s).ref = s.ref ∧
    (effPtpSyncTx a0 s).cp = s.cp ∧
    (effPtpSyncTx a0 s).flk = s.flk ∧
    (effPtpSyncTx a0 s).ring = s.ring ∧
    (effPtpSyncTx a0 s).can = s.can ∧
    (effPtpSyncTx a0 s).canPub = s.canPub ∧
    (effPtpSyncTx a0 s).tio = s.tio ∧
    (effPtpSyncTx a0 s).dia = s.dia := by
  have k1 := @State.ite_frame
  unfold effPtpSyncTx
  simp [k1]

theorem effEthLinkChange_frame (a0 : Fin 2) (a1 : Bool) (a2 : Fin 4) (s : State) :
    (effEthLinkChange a0 a1 a2 s).pending = s.pending ∧
    (effEthLinkChange a0 a1 a2 s).tick = s.tick ∧
    (effEthLinkChange a0 a1 a2 s).free = s.free ∧
    (effEthLinkChange a0 a1 a2 s).mu = s.mu ∧
    (effEthLinkChange a0 a1 a2 s).hk = s.hk ∧
    (effEthLinkChange a0 a1 a2 s).host = s.host ∧
    (effEthLinkChange a0 a1 a2 s).mclk = s.mclk ∧
    (effEthLinkChange a0 a1 a2 s).sd = s.sd ∧
    (effEthLinkChange a0 a1 a2 s).aux = s.aux ∧
    (effEthLinkChange a0 a1 a2 s).enc = s.enc ∧
    (effEthLinkChange a0 a1 a2 s).eng = s.eng ∧
    (effEthLinkChange a0 a1 a2 s).slices = s.slices ∧
    (effEthLinkChange a0 a1 a2 s).gl = s.gl ∧
    (effEthLinkChange a0 a1 a2 s).ref = s.ref ∧
    (effEthLinkChange a0 a1 a2 s).cp = s.cp ∧
    (effEthLinkChange a0 a1 a2 s).can = s.can ∧
    (effEthLinkChange a0 a1 a2 s).canPub = s.canPub ∧
    (effEthLinkChange a0 a1 a2 s).tio = s.tio := by
  have k1 := @State.ethReinit_frame
  have k2 := @State.ite_frame
  unfold effEthLinkChange
  simp [k1, k2]

theorem State.fragment_frame (s : State) (a1 : Nat) (a2 : Nat) :
    (State.fragment s a1 a2).pending = s.pending ∧
    (State.fragment s a1 a2).time = s.time ∧
    (State.fragment s a1 a2).tick = s.tick ∧
    (State.fragment s a1 a2).free = s.free ∧
    (State.fragment s a1 a2).tl = s.tl ∧
    (State.fragment s a1 a2).mu = s.mu ∧
    (State.fragment s a1 a2).hk = s.hk ∧
    (State.fragment s a1 a2).log = s.log ∧
    (State.fragment s a1 a2).seqs = s.seqs ∧
    (State.fragment s a1 a2).dict = s.dict ∧
    (State.fragment s a1 a2).mclk = s.mclk ∧
    (State.fragment s a1 a2).sd = s.sd ∧
    (State.fragment s a1 a2).aux = s.aux ∧
    (State.fragment s a1 a2).enc = s.enc ∧
    (State.fragment s a1 a2).eng = s.eng ∧
    (State.fragment s a1 a2).slices = s.slices ∧
    (State.fragment s a1 a2).gl = s.gl ∧
    (State.fragment s a1 a2).ref = s.ref ∧
    (State.fragment s a1 a2).cp = s.cp ∧
    (State.fragment s a1 a2).flk = s.flk ∧
    (State.fragment s a1 a2).ring = s.ring ∧
    (State.fragment s a1 a2).can = s.can ∧
    (State.fragment s a1 a2).canPub = s.canPub ∧
    (State.fragment s a1 a2).eth = s.eth ∧
    (State.fragment s a1 a2).tio = s.tio ∧
    (State.fragment s a1 a2).dia = s.dia := by
  have k1 := @State.ite_frame
  unfold State.fragment
  repeat' (first | (simp [k1]; done) | split)

theorem effEthFrameRx_frame (a0 : Fin 2) (a1 : Nat) (a2 : Nat) (a3 : Bool) (a4 : List Byte) (s : State) :
    (effEthFrameRx a0 a1 a2 a3 a4 s).pending = s.pending ∧
    (effEthFrameRx a0 a1 a2 a3 a4 s).time = s.time ∧
    (effEthFrameRx a0 a1 a2 a3 a4 s).tick = s.tick ∧
    (effEthFrameRx a0 a1 a2 a3 a4 s).free = s.free ∧
    (effEthFrameRx a0 a1 a2 a3 a4 s).tl = s.tl ∧
    (effEthFrameRx a0 a1 a2 a3 a4 s).mu = s.mu ∧
    (effEthFrameRx a0 a1 a2 a3 a4 s).hk = s.hk ∧
    (effEthFrameRx a0 a1 a2 a3 a4 s).log = s.log ∧
    (effEthFrameRx a0 a1 a2 a3 a4 s).mclk = s.mclk ∧
    (effEthFrameRx a0 a1 a2 a3 a4 s).sd = s.sd ∧
    (effEthFrameRx a0 a1 a2 a3 a4 s).aux = s.aux ∧
    (effEthFrameRx a0 a1 a2 a3 a4 s).enc = s.enc ∧
    (effEthFrameRx a0 a1 a2 a3 a4 s).eng = s.eng ∧
    (effEthFrameRx a0 a1 a2 a3 a4 s).slices = s.slices ∧
    (effEthFrameRx a0 a1 a2 a3 a4 s).gl = s.gl ∧
    (effEthFrameRx a0 a1 a2 a3 a4 s).ref = s.ref ∧
    (effEthFrameRx a0 a1 a2 a3 a4 s).cp = s.cp ∧
    (effEthFrameRx a0 a1 a2 a3 a4 s).flk = s.flk ∧
    (effEthFrameRx a0 a1 a2 a3 a4 s).ring = s.ring ∧
    (effEthFrameRx a0 a1 a2 a3 a4 s).can = s.can ∧
    (effEthFrameRx a0 a1 a2 a3 a4 s).canPub = s.canPub ∧
    (effEthFrameRx a0 a1 a2 a3 a4 s).tio = s.tio := by
  have k1 := @State.fragment_frame
  have k2 := @State.record_frame
  have k3 := @State.ite_frame
  unfold effEthFrameRx
  simp [k1, k2, k3]

theorem effEthFrameTx_frame (a0 : Fin 2) (s : State) :
    (effEthFrameTx a0 s).pending = s.pending ∧
    (effEthFrameTx a0 s).time = s.time ∧
    (effEthFrameTx a0 s).tick = s.tick ∧
    (effEthFrameTx a0 s).free = s.free ∧
    (effEthFrameTx a0 s).tl = s.tl ∧
    (effEthFrameTx a0 s).mu = s.mu ∧
    (effEthFrameTx a0 s).hk = s.hk ∧
    (effEthFrameTx a0 s).log = s.log ∧
    (effEthFrameTx a0 s).host = s.host ∧
    (effEthFrameTx a0 s).mclk = s.mclk ∧
    (effEthFrameTx a0 s).sd = s.sd ∧
    (effEthFrameTx a0 s).aux = s.aux ∧
    (effEthFrameTx a0 s).enc = s.enc ∧
    (effEthFrameTx a0 s).eng = s.eng ∧
    (effEthFrameTx a0 s).slices = s.slices ∧
    (effEthFrameTx a0 s).gl = s.gl ∧
    (effEthFrameTx a0 s).ref = s.ref ∧
    (effEthFrameTx a0 s).cp = s.cp ∧
    (effEthFrameTx a0 s).flk = s.flk ∧
    (effEthFrameTx a0 s).ring = s.ring ∧
    (effEthFrameTx a0 s).can = s.can ∧
    (effEthFrameTx a0 s).canPub = s.canPub ∧
    (effEthFrameTx a0 s).tio = s.tio := by
  have k1 := @State.record_frame
  have k2 := @State.ite_frame
  unfold effEthFrameTx
  dsimp only
  repeat' (first | (simp [k1, k2]; done) | split)

theorem State.ethSignals_frame (s : State) (a1 : Nat) (a2 : Nat) (a3 : Nat) (a4 : Stamp) (a5 : List Byte) :
    (State.ethSignals s a1 a2 a3 a4 a5).pending = s.pending ∧
    (State.ethSignals s a1 a2 a3 a4 a5).time = s.time ∧
    (State.ethSignals s a1 a2 a3 a4 a5).tick = s.tick ∧
    (State.ethSignals s a1 a2 a3 a4 a5).free = s.free ∧
    (State.ethSignals s a1 a2 a3 a4 a5).tl = s.tl ∧
    (State.ethSignals s a1 a2 a3 a4 a5).hk = s.hk ∧
    (State.ethSignals s a1 a2 a3 a4 a5).host = s.host ∧
    (State.ethSignals s a1 a2 a3 a4 a5).cp = s.cp ∧
    (State.ethSignals s a1 a2 a3 a4 a5).can = s.can ∧
    (State.ethSignals s a1 a2 a3 a4 a5).tio = s.tio := by
  have k1 := @State.sigReceive_frame
  have k2 := @State.ite_frame
  unfold State.ethSignals
  simp [k1, k2]

theorem effEthPublishRx_frame (a0 : Fin 2) (a1 : Stamp) (a2 : Nat) (a3 : Nat) (a4 : Nat) (a5 : Nat) (a6 : List Byte) (s : State) :
    (effEthPublishRx a0 a1 a2 a3 a4 a5 a6 s).pending = s.pending ∧
    (effEthPublishRx a0 a1 a2 a3 a4 a5 a6 s).time = s.time ∧
    (effEthPublishRx a0 a1 a2 a3 a4 a5 a6 s).tick = s.tick ∧
    (effEthPublishRx a0 a1 a2 a3 a4 a5 a6 s).free = s.free ∧
    (effEthPublishRx a0 a1 a2 a3 a4 a5 a6 s).tl = s.tl ∧
    (effEthPublishRx a0 a1 a2 a3 a4 a5 a6 s).hk = s.hk ∧
    (effEthPublishRx a0 a1 a2 a3 a4 a5 a6 s).host = s.host ∧
    (effEthPublishRx a0 a1 a2 a3 a4 a5 a6 s).cp = s.cp ∧
    (effEthPublishRx a0 a1 a2 a3 a4 a5 a6 s).can = s.can ∧
    (effEthPublishRx a0 a1 a2 a3 a4 a5 a6 s).tio = s.tio := by
  have k1 := @State.mirrorPut_frame
  have k2 := @State.sigReceive_frame
  have k3 := @State.ite_frame
  unfold effEthPublishRx
  simp [k1, k2, k3]

end Sys2Proof.Machine
end

