-- ==== Sys2Proof/Laws/Management.lean ====
section
/-!
SUPPORT. What each operation of Machine/Management.lean leaves as it was: the parts of State that it cannot change.
-/

namespace Sys2Proof.Machine

open Sys2Proof

theorem State.setBank_frame (s : State) (a1 : Nat) (a2 : FwBank) :
    (State.setBank s a1 a2).pending = s.pending ∧
    (State.setBank s a1 a2).time = s.time ∧
    (State.setBank s a1 a2).tick = s.tick ∧
    (State.setBank s a1 a2).free = s.free ∧
    (State.setBank s a1 a2).tl = s.tl ∧
    (State.setBank s a1 a2).hk = s.hk ∧
    (State.setBank s a1 a2).log = s.log ∧
    (State.setBank s a1 a2).seqs = s.seqs ∧
    (State.setBank s a1 a2).host = s.host ∧
    (State.setBank s a1 a2).dict = s.dict ∧
    (State.setBank s a1 a2).mclk = s.mclk ∧
    (State.setBank s a1 a2).sd = s.sd ∧
    (State.setBank s a1 a2).aux = s.aux ∧
    (State.setBank s a1 a2).enc = s.enc ∧
    (State.setBank s a1 a2).eng = s.eng ∧
    (State.setBank s a1 a2).slices = s.slices ∧
    (State.setBank s a1 a2).gl = s.gl ∧
    (State.setBank s a1 a2).ref = s.ref ∧
    (State.setBank s a1 a2).cp = s.cp ∧
    (State.setBank s a1 a2).flk = s.flk ∧
    (State.setBank s a1 a2).ring = s.ring ∧
    (State.setBank s a1 a2).can = s.can ∧
    (State.setBank s a1 a2).canPub = s.canPub ∧
    (State.setBank s a1 a2).eth = s.eth ∧
    (State.setBank s a1 a2).tio = s.tio ∧
    (State.setBank s a1 a2).dia = s.dia := by
  unfold State.setBank
  simp

theorem State.clearTarget_frame (s : State) (a1 : Nat) (a2 : Nat) :
    (State.clearTarget s a1 a2).pending = s.pending ∧
    (State.clearTarget s a1 a2).time = s.time ∧
    (State.clearTarget s a1 a2).tick = s.tick ∧
    (State.clearTarget s a1 a2).free = s.free ∧
    (State.clearTarget s a1 a2).tl = s.tl ∧
    (State.clearTarget s a1 a2).hk = s.hk ∧
    (State.clearTarget s a1 a2).log = s.log ∧
    (State.clearTarget s a1 a2).seqs = s.seqs ∧
    (State.clearTarget s a1 a2).host = s.host ∧
    (State.clearTarget s a1 a2).dict = s.dict ∧
    (State.clearTarget s a1 a2).mclk = s.mclk ∧
    (State.clearTarget s a1 a2).sd = s.sd ∧
    (State.clearTarget s a1 a2).aux = s.aux ∧
    (State.clearTarget s a1 a2).enc = s.enc ∧
    (State.clearTarget s a1 a2).eng = s.eng ∧
    (State.clearTarget s a1 a2).slices = s.slices ∧
    (State.clearTarget s a1 a2).gl = s.gl ∧
    (State.clearTarget s a1 a2).ref = s.ref ∧
    (State.clearTarget s a1 a2).cp = s.cp ∧
    (State.clearTarget s a1 a2).flk = s.flk ∧
    (State.clearTarget s a1 a2).ring = s.ring ∧
    (State.clearTarget s a1 a2).can = s.can ∧
    (State.clearTarget s a1 a2).canPub = s.canPub ∧
    (State.clearTarget s a1 a2).eth = s.eth ∧
    (State.clearTarget s a1 a2).tio = s.tio ∧
    (State.clearTarget s a1 a2).dia = s.dia := by
  have k1 := @State.setBank_frame
  have k2 := @State.ite_frame
  unfold State.clearTarget
  simp [k1, k2]

theorem State.abandon_frame (s : State) :
    (State.abandon s).pending = s.pending ∧
    (State.abandon s).time = s.time ∧
    (State.abandon s).tick = s.tick ∧
    (State.abandon s).free = s.free ∧
    (State.abandon s).tl = s.tl ∧
    (State.abandon s).hk = s.hk ∧
    (State.abandon s).log = s.log ∧
    (State.abandon s).seqs = s.seqs ∧
    (State.abandon s).host = s.host ∧
    (State.abandon s).dict = s.dict ∧
    (State.abandon s).mclk = s.mclk ∧
    (State.abandon s).sd = s.sd ∧
    (State.abandon s).aux = s.aux ∧
    (State.abandon s).enc = s.enc ∧
    (State.abandon s).eng = s.eng ∧
    (State.abandon s).slices = s.slices ∧
    (State.abandon s).gl = s.gl ∧
    (State.abandon s).ref = s.ref ∧
    (State.abandon s).cp = s.cp ∧
    (State.abandon s).flk = s.flk ∧
    (State.abandon s).ring = s.ring ∧
    (State.abandon s).can = s.can ∧
    (State.abandon s).canPub = s.canPub ∧
    (State.abandon s).eth = s.eth ∧
    (State.abandon s).tio = s.tio ∧
    (State.abandon s).dia = s.dia := by
  have k1 := @State.clearTarget_frame
  unfold State.abandon
  repeat' (first | (simp [k1]; done) | split)

theorem State.restart10s_frame (s : State) (a1 : Transfer) :
    (State.restart10s s a1).pending = s.pending ∧
    (State.restart10s s a1).time = s.time ∧
    (State.restart10s s a1).tick = s.tick ∧
    (State.restart10s s a1).free = s.free ∧
    (State.restart10s s a1).tl = s.tl ∧
    (State.restart10s s a1).hk = s.hk ∧
    (State.restart10s s a1).log = s.log ∧
    (State.restart10s s a1).seqs = s.seqs ∧
    (State.restart10s s a1).host = s.host ∧
    (State.restart10s s a1).dict = s.dict ∧
    (State.restart10s s a1).mclk = s.mclk ∧
    (State.restart10s s a1).sd = s.sd ∧
    (State.restart10s s a1).aux = s.aux ∧
    (State.restart10s s a1).enc = s.enc ∧
    (State.restart10s s a1).eng = s.eng ∧
    (State.restart10s s a1).slices = s.slices ∧
    (State.restart10s s a1).gl = s.gl ∧
    (State.restart10s s a1).ref = s.ref ∧
    (State.restart10s s a1).cp = s.cp ∧
    (State.restart10s s a1).flk = s.flk ∧
    (State.restart10s s a1).ring = s.ring ∧
    (State.restart10s s a1).can = s.can ∧
    (State.restart10s s a1).canPub = s.canPub ∧
    (State.restart10s s a1).eth = s.eth ∧
    (State.restart10s s a1).tio = s.tio ∧
    (State.restart10s s a1).dia = s.dia := by
  unfold State.restart10s
  simp

theorem opIngotBegin_frame (a0 : Pkt) (s : State) :
    (opIngotBegin a0 s).st.pending = s.pending ∧
    (opIngotBegin a0 s).st.time = s.time ∧
    (opIngotBegin a0 s).st.tick = s.tick ∧
    (opIngotBegin a0 s).st.free = s.free ∧
    (opIngotBegin a0 s).st.tl = s.tl ∧
    (opIngotBegin a0 s).st.hk = s.hk ∧
    (opIngotBegin a0 s).st.log = s.log ∧
    (opIngotBegin a0 s).st.seqs = s.seqs ∧
    (opIngotBegin a0 s).st.host = s.host ∧
    (opIngotBegin a0 s).st.dict = s.dict ∧
    (opIngotBegin a0 s).st.mclk = s.mclk ∧
    (opIngotBegin a0 s).st.sd = s.sd ∧
    (opIngotBegin a0 s).st.aux = s.aux ∧
    (opIngotBegin a0 s).st.enc = s.enc ∧
    (opIngotBegin a0 s).st.eng = s.eng ∧
    (opIngotBegin a0 s).st.slices = s.slices ∧
    (opIngotBegin a0 s).st.gl = s.gl ∧
    (opIngotBegin a0 s).st.ref = s.ref ∧
    (opIngotBegin a0 s).st.cp = s.cp ∧
    (opIngotBegin a0 s).st.flk = s.flk ∧
    (opIngotBegin a0 s).st.ring = s.ring ∧
    (opIngotBegin a0 s).st.can = s.can ∧
    (opIngotBegin a0 s).st.canPub = s.canPub ∧
    (opIngotBegin a0 s).st.eth = s.eth ∧
    (opIngotBegin a0 s).st.tio = s.tio ∧
    (opIngotBegin a0 s).st.dia = s.dia := by
  have k1 := @State.clearTarget_frame
  have k2 := @State.fail_frame
  have k3 := @State.okWith_frame
  have k4 := @State.restart10s_frame
  have k5 := @State.ite_frame
  unfold opIngotBegin
  dsimp only
  repeat' (first | (simp [k1, k2, k3, k4, k5]; done) | split)

theorem opIngotData_frame (a0 : Pkt) (s : State) :
    (opIngotData a0 s).st.pending = s.pending ∧
    (opIngotData a0 s).st.time = s.time ∧
    (opIngotData a0 s).st.tick = s.tick ∧
    (opIngotData a0 s).st.free = s.free ∧
    (opIngotData a0 s).st.tl = s.tl ∧
    (opIngotData a0 s).st.hk = s.hk ∧
    (opIngotData a0 s).st.log = s.log ∧
    (opIngotData a0 s).st.seqs = s.seqs ∧
    (opIngotData a0 s).st.host = s.host ∧
    (opIngotData a0 s).st.dict = s.dict ∧
    (opIngotData a0 s).st.mclk = s.mclk ∧
    (opIngotData a0 s).st.sd = s.sd ∧
    (opIngotData a0 s).st.aux = s.aux ∧
    (opIngotData a0 s).st.enc = s.enc ∧
    (opIngotData a0 s).st.eng = s.eng ∧
    (opIngotData a0 s).st.slices = s.slices ∧
    (opIngotData a0 s).st.gl = s.gl ∧
    (opIngotData a0 s).st.ref = s.ref ∧
    (opIngotData a0 s).st.cp = s.cp ∧
    (opIngotData a0 s).st.flk = s.flk ∧
    (opIngotData a0 s).st.ring = s.ring ∧
    (opIngotData a0 s).st.can = s.can ∧
    (opIngotData a0 s).st.canPub = s.canPub ∧
    (opIngotData a0 s).st.eth = s.eth ∧
    (opIngotData a0 s).st.tio = s.tio ∧
    (opIngotData a0 s).st.dia = s.dia := by
  have k1 := @State.fail_frame
  have k2 := @State.okWith_frame
  have k3 := @State.restart10s_frame
  have k4 := @State.ite_frame
  unfold opIngotData
  dsimp only
  repeat' (first | (simp [k1, k2, k3, k4]; done) | split)

theorem opIngotEnd_frame (a0 : Pkt) (s : State) :
    (opIngotEnd a0 s).st.pending = s.pending ∧
    (opIngotEnd a0 s).st.time = s.time ∧
    (opIngotEnd a0 s).st.tick = s.tick ∧
    (opIngotEnd a0 s).st.free = s.free ∧
    (opIngotEnd a0 s).st.tl = s.tl ∧
    (opIngotEnd a0 s).st.hk = s.hk ∧
    (opIngotEnd a0 s).st.log = s.log ∧
    (opIngotEnd a0 s).st.seqs = s.seqs ∧
    (opIngotEnd a0 s).st.host = s.host ∧
    (opIngotEnd a0 s).st.dict = s.dict ∧
    (opIngotEnd a0 s).st.mclk = s.mclk ∧
    (opIngotEnd a0 s).st.sd = s.sd ∧
    (opIngotEnd a0 s).st.aux = s.aux ∧
    (opIngotEnd a0 s).st.enc = s.enc ∧
    (opIngotEnd a0 s).st.eng = s.eng ∧
    (opIngotEnd a0 s).st.slices = s.slices ∧
    (opIngotEnd a0 s).st.gl = s.gl ∧
    (opIngotEnd a0 s).st.ref = s.ref ∧
    (opIngotEnd a0 s).st.cp = s.cp ∧
    (opIngotEnd a0 s).st.flk = s.flk ∧
    (opIngotEnd a0 s).st.ring = s.ring ∧
    (opIngotEnd a0 s).st.can = s.can ∧
    (opIngotEnd a0 s).st.canPub = s.canPub ∧
    (opIngotEnd a0 s).st.eth = s.eth ∧
    (opIngotEnd a0 s).st.tio = s.tio ∧
    (opIngotEnd a0 s).st.dia = s.dia := by
  have k1 := @State.accept_frame
  have k2 := @State.clearTarget_frame
  have k3 := @State.fail_frame
  have k4 := @State.ite_frame
  unfold opIngotEnd
  dsimp only
  repeat' (first | (simp [k1, k2, k3, k4]; done) | split)

theorem effIngotCheckDone_frame (a0 : IngotResult) (s : State) :
    (effIngotCheckDone a0 s).pending = s.pending ∧
    (effIngotCheckDone a0 s).time = s.time ∧
    (effIngotCheckDone a0 s).tick = s.tick ∧
    (effIngotCheckDone a0 s).free = s.free ∧
    (effIngotCheckDone a0 s).tl = s.tl ∧
    (effIngotCheckDone a0 s).hk = s.hk ∧
    (effIngotCheckDone a0 s).host = s.host ∧
    (effIngotCheckDone a0 s).mclk = s.mclk ∧
    (effIngotCheckDone a0 s).sd = s.sd ∧
    (effIngotCheckDone a0 s).aux = s.aux ∧
    (effIngotCheckDone a0 s).enc = s.enc ∧
    (effIngotCheckDone a0 s).eng = s.eng ∧
    (effIngotCheckDone a0 s).slices = s.slices ∧
    (effIngotCheckDone a0 s).gl = s.gl ∧
    (effIngotCheckDone a0 s).ref = s.ref ∧
    (effIngotCheckDone a0 s).cp = s.cp ∧
    (effIngotCheckDone a0 s).flk = s.flk ∧
    (effIngotCheckDone a0 s).ring = s.ring ∧
    (effIngotCheckDone a0 s).can = s.can ∧
    (effIngotCheckDone a0 s).canPub = s.canPub ∧
    (effIngotCheckDone a0 s).eth = s.eth ∧
    (effIngotCheckDone a0 s).tio = s.tio := by
  have k1 := @State.clearTarget_frame
  have k2 := @State.post_frame
  have k3 := @State.setBank_frame
  have k4 := @State.ite_frame
  unfold effIngotCheckDone
  repeat' (first | (simp [k1, k2, k3, k4]; done) | split)

theorem effIngotTransferTimeout_frame (s : State) :
    (effIngotTransferTimeout s).pending = s.pending ∧
    (effIngotTransferTimeout s).time = s.time ∧
    (effIngotTransferTimeout s).tick = s.tick ∧
    (effIngotTransferTimeout s).free = s.free ∧
    (effIngotTransferTimeout s).tl = s.tl ∧
    (effIngotTransferTimeout s).hk = s.hk ∧
    (effIngotTransferTimeout s).log = s.log ∧
    (effIngotTransferTimeout s).seqs = s.seqs ∧
    (effIngotTransferTimeout s).dict = s.dict ∧
    (effIngotTransferTimeout s).mclk = s.mclk ∧
    (effIngotTransferTimeout s).sd = s.sd ∧
    (effIngotTransferTimeout s).aux = s.aux ∧
    (effIngotTransferTimeout s).enc = s.enc ∧
    (effIngotTransferTimeout s).eng = s.eng ∧
    (effIngotTransferTimeout s).slices = s.slices ∧
    (effIngotTransferTimeout s).gl = s.gl ∧
    (effIngotTransferTimeout s).ref = s.ref ∧
    (effIngotTransferTimeout s).cp = s.cp ∧
    (effIngotTransferTimeout s).flk = s.flk ∧
    (effIngotTransferTimeout s).ring = s.ring ∧
    (effIngotTransferTimeout s).can = s.can ∧
    (effIngotTransferTimeout s).canPub = s.canPub ∧
    (effIngotTransferTimeout s).eth = s.eth ∧
    (effIngotTransferTimeout s).tio = s.tio ∧
    (effIngotTransferTimeout s).dia = s.dia := by
  have k1 := @State.abandon_frame
  have k2 := @State.ite_frame
  unfold effIngotTransferTimeout
  repeat' (first | (simp [k1, k2]; done) | split)

theorem opActivate_frame (a0 : Pkt) (s : State) :
    (opActivate a0 s).st.pending = s.pending ∧
    (opActivate a0 s).st.time = s.time ∧
    (opActivate a0 s).st.tick = s.tick ∧
    (opActivate a0 s).st.free = s.free ∧
    (opActivate a0 s).st.tl = s.tl ∧
    (opActivate a0 s).st.hk = s.hk ∧
    (opActivate a0 s).st.log = s.log ∧
    (opActivate a0 s).st.seqs = s.seqs ∧
    (opActivate a0 s).st.host = s.host ∧
    (opActivate a0 s).st.dict = s.dict ∧
    (opActivate a0 s).st.mclk = s.mclk ∧
    (opActivate a0 s).st.sd = s.sd ∧
    (opActivate a0 s).st.aux = s.aux ∧
    (opActivate a0 s).st.enc = s.enc ∧
    (opActivate a0 s).st.eng = s.eng ∧
    (opActivate a0 s).st.slices = s.slices ∧
    (opActivate a0 s).st.gl = s.gl ∧
    (opActivate a0 s).st.ref = s.ref ∧
    (opActivate a0 s).st.cp = s.cp ∧
    (opActivate a0 s).st.flk = s.flk ∧
    (opActivate a0 s).st.ring = s.ring ∧
    (opActivate a0 s).st.can = s.can ∧
    (opActivate a0 s).st.canPub = s.canPub ∧
    (opActivate a0 s).st.eth = s.eth ∧
    (opActivate a0 s).st.tio = s.tio ∧
    (opActivate a0 s).st.dia = s.dia := by
  have k1 := @State.accept_frame
  have k2 := @State.fail_frame
  have k3 := @State.ite_frame
  unfold opActivate
  dsimp only
  repeat' (first | (simp [k1, k2, k3]; done) | split)

theorem effMgtActivateApply_frame (s : State) :
    (effMgtActivateApply s).pending = s.pending ∧
    (effMgtActivateApply s).tick = s.tick := by
  have k1 := @State.devReset_frame
  have k2 := @State.post_frame
  have k3 := @State.selectBank_frame
  have k4 := @State.ite_frame
  unfold effMgtActivateApply
  repeat' (first | (simp [k1, k2, k3, k4]; done) | split)

theorem State.bindOp_frame (s : State) (a1 : List Byte) (a2 : Option Nat) :
    (State.bindOp s a1 a2).st.pending = s.pending ∧
    (State.bindOp s a1 a2).st.time = s.time ∧
    (State.bindOp s a1 a2).st.tick = s.tick ∧
    (State.bindOp s a1 a2).st.free = s.free ∧
    (State.bindOp s a1 a2).st.tl = s.tl ∧
    (State.bindOp s a1 a2).st.hk = s.hk ∧
    (State.bindOp s a1 a2).st.host = s.host ∧
    (State.bindOp s a1 a2).st.mclk = s.mclk ∧
    (State.bindOp s a1 a2).st.sd = s.sd ∧
    (State.bindOp s a1 a2).st.aux = s.aux ∧
    (State.bindOp s a1 a2).st.enc = s.enc ∧
    (State.bindOp s a1 a2).st.eng = s.eng ∧
    (State.bindOp s a1 a2).st.slices = s.slices ∧
    (State.bindOp s a1 a2).st.gl = s.gl ∧
    (State.bindOp s a1 a2).st.ref = s.ref ∧
    (State.bindOp s a1 a2).st.cp = s.cp ∧
    (State.bindOp s a1 a2).st.flk = s.flk ∧
    (State.bindOp s a1 a2).st.ring = s.ring ∧
    (State.bindOp s a1 a2).st.can = s.can ∧
    (State.bindOp s a1 a2).st.canPub = s.canPub ∧
    (State.bindOp s a1 a2).st.eth = s.eth ∧
    (State.bindOp s a1 a2).st.tio = s.tio := by
  have k1 := @State.fail_frame
  have k2 := @State.okay_frame
  have k3 := @State.post_frame
  have k4 := @State.ite_frame
  unfold State.bindOp
  dsimp only
  repeat' (first | (simp [k1, k2, k3, k4]; done) | split)

theorem State.anchorOp_frame (s : State) (a1 : Pkt) (a2 : List Byte) :
    (State.anchorOp s a1 a2).st.pending = s.pending ∧
    (State.anchorOp s a1 a2).st.time = s.time ∧
    (State.anchorOp s a1 a2).st.tick = s.tick ∧
    (State.anchorOp s a1 a2).st.free = s.free ∧
    (State.anchorOp s a1 a2).st.tl = s.tl ∧
    (State.anchorOp s a1 a2).st.hk = s.hk ∧
    (State.anchorOp s a1 a2).st.host = s.host ∧
    (State.anchorOp s a1 a2).st.mclk = s.mclk ∧
    (State.anchorOp s a1 a2).st.sd = s.sd ∧
    (State.anchorOp s a1 a2).st.aux = s.aux ∧
    (State.anchorOp s a1 a2).st.enc = s.enc ∧
    (State.anchorOp s a1 a2).st.eng = s.eng ∧
    (State.anchorOp s a1 a2).st.slices = s.slices ∧
    (State.anchorOp s a1 a2).st.gl = s.gl ∧
    (State.anchorOp s a1 a2).st.ref = s.ref ∧
    (State.anchorOp s a1 a2).st.cp = s.cp ∧
    (State.anchorOp s a1 a2).st.flk = s.flk ∧
    (State.anchorOp s a1 a2).st.ring = s.ring ∧
    (State.anchorOp s a1 a2).st.can = s.can ∧
    (State.anchorOp s a1 a2).st.canPub = s.canPub ∧
    (State.anchorOp s a1 a2).st.eth = s.eth ∧
    (State.anchorOp s a1 a2).st.tio = s.tio := by
  have k1 := @State.fail_frame
  have k2 := @State.okay_frame
  have k3 := @State.post_frame
  have k4 := @State.ite_frame
  unfold State.anchorOp
  dsimp only
  repeat' (first | (simp [k1, k2, k3, k4]; done) | split)

theorem State.unbindOp_frame (s : State) (a1 : List Byte) :
    (State.unbindOp s a1).st.pending = s.pending ∧
    (State.unbindOp s a1).st.time = s.time ∧
    (State.unbindOp s a1).st.tick = s.tick ∧
    (State.unbindOp s a1).st.free = s.free ∧
    (State.unbindOp s a1).st.tl = s.tl ∧
    (State.unbindOp s a1).st.hk = s.hk ∧
    (State.unbindOp s a1).st.host = s.host ∧
    (State.unbindOp s a1).st.mclk = s.mclk ∧
    (State.unbindOp s a1).st.sd = s.sd ∧
    (State.unbindOp s a1).st.aux = s.aux ∧
    (State.unbindOp s a1).st.enc = s.enc ∧
    (State.unbindOp s a1).st.eng = s.eng ∧
    (State.unbindOp s a1).st.slices = s.slices ∧
    (State.unbindOp s a1).st.gl = s.gl ∧
    (State.unbindOp s a1).st.ref = s.ref ∧
    (State.unbindOp s a1).st.cp = s.cp ∧
    (State.unbindOp s a1).st.flk = s.flk ∧
    (State.unbindOp s a1).st.ring = s.ring ∧
    (State.unbindOp s a1).st.can = s.can ∧
    (State.unbindOp s a1).st.canPub = s.canPub ∧
    (State.unbindOp s a1).st.eth = s.eth ∧
    (State.unbindOp s a1).st.tio = s.tio := by
  have k1 := @State.fail_frame
  have k2 := @State.okay_frame
  have k3 := @State.post_frame
  unfold State.unbindOp
  repeat' (first | (simp [k1, k2, k3]; done) | split)

theorem opBind_frame (a0 : Option Nat) (a1 : Pkt) (s : State) :
    (opBind a0 a1 s).st.pending = s.pending ∧
    (opBind a0 a1 s).st.time = s.time ∧
    (opBind a0 a1 s).st.tick = s.tick ∧
    (opBind a0 a1 s).st.free = s.free ∧
    (opBind a0 a1 s).st.tl = s.tl ∧
    (opBind a0 a1 s).st.hk = s.hk ∧
    (opBind a0 a1 s).st.host = s.host ∧
    (opBind a0 a1 s).st.mclk = s.mclk ∧
    (opBind a0 a1 s).st.sd = s.sd ∧
    (opBind a0 a1 s).st.aux = s.aux ∧
    (opBind a0 a1 s).st.enc = s.enc ∧
    (opBind a0 a1 s).st.eng = s.eng ∧
    (opBind a0 a1 s).st.slices = s.slices ∧
    (opBind a0 a1 s).st.gl = s.gl ∧
    (opBind a0 a1 s).st.ref = s.ref ∧
    (opBind a0 a1 s).st.cp = s.cp ∧
    (opBind a0 a1 s).st.flk = s.flk ∧
    (opBind a0 a1 s).st.ring = s.ring ∧
    (opBind a0 a1 s).st.can = s.can ∧
    (opBind a0 a1 s).st.canPub = s.canPub ∧
    (opBind a0 a1 s).st.eth = s.eth ∧
    (opBind a0 a1 s).st.tio = s.tio := by
  have k1 := @State.anchorOp_frame
  have k2 := @State.bindOp_frame
  have k3 := @State.fail_frame
  have k4 := @State.unbindOp_frame
  have k5 := @State.ite_frame
  unfold opBind
  dsimp only
  repeat' (first | (simp [k1, k2, k3, k4, k5]; done) | split)

theorem opAttest_frame (a0 : Pkt) (s : State) :
    (opAttest a0 s).st.pending = s.pending ∧
    (opAttest a0 s).st.time = s.time ∧
    (opAttest a0 s).st.tick = s.tick ∧
    (opAttest a0 s).st.free = s.free ∧
    (opAttest a0 s).st.tl = s.tl ∧
    (opAttest a0 s).st.mu = s.mu ∧
    (opAttest a0 s).st.hk = s.hk ∧
    (opAttest a0 s).st.log = s.log ∧
    (opAttest a0 s).st.seqs = s.seqs ∧
    (opAttest a0 s).st.host = s.host ∧
    (opAttest a0 s).st.dict = s.dict ∧
    (opAttest a0 s).st.mclk = s.mclk ∧
    (opAttest a0 s).st.sd = s.sd ∧
    (opAttest a0 s).st.aux = s.aux ∧
    (opAttest a0 s).st.enc = s.enc ∧
    (opAttest a0 s).st.eng = s.eng ∧
    (opAttest a0 s).st.slices = s.slices ∧
    (opAttest a0 s).st.gl = s.gl ∧
    (opAttest a0 s).st.ref = s.ref ∧
    (opAttest a0 s).st.cp = s.cp ∧
    (opAttest a0 s).st.flk = s.flk ∧
    (opAttest a0 s).st.ring = s.ring ∧
    (opAttest a0 s).st.can = s.can ∧
    (opAttest a0 s).st.canPub = s.canPub ∧
    (opAttest a0 s).st.eth = s.eth ∧
    (opAttest a0 s).st.tio = s.tio ∧
    (opAttest a0 s).st.dia = s.dia := by
  have k1 := @State.fail_frame
  have k2 := @State.okWith_frame
  have k3 := @State.ite_frame
  unfold opAttest
  dsimp only
  repeat' (first | (simp [k1, k2, k3]; done) | split)

theorem opLogRead_frame (a0 : Pkt) (s : State) :
    (opLogRead a0 s).st.pending = s.pending ∧
    (opLogRead a0 s).st.time = s.time ∧
    (opLogRead a0 s).st.tick = s.tick ∧
    (opLogRead a0 s).st.free = s.free ∧
    (opLogRead a0 s).st.tl = s.tl ∧
    (opLogRead a0 s).st.mu = s.mu ∧
    (opLogRead a0 s).st.hk = s.hk ∧
    (opLogRead a0 s).st.log = s.log ∧
    (opLogRead a0 s).st.seqs = s.seqs ∧
    (opLogRead a0 s).st.host = s.host ∧
    (opLogRead a0 s).st.dict = s.dict ∧
    (opLogRead a0 s).st.mclk = s.mclk ∧
    (opLogRead a0 s).st.sd = s.sd ∧
    (opLogRead a0 s).st.aux = s.aux ∧
    (opLogRead a0 s).st.enc = s.enc ∧
    (opLogRead a0 s).st.eng = s.eng ∧
    (opLogRead a0 s).st.slices = s.slices ∧
    (opLogRead a0 s).st.gl = s.gl ∧
    (opLogRead a0 s).st.ref = s.ref ∧
    (opLogRead a0 s).st.cp = s.cp ∧
    (opLogRead a0 s).st.flk = s.flk ∧
    (opLogRead a0 s).st.ring = s.ring ∧
    (opLogRead a0 s).st.can = s.can ∧
    (opLogRead a0 s).st.canPub = s.canPub ∧
    (opLogRead a0 s).st.eth = s.eth ∧
    (opLogRead a0 s).st.tio = s.tio ∧
    (opLogRead a0 s).st.dia = s.dia := by
  have k1 := @State.fail_frame
  have k2 := @State.okWith_frame
  have k3 := @State.ite_frame
  unfold opLogRead
  dsimp only
  repeat' (first | (simp [k1, k2, k3]; done) | split)

theorem effLogNorCopy_frame (s : State) :
    (effLogNorCopy s).pending = s.pending ∧
    (effLogNorCopy s).time = s.time ∧
    (effLogNorCopy s).tick = s.tick ∧
    (effLogNorCopy s).free = s.free ∧
    (effLogNorCopy s).tl = s.tl ∧
    (effLogNorCopy s).mu = s.mu ∧
    (effLogNorCopy s).hk = s.hk ∧
    (effLogNorCopy s).seqs = s.seqs ∧
    (effLogNorCopy s).host = s.host ∧
    (effLogNorCopy s).dict = s.dict ∧
    (effLogNorCopy s).mclk = s.mclk ∧
    (effLogNorCopy s).sd = s.sd ∧
    (effLogNorCopy s).aux = s.aux ∧
    (effLogNorCopy s).enc = s.enc ∧
    (effLogNorCopy s).eng = s.eng ∧
    (effLogNorCopy s).slices = s.slices ∧
    (effLogNorCopy s).gl = s.gl ∧
    (effLogNorCopy s).ref = s.ref ∧
    (effLogNorCopy s).cp = s.cp ∧
    (effLogNorCopy s).flk = s.flk ∧
    (effLogNorCopy s).ring = s.ring ∧
    (effLogNorCopy s).can = s.can ∧
    (effLogNorCopy s).canPub = s.canPub ∧
    (effLogNorCopy s).eth = s.eth ∧
    (effLogNorCopy s).tio = s.tio ∧
    (effLogNorCopy s).dia = s.dia := by
  have k1 := @State.ite_frame
  unfold effLogNorCopy
  simp [k1]

theorem State.placeObj_frame (s : State) (a1 : Nat) (a2 : Nat) :
    (State.placeObj s a1 a2).pending = s.pending ∧
    (State.placeObj s a1 a2).time = s.time ∧
    (State.placeObj s a1 a2).tick = s.tick ∧
    (State.placeObj s a1 a2).free = s.free ∧
    (State.placeObj s a1 a2).tl = s.tl ∧
    (State.placeObj s a1 a2).mu = s.mu ∧
    (State.placeObj s a1 a2).hk = s.hk ∧
    (State.placeObj s a1 a2).log = s.log ∧
    (State.placeObj s a1 a2).seqs = s.seqs ∧
    (State.placeObj s a1 a2).host = s.host ∧
    (State.placeObj s a1 a2).mclk = s.mclk ∧
    (State.placeObj s a1 a2).sd = s.sd ∧
    (State.placeObj s a1 a2).aux = s.aux ∧
    (State.placeObj s a1 a2).enc = s.enc ∧
    (State.placeObj s a1 a2).slices = s.slices ∧
    (State.placeObj s a1 a2).gl = s.gl ∧
    (State.placeObj s a1 a2).ref = s.ref ∧
    (State.placeObj s a1 a2).cp = s.cp ∧
    (State.placeObj s a1 a2).flk = s.flk ∧
    (State.placeObj s a1 a2).ring = s.ring ∧
    (State.placeObj s a1 a2).can = s.can ∧
    (State.placeObj s a1 a2).canPub = s.canPub ∧
    (State.placeObj s a1 a2).eth = s.eth ∧
    (State.placeObj s a1 a2).tio = s.tio ∧
    (State.placeObj s a1 a2).dia = s.dia := by
  have k1 := @State.ite_frame
  unfold State.placeObj
  simp [k1]

theorem State.norFail_frame (s : State) (a1 : Bool) :
    (State.norFail s a1).pending = s.pending ∧
    (State.norFail s a1).time = s.time ∧
    (State.norFail s a1).tick = s.tick ∧
    (State.norFail s a1).tl = s.tl ∧
    (State.norFail s a1).hk = s.hk ∧
    (State.norFail s a1).host = s.host ∧
    (State.norFail s a1).mclk = s.mclk ∧
    (State.norFail s a1).sd = s.sd ∧
    (State.norFail s a1).aux = s.aux ∧
    (State.norFail s a1).enc = s.enc ∧
    (State.norFail s a1).eng = s.eng ∧
    (State.norFail s a1).slices = s.slices ∧
    (State.norFail s a1).gl = s.gl ∧
    (State.norFail s a1).ref = s.ref ∧
    (State.norFail s a1).cp = s.cp ∧
    (State.norFail s a1).flk = s.flk ∧
    (State.norFail s a1).ring = s.ring ∧
    (State.norFail s a1).can = s.can ∧
    (State.norFail s a1).canPub = s.canPub ∧
    (State.norFail s a1).eth = s.eth ∧
    (State.norFail s a1).tio = s.tio := by
  have k1 := @State.post_frame
  have k2 := @State.ite_frame
  unfold State.norFail
  simp [k1, k2]

theorem effNorPersistWrite_frame (a0 : Nat) (a1 : Bool) (s : State) :
    (effNorPersistWrite a0 a1 s).pending = s.pending ∧
    (effNorPersistWrite a0 a1 s).time = s.time ∧
    (effNorPersistWrite a0 a1 s).tick = s.tick ∧
    (effNorPersistWrite a0 a1 s).tl = s.tl ∧
    (effNorPersistWrite a0 a1 s).hk = s.hk ∧
    (effNorPersistWrite a0 a1 s).host = s.host ∧
    (effNorPersistWrite a0 a1 s).mclk = s.mclk ∧
    (effNorPersistWrite a0 a1 s).sd = s.sd ∧
    (effNorPersistWrite a0 a1 s).aux = s.aux ∧
    (effNorPersistWrite a0 a1 s).enc = s.enc ∧
    (effNorPersistWrite a0 a1 s).eng = s.eng ∧
    (effNorPersistWrite a0 a1 s).slices = s.slices ∧
    (effNorPersistWrite a0 a1 s).gl = s.gl ∧
    (effNorPersistWrite a0 a1 s).ref = s.ref ∧
    (effNorPersistWrite a0 a1 s).cp = s.cp ∧
    (effNorPersistWrite a0 a1 s).flk = s.flk ∧
    (effNorPersistWrite a0 a1 s).ring = s.ring ∧
    (effNorPersistWrite a0 a1 s).can = s.can ∧
    (effNorPersistWrite a0 a1 s).canPub = s.canPub ∧
    (effNorPersistWrite a0 a1 s).tio = s.tio := by
  have k1 := @State.norFail_frame
  have k2 := @State.ite_frame
  unfold effNorPersistWrite
  simp [k1, k2]

end Sys2Proof.Machine
end

