-- ==== Sys2Proof/Laws/Selftest.lean ====
section
/-!
SUPPORT. What each operation of Machine/Selftest.lean leaves as it was: the parts of State that it cannot change.
-/

namespace Sys2Proof.Machine

open Sys2Proof

theorem State.bistWindow_frame (s : State) :
    (State.bistWindow s).pending = s.pending ∧
    (State.bistWindow s).time = s.time ∧
    (State.bistWindow s).tick = s.tick ∧
    (State.bistWindow s).free = s.free ∧
    (State.bistWindow s).tl = s.tl ∧
    (State.bistWindow s).mu = s.mu ∧
    (State.bistWindow s).hk = s.hk ∧
    (State.bistWindow s).log = s.log ∧
    (State.bistWindow s).seqs = s.seqs ∧
    (State.bistWindow s).host = s.host ∧
    (State.bistWindow s).dict = s.dict ∧
    (State.bistWindow s).mclk = s.mclk ∧
    (State.bistWindow s).sd = s.sd ∧
    (State.bistWindow s).aux = s.aux ∧
    (State.bistWindow s).enc = s.enc ∧
    (State.bistWindow s).eng = s.eng ∧
    (State.bistWindow s).slices = s.slices ∧
    (State.bistWindow s).gl = s.gl ∧
    (State.bistWindow s).ref = s.ref ∧
    (State.bistWindow s).cp = s.cp ∧
    (State.bistWindow s).flk = s.flk ∧
    (State.bistWindow s).ring = s.ring ∧
    (State.bistWindow s).can = s.can ∧
    (State.bistWindow s).canPub = s.canPub ∧
    (State.bistWindow s).eth = s.eth ∧
    (State.bistWindow s).tio = s.tio := by
  have k1 := @State.ite_frame
  unfold State.bistWindow
  simp [k1]

theorem effBistWindowStart_frame (s : State) :
    (effBistWindowStart s).pending = s.pending ∧
    (effBistWindowStart s).time = s.time ∧
    (effBistWindowStart s).tick = s.tick ∧
    (effBistWindowStart s).free = s.free ∧
    (effBistWindowStart s).tl = s.tl ∧
    (effBistWindowStart s).mu = s.mu ∧
    (effBistWindowStart s).hk = s.hk ∧
    (effBistWindowStart s).log = s.log ∧
    (effBistWindowStart s).seqs = s.seqs ∧
    (effBistWindowStart s).host = s.host ∧
    (effBistWindowStart s).dict = s.dict ∧
    (effBistWindowStart s).mclk = s.mclk ∧
    (effBistWindowStart s).sd = s.sd ∧
    (effBistWindowStart s).aux = s.aux ∧
    (effBistWindowStart s).enc = s.enc ∧
    (effBistWindowStart s).eng = s.eng ∧
    (effBistWindowStart s).slices = s.slices ∧
    (effBistWindowStart s).gl = s.gl ∧
    (effBistWindowStart s).ref = s.ref ∧
    (effBistWindowStart s).cp = s.cp ∧
    (effBistWindowStart s).flk = s.flk ∧
    (effBistWindowStart s).ring = s.ring ∧
    (effBistWindowStart s).can = s.can ∧
    (effBistWindowStart s).canPub = s.canPub ∧
    (effBistWindowStart s).eth = s.eth ∧
    (effBistWindowStart s).tio = s.tio := by
  have k1 := @State.bistWindow_frame
  have k2 := @State.ite_frame
  unfold effBistWindowStart
  simp [k1, k2]

theorem effBistSliceStart_frame (s : State) :
    (effBistSliceStart s).pending = s.pending ∧
    (effBistSliceStart s).time = s.time ∧
    (effBistSliceStart s).tick = s.tick ∧
    (effBistSliceStart s).free = s.free ∧
    (effBistSliceStart s).tl = s.tl ∧
    (effBistSliceStart s).mu = s.mu ∧
    (effBistSliceStart s).hk = s.hk ∧
    (effBistSliceStart s).log = s.log ∧
    (effBistSliceStart s).seqs = s.seqs ∧
    (effBistSliceStart s).host = s.host ∧
    (effBistSliceStart s).dict = s.dict ∧
    (effBistSliceStart s).mclk = s.mclk ∧
    (effBistSliceStart s).sd = s.sd ∧
    (effBistSliceStart s).aux = s.aux ∧
    (effBistSliceStart s).enc = s.enc ∧
    (effBistSliceStart s).eng = s.eng ∧
    (effBistSliceStart s).slices = s.slices ∧
    (effBistSliceStart s).gl = s.gl ∧
    (effBistSliceStart s).ref = s.ref ∧
    (effBistSliceStart s).cp = s.cp ∧
    (effBistSliceStart s).flk = s.flk ∧
    (effBistSliceStart s).ring = s.ring ∧
    (effBistSliceStart s).can = s.can ∧
    (effBistSliceStart s).canPub = s.canPub ∧
    (effBistSliceStart s).eth = s.eth ∧
    (effBistSliceStart s).tio = s.tio := by
  have k1 := @State.bistWindow_frame
  have k2 := @State.ite_frame
  unfold effBistSliceStart
  repeat' (first | (simp [k1, k2]; done) | split)

theorem State.setCurSlice_frame (s : State) (a1 : BistSlice) :
    (State.setCurSlice s a1).pending = s.pending ∧
    (State.setCurSlice s a1).time = s.time ∧
    (State.setCurSlice s a1).tick = s.tick ∧
    (State.setCurSlice s a1).free = s.free ∧
    (State.setCurSlice s a1).tl = s.tl ∧
    (State.setCurSlice s a1).mu = s.mu ∧
    (State.setCurSlice s a1).hk = s.hk ∧
    (State.setCurSlice s a1).log = s.log ∧
    (State.setCurSlice s a1).seqs = s.seqs ∧
    (State.setCurSlice s a1).host = s.host ∧
    (State.setCurSlice s a1).dict = s.dict ∧
    (State.setCurSlice s a1).mclk = s.mclk ∧
    (State.setCurSlice s a1).sd = s.sd ∧
    (State.setCurSlice s a1).aux = s.aux ∧
    (State.setCurSlice s a1).enc = s.enc ∧
    (State.setCurSlice s a1).eng = s.eng ∧
    (State.setCurSlice s a1).slices = s.slices ∧
    (State.setCurSlice s a1).gl = s.gl ∧
    (State.setCurSlice s a1).ref = s.ref ∧
    (State.setCurSlice s a1).cp = s.cp ∧
    (State.setCurSlice s a1).flk = s.flk ∧
    (State.setCurSlice s a1).ring = s.ring ∧
    (State.setCurSlice s a1).can = s.can ∧
    (State.setCurSlice s a1).canPub = s.canPub ∧
    (State.setCurSlice s a1).eth = s.eth ∧
    (State.setCurSlice s a1).tio = s.tio := by
  unfold State.setCurSlice
  simp

theorem effBistCopyInDone_frame (s : State) :
    (effBistCopyInDone s).pending = s.pending ∧
    (effBistCopyInDone s).time = s.time ∧
    (effBistCopyInDone s).tick = s.tick ∧
    (effBistCopyInDone s).free = s.free ∧
    (effBistCopyInDone s).tl = s.tl ∧
    (effBistCopyInDone s).mu = s.mu ∧
    (effBistCopyInDone s).hk = s.hk ∧
    (effBistCopyInDone s).log = s.log ∧
    (effBistCopyInDone s).seqs = s.seqs ∧
    (effBistCopyInDone s).host = s.host ∧
    (effBistCopyInDone s).dict = s.dict ∧
    (effBistCopyInDone s).mclk = s.mclk ∧
    (effBistCopyInDone s).sd = s.sd ∧
    (effBistCopyInDone s).aux = s.aux ∧
    (effBistCopyInDone s).enc = s.enc ∧
    (effBistCopyInDone s).eng = s.eng ∧
    (effBistCopyInDone s).slices = s.slices ∧
    (effBistCopyInDone s).gl = s.gl ∧
    (effBistCopyInDone s).ref = s.ref ∧
    (effBistCopyInDone s).cp = s.cp ∧
    (effBistCopyInDone s).flk = s.flk ∧
    (effBistCopyInDone s).ring = s.ring ∧
    (effBistCopyInDone s).can = s.can ∧
    (effBistCopyInDone s).canPub = s.canPub ∧
    (effBistCopyInDone s).eth = s.eth ∧
    (effBistCopyInDone s).tio = s.tio := by
  have k1 := @State.setCurSlice_frame
  have k2 := @State.ite_frame
  unfold effBistCopyInDone
  repeat' (first | (simp [k1, k2]; done) | split)

theorem State.putFail_frame (s : State) (a1 : BistSlice) (a2 : CellFail) :
    (State.putFail s a1 a2).pending = s.pending ∧
    (State.putFail s a1 a2).time = s.time ∧
    (State.putFail s a1 a2).tick = s.tick ∧
    (State.putFail s a1 a2).free = s.free ∧
    (State.putFail s a1 a2).tl = s.tl ∧
    (State.putFail s a1 a2).mu = s.mu ∧
    (State.putFail s a1 a2).hk = s.hk ∧
    (State.putFail s a1 a2).log = s.log ∧
    (State.putFail s a1 a2).seqs = s.seqs ∧
    (State.putFail s a1 a2).host = s.host ∧
    (State.putFail s a1 a2).mclk = s.mclk ∧
    (State.putFail s a1 a2).sd = s.sd ∧
    (State.putFail s a1 a2).aux = s.aux ∧
    (State.putFail s a1 a2).enc = s.enc ∧
    (State.putFail s a1 a2).eng = s.eng ∧
    (State.putFail s a1 a2).slices = s.slices ∧
    (State.putFail s a1 a2).gl = s.gl ∧
    (State.putFail s a1 a2).ref = s.ref ∧
    (State.putFail s a1 a2).cp = s.cp ∧
    (State.putFail s a1 a2).flk = s.flk ∧
    (State.putFail s a1 a2).ring = s.ring ∧
    (State.putFail s a1 a2).can = s.can ∧
    (State.putFail s a1 a2).canPub = s.canPub ∧
    (State.putFail s a1 a2).eth = s.eth ∧
    (State.putFail s a1 a2).tio = s.tio := by
  have k1 := @State.ite_frame
  unfold State.putFail
  simp [k1]

theorem State.bistFails_frame (s : State) (a1 : BistSlice) (a2 : List CellFail) :
    (State.bistFails s a1 a2).pending = s.pending ∧
    (State.bistFails s a1 a2).time = s.time ∧
    (State.bistFails s a1 a2).tick = s.tick ∧
    (State.bistFails s a1 a2).free = s.free ∧
    (State.bistFails s a1 a2).tl = s.tl ∧
    (State.bistFails s a1 a2).mu = s.mu ∧
    (State.bistFails s a1 a2).hk = s.hk ∧
    (State.bistFails s a1 a2).log = s.log ∧
    (State.bistFails s a1 a2).seqs = s.seqs ∧
    (State.bistFails s a1 a2).host = s.host ∧
    (State.bistFails s a1 a2).mclk = s.mclk ∧
    (State.bistFails s a1 a2).sd = s.sd ∧
    (State.bistFails s a1 a2).aux = s.aux ∧
    (State.bistFails s a1 a2).enc = s.enc ∧
    (State.bistFails s a1 a2).eng = s.eng ∧
    (State.bistFails s a1 a2).slices = s.slices ∧
    (State.bistFails s a1 a2).gl = s.gl ∧
    (State.bistFails s a1 a2).ref = s.ref ∧
    (State.bistFails s a1 a2).cp = s.cp ∧
    (State.bistFails s a1 a2).flk = s.flk ∧
    (State.bistFails s a1 a2).ring = s.ring ∧
    (State.bistFails s a1 a2).can = s.can ∧
    (State.bistFails s a1 a2).canPub = s.canPub ∧
    (State.bistFails s a1 a2).eth = s.eth ∧
    (State.bistFails s a1 a2).tio = s.tio := by
  have k1 := @State.putFail_frame
  have k2 := @State.ite_frame
  unfold State.bistFails
  simp [k1, k2]

theorem State.toCopyBack_frame (s : State) (a1 : Bool) (a2 : List CellFail) :
    (State.toCopyBack s a1 a2).pending = s.pending ∧
    (State.toCopyBack s a1 a2).time = s.time ∧
    (State.toCopyBack s a1 a2).tick = s.tick ∧
    (State.toCopyBack s a1 a2).free = s.free ∧
    (State.toCopyBack s a1 a2).tl = s.tl ∧
    (State.toCopyBack s a1 a2).mu = s.mu ∧
    (State.toCopyBack s a1 a2).hk = s.hk ∧
    (State.toCopyBack s a1 a2).log = s.log ∧
    (State.toCopyBack s a1 a2).seqs = s.seqs ∧
    (State.toCopyBack s a1 a2).host = s.host ∧
    (State.toCopyBack s a1 a2).mclk = s.mclk ∧
    (State.toCopyBack s a1 a2).sd = s.sd ∧
    (State.toCopyBack s a1 a2).aux = s.aux ∧
    (State.toCopyBack s a1 a2).enc = s.enc ∧
    (State.toCopyBack s a1 a2).eng = s.eng ∧
    (State.toCopyBack s a1 a2).slices = s.slices ∧
    (State.toCopyBack s a1 a2).gl = s.gl ∧
    (State.toCopyBack s a1 a2).ref = s.ref ∧
    (State.toCopyBack s a1 a2).cp = s.cp ∧
    (State.toCopyBack s a1 a2).flk = s.flk ∧
    (State.toCopyBack s a1 a2).ring = s.ring ∧
    (State.toCopyBack s a1 a2).can = s.can ∧
    (State.toCopyBack s a1 a2).canPub = s.canPub ∧
    (State.toCopyBack s a1 a2).eth = s.eth ∧
    (State.toCopyBack s a1 a2).tio = s.tio := by
  have k1 := @State.bistFails_frame
  have k2 := @State.setCurSlice_frame
  have k3 := @State.ite_frame
  unfold State.toCopyBack
  repeat' (first | (simp [k1, k2, k3]; done) | split)

theorem effBistMarchDone_frame (a0 : List CellFail) (s : State) :
    (effBistMarchDone a0 s).pending = s.pending ∧
    (effBistMarchDone a0 s).time = s.time ∧
    (effBistMarchDone a0 s).tick = s.tick ∧
    (effBistMarchDone a0 s).free = s.free ∧
    (effBistMarchDone a0 s).tl = s.tl ∧
    (effBistMarchDone a0 s).mu = s.mu ∧
    (effBistMarchDone a0 s).hk = s.hk ∧
    (effBistMarchDone a0 s).log = s.log ∧
    (effBistMarchDone a0 s).seqs = s.seqs ∧
    (effBistMarchDone a0 s).host = s.host ∧
    (effBistMarchDone a0 s).mclk = s.mclk ∧
    (effBistMarchDone a0 s).sd = s.sd ∧
    (effBistMarchDone a0 s).aux = s.aux ∧
    (effBistMarchDone a0 s).enc = s.enc ∧
    (effBistMarchDone a0 s).eng = s.eng ∧
    (effBistMarchDone a0 s).slices = s.slices ∧
    (effBistMarchDone a0 s).gl = s.gl ∧
    (effBistMarchDone a0 s).ref = s.ref ∧
    (effBistMarchDone a0 s).cp = s.cp ∧
    (effBistMarchDone a0 s).flk = s.flk ∧
    (effBistMarchDone a0 s).ring = s.ring ∧
    (effBistMarchDone a0 s).can = s.can ∧
    (effBistMarchDone a0 s).canPub = s.canPub ∧
    (effBistMarchDone a0 s).eth = s.eth ∧
    (effBistMarchDone a0 s).tio = s.tio := by
  have k1 := @State.toCopyBack_frame
  have k2 := @State.ite_frame
  unfold effBistMarchDone
  repeat' (first | (simp [k1, k2]; done) | split)

theorem effBistPreempt_frame (a0 : List CellFail) (s : State) :
    (effBistPreempt a0 s).pending = s.pending ∧
    (effBistPreempt a0 s).time = s.time ∧
    (effBistPreempt a0 s).tick = s.tick ∧
    (effBistPreempt a0 s).free = s.free ∧
    (effBistPreempt a0 s).tl = s.tl ∧
    (effBistPreempt a0 s).mu = s.mu ∧
    (effBistPreempt a0 s).hk = s.hk ∧
    (effBistPreempt a0 s).log = s.log ∧
    (effBistPreempt a0 s).seqs = s.seqs ∧
    (effBistPreempt a0 s).host = s.host ∧
    (effBistPreempt a0 s).mclk = s.mclk ∧
    (effBistPreempt a0 s).sd = s.sd ∧
    (effBistPreempt a0 s).aux = s.aux ∧
    (effBistPreempt a0 s).enc = s.enc ∧
    (effBistPreempt a0 s).eng = s.eng ∧
    (effBistPreempt a0 s).slices = s.slices ∧
    (effBistPreempt a0 s).gl = s.gl ∧
    (effBistPreempt a0 s).ref = s.ref ∧
    (effBistPreempt a0 s).cp = s.cp ∧
    (effBistPreempt a0 s).flk = s.flk ∧
    (effBistPreempt a0 s).ring = s.ring ∧
    (effBistPreempt a0 s).can = s.can ∧
    (effBistPreempt a0 s).canPub = s.canPub ∧
    (effBistPreempt a0 s).eth = s.eth ∧
    (effBistPreempt a0 s).tio = s.tio := by
  have k1 := @State.toCopyBack_frame
  unfold effBistPreempt
  simp [k1]

theorem effBistBudgetExpire_frame (a0 : List CellFail) (s : State) :
    (effBistBudgetExpire a0 s).pending = s.pending ∧
    (effBistBudgetExpire a0 s).time = s.time ∧
    (effBistBudgetExpire a0 s).tick = s.tick ∧
    (effBistBudgetExpire a0 s).free = s.free ∧
    (effBistBudgetExpire a0 s).tl = s.tl ∧
    (effBistBudgetExpire a0 s).mu = s.mu ∧
    (effBistBudgetExpire a0 s).hk = s.hk ∧
    (effBistBudgetExpire a0 s).log = s.log ∧
    (effBistBudgetExpire a0 s).seqs = s.seqs ∧
    (effBistBudgetExpire a0 s).host = s.host ∧
    (effBistBudgetExpire a0 s).mclk = s.mclk ∧
    (effBistBudgetExpire a0 s).sd = s.sd ∧
    (effBistBudgetExpire a0 s).aux = s.aux ∧
    (effBistBudgetExpire a0 s).enc = s.enc ∧
    (effBistBudgetExpire a0 s).eng = s.eng ∧
    (effBistBudgetExpire a0 s).slices = s.slices ∧
    (effBistBudgetExpire a0 s).gl = s.gl ∧
    (effBistBudgetExpire a0 s).ref = s.ref ∧
    (effBistBudgetExpire a0 s).cp = s.cp ∧
    (effBistBudgetExpire a0 s).flk = s.flk ∧
    (effBistBudgetExpire a0 s).ring = s.ring ∧
    (effBistBudgetExpire a0 s).can = s.can ∧
    (effBistBudgetExpire a0 s).canPub = s.canPub ∧
    (effBistBudgetExpire a0 s).eth = s.eth ∧
    (effBistBudgetExpire a0 s).tio = s.tio := by
  have k1 := @State.toCopyBack_frame
  have k2 := @State.ite_frame
  unfold effBistBudgetExpire
  repeat' (first | (simp [k1, k2]; done) | split)

theorem State.passEnd_frame (s : State) :
    (State.passEnd s).pending = s.pending ∧
    (State.passEnd s).time = s.time ∧
    (State.passEnd s).tick = s.tick ∧
    (State.passEnd s).free = s.free ∧
    (State.passEnd s).tl = s.tl ∧
    (State.passEnd s).mu = s.mu ∧
    (State.passEnd s).hk = s.hk ∧
    (State.passEnd s).log = s.log ∧
    (State.passEnd s).seqs = s.seqs ∧
    (State.passEnd s).host = s.host ∧
    (State.passEnd s).mclk = s.mclk ∧
    (State.passEnd s).sd = s.sd ∧
    (State.passEnd s).aux = s.aux ∧
    (State.passEnd s).enc = s.enc ∧
    (State.passEnd s).eng = s.eng ∧
    (State.passEnd s).slices = s.slices ∧
    (State.passEnd s).gl = s.gl ∧
    (State.passEnd s).ref = s.ref ∧
    (State.passEnd s).cp = s.cp ∧
    (State.passEnd s).flk = s.flk ∧
    (State.passEnd s).ring = s.ring ∧
    (State.passEnd s).can = s.can ∧
    (State.passEnd s).canPub = s.canPub ∧
    (State.passEnd s).eth = s.eth ∧
    (State.passEnd s).tio = s.tio := by
  unfold State.passEnd
  simp

theorem State.segDone_frame (s : State) (a1 : BistSlice) :
    (State.segDone s a1).pending = s.pending ∧
    (State.segDone s a1).time = s.time ∧
    (State.segDone s a1).tick = s.tick ∧
    (State.segDone s a1).free = s.free ∧
    (State.segDone s a1).tl = s.tl ∧
    (State.segDone s a1).mu = s.mu ∧
    (State.segDone s a1).hk = s.hk ∧
    (State.segDone s a1).log = s.log ∧
    (State.segDone s a1).seqs = s.seqs ∧
    (State.segDone s a1).host = s.host ∧
    (State.segDone s a1).mclk = s.mclk ∧
    (State.segDone s a1).sd = s.sd ∧
    (State.segDone s a1).aux = s.aux ∧
    (State.segDone s a1).enc = s.enc ∧
    (State.segDone s a1).eng = s.eng ∧
    (State.segDone s a1).slices = s.slices ∧
    (State.segDone s a1).gl = s.gl ∧
    (State.segDone s a1).ref = s.ref ∧
    (State.segDone s a1).cp = s.cp ∧
    (State.segDone s a1).flk = s.flk ∧
    (State.segDone s a1).ring = s.ring ∧
    (State.segDone s a1).can = s.can ∧
    (State.segDone s a1).canPub = s.canPub ∧
    (State.segDone s a1).eth = s.eth ∧
    (State.segDone s a1).tio = s.tio := by
  have k1 := @State.passEnd_frame
  have k2 := @State.ite_frame
  unfold State.segDone
  simp [k1, k2]

theorem effBistSliceEnd_frame (s : State) :
    (effBistSliceEnd s).pending = s.pending ∧
    (effBistSliceEnd s).time = s.time ∧
    (effBistSliceEnd s).tick = s.tick ∧
    (effBistSliceEnd s).free = s.free ∧
    (effBistSliceEnd s).tl = s.tl ∧
    (effBistSliceEnd s).mu = s.mu ∧
    (effBistSliceEnd s).hk = s.hk ∧
    (effBistSliceEnd s).log = s.log ∧
    (effBistSliceEnd s).seqs = s.seqs ∧
    (effBistSliceEnd s).mclk = s.mclk ∧
    (effBistSliceEnd s).sd = s.sd ∧
    (effBistSliceEnd s).aux = s.aux ∧
    (effBistSliceEnd s).enc = s.enc ∧
    (effBistSliceEnd s).eng = s.eng ∧
    (effBistSliceEnd s).slices = s.slices ∧
    (effBistSliceEnd s).gl = s.gl ∧
    (effBistSliceEnd s).ref = s.ref ∧
    (effBistSliceEnd s).cp = s.cp ∧
    (effBistSliceEnd s).flk = s.flk ∧
    (effBistSliceEnd s).ring = s.ring ∧
    (effBistSliceEnd s).can = s.can ∧
    (effBistSliceEnd s).canPub = s.canPub ∧
    (effBistSliceEnd s).eth = s.eth ∧
    (effBistSliceEnd s).tio = s.tio := by
  have k1 := @State.devEvent_frame
  have k2 := @State.segDone_frame
  have k3 := @State.ite_frame
  unfold effBistSliceEnd
  repeat' (first | (simp [k1, k2, k3]; done) | split)

theorem effRefereeBistSlice_frame (a0 : Bool) (s : State) :
    (effRefereeBistSlice a0 s).pending = s.pending ∧
    (effRefereeBistSlice a0 s).time = s.time ∧
    (effRefereeBistSlice a0 s).tick = s.tick ∧
    (effRefereeBistSlice a0 s).free = s.free ∧
    (effRefereeBistSlice a0 s).tl = s.tl ∧
    (effRefereeBistSlice a0 s).mu = s.mu ∧
    (effRefereeBistSlice a0 s).hk = s.hk ∧
    (effRefereeBistSlice a0 s).host = s.host ∧
    (effRefereeBistSlice a0 s).mclk = s.mclk ∧
    (effRefereeBistSlice a0 s).sd = s.sd ∧
    (effRefereeBistSlice a0 s).aux = s.aux ∧
    (effRefereeBistSlice a0 s).enc = s.enc ∧
    (effRefereeBistSlice a0 s).eng = s.eng ∧
    (effRefereeBistSlice a0 s).cp = s.cp ∧
    (effRefereeBistSlice a0 s).ring = s.ring ∧
    (effRefereeBistSlice a0 s).can = s.can ∧
    (effRefereeBistSlice a0 s).canPub = s.canPub ∧
    (effRefereeBistSlice a0 s).eth = s.eth ∧
    (effRefereeBistSlice a0 s).tio = s.tio := by
  have k1 := @State.refereeFault_frame
  have k2 := @State.ite_frame
  unfold effRefereeBistSlice
  simp [k1, k2]

theorem State.fenceMx_frame (s : State) (a1 : Nat) :
    (State.fenceMx s a1).pending = s.pending ∧
    (State.fenceMx s a1).time = s.time ∧
    (State.fenceMx s a1).tick = s.tick ∧
    (State.fenceMx s a1).free = s.free ∧
    (State.fenceMx s a1).tl = s.tl ∧
    (State.fenceMx s a1).mu = s.mu ∧
    (State.fenceMx s a1).hk = s.hk ∧
    (State.fenceMx s a1).log = s.log ∧
    (State.fenceMx s a1).seqs = s.seqs ∧
    (State.fenceMx s a1).host = s.host ∧
    (State.fenceMx s a1).dict = s.dict ∧
    (State.fenceMx s a1).mclk = s.mclk ∧
    (State.fenceMx s a1).sd = s.sd ∧
    (State.fenceMx s a1).aux = s.aux ∧
    (State.fenceMx s a1).enc = s.enc ∧
    (State.fenceMx s a1).slices = s.slices ∧
    (State.fenceMx s a1).gl = s.gl ∧
    (State.fenceMx s a1).ref = s.ref ∧
    (State.fenceMx s a1).cp = s.cp ∧
    (State.fenceMx s a1).flk = s.flk ∧
    (State.fenceMx s a1).ring = s.ring ∧
    (State.fenceMx s a1).can = s.can ∧
    (State.fenceMx s a1).canPub = s.canPub ∧
    (State.fenceMx s a1).eth = s.eth ∧
    (State.fenceMx s a1).tio = s.tio := by
  have k1 := @State.fence_frame
  unfold State.fenceMx
  simp [k1]

theorem State.fenceSd_frame (s : State) (a1 : Nat) :
    (State.fenceSd s a1).pending = s.pending ∧
    (State.fenceSd s a1).time = s.time ∧
    (State.fenceSd s a1).tick = s.tick ∧
    (State.fenceSd s a1).free = s.free ∧
    (State.fenceSd s a1).tl = s.tl ∧
    (State.fenceSd s a1).mu = s.mu ∧
    (State.fenceSd s a1).hk = s.hk ∧
    (State.fenceSd s a1).host = s.host ∧
    (State.fenceSd s a1).mclk = s.mclk ∧
    (State.fenceSd s a1).aux = s.aux ∧
    (State.fenceSd s a1).enc = s.enc ∧
    (State.fenceSd s a1).eng = s.eng ∧
    (State.fenceSd s a1).cp = s.cp ∧
    (State.fenceSd s a1).flk = s.flk ∧
    (State.fenceSd s a1).ring = s.ring ∧
    (State.fenceSd s a1).can = s.can ∧
    (State.fenceSd s a1).canPub = s.canPub ∧
    (State.fenceSd s a1).eth = s.eth ∧
    (State.fenceSd s a1).tio = s.tio := by
  have k1 := @State.fence_frame
  have k2 := @State.lose_frame
  have k3 := @State.ite_frame
  unfold State.fenceSd
  simp [k1, k2, k3]

theorem State.fenceEnc_frame (s : State) (a1 : Nat) :
    (State.fenceEnc s a1).pending = s.pending ∧
    (State.fenceEnc s a1).time = s.time ∧
    (State.fenceEnc s a1).tick = s.tick ∧
    (State.fenceEnc s a1).free = s.free ∧
    (State.fenceEnc s a1).tl = s.tl ∧
    (State.fenceEnc s a1).mu = s.mu ∧
    (State.fenceEnc s a1).hk = s.hk ∧
    (State.fenceEnc s a1).host = s.host ∧
    (State.fenceEnc s a1).mclk = s.mclk ∧
    (State.fenceEnc s a1).sd = s.sd ∧
    (State.fenceEnc s a1).aux = s.aux ∧
    (State.fenceEnc s a1).eng = s.eng ∧
    (State.fenceEnc s a1).cp = s.cp ∧
    (State.fenceEnc s a1).flk = s.flk ∧
    (State.fenceEnc s a1).ring = s.ring ∧
    (State.fenceEnc s a1).can = s.can ∧
    (State.fenceEnc s a1).canPub = s.canPub ∧
    (State.fenceEnc s a1).eth = s.eth ∧
    (State.fenceEnc s a1).tio = s.tio := by
  have k1 := @State.encEvent_frame
  have k2 := @State.fence_frame
  have k3 := @State.refEvent_frame
  have k4 := @State.ite_frame
  unfold State.fenceEnc
  simp [k1, k2, k3, k4]

theorem State.fenceSlice_frame (s : State) (a1 : Nat) :
    (State.fenceSlice s a1).pending = s.pending ∧
    (State.fenceSlice s a1).time = s.time ∧
    (State.fenceSlice s a1).tick = s.tick ∧
    (State.fenceSlice s a1).free = s.free ∧
    (State.fenceSlice s a1).tl = s.tl ∧
    (State.fenceSlice s a1).mu = s.mu ∧
    (State.fenceSlice s a1).hk = s.hk ∧
    (State.fenceSlice s a1).log = s.log ∧
    (State.fenceSlice s a1).seqs = s.seqs ∧
    (State.fenceSlice s a1).host = s.host ∧
    (State.fenceSlice s a1).mclk = s.mclk ∧
    (State.fenceSlice s a1).sd = s.sd ∧
    (State.fenceSlice s a1).aux = s.aux ∧
    (State.fenceSlice s a1).enc = s.enc ∧
    (State.fenceSlice s a1).ref = s.ref ∧
    (State.fenceSlice s a1).cp = s.cp ∧
    (State.fenceSlice s a1).flk = s.flk ∧
    (State.fenceSlice s a1).ring = s.ring ∧
    (State.fenceSlice s a1).can = s.can ∧
    (State.fenceSlice s a1).canPub = s.canPub ∧
    (State.fenceSlice s a1).eth = s.eth ∧
    (State.fenceSlice s a1).tio = s.tio := by
  have k1 := @State.fence_frame
  have k2 := @State.linksRefresh_frame
  have k3 := @State.toDisabled_frame
  have k4 := @State.ite_frame
  unfold State.fenceSlice
  simp [k1, k2, k3, k4]

theorem State.fenceUnit_frame (s : State) (a1 : Nat) :
    (State.fenceUnit s a1).pending = s.pending ∧
    (State.fenceUnit s a1).time = s.time ∧
    (State.fenceUnit s a1).tick = s.tick ∧
    (State.fenceUnit s a1).free = s.free ∧
    (State.fenceUnit s a1).tl = s.tl ∧
    (State.fenceUnit s a1).mu = s.mu ∧
    (State.fenceUnit s a1).hk = s.hk ∧
    (State.fenceUnit s a1).host = s.host ∧
    (State.fenceUnit s a1).mclk = s.mclk ∧
    (State.fenceUnit s a1).aux = s.aux ∧
    (State.fenceUnit s a1).cp = s.cp ∧
    (State.fenceUnit s a1).ring = s.ring ∧
    (State.fenceUnit s a1).can = s.can ∧
    (State.fenceUnit s a1).canPub = s.canPub ∧
    (State.fenceUnit s a1).eth = s.eth ∧
    (State.fenceUnit s a1).tio = s.tio := by
  have k1 := @State.fence_frame
  have k2 := @State.fenceEnc_frame
  have k3 := @State.fenceMx_frame
  have k4 := @State.fenceSd_frame
  have k5 := @State.fenceSlice_frame
  have k6 := @State.linkFault_frame
  have k7 := @State.ite_frame
  unfold State.fenceUnit
  simp [k1, k2, k3, k4, k5, k6, k7]

theorem effMatrixDatapathError_frame (a0 : Fin 2) (s : State) :
    (effMatrixDatapathError a0 s).pending = s.pending ∧
    (effMatrixDatapathError a0 s).time = s.time ∧
    (effMatrixDatapathError a0 s).tick = s.tick ∧
    (effMatrixDatapathError a0 s).free = s.free ∧
    (effMatrixDatapathError a0 s).tl = s.tl ∧
    (effMatrixDatapathError a0 s).mu = s.mu ∧
    (effMatrixDatapathError a0 s).hk = s.hk ∧
    (effMatrixDatapathError a0 s).host = s.host ∧
    (effMatrixDatapathError a0 s).mclk = s.mclk ∧
    (effMatrixDatapathError a0 s).aux = s.aux ∧
    (effMatrixDatapathError a0 s).cp = s.cp ∧
    (effMatrixDatapathError a0 s).ring = s.ring ∧
    (effMatrixDatapathError a0 s).can = s.can ∧
    (effMatrixDatapathError a0 s).canPub = s.canPub ∧
    (effMatrixDatapathError a0 s).eth = s.eth ∧
    (effMatrixDatapathError a0 s).tio = s.tio := by
  have k1 := @State.fenceUnit_frame
  have k2 := @State.ite_frame
  unfold effMatrixDatapathError
  dsimp only
  repeat' (first | (simp [k1, k2]; done) | split)

theorem effSdPatternCheck_frame (a0 : Fin 64) (a1 : Bool) (s : State) :
    (effSdPatternCheck a0 a1 s).pending = s.pending ∧
    (effSdPatternCheck a0 a1 s).time = s.time ∧
    (effSdPatternCheck a0 a1 s).tick = s.tick ∧
    (effSdPatternCheck a0 a1 s).free = s.free ∧
    (effSdPatternCheck a0 a1 s).tl = s.tl ∧
    (effSdPatternCheck a0 a1 s).mu = s.mu ∧
    (effSdPatternCheck a0 a1 s).hk = s.hk ∧
    (effSdPatternCheck a0 a1 s).host = s.host ∧
    (effSdPatternCheck a0 a1 s).mclk = s.mclk ∧
    (effSdPatternCheck a0 a1 s).aux = s.aux ∧
    (effSdPatternCheck a0 a1 s).cp = s.cp ∧
    (effSdPatternCheck a0 a1 s).ring = s.ring ∧
    (effSdPatternCheck a0 a1 s).can = s.can ∧
    (effSdPatternCheck a0 a1 s).canPub = s.canPub ∧
    (effSdPatternCheck a0 a1 s).eth = s.eth ∧
    (effSdPatternCheck a0 a1 s).tio = s.tio := by
  have k1 := @State.fenceUnit_frame
  have k2 := @State.ite_frame
  unfold effSdPatternCheck
  simp [k1, k2]

theorem effGlLoopbackCheck_frame (a0 : Fin 24) (a1 : Bool) (s : State) :
    (effGlLoopbackCheck a0 a1 s).pending = s.pending ∧
    (effGlLoopbackCheck a0 a1 s).time = s.time ∧
    (effGlLoopbackCheck a0 a1 s).tick = s.tick ∧
    (effGlLoopbackCheck a0 a1 s).free = s.free ∧
    (effGlLoopbackCheck a0 a1 s).tl = s.tl ∧
    (effGlLoopbackCheck a0 a1 s).mu = s.mu ∧
    (effGlLoopbackCheck a0 a1 s).hk = s.hk ∧
    (effGlLoopbackCheck a0 a1 s).host = s.host ∧
    (effGlLoopbackCheck a0 a1 s).mclk = s.mclk ∧
    (effGlLoopbackCheck a0 a1 s).aux = s.aux ∧
    (effGlLoopbackCheck a0 a1 s).cp = s.cp ∧
    (effGlLoopbackCheck a0 a1 s).ring = s.ring ∧
    (effGlLoopbackCheck a0 a1 s).can = s.can ∧
    (effGlLoopbackCheck a0 a1 s).canPub = s.canPub ∧
    (effGlLoopbackCheck a0 a1 s).eth = s.eth ∧
    (effGlLoopbackCheck a0 a1 s).tio = s.tio := by
  have k1 := @State.fenceUnit_frame
  have k2 := @State.ite_frame
  unfold effGlLoopbackCheck
  simp [k1, k2]

theorem effRingLoopbackCheck_frame (a0 : Fin 2) (a1 : Bool) (s : State) :
    (effRingLoopbackCheck a0 a1 s).pending = s.pending ∧
    (effRingLoopbackCheck a0 a1 s).time = s.time ∧
    (effRingLoopbackCheck a0 a1 s).tick = s.tick ∧
    (effRingLoopbackCheck a0 a1 s).free = s.free ∧
    (effRingLoopbackCheck a0 a1 s).tl = s.tl ∧
    (effRingLoopbackCheck a0 a1 s).mu = s.mu ∧
    (effRingLoopbackCheck a0 a1 s).hk = s.hk ∧
    (effRingLoopbackCheck a0 a1 s).host = s.host ∧
    (effRingLoopbackCheck a0 a1 s).mclk = s.mclk ∧
    (effRingLoopbackCheck a0 a1 s).aux = s.aux ∧
    (effRingLoopbackCheck a0 a1 s).cp = s.cp ∧
    (effRingLoopbackCheck a0 a1 s).ring = s.ring ∧
    (effRingLoopbackCheck a0 a1 s).can = s.can ∧
    (effRingLoopbackCheck a0 a1 s).canPub = s.canPub ∧
    (effRingLoopbackCheck a0 a1 s).eth = s.eth ∧
    (effRingLoopbackCheck a0 a1 s).tio = s.tio := by
  have k1 := @State.fenceUnit_frame
  have k2 := @State.ite_frame
  unfold effRingLoopbackCheck
  simp [k1, k2]

theorem effCanLoopbackCheck_frame (a0 : Fin 4) (a1 : Bool) (s : State) :
    (effCanLoopbackCheck a0 a1 s).pending = s.pending ∧
    (effCanLoopbackCheck a0 a1 s).time = s.time ∧
    (effCanLoopbackCheck a0 a1 s).tick = s.tick ∧
    (effCanLoopbackCheck a0 a1 s).free = s.free ∧
    (effCanLoopbackCheck a0 a1 s).tl = s.tl ∧
    (effCanLoopbackCheck a0 a1 s).mu = s.mu ∧
    (effCanLoopbackCheck a0 a1 s).hk = s.hk ∧
    (effCanLoopbackCheck a0 a1 s).host = s.host ∧
    (effCanLoopbackCheck a0 a1 s).mclk = s.mclk ∧
    (effCanLoopbackCheck a0 a1 s).aux = s.aux ∧
    (effCanLoopbackCheck a0 a1 s).cp = s.cp ∧
    (effCanLoopbackCheck a0 a1 s).ring = s.ring ∧
    (effCanLoopbackCheck a0 a1 s).can = s.can ∧
    (effCanLoopbackCheck a0 a1 s).canPub = s.canPub ∧
    (effCanLoopbackCheck a0 a1 s).eth = s.eth ∧
    (effCanLoopbackCheck a0 a1 s).tio = s.tio := by
  have k1 := @State.fenceUnit_frame
  have k2 := @State.ite_frame
  unfold effCanLoopbackCheck
  simp [k1, k2]

theorem opBistRun_frame (a0 : Pkt) (s : State) :
    (opBistRun a0 s).st.pending = s.pending ∧
    (opBistRun a0 s).st.time = s.time ∧
    (opBistRun a0 s).st.tick = s.tick ∧
    (opBistRun a0 s).st.free = s.free ∧
    (opBistRun a0 s).st.tl = s.tl ∧
    (opBistRun a0 s).st.mu = s.mu ∧
    (opBistRun a0 s).st.hk = s.hk ∧
    (opBistRun a0 s).st.log = s.log ∧
    (opBistRun a0 s).st.seqs = s.seqs ∧
    (opBistRun a0 s).st.host = s.host ∧
    (opBistRun a0 s).st.dict = s.dict ∧
    (opBistRun a0 s).st.mclk = s.mclk ∧
    (opBistRun a0 s).st.sd = s.sd ∧
    (opBistRun a0 s).st.aux = s.aux ∧
    (opBistRun a0 s).st.enc = s.enc ∧
    (opBistRun a0 s).st.eng = s.eng ∧
    (opBistRun a0 s).st.slices = s.slices ∧
    (opBistRun a0 s).st.gl = s.gl ∧
    (opBistRun a0 s).st.ref = s.ref ∧
    (opBistRun a0 s).st.cp = s.cp ∧
    (opBistRun a0 s).st.flk = s.flk ∧
    (opBistRun a0 s).st.ring = s.ring ∧
    (opBistRun a0 s).st.can = s.can ∧
    (opBistRun a0 s).st.canPub = s.canPub ∧
    (opBistRun a0 s).st.eth = s.eth ∧
    (opBistRun a0 s).st.tio = s.tio := by
  have k1 := @State.accept_frame
  have k2 := @State.fail_frame
  have k3 := @State.ite_frame
  unfold opBistRun
  dsimp only
  repeat' (first | (simp [k1, k2, k3]; done) | split)

theorem opBistResult_frame (a0 : Pkt) (s : State) :
    (opBistResult a0 s).st.pending = s.pending ∧
    (opBistResult a0 s).st.time = s.time ∧
    (opBistResult a0 s).st.tick = s.tick ∧
    (opBistResult a0 s).st.free = s.free ∧
    (opBistResult a0 s).st.tl = s.tl ∧
    (opBistResult a0 s).st.mu = s.mu ∧
    (opBistResult a0 s).st.hk = s.hk ∧
    (opBistResult a0 s).st.log = s.log ∧
    (opBistResult a0 s).st.seqs = s.seqs ∧
    (opBistResult a0 s).st.host = s.host ∧
    (opBistResult a0 s).st.dict = s.dict ∧
    (opBistResult a0 s).st.mclk = s.mclk ∧
    (opBistResult a0 s).st.sd = s.sd ∧
    (opBistResult a0 s).st.aux = s.aux ∧
    (opBistResult a0 s).st.eng = s.eng ∧
    (opBistResult a0 s).st.slices = s.slices ∧
    (opBistResult a0 s).st.gl = s.gl ∧
    (opBistResult a0 s).st.ref = s.ref ∧
    (opBistResult a0 s).st.cp = s.cp ∧
    (opBistResult a0 s).st.flk = s.flk ∧
    (opBistResult a0 s).st.ring = s.ring ∧
    (opBistResult a0 s).st.can = s.can ∧
    (opBistResult a0 s).st.canPub = s.canPub := by
  have k1 := @State.fail_frame
  have k2 := @State.okWith_frame
  have k3 := @State.readEff_frame
  have k4 := @State.ite_frame
  unfold opBistResult
  dsimp only
  repeat' (first | (simp [k1, k2, k3, k4]; done) | split)

theorem opRemapRow_frame (a0 : Pkt) (s : State) :
    (opRemapRow a0 s).st.pending = s.pending ∧
    (opRemapRow a0 s).st.time = s.time ∧
    (opRemapRow a0 s).st.tick = s.tick ∧
    (opRemapRow a0 s).st.free = s.free ∧
    (opRemapRow a0 s).st.tl = s.tl ∧
    (opRemapRow a0 s).st.mu = s.mu ∧
    (opRemapRow a0 s).st.hk = s.hk ∧
    (opRemapRow a0 s).st.log = s.log ∧
    (opRemapRow a0 s).st.seqs = s.seqs ∧
    (opRemapRow a0 s).st.host = s.host ∧
    (opRemapRow a0 s).st.dict = s.dict ∧
    (opRemapRow a0 s).st.mclk = s.mclk ∧
    (opRemapRow a0 s).st.sd = s.sd ∧
    (opRemapRow a0 s).st.aux = s.aux ∧
    (opRemapRow a0 s).st.enc = s.enc ∧
    (opRemapRow a0 s).st.eng = s.eng ∧
    (opRemapRow a0 s).st.slices = s.slices ∧
    (opRemapRow a0 s).st.gl = s.gl ∧
    (opRemapRow a0 s).st.ref = s.ref ∧
    (opRemapRow a0 s).st.cp = s.cp ∧
    (opRemapRow a0 s).st.flk = s.flk ∧
    (opRemapRow a0 s).st.ring = s.ring ∧
    (opRemapRow a0 s).st.can = s.can ∧
    (opRemapRow a0 s).st.canPub = s.canPub ∧
    (opRemapRow a0 s).st.eth = s.eth ∧
    (opRemapRow a0 s).st.tio = s.tio := by
  have k1 := @State.fail_frame
  have k2 := @State.okWith_frame
  have k3 := @State.ite_frame
  unfold opRemapRow
  dsimp only
  repeat' (first | (simp [k1, k2, k3]; done) | split)

theorem opTrace_frame (a0 : Pkt) (s : State) :
    (opTrace a0 s).st.pending = s.pending ∧
    (opTrace a0 s).st.time = s.time ∧
    (opTrace a0 s).st.tick = s.tick ∧
    (opTrace a0 s).st.free = s.free ∧
    (opTrace a0 s).st.tl = s.tl ∧
    (opTrace a0 s).st.mu = s.mu ∧
    (opTrace a0 s).st.hk = s.hk ∧
    (opTrace a0 s).st.log = s.log ∧
    (opTrace a0 s).st.seqs = s.seqs ∧
    (opTrace a0 s).st.host = s.host ∧
    (opTrace a0 s).st.dict = s.dict ∧
    (opTrace a0 s).st.mclk = s.mclk ∧
    (opTrace a0 s).st.sd = s.sd ∧
    (opTrace a0 s).st.aux = s.aux ∧
    (opTrace a0 s).st.enc = s.enc ∧
    (opTrace a0 s).st.eng = s.eng ∧
    (opTrace a0 s).st.slices = s.slices ∧
    (opTrace a0 s).st.gl = s.gl ∧
    (opTrace a0 s).st.ref = s.ref ∧
    (opTrace a0 s).st.cp = s.cp ∧
    (opTrace a0 s).st.flk = s.flk ∧
    (opTrace a0 s).st.ring = s.ring ∧
    (opTrace a0 s).st.can = s.can ∧
    (opTrace a0 s).st.canPub = s.canPub ∧
    (opTrace a0 s).st.eth = s.eth ∧
    (opTrace a0 s).st.tio = s.tio := by
  have k1 := @State.fail_frame
  have k2 := @State.okWith_frame
  have k3 := @State.ite_frame
  unfold opTrace
  dsimp only
  repeat' (first | (simp [k1, k2, k3]; done) | split)

theorem effTraceCapture_frame (s : State) :
    (effTraceCapture s).pending = s.pending ∧
    (effTraceCapture s).time = s.time ∧
    (effTraceCapture s).tick = s.tick ∧
    (effTraceCapture s).free = s.free ∧
    (effTraceCapture s).tl = s.tl ∧
    (effTraceCapture s).mu = s.mu ∧
    (effTraceCapture s).hk = s.hk ∧
    (effTraceCapture s).log = s.log ∧
    (effTraceCapture s).seqs = s.seqs ∧
    (effTraceCapture s).host = s.host ∧
    (effTraceCapture s).dict = s.dict ∧
    (effTraceCapture s).mclk = s.mclk ∧
    (effTraceCapture s).sd = s.sd ∧
    (effTraceCapture s).aux = s.aux ∧
    (effTraceCapture s).enc = s.enc ∧
    (effTraceCapture s).eng = s.eng ∧
    (effTraceCapture s).slices = s.slices ∧
    (effTraceCapture s).gl = s.gl ∧
    (effTraceCapture s).ref = s.ref ∧
    (effTraceCapture s).cp = s.cp ∧
    (effTraceCapture s).flk = s.flk ∧
    (effTraceCapture s).ring = s.ring ∧
    (effTraceCapture s).can = s.can ∧
    (effTraceCapture s).canPub = s.canPub ∧
    (effTraceCapture s).eth = s.eth ∧
    (effTraceCapture s).tio = s.tio := by
  unfold effTraceCapture
  repeat' (first | (simp; done) | split)

end Sys2Proof.Machine
end

