-- ==== Sys2Proof/Laws/System.lean ====
section
/-!
SUPPORT. What each operation of Machine/System.lean leaves as it was: the parts of State that it cannot change.
-/

namespace Sys2Proof.Machine

open Sys2Proof

theorem State.endSession_frame (s : State) (a1 : Nat) :
    (State.endSession s a1).pending = s.pending ∧
    (State.endSession s a1).time = s.time ∧
    (State.endSession s a1).tick = s.tick ∧
    (State.endSession s a1).free = s.free ∧
    (State.endSession s a1).tl = s.tl ∧
    (State.endSession s a1).hk = s.hk ∧
    (State.endSession s a1).log = s.log ∧
    (State.endSession s a1).seqs = s.seqs ∧
    (State.endSession s a1).mclk = s.mclk ∧
    (State.endSession s a1).sd = s.sd ∧
    (State.endSession s a1).aux = s.aux ∧
    (State.endSession s a1).enc = s.enc ∧
    (State.endSession s a1).slices = s.slices ∧
    (State.endSession s a1).gl = s.gl ∧
    (State.endSession s a1).cp = s.cp ∧
    (State.endSession s a1).flk = s.flk ∧
    (State.endSession s a1).ring = s.ring ∧
    (State.endSession s a1).can = s.can ∧
    (State.endSession s a1).canPub = s.canPub ∧
    (State.endSession s a1).eth = s.eth ∧
    (State.endSession s a1).tio = s.tio ∧
    (State.endSession s a1).dia = s.dia := by
  have k1 := @State.abandon_frame
  have k2 := @State.ite_frame
  unfold State.endSession
  dsimp only
  repeat' (first | (simp [k1, k2]; done) | split)

theorem opOpenSession_frame (a0 : Pkt) (s : State) :
    (opOpenSession a0 s).st.pending = s.pending ∧
    (opOpenSession a0 s).st.time = s.time ∧
    (opOpenSession a0 s).st.tick = s.tick ∧
    (opOpenSession a0 s).st.free = s.free ∧
    (opOpenSession a0 s).st.tl = s.tl ∧
    (opOpenSession a0 s).st.mu = s.mu ∧
    (opOpenSession a0 s).st.hk = s.hk ∧
    (opOpenSession a0 s).st.log = s.log ∧
    (opOpenSession a0 s).st.seqs = s.seqs ∧
    (opOpenSession a0 s).st.dict = s.dict ∧
    (opOpenSession a0 s).st.mclk = s.mclk ∧
    (opOpenSession a0 s).st.sd = s.sd ∧
    (opOpenSession a0 s).st.aux = s.aux ∧
    (opOpenSession a0 s).st.enc = s.enc ∧
    (opOpenSession a0 s).st.eng = s.eng ∧
    (opOpenSession a0 s).st.slices = s.slices ∧
    (opOpenSession a0 s).st.gl = s.gl ∧
    (opOpenSession a0 s).st.ref = s.ref ∧
    (opOpenSession a0 s).st.cp = s.cp ∧
    (opOpenSession a0 s).st.flk = s.flk ∧
    (opOpenSession a0 s).st.ring = s.ring ∧
    (opOpenSession a0 s).st.can = s.can ∧
    (opOpenSession a0 s).st.canPub = s.canPub ∧
    (opOpenSession a0 s).st.eth = s.eth ∧
    (opOpenSession a0 s).st.tio = s.tio ∧
    (opOpenSession a0 s).st.dia = s.dia := by
  have k1 := @State.fail_frame
  have k2 := @State.okWith_frame
  have k3 := @State.ite_frame
  unfold opOpenSession
  dsimp only
  repeat' (first | (simp [k1, k2, k3]; done) | split)

theorem opCloseSession_frame (a0 : Pkt) (s : State) :
    (opCloseSession a0 s).st.pending = s.pending ∧
    (opCloseSession a0 s).st.time = s.time ∧
    (opCloseSession a0 s).st.tick = s.tick ∧
    (opCloseSession a0 s).st.free = s.free ∧
    (opCloseSession a0 s).st.tl = s.tl ∧
    (opCloseSession a0 s).st.hk = s.hk ∧
    (opCloseSession a0 s).st.log = s.log ∧
    (opCloseSession a0 s).st.seqs = s.seqs ∧
    (opCloseSession a0 s).st.mclk = s.mclk ∧
    (opCloseSession a0 s).st.sd = s.sd ∧
    (opCloseSession a0 s).st.aux = s.aux ∧
    (opCloseSession a0 s).st.enc = s.enc ∧
    (opCloseSession a0 s).st.slices = s.slices ∧
    (opCloseSession a0 s).st.gl = s.gl ∧
    (opCloseSession a0 s).st.cp = s.cp ∧
    (opCloseSession a0 s).st.flk = s.flk ∧
    (opCloseSession a0 s).st.ring = s.ring ∧
    (opCloseSession a0 s).st.can = s.can ∧
    (opCloseSession a0 s).st.canPub = s.canPub ∧
    (opCloseSession a0 s).st.eth = s.eth ∧
    (opCloseSession a0 s).st.tio = s.tio ∧
    (opCloseSession a0 s).st.dia = s.dia := by
  have k1 := @State.endSession_frame
  have k2 := @State.fail_frame
  have k3 := @State.okay_frame
  unfold opCloseSession
  repeat' (first | (simp [k1, k2, k3]; done) | split)

theorem opNop_frame (a0 : Pkt) (s : State) :
    (opNop a0 s).st.pending = s.pending ∧
    (opNop a0 s).st.time = s.time ∧
    (opNop a0 s).st.tick = s.tick ∧
    (opNop a0 s).st.free = s.free ∧
    (opNop a0 s).st.tl = s.tl ∧
    (opNop a0 s).st.mu = s.mu ∧
    (opNop a0 s).st.hk = s.hk ∧
    (opNop a0 s).st.log = s.log ∧
    (opNop a0 s).st.seqs = s.seqs ∧
    (opNop a0 s).st.host = s.host ∧
    (opNop a0 s).st.dict = s.dict ∧
    (opNop a0 s).st.mclk = s.mclk ∧
    (opNop a0 s).st.sd = s.sd ∧
    (opNop a0 s).st.aux = s.aux ∧
    (opNop a0 s).st.enc = s.enc ∧
    (opNop a0 s).st.eng = s.eng ∧
    (opNop a0 s).st.slices = s.slices ∧
    (opNop a0 s).st.gl = s.gl ∧
    (opNop a0 s).st.ref = s.ref ∧
    (opNop a0 s).st.cp = s.cp ∧
    (opNop a0 s).st.flk = s.flk ∧
    (opNop a0 s).st.ring = s.ring ∧
    (opNop a0 s).st.can = s.can ∧
    (opNop a0 s).st.canPub = s.canPub ∧
    (opNop a0 s).st.eth = s.eth ∧
    (opNop a0 s).st.tio = s.tio ∧
    (opNop a0 s).st.dia = s.dia := by
  have k1 := @State.fail_frame
  have k2 := @State.okWith_frame
  unfold opNop
  repeat' (first | (simp [k1, k2]; done) | split)

theorem opGetInfo_frame (a0 : Pkt) (s : State) :
    (opGetInfo a0 s).st.pending = s.pending ∧
    (opGetInfo a0 s).st.time = s.time ∧
    (opGetInfo a0 s).st.tick = s.tick ∧
    (opGetInfo a0 s).st.free = s.free ∧
    (opGetInfo a0 s).st.tl = s.tl ∧
    (opGetInfo a0 s).st.mu = s.mu ∧
    (opGetInfo a0 s).st.hk = s.hk ∧
    (opGetInfo a0 s).st.log = s.log ∧
    (opGetInfo a0 s).st.seqs = s.seqs ∧
    (opGetInfo a0 s).st.dict = s.dict ∧
    (opGetInfo a0 s).st.mclk = s.mclk ∧
    (opGetInfo a0 s).st.sd = s.sd ∧
    (opGetInfo a0 s).st.aux = s.aux ∧
    (opGetInfo a0 s).st.enc = s.enc ∧
    (opGetInfo a0 s).st.eng = s.eng ∧
    (opGetInfo a0 s).st.slices = s.slices ∧
    (opGetInfo a0 s).st.gl = s.gl ∧
    (opGetInfo a0 s).st.ref = s.ref ∧
    (opGetInfo a0 s).st.cp = s.cp ∧
    (opGetInfo a0 s).st.flk = s.flk ∧
    (opGetInfo a0 s).st.ring = s.ring ∧
    (opGetInfo a0 s).st.can = s.can ∧
    (opGetInfo a0 s).st.canPub = s.canPub ∧
    (opGetInfo a0 s).st.eth = s.eth ∧
    (opGetInfo a0 s).st.tio = s.tio ∧
    (opGetInfo a0 s).st.dia = s.dia := by
  have k1 := @State.fail_frame
  have k2 := @State.okWith_frame
  unfold opGetInfo
  repeat' (first | (simp [k1, k2]; done) | split)

theorem opReset_frame (a0 : Pkt) (s : State) :
    (opReset a0 s).st.pending = s.pending ∧
    (opReset a0 s).st.time = s.time ∧
    (opReset a0 s).st.tick = s.tick ∧
    (opReset a0 s).st.free = s.free ∧
    (opReset a0 s).st.tl = s.tl ∧
    (opReset a0 s).st.hk = s.hk ∧
    (opReset a0 s).st.log = s.log ∧
    (opReset a0 s).st.seqs = s.seqs ∧
    (opReset a0 s).st.host = s.host ∧
    (opReset a0 s).st.dict = s.dict ∧
    (opReset a0 s).st.mclk = s.mclk ∧
    (opReset a0 s).st.sd = s.sd ∧
    (opReset a0 s).st.aux = s.aux ∧
    (opReset a0 s).st.enc = s.enc ∧
    (opReset a0 s).st.eng = s.eng ∧
    (opReset a0 s).st.slices = s.slices ∧
    (opReset a0 s).st.gl = s.gl ∧
    (opReset a0 s).st.ref = s.ref ∧
    (opReset a0 s).st.cp = s.cp ∧
    (opReset a0 s).st.flk = s.flk ∧
    (opReset a0 s).st.ring = s.ring ∧
    (opReset a0 s).st.can = s.can ∧
    (opReset a0 s).st.canPub = s.canPub ∧
    (opReset a0 s).st.eth = s.eth ∧
    (opReset a0 s).st.tio = s.tio ∧
    (opReset a0 s).st.dia = s.dia := by
  have k1 := @State.fail_frame
  have k2 := @State.okay_frame
  have k3 := @State.ite_frame
  unfold opReset
  dsimp only
  repeat' (first | (simp [k1, k2, k3]; done) | split)

theorem opPwrCycle_frame (a0 : Pkt) (s : State) :
    (opPwrCycle a0 s).st.pending = s.pending ∧
    (opPwrCycle a0 s).st.time = s.time ∧
    (opPwrCycle a0 s).st.tick = s.tick ∧
    (opPwrCycle a0 s).st.free = s.free ∧
    (opPwrCycle a0 s).st.tl = s.tl ∧
    (opPwrCycle a0 s).st.hk = s.hk ∧
    (opPwrCycle a0 s).st.log = s.log ∧
    (opPwrCycle a0 s).st.seqs = s.seqs ∧
    (opPwrCycle a0 s).st.host = s.host ∧
    (opPwrCycle a0 s).st.dict = s.dict ∧
    (opPwrCycle a0 s).st.mclk = s.mclk ∧
    (opPwrCycle a0 s).st.sd = s.sd ∧
    (opPwrCycle a0 s).st.aux = s.aux ∧
    (opPwrCycle a0 s).st.enc = s.enc ∧
    (opPwrCycle a0 s).st.eng = s.eng ∧
    (opPwrCycle a0 s).st.slices = s.slices ∧
    (opPwrCycle a0 s).st.gl = s.gl ∧
    (opPwrCycle a0 s).st.ref = s.ref ∧
    (opPwrCycle a0 s).st.cp = s.cp ∧
    (opPwrCycle a0 s).st.flk = s.flk ∧
    (opPwrCycle a0 s).st.ring = s.ring ∧
    (opPwrCycle a0 s).st.can = s.can ∧
    (opPwrCycle a0 s).st.canPub = s.canPub ∧
    (opPwrCycle a0 s).st.eth = s.eth ∧
    (opPwrCycle a0 s).st.tio = s.tio ∧
    (opPwrCycle a0 s).st.dia = s.dia := by
  have k1 := @State.fail_frame
  have k2 := @State.okay_frame
  unfold opPwrCycle
  repeat' (first | (simp [k1, k2]; done) | split)

theorem State.sliceReinit_frame (s : State) (a1 : Nat) :
    (State.sliceReinit s a1).pending = s.pending ∧
    (State.sliceReinit s a1).time = s.time ∧
    (State.sliceReinit s a1).tick = s.tick ∧
    (State.sliceReinit s a1).free = s.free ∧
    (State.sliceReinit s a1).tl = s.tl ∧
    (State.sliceReinit s a1).mu = s.mu ∧
    (State.sliceReinit s a1).hk = s.hk ∧
    (State.sliceReinit s a1).log = s.log ∧
    (State.sliceReinit s a1).seqs = s.seqs ∧
    (State.sliceReinit s a1).host = s.host ∧
    (State.sliceReinit s a1).mclk = s.mclk ∧
    (State.sliceReinit s a1).aux = s.aux ∧
    (State.sliceReinit s a1).enc = s.enc ∧
    (State.sliceReinit s a1).eng = s.eng ∧
    (State.sliceReinit s a1).gl = s.gl ∧
    (State.sliceReinit s a1).cp = s.cp ∧
    (State.sliceReinit s a1).flk = s.flk ∧
    (State.sliceReinit s a1).ring = s.ring ∧
    (State.sliceReinit s a1).can = s.can ∧
    (State.sliceReinit s a1).canPub = s.canPub ∧
    (State.sliceReinit s a1).eth = s.eth ∧
    (State.sliceReinit s a1).tio = s.tio ∧
    (State.sliceReinit s a1).dia = s.dia := by
  have k1 := @State.undegrade_frame
  have k2 := @State.ite_frame
  unfold State.sliceReinit
  simp [k1, k2]

theorem State.ctxReinit_frame (s : State) (a1 : Nat) :
    (State.ctxReinit s a1).pending = s.pending ∧
    (State.ctxReinit s a1).time = s.time ∧
    (State.ctxReinit s a1).tick = s.tick ∧
    (State.ctxReinit s a1).free = s.free ∧
    (State.ctxReinit s a1).tl = s.tl ∧
    (State.ctxReinit s a1).mu = s.mu ∧
    (State.ctxReinit s a1).hk = s.hk ∧
    (State.ctxReinit s a1).log = s.log ∧
    (State.ctxReinit s a1).seqs = s.seqs ∧
    (State.ctxReinit s a1).host = s.host ∧
    (State.ctxReinit s a1).mclk = s.mclk ∧
    (State.ctxReinit s a1).sd = s.sd ∧
    (State.ctxReinit s a1).aux = s.aux ∧
    (State.ctxReinit s a1).enc = s.enc ∧
    (State.ctxReinit s a1).slices = s.slices ∧
    (State.ctxReinit s a1).gl = s.gl ∧
    (State.ctxReinit s a1).ref = s.ref ∧
    (State.ctxReinit s a1).cp = s.cp ∧
    (State.ctxReinit s a1).flk = s.flk ∧
    (State.ctxReinit s a1).ring = s.ring ∧
    (State.ctxReinit s a1).can = s.can ∧
    (State.ctxReinit s a1).canPub = s.canPub ∧
    (State.ctxReinit s a1).eth = s.eth ∧
    (State.ctxReinit s a1).tio = s.tio ∧
    (State.ctxReinit s a1).dia = s.dia := by
  unfold State.ctxReinit
  simp

theorem State.pairReinit_frame (s : State) (a1 : Nat) :
    (State.pairReinit s a1).pending = s.pending ∧
    (State.pairReinit s a1).time = s.time ∧
    (State.pairReinit s a1).tick = s.tick ∧
    (State.pairReinit s a1).free = s.free ∧
    (State.pairReinit s a1).tl = s.tl ∧
    (State.pairReinit s a1).mu = s.mu ∧
    (State.pairReinit s a1).hk = s.hk ∧
    (State.pairReinit s a1).log = s.log ∧
    (State.pairReinit s a1).seqs = s.seqs ∧
    (State.pairReinit s a1).dict = s.dict ∧
    (State.pairReinit s a1).mclk = s.mclk ∧
    (State.pairReinit s a1).sd = s.sd ∧
    (State.pairReinit s a1).aux = s.aux ∧
    (State.pairReinit s a1).enc = s.enc ∧
    (State.pairReinit s a1).eng = s.eng ∧
    (State.pairReinit s a1).slices = s.slices ∧
    (State.pairReinit s a1).gl = s.gl ∧
    (State.pairReinit s a1).ref = s.ref ∧
    (State.pairReinit s a1).cp = s.cp ∧
    (State.pairReinit s a1).flk = s.flk ∧
    (State.pairReinit s a1).ring = s.ring ∧
    (State.pairReinit s a1).can = s.can ∧
    (State.pairReinit s a1).canPub = s.canPub ∧
    (State.pairReinit s a1).eth = s.eth ∧
    (State.pairReinit s a1).tio = s.tio ∧
    (State.pairReinit s a1).dia = s.dia := by
  have k1 := @State.discardOwned_frame
  unfold State.pairReinit
  simp [k1]

theorem State.unitReinit_frame (s : State) (a1 : Nat) :
    (State.unitReinit s a1).st.pending = s.pending ∧
    (State.unitReinit s a1).st.tick = s.tick ∧
    (State.unitReinit s a1).st.free = s.free ∧
    (State.unitReinit s a1).st.mu = s.mu ∧
    (State.unitReinit s a1).st.hk = s.hk ∧
    (State.unitReinit s a1).st.mclk = s.mclk ∧
    (State.unitReinit s a1).st.aux = s.aux ∧
    (State.unitReinit s a1).st.enc = s.enc ∧
    (State.unitReinit s a1).st.eng = s.eng ∧
    (State.unitReinit s a1).st.cp = s.cp ∧
    (State.unitReinit s a1).st.canPub = s.canPub ∧
    (State.unitReinit s a1).st.tio = s.tio := by
  have k1 := @State.canReinit_frame
  have k2 := @State.ethReinit_frame
  have k3 := @State.fail_frame
  have k4 := @State.linkReinit_frame
  have k5 := @State.okay_frame
  have k6 := @State.sliceReinit_frame
  have k7 := @State.ite_frame
  unfold State.unitReinit
  dsimp only
  repeat' (first | (simp [k1, k2, k3, k4, k5, k6, k7]; done) | split)

theorem opReinit_frame (a0 : Pkt) (s : State) :
    (opReinit a0 s).st.pending = s.pending ∧
    (opReinit a0 s).st.tick = s.tick ∧
    (opReinit a0 s).st.free = s.free ∧
    (opReinit a0 s).st.mu = s.mu ∧
    (opReinit a0 s).st.hk = s.hk ∧
    (opReinit a0 s).st.mclk = s.mclk ∧
    (opReinit a0 s).st.cp = s.cp ∧
    (opReinit a0 s).st.canPub = s.canPub ∧
    (opReinit a0 s).st.tio = s.tio := by
  have k1 := @State.auxReinit_frame
  have k2 := @State.ctxReinit_frame
  have k3 := @State.encReinit_frame
  have k4 := @State.fail_frame
  have k5 := @State.okay_frame
  have k6 := @State.pairReinit_frame
  have k7 := @State.unitReinit_frame
  have k8 := @State.ite_frame
  unfold opReinit
  dsimp only
  repeat' (first | (simp [k1, k2, k3, k4, k5, k6, k7, k8]; done) | split)

end Sys2Proof.Machine
end

