-- ==== Sys2Proof/Laws/Ring.lean ====
section
/-!
SUPPORT. What each operation of Machine/Ring.lean leaves as it was: the parts of State that it cannot change.
-/

namespace Sys2Proof.Machine

open Sys2Proof

theorem State.leaveFlask_frame (s : State) :
    (State.leaveFlask s).pending = s.pending ∧
    (State.leaveFlask s).time = s.time ∧
    (State.leaveFlask s).tick = s.tick ∧
    (State.leaveFlask s).free = s.free ∧
    (State.leaveFlask s).tl = s.tl ∧
    (State.leaveFlask s).mu = s.mu ∧
    (State.leaveFlask s).hk = s.hk ∧
    (State.leaveFlask s).host = s.host ∧
    (State.leaveFlask s).mclk = s.mclk ∧
    (State.leaveFlask s).sd = s.sd ∧
    (State.leaveFlask s).aux = s.aux ∧
    (State.leaveFlask s).eng = s.eng ∧
    (State.leaveFlask s).slices = s.slices ∧
    (State.leaveFlask s).cp = s.cp ∧
    (State.leaveFlask s).canPub = s.canPub ∧
    (State.leaveFlask s).eth = s.eth ∧
    (State.leaveFlask s).tio = s.tio := by
  have k1 := @State.abortHandover_frame
  have k2 := @State.setRole_frame
  unfold State.leaveFlask
  simp [k1, k2]

theorem opFlkConfig_frame (a0 : Pkt) (s : State) :
    (opFlkConfig a0 s).st.pending = s.pending ∧
    (opFlkConfig a0 s).st.time = s.time ∧
    (opFlkConfig a0 s).st.tick = s.tick ∧
    (opFlkConfig a0 s).st.free = s.free ∧
    (opFlkConfig a0 s).st.tl = s.tl ∧
    (opFlkConfig a0 s).st.mu = s.mu ∧
    (opFlkConfig a0 s).st.hk = s.hk ∧
    (opFlkConfig a0 s).st.host = s.host ∧
    (opFlkConfig a0 s).st.mclk = s.mclk ∧
    (opFlkConfig a0 s).st.sd = s.sd ∧
    (opFlkConfig a0 s).st.aux = s.aux ∧
    (opFlkConfig a0 s).st.eng = s.eng ∧
    (opFlkConfig a0 s).st.slices = s.slices ∧
    (opFlkConfig a0 s).st.cp = s.cp ∧
    (opFlkConfig a0 s).st.canPub = s.canPub ∧
    (opFlkConfig a0 s).st.eth = s.eth ∧
    (opFlkConfig a0 s).st.tio = s.tio := by
  have k1 := @State.fail_frame
  have k2 := @State.leaveFlask_frame
  have k3 := @State.okay_frame
  have k4 := @State.setKept_frame
  have k5 := @State.ite_frame
  unfold opFlkConfig
  dsimp only
  repeat' (first | (simp [k1, k2, k3, k4, k5]; done) | split)

theorem opHandoverAt_frame (a0 : Stamp) (a1 : Pkt) (s : State) :
    (opHandoverAt a0 a1 s).st.pending = s.pending ∧
    (opHandoverAt a0 a1 s).st.time = s.time ∧
    (opHandoverAt a0 a1 s).st.tick = s.tick ∧
    (opHandoverAt a0 a1 s).st.free = s.free ∧
    (opHandoverAt a0 a1 s).st.tl = s.tl ∧
    (opHandoverAt a0 a1 s).st.mu = s.mu ∧
    (opHandoverAt a0 a1 s).st.hk = s.hk ∧
    (opHandoverAt a0 a1 s).st.log = s.log ∧
    (opHandoverAt a0 a1 s).st.seqs = s.seqs ∧
    (opHandoverAt a0 a1 s).st.host = s.host ∧
    (opHandoverAt a0 a1 s).st.dict = s.dict ∧
    (opHandoverAt a0 a1 s).st.mclk = s.mclk ∧
    (opHandoverAt a0 a1 s).st.sd = s.sd ∧
    (opHandoverAt a0 a1 s).st.aux = s.aux ∧
    (opHandoverAt a0 a1 s).st.enc = s.enc ∧
    (opHandoverAt a0 a1 s).st.eng = s.eng ∧
    (opHandoverAt a0 a1 s).st.slices = s.slices ∧
    (opHandoverAt a0 a1 s).st.gl = s.gl ∧
    (opHandoverAt a0 a1 s).st.ref = s.ref ∧
    (opHandoverAt a0 a1 s).st.cp = s.cp ∧
    (opHandoverAt a0 a1 s).st.ring = s.ring ∧
    (opHandoverAt a0 a1 s).st.can = s.can ∧
    (opHandoverAt a0 a1 s).st.canPub = s.canPub ∧
    (opHandoverAt a0 a1 s).st.eth = s.eth ∧
    (opHandoverAt a0 a1 s).st.tio = s.tio ∧
    (opHandoverAt a0 a1 s).st.dia = s.dia := by
  have k1 := @State.accept_frame
  have k2 := @State.fail_frame
  have k3 := @State.ite_frame
  unfold opHandoverAt
  dsimp only
  repeat' (first | (simp [k1, k2, k3]; done) | split)

theorem opHandover_frame (a0 : Pkt) (s : State) :
    (opHandover a0 s).st.pending = s.pending ∧
    (opHandover a0 s).st.time = s.time ∧
    (opHandover a0 s).st.tick = s.tick ∧
    (opHandover a0 s).st.free = s.free ∧
    (opHandover a0 s).st.tl = s.tl ∧
    (opHandover a0 s).st.mu = s.mu ∧
    (opHandover a0 s).st.hk = s.hk ∧
    (opHandover a0 s).st.log = s.log ∧
    (opHandover a0 s).st.seqs = s.seqs ∧
    (opHandover a0 s).st.host = s.host ∧
    (opHandover a0 s).st.dict = s.dict ∧
    (opHandover a0 s).st.mclk = s.mclk ∧
    (opHandover a0 s).st.sd = s.sd ∧
    (opHandover a0 s).st.aux = s.aux ∧
    (opHandover a0 s).st.enc = s.enc ∧
    (opHandover a0 s).st.eng = s.eng ∧
    (opHandover a0 s).st.slices = s.slices ∧
    (opHandover a0 s).st.gl = s.gl ∧
    (opHandover a0 s).st.ref = s.ref ∧
    (opHandover a0 s).st.cp = s.cp ∧
    (opHandover a0 s).st.ring = s.ring ∧
    (opHandover a0 s).st.can = s.can ∧
    (opHandover a0 s).st.canPub = s.canPub ∧
    (opHandover a0 s).st.eth = s.eth ∧
    (opHandover a0 s).st.tio = s.tio ∧
    (opHandover a0 s).st.dia = s.dia := by
  have k1 := @opHandoverAt_frame
  unfold opHandover
  simp [k1]

theorem opResync_frame (a0 : Pkt) (s : State) :
    (opResync a0 s).st.pending = s.pending ∧
    (opResync a0 s).st.time = s.time ∧
    (opResync a0 s).st.tick = s.tick ∧
    (opResync a0 s).st.free = s.free ∧
    (opResync a0 s).st.tl = s.tl ∧
    (opResync a0 s).st.mu = s.mu ∧
    (opResync a0 s).st.hk = s.hk ∧
    (opResync a0 s).st.host = s.host ∧
    (opResync a0 s).st.mclk = s.mclk ∧
    (opResync a0 s).st.sd = s.sd ∧
    (opResync a0 s).st.aux = s.aux ∧
    (opResync a0 s).st.eng = s.eng ∧
    (opResync a0 s).st.slices = s.slices ∧
    (opResync a0 s).st.cp = s.cp ∧
    (opResync a0 s).st.canPub = s.canPub ∧
    (opResync a0 s).st.eth = s.eth ∧
    (opResync a0 s).st.tio = s.tio := by
  have k1 := @State.accept_frame
  have k2 := @State.fail_frame
  have k3 := @State.mayJoin_frame
  have k4 := @State.startResync_frame
  have k5 := @State.ite_frame
  unfold opResync
  dsimp only
  repeat' (first | (simp [k1, k2, k3, k4, k5]; done) | split)

theorem State.applyProbe_frame (s : State) (a1 : Nat) (a2 : Nat) :
    (State.applyProbe s a1 a2).pending = s.pending ∧
    (State.applyProbe s a1 a2).time = s.time ∧
    (State.applyProbe s a1 a2).tick = s.tick ∧
    (State.applyProbe s a1 a2).free = s.free ∧
    (State.applyProbe s a1 a2).tl = s.tl ∧
    (State.applyProbe s a1 a2).mu = s.mu ∧
    (State.applyProbe s a1 a2).hk = s.hk ∧
    (State.applyProbe s a1 a2).log = s.log ∧
    (State.applyProbe s a1 a2).seqs = s.seqs ∧
    (State.applyProbe s a1 a2).host = s.host ∧
    (State.applyProbe s a1 a2).mclk = s.mclk ∧
    (State.applyProbe s a1 a2).sd = s.sd ∧
    (State.applyProbe s a1 a2).aux = s.aux ∧
    (State.applyProbe s a1 a2).enc = s.enc ∧
    (State.applyProbe s a1 a2).eng = s.eng ∧
    (State.applyProbe s a1 a2).slices = s.slices ∧
    (State.applyProbe s a1 a2).gl = s.gl ∧
    (State.applyProbe s a1 a2).ref = s.ref ∧
    (State.applyProbe s a1 a2).cp = s.cp ∧
    (State.applyProbe s a1 a2).flk = s.flk ∧
    (State.applyProbe s a1 a2).ring = s.ring ∧
    (State.applyProbe s a1 a2).can = s.can ∧
    (State.applyProbe s a1 a2).canPub = s.canPub ∧
    (State.applyProbe s a1 a2).eth = s.eth ∧
    (State.applyProbe s a1 a2).dia = s.dia := by
  have k1 := @State.tioPush_frame
  have k2 := @State.ite_frame
  unfold State.applyProbe
  simp [k1, k2]

theorem State.outOfStep_frame (s : State) :
    (State.outOfStep s).pending = s.pending ∧
    (State.outOfStep s).time = s.time ∧
    (State.outOfStep s).tick = s.tick ∧
    (State.outOfStep s).free = s.free ∧
    (State.outOfStep s).tl = s.tl ∧
    (State.outOfStep s).mu = s.mu ∧
    (State.outOfStep s).hk = s.hk ∧
    (State.outOfStep s).log = s.log ∧
    (State.outOfStep s).seqs = s.seqs ∧
    (State.outOfStep s).host = s.host ∧
    (State.outOfStep s).dict = s.dict ∧
    (State.outOfStep s).mclk = s.mclk ∧
    (State.outOfStep s).sd = s.sd ∧
    (State.outOfStep s).aux = s.aux ∧
    (State.outOfStep s).enc = s.enc ∧
    (State.outOfStep s).eng = s.eng ∧
    (State.outOfStep s).slices = s.slices ∧
    (State.outOfStep s).gl = s.gl ∧
    (State.outOfStep s).ref = s.ref ∧
    (State.outOfStep s).cp = s.cp ∧
    (State.outOfStep s).ring = s.ring ∧
    (State.outOfStep s).can = s.can ∧
    (State.outOfStep s).canPub = s.canPub ∧
    (State.outOfStep s).eth = s.eth ∧
    (State.outOfStep s).tio = s.tio ∧
    (State.outOfStep s).dia = s.dia := by
  have k1 := @State.ite_frame
  unfold State.outOfStep
  simp [k1]

theorem effMirrorHoldExpire_frame (s : State) :
    (effMirrorHoldExpire s).pending = s.pending ∧
    (effMirrorHoldExpire s).time = s.time ∧
    (effMirrorHoldExpire s).tick = s.tick ∧
    (effMirrorHoldExpire s).free = s.free ∧
    (effMirrorHoldExpire s).tl = s.tl ∧
    (effMirrorHoldExpire s).mu = s.mu ∧
    (effMirrorHoldExpire s).hk = s.hk ∧
    (effMirrorHoldExpire s).log = s.log ∧
    (effMirrorHoldExpire s).seqs = s.seqs ∧
    (effMirrorHoldExpire s).host = s.host ∧
    (effMirrorHoldExpire s).dict = s.dict ∧
    (effMirrorHoldExpire s).mclk = s.mclk ∧
    (effMirrorHoldExpire s).sd = s.sd ∧
    (effMirrorHoldExpire s).aux = s.aux ∧
    (effMirrorHoldExpire s).enc = s.enc ∧
    (effMirrorHoldExpire s).eng = s.eng ∧
    (effMirrorHoldExpire s).slices = s.slices ∧
    (effMirrorHoldExpire s).gl = s.gl ∧
    (effMirrorHoldExpire s).ref = s.ref ∧
    (effMirrorHoldExpire s).cp = s.cp ∧
    (effMirrorHoldExpire s).ring = s.ring ∧
    (effMirrorHoldExpire s).can = s.can ∧
    (effMirrorHoldExpire s).canPub = s.canPub ∧
    (effMirrorHoldExpire s).eth = s.eth ∧
    (effMirrorHoldExpire s).tio = s.tio ∧
    (effMirrorHoldExpire s).dia = s.dia := by
  unfold effMirrorHoldExpire
  simp

theorem effRingNakRx_frame (a0 : Nat) (a1 : Nat) (s : State) :
    (effRingNakRx a0 a1 s).pending = s.pending ∧
    (effRingNakRx a0 a1 s).time = s.time ∧
    (effRingNakRx a0 a1 s).tick = s.tick ∧
    (effRingNakRx a0 a1 s).free = s.free ∧
    (effRingNakRx a0 a1 s).tl = s.tl ∧
    (effRingNakRx a0 a1 s).mu = s.mu ∧
    (effRingNakRx a0 a1 s).hk = s.hk ∧
    (effRingNakRx a0 a1 s).log = s.log ∧
    (effRingNakRx a0 a1 s).host = s.host ∧
    (effRingNakRx a0 a1 s).mclk = s.mclk ∧
    (effRingNakRx a0 a1 s).sd = s.sd ∧
    (effRingNakRx a0 a1 s).aux = s.aux ∧
    (effRingNakRx a0 a1 s).enc = s.enc ∧
    (effRingNakRx a0 a1 s).eng = s.eng ∧
    (effRingNakRx a0 a1 s).slices = s.slices ∧
    (effRingNakRx a0 a1 s).gl = s.gl ∧
    (effRingNakRx a0 a1 s).ref = s.ref ∧
    (effRingNakRx a0 a1 s).cp = s.cp ∧
    (effRingNakRx a0 a1 s).flk = s.flk ∧
    (effRingNakRx a0 a1 s).can = s.can ∧
    (effRingNakRx a0 a1 s).canPub = s.canPub ∧
    (effRingNakRx a0 a1 s).eth = s.eth ∧
    (effRingNakRx a0 a1 s).tio = s.tio := by
  have k1 := @State.sendItem_frame
  have k2 := @State.ite_frame
  unfold effRingNakRx
  simp [k1, k2]

theorem effRingMirrorResetRx_frame (s : State) :
    (effRingMirrorResetRx s).pending = s.pending ∧
    (effRingMirrorResetRx s).time = s.time ∧
    (effRingMirrorResetRx s).tick = s.tick ∧
    (effRingMirrorResetRx s).free = s.free ∧
    (effRingMirrorResetRx s).tl = s.tl ∧
    (effRingMirrorResetRx s).mu = s.mu ∧
    (effRingMirrorResetRx s).hk = s.hk ∧
    (effRingMirrorResetRx s).log = s.log ∧
    (effRingMirrorResetRx s).seqs = s.seqs ∧
    (effRingMirrorResetRx s).host = s.host ∧
    (effRingMirrorResetRx s).dict = s.dict ∧
    (effRingMirrorResetRx s).mclk = s.mclk ∧
    (effRingMirrorResetRx s).sd = s.sd ∧
    (effRingMirrorResetRx s).aux = s.aux ∧
    (effRingMirrorResetRx s).enc = s.enc ∧
    (effRingMirrorResetRx s).eng = s.eng ∧
    (effRingMirrorResetRx s).slices = s.slices ∧
    (effRingMirrorResetRx s).gl = s.gl ∧
    (effRingMirrorResetRx s).ref = s.ref ∧
    (effRingMirrorResetRx s).cp = s.cp ∧
    (effRingMirrorResetRx s).ring = s.ring ∧
    (effRingMirrorResetRx s).can = s.can ∧
    (effRingMirrorResetRx s).canPub = s.canPub ∧
    (effRingMirrorResetRx s).eth = s.eth ∧
    (effRingMirrorResetRx s).tio = s.tio ∧
    (effRingMirrorResetRx s).dia = s.dia := by
  have k1 := @State.outOfStep_frame
  have k2 := @State.ite_frame
  unfold effRingMirrorResetRx
  simp [k1, k2]

theorem effRingDigestRx_frame (a0 : Fin 6) (a1 : Stamp) (a2 : Word) (s : State) :
    (effRingDigestRx a0 a1 a2 s).pending = s.pending ∧
    (effRingDigestRx a0 a1 a2 s).time = s.time ∧
    (effRingDigestRx a0 a1 a2 s).tick = s.tick ∧
    (effRingDigestRx a0 a1 a2 s).free = s.free ∧
    (effRingDigestRx a0 a1 a2 s).tl = s.tl ∧
    (effRingDigestRx a0 a1 a2 s).mu = s.mu ∧
    (effRingDigestRx a0 a1 a2 s).hk = s.hk ∧
    (effRingDigestRx a0 a1 a2 s).log = s.log ∧
    (effRingDigestRx a0 a1 a2 s).seqs = s.seqs ∧
    (effRingDigestRx a0 a1 a2 s).host = s.host ∧
    (effRingDigestRx a0 a1 a2 s).mclk = s.mclk ∧
    (effRingDigestRx a0 a1 a2 s).sd = s.sd ∧
    (effRingDigestRx a0 a1 a2 s).aux = s.aux ∧
    (effRingDigestRx a0 a1 a2 s).enc = s.enc ∧
    (effRingDigestRx a0 a1 a2 s).eng = s.eng ∧
    (effRingDigestRx a0 a1 a2 s).slices = s.slices ∧
    (effRingDigestRx a0 a1 a2 s).gl = s.gl ∧
    (effRingDigestRx a0 a1 a2 s).ref = s.ref ∧
    (effRingDigestRx a0 a1 a2 s).cp = s.cp ∧
    (effRingDigestRx a0 a1 a2 s).ring = s.ring ∧
    (effRingDigestRx a0 a1 a2 s).can = s.can ∧
    (effRingDigestRx a0 a1 a2 s).canPub = s.canPub ∧
    (effRingDigestRx a0 a1 a2 s).eth = s.eth ∧
    (effRingDigestRx a0 a1 a2 s).tio = s.tio ∧
    (effRingDigestRx a0 a1 a2 s).dia = s.dia := by
  have k1 := @State.digestCheck_frame
  have k2 := @State.ite_frame
  unfold effRingDigestRx
  simp [k1, k2]

theorem effRingHeartbeatSend_frame (s : State) :
    (effRingHeartbeatSend s).pending = s.pending ∧
    (effRingHeartbeatSend s).time = s.time ∧
    (effRingHeartbeatSend s).tick = s.tick ∧
    (effRingHeartbeatSend s).free = s.free ∧
    (effRingHeartbeatSend s).tl = s.tl ∧
    (effRingHeartbeatSend s).mu = s.mu ∧
    (effRingHeartbeatSend s).hk = s.hk ∧
    (effRingHeartbeatSend s).log = s.log ∧
    (effRingHeartbeatSend s).host = s.host ∧
    (effRingHeartbeatSend s).mclk = s.mclk ∧
    (effRingHeartbeatSend s).sd = s.sd ∧
    (effRingHeartbeatSend s).aux = s.aux ∧
    (effRingHeartbeatSend s).eng = s.eng ∧
    (effRingHeartbeatSend s).slices = s.slices ∧
    (effRingHeartbeatSend s).cp = s.cp ∧
    (effRingHeartbeatSend s).canPub = s.canPub ∧
    (effRingHeartbeatSend s).eth = s.eth ∧
    (effRingHeartbeatSend s).tio = s.tio := by
  have k1 := @State.joinPair_frame
  have k2 := @State.ringTx_frame
  have k3 := @State.tryPromote_frame
  have k4 := @State.ite_frame
  unfold effRingHeartbeatSend
  simp [k1, k2, k3, k4]

theorem State.copyTq_frame (s : State) (a1 : Heartbeat) :
    (State.copyTq s a1).pending = s.pending ∧
    (State.copyTq s a1).time = s.time ∧
    (State.copyTq s a1).tick = s.tick ∧
    (State.copyTq s a1).free = s.free ∧
    (State.copyTq s a1).mu = s.mu ∧
    (State.copyTq s a1).hk = s.hk ∧
    (State.copyTq s a1).log = s.log ∧
    (State.copyTq s a1).seqs = s.seqs ∧
    (State.copyTq s a1).host = s.host ∧
    (State.copyTq s a1).dict = s.dict ∧
    (State.copyTq s a1).mclk = s.mclk ∧
    (State.copyTq s a1).sd = s.sd ∧
    (State.copyTq s a1).aux = s.aux ∧
    (State.copyTq s a1).enc = s.enc ∧
    (State.copyTq s a1).eng = s.eng ∧
    (State.copyTq s a1).slices = s.slices ∧
    (State.copyTq s a1).gl = s.gl ∧
    (State.copyTq s a1).ref = s.ref ∧
    (State.copyTq s a1).cp = s.cp ∧
    (State.copyTq s a1).flk = s.flk ∧
    (State.copyTq s a1).ring = s.ring ∧
    (State.copyTq s a1).can = s.can ∧
    (State.copyTq s a1).canPub = s.canPub ∧
    (State.copyTq s a1).eth = s.eth ∧
    (State.copyTq s a1).tio = s.tio ∧
    (State.copyTq s a1).dia = s.dia := by
  have k1 := @State.ite_frame
  unfold State.copyTq
  simp [k1]

theorem State.chooseSource_frame (s : State) :
    (State.chooseSource s).pending = s.pending ∧
    (State.chooseSource s).tick = s.tick ∧
    (State.chooseSource s).free = s.free ∧
    (State.chooseSource s).mu = s.mu ∧
    (State.chooseSource s).hk = s.hk ∧
    (State.chooseSource s).host = s.host ∧
    (State.chooseSource s).mclk = s.mclk ∧
    (State.chooseSource s).sd = s.sd ∧
    (State.chooseSource s).aux = s.aux ∧
    (State.chooseSource s).enc = s.enc ∧
    (State.chooseSource s).eng = s.eng ∧
    (State.chooseSource s).slices = s.slices ∧
    (State.chooseSource s).gl = s.gl ∧
    (State.chooseSource s).ref = s.ref ∧
    (State.chooseSource s).cp = s.cp ∧
    (State.chooseSource s).can = s.can ∧
    (State.chooseSource s).canPub = s.canPub ∧
    (State.chooseSource s).eth = s.eth ∧
    (State.chooseSource s).tio = s.tio := by
  have k1 := @State.gmLost_frame
  have k2 := @State.ite_frame
  unfold State.chooseSource
  simp [k1, k2]

theorem State.hearNode_frame (s : State) (a1 : Nat) (a2 : Heartbeat) :
    (State.hearNode s a1 a2).pending = s.pending ∧
    (State.hearNode s a1 a2).time = s.time ∧
    (State.hearNode s a1 a2).tick = s.tick ∧
    (State.hearNode s a1 a2).free = s.free ∧
    (State.hearNode s a1 a2).tl = s.tl ∧
    (State.hearNode s a1 a2).mu = s.mu ∧
    (State.hearNode s a1 a2).hk = s.hk ∧
    (State.hearNode s a1 a2).log = s.log ∧
    (State.hearNode s a1 a2).seqs = s.seqs ∧
    (State.hearNode s a1 a2).host = s.host ∧
    (State.hearNode s a1 a2).dict = s.dict ∧
    (State.hearNode s a1 a2).mclk = s.mclk ∧
    (State.hearNode s a1 a2).sd = s.sd ∧
    (State.hearNode s a1 a2).aux = s.aux ∧
    (State.hearNode s a1 a2).enc = s.enc ∧
    (State.hearNode s a1 a2).eng = s.eng ∧
    (State.hearNode s a1 a2).slices = s.slices ∧
    (State.hearNode s a1 a2).gl = s.gl ∧
    (State.hearNode s a1 a2).ref = s.ref ∧
    (State.hearNode s a1 a2).cp = s.cp ∧
    (State.hearNode s a1 a2).flk = s.flk ∧
    (State.hearNode s a1 a2).can = s.can ∧
    (State.hearNode s a1 a2).canPub = s.canPub ∧
    (State.hearNode s a1 a2).eth = s.eth ∧
    (State.hearNode s a1 a2).tio = s.tio ∧
    (State.hearNode s a1 a2).dia = s.dia := by
  unfold State.hearNode
  simp

theorem State.partnerRole_frame (s : State) (a1 : Heartbeat) :
    (State.partnerRole s a1).pending = s.pending ∧
    (State.partnerRole s a1).time = s.time ∧
    (State.partnerRole s a1).tick = s.tick ∧
    (State.partnerRole s a1).free = s.free ∧
    (State.partnerRole s a1).tl = s.tl ∧
    (State.partnerRole s a1).mu = s.mu ∧
    (State.partnerRole s a1).hk = s.hk ∧
    (State.partnerRole s a1).host = s.host ∧
    (State.partnerRole s a1).mclk = s.mclk ∧
    (State.partnerRole s a1).sd = s.sd ∧
    (State.partnerRole s a1).aux = s.aux ∧
    (State.partnerRole s a1).eng = s.eng ∧
    (State.partnerRole s a1).slices = s.slices ∧
    (State.partnerRole s a1).cp = s.cp ∧
    (State.partnerRole s a1).canPub = s.canPub ∧
    (State.partnerRole s a1).eth = s.eth ∧
    (State.partnerRole s a1).tio = s.tio := by
  have k1 := @State.autoResync_frame
  have k2 := @State.candidate_frame
  have k3 := @State.mayJoin_frame
  have k4 := @State.ite_frame
  unfold State.partnerRole
  repeat' (first | (simp [k1, k2, k3, k4]; done) | split)

theorem State.countAfresh_frame (s : State) (a1 : Heartbeat) :
    (State.countAfresh s a1).pending = s.pending ∧
    (State.countAfresh s a1).time = s.time ∧
    (State.countAfresh s a1).tick = s.tick ∧
    (State.countAfresh s a1).free = s.free ∧
    (State.countAfresh s a1).tl = s.tl ∧
    (State.countAfresh s a1).mu = s.mu ∧
    (State.countAfresh s a1).hk = s.hk ∧
    (State.countAfresh s a1).log = s.log ∧
    (State.countAfresh s a1).seqs = s.seqs ∧
    (State.countAfresh s a1).host = s.host ∧
    (State.countAfresh s a1).dict = s.dict ∧
    (State.countAfresh s a1).mclk = s.mclk ∧
    (State.countAfresh s a1).sd = s.sd ∧
    (State.countAfresh s a1).aux = s.aux ∧
    (State.countAfresh s a1).enc = s.enc ∧
    (State.countAfresh s a1).eng = s.eng ∧
    (State.countAfresh s a1).slices = s.slices ∧
    (State.countAfresh s a1).gl = s.gl ∧
    (State.countAfresh s a1).ref = s.ref ∧
    (State.countAfresh s a1).cp = s.cp ∧
    (State.countAfresh s a1).ring = s.ring ∧
    (State.countAfresh s a1).can = s.can ∧
    (State.countAfresh s a1).canPub = s.canPub ∧
    (State.countAfresh s a1).eth = s.eth ∧
    (State.countAfresh s a1).tio = s.tio ∧
    (State.countAfresh s a1).dia = s.dia := by
  have k1 := @State.ite_frame
  unfold State.countAfresh
  simp [k1]

theorem State.partnerFault_frame (s : State) (a1 : Heartbeat) :
    (State.partnerFault s a1).pending = s.pending ∧
    (State.partnerFault s a1).time = s.time ∧
    (State.partnerFault s a1).tick = s.tick ∧
    (State.partnerFault s a1).free = s.free ∧
    (State.partnerFault s a1).tl = s.tl ∧
    (State.partnerFault s a1).mu = s.mu ∧
    (State.partnerFault s a1).hk = s.hk ∧
    (State.partnerFault s a1).host = s.host ∧
    (State.partnerFault s a1).mclk = s.mclk ∧
    (State.partnerFault s a1).sd = s.sd ∧
    (State.partnerFault s a1).aux = s.aux ∧
    (State.partnerFault s a1).enc = s.enc ∧
    (State.partnerFault s a1).eng = s.eng ∧
    (State.partnerFault s a1).slices = s.slices ∧
    (State.partnerFault s a1).gl = s.gl ∧
    (State.partnerFault s a1).ref = s.ref ∧
    (State.partnerFault s a1).cp = s.cp ∧
    (State.partnerFault s a1).ring = s.ring ∧
    (State.partnerFault s a1).can = s.can ∧
    (State.partnerFault s a1).canPub = s.canPub ∧
    (State.partnerFault s a1).eth = s.eth ∧
    (State.partnerFault s a1).tio = s.tio := by
  have k1 := @State.abortHandover_frame
  have k2 := @State.ite_frame
  unfold State.partnerFault
  simp [k1, k2]

theorem State.hearPartner_frame (s : State) (a1 : Heartbeat) :
    (State.hearPartner s a1).pending = s.pending ∧
    (State.hearPartner s a1).time = s.time ∧
    (State.hearPartner s a1).tick = s.tick ∧
    (State.hearPartner s a1).free = s.free ∧
    (State.hearPartner s a1).mu = s.mu ∧
    (State.hearPartner s a1).hk = s.hk ∧
    (State.hearPartner s a1).host = s.host ∧
    (State.hearPartner s a1).mclk = s.mclk ∧
    (State.hearPartner s a1).sd = s.sd ∧
    (State.hearPartner s a1).aux = s.aux ∧
    (State.hearPartner s a1).eng = s.eng ∧
    (State.hearPartner s a1).slices = s.slices ∧
    (State.hearPartner s a1).cp = s.cp ∧
    (State.hearPartner s a1).canPub = s.canPub ∧
    (State.hearPartner s a1).eth = s.eth ∧
    (State.hearPartner s a1).tio = s.tio := by
  have k1 := @State.copyTq_frame
  have k2 := @State.countAfresh_frame
  have k3 := @State.partnerFault_frame
  have k4 := @State.partnerRole_frame
  have k5 := @State.throttleMirror_frame
  unfold State.hearPartner
  simp [k1, k2, k3, k4, k5]

theorem effRingHeartbeatRx_frame (a0 : Fin 2) (a1 : Heartbeat) (s : State) :
    (effRingHeartbeatRx a0 a1 s).pending = s.pending ∧
    (effRingHeartbeatRx a0 a1 s).tick = s.tick ∧
    (effRingHeartbeatRx a0 a1 s).free = s.free ∧
    (effRingHeartbeatRx a0 a1 s).mu = s.mu ∧
    (effRingHeartbeatRx a0 a1 s).hk = s.hk ∧
    (effRingHeartbeatRx a0 a1 s).host = s.host ∧
    (effRingHeartbeatRx a0 a1 s).mclk = s.mclk ∧
    (effRingHeartbeatRx a0 a1 s).sd = s.sd ∧
    (effRingHeartbeatRx a0 a1 s).aux = s.aux ∧
    (effRingHeartbeatRx a0 a1 s).eng = s.eng ∧
    (effRingHeartbeatRx a0 a1 s).slices = s.slices ∧
    (effRingHeartbeatRx a0 a1 s).cp = s.cp ∧
    (effRingHeartbeatRx a0 a1 s).canPub = s.canPub ∧
    (effRingHeartbeatRx a0 a1 s).eth = s.eth ∧
    (effRingHeartbeatRx a0 a1 s).tio = s.tio := by
  have k1 := @State.chooseSource_frame
  have k2 := @State.hearNode_frame
  have k3 := @State.hearPartner_frame
  have k4 := @State.ite_frame
  unfold effRingHeartbeatRx
  simp [k1, k2, k3, k4]

theorem effHeartbeatFailure_frame (s : State) :
    (effHeartbeatFailure s).pending = s.pending ∧
    (effHeartbeatFailure s).time = s.time ∧
    (effHeartbeatFailure s).tick = s.tick ∧
    (effHeartbeatFailure s).free = s.free ∧
    (effHeartbeatFailure s).tl = s.tl ∧
    (effHeartbeatFailure s).mu = s.mu ∧
    (effHeartbeatFailure s).hk = s.hk ∧
    (effHeartbeatFailure s).host = s.host ∧
    (effHeartbeatFailure s).mclk = s.mclk ∧
    (effHeartbeatFailure s).sd = s.sd ∧
    (effHeartbeatFailure s).aux = s.aux ∧
    (effHeartbeatFailure s).eng = s.eng ∧
    (effHeartbeatFailure s).slices = s.slices ∧
    (effHeartbeatFailure s).cp = s.cp ∧
    (effHeartbeatFailure s).canPub = s.canPub ∧
    (effHeartbeatFailure s).eth = s.eth ∧
    (effHeartbeatFailure s).tio = s.tio := by
  have k1 := @State.abortHandover_frame
  have k2 := @State.candidate_frame
  have k3 := @State.failResync_frame
  have k4 := @State.throttleMirror_frame
  have k5 := @State.ite_frame
  unfold effHeartbeatFailure
  dsimp only
  repeat' (first | (simp [k1, k2, k3, k4, k5]; done) | split)

theorem effJoinWaitExpire_frame (s : State) :
    (effJoinWaitExpire s).pending = s.pending ∧
    (effJoinWaitExpire s).time = s.time ∧
    (effJoinWaitExpire s).tick = s.tick ∧
    (effJoinWaitExpire s).free = s.free ∧
    (effJoinWaitExpire s).tl = s.tl ∧
    (effJoinWaitExpire s).mu = s.mu ∧
    (effJoinWaitExpire s).hk = s.hk ∧
    (effJoinWaitExpire s).host = s.host ∧
    (effJoinWaitExpire s).mclk = s.mclk ∧
    (effJoinWaitExpire s).sd = s.sd ∧
    (effJoinWaitExpire s).aux = s.aux ∧
    (effJoinWaitExpire s).eng = s.eng ∧
    (effJoinWaitExpire s).slices = s.slices ∧
    (effJoinWaitExpire s).cp = s.cp ∧
    (effJoinWaitExpire s).canPub = s.canPub ∧
    (effJoinWaitExpire s).eth = s.eth ∧
    (effJoinWaitExpire s).tio = s.tio := by
  have k1 := @State.candidate_frame
  have k2 := @State.mayJoin_frame
  have k3 := @State.ite_frame
  unfold effJoinWaitExpire
  repeat' (first | (simp [k1, k2, k3]; done) | split)

theorem effRingClaimSend_frame (s : State) :
    (effRingClaimSend s).pending = s.pending ∧
    (effRingClaimSend s).time = s.time ∧
    (effRingClaimSend s).tick = s.tick ∧
    (effRingClaimSend s).free = s.free ∧
    (effRingClaimSend s).tl = s.tl ∧
    (effRingClaimSend s).mu = s.mu ∧
    (effRingClaimSend s).hk = s.hk ∧
    (effRingClaimSend s).log = s.log ∧
    (effRingClaimSend s).host = s.host ∧
    (effRingClaimSend s).mclk = s.mclk ∧
    (effRingClaimSend s).sd = s.sd ∧
    (effRingClaimSend s).aux = s.aux ∧
    (effRingClaimSend s).eng = s.eng ∧
    (effRingClaimSend s).slices = s.slices ∧
    (effRingClaimSend s).cp = s.cp ∧
    (effRingClaimSend s).canPub = s.canPub ∧
    (effRingClaimSend s).eth = s.eth ∧
    (effRingClaimSend s).tio = s.tio := by
  have k1 := @State.sendClaim_frame
  have k2 := @State.tryPromote_frame
  have k3 := @State.ite_frame
  unfold effRingClaimSend
  simp [k1, k2, k3]

theorem effRingClaimRx_frame (a0 : Fin 2) (a1 : Nat) (a2 : Nat) (s : State) :
    (effRingClaimRx a0 a1 a2 s).pending = s.pending ∧
    (effRingClaimRx a0 a1 a2 s).time = s.time ∧
    (effRingClaimRx a0 a1 a2 s).tick = s.tick ∧
    (effRingClaimRx a0 a1 a2 s).free = s.free ∧
    (effRingClaimRx a0 a1 a2 s).tl = s.tl ∧
    (effRingClaimRx a0 a1 a2 s).mu = s.mu ∧
    (effRingClaimRx a0 a1 a2 s).hk = s.hk ∧
    (effRingClaimRx a0 a1 a2 s).host = s.host ∧
    (effRingClaimRx a0 a1 a2 s).mclk = s.mclk ∧
    (effRingClaimRx a0 a1 a2 s).sd = s.sd ∧
    (effRingClaimRx a0 a1 a2 s).aux = s.aux ∧
    (effRingClaimRx a0 a1 a2 s).eng = s.eng ∧
    (effRingClaimRx a0 a1 a2 s).slices = s.slices ∧
    (effRingClaimRx a0 a1 a2 s).cp = s.cp ∧
    (effRingClaimRx a0 a1 a2 s).canPub = s.canPub ∧
    (effRingClaimRx a0 a1 a2 s).eth = s.eth ∧
    (effRingClaimRx a0 a1 a2 s).tio = s.tio := by
  have k1 := @State.demote_frame
  have k2 := @State.record_frame
  have k3 := @State.ite_frame
  unfold effRingClaimRx
  dsimp only
  repeat' (first | (simp [k1, k2, k3]; done) | split)

theorem effHandoverBoundary_frame (s : State) :
    (effHandoverBoundary s).pending = s.pending ∧
    (effHandoverBoundary s).time = s.time ∧
    (effHandoverBoundary s).tick = s.tick ∧
    (effHandoverBoundary s).free = s.free ∧
    (effHandoverBoundary s).tl = s.tl ∧
    (effHandoverBoundary s).mu = s.mu ∧
    (effHandoverBoundary s).hk = s.hk ∧
    (effHandoverBoundary s).host = s.host ∧
    (effHandoverBoundary s).mclk = s.mclk ∧
    (effHandoverBoundary s).sd = s.sd ∧
    (effHandoverBoundary s).aux = s.aux ∧
    (effHandoverBoundary s).eng = s.eng ∧
    (effHandoverBoundary s).slices = s.slices ∧
    (effHandoverBoundary s).cp = s.cp ∧
    (effHandoverBoundary s).canPub = s.canPub ∧
    (effHandoverBoundary s).eth = s.eth ∧
    (effHandoverBoundary s).tio = s.tio := by
  have k1 := @State.handoverNow_frame
  have k2 := @State.ite_frame
  unfold effHandoverBoundary
  simp [k1, k2]

theorem effRingAlignExchange_frame (s : State) :
    (effRingAlignExchange s).pending = s.pending ∧
    (effRingAlignExchange s).time = s.time ∧
    (effRingAlignExchange s).tick = s.tick ∧
    (effRingAlignExchange s).free = s.free ∧
    (effRingAlignExchange s).tl = s.tl ∧
    (effRingAlignExchange s).mu = s.mu ∧
    (effRingAlignExchange s).hk = s.hk ∧
    (effRingAlignExchange s).log = s.log ∧
    (effRingAlignExchange s).host = s.host ∧
    (effRingAlignExchange s).dict = s.dict ∧
    (effRingAlignExchange s).mclk = s.mclk ∧
    (effRingAlignExchange s).sd = s.sd ∧
    (effRingAlignExchange s).aux = s.aux ∧
    (effRingAlignExchange s).enc = s.enc ∧
    (effRingAlignExchange s).eng = s.eng ∧
    (effRingAlignExchange s).slices = s.slices ∧
    (effRingAlignExchange s).gl = s.gl ∧
    (effRingAlignExchange s).ref = s.ref ∧
    (effRingAlignExchange s).cp = s.cp ∧
    (effRingAlignExchange s).flk = s.flk ∧
    (effRingAlignExchange s).can = s.can ∧
    (effRingAlignExchange s).canPub = s.canPub ∧
    (effRingAlignExchange s).eth = s.eth ∧
    (effRingAlignExchange s).tio = s.tio := by
  have k1 := @State.ringTx_frame
  have k2 := @State.ite_frame
  unfold effRingAlignExchange
  simp [k1, k2]

theorem effRingAlignRx_frame (a0 : Nat) (a1 : Bool) (a2 : Stamp) (a3 : Stamp) (a4 : Stamp) (s : State) :
    (effRingAlignRx a0 a1 a2 a3 a4 s).pending = s.pending ∧
    (effRingAlignRx a0 a1 a2 a3 a4 s).tick = s.tick ∧
    (effRingAlignRx a0 a1 a2 a3 a4 s).free = s.free ∧
    (effRingAlignRx a0 a1 a2 a3 a4 s).mu = s.mu ∧
    (effRingAlignRx a0 a1 a2 a3 a4 s).hk = s.hk ∧
    (effRingAlignRx a0 a1 a2 a3 a4 s).host = s.host ∧
    (effRingAlignRx a0 a1 a2 a3 a4 s).mclk = s.mclk ∧
    (effRingAlignRx a0 a1 a2 a3 a4 s).sd = s.sd ∧
    (effRingAlignRx a0 a1 a2 a3 a4 s).aux = s.aux ∧
    (effRingAlignRx a0 a1 a2 a3 a4 s).enc = s.enc ∧
    (effRingAlignRx a0 a1 a2 a3 a4 s).eng = s.eng ∧
    (effRingAlignRx a0 a1 a2 a3 a4 s).gl = s.gl ∧
    (effRingAlignRx a0 a1 a2 a3 a4 s).ref = s.ref ∧
    (effRingAlignRx a0 a1 a2 a3 a4 s).cp = s.cp ∧
    (effRingAlignRx a0 a1 a2 a3 a4 s).can = s.can ∧
    (effRingAlignRx a0 a1 a2 a3 a4 s).canPub = s.canPub ∧
    (effRingAlignRx a0 a1 a2 a3 a4 s).eth = s.eth := by
  have k1 := @State.measure_frame
  have k2 := @State.ringTx_frame
  have k3 := @State.ite_frame
  unfold effRingAlignRx
  simp [k1, k2, k3]

theorem State.setLock_frame (s : State) (a1 : Fin 2) (a2 : Bool) :
    (State.setLock s a1 a2).pending = s.pending ∧
    (State.setLock s a1 a2).time = s.time ∧
    (State.setLock s a1 a2).tick = s.tick ∧
    (State.setLock s a1 a2).free = s.free ∧
    (State.setLock s a1 a2).tl = s.tl ∧
    (State.setLock s a1 a2).mu = s.mu ∧
    (State.setLock s a1 a2).hk = s.hk ∧
    (State.setLock s a1 a2).log = s.log ∧
    (State.setLock s a1 a2).seqs = s.seqs ∧
    (State.setLock s a1 a2).host = s.host ∧
    (State.setLock s a1 a2).dict = s.dict ∧
    (State.setLock s a1 a2).mclk = s.mclk ∧
    (State.setLock s a1 a2).sd = s.sd ∧
    (State.setLock s a1 a2).aux = s.aux ∧
    (State.setLock s a1 a2).enc = s.enc ∧
    (State.setLock s a1 a2).eng = s.eng ∧
    (State.setLock s a1 a2).slices = s.slices ∧
    (State.setLock s a1 a2).gl = s.gl ∧
    (State.setLock s a1 a2).ref = s.ref ∧
    (State.setLock s a1 a2).cp = s.cp ∧
    (State.setLock s a1 a2).flk = s.flk ∧
    (State.setLock s a1 a2).can = s.can ∧
    (State.setLock s a1 a2).canPub = s.canPub ∧
    (State.setLock s a1 a2).eth = s.eth ∧
    (State.setLock s a1 a2).tio = s.tio ∧
    (State.setLock s a1 a2).dia = s.dia := by
  have k1 := @State.ite_frame
  unfold State.setLock
  simp [k1]

theorem effRingPortLock_frame (a0 : Fin 2) (s : State) :
    (effRingPortLock a0 s).pending = s.pending ∧
    (effRingPortLock a0 s).time = s.time ∧
    (effRingPortLock a0 s).tick = s.tick ∧
    (effRingPortLock a0 s).free = s.free ∧
    (effRingPortLock a0 s).tl = s.tl ∧
    (effRingPortLock a0 s).mu = s.mu ∧
    (effRingPortLock a0 s).hk = s.hk ∧
    (effRingPortLock a0 s).log = s.log ∧
    (effRingPortLock a0 s).seqs = s.seqs ∧
    (effRingPortLock a0 s).host = s.host ∧
    (effRingPortLock a0 s).dict = s.dict ∧
    (effRingPortLock a0 s).mclk = s.mclk ∧
    (effRingPortLock a0 s).sd = s.sd ∧
    (effRingPortLock a0 s).aux = s.aux ∧
    (effRingPortLock a0 s).enc = s.enc ∧
    (effRingPortLock a0 s).eng = s.eng ∧
    (effRingPortLock a0 s).slices = s.slices ∧
    (effRingPortLock a0 s).gl = s.gl ∧
    (effRingPortLock a0 s).ref = s.ref ∧
    (effRingPortLock a0 s).cp = s.cp ∧
    (effRingPortLock a0 s).flk = s.flk ∧
    (effRingPortLock a0 s).can = s.can ∧
    (effRingPortLock a0 s).canPub = s.canPub ∧
    (effRingPortLock a0 s).eth = s.eth ∧
    (effRingPortLock a0 s).tio = s.tio ∧
    (effRingPortLock a0 s).dia = s.dia := by
  have k1 := @State.setLock_frame
  have k2 := @State.ite_frame
  unfold effRingPortLock
  simp [k1, k2]

theorem effRingPortUnlock_frame (a0 : Fin 2) (s : State) :
    (effRingPortUnlock a0 s).pending = s.pending ∧
    (effRingPortUnlock a0 s).time = s.time ∧
    (effRingPortUnlock a0 s).tick = s.tick ∧
    (effRingPortUnlock a0 s).free = s.free ∧
    (effRingPortUnlock a0 s).tl = s.tl ∧
    (effRingPortUnlock a0 s).mu = s.mu ∧
    (effRingPortUnlock a0 s).hk = s.hk ∧
    (effRingPortUnlock a0 s).log = s.log ∧
    (effRingPortUnlock a0 s).seqs = s.seqs ∧
    (effRingPortUnlock a0 s).host = s.host ∧
    (effRingPortUnlock a0 s).dict = s.dict ∧
    (effRingPortUnlock a0 s).mclk = s.mclk ∧
    (effRingPortUnlock a0 s).sd = s.sd ∧
    (effRingPortUnlock a0 s).aux = s.aux ∧
    (effRingPortUnlock a0 s).enc = s.enc ∧
    (effRingPortUnlock a0 s).eng = s.eng ∧
    (effRingPortUnlock a0 s).slices = s.slices ∧
    (effRingPortUnlock a0 s).gl = s.gl ∧
    (effRingPortUnlock a0 s).ref = s.ref ∧
    (effRingPortUnlock a0 s).cp = s.cp ∧
    (effRingPortUnlock a0 s).flk = s.flk ∧
    (effRingPortUnlock a0 s).can = s.can ∧
    (effRingPortUnlock a0 s).canPub = s.canPub ∧
    (effRingPortUnlock a0 s).eth = s.eth ∧
    (effRingPortUnlock a0 s).tio = s.tio ∧
    (effRingPortUnlock a0 s).dia = s.dia := by
  have k1 := @State.setLock_frame
  unfold effRingPortUnlock
  simp [k1]

theorem effResyncTimeAligned_frame (a0 : Stamp) (a1 : Nat) (a2 : Bool) (s : State) :
    (effResyncTimeAligned a0 a1 a2 s).pending = s.pending ∧
    (effResyncTimeAligned a0 a1 a2 s).tick = s.tick ∧
    (effResyncTimeAligned a0 a1 a2 s).free = s.free ∧
    (effResyncTimeAligned a0 a1 a2 s).mu = s.mu ∧
    (effResyncTimeAligned a0 a1 a2 s).hk = s.hk ∧
    (effResyncTimeAligned a0 a1 a2 s).host = s.host ∧
    (effResyncTimeAligned a0 a1 a2 s).mclk = s.mclk ∧
    (effResyncTimeAligned a0 a1 a2 s).sd = s.sd ∧
    (effResyncTimeAligned a0 a1 a2 s).aux = s.aux ∧
    (effResyncTimeAligned a0 a1 a2 s).enc = s.enc ∧
    (effResyncTimeAligned a0 a1 a2 s).eng = s.eng ∧
    (effResyncTimeAligned a0 a1 a2 s).gl = s.gl ∧
    (effResyncTimeAligned a0 a1 a2 s).ref = s.ref ∧
    (effResyncTimeAligned a0 a1 a2 s).cp = s.cp ∧
    (effResyncTimeAligned a0 a1 a2 s).ring = s.ring ∧
    (effResyncTimeAligned a0 a1 a2 s).can = s.can ∧
    (effResyncTimeAligned a0 a1 a2 s).canPub = s.canPub ∧
    (effResyncTimeAligned a0 a1 a2 s).eth = s.eth := by
  have k1 := @State.failResync_frame
  have k2 := @State.stepBy_frame
  have k3 := @State.ite_frame
  unfold effResyncTimeAligned
  simp [k1, k2, k3]

theorem effRingResyncRx_frame (a0 : Nat) (a1 : List ObjRec) (a2 : Nat) (s : State) :
    (effRingResyncRx a0 a1 a2 s).pending = s.pending ∧
    (effRingResyncRx a0 a1 a2 s).time = s.time ∧
    (effRingResyncRx a0 a1 a2 s).tick = s.tick ∧
    (effRingResyncRx a0 a1 a2 s).free = s.free ∧
    (effRingResyncRx a0 a1 a2 s).tl = s.tl ∧
    (effRingResyncRx a0 a1 a2 s).mu = s.mu ∧
    (effRingResyncRx a0 a1 a2 s).hk = s.hk ∧
    (effRingResyncRx a0 a1 a2 s).log = s.log ∧
    (effRingResyncRx a0 a1 a2 s).seqs = s.seqs ∧
    (effRingResyncRx a0 a1 a2 s).host = s.host ∧
    (effRingResyncRx a0 a1 a2 s).dict = s.dict ∧
    (effRingResyncRx a0 a1 a2 s).mclk = s.mclk ∧
    (effRingResyncRx a0 a1 a2 s).sd = s.sd ∧
    (effRingResyncRx a0 a1 a2 s).aux = s.aux ∧
    (effRingResyncRx a0 a1 a2 s).enc = s.enc ∧
    (effRingResyncRx a0 a1 a2 s).eng = s.eng ∧
    (effRingResyncRx a0 a1 a2 s).slices = s.slices ∧
    (effRingResyncRx a0 a1 a2 s).gl = s.gl ∧
    (effRingResyncRx a0 a1 a2 s).ref = s.ref ∧
    (effRingResyncRx a0 a1 a2 s).cp = s.cp ∧
    (effRingResyncRx a0 a1 a2 s).ring = s.ring ∧
    (effRingResyncRx a0 a1 a2 s).can = s.can ∧
    (effRingResyncRx a0 a1 a2 s).canPub = s.canPub ∧
    (effRingResyncRx a0 a1 a2 s).eth = s.eth ∧
    (effRingResyncRx a0 a1 a2 s).tio = s.tio ∧
    (effRingResyncRx a0 a1 a2 s).dia = s.dia := by
  have k1 := @State.ite_frame
  unfold effRingResyncRx
  simp [k1]

theorem effResyncImageDone_frame (s : State) :
    (effResyncImageDone s).pending = s.pending ∧
    (effResyncImageDone s).time = s.time ∧
    (effResyncImageDone s).tick = s.tick ∧
    (effResyncImageDone s).free = s.free ∧
    (effResyncImageDone s).tl = s.tl ∧
    (effResyncImageDone s).hk = s.hk ∧
    (effResyncImageDone s).host = s.host ∧
    (effResyncImageDone s).cp = s.cp ∧
    (effResyncImageDone s).can = s.can ∧
    (effResyncImageDone s).tio = s.tio := by
  have k1 := @State.keep_frame
  have k2 := @State.placeObj_frame
  have k3 := @State.written_frame
  have k4 := @State.ite_frame
  unfold effResyncImageDone
  simp [k1, k2, k3, k4]

theorem effResyncSnapshot_frame (s : State) :
    (effResyncSnapshot s).pending = s.pending ∧
    (effResyncSnapshot s).time = s.time ∧
    (effResyncSnapshot s).tick = s.tick ∧
    (effResyncSnapshot s).free = s.free ∧
    (effResyncSnapshot s).tl = s.tl ∧
    (effResyncSnapshot s).mu = s.mu ∧
    (effResyncSnapshot s).hk = s.hk ∧
    (effResyncSnapshot s).log = s.log ∧
    (effResyncSnapshot s).host = s.host ∧
    (effResyncSnapshot s).dict = s.dict ∧
    (effResyncSnapshot s).mclk = s.mclk ∧
    (effResyncSnapshot s).sd = s.sd ∧
    (effResyncSnapshot s).aux = s.aux ∧
    (effResyncSnapshot s).enc = s.enc ∧
    (effResyncSnapshot s).eng = s.eng ∧
    (effResyncSnapshot s).slices = s.slices ∧
    (effResyncSnapshot s).gl = s.gl ∧
    (effResyncSnapshot s).ref = s.ref ∧
    (effResyncSnapshot s).cp = s.cp ∧
    (effResyncSnapshot s).can = s.can ∧
    (effResyncSnapshot s).canPub = s.canPub ∧
    (effResyncSnapshot s).eth = s.eth ∧
    (effResyncSnapshot s).tio = s.tio := by
  have k1 := @State.ringTx_frame
  have k2 := @State.ite_frame
  unfold effResyncSnapshot
  repeat' (first | (simp [k1, k2]; done) | split)

theorem effResyncSnapshotDone_frame (a0 : Snapshot) (s : State) :
    (effResyncSnapshotDone a0 s).pending = s.pending ∧
    (effResyncSnapshotDone a0 s).time = s.time ∧
    (effResyncSnapshotDone a0 s).tick = s.tick ∧
    (effResyncSnapshotDone a0 s).free = s.free ∧
    (effResyncSnapshotDone a0 s).tl = s.tl ∧
    (effResyncSnapshotDone a0 s).mu = s.mu ∧
    (effResyncSnapshotDone a0 s).hk = s.hk ∧
    (effResyncSnapshotDone a0 s).log = s.log ∧
    (effResyncSnapshotDone a0 s).seqs = s.seqs ∧
    (effResyncSnapshotDone a0 s).host = s.host ∧
    (effResyncSnapshotDone a0 s).dict = s.dict ∧
    (effResyncSnapshotDone a0 s).sd = s.sd ∧
    (effResyncSnapshotDone a0 s).aux = s.aux ∧
    (effResyncSnapshotDone a0 s).ref = s.ref ∧
    (effResyncSnapshotDone a0 s).cp = s.cp ∧
    (effResyncSnapshotDone a0 s).ring = s.ring ∧
    (effResyncSnapshotDone a0 s).can = s.can ∧
    (effResyncSnapshotDone a0 s).canPub = s.canPub ∧
    (effResyncSnapshotDone a0 s).eth = s.eth ∧
    (effResyncSnapshotDone a0 s).tio = s.tio ∧
    (effResyncSnapshotDone a0 s).dia = s.dia := by
  have k1 := @State.ite_frame
  unfold effResyncSnapshotDone
  simp [k1]

theorem effResyncLiveDeadline_frame (s : State) :
    (effResyncLiveDeadline s).pending = s.pending ∧
    (effResyncLiveDeadline s).time = s.time ∧
    (effResyncLiveDeadline s).tick = s.tick ∧
    (effResyncLiveDeadline s).free = s.free ∧
    (effResyncLiveDeadline s).tl = s.tl ∧
    (effResyncLiveDeadline s).mu = s.mu ∧
    (effResyncLiveDeadline s).hk = s.hk ∧
    (effResyncLiveDeadline s).host = s.host ∧
    (effResyncLiveDeadline s).mclk = s.mclk ∧
    (effResyncLiveDeadline s).sd = s.sd ∧
    (effResyncLiveDeadline s).aux = s.aux ∧
    (effResyncLiveDeadline s).enc = s.enc ∧
    (effResyncLiveDeadline s).eng = s.eng ∧
    (effResyncLiveDeadline s).slices = s.slices ∧
    (effResyncLiveDeadline s).gl = s.gl ∧
    (effResyncLiveDeadline s).ref = s.ref ∧
    (effResyncLiveDeadline s).cp = s.cp ∧
    (effResyncLiveDeadline s).ring = s.ring ∧
    (effResyncLiveDeadline s).can = s.can ∧
    (effResyncLiveDeadline s).canPub = s.canPub ∧
    (effResyncLiveDeadline s).eth = s.eth ∧
    (effResyncLiveDeadline s).tio = s.tio := by
  have k1 := @State.failResync_frame
  have k2 := @State.ite_frame
  unfold effResyncLiveDeadline
  repeat' (first | (simp [k1, k2]; done) | split)

theorem effResyncRetry_frame (s : State) :
    (effResyncRetry s).pending = s.pending ∧
    (effResyncRetry s).time = s.time ∧
    (effResyncRetry s).tick = s.tick ∧
    (effResyncRetry s).free = s.free ∧
    (effResyncRetry s).tl = s.tl ∧
    (effResyncRetry s).mu = s.mu ∧
    (effResyncRetry s).hk = s.hk ∧
    (effResyncRetry s).host = s.host ∧
    (effResyncRetry s).mclk = s.mclk ∧
    (effResyncRetry s).sd = s.sd ∧
    (effResyncRetry s).aux = s.aux ∧
    (effResyncRetry s).eng = s.eng ∧
    (effResyncRetry s).slices = s.slices ∧
    (effResyncRetry s).cp = s.cp ∧
    (effResyncRetry s).canPub = s.canPub ∧
    (effResyncRetry s).eth = s.eth ∧
    (effResyncRetry s).tio = s.tio := by
  have k1 := @State.mayJoin_frame
  have k2 := @State.startResync_frame
  have k3 := @State.ite_frame
  unfold effResyncRetry
  repeat' (first | (simp [k1, k2, k3]; done) | split)

end Sys2Proof.Machine
end

