-- ==== Sys2Proof/Laws/Startup.lean ====
section
/-!
SUPPORT. What each operation of Machine/Startup.lean leaves as it was: the parts of State that it cannot change.
-/

namespace Sys2Proof.Machine

open Sys2Proof

theorem State.toRecovery_frame (s : State) :
    (State.toRecovery s).pending = s.pending ∧
    (State.toRecovery s).time = s.time ∧
    (State.toRecovery s).tick = s.tick ∧
    (State.toRecovery s).free = s.free ∧
    (State.toRecovery s).tl = s.tl ∧
    (State.toRecovery s).hk = s.hk ∧
    (State.toRecovery s).log = s.log ∧
    (State.toRecovery s).seqs = s.seqs ∧
    (State.toRecovery s).dict = s.dict ∧
    (State.toRecovery s).mclk = s.mclk ∧
    (State.toRecovery s).sd = s.sd ∧
    (State.toRecovery s).aux = s.aux ∧
    (State.toRecovery s).enc = s.enc ∧
    (State.toRecovery s).eng = s.eng ∧
    (State.toRecovery s).slices = s.slices ∧
    (State.toRecovery s).gl = s.gl ∧
    (State.toRecovery s).ref = s.ref ∧
    (State.toRecovery s).cp = s.cp ∧
    (State.toRecovery s).flk = s.flk ∧
    (State.toRecovery s).ring = s.ring ∧
    (State.toRecovery s).can = s.can ∧
    (State.toRecovery s).canPub = s.canPub ∧
    (State.toRecovery s).eth = s.eth ∧
    (State.toRecovery s).tio = s.tio ∧
    (State.toRecovery s).dia = s.dia := by
  have k1 := @State.setPhase_frame
  unfold State.toRecovery
  simp [k1]

theorem State.toStep_frame (s : State) (a1 : Nat) :
    (State.toStep s a1).pending = s.pending ∧
    (State.toStep s a1).time = s.time ∧
    (State.toStep s a1).tick = s.tick ∧
    (State.toStep s a1).free = s.free ∧
    (State.toStep s a1).tl = s.tl ∧
    (State.toStep s a1).hk = s.hk ∧
    (State.toStep s a1).log = s.log ∧
    (State.toStep s a1).seqs = s.seqs ∧
    (State.toStep s a1).dict = s.dict ∧
    (State.toStep s a1).mclk = s.mclk ∧
    (State.toStep s a1).sd = s.sd ∧
    (State.toStep s a1).aux = s.aux ∧
    (State.toStep s a1).enc = s.enc ∧
    (State.toStep s a1).eng = s.eng ∧
    (State.toStep s a1).slices = s.slices ∧
    (State.toStep s a1).gl = s.gl ∧
    (State.toStep s a1).ref = s.ref ∧
    (State.toStep s a1).cp = s.cp ∧
    (State.toStep s a1).flk = s.flk ∧
    (State.toStep s a1).ring = s.ring ∧
    (State.toStep s a1).can = s.can ∧
    (State.toStep s a1).canPub = s.canPub ∧
    (State.toStep s a1).eth = s.eth ∧
    (State.toStep s a1).tio = s.tio ∧
    (State.toStep s a1).dia = s.dia := by
  have k1 := @State.setPhase_frame
  unfold State.toStep
  simp [k1]

theorem effRomStartDone_frame (a0 : Bool) (a1 : Nat) (s : State) :
    (effRomStartDone a0 a1 s).pending = s.pending ∧
    (effRomStartDone a0 a1 s).time = s.time ∧
    (effRomStartDone a0 a1 s).tick = s.tick ∧
    (effRomStartDone a0 a1 s).free = s.free ∧
    (effRomStartDone a0 a1 s).tl = s.tl ∧
    (effRomStartDone a0 a1 s).hk = s.hk ∧
    (effRomStartDone a0 a1 s).mclk = s.mclk ∧
    (effRomStartDone a0 a1 s).sd = s.sd ∧
    (effRomStartDone a0 a1 s).aux = s.aux ∧
    (effRomStartDone a0 a1 s).enc = s.enc ∧
    (effRomStartDone a0 a1 s).eng = s.eng ∧
    (effRomStartDone a0 a1 s).slices = s.slices ∧
    (effRomStartDone a0 a1 s).gl = s.gl ∧
    (effRomStartDone a0 a1 s).ref = s.ref ∧
    (effRomStartDone a0 a1 s).cp = s.cp ∧
    (effRomStartDone a0 a1 s).flk = s.flk ∧
    (effRomStartDone a0 a1 s).ring = s.ring ∧
    (effRomStartDone a0 a1 s).can = s.can ∧
    (effRomStartDone a0 a1 s).canPub = s.canPub ∧
    (effRomStartDone a0 a1 s).eth = s.eth ∧
    (effRomStartDone a0 a1 s).tio = s.tio := by
  have k1 := @State.jot_frame
  have k2 := @State.post_frame
  have k3 := @State.toRecovery_frame
  have k4 := @State.toStep_frame
  have k5 := @State.ite_frame
  unfold effRomStartDone
  simp [k1, k2, k3, k4, k5]

theorem State.bankSeen_frame (s : State) (a1 : Nat) (a2 : BankRead) :
    (State.bankSeen s a1 a2).pending = s.pending ∧
    (State.bankSeen s a1 a2).time = s.time ∧
    (State.bankSeen s a1 a2).tick = s.tick ∧
    (State.bankSeen s a1 a2).free = s.free ∧
    (State.bankSeen s a1 a2).tl = s.tl ∧
    (State.bankSeen s a1 a2).hk = s.hk ∧
    (State.bankSeen s a1 a2).log = s.log ∧
    (State.bankSeen s a1 a2).seqs = s.seqs ∧
    (State.bankSeen s a1 a2).host = s.host ∧
    (State.bankSeen s a1 a2).dict = s.dict ∧
    (State.bankSeen s a1 a2).mclk = s.mclk ∧
    (State.bankSeen s a1 a2).sd = s.sd ∧
    (State.bankSeen s a1 a2).aux = s.aux ∧
    (State.bankSeen s a1 a2).enc = s.enc ∧
    (State.bankSeen s a1 a2).eng = s.eng ∧
    (State.bankSeen s a1 a2).slices = s.slices ∧
    (State.bankSeen s a1 a2).gl = s.gl ∧
    (State.bankSeen s a1 a2).ref = s.ref ∧
    (State.bankSeen s a1 a2).cp = s.cp ∧
    (State.bankSeen s a1 a2).flk = s.flk ∧
    (State.bankSeen s a1 a2).ring = s.ring ∧
    (State.bankSeen s a1 a2).can = s.can ∧
    (State.bankSeen s a1 a2).canPub = s.canPub ∧
    (State.bankSeen s a1 a2).eth = s.eth ∧
    (State.bankSeen s a1 a2).tio = s.tio ∧
    (State.bankSeen s a1 a2).dia = s.dia := by
  have k1 := @State.setBank_frame
  unfold State.bankSeen
  simp [k1]

theorem State.runBank_frame (s : State) (a1 : Nat) :
    (State.runBank s a1).pending = s.pending ∧
    (State.runBank s a1).time = s.time ∧
    (State.runBank s a1).tick = s.tick ∧
    (State.runBank s a1).free = s.free ∧
    (State.runBank s a1).tl = s.tl ∧
    (State.runBank s a1).hk = s.hk ∧
    (State.runBank s a1).log = s.log ∧
    (State.runBank s a1).seqs = s.seqs ∧
    (State.runBank s a1).dict = s.dict ∧
    (State.runBank s a1).mclk = s.mclk ∧
    (State.runBank s a1).sd = s.sd ∧
    (State.runBank s a1).aux = s.aux ∧
    (State.runBank s a1).enc = s.enc ∧
    (State.runBank s a1).eng = s.eng ∧
    (State.runBank s a1).slices = s.slices ∧
    (State.runBank s a1).gl = s.gl ∧
    (State.runBank s a1).ref = s.ref ∧
    (State.runBank s a1).cp = s.cp ∧
    (State.runBank s a1).flk = s.flk ∧
    (State.runBank s a1).ring = s.ring ∧
    (State.runBank s a1).can = s.can ∧
    (State.runBank s a1).canPub = s.canPub ∧
    (State.runBank s a1).eth = s.eth ∧
    (State.runBank s a1).tio = s.tio ∧
    (State.runBank s a1).dia = s.dia := by
  have k1 := @State.toStep_frame
  unfold State.runBank
  simp [k1]

theorem effBootIngotVerified_frame (a0 : BankRead) (a1 : BankRead) (s : State) :
    (effBootIngotVerified a0 a1 s).pending = s.pending ∧
    (effBootIngotVerified a0 a1 s).time = s.time ∧
    (effBootIngotVerified a0 a1 s).tick = s.tick ∧
    (effBootIngotVerified a0 a1 s).free = s.free ∧
    (effBootIngotVerified a0 a1 s).tl = s.tl ∧
    (effBootIngotVerified a0 a1 s).hk = s.hk ∧
    (effBootIngotVerified a0 a1 s).mclk = s.mclk ∧
    (effBootIngotVerified a0 a1 s).sd = s.sd ∧
    (effBootIngotVerified a0 a1 s).aux = s.aux ∧
    (effBootIngotVerified a0 a1 s).enc = s.enc ∧
    (effBootIngotVerified a0 a1 s).eng = s.eng ∧
    (effBootIngotVerified a0 a1 s).slices = s.slices ∧
    (effBootIngotVerified a0 a1 s).gl = s.gl ∧
    (effBootIngotVerified a0 a1 s).ref = s.ref ∧
    (effBootIngotVerified a0 a1 s).cp = s.cp ∧
    (effBootIngotVerified a0 a1 s).flk = s.flk ∧
    (effBootIngotVerified a0 a1 s).ring = s.ring ∧
    (effBootIngotVerified a0 a1 s).can = s.can ∧
    (effBootIngotVerified a0 a1 s).canPub = s.canPub ∧
    (effBootIngotVerified a0 a1 s).eth = s.eth ∧
    (effBootIngotVerified a0 a1 s).tio = s.tio := by
  have k1 := @State.bankSeen_frame
  have k2 := @State.jot_frame
  have k3 := @State.post_frame
  have k4 := @State.runBank_frame
  have k5 := @State.toRecovery_frame
  have k6 := @State.ite_frame
  unfold effBootIngotVerified
  simp [k1, k2, k3, k4, k5, k6]

theorem State.bistNote_frame (a0 : BistResult) (s : State) (a2 : Nat) :
    (State.bistNote a0 s a2).pending = s.pending ∧
    (State.bistNote a0 s a2).time = s.time ∧
    (State.bistNote a0 s a2).tick = s.tick ∧
    (State.bistNote a0 s a2).free = s.free ∧
    (State.bistNote a0 s a2).tl = s.tl ∧
    (State.bistNote a0 s a2).mu = s.mu ∧
    (State.bistNote a0 s a2).hk = s.hk ∧
    (State.bistNote a0 s a2).seqs = s.seqs ∧
    (State.bistNote a0 s a2).host = s.host ∧
    (State.bistNote a0 s a2).mclk = s.mclk ∧
    (State.bistNote a0 s a2).sd = s.sd ∧
    (State.bistNote a0 s a2).aux = s.aux ∧
    (State.bistNote a0 s a2).enc = s.enc ∧
    (State.bistNote a0 s a2).eng = s.eng ∧
    (State.bistNote a0 s a2).slices = s.slices ∧
    (State.bistNote a0 s a2).gl = s.gl ∧
    (State.bistNote a0 s a2).ref = s.ref ∧
    (State.bistNote a0 s a2).cp = s.cp ∧
    (State.bistNote a0 s a2).flk = s.flk ∧
    (State.bistNote a0 s a2).ring = s.ring ∧
    (State.bistNote a0 s a2).can = s.can ∧
    (State.bistNote a0 s a2).canPub = s.canPub ∧
    (State.bistNote a0 s a2).eth = s.eth ∧
    (State.bistNote a0 s a2).tio = s.tio ∧
    (State.bistNote a0 s a2).dia = s.dia := by
  have k1 := @State.jot_frame
  have k2 := @State.ite_frame
  unfold State.bistNote
  split <;> simp [k1, k2]

theorem effStartupBistDone_frame (a0 : BistResult) (s : State) :
    (effStartupBistDone a0 s).pending = s.pending ∧
    (effStartupBistDone a0 s).time = s.time ∧
    (effStartupBistDone a0 s).tick = s.tick ∧
    (effStartupBistDone a0 s).free = s.free ∧
    (effStartupBistDone a0 s).tl = s.tl ∧
    (effStartupBistDone a0 s).hk = s.hk ∧
    (effStartupBistDone a0 s).mclk = s.mclk ∧
    (effStartupBistDone a0 s).aux = s.aux ∧
    (effStartupBistDone a0 s).cp = s.cp ∧
    (effStartupBistDone a0 s).ring = s.ring ∧
    (effStartupBistDone a0 s).can = s.can ∧
    (effStartupBistDone a0 s).canPub = s.canPub ∧
    (effStartupBistDone a0 s).eth = s.eth ∧
    (effStartupBistDone a0 s).tio = s.tio := by
  have k1 := @State.bistNote_frame
  have k2 := @State.fenceUnit_frame
  have k3 := @State.jot_frame
  have k4 := @State.refereeFault_frame
  have k5 := @State.toRecovery_frame
  have k6 := @State.toStep_frame
  have k7 := @State.ite_frame
  unfold effStartupBistDone
  dsimp only
  repeat' (first | (simp [k1, k2, k3, k4, k5, k6, k7]; done) | split)

theorem State.commitImage_frame (s : State) (a1 : List ObjRec) :
    (State.commitImage s a1).pending = s.pending ∧
    (State.commitImage s a1).time = s.time ∧
    (State.commitImage s a1).tick = s.tick ∧
    (State.commitImage s a1).free = s.free ∧
    (State.commitImage s a1).tl = s.tl ∧
    (State.commitImage s a1).mu = s.mu ∧
    (State.commitImage s a1).hk = s.hk ∧
    (State.commitImage s a1).log = s.log ∧
    (State.commitImage s a1).seqs = s.seqs ∧
    (State.commitImage s a1).host = s.host ∧
    (State.commitImage s a1).mclk = s.mclk ∧
    (State.commitImage s a1).sd = s.sd ∧
    (State.commitImage s a1).aux = s.aux ∧
    (State.commitImage s a1).enc = s.enc ∧
    (State.commitImage s a1).eng = s.eng ∧
    (State.commitImage s a1).slices = s.slices ∧
    (State.commitImage s a1).gl = s.gl ∧
    (State.commitImage s a1).cp = s.cp ∧
    (State.commitImage s a1).flk = s.flk ∧
    (State.commitImage s a1).ring = s.ring ∧
    (State.commitImage s a1).can = s.can ∧
    (State.commitImage s a1).canPub = s.canPub ∧
    (State.commitImage s a1).eth = s.eth ∧
    (State.commitImage s a1).tio = s.tio ∧
    (State.commitImage s a1).dia = s.dia := by
  have k1 := @State.logChange_frame
  have k2 := @State.ite_frame
  unfold State.commitImage
  simp [k1, k2]

theorem State.readRegion_frame (s : State) (a1 : Option CfgImage) (a2 : Option CfgImage) (a3 : Option Binding) :
    (State.readRegion s a1 a2 a3).pending = s.pending ∧
    (State.readRegion s a1 a2 a3).time = s.time ∧
    (State.readRegion s a1 a2 a3).tick = s.tick ∧
    (State.readRegion s a1 a2 a3).free = s.free ∧
    (State.readRegion s a1 a2 a3).tl = s.tl ∧
    (State.readRegion s a1 a2 a3).hk = s.hk ∧
    (State.readRegion s a1 a2 a3).log = s.log ∧
    (State.readRegion s a1 a2 a3).seqs = s.seqs ∧
    (State.readRegion s a1 a2 a3).host = s.host ∧
    (State.readRegion s a1 a2 a3).dict = s.dict ∧
    (State.readRegion s a1 a2 a3).mclk = s.mclk ∧
    (State.readRegion s a1 a2 a3).sd = s.sd ∧
    (State.readRegion s a1 a2 a3).aux = s.aux ∧
    (State.readRegion s a1 a2 a3).enc = s.enc ∧
    (State.readRegion s a1 a2 a3).eng = s.eng ∧
    (State.readRegion s a1 a2 a3).slices = s.slices ∧
    (State.readRegion s a1 a2 a3).gl = s.gl ∧
    (State.readRegion s a1 a2 a3).ref = s.ref ∧
    (State.readRegion s a1 a2 a3).cp = s.cp ∧
    (State.readRegion s a1 a2 a3).flk = s.flk ∧
    (State.readRegion s a1 a2 a3).ring = s.ring ∧
    (State.readRegion s a1 a2 a3).can = s.can ∧
    (State.readRegion s a1 a2 a3).canPub = s.canPub ∧
    (State.readRegion s a1 a2 a3).eth = s.eth ∧
    (State.readRegion s a1 a2 a3).tio = s.tio ∧
    (State.readRegion s a1 a2 a3).dia = s.dia := by
  unfold State.readRegion
  simp

theorem State.unbound_frame (s : State) (a1 : Nat) :
    (State.unbound s a1).pending = s.pending ∧
    (State.unbound s a1).time = s.time ∧
    (State.unbound s a1).tick = s.tick ∧
    (State.unbound s a1).free = s.free ∧
    (State.unbound s a1).tl = s.tl ∧
    (State.unbound s a1).hk = s.hk ∧
    (State.unbound s a1).host = s.host ∧
    (State.unbound s a1).mclk = s.mclk ∧
    (State.unbound s a1).sd = s.sd ∧
    (State.unbound s a1).aux = s.aux ∧
    (State.unbound s a1).enc = s.enc ∧
    (State.unbound s a1).eng = s.eng ∧
    (State.unbound s a1).slices = s.slices ∧
    (State.unbound s a1).gl = s.gl ∧
    (State.unbound s a1).ref = s.ref ∧
    (State.unbound s a1).cp = s.cp ∧
    (State.unbound s a1).flk = s.flk ∧
    (State.unbound s a1).ring = s.ring ∧
    (State.unbound s a1).can = s.can ∧
    (State.unbound s a1).canPub = s.canPub ∧
    (State.unbound s a1).eth = s.eth ∧
    (State.unbound s a1).tio = s.tio := by
  have k1 := @State.post_frame
  unfold State.unbound
  simp [k1]

theorem State.bindCheck_frame (s : State) :
    (State.bindCheck s).pending = s.pending ∧
    (State.bindCheck s).time = s.time ∧
    (State.bindCheck s).tick = s.tick ∧
    (State.bindCheck s).free = s.free ∧
    (State.bindCheck s).tl = s.tl ∧
    (State.bindCheck s).hk = s.hk ∧
    (State.bindCheck s).host = s.host ∧
    (State.bindCheck s).mclk = s.mclk ∧
    (State.bindCheck s).sd = s.sd ∧
    (State.bindCheck s).aux = s.aux ∧
    (State.bindCheck s).enc = s.enc ∧
    (State.bindCheck s).eng = s.eng ∧
    (State.bindCheck s).slices = s.slices ∧
    (State.bindCheck s).gl = s.gl ∧
    (State.bindCheck s).ref = s.ref ∧
    (State.bindCheck s).cp = s.cp ∧
    (State.bindCheck s).flk = s.flk ∧
    (State.bindCheck s).ring = s.ring ∧
    (State.bindCheck s).can = s.can ∧
    (State.bindCheck s).canPub = s.canPub ∧
    (State.bindCheck s).eth = s.eth ∧
    (State.bindCheck s).tio = s.tio := by
  have k1 := @State.unbound_frame
  have k2 := @State.ite_frame
  unfold State.bindCheck
  repeat' (first | (simp [k1, k2]; done) | split)

theorem State.markCfg_frame (s : State) (a1 : Nat) :
    (State.markCfg s a1).pending = s.pending ∧
    (State.markCfg s a1).time = s.time ∧
    (State.markCfg s a1).tick = s.tick ∧
    (State.markCfg s a1).free = s.free ∧
    (State.markCfg s a1).tl = s.tl ∧
    (State.markCfg s a1).mu = s.mu ∧
    (State.markCfg s a1).hk = s.hk ∧
    (State.markCfg s a1).log = s.log ∧
    (State.markCfg s a1).seqs = s.seqs ∧
    (State.markCfg s a1).host = s.host ∧
    (State.markCfg s a1).mclk = s.mclk ∧
    (State.markCfg s a1).sd = s.sd ∧
    (State.markCfg s a1).aux = s.aux ∧
    (State.markCfg s a1).enc = s.enc ∧
    (State.markCfg s a1).eng = s.eng ∧
    (State.markCfg s a1).slices = s.slices ∧
    (State.markCfg s a1).gl = s.gl ∧
    (State.markCfg s a1).ref = s.ref ∧
    (State.markCfg s a1).cp = s.cp ∧
    (State.markCfg s a1).flk = s.flk ∧
    (State.markCfg s a1).ring = s.ring ∧
    (State.markCfg s a1).can = s.can ∧
    (State.markCfg s a1).canPub = s.canPub ∧
    (State.markCfg s a1).eth = s.eth ∧
    (State.markCfg s a1).tio = s.tio ∧
    (State.markCfg s a1).dia = s.dia := by
  unfold State.markCfg
  simp

theorem State.loadImage_frame (s : State) :
    (State.loadImage s).pending = s.pending ∧
    (State.loadImage s).time = s.time ∧
    (State.loadImage s).tick = s.tick ∧
    (State.loadImage s).free = s.free ∧
    (State.loadImage s).tl = s.tl ∧
    (State.loadImage s).hk = s.hk ∧
    (State.loadImage s).host = s.host ∧
    (State.loadImage s).mclk = s.mclk ∧
    (State.loadImage s).sd = s.sd ∧
    (State.loadImage s).aux = s.aux ∧
    (State.loadImage s).enc = s.enc ∧
    (State.loadImage s).slices = s.slices ∧
    (State.loadImage s).gl = s.gl ∧
    (State.loadImage s).cp = s.cp ∧
    (State.loadImage s).flk = s.flk ∧
    (State.loadImage s).ring = s.ring ∧
    (State.loadImage s).can = s.can ∧
    (State.loadImage s).canPub = s.canPub ∧
    (State.loadImage s).eth = s.eth ∧
    (State.loadImage s).tio = s.tio := by
  have k1 := @State.commitImage_frame
  have k2 := @State.markCfg_frame
  have k3 := @State.placeObj_frame
  have k4 := @State.post_frame
  have k5 := @State.ite_frame
  unfold State.loadImage
  dsimp only
  repeat' (first | (simp [k1, k2, k3, k4, k5]; done) | split)

theorem State.loadSafety_frame (s : State) :
    (State.loadSafety s).pending = s.pending ∧
    (State.loadSafety s).time = s.time ∧
    (State.loadSafety s).tick = s.tick ∧
    (State.loadSafety s).free = s.free ∧
    (State.loadSafety s).tl = s.tl ∧
    (State.loadSafety s).mu = s.mu ∧
    (State.loadSafety s).hk = s.hk ∧
    (State.loadSafety s).log = s.log ∧
    (State.loadSafety s).seqs = s.seqs ∧
    (State.loadSafety s).host = s.host ∧
    (State.loadSafety s).mclk = s.mclk ∧
    (State.loadSafety s).sd = s.sd ∧
    (State.loadSafety s).aux = s.aux ∧
    (State.loadSafety s).enc = s.enc ∧
    (State.loadSafety s).eng = s.eng ∧
    (State.loadSafety s).slices = s.slices ∧
    (State.loadSafety s).gl = s.gl ∧
    (State.loadSafety s).ref = s.ref ∧
    (State.loadSafety s).cp = s.cp ∧
    (State.loadSafety s).flk = s.flk ∧
    (State.loadSafety s).ring = s.ring ∧
    (State.loadSafety s).can = s.can ∧
    (State.loadSafety s).canPub = s.canPub ∧
    (State.loadSafety s).eth = s.eth ∧
    (State.loadSafety s).tio = s.tio ∧
    (State.loadSafety s).dia = s.dia := by
  unfold State.loadSafety
  simp

theorem effConfigLoaded_frame (a0 : Option CfgImage) (a1 : Option CfgImage) (a2 : Option Binding) (s : State) :
    (effConfigLoaded a0 a1 a2 s).pending = s.pending ∧
    (effConfigLoaded a0 a1 a2 s).time = s.time ∧
    (effConfigLoaded a0 a1 a2 s).tick = s.tick ∧
    (effConfigLoaded a0 a1 a2 s).free = s.free ∧
    (effConfigLoaded a0 a1 a2 s).tl = s.tl ∧
    (effConfigLoaded a0 a1 a2 s).hk = s.hk ∧
    (effConfigLoaded a0 a1 a2 s).mclk = s.mclk ∧
    (effConfigLoaded a0 a1 a2 s).sd = s.sd ∧
    (effConfigLoaded a0 a1 a2 s).aux = s.aux ∧
    (effConfigLoaded a0 a1 a2 s).enc = s.enc ∧
    (effConfigLoaded a0 a1 a2 s).slices = s.slices ∧
    (effConfigLoaded a0 a1 a2 s).gl = s.gl ∧
    (effConfigLoaded a0 a1 a2 s).cp = s.cp ∧
    (effConfigLoaded a0 a1 a2 s).flk = s.flk ∧
    (effConfigLoaded a0 a1 a2 s).ring = s.ring ∧
    (effConfigLoaded a0 a1 a2 s).can = s.can ∧
    (effConfigLoaded a0 a1 a2 s).canPub = s.canPub ∧
    (effConfigLoaded a0 a1 a2 s).eth = s.eth ∧
    (effConfigLoaded a0 a1 a2 s).tio = s.tio := by
  have k1 := @State.bindCheck_frame
  have k2 := @State.loadImage_frame
  have k3 := @State.loadSafety_frame
  have k4 := @State.readRegion_frame
  have k5 := @State.toStep_frame
  have k6 := @State.unbound_frame
  have k7 := @State.ite_frame
  unfold effConfigLoaded
  simp [k1, k2, k3, k4, k5, k6, k7]

theorem State.loadNets_frame (s : State) :
    (State.loadNets s).pending = s.pending ∧
    (State.loadNets s).time = s.time ∧
    (State.loadNets s).tick = s.tick ∧
    (State.loadNets s).free = s.free ∧
    (State.loadNets s).tl = s.tl ∧
    (State.loadNets s).mu = s.mu ∧
    (State.loadNets s).hk = s.hk ∧
    (State.loadNets s).log = s.log ∧
    (State.loadNets s).seqs = s.seqs ∧
    (State.loadNets s).host = s.host ∧
    (State.loadNets s).dict = s.dict ∧
    (State.loadNets s).mclk = s.mclk ∧
    (State.loadNets s).sd = s.sd ∧
    (State.loadNets s).aux = s.aux ∧
    (State.loadNets s).enc = s.enc ∧
    (State.loadNets s).eng = s.eng ∧
    (State.loadNets s).slices = s.slices ∧
    (State.loadNets s).gl = s.gl ∧
    (State.loadNets s).ref = s.ref ∧
    (State.loadNets s).cp = s.cp ∧
    (State.loadNets s).flk = s.flk ∧
    (State.loadNets s).ring = s.ring ∧
    (State.loadNets s).canPub = s.canPub ∧
    (State.loadNets s).tio = s.tio ∧
    (State.loadNets s).dia = s.dia := by
  have k1 := @State.ite_frame
  unfold State.loadNets
  simp [k1]

theorem State.startUnits_frame (s : State) :
    (State.startUnits s).pending = s.pending ∧
    (State.startUnits s).time = s.time ∧
    (State.startUnits s).tick = s.tick ∧
    (State.startUnits s).free = s.free ∧
    (State.startUnits s).tl = s.tl ∧
    (State.startUnits s).mu = s.mu ∧
    (State.startUnits s).hk = s.hk ∧
    (State.startUnits s).host = s.host ∧
    (State.startUnits s).aux = s.aux ∧
    (State.startUnits s).eng = s.eng ∧
    (State.startUnits s).cp = s.cp ∧
    (State.startUnits s).flk = s.flk ∧
    (State.startUnits s).ring = s.ring ∧
    (State.startUnits s).can = s.can ∧
    (State.startUnits s).eth = s.eth ∧
    (State.startUnits s).tio = s.tio := by
  have k1 := @State.encStart_frame
  have k2 := @State.freshSd_frame
  have k3 := @State.mclkFault_frame
  have k4 := @State.rallyStart_frame
  have k5 := @State.ite_frame
  unfold State.startUnits
  simp [k1, k2, k3, k4, k5]

theorem State.startReferee_frame (s : State) :
    (State.startReferee s).pending = s.pending ∧
    (State.startReferee s).time = s.time ∧
    (State.startReferee s).tick = s.tick ∧
    (State.startReferee s).free = s.free ∧
    (State.startReferee s).tl = s.tl ∧
    (State.startReferee s).mu = s.mu ∧
    (State.startReferee s).hk = s.hk ∧
    (State.startReferee s).log = s.log ∧
    (State.startReferee s).seqs = s.seqs ∧
    (State.startReferee s).host = s.host ∧
    (State.startReferee s).mclk = s.mclk ∧
    (State.startReferee s).sd = s.sd ∧
    (State.startReferee s).aux = s.aux ∧
    (State.startReferee s).enc = s.enc ∧
    (State.startReferee s).eng = s.eng ∧
    (State.startReferee s).slices = s.slices ∧
    (State.startReferee s).cp = s.cp ∧
    (State.startReferee s).flk = s.flk ∧
    (State.startReferee s).ring = s.ring ∧
    (State.startReferee s).can = s.can ∧
    (State.startReferee s).canPub = s.canPub ∧
    (State.startReferee s).eth = s.eth ∧
    (State.startReferee s).tio = s.tio ∧
    (State.startReferee s).dia = s.dia := by
  have k1 := @State.holdSources_frame
  have k2 := @State.linkRefresh_frame
  unfold State.startReferee
  simp [k1, k2]

theorem State.rollbackAdvance_frame (s : State) :
    (State.rollbackAdvance s).pending = s.pending ∧
    (State.rollbackAdvance s).time = s.time ∧
    (State.rollbackAdvance s).tick = s.tick ∧
    (State.rollbackAdvance s).free = s.free ∧
    (State.rollbackAdvance s).tl = s.tl ∧
    (State.rollbackAdvance s).hk = s.hk ∧
    (State.rollbackAdvance s).host = s.host ∧
    (State.rollbackAdvance s).mclk = s.mclk ∧
    (State.rollbackAdvance s).sd = s.sd ∧
    (State.rollbackAdvance s).aux = s.aux ∧
    (State.rollbackAdvance s).enc = s.enc ∧
    (State.rollbackAdvance s).eng = s.eng ∧
    (State.rollbackAdvance s).slices = s.slices ∧
    (State.rollbackAdvance s).gl = s.gl ∧
    (State.rollbackAdvance s).ref = s.ref ∧
    (State.rollbackAdvance s).cp = s.cp ∧
    (State.rollbackAdvance s).flk = s.flk ∧
    (State.rollbackAdvance s).ring = s.ring ∧
    (State.rollbackAdvance s).can = s.can ∧
    (State.rollbackAdvance s).canPub = s.canPub ∧
    (State.rollbackAdvance s).eth = s.eth ∧
    (State.rollbackAdvance s).tio = s.tio := by
  have k1 := @State.post_frame
  have k2 := @State.setBank_frame
  have k3 := @State.ite_frame
  unfold State.rollbackAdvance
  simp [k1, k2, k3]

theorem effReady_frame (s : State) :
    (effReady s).pending = s.pending ∧
    (effReady s).time = s.time ∧
    (effReady s).tick = s.tick ∧
    (effReady s).free = s.free ∧
    (effReady s).tl = s.tl ∧
    (effReady s).aux = s.aux ∧
    (effReady s).cp = s.cp ∧
    (effReady s).flk = s.flk ∧
    (effReady s).ring = s.ring ∧
    (effReady s).tio = s.tio := by
  have k1 := @State.loadNets_frame
  have k2 := @State.loadReject_frame
  have k3 := @State.post_frame
  have k4 := @State.rollbackAdvance_frame
  have k5 := @State.setPhase_frame
  have k6 := @State.startReferee_frame
  have k7 := @State.startUnits_frame
  have k8 := @State.thermRequest_frame
  have k9 := @State.ite_frame
  unfold effReady
  simp [k1, k2, k3, k4, k5, k6, k7, k8, k9]

end Sys2Proof.Machine
end

