-- ==== Sys2Proof/Laws/Links.lean ====
section
/-!
SUPPORT. What each operation of Machine/Links.lean leaves as it was: the parts of State that it cannot change.
-/

namespace Sys2Proof.Machine

open Sys2Proof

theorem State.disablePair_frame (s : State) (a1 : Nat) :
    (State.disablePair s a1).pending = s.pending ∧
    (State.disablePair s a1).time = s.time ∧
    (State.disablePair s a1).tick = s.tick ∧
    (State.disablePair s a1).free = s.free ∧
    (State.disablePair s a1).tl = s.tl ∧
    (State.disablePair s a1).mu = s.mu ∧
    (State.disablePair s a1).hk = s.hk ∧
    (State.disablePair s a1).log = s.log ∧
    (State.disablePair s a1).seqs = s.seqs ∧
    (State.disablePair s a1).dict = s.dict ∧
    (State.disablePair s a1).mclk = s.mclk ∧
    (State.disablePair s a1).sd = s.sd ∧
    (State.disablePair s a1).aux = s.aux ∧
    (State.disablePair s a1).enc = s.enc ∧
    (State.disablePair s a1).eng = s.eng ∧
    (State.disablePair s a1).slices = s.slices ∧
    (State.disablePair s a1).gl = s.gl ∧
    (State.disablePair s a1).ref = s.ref ∧
    (State.disablePair s a1).cp = s.cp ∧
    (State.disablePair s a1).flk = s.flk ∧
    (State.disablePair s a1).ring = s.ring ∧
    (State.disablePair s a1).can = s.can ∧
    (State.disablePair s a1).canPub = s.canPub ∧
    (State.disablePair s a1).eth = s.eth ∧
    (State.disablePair s a1).tio = s.tio ∧
    (State.disablePair s a1).dia = s.dia := by
  have k1 := @State.discardOwned_frame
  unfold State.disablePair
  simp [k1]

theorem State.pairError_frame (s : State) (a1 : Nat) (a2 : Nat) :
    (State.pairError s a1 a2).pending = s.pending ∧
    (State.pairError s a1 a2).time = s.time ∧
    (State.pairError s a1 a2).tick = s.tick ∧
    (State.pairError s a1 a2).free = s.free ∧
    (State.pairError s a1 a2).tl = s.tl ∧
    (State.pairError s a1 a2).mu = s.mu ∧
    (State.pairError s a1 a2).hk = s.hk ∧
    (State.pairError s a1 a2).log = s.log ∧
    (State.pairError s a1 a2).seqs = s.seqs ∧
    (State.pairError s a1 a2).dict = s.dict ∧
    (State.pairError s a1 a2).mclk = s.mclk ∧
    (State.pairError s a1 a2).sd = s.sd ∧
    (State.pairError s a1 a2).aux = s.aux ∧
    (State.pairError s a1 a2).enc = s.enc ∧
    (State.pairError s a1 a2).eng = s.eng ∧
    (State.pairError s a1 a2).slices = s.slices ∧
    (State.pairError s a1 a2).gl = s.gl ∧
    (State.pairError s a1 a2).ref = s.ref ∧
    (State.pairError s a1 a2).cp = s.cp ∧
    (State.pairError s a1 a2).flk = s.flk ∧
    (State.pairError s a1 a2).ring = s.ring ∧
    (State.pairError s a1 a2).can = s.can ∧
    (State.pairError s a1 a2).canPub = s.canPub ∧
    (State.pairError s a1 a2).eth = s.eth ∧
    (State.pairError s a1 a2).tio = s.tio ∧
    (State.pairError s a1 a2).dia = s.dia := by
  have k1 := @State.devEvent_frame
  have k2 := @State.disablePair_frame
  unfold State.pairError
  simp [k1, k2]

theorem effSqTailDoorbell_frame (a0 : Fin 16) (a1 : Word) (s : State) :
    (effSqTailDoorbell a0 a1 s).pending = s.pending ∧
    (effSqTailDoorbell a0 a1 s).time = s.time ∧
    (effSqTailDoorbell a0 a1 s).tick = s.tick ∧
    (effSqTailDoorbell a0 a1 s).free = s.free ∧
    (effSqTailDoorbell a0 a1 s).tl = s.tl ∧
    (effSqTailDoorbell a0 a1 s).mu = s.mu ∧
    (effSqTailDoorbell a0 a1 s).hk = s.hk ∧
    (effSqTailDoorbell a0 a1 s).log = s.log ∧
    (effSqTailDoorbell a0 a1 s).seqs = s.seqs ∧
    (effSqTailDoorbell a0 a1 s).dict = s.dict ∧
    (effSqTailDoorbell a0 a1 s).mclk = s.mclk ∧
    (effSqTailDoorbell a0 a1 s).sd = s.sd ∧
    (effSqTailDoorbell a0 a1 s).aux = s.aux ∧
    (effSqTailDoorbell a0 a1 s).enc = s.enc ∧
    (effSqTailDoorbell a0 a1 s).eng = s.eng ∧
    (effSqTailDoorbell a0 a1 s).slices = s.slices ∧
    (effSqTailDoorbell a0 a1 s).gl = s.gl ∧
    (effSqTailDoorbell a0 a1 s).ref = s.ref ∧
    (effSqTailDoorbell a0 a1 s).cp = s.cp ∧
    (effSqTailDoorbell a0 a1 s).flk = s.flk ∧
    (effSqTailDoorbell a0 a1 s).ring = s.ring ∧
    (effSqTailDoorbell a0 a1 s).can = s.can ∧
    (effSqTailDoorbell a0 a1 s).canPub = s.canPub ∧
    (effSqTailDoorbell a0 a1 s).eth = s.eth ∧
    (effSqTailDoorbell a0 a1 s).tio = s.tio ∧
    (effSqTailDoorbell a0 a1 s).dia = s.dia := by
  have k1 := @State.pairError_frame
  have k2 := @State.ite_frame
  unfold effSqTailDoorbell
  simp [k1, k2]

theorem effCqHeadDoorbell_frame (a0 : Fin 16) (a1 : Word) (s : State) :
    (effCqHeadDoorbell a0 a1 s).pending = s.pending ∧
    (effCqHeadDoorbell a0 a1 s).time = s.time ∧
    (effCqHeadDoorbell a0 a1 s).tick = s.tick ∧
    (effCqHeadDoorbell a0 a1 s).free = s.free ∧
    (effCqHeadDoorbell a0 a1 s).tl = s.tl ∧
    (effCqHeadDoorbell a0 a1 s).mu = s.mu ∧
    (effCqHeadDoorbell a0 a1 s).hk = s.hk ∧
    (effCqHeadDoorbell a0 a1 s).log = s.log ∧
    (effCqHeadDoorbell a0 a1 s).seqs = s.seqs ∧
    (effCqHeadDoorbell a0 a1 s).dict = s.dict ∧
    (effCqHeadDoorbell a0 a1 s).mclk = s.mclk ∧
    (effCqHeadDoorbell a0 a1 s).sd = s.sd ∧
    (effCqHeadDoorbell a0 a1 s).aux = s.aux ∧
    (effCqHeadDoorbell a0 a1 s).enc = s.enc ∧
    (effCqHeadDoorbell a0 a1 s).eng = s.eng ∧
    (effCqHeadDoorbell a0 a1 s).slices = s.slices ∧
    (effCqHeadDoorbell a0 a1 s).gl = s.gl ∧
    (effCqHeadDoorbell a0 a1 s).ref = s.ref ∧
    (effCqHeadDoorbell a0 a1 s).cp = s.cp ∧
    (effCqHeadDoorbell a0 a1 s).flk = s.flk ∧
    (effCqHeadDoorbell a0 a1 s).ring = s.ring ∧
    (effCqHeadDoorbell a0 a1 s).can = s.can ∧
    (effCqHeadDoorbell a0 a1 s).canPub = s.canPub ∧
    (effCqHeadDoorbell a0 a1 s).eth = s.eth ∧
    (effCqHeadDoorbell a0 a1 s).tio = s.tio ∧
    (effCqHeadDoorbell a0 a1 s).dia = s.dia := by
  have k1 := @State.pairError_frame
  have k2 := @State.ite_frame
  unfold effCqHeadDoorbell
  simp [k1, k2]

theorem effQcfgEnable_frame (a0 : Fin 16) (a1 : Word) (s : State) :
    (effQcfgEnable a0 a1 s).pending = s.pending ∧
    (effQcfgEnable a0 a1 s).time = s.time ∧
    (effQcfgEnable a0 a1 s).tick = s.tick ∧
    (effQcfgEnable a0 a1 s).free = s.free ∧
    (effQcfgEnable a0 a1 s).tl = s.tl ∧
    (effQcfgEnable a0 a1 s).mu = s.mu ∧
    (effQcfgEnable a0 a1 s).hk = s.hk ∧
    (effQcfgEnable a0 a1 s).log = s.log ∧
    (effQcfgEnable a0 a1 s).seqs = s.seqs ∧
    (effQcfgEnable a0 a1 s).dict = s.dict ∧
    (effQcfgEnable a0 a1 s).mclk = s.mclk ∧
    (effQcfgEnable a0 a1 s).sd = s.sd ∧
    (effQcfgEnable a0 a1 s).aux = s.aux ∧
    (effQcfgEnable a0 a1 s).enc = s.enc ∧
    (effQcfgEnable a0 a1 s).eng = s.eng ∧
    (effQcfgEnable a0 a1 s).slices = s.slices ∧
    (effQcfgEnable a0 a1 s).gl = s.gl ∧
    (effQcfgEnable a0 a1 s).ref = s.ref ∧
    (effQcfgEnable a0 a1 s).cp = s.cp ∧
    (effQcfgEnable a0 a1 s).flk = s.flk ∧
    (effQcfgEnable a0 a1 s).ring = s.ring ∧
    (effQcfgEnable a0 a1 s).can = s.can ∧
    (effQcfgEnable a0 a1 s).canPub = s.canPub ∧
    (effQcfgEnable a0 a1 s).eth = s.eth ∧
    (effQcfgEnable a0 a1 s).tio = s.tio ∧
    (effQcfgEnable a0 a1 s).dia = s.dia := by
  have k1 := @State.devEvent_frame
  have k2 := @State.pairError_frame
  have k3 := @State.ite_frame
  unfold effQcfgEnable
  simp [k1, k2, k3]

theorem effQcfgDisable_frame (a0 : Fin 16) (a1 : Word) (s : State) :
    (effQcfgDisable a0 a1 s).pending = s.pending ∧
    (effQcfgDisable a0 a1 s).time = s.time ∧
    (effQcfgDisable a0 a1 s).tick = s.tick ∧
    (effQcfgDisable a0 a1 s).free = s.free ∧
    (effQcfgDisable a0 a1 s).tl = s.tl ∧
    (effQcfgDisable a0 a1 s).mu = s.mu ∧
    (effQcfgDisable a0 a1 s).hk = s.hk ∧
    (effQcfgDisable a0 a1 s).log = s.log ∧
    (effQcfgDisable a0 a1 s).seqs = s.seqs ∧
    (effQcfgDisable a0 a1 s).dict = s.dict ∧
    (effQcfgDisable a0 a1 s).mclk = s.mclk ∧
    (effQcfgDisable a0 a1 s).sd = s.sd ∧
    (effQcfgDisable a0 a1 s).aux = s.aux ∧
    (effQcfgDisable a0 a1 s).enc = s.enc ∧
    (effQcfgDisable a0 a1 s).eng = s.eng ∧
    (effQcfgDisable a0 a1 s).slices = s.slices ∧
    (effQcfgDisable a0 a1 s).gl = s.gl ∧
    (effQcfgDisable a0 a1 s).ref = s.ref ∧
    (effQcfgDisable a0 a1 s).cp = s.cp ∧
    (effQcfgDisable a0 a1 s).flk = s.flk ∧
    (effQcfgDisable a0 a1 s).ring = s.ring ∧
    (effQcfgDisable a0 a1 s).can = s.can ∧
    (effQcfgDisable a0 a1 s).canPub = s.canPub ∧
    (effQcfgDisable a0 a1 s).eth = s.eth ∧
    (effQcfgDisable a0 a1 s).tio = s.tio ∧
    (effQcfgDisable a0 a1 s).dia = s.dia := by
  have k1 := @State.disablePair_frame
  have k2 := @State.ite_frame
  unfold effQcfgDisable
  simp [k1, k2]

theorem effCompletionPost_frame (a0 : Fin 16) (s : State) :
    (effCompletionPost a0 s).pending = s.pending ∧
    (effCompletionPost a0 s).time = s.time ∧
    (effCompletionPost a0 s).tick = s.tick ∧
    (effCompletionPost a0 s).free = s.free ∧
    (effCompletionPost a0 s).tl = s.tl ∧
    (effCompletionPost a0 s).mu = s.mu ∧
    (effCompletionPost a0 s).hk = s.hk ∧
    (effCompletionPost a0 s).log = s.log ∧
    (effCompletionPost a0 s).seqs = s.seqs ∧
    (effCompletionPost a0 s).dict = s.dict ∧
    (effCompletionPost a0 s).mclk = s.mclk ∧
    (effCompletionPost a0 s).sd = s.sd ∧
    (effCompletionPost a0 s).aux = s.aux ∧
    (effCompletionPost a0 s).enc = s.enc ∧
    (effCompletionPost a0 s).eng = s.eng ∧
    (effCompletionPost a0 s).slices = s.slices ∧
    (effCompletionPost a0 s).gl = s.gl ∧
    (effCompletionPost a0 s).ref = s.ref ∧
    (effCompletionPost a0 s).cp = s.cp ∧
    (effCompletionPost a0 s).flk = s.flk ∧
    (effCompletionPost a0 s).ring = s.ring ∧
    (effCompletionPost a0 s).can = s.can ∧
    (effCompletionPost a0 s).canPub = s.canPub ∧
    (effCompletionPost a0 s).eth = s.eth ∧
    (effCompletionPost a0 s).tio = s.tio ∧
    (effCompletionPost a0 s).dia = s.dia := by
  have k1 := @State.postCq_frame
  have k2 := @State.ite_frame
  unfold effCompletionPost
  dsimp only
  repeat' (first | (simp [k1, k2]; done) | split)

theorem State.pcieLost_frame (s : State) :
    (State.pcieLost s).pending = s.pending ∧
    (State.pcieLost s).time = s.time ∧
    (State.pcieLost s).tick = s.tick ∧
    (State.pcieLost s).tl = s.tl ∧
    (State.pcieLost s).hk = s.hk ∧
    (State.pcieLost s).log = s.log ∧
    (State.pcieLost s).seqs = s.seqs ∧
    (State.pcieLost s).mclk = s.mclk ∧
    (State.pcieLost s).sd = s.sd ∧
    (State.pcieLost s).aux = s.aux ∧
    (State.pcieLost s).enc = s.enc ∧
    (State.pcieLost s).slices = s.slices ∧
    (State.pcieLost s).gl = s.gl ∧
    (State.pcieLost s).cp = s.cp ∧
    (State.pcieLost s).flk = s.flk ∧
    (State.pcieLost s).ring = s.ring ∧
    (State.pcieLost s).can = s.can ∧
    (State.pcieLost s).canPub = s.canPub ∧
    (State.pcieLost s).eth = s.eth ∧
    (State.pcieLost s).tio = s.tio ∧
    (State.pcieLost s).dia = s.dia := by
  have k1 := @State.endSession_frame
  have k2 := @State.pairError_frame
  have k3 := @State.ite_frame
  unfold State.pcieLost
  (repeat' (first | split | simp [k1, k2, k3])) <;> (repeat' apply And.intro) <;> (first | rw [foldl_pending] | rw [foldl_time] | rw [foldl_tick] | rw [foldl_tl] | rw [foldl_hk] | rw [foldl_log] | rw [foldl_seqs] | rw [foldl_mclk] | rw [foldl_sd] | rw [foldl_aux] | rw [foldl_enc] | rw [foldl_slices] | rw [foldl_gl] | rw [foldl_cp] | rw [foldl_flk] | rw [foldl_ring] | rw [foldl_can] | rw [foldl_canPub] | rw [foldl_eth] | rw [foldl_tio] | rw [foldl_dia] | skip) <;> intros <;> (repeat' (first | split | simp [k1, k2, k3]))

theorem effPerstAssert_frame (s : State) :
    (effPerstAssert s).pending = s.pending ∧
    (effPerstAssert s).time = s.time ∧
    (effPerstAssert s).tick = s.tick ∧
    (effPerstAssert s).tl = s.tl ∧
    (effPerstAssert s).hk = s.hk ∧
    (effPerstAssert s).log = s.log ∧
    (effPerstAssert s).seqs = s.seqs ∧
    (effPerstAssert s).mclk = s.mclk ∧
    (effPerstAssert s).sd = s.sd ∧
    (effPerstAssert s).aux = s.aux ∧
    (effPerstAssert s).enc = s.enc ∧
    (effPerstAssert s).slices = s.slices ∧
    (effPerstAssert s).gl = s.gl ∧
    (effPerstAssert s).cp = s.cp ∧
    (effPerstAssert s).flk = s.flk ∧
    (effPerstAssert s).ring = s.ring ∧
    (effPerstAssert s).can = s.can ∧
    (effPerstAssert s).canPub = s.canPub ∧
    (effPerstAssert s).eth = s.eth ∧
    (effPerstAssert s).tio = s.tio ∧
    (effPerstAssert s).dia = s.dia := by
  have k1 := @State.pcieLost_frame
  unfold effPerstAssert
  simp [k1]

theorem effPcieLinkDownTimeout_frame (s : State) :
    (effPcieLinkDownTimeout s).pending = s.pending ∧
    (effPcieLinkDownTimeout s).time = s.time ∧
    (effPcieLinkDownTimeout s).tick = s.tick ∧
    (effPcieLinkDownTimeout s).tl = s.tl ∧
    (effPcieLinkDownTimeout s).hk = s.hk ∧
    (effPcieLinkDownTimeout s).log = s.log ∧
    (effPcieLinkDownTimeout s).seqs = s.seqs ∧
    (effPcieLinkDownTimeout s).mclk = s.mclk ∧
    (effPcieLinkDownTimeout s).sd = s.sd ∧
    (effPcieLinkDownTimeout s).aux = s.aux ∧
    (effPcieLinkDownTimeout s).enc = s.enc ∧
    (effPcieLinkDownTimeout s).slices = s.slices ∧
    (effPcieLinkDownTimeout s).gl = s.gl ∧
    (effPcieLinkDownTimeout s).cp = s.cp ∧
    (effPcieLinkDownTimeout s).flk = s.flk ∧
    (effPcieLinkDownTimeout s).ring = s.ring ∧
    (effPcieLinkDownTimeout s).can = s.can ∧
    (effPcieLinkDownTimeout s).canPub = s.canPub ∧
    (effPcieLinkDownTimeout s).eth = s.eth ∧
    (effPcieLinkDownTimeout s).tio = s.tio ∧
    (effPcieLinkDownTimeout s).dia = s.dia := by
  have k1 := @State.pcieLost_frame
  have k2 := @State.ite_frame
  unfold effPcieLinkDownTimeout
  repeat' (first | (simp [k1, k2]; done) | split)

theorem effPcieLinkChange_frame (a0 : Bool) (s : State) :
    (effPcieLinkChange a0 s).pending = s.pending ∧
    (effPcieLinkChange a0 s).time = s.time ∧
    (effPcieLinkChange a0 s).tick = s.tick ∧
    (effPcieLinkChange a0 s).tl = s.tl ∧
    (effPcieLinkChange a0 s).hk = s.hk ∧
    (effPcieLinkChange a0 s).log = s.log ∧
    (effPcieLinkChange a0 s).seqs = s.seqs ∧
    (effPcieLinkChange a0 s).mclk = s.mclk ∧
    (effPcieLinkChange a0 s).sd = s.sd ∧
    (effPcieLinkChange a0 s).aux = s.aux ∧
    (effPcieLinkChange a0 s).enc = s.enc ∧
    (effPcieLinkChange a0 s).slices = s.slices ∧
    (effPcieLinkChange a0 s).gl = s.gl ∧
    (effPcieLinkChange a0 s).cp = s.cp ∧
    (effPcieLinkChange a0 s).flk = s.flk ∧
    (effPcieLinkChange a0 s).ring = s.ring ∧
    (effPcieLinkChange a0 s).can = s.can ∧
    (effPcieLinkChange a0 s).canPub = s.canPub ∧
    (effPcieLinkChange a0 s).eth = s.eth ∧
    (effPcieLinkChange a0 s).tio = s.tio ∧
    (effPcieLinkChange a0 s).dia = s.dia := by
  have k1 := @effPcieLinkDownTimeout_frame
  have k2 := @State.ite_frame
  unfold effPcieLinkChange
  simp [k1, k2]

theorem effPcieHostMemoryError_frame (a0 : Fin 16) (a1 : Bool) (s : State) :
    (effPcieHostMemoryError a0 a1 s).pending = s.pending ∧
    (effPcieHostMemoryError a0 a1 s).time = s.time ∧
    (effPcieHostMemoryError a0 a1 s).tick = s.tick ∧
    (effPcieHostMemoryError a0 a1 s).free = s.free ∧
    (effPcieHostMemoryError a0 a1 s).tl = s.tl ∧
    (effPcieHostMemoryError a0 a1 s).mu = s.mu ∧
    (effPcieHostMemoryError a0 a1 s).hk = s.hk ∧
    (effPcieHostMemoryError a0 a1 s).log = s.log ∧
    (effPcieHostMemoryError a0 a1 s).seqs = s.seqs ∧
    (effPcieHostMemoryError a0 a1 s).dict = s.dict ∧
    (effPcieHostMemoryError a0 a1 s).mclk = s.mclk ∧
    (effPcieHostMemoryError a0 a1 s).sd = s.sd ∧
    (effPcieHostMemoryError a0 a1 s).aux = s.aux ∧
    (effPcieHostMemoryError a0 a1 s).enc = s.enc ∧
    (effPcieHostMemoryError a0 a1 s).eng = s.eng ∧
    (effPcieHostMemoryError a0 a1 s).slices = s.slices ∧
    (effPcieHostMemoryError a0 a1 s).gl = s.gl ∧
    (effPcieHostMemoryError a0 a1 s).ref = s.ref ∧
    (effPcieHostMemoryError a0 a1 s).cp = s.cp ∧
    (effPcieHostMemoryError a0 a1 s).flk = s.flk ∧
    (effPcieHostMemoryError a0 a1 s).ring = s.ring ∧
    (effPcieHostMemoryError a0 a1 s).can = s.can ∧
    (effPcieHostMemoryError a0 a1 s).canPub = s.canPub ∧
    (effPcieHostMemoryError a0 a1 s).eth = s.eth ∧
    (effPcieHostMemoryError a0 a1 s).tio = s.tio ∧
    (effPcieHostMemoryError a0 a1 s).dia = s.dia := by
  have k1 := @State.pairError_frame
  have k2 := @State.ite_frame
  unfold effPcieHostMemoryError
  simp [k1, k2]

theorem State.shiftOut_frame (s : State) (a1 : List Byte) :
    (State.shiftOut s a1).pending = s.pending ∧
    (State.shiftOut s a1).time = s.time ∧
    (State.shiftOut s a1).tick = s.tick ∧
    (State.shiftOut s a1).free = s.free ∧
    (State.shiftOut s a1).tl = s.tl ∧
    (State.shiftOut s a1).mu = s.mu ∧
    (State.shiftOut s a1).hk = s.hk ∧
    (State.shiftOut s a1).log = s.log ∧
    (State.shiftOut s a1).seqs = s.seqs ∧
    (State.shiftOut s a1).dict = s.dict ∧
    (State.shiftOut s a1).mclk = s.mclk ∧
    (State.shiftOut s a1).sd = s.sd ∧
    (State.shiftOut s a1).aux = s.aux ∧
    (State.shiftOut s a1).enc = s.enc ∧
    (State.shiftOut s a1).eng = s.eng ∧
    (State.shiftOut s a1).slices = s.slices ∧
    (State.shiftOut s a1).gl = s.gl ∧
    (State.shiftOut s a1).ref = s.ref ∧
    (State.shiftOut s a1).cp = s.cp ∧
    (State.shiftOut s a1).flk = s.flk ∧
    (State.shiftOut s a1).ring = s.ring ∧
    (State.shiftOut s a1).can = s.can ∧
    (State.shiftOut s a1).canPub = s.canPub ∧
    (State.shiftOut s a1).eth = s.eth ∧
    (State.shiftOut s a1).tio = s.tio ∧
    (State.shiftOut s a1).dia = s.dia := by
  have k1 := @State.ite_frame
  unfold State.shiftOut
  simp [k1]

theorem State.subReject_frame (s : State) :
    (State.subReject s).pending = s.pending ∧
    (State.subReject s).time = s.time ∧
    (State.subReject s).tick = s.tick ∧
    (State.subReject s).free = s.free ∧
    (State.subReject s).tl = s.tl ∧
    (State.subReject s).mu = s.mu ∧
    (State.subReject s).hk = s.hk ∧
    (State.subReject s).log = s.log ∧
    (State.subReject s).seqs = s.seqs ∧
    (State.subReject s).dict = s.dict ∧
    (State.subReject s).mclk = s.mclk ∧
    (State.subReject s).sd = s.sd ∧
    (State.subReject s).aux = s.aux ∧
    (State.subReject s).enc = s.enc ∧
    (State.subReject s).eng = s.eng ∧
    (State.subReject s).slices = s.slices ∧
    (State.subReject s).gl = s.gl ∧
    (State.subReject s).ref = s.ref ∧
    (State.subReject s).cp = s.cp ∧
    (State.subReject s).flk = s.flk ∧
    (State.subReject s).ring = s.ring ∧
    (State.subReject s).can = s.can ∧
    (State.subReject s).canPub = s.canPub ∧
    (State.subReject s).eth = s.eth ∧
    (State.subReject s).tio = s.tio ∧
    (State.subReject s).dia = s.dia := by
  unfold State.subReject
  simp

theorem State.takeFetch_frame (s : State) (a1 : Nat) (a2 : Nat) :
    (State.takeFetch s a1 a2).pending = s.pending ∧
    (State.takeFetch s a1 a2).time = s.time ∧
    (State.takeFetch s a1 a2).tick = s.tick ∧
    (State.takeFetch s a1 a2).free = s.free ∧
    (State.takeFetch s a1 a2).tl = s.tl ∧
    (State.takeFetch s a1 a2).mu = s.mu ∧
    (State.takeFetch s a1 a2).hk = s.hk ∧
    (State.takeFetch s a1 a2).log = s.log ∧
    (State.takeFetch s a1 a2).seqs = s.seqs ∧
    (State.takeFetch s a1 a2).dict = s.dict ∧
    (State.takeFetch s a1 a2).mclk = s.mclk ∧
    (State.takeFetch s a1 a2).sd = s.sd ∧
    (State.takeFetch s a1 a2).aux = s.aux ∧
    (State.takeFetch s a1 a2).enc = s.enc ∧
    (State.takeFetch s a1 a2).eng = s.eng ∧
    (State.takeFetch s a1 a2).slices = s.slices ∧
    (State.takeFetch s a1 a2).gl = s.gl ∧
    (State.takeFetch s a1 a2).ref = s.ref ∧
    (State.takeFetch s a1 a2).cp = s.cp ∧
    (State.takeFetch s a1 a2).flk = s.flk ∧
    (State.takeFetch s a1 a2).ring = s.ring ∧
    (State.takeFetch s a1 a2).can = s.can ∧
    (State.takeFetch s a1 a2).canPub = s.canPub ∧
    (State.takeFetch s a1 a2).eth = s.eth ∧
    (State.takeFetch s a1 a2).tio = s.tio ∧
    (State.takeFetch s a1 a2).dia = s.dia := by
  have k1 := @State.ite_frame
  unfold State.takeFetch
  dsimp only
  repeat' (first | (simp [k1]; done) | split)

theorem effSpiFetch_frame (a0 : Fin 4) (a1 : Nat) (s : State) :
    (effSpiFetch a0 a1 s).pending = s.pending ∧
    (effSpiFetch a0 a1 s).time = s.time ∧
    (effSpiFetch a0 a1 s).tick = s.tick ∧
    (effSpiFetch a0 a1 s).free = s.free ∧
    (effSpiFetch a0 a1 s).tl = s.tl ∧
    (effSpiFetch a0 a1 s).mu = s.mu ∧
    (effSpiFetch a0 a1 s).hk = s.hk ∧
    (effSpiFetch a0 a1 s).log = s.log ∧
    (effSpiFetch a0 a1 s).seqs = s.seqs ∧
    (effSpiFetch a0 a1 s).dict = s.dict ∧
    (effSpiFetch a0 a1 s).mclk = s.mclk ∧
    (effSpiFetch a0 a1 s).sd = s.sd ∧
    (effSpiFetch a0 a1 s).aux = s.aux ∧
    (effSpiFetch a0 a1 s).enc = s.enc ∧
    (effSpiFetch a0 a1 s).eng = s.eng ∧
    (effSpiFetch a0 a1 s).slices = s.slices ∧
    (effSpiFetch a0 a1 s).gl = s.gl ∧
    (effSpiFetch a0 a1 s).ref = s.ref ∧
    (effSpiFetch a0 a1 s).cp = s.cp ∧
    (effSpiFetch a0 a1 s).flk = s.flk ∧
    (effSpiFetch a0 a1 s).ring = s.ring ∧
    (effSpiFetch a0 a1 s).can = s.can ∧
    (effSpiFetch a0 a1 s).canPub = s.canPub ∧
    (effSpiFetch a0 a1 s).eth = s.eth ∧
    (effSpiFetch a0 a1 s).tio = s.tio ∧
    (effSpiFetch a0 a1 s).dia = s.dia := by
  have k1 := @State.shiftOut_frame
  have k2 := @State.takeFetch_frame
  unfold effSpiFetch
  simp [k1, k2]

theorem effSpiStatus_frame (s : State) :
    (effSpiStatus s).pending = s.pending ∧
    (effSpiStatus s).time = s.time ∧
    (effSpiStatus s).tick = s.tick ∧
    (effSpiStatus s).free = s.free ∧
    (effSpiStatus s).tl = s.tl ∧
    (effSpiStatus s).mu = s.mu ∧
    (effSpiStatus s).hk = s.hk ∧
    (effSpiStatus s).log = s.log ∧
    (effSpiStatus s).seqs = s.seqs ∧
    (effSpiStatus s).dict = s.dict ∧
    (effSpiStatus s).mclk = s.mclk ∧
    (effSpiStatus s).sd = s.sd ∧
    (effSpiStatus s).aux = s.aux ∧
    (effSpiStatus s).enc = s.enc ∧
    (effSpiStatus s).eng = s.eng ∧
    (effSpiStatus s).slices = s.slices ∧
    (effSpiStatus s).gl = s.gl ∧
    (effSpiStatus s).ref = s.ref ∧
    (effSpiStatus s).cp = s.cp ∧
    (effSpiStatus s).flk = s.flk ∧
    (effSpiStatus s).ring = s.ring ∧
    (effSpiStatus s).can = s.can ∧
    (effSpiStatus s).canPub = s.canPub ∧
    (effSpiStatus s).eth = s.eth ∧
    (effSpiStatus s).tio = s.tio ∧
    (effSpiStatus s).dia = s.dia := by
  have k1 := @State.shiftOut_frame
  unfold effSpiStatus
  simp [k1]

theorem effSpiUnknown_frame (a0 : Byte) (s : State) :
    (effSpiUnknown a0 s).pending = s.pending ∧
    (effSpiUnknown a0 s).time = s.time ∧
    (effSpiUnknown a0 s).tick = s.tick ∧
    (effSpiUnknown a0 s).free = s.free ∧
    (effSpiUnknown a0 s).tl = s.tl ∧
    (effSpiUnknown a0 s).mu = s.mu ∧
    (effSpiUnknown a0 s).hk = s.hk ∧
    (effSpiUnknown a0 s).log = s.log ∧
    (effSpiUnknown a0 s).seqs = s.seqs ∧
    (effSpiUnknown a0 s).dict = s.dict ∧
    (effSpiUnknown a0 s).mclk = s.mclk ∧
    (effSpiUnknown a0 s).sd = s.sd ∧
    (effSpiUnknown a0 s).aux = s.aux ∧
    (effSpiUnknown a0 s).enc = s.enc ∧
    (effSpiUnknown a0 s).eng = s.eng ∧
    (effSpiUnknown a0 s).slices = s.slices ∧
    (effSpiUnknown a0 s).gl = s.gl ∧
    (effSpiUnknown a0 s).ref = s.ref ∧
    (effSpiUnknown a0 s).cp = s.cp ∧
    (effSpiUnknown a0 s).flk = s.flk ∧
    (effSpiUnknown a0 s).ring = s.ring ∧
    (effSpiUnknown a0 s).can = s.can ∧
    (effSpiUnknown a0 s).canPub = s.canPub ∧
    (effSpiUnknown a0 s).eth = s.eth ∧
    (effSpiUnknown a0 s).tio = s.tio ∧
    (effSpiUnknown a0 s).dia = s.dia := by
  have k1 := @State.shiftOut_frame
  unfold effSpiUnknown
  simp [k1]

theorem State.intoInbox_frame (s : State) (a1 : Pkt) :
    (State.intoInbox s a1).pending = s.pending ∧
    (State.intoInbox s a1).time = s.time ∧
    (State.intoInbox s a1).tick = s.tick ∧
    (State.intoInbox s a1).free = s.free ∧
    (State.intoInbox s a1).tl = s.tl ∧
    (State.intoInbox s a1).mu = s.mu ∧
    (State.intoInbox s a1).hk = s.hk ∧
    (State.intoInbox s a1).log = s.log ∧
    (State.intoInbox s a1).seqs = s.seqs ∧
    (State.intoInbox s a1).dict = s.dict ∧
    (State.intoInbox s a1).mclk = s.mclk ∧
    (State.intoInbox s a1).sd = s.sd ∧
    (State.intoInbox s a1).aux = s.aux ∧
    (State.intoInbox s a1).enc = s.enc ∧
    (State.intoInbox s a1).eng = s.eng ∧
    (State.intoInbox s a1).slices = s.slices ∧
    (State.intoInbox s a1).gl = s.gl ∧
    (State.intoInbox s a1).ref = s.ref ∧
    (State.intoInbox s a1).cp = s.cp ∧
    (State.intoInbox s a1).flk = s.flk ∧
    (State.intoInbox s a1).ring = s.ring ∧
    (State.intoInbox s a1).can = s.can ∧
    (State.intoInbox s a1).canPub = s.canPub ∧
    (State.intoInbox s a1).eth = s.eth ∧
    (State.intoInbox s a1).tio = s.tio ∧
    (State.intoInbox s a1).dia = s.dia := by
  unfold State.intoInbox
  simp

theorem ethDrop_frame (s : State) :
    (ethDrop s).pending = s.pending ∧
    (ethDrop s).time = s.time ∧
    (ethDrop s).tick = s.tick ∧
    (ethDrop s).free = s.free ∧
    (ethDrop s).tl = s.tl ∧
    (ethDrop s).mu = s.mu ∧
    (ethDrop s).hk = s.hk ∧
    (ethDrop s).log = s.log ∧
    (ethDrop s).seqs = s.seqs ∧
    (ethDrop s).host = s.host ∧
    (ethDrop s).mclk = s.mclk ∧
    (ethDrop s).sd = s.sd ∧
    (ethDrop s).aux = s.aux ∧
    (ethDrop s).enc = s.enc ∧
    (ethDrop s).eng = s.eng ∧
    (ethDrop s).slices = s.slices ∧
    (ethDrop s).gl = s.gl ∧
    (ethDrop s).ref = s.ref ∧
    (ethDrop s).cp = s.cp ∧
    (ethDrop s).flk = s.flk ∧
    (ethDrop s).ring = s.ring ∧
    (ethDrop s).can = s.can ∧
    (ethDrop s).canPub = s.canPub ∧
    (ethDrop s).eth = s.eth ∧
    (ethDrop s).tio = s.tio ∧
    (ethDrop s).dia = s.dia := by
  unfold ethDrop
  simp

theorem effIpv4ReassemblyTimeout_frame (a0 : Fin 4) (s : State) :
    (effIpv4ReassemblyTimeout a0 s).pending = s.pending ∧
    (effIpv4ReassemblyTimeout a0 s).time = s.time ∧
    (effIpv4ReassemblyTimeout a0 s).tick = s.tick ∧
    (effIpv4ReassemblyTimeout a0 s).free = s.free ∧
    (effIpv4ReassemblyTimeout a0 s).tl = s.tl ∧
    (effIpv4ReassemblyTimeout a0 s).mu = s.mu ∧
    (effIpv4ReassemblyTimeout a0 s).hk = s.hk ∧
    (effIpv4ReassemblyTimeout a0 s).log = s.log ∧
    (effIpv4ReassemblyTimeout a0 s).seqs = s.seqs ∧
    (effIpv4ReassemblyTimeout a0 s).dict = s.dict ∧
    (effIpv4ReassemblyTimeout a0 s).mclk = s.mclk ∧
    (effIpv4ReassemblyTimeout a0 s).sd = s.sd ∧
    (effIpv4ReassemblyTimeout a0 s).aux = s.aux ∧
    (effIpv4ReassemblyTimeout a0 s).enc = s.enc ∧
    (effIpv4ReassemblyTimeout a0 s).eng = s.eng ∧
    (effIpv4ReassemblyTimeout a0 s).slices = s.slices ∧
    (effIpv4ReassemblyTimeout a0 s).gl = s.gl ∧
    (effIpv4ReassemblyTimeout a0 s).ref = s.ref ∧
    (effIpv4ReassemblyTimeout a0 s).cp = s.cp ∧
    (effIpv4ReassemblyTimeout a0 s).flk = s.flk ∧
    (effIpv4ReassemblyTimeout a0 s).ring = s.ring ∧
    (effIpv4ReassemblyTimeout a0 s).can = s.can ∧
    (effIpv4ReassemblyTimeout a0 s).canPub = s.canPub ∧
    (effIpv4ReassemblyTimeout a0 s).eth = s.eth ∧
    (effIpv4ReassemblyTimeout a0 s).tio = s.tio ∧
    (effIpv4ReassemblyTimeout a0 s).dia = s.dia := by
  have k1 := @State.ite_frame
  unfold effIpv4ReassemblyTimeout
  repeat' (first | (simp [k1]; done) | split)

theorem effCanTunnelFrameRx_frame (a0 : Fin 4) (a1 : List Byte) (s : State) :
    (effCanTunnelFrameRx a0 a1 s).pending = s.pending ∧
    (effCanTunnelFrameRx a0 a1 s).time = s.time ∧
    (effCanTunnelFrameRx a0 a1 s).tick = s.tick ∧
    (effCanTunnelFrameRx a0 a1 s).free = s.free ∧
    (effCanTunnelFrameRx a0 a1 s).tl = s.tl ∧
    (effCanTunnelFrameRx a0 a1 s).mu = s.mu ∧
    (effCanTunnelFrameRx a0 a1 s).hk = s.hk ∧
    (effCanTunnelFrameRx a0 a1 s).log = s.log ∧
    (effCanTunnelFrameRx a0 a1 s).seqs = s.seqs ∧
    (effCanTunnelFrameRx a0 a1 s).dict = s.dict ∧
    (effCanTunnelFrameRx a0 a1 s).mclk = s.mclk ∧
    (effCanTunnelFrameRx a0 a1 s).sd = s.sd ∧
    (effCanTunnelFrameRx a0 a1 s).aux = s.aux ∧
    (effCanTunnelFrameRx a0 a1 s).enc = s.enc ∧
    (effCanTunnelFrameRx a0 a1 s).eng = s.eng ∧
    (effCanTunnelFrameRx a0 a1 s).slices = s.slices ∧
    (effCanTunnelFrameRx a0 a1 s).gl = s.gl ∧
    (effCanTunnelFrameRx a0 a1 s).ref = s.ref ∧
    (effCanTunnelFrameRx a0 a1 s).cp = s.cp ∧
    (effCanTunnelFrameRx a0 a1 s).flk = s.flk ∧
    (effCanTunnelFrameRx a0 a1 s).ring = s.ring ∧
    (effCanTunnelFrameRx a0 a1 s).canPub = s.canPub ∧
    (effCanTunnelFrameRx a0 a1 s).eth = s.eth ∧
    (effCanTunnelFrameRx a0 a1 s).tio = s.tio ∧
    (effCanTunnelFrameRx a0 a1 s).dia = s.dia := by
  have k1 := @State.intoInbox_frame
  have k2 := @State.ite_frame
  unfold effCanTunnelFrameRx
  simp [k1, k2]

theorem effCanTunnelTimeout_frame (a0 : Fin 4) (s : State) :
    (effCanTunnelTimeout a0 s).pending = s.pending ∧
    (effCanTunnelTimeout a0 s).time = s.time ∧
    (effCanTunnelTimeout a0 s).tick = s.tick ∧
    (effCanTunnelTimeout a0 s).free = s.free ∧
    (effCanTunnelTimeout a0 s).tl = s.tl ∧
    (effCanTunnelTimeout a0 s).mu = s.mu ∧
    (effCanTunnelTimeout a0 s).hk = s.hk ∧
    (effCanTunnelTimeout a0 s).log = s.log ∧
    (effCanTunnelTimeout a0 s).seqs = s.seqs ∧
    (effCanTunnelTimeout a0 s).host = s.host ∧
    (effCanTunnelTimeout a0 s).dict = s.dict ∧
    (effCanTunnelTimeout a0 s).mclk = s.mclk ∧
    (effCanTunnelTimeout a0 s).sd = s.sd ∧
    (effCanTunnelTimeout a0 s).aux = s.aux ∧
    (effCanTunnelTimeout a0 s).enc = s.enc ∧
    (effCanTunnelTimeout a0 s).eng = s.eng ∧
    (effCanTunnelTimeout a0 s).slices = s.slices ∧
    (effCanTunnelTimeout a0 s).gl = s.gl ∧
    (effCanTunnelTimeout a0 s).ref = s.ref ∧
    (effCanTunnelTimeout a0 s).cp = s.cp ∧
    (effCanTunnelTimeout a0 s).flk = s.flk ∧
    (effCanTunnelTimeout a0 s).ring = s.ring ∧
    (effCanTunnelTimeout a0 s).canPub = s.canPub ∧
    (effCanTunnelTimeout a0 s).eth = s.eth ∧
    (effCanTunnelTimeout a0 s).tio = s.tio ∧
    (effCanTunnelTimeout a0 s).dia = s.dia := by
  have k1 := @State.ite_frame
  unfold effCanTunnelTimeout
  simp [k1]

theorem State.notify_frame (s : State) (a1 : Reply) :
    (State.notify s a1).pending = s.pending ∧
    (State.notify s a1).time = s.time ∧
    (State.notify s a1).tick = s.tick ∧
    (State.notify s a1).free = s.free ∧
    (State.notify s a1).tl = s.tl ∧
    (State.notify s a1).mu = s.mu ∧
    (State.notify s a1).hk = s.hk ∧
    (State.notify s a1).log = s.log ∧
    (State.notify s a1).mclk = s.mclk ∧
    (State.notify s a1).sd = s.sd ∧
    (State.notify s a1).aux = s.aux ∧
    (State.notify s a1).enc = s.enc ∧
    (State.notify s a1).eng = s.eng ∧
    (State.notify s a1).slices = s.slices ∧
    (State.notify s a1).gl = s.gl ∧
    (State.notify s a1).ref = s.ref ∧
    (State.notify s a1).cp = s.cp ∧
    (State.notify s a1).flk = s.flk ∧
    (State.notify s a1).canPub = s.canPub ∧
    (State.notify s a1).tio = s.tio := by
  have k1 := @State.deliver_frame
  have k2 := @State.postCq_frame
  have k3 := @State.ite_frame
  unfold State.notify
  repeat' (first | (simp [k1, k2, k3]; done) | split)

theorem effSubscriptionNotify_frame (a0 : Fin 256) (s : State) :
    (effSubscriptionNotify a0 s).pending = s.pending ∧
    (effSubscriptionNotify a0 s).time = s.time ∧
    (effSubscriptionNotify a0 s).tick = s.tick ∧
    (effSubscriptionNotify a0 s).free = s.free ∧
    (effSubscriptionNotify a0 s).tl = s.tl ∧
    (effSubscriptionNotify a0 s).mu = s.mu ∧
    (effSubscriptionNotify a0 s).hk = s.hk ∧
    (effSubscriptionNotify a0 s).log = s.log ∧
    (effSubscriptionNotify a0 s).mclk = s.mclk ∧
    (effSubscriptionNotify a0 s).sd = s.sd ∧
    (effSubscriptionNotify a0 s).aux = s.aux ∧
    (effSubscriptionNotify a0 s).enc = s.enc ∧
    (effSubscriptionNotify a0 s).eng = s.eng ∧
    (effSubscriptionNotify a0 s).slices = s.slices ∧
    (effSubscriptionNotify a0 s).gl = s.gl ∧
    (effSubscriptionNotify a0 s).ref = s.ref ∧
    (effSubscriptionNotify a0 s).cp = s.cp ∧
    (effSubscriptionNotify a0 s).flk = s.flk ∧
    (effSubscriptionNotify a0 s).canPub = s.canPub ∧
    (effSubscriptionNotify a0 s).tio = s.tio := by
  have k1 := @State.notify_frame
  have k2 := @State.ite_frame
  unfold effSubscriptionNotify
  repeat' (first | (simp [k1, k2]; done) | split)

theorem effSessionIdleTimeout_frame (a0 : Fin 64) (s : State) :
    (effSessionIdleTimeout a0 s).pending = s.pending ∧
    (effSessionIdleTimeout a0 s).time = s.time ∧
    (effSessionIdleTimeout a0 s).tick = s.tick ∧
    (effSessionIdleTimeout a0 s).free = s.free ∧
    (effSessionIdleTimeout a0 s).tl = s.tl ∧
    (effSessionIdleTimeout a0 s).hk = s.hk ∧
    (effSessionIdleTimeout a0 s).log = s.log ∧
    (effSessionIdleTimeout a0 s).seqs = s.seqs ∧
    (effSessionIdleTimeout a0 s).mclk = s.mclk ∧
    (effSessionIdleTimeout a0 s).sd = s.sd ∧
    (effSessionIdleTimeout a0 s).aux = s.aux ∧
    (effSessionIdleTimeout a0 s).enc = s.enc ∧
    (effSessionIdleTimeout a0 s).slices = s.slices ∧
    (effSessionIdleTimeout a0 s).gl = s.gl ∧
    (effSessionIdleTimeout a0 s).cp = s.cp ∧
    (effSessionIdleTimeout a0 s).flk = s.flk ∧
    (effSessionIdleTimeout a0 s).ring = s.ring ∧
    (effSessionIdleTimeout a0 s).can = s.can ∧
    (effSessionIdleTimeout a0 s).canPub = s.canPub ∧
    (effSessionIdleTimeout a0 s).eth = s.eth ∧
    (effSessionIdleTimeout a0 s).tio = s.tio ∧
    (effSessionIdleTimeout a0 s).dia = s.dia := by
  have k1 := @State.endSession_frame
  have k2 := @State.ite_frame
  unfold effSessionIdleTimeout
  repeat' (first | (simp [k1, k2]; done) | split)

theorem State.writePair_frame (s : State) (a1 : Fin 16) (a2 : Nat) (a3 : Word) :
    (State.writePair s a1 a2 a3).pending = s.pending ∧
    (State.writePair s a1 a2 a3).time = s.time ∧
    (State.writePair s a1 a2 a3).tick = s.tick ∧
    (State.writePair s a1 a2 a3).free = s.free ∧
    (State.writePair s a1 a2 a3).tl = s.tl ∧
    (State.writePair s a1 a2 a3).mu = s.mu ∧
    (State.writePair s a1 a2 a3).hk = s.hk ∧
    (State.writePair s a1 a2 a3).log = s.log ∧
    (State.writePair s a1 a2 a3).seqs = s.seqs ∧
    (State.writePair s a1 a2 a3).dict = s.dict ∧
    (State.writePair s a1 a2 a3).mclk = s.mclk ∧
    (State.writePair s a1 a2 a3).sd = s.sd ∧
    (State.writePair s a1 a2 a3).aux = s.aux ∧
    (State.writePair s a1 a2 a3).enc = s.enc ∧
    (State.writePair s a1 a2 a3).eng = s.eng ∧
    (State.writePair s a1 a2 a3).slices = s.slices ∧
    (State.writePair s a1 a2 a3).gl = s.gl ∧
    (State.writePair s a1 a2 a3).ref = s.ref ∧
    (State.writePair s a1 a2 a3).cp = s.cp ∧
    (State.writePair s a1 a2 a3).flk = s.flk ∧
    (State.writePair s a1 a2 a3).ring = s.ring ∧
    (State.writePair s a1 a2 a3).can = s.can ∧
    (State.writePair s a1 a2 a3).canPub = s.canPub ∧
    (State.writePair s a1 a2 a3).eth = s.eth ∧
    (State.writePair s a1 a2 a3).tio = s.tio ∧
    (State.writePair s a1 a2 a3).dia = s.dia := by
  have k1 := @effQcfgDisable_frame
  have k2 := @effQcfgEnable_frame
  have k3 := @State.ite_frame
  unfold State.writePair
  simp [k1, k2, k3]

theorem State.writeMsix_frame (s : State) (a1 : Nat) (a2 : Word) :
    (State.writeMsix s a1 a2).pending = s.pending ∧
    (State.writeMsix s a1 a2).time = s.time ∧
    (State.writeMsix s a1 a2).tick = s.tick ∧
    (State.writeMsix s a1 a2).free = s.free ∧
    (State.writeMsix s a1 a2).tl = s.tl ∧
    (State.writeMsix s a1 a2).mu = s.mu ∧
    (State.writeMsix s a1 a2).hk = s.hk ∧
    (State.writeMsix s a1 a2).log = s.log ∧
    (State.writeMsix s a1 a2).seqs = s.seqs ∧
    (State.writeMsix s a1 a2).dict = s.dict ∧
    (State.writeMsix s a1 a2).mclk = s.mclk ∧
    (State.writeMsix s a1 a2).sd = s.sd ∧
    (State.writeMsix s a1 a2).aux = s.aux ∧
    (State.writeMsix s a1 a2).enc = s.enc ∧
    (State.writeMsix s a1 a2).eng = s.eng ∧
    (State.writeMsix s a1 a2).slices = s.slices ∧
    (State.writeMsix s a1 a2).gl = s.gl ∧
    (State.writeMsix s a1 a2).ref = s.ref ∧
    (State.writeMsix s a1 a2).cp = s.cp ∧
    (State.writeMsix s a1 a2).flk = s.flk ∧
    (State.writeMsix s a1 a2).ring = s.ring ∧
    (State.writeMsix s a1 a2).can = s.can ∧
    (State.writeMsix s a1 a2).canPub = s.canPub ∧
    (State.writeMsix s a1 a2).eth = s.eth ∧
    (State.writeMsix s a1 a2).tio = s.tio ∧
    (State.writeMsix s a1 a2).dia = s.dia := by
  have k1 := @State.msix_frame
  have k2 := @State.ite_frame
  unfold State.writeMsix
  simp [k1, k2]

theorem State.writeBar2_frame (s : State) (a1 : Nat) (a2 : Word) :
    (State.writeBar2 s a1 a2).pending = s.pending ∧
    (State.writeBar2 s a1 a2).time = s.time ∧
    (State.writeBar2 s a1 a2).tick = s.tick ∧
    (State.writeBar2 s a1 a2).free = s.free ∧
    (State.writeBar2 s a1 a2).tl = s.tl ∧
    (State.writeBar2 s a1 a2).mu = s.mu ∧
    (State.writeBar2 s a1 a2).hk = s.hk ∧
    (State.writeBar2 s a1 a2).log = s.log ∧
    (State.writeBar2 s a1 a2).seqs = s.seqs ∧
    (State.writeBar2 s a1 a2).host = s.host ∧
    (State.writeBar2 s a1 a2).dict = s.dict ∧
    (State.writeBar2 s a1 a2).mclk = s.mclk ∧
    (State.writeBar2 s a1 a2).sd = s.sd ∧
    (State.writeBar2 s a1 a2).aux = s.aux ∧
    (State.writeBar2 s a1 a2).enc = s.enc ∧
    (State.writeBar2 s a1 a2).eng = s.eng ∧
    (State.writeBar2 s a1 a2).slices = s.slices ∧
    (State.writeBar2 s a1 a2).gl = s.gl ∧
    (State.writeBar2 s a1 a2).ref = s.ref ∧
    (State.writeBar2 s a1 a2).cp = s.cp ∧
    (State.writeBar2 s a1 a2).flk = s.flk ∧
    (State.writeBar2 s a1 a2).ring = s.ring ∧
    (State.writeBar2 s a1 a2).canPub = s.canPub ∧
    (State.writeBar2 s a1 a2).eth = s.eth ∧
    (State.writeBar2 s a1 a2).tio = s.tio ∧
    (State.writeBar2 s a1 a2).dia = s.dia := by
  have k1 := @effCanQackDoorbell_frame
  have k2 := @State.ite_frame
  unfold State.writeBar2
  simp [k1, k2]

end Sys2Proof.Machine
end

