-- ==== Sys2Proof/Laws/Admitted.lean ====
section
/-!
SUPPORT. A command row whose packet is admitted runs its opcode's effect: the one lemma through which a statement about an
opcode reaches `exec`.
-/

namespace Sys2Proof.Machine

open Sys2Proof

theorem effCmd_admitted {u w : State} {p : Pkt} {d : Deferred} (op : Pkt → State → Res)
    (h : Safety.admitted u p = some (w, d)) :
    effCmd p op u =
      let r := op p w
      let t := r.st.setCur none
      if r.later then t else t.complete (t.withRepeats d) r.status r.extra := by
  unfold Safety.admitted at h
  unfold effCmd
  split at h
  · rename_i hc
    rw [if_pos hc]
    cases he : u.takeEntry p with
    | none => rw [he] at h; cases h
    | some x =>
      obtain ⟨v, e⟩ := x
      rw [he] at h
      dsimp only at h ⊢
      split at h
      · rename_i hk
        split at h
        · rename_i hq
          obtain ⟨h1, h2, h3, h4⟩ := hq
          obtain ⟨rfl, rfl⟩ : ((v.noteAccepted p).remember p).setCur (some (p, (v.noteAccepted p).now, e)) = w ∧ _ = d := by simpa using h
          unfold State.submit State.perform
          simp only [hk.1, hk.2, Bool.not_true, Bool.false_eq_true, if_false, h1, h2, h3, h4]
        · cases h
      · cases h
  · cases h

/-- The accepted command carries the row's packet. -/
theorem admitted_pkt {u w : State} {p : Pkt} {d : Deferred} (h : Safety.admitted u p = some (w, d)) : d.pkt = p := by
  unfold Safety.admitted at h
  (repeat' split at h) <;> simp_all
  exact (congrArg Deferred.pkt h.2.2).symm

/-- Taking an entry changes the host links only. -/
theorem takeEntry_frame {u v : State} {p : Pkt} {e : Nat} (h : u.takeEntry p = some (v, e)) :
    v.pending = u.pending ∧
    v.time = u.time ∧
    v.tick = u.tick ∧
    v.free = u.free ∧
    v.tl = u.tl ∧
    v.mu = u.mu ∧
    v.hk = u.hk ∧
    v.log = u.log ∧
    v.dict = u.dict ∧
    v.mclk = u.mclk ∧
    v.sd = u.sd ∧
    v.aux = u.aux ∧
    v.enc = u.enc ∧
    v.eng = u.eng ∧
    v.slices = u.slices ∧
    v.gl = u.gl ∧
    v.ref = u.ref ∧
    v.cp = u.cp ∧
    v.flk = u.flk ∧
    v.ring = u.ring ∧
    v.can = u.can ∧
    v.canPub = u.canPub ∧
    v.eth = u.eth ∧
    v.tio = u.tio ∧
    v.seqs = u.seqs ∧
    v.dia = u.dia := by
  have k1 := @State.served_frame
  have k2 := @State.startEntry_frame
  unfold State.takeEntry at h
  repeat' split at h
  all_goals (try dsimp only at h)
  all_goals repeat' split at h
  all_goals first
    | (cases h; done)
    | (have h := congrArg Prod.fst (Option.some.inj h); dsimp only at h; subst h; simp [k1, k2])

/-- What begins a command leaves everything but the host links, the record sequences and the trace. -/
theorem admitted_frame {u w : State} {p : Pkt} {d : Deferred} (h : Safety.admitted u p = some (w, d)) :
    w.pending = u.pending ∧
    w.time = u.time ∧
    w.tick = u.tick ∧
    w.free = u.free ∧
    w.tl = u.tl ∧
    w.mu = u.mu ∧
    w.hk = u.hk ∧
    w.log = u.log ∧
    w.dict = u.dict ∧
    w.mclk = u.mclk ∧
    w.sd = u.sd ∧
    w.aux = u.aux ∧
    w.enc = u.enc ∧
    w.eng = u.eng ∧
    w.slices = u.slices ∧
    w.gl = u.gl ∧
    w.ref = u.ref ∧
    w.cp = u.cp ∧
    w.flk = u.flk ∧
    w.ring = u.ring ∧
    w.can = u.can ∧
    w.canPub = u.canPub ∧
    w.eth = u.eth ∧
    w.tio = u.tio := by
  have k1 := @State.noteAccepted_frame
  have k2 := @State.setCur_frame
  have k3 := @State.remember_frame
  unfold Safety.admitted at h
  split at h
  · cases he : u.takeEntry p with
    | none => rw [he] at h; cases h
    | some x =>
      obtain ⟨v, e⟩ := x
      rw [he] at h
      dsimp only at h
      have hf := takeEntry_frame he
      split at h
      · split at h
        · obtain ⟨rfl, _⟩ : ((v.noteAccepted p).remember p).setCur (some (p, (v.noteAccepted p).now, e)) = w ∧ _ = d := by simpa [k1, k2, k3] using h
          simp [k1, k2, k3, hf]
        · cases h
      · cases h
  · cases h

/-- An opcode that completes now: what `exec` answers on its row. -/
theorem row_done {s w : State} {dt : Nat} {p : Pkt} {d : Deferred} {st : Nat} {ex : List Byte} (op : Pkt → State → Res)
    (h : Safety.admitted (s.elapse dt) p = some (w, d)) (hs : (op p w).status = st) (he : (op p w).extra = ex)
    (hl : (op p w).later = false) :
    s.run dt (effCmd p op) = Safety.done s (s.elapse dt) ((op p w).st.setCur none) d st ex := by
  simp only [State.run, Safety.done, effCmd_admitted op h, hs, he, hl, Bool.false_eq_true, if_false]

/-- A command that steers the counter, admitted: it is answered, and the registers keep their widths. -/
theorem row_doneT {s w : State} {dt : Nat} {p : Pkt} {d : Deferred} {st : Nat} {ex : List Byte} (op : Pkt → State → Res)
    (h : Safety.admitted (s.elapse dt) p = some (w, d)) (hs : (op p w).status = st) (he : (op p w).extra = ex)
    (hl : (op p w).later = false) :
    s.runT dt (effCmd p op) = Safety.doneT s ((op p w).st.setCur none) d st ex := by
  simp only [State.runT, Safety.doneT, effCmd_admitted op h, hs, he, hl, Bool.false_eq_true, if_false]

/-- An opcode whose completion comes later: what `exec` answers on its row. -/
theorem row_later {s w : State} {dt : Nat} {p : Pkt} {d : Deferred} (op : Pkt → State → Res)
    (h : Safety.admitted (s.elapse dt) p = some (w, d)) (hl : (op p w).later = true) :
    s.run dt (effCmd p op) = Safety.later s (s.elapse dt) ((op p w).st.setCur none) := by
  simp only [State.run, Safety.later, effCmd_admitted op h, hl, if_true]

/-- What an admitted command's effect begins with names the command. -/
theorem admitted_cur {u w : State} {p : Pkt} {d : Deferred} (h : Safety.admitted u p = some (w, d)) : w.cur = some d := by
  have k1 := @State.noteAccepted_frame
  unfold Safety.admitted at h
  split at h
  · cases he : u.takeEntry p with
    | none => rw [he] at h; cases h
    | some x =>
      obtain ⟨v, e⟩ := x
      rw [he] at h
      dsimp only at h
      split at h
      · split at h
        · obtain ⟨rfl, rfl⟩ : ((v.noteAccepted p).remember p).setCur (some (p, (v.noteAccepted p).now, e)) = w ∧ _ = d := by simpa [k1] using h
          simp [k1, State.cur, State.setCur]
        · cases h
      · cases h
  · cases h

end Sys2Proof.Machine
end

