-- ==== Sys2Proof/Laws/Memory.lean ====
section
/-!
SUPPORT. Reading and writing a table of units or words: a read after a write, and the one form that a write keeps.
-/

namespace Sys2Proof.Machine

variable {α : Type}

@[simp] theorem bget_nil (d : α) (k : Nat) : bget d [] k = d := (rfl)

theorem bget_bset_same (d : α) (m : Bank α) (k : Nat) (v : α) : bget d (bset m k v) k = v := by
  induction m with
  | nil => simp [bset, bget]
  | cons e r ih =>
    obtain ⟨k', v'⟩ := e
    simp only [bset]
    split
    · simp [bget]
    · split
      · simp [bget]
      · simp [bget, *]

theorem bget_bset_other (d : α) (m : Bank α) {k j : Nat} (v : α) (h : j ≠ k) : bget d (bset m k v) j = bget d m j := by
  induction m with
  | nil => simp [bset, bget, h]
  | cons e r ih =>
    obtain ⟨k', v'⟩ := e
    simp only [bset]
    split
    · simp [bget, h]
    · split
      · next e => simp [bget, h, ← e]
      · simp [bget, ih]

theorem bankWf_cons (k : Nat) (v : α) (m : Bank α) :
    bankWf ((k, v) :: m) = true ↔ (∀ e ∈ m.head?, k < e.1) ∧ bankWf m = true := by
  cases m with
  | nil => simp [bankWf]
  | cons e r => obtain ⟨k', v'⟩ := e; simp [bankWf]

theorem bset_head (m : Bank α) (k : Nat) (v : α) : ∀ e ∈ (bset m k v).head?, e.1 = k ∨ ∃ x ∈ m.head?, e.1 = x.1 := by
  cases m with
  | nil => simp [bset]
  | cons e r =>
    obtain ⟨k', v'⟩ := e
    simp only [bset]
    split
    · simp
    · split <;> simp

theorem bankWf_bset (m : Bank α) (k : Nat) (v : α) (h : bankWf m = true) : bankWf (bset m k v) = true := by
  induction m with
  | nil => rfl
  | cons e r ih =>
    obtain ⟨k', v'⟩ := e
    have hr := (bankWf_cons k' v' r).1 h
    simp only [bset]
    split
    · next hk => exact (bankWf_cons ..).2 ⟨by simpa using hk, h⟩
    · split
      · next hk => exact (bankWf_cons ..).2 ⟨by rw [hk]; exact hr.1, hr.2⟩
      · refine (bankWf_cons ..).2 ⟨fun e he => ?_, ih hr.2⟩
        rcases bset_head r k v e he with hx | ⟨x, hx, hy⟩
        · omega
        · rw [hy]; exact hr.1 x hx

/-- The only writer of the words keeps their form. -/
theorem effDebugWrite_mem (addr : Nat) (v : Word) (s : State) (h : Memory.wf s.cp.mem = true) :
    Memory.wf (effDebugWrite addr v true s).cp.mem = true := by
  unfold effDebugWrite
  simp only [if_true]
  split
  · exact bankWf_bset _ _ _ h
  · exact h

end Sys2Proof.Machine
end

