-- ==== Sys2Proof/Laws/Opcodes.lean ====
section
/-!
SUPPORT. What a packet row leaves as it was: each part of State that its opcode's own effect leaves as it was and that
neither judging a command nor completing it writes.
-/

namespace Sys2Proof.Machine

open Sys2Proof

/-- Only a TIM_SET_INCREMENT restarts the host watchdog (R72). -/
theorem watchFrom_other (s : State) (p : Pkt) (b : Bool) (h : p.opcode ≠ 0x4000#16) : s.watchFrom p b = s := by
  simp [State.watchFrom, h]

theorem perform_pending (d : Deferred) (op : Pkt → State → Res) (s : State) (h : ∀ q v, (op q v).st.pending = v.pending) :
    (s.perform d op).pending = s.pending := by
  have k1 := @State.complete_frame
  have k2 := @State.setCur_frame
  unfold State.perform
  dsimp only
  split <;> simp [k1, k2, h]

theorem submit_pending (p : Pkt) (e : Nat) (op : Pkt → State → Res) (s : State) (h : ∀ q v, (op q v).st.pending = v.pending) :
    (s.submit p e op).pending = s.pending := by
  have k1 := @State.answer_frame
  have k2 := @State.complete_frame
  have k3 := @State.deliver_frame
  have k4 := @State.mirrorPut_frame
  have k5 := @State.noteAccepted_frame
  have k6 := @State.remember_frame
  have k7 := @State.watchFrom_frame
  have k8 := @State.touch_frame
  unfold State.submit
  (repeat' (first | split | simp [k1, k2, k3, k4, k5, k6, k7, k8, perform_pending _ _ _ h]))

@[simp] theorem effCmd_pending (p : Pkt) (op : Pkt → State → Res) (s : State) (h : ∀ q v, (op q v).st.pending = v.pending) :
    (effCmd p op s).pending = s.pending := by
  unfold effCmd
  split
  · cases ht : s.takeEntry p with
    | none => rfl
    | some x =>
      have := (takeEntry_frame ht)
      simp [submit_pending _ _ _ _ h, this]
  · rfl

theorem perform_time (d : Deferred) (op : Pkt → State → Res) (s : State) (h : ∀ q v, (op q v).st.time = v.time) :
    (s.perform d op).time = s.time := by
  have k1 := @State.complete_frame
  have k2 := @State.setCur_frame
  unfold State.perform
  dsimp only
  split <;> simp [k1, k2, h]

theorem submit_time (p : Pkt) (e : Nat) (op : Pkt → State → Res) (s : State) (h : ∀ q v, (op q v).st.time = v.time) :
    (s.submit p e op).time = s.time := by
  have k1 := @State.answer_frame
  have k2 := @State.complete_frame
  have k3 := @State.deliver_frame
  have k4 := @State.mirrorPut_frame
  have k5 := @State.noteAccepted_frame
  have k6 := @State.remember_frame
  have k7 := @State.watchFrom_frame
  have k8 := @State.touch_frame
  unfold State.submit
  (repeat' (first | split | simp [k1, k2, k3, k4, k5, k6, k7, k8, perform_time _ _ _ h]))

@[simp] theorem effCmd_time (p : Pkt) (op : Pkt → State → Res) (s : State) (h : ∀ q v, (op q v).st.time = v.time) :
    (effCmd p op s).time = s.time := by
  unfold effCmd
  split
  · cases ht : s.takeEntry p with
    | none => rfl
    | some x =>
      have := (takeEntry_frame ht)
      simp [submit_time _ _ _ _ h, this]
  · rfl

theorem perform_tick (d : Deferred) (op : Pkt → State → Res) (s : State) (h : ∀ q v, (op q v).st.tick = v.tick) :
    (s.perform d op).tick = s.tick := by
  have k1 := @State.complete_frame
  have k2 := @State.setCur_frame
  unfold State.perform
  dsimp only
  split <;> simp [k1, k2, h]

theorem submit_tick (p : Pkt) (e : Nat) (op : Pkt → State → Res) (s : State) (h : ∀ q v, (op q v).st.tick = v.tick) :
    (s.submit p e op).tick = s.tick := by
  have k1 := @State.answer_frame
  have k2 := @State.complete_frame
  have k3 := @State.deliver_frame
  have k4 := @State.mirrorPut_frame
  have k5 := @State.noteAccepted_frame
  have k6 := @State.remember_frame
  have k7 := @State.watchFrom_frame
  have k8 := @State.touch_frame
  unfold State.submit
  (repeat' (first | split | simp [k1, k2, k3, k4, k5, k6, k7, k8, perform_tick _ _ _ h]))

@[simp] theorem effCmd_tick (p : Pkt) (op : Pkt → State → Res) (s : State) (h : ∀ q v, (op q v).st.tick = v.tick) :
    (effCmd p op s).tick = s.tick := by
  unfold effCmd
  split
  · cases ht : s.takeEntry p with
    | none => rfl
    | some x =>
      have := (takeEntry_frame ht)
      simp [submit_tick _ _ _ _ h, this]
  · rfl

theorem perform_free (d : Deferred) (op : Pkt → State → Res) (s : State) (h : ∀ q v, (op q v).st.free = v.free) :
    (s.perform d op).free = s.free := by
  have k1 := @State.complete_frame
  have k2 := @State.setCur_frame
  unfold State.perform
  dsimp only
  split <;> simp [k1, k2, h]

theorem submit_free (p : Pkt) (e : Nat) (op : Pkt → State → Res) (s : State) (h : ∀ q v, (op q v).st.free = v.free) :
    (s.submit p e op).free = s.free := by
  have k1 := @State.answer_frame
  have k2 := @State.complete_frame
  have k3 := @State.deliver_frame
  have k4 := @State.mirrorPut_frame
  have k5 := @State.noteAccepted_frame
  have k6 := @State.remember_frame
  have k7 := @State.watchFrom_frame
  have k8 := @State.touch_frame
  unfold State.submit
  (repeat' (first | split | simp [k1, k2, k3, k4, k5, k6, k7, k8, perform_free _ _ _ h]))

@[simp] theorem effCmd_free (p : Pkt) (op : Pkt → State → Res) (s : State) (h : ∀ q v, (op q v).st.free = v.free) :
    (effCmd p op s).free = s.free := by
  unfold effCmd
  split
  · cases ht : s.takeEntry p with
    | none => rfl
    | some x =>
      have := (takeEntry_frame ht)
      simp [submit_free _ _ _ _ h, this]
  · rfl

theorem perform_tl (d : Deferred) (op : Pkt → State → Res) (s : State) (h : ∀ q v, (op q v).st.tl = v.tl) :
    (s.perform d op).tl = s.tl := by
  have k1 := @State.complete_frame
  have k2 := @State.setCur_frame
  unfold State.perform
  dsimp only
  split <;> simp [k1, k2, h]

theorem submit_tl (p : Pkt) (e : Nat) (op : Pkt → State → Res) (s : State) (hp : p.opcode ≠ 0x4000#16) (h : ∀ q v, (op q v).st.tl = v.tl) :
    (s.submit p e op).tl = s.tl := by
  have k1 := @State.answer_frame
  have k2 := @State.complete_frame
  have k3 := @State.deliver_frame
  have k4 := @State.mirrorPut_frame
  have k5 := @State.noteAccepted_frame
  have k6 := @State.remember_frame
  have k8 := @State.touch_frame
  unfold State.submit
  (repeat' (first | split | simp [k1, k2, k3, k4, k5, k6, watchFrom_other, hp, k8, perform_tl _ _ _ h]))

@[simp] theorem effCmd_tl (p : Pkt) (op : Pkt → State → Res) (s : State) (hp : p.opcode ≠ 0x4000#16) (h : ∀ q v, (op q v).st.tl = v.tl) :
    (effCmd p op s).tl = s.tl := by
  unfold effCmd
  split
  · cases ht : s.takeEntry p with
    | none => rfl
    | some x =>
      have := (takeEntry_frame ht)
      simp [submit_tl _ _ _ _ hp h, this]
  · rfl

theorem perform_mu (d : Deferred) (op : Pkt → State → Res) (s : State) (h : ∀ q v, (op q v).st.mu = v.mu) :
    (s.perform d op).mu = s.mu := by
  have k1 := @State.complete_frame
  have k2 := @State.setCur_frame
  unfold State.perform
  dsimp only
  split <;> simp [k1, k2, h]

theorem submit_mu (p : Pkt) (e : Nat) (op : Pkt → State → Res) (s : State) (h : ∀ q v, (op q v).st.mu = v.mu) :
    (s.submit p e op).mu = s.mu := by
  have k1 := @State.answer_frame
  have k2 := @State.complete_frame
  have k3 := @State.deliver_frame
  have k4 := @State.mirrorPut_frame
  have k5 := @State.noteAccepted_frame
  have k6 := @State.remember_frame
  have k7 := @State.watchFrom_frame
  have k8 := @State.touch_frame
  unfold State.submit
  (repeat' (first | split | simp [k1, k2, k3, k4, k5, k6, k7, k8, perform_mu _ _ _ h]))

@[simp] theorem effCmd_mu (p : Pkt) (op : Pkt → State → Res) (s : State) (h : ∀ q v, (op q v).st.mu = v.mu) :
    (effCmd p op s).mu = s.mu := by
  unfold effCmd
  split
  · cases ht : s.takeEntry p with
    | none => rfl
    | some x =>
      have := (takeEntry_frame ht)
      simp [submit_mu _ _ _ _ h, this]
  · rfl

theorem perform_hk (d : Deferred) (op : Pkt → State → Res) (s : State) (h : ∀ q v, (op q v).st.hk = v.hk) :
    (s.perform d op).hk = s.hk := by
  have k1 := @State.complete_frame
  have k2 := @State.setCur_frame
  unfold State.perform
  dsimp only
  split <;> simp [k1, k2, h]

theorem submit_hk (p : Pkt) (e : Nat) (op : Pkt → State → Res) (s : State) (h : ∀ q v, (op q v).st.hk = v.hk) :
    (s.submit p e op).hk = s.hk := by
  have k1 := @State.answer_frame
  have k2 := @State.complete_frame
  have k3 := @State.deliver_frame
  have k4 := @State.mirrorPut_frame
  have k5 := @State.noteAccepted_frame
  have k6 := @State.remember_frame
  have k7 := @State.watchFrom_frame
  have k8 := @State.touch_frame
  unfold State.submit
  (repeat' (first | split | simp [k1, k2, k3, k4, k5, k6, k7, k8, perform_hk _ _ _ h]))

@[simp] theorem effCmd_hk (p : Pkt) (op : Pkt → State → Res) (s : State) (h : ∀ q v, (op q v).st.hk = v.hk) :
    (effCmd p op s).hk = s.hk := by
  unfold effCmd
  split
  · cases ht : s.takeEntry p with
    | none => rfl
    | some x =>
      have := (takeEntry_frame ht)
      simp [submit_hk _ _ _ _ h, this]
  · rfl

theorem perform_log (d : Deferred) (op : Pkt → State → Res) (s : State) (h : ∀ q v, (op q v).st.log = v.log) :
    (s.perform d op).log = s.log := by
  have k1 := @State.complete_frame
  have k2 := @State.setCur_frame
  unfold State.perform
  dsimp only
  split <;> simp [k1, k2, h]

theorem submit_log (p : Pkt) (e : Nat) (op : Pkt → State → Res) (s : State) (h : ∀ q v, (op q v).st.log = v.log) :
    (s.submit p e op).log = s.log := by
  have k1 := @State.answer_frame
  have k2 := @State.complete_frame
  have k3 := @State.deliver_frame
  have k4 := @State.mirrorPut_frame
  have k5 := @State.noteAccepted_frame
  have k6 := @State.remember_frame
  have k7 := @State.watchFrom_frame
  have k8 := @State.touch_frame
  unfold State.submit
  (repeat' (first | split | simp [k1, k2, k3, k4, k5, k6, k7, k8, perform_log _ _ _ h]))

@[simp] theorem effCmd_log (p : Pkt) (op : Pkt → State → Res) (s : State) (h : ∀ q v, (op q v).st.log = v.log) :
    (effCmd p op s).log = s.log := by
  unfold effCmd
  split
  · cases ht : s.takeEntry p with
    | none => rfl
    | some x =>
      have := (takeEntry_frame ht)
      simp [submit_log _ _ _ _ h, this]
  · rfl

theorem perform_mclk (d : Deferred) (op : Pkt → State → Res) (s : State) (h : ∀ q v, (op q v).st.mclk = v.mclk) :
    (s.perform d op).mclk = s.mclk := by
  have k1 := @State.complete_frame
  have k2 := @State.setCur_frame
  unfold State.perform
  dsimp only
  split <;> simp [k1, k2, h]

theorem submit_mclk (p : Pkt) (e : Nat) (op : Pkt → State → Res) (s : State) (h : ∀ q v, (op q v).st.mclk = v.mclk) :
    (s.submit p e op).mclk = s.mclk := by
  have k1 := @State.answer_frame
  have k2 := @State.complete_frame
  have k3 := @State.deliver_frame
  have k4 := @State.mirrorPut_frame
  have k5 := @State.noteAccepted_frame
  have k6 := @State.remember_frame
  have k7 := @State.watchFrom_frame
  have k8 := @State.touch_frame
  unfold State.submit
  (repeat' (first | split | simp [k1, k2, k3, k4, k5, k6, k7, k8, perform_mclk _ _ _ h]))

@[simp] theorem effCmd_mclk (p : Pkt) (op : Pkt → State → Res) (s : State) (h : ∀ q v, (op q v).st.mclk = v.mclk) :
    (effCmd p op s).mclk = s.mclk := by
  unfold effCmd
  split
  · cases ht : s.takeEntry p with
    | none => rfl
    | some x =>
      have := (takeEntry_frame ht)
      simp [submit_mclk _ _ _ _ h, this]
  · rfl

theorem perform_sd (d : Deferred) (op : Pkt → State → Res) (s : State) (h : ∀ q v, (op q v).st.sd = v.sd) :
    (s.perform d op).sd = s.sd := by
  have k1 := @State.complete_frame
  have k2 := @State.setCur_frame
  unfold State.perform
  dsimp only
  split <;> simp [k1, k2, h]

theorem submit_sd (p : Pkt) (e : Nat) (op : Pkt → State → Res) (s : State) (h : ∀ q v, (op q v).st.sd = v.sd) :
    (s.submit p e op).sd = s.sd := by
  have k1 := @State.answer_frame
  have k2 := @State.complete_frame
  have k3 := @State.deliver_frame
  have k4 := @State.mirrorPut_frame
  have k5 := @State.noteAccepted_frame
  have k6 := @State.remember_frame
  have k7 := @State.watchFrom_frame
  have k8 := @State.touch_frame
  unfold State.submit
  (repeat' (first | split | simp [k1, k2, k3, k4, k5, k6, k7, k8, perform_sd _ _ _ h]))

@[simp] theorem effCmd_sd (p : Pkt) (op : Pkt → State → Res) (s : State) (h : ∀ q v, (op q v).st.sd = v.sd) :
    (effCmd p op s).sd = s.sd := by
  unfold effCmd
  split
  · cases ht : s.takeEntry p with
    | none => rfl
    | some x =>
      have := (takeEntry_frame ht)
      simp [submit_sd _ _ _ _ h, this]
  · rfl

theorem perform_aux (d : Deferred) (op : Pkt → State → Res) (s : State) (h : ∀ q v, (op q v).st.aux = v.aux) :
    (s.perform d op).aux = s.aux := by
  have k1 := @State.complete_frame
  have k2 := @State.setCur_frame
  unfold State.perform
  dsimp only
  split <;> simp [k1, k2, h]

theorem submit_aux (p : Pkt) (e : Nat) (op : Pkt → State → Res) (s : State) (h : ∀ q v, (op q v).st.aux = v.aux) :
    (s.submit p e op).aux = s.aux := by
  have k1 := @State.answer_frame
  have k2 := @State.complete_frame
  have k3 := @State.deliver_frame
  have k4 := @State.mirrorPut_frame
  have k5 := @State.noteAccepted_frame
  have k6 := @State.remember_frame
  have k7 := @State.watchFrom_frame
  have k8 := @State.touch_frame
  unfold State.submit
  (repeat' (first | split | simp [k1, k2, k3, k4, k5, k6, k7, k8, perform_aux _ _ _ h]))

@[simp] theorem effCmd_aux (p : Pkt) (op : Pkt → State → Res) (s : State) (h : ∀ q v, (op q v).st.aux = v.aux) :
    (effCmd p op s).aux = s.aux := by
  unfold effCmd
  split
  · cases ht : s.takeEntry p with
    | none => rfl
    | some x =>
      have := (takeEntry_frame ht)
      simp [submit_aux _ _ _ _ h, this]
  · rfl

theorem perform_enc (d : Deferred) (op : Pkt → State → Res) (s : State) (h : ∀ q v, (op q v).st.enc = v.enc) :
    (s.perform d op).enc = s.enc := by
  have k1 := @State.complete_frame
  have k2 := @State.setCur_frame
  unfold State.perform
  dsimp only
  split <;> simp [k1, k2, h]

theorem submit_enc (p : Pkt) (e : Nat) (op : Pkt → State → Res) (s : State) (h : ∀ q v, (op q v).st.enc = v.enc) :
    (s.submit p e op).enc = s.enc := by
  have k1 := @State.answer_frame
  have k2 := @State.complete_frame
  have k3 := @State.deliver_frame
  have k4 := @State.mirrorPut_frame
  have k5 := @State.noteAccepted_frame
  have k6 := @State.remember_frame
  have k7 := @State.watchFrom_frame
  have k8 := @State.touch_frame
  unfold State.submit
  (repeat' (first | split | simp [k1, k2, k3, k4, k5, k6, k7, k8, perform_enc _ _ _ h]))

@[simp] theorem effCmd_enc (p : Pkt) (op : Pkt → State → Res) (s : State) (h : ∀ q v, (op q v).st.enc = v.enc) :
    (effCmd p op s).enc = s.enc := by
  unfold effCmd
  split
  · cases ht : s.takeEntry p with
    | none => rfl
    | some x =>
      have := (takeEntry_frame ht)
      simp [submit_enc _ _ _ _ h, this]
  · rfl

theorem perform_eng (d : Deferred) (op : Pkt → State → Res) (s : State) (h : ∀ q v, (op q v).st.eng = v.eng) :
    (s.perform d op).eng = s.eng := by
  have k1 := @State.complete_frame
  have k2 := @State.setCur_frame
  unfold State.perform
  dsimp only
  split <;> simp [k1, k2, h]

theorem submit_eng (p : Pkt) (e : Nat) (op : Pkt → State → Res) (s : State) (h : ∀ q v, (op q v).st.eng = v.eng) :
    (s.submit p e op).eng = s.eng := by
  have k1 := @State.answer_frame
  have k2 := @State.complete_frame
  have k3 := @State.deliver_frame
  have k4 := @State.mirrorPut_frame
  have k5 := @State.noteAccepted_frame
  have k6 := @State.remember_frame
  have k7 := @State.watchFrom_frame
  have k8 := @State.touch_frame
  unfold State.submit
  (repeat' (first | split | simp [k1, k2, k3, k4, k5, k6, k7, k8, perform_eng _ _ _ h]))

@[simp] theorem effCmd_eng (p : Pkt) (op : Pkt → State → Res) (s : State) (h : ∀ q v, (op q v).st.eng = v.eng) :
    (effCmd p op s).eng = s.eng := by
  unfold effCmd
  split
  · cases ht : s.takeEntry p with
    | none => rfl
    | some x =>
      have := (takeEntry_frame ht)
      simp [submit_eng _ _ _ _ h, this]
  · rfl

theorem perform_slices (d : Deferred) (op : Pkt → State → Res) (s : State) (h : ∀ q v, (op q v).st.slices = v.slices) :
    (s.perform d op).slices = s.slices := by
  have k1 := @State.complete_frame
  have k2 := @State.setCur_frame
  unfold State.perform
  dsimp only
  split <;> simp [k1, k2, h]

theorem submit_slices (p : Pkt) (e : Nat) (op : Pkt → State → Res) (s : State) (h : ∀ q v, (op q v).st.slices = v.slices) :
    (s.submit p e op).slices = s.slices := by
  have k1 := @State.answer_frame
  have k2 := @State.complete_frame
  have k3 := @State.deliver_frame
  have k4 := @State.mirrorPut_frame
  have k5 := @State.noteAccepted_frame
  have k6 := @State.remember_frame
  have k7 := @State.watchFrom_frame
  have k8 := @State.touch_frame
  unfold State.submit
  (repeat' (first | split | simp [k1, k2, k3, k4, k5, k6, k7, k8, perform_slices _ _ _ h]))

@[simp] theorem effCmd_slices (p : Pkt) (op : Pkt → State → Res) (s : State) (h : ∀ q v, (op q v).st.slices = v.slices) :
    (effCmd p op s).slices = s.slices := by
  unfold effCmd
  split
  · cases ht : s.takeEntry p with
    | none => rfl
    | some x =>
      have := (takeEntry_frame ht)
      simp [submit_slices _ _ _ _ h, this]
  · rfl

theorem perform_gl (d : Deferred) (op : Pkt → State → Res) (s : State) (h : ∀ q v, (op q v).st.gl = v.gl) :
    (s.perform d op).gl = s.gl := by
  have k1 := @State.complete_frame
  have k2 := @State.setCur_frame
  unfold State.perform
  dsimp only
  split <;> simp [k1, k2, h]

theorem submit_gl (p : Pkt) (e : Nat) (op : Pkt → State → Res) (s : State) (h : ∀ q v, (op q v).st.gl = v.gl) :
    (s.submit p e op).gl = s.gl := by
  have k1 := @State.answer_frame
  have k2 := @State.complete_frame
  have k3 := @State.deliver_frame
  have k4 := @State.mirrorPut_frame
  have k5 := @State.noteAccepted_frame
  have k6 := @State.remember_frame
  have k7 := @State.watchFrom_frame
  have k8 := @State.touch_frame
  unfold State.submit
  (repeat' (first | split | simp [k1, k2, k3, k4, k5, k6, k7, k8, perform_gl _ _ _ h]))

@[simp] theorem effCmd_gl (p : Pkt) (op : Pkt → State → Res) (s : State) (h : ∀ q v, (op q v).st.gl = v.gl) :
    (effCmd p op s).gl = s.gl := by
  unfold effCmd
  split
  · cases ht : s.takeEntry p with
    | none => rfl
    | some x =>
      have := (takeEntry_frame ht)
      simp [submit_gl _ _ _ _ h, this]
  · rfl

theorem perform_ref (d : Deferred) (op : Pkt → State → Res) (s : State) (h : ∀ q v, (op q v).st.ref = v.ref) :
    (s.perform d op).ref = s.ref := by
  have k1 := @State.complete_frame
  have k2 := @State.setCur_frame
  unfold State.perform
  dsimp only
  split <;> simp [k1, k2, h]

theorem submit_ref (p : Pkt) (e : Nat) (op : Pkt → State → Res) (s : State) (h : ∀ q v, (op q v).st.ref = v.ref) :
    (s.submit p e op).ref = s.ref := by
  have k1 := @State.answer_frame
  have k2 := @State.complete_frame
  have k3 := @State.deliver_frame
  have k4 := @State.mirrorPut_frame
  have k5 := @State.noteAccepted_frame
  have k6 := @State.remember_frame
  have k7 := @State.watchFrom_frame
  have k8 := @State.touch_frame
  unfold State.submit
  (repeat' (first | split | simp [k1, k2, k3, k4, k5, k6, k7, k8, perform_ref _ _ _ h]))

@[simp] theorem effCmd_ref (p : Pkt) (op : Pkt → State → Res) (s : State) (h : ∀ q v, (op q v).st.ref = v.ref) :
    (effCmd p op s).ref = s.ref := by
  unfold effCmd
  split
  · cases ht : s.takeEntry p with
    | none => rfl
    | some x =>
      have := (takeEntry_frame ht)
      simp [submit_ref _ _ _ _ h, this]
  · rfl

theorem perform_cp (d : Deferred) (op : Pkt → State → Res) (s : State) (h : ∀ q v, (op q v).st.cp = v.cp) :
    (s.perform d op).cp = s.cp := by
  have k1 := @State.complete_frame
  have k2 := @State.setCur_frame
  unfold State.perform
  dsimp only
  split <;> simp [k1, k2, h]

theorem submit_cp (p : Pkt) (e : Nat) (op : Pkt → State → Res) (s : State) (h : ∀ q v, (op q v).st.cp = v.cp) :
    (s.submit p e op).cp = s.cp := by
  have k1 := @State.answer_frame
  have k2 := @State.complete_frame
  have k3 := @State.deliver_frame
  have k4 := @State.mirrorPut_frame
  have k5 := @State.noteAccepted_frame
  have k6 := @State.remember_frame
  have k7 := @State.watchFrom_frame
  have k8 := @State.touch_frame
  unfold State.submit
  (repeat' (first | split | simp [k1, k2, k3, k4, k5, k6, k7, k8, perform_cp _ _ _ h]))

@[simp] theorem effCmd_cp (p : Pkt) (op : Pkt → State → Res) (s : State) (h : ∀ q v, (op q v).st.cp = v.cp) :
    (effCmd p op s).cp = s.cp := by
  unfold effCmd
  split
  · cases ht : s.takeEntry p with
    | none => rfl
    | some x =>
      have := (takeEntry_frame ht)
      simp [submit_cp _ _ _ _ h, this]
  · rfl

theorem perform_canPub (d : Deferred) (op : Pkt → State → Res) (s : State) (h : ∀ q v, (op q v).st.canPub = v.canPub) :
    (s.perform d op).canPub = s.canPub := by
  have k1 := @State.complete_frame
  have k2 := @State.setCur_frame
  unfold State.perform
  dsimp only
  split <;> simp [k1, k2, h]

theorem submit_canPub (p : Pkt) (e : Nat) (op : Pkt → State → Res) (s : State) (h : ∀ q v, (op q v).st.canPub = v.canPub) :
    (s.submit p e op).canPub = s.canPub := by
  have k1 := @State.answer_frame
  have k2 := @State.complete_frame
  have k3 := @State.deliver_frame
  have k4 := @State.mirrorPut_frame
  have k5 := @State.noteAccepted_frame
  have k6 := @State.remember_frame
  have k7 := @State.watchFrom_frame
  have k8 := @State.touch_frame
  unfold State.submit
  (repeat' (first | split | simp [k1, k2, k3, k4, k5, k6, k7, k8, perform_canPub _ _ _ h]))

@[simp] theorem effCmd_canPub (p : Pkt) (op : Pkt → State → Res) (s : State) (h : ∀ q v, (op q v).st.canPub = v.canPub) :
    (effCmd p op s).canPub = s.canPub := by
  unfold effCmd
  split
  · cases ht : s.takeEntry p with
    | none => rfl
    | some x =>
      have := (takeEntry_frame ht)
      simp [submit_canPub _ _ _ _ h, this]
  · rfl

theorem perform_tio (d : Deferred) (op : Pkt → State → Res) (s : State) (h : ∀ q v, (op q v).st.tio = v.tio) :
    (s.perform d op).tio = s.tio := by
  have k1 := @State.complete_frame
  have k2 := @State.setCur_frame
  unfold State.perform
  dsimp only
  split <;> simp [k1, k2, h]

theorem submit_tio (p : Pkt) (e : Nat) (op : Pkt → State → Res) (s : State) (h : ∀ q v, (op q v).st.tio = v.tio) :
    (s.submit p e op).tio = s.tio := by
  have k1 := @State.answer_frame
  have k2 := @State.complete_frame
  have k3 := @State.deliver_frame
  have k4 := @State.mirrorPut_frame
  have k5 := @State.noteAccepted_frame
  have k6 := @State.remember_frame
  have k7 := @State.watchFrom_frame
  have k8 := @State.touch_frame
  unfold State.submit
  (repeat' (first | split | simp [k1, k2, k3, k4, k5, k6, k7, k8, perform_tio _ _ _ h]))

@[simp] theorem effCmd_tio (p : Pkt) (op : Pkt → State → Res) (s : State) (h : ∀ q v, (op q v).st.tio = v.tio) :
    (effCmd p op s).tio = s.tio := by
  unfold effCmd
  split
  · cases ht : s.takeEntry p with
    | none => rfl
    | some x =>
      have := (takeEntry_frame ht)
      simp [submit_tio _ _ _ _ h, this]
  · rfl

end Sys2Proof.Machine
end

