-- ==== Sys2Proof/Laws/Reset.lean ====
section
/-!
SUPPORT. What a reset of the main domains leaves (R47, R49): what is gone, and what the standby domain keeps.
-/

namespace Sys2Proof.Machine

variable (s : State) (c : ResetCause)

@[simp] theorem State.mainReset_pending : s.mainReset.pending = s.pending := (rfl)
@[simp] theorem State.mainReset_tick : s.mainReset.tick = s.tick := (rfl)
@[simp] theorem State.mainReset_free : s.mainReset.free = s.free := (rfl)
@[simp] theorem State.mainReset_log : s.mainReset.log = s.log := (rfl)
@[simp] theorem State.mainReset_seqs : s.mainReset.seqs = s.seqs := (rfl)
@[simp] theorem State.mainReset_mclk : s.mainReset.mclk = { inRun := s.mclk.inRun, edge0 := s.mclk.edge0 } := (rfl)
@[simp] theorem State.mainReset_sd : s.mainReset.sd = [] := (rfl)
@[simp] theorem State.mainReset_aux : s.mainReset.aux = [] := (rfl)
@[simp] theorem State.mainReset_enc : s.mainReset.enc = s.enc.map (fun e => (e.1, e.2.pins)) := (rfl)
@[simp] theorem State.mainReset_eng : s.mainReset.eng = {} := (rfl)
@[simp] theorem State.mainReset_slices : s.mainReset.slices = [] := (rfl)
@[simp] theorem State.mainReset_gl : s.mainReset.gl = [] := (rfl)
@[simp] theorem State.mainReset_cp : s.mainReset.cp = {} := (rfl)
@[simp] theorem State.mainReset_flk : s.mainReset.flk = {} := (rfl)
@[simp] theorem State.mainReset_ring : s.mainReset.ring = {} := (rfl)
@[simp] theorem State.mainReset_can : s.mainReset.can = [] := (rfl)
@[simp] theorem State.mainReset_canPub : s.mainReset.canPub = [] := (rfl)
@[simp] theorem State.mainReset_eth : s.mainReset.eth = [] := (rfl)
@[simp] theorem State.mainReset_tio : s.mainReset.tio = [] := (rfl)
@[simp] theorem State.mainReset_mu_bypass : s.mainReset.mu.bypass = true := (rfl)
@[simp] theorem State.mainReset_mu_resetDue : s.mainReset.mu.resetDue = none := (rfl)
@[simp] theorem State.mainReset_mu_activate : s.mainReset.mu.activate = none := (rfl)
@[simp] theorem State.mainReset_mu_transfer : s.mainReset.mu.transfer = none := (rfl)
@[simp] theorem State.mainReset_mu_cfgApplied : s.mainReset.mu.cfgApplied = false := (rfl)
@[simp] theorem State.mainReset_mu_bound : s.mainReset.mu.bound = none := (rfl)
@[simp] theorem State.mainReset_mu_cfgLoaded : s.mainReset.mu.cfgLoaded = none := (rfl)
@[simp] theorem State.mainReset_time_running : s.mainReset.time.running = false := (rfl)
@[simp] theorem State.mainReset_time_inc : s.mainReset.time.inc = 0xA00000000 := (rfl)
@[simp] theorem State.mainReset_time_frac : s.mainReset.time.frac = 0 := (rfl)
@[simp] theorem State.mainReset_time_ctr : s.mainReset.time.ctr = s.time.ctr := (rfl)
@[simp] theorem State.mainReset_host_sessions : s.mainReset.host.sessions = [] := (rfl)
@[simp] theorem State.mainReset_host_pairs : s.mainReset.host.pairs = [] := (rfl)
@[simp] theorem State.mainReset_host_subs : s.mainReset.host.subs = [] := (rfl)
@[simp] theorem State.mainReset_host_deferred : s.mainReset.host.deferred = [] := (rfl)
@[simp] theorem State.mainReset_host_nonces : s.mainReset.host.nonces = s.host.nonces := (rfl)
@[simp] theorem State.mainReset_dict_vals : s.mainReset.dict.vals = [] := (rfl)
@[simp] theorem State.mainReset_dict_nor : s.mainReset.dict.nor = s.dict.nor := (rfl)
@[simp] theorem State.mainReset_dict_safe : s.mainReset.dict.safe = s.dict.safe := (rfl)
@[simp] theorem State.mainReset_ref_runs : s.mainReset.ref.runs = false := (rfl)
@[simp] theorem State.mainReset_ref_stoA : s.mainReset.ref.stoA = s.ref.stoA := (rfl)
@[simp] theorem State.mainReset_ref_stoB : s.mainReset.ref.stoB = s.ref.stoB := (rfl)
@[simp] theorem State.mainReset_ref_pw : s.mainReset.ref.pw = s.ref.pw := (rfl)
@[simp] theorem State.mainReset_ref_changeLog : s.mainReset.ref.changeLog = s.ref.changeLog := (rfl)
@[simp] theorem State.mainReset_ref_holdLo : s.mainReset.ref.holdLo = false := (rfl)
@[simp] theorem State.mainReset_ref_holdHi : s.mainReset.ref.holdHi = false := (rfl)
@[simp] theorem State.mainReset_dia_spares : s.mainReset.dia.spares = s.dia.spares := (rfl)
@[simp] theorem State.mainReset_dia_repairs : s.mainReset.dia.repairs = s.dia.repairs := (rfl)
@[simp] theorem State.mainReset_dia_fence : s.mainReset.dia.fence = 0 := (rfl)
@[simp] theorem State.mainReset_mu_phase : s.mainReset.mu.phase = s.mu.phase := (rfl)
@[simp] theorem State.mainReset_mu_vstby : s.mainReset.mu.vstby = s.mu.vstby := (rfl)
@[simp] theorem State.mainReset_mu_vstbyAt : s.mainReset.mu.vstbyAt = s.mu.vstbyAt := (rfl)
@[simp] theorem State.mainReset_mu_booted : s.mainReset.mu.booted = s.mu.booted := (rfl)
@[simp] theorem State.mainReset_mu_cold : s.mainReset.mu.cold = s.mu.cold := (rfl)
@[simp] theorem State.mainReset_mu_rails : s.mainReset.mu.rails = s.mu.rails := (rfl)
@[simp] theorem State.mainReset_mu_earlyRails : s.mainReset.mu.earlyRails = s.mu.earlyRails := (rfl)
@[simp] theorem State.mainReset_mu_railsAt : s.mainReset.mu.railsAt = s.mu.railsAt := (rfl)
@[simp] theorem State.mainReset_mu_supplyFault : s.mainReset.mu.supplyFault = s.mu.supplyFault := (rfl)
@[simp] theorem State.mainReset_mu_resetN : s.mainReset.mu.resetN = s.mu.resetN := (rfl)
@[simp] theorem State.mainReset_mu_refOk : s.mainReset.mu.refOk = s.mu.refOk := (rfl)
@[simp] theorem State.mainReset_mu_extClock : s.mainReset.mu.extClock = s.mu.extClock := (rfl)
@[simp] theorem State.mainReset_mu_clkFreq : s.mainReset.mu.clkFreq = s.mu.clkFreq := (rfl)
@[simp] theorem State.mainReset_mu_clkBad : s.mainReset.mu.clkBad = s.mu.clkBad := (rfl)
@[simp] theorem State.mainReset_mu_clkHoldAt : s.mainReset.mu.clkHoldAt = s.mu.clkHoldAt := (rfl)
@[simp] theorem State.mainReset_mu_clkGoodAt : s.mainReset.mu.clkGoodAt = s.mu.clkGoodAt := (rfl)
@[simp] theorem State.mainReset_mu_pwrcyc : s.mainReset.mu.pwrcyc = s.mu.pwrcyc := (rfl)
@[simp] theorem State.mainReset_mu_norPwr : s.mainReset.mu.norPwr = s.mu.norPwr := (rfl)
@[simp] theorem State.mainReset_mu_pwrcycDue : s.mainReset.mu.pwrcycDue = s.mu.pwrcycDue := (rfl)
@[simp] theorem State.mainReset_mu_pwrDecisions : s.mainReset.mu.pwrDecisions = s.mu.pwrDecisions := (rfl)
@[simp] theorem State.mainReset_mu_pwrStop : s.mainReset.mu.pwrStop = s.mu.pwrStop := (rfl)
@[simp] theorem State.mainReset_mu_failedStarts : s.mainReset.mu.failedStarts = s.mu.failedStarts := (rfl)
@[simp] theorem State.mainReset_mu_failSeen : s.mainReset.mu.failSeen = s.mu.failSeen := (rfl)
@[simp] theorem State.mainReset_mu_startCause : s.mainReset.mu.startCause = s.mu.startCause := (rfl)
@[simp] theorem State.mainReset_mu_prevEsc : s.mainReset.mu.prevEsc = s.mu.prevEsc := (rfl)
@[simp] theorem State.mainReset_mu_reached : s.mainReset.mu.reached = s.mu.reached := (rfl)
@[simp] theorem State.mainReset_mu_t0 : s.mainReset.mu.t0 = s.mu.t0 := (rfl)
@[simp] theorem State.mainReset_mu_t0At : s.mainReset.mu.t0At = s.mu.t0At := (rfl)
@[simp] theorem State.mainReset_mu_readyAt : s.mainReset.mu.readyAt = s.mu.readyAt := (rfl)
@[simp] theorem State.mainReset_mu_restarting : s.mainReset.mu.restarting = s.mu.restarting := (rfl)
@[simp] theorem State.mainReset_mu_boot : s.mainReset.mu.boot = s.mu.boot := (rfl)
@[simp] theorem State.mainReset_mu_slotA : s.mainReset.mu.slotA = s.mu.slotA := (rfl)
@[simp] theorem State.mainReset_mu_slotB : s.mainReset.mu.slotB = s.mu.slotB := (rfl)
@[simp] theorem State.mainReset_mu_bootKept : s.mainReset.mu.bootKept = s.mu.bootKept := (rfl)
@[simp] theorem State.mainReset_mu_lcWords : s.mainReset.mu.lcWords = s.mu.lcWords := (rfl)
@[simp] theorem State.mainReset_mu_lcWrite : s.mainReset.mu.lcWrite = s.mu.lcWrite := (rfl)
@[simp] theorem State.mainReset_mu_lc : s.mainReset.mu.lc = s.mu.lc := (rfl)
@[simp] theorem State.mainReset_mu_otpRollback : s.mainReset.mu.otpRollback = s.mu.otpRollback := (rfl)
@[simp] theorem State.mainReset_mu_anchors : s.mainReset.mu.anchors = s.mu.anchors := (rfl)
@[simp] theorem State.mainReset_mu_anchorUse : s.mainReset.mu.anchorUse = s.mu.anchorUse := (rfl)
@[simp] theorem State.mainReset_mu_active : s.mainReset.mu.active = s.mu.active := (rfl)
@[simp] theorem State.mainReset_mu_binding : s.mainReset.mu.binding = s.mu.binding := (rfl)
@[simp] theorem State.mainReset_mu_cfgA : s.mainReset.mu.cfgA = s.mu.cfgA := (rfl)
@[simp] theorem State.mainReset_mu_cfgB : s.mainReset.mu.cfgB = s.mu.cfgB := (rfl)
@[simp] theorem State.mainReset_mu_cfgRecorded : s.mainReset.mu.cfgRecorded = s.mu.cfgRecorded := (rfl)
@[simp] theorem State.mainReset_mu_norKnown : s.mainReset.mu.norKnown = s.mu.norKnown := (rfl)
@[simp] theorem State.mainReset_mu_norBad : s.mainReset.mu.norBad = s.mu.norBad := (rfl)
@[simp] theorem State.mainReset_mu_ownGens : s.mainReset.mu.ownGens = s.mu.ownGens := (rfl)
@[simp] theorem State.mainReset_mu_cause : s.mainReset.mu.cause = s.mu.cause := (rfl)

/-- A reset that interrupts the programming of a life-cycle word changes the MU's record of that word only (R55). -/
theorem State.lcAbort_mu :
    s.lcAbort.mu = { s.mu with lcWrite := s.lcAbort.mu.lcWrite, lcWords := s.lcAbort.mu.lcWords } := by
  unfold State.lcAbort
  split
  · split
    · simp
    · rfl
  · rfl

/-! A device reset with a cause -/

@[simp] theorem State.devReset_mclk : (s.devReset c).mclk = { inRun := s.mclk.inRun, edge0 := s.mclk.edge0 } := by
  simp [State.devReset, State.domainReset, State.lcAbort_frame]
@[simp] theorem State.devReset_sd : (s.devReset c).sd = [] := (rfl)
@[simp] theorem State.devReset_aux : (s.devReset c).aux = [] := (rfl)
@[simp] theorem State.devReset_enc : (s.devReset c).enc = s.enc.map (fun e => (e.1, e.2.pins)) := by
  simp [State.devReset, State.domainReset, State.lcAbort_frame]
@[simp] theorem State.devReset_eng : (s.devReset c).eng = {} := (rfl)
@[simp] theorem State.devReset_slices : (s.devReset c).slices = [] := (rfl)
@[simp] theorem State.devReset_gl : (s.devReset c).gl = [] := (rfl)
@[simp] theorem State.devReset_cp : (s.devReset c).cp = {} := (rfl)
@[simp] theorem State.devReset_flk : (s.devReset c).flk = {} := (rfl)
@[simp] theorem State.devReset_ring : (s.devReset c).ring = {} := (rfl)
@[simp] theorem State.devReset_can : (s.devReset c).can = [] := (rfl)
@[simp] theorem State.devReset_canPub : (s.devReset c).canPub = [] := (rfl)
@[simp] theorem State.devReset_eth : (s.devReset c).eth = [] := (rfl)
@[simp] theorem State.devReset_tio : (s.devReset c).tio = [] := (rfl)
@[simp] theorem State.devReset_pending : (s.devReset c).pending = s.pending := by
  simp [State.devReset, State.domainReset, State.lcAbort_frame]
@[simp] theorem State.devReset_tick : (s.devReset c).tick = s.tick := by
  simp [State.devReset, State.domainReset, State.lcAbort_frame]
@[simp] theorem State.devReset_log : (s.devReset c).log = s.log := by
  simp [State.devReset, State.domainReset, State.lcAbort_frame]
@[simp] theorem State.devReset_seqs : (s.devReset c).seqs = s.seqs := by
  simp [State.devReset, State.domainReset, State.lcAbort_frame]
@[simp] theorem State.devReset_mu_bypass : (s.devReset c).mu.bypass = true := (rfl)
@[simp] theorem State.devReset_mu_resetDue : (s.devReset c).mu.resetDue = none := (rfl)
@[simp] theorem State.devReset_mu_activate : (s.devReset c).mu.activate = none := (rfl)
@[simp] theorem State.devReset_mu_transfer : (s.devReset c).mu.transfer = none := (rfl)
@[simp] theorem State.devReset_mu_cfgApplied : (s.devReset c).mu.cfgApplied = false := (rfl)
@[simp] theorem State.devReset_mu_bound : (s.devReset c).mu.bound = none := (rfl)
@[simp] theorem State.devReset_mu_cfgLoaded : (s.devReset c).mu.cfgLoaded = none := (rfl)
@[simp] theorem State.devReset_time_running : (s.devReset c).time.running = false := (rfl)
@[simp] theorem State.devReset_time_inc : (s.devReset c).time.inc = 0xA00000000 := (rfl)
@[simp] theorem State.devReset_time_frac : (s.devReset c).time.frac = 0 := (rfl)
@[simp] theorem State.devReset_time_ctr : (s.devReset c).time.ctr = s.time.ctr := by
  simp [State.devReset, State.domainReset, State.lcAbort_frame]
@[simp] theorem State.devReset_host_sessions : (s.devReset c).host.sessions = [] := (rfl)
@[simp] theorem State.devReset_host_pairs : (s.devReset c).host.pairs = [] := (rfl)
@[simp] theorem State.devReset_host_subs : (s.devReset c).host.subs = [] := (rfl)
@[simp] theorem State.devReset_host_deferred : (s.devReset c).host.deferred = [] := (rfl)
@[simp] theorem State.devReset_host_nonces : (s.devReset c).host.nonces = s.host.nonces := by
  simp [State.devReset, State.domainReset, State.lcAbort_frame]
@[simp] theorem State.devReset_dict_vals : (s.devReset c).dict.vals = [] := (rfl)
@[simp] theorem State.devReset_dict_nor : (s.devReset c).dict.nor = s.dict.nor := by
  simp [State.devReset, State.domainReset, State.lcAbort_frame]
@[simp] theorem State.devReset_dict_safe : (s.devReset c).dict.safe = s.dict.safe := by
  simp [State.devReset, State.domainReset, State.lcAbort_frame]
@[simp] theorem State.devReset_ref_runs : (s.devReset c).ref.runs = false := (rfl)
@[simp] theorem State.devReset_ref_stoA : (s.devReset c).ref.stoA = s.ref.stoA := by
  simp [State.devReset, State.domainReset, State.lcAbort_frame]
@[simp] theorem State.devReset_ref_stoB : (s.devReset c).ref.stoB = s.ref.stoB := by
  simp [State.devReset, State.domainReset, State.lcAbort_frame]
@[simp] theorem State.devReset_ref_pw : (s.devReset c).ref.pw = s.ref.pw := by
  simp [State.devReset, State.domainReset, State.lcAbort_frame]
@[simp] theorem State.devReset_ref_changeLog : (s.devReset c).ref.changeLog = s.ref.changeLog := by
  simp [State.devReset, State.domainReset, State.lcAbort_frame]
@[simp] theorem State.devReset_ref_holdLo : (s.devReset c).ref.holdLo = false := (rfl)
@[simp] theorem State.devReset_ref_holdHi : (s.devReset c).ref.holdHi = false := (rfl)
@[simp] theorem State.devReset_dia_spares : (s.devReset c).dia.spares = s.dia.spares := by
  simp [State.devReset, State.domainReset, State.lcAbort_frame]
@[simp] theorem State.devReset_dia_repairs : (s.devReset c).dia.repairs = s.dia.repairs := by
  simp [State.devReset, State.domainReset, State.lcAbort_frame]
@[simp] theorem State.devReset_dia_fence : (s.devReset c).dia.fence = 0 := (rfl)
@[simp] theorem State.devReset_mu_causeAt : (s.devReset c).mu.causeAt = s.tick := (rfl)
@[simp] theorem State.devReset_mu_vstby : (s.devReset c).mu.vstby = s.mu.vstby := by
  change s.lcAbort.mu.vstby = _
  rw [State.lcAbort_mu]
@[simp] theorem State.devReset_mu_vstbyAt : (s.devReset c).mu.vstbyAt = s.mu.vstbyAt := by
  change s.lcAbort.mu.vstbyAt = _
  rw [State.lcAbort_mu]
@[simp] theorem State.devReset_mu_booted : (s.devReset c).mu.booted = s.mu.booted := by
  change s.lcAbort.mu.booted = _
  rw [State.lcAbort_mu]
@[simp] theorem State.devReset_mu_cold : (s.devReset c).mu.cold = s.mu.cold := by
  change s.lcAbort.mu.cold = _
  rw [State.lcAbort_mu]
@[simp] theorem State.devReset_mu_rails : (s.devReset c).mu.rails = s.mu.rails := by
  change s.lcAbort.mu.rails = _
  rw [State.lcAbort_mu]
@[simp] theorem State.devReset_mu_earlyRails : (s.devReset c).mu.earlyRails = s.mu.earlyRails := by
  change s.lcAbort.mu.earlyRails = _
  rw [State.lcAbort_mu]
@[simp] theorem State.devReset_mu_railsAt : (s.devReset c).mu.railsAt = s.mu.railsAt := by
  change s.lcAbort.mu.railsAt = _
  rw [State.lcAbort_mu]
@[simp] theorem State.devReset_mu_supplyFault : (s.devReset c).mu.supplyFault = s.mu.supplyFault := by
  change s.lcAbort.mu.supplyFault = _
  rw [State.lcAbort_mu]
@[simp] theorem State.devReset_mu_resetN : (s.devReset c).mu.resetN = s.mu.resetN := by
  change s.lcAbort.mu.resetN = _
  rw [State.lcAbort_mu]
@[simp] theorem State.devReset_mu_refOk : (s.devReset c).mu.refOk = s.mu.refOk := by
  change s.lcAbort.mu.refOk = _
  rw [State.lcAbort_mu]
@[simp] theorem State.devReset_mu_extClock : (s.devReset c).mu.extClock = s.mu.extClock := by
  change s.lcAbort.mu.extClock = _
  rw [State.lcAbort_mu]
@[simp] theorem State.devReset_mu_clkFreq : (s.devReset c).mu.clkFreq = s.mu.clkFreq := by
  change s.lcAbort.mu.clkFreq = _
  rw [State.lcAbort_mu]
@[simp] theorem State.devReset_mu_clkBad : (s.devReset c).mu.clkBad = s.mu.clkBad := by
  change s.lcAbort.mu.clkBad = _
  rw [State.lcAbort_mu]
@[simp] theorem State.devReset_mu_clkHoldAt : (s.devReset c).mu.clkHoldAt = s.mu.clkHoldAt := by
  change s.lcAbort.mu.clkHoldAt = _
  rw [State.lcAbort_mu]
@[simp] theorem State.devReset_mu_clkGoodAt : (s.devReset c).mu.clkGoodAt = s.mu.clkGoodAt := by
  change s.lcAbort.mu.clkGoodAt = _
  rw [State.lcAbort_mu]
@[simp] theorem State.devReset_mu_pwrcyc : (s.devReset c).mu.pwrcyc = s.mu.pwrcyc := by
  change s.lcAbort.mu.pwrcyc = _
  rw [State.lcAbort_mu]
@[simp] theorem State.devReset_mu_norPwr : (s.devReset c).mu.norPwr = s.mu.norPwr := by
  change s.lcAbort.mu.norPwr = _
  rw [State.lcAbort_mu]
@[simp] theorem State.devReset_mu_pwrcycDue : (s.devReset c).mu.pwrcycDue = s.mu.pwrcycDue := by
  change s.lcAbort.mu.pwrcycDue = _
  rw [State.lcAbort_mu]
@[simp] theorem State.devReset_mu_pwrDecisions : (s.devReset c).mu.pwrDecisions = s.mu.pwrDecisions := by
  change s.lcAbort.mu.pwrDecisions = _
  rw [State.lcAbort_mu]
@[simp] theorem State.devReset_mu_pwrStop : (s.devReset c).mu.pwrStop = s.mu.pwrStop := by
  change s.lcAbort.mu.pwrStop = _
  rw [State.lcAbort_mu]
@[simp] theorem State.devReset_mu_failedStarts : (s.devReset c).mu.failedStarts = s.mu.failedStarts := by
  change s.lcAbort.mu.failedStarts = _
  rw [State.lcAbort_mu]
@[simp] theorem State.devReset_mu_failSeen : (s.devReset c).mu.failSeen = s.mu.failSeen := by
  change s.lcAbort.mu.failSeen = _
  rw [State.lcAbort_mu]
@[simp] theorem State.devReset_mu_startCause : (s.devReset c).mu.startCause = s.mu.startCause := by
  change s.lcAbort.mu.startCause = _
  rw [State.lcAbort_mu]
@[simp] theorem State.devReset_mu_prevEsc : (s.devReset c).mu.prevEsc = s.mu.prevEsc := by
  change s.lcAbort.mu.prevEsc = _
  rw [State.lcAbort_mu]
@[simp] theorem State.devReset_mu_reached : (s.devReset c).mu.reached = s.mu.reached := by
  change s.lcAbort.mu.reached = _
  rw [State.lcAbort_mu]
@[simp] theorem State.devReset_mu_t0 : (s.devReset c).mu.t0 = s.mu.t0 := by
  change s.lcAbort.mu.t0 = _
  rw [State.lcAbort_mu]
@[simp] theorem State.devReset_mu_t0At : (s.devReset c).mu.t0At = s.mu.t0At := by
  change s.lcAbort.mu.t0At = _
  rw [State.lcAbort_mu]
@[simp] theorem State.devReset_mu_readyAt : (s.devReset c).mu.readyAt = s.mu.readyAt := by
  change s.lcAbort.mu.readyAt = _
  rw [State.lcAbort_mu]
@[simp] theorem State.devReset_mu_restarting : (s.devReset c).mu.restarting = s.mu.restarting := by
  change s.lcAbort.mu.restarting = _
  rw [State.lcAbort_mu]
@[simp] theorem State.devReset_mu_boot : (s.devReset c).mu.boot = s.mu.boot := by
  change s.lcAbort.mu.boot = _
  rw [State.lcAbort_mu]
@[simp] theorem State.devReset_mu_slotA : (s.devReset c).mu.slotA = s.mu.slotA := by
  change s.lcAbort.mu.slotA = _
  rw [State.lcAbort_mu]
@[simp] theorem State.devReset_mu_slotB : (s.devReset c).mu.slotB = s.mu.slotB := by
  change s.lcAbort.mu.slotB = _
  rw [State.lcAbort_mu]
@[simp] theorem State.devReset_mu_bootKept : (s.devReset c).mu.bootKept = s.mu.bootKept := by
  change s.lcAbort.mu.bootKept = _
  rw [State.lcAbort_mu]
@[simp] theorem State.devReset_mu_lc : (s.devReset c).mu.lc = s.mu.lc := by
  change s.lcAbort.mu.lc = _
  rw [State.lcAbort_mu]
@[simp] theorem State.devReset_mu_otpRollback : (s.devReset c).mu.otpRollback = s.mu.otpRollback := by
  change s.lcAbort.mu.otpRollback = _
  rw [State.lcAbort_mu]
@[simp] theorem State.devReset_mu_anchors : (s.devReset c).mu.anchors = s.mu.anchors := by
  change s.lcAbort.mu.anchors = _
  rw [State.lcAbort_mu]
@[simp] theorem State.devReset_mu_anchorUse : (s.devReset c).mu.anchorUse = s.mu.anchorUse := by
  change s.lcAbort.mu.anchorUse = _
  rw [State.lcAbort_mu]
@[simp] theorem State.devReset_mu_active : (s.devReset c).mu.active = s.mu.active := by
  change s.lcAbort.mu.active = _
  rw [State.lcAbort_mu]
@[simp] theorem State.devReset_mu_binding : (s.devReset c).mu.binding = s.mu.binding := by
  change s.lcAbort.mu.binding = _
  rw [State.lcAbort_mu]
@[simp] theorem State.devReset_mu_cfgA : (s.devReset c).mu.cfgA = s.mu.cfgA := by
  change s.lcAbort.mu.cfgA = _
  rw [State.lcAbort_mu]
@[simp] theorem State.devReset_mu_cfgB : (s.devReset c).mu.cfgB = s.mu.cfgB := by
  change s.lcAbort.mu.cfgB = _
  rw [State.lcAbort_mu]
@[simp] theorem State.devReset_mu_cfgRecorded : (s.devReset c).mu.cfgRecorded = s.mu.cfgRecorded := by
  change s.lcAbort.mu.cfgRecorded = _
  rw [State.lcAbort_mu]
@[simp] theorem State.devReset_mu_norKnown : (s.devReset c).mu.norKnown = s.mu.norKnown := by
  change s.lcAbort.mu.norKnown = _
  rw [State.lcAbort_mu]
@[simp] theorem State.devReset_mu_norBad : (s.devReset c).mu.norBad = s.mu.norBad := by
  change s.lcAbort.mu.norBad = _
  rw [State.lcAbort_mu]
@[simp] theorem State.devReset_mu_ownGens : (s.devReset c).mu.ownGens = s.mu.ownGens := by
  change s.lcAbort.mu.ownGens = _
  rw [State.lcAbort_mu]
@[simp] theorem State.devReset_mu_cause : (s.devReset c).mu.cause = higherCause s.mu.cause c := (rfl)

/-- The device waits in reset for its next t0 (R387). -/
@[simp] theorem State.devReset_phase : (s.devReset c).mu.phase = .held := (rfl)

theorem State.setPhase_mu (p : Phase) : (s.setPhase p).mu = { s.mu with phase := p } := by
  have k := @State.devEvent_frame
  unfold State.setPhase
  dsimp only
  split <;> simp [k]

end Sys2Proof.Machine
end

