-- ==== Sys2Proof/WellFormed.lean ====
section
/-!
DEFINITION. Which commands a link, a pin or a unit of this hardware can present: every field in the range that its packet,
frame, record or register gives it. `exec` has a meaning for every command, well-formed or not.
-/

namespace Sys2Proof.Machine

/-- A STAMP64 (R61). -/
def stampOk (t : Nat) : Bool := decide (t < 2 ^ 64)

/-- A node ID on the ring (R395). -/
def nodeOk (n : Nat) : Bool := decide (n ≤ 16383)

/-- A link that exists (R94, R115, R118, R120). -/
def Link.wf : Link → Bool
  | .pcie n => decide (n < 16)
  | .spi k => decide (k < 4)
  | .eth p => decide (p < 2)
  | .can c => decide (c < 4)
  | .mailbox => true
  | .ring n => nodeOk n

/-- A packet of at most 4,080 payload bytes (Table 5.1) on a link that exists. -/
def Pkt.wf (p : Pkt) : Bool := p.link.wf && decide (p.payload.length ≤ 4080)

/-- An object record: an index and as many data bytes as its length says (R127). -/
def ObjRec.wf (r : ObjRec) : Bool := decide (r.idx ≤ 0x1FFFF) && decide (r.len ≤ 16) && decide (r.data < 2 ^ (8 * r.len))

/-- A frame that the controllers can put on a bus or take from it (R348). -/
def CanFrame.wf (f : CanFrame) : Bool :=
  decide (f.id ≤ if f.ide then 0x1FFFFFFF else 0x7FF) && !(f.rtr && f.fdf) && (!f.brs || f.fdf)
    && decide (f.dlc ≤ if f.fdf then 15 else 8)
    && decide (f.data.length = if f.rtr then 0 else [0, 1, 2, 3, 4, 5, 6, 7, 8, 12, 16, 20, 24, 32, 48, 64].getD f.dlc 0)

end Sys2Proof.Machine

namespace Sys2Proof

open Sys2Proof.Machine

/-- Manifest fields of a bank (Table 15.12a). -/
def BankRead.wf (r : BankRead) : Bool :=
  decide (r.check ≤ 2) && decide (r.version < 2 ^ 32) && decide (r.rollback ≤ 64) && decide (r.gens < 2 ^ 24)

/-- A configuration image (Table 15.11): its generation, its schema, its records in ascending index. -/
def CfgImage.wf (i : CfgImage) : Bool :=
  decide (1 ≤ i.gen) && decide (i.gen ≤ 0xFFFFFFFE) && decide (i.schema < 256) && i.recs.all ObjRec.wf
    && decide ((i.recs.map ObjRec.idx).Pairwise (· < ·))

/-- A binding record (Table 15.7). -/
def Binding.wf (b : Binding) : Bool :=
  decide (1 ≤ b.check) && decide (b.check ≤ 5) && decide (b.systemId < 2 ^ 128) && decide (b.node < 2 ^ 16) && decide (b.partner < 2 ^ 16)

/-- The results of the nine blocks of Table 3.3, and units that DIA_FENCE has a bit for. -/
def BistResult.wf (r : BistResult) : Bool := decide (r.blocks.length = 9) && decide (r.fences < 2 ^ 128)

def IngotResult.wf (r : IngotResult) : Bool :=
  decide (r.failing ≤ 7) && decide (r.version < 2 ^ 32) && decide (r.rollback ≤ 64) && decide (r.gens < 2 ^ 24) && r.image.all CfgImage.wf

/-- A datagram's header fields (Table 5.15) and its packet. -/
def Datagram.wf (d : Datagram) : Bool :=
  decide (d.version < 256) && decide (d.session < 256) && decide (d.counter < 2 ^ 64) && d.pkt.wf

/-- A heartbeat's fields (Table 13.10). -/
def Heartbeat.wf (h : Heartbeat) : Bool :=
  nodeOk h.src && decide (h.claim < 2 ^ 16) && decide (h.step ≤ 5) && decide (h.mirrorSeq < 2 ^ 32) && decide (h.validMask < 2 ^ 24)

/-- A mirror item's stamps and sequence (Table 13.5). -/
def MirrorItem.wf (m : MirrorItem) : Bool := stampOk m.arrival && stampOk m.apply && decide (m.arrival ≤ m.apply) && decide (m.seq < 2 ^ 32)

/-- The units a snapshot carries are the device's (R339). -/
def Snapshot.wf (n : Snapshot) : Bool :=
  bankWf n.slices && bankWf n.ctxs && bankWf n.encs && bankWf n.seqs
    && n.slices.all (fun e => decide (e.1 < 6)) && n.ctxs.all (fun e => decide (e.1 < 64)) && n.encs.all (fun e => decide (e.1 < 8))

/-- A command that this hardware can be given. -/
def Instr.wf : Instr → Bool
  | .vstbyInRange _ => true
  | .standbyBootDone _ => true
  | .vstbyTrip _ => true
  | .mainRailInRange _ _ => true
  | .supplyFault _ _ _ => true
  | .supplyRestart _ => true
  | .resetNLow _ => true
  | .resetNRelease _ => true
  | .deviceReset _ _ => true
  | .bypassOpen _ => true
  | .xtalDetect _ _ => true
  | .deviceStart _ => true
  | .romStartDone _ _ _ => true
  | .bootIngotVerified _ bankA bankB => bankA.wf && bankB.wf
  | .startupBistDone _ r => r.wf
  | .configLoaded _ a b bind => a.all CfgImage.wf && b.all CfgImage.wf && bind.all Binding.wf
  | .ready _ => true
  | .clockMonitorWindow _ _ _ => true
  | .clockEdgeTimeout _ _ => true
  | .clockStable _ => true
  | .clockHoldTimeout _ => true
  | .startFailTimeout _ => true
  | .pwrcycAssert _ => true
  | .pwrcycRelease _ => true
  | .pwrcycNoResponse _ => true
  | .timSetIncrement _ p => p.wf
  | .incrementApply _ => true
  | .timStep _ p => p.wf
  | .timeStepApply _ => true
  | .timServoMode _ p => p.wf
  | .servoModeApply _ => true
  | .timRallyWrite _ p => p.wf
  | .timTioConfig _ p => p.wf
  | .ptpSyncRx _ _ _ gmTime _ _ => decide (gmTime.seconds < 2 ^ 48) && decide (gmTime.nanos < 10 ^ 9)
  | .gmTimeout _ => true
  | .holdoverMaxExpire _ => true
  | .hostWatchdogExpire _ => true
  | .ringAlignTimeout _ => true
  | .ethTxtsPop _ _ p => p.wf
  | .rallyTimeOccurrence _ _ _ => true
  | .rallyPwmPhaseOccurrence _ _ _ => true
  | .rallyAngleOccurrence _ _ _ => true
  | .tioPulseTrailingEdge _ _ => true
  | .tioCaptureEdge _ _ _ => true
  | .sqTailDoorbell _ _ _ => true
  | .cqHeadDoorbell _ _ _ => true
  | .qcfgEnable _ _ _ => true
  | .qcfgDisable _ _ _ => true
  | .mbxGo _ => true
  | .registerWrite _ bar2 offset _ => decide (offset % 4 = 0) && decide (offset < if bar2 then 0x100000 else 0x4000)
  | .spiSubmit _ pair p _ => p.wf && decide (pair ≤ 3)
  | .spiFetch _ _ _ => true
  | .spiStatus _ => true
  | .spiUnknownInstruction _ _ => true
  | .cmdDatagramRx _ _ d => d.wf
  | .ipv4ReassemblyTimeout _ _ => true
  | .canTunnelFrameRx _ _ data => decide (data.length = 64)
  | .canTunnelTimeout _ _ => true
  | .completionPost _ _ => true
  | .subscriptionNotify _ _ => true
  | .sessionIdleTimeout _ _ => true
  | .perstAssert _ => true
  | .pcieLinkDownTimeout _ => true
  | .pcieHostMemoryError _ _ _ => true
  | .sysNop _ p => p.wf
  | .sysOpenSession _ p => p.wf
  | .sysCloseSession _ p => p.wf
  | .sysGetInfo _ p => p.wf
  | .sysReset _ p => p.wf
  | .sysResetActivate _ p => p.wf
  | .sysFuncReinitUnit _ p => p.wf
  | .sysFuncReinitPair _ p => p.wf
  | .sysFuncReinitContext _ p => p.wf
  | .sysFuncReinitAux _ p => p.wf
  | .sysFuncReinitEncoder _ p => p.wf
  | .sysPwrcycleReq _ p => p.wf
  | .objRead _ p => p.wf
  | .objReadBlock _ p => p.wf
  | .objSubscribe _ p => p.wf
  | .objSubscribeCancel _ p => p.wf
  | .objWrite _ p => p.wf
  | .objWriteBlock _ p => p.wf
  | .auxHostTrig _ p => p.wf
  | .encSsiTrig _ p => p.wf
  | .mgtLifecycleReq _ p => p.wf
  | .mgtFeatureGate _ p => p.wf
  | .encCfgWrite _ _ p => p.wf
  | .sdMclkDivApply _ _ => true
  | .pwmPeriodApply _ _ => true
  | .drvEnable _ p => p.wf
  | .drvDisable _ p => p.wf
  | .drvSetSpeed _ p => p.wf
  | .drvSetTorque _ p => p.wf
  | .drvStopRamp _ p => p.wf
  | .drvStopCoast _ p => p.wf
  | .drvStopShort _ p => p.wf
  | .drvStart _ p => p.wf
  | .drvDischargeWinding _ p => p.wf
  | .drvDischargeSwitch _ p => p.wf
  | .engDefineContext _ p => p.wf
  | .engDeleteContext _ p => p.wf
  | .engWriteCoef _ p => p.wf
  | .engFreeze _ p => p.wf
  | .engRelease _ p => p.wf
  | .engReleaseSwap _ _ => true
  | .engSeedState _ p => p.wf
  | .engLink _ p => p.wf
  | .engGroup _ p => p.wf
  | .engCommit _ p => p.wf
  | .engCommitDiscard _ p => p.wf
  | .netCanConfig _ p => p.wf
  | .netCanConfigRead _ p => p.wf
  | .netCanFilter _ p => p.wf
  | .netCanFilterRead _ p => p.wf
  | .netCanTx _ p => p.wf
  | .netCanCancel _ p => p.wf
  | .netCanAck _ p => p.wf
  | .netEthConfig _ p => p.wf
  | .netEthConfigRead _ p => p.wf
  | .safLogin _ p => p.wf
  | .safSetPassword _ p => p.wf
  | .safCommit _ p => p.wf
  | .safLogRead _ p => p.wf
  | .mgtIngotBegin _ p => p.wf
  | .mgtIngotBeginConfig _ p => p.wf
  | .mgtIngotData _ p => p.wf
  | .mgtIngotEnd _ p => p.wf
  | .ingotCheckDone _ r => r.wf
  | .ingotTransferTimeout _ => true
  | .mgtActivate _ p => p.wf
  | .mgtActivateApply _ => true
  | .mgtBind _ p check => p.wf && decide (check.val ≠ 0)
  | .mgtInstallAnchor _ p => p.wf
  | .mgtRemoveBinding _ p => p.wf
  | .mgtAttest _ p => p.wf
  | .mgtLogRead _ p => p.wf
  | .diaBistRun _ p => p.wf
  | .diaBistResult _ p => p.wf
  | .diaRemapRow _ p => p.wf
  | .diaTraceStop _ p => p.wf
  | .diaTraceStartRing _ p => p.wf
  | .diaTraceStartOnce _ p => p.wf
  | .flkConfig _ p => p.wf
  | .flkResync _ p => p.wf
  | .flkHandover _ p => p.wf
  | .sdMainResult _ _ _ stream => decide (stream.length ≤ 4096)
  | .sdInterpResult _ _ => true
  | .sdFastTrip _ _ stream _ => decide (stream.length < 4096)
  | .sdStuck _ c => decide (c.stream.length ≤ 4096)
  | .mclkInLost _ => true
  | .mclkInFreqWindow _ _ _ => true
  | .sdMonitorRecover _ _ => true
  | .auxSampleEnd _ _ _ => true
  | .auxConversionEnd _ _ => true
  | .auxPowerDown _ _ => true
  | .hkSlot _ _ => true
  | .hkRoundEnd _ => true
  | .hkRoundLate _ => true
  | .throttleEnforce _ => true
  | .thermalStopDeadline _ => true
  | .thermalHoldEntry _ => true
  | .encQuadTransition _ _ _ _ => true
  | .encHallTransition _ _ _ => true
  | .encIndex _ _ _ => true
  | .encProbeEdge _ _ _ => true
  | .encStandstill _ _ => true
  | .encSpeedEval _ _ => true
  | .ssiFrameEnd _ _ bits _ => decide (bits < 2 ^ 64)
  | .engEvalStart _ _ => true
  | .engEvalDone _ _ => true
  | .engOutputWrite _ _ => true
  | .controlSample _ _ => true
  | .zeroSpeedHoldDone _ _ => true
  | .catchPulse _ _ => true
  | .catchTimeout _ _ => true
  | .polarityTestPhaseEnd _ _ => true
  | .recatchDelayExpire _ _ => true
  | .recatchWindowExpire _ _ => true
  | .dischargeTimeout _ _ => true
  | .setpointRefresh _ => true
  | .setpointTimeout _ _ => true
  | .updateIntervalStart _ _ => true
  | .modulatorComputeDone _ _ => true
  | .modulationModeBoundary _ _ => true
  | .edgeSend _ _ => true
  | .glSyncSend _ _ => true
  | .glModeSend _ _ => true
  | .glStatusRx _ _ _ _ => true
  | .glExecRx _ _ _ _ => true
  | .glEchoTimeout _ _ => true
  | .glStatusTimeout _ _ => true
  | .stoInputChange _ _ _ => true
  | .stoDiscrepancy _ => true
  | .refereeEvaluation _ => true
  | .ss1TmaxExpire _ _ => true
  | .degradedTimeExpire _ _ => true
  | .refereeHeartbeat _ _ => true
  | .refereeHeartbeatTimeout _ => true
  | .refereeInjection _ _ _ => true
  | .refereeLockstepMismatch _ => true
  | .dischargeMonitorDeadline _ _ => true
  | .safLoginLockExpire _ => true
  | .cpLockstepMismatch _ => true
  | .cpRestartDone _ _ => true
  | .cpCheckpoint _ => true
  | .eccCorrectable _ _ => true
  | .eccUncorrectable _ _ _ => true
  | .muRestartDone _ => true
  | .matrixDatapathError _ _ => true
  | .debugHalt _ => true
  | .debugResume _ => true
  | .debugWrite _ _ _ _ => true
  | .ringHeartbeatSend _ => true
  | .ringHeartbeatRx _ _ hb => hb.wf
  | .heartbeatFailure _ => true
  | .joinWaitExpire _ => true
  | .ringClaimSend _ => true
  | .ringClaimRx _ _ src claim => nodeOk src && decide (claim < 2 ^ 16)
  | .handoverBoundary _ => true
  | .ringMirrorRx _ _ items => items.all MirrorItem.wf
  | .mirrorApply _ => true
  | .mirrorHoldExpire _ => true
  | .ringNakRx _ first count => decide (first < 2 ^ 32) && decide (count < 2 ^ 16)
  | .ringMirrorResetRx _ => true
  | .ringDigestRx _ _ sample _ => stampOk sample
  | .ringAlignExchange _ => true
  | .ringAlignRx _ src _ t1 t2 t3 => nodeOk src && stampOk t1 && stampOk t2 && stampOk t3
  | .ringObjxRx _ src p => nodeOk src && p.wf
  | .ringResyncRx _ _ recs bytes => recs.all ObjRec.wf && decide (bytes ≤ 1024)
  | .ringPortLock _ _ => true
  | .ringPortUnlock _ _ => true
  | .resyncTimeAligned _ activeTime activeInc _ => stampOk activeTime && decide (activeInc < 2 ^ 40)
  | .resyncImageDone _ => true
  | .resyncSnapshot _ => true
  | .resyncSnapshotDone _ snap => snap.wf
  | .resyncLive _ => true
  | .resyncLiveDeadline _ => true
  | .resyncRetry _ => true
  | .canFrameRx _ _ f sofAgo eofAgo => f.wf && decide (eofAgo ≤ sofAgo)
  | .canTxSof _ _ => true
  | .canTxDone _ _ => true
  | .canArbitrationLost _ _ => true
  | .canBusError _ _ _ _ _ _ => true
  | .canBusOffRecovery _ _ => true
  | .canTxExpire _ _ _ => true
  | .canRateTimeout _ _ => true
  | .canPublish _ _ => true
  | .canQackDoorbell _ _ _ n => decide (n < 1024)
  | .ethFrameRx _ _ _ len _ _ => decide (len ≤ 9216)
  | .ethFrameTx _ _ => true
  | .ethLinkChange _ _ _ _ => true
  | .ptpPdelayExchange _ _ _ => true
  | .ptpAnnounceRx _ _ _ _ _ _ _ => true
  | .ptpSyncTx _ _ => true
  | .ethPublish _ _ => true
  | .ethPublishRx _ _ assembly node slot tq seq _ => stampOk assembly && nodeOk node && decide (slot < 64) && decide (tq < 256) && decide (seq < 65536)
  | .norPersistWrite _ _ _ => true
  | .logNorCopy _ => true
  | .bistWindowStart _ => true
  | .bistSliceStart _ => true
  | .bistCopyInDone _ => true
  | .bistMarchDone _ _ => true
  | .bistSliceEnd _ => true
  | .bistPreempt _ _ => true
  | .bistBudgetExpire _ _ => true
  | .refereeBistSlice _ _ => true
  | .sdPatternCheck _ _ _ => true
  | .glLoopbackCheck _ _ _ => true
  | .ringLoopbackCheck _ _ _ => true
  | .canLoopbackCheck _ _ _ => true
  | .traceCapture _ => true
  | .mclkInReturn _ => true
  | .pcieLinkChange _ _ => true

end Sys2Proof
end

