-- ==== Sys2Proof/Tests/Slice0.lean ====
section
/-!
SUPPORT. Tests on small states: ill-formed commands that WellFormed refuses, results the spec's own numbers give, and for
each statement with hypotheses a state that meets them.
-/

namespace Sys2Proof.Machine

open Sys2Proof
set_option maxRecDepth 100000
set_option Elab.async false
set_option linter.unusedVariables false

/-! ## Small states -/

/-- Nothing has power. -/
def wOff : State := {}

/-- VSTBY is up, the standby boot still runs. -/
def wStandby : State := { mu := { vstby := true } }

/-- The standby domain of a device that runs. -/
def wMu : Mu :=
  { phase := .ready, vstby := true, booted := true, resetN := true, refOk := true, rails := List.replicate 5 { inRange := true, below := none },
    cfgApplied := true, reached := true }

/-- READY, one second after the PTP epoch. -/
def wReady : State := { mu := wMu, time := { ctr := 4000000000, running := true, mu := 4000000000 }, tick := 400000000 }

/-- READY with session 0 open at a level on PCIe, and one entry of queue pair 4 owned by the device. -/
def wCmd (level : Nat) : State :=
  { wReady with host := { sessions := [(0, some { level := level, link := .pcie 4 })], pairs := [(4, { en := true, depth := 4, owned := 1, rbuf := 4096 })] } }

/-- A sealed packet of session 0 on that pair. -/
def wPkt (op : Nat) (b : List Byte) (target : Nat := 0x0E) (flags : Nat := 0) : Pkt :=
  Pkt.sealed { opcode := BitVec.ofNat 16 op, session := 0, target := BitVec.ofNat 8 target, flags := BitVec.ofNat 8 flags,
               len := BitVec.ofNat 16 b.length, payload := b }

/-- The same with a servo mode selected. -/
def wTim (mode : Nat) : State := { wCmd 2 with dict := { vals := [(Obj.TIM_SERVO_SEL, mode)] } }

/-- An object record's bytes. -/
def wRec (i ty data : Nat) : List Byte := toLE 4 i ++ [BitVec.ofNat 8 ty, BitVec.ofNat 8 (typeLen ty), 0#8, 0#8] ++ toLE 16 data

/-- A packet without a session has arrived on Ethernet port 0, and a nonce has been given out. -/
def wEth (p : Pkt) : State := { wReady with host := { inbox := [p], nonce := [(7, 5000000000)], nonces := 8 } }

/-- A slot of the object SLC_SD_SLOT: role, phase, channel, no monitor, ratio 250, gain 1.0. -/
def wSlot (role phase ch : Nat) : Nat :=
  2 ^ 127 + role * 2 ^ 124 + phase * 2 ^ 121 + ch * 2 ^ 114 + 0xFF * 2 ^ 106 + 250 * 2 ^ 96 + 0x3F800000 * 2 ^ 32

/-- GL_CFG of a link that drives slice 0 in a role. -/
def wLink (role : Nat) : Nat := 2 ^ 63 + role * 2 ^ 57 + 0x00200FA050000000

/-- Objects of a device whose slice 0 has its channels and links. -/
def wDriveObjs : Bank Nat :=
  [(0x1200, wSlot 0 0 0), (0x1201, wSlot 0 1 1), (0x1202, wSlot 1 0 2), (0x8900, wLink 0), (0x8901, wLink 1), (0x8902, wLink 2)]

/-- A bound device, nobody on the STO inputs, whose slice 0 is in a state. -/
def wDrive (x : Slice) : State :=
  { wCmd 2 with
    mu := { wMu with lc := 2, bound := some { check := 5, systemId := 1, node := 1, partner := 2 } }
    ref := { runs := true, stoA := true, stoB := true }
    dict := { vals := wDriveObjs }
    slices := [(0, x)] }

/-- The header of a context with one output and nothing else: slice 0, unit 0, D = 640, 10,000 evaluations per second. -/
def wHdr : Nat := 2 ^ 246 + 640 * 2 ^ 215 + 10000 * 2 ^ 160

/-- A CAN configuration: NORMAL, a nominal bit of 400 cycles, receive queue 0 of 8, transmit queues 0 and 3 of 4 entries. -/
def wCanCfg : List Byte :=
  toLE 8 1 ++ toLE 4 0x091D0808 ++ toLE 4 0 ++ toLE 8 3 ++ toLE 4 0x02000002 ++ toLE 132 0

/-- A device whose CAN controller 1 has that configuration. -/
def wCan (u : Can) : State :=
  { wCmd 2 with can := [(1, { u with cfg := wCanCfg, mode := if u.mode = 0 then 1 else u.mode })] }

/-- A frame in a transmit queue. -/
def wTx : CanTx := { frame := { id := 7 }, tag := 5 }

/-- An Ethernet configuration: on, gPTP, priority1 100, log Sync interval -3, peer delay at most 800 ns. -/
def wEthCfg : List Byte := [1, 0, 0, 1] ++ toLE 20 0 ++ [100, 0, 0xFD, 0, 0, 0] ++ toLE 2 800 ++ [1] ++ toLE 7 0

/-- A device whose port 1 has that configuration and a link. -/
def wEthUp (u : Eth) : State := { wCmd 2 with eth := [(1, { u with cfg := wEthCfg, on := true, link := true })] }

/-- The Referee of a device that runs. -/
def wRef0 : Ref := { runs := true, stoA := true, stoB := true }

/-- A device with a Referee. -/
def wRef (r : Ref) : State := { wCmd 2 with ref := r }

/-- The password "12345678" is set. -/
def wPw : State := wRef { wRef0 with pw := some ([], pwHashOf [] (toLE 8 0x3837363534333231)) }

/-- A login with it. -/
def wLogin : List Byte := [0, 8, 0, 0] ++ toLE 32 0x3837363534333231 ++ toLE 32 0

/-- What admission yields. -/
def wGot (s : State) (p : Pkt) : State × Deferred := (Safety.admitted (s.elapse 0) p).getD (s, { pkt := p, accepted := 0, entry := 0 })

theorem wGot_spec {s : State} {p : Pkt} (h : (Safety.admitted (s.elapse 0) p).isSome = true) :
    Safety.admitted (s.elapse 0) p = some ((wGot s p).1, (wGot s p).2) := by
  unfold wGot
  cases ha : Safety.admitted (s.elapse 0) p with
  | none => rw [ha] at h; cases h
  | some x => rfl

/-- A packet that asks for a session, from Ethernet port 0. -/
def wOpen : Pkt := Pkt.sealed { wPkt 1 (0#8 :: 1#8 :: List.replicate 130 0#8) with session := 0xFF, link := .eth 0 }
/-- The dictionary's row of TIM_RALLY entries. -/
def descTim : Desc := (descOf 0x8004).getD { base := 0, last := 0, rep := .one, ty := 0, acc := 0, rng := .any, dft := 0, per := 0 }
/-- A heartbeat of node 2, whose partner is node 1. -/
def wHb : Heartbeat := { src := 2, claim := 0xC002, partner := 1 }
/-- A device bound into a Flask. -/
def wFlk (f : Flk) : State :=
  { wCmd 2 with
    mu := { wMu with lc := 2, bypass := false, bound := some { check := 5, systemId := 1, node := 1, partner := 2 } }
    ref := wRef0
    dict := { vals := [(0x300, 2 ^ 127 + 2 * 2 ^ 100 + 100 * 2 ^ 80 + 100 * 2 ^ 64 + 100 * 2 ^ 48)] }
    flk := f }
/-- Channel 0 of a slice that is in a state runs from group 0's own divider. -/
def wSense (x : Slice) : State :=
  { wDrive x with mclk := { started := [(0, 0), (1, 0)] }, dict := { vals := (0x8600, 0x8014) :: (0x8601, 0x8014) :: wDriveObjs } }

/-- A packet of a session that is not open. -/
def wNoSess : Pkt := Pkt.sealed { wPkt 0x10 [0#8] with session := 5 }

/-! ## Ill-formed commands -/

theorem test_wf_accepts : Instr.wf (.sysNop 0 (wPkt 0 [])) = true := by decide

theorem test_wf_links : Link.wf (.pcie 16) = false ∧ Link.wf (.spi 4) = false ∧ Link.wf (.eth 2) = false ∧ Link.wf (.can 4) = false ∧
    Link.wf (.ring 16384) = false := by decide

theorem test_wf_packet_link : Instr.wf (.sysNop 0 { wPkt 0 [] with link := .eth 2 }) = false := by decide

theorem test_wf_packet_length : Instr.wf (.sysNop 0 { payload := List.replicate 4081 0#8 }) = false := by decide +kernel

theorem test_wf_objRec : ObjRec.wf ⟨0x20000, 4, 4, 0⟩ = false ∧ ObjRec.wf ⟨0, 4, 17, 0⟩ = false ∧ ObjRec.wf ⟨0, 4, 1, 256⟩ = false := by decide

theorem test_wf_canFrame : CanFrame.wf { id := 0x800 } = false ∧ CanFrame.wf { id := 0x20000000, ide := true } = false ∧
    CanFrame.wf { id := 7, rtr := true, fdf := true } = false ∧ CanFrame.wf { id := 7, brs := true } = false ∧
    CanFrame.wf { id := 7, dlc := 9, data := [] } = false ∧ CanFrame.wf { id := 7, dlc := 2, data := [1] } = false ∧
    CanFrame.wf { id := 7, fdf := true, dlc := 16 } = false := by decide

theorem test_wf_canFrameRx : Instr.wf (.canFrameRx 0 0 { id := 0x800 } 9 1) = false ∧ Instr.wf (.canFrameRx 0 0 { id := 7 } 1 9) = false := by
  decide

theorem test_wf_bankRead : BankRead.wf ⟨3, 0, 0, 0⟩ = false ∧ BankRead.wf ⟨0, 2 ^ 32, 0, 0⟩ = false ∧ BankRead.wf ⟨0, 0, 65, 0⟩ = false ∧
    BankRead.wf ⟨0, 0, 0, 2 ^ 24⟩ = false ∧ Instr.wf (.bootIngotVerified 0 ⟨3, 0, 0, 0⟩ ⟨0, 0, 0, 0⟩) = false := by decide

theorem test_wf_cfgImage : CfgImage.wf ⟨0, 0, true, true, []⟩ = false ∧ CfgImage.wf ⟨0xFFFFFFFF, 0, true, true, []⟩ = false ∧
    CfgImage.wf ⟨1, 256, true, true, []⟩ = false ∧ CfgImage.wf ⟨1, 0, true, true, [⟨0x20000, 4, 4, 0⟩]⟩ = false ∧
    CfgImage.wf ⟨1, 0, true, true, [⟨5, 4, 4, 0⟩, ⟨5, 4, 4, 0⟩]⟩ = false := by decide

theorem test_wf_binding : Binding.wf ⟨0, 0, 0, 0⟩ = false ∧ Binding.wf ⟨6, 0, 0, 0⟩ = false ∧ Binding.wf ⟨5, 2 ^ 128, 0, 0⟩ = false ∧
    Binding.wf ⟨5, 0, 2 ^ 16, 0⟩ = false ∧ Binding.wf ⟨5, 0, 0, 2 ^ 16⟩ = false := by decide

theorem test_wf_configLoaded : Instr.wf (.configLoaded 0 (some ⟨0, 0, true, true, []⟩) none none) = false ∧
    Instr.wf (.configLoaded 0 none none (some ⟨0, 0, 0, 0⟩)) = false := by decide

theorem test_wf_bistResult : BistResult.wf ⟨false, false, false, 0, []⟩ = false ∧
    BistResult.wf ⟨false, false, false, 2 ^ 128, List.replicate 9 (true, 5)⟩ = false := by decide

theorem test_wf_ingotResult : IngotResult.wf ⟨8, 0, 0, 0, none⟩ = false ∧ IngotResult.wf ⟨0, 2 ^ 32, 0, 0, none⟩ = false ∧
    IngotResult.wf ⟨0, 0, 65, 0, none⟩ = false ∧ IngotResult.wf ⟨0, 0, 0, 2 ^ 24, none⟩ = false ∧
    IngotResult.wf ⟨0, 0, 0, 0, some ⟨0, 0, true, true, []⟩⟩ = false := by decide

theorem test_wf_datagram : Datagram.wf { version := 256, session := 0, counter := 0, tagOk := true, pkt := {} } = false ∧
    Datagram.wf { version := 1, session := 256, counter := 0, tagOk := true, pkt := {} } = false ∧
    Datagram.wf { version := 1, session := 0, counter := 2 ^ 64, tagOk := true, pkt := {} } = false ∧
    Datagram.wf { version := 1, session := 0, counter := 0, tagOk := true, pkt := { link := .eth 2 } } = false := by decide

theorem test_wf_heartbeat : Heartbeat.wf { src := 16384 } = false ∧ Heartbeat.wf { claim := 65536 } = false ∧ Heartbeat.wf { step := 6 } = false ∧
    Heartbeat.wf { mirrorSeq := 2 ^ 32 } = false ∧ Heartbeat.wf { validMask := 2 ^ 24 } = false := by decide

theorem test_wf_mirrorItem : MirrorItem.wf ⟨2 ^ 64, 2 ^ 64, 0, true, .throttle true⟩ = false ∧ MirrorItem.wf ⟨0, 2 ^ 64, 0, true, .throttle true⟩ = false ∧
    MirrorItem.wf ⟨9, 8, 0, true, .throttle true⟩ = false ∧ MirrorItem.wf ⟨8, 9, 2 ^ 32, true, .throttle true⟩ = false := by decide

theorem test_wf_snapshot : Snapshot.wf ⟨[(6, {})], [], [], [], 0⟩ = false ∧ Snapshot.wf ⟨[], [(64, {})], [], [], 0⟩ = false ∧
    Snapshot.wf ⟨[], [], [(8, {})], [], 0⟩ = false ∧ Snapshot.wf ⟨[(1, {}), (1, {})], [], [], [], 0⟩ = false ∧
    Snapshot.wf ⟨[], [(1, {}), (0, {})], [], [], 0⟩ = false ∧ Snapshot.wf ⟨[], [], [(1, {}), (0, {})], [], 0⟩ = false ∧
    Snapshot.wf ⟨[], [], [], [(1, 0), (0, 0)], 0⟩ = false := by decide

theorem test_wf_registerWrite : Instr.wf (.registerWrite 0 false 2 0) = false ∧ Instr.wf (.registerWrite 0 false 0x4000 0) = false ∧
    Instr.wf (.registerWrite 0 true 0x100000 0) = false := by decide

theorem test_wf_links_of_commands : Instr.wf (.spiSubmit 0 4 (wPkt 0 []) 9) = false ∧ Instr.wf (.canTunnelFrameRx 0 0 []) = false ∧
    Instr.wf (.canQackDoorbell 0 0 0 1024) = false ∧ Instr.wf (.ethFrameRx 0 0 0 9217 true []) = false := by decide

theorem test_wf_checks : Instr.wf (.mgtBind 0 (wPkt 0x7011 []) 0) = false ∧ Instr.wf (.ssiFrameEnd 0 0 (2 ^ 64) false) = false := by decide

theorem test_wf_streams : Instr.wf (.sdMainResult 0 0 none (List.replicate 4097 false)) = false ∧
    Instr.wf (.sdFastTrip 0 0 (List.replicate 4096 false) true) = false ∧
    Instr.wf (.sdStuck 0 { ch := 0, stream := List.replicate 4097 false }) = false := by decide +kernel

theorem test_wf_stamps : Instr.wf (.ptpSyncRx 0 0 0 { seconds := 2 ^ 48 } 0 true) = false ∧
    Instr.wf (.ptpSyncRx 0 0 0 { nanos := 10 ^ 9 } 0 true) = false ∧ Instr.wf (.ringDigestRx 0 0 (2 ^ 64) 0) = false ∧
    Instr.wf (.resyncTimeAligned 0 (2 ^ 64) 0 true) = false ∧ Instr.wf (.resyncTimeAligned 0 0 (2 ^ 40) true) = false ∧
    Instr.wf (.ringAlignRx 0 0 true (2 ^ 64) 0 0) = false ∧ Instr.wf (.ringAlignRx 0 0 true 0 (2 ^ 64) 0) = false ∧
    Instr.wf (.ringAlignRx 0 0 true 0 0 (2 ^ 64)) = false := by decide

theorem test_wf_ring : Instr.wf (.ringClaimRx 0 0 16384 0) = false ∧ Instr.wf (.ringClaimRx 0 0 0 65536) = false ∧
    Instr.wf (.ringNakRx 0 (2 ^ 32) 0) = false ∧ Instr.wf (.ringNakRx 0 0 65536) = false ∧
    Instr.wf (.ringAlignRx 0 16384 true 0 0 0) = false ∧ Instr.wf (.ringObjxRx 0 16384 (wPkt 0 [])) = false ∧
    Instr.wf (.ringResyncRx 0 0 [⟨0x20000, 4, 4, 0⟩] 0) = false ∧ Instr.wf (.ringResyncRx 0 0 [] 1025) = false := by decide

theorem test_wf_publish : Instr.wf (.ethPublishRx 0 0 (2 ^ 64) 0 0 0 0 []) = false ∧ Instr.wf (.ethPublishRx 0 0 0 16384 0 0 0 []) = false ∧
    Instr.wf (.ethPublishRx 0 0 0 0 64 0 0 []) = false ∧ Instr.wf (.ethPublishRx 0 0 0 0 0 256 0 []) = false ∧
    Instr.wf (.ethPublishRx 0 0 0 0 0 0 65536 []) = false := by decide

/-! ## Figures that the spec gives -/

/-- The CRC-32C of the string "123456789" is 0xE3069283 (chapter 5). -/
theorem test_crc32c : crc32c [0x31, 0x32, 0x33, 0x34, 0x35, 0x36, 0x37, 0x38, 0x39] = 0xE3069283 := by decide +kernel

/-- R64's example: a crystal 12.5 ppm fast and INCREMENT 0x9_FFF7_CEE0 give one second of stamp units in a real second. -/
theorem test_increment_example :
    (({ inc := 0x9FFF7CEE0, running := true } : Time).run 400005000).ctr = 4000000000 := by decide

/-- A command waits first in, first out: a step takes the front one. -/
theorem test_queue_order : ∃ t, step { wOff with pending := [.vstbyInRange 3, .standbyBootDone 4] } = .next t ∧ t.pending = [.standbyBootDone 4] ∧
    t.mu.vstby = true ∧ t.tick = 3 := ⟨_, rfl, rfl, rfl, rfl⟩

/-! ## States that meet the hypotheses of the statements -/

/-! ### StepRunsTheFrontCommand -/

theorem witness_stepFront : ∃ (s : State) (c : Instr) (rest : List Instr), s.pending = c :: rest :=
  ⟨{ wReady with pending := [.cpCheckpoint 3, .hkRoundEnd 0] }, .cpCheckpoint 3, [.hkRoundEnd 0], rfl⟩

/-! ### EmptyQueueStepIsOneTick -/

theorem witness_emptyQueue : (∃ s : State, s.pending = [] ∧ s.time.running = true) ∧ ∃ s : State, s.pending = [] ∧ s.time.running = false :=
  ⟨⟨wReady, rfl, rfl⟩, ⟨wOff, rfl, rfl⟩⟩

/-! ### StepKeepsTheCounterInItsRegisters -/

theorem witness_timeOk : ∃ s t : State, Safety.timeOk s ∧ step s = .next t :=
  ⟨{ wReady with pending := [.cpCheckpoint 3] }, _, by unfold Safety.timeOk Safety.incOk; decide, rfl⟩

/-! ### StepKeepsTheMemoryForm -/

theorem witness_memoryForm : ∃ s t : State, Memory.wf s.cp.mem = true ∧ Memory.wf s.cp.ckptMem = true ∧ step s = .next t :=
  ⟨{ wReady with pending := [.cpCheckpoint 3], cp := { mem := [(4, 1#32), (8, 2#32)], ckptMem := [(4, 3#32)] } }, _, by decide, by decide, rfl⟩

theorem witness_memoryWrite : ∃ (s u : State) (dt addr a : Nat) (v : Word), u = s.elapse dt ∧ u.debugOk = true ∧ u.cp.halted = true ∧ a ≠ addr :=
  ⟨{ wReady with mu := { wMu with lc := 1 }, cp := { halted := true } }, _, 0, 4, 8, 5#32, rfl, by decide, by decide, by decide⟩

/-! ### EveryStepGoesOn -/

theorem witness_goesOn : ∃ s t : State, step s = .next t := ⟨{ wReady with pending := [.cpCheckpoint 3] }, _, rfl⟩

/-! ### PacketsThatFailTheirChecksExecuteNothing -/

/-- What the CP takes on a packet's row. -/
def wTake (s : State) (q : Pkt) : State × Nat := ((s.elapse 0).takeEntry q).getD (s, 0)

theorem wTake_spec {s : State} {q : Pkt} (h : ((s.elapse 0).takeEntry q).isSome = true) :
    (s.elapse 0).takeEntry q = some ((wTake s q).1, (wTake s q).2) := by
  unfold wTake
  cases ha : (s.elapse 0).takeEntry q with
  | none => rw [ha] at h; cases h
  | some x => rfl

theorem witness_noEntry : ∃ (s u : State) (c : Instr) (dt : Nat) (q : Pkt), Safety.packetOf c = some (dt, q) ∧ u = s.elapse dt ∧
    (u.cpTakes = false ∨ u.takeEntry q = none) :=
  ⟨wOff, _, .sysNop 0 (wPkt 0 []), 0, _, rfl, rfl, .inl rfl⟩

theorem witness_badHead : ∃ (s u v : State) (c : Instr) (dt : Nat) (q : Pkt) (e st : Nat), Safety.packetOf c = some (dt, q) ∧ u = s.elapse dt ∧
    u.cpTakes = true ∧ u.takeEntry q = some (v, e) ∧ checkHead q = some st :=
  ⟨wCmd 2, _, _, .sysNop 0 { wPkt 0 [] with version := 1#8 }, 0, _, _, stBadVersion, rfl, rfl, by decide +kernel,
    wTake_spec (by decide +kernel), by decide +kernel⟩

theorem witness_noSession : ∃ (s u v : State) (c : Instr) (dt : Nat) (q : Pkt) (e : Nat), Safety.packetOf c = some (dt, q) ∧ u = s.elapse dt ∧
    u.cpTakes = true ∧ u.takeEntry q = some (v, e) ∧ checkHead q = none ∧ v.sessionOk q = false :=
  ⟨wCmd 2, _, (wTake (wCmd 2) wNoSess).1, .sysReset 0 wNoSess, 0, wNoSess, _, rfl, rfl, by decide +kernel,
    wTake_spec (by decide +kernel), by decide +kernel, by decide +kernel⟩

theorem witness_failedCheck : ∃ (s u v w x : State) (c : Instr) (dt : Nat) (q : Pkt) (e st : Nat), Safety.packetOf c = some (dt, q) ∧ u = s.elapse dt ∧
    u.cpTakes = true ∧ u.takeEntry q = some (v, e) ∧ checkHead q = none ∧ v.sessionOk q = true ∧ w = v.noteAccepted q ∧
    ((w.sessOf q).bind fun x => x.replyOf q.seq.toNat) = none ∧
    (w.host.deferred.find? fun d =>
      d.live && (w.sessOf q).isSome && d.pkt.session = q.session && d.pkt.seq = q.seq && d.pkt.crc = q.crc) = none ∧
    x = w.remember q ∧ x.checkOp q = some st :=
  ⟨wCmd 0, _, (wTake (wCmd 0) (wPkt 0x4001 [])).1, _, _, .timStep 0 (wPkt 0x4001 []), 0, wPkt 0x4001 [], _, stDenied, rfl, rfl, by decide +kernel,
    wTake_spec (by decide +kernel), by decide +kernel, by decide +kernel, rfl, by decide +kernel, by decide +kernel, rfl, by decide +kernel⟩

/-! ### SupplyAndResetEventsComplete -/

theorem witness_vstbyInRange : ∃ (s u : State) (dt : Nat), (u = s.elapse dt) ∧ (u.mu.vstby = false) :=
  ⟨wOff, State.elapse wOff 0, 0, rfl, by decide +kernel⟩

theorem witness_standbyBootDone : ∃ (s u : State) (dt : Nat), (u = s.elapse dt) ∧ (u.mu.vstby = true) ∧ (u.mu.booted = false) :=
  ⟨wStandby, State.elapse wStandby 0, 0, rfl, by decide +kernel⟩

theorem witness_vstbyTrip : ∃ (s u : State) (dt : Nat), (u = s.elapse dt) ∧ (u.mu.vstby = true) :=
  ⟨wReady, State.elapse wReady 0, 0, rfl, by decide +kernel⟩

theorem witness_supplyFault : ∃ (s u : State) (dt : Nat) (rail : Fin 5) (high : Bool), (u = s.elapse dt) ∧ (u.mu.phase.up = true) :=
  ⟨wReady, State.elapse wReady 0, 0, 1, true, rfl, by decide +kernel⟩

theorem witness_supplyRestart : ∃ (s u : State) (dt : Nat), (u = s.elapse dt) ∧ (u.mu.supplyFault = true) ∧ (u.railsOk = true) ∧ (u.mu.resetN = true) ∧ (u.mu.railsAt + msUnits ≤ u.muNow) :=
  ⟨{ wReady with mu := { wMu with supplyFault := true } }, State.elapse ({ wReady with mu := { wMu with supplyFault := true } }) 0, 0, rfl, by decide +kernel⟩

theorem witness_resetNLow : ∃ (s u : State) (dt : Nat), (u = s.elapse dt) ∧ (u.mu.phase.up = true) ∧ (u.mu.phase ≠ .clockHold) :=
  ⟨wReady, State.elapse wReady 0, 0, rfl, by decide +kernel⟩

theorem witness_deviceResetSys : ∃ (s u : State) (dt : Nat) (at_ : Nat) (act : Bool), (u = s.elapse dt) ∧ (u.mu.resetDue = some (at_, act)) ∧ (at_ ≤ u.muNow) ∧ (u.mu.phase ≠ .unpowered) ∧ (u.resetLocked = false) :=
  ⟨{ wReady with mu := { wMu with resetDue := some (0, true) } }, State.elapse ({ wReady with mu := { wMu with resetDue := some (0, true) } }) 0, 0, 0, true, rfl, by decide +kernel⟩

theorem witness_deviceResetCp : ∃ (s u : State) (dt : Nat), (u = s.elapse dt) ∧ (u.cp.escalate = true) :=
  ⟨{ wReady with cp := { escalate := true } }, State.elapse ({ wReady with cp := { escalate := true } }) 0, 0, rfl, by decide +kernel⟩

theorem witness_deviceResetMu : ∃ (s u : State) (dt : Nat), (u = s.elapse dt) ∧ (u.mu.booted = true) ∧ (u.mu.phase ≠ .clockHold) :=
  ⟨wReady, State.elapse wReady 0, 0, rfl, by decide +kernel⟩

theorem witness_bypassOpen : ∃ (s u : State) (dt : Nat), (u = s.elapse dt) ∧ (u.mu.phase = .ready) ∧ (u.mu.bypass = true) ∧ (u.ring.lockA = true) ∧ (u.ring.lockB = true) ∧ (u.fenced 48 = false) ∧ (u.mu.restarting = false) ∧ (u.mu.readyAt + 50 * usUnits ≤ u.muNow) :=
  ⟨{ wReady with ring := { lockA := true, lockB := true } }, State.elapse ({ wReady with ring := { lockA := true, lockB := true } }) 0, 0, rfl, by decide +kernel⟩

theorem witness_xtalDetect : ∃ (s u : State) (dt : Nat) (edges : Nat), (u = s.elapse dt) ∧ (u.mu.booted = true) ∧ (u.railsOk = true) ∧ (u.mu.extClock = none) :=
  ⟨wReady, State.elapse wReady 0, 0, 2500, rfl, by decide +kernel⟩

/-! ### ClockAndPowerCycleEventsComplete -/

theorem witness_clockMonitorWindowGood : ∃ (s u : State) (dt : Nat) (clk : Fin 4) (edges : Nat), (u = s.elapse dt) ∧ (u.mu.booted = true) ∧ (20 * (if edges ≤ u.clkNominal clk.val then u.clkNominal clk.val - edges else edges - u.clkNominal clk.val) ≤ u.clkNominal clk.val) :=
  ⟨wReady, State.elapse wReady 0, 0, 0, 250, rfl, by decide +kernel⟩

theorem witness_clockMonitorWindowBad : ∃ (s u : State) (dt : Nat) (clk : Fin 4) (edges : Nat), (u = s.elapse dt) ∧ (u.mu.booted = true) ∧ (u.mu.phase = .ready) ∧ (u.clkNominal clk.val < 20 * (if edges ≤ u.clkNominal clk.val then u.clkNominal clk.val - edges else edges - u.clkNominal clk.val)) :=
  ⟨wReady, State.elapse wReady 0, 0, 0, 200, rfl, by decide +kernel⟩

theorem witness_clockEdgeTimeout : ∃ (s u : State) (dt : Nat) (clk : Fin 4), (u = s.elapse dt) ∧ (u.mu.booted = true) ∧ (u.mu.phase = .ready) :=
  ⟨wReady, State.elapse wReady 0, 0, 2, rfl, by decide +kernel⟩

theorem witness_clockStable : ∃ (s u : State) (dt : Nat), (u = s.elapse dt) ∧ (u.mu.phase = .clockHold) ∧ (u.mu.clkBad.all (fun b => !b) = true) ∧ (u.mu.clkGoodAt = none) :=
  ⟨{ wReady with mu := { wMu with phase := .clockHold } }, State.elapse ({ wReady with mu := { wMu with phase := .clockHold } }) 0, 0, rfl, by decide +kernel⟩

theorem witness_clockHoldTimeout : ∃ (s u : State) (dt : Nat), (u = s.elapse dt) ∧ (u.mu.phase = .clockHold) ∧ (u.mu.clkHoldAt + 100 * msUnits ≤ u.muNow) ∧ (u.mu.pwrcycDue = none) ∧ (u.mu.pwrcyc = none) ∧ ((u.mu.pwrDecisions.filter fun d => u.muNow ≤ d + 3600 * sUnits).length < 3) :=
  ⟨{ wReady with mu := { wMu with phase := .clockHold } }, State.elapse ({ wReady with mu := { wMu with phase := .clockHold } }) 0, 0, rfl, by decide +kernel⟩

theorem witness_startFailTimeout : ∃ (s u : State) (dt : Nat) (n : Nat), (u = s.elapse dt) ∧ (u.mu.phase = .starting n) ∧ (u.mu.reached = false) ∧ (u.mu.failSeen = false) ∧ (u.mu.t0At + 2 * sUnits ≤ u.muNow) ∧ (u.readyComes = false) :=
  ⟨{ wReady with time := { wReady.time with mu := 9000000000 }, mu := { wMu with phase := .starting 3, reached := false } }, State.elapse ({ wReady with time := { wReady.time with mu := 9000000000 }, mu := { wMu with phase := .starting 3, reached := false } }) 0, 0, 3, rfl, by decide +kernel⟩

theorem witness_pwrcycAssert : ∃ (s u : State) (dt : Nat) (at_ : Nat), (u = s.elapse dt) ∧ (u.mu.pwrcycDue = some at_) ∧ (at_ ≤ u.muNow) ∧ (u.mu.pwrcyc = none) ∧ ((u.mu.pwrcycHost = false ∨ u.resetLocked = false)) :=
  ⟨{ wReady with mu := { wMu with pwrcycDue := some 0 } }, State.elapse ({ wReady with mu := { wMu with pwrcycDue := some 0 } }) 0, 0, 0, rfl, by decide +kernel⟩

theorem witness_pwrcycRelease : ∃ (s u : State) (dt : Nat), (u = s.elapse dt) ∧ (u.mu.pwrcyc.isSome = true) ∧ (u.mu.rails.all (fun r => match r.below with | some b => decide (u.muNow ≥ b + 10 * msUnits) | none => false) = true) :=
  ⟨{ wReady with mu := { wMu with phase := .held, pwrcyc := some 0, rails := List.replicate 5 {} } }, State.elapse ({ wReady with mu := { wMu with phase := .held, pwrcyc := some 0, rails := List.replicate 5 {} } }) 0, 0, rfl, by decide +kernel⟩

theorem witness_pwrcycNoResponse : ∃ (s u : State) (dt : Nat) (from_ : Nat), (u = s.elapse dt) ∧ (u.mu.pwrcyc = some from_) ∧ (from_ + sUnits ≤ u.muNow) ∧ (u.mu.rails.all (fun r => r.below.isSome) = false) :=
  ⟨{ wReady with mu := { wMu with phase := .held, pwrcyc := some 0 } }, State.elapse ({ wReady with mu := { wMu with phase := .held, pwrcyc := some 0 } }) 0, 0, 0, rfl, by decide +kernel⟩

/-! ### StartReachesReadyStepByStep -/

theorem witness_deviceStart : ∃ (s u : State) (dt : Nat) (c : ResetCause), (u = s.elapse dt) ∧ (u.mu.phase = .held) ∧ (u.mu.booted = true) ∧ (u.mu.vstby = true) ∧ (u.railsOk = true) ∧ (u.mu.resetN = true) ∧ (u.mu.refOk = true) ∧ (u.mu.supplyFault = false) ∧ (u.mu.pwrcyc = none) ∧ (u.mu.cause = some c) ∧ (c ≠ .cpEscalation) ∧ (u.mu.pwrStop = false) ∧ (u.hk.holdKept = false) :=
  ⟨{ wReady with mu := { wMu with phase := .held, cause := some .resetN } }, State.elapse ({ wReady with mu := { wMu with phase := .held, cause := some .resetN } }) 0, 0, .resetN, rfl, by decide +kernel⟩

theorem witness_romStartDone : ∃ (s u : State) (dt : Nat) (otpOk : Bool) (norKiB : Nat), (u = s.elapse dt) ∧ (u.mu.phase = .starting 1) :=
  ⟨{ wReady with mu := { wMu with phase := .starting 1 } }, State.elapse ({ wReady with mu := { wMu with phase := .starting 1 } }) 0, 0, true, 155648, rfl, by decide +kernel⟩

theorem witness_bootIngotVerifiedSel : ∃ (s u : State) (dt : Nat) (bankA bankB : BankRead), (u = s.elapse dt) ∧ (u.mu.phase = .starting 2) ∧ (u.bankCheck u.mu.active (if u.mu.active = 0 then bankA else bankB) = 0) :=
  ⟨{ wReady with mu := { wMu with phase := .starting 2 } }, State.elapse ({ wReady with mu := { wMu with phase := .starting 2 } }) 0, 0, ⟨0, 1, 0, 0⟩, ⟨0, 1, 0, 0⟩, rfl, by decide +kernel⟩

theorem witness_bootIngotVerifiedOther : ∃ (s u : State) (dt : Nat) (bankA bankB : BankRead), (u = s.elapse dt) ∧ (u.mu.phase = .starting 2) ∧ (u.mu.active < 2) ∧ (u.bankCheck u.mu.active (if u.mu.active = 0 then bankA else bankB) ≠ 0) ∧ (u.bankCheck (1 - u.mu.active) (if 1 - u.mu.active = 0 then bankA else bankB) = 0) :=
  ⟨{ wReady with mu := { wMu with phase := .starting 2 } }, State.elapse ({ wReady with mu := { wMu with phase := .starting 2 } }) 0, 0, ⟨1, 1, 0, 0⟩, ⟨0, 1, 0, 0⟩, rfl, by decide +kernel⟩

theorem witness_startupBistDone : ∃ (s u : State) (dt : Nat) (r : BistResult), (u = s.elapse dt) ∧ (u.mu.phase = .starting 3) :=
  ⟨{ wReady with mu := { wMu with phase := .starting 3 } }, State.elapse ({ wReady with mu := { wMu with phase := .starting 3 } }) 0, 0, ⟨false, false, false, 0, []⟩, rfl, by decide +kernel⟩

theorem witness_configLoaded : ∃ (s u : State) (dt : Nat) (a b : Option CfgImage) (bind : Option Binding), (u = s.elapse dt) ∧ (u.mu.phase = .starting 4) :=
  ⟨{ wReady with mu := { wMu with phase := .starting 4 } }, State.elapse ({ wReady with mu := { wMu with phase := .starting 4 } }) 0, 0, none, none, none, rfl, by decide +kernel⟩

theorem witness_ready : ∃ (s u : State) (dt : Nat), (u = s.elapse dt) ∧ (u.mu.phase = .starting 5) ∧ (u.cp.restarting = false) :=
  ⟨{ wReady with mu := { wMu with phase := .starting 5 } }, State.elapse ({ wReady with mu := { wMu with phase := .starting 5 } }) 0, 0, rfl, by decide +kernel⟩

/-! ### TimelineCommandsComplete -/

theorem witness_timSetIncrement : ∃ (s u w : State) (dt : Nat) (p q : Pkt) (d : Deferred), (u = s.elapse dt) ∧ (q = p.asRow 0x4000) ∧ (Safety.admitted u q = some (w, d)) ∧ (q.payload.length = 16) ∧ (w.servoSel = 1 ∨ w.servoSel = 2 ∧ byteAt q.payload 5 = 0) ∧ (byteAt q.payload 5 / 64 ≠ 3) ∧ (zeros q.payload 6 2 = true) ∧ (bandLo w.anyEnabled ≤ le q.payload 0 5) ∧ (le q.payload 0 5 ≤ bandHi w.anyEnabled) ∧ (w.tooLate (le q.payload 8 8) = false) :=
  ⟨(wTim 1), State.elapse (wTim 1) 0, (wGot (wTim 1) (((wPkt 0x4000 (toLE 5 0xA00000000 ++ toLE 11 0)).asRow 0x4000))).1, 0, (wPkt 0x4000 (toLE 5 0xA00000000 ++ toLE 11 0)), ((wPkt 0x4000 (toLE 5 0xA00000000 ++ toLE 11 0)).asRow 0x4000), (wGot (wTim 1) (((wPkt 0x4000 (toLE 5 0xA00000000 ++ toLE 11 0)).asRow 0x4000))).2, rfl, rfl, wGot_spec (by decide +kernel), by decide +kernel⟩

theorem witness_timStep : ∃ (s u w : State) (dt : Nat) (p q : Pkt) (d : Deferred), (u = s.elapse dt) ∧ (q = p.asRow 0x4001) ∧ (Safety.admitted u q = some (w, d)) ∧ (q.payload.length = 16) ∧ (w.anyEnabled = false) ∧ (w.hostSteers = true) ∧ (0 < le q.payload 0 8) ∧ (le q.payload 0 8 < 2 ^ 63) ∧ (w.tooLate (le q.payload 8 8) = false) :=
  ⟨(wTim 2), State.elapse (wTim 2) 0, (wGot (wTim 2) (((wPkt 0x4001 (toLE 8 4000 ++ toLE 8 0)).asRow 0x4001))).1, 0, (wPkt 0x4001 (toLE 8 4000 ++ toLE 8 0)), ((wPkt 0x4001 (toLE 8 4000 ++ toLE 8 0)).asRow 0x4001), (wGot (wTim 2) (((wPkt 0x4001 (toLE 8 4000 ++ toLE 8 0)).asRow 0x4001))).2, rfl, rfl, wGot_spec (by decide +kernel), by decide +kernel⟩

theorem witness_timServoMode : ∃ (s u w : State) (dt : Nat) (p q : Pkt) (d : Deferred), (u = s.elapse dt) ∧ (q = p.asRow 0x4002) ∧ (Safety.admitted u q = some (w, d)) ∧ (q.payload.length = 8) ∧ (byteAt q.payload 0 ≤ 3) ∧ (byteAt q.payload 1 ≤ 3) ∧ ((byteAt q.payload 0 = 0 ↔ byteAt q.payload 1 ≠ 0)) ∧ (zeros q.payload 2 6 = true) ∧ (w.mu.norBad = false) :=
  ⟨(wCmd 2), State.elapse (wCmd 2) 0, (wGot (wCmd 2) (((wPkt 0x4002 [1,0,0,0,0,0,0,0]).asRow 0x4002))).1, 0, (wPkt 0x4002 [1,0,0,0,0,0,0,0]), ((wPkt 0x4002 [1,0,0,0,0,0,0,0]).asRow 0x4002), (wGot (wCmd 2) (((wPkt 0x4002 [1,0,0,0,0,0,0,0]).asRow 0x4002))).2, rfl, rfl, wGot_spec (by decide +kernel), by decide +kernel⟩

theorem witness_timRallyWrite : ∃ (s u w : State) (dt : Nat) (p q : Pkt) (d : Deferred), (u = s.elapse dt) ∧ (q = p.asRow 0x4010) ∧ (Safety.admitted u q = some (w, d)) ∧ (8 ≤ q.payload.length) ∧ (q.payload.length = 8 + 16 * byteAt q.payload 2) ∧ (byteAt q.payload 0 ≤ 5) ∧ (0 < byteAt q.payload 2) ∧ (byteAt q.payload 1 + byteAt q.payload 2 ≤ 64) ∧ (zeros q.payload 3 5 = true) ∧ ((List.range (byteAt q.payload 2)).all (fun i => w.rallyOk (byteAt q.payload 0) (le q.payload (8 + 16 * i) 16)) = true) ∧ (w.mu.norBad = false) :=
  ⟨(wCmd 2), State.elapse (wCmd 2) 0, (wGot (wCmd 2) (((wPkt 0x4010 ([0,0,1,0,0,0,0,0] ++ toLE 16 0)).asRow 0x4010))).1, 0, (wPkt 0x4010 ([0,0,1,0,0,0,0,0] ++ toLE 16 0)), ((wPkt 0x4010 ([0,0,1,0,0,0,0,0] ++ toLE 16 0)).asRow 0x4010), (wGot (wCmd 2) (((wPkt 0x4010 ([0,0,1,0,0,0,0,0] ++ toLE 16 0)).asRow 0x4010))).2, rfl, rfl, wGot_spec (by decide +kernel), by decide +kernel⟩

theorem witness_timTioConfig : ∃ (s u w : State) (dt : Nat) (p q : Pkt) (d : Deferred), (u = s.elapse dt) ∧ (q = p.asRow 0x4020) ∧ (Safety.admitted u q = some (w, d)) ∧ (q.payload.length = 12) ∧ (tioOk q.payload = true) ∧ (w.mu.norBad = false) :=
  ⟨(wCmd 2), State.elapse (wCmd 2) 0, (wGot (wCmd 2) (((wPkt 0x4020 (toLE 12 0)).asRow 0x4020))).1, 0, (wPkt 0x4020 (toLE 12 0)), ((wPkt 0x4020 (toLE 12 0)).asRow 0x4020), (wGot (wCmd 2) (((wPkt 0x4020 (toLE 12 0)).asRow 0x4020))).2, rfl, rfl, wGot_spec (by decide +kernel), by decide +kernel⟩

/-! ### TimelineEventsComplete -/

theorem witness_incrementApply : ∃ (s u : State) (dt : Nat) (i : PendInc), (u = s.elapse dt) ∧ (u.tl.pendInc = [i]) ∧ (i.apply ≤ u.now) :=
  ⟨{ wReady with tl := { pendInc := [⟨0xA00000001, 0, 0, none⟩] } }, State.elapse ({ wReady with tl := { pendInc := [⟨0xA00000001, 0, 0, none⟩] } }) 0, 0, ⟨0xA00000001, 0, 0, none⟩, rfl, by decide +kernel⟩

theorem witness_timeStepApply : ∃ (s u : State) (dt : Nat) (i : PendStep), (u = s.elapse dt) ∧ (u.tl.pendStep = [i]) ∧ (i.apply ≤ u.now) ∧ (u.anyEnabled = false) :=
  ⟨{ wReady with tl := { pendStep := [⟨4000, 0, none⟩] } }, State.elapse ({ wReady with tl := { pendStep := [⟨4000, 0, none⟩] } }) 0, 0, ⟨4000, 0, none⟩, rfl, by decide +kernel⟩

theorem witness_servoModeApply : ∃ (s u : State) (dt : Nat) (mode mask at_ sess : Nat), (u = s.elapse dt) ∧ (u.tl.pendMode = some (mode, mask, at_, sess)) ∧ (at_ < u.now) :=
  ⟨{ wReady with tl := { pendMode := some (2, 0, 0, 0) } }, State.elapse ({ wReady with tl := { pendMode := some (2, 0, 0, 0) } }) 0, 0, 2, 0, 0, 0, rfl, by decide +kernel⟩

theorem witness_ptpSyncRx : ∃ (s u : State) (dt : Nat) (port : Fin 2) (source : Nat) (gmTime : PtpTime) (logSync : Int) (followUp : Bool), (u = s.elapse dt) ∧ (u.isReady = true) ∧ (u.cpStands = false) ∧ (u.servoSel = 0) ∧ (bit (u.obj Obj.TIM_SERVO_PORTS) port.val = true) ∧ ((u.ethU port.val).on = true) ∧ ((u.ethU port.val).portState = 2) ∧ ((u.ethU port.val).asCapable = true) ∧ ((u.ethU port.val).parent = source) ∧ (followUp = true) ∧ (u.inFlask = false) :=
  ⟨{ wReady with eth := [(0, { on := true, portState := 2, asCapable := true, parent := 7 })] }, State.elapse ({ wReady with eth := [(0, { on := true, portState := 2, asCapable := true, parent := 7 })] }) 0, 0, 0, 7, { seconds := 1, nanos := 0, corr := 0 }, -3, true, rfl, by decide +kernel⟩

theorem witness_gmTimeout : ∃ (s u : State) (dt : Nat) (e : Nat), (u = s.elapse dt) ∧ (u.servoSel = 0) ∧ (u.tl.gmDeadline = some e) ∧ (e ≤ u.clk) ∧ (u.ownTime = true) ∧ (u.syncComes = false) :=
  ⟨{ wReady with tl := { gmDeadline := some 5, status := .synced } }, State.elapse ({ wReady with tl := { gmDeadline := some 5, status := .synced } }) 0, 0, 5, rfl, by decide +kernel⟩

theorem witness_ringAlignTimeout : ∃ (s u : State) (dt : Nat) (e : Nat), (u = s.elapse dt) ∧ (u.servoSel = 3) ∧ (u.tl.gmDeadline = some e) ∧ (e ≤ u.clk) ∧ (u.ownTime = true) ∧ (u.alignComes = false) :=
  ⟨{ wReady with tl := { gmDeadline := some 5, status := .synced }, dict := { vals := [(Obj.TIM_SERVO_SEL, 3)] } }, State.elapse ({ wReady with tl := { gmDeadline := some 5, status := .synced }, dict := { vals := [(Obj.TIM_SERVO_SEL, 3)] } }) 0, 0, 5, rfl, by decide +kernel⟩

theorem witness_holdoverMaxExpire : ∃ (s u : State) (dt : Nat) (e : Nat), (u = s.elapse dt) ∧ (u.tl.status = .holdover) ∧ (u.tl.holdEntry = some e) ∧ (e + u.obj Obj.TIM_HOLDOVER_MAX * sUnits ≤ u.clk) ∧ (u.ownTime = true) ∧ (u.holdoverEnds = false) :=
  ⟨{ wReady with time := { ctr := 4000000000000000000, running := true }, tl := { holdEntry := some 5, status := .holdover } }, State.elapse ({ wReady with time := { ctr := 4000000000000000000, running := true }, tl := { holdEntry := some 5, status := .holdover } }) 0, 0, 5, rfl, by decide +kernel⟩

theorem witness_hostWatchdogExpire : ∃ (s u : State) (dt : Nat) (e : Nat), (u = s.elapse dt) ∧ (u.servoSel = 1) ∧ (u.tl.hostDeadline = some e) ∧ (e ≤ u.clk) ∧ (u.ownTime = true) ∧ (u.incrementComes = false) :=
  ⟨{ wReady with tl := { hostDeadline := some 5, status := .synced }, dict := { vals := [(Obj.TIM_SERVO_SEL, 1)] } }, State.elapse ({ wReady with tl := { hostDeadline := some 5, status := .synced }, dict := { vals := [(Obj.TIM_SERVO_SEL, 1)] } }) 0, 0, 5, rfl, by decide +kernel⟩

/-! ### QueuePairAndPcieCommandsComplete -/

theorem witness_sqTailDoorbell : ∃ (s u : State) (dt : Nat) (n : Fin 16) (v : Word), (u = s.elapse dt) ∧ (u.pciePair n.val = true) :=
  ⟨{ wReady with host := { pairs := [(5, { en := true, depth := 4, vector := 1 })] } }, State.elapse ({ wReady with host := { pairs := [(5, { en := true, depth := 4, vector := 1 })] } }) 0, 0, 5, 3#32, rfl, by decide +kernel⟩

theorem witness_cqHeadDoorbell : ∃ (s u : State) (dt : Nat) (n : Fin 16) (v : Word), (u = s.elapse dt) ∧ (u.pciePair n.val = true) :=
  ⟨{ wReady with host := { pairs := [(5, { en := true, depth := 4, vector := 1 })] } }, State.elapse ({ wReady with host := { pairs := [(5, { en := true, depth := 4, vector := 1 })] } }) 0, 0, 5, 16#32, rfl, by decide +kernel⟩

theorem witness_qcfgEnable : ∃ (s u : State) (dt : Nat) (n : Fin 16) (v : Word), (u = s.elapse dt) ∧ (u.isReady = true) ∧ ((u.pair n.val).en = false) ∧ (u.isSpi n.val = false) :=
  ⟨wReady, State.elapse wReady 0, 0, 5, 0xA0400000#32, rfl, by decide +kernel⟩

theorem witness_qcfgDisable : ∃ (s u : State) (dt : Nat) (n : Fin 16) (v : Word), (u = s.elapse dt) ∧ ((u.pair n.val).en = true) :=
  ⟨{ wReady with host := { pairs := [(5, { en := true, depth := 4, vector := 1 })] } }, State.elapse ({ wReady with host := { pairs := [(5, { en := true, depth := 4, vector := 1 })] } }) 0, 0, 5, 0#32, rfl, by decide +kernel⟩

theorem witness_completionPost : ∃ (s u : State) (dt : Nat) (k : Fin 16) (r : Reply) (rest : List Reply), (u = s.elapse dt) ∧ ((u.pair k.val).waiting = r :: rest) ∧ ((u.pair k.val).en = true ∨ u.isSpi k.val = true) ∧ ((u.pair k.val).posted.length < u.pairCap k.val) ∧ (u.cpStands = false) :=
  ⟨{ wReady with host := { pairs := [(5, { en := true, depth := 4, vector := 1, waiting := [mkReply {} 0 false 0 0 0 []] })] } }, State.elapse ({ wReady with host := { pairs := [(5, { en := true, depth := 4, vector := 1, waiting := [mkReply {} 0 false 0 0 0 []] })] } }) 0, 0, 5, mkReply {} 0 false 0 0 0 [], [], rfl, by decide +kernel⟩

theorem witness_mbxGo : ∃ (s u : State) (dt : Nat), (u = s.elapse dt) ∧ (u.mu.booted = true) ∧ (u.host.mbxBusy = false) ∧ (u.mu.restarting = false) :=
  ⟨wReady, State.elapse wReady 0, 0, rfl, by decide +kernel⟩

theorem witness_registerWriteMailbox : ∃ (s u : State) (dt : Nat) (o : Nat) (v : Word), (u = s.elapse dt) ∧ (o % 4 = 0) ∧ (0x2000 ≤ o) ∧ (o < 0x3000) :=
  ⟨wReady, State.elapse wReady 0, 0, 0x2010, 7#32, rfl, by decide +kernel⟩

theorem witness_registerWriteUnmapped : ∃ (s u : State) (dt : Nat) (bar2 : Bool) (o : Nat) (v : Word), (u = s.elapse dt) ∧ (o % 4 ≠ 0 ∨ 0x100000 ≤ o) :=
  ⟨wReady, State.elapse wReady 0, 0, true, 3, 7#32, rfl, by decide +kernel⟩

theorem witness_pcieLinkDownTimeout : ∃ (s u : State) (dt : Nat) (e : Nat), (u = s.elapse dt) ∧ (u.host.pcieDown = some e) ∧ (e < u.clk) :=
  ⟨{ wReady with host := { pcieDown := some 3, pairs := [(6, { en := true, depth := 4, vector := 1 })] } }, State.elapse ({ wReady with host := { pcieDown := some 3, pairs := [(6, { en := true, depth := 4, vector := 1 })] } }) 0, 0, 3, rfl, by decide +kernel⟩

theorem witness_pcieHostMemoryError : ∃ (s u : State) (dt : Nat) (k : Fin 16) (write : Bool), (u = s.elapse dt) ∧ (u.pciePair k.val = true) :=
  ⟨{ wReady with host := { pairs := [(5, { en := true, depth := 4, vector := 1 })] } }, State.elapse ({ wReady with host := { pairs := [(5, { en := true, depth := 4, vector := 1 })] } }) 0, 0, 5, true, rfl, by decide +kernel⟩

theorem witness_pcieLinkChange : ∃ (s u : State) (dt : Nat) (up : Bool), (u = s.elapse dt) ∧ (u.host.pcieDown = none) :=
  ⟨wReady, State.elapse wReady 0, 0, true, rfl, by decide +kernel⟩

/-! ### SpiTunnelAndNotifyCommandsComplete -/

theorem witness_spiSubmit : ∃ (s u : State) (dt : Nat) (k : Nat) (p : Pkt) (c n : Nat), (u = s.elapse dt) ∧ (u.spiPairs[k]? = some n) ∧ (u.mu.booted = true) ∧ (u.isReady = true) ∧ (c = 16 + p.len.toNat) ∧ ((u.pair n).owned < 8) :=
  ⟨wReady, State.elapse wReady 0, 0, 0, {}, 16, 0, rfl, by decide +kernel⟩

theorem witness_spiSubmitShort : ∃ (s u : State) (dt : Nat) (k : Nat) (p : Pkt) (c n : Nat), (u = s.elapse dt) ∧ (u.spiPairs[k]? = some n) ∧ (u.mu.booted = true) ∧ (c ≠ 16 + p.len.toNat) :=
  ⟨wReady, State.elapse wReady 0, 0, 0, {}, 15, 0, rfl, by decide +kernel⟩

theorem witness_spiFetch : ∃ (s u : State) (dt : Nat) (k : Fin 4) (c n : Nat) (x : Reply × Bool × Bool) (rest : List (Reply × Bool × Bool)), (u = s.elapse dt) ∧ (u.spiPairs[k.val]? = some n) ∧ ((u.pair n).posted = x :: rest) ∧ (6 + x.1.bytes.length ≤ c) :=
  ⟨{ wReady with host := { pairs := [(0, { posted := [(mkReply {} 0 false 0 0 0 [], true, false)] })] } }, State.elapse ({ wReady with host := { pairs := [(0, { posted := [(mkReply {} 0 false 0 0 0 [], true, false)] })] } }) 0, 0, 0, 100, 0, (mkReply {} 0 false 0 0 0 [], true, false), [], rfl, by decide +kernel⟩

theorem witness_cmdDatagramRx : ∃ (s u : State) (dt : Nat) (k : Fin 2) (x : Datagram) (y : Session), (u = s.elapse dt) ∧ (u.isReady = true) ∧ ((u.ethU k.val).on = true) ∧ ((u.ethU k.val).link = true) ∧ (x.version = 1) ∧ (x.frag = none) ∧ (x.session < 64) ∧ (u.sess x.session = some y) ∧ (y.link = .eth k.val) ∧ (x.tagOk = true) ∧ (y.rx < x.counter) :=
  ⟨{ wReady with eth := [(0, { on := true, link := true })], host := { sessions := [(3, some { level := 2, link := .eth 0, rx := 4 })] } }, State.elapse ({ wReady with eth := [(0, { on := true, link := true })], host := { sessions := [(3, some { level := 2, link := .eth 0, rx := 4 })] } }) 0, 0, 0, { version := 1, session := 3, counter := 9, tagOk := true, pkt := {} }, { level := 2, link := .eth 0, rx := 4 }, rfl, by decide +kernel⟩

theorem witness_cmdDatagramRxReplay : ∃ (s u : State) (dt : Nat) (k : Fin 2) (x : Datagram) (y : Session), (u = s.elapse dt) ∧ (u.isReady = true) ∧ ((u.ethU k.val).on = true) ∧ ((u.ethU k.val).link = true) ∧ (x.version = 1) ∧ (x.frag = none) ∧ (x.session < 64) ∧ (u.sess x.session = some y) ∧ (x.tagOk = false ∨ x.counter ≤ y.rx) :=
  ⟨{ wReady with eth := [(0, { on := true, link := true })], host := { sessions := [(3, some { level := 2, link := .eth 0, rx := 4 })] } }, State.elapse ({ wReady with eth := [(0, { on := true, link := true })], host := { sessions := [(3, some { level := 2, link := .eth 0, rx := 4 })] } }) 0, 0, 0, { version := 1, session := 3, counter := 4, tagOk := true, pkt := {} }, { level := 2, link := .eth 0, rx := 4 }, rfl, by decide +kernel⟩

theorem witness_ipv4ReassemblyTimeout : ∃ (s u : State) (dt : Nat) (k : Fin 4) (i e n : Nat), (u = s.elapse dt) ∧ (bfind u.host.reasm k.val = some (i, e, n)) ∧ (e ≤ u.clk) ∧ (u.fragmentComes i = false) :=
  ⟨{ wReady with host := { reasm := [(1, (77, 5, 8))] } }, State.elapse ({ wReady with host := { reasm := [(1, (77, 5, 8))] } }) 0, 0, 1, 77, 5, 8, rfl, by decide +kernel⟩

theorem witness_canTunnelFrameRx : ∃ (s u : State) (dt : Nat) (c : Fin 4) (b : List Byte), (u = s.elapse dt) ∧ (u.canOn c.val = true) ∧ ((u.canU c.val).busOff = false) ∧ (bit (le (u.canU c.val).cfg 28 4) 31 = true) ∧ (b.length = 64) ∧ (bit (byteAt b 0) 7 = true) ∧ (bits (byteAt b 0) 5 0 = 0) :=
  ⟨{ wReady with can := [(0, { mode := 1, cfg := List.replicate 31 0#8 ++ [0x80#8] })] }, State.elapse ({ wReady with can := [(0, { mode := 1, cfg := List.replicate 31 0#8 ++ [0x80#8] })] }) 0, 0, 0, 0xC0#8 :: List.replicate 63 0#8, rfl, by decide +kernel⟩

theorem witness_canTunnelTimeout : ∃ (s u : State) (dt : Nat) (c : Fin 4), (u = s.elapse dt) ∧ ((u.canU c.val).tunnelNext.isSome = true) ∧ ((u.canU c.val).tunnelStart + 50 * msUnits ≤ u.clk) ∧ (u.segmentComes c = false) :=
  ⟨{ wReady with can := [(0, { tunnelNext := some 1 })] }, State.elapse ({ wReady with can := [(0, { tunnelNext := some 1 })] }) 0, 0, 0, rfl, by decide +kernel⟩

theorem witness_subscriptionNotify : ∃ (s u : State) (dt : Nat) (i : Fin 256) (x : Sub), (u = s.elapse dt) ∧ (bget none u.host.subs i.val = some x) ∧ (u.cpTakes = true) ∧ (x.due ≤ u.clk) ∧ (x.mode ≠ 2 ∨ u.readObj x.idx ≠ x.lastVal) :=
  ⟨{ wCmd 1 with host := { (wCmd 1).host with subs := [(2, some { session := 0, link := .pcie 4, seq := 9, idx := Obj.TIM_SERVO_SEL, mode := 1, period := 1000, accepted := 5, due := 100, lastVal := 0 })] } }, State.elapse ({ wCmd 1 with host := { (wCmd 1).host with subs := [(2, some { session := 0, link := .pcie 4, seq := 9, idx := Obj.TIM_SERVO_SEL, mode := 1, period := 1000, accepted := 5, due := 100, lastVal := 0 })] } }) 0, 0, 2, { session := 0, link := .pcie 4, seq := 9, idx := Obj.TIM_SERVO_SEL, mode := 1, period := 1000, accepted := 5, due := 100, lastVal := 0 }, rfl, by decide +kernel⟩

theorem witness_sessionIdleTimeout : ∃ (s u : State) (dt : Nat) (k : Fin 64) (x : Session) (m : Nat), (u = s.elapse dt) ∧ (u.sess k.val = some x) ∧ (x.link = .eth m ∨ x.link = .can m) ∧ (x.idle + u.obj Obj.HOST_ETH_IDLE * sUnits ≤ u.clk) ∧ (u.commandComes k.val = false) :=
  ⟨{ wReady with time := { ctr := 4000000000000000000, running := true }, host := { sessions := [(3, some { level := 2, link := .eth 0 })] } }, State.elapse ({ wReady with time := { ctr := 4000000000000000000, running := true }, host := { sessions := [(3, some { level := 2, link := .eth 0 })] } }) 0, 0, 3, { level := 2, link := .eth 0 }, 0, rfl, by decide +kernel⟩

/-! ### SystemOpcodesComplete -/

theorem witness_sysNop : ∃ (s u w : State) (dt : Nat) (p q : Pkt) (d : Deferred), (u = s.elapse dt) ∧ (q = p.asNop) ∧ (Safety.admitted u q = some (w, d)) ∧ (q.payload.length ≤ 4064) :=
  ⟨(wCmd 0), State.elapse (wCmd 0) 0, (wGot (wCmd 0) (((wPkt 0 [1, 2]).asNop))).1, 0, (wPkt 0 [1, 2]), ((wPkt 0 [1, 2]).asNop), (wGot (wCmd 0) (((wPkt 0 [1, 2]).asNop))).2, rfl, rfl, wGot_spec (by decide +kernel), by decide +kernel⟩

theorem witness_sysOpenSession : ∃ (s u w : State) (dt : Nat) (p q : Pkt) (d : Deferred) (n : Nat), (u = s.elapse dt) ∧ (q = p.asRow 0x0001) ∧ (Safety.admitted u q = some (w, d)) ∧ (q.payload.length = 132 + le q.payload 2 2) ∧ (byteAt q.payload 0 ≠ 3) ∧ (byteAt q.payload 0 ≤ 4) ∧ (byteAt q.payload 1 = 0) ∧ ((q.payload.drop 4).all (fun x => x = 0#8) = true) ∧ (w.linkAllows q.link (byteAt q.payload 0) = true) ∧ (openMethod q.link (byteAt q.payload 0) = 0) ∧ (((List.range 64).find? fun n => (w.sess n).isNone) = some n) :=
  ⟨(wCmd 0), State.elapse (wCmd 0) 0, (wGot (wCmd 0) (((wPkt 1 (1#8 :: List.replicate 131 0#8)).asRow 0x0001))).1, 0, (wPkt 1 (1#8 :: List.replicate 131 0#8)), ((wPkt 1 (1#8 :: List.replicate 131 0#8)).asRow 0x0001), (wGot (wCmd 0) (((wPkt 1 (1#8 :: List.replicate 131 0#8)).asRow 0x0001))).2, 1, rfl, rfl, wGot_spec (by decide +kernel), by decide +kernel⟩

theorem witness_sysOpenSessionAuth : ∃ (s u w : State) (dt : Nat) (p q : Pkt) (d : Deferred) (n : Nat) (e : Nat × Nat) (signed : Bool), (u = s.elapse dt) ∧ (q = p.asRow 0x0001) ∧ (Safety.admitted u q = some (w, d)) ∧ (q.payload.length = 132 + le q.payload 2 2) ∧ (byteAt q.payload 0 ≠ 3) ∧ (byteAt q.payload 0 ≤ 4) ∧ (byteAt q.payload 1 ≤ 2) ∧ (byteAt q.payload 1 ≠ 0) ∧ (w.linkAllows q.link (byteAt q.payload 0) = true) ∧ (openMethod q.link (byteAt q.payload 0) = byteAt q.payload 1) ∧ (((List.range 64).find? fun n => (w.sess n).isNone) = some n) ∧ (signed = (decide (byteAt q.payload 1 = 2) || (decide (byteAt q.payload 1 = 1) && decide (byteAt q.payload 0 ≠ 0)))) ∧ (((w.host.nonce.filter fun e => w.clk ≤ e.2).find? fun e => !signed || w.openAuth q (byteAt q.payload 0) e.1) = some e) :=
  ⟨(wEth (wOpen)), State.elapse (wEth (wOpen)) 0, (wGot (wEth (wOpen)) (((wOpen).asRow 0x0001))).1, 0, (wOpen), ((wOpen).asRow 0x0001), (wGot (wEth (wOpen)) (((wOpen).asRow 0x0001))).2, 0, (7, 5000000000), false, rfl, rfl, wGot_spec (by decide +kernel), by decide +kernel⟩

theorem witness_sysCloseSession : ∃ (s u w : State) (dt : Nat) (p q : Pkt) (d : Deferred), (u = s.elapse dt) ∧ (q = p.asRow 0x0002) ∧ (Safety.admitted u q = some (w, d)) ∧ (q.payload.length = 0) :=
  ⟨(wCmd 0), State.elapse (wCmd 0) 0, (wGot (wCmd 0) (((wPkt 2 []).asRow 0x0002))).1, 0, (wPkt 2 []), ((wPkt 2 []).asRow 0x0002), (wGot (wCmd 0) (((wPkt 2 []).asRow 0x0002))).2, rfl, rfl, wGot_spec (by decide +kernel), by decide +kernel⟩

theorem witness_sysGetInfo : ∃ (s u w : State) (dt : Nat) (p q : Pkt) (d : Deferred), (u = s.elapse dt) ∧ (q = p.asRow 0x0003) ∧ (Safety.admitted u q = some (w, d)) ∧ (q.payload.length = 0) :=
  ⟨(wCmd 0), State.elapse (wCmd 0) 0, (wGot (wCmd 0) (((wPkt 3 []).asRow 0x0003))).1, 0, (wPkt 3 []), ((wPkt 3 []).asRow 0x0003), (wGot (wCmd 0) (((wPkt 3 []).asRow 0x0003))).2, rfl, rfl, wGot_spec (by decide +kernel), by decide +kernel⟩

theorem witness_sysReset : ∃ (s u w : State) (dt : Nat) (p q : Pkt) (d : Deferred), (u = s.elapse dt) ∧ (q = (p.asRow 0x0010).withSel 0 0) ∧ (Safety.admitted u q = some (w, d)) ∧ (q.payload.length = 4) ∧ (zeros q.payload 1 3 = true) ∧ (w.resetState = true) ∧ (w.resetLocked = false) :=
  ⟨(wCmd 2), State.elapse (wCmd 2) 0, (wGot (wCmd 2) ((((wPkt 0x10 [0, 0, 0, 0]).asRow 0x0010).withSel 0 0))).1, 0, (wPkt 0x10 [0, 0, 0, 0]), (((wPkt 0x10 [0, 0, 0, 0]).asRow 0x0010).withSel 0 0), (wGot (wCmd 2) ((((wPkt 0x10 [0, 0, 0, 0]).asRow 0x0010).withSel 0 0))).2, rfl, rfl, wGot_spec (by decide +kernel), by decide +kernel⟩

theorem witness_sysResetActivate : ∃ (s u w : State) (dt : Nat) (p q : Pkt) (d : Deferred), (u = s.elapse dt) ∧ (q = (p.asRow 0x0010).withSel 0 1) ∧ (Safety.admitted u q = some (w, d)) ∧ (q.payload.length = 4) ∧ (zeros q.payload 1 3 = true) ∧ (w.resetState = true) ∧ (w.resetLocked = false) ∧ ((w.mu.banks.getD (1 - w.mu.active) {}).state = 3) :=
  ⟨({ wCmd 2 with mu := { wMu with banks := [{}, { state := 3 }] } }), State.elapse ({ wCmd 2 with mu := { wMu with banks := [{}, { state := 3 }] } }) 0, (wGot ({ wCmd 2 with mu := { wMu with banks := [{}, { state := 3 }] } }) ((((wPkt 0x10 [1, 0, 0, 0]).asRow 0x0010).withSel 0 1))).1, 0, (wPkt 0x10 [1, 0, 0, 0]), (((wPkt 0x10 [1, 0, 0, 0]).asRow 0x0010).withSel 0 1), (wGot ({ wCmd 2 with mu := { wMu with banks := [{}, { state := 3 }] } }) ((((wPkt 0x10 [1, 0, 0, 0]).asRow 0x0010).withSel 0 1))).2, rfl, rfl, wGot_spec (by decide +kernel), by decide +kernel⟩

theorem witness_sysFuncReinitUnitSlice : ∃ (s u w : State) (dt : Nat) (p q : Pkt) (d : Deferred) (k : Nat), (u = s.elapse dt) ∧ (q = (p.asRow 0x0011).withSel 0 0) ∧ (Safety.admitted u q = some (w, d)) ∧ (q.payload.length = 4) ∧ (zeros q.payload 1 3 = true) ∧ (q.target.toNat = k) ∧ (k < 6) ∧ (w.enabled k = false) ∧ (w.fenced k = false) :=
  ⟨(wCmd 2), State.elapse (wCmd 2) 0, (wGot (wCmd 2) ((((wPkt 0x11 [0, 0, 0, 0] 3).asRow 0x0011).withSel 0 0))).1, 0, (wPkt 0x11 [0, 0, 0, 0] 3), (((wPkt 0x11 [0, 0, 0, 0] 3).asRow 0x0011).withSel 0 0), (wGot (wCmd 2) ((((wPkt 0x11 [0, 0, 0, 0] 3).asRow 0x0011).withSel 0 0))).2, 3, rfl, rfl, wGot_spec (by decide +kernel), by decide +kernel⟩

theorem witness_sysFuncReinitUnitCan : ∃ (s u w : State) (dt : Nat) (p q : Pkt) (d : Deferred) (c : Nat), (u = s.elapse dt) ∧ (q = (p.asRow 0x0011).withSel 0 0) ∧ (Safety.admitted u q = some (w, d)) ∧ (q.payload.length = 4) ∧ (zeros q.payload 1 3 = true) ∧ (q.target.toNat = 0x10 + c) ∧ (c < 4) ∧ (w.fenced (8 + c) = false) :=
  ⟨(wCmd 2), State.elapse (wCmd 2) 0, (wGot (wCmd 2) ((((wPkt 0x11 [0, 0, 0, 0] 0x11).asRow 0x0011).withSel 0 0))).1, 0, (wPkt 0x11 [0, 0, 0, 0] 0x11), (((wPkt 0x11 [0, 0, 0, 0] 0x11).asRow 0x0011).withSel 0 0), (wGot (wCmd 2) ((((wPkt 0x11 [0, 0, 0, 0] 0x11).asRow 0x0011).withSel 0 0))).2, 1, rfl, rfl, wGot_spec (by decide +kernel), by decide +kernel⟩

theorem witness_sysFuncReinitUnitEth : ∃ (s u w : State) (dt : Nat) (p q : Pkt) (d : Deferred) (m : Nat), (u = s.elapse dt) ∧ (q = (p.asRow 0x0011).withSel 0 0) ∧ (Safety.admitted u q = some (w, d)) ∧ (q.payload.length = 4) ∧ (zeros q.payload 1 3 = true) ∧ (q.target.toNat = 0x18 + m) ∧ (m < 2) :=
  ⟨(wCmd 2), State.elapse (wCmd 2) 0, (wGot (wCmd 2) ((((wPkt 0x11 [0, 0, 0, 0] 0x19).asRow 0x0011).withSel 0 0))).1, 0, (wPkt 0x11 [0, 0, 0, 0] 0x19), (((wPkt 0x11 [0, 0, 0, 0] 0x19).asRow 0x0011).withSel 0 0), (wGot (wCmd 2) ((((wPkt 0x11 [0, 0, 0, 0] 0x19).asRow 0x0011).withSel 0 0))).2, 1, rfl, rfl, wGot_spec (by decide +kernel), by decide +kernel⟩

theorem witness_sysFuncReinitUnitLink : ∃ (s u w : State) (dt : Nat) (p q : Pkt) (d : Deferred) (l : Nat), (u = s.elapse dt) ∧ (q = (p.asRow 0x0011).withSel 0 0) ∧ (Safety.admitted u q = some (w, d)) ∧ (q.payload.length = 4) ∧ (zeros q.payload 1 3 = true) ∧ (q.target.toNat = 0x20 + l) ∧ (l < 24) ∧ (w.fenced (24 + l) = false) ∧ (6 ≤ w.linkSlice l ∨ w.enabled (w.linkSlice l) = false) :=
  ⟨(wCmd 2), State.elapse (wCmd 2) 0, (wGot (wCmd 2) ((((wPkt 0x11 [0, 0, 0, 0] 0x21).asRow 0x0011).withSel 0 0))).1, 0, (wPkt 0x11 [0, 0, 0, 0] 0x21), (((wPkt 0x11 [0, 0, 0, 0] 0x21).asRow 0x0011).withSel 0 0), (wGot (wCmd 2) ((((wPkt 0x11 [0, 0, 0, 0] 0x21).asRow 0x0011).withSel 0 0))).2, 1, rfl, rfl, wGot_spec (by decide +kernel), by decide +kernel⟩

theorem witness_sysFuncReinitPair : ∃ (s u w : State) (dt : Nat) (p q : Pkt) (d : Deferred) (n : Nat), (u = s.elapse dt) ∧ (q = (p.asRow 0x0011).withSel 0 1) ∧ (Safety.admitted u q = some (w, d)) ∧ (q.payload.length = 4) ∧ (byteAt q.payload 1 = n) ∧ (zeros q.payload 2 2 = true) ∧ (w.pairOf q.link ≠ some n) ∧ (n ≤ 15) :=
  ⟨(wCmd 2), State.elapse (wCmd 2) 0, (wGot (wCmd 2) ((((wPkt 0x11 [1, 7, 0, 0]).asRow 0x0011).withSel 0 1))).1, 0, (wPkt 0x11 [1, 7, 0, 0]), (((wPkt 0x11 [1, 7, 0, 0]).asRow 0x0011).withSel 0 1), (wGot (wCmd 2) ((((wPkt 0x11 [1, 7, 0, 0]).asRow 0x0011).withSel 0 1))).2, 7, rfl, rfl, wGot_spec (by decide +kernel), by decide +kernel⟩

theorem witness_sysFuncReinitContext : ∃ (s u w : State) (dt : Nat) (p q : Pkt) (d : Deferred) (n : Nat), (u = s.elapse dt) ∧ (q = (p.asRow 0x0011).withSel 0 2) ∧ (Safety.admitted u q = some (w, d)) ∧ (q.payload.length = 4) ∧ (byteAt q.payload 1 = n) ∧ (zeros q.payload 2 2 = true) ∧ (n ≤ 63) ∧ ((w.ctx n).hdr ≠ 0) ∧ (6 ≤ hSlice (w.ctx n).hdr ∨ w.enabled (hSlice (w.ctx n).hdr) = false) :=
  ⟨({ wCmd 2 with eng := { ctxs := [(7, { hdr := 5 })] } }), State.elapse ({ wCmd 2 with eng := { ctxs := [(7, { hdr := 5 })] } }) 0, (wGot ({ wCmd 2 with eng := { ctxs := [(7, { hdr := 5 })] } }) ((((wPkt 0x11 [2, 7, 0, 0]).asRow 0x0011).withSel 0 2))).1, 0, (wPkt 0x11 [2, 7, 0, 0]), (((wPkt 0x11 [2, 7, 0, 0]).asRow 0x0011).withSel 0 2), (wGot ({ wCmd 2 with eng := { ctxs := [(7, { hdr := 5 })] } }) ((((wPkt 0x11 [2, 7, 0, 0]).asRow 0x0011).withSel 0 2))).2, 7, rfl, rfl, wGot_spec (by decide +kernel), by decide +kernel⟩

theorem witness_sysFuncReinitAux : ∃ (s u w : State) (dt : Nat) (p q : Pkt) (d : Deferred) (n : Nat), (u = s.elapse dt) ∧ (q = (p.asRow 0x0011).withSel 0 3) ∧ (Safety.admitted u q = some (w, d)) ∧ (q.payload.length = 4) ∧ (byteAt q.payload 1 = n) ∧ (zeros q.payload 2 2 = true) ∧ (n ≤ 3) ∧ (w.fenced (12 + n) = false) :=
  ⟨({ wCmd 2 with aux := [(1, { settle := true })] }), State.elapse ({ wCmd 2 with aux := [(1, { settle := true })] }) 0, (wGot ({ wCmd 2 with aux := [(1, { settle := true })] }) ((((wPkt 0x11 [3, 1, 0, 0]).asRow 0x0011).withSel 0 3))).1, 0, (wPkt 0x11 [3, 1, 0, 0]), (((wPkt 0x11 [3, 1, 0, 0]).asRow 0x0011).withSel 0 3), (wGot ({ wCmd 2 with aux := [(1, { settle := true })] }) ((((wPkt 0x11 [3, 1, 0, 0]).asRow 0x0011).withSel 0 3))).2, 1, rfl, rfl, wGot_spec (by decide +kernel), by decide +kernel⟩

theorem witness_sysFuncReinitEncoder : ∃ (s u w : State) (dt : Nat) (p q : Pkt) (d : Deferred) (n : Nat), (u = s.elapse dt) ∧ (q = (p.asRow 0x0011).withSel 0 4) ∧ (Safety.admitted u q = some (w, d)) ∧ (q.payload.length = 4) ∧ (byteAt q.payload 1 = n) ∧ (zeros q.payload 2 2 = true) ∧ (n ≤ 7) ∧ (w.fenced (16 + n) = false) ∧ (6 ≤ w.encOwner n ∨ w.enabled (w.encOwner n) = false) :=
  ⟨(wCmd 2), State.elapse (wCmd 2) 0, (wGot (wCmd 2) ((((wPkt 0x11 [4, 1, 0, 0]).asRow 0x0011).withSel 0 4))).1, 0, (wPkt 0x11 [4, 1, 0, 0]), (((wPkt 0x11 [4, 1, 0, 0]).asRow 0x0011).withSel 0 4), (wGot (wCmd 2) ((((wPkt 0x11 [4, 1, 0, 0]).asRow 0x0011).withSel 0 4))).2, 1, rfl, rfl, wGot_spec (by decide +kernel), by decide +kernel⟩

theorem witness_sysPwrcycleReq : ∃ (s u w : State) (dt : Nat) (p q : Pkt) (d : Deferred), (u = s.elapse dt) ∧ (q = p.asRow 0x0012) ∧ (Safety.admitted u q = some (w, d)) ∧ (q.payload.length = 4) ∧ (zeros q.payload 0 4 = true) ∧ (w.inFlask = false ∨ w.isActive = true) ∧ (w.resetLocked = false) :=
  ⟨(wCmd 4), State.elapse (wCmd 4) 0, (wGot (wCmd 4) (((wPkt 0x12 [0, 0, 0, 0] 0x0F).asRow 0x0012))).1, 0, (wPkt 0x12 [0, 0, 0, 0] 0x0F), ((wPkt 0x12 [0, 0, 0, 0] 0x0F).asRow 0x0012), (wGot (wCmd 4) (((wPkt 0x12 [0, 0, 0, 0] 0x0F).asRow 0x0012))).2, rfl, rfl, wGot_spec (by decide +kernel), by decide +kernel⟩

/-! ### ObjectOpcodesComplete -/

theorem witness_objRead : ∃ (s u w : State) (dt : Nat) (p q : Pkt) (d : Deferred) (i : Nat), (u = s.elapse dt) ∧ (q = p.asRow 0x1000) ∧ (Safety.admitted u q = some (w, d)) ∧ (q.payload.length = 8) ∧ (le q.payload 0 4 = i) ∧ (zeros q.payload 4 4 = true) ∧ (i ≤ 0x1FFFF) ∧ ((descOf i).isSome = true) :=
  ⟨(wCmd 0), State.elapse (wCmd 0) 0, (wGot (wCmd 0) (((wPkt 0x1000 (toLE 8 Obj.TIM_SERVO_SEL)).asRow 0x1000))).1, 0, (wPkt 0x1000 (toLE 8 Obj.TIM_SERVO_SEL)), ((wPkt 0x1000 (toLE 8 Obj.TIM_SERVO_SEL)).asRow 0x1000), (wGot (wCmd 0) (((wPkt 0x1000 (toLE 8 Obj.TIM_SERVO_SEL)).asRow 0x1000))).2, Obj.TIM_SERVO_SEL, rfl, rfl, wGot_spec (by decide +kernel), by decide +kernel⟩

theorem witness_ethTxtsPop : ∃ (s u w : State) (dt : Nat) (p q : Pkt) (d : Deferred) (k : Fin 2) (x : TxStamp) (rest : List TxStamp), (u = s.elapse dt) ∧ (q = (p.asRow 0x1000).withIdx (Obj.ETH0_TXTS_POP + 0x10 * k.val)) ∧ (Safety.admitted u q = some (w, d)) ∧ (q.payload.length = 8) ∧ (le q.payload 0 4 = Obj.ETH0_TXTS_POP + 0x10 * k.val) ∧ (zeros q.payload 4 4 = true) ∧ ((w.ethU k.val).txts = x :: rest) :=
  ⟨({ wCmd 0 with eth := [(1, { txts := [⟨5, 6, 7⟩] })] }), State.elapse ({ wCmd 0 with eth := [(1, { txts := [⟨5, 6, 7⟩] })] }) 0, (wGot ({ wCmd 0 with eth := [(1, { txts := [⟨5, 6, 7⟩] })] }) ((((wPkt 0x1000 (toLE 8 (Obj.ETH0_TXTS_POP + 0x10))).asRow 0x1000).withIdx (Obj.ETH0_TXTS_POP + 0x10 * 1)))).1, 0, (wPkt 0x1000 (toLE 8 (Obj.ETH0_TXTS_POP + 0x10))), (((wPkt 0x1000 (toLE 8 (Obj.ETH0_TXTS_POP + 0x10))).asRow 0x1000).withIdx (Obj.ETH0_TXTS_POP + 0x10 * 1)), (wGot ({ wCmd 0 with eth := [(1, { txts := [⟨5, 6, 7⟩] })] }) ((((wPkt 0x1000 (toLE 8 (Obj.ETH0_TXTS_POP + 0x10))).asRow 0x1000).withIdx (Obj.ETH0_TXTS_POP + 0x10 * 1)))).2, 1, ⟨5, 6, 7⟩, [], rfl, rfl, wGot_spec (by decide +kernel), by decide +kernel⟩

theorem witness_objReadBlock : ∃ (s u w : State) (dt : Nat) (p q : Pkt) (d : Deferred) (i n : Nat) (m : Bool), (u = s.elapse dt) ∧ (q = p.asRow 0x1002) ∧ (Safety.admitted u q = some (w, d)) ∧ (q.payload.length = 8) ∧ (le q.payload 0 4 = i) ∧ (le q.payload 4 2 = n) ∧ (byteAt q.payload 6 = (if m then 1 else 0)) ∧ (zeros q.payload 7 1 = true) ∧ (0 < n) ∧ (n ≤ (if m then 96 else 160)) ∧ (i + n ≤ 0x20000) :=
  ⟨(wCmd 0), State.elapse (wCmd 0) 0, (wGot (wCmd 0) (((wPkt 0x1002 (toLE 4 Obj.TIM_SERVO_SEL ++ [2, 0, 0, 0])).asRow 0x1002))).1, 0, (wPkt 0x1002 (toLE 4 Obj.TIM_SERVO_SEL ++ [2, 0, 0, 0])), ((wPkt 0x1002 (toLE 4 Obj.TIM_SERVO_SEL ++ [2, 0, 0, 0])).asRow 0x1002), (wGot (wCmd 0) (((wPkt 0x1002 (toLE 4 Obj.TIM_SERVO_SEL ++ [2, 0, 0, 0])).asRow 0x1002))).2, Obj.TIM_SERVO_SEL, 2, false, rfl, rfl, wGot_spec (by decide +kernel), by decide +kernel⟩

theorem witness_objWrite : ∃ (s u w : State) (dt : Nat) (p q : Pkt) (d : Deferred) (r : ObjRec) (y : Desc), (u = s.elapse dt) ∧ (q = p.asRow 0x1001) ∧ (Safety.admitted u q = some (w, d)) ∧ (q.payload.length = 24) ∧ (w.recCheck q q.payload 0 = stOk) ∧ (recAt q.payload 0 = r) ∧ (descOf r.idx = some y) ∧ (safIdx r.idx = false) ∧ (y.acc ≠ 3) :=
  ⟨(wCmd 2), State.elapse (wCmd 2) 0, (wGot (wCmd 2) (((wPkt 0x1001 (wRec 32772 4 1000)).asRow 0x1001))).1, 0, (wPkt 0x1001 (wRec 32772 4 1000)), ((wPkt 0x1001 (wRec 32772 4 1000)).asRow 0x1001), (wGot (wCmd 2) (((wPkt 0x1001 (wRec 32772 4 1000)).asRow 0x1001))).2, recAt (wPkt 0x1001 (wRec 32772 4 1000)).payload 0, descTim, rfl, rfl, wGot_spec (by decide +kernel), by decide +kernel⟩

theorem witness_objWriteBlock : ∃ (s u w : State) (dt : Nat) (p q : Pkt) (d : Deferred) (n : Nat), (u = s.elapse dt) ∧ (q = p.asRow 0x1003) ∧ (Safety.admitted u q = some (w, d)) ∧ (q.payload.length = 8 + 24 * n) ∧ (le q.payload 0 2 = n) ∧ (0 < n) ∧ (n ≤ 169) ∧ (zeros q.payload 2 6 = true) ∧ (((List.range n).find? fun j => w.blockCheck q j ≠ stOk) = none) :=
  ⟨(wCmd 2), State.elapse (wCmd 2) 0, (wGot (wCmd 2) (((wPkt 0x1003 (toLE 8 1 ++ wRec 0x8004 4 1000)).asRow 0x1003))).1, 0, (wPkt 0x1003 (toLE 8 1 ++ wRec 0x8004 4 1000)), ((wPkt 0x1003 (toLE 8 1 ++ wRec 0x8004 4 1000)).asRow 0x1003), (wGot (wCmd 2) (((wPkt 0x1003 (toLE 8 1 ++ wRec 0x8004 4 1000)).asRow 0x1003))).2, 1, rfl, rfl, wGot_spec (by decide +kernel), by decide +kernel⟩

theorem witness_auxHostTrig : ∃ (s u w : State) (dt : Nat) (p q : Pkt) (d : Deferred) (r : ObjRec), (u = s.elapse dt) ∧ (q = (p.asRow 0x1001).withIdx Obj.AUX_HOST_TRIG) ∧ (Safety.admitted u q = some (w, d)) ∧ (q.payload.length = 24) ∧ (w.recCheck q q.payload 0 = stOk) ∧ (recAt q.payload 0 = r) ∧ (r.idx = Obj.AUX_HOST_TRIG) :=
  ⟨({ wCmd 2 with dict := { vals := [(Obj.AUX_CFG, 0xA0000000)] } }), State.elapse ({ wCmd 2 with dict := { vals := [(Obj.AUX_CFG, 0xA0000000)] } }) 0, (wGot ({ wCmd 2 with dict := { vals := [(Obj.AUX_CFG, 0xA0000000)] } }) ((((wPkt 0x1001 (wRec Obj.AUX_HOST_TRIG 3 2)).asRow 0x1001).withIdx Obj.AUX_HOST_TRIG))).1, 0, (wPkt 0x1001 (wRec Obj.AUX_HOST_TRIG 3 2)), (((wPkt 0x1001 (wRec Obj.AUX_HOST_TRIG 3 2)).asRow 0x1001).withIdx Obj.AUX_HOST_TRIG), (wGot ({ wCmd 2 with dict := { vals := [(Obj.AUX_CFG, 0xA0000000)] } }) ((((wPkt 0x1001 (wRec Obj.AUX_HOST_TRIG 3 2)).asRow 0x1001).withIdx Obj.AUX_HOST_TRIG))).2, recAt (wRec Obj.AUX_HOST_TRIG 3 2) 0, rfl, rfl, wGot_spec (by decide +kernel), by decide +kernel⟩

theorem witness_encSsiTrig : ∃ (s u w : State) (dt : Nat) (p q : Pkt) (d : Deferred) (r : ObjRec), (u = s.elapse dt) ∧ (q = (p.asRow 0x1001).withIdx Obj.ENC_SSI_TRIG) ∧ (Safety.admitted u q = some (w, d)) ∧ (q.payload.length = 24) ∧ (w.recCheck q q.payload 0 = stOk) ∧ (recAt q.payload 0 = r) ∧ (r.idx = Obj.ENC_SSI_TRIG) :=
  ⟨({ wCmd 2 with dict := { vals := [(Obj.ENC_CFG + 1, 12 * 2 ^ 124)] } }), State.elapse ({ wCmd 2 with dict := { vals := [(Obj.ENC_CFG + 1, 12 * 2 ^ 124)] } }) 0, (wGot ({ wCmd 2 with dict := { vals := [(Obj.ENC_CFG + 1, 12 * 2 ^ 124)] } }) ((((wPkt 0x1001 (wRec Obj.ENC_SSI_TRIG 2 1)).asRow 0x1001).withIdx Obj.ENC_SSI_TRIG))).1, 0, (wPkt 0x1001 (wRec Obj.ENC_SSI_TRIG 2 1)), (((wPkt 0x1001 (wRec Obj.ENC_SSI_TRIG 2 1)).asRow 0x1001).withIdx Obj.ENC_SSI_TRIG), (wGot ({ wCmd 2 with dict := { vals := [(Obj.ENC_CFG + 1, 12 * 2 ^ 124)] } }) ((((wPkt 0x1001 (wRec Obj.ENC_SSI_TRIG 2 1)).asRow 0x1001).withIdx Obj.ENC_SSI_TRIG))).2, recAt (wRec Obj.ENC_SSI_TRIG 2 1) 0, rfl, rfl, wGot_spec (by decide +kernel), by decide +kernel⟩

theorem witness_mgtLifecycleReq : ∃ (s u w : State) (dt : Nat) (p q : Pkt) (d : Deferred) (r : ObjRec), (u = s.elapse dt) ∧ (q = (p.asRow 0x1001).withIdx Obj.MGT_LIFECYCLE_REQ) ∧ (Safety.admitted u q = some (w, d)) ∧ (q.payload.length = 24) ∧ (w.recCheck q q.payload 0 = stOk) ∧ (recAt q.payload 0 = r) ∧ (r.idx = Obj.MGT_LIFECYCLE_REQ) :=
  ⟨(wCmd 4), State.elapse (wCmd 4) 0, (wGot (wCmd 4) ((((wPkt 0x1001 (wRec Obj.MGT_LIFECYCLE_REQ 2 1)).asRow 0x1001).withIdx Obj.MGT_LIFECYCLE_REQ))).1, 0, (wPkt 0x1001 (wRec Obj.MGT_LIFECYCLE_REQ 2 1)), (((wPkt 0x1001 (wRec Obj.MGT_LIFECYCLE_REQ 2 1)).asRow 0x1001).withIdx Obj.MGT_LIFECYCLE_REQ), (wGot (wCmd 4) ((((wPkt 0x1001 (wRec Obj.MGT_LIFECYCLE_REQ 2 1)).asRow 0x1001).withIdx Obj.MGT_LIFECYCLE_REQ))).2, recAt (wRec Obj.MGT_LIFECYCLE_REQ 2 1) 0, rfl, rfl, wGot_spec (by decide +kernel), by decide +kernel⟩

theorem witness_mgtFeatureGate : ∃ (s u w : State) (dt : Nat) (p q : Pkt) (d : Deferred) (r : ObjRec), (u = s.elapse dt) ∧ (q = (p.asRow 0x1001).withIdx Obj.MGT_FEATURE_GATE) ∧ (Safety.admitted u q = some (w, d)) ∧ (q.payload.length = 24) ∧ (w.recCheck q q.payload 0 = stOk) ∧ (recAt q.payload 0 = r) ∧ (r.idx = Obj.MGT_FEATURE_GATE) :=
  ⟨({ wCmd 4 with mu := { wMu with ownGens := 0x010203 } }), State.elapse ({ wCmd 4 with mu := { wMu with ownGens := 0x010203 } }) 0, (wGot ({ wCmd 4 with mu := { wMu with ownGens := 0x010203 } }) ((((wPkt 0x1001 (wRec Obj.MGT_FEATURE_GATE 0x44 0x010203)).asRow 0x1001).withIdx Obj.MGT_FEATURE_GATE))).1, 0, (wPkt 0x1001 (wRec Obj.MGT_FEATURE_GATE 0x44 0x010203)), (((wPkt 0x1001 (wRec Obj.MGT_FEATURE_GATE 0x44 0x010203)).asRow 0x1001).withIdx Obj.MGT_FEATURE_GATE), (wGot ({ wCmd 4 with mu := { wMu with ownGens := 0x010203 } }) ((((wPkt 0x1001 (wRec Obj.MGT_FEATURE_GATE 0x44 0x010203)).asRow 0x1001).withIdx Obj.MGT_FEATURE_GATE))).2, recAt (wRec Obj.MGT_FEATURE_GATE 0x44 0x010203) 0, rfl, rfl, wGot_spec (by decide +kernel), by decide +kernel⟩

theorem witness_encCfgWrite : ∃ (s u w : State) (dt : Nat) (p q : Pkt) (d : Deferred) (n : Fin 8) (r : ObjRec), (u = s.elapse dt) ∧ (q = (p.asRow 0x1001).withIdx (Obj.ENC_CFG + n.val)) ∧ (Safety.admitted u q = some (w, d)) ∧ (q.payload.length = 24) ∧ (w.recCheck q q.payload 0 = stOk) ∧ (recAt q.payload 0 = r) ∧ (r.idx = Obj.ENC_CFG + n.val) :=
  ⟨(wCmd 2), State.elapse (wCmd 2) 0, (wGot (wCmd 2) ((((wPkt 0x1001 (wRec (Obj.ENC_CFG + 1) 0x50 0x1C10001403E800000000040000000000)).asRow 0x1001).withIdx (Obj.ENC_CFG + 1)))).1, 0, (wPkt 0x1001 (wRec (Obj.ENC_CFG + 1) 0x50 0x1C10001403E800000000040000000000)), (((wPkt 0x1001 (wRec (Obj.ENC_CFG + 1) 0x50 0x1C10001403E800000000040000000000)).asRow 0x1001).withIdx (Obj.ENC_CFG + 1)), (wGot (wCmd 2) ((((wPkt 0x1001 (wRec (Obj.ENC_CFG + 1) 0x50 0x1C10001403E800000000040000000000)).asRow 0x1001).withIdx (Obj.ENC_CFG + 1)))).2, 1, recAt (wRec (Obj.ENC_CFG + 1) 0x50 0x1C10001403E800000000040000000000) 0, rfl, rfl, wGot_spec (by decide +kernel), by decide +kernel⟩

theorem witness_objSubscribe : ∃ (s u w : State) (dt : Nat) (p q : Pkt) (d : Deferred) (i n : Nat), (u = s.elapse dt) ∧ (q = p.asRow 0x1010) ∧ (Safety.admitted u q = some (w, d)) ∧ (q.payload.length = 12) ∧ (le q.payload 0 4 = i) ∧ (i ≤ 0x1FFFF) ∧ ((descOf i).isSome = true) ∧ (byteAt q.payload 4 = 1 ∨ byteAt q.payload 4 = 2) ∧ (zeros q.payload 5 3 = true) ∧ (100 ≤ le q.payload 8 4) ∧ (le q.payload 8 4 ≤ 10000000) ∧ (w.freeSub = some n) :=
  ⟨(wCmd 0), State.elapse (wCmd 0) 0, (wGot (wCmd 0) (((wPkt 0x1010 (toLE 4 Obj.TIM_SERVO_SEL ++ [1, 0, 0, 0] ++ toLE 4 1000)).asRow 0x1010))).1, 0, (wPkt 0x1010 (toLE 4 Obj.TIM_SERVO_SEL ++ [1, 0, 0, 0] ++ toLE 4 1000)), ((wPkt 0x1010 (toLE 4 Obj.TIM_SERVO_SEL ++ [1, 0, 0, 0] ++ toLE 4 1000)).asRow 0x1010), (wGot (wCmd 0) (((wPkt 0x1010 (toLE 4 Obj.TIM_SERVO_SEL ++ [1, 0, 0, 0] ++ toLE 4 1000)).asRow 0x1010))).2, Obj.TIM_SERVO_SEL, 0, rfl, rfl, wGot_spec (by decide +kernel), by decide +kernel⟩

theorem witness_objSubscribeCancel : ∃ (s u w : State) (dt : Nat) (p q : Pkt) (d : Deferred) (i : Nat), (u = s.elapse dt) ∧ (q = (p.asRow 0x1010).withSel 4 0) ∧ (Safety.admitted u q = some (w, d)) ∧ (q.payload.length = 12) ∧ (le q.payload 0 4 = i) ∧ (i ≤ 0x1FFFF) ∧ ((descOf i).isSome = true) ∧ (byteAt q.payload 4 = 0) ∧ (zeros q.payload 5 3 = true) :=
  ⟨(wCmd 0), State.elapse (wCmd 0) 0, (wGot (wCmd 0) ((((wPkt 0x1010 (toLE 4 Obj.TIM_SERVO_SEL ++ toLE 8 0)).asRow 0x1010).withSel 4 0))).1, 0, (wPkt 0x1010 (toLE 4 Obj.TIM_SERVO_SEL ++ toLE 8 0)), (((wPkt 0x1010 (toLE 4 Obj.TIM_SERVO_SEL ++ toLE 8 0)).asRow 0x1010).withSel 4 0), (wGot (wCmd 0) ((((wPkt 0x1010 (toLE 4 Obj.TIM_SERVO_SEL ++ toLE 8 0)).asRow 0x1010).withSel 4 0))).2, Obj.TIM_SERVO_SEL, rfl, rfl, wGot_spec (by decide +kernel), by decide +kernel⟩

/-! ### DriveOpcodesComplete -/

theorem witness_drvEnable : ∃ (s u w x : State) (dt : Nat) (p q : Pkt) (d e : Deferred) (k : Nat), q = p.asRow 0x2000 ∧ k = q.target.toNat ∧
    Safety.admitted (s.elapse dt) q = some (x, e) ∧ Safety.enables x q ∧
    u = Safety.enableAt s dt ∧ Safety.admitted u q = some (w, d) ∧ Safety.enables w q :=
  let s := wSense {}
  let q := (wPkt 0x2000 (toLE 8 0) 0).asRow 0x2000
  ⟨s, _, (wGot s q).1, (wGot s q).1, 0, wPkt 0x2000 (toLE 8 0) 0, q, (wGot s q).2, (wGot s q).2, 0, rfl, rfl,
    wGot_spec (by decide +kernel), by unfold Safety.enables; decide +kernel, rfl, wGot_spec (by decide +kernel), by unfold Safety.enables; decide +kernel⟩

theorem witness_drvDisable : ∃ (s u w : State) (dt : Nat) (p q : Pkt) (d : Deferred) (k : Nat), (u = s.elapse dt) ∧ (q = p.asRow 0x2001) ∧ (Safety.admitted u q = some (w, d)) ∧ (k = q.target.toNat) ∧ (q.payload.length = 8) ∧ ((w.sl k).st = .armed ∨ (w.sl k).st = .heldBlock) ∧ (zeros q.payload 0 8 = true) :=
  ⟨(wDrive { st := .armed }), State.elapse (wDrive { st := .armed }) 0, (wGot (wDrive { st := .armed }) (((wPkt 0x2001 (toLE 8 0) 0).asRow 0x2001))).1, 0, (wPkt 0x2001 (toLE 8 0) 0), ((wPkt 0x2001 (toLE 8 0) 0).asRow 0x2001), (wGot (wDrive { st := .armed }) (((wPkt 0x2001 (toLE 8 0) 0).asRow 0x2001))).2, 0, rfl, rfl, wGot_spec (by decide +kernel), by decide +kernel⟩

theorem witness_drvDisableAlready : ∃ (s u w : State) (dt : Nat) (p q : Pkt) (d : Deferred) (k : Nat), (u = s.elapse dt) ∧ (q = p.asRow 0x2001) ∧ (Safety.admitted u q = some (w, d)) ∧ (k = q.target.toNat) ∧ (q.payload.length = 8) ∧ ((w.sl k).st = .disabled) ∧ (zeros q.payload 0 8 = true) :=
  ⟨(wDrive {}), State.elapse (wDrive {}) 0, (wGot (wDrive {}) (((wPkt 0x2001 (toLE 8 0) 0).asRow 0x2001))).1, 0, (wPkt 0x2001 (toLE 8 0) 0), ((wPkt 0x2001 (toLE 8 0) 0).asRow 0x2001), (wGot (wDrive {}) (((wPkt 0x2001 (toLE 8 0) 0).asRow 0x2001))).2, 0, rfl, rfl, wGot_spec (by decide +kernel), by decide +kernel⟩

theorem witness_drvSetSpeed : ∃ (s u w : State) (dt : Nat) (p q : Pkt) (d : Deferred) (k : Nat), (u = s.elapse dt) ∧ (q = p.asRow 0x2010) ∧ (Safety.admitted u q = some (w, d)) ∧ (k = q.target.toNat) ∧ (q.payload.length = 16) ∧ (w.enabled k = true) ∧ (fFin (leF q.payload 0) = true) ∧ (fGt (fAbs (leF q.payload 0)) (w.sloF k Obj.SLC_SPEED_MAX) = false) ∧ (zeros q.payload 4 4 = true) ∧ (w.tooLate (le q.payload 8 8) = false) :=
  ⟨(wDrive { st := .running }), State.elapse (wDrive { st := .running }) 0, (wGot (wDrive { st := .running }) (((wPkt 0x2010 (toLE 16 0) 0).asRow 0x2010))).1, 0, (wPkt 0x2010 (toLE 16 0) 0), ((wPkt 0x2010 (toLE 16 0) 0).asRow 0x2010), (wGot (wDrive { st := .running }) (((wPkt 0x2010 (toLE 16 0) 0).asRow 0x2010))).2, 0, rfl, rfl, wGot_spec (by decide +kernel), by decide +kernel⟩

theorem witness_drvSetTorque : ∃ (s u w : State) (dt : Nat) (p q : Pkt) (d : Deferred) (k : Nat), (u = s.elapse dt) ∧ (q = p.asRow 0x2011) ∧ (Safety.admitted u q = some (w, d)) ∧ (k = q.target.toNat) ∧ (q.payload.length = 16) ∧ (w.enabled k = true) ∧ (fFin (leF q.payload 0) = true) ∧ (fFin (leF q.payload 4) = true) ∧ (fGt (fAbs (leF q.payload 0)) (w.sloF k Obj.SLC_MTPA_TMAX) = false) ∧ (fPositive (leF q.payload 4) = true) ∧ (fGt (leF q.payload 4) (w.sloF k Obj.SLC_SPEED_MAX) = false) ∧ (w.tooLate (le q.payload 8 8) = false) :=
  ⟨(wDrive { st := .running }), State.elapse (wDrive { st := .running }) 0, (wGot (wDrive { st := .running }) (((wPkt 0x2011 (toLE 4 0 ++ toLE 4 0x3F800000 ++ toLE 8 0) 0).asRow 0x2011))).1, 0, (wPkt 0x2011 (toLE 4 0 ++ toLE 4 0x3F800000 ++ toLE 8 0) 0), ((wPkt 0x2011 (toLE 4 0 ++ toLE 4 0x3F800000 ++ toLE 8 0) 0).asRow 0x2011), (wGot (wDrive { st := .running }) (((wPkt 0x2011 (toLE 4 0 ++ toLE 4 0x3F800000 ++ toLE 8 0) 0).asRow 0x2011))).2, 0, rfl, rfl, wGot_spec (by decide +kernel), by decide +kernel⟩

theorem witness_drvStopRamp : ∃ (s u w : State) (dt : Nat) (p q : Pkt) (d : Deferred) (k : Nat), (u = s.elapse dt) ∧ (q = (p.asRow 0x2020).withSel 0 0) ∧ (Safety.admitted u q = some (w, d)) ∧ (k = q.target.toNat) ∧ (q.payload.length = 8) ∧ (zeros q.payload 1 7 = true) ∧ ((w.sl k).st = .running) ∧ (w.speedFaulted k = false) ∧ ((w.sl k).actAt ≠ some w.now) ∧ ((w.rs k).forced = none) :=
  ⟨(wDrive { st := .running }), State.elapse (wDrive { st := .running }) 0, (wGot (wDrive { st := .running }) ((((wPkt 0x2020 (toLE 8 0) 0).asRow 0x2020).withSel 0 0))).1, 0, (wPkt 0x2020 (toLE 8 0) 0), (((wPkt 0x2020 (toLE 8 0) 0).asRow 0x2020).withSel 0 0), (wGot (wDrive { st := .running }) ((((wPkt 0x2020 (toLE 8 0) 0).asRow 0x2020).withSel 0 0))).2, 0, rfl, rfl, wGot_spec (by decide +kernel), by decide +kernel⟩

theorem witness_drvStopCoast : ∃ (s u w : State) (dt : Nat) (p q : Pkt) (d : Deferred) (k : Nat), (u = s.elapse dt) ∧ (q = (p.asRow 0x2020).withSel 0 1) ∧ (Safety.admitted u q = some (w, d)) ∧ (k = q.target.toNat) ∧ (q.payload.length = 8) ∧ (zeros q.payload 1 7 = true) ∧ ((w.sl k).st = .running ∨ (w.sl k).st = .stopping ∨ (w.sl k).st = .engaging ∨ (w.sl k).st = .catching) ∧ ((w.sl k).actAt ≠ some w.now) ∧ ((w.rs k).forced = none) :=
  ⟨(wDrive { st := .running }), State.elapse (wDrive { st := .running }) 0, (wGot (wDrive { st := .running }) ((((wPkt 0x2020 (toLE 8 1) 0).asRow 0x2020).withSel 0 1))).1, 0, (wPkt 0x2020 (toLE 8 1) 0), (((wPkt 0x2020 (toLE 8 1) 0).asRow 0x2020).withSel 0 1), (wGot (wDrive { st := .running }) ((((wPkt 0x2020 (toLE 8 1) 0).asRow 0x2020).withSel 0 1))).2, 0, rfl, rfl, wGot_spec (by decide +kernel), by decide +kernel⟩

theorem witness_drvStopShort : ∃ (s u w : State) (dt : Nat) (p q : Pkt) (d : Deferred) (k : Nat), (u = s.elapse dt) ∧ (q = (p.asRow 0x2020).withSel 0 2) ∧ (Safety.admitted u q = some (w, d)) ∧ (k = q.target.toNat) ∧ (q.payload.length = 8) ∧ (zeros q.payload 1 7 = true) ∧ ((w.sl k).st ≠ .disabled) ∧ ((w.sl k).st ≠ .heldShort) ∧ ((w.sl k).actAt ≠ some w.now) ∧ ((w.rs k).forced = none) :=
  ⟨(wDrive { st := .running }), State.elapse (wDrive { st := .running }) 0, (wGot (wDrive { st := .running }) ((((wPkt 0x2020 (toLE 8 2) 0).asRow 0x2020).withSel 0 2))).1, 0, (wPkt 0x2020 (toLE 8 2) 0), (((wPkt 0x2020 (toLE 8 2) 0).asRow 0x2020).withSel 0 2), (wGot (wDrive { st := .running }) ((((wPkt 0x2020 (toLE 8 2) 0).asRow 0x2020).withSel 0 2))).2, 0, rfl, rfl, wGot_spec (by decide +kernel), by decide +kernel⟩

theorem witness_drvStart : ∃ (s u w : State) (dt : Nat) (p q : Pkt) (d : Deferred) (k : Nat), (u = s.elapse dt) ∧ (q = p.asRow 0x2021) ∧ (Safety.admitted u q = some (w, d)) ∧ (k = q.target.toNat) ∧ (q.payload.length = 8) ∧ (zeros q.payload 0 8 = true) ∧ ((w.sl k).st = .armed ∧ (w.sl k).actAt ≠ some w.now ∨ (w.sl k).st = .heldBlock ∨ (w.sl k).st = .heldShort) ∧ ((w.sl k).loss.lockout = false) ∧ ((w.slo k Obj.SLC_ANGLE_SRC = 1 → w.hasObs k = true)) ∧ ((w.rs k).forced = none) :=
  ⟨(wDrive { st := .heldShort }), State.elapse (wDrive { st := .heldShort }) 0, (wGot (wDrive { st := .heldShort }) (((wPkt 0x2021 (toLE 8 0) 0).asRow 0x2021))).1, 0, (wPkt 0x2021 (toLE 8 0) 0), ((wPkt 0x2021 (toLE 8 0) 0).asRow 0x2021), (wGot (wDrive { st := .heldShort }) (((wPkt 0x2021 (toLE 8 0) 0).asRow 0x2021))).2, 0, rfl, rfl, wGot_spec (by decide +kernel), by decide +kernel⟩

theorem witness_drvDischargeWinding : ∃ (s u w : State) (dt : Nat) (p q : Pkt) (d : Deferred) (k n : Nat), (u = s.elapse dt) ∧ (q = (p.asRow 0x2030).withSel 0 0) ∧ (Safety.admitted u q = some (w, d)) ∧ (k = q.target.toNat) ∧ (q.payload.length = 8) ∧ (byteAt q.payload 1 = 0) ∧ (le q.payload 2 2 = n) ∧ (n ≤ 1000) ∧ (zeros q.payload 4 4 = true) ∧ (fLe (fAbs (w.sl k).sig.omegaE) (w.sloF k Obj.SLC_ZERO_SPEED) = true) ∧ ((w.sl k).pred.valid = true) ∧ ((w.sl k).st = .armed ∨ (w.sl k).st = .heldBlock) ∧ ((w.sl k).actAt ≠ some w.now) ∧ ((w.rs k).forced = none) :=
  ⟨(wDrive { st := .armed, pred := { valid := true } }), State.elapse (wDrive { st := .armed, pred := { valid := true } }) 0, (wGot (wDrive { st := .armed, pred := { valid := true } }) ((((wPkt 0x2030 (toLE 8 0) 0).asRow 0x2030).withSel 0 0))).1, 0, (wPkt 0x2030 (toLE 8 0) 0), (((wPkt 0x2030 (toLE 8 0) 0).asRow 0x2030).withSel 0 0), (wGot (wDrive { st := .armed, pred := { valid := true } }) ((((wPkt 0x2030 (toLE 8 0) 0).asRow 0x2030).withSel 0 0))).2, 0, 0, rfl, rfl, wGot_spec (by decide +kernel), by decide +kernel⟩

theorem witness_drvDischargeSwitch : ∃ (s u w : State) (dt : Nat) (p q : Pkt) (d : Deferred) (k n : Nat), (u = s.elapse dt) ∧ (q = (p.asRow 0x2030).withSel 0 1) ∧ (Safety.admitted u q = some (w, d)) ∧ (k = q.target.toNat) ∧ (q.payload.length = 8) ∧ (byteAt q.payload 1 = 0) ∧ (le q.payload 2 2 = n) ∧ (n ≤ 1000) ∧ (zeros q.payload 4 4 = true) ∧ (w.slo k Obj.SLC_DIS_LINK < 24) ∧ (w.linkSlice (w.slo k Obj.SLC_DIS_LINK) = k) ∧ (w.linkRole (w.slo k Obj.SLC_DIS_LINK) = 6) ∧ ((w.sl k).st = .armed ∨ (w.sl k).st = .heldBlock) ∧ ((w.sl k).actAt ≠ some w.now) ∧ ((w.rs k).forced = none) :=
  ⟨({ wDrive { st := .armed } with dict := { vals := bset (bset wDriveObjs Obj.SLC_DIS_LINK 3) 0x8903 (wLink 6) } }), State.elapse ({ wDrive { st := .armed } with dict := { vals := bset (bset wDriveObjs Obj.SLC_DIS_LINK 3) 0x8903 (wLink 6) } }) 0, (wGot ({ wDrive { st := .armed } with dict := { vals := bset (bset wDriveObjs Obj.SLC_DIS_LINK 3) 0x8903 (wLink 6) } }) ((((wPkt 0x2030 (toLE 8 0x320001) 0).asRow 0x2030).withSel 0 1))).1, 0, (wPkt 0x2030 (toLE 8 0x320001) 0), (((wPkt 0x2030 (toLE 8 0x320001) 0).asRow 0x2030).withSel 0 1), (wGot ({ wDrive { st := .armed } with dict := { vals := bset (bset wDriveObjs Obj.SLC_DIS_LINK 3) 0x8903 (wLink 6) } }) ((((wPkt 0x2030 (toLE 8 0x320001) 0).asRow 0x2030).withSel 0 1))).2, 0, 50, rfl, rfl, wGot_spec (by decide +kernel), by decide +kernel⟩

/-! ### EngineOpcodesComplete -/

theorem witness_engDefineContext : ∃ (s u w : State) (dt : Nat) (p q : Pkt) (d : Deferred) (c h : Nat) (img : Bank F32), (u = s.elapse dt) ∧ (q = p.asRow 0x3000) ∧ (Safety.admitted u q = some (w, d)) ∧ (q.payload.length = 1144) ∧ (w.stageBusy q = false) ∧ (byteAt q.payload 0 = c) ∧ (c ≤ 63) ∧ (byteAt q.payload 1 = 0) ∧ (zeros q.payload 2 6 = true) ∧ (h = le q.payload 8 32) ∧ (img = (List.range 276).filterMap (fun i => if le q.payload (40 + 4 * i) 4 = 0 then none else some (i, BitVec.ofNat 32 (le q.payload (40 + 4 * i) 4)))) ∧ (defCheck h img = 0) :=
  ⟨(wCmd 2), State.elapse (wCmd 2) 0, (wGot (wCmd 2) (((wPkt 0x3000 (toLE 8 5 ++ toLE 32 wHdr ++ toLE 1104 0)).asRow 0x3000))).1, 0, (wPkt 0x3000 (toLE 8 5 ++ toLE 32 wHdr ++ toLE 1104 0)), ((wPkt 0x3000 (toLE 8 5 ++ toLE 32 wHdr ++ toLE 1104 0)).asRow 0x3000), (wGot (wCmd 2) (((wPkt 0x3000 (toLE 8 5 ++ toLE 32 wHdr ++ toLE 1104 0)).asRow 0x3000))).2, 5, wHdr, [], rfl, rfl, wGot_spec (by decide +kernel), by decide +kernel⟩

theorem witness_engDefineContextFree : ∃ (s u w : State) (dt : Nat) (p q : Pkt) (d : Deferred) (c : Nat), (u = s.elapse dt) ∧ (q = p.asRow 0x3000) ∧ (Safety.admitted u q = some (w, d)) ∧ (q.payload.length = 1144) ∧ (w.stageBusy q = false) ∧ (byteAt q.payload 0 = 0xFF) ∧ (byteAt q.payload 1 = 0) ∧ (zeros q.payload 2 6 = true) ∧ ((List.range 64).find? (fun c => (w.ctx c).hdr = 0 && (bfind w.stagedSet c).isNone) = some c) ∧ (defCheck (le q.payload 8 32) ((List.range 276).filterMap (fun i => if le q.payload (40 + 4 * i) 4 = 0 then none else some (i, BitVec.ofNat 32 (le q.payload (40 + 4 * i) 4)))) = 0) :=
  ⟨(wCmd 2), State.elapse (wCmd 2) 0, (wGot (wCmd 2) (((wPkt 0x3000 (toLE 8 0xFF ++ toLE 32 wHdr ++ toLE 1104 0)).asRow 0x3000))).1, 0, (wPkt 0x3000 (toLE 8 0xFF ++ toLE 32 wHdr ++ toLE 1104 0)), ((wPkt 0x3000 (toLE 8 0xFF ++ toLE 32 wHdr ++ toLE 1104 0)).asRow 0x3000), (wGot (wCmd 2) (((wPkt 0x3000 (toLE 8 0xFF ++ toLE 32 wHdr ++ toLE 1104 0)).asRow 0x3000))).2, 0, rfl, rfl, wGot_spec (by decide +kernel), by decide +kernel⟩

theorem witness_engDeleteContext : ∃ (s u w : State) (dt : Nat) (p q : Pkt) (d : Deferred) (c : Nat), (u = s.elapse dt) ∧ (q = (p.asRow 0x3000).withSel 1 1) ∧ (Safety.admitted u q = some (w, d)) ∧ (q.payload.length = 8) ∧ (w.stageBusy q = false) ∧ (byteAt q.payload 0 = c) ∧ (byteAt q.payload 1 = 1) ∧ (zeros q.payload 2 6 = true) ∧ (c ≤ 63) ∧ ((w.wouldBe c).1 ≠ 0) :=
  ⟨({ wCmd 2 with eng := { ctxs := [(3, { hdr := wHdr })] } }), State.elapse ({ wCmd 2 with eng := { ctxs := [(3, { hdr := wHdr })] } }) 0, (wGot ({ wCmd 2 with eng := { ctxs := [(3, { hdr := wHdr })] } }) ((((wPkt 0x3000 (toLE 8 0x103)).asRow 0x3000).withSel 1 1))).1, 0, (wPkt 0x3000 (toLE 8 0x103)), (((wPkt 0x3000 (toLE 8 0x103)).asRow 0x3000).withSel 1 1), (wGot ({ wCmd 2 with eng := { ctxs := [(3, { hdr := wHdr })] } }) ((((wPkt 0x3000 (toLE 8 0x103)).asRow 0x3000).withSel 1 1))).2, 3, rfl, rfl, wGot_spec (by decide +kernel), by decide +kernel⟩

theorem witness_engWriteCoef : ∃ (s u w : State) (dt : Nat) (p q : Pkt) (d : Deferred) (c m i j : Nat) (img : Bank F32), (u = s.elapse dt) ∧ (q = p.asRow 0x3001) ∧ (Safety.admitted u q = some (w, d)) ∧ (q.payload.length = 8) ∧ (byteAt q.payload 0 = c) ∧ (c ≤ 63) ∧ (byteAt q.payload 1 = m) ∧ (m ≤ 13) ∧ (byteAt q.payload 2 = i) ∧ (byteAt q.payload 3 = j) ∧ (i < (matrixOf m).2.1) ∧ (j < (matrixOf m).2.2) ∧ ((w.ctx c).hdr ≠ 0) ∧ ((w.ctx c).pendCoef = none) ∧ ((w.ctx c).evals.all (fun e => e.started.isNone || e.done) = true) ∧ ((w.ctx c).waitCoef = []) ∧ (w.mu.norBad = false) ∧ (img = bset (w.ctx c).coef ((matrixOf m).1 + i * (matrixOf m).2.2 + j) (leF q.payload 4)) ∧ (imageOk (w.ctx c).hdr img = true) :=
  ⟨({ wCmd 2 with eng := { ctxs := [(3, { hdr := wHdr })] } }), State.elapse ({ wCmd 2 with eng := { ctxs := [(3, { hdr := wHdr })] } }) 0, (wGot ({ wCmd 2 with eng := { ctxs := [(3, { hdr := wHdr })] } }) (((wPkt 0x3001 (toLE 8 0xC03)).asRow 0x3001))).1, 0, (wPkt 0x3001 (toLE 8 0xC03)), ((wPkt 0x3001 (toLE 8 0xC03)).asRow 0x3001), (wGot ({ wCmd 2 with eng := { ctxs := [(3, { hdr := wHdr })] } }) (((wPkt 0x3001 (toLE 8 0xC03)).asRow 0x3001))).2, 3, 12, 0, 0, [(268, 0#32)], rfl, rfl, wGot_spec (by decide +kernel), by decide +kernel⟩

theorem witness_engWriteCoefPending : ∃ (s u w : State) (dt : Nat) (p q : Pkt) (d : Deferred) (c m i j : Nat) (img : Bank F32), (u = s.elapse dt) ∧ (q = p.asRow 0x3001) ∧ (Safety.admitted u q = some (w, d)) ∧ (q.payload.length = 8) ∧ (byteAt q.payload 0 = c) ∧ (c ≤ 63) ∧ (byteAt q.payload 1 = m) ∧ (m ≤ 13) ∧ (byteAt q.payload 2 = i) ∧ (byteAt q.payload 3 = j) ∧ (i < (matrixOf m).2.1) ∧ (j < (matrixOf m).2.2) ∧ ((w.ctx c).hdr ≠ 0) ∧ ((w.ctx c).pendCoef = some img) ∧ (imageOk (w.ctx c).hdr (bset img ((matrixOf m).1 + i * (matrixOf m).2.2 + j) (leF q.payload 4)) = true) :=
  ⟨({ wCmd 2 with eng := { ctxs := [(3, { hdr := wHdr, pendCoef := some [] })] } }), State.elapse ({ wCmd 2 with eng := { ctxs := [(3, { hdr := wHdr, pendCoef := some [] })] } }) 0, (wGot ({ wCmd 2 with eng := { ctxs := [(3, { hdr := wHdr, pendCoef := some [] })] } }) (((wPkt 0x3001 (toLE 8 0xC03)).asRow 0x3001))).1, 0, (wPkt 0x3001 (toLE 8 0xC03)), ((wPkt 0x3001 (toLE 8 0xC03)).asRow 0x3001), (wGot ({ wCmd 2 with eng := { ctxs := [(3, { hdr := wHdr, pendCoef := some [] })] } }) (((wPkt 0x3001 (toLE 8 0xC03)).asRow 0x3001))).2, 3, 12, 0, 0, [], rfl, rfl, wGot_spec (by decide +kernel), by decide +kernel⟩

theorem witness_engFreeze : ∃ (s u w : State) (dt : Nat) (p q : Pkt) (d : Deferred) (c : Nat), (u = s.elapse dt) ∧ (q = p.asRow 0x3002) ∧ (Safety.admitted u q = some (w, d)) ∧ (q.payload.length = 8) ∧ (byteAt q.payload 0 = c) ∧ (c ≤ 63) ∧ ((w.ctx c).hdr ≠ 0) ∧ (zeros q.payload 1 7 = true) ∧ ((w.ctx c).pendCoef = none) ∧ ((w.ctx c).waitCoef = []) :=
  ⟨({ wCmd 2 with eng := { ctxs := [(3, { hdr := wHdr })] } }), State.elapse ({ wCmd 2 with eng := { ctxs := [(3, { hdr := wHdr })] } }) 0, (wGot ({ wCmd 2 with eng := { ctxs := [(3, { hdr := wHdr })] } }) (((wPkt 0x3002 (toLE 8 3)).asRow 0x3002))).1, 0, (wPkt 0x3002 (toLE 8 3)), ((wPkt 0x3002 (toLE 8 3)).asRow 0x3002), (wGot ({ wCmd 2 with eng := { ctxs := [(3, { hdr := wHdr })] } }) (((wPkt 0x3002 (toLE 8 3)).asRow 0x3002))).2, 3, rfl, rfl, wGot_spec (by decide +kernel), by decide +kernel⟩

theorem witness_engRelease : ∃ (s u w : State) (dt : Nat) (p q : Pkt) (d : Deferred) (c : Nat), (u = s.elapse dt) ∧ (q = p.asRow 0x3003) ∧ (Safety.admitted u q = some (w, d)) ∧ (q.payload.length = 16) ∧ (byteAt q.payload 0 = c) ∧ (c ≤ 63) ∧ ((w.ctx c).hdr ≠ 0) ∧ (zeros q.payload 1 7 = true) ∧ ((w.ctx c).pendCoef.isSome = true) ∧ (w.tooLate (le q.payload 8 8) = false) ∧ (w.mu.norBad = false) :=
  ⟨({ wCmd 2 with eng := { ctxs := [(3, { hdr := wHdr, pendCoef := some [] })] } }), State.elapse ({ wCmd 2 with eng := { ctxs := [(3, { hdr := wHdr, pendCoef := some [] })] } }) 0, (wGot ({ wCmd 2 with eng := { ctxs := [(3, { hdr := wHdr, pendCoef := some [] })] } }) (((wPkt 0x3003 (toLE 16 3)).asRow 0x3003))).1, 0, (wPkt 0x3003 (toLE 16 3)), ((wPkt 0x3003 (toLE 16 3)).asRow 0x3003), (wGot ({ wCmd 2 with eng := { ctxs := [(3, { hdr := wHdr, pendCoef := some [] })] } }) (((wPkt 0x3003 (toLE 16 3)).asRow 0x3003))).2, 3, rfl, rfl, wGot_spec (by decide +kernel), by decide +kernel⟩

theorem witness_engSeedState : ∃ (s u w : State) (dt : Nat) (p q : Pkt) (d : Deferred) (c : Nat) (l : List F32), (u = s.elapse dt) ∧ (q = p.asRow 0x3004) ∧ (Safety.admitted u q = some (w, d)) ∧ (q.payload.length = 40) ∧ (byteAt q.payload 0 = c) ∧ (c ≤ 63) ∧ ((w.ctx c).hdr ≠ 0) ∧ (byteAt q.payload 1 = hNX (w.ctx c).hdr) ∧ (zeros q.payload 2 6 = true) ∧ (l = (List.range 8).map (fun i => leF q.payload (8 + 4 * i))) ∧ (l.all fFin = true) ∧ (zeros q.payload (8 + 4 * hNX (w.ctx c).hdr) (32 - 4 * hNX (w.ctx c).hdr) = true) ∧ (w.enabled (hSlice (w.ctx c).hdr) = false) :=
  ⟨({ wCmd 2 with eng := { ctxs := [(3, { hdr := wHdr })] } }), State.elapse ({ wCmd 2 with eng := { ctxs := [(3, { hdr := wHdr })] } }) 0, (wGot ({ wCmd 2 with eng := { ctxs := [(3, { hdr := wHdr })] } }) (((wPkt 0x3004 (toLE 40 3)).asRow 0x3004))).1, 0, (wPkt 0x3004 (toLE 40 3)), ((wPkt 0x3004 (toLE 40 3)).asRow 0x3004), (wGot ({ wCmd 2 with eng := { ctxs := [(3, { hdr := wHdr })] } }) (((wPkt 0x3004 (toLE 40 3)).asRow 0x3004))).2, 3, List.replicate 8 0#32, rfl, rfl, wGot_spec (by decide +kernel), by decide +kernel⟩

theorem witness_engSeedStatePriming : ∃ (s u w : State) (dt : Nat) (p q : Pkt) (d : Deferred) (c : Nat) (l : List F32), (u = s.elapse dt) ∧ (q = p.asRow 0x3004) ∧ (Safety.admitted u q = some (w, d)) ∧ (q.payload.length = 40) ∧ (byteAt q.payload 0 = c) ∧ (c ≤ 63) ∧ ((w.ctx c).hdr ≠ 0) ∧ (byteAt q.payload 1 = hNX (w.ctx c).hdr) ∧ (zeros q.payload 2 6 = true) ∧ (l = (List.range 8).map (fun i => leF q.payload (8 + 4 * i))) ∧ (l.all fFin = true) ∧ (zeros q.payload (8 + 4 * hNX (w.ctx c).hdr) (32 - 4 * hNX (w.ctx c).hdr) = true) ∧ (w.enabled (hSlice (w.ctx c).hdr) = true) ∧ (w.ctxState c = 2) ∧ ((w.ctx c).evals = []) :=
  ⟨({ wDrive { st := .engaging } with eng := { ctxs := [(3, { hdr := wHdr, primeLeft := 4 })] } }), State.elapse ({ wDrive { st := .engaging } with eng := { ctxs := [(3, { hdr := wHdr, primeLeft := 4 })] } }) 0, (wGot ({ wDrive { st := .engaging } with eng := { ctxs := [(3, { hdr := wHdr, primeLeft := 4 })] } }) (((wPkt 0x3004 (toLE 40 3)).asRow 0x3004))).1, 0, (wPkt 0x3004 (toLE 40 3)), ((wPkt 0x3004 (toLE 40 3)).asRow 0x3004), (wGot ({ wDrive { st := .engaging } with eng := { ctxs := [(3, { hdr := wHdr, primeLeft := 4 })] } }) (((wPkt 0x3004 (toLE 40 3)).asRow 0x3004))).2, 3, List.replicate 8 0#32, rfl, rfl, wGot_spec (by decide +kernel), by decide +kernel⟩

theorem witness_engLink : ∃ (s u w : State) (dt : Nat) (p q : Pkt) (d : Deferred) (c i h h2 : Nat), (u = s.elapse dt) ∧ (q = p.asRow 0x3010) ∧ (Safety.admitted u q = some (w, d)) ∧ (byteAt q.payload 1 = i) ∧ (i ≤ 7) ∧ (zeros q.payload 4 4 = true) ∧ (h2 = (if i < 4 then putBits h (79 + 16 * i) (64 + 16 * i) (le q.payload 2 2) else putBits h (15 + 16 * (i - 4)) (16 * (i - 4)) (le q.payload 2 2))) ∧ (q.payload.length = 8) ∧ (w.stageBusy q = false) ∧ (byteAt q.payload 0 = c) ∧ (c ≤ 63) ∧ ((w.wouldBe c).1 = h) ∧ (h ≠ 0) ∧ (defCheck h2 (w.wouldBe c).2 = 0) :=
  ⟨({ wCmd 2 with eng := { ctxs := [(3, { hdr := wHdr })] } }), State.elapse ({ wCmd 2 with eng := { ctxs := [(3, { hdr := wHdr })] } }) 0, (wGot ({ wCmd 2 with eng := { ctxs := [(3, { hdr := wHdr })] } }) (((wPkt 0x3010 (toLE 8 3)).asRow 0x3010))).1, 0, (wPkt 0x3010 (toLE 8 3)), ((wPkt 0x3010 (toLE 8 3)).asRow 0x3010), (wGot ({ wCmd 2 with eng := { ctxs := [(3, { hdr := wHdr })] } }) (((wPkt 0x3010 (toLE 8 3)).asRow 0x3010))).2, 3, 0, wHdr, wHdr, rfl, rfl, wGot_spec (by decide +kernel), by decide +kernel⟩

theorem witness_engGroup : ∃ (s u w : State) (dt : Nat) (p q : Pkt) (d : Deferred) (c f h h2 : Nat), (u = s.elapse dt) ∧ (q = p.asRow 0x3011) ∧ (Safety.admitted u q = some (w, d)) ∧ (byteAt q.payload 1 = f) ∧ (f ≤ 7) ∧ (zeros q.payload 2 6 = true) ∧ (h2 = putBits (putBits (putBits h 135 128 (if f % 2 = 1 then 5 else if hDest h 0 = 5 then 0 else hDest h 0)) 230 230 (f / 2)) 229 229 (f / 4)) ∧ (q.payload.length = 8) ∧ (w.stageBusy q = false) ∧ (byteAt q.payload 0 = c) ∧ (c ≤ 63) ∧ ((w.wouldBe c).1 = h) ∧ (h ≠ 0) ∧ (defCheck h2 (w.wouldBe c).2 = 0) :=
  ⟨({ wCmd 2 with eng := { ctxs := [(3, { hdr := wHdr })] } }), State.elapse ({ wCmd 2 with eng := { ctxs := [(3, { hdr := wHdr })] } }) 0, (wGot ({ wCmd 2 with eng := { ctxs := [(3, { hdr := wHdr })] } }) (((wPkt 0x3011 (toLE 8 0x103)).asRow 0x3011))).1, 0, (wPkt 0x3011 (toLE 8 0x103)), ((wPkt 0x3011 (toLE 8 0x103)).asRow 0x3011), (wGot ({ wCmd 2 with eng := { ctxs := [(3, { hdr := wHdr })] } }) (((wPkt 0x3011 (toLE 8 0x103)).asRow 0x3011))).2, 3, 1, wHdr, putBits wHdr 135 128 5, rfl, rfl, wGot_spec (by decide +kernel), by decide +kernel⟩

theorem witness_engCommit : ∃ (s u w : State) (dt : Nat) (p q : Pkt) (d : Deferred) (df : List Nat) (r0 r1 : Nat) (hv : Bool), (u = s.elapse dt) ∧ (q = (p.asRow 0x3020).withSel 0 0) ∧ (Safety.admitted u q = some (w, d)) ∧ (q.payload.length = 8) ∧ (zeros q.payload 1 7 = true) ∧ (w.stageBusy q = false) ∧ (byteAt q.payload 0 = 0) ∧ ((w.stagedSet.map Prod.fst).Nodup) ∧ (w.throttled = false) ∧ (w.mu.norBad = false) ∧ (w.stagedSet.all (fun e => ((w.ctx e.1).hdr = 0 || !w.enabled (hSlice (w.ctx e.1).hdr)) && (e.2.deleted || !w.enabled (hSlice e.2.hdr))) = true) ∧ (df = (List.range 64).filter (fun c => (w.wouldBe c).1 ≠ 0)) ∧ (r0 = ((df.filter fun c => hUnit (w.wouldBe c).1 = 0).map fun c => hdrRate (w.wouldBe c).1).sum) ∧ (r1 = ((df.filter fun c => hUnit (w.wouldBe c).1 = 1).map fun c => hdrRate (w.wouldBe c).1).sum) ∧ (hv = decide (6400000 < r0 + r1)) ∧ (commitCheck (fun c => (w.wouldBe c).1) df (r0 + r1) ((df.map fun c => if hv && hShed (w.wouldBe c).1 && hUnit (w.wouldBe c).1 = 1 then hdrRate (w.wouldBe c).1 / 2 else hdrRate (w.wouldBe c).1).sum) = (stOk, 0, 0xFF)) :=
  ⟨({ wCmd 2 with eng := { staged := [(0, [(3, { hdr := wHdr, coef := [], deleted := false })])] } }), State.elapse ({ wCmd 2 with eng := { staged := [(0, [(3, { hdr := wHdr, coef := [], deleted := false })])] } }) 0, (wGot ({ wCmd 2 with eng := { staged := [(0, [(3, { hdr := wHdr, coef := [], deleted := false })])] } }) ((((wPkt 0x3020 (toLE 8 0)).asRow 0x3020).withSel 0 0))).1, 0, (wPkt 0x3020 (toLE 8 0)), (((wPkt 0x3020 (toLE 8 0)).asRow 0x3020).withSel 0 0), (wGot ({ wCmd 2 with eng := { staged := [(0, [(3, { hdr := wHdr, coef := [], deleted := false })])] } }) ((((wPkt 0x3020 (toLE 8 0)).asRow 0x3020).withSel 0 0))).2, [3], 10000, 0, false, rfl, rfl, wGot_spec (by decide +kernel), by decide +kernel⟩

theorem witness_engCommitDiscard : ∃ (s u w : State) (dt : Nat) (p q : Pkt) (d : Deferred), (u = s.elapse dt) ∧ (q = (p.asRow 0x3020).withSel 0 1) ∧ (Safety.admitted u q = some (w, d)) ∧ (q.payload.length = 8) ∧ (zeros q.payload 1 7 = true) ∧ (w.stageBusy q = false) ∧ (byteAt q.payload 0 = 1) :=
  ⟨({ wCmd 2 with eng := { staged := [(0, [(3, { hdr := wHdr, coef := [], deleted := false })])] } }), State.elapse ({ wCmd 2 with eng := { staged := [(0, [(3, { hdr := wHdr, coef := [], deleted := false })])] } }) 0, (wGot ({ wCmd 2 with eng := { staged := [(0, [(3, { hdr := wHdr, coef := [], deleted := false })])] } }) ((((wPkt 0x3020 (toLE 8 1)).asRow 0x3020).withSel 0 1))).1, 0, (wPkt 0x3020 (toLE 8 1)), (((wPkt 0x3020 (toLE 8 1)).asRow 0x3020).withSel 0 1), (wGot ({ wCmd 2 with eng := { staged := [(0, [(3, { hdr := wHdr, coef := [], deleted := false })])] } }) ((((wPkt 0x3020 (toLE 8 1)).asRow 0x3020).withSel 0 1))).2, rfl, rfl, wGot_spec (by decide +kernel), by decide +kernel⟩

/-! ### EngineEventsComplete -/

theorem witness_engReleaseSwap : ∃ (s u : State) (dt : Nat) (ctx : Fin 64) (a : Stamp) (img : Bank F32) (unit : Fin 2) (e : Eval), (u = s.elapse dt) ∧ ((u.ctx ctx.val).release = some a) ∧ (a ≤ u.now) ∧ ((u.ctx ctx.val).pendCoef = some img) ∧ (u.unitOpen unit.val = true) ∧ (u.nextEval unit.val = some (ctx.val, e)) :=
  ⟨{ wDrive { st := .engaging } with eng := { ctxs := [(3, { hdr := wHdr, pendCoef := some [], release := some 5, evals := [{ trigger := 5, sample := 5, ready := 5 }] })] } }, State.elapse ({ wDrive { st := .engaging } with eng := { ctxs := [(3, { hdr := wHdr, pendCoef := some [], release := some 5, evals := [{ trigger := 5, sample := 5, ready := 5 }] })] } }) 0, 0, 3, 5, [], 0, { trigger := 5, sample := 5, ready := 5 }, rfl, by decide +kernel⟩

theorem witness_engEvalStart : ∃ (s u : State) (dt : Nat) (unit : Fin 2) (c : Nat) (e : Eval) (w : State), (u = s.elapse dt) ∧ (u.isReady = true) ∧ (u.eng.busy.getD unit.val none = none) ∧ (u.fenced (6 + unit.val) = false) ∧ (u.throttled = false) ∧ (w = u.writesFirst) ∧ (w.eng.busy.length = 2) ∧ (w.nextEval unit.val = some (c, e)) ∧ ((w.ctx c).evals = [e]) ∧ ((w.ctx c).release = none) :=
  ⟨{ wDrive { st := .engaging } with eng := { ctxs := [(3, { hdr := wHdr, evals := [{ trigger := 4000000000, sample := 4000000000, ready := 4000000000 }] })] } }, State.elapse ({ wDrive { st := .engaging } with eng := { ctxs := [(3, { hdr := wHdr, evals := [{ trigger := 4000000000, sample := 4000000000, ready := 4000000000 }] })] } }) 0, 0, 0, 3, { trigger := 4000000000, sample := 4000000000, ready := 4000000000 }, State.writesFirst (State.elapse ({ wDrive { st := .engaging } with eng := { ctxs := [(3, { hdr := wHdr, evals := [{ trigger := 4000000000, sample := 4000000000, ready := 4000000000 }] })] } }) 0), rfl, by decide +kernel⟩

theorem witness_engEvalDone : ∃ (s u : State) (dt : Nat) (unit : Fin 2) (c : Nat) (e : Eval) (f r : Stamp) (ul xn zn : List F32) (lim stp : Bool), (u = s.elapse dt) ∧ (u.eng.busy.length = 2) ∧ (u.eng.busy.getD unit.val none = some (c, r)) ∧ (r ≤ u.now) ∧ (c < 64) ∧ ((u.ctx c).evals = [e]) ∧ (e.unit = unit.val) ∧ (e.done = false) ∧ (e.started = some (f, r)) ∧ (e.result = some (ul, xn, zn, lim, stp)) ∧ (hEarly (u.ctx c).hdr = false) ∧ (r ≤ u.outAt (outStamp (u.ctx c).hdr e.sample)) ∧ ((u.ctx c).waitSeed = none) ∧ ((u.ctx c).waitCoef = []) ∧ ((List.range 64).all (fun d => d = c || (u.ctx d).evals = []) = true) :=
  ⟨{ wDrive { st := .engaging } with eng := { busy := [some (3, 7), none], ctxs := [(3, { hdr := wHdr, evals := [{ trigger := 5, sample := 5, ready := 5, started := some (6, 7), result := some ([1#32], [2#32], [3#32], false, false) }] })] } }, State.elapse ({ wDrive { st := .engaging } with eng := { busy := [some (3, 7), none], ctxs := [(3, { hdr := wHdr, evals := [{ trigger := 5, sample := 5, ready := 5, started := some (6, 7), result := some ([1#32], [2#32], [3#32], false, false) }] })] } }) 0, 0, 0, 3, { trigger := 5, sample := 5, ready := 5, started := some (6, 7), result := some ([1#32], [2#32], [3#32], false, false) }, 6, 7, [1#32], [2#32], [3#32], false, false, rfl, by decide +kernel⟩

theorem witness_engOutputWrite : ∃ (s u : State) (dt : Nat) (ctx : Fin 64) (e : Eval) (ul xn zn : List F32) (lim stp : Bool), (u = s.elapse dt) ∧ ((u.ctx ctx.val).hdr ≠ 0) ∧ ((u.ctx ctx.val).evals = [e]) ∧ ((u.ctx ctx.val).repeats = []) ∧ (e.done = true) ∧ (e.result = some (ul, xn, zn, lim, stp)) ∧ (hEarly (u.ctx ctx.val).hdr = false) ∧ (outStamp (u.ctx ctx.val).hdr e.sample ≤ u.now) ∧ (hMember (u.ctx ctx.val).hdr = false) ∧ (u.chained ctx.val = []) ∧ ((u.ctxWith (fun h => hSlice h = hSlice (u.ctx ctx.val).hdr)).filter u.hasWrite = [ctx.val]) :=
  ⟨{ wDrive { st := .engaging } with eng := { ctxs := [(3, { hdr := wHdr, evals := [{ trigger := 5, sample := 5, ready := 5, started := some (6, 7), done := true, result := some ([1#32], [2#32], [3#32], false, false) }] })] } }, State.elapse ({ wDrive { st := .engaging } with eng := { ctxs := [(3, { hdr := wHdr, evals := [{ trigger := 5, sample := 5, ready := 5, started := some (6, 7), done := true, result := some ([1#32], [2#32], [3#32], false, false) }] })] } }) 0, 0, 3, { trigger := 5, sample := 5, ready := 5, started := some (6, 7), done := true, result := some ([1#32], [2#32], [3#32], false, false) }, [1#32], [2#32], [3#32], false, false, rfl, by decide +kernel⟩

theorem witness_engOutputWriteRepeat : ∃ (s u : State) (dt : Nat) (ctx : Fin 64) (a b : Stamp) (late shed : Bool), (u = s.elapse dt) ∧ ((u.ctx ctx.val).hdr ≠ 0) ∧ ((u.ctx ctx.val).evals = []) ∧ ((u.ctx ctx.val).repeats = [(a, b, late, shed)]) ∧ (a ≤ u.now) ∧ (hMember (u.ctx ctx.val).hdr = false) ∧ (u.chained ctx.val = []) ∧ ((u.ctxWith (fun h => hSlice h = hSlice (u.ctx ctx.val).hdr)).filter u.hasWrite = [ctx.val]) :=
  ⟨{ wDrive { st := .engaging } with eng := { ctxs := [(3, { hdr := wHdr, repeats := [(5, 4, true, false)] })] } }, State.elapse ({ wDrive { st := .engaging } with eng := { ctxs := [(3, { hdr := wHdr, repeats := [(5, 4, true, false)] })] } }) 0, 0, 3, 5, 4, true, false, rfl, by decide +kernel⟩

/-! ### CanOpcodesComplete -/

theorem witness_netCanConfig : ∃ (s u w : State) (dt : Nat) (p q : Pkt) (d : Deferred) (c : Nat), (u = s.elapse dt) ∧ (q = p.asRow 0x5000) ∧ (Safety.admitted u q = some (w, d)) ∧ (c = q.target.toNat - 0x10) ∧ (w.fenced (8 + c) = false) ∧ (q.payload.length = 160) ∧ ((w.canU c).mode = 0 ∨ byteAt q.payload 0 = 0) ∧ (canCfgOk q.payload = true) ∧ (w.mu.norBad = false) :=
  ⟨(wCmd 2), State.elapse (wCmd 2) 0, (wGot (wCmd 2) (((wPkt 0x5000 wCanCfg 0x11).asRow 0x5000))).1, 0, (wPkt 0x5000 wCanCfg 0x11), ((wPkt 0x5000 wCanCfg 0x11).asRow 0x5000), (wGot (wCmd 2) (((wPkt 0x5000 wCanCfg 0x11).asRow 0x5000))).2, 1, rfl, rfl, wGot_spec (by decide +kernel), by decide +kernel⟩

theorem witness_netCanConfigRead : ∃ (s u w : State) (dt : Nat) (p q : Pkt) (d : Deferred) (c : Nat), (u = s.elapse dt) ∧ (q = { p.asRow 0x5000 with payload := [] }) ∧ (Safety.admitted u q = some (w, d)) ∧ (c = q.target.toNat - 0x10) ∧ (w.fenced (8 + c) = false) :=
  ⟨(wCmd 2), State.elapse (wCmd 2) 0, (wGot (wCmd 2) (({ (wPkt 0x5000 [] 0x11).asRow 0x5000 with payload := [] }))).1, 0, (wPkt 0x5000 [] 0x11), ({ (wPkt 0x5000 [] 0x11).asRow 0x5000 with payload := [] }), (wGot (wCmd 2) (({ (wPkt 0x5000 [] 0x11).asRow 0x5000 with payload := [] }))).2, 1, rfl, rfl, wGot_spec (by decide +kernel), by decide +kernel⟩

theorem witness_netCanFilter : ∃ (s u w : State) (dt : Nat) (p q : Pkt) (d : Deferred) (c first n : Nat), (u = s.elapse dt) ∧ (q = (p.asRow 0x5001).withSel 6 0) ∧ (Safety.admitted u q = some (w, d)) ∧ (c = q.target.toNat - 0x10) ∧ (le q.payload 0 2 = first) ∧ (le q.payload 2 2 = n) ∧ (w.fenced (8 + c) = false) ∧ (zeros q.payload 7 1 = true) ∧ (n ≤ 254) ∧ (first ≤ 4095) ∧ (first + n ≤ 4096) ∧ (le q.payload 4 2 ≤ 4096 ∨ le q.payload 4 2 = 0xFFFF) ∧ (q.payload.length = 8 + 16 * n) ∧ (byteAt q.payload 6 = 0) ∧ (((List.range n).map fun i => le q.payload (8 + 16 * i) 16).all filterOk = true) ∧ (w.mu.norBad = false) :=
  ⟨(wCmd 2), State.elapse (wCmd 2) 0, (wGot (wCmd 2) ((((wPkt 0x5001 ([0, 0, 1, 0, 1, 0, 0, 0] ++ toLE 16 (2 ^ 127 + 0x7FF)) 0x11).asRow 0x5001).withSel 6 0))).1, 0, (wPkt 0x5001 ([0, 0, 1, 0, 1, 0, 0, 0] ++ toLE 16 (2 ^ 127 + 0x7FF)) 0x11), (((wPkt 0x5001 ([0, 0, 1, 0, 1, 0, 0, 0] ++ toLE 16 (2 ^ 127 + 0x7FF)) 0x11).asRow 0x5001).withSel 6 0), (wGot (wCmd 2) ((((wPkt 0x5001 ([0, 0, 1, 0, 1, 0, 0, 0] ++ toLE 16 (2 ^ 127 + 0x7FF)) 0x11).asRow 0x5001).withSel 6 0))).2, 1, 0, 1, rfl, rfl, wGot_spec (by decide +kernel), by decide +kernel⟩

theorem witness_netCanFilterRead : ∃ (s u w : State) (dt : Nat) (p q : Pkt) (d : Deferred) (c first n : Nat), (u = s.elapse dt) ∧ (q = (p.asRow 0x5001).withSel 6 1) ∧ (Safety.admitted u q = some (w, d)) ∧ (c = q.target.toNat - 0x10) ∧ (le q.payload 0 2 = first) ∧ (le q.payload 2 2 = n) ∧ (w.fenced (8 + c) = false) ∧ (zeros q.payload 7 1 = true) ∧ (n ≤ 254) ∧ (first ≤ 4095) ∧ (first + n ≤ 4096) ∧ (le q.payload 4 2 ≤ 4096 ∨ le q.payload 4 2 = 0xFFFF) ∧ (q.payload.length = 8) ∧ (byteAt q.payload 6 = 1) :=
  ⟨(wCmd 2), State.elapse (wCmd 2) 0, (wGot (wCmd 2) ((((wPkt 0x5001 [0, 0, 1, 0, 1, 0, 1, 0] 0x11).asRow 0x5001).withSel 6 1))).1, 0, (wPkt 0x5001 [0, 0, 1, 0, 1, 0, 1, 0] 0x11), (((wPkt 0x5001 [0, 0, 1, 0, 1, 0, 1, 0] 0x11).asRow 0x5001).withSel 6 1), (wGot (wCmd 2) ((((wPkt 0x5001 [0, 0, 1, 0, 1, 0, 1, 0] 0x11).asRow 0x5001).withSel 6 1))).2, 1, 0, 1, rfl, rfl, wGot_spec (by decide +kernel), by decide +kernel⟩

theorem witness_netCanTx : ∃ (s u w : State) (dt : Nat) (p q : Pkt) (d : Deferred) (c k : Nat), (u = s.elapse dt) ∧ (q = p.asRow 0x5002) ∧ (Safety.admitted u q = some (w, d)) ∧ (c = q.target.toNat - 0x10) ∧ (byteAt q.payload 0 = k) ∧ (q.payload.length = 88) ∧ (w.fenced (8 + c) = false) ∧ ((w.canU c).mode ≠ 0) ∧ ((bget [] (w.canU c).tx k).length < (w.canU c).txDepth k) ∧ (w.canTxOk c q.payload = true) :=
  ⟨(wCan {}), State.elapse (wCan {}) 0, (wGot (wCan {}) (((wPkt 0x5002 (toLE 88 0) 0x11).asRow 0x5002))).1, 0, (wPkt 0x5002 (toLE 88 0) 0x11), ((wPkt 0x5002 (toLE 88 0) 0x11).asRow 0x5002), (wGot (wCan {}) (((wPkt 0x5002 (toLE 88 0) 0x11).asRow 0x5002))).2, 1, 0, rfl, rfl, wGot_spec (by decide +kernel), by decide +kernel⟩

theorem witness_netCanCancel : ∃ (s u w : State) (dt : Nat) (p q : Pkt) (d : Deferred) (c k i : Nat) (e : CanTx), (u = s.elapse dt) ∧ (q = p.asRow 0x5003) ∧ (Safety.admitted u q = some (w, d)) ∧ (c = q.target.toNat - 0x10) ∧ (byteAt q.payload 0 = k) ∧ (k ≤ 3) ∧ (q.payload.length = 8) ∧ (w.fenced (8 + c) = false) ∧ (zeros q.payload 1 1 = true) ∧ (zeros q.payload 4 4 = true) ∧ ((bget [] (w.canU c).tx k).findIdx? (fun x => x.tag = le q.payload 2 2) = some i) ∧ ((bget [] (w.canU c).tx k)[i]? = some e) ∧ (e.sof = none ∨ e.sof = some w.now) :=
  ⟨(wCan { tx := [(0, [wTx])] }), State.elapse (wCan { tx := [(0, [wTx])] }) 0, (wGot (wCan { tx := [(0, [wTx])] }) (((wPkt 0x5003 (toLE 8 0x50000) 0x11).asRow 0x5003))).1, 0, (wPkt 0x5003 (toLE 8 0x50000) 0x11), ((wPkt 0x5003 (toLE 8 0x50000) 0x11).asRow 0x5003), (wGot (wCan { tx := [(0, [wTx])] }) (((wPkt 0x5003 (toLE 8 0x50000) 0x11).asRow 0x5003))).2, 1, 0, 0, wTx, rfl, rfl, wGot_spec (by decide +kernel), by decide +kernel⟩

theorem witness_netCanCancelSending : ∃ (s u w : State) (dt : Nat) (p q : Pkt) (d : Deferred) (c k i : Nat) (e : CanTx), (u = s.elapse dt) ∧ (q = p.asRow 0x5003) ∧ (Safety.admitted u q = some (w, d)) ∧ (c = q.target.toNat - 0x10) ∧ (byteAt q.payload 0 = k) ∧ (k ≤ 3) ∧ (q.payload.length = 8) ∧ (w.fenced (8 + c) = false) ∧ (zeros q.payload 1 1 = true) ∧ (zeros q.payload 4 4 = true) ∧ ((bget [] (w.canU c).tx k).findIdx? (fun x => x.tag = le q.payload 2 2) = some i) ∧ ((bget [] (w.canU c).tx k)[i]? = some e) ∧ (e.sof.isSome = true) ∧ (e.sof ≠ some w.now) :=
  ⟨(wCan { tx := [(0, [{ wTx with sof := some 7 }])] }), State.elapse (wCan { tx := [(0, [{ wTx with sof := some 7 }])] }) 0, (wGot (wCan { tx := [(0, [{ wTx with sof := some 7 }])] }) (((wPkt 0x5003 (toLE 8 0x50000) 0x11).asRow 0x5003))).1, 0, (wPkt 0x5003 (toLE 8 0x50000) 0x11), ((wPkt 0x5003 (toLE 8 0x50000) 0x11).asRow 0x5003), (wGot (wCan { tx := [(0, [{ wTx with sof := some 7 }])] }) (((wPkt 0x5003 (toLE 8 0x50000) 0x11).asRow 0x5003))).2, 1, 0, 0, { wTx with sof := some 7 }, rfl, rfl, wGot_spec (by decide +kernel), by decide +kernel⟩

theorem witness_netCanAck : ∃ (s u w : State) (dt : Nat) (p q : Pkt) (d : Deferred) (c k n f : Nat), (u = s.elapse dt) ∧ (q = p.asRow 0x5004) ∧ (Safety.admitted u q = some (w, d)) ∧ (c = q.target.toNat - 0x10) ∧ (byteAt q.payload 0 = k) ∧ (le q.payload 2 2 = n) ∧ (byteAt q.payload 4 = f) ∧ (q.payload.length = 8) ∧ (w.fenced (8 + c) = false) ∧ (k ≤ 8) ∧ (zeros q.payload 1 1 = true) ∧ (n ≤ 512) ∧ (f ≤ 40) ∧ (zeros q.payload 5 3 = true) ∧ (n ≤ ((w.canU c).owned k).length) :=
  ⟨(wCan { rx := [(0, [{ rcd := ⟨5, 0, 0, 0x56, 0, []⟩, frame := { id := 7 }, mirror := false, filt := 0, eof := 9 }])] }), State.elapse (wCan { rx := [(0, [{ rcd := ⟨5, 0, 0, 0x56, 0, []⟩, frame := { id := 7 }, mirror := false, filt := 0, eof := 9 }])] }) 0, (wGot (wCan { rx := [(0, [{ rcd := ⟨5, 0, 0, 0x56, 0, []⟩, frame := { id := 7 }, mirror := false, filt := 0, eof := 9 }])] }) (((wPkt 0x5004 [0, 0, 1, 0, 2, 0, 0, 0] 0x11).asRow 0x5004))).1, 0, (wPkt 0x5004 [0, 0, 1, 0, 2, 0, 0, 0] 0x11), ((wPkt 0x5004 [0, 0, 1, 0, 2, 0, 0, 0] 0x11).asRow 0x5004), (wGot (wCan { rx := [(0, [{ rcd := ⟨5, 0, 0, 0x56, 0, []⟩, frame := { id := 7 }, mirror := false, filt := 0, eof := 9 }])] }) (((wPkt 0x5004 [0, 0, 1, 0, 2, 0, 0, 0] 0x11).asRow 0x5004))).2, 1, 0, 1, 2, rfl, rfl, wGot_spec (by decide +kernel), by decide +kernel⟩

/-! ### CanEventsComplete -/

theorem witness_canFrameRx : ∃ (s u : State) (dt : Nat) (c : Fin 4) (f : CanFrame) (sofAgo eofAgo n e : Nat), (u = s.elapse dt) ∧ (u.canOn c.val = true) ∧ ((u.canU c.val).busOff = false) ∧ (u.canDetects c.val = false) ∧ (f.fdf = false ∨ bit (byteAt (u.canU c.val).cfg 1) 0 = true) ∧ ((u.canU c.val).isTunnel f = false) ∧ ((u.canU c.val).hits f = ([(n, e)], true)) ∧ (bits e 124 123 = 0) ∧ (bits e 115 112 ≤ 7) ∧ ((bget [] (u.canU c.val).rx (bits e 115 112)).length < (u.canU c.val).rxDepth (bits e 115 112)) ∧ (u.canFeedsMap c.val f = false) ∧ ((u.canU c.val).recCnt ≤ 127) :=
  ⟨wCan { filters := [(0, 2 ^ 127 + 0x7FF)], listLen := 1 }, State.elapse (wCan { filters := [(0, 2 ^ 127 + 0x7FF)], listLen := 1 }) 0, 0, 1, { id := 7 }, 40, 0, 0, 2 ^ 127 + 0x7FF, rfl, by decide +kernel⟩

theorem witness_canTxSof : ∃ (s u : State) (dt : Nat) (c : Fin 4) (k : Nat) (e : CanTx), (u = s.elapse dt) ∧ (u.canOn c.val = true) ∧ (u.canListens c.val = false) ∧ ((u.canU c.val).busOff = false) ∧ ((u.canU c.val).sending = none) ∧ ((u.canU c.val).integrating = false) ∧ ((u.canU c.val).offer u.now = some (k, e)) ∧ ((bget [] (u.canU c.val).tx k).head? = some e) :=
  ⟨wCan { tx := [(0, [wTx])] }, State.elapse (wCan { tx := [(0, [wTx])] }) 0, 0, 1, 0, wTx, rfl, by decide +kernel⟩

theorem witness_canTxDone : ∃ (s u : State) (dt : Nat) (c : Fin 4) (k : Nat) (e : CanTx), (u = s.elapse dt) ∧ ((u.canU c.val).sending = some (k, e)) :=
  ⟨wCan { tec := 5, tx := [(0, [{ wTx with sof := some 7 }])] }, State.elapse (wCan { tec := 5, tx := [(0, [{ wTx with sof := some 7 }])] }) 0, 0, 1, 0, { wTx with sof := some 7 }, rfl, by decide +kernel⟩

theorem witness_canArbitrationLost : ∃ (s u : State) (dt : Nat) (c : Fin 4) (k : Nat) (e : CanTx), (u = s.elapse dt) ∧ ((u.canU c.val).sending = some (k, e)) ∧ (e.marked = false) ∧ (e.oneShot = false) :=
  ⟨wCan { tec := 5, tx := [(0, [{ wTx with sof := some 7 }])] }, State.elapse (wCan { tec := 5, tx := [(0, [{ wTx with sof := some 7 }])] }) 0, 0, 1, 0, { wTx with sof := some 7 }, rfl, by decide +kernel⟩

theorem witness_canArbitrationLostRetired : ∃ (s u : State) (dt : Nat) (c : Fin 4) (k : Nat) (e : CanTx), (u = s.elapse dt) ∧ ((u.canU c.val).sending = some (k, e)) ∧ (e.marked = true ∨ e.oneShot = true) :=
  ⟨wCan { tx := [(0, [{ wTx with sof := some 7, oneShot := true }])] }, State.elapse (wCan { tx := [(0, [{ wTx with sof := some 7, oneShot := true }])] }) 0, 0, 1, 0, { wTx with sof := some 7, oneShot := true }, rfl, by decide +kernel⟩

theorem witness_canBusError : ∃ (s u : State) (dt : Nat) (c : Fin 4) (er : CanError) (dataPhase dom : Bool) (k : Nat) (e : CanTx), (u = s.elapse dt) ∧ (u.canOn c.val = true) ∧ ((u.canU c.val).busOff = false) ∧ (u.canDetects c.val = false) ∧ (u.canListens c.val = false) ∧ (dataPhase = false ∨ bit (u.obj (Obj.CAN_STAT + c.val)) 12 = false ∨ (u.canU c.val).mode ≠ 3) ∧ ((u.canU c.val).sending = some (k, e)) ∧ (er ≠ .bitInData) ∧ (er ≠ .ack ∨ (u.canU c.val).tec ≤ 127 ∨ dom = true) ∧ (e.marked = false) ∧ (e.oneShot = false) :=
  ⟨wCan { tec := 5, tx := [(0, [{ wTx with sof := some 7 }])] }, State.elapse (wCan { tec := 5, tx := [(0, [{ wTx with sof := some 7 }])] }) 0, 0, 1, .stuff, false, false, 0, { wTx with sof := some 7 }, rfl, by decide +kernel⟩

theorem witness_canBusErrorReceiving : ∃ (s u : State) (dt : Nat) (c : Fin 4) (er : CanError) (dataPhase dom : Bool), (u = s.elapse dt) ∧ (u.canOn c.val = true) ∧ ((u.canU c.val).busOff = false) ∧ (u.canDetects c.val = false) ∧ (u.canListens c.val = false) ∧ (dataPhase = false ∨ bit (u.obj (Obj.CAN_STAT + c.val)) 12 = false ∨ (u.canU c.val).mode ≠ 3) :=
  ⟨wCan {}, State.elapse (wCan {}) 0, 0, 1, .stuff, false, false, rfl, by decide +kernel⟩

theorem witness_canBusOffRecovery : ∃ (s u : State) (dt : Nat) (c : Fin 4), (u = s.elapse dt) ∧ (u.canOn c.val = true) ∧ ((u.canU c.val).busOff = true) ∧ ((u.canU c.val).busOffAt + le (u.canU c.val).cfg 4 2 * msUnits + 1408 * (u.canU c.val).bitUnits ≤ u.clk) :=
  ⟨wCan { busOff := true, tec := 256 }, State.elapse (wCan { busOff := true, tec := 256 }) 0, 0, 1, rfl, by decide +kernel⟩

theorem witness_canTxExpire : ∃ (s u : State) (dt : Nat) (c k : Fin 4) (e : CanTx), (u = s.elapse dt) ∧ ((bget [] (u.canU c.val).tx k.val).head? = some e) ∧ (e.expiry ≠ 0) ∧ (e.expiry < u.now) ∧ (e.sof = none) :=
  ⟨wCan { tx := [(0, [{ wTx with expiry := 5 }])] }, State.elapse (wCan { tx := [(0, [{ wTx with expiry := 5 }])] }) 0, 0, 1, 0, { wTx with expiry := 5 }, rfl, by decide +kernel⟩

theorem witness_canRateTimeout : ∃ (s u : State) (dt : Nat) (c : Fin 4), (u = s.elapse dt) ∧ (u.canDetects c.val = true) ∧ ((u.canU c.val).rateSof = false) ∧ ((u.canU c.val).rateStart + 100 * msUnits ≤ u.clk) ∧ (u.canFrameComes c = false) :=
  ⟨wCan { mode := 3 }, State.elapse (wCan { mode := 3 }) 0, 0, 1, rfl, by decide +kernel⟩

theorem witness_canPublish : ∃ (s u : State) (dt : Nat) (slot : Fin 256) (n : Nat), (u = s.elapse dt) ∧ (n = u.obj (Obj.CAN_PUB + slot.val)) ∧ (bit n 127 = true) ∧ (u.pubDue slot.val n = true) ∧ (u.publishes = true) ∧ (u.cpGone = false) ∧ (u.canOn (bits n 126 125) = true) ∧ ((bget [] (u.canU (bits n 126 125)).tx 3).findIdx? (fun e => e.slot = some slot.val && e.sof.isNone) = none) ∧ ((bget [] (u.canU (bits n 126 125)).tx 3).length < (u.canU (bits n 126 125)).txDepth 3) :=
  ⟨{ wCan {} with dict := { vals := [(Obj.CAN_PUB, 2 ^ 127 + 2 ^ 125 + 1000 * 2 ^ 64 + 7)] } }, State.elapse ({ wCan {} with dict := { vals := [(Obj.CAN_PUB, 2 ^ 127 + 2 ^ 125 + 1000 * 2 ^ 64 + 7)] } }) 0, 0, 0, 2 ^ 127 + 2 ^ 125 + 1000 * 2 ^ 64 + 7, rfl, by decide +kernel⟩

theorem witness_canQackDoorbell : ∃ (s u : State) (dt : Nat) (c : Fin 4) (k : Fin 9) (n : Nat), (u = s.elapse dt) ∧ (u.isReady = true) ∧ (n % 1024 + u.ackFirst c.val k.val ≤ ((u.canU c.val).owned k.val).length) :=
  ⟨wCan { rx := [(0, [{ rcd := ⟨5, 0, 0, 0x56, 0, []⟩, frame := { id := 7 }, mirror := false, filt := 0, eof := 9 }])] }, State.elapse (wCan { rx := [(0, [{ rcd := ⟨5, 0, 0, 0x56, 0, []⟩, frame := { id := 7 }, mirror := false, filt := 0, eof := 9 }])] }) 0, 0, 1, 0, 1, rfl, by decide +kernel⟩

/-! ### EthernetCommandsComplete -/

theorem witness_netEthConfig : ∃ (s u w : State) (dt : Nat) (p q : Pkt) (d : Deferred) (n : Nat), (u = s.elapse dt) ∧ (q = p.asRow 0x5010) ∧ (Safety.admitted u q = some (w, d)) ∧ (n = q.target.toNat - 0x18) ∧ (n < 2) ∧ (q.payload.length = 40) ∧ ((w.ethU n).on = false ∨ byteAt q.payload 0 = 0) ∧ (ethCfgOk q.payload = true) ∧ (w.mu.norBad = false) :=
  ⟨(wCmd 2), State.elapse (wCmd 2) 0, (wGot (wCmd 2) (((wPkt 0x5010 wEthCfg 0x19).asRow 0x5010))).1, 0, (wPkt 0x5010 wEthCfg 0x19), ((wPkt 0x5010 wEthCfg 0x19).asRow 0x5010), (wGot (wCmd 2) (((wPkt 0x5010 wEthCfg 0x19).asRow 0x5010))).2, 1, rfl, rfl, wGot_spec (by decide +kernel), by decide +kernel⟩

theorem witness_netEthConfigRead : ∃ (s u w : State) (dt : Nat) (p q : Pkt) (d : Deferred) (n : Nat), (u = s.elapse dt) ∧ (q = { p.asRow 0x5010 with payload := [] }) ∧ (Safety.admitted u q = some (w, d)) ∧ (n = q.target.toNat - 0x18) :=
  ⟨(wCmd 2), State.elapse (wCmd 2) 0, (wGot (wCmd 2) (({ (wPkt 0x5010 [] 0x19).asRow 0x5010 with payload := [] }))).1, 0, (wPkt 0x5010 [] 0x19), ({ (wPkt 0x5010 [] 0x19).asRow 0x5010 with payload := [] }), (wGot (wCmd 2) (({ (wPkt 0x5010 [] 0x19).asRow 0x5010 with payload := [] }))).2, 1, rfl, rfl, wGot_spec (by decide +kernel), by decide +kernel⟩

theorem witness_ethFrameRxBad : ∃ (s u : State) (dt : Nat) (port : Fin 2) (kind len : Nat) (fcsOk : Bool) (body : List Byte), (u = s.elapse dt) ∧ (u.isReady = true) ∧ ((u.ethU port.val).on = true) ∧ ((u.ethU port.val).link = true) ∧ (1522 < len ∨ fcsOk = false) :=
  ⟨wEthUp {}, State.elapse (wEthUp {}) 0, 0, 1, 3, 60, false, [], rfl, by decide +kernel⟩

theorem witness_ethFrameRxArp : ∃ (s u : State) (dt : Nat) (port : Fin 2) (len : Nat) (body : List Byte), (u = s.elapse dt) ∧ (u.isReady = true) ∧ ((u.ethU port.val).on = true) ∧ ((u.ethU port.val).link = true) ∧ (len ≤ 1522) ∧ (u.cp.restarting = false) :=
  ⟨wEthUp {}, State.elapse (wEthUp {}) 0, 0, 1, 60, [], rfl, by decide +kernel⟩

theorem witness_ethFrameRxFragment : ∃ (s u : State) (dt : Nat) (port : Fin 2) (len : Nat) (body : List Byte) (n : Fin 4), (u = s.elapse dt) ∧ (u.isReady = true) ∧ ((u.ethU port.val).on = true) ∧ ((u.ethU port.val).link = true) ∧ (len ≤ 1522) ∧ (u.cp.restarting = false) ∧ (u.host.reasm.any (fun e => e.2.1 = le body 0 2) = false) ∧ ((List.range 4).find? (fun n => (bfind u.host.reasm n).isNone) = some n.val) :=
  ⟨wEthUp {}, State.elapse (wEthUp {}) 0, 0, 1, 60, [1, 2], 0, rfl, by decide +kernel⟩

theorem witness_ethFrameTx : ∃ (s u : State) (dt : Nat) (port : Fin 2) (i : Nat) (e : EthTx), (u = s.elapse dt) ∧ (u.isReady = true) ∧ ((u.ethU port.val).on = true) ∧ ((u.ethU port.val).link = true) ∧ ((u.ethU port.val).next = some i) ∧ ((u.ethU port.val).txq[i]? = some e) :=
  ⟨wEthUp { txq := [{ queue := 3, tag := 9, slot := none, kind := 2, payload := [] }] }, State.elapse (wEthUp { txq := [{ queue := 3, tag := 9, slot := none, kind := 2, payload := [] }] }) 0, 0, 1, 0, { queue := 3, tag := 9, slot := none, kind := 2, payload := [] }, rfl, by decide +kernel⟩

theorem witness_ethLinkChange : ∃ (s u : State) (dt : Nat) (port : Fin 2) (speed : Fin 4), (u = s.elapse dt) ∧ (u.isReady = true) ∧ ((u.ethU port.val).on = true) :=
  ⟨wEthUp {}, State.elapse (wEthUp {}) 0, 0, 1, 2, rfl, by decide +kernel⟩

theorem witness_ethLinkChangeDown : ∃ (s u : State) (dt : Nat) (port : Fin 2) (speed : Fin 4), (u = s.elapse dt) ∧ (u.isReady = true) ∧ ((u.ethU port.val).on = true) :=
  ⟨wEthUp {}, State.elapse (wEthUp {}) 0, 0, 1, 2, rfl, by decide +kernel⟩

theorem witness_ptpPdelayExchange : ∃ (s u : State) (dt : Nat) (port : Fin 2) (delayNs : Nat), (u = s.elapse dt) ∧ (u.isReady = true) ∧ ((u.ethU port.val).ptp = true) :=
  ⟨wEthUp {}, State.elapse (wEthUp {}) 0, 0, 1, 2, rfl, by decide +kernel⟩

theorem witness_ptpAnnounceRx : ∃ (s u : State) (dt : Nat) (port : Fin 2) (source gm prio : Nat) (utcOffset logSync : Int), (u = s.elapse dt) ∧ (u.isReady = true) ∧ ((u.ethU port.val).ptp = true) ∧ ((u.ethU port.val).bestPrio = none ∨ (u.ethU port.val).parent = source) :=
  ⟨wEthUp { asCapable := true }, State.elapse (wEthUp { asCapable := true }) 0, 0, 1, 7, 8, 100, 37, -3, rfl, by decide +kernel⟩

theorem witness_ptpSyncTx : ∃ (s u : State) (dt : Nat) (port : Fin 2), (u = s.elapse dt) ∧ (u.isReady = true) ∧ ((u.ethU port.val).ptp = true) ∧ ((u.ethU port.val).portState = 3) ∧ (u.inFlask = false ∨ u.isActive = true) ∧ ((u.ethU port.val).syncDue ≤ u.clk) :=
  ⟨wEthUp { portState := 3 }, State.elapse (wEthUp { portState := 3 }) 0, 0, 1, rfl, by decide +kernel⟩

theorem witness_ethPublish : ∃ (s u : State) (dt : Nat) (slot : Fin 64) (n k : Nat), (u = s.elapse dt) ∧ (n = u.obj (Obj.ETH_PUB + slot.val)) ∧ (k = b2n (bit n 126)) ∧ (bit n 127 = true) ∧ (u.pubDue (256 + slot.val) n = true) ∧ (u.publishes = true) ∧ ((u.ethU k).on = true) ∧ ((u.ethU k).txq.findIdx? (fun e => e.slot = some slot.val) = none) :=
  ⟨{ wEthUp {} with dict := { vals := [(Obj.ETH_PUB, 2 ^ 127 + 2 ^ 126 + 1000 * 2 ^ 64)] } }, State.elapse ({ wEthUp {} with dict := { vals := [(Obj.ETH_PUB, 2 ^ 127 + 2 ^ 126 + 1000 * 2 ^ 64)] } }) 0, 0, 0, 2 ^ 127 + 2 ^ 126 + 1000 * 2 ^ 64, 1, rfl, by decide +kernel⟩

theorem witness_ethPublishRx : ∃ (s u : State) (dt : Nat) (port : Fin 2) (assembly : Stamp) (node slot tqv seq : Nat) (data : List Byte) (n : Nat), (u = s.elapse dt) ∧ (u.isReady = true) ∧ ((u.ethU port.val).on = true) ∧ ((u.ethU port.val).link = true) ∧ ((List.range 64).filter (fun j => bit (u.obj (Obj.ETH_SUB + j)) 127 && b2n (bit (u.obj (Obj.ETH_SUB + j)) 126) = port.val && bits (u.obj (Obj.ETH_SUB + j)) 125 112 = node && bits (u.obj (Obj.ETH_SUB + j)) 111 104 = slot) = [n]) ∧ (u.follows = false) ∧ (u.sigEntries false (4 + port.val) n = []) :=
  ⟨{ wEthUp {} with dict := { vals := [(Obj.ETH_SUB, 2 ^ 127 + 2 ^ 126 + 5 * 2 ^ 112 + 6 * 2 ^ 104)] } }, State.elapse ({ wEthUp {} with dict := { vals := [(Obj.ETH_SUB, 2 ^ 127 + 2 ^ 126 + 5 * 2 ^ 112 + 6 * 2 ^ 104)] } }) 0, 0, 1, 5, 5, 6, 0, 9, [], 0, rfl, by decide +kernel⟩

theorem witness_ethPublishRxSignal : ∃ (s u : State) (dt : Nat) (port : Fin 2) (assembly : Stamp) (node slot tqv seq : Nat) (data : List Byte) (n e val : Nat) (x : Desc), (u = s.elapse dt) ∧ (u.isReady = true) ∧ ((u.ethU port.val).on = true) ∧ ((u.ethU port.val).link = true) ∧ ((List.range 64).filter (fun j => bit (u.obj (Obj.ETH_SUB + j)) 127 && b2n (bit (u.obj (Obj.ETH_SUB + j)) 126) = port.val && bits (u.obj (Obj.ETH_SUB + j)) 125 112 = node && bits (u.obj (Obj.ETH_SUB + j)) 111 104 = slot) = [n]) ∧ (bits (u.obj (Obj.ETH_SUB + n)) 63 32 = 0) ∧ (u.inFlask = false) ∧ (u.follows = false) ∧ (u.sigEntries false (4 + port.val) n = [e]) ∧ (descOf (bits e 80 64) = some x) ∧ (x.acc = 1) ∧ (x.per ≠ 2) ∧ (u.mu.norBad = false) ∧ (u.cmdChanged Obj.TIM_LOCK_THRESH = false) ∧ (bits e 80 64 = Obj.TIM_LOCK_THRESH) ∧ (sigValue e x (if bit e 124 then sgn (bits e 86 81 + 1) (sigRaw e data) else (sigRaw e data : Int)) = some val) ∧ (x.inRange val = true) :=
  ⟨{ wEthUp {} with dict := { vals := [(Obj.ETH_SUB, 2 ^ 127 + 2 ^ 126 + 5 * 2 ^ 112 + 6 * 2 ^ 104), (0xC000, 2 ^ 127 + 5 * 2 ^ 121 + 31 * 2 ^ 81 + 0x8004 * 2 ^ 64)] } }, State.elapse ({ wEthUp {} with dict := { vals := [(Obj.ETH_SUB, 2 ^ 127 + 2 ^ 126 + 5 * 2 ^ 112 + 6 * 2 ^ 104), (0xC000, 2 ^ 127 + 5 * 2 ^ 121 + 31 * 2 ^ 81 + 0x8004 * 2 ^ 64)] } }) 0, 0, 1, 5, 5, 6, 0, 9, [232, 3, 0, 0], 0, 2 ^ 127 + 5 * 2 ^ 121 + 31 * 2 ^ 81 + 0x8004 * 2 ^ 64, 1000, descTim, rfl, by decide +kernel⟩

/-! ### SafetyOpcodesComplete -/

theorem witness_safLogin : ∃ (s u w : State) (dt : Nat) (p q : Pkt) (d : Deferred) (x : Session) (n : Nat) (salt : List Byte), (u = s.elapse dt) ∧ (q = (p.asRow 0x6000).withSel 0 0) ∧ (Safety.admitted u q = some (w, d)) ∧ (q.payload.length = 68) ∧ (byteAt q.payload 0 = 0) ∧ (byteAt q.payload 1 = n) ∧ (byteAt q.payload 2 = 0) ∧ (byteAt q.payload 3 = 0) ∧ (pwOk q.payload 4 n true = true) ∧ (0 < n) ∧ (zeros q.payload 36 32 = true) ∧ (w.ref.lockUntil = none) ∧ (w.linkAllows q.link 3 = true) ∧ (w.safetyHolder = none) ∧ (w.sessOf q = some x) ∧ (w.ref.pw = some (salt, pwHashOf salt ((q.payload.drop 4).take n))) :=
  ⟨(wPw), State.elapse (wPw) 0, (wGot (wPw) ((((wPkt 0x6000 wLogin).asRow 0x6000).withSel 0 0))).1, 0, (wPkt 0x6000 wLogin), (((wPkt 0x6000 wLogin).asRow 0x6000).withSel 0 0), (wGot (wPw) ((((wPkt 0x6000 wLogin).asRow 0x6000).withSel 0 0))).2, { level := 2, link := .pcie 4, idle := 4000000000, stored := [{ seq := (wPkt 0x6000 wLogin).seq.toNat, crc := (wPkt 0x6000 wLogin).crc.toNat }] }, 8, [], rfl, rfl, wGot_spec (by decide +kernel), by refine ⟨?_, ?_, ?_, ?_, ?_, ?_, ?_, ?_, ?_, ?_, ?_, ?_, rfl⟩ <;> decide +kernel⟩

theorem witness_safSetPassword : ∃ (s u w : State) (dt : Nat) (p q : Pkt) (d : Deferred) (m : Nat), (u = s.elapse dt) ∧ (q = (p.asRow 0x6000).withSel 0 1) ∧ (Safety.admitted u q = some (w, d)) ∧ (q.payload.length = 68) ∧ (byteAt q.payload 0 = 1) ∧ (byteAt q.payload 1 = 0) ∧ (byteAt q.payload 2 = m) ∧ (byteAt q.payload 3 = 0) ∧ (pwOk q.payload 4 0 true = true) ∧ (pwOk q.payload 36 m false = true) ∧ (w.ref.lockUntil = none) ∧ (w.ref.pw = none) ∧ (w.mu.lc ≠ 2) ∧ (w.mu.lc ≠ 4) ∧ (w.mu.norBad = false) :=
  ⟨(wCmd 2), State.elapse (wCmd 2) 0, (wGot (wCmd 2) ((((wPkt 0x6000 ([1, 0, 8, 0] ++ toLE 32 0 ++ toLE 32 0x3837363534333231)).asRow 0x6000).withSel 0 1))).1, 0, (wPkt 0x6000 ([1, 0, 8, 0] ++ toLE 32 0 ++ toLE 32 0x3837363534333231)), (((wPkt 0x6000 ([1, 0, 8, 0] ++ toLE 32 0 ++ toLE 32 0x3837363534333231)).asRow 0x6000).withSel 0 1), (wGot (wCmd 2) ((((wPkt 0x6000 ([1, 0, 8, 0] ++ toLE 32 0 ++ toLE 32 0x3837363534333231)).asRow 0x6000).withSel 0 1))).2, 8, rfl, rfl, wGot_spec (by decide +kernel), by refine ⟨?_, ?_, ?_, ?_, ?_, ?_, ?_, ?_, ?_, ?_, ?_, rfl⟩ <;> decide +kernel⟩

theorem witness_safCommitNothing : ∃ (s u w : State) (dt : Nat) (p q : Pkt) (d : Deferred) (l : List ObjRec), (u = s.elapse dt) ∧ (q = p.asRow 0x6001) ∧ (Safety.admitted u q = some (w, d)) ∧ (q.payload.length = 8) ∧ (q.flags.getLsbD 3 = true) ∧ (zeros q.payload 4 4 = true) ∧ (l = sortRecs (w.stagedOf q.session.toNat)) ∧ (l = []) :=
  ⟨(wCmd 3), State.elapse (wCmd 3) 0, (wGot (wCmd 3) (((wPkt 0x6001 (toLE 8 0) 0x0E 8).asRow 0x6001))).1, 0, (wPkt 0x6001 (toLE 8 0) 0x0E 8), ((wPkt 0x6001 (toLE 8 0) 0x0E 8).asRow 0x6001), (wGot (wCmd 3) (((wPkt 0x6001 (toLE 8 0) 0x0E 8).asRow 0x6001))).2, [], rfl, rfl, wGot_spec (by decide +kernel), by decide +kernel⟩

theorem witness_safCommit : ∃ (s u w : State) (dt : Nat) (p q : Pkt) (d : Deferred) (l : List ObjRec), (u = s.elapse dt) ∧ (q = p.asRow 0x6001) ∧ (Safety.admitted u q = some (w, d)) ∧ (q.payload.length = 8) ∧ (q.flags.getLsbD 3 = true) ∧ (zeros q.payload 4 4 = true) ∧ (l = sortRecs (w.stagedOf q.session.toNat)) ∧ (l ≠ []) ∧ ((l.map ObjRec.idx).Nodup) ∧ (l.all (fun r => r.idx ≠ Obj.SAF_COMMIT_COUNT && r.idx ≠ Obj.SAF_SET_CRC && r.idx ≠ Obj.SAF_STAGED_COUNT) = true) ∧ (le q.payload 0 4 = crc32c (recsBytes l)) ∧ (w.commitBad l = none) ∧ ((l.filter fun r => w.obj r.idx ≠ w.commitVal r).find? (fun r => match w.safSlices r.idx r.data with | some ks => ks.any w.enabled | none => w.anyEnabled) = none) ∧ (w.mu.norBad = false) :=
  ⟨({ wCmd 3 with ref := { staged := [(0, [⟨Obj.SAF_STO_DISC, 3, 2, 50⟩])] } }), State.elapse ({ wCmd 3 with ref := { staged := [(0, [⟨Obj.SAF_STO_DISC, 3, 2, 50⟩])] } }) 0, (wGot ({ wCmd 3 with ref := { staged := [(0, [⟨Obj.SAF_STO_DISC, 3, 2, 50⟩])] } }) (((wPkt 0x6001 (toLE 4 (crc32c (recsBytes [⟨Obj.SAF_STO_DISC, 3, 2, 50⟩])) ++ toLE 4 0) 0x0E 8).asRow 0x6001))).1, 0, (wPkt 0x6001 (toLE 4 (crc32c (recsBytes [⟨Obj.SAF_STO_DISC, 3, 2, 50⟩])) ++ toLE 4 0) 0x0E 8), ((wPkt 0x6001 (toLE 4 (crc32c (recsBytes [⟨Obj.SAF_STO_DISC, 3, 2, 50⟩])) ++ toLE 4 0) 0x0E 8).asRow 0x6001), (wGot ({ wCmd 3 with ref := { staged := [(0, [⟨Obj.SAF_STO_DISC, 3, 2, 50⟩])] } }) (((wPkt 0x6001 (toLE 4 (crc32c (recsBytes [⟨Obj.SAF_STO_DISC, 3, 2, 50⟩])) ++ toLE 4 0) 0x0E 8).asRow 0x6001))).2, [⟨Obj.SAF_STO_DISC, 3, 2, 50⟩], rfl, rfl, wGot_spec (by decide +kernel), by decide +kernel⟩

theorem witness_safLogRead : ∃ (s u w : State) (dt : Nat) (p q : Pkt) (d : Deferred) (n : Nat) (es : List ChangeEntry), (u = s.elapse dt) ∧ (q = p.asRow 0x6002) ∧ (Safety.admitted u q = some (w, d)) ∧ (q.payload.length = 8) ∧ (byteAt q.payload 4 = n) ∧ (0 < n) ∧ (n ≤ 126) ∧ (zeros q.payload 5 3 = true) ∧ (es = ((List.range n).map (max (le q.payload 0 4) (w.ref.changeNext - w.ref.changeLog.length) + ·)).filterMap (fun i => if i < w.ref.changeNext then w.ref.changeLog[w.ref.changeNext - 1 - i]? else none)) :=
  ⟨(wCmd 2), State.elapse (wCmd 2) 0, (wGot (wCmd 2) (((wPkt 0x6002 [0, 0, 0, 0, 2, 0, 0, 0]).asRow 0x6002))).1, 0, (wPkt 0x6002 [0, 0, 0, 0, 2, 0, 0, 0]), ((wPkt 0x6002 [0, 0, 0, 0, 2, 0, 0, 0]).asRow 0x6002), (wGot (wCmd 2) (((wPkt 0x6002 [0, 0, 0, 0, 2, 0, 0, 0]).asRow 0x6002))).2, 2, [], rfl, rfl, wGot_spec (by decide +kernel), by decide +kernel⟩

/-! ### StoAndRefereeEventsComplete -/

theorem witness_stoInputChange : ∃ (s u : State) (dt : Nat) (inputB : Bool) (k : Nat), (u = s.elapse dt) ∧ (u.ref.runs = true) ∧ (k < 6) ∧ (bit (u.obj Obj.SAF_STO_MAP) k = true) ∧ (u.obj Obj.SAF_STO_MODE ≠ 1) ∧ ((u.rs k).forced = none) :=
  ⟨wDrive { st := .running }, State.elapse (wDrive { st := .running }) 0, 0, false, 0, rfl, by decide +kernel⟩

theorem witness_stoInputChangeRelease : ∃ (s u : State) (dt : Nat) (inputB : Bool), (u = s.elapse dt) ∧ (u.ref.runs = true) :=
  ⟨wDrive { st := .running }, State.elapse (wDrive { st := .running }) 0, 0, false, rfl, by decide +kernel⟩

theorem witness_stoDiscrepancy : ∃ (s u : State) (dt : Nat) (e k : Nat), (u = s.elapse dt) ∧ (u.ref.runs = true) ∧ (u.ref.stoDisc = some e) ∧ (e ≤ u.clk) ∧ (u.stoComes = false) ∧ (k < 6) ∧ (bit (u.obj Obj.SAF_STO_MAP) k = true) ∧ ((u.rs k).forced = none) :=
  ⟨wRef { wRef0 with stoDisc := some 5 }, State.elapse (wRef { wRef0 with stoDisc := some 5 }) 0, 0, 5, 0, rfl, by decide +kernel⟩

theorem witness_refereeEvaluation : ∃ (s u : State) (dt : Nat) (a : Stamp), (u = s.elapse dt) ∧ (u.gridNow 400000 = some a) ∧ (u.isReady = true) ∧ (u.ref.runs = true) ∧ (u.ref.fault = false) ∧ ((List.range 6).all (fun k => u.enabled k = false && (u.rs k).ss1.isNone && (u.rs k).forced.isNone && (List.range 16).all (fun j => !slotEn (u.slot k j))) = true) :=
  ⟨wRef wRef0, State.elapse (wRef wRef0) 0, 0, 4000000000, rfl, by decide +kernel⟩

theorem witness_ss1TmaxExpire : ∃ (s u : State) (dt : Nat) (sl : Fin 6) (a g : Stamp) (o : F32), (u = s.elapse dt) ∧ ((u.rs sl.val).ss1 = some (a, o)) ∧ (u.gridNow 400000 = some g) ∧ (a + u.obj (safo sl.val Obj.SAF_SS1_TMAX) * msUnits ≤ g - u.tl.steps) ∧ (u.evaluationComes = false) ∧ ((u.rs sl.val).forced = none) :=
  ⟨{ wRef { wRef0 with sl := [(0, { ss1 := some (0, 0#32) })] } with time := { ctr := 400000000000, running := true } }, State.elapse ({ wRef { wRef0 with sl := [(0, { ss1 := some (0, 0#32) })] } with time := { ctr := 400000000000, running := true } }) 0, 0, 0, 0, 400000000000, 0#32, rfl, by decide +kernel⟩

theorem witness_degradedTimeExpire : ∃ (s u : State) (dt : Nat) (sl : Fin 6) (e : Nat), (u = s.elapse dt) ∧ ((u.rs sl.val).degDeadline = some e) ∧ (e ≤ u.clk) :=
  ⟨{ wDrive { st := .running } with ref := { wRef0 with sl := [(0, { degDeadline := some 5 })] } }, State.elapse ({ wDrive { st := .running } with ref := { wRef0 with sl := [(0, { degDeadline := some 5 })] } }) 0, 0, 0, 5, rfl, by decide +kernel⟩

theorem witness_refereeHeartbeat : ∃ (s u : State) (dt : Nat), (u = s.elapse dt) ∧ (u.ref.runs = true) :=
  ⟨wDrive { st := .running }, State.elapse (wDrive { st := .running }) 0, 0, rfl, by decide +kernel⟩

theorem witness_refereeHeartbeatDisagree : ∃ (s u : State) (dt : Nat), (u = s.elapse dt) ∧ (u.ref.runs = true) ∧ (u.ref.fault = false) :=
  ⟨wDrive { st := .running }, State.elapse (wDrive { st := .running }) 0, 0, rfl, by decide +kernel⟩

theorem witness_refereeHeartbeatTimeout : ∃ (s u : State) (dt : Nat), (u = s.elapse dt) ∧ (u.ref.runs = true) ∧ (u.ref.fault = false) ∧ (u.ref.hbDeadline ≤ u.clk) ∧ (u.toggleComes = false) :=
  ⟨wDrive { st := .running }, State.elapse (wDrive { st := .running }) 0, 0, rfl, by decide +kernel⟩

theorem witness_refereeInjection : ∃ (s u : State) (dt : Nat) (a b : Bool), (u = s.elapse dt) ∧ (u.ref.runs = true) ∧ (u.ref.fault = false) ∧ ((a && b) = false) :=
  ⟨wDrive { st := .running }, State.elapse (wDrive { st := .running }) 0, 0, true, false, rfl, by decide +kernel⟩

theorem witness_refereeLockstepMismatch : ∃ (s u : State) (dt : Nat), (u = s.elapse dt) ∧ (u.ref.runs = true) ∧ (u.ref.fault = false) :=
  ⟨wDrive { st := .running }, State.elapse (wDrive { st := .running }) 0, 0, rfl, by decide +kernel⟩

theorem witness_dischargeMonitorDeadlineFail : ∃ (s u : State) (dt : Nat) (sl : Fin 6) (a : Stamp) (n : Nat), (u = s.elapse dt) ∧ (u.ref.runs = true) ∧ ((u.rs sl.val).disDeadline = some (a, n)) ∧ (a ≤ u.clk) ∧ (u.monitorComes sl.val = false) ∧ (u.disBelow sl.val n = false) :=
  ⟨wRef { wRef0 with sl := [(0, { disDeadline := some (5, 0) })] }, State.elapse (wRef { wRef0 with sl := [(0, { disDeadline := some (5, 0) })] }) 0, 0, 0, 5, 0, rfl, by decide +kernel⟩

theorem witness_dischargeMonitorDeadline : ∃ (s u : State) (dt : Nat) (sl : Fin 6) (a : Stamp) (n : Nat), (u = s.elapse dt) ∧ (u.ref.runs = true) ∧ ((u.rs sl.val).disDeadline = some (a, n)) ∧ (a ≤ u.clk) ∧ (u.monitorComes sl.val = false) ∧ (u.disBelow sl.val n = true) :=
  ⟨{ wRef { wRef0 with sl := [(0, { disDeadline := some (5, 60) })] } with sd := [(9, { last := some { stamp := 0, code := 0, value := 0x41200000#32, ovr := false } })], dict := { vals := [(Obj.SAF_SD_MON + 9, 2 ^ 127 + 2 ^ 124)] } }, State.elapse ({ wRef { wRef0 with sl := [(0, { disDeadline := some (5, 60) })] } with sd := [(9, { last := some { stamp := 0, code := 0, value := 0x41200000#32, ovr := false } })], dict := { vals := [(Obj.SAF_SD_MON + 9, 2 ^ 127 + 2 ^ 124)] } }) 0, 0, 0, 5, 60, rfl, by decide +kernel⟩

theorem witness_safLoginLockExpire : ∃ (s u : State) (dt : Nat) (e : Nat), (u = s.elapse dt) ∧ (u.ref.lockUntil = some e) ∧ (e ≤ u.clk) :=
  ⟨wRef { wRef0 with lockUntil := some 5 }, State.elapse (wRef { wRef0 with lockUntil := some 5 }) 0, 0, 5, rfl, by decide +kernel⟩

/-! ### LockstepMemoryAndDebugEventsComplete -/

theorem witness_cpLockstepMismatch : ∃ (s u : State) (dt : Nat), (u = s.elapse dt) ∧ (u.cpUp = true) ∧ ((u.cp.mismatches[1]?).all (fun e => e + sUnits < u.now) = true) :=
  ⟨wReady, State.elapse wReady 0, 0, rfl, by decide +kernel⟩

theorem witness_cpLockstepMismatchThird : ∃ (s u : State) (dt : Nat) (e : Stamp), (u = s.elapse dt) ∧ (u.cpUp = true) ∧ (u.cp.mismatches[1]? = some e) ∧ (u.now ≤ e + sUnits) :=
  ⟨{ wReady with cp := { mismatches := [3999999999, 3999999998] } }, State.elapse ({ wReady with cp := { mismatches := [3999999999, 3999999998] } }) 0, 0, 3999999998, rfl, by decide +kernel⟩

theorem witness_cpRestartDone : ∃ (s u : State) (dt : Nat) (injectionOk : Bool), (u = s.elapse dt) ∧ (u.cp.restarting = true) :=
  ⟨{ wReady with cp := { restarting := true } }, State.elapse ({ wReady with cp := { restarting := true } }) 0, 0, false, rfl, by decide +kernel⟩

theorem witness_cpCheckpoint : ∃ (s u : State) (dt : Nat), (u = s.elapse dt) ∧ (u.cpUp = true) ∧ (u.cp.restarting = false) :=
  ⟨wReady, State.elapse wReady 0, 0, rfl, by decide +kernel⟩

theorem witness_eccUncorrectableCp : ∃ (s u : State) (dt : Nat) (detail : Nat), (u = s.elapse dt) ∧ (u.cpUp = true) ∧ ((u.cp.mismatches[1]?).all (fun e => e + sUnits < u.now) = true) :=
  ⟨wReady, State.elapse wReady 0, 0, 0, rfl, by decide +kernel⟩

theorem witness_eccUncorrectableCrucible : ∃ (s u : State) (dt : Nat) (detail : Nat), (u = s.elapse dt) ∧ (detail < 64) ∧ ((u.ctx detail).hdr ≠ 0) ∧ ((u.ctx detail).fault = false) :=
  ⟨{ wCmd 2 with eng := { ctxs := [(3, { hdr := wHdr })] } }, State.elapse ({ wCmd 2 with eng := { ctxs := [(3, { hdr := wHdr })] } }) 0, 0, 3, rfl, by decide +kernel⟩

theorem witness_eccUncorrectableCanMem : ∃ (s u : State) (dt : Nat) (detail : Nat) (l r : List CanRx) (x : CanRx), (u = s.elapse dt) ∧ (bit detail 2 = false) ∧ (bit detail 3 = false) ∧ (bget [] (u.canU (bits detail 1 0)).rx (bits detail 6 4) = l ++ x :: r) ∧ (l.length = detail / 256) :=
  ⟨wCan { rx := [(0, [{ rcd := ⟨5, 0, 0, 0x56, 0, []⟩, frame := { id := 7 }, mirror := false, filt := 0, eof := 9 }])] }, State.elapse (wCan { rx := [(0, [{ rcd := ⟨5, 0, 0, 0x56, 0, []⟩, frame := { id := 7 }, mirror := false, filt := 0, eof := 9 }])] }) 0, 0, 1, [], [], { rcd := ⟨5, 0, 0, 0x56, 0, []⟩, frame := { id := 7 }, mirror := false, filt := 0, eof := 9 }, rfl, by decide +kernel⟩

theorem witness_eccUncorrectableCanTx : ∃ (s u : State) (dt : Nat) (detail : Nat) (l r : List CanTx) (x : CanTx), (u = s.elapse dt) ∧ (bit detail 2 = false) ∧ (bit detail 3 = true) ∧ (bit detail 7 = false) ∧ (bget [] (u.canU (bits detail 1 0)).tx (bits detail 5 4) = l ++ x :: r) ∧ (l.length = detail / 256) :=
  ⟨wCan { tx := [(1, [{ frame := { id := 5 } }])] }, State.elapse (wCan { tx := [(1, [{ frame := { id := 5 } }])] }) 0, 0, 0x19, [], [], { frame := { id := 5 } }, rfl, by decide +kernel⟩

theorem witness_eccUncorrectableCanFilter : ∃ (s u : State) (dt : Nat) (detail : Nat), (u = s.elapse dt) ∧ (bit detail 2 = true) ∧ (u.isReady = true) :=
  ⟨wCan {}, State.elapse (wCan {}) 0, 0, 5, rfl, by decide +kernel⟩

theorem witness_eccUncorrectableReferee : ∃ (s u : State) (dt : Nat) (detail : Nat), (u = s.elapse dt) ∧ (u.ref.runs = true) ∧ (u.ref.fault = false) :=
  ⟨wDrive { st := .running }, State.elapse (wDrive { st := .running }) 0, 0, 5, rfl, by decide +kernel⟩

theorem witness_eccUncorrectableCache : ∃ (s u : State) (dt : Nat) (detail : Nat) (x : Desc), (u = s.elapse dt) ∧ (descOf detail = some x) ∧ (x.per = 0) :=
  ⟨{ wReady with dict := { vals := [(0x8640, 5)] } }, State.elapse ({ wReady with dict := { vals := [(0x8640, 5)] } }) 0, 0, 0x8640, (descOf 0x8640).getD descTim, rfl, by decide +kernel⟩

theorem witness_eccUncorrectableCacheReload : ∃ (s u : State) (dt : Nat) (detail y : Nat) (x : Desc), (u = s.elapse dt) ∧ (descOf detail = some x) ∧ (u.persisted x detail = some y) :=
  ⟨{ wReady with dict := { vals := [(0x8640, 5)], safe := [(Obj.SAF_STO_MODE, 1)] } }, State.elapse ({ wReady with dict := { vals := [(0x8640, 5)], safe := [(Obj.SAF_STO_MODE, 1)] } }) 0, 0, Obj.SAF_STO_MODE, 1, (descOf Obj.SAF_STO_MODE).getD descTim, rfl, by decide +kernel⟩

theorem witness_muRestartDone : ∃ (s u : State) (dt : Nat), (u = s.elapse dt) ∧ (u.mu.restarting = true) ∧ (u.host.mbxBusy = false) :=
  ⟨{ wReady with mu := { wMu with restarting := true }, log := { cpDrops := 3 } }, State.elapse ({ wReady with mu := { wMu with restarting := true }, log := { cpDrops := 3 } }) 0, 0, rfl, by decide +kernel⟩

theorem witness_muRestartDoneMailbox : ∃ (s u : State) (dt : Nat), (u = s.elapse dt) ∧ (u.mu.restarting = true) ∧ (u.host.mbxBusy = true) :=
  ⟨{ wReady with mu := { wMu with restarting := true }, host := { mbxBusy := true } }, State.elapse ({ wReady with mu := { wMu with restarting := true }, host := { mbxBusy := true } }) 0, 0, rfl, by decide +kernel⟩

theorem witness_debugHalt : ∃ (s u : State) (dt : Nat), (u = s.elapse dt) ∧ (u.debugOk = true) :=
  ⟨{ wReady with mu := { wMu with lc := 1 }, cp := { halted := false } }, State.elapse ({ wReady with mu := { wMu with lc := 1 }, cp := { halted := false } }) 0, 0, rfl, by decide +kernel⟩

theorem witness_debugResume : ∃ (s u : State) (dt : Nat), (u = s.elapse dt) ∧ (u.debugOk = true) :=
  ⟨{ wReady with mu := { wMu with lc := 1 }, cp := { halted := true } }, State.elapse ({ wReady with mu := { wMu with lc := 1 }, cp := { halted := true } }) 0, 0, rfl, by decide +kernel⟩

theorem witness_debugWrite : ∃ (s u : State) (dt : Nat) (addr : Nat) (x : Word), (u = s.elapse dt) ∧ (u.debugOk = true) ∧ (u.cp.halted = true) :=
  ⟨{ wReady with mu := { wMu with lc := 1 }, cp := { halted := true } }, State.elapse ({ wReady with mu := { wMu with lc := 1 }, cp := { halted := true } }) 0, 0, 4, 7#32, rfl, by decide +kernel⟩

/-! ### ManagementOpcodesComplete -/

theorem witness_mgtIngotBegin : ∃ (s u w : State) (dt : Nat) (p q : Pkt) (d : Deferred) (t : Nat), (u = s.elapse dt) ∧ (q = (p.asRow 0x7000).withSel 0 0) ∧ (Safety.admitted u q = some (w, d)) ∧ (q.payload.length = 16) ∧ (w.mu.transfer = none) ∧ (zeros q.payload 1 3 = true) ∧ (zeros q.payload 8 8 = true) ∧ (byteAt q.payload 0 = 0) ∧ (le q.payload 4 4 ≤ 25165824) ∧ (t = w.beginTarget false) :=
  ⟨(wCmd 4), State.elapse (wCmd 4) 0, (wGot (wCmd 4) ((((wPkt 0x7000 ([0, 0, 0, 0, 16, 0, 0, 0] ++ toLE 8 0) 0x0F).asRow 0x7000).withSel 0 0))).1, 0, (wPkt 0x7000 ([0, 0, 0, 0, 16, 0, 0, 0] ++ toLE 8 0) 0x0F), (((wPkt 0x7000 ([0, 0, 0, 0, 16, 0, 0, 0] ++ toLE 8 0) 0x0F).asRow 0x7000).withSel 0 0), (wGot (wCmd 4) ((((wPkt 0x7000 ([0, 0, 0, 0, 16, 0, 0, 0] ++ toLE 8 0) 0x0F).asRow 0x7000).withSel 0 0))).2, 1, rfl, rfl, wGot_spec (by decide +kernel), by decide +kernel⟩

theorem witness_mgtIngotBeginConfig : ∃ (s u w : State) (dt : Nat) (p q : Pkt) (d : Deferred) (t : Nat), (u = s.elapse dt) ∧ (q = (p.asRow 0x7000).withSel 0 1) ∧ (Safety.admitted u q = some (w, d)) ∧ (q.payload.length = 16) ∧ (w.mu.transfer = none) ∧ (zeros q.payload 1 3 = true) ∧ (zeros q.payload 8 8 = true) ∧ (byteAt q.payload 0 = 1) ∧ (le q.payload 4 4 ≤ 2097152) ∧ (t = w.beginTarget true) :=
  ⟨(wCmd 4), State.elapse (wCmd 4) 0, (wGot (wCmd 4) ((((wPkt 0x7000 ([1, 0, 0, 0, 16, 0, 0, 0] ++ toLE 8 0) 0x0F).asRow 0x7000).withSel 0 1))).1, 0, (wPkt 0x7000 ([1, 0, 0, 0, 16, 0, 0, 0] ++ toLE 8 0) 0x0F), (((wPkt 0x7000 ([1, 0, 0, 0, 16, 0, 0, 0] ++ toLE 8 0) 0x0F).asRow 0x7000).withSel 0 1), (wGot (wCmd 4) ((((wPkt 0x7000 ([1, 0, 0, 0, 16, 0, 0, 0] ++ toLE 8 0) 0x0F).asRow 0x7000).withSel 0 1))).2, 2, rfl, rfl, wGot_spec (by decide +kernel), by decide +kernel⟩

theorem witness_mgtIngotData : ∃ (s u w : State) (dt : Nat) (p q : Pkt) (d : Deferred) (t : Transfer) (n : Nat), (u = s.elapse dt) ∧ (q = p.asRow 0x7001) ∧ (Safety.admitted u q = some (w, d)) ∧ (w.mu.transfer = some t) ∧ (t.checking = false) ∧ (State.ownsTransfer q t = true) ∧ (le q.payload 4 2 = n) ∧ (q.payload.length = 8 + n) ∧ (0 < n) ∧ (n ≤ 4056) ∧ (zeros q.payload 6 2 = true) ∧ (le q.payload 0 4 = t.received) ∧ (t.received + n ≤ t.total) :=
  ⟨({ wCmd 4 with mu := { wMu with transfer := some { target := 1, total := 4, session := some 0 } } }), State.elapse ({ wCmd 4 with mu := { wMu with transfer := some { target := 1, total := 4, session := some 0 } } }) 0, (wGot ({ wCmd 4 with mu := { wMu with transfer := some { target := 1, total := 4, session := some 0 } } }) (((wPkt 0x7001 (toLE 4 0 ++ toLE 4 4 ++ toLE 4 9) 0x0F).asRow 0x7001))).1, 0, (wPkt 0x7001 (toLE 4 0 ++ toLE 4 4 ++ toLE 4 9) 0x0F), ((wPkt 0x7001 (toLE 4 0 ++ toLE 4 4 ++ toLE 4 9) 0x0F).asRow 0x7001), (wGot ({ wCmd 4 with mu := { wMu with transfer := some { target := 1, total := 4, session := some 0 } } }) (((wPkt 0x7001 (toLE 4 0 ++ toLE 4 4 ++ toLE 4 9) 0x0F).asRow 0x7001))).2, { target := 1, total := 4, session := some 0 }, 4, rfl, rfl, wGot_spec (by decide +kernel), by decide +kernel⟩

theorem witness_mgtIngotEnd : ∃ (s u w : State) (dt : Nat) (p q : Pkt) (d : Deferred) (t : Transfer), (u = s.elapse dt) ∧ (q = p.asRow 0x7002) ∧ (Safety.admitted u q = some (w, d)) ∧ (w.mu.transfer = some t) ∧ (t.checking = false) ∧ (State.ownsTransfer q t = true) ∧ (q.payload.length = 8) ∧ (zeros q.payload 0 8 = true) ∧ (t.target < 2 ∨ ((match w.mu.cfgLoaded with | some x => x.2 | none => 0) < le t.head 12 4 ∧ (w.isReady = true → byteAt t.head 8 ≤ w.gateSchema))) :=
  ⟨({ wCmd 4 with mu := { wMu with transfer := some { target := 1, total := 4, received := 4, session := some 0 } } }), State.elapse ({ wCmd 4 with mu := { wMu with transfer := some { target := 1, total := 4, received := 4, session := some 0 } } }) 0, (wGot ({ wCmd 4 with mu := { wMu with transfer := some { target := 1, total := 4, received := 4, session := some 0 } } }) (((wPkt 0x7002 (toLE 8 0) 0x0F).asRow 0x7002))).1, 0, (wPkt 0x7002 (toLE 8 0) 0x0F), ((wPkt 0x7002 (toLE 8 0) 0x0F).asRow 0x7002), (wGot ({ wCmd 4 with mu := { wMu with transfer := some { target := 1, total := 4, received := 4, session := some 0 } } }) (((wPkt 0x7002 (toLE 8 0) 0x0F).asRow 0x7002))).2, { target := 1, total := 4, received := 4, session := some 0 }, rfl, rfl, wGot_spec (by decide +kernel), by decide +kernel⟩

theorem witness_mgtActivate : ∃ (s u w : State) (dt : Nat) (p q : Pkt) (d : Deferred) (n : Nat), (u = s.elapse dt) ∧ (q = p.asRow 0x7003) ∧ (Safety.admitted u q = some (w, d)) ∧ (q.payload.length = 16) ∧ (w.slicesRest = true) ∧ (w.resetLocked = false) ∧ (w.mu.activate = none) ∧ (byteAt q.payload 0 = n) ∧ (n ≤ 1) ∧ (zeros q.payload 1 7 = true) ∧ ((w.mu.banks.getD n {}).state = 3) ∧ (w.tooLate (le q.payload 8 8) = false) :=
  ⟨({ wCmd 4 with mu := { wMu with banks := [{}, { state := 3 }] } }), State.elapse ({ wCmd 4 with mu := { wMu with banks := [{}, { state := 3 }] } }) 0, (wGot ({ wCmd 4 with mu := { wMu with banks := [{}, { state := 3 }] } }) (((wPkt 0x7003 (toLE 16 1) 0x0F).asRow 0x7003))).1, 0, (wPkt 0x7003 (toLE 16 1) 0x0F), ((wPkt 0x7003 (toLE 16 1) 0x0F).asRow 0x7003), (wGot ({ wCmd 4 with mu := { wMu with banks := [{}, { state := 3 }] } }) (((wPkt 0x7003 (toLE 16 1) 0x0F).asRow 0x7003))).2, 1, rfl, rfl, wGot_spec (by decide +kernel), by decide +kernel⟩

theorem witness_mgtBind : ∃ (s u w : State) (dt : Nat) (p q : Pkt) (d : Deferred) (check : Fin 6) (b : List Byte), (u = s.elapse dt) ∧ (q = (p.asRow 0x7011).withSel 0 0) ∧ (Safety.admitted u q = some (w, d)) ∧ (8 ≤ q.payload.length) ∧ (q.payload.length = 8 + le q.payload 4 2) ∧ (zeros q.payload 1 3 = true) ∧ (zeros q.payload 6 2 = true) ∧ (byteAt q.payload 0 = 0) ∧ (w.mu.lc = 1 ∨ w.mu.lc = 2) ∧ (w.anyEnabled = false) ∧ (b = q.payload.drop 8) ∧ (176 ≤ b.length) ∧ (le b 0 2 = 1) ∧ (b.length = 176 + le b 2 2) ∧ (zeros b 23 1 = true) ∧ (zeros b 26 6 = true) ∧ (zeros b 104 8 = true) ∧ (check = 5) ∧ (0 < le b 20 2) ∧ (le b 20 2 ≤ 16383) :=
  ⟨({ wCmd 4 with mu := { wMu with lc := 1 } }), State.elapse ({ wCmd 4 with mu := { wMu with lc := 1 } }) 0, (wGot ({ wCmd 4 with mu := { wMu with lc := 1 } }) ((((wPkt 0x7011 (toLE 8 0xB000000000 ++ toLE 4 1 ++ toLE 16 9 ++ toLE 4 7 ++ toLE 152 0) 0x0F).asRow 0x7011).withSel 0 0))).1, 0, (wPkt 0x7011 (toLE 8 0xB000000000 ++ toLE 4 1 ++ toLE 16 9 ++ toLE 4 7 ++ toLE 152 0) 0x0F), (((wPkt 0x7011 (toLE 8 0xB000000000 ++ toLE 4 1 ++ toLE 16 9 ++ toLE 4 7 ++ toLE 152 0) 0x0F).asRow 0x7011).withSel 0 0), (wGot ({ wCmd 4 with mu := { wMu with lc := 1 } }) ((((wPkt 0x7011 (toLE 8 0xB000000000 ++ toLE 4 1 ++ toLE 16 9 ++ toLE 4 7 ++ toLE 152 0) 0x0F).asRow 0x7011).withSel 0 0))).2, 5, toLE 4 1 ++ toLE 16 9 ++ toLE 4 7 ++ toLE 152 0, rfl, rfl, wGot_spec (by decide +kernel), by decide +kernel⟩

theorem witness_mgtInstallAnchor : ∃ (s u w : State) (dt : Nat) (p q : Pkt) (d : Deferred) (b : List Byte), (u = s.elapse dt) ∧ (q = (p.asRow 0x7011).withSel 0 1) ∧ (Safety.admitted u q = some (w, d)) ∧ (8 ≤ q.payload.length) ∧ (q.payload.length = 8 + le q.payload 4 2) ∧ (zeros q.payload 1 3 = true) ∧ (zeros q.payload 6 2 = true) ∧ (byteAt q.payload 0 = 1) ∧ (w.mu.lc = 1) ∧ (b = q.payload.drop 8) ∧ (b.length = 64) ∧ (byteAt b 32 ≤ 3) ∧ (0 < byteAt b 33) ∧ (byteAt b 33 ≤ 16) ∧ (zeros b 50 14 = true) ∧ (w.mu.anchors.length < 4) :=
  ⟨({ wCmd 4 with mu := { wMu with lc := 1 } }), State.elapse ({ wCmd 4 with mu := { wMu with lc := 1 } }) 0, (wGot ({ wCmd 4 with mu := { wMu with lc := 1 } }) ((((wPkt 0x7011 (toLE 8 0x4000000001 ++ toLE 33 0 ++ [1] ++ toLE 30 0) 0x0F).asRow 0x7011).withSel 0 1))).1, 0, (wPkt 0x7011 (toLE 8 0x4000000001 ++ toLE 33 0 ++ [1] ++ toLE 30 0) 0x0F), (((wPkt 0x7011 (toLE 8 0x4000000001 ++ toLE 33 0 ++ [1] ++ toLE 30 0) 0x0F).asRow 0x7011).withSel 0 1), (wGot ({ wCmd 4 with mu := { wMu with lc := 1 } }) ((((wPkt 0x7011 (toLE 8 0x4000000001 ++ toLE 33 0 ++ [1] ++ toLE 30 0) 0x0F).asRow 0x7011).withSel 0 1))).2, toLE 33 0 ++ [1] ++ toLE 30 0, rfl, rfl, wGot_spec (by decide +kernel), by decide +kernel⟩

theorem witness_mgtRemoveBinding : ∃ (s u w : State) (dt : Nat) (p q : Pkt) (d : Deferred), (u = s.elapse dt) ∧ (q = (p.asRow 0x7011).withSel 0 2) ∧ (Safety.admitted u q = some (w, d)) ∧ (8 ≤ q.payload.length) ∧ (q.payload.length = 8 + le q.payload 4 2) ∧ (zeros q.payload 1 3 = true) ∧ (zeros q.payload 6 2 = true) ∧ (byteAt q.payload 0 = 2) ∧ (w.mu.lc = 1 ∨ w.mu.lc = 2) ∧ (w.anyEnabled = false) ∧ (q.payload.length = 8) :=
  ⟨({ wCmd 4 with mu := { wMu with lc := 1 } }), State.elapse ({ wCmd 4 with mu := { wMu with lc := 1 } }) 0, (wGot ({ wCmd 4 with mu := { wMu with lc := 1 } }) ((((wPkt 0x7011 (toLE 8 2) 0x0F).asRow 0x7011).withSel 0 2))).1, 0, (wPkt 0x7011 (toLE 8 2) 0x0F), (((wPkt 0x7011 (toLE 8 2) 0x0F).asRow 0x7011).withSel 0 2), (wGot ({ wCmd 4 with mu := { wMu with lc := 1 } }) ((((wPkt 0x7011 (toLE 8 2) 0x0F).asRow 0x7011).withSel 0 2))).2, rfl, rfl, wGot_spec (by decide +kernel), by decide +kernel⟩

theorem witness_mgtAttest : ∃ (s u w : State) (dt : Nat) (p q : Pkt) (d : Deferred) (c r : List Byte), (u = s.elapse dt) ∧ (q = p.asRow 0x7010) ∧ (Safety.admitted u q = some (w, d)) ∧ (q.payload.length = 40) ∧ (byteAt q.payload 32 ≤ 1) ∧ (zeros q.payload 33 7 = true) ∧ (c = (if byteAt q.payload 32 = 1 then certBytes 0 ++ certBytes 1 else [])) ∧ (r = w.report (q.payload.take 32) (320 + c.length)) :=
  ⟨(wCmd 0), State.elapse (wCmd 0) 0, (wGot (wCmd 0) (((wPkt 0x7010 (toLE 40 0) 0x0F).asRow 0x7010))).1, 0, (wPkt 0x7010 (toLE 40 0) 0x0F), ((wPkt 0x7010 (toLE 40 0) 0x0F).asRow 0x7010), (wGot (wCmd 0) (((wPkt 0x7010 (toLE 40 0) 0x0F).asRow 0x7010))).2, [], (wGot (wCmd 0) (wPkt 0x7010 (toLE 40 0) 0x0F)).1.report (toLE 32 0) 320, rfl, rfl, wGot_spec (by decide +kernel), by refine ⟨?_, ?_, ?_, ?_, rfl⟩ <;> decide +kernel⟩

theorem witness_mgtLogRead : ∃ (s u w : State) (dt : Nat) (p q : Pkt) (d : Deferred) (l rs : List LogRec), (u = s.elapse dt) ∧ (q = p.asRow 0x7020) ∧ (Safety.admitted u q = some (w, d)) ∧ (q.payload.length = 8) ∧ (byteAt q.payload 0 ≤ 1) ∧ (byteAt q.payload 1 ≤ 4) ∧ (0 < byteAt q.payload 2) ∧ (byteAt q.payload 2 ≤ 126) ∧ (zeros q.payload 3 1 = true) ∧ (l = (if byteAt q.payload 0 = 0 then w.log.ring else w.log.nor)) ∧ (rs = ((l.filter fun r => decide ((r.num + 2 ^ 32 - le q.payload 4 4) % 2 ^ 32 < 2 ^ 31) && decide (byteAt q.payload 1 ≤ r.sev)).reverse).take (byteAt q.payload 2)) :=
  ⟨(wCmd 0), State.elapse (wCmd 0) 0, (wGot (wCmd 0) (((wPkt 0x7020 [0, 0, 5, 0, 0, 0, 0, 0] 0x0F).asRow 0x7020))).1, 0, (wPkt 0x7020 [0, 0, 5, 0, 0, 0, 0, 0] 0x0F), ((wPkt 0x7020 [0, 0, 5, 0, 0, 0, 0, 0] 0x0F).asRow 0x7020), (wGot (wCmd 0) (((wPkt 0x7020 [0, 0, 5, 0, 0, 0, 0, 0] 0x0F).asRow 0x7020))).2, [], [], rfl, rfl, wGot_spec (by decide +kernel), by decide +kernel⟩

/-! ### StorageEventsComplete -/

theorem witness_ingotCheckDone : ∃ (s u : State) (dt : Nat) (r : IngotResult) (x : Transfer), (u = s.elapse dt) ∧ (u.mu.transfer = some x) ∧ (x.checking = true) ∧ (x.received = x.total) ∧ (r.failing = 0) ∧ (x.target < 2) ∧ (u.mu.banks.length = 2) ∧ (u.mu.otpRollback ≤ r.rollback) :=
  ⟨{ wCmd 4 with mu := { wMu with transfer := some { target := 1, total := 4, received := 4, checking := true } } }, State.elapse ({ wCmd 4 with mu := { wMu with transfer := some { target := 1, total := 4, received := 4, checking := true } } }) 0, 0, ⟨0, 7, 0, 0x10101, none⟩, { target := 1, total := 4, received := 4, checking := true }, rfl, by decide +kernel⟩

theorem witness_ingotCheckDoneImage : ∃ (s u : State) (dt : Nat) (r : IngotResult) (x : Transfer) (i : CfgImage), (u = s.elapse dt) ∧ (u.mu.transfer = some x) ∧ (x.checking = true) ∧ (x.received = x.total) ∧ (r.failing = 0) ∧ (2 ≤ x.target) ∧ (r.image = some i) ∧ (x.session.isSome = true ∨ i.signedOk = true) :=
  ⟨{ wCmd 4 with mu := { wMu with transfer := some { target := 2, total := 4, received := 4, checking := true, session := some 0 } } }, State.elapse ({ wCmd 4 with mu := { wMu with transfer := some { target := 2, total := 4, received := 4, checking := true, session := some 0 } } }) 0, 0, ⟨0, 7, 0, 0x10101, some ⟨5, 1, true, false, []⟩⟩, { target := 2, total := 4, received := 4, checking := true, session := some 0 }, ⟨5, 1, true, false, []⟩, rfl, by decide +kernel⟩

theorem witness_ingotCheckDoneShort : ∃ (s u : State) (dt : Nat) (r : IngotResult) (x : Transfer), (u = s.elapse dt) ∧ (u.mu.transfer = some x) ∧ (x.checking = true) ∧ (x.received ≠ x.total) ∧ (x.target < 2) ∧ (u.mu.banks.length = 2) :=
  ⟨{ wCmd 4 with mu := { wMu with transfer := some { target := 1, total := 4, received := 3, checking := true } } }, State.elapse ({ wCmd 4 with mu := { wMu with transfer := some { target := 1, total := 4, received := 3, checking := true } } }) 0, 0, ⟨0, 7, 0, 0x10101, none⟩, { target := 1, total := 4, received := 3, checking := true }, rfl, by decide +kernel⟩

theorem witness_ingotTransferTimeout : ∃ (s u : State) (dt : Nat) (x : Transfer) (e : Nat), (u = s.elapse dt) ∧ (u.mu.transfer = some x) ∧ (x.deadline = some e) ∧ (e ≤ u.muNow) ∧ (u.transferComes = false) ∧ (u.mu.banks.length = 2) :=
  ⟨{ wCmd 4 with mu := { wMu with transfer := some { target := 1, total := 4, deadline := some 5 } } }, State.elapse ({ wCmd 4 with mu := { wMu with transfer := some { target := 1, total := 4, deadline := some 5 } } }) 0, 0, { target := 1, total := 4, deadline := some 5 }, 5, rfl, by decide +kernel⟩

theorem witness_mgtActivateApply : ∃ (s u : State) (dt : Nat) (n : Nat) (a : Stamp), (u = s.elapse dt) ∧ (u.mu.activate = some (n, a)) ∧ (u.isReady = true) ∧ (a ≤ u.now) ∧ (u.slicesRest = true) ∧ (u.resetLocked = false) ∧ ((u.mu.banks.getD n {}).state = 3) :=
  ⟨{ wCmd 4 with mu := { wMu with banks := [{}, { state := 3 }], activate := some (1, 5) } }, State.elapse ({ wCmd 4 with mu := { wMu with banks := [{}, { state := 3 }], activate := some (1, 5) } }) 0, 0, 1, 5, rfl, by decide +kernel⟩

theorem witness_mgtActivateApplyRefused : ∃ (s u : State) (dt : Nat) (n : Nat) (a : Stamp), (u = s.elapse dt) ∧ (u.mu.activate = some (n, a)) ∧ (u.isReady = true) ∧ (a ≤ u.now) ∧ (u.slicesRest = false ∨ u.resetLocked = true ∨ (u.mu.banks.getD n {}).state ≠ 3) :=
  ⟨{ wCmd 4 with mu := { wMu with activate := some (1, 5) } }, State.elapse ({ wCmd 4 with mu := { wMu with activate := some (1, 5) } }) 0, 0, 1, 5, rfl, by decide +kernel⟩

theorem witness_norPersistWrite : ∃ (s u : State) (dt : Nat) (idx : Nat), (u = s.elapse dt) ∧ (u.isReady = true) ∧ (u.mu.norBad = false) ∧ (u.mu.restarting = false) ∧ (u.dict.dirty.contains idx = true) :=
  ⟨{ wReady with dict := { dirty := [0x8004] } }, State.elapse ({ wReady with dict := { dirty := [0x8004] } }) 0, 0, 0x8004, rfl, by decide +kernel⟩

theorem witness_norPersistWriteFail : ∃ (s u : State) (dt : Nat) (idx : Nat), (u = s.elapse dt) ∧ (u.isReady = true) ∧ (u.mu.norBad = false) ∧ (u.mu.restarting = false) ∧ (u.dict.dirty.contains idx = true) :=
  ⟨{ wReady with dict := { dirty := [0x8004] } }, State.elapse ({ wReady with dict := { dirty := [0x8004] } }) 0, 0, 0x8004, rfl, by decide +kernel⟩

theorem witness_logNorCopy : ∃ (s u : State) (dt : Nat) (l : List LogRec), (u = s.elapse dt) ∧ (u.mu.restarting = false) ∧ (u.mu.norBad = false) ∧ (u.mu.booted = true) ∧ (l = (u.log.ring.filter fun r => decide (u.log.norDone ≤ r.num) && decide (u.obj Obj.MGT_LOG_NOR_SEV ≤ r.sev))) ∧ ((l ++ u.log.nor).Pairwise fun r x => norKeeps r x = true) :=
  ⟨{ wReady with log := { next := 1, ring := [⟨0, 5, 0, 0, 0, 0, 0x0100, 4, 0xFF, 0⟩] } }, State.elapse ({ wReady with log := { next := 1, ring := [⟨0, 5, 0, 0, 0, 0, 0x0100, 4, 0xFF, 0⟩] } }) 0, 0, [⟨0, 5, 0, 0, 0, 0, 0x0100, 4, 0xFF, 0⟩], rfl, by decide +kernel⟩

/-! ### DiagnosticOpcodesComplete -/

theorem witness_diaBistRun : ∃ (s u w : State) (dt : Nat) (p q : Pkt) (d : Deferred) (bank pat first n : Nat), (u = s.elapse dt) ∧ (q = p.asRow 0x8000) ∧ (Safety.admitted u q = some (w, d)) ∧ (q.payload.length = 8) ∧ (byteAt q.payload 0 = bank) ∧ (byteAt q.payload 1 = pat) ∧ (le q.payload 2 2 = first) ∧ (le q.payload 4 2 = n) ∧ (w.mu.lc ≠ 2) ∧ (w.mu.lc ≠ 4) ∧ (w.anyEnabled = false) ∧ (w.throttled = false) ∧ (w.dia.run = none) ∧ (testedBank bank = true ∨ bank = 255) ∧ (pat ≤ 3) ∧ (0 < n) ∧ (first + n ≤ (if bank = 255 then segCount else 64)) ∧ (zeros q.payload 6 2 = true) :=
  ⟨(wCmd 2), State.elapse (wCmd 2) 0, (wGot (wCmd 2) (((wPkt 0x8000 [3, 1, 4, 0, 2, 0, 0, 0]).asRow 0x8000))).1, 0, (wPkt 0x8000 [3, 1, 4, 0, 2, 0, 0, 0]), ((wPkt 0x8000 [3, 1, 4, 0, 2, 0, 0, 0]).asRow 0x8000), (wGot (wCmd 2) (((wPkt 0x8000 [3, 1, 4, 0, 2, 0, 0, 0]).asRow 0x8000))).2, 3, 1, 4, 2, rfl, rfl, wGot_spec (by decide +kernel), by decide +kernel⟩

theorem witness_diaBistResult : ∃ (s u w : State) (dt : Nat) (p q : Pkt) (d : Deferred) (js : List Nat), (u = s.elapse dt) ∧ (q = p.asRow 0x8001) ∧ (Safety.admitted u q = some (w, d)) ∧ (q.payload.length = 8) ∧ (byteAt q.payload 0 ≤ 31) ∧ (byteAt q.payload 1 ≤ 32) ∧ (zeros q.payload 2 6 = true) ∧ (js = (List.range (byteAt q.payload 1)).map (fun j => Obj.DIA_FAIL + (byteAt q.payload 0 + j) % 32)) :=
  ⟨(wCmd 2), State.elapse (wCmd 2) 0, (wGot (wCmd 2) (((wPkt 0x8001 [31, 2, 0, 0, 0, 0, 0, 0]).asRow 0x8001))).1, 0, (wPkt 0x8001 [31, 2, 0, 0, 0, 0, 0, 0]), ((wPkt 0x8001 [31, 2, 0, 0, 0, 0, 0, 0]).asRow 0x8001), (wGot (wCmd 2) (((wPkt 0x8001 [31, 2, 0, 0, 0, 0, 0, 0]).asRow 0x8001))).2, [Obj.DIA_FAIL + 31, Obj.DIA_FAIL], rfl, rfl, wGot_spec (by decide +kernel), by decide +kernel⟩

theorem witness_diaRemapRow : ∃ (s u w : State) (dt : Nat) (p q : Pkt) (d : Deferred) (bank row n : Nat), (u = s.elapse dt) ∧ (q = p.asRow 0x8002) ∧ (Safety.admitted u q = some (w, d)) ∧ (q.payload.length = 8) ∧ (byteAt q.payload 0 = bank) ∧ (le q.payload 2 2 = row) ∧ (bget 0 w.dia.spares bank = n) ∧ (bank < 20 ∨ 22 < bank ∨ w.anyEnabled = false) ∧ (bank ≤ 23) ∧ (row ≤ 511) ∧ (zeros q.payload 1 1 = true) ∧ (zeros q.payload 4 4 = true) ∧ (n < 8) ∧ (w.mu.norBad = false) :=
  ⟨(wCmd 4), State.elapse (wCmd 4) 0, (wGot (wCmd 4) (((wPkt 0x8002 [3, 0, 4, 0, 0, 0, 0, 0]).asRow 0x8002))).1, 0, (wPkt 0x8002 [3, 0, 4, 0, 0, 0, 0, 0]), ((wPkt 0x8002 [3, 0, 4, 0, 0, 0, 0, 0]).asRow 0x8002), (wGot (wCmd 4) (((wPkt 0x8002 [3, 0, 4, 0, 0, 0, 0, 0]).asRow 0x8002))).2, 3, 4, 0, rfl, rfl, wGot_spec (by decide +kernel), by decide +kernel⟩

theorem witness_diaTraceStop : ∃ (s u w : State) (dt : Nat) (p q : Pkt) (d : Deferred), (u = s.elapse dt) ∧ (q = (p.asRow 0x8010).withSel 0 0) ∧ (Safety.admitted u q = some (w, d)) ∧ (q.payload.length = 40) ∧ (w.throttled = false) ∧ (w.flk.step ≠ .resync) ∧ (zeros q.payload 1 3 = true) ∧ (byteAt q.payload 0 = 0) :=
  ⟨({ wCmd 2 with dia := { traceOn := true, traceCount := 9 } }), State.elapse ({ wCmd 2 with dia := { traceOn := true, traceCount := 9 } }) 0, (wGot ({ wCmd 2 with dia := { traceOn := true, traceCount := 9 } }) ((((wPkt 0x8010 (toLE 40 0)).asRow 0x8010).withSel 0 0))).1, 0, (wPkt 0x8010 (toLE 40 0)), (((wPkt 0x8010 (toLE 40 0)).asRow 0x8010).withSel 0 0), (wGot ({ wCmd 2 with dia := { traceOn := true, traceCount := 9 } }) ((((wPkt 0x8010 (toLE 40 0)).asRow 0x8010).withSel 0 0))).2, rfl, rfl, wGot_spec (by decide +kernel), by decide +kernel⟩

theorem witness_diaTraceStartRing : ∃ (s u w : State) (dt : Nat) (p q : Pkt) (d : Deferred), (u = s.elapse dt) ∧ (q = (p.asRow 0x8010).withSel 0 1) ∧ (Safety.admitted u q = some (w, d)) ∧ (q.payload.length = 40) ∧ (w.throttled = false) ∧ (w.flk.step ≠ .resync) ∧ (zeros q.payload 1 3 = true) ∧ (byteAt q.payload 0 = 1) :=
  ⟨({ wCmd 2 with dia := { traceCount := 9 } }), State.elapse ({ wCmd 2 with dia := { traceCount := 9 } }) 0, (wGot ({ wCmd 2 with dia := { traceCount := 9 } }) ((((wPkt 0x8010 (toLE 8 1 ++ toLE 32 7)).asRow 0x8010).withSel 0 1))).1, 0, (wPkt 0x8010 (toLE 8 1 ++ toLE 32 7)), (((wPkt 0x8010 (toLE 8 1 ++ toLE 32 7)).asRow 0x8010).withSel 0 1), (wGot ({ wCmd 2 with dia := { traceCount := 9 } }) ((((wPkt 0x8010 (toLE 8 1 ++ toLE 32 7)).asRow 0x8010).withSel 0 1))).2, rfl, rfl, wGot_spec (by decide +kernel), by decide +kernel⟩

theorem witness_diaTraceStartOnce : ∃ (s u w : State) (dt : Nat) (p q : Pkt) (d : Deferred), (u = s.elapse dt) ∧ (q = (p.asRow 0x8010).withSel 0 2) ∧ (Safety.admitted u q = some (w, d)) ∧ (q.payload.length = 40) ∧ (w.throttled = false) ∧ (w.flk.step ≠ .resync) ∧ (zeros q.payload 1 3 = true) ∧ (byteAt q.payload 0 = 2) :=
  ⟨({ wCmd 2 with dia := { traceCount := 9 } }), State.elapse ({ wCmd 2 with dia := { traceCount := 9 } }) 0, (wGot ({ wCmd 2 with dia := { traceCount := 9 } }) ((((wPkt 0x8010 (toLE 8 2 ++ toLE 32 7)).asRow 0x8010).withSel 0 2))).1, 0, (wPkt 0x8010 (toLE 8 2 ++ toLE 32 7)), (((wPkt 0x8010 (toLE 8 2 ++ toLE 32 7)).asRow 0x8010).withSel 0 2), (wGot ({ wCmd 2 with dia := { traceCount := 9 } }) ((((wPkt 0x8010 (toLE 8 2 ++ toLE 32 7)).asRow 0x8010).withSel 0 2))).2, rfl, rfl, wGot_spec (by decide +kernel), by decide +kernel⟩

/-! ### SelfTestEventsComplete -/

theorem witness_bistWindowStart : ∃ (s u : State) (dt : Nat), (u = s.elapse dt) ∧ (u.isReady = true) :=
  ⟨wReady, State.elapse wReady 0, 0, rfl, by decide +kernel⟩

theorem witness_bistSliceStartUser : ∃ (s u : State) (dt : Nat) (b x i n : Nat), (u = s.elapse dt) ∧ (u.isReady = true) ∧ (u.dia.cur = none) ∧ (u.dia.run = some (b, x, i, n)) ∧ (b ≠ 255) :=
  ⟨{ wReady with dia := { run := some (3, 1, 4, 2) } }, State.elapse ({ wReady with dia := { run := some (3, 1, 4, 2) } }) 0, 0, 3, 1, 4, 2, rfl, by decide +kernel⟩

theorem witness_bistSliceStart : ∃ (s u : State) (dt : Nat), (u = s.elapse dt) ∧ (u.isReady = true) ∧ (u.dia.cur = none) ∧ (u.dia.run = none) ∧ (u.bistPaused = false) ∧ (50 * usUnits ≤ u.dutyUnits) ∧ (u.dia.window ≠ u.now / windowUnits * windowUnits) :=
  ⟨wReady, State.elapse wReady 0, 0, rfl, by decide +kernel⟩

theorem witness_bistCopyInDone : ∃ (s u : State) (dt : Nat) (x : BistSlice), (u = s.elapse dt) ∧ (u.dia.cur = some x) ∧ (x.phase = 0) :=
  ⟨{ wReady with dia := { cur := some { bank := 3, seg := 4, start := 3999999000 } } }, State.elapse ({ wReady with dia := { cur := some { bank := 3, seg := 4, start := 3999999000 } } }) 0, 0, { bank := 3, seg := 4, start := 3999999000 }, rfl, by decide +kernel⟩

theorem witness_bistMarchDone : ∃ (s u : State) (dt : Nat) (x : BistSlice), (u = s.elapse dt) ∧ (u.dia.cur = some x) ∧ (x.phase = 1) ∧ (u.clk ≤ u.budgetEnd x) :=
  ⟨{ wReady with dia := { cur := some { bank := 3, seg := 4, start := 3999999000, phase := 1 } } }, State.elapse ({ wReady with dia := { cur := some { bank := 3, seg := 4, start := 3999999000, phase := 1 } } }) 0, 0, { bank := 3, seg := 4, start := 3999999000, phase := 1 }, rfl, by decide +kernel⟩

theorem witness_bistMarchDoneFail : ∃ (s u : State) (dt : Nat) (x : BistSlice) (f : CellFail), (u = s.elapse dt) ∧ (u.dia.cur = some x) ∧ (x.phase = 1) :=
  ⟨{ wReady with dia := { cur := some { bank := 3, seg := 4, start := 3999999000, phase := 1 } } }, State.elapse ({ wReady with dia := { cur := some { bank := 3, seg := 4, start := 3999999000, phase := 1 } } }) 0, 0, { bank := 3, seg := 4, start := 3999999000, phase := 1 }, ⟨0, 1, 2, 3, 4, true⟩, rfl, by decide +kernel⟩

theorem witness_bistSliceEnd : ∃ (s u : State) (dt : Nat) (x : BistSlice), (u = s.elapse dt) ∧ (u.dia.cur = some x) ∧ (x.phase = 2) ∧ (x.result = 0) ∧ (x.user = false) ∧ (u.dia.nextSeg + 1 < segCount) :=
  ⟨{ wReady with dia := { cur := some { bank := 3, seg := 4, start := 3999999000, phase := 2 } } }, State.elapse ({ wReady with dia := { cur := some { bank := 3, seg := 4, start := 3999999000, phase := 2 } } }) 0, 0, { bank := 3, seg := 4, start := 3999999000, phase := 2 }, rfl, by decide +kernel⟩

theorem witness_bistSliceEndFail : ∃ (s u : State) (dt : Nat) (x : BistSlice), (u = s.elapse dt) ∧ (u.dia.cur = some x) ∧ (x.phase = 2) ∧ (x.result = 1) ∧ (x.user = false) ∧ (u.dia.nextSeg + 1 < segCount) :=
  ⟨{ wReady with dia := { cur := some { bank := 3, seg := 4, start := 3999999000, phase := 2, result := 1 } } }, State.elapse ({ wReady with dia := { cur := some { bank := 3, seg := 4, start := 3999999000, phase := 2, result := 1 } } }) 0, 0, { bank := 3, seg := 4, start := 3999999000, phase := 2, result := 1 }, rfl, by decide +kernel⟩

theorem witness_bistPreempt : ∃ (s u : State) (dt : Nat) (x : BistSlice), (u = s.elapse dt) ∧ (u.dia.cur = some x) ∧ (x.phase < 2) :=
  ⟨{ wReady with dia := { cur := some { bank := 3, seg := 4, start := 3999999000, phase := 1 } } }, State.elapse ({ wReady with dia := { cur := some { bank := 3, seg := 4, start := 3999999000, phase := 1 } } }) 0, 0, { bank := 3, seg := 4, start := 3999999000, phase := 1 }, rfl, by decide +kernel⟩

theorem witness_bistBudgetExpire : ∃ (s u : State) (dt : Nat) (x : BistSlice), (u = s.elapse dt) ∧ (u.dia.cur = some x) ∧ (x.phase < 2) ∧ (u.budgetEnd x ≤ u.clk) ∧ (u.marchComes = false) :=
  ⟨{ wReady with dia := { cur := some { bank := 3, seg := 4, start := 0, phase := 1 } } }, State.elapse ({ wReady with dia := { cur := some { bank := 3, seg := 4, start := 0, phase := 1 } } }) 0, 0, { bank := 3, seg := 4, start := 0, phase := 1 }, rfl, by decide +kernel⟩

theorem witness_refereeBistSlice : ∃ (s u : State) (dt : Nat), (u = s.elapse dt) ∧ (u.ref.runs = true) :=
  ⟨wRef wRef0, State.elapse (wRef wRef0) 0, 0, rfl, by decide +kernel⟩

theorem witness_refereeBistSliceFail : ∃ (s u : State) (dt : Nat), (u = s.elapse dt) ∧ (u.ref.runs = true) ∧ (u.ref.fault = false) :=
  ⟨wRef wRef0, State.elapse (wRef wRef0) 0, 0, rfl, by decide +kernel⟩

theorem witness_sdPatternCheck : ∃ (s u : State) (dt : Nat) (ch : Fin 64), (u = s.elapse dt) ∧ (u.isReady = true) ∧ (u.isMon ch.val = false) ∧ (u.sdSlot ch.val = none) ∧ (u.fenced (64 + ch.val) = false) :=
  ⟨wReady, State.elapse wReady 0, 0, 5, rfl, by decide +kernel⟩

theorem witness_glLoopbackCheck : ∃ (s u : State) (dt : Nat) (l : Fin 24), (u = s.elapse dt) ∧ (u.isReady = true) ∧ (bit (u.glCfg l.val) 63 = false) ∧ (u.fenced (24 + l.val) = false) :=
  ⟨wReady, State.elapse wReady 0, 0, 5, rfl, by decide +kernel⟩

theorem witness_ringLoopbackCheck : ∃ (s u : State) (dt : Nat) (port : Fin 2), (u = s.elapse dt) ∧ (u.isReady = true) ∧ (u.mu.bypass = true) ∧ (u.fenced (48 + port.val) = false) :=
  ⟨{ wReady with mu := { wMu with bypass := true } }, State.elapse ({ wReady with mu := { wMu with bypass := true } }) 0, 0, 1, rfl, by decide +kernel⟩

theorem witness_canLoopbackCheck : ∃ (s u : State) (dt : Nat) (c : Fin 4), (u = s.elapse dt) ∧ (u.isReady = true) ∧ ((u.canU c.val).mode = 0) ∧ (u.fenced (8 + c.val) = false) :=
  ⟨wReady, State.elapse wReady 0, 0, 1, rfl, by decide +kernel⟩

theorem witness_matrixDatapathError : ∃ (s u : State) (dt : Nat) (unit : Fin 2) (a b : Stamp) (l : List Stamp), (u = s.elapse dt) ∧ (u.isReady = true) ∧ (u.eng.fenceErr.getD unit.val [] = a :: b :: l) ∧ (u.eng.fenceErr.length = 2) ∧ (u.now ≤ b + sUnits) ∧ (u.fenced (6 + unit.val) = false) :=
  ⟨{ wReady with eng := { fenceErr := [[3999999999, 3999999998], []] } }, State.elapse ({ wReady with eng := { fenceErr := [[3999999999, 3999999998], []] } }) 0, 0, 0, 3999999999, 3999999998, [], rfl, by decide +kernel⟩

theorem witness_matrixDatapathErrorFirst : ∃ (s u : State) (dt : Nat) (unit : Fin 2), (u = s.elapse dt) ∧ (u.isReady = true) ∧ (u.eng.fenceErr.getD unit.val [] = []) ∧ (u.eng.fenceErr.length = 2) :=
  ⟨wReady, State.elapse wReady 0, 0, 0, rfl, by decide +kernel⟩

theorem witness_traceCapture : ∃ (s u : State) (dt : Nat) (r : Rec) (l : List Rec), (u = s.elapse dt) ∧ (u.dia.traceOn = true) ∧ (u.dia.traceWait = r :: l) ∧ (u.dia.traceMode = 1) ∧ (u.dia.traceLimit = 0) :=
  ⟨{ wReady with dia := { traceOn := true, traceMode := 1, traceWait := [⟨5, 0, 0, 0x56, 0, []⟩] } }, State.elapse ({ wReady with dia := { traceOn := true, traceMode := 1, traceWait := [⟨5, 0, 0, 0x56, 0, []⟩] } }) 0, 0, ⟨5, 0, 0, 0x56, 0, []⟩, [], rfl, by decide +kernel⟩

theorem witness_traceCaptureLimit : ∃ (s u : State) (dt : Nat) (r : Rec) (l : List Rec), (u = s.elapse dt) ∧ (u.dia.traceOn = true) ∧ (u.dia.traceWait = r :: l) ∧ (u.dia.traceLimit ≠ 0) ∧ (u.dia.traceLimit ≤ u.dia.traceCount + 1) :=
  ⟨{ wReady with dia := { traceOn := true, traceMode := 1, traceLimit := 1, traceWait := [⟨5, 0, 0, 0x56, 0, []⟩] } }, State.elapse ({ wReady with dia := { traceOn := true, traceMode := 1, traceLimit := 1, traceWait := [⟨5, 0, 0, 0x56, 0, []⟩] } }) 0, 0, ⟨5, 0, 0, 0x56, 0, []⟩, [], rfl, by decide +kernel⟩

/-! ### FlaskOpcodesComplete -/

theorem witness_flkConfig : ∃ (s u w : State) (dt : Nat) (p q : Pkt) (d : Deferred) (x : Nat), (u = s.elapse dt) ∧ (q = p.asRow 0x9000) ∧ (Safety.admitted u q = some (w, d)) ∧ (q.payload.length = 16) ∧ (le q.payload 0 16 = x) ∧ (w.anyEnabled = false) ∧ (w.mu.norBad = false) ∧ (bits x 124 114 = 0) ∧ (bits x 99 96 = 0) ∧ (bits x 47 0 = 0) ∧ (10 ≤ bits x 95 80) ∧ (bits x 95 80 ≤ 150) ∧ (10 ≤ bits x 79 64) ∧ (bits x 79 64 ≤ 10000) ∧ (50 ≤ bits x 63 48) ∧ (bits x 63 48 ≤ 10000) ∧ (bit x 127 = true) ∧ (bits x 113 100 ≠ 0) :=
  ⟨(wCmd 4), State.elapse (wCmd 4) 0, (wGot (wCmd 4) (((wPkt 0x9000 (toLE 16 (2 ^ 127 + 2 * 2 ^ 100 + 100 * 2 ^ 80 + 100 * 2 ^ 64 + 100 * 2 ^ 48))).asRow 0x9000))).1, 0, (wPkt 0x9000 (toLE 16 (2 ^ 127 + 2 * 2 ^ 100 + 100 * 2 ^ 80 + 100 * 2 ^ 64 + 100 * 2 ^ 48))), ((wPkt 0x9000 (toLE 16 (2 ^ 127 + 2 * 2 ^ 100 + 100 * 2 ^ 80 + 100 * 2 ^ 64 + 100 * 2 ^ 48))).asRow 0x9000), (wGot (wCmd 4) (((wPkt 0x9000 (toLE 16 (2 ^ 127 + 2 * 2 ^ 100 + 100 * 2 ^ 80 + 100 * 2 ^ 64 + 100 * 2 ^ 48))).asRow 0x9000))).2, 2 ^ 127 + 2 * 2 ^ 100 + 100 * 2 ^ 80 + 100 * 2 ^ 64 + 100 * 2 ^ 48, rfl, rfl, wGot_spec (by decide +kernel), by decide +kernel⟩

theorem witness_flkConfigOff : ∃ (s u w : State) (dt : Nat) (p q : Pkt) (d : Deferred) (x : Nat), (u = s.elapse dt) ∧ (q = p.asRow 0x9000) ∧ (Safety.admitted u q = some (w, d)) ∧ (q.payload.length = 16) ∧ (le q.payload 0 16 = x) ∧ (w.anyEnabled = false) ∧ (w.mu.norBad = false) ∧ (bits x 124 114 = 0) ∧ (bits x 99 96 = 0) ∧ (bits x 47 0 = 0) ∧ (10 ≤ bits x 95 80) ∧ (bits x 95 80 ≤ 150) ∧ (10 ≤ bits x 79 64) ∧ (bits x 79 64 ≤ 10000) ∧ (50 ≤ bits x 63 48) ∧ (bits x 63 48 ≤ 10000) ∧ (bit x 127 = false) :=
  ⟨(wCmd 4), State.elapse (wCmd 4) 0, (wGot (wCmd 4) (((wPkt 0x9000 (toLE 16 (100 * 2 ^ 80 + 100 * 2 ^ 64 + 100 * 2 ^ 48))).asRow 0x9000))).1, 0, (wPkt 0x9000 (toLE 16 (100 * 2 ^ 80 + 100 * 2 ^ 64 + 100 * 2 ^ 48))), ((wPkt 0x9000 (toLE 16 (100 * 2 ^ 80 + 100 * 2 ^ 64 + 100 * 2 ^ 48))).asRow 0x9000), (wGot (wCmd 4) (((wPkt 0x9000 (toLE 16 (100 * 2 ^ 80 + 100 * 2 ^ 64 + 100 * 2 ^ 48))).asRow 0x9000))).2, 100 * 2 ^ 80 + 100 * 2 ^ 64 + 100 * 2 ^ 48, rfl, rfl, wGot_spec (by decide +kernel), by decide +kernel⟩

theorem witness_flkResync : ∃ (s u w : State) (dt : Nat) (p q : Pkt) (d : Deferred), (u = s.elapse dt) ∧ (q = p.asRow 0x9002) ∧ (Safety.admitted u q = some (w, d)) ∧ (q.payload.length = 0) ∧ (w.flk.step ≠ .resync) ∧ (w.inFlask = true) ∧ (w.flk.role = .none ∨ (w.flk.role = .standby ∧ w.flk.step = .outOfStep)) ∧ (w.partnerActive = true) ∧ (w.joinFail w.flk.partner = 0) :=
  ⟨(wFlk { partner := some wHb }), State.elapse (wFlk { partner := some wHb }) 0, (wGot (wFlk { partner := some wHb }) (((wPkt 0x9002 []).asRow 0x9002))).1, 0, (wPkt 0x9002 []), ((wPkt 0x9002 []).asRow 0x9002), (wGot (wFlk { partner := some wHb }) (((wPkt 0x9002 []).asRow 0x9002))).2, rfl, rfl, wGot_spec (by decide +kernel), by decide +kernel⟩

theorem witness_flkHandover : ∃ (s u : State) (dt : Nat) (p q : Pkt) (w y : State) (e : Nat), (u = s.elapse dt) ∧ (q = p.asRow 0x9001) ∧ (u.cpTakes = true) ∧ (u.takeEntry q = some (w, e)) ∧ (checkHead q = none) ∧ (w.sessionOk q = true) ∧ (((w.noteAccepted q).sessOf q).bind (fun x => x.replyOf q.seq.toNat) = none) ∧ (y = (w.noteAccepted q).remember q) ∧ (y.host.deferred = []) ∧ (y.checkOp q = none) ∧ (y.writeDenied q = false) ∧ (y.inFlask = true) ∧ (y.flk.role = .active) :=
  ⟨wFlk { role := .active }, State.elapse (wFlk { role := .active }) 0, 0, wPkt 0x9001 (toLE 16 0), wPkt 0x9001 (toLE 16 0), (((wFlk { role := .active }).elapse 0).takeEntry (wPkt 0x9001 (toLE 16 0))).elim {} (·.1), ((((wFlk { role := .active }).elapse 0).takeEntry (wPkt 0x9001 (toLE 16 0))).elim {} (·.1)).noteAccepted (wPkt 0x9001 (toLE 16 0)) |>.remember (wPkt 0x9001 (toLE 16 0)), 0, rfl, by decide +kernel⟩

theorem witness_mirrorApplyHandover : ∃ (s u : State) (dt : Nat) (m : MirrorItem) (p : Pkt), (u = s.elapse dt) ∧ (u.isReady = true) ∧ (u.flk.step ≠ .resync) ∧ (u.flk.mirror = [m]) ∧ (m.apply ≤ u.now) ∧ (m.body = .command p) ∧ (p.opcode = 0x9001#16) ∧ (p.payload = toLE 16 0) ∧ (u.host.deferred = [{ pkt := p, accepted := m.arrival, entry := 0xFFFF }]) ∧ (u.inFlask = true) ∧ (u.flk.role = .active) ∧ (u.mayHandOver = true) ∧ (u.flk.handover = none) ∧ (50 * usUnits ≤ u.handoverLead) :=
  ⟨{ wFlk { role := .active, partner := some { wHb with step := 3 }, mirror := [{ arrival := 3999600000, apply := 4000000000, seq := 7, whole := true, body := .command (wPkt 0x9001 (toLE 16 0)) }] } with host := { deferred := [{ pkt := wPkt 0x9001 (toLE 16 0), accepted := 3999600000, entry := 0xFFFF }] } }, State.elapse ({ wFlk { role := .active, partner := some { wHb with step := 3 }, mirror := [{ arrival := 3999600000, apply := 4000000000, seq := 7, whole := true, body := .command (wPkt 0x9001 (toLE 16 0)) }] } with host := { deferred := [{ pkt := wPkt 0x9001 (toLE 16 0), accepted := 3999600000, entry := 0xFFFF }] } }) 0, 0, { arrival := 3999600000, apply := 4000000000, seq := 7, whole := true, body := .command (wPkt 0x9001 (toLE 16 0)) }, wPkt 0x9001 (toLE 16 0), rfl, by decide +kernel⟩

/-! ### FlaskEventsComplete -/

theorem witness_mirrorApplyIncrement : ∃ (s u : State) (dt : Nat) (m : MirrorItem) (x : Nat), (u = s.elapse dt) ∧ (u.isReady = true) ∧ (u.flk.step ≠ .resync) ∧ (u.flk.mirror = [m]) ∧ (m.apply ≤ u.now) ∧ (m.body = .increment x) ∧ (bandLo u.anyEnabled ≤ x) ∧ (x ≤ bandHi u.anyEnabled) :=
  ⟨wFlk { mirror := [{ arrival := 3999600000, apply := 4000000000, seq := 7, whole := true, body := .increment 0x9FFFFFFFF }] }, State.elapse (wFlk { mirror := [{ arrival := 3999600000, apply := 4000000000, seq := 7, whole := true, body := .increment 0x9FFFFFFFF }] }) 0, 0, { arrival := 3999600000, apply := 4000000000, seq := 7, whole := true, body := .increment 0x9FFFFFFFF }, 0x9FFFFFFFF, rfl, by decide +kernel⟩

theorem witness_mirrorApplyStep : ∃ (s u : State) (dt : Nat) (m : MirrorItem) (x : Nat), (u = s.elapse dt) ∧ (u.isReady = true) ∧ (u.flk.step ≠ .resync) ∧ (u.flk.mirror = [m]) ∧ (m.apply ≤ u.now) ∧ (m.body = .stepBy x) ∧ (u.anyEnabled = false) :=
  ⟨wFlk { mirror := [{ arrival := 3999600000, apply := 4000000000, seq := 7, whole := true, body := .stepBy 12345 }] }, State.elapse (wFlk { mirror := [{ arrival := 3999600000, apply := 4000000000, seq := 7, whole := true, body := .stepBy 12345 }] }) 0, 0, { arrival := 3999600000, apply := 4000000000, seq := 7, whole := true, body := .stepBy 12345 }, 12345, rfl, by decide +kernel⟩

theorem witness_mirrorHoldExpire : ∃ (s u : State) (dt : Nat), (u = s.elapse dt) ∧ (u.flk.held ≠ []) ∧ (u.nakComes = false) :=
  ⟨wFlk { held := [({ arrival := 3999600000, apply := 4000000000, seq := 7, whole := true, body := .increment 1 }, 0), ({ arrival := 3999600000, apply := 4000000000, seq := 7, whole := true, body := .increment 2 }, 10000000000)] }, State.elapse (wFlk { held := [({ arrival := 3999600000, apply := 4000000000, seq := 7, whole := true, body := .increment 1 }, 0), ({ arrival := 3999600000, apply := 4000000000, seq := 7, whole := true, body := .increment 2 }, 10000000000)] }) 0, 0, rfl, by decide +kernel⟩

theorem witness_ringHeartbeatSend : ∃ (s u : State) (dt : Nat), (u = s.elapse dt) ∧ (u.ringOn = true) ∧ (u.ring.hbAt / 40000 < u.now / 40000) :=
  ⟨wFlk { role := .active }, State.elapse (wFlk { role := .active }) 0, 0, rfl, by decide +kernel⟩

theorem witness_ringHeartbeatRx : ∃ (s u : State) (dt : Nat) (port : Fin 2) (hb : Heartbeat), (u = s.elapse dt) ∧ (u.hears = true) ∧ (hb.src ≠ u.nodeId) ∧ (u.fenced (48 + port.val) = false) :=
  ⟨wFlk {}, State.elapse (wFlk {}) 0, 0, 1, wHb, rfl, by decide +kernel⟩

theorem witness_ringHeartbeatRxOrphan : ∃ (s u : State) (dt : Nat) (port : Fin 2) (hb : Heartbeat), (u = s.elapse dt) ∧ (u.hears = true) ∧ (hb.src ≠ u.nodeId) ∧ (u.fenced (48 + port.val) = false) ∧ (u.inFlask = true) ∧ (hb.src = u.partnerId) ∧ (u.flk.role = .standby) ∧ (hb.claim / 2 ^ 14 = 0) :=
  ⟨wFlk { role := .standby }, State.elapse (wFlk { role := .standby }) 0, 0, 1, { wHb with claim := 2 }, rfl, by decide +kernel⟩

theorem witness_heartbeatFailure : ∃ (s u : State) (dt : Nat) (x : Nat), (u = s.elapse dt) ∧ (u.flk.partnerDeadline = some x) ∧ (u.isReady = true) ∧ (u.inFlask = true) ∧ (x ≤ u.clk) ∧ (u.partnerComes = false) :=
  ⟨wFlk { role := .standby, partner := some wHb, partnerDeadline := some 9 }, State.elapse (wFlk { role := .standby, partner := some wHb, partnerDeadline := some 9 }) 0, 0, 9, rfl, by decide +kernel⟩

theorem witness_joinWaitExpire : ∃ (s u : State) (dt : Nat) (x : Nat), (u = s.elapse dt) ∧ (u.flk.joinDeadline = some x) ∧ (u.isReady = true) ∧ (u.inFlask = true) ∧ (u.flk.role = .none) ∧ (u.flk.step ≠ .resync) ∧ (u.flk.partner = none) ∧ (x ≤ u.clk) ∧ (u.partnerComes = false) ∧ (u.joinFail none = 0) :=
  ⟨wFlk { joinDeadline := some 9 }, State.elapse (wFlk { joinDeadline := some 9 }) 0, 0, 9, rfl, by decide +kernel⟩

theorem witness_ringClaimSend : ∃ (s u : State) (dt : Nat), (u = s.elapse dt) ∧ (u.flk.role = .candidate) ∧ (u.ringOn = true) :=
  ⟨wFlk { role := .candidate }, State.elapse (wFlk { role := .candidate }) 0, 0, rfl, by decide +kernel⟩

theorem witness_ringClaimRx : ∃ (s u : State) (dt : Nat) (port : Fin 2) (src claim : Nat), (u = s.elapse dt) ∧ (u.hears = true) ∧ (u.inFlask = true) ∧ (src = u.partnerId) ∧ (u.fenced (48 + port.val) = false) ∧ (u.claim < claim) ∧ (2 ≤ claim / 2 ^ 14) ∧ (u.flk.role = .active ∨ u.flk.role = .candidate) :=
  ⟨wFlk { role := .active }, State.elapse (wFlk { role := .active }) 0, 0, 1, 2, 0xFF02, rfl, by decide +kernel⟩

theorem witness_ringClaimRxLower : ∃ (s u : State) (dt : Nat) (port : Fin 2) (src claim : Nat), (u = s.elapse dt) ∧ (u.hears = true) ∧ (u.inFlask = true) ∧ (src = u.partnerId) ∧ (u.fenced (48 + port.val) = false) ∧ (claim ≤ u.claim ∨ claim / 2 ^ 14 < 2) :=
  ⟨wFlk { role := .active }, State.elapse (wFlk { role := .active }) 0, 0, 1, 2, 2, rfl, by decide +kernel⟩

theorem witness_handoverBoundary : ∃ (s u : State) (dt : Nat) (x : Stamp), (u = s.elapse dt) ∧ (u.isReady = true) ∧ (u.flk.handover = some x) ∧ (x ≤ u.now) ∧ (u.ownFault = false) ∧ (u.flk.role = .active ∨ u.flk.role = .standby) :=
  ⟨wFlk { role := .active, handover := some 9 }, State.elapse (wFlk { role := .active, handover := some 9 }) 0, 0, 9, rfl, by decide +kernel⟩

theorem witness_ringMirrorRx : ∃ (s u : State) (dt : Nat) (port : Fin 2) (m : MirrorItem), (u = s.elapse dt) ∧ (u.hears = true) ∧ (u.inFlask = true) ∧ (u.flk.role = .standby) ∧ (u.flk.step ≠ .resync) ∧ ((u.ring.badGens.contains u.partnerId) = false) ∧ (u.fenced (48 + port.val) = false) ∧ (m.whole = true) ∧ (u.flk.missing = []) ∧ (seqAfter m.seq u.flk.seqNo = 1) ∧ (u.now < m.apply) :=
  ⟨wFlk { role := .standby, seqNo := 6 }, State.elapse (wFlk { role := .standby, seqNo := 6 }) 0, 0, 1, { arrival := 3999600000, apply := 5000000000, seq := 7, whole := true, body := .increment 1 }, rfl, by decide +kernel⟩

theorem witness_ringMirrorRxLate : ∃ (s u : State) (dt : Nat) (port : Fin 2) (m : MirrorItem), (u = s.elapse dt) ∧ (u.hears = true) ∧ (u.inFlask = true) ∧ (u.flk.role = .standby) ∧ (u.flk.step ≠ .resync) ∧ ((u.ring.badGens.contains u.partnerId) = false) ∧ (u.fenced (48 + port.val) = false) ∧ (m.whole = true) ∧ (u.flk.missing = []) ∧ (seqAfter m.seq u.flk.seqNo = 1) ∧ (m.apply ≤ u.now) :=
  ⟨wFlk { role := .standby, seqNo := 6 }, State.elapse (wFlk { role := .standby, seqNo := 6 }) 0, 0, 1, { arrival := 3999600000, apply := 4000000000, seq := 7, whole := true, body := .increment 1 }, rfl, by decide +kernel⟩

theorem witness_ringNakRx : ∃ (s u : State) (dt : Nat) (first count : Nat), (u = s.elapse dt) ∧ (u.hears = true) ∧ (u.inFlask = true) ∧ (u.flk.role = .active) ∧ ((u.flk.held.filter fun h => decide (seqAfter h.1.seq first < count) && decide (u.clk ≤ h.2)) ≠ []) :=
  ⟨wFlk { role := .active, held := [({ arrival := 3999600000, apply := 4000000000, seq := 7, whole := true, body := .increment 1 }, 10000000000)] }, State.elapse (wFlk { role := .active, held := [({ arrival := 3999600000, apply := 4000000000, seq := 7, whole := true, body := .increment 1 }, 10000000000)] }) 0, 0, 7, 1, rfl, by decide +kernel⟩

theorem witness_ringMirrorResetRx : ∃ (s u : State) (dt : Nat), (u = s.elapse dt) ∧ (u.hears = true) ∧ (u.inFlask = true) ∧ (u.flk.role = .standby) :=
  ⟨wFlk { role := .standby }, State.elapse (wFlk { role := .standby }) 0, 0, rfl, by decide +kernel⟩

theorem witness_ringDigestRx : ∃ (s u : State) (dt : Nat) (k : Fin 6) (x c n : Nat) (crc : Word), (u = s.elapse dt) ∧ (u.hears = true) ∧ (u.inFlask = true) ∧ (u.flk.role = .standby) ∧ (u.flk.loose = false) ∧ (bfind u.flk.digest k.val = some (x, c, n)) ∧ (u.edgeMuted k.val x = false) ∧ (c = crc.toNat) :=
  ⟨wFlk { role := .standby, digest := [(2, 77, 5, 2)] }, State.elapse (wFlk { role := .standby, digest := [(2, 77, 5, 2)] }) 0, 0, 2, 77, 5, 2, 5, rfl, by decide +kernel⟩

theorem witness_ringDigestRxDiffers : ∃ (s u : State) (dt : Nat) (k : Fin 6) (x c n : Nat) (crc : Word), (u = s.elapse dt) ∧ (u.hears = true) ∧ (u.inFlask = true) ∧ (u.flk.role = .standby) ∧ (u.flk.loose = false) ∧ (bfind u.flk.digest k.val = some (x, c, n)) ∧ (u.edgeMuted k.val x = false) ∧ (c ≠ crc.toNat) :=
  ⟨wFlk { role := .standby, step := .inStep, digest := [(2, 77, 5, 2)] }, State.elapse (wFlk { role := .standby, step := .inStep, digest := [(2, 77, 5, 2)] }) 0, 0, 2, 77, 5, 2, 6, rfl, by decide +kernel⟩

/-! ### RingEventsComplete -/

theorem witness_ringAlignExchange : ∃ (s u : State) (dt : Nat), (u = s.elapse dt) ∧ (u.ringOn = true) ∧ (u.alignPeer ≠ 0) ∧ (u.ring.alignDue ≤ u.clk) :=
  ⟨wFlk { step := .resync, resyncStep := 2 }, State.elapse (wFlk { step := .resync, resyncStep := 2 }) 0, 0, rfl, by decide +kernel⟩

theorem witness_ringAlignRx : ∃ (s u : State) (dt : Nat) (src : Nat) (t1 t2 t3 : Stamp), (u = s.elapse dt) ∧ (u.hears = true) ∧ (u.cpStands = false) ∧ (src = u.alignPeer) ∧ (u.ring.alignT1 = some t1) ∧ (u.flk.step = .resync) :=
  ⟨{ wFlk { step := .resync, resyncStep := 2 } with ring := { alignT1 := some 9 } }, State.elapse ({ wFlk { step := .resync, resyncStep := 2 } with ring := { alignT1 := some 9 } }) 0, 0, 2, 9, 10, 11, rfl, by decide +kernel⟩

theorem witness_ringAlignRxOffset : ∃ (s u : State) (dt : Nat) (src : Nat) (t1 t2 t3 : Stamp), (u = s.elapse dt) ∧ (u.hears = true) ∧ (u.cpStands = false) ∧ (src = u.alignPeer) ∧ (u.ring.alignT1 = some t1) ∧ (u.flk.step ≠ .resync) :=
  ⟨{ wFlk {} with ring := { alignT1 := some 3999990000 }, dict := { vals := [(Obj.TIM_SERVO_SEL, 3), (Obj.RING_TIME_SRC, 2)] } }, State.elapse ({ wFlk {} with ring := { alignT1 := some 3999990000 }, dict := { vals := [(Obj.TIM_SERVO_SEL, 3), (Obj.RING_TIME_SRC, 2)] } }) 0, 0, 2, 3999990000, 3999995000, 3999996000, rfl, by decide +kernel⟩

theorem witness_ringObjxRx : ∃ (s u : State) (dt : Nat) (src : Nat) (p q : Pkt), (u = s.elapse dt) ∧ (q = { p with link := .ring src }) ∧ (u.hears = true) ∧ (u.cpTakes = true) ∧ ((u.ring.badGens.contains src) = false) ∧ (q.flags.getLsbD 0 = false) ∧ (u.ring.objx < 8) ∧ (checkHead q = none) ∧ (objxAllowed q = true) ∧ (q.target = 0x0E#8) ∧ (q.opcode = 0x1000#16) ∧ (q.payload.length = 8) ∧ (zeros q.payload 4 4 = true) ∧ (le q.payload 0 4 = 0x302) ∧ (u.host.deferred = []) :=
  ⟨wFlk {}, State.elapse (wFlk {}) 0, 0, 2, Pkt.sealed { wPkt 0x1000 (toLE 8 0x302) with session := 0xFF, link := .ring 2 }, Pkt.sealed { wPkt 0x1000 (toLE 8 0x302) with session := 0xFF, link := .ring 2 }, rfl, by decide +kernel⟩

theorem witness_ringResyncRx : ∃ (s u : State) (dt : Nat) (offset bytes : Nat) (recs : List ObjRec), (u = s.elapse dt) ∧ (u.hears = true) ∧ (u.inResync 4 = true) ∧ (offset = u.flk.imageLen) :=
  ⟨wFlk { step := .resync, resyncStep := 4 }, State.elapse (wFlk { step := .resync, resyncStep := 4 }) 0, 0, 0, 24, [], rfl, by decide +kernel⟩

theorem witness_ringPortLock : ∃ (s u : State) (dt : Nat) (port : Fin 2), (u = s.elapse dt) ∧ (u.isReady = true) ∧ (u.fenced (48 + port.val) = false) :=
  ⟨wReady, State.elapse wReady 0, 0, 1, rfl, by decide +kernel⟩

theorem witness_resyncTimeAligned : ∃ (s u : State) (dt : Nat) (a : Stamp) (i : Nat), (u = s.elapse dt) ∧ (u.inResync 2 = true) ∧ (8 ≤ u.flk.alignCount) ∧ (u.now ≤ a) ∧ (bandLo false ≤ i) ∧ (i ≤ bandHi false) :=
  ⟨wFlk { step := .resync, resyncStep := 2, alignCount := 8 }, State.elapse (wFlk { step := .resync, resyncStep := 2, alignCount := 8 }) 0, 0, 4000000001, 0x9FFFFFFFF, rfl, by decide +kernel⟩

theorem witness_resyncTimeAlignedFails : ∃ (s u : State) (dt : Nat) (a : Stamp) (i : Nat) (z : Bool), (u = s.elapse dt) ∧ (u.inResync 2 = true) ∧ (z = false ∨ u.flk.alignCount < 8 ∨ a < u.now) :=
  ⟨wFlk { step := .resync, resyncStep := 2, alignCount := 8 }, State.elapse (wFlk { step := .resync, resyncStep := 2, alignCount := 8 }) 0, 0, 4000000001, 0x9FFFFFFFF, false, rfl, by decide +kernel⟩

theorem witness_resyncImageDone : ∃ (s u : State) (dt : Nat), (u = s.elapse dt) ∧ (u.inResync 4 = true) :=
  ⟨wFlk { step := .resync, resyncStep := 4 }, State.elapse (wFlk { step := .resync, resyncStep := 4 }) 0, 0, rfl, by decide +kernel⟩

theorem witness_resyncSnapshot : ∃ (s u : State) (dt : Nat) (x : Stamp), (u = s.elapse dt) ∧ (u.flk.snapAt = some x) ∧ (u.inResync 5 = true) ∧ (x ≤ u.now) :=
  ⟨wFlk { step := .resync, resyncStep := 5, snapAt := some 9 }, State.elapse (wFlk { step := .resync, resyncStep := 5, snapAt := some 9 }) 0, 0, 9, rfl, by decide +kernel⟩

theorem witness_resyncSnapshotDone : ∃ (s u : State) (dt : Nat) (snap : Snapshot), (u = s.elapse dt) ∧ (u.inResync 6 = true) :=
  ⟨wFlk { step := .resync, resyncStep := 6 }, State.elapse (wFlk { step := .resync, resyncStep := 6 }) 0, 0, ⟨[], [], [], [], 9⟩, rfl, by decide +kernel⟩

theorem witness_resyncLive : ∃ (s u : State) (dt : Nat) (x : Nat), (u = s.elapse dt) ∧ (u.inResync 7 = true) ∧ (u.flk.resyncDeadline = some x) ∧ (u.clk ≤ x) ∧ (u.flk.mirror = []) ∧ ((List.range 6).any (fun k => (u.sl k).modu.running) = false) :=
  ⟨wFlk { step := .resync, resyncStep := 7, resyncDeadline := some 9000000000 }, State.elapse (wFlk { step := .resync, resyncStep := 7, resyncDeadline := some 9000000000 }) 0, 0, 9000000000, rfl, by decide +kernel⟩

theorem witness_resyncLiveRuns : ∃ (s u : State) (dt : Nat) (x : Nat), (u = s.elapse dt) ∧ (u.inResync 7 = true) ∧ (u.flk.resyncDeadline = some x) ∧ (u.clk ≤ x) ∧ (u.flk.mirror = []) ∧ ((List.range 6).any (fun k => (u.sl k).modu.running) = true) :=
  ⟨{ wFlk { step := .resync, resyncStep := 7, resyncDeadline := some 9000000000 } with slices := [(2, { modu := { running := true } })] }, State.elapse ({ wFlk { step := .resync, resyncStep := 7, resyncDeadline := some 9000000000 } with slices := [(2, { modu := { running := true } })] }) 0, 0, 9000000000, rfl, by decide +kernel⟩

theorem witness_resyncLiveDeadline : ∃ (s u : State) (dt : Nat) (x : Nat), (u = s.elapse dt) ∧ (u.flk.resyncDeadline = some x) ∧ (u.isReady = true) ∧ (x ≤ u.clk) ∧ (u.liveComes = false) ∧ (u.flk.step = .resync) :=
  ⟨wFlk { step := .resync, resyncStep := 6, resyncDeadline := some 9 }, State.elapse (wFlk { step := .resync, resyncStep := 6, resyncDeadline := some 9 }) 0, 0, 9, rfl, by decide +kernel⟩

theorem witness_resyncRetry : ∃ (s u : State) (dt : Nat) (x : Nat), (u = s.elapse dt) ∧ (u.flk.retryAt = some x) ∧ (u.isReady = true) ∧ (u.inFlask = true) ∧ (x ≤ u.clk) ∧ (u.flk.role = .none) ∧ (u.flk.step ≠ .resync) ∧ (u.partnerActive = true) ∧ (u.joinFail u.flk.partner = 0) :=
  ⟨wFlk { retryAt := some 9, partner := some wHb }, State.elapse (wFlk { retryAt := some 9, partner := some wHb }) 0, 0, 9, rfl, by decide +kernel⟩

/-! ### SensingEventsComplete -/

theorem witness_sdMainResult : ∃ (s u : State) (dt : Nat) (ch : Fin 64) (stream : List Bool) (w : State) (k j : Nat) (code : Int) (clamp : Bool) (r : SdRes), (u = s.elapse dt) ∧ (w = u.capture ch.val stream) ∧ (w.sdLive ch.val = true) ∧ (w.sdSlot ch.val = some (k, j)) ∧ ((w.sdU ch.val).lost = false) ∧ (w.isMon ch.val = false) ∧ (w.resultDue ch.val (slotOsr (w.slot k j)) (if w.enabled k then some (k, true) else none) = true) ∧ (sdCode (slotOsr (w.slot k j)) (mainSum (slotOsr (w.slot k j)) (w.sdU ch.val).stream) = (code, clamp)) ∧ (r = { stamp := w.now, code := code, value := sdValue (w.slot k j) code, ovr := clamp || decide (0 < (w.sdU ch.val).ovrLeft) }) :=
  ⟨{ wSense {} with sd := [(0, { since := 60, stream := List.replicate 93 false })], dict := { vals := (0x1200, (2 ^ 127 + 0xFF * 2 ^ 106 + 32 * 2 ^ 96 + 0x3F800000 * 2 ^ 32)) :: (0x8600, 0x8014) :: wDriveObjs } }, State.elapse ({ wSense {} with sd := [(0, { since := 60, stream := List.replicate 93 false })], dict := { vals := (0x1200, (2 ^ 127 + 0xFF * 2 ^ 106 + 32 * 2 ^ 96 + 0x3F800000 * 2 ^ 32)) :: (0x8600, 0x8014) :: wDriveObjs } }) 0, 0, 0, [false], ({ wSense {} with sd := [(0, { since := 60, stream := List.replicate 93 false })], dict := { vals := (0x1200, (2 ^ 127 + 0xFF * 2 ^ 106 + 32 * 2 ^ 96 + 0x3F800000 * 2 ^ 32)) :: (0x8600, 0x8014) :: wDriveObjs } }).capture 0 [false], 0, 0, -0x800000, true, { stamp := 4000000000, code := -0x800000, value := sdValue (2 ^ 127 + 0xFF * 2 ^ 106 + 32 * 2 ^ 96 + 0x3F800000 * 2 ^ 32) (-0x800000), ovr := true }, rfl, by decide +kernel⟩

theorem witness_sdMainResultBit : ∃ (s u : State) (dt : Nat) (ch : Fin 64) (sh : Option (Fin 6 × Fin 16)) (b : Bool), (u = s.elapse dt) ∧ (u.sdLive ch.val = true) ∧ ((u.sdU ch.val).stream.length < 1534) ∧ (bit (u.obj (Obj.SAF_SD_FAST + ch.val)) 63 = false) ∧ (bit (u.obj (Obj.SAF_SD_FAST + ch.val)) 62 = false) :=
  ⟨wSense {}, State.elapse (wSense {}) 0, 0, 0, none, true, rfl, by decide +kernel⟩

theorem witness_sdInterpResult : ∃ (s u : State) (dt : Nat) (ch : Fin 64) (k j : Nat) (q : InterpReq) (b : SdRes), (u = s.elapse dt) ∧ (u.sdLive ch.val = true) ∧ ((List.range 96).filter (fun i => slotEn (u.slot (i / 16) (i % 16)) && (if u.promoted (i / 16) (i % 16) then slotMon (u.slot (i / 16) (i % 16)) = ch.val else slotCh (u.slot (i / 16) (i % 16)) = ch.val)) = [16 * k + j]) ∧ (j < 16) ∧ (u.promoted k j = false) ∧ ((u.sdU ch.val).reqs = [q]) ∧ (q.slice = k) ∧ (q.slot = j) ∧ (q.snapshot = false) ∧ (bfind (u.sl k).slotRes j = some b) ∧ (b.stamp = q.at_) :=
  ⟨{ wSense { slotRes := [(0, ⟨8, 7, 0, false⟩)] } with sd := [(0, { reqs := [⟨8, 0, 0, false⟩] })] }, State.elapse ({ wSense { slotRes := [(0, ⟨8, 7, 0, false⟩)] } with sd := [(0, { reqs := [⟨8, 0, 0, false⟩] })] }) 0, 0, 0, 0, 0, ⟨8, 0, 0, false⟩, ⟨8, 7, 0, false⟩, rfl, by decide +kernel⟩

theorem witness_sdInterpResultBetween : ∃ (s u : State) (dt : Nat) (ch : Fin 64) (k j : Nat) (q : InterpReq) (a b : SdRes) (c : Int), (u = s.elapse dt) ∧ (u.sdLive ch.val = true) ∧ ((List.range 96).filter (fun i => slotEn (u.slot (i / 16) (i % 16)) && (if u.promoted (i / 16) (i % 16) then slotMon (u.slot (i / 16) (i % 16)) = ch.val else slotCh (u.slot (i / 16) (i % 16)) = ch.val)) = [16 * k + j]) ∧ (j < 16) ∧ (u.promoted k j = false) ∧ ((u.sdU ch.val).reqs = [q]) ∧ (q.slice = k) ∧ (q.slot = j) ∧ (q.snapshot = false) ∧ (bfind (u.sl k).slotRes j = some b) ∧ (bfind (u.sl k).slotPrev j = some a) ∧ (a.stamp < q.at_) ∧ (q.at_ < b.stamp) ∧ (c = a.code + ((b.code - a.code) * ((q.at_ - a.stamp) * 2 ^ 32 / (b.stamp - a.stamp)) + 2 ^ 31) / 2 ^ 32) :=
  ⟨{ wSense { slotRes := [(0, ⟨8, 7, 0, false⟩)], slotPrev := [(0, ⟨4, 3, 0, false⟩)] } with sd := [(0, { reqs := [⟨6, 0, 0, false⟩] })] }, State.elapse ({ wSense { slotRes := [(0, ⟨8, 7, 0, false⟩)], slotPrev := [(0, ⟨4, 3, 0, false⟩)] } with sd := [(0, { reqs := [⟨6, 0, 0, false⟩] })] }) 0, 0, 0, 0, 0, ⟨6, 0, 0, false⟩, ⟨4, 3, 0, false⟩, ⟨8, 7, 0, false⟩, 5, rfl, by decide +kernel⟩

theorem witness_sdFastTripHi : ∃ (s u : State) (dt : Nat) (ch : Fin 64) (stream : List Bool) (last : Bool) (w : State) (role k cfg : Nat) (l : List Bool) (x : Int), (u = s.elapse dt) ∧ (w = u.capture ch.val stream) ∧ (w.sdLive ch.val = true) ∧ ((w.sdU ch.val).lost = false) ∧ (w.sdRole ch.val = some (role, k)) ∧ (k < 6) ∧ (cfg = w.obj (Obj.SAF_SD_FAST + ch.val)) ∧ (l = (last :: (w.sdU ch.val).stream).take 1534) ∧ (2 * bits cfg 61 55 - 1 ≤ l.length) ∧ (x = fastCode (bits cfg 61 55) (fastSum (bits cfg 61 55) l)) ∧ (w.obj (Obj.SD_STAT + ch.val) &&& 0x60 = 0) ∧ ((w.rs k).forced = none) ∧ ((w.sdU ch.val).stream.head? ≠ some last ∨ (w.sdU ch.val).run < 256) ∧ (bit cfg 63 = true) ∧ (sgn 16 (bits cfg 31 16) ≤ x) ∧ (bits cfg 54 51 ≤ (w.sdU ch.val).qualHi) ∧ ((w.sdU ch.val).inHi = false) ∧ (bit cfg 62 = false ∨ sgn 16 (bits cfg 15 0) < x) :=
  ⟨{ wSense { st := .running } with sd := [(0, { stream := List.replicate 62 true })], dict := { vals := (Obj.SAF_SD_FAST, 2 ^ 63 + 32 * 2 ^ 55 + 1 * 2 ^ 51 + 5 * 2 ^ 16) :: (safo 0 Obj.SAF_OC_REACT, 1) :: (0x8600, 0x8014) :: wDriveObjs } }, State.elapse ({ wSense { st := .running } with sd := [(0, { stream := List.replicate 62 true })], dict := { vals := (Obj.SAF_SD_FAST, 2 ^ 63 + 32 * 2 ^ 55 + 1 * 2 ^ 51 + 5 * 2 ^ 16) :: (safo 0 Obj.SAF_OC_REACT, 1) :: (0x8600, 0x8014) :: wDriveObjs } }) 0, 0, 0, [true], true, ({ wSense { st := .running } with sd := [(0, { stream := List.replicate 62 true })], dict := { vals := (Obj.SAF_SD_FAST, 2 ^ 63 + 32 * 2 ^ 55 + 1 * 2 ^ 51 + 5 * 2 ^ 16) :: (safo 0 Obj.SAF_OC_REACT, 1) :: (0x8600, 0x8014) :: wDriveObjs } }).capture 0 [true], 0, 0, 2 ^ 63 + 32 * 2 ^ 55 + 1 * 2 ^ 51 + 5 * 2 ^ 16, (true :: true :: List.replicate 62 true), fastCode 32 (fastSum 32 (List.replicate 64 true)), rfl, by decide +kernel⟩

theorem witness_sdFastTripLo : ∃ (s u : State) (dt : Nat) (ch : Fin 64) (stream : List Bool) (last : Bool) (w : State) (role k cfg : Nat) (l : List Bool) (x : Int), (u = s.elapse dt) ∧ (w = u.capture ch.val stream) ∧ (w.sdLive ch.val = true) ∧ ((w.sdU ch.val).lost = false) ∧ (w.sdRole ch.val = some (role, k)) ∧ (k < 6) ∧ (cfg = w.obj (Obj.SAF_SD_FAST + ch.val)) ∧ (l = (last :: (w.sdU ch.val).stream).take 1534) ∧ (2 * bits cfg 61 55 - 1 ≤ l.length) ∧ (x = fastCode (bits cfg 61 55) (fastSum (bits cfg 61 55) l)) ∧ (w.obj (Obj.SD_STAT + ch.val) &&& 0x60 = 0) ∧ ((w.rs k).forced = none) ∧ ((w.sdU ch.val).stream.head? ≠ some last ∨ (w.sdU ch.val).run < 256) ∧ (bit cfg 62 = true) ∧ (x ≤ sgn 16 (bits cfg 15 0)) ∧ (bits cfg 54 51 ≤ (w.sdU ch.val).qualLo) ∧ ((w.sdU ch.val).inLo = false) ∧ (bit cfg 63 = false ∨ x < sgn 16 (bits cfg 31 16)) :=
  ⟨{ wSense { st := .running } with sd := [(0, { stream := List.replicate 62 false })], dict := { vals := (Obj.SAF_SD_FAST, 2 ^ 62 + 32 * 2 ^ 55 + 1 * 2 ^ 51 + 65531) :: (safo 0 Obj.SAF_OC_REACT, 1) :: (0x8600, 0x8014) :: wDriveObjs } }, State.elapse ({ wSense { st := .running } with sd := [(0, { stream := List.replicate 62 false })], dict := { vals := (Obj.SAF_SD_FAST, 2 ^ 62 + 32 * 2 ^ 55 + 1 * 2 ^ 51 + 65531) :: (safo 0 Obj.SAF_OC_REACT, 1) :: (0x8600, 0x8014) :: wDriveObjs } }) 0, 0, 0, [false], false, ({ wSense { st := .running } with sd := [(0, { stream := List.replicate 62 false })], dict := { vals := (Obj.SAF_SD_FAST, 2 ^ 62 + 32 * 2 ^ 55 + 1 * 2 ^ 51 + 65531) :: (safo 0 Obj.SAF_OC_REACT, 1) :: (0x8600, 0x8014) :: wDriveObjs } }).capture 0 [false], 0, 0, 2 ^ 62 + 32 * 2 ^ 55 + 1 * 2 ^ 51 + 65531, (false :: false :: List.replicate 62 false), fastCode 32 (fastSum 32 (List.replicate 64 false)), rfl, by decide +kernel⟩

theorem witness_sdStuck : ∃ (s u : State) (dt : Nat) (c : SdBits) (l : List Bool) (b : Bool) (w : State), (u = s.elapse dt) ∧ (c.stream = l ++ [b]) ∧ (w = u.capture c.ch.val l) ∧ (w.sdLive c.ch.val = true) ∧ ((w.sdU c.ch.val).lost = false) ∧ ((w.sdU c.ch.val).run = 256) ∧ ((w.sdU c.ch.val).stream.head? = some b) ∧ (bit (w.obj (Obj.SAF_SD_FAST + c.ch.val)) 63 = false) ∧ (bit (w.obj (Obj.SAF_SD_FAST + c.ch.val)) 62 = false) :=
  ⟨{ wSense {} with sd := [(0, { run := 255, stream := [true] })] }, State.elapse ({ wSense {} with sd := [(0, { run := 255, stream := [true] })] }) 0, 0, { ch := 0, stream := [true, true] }, [true], true, ({ wSense {} with sd := [(0, { run := 255, stream := [true] })] }).capture 0 [true], rfl, by decide +kernel⟩

theorem witness_mclkInLost : ∃ (s u : State) (dt : Nat), (u = s.elapse dt) ∧ (u.isReady = true) ∧ (u.anyExt = true) ∧ (2 * sUnits ≤ (u.clk - u.mclk.lastEdge) * u.obj Obj.SD_MCLK_IN_NOM) :=
  ⟨{ wSense {} with mclk := { inRun := true }, dict := { vals := (0x8600, 0x4000) :: wDriveObjs } }, State.elapse ({ wSense {} with mclk := { inRun := true }, dict := { vals := (0x8600, 0x4000) :: wDriveObjs } }) 0, 0, rfl, by decide +kernel⟩

theorem witness_mclkInFreqWindow : ∃ (s u : State) (dt : Nat) (hertz : Nat) (margin : Bool), (u = s.elapse dt) ∧ (u.isReady = true) ∧ (u.anyExt = true) ∧ (u.obj Obj.SD_MCLK_IN_NOM < 100 * (u.obj Obj.SD_MCLK_IN_NOM - hertz) ∨ u.obj Obj.SD_MCLK_IN_NOM < 100 * (hertz - u.obj Obj.SD_MCLK_IN_NOM)) :=
  ⟨{ wSense {} with mclk := { inRun := true }, dict := { vals := (0x8600, 0x4000) :: wDriveObjs } }, State.elapse ({ wSense {} with mclk := { inRun := true }, dict := { vals := (0x8600, 0x4000) :: wDriveObjs } }) 0, 0, 1000, true, rfl, by decide +kernel⟩

theorem witness_mclkInReturn : ∃ (s u : State) (dt : Nat), (u = s.elapse dt) ∧ (u.isReady = true) :=
  ⟨{ wSense {} with mclk := { inRun := true }, dict := { vals := (0x8600, 0x4000) :: wDriveObjs } }, State.elapse ({ wSense {} with mclk := { inRun := true }, dict := { vals := (0x8600, 0x4000) :: wDriveObjs } }) 0, 0, rfl, by decide +kernel⟩

theorem witness_sdMonitorRecover : ∃ (s u : State) (dt : Nat) (ch : Fin 64) (x : Nat), (u = s.elapse dt) ∧ ((u.sdU ch.val).okSince = some x) ∧ (u.sdLive ch.val = true) ∧ (u.isMon ch.val = true) ∧ ((u.sdU ch.val).lost = true) ∧ (x + msUnits ≤ u.clk) :=
  ⟨{ wSense {} with sd := [(9, { lost := true, okSince := some 5 })], dict := { vals := (Obj.SAF_SD_MON + 9, 2 ^ 127) :: (0x8601, 0x8014) :: wDriveObjs } }, State.elapse ({ wSense {} with sd := [(9, { lost := true, okSince := some 5 })], dict := { vals := (Obj.SAF_SD_MON + 9, 2 ^ 127) :: (0x8601, 0x8014) :: wDriveObjs } }) 0, 0, 9, 5, rfl, by decide +kernel⟩

theorem witness_sdMclkDivApply : ∃ (s u : State) (dt : Nat) (g : Fin 8) (cfg x : Nat), (u = s.elapse dt) ∧ (bfind u.mclk.pendDiv g.val = some (cfg, x)) ∧ (x ≤ u.now) ∧ (0 < bits cfg 6 0) ∧ ((u.tick - u.mu.t0) % bits cfg 6 0 = 0) :=
  ⟨{ wSense {} with mclk := { pendDiv := [(2, (0x8014, 9))] } }, State.elapse ({ wSense {} with mclk := { pendDiv := [(2, (0x8014, 9))] } }) 0, 0, 2, 0x8014, 9, rfl, by decide +kernel⟩

/-! ### AuxAndHousekeepingEventsComplete -/

theorem witness_auxSampleEnd : ∃ (s u : State) (dt : Nat) (k : Fin 4) (level : Int) (c : AuxConv), (u = s.elapse dt) ∧ ((u.auxU k.val).conv = some c) ∧ (c.sampled = none) ∧ (c.start + (if c.cold then 2600 else 1000) ≤ u.clk) :=
  ⟨{ wReady with aux := [(1, { conv := some { chan := 3, trigger := 3, start := 3999990000, cold := true, pended := false, host := true } })] }, State.elapse ({ wReady with aux := [(1, { conv := some { chan := 3, trigger := 3, start := 3999990000, cold := true, pended := false, host := true } })] }) 0, 0, 1, 700, { chan := 3, trigger := 3, start := 3999990000, cold := true, pended := false, host := true }, rfl, by decide +kernel⟩

theorem witness_auxConversionEnd : ∃ (s u : State) (dt : Nat) (k : Fin 4) (c : AuxConv) (x : Stamp) (level : Int) (corr own : F32), (u = s.elapse dt) ∧ ((u.auxU k.val).conv = some c) ∧ (c.sampled = some (x, level, corr)) ∧ (c.start + (if c.cold then 5600 else 4000) ≤ u.clk) ∧ ((u.auxU k.val).pend = none) ∧ (u.inFlask = false) ∧ (0 ≤ level) ∧ (level ≤ 0xFFF) ∧ (own = if (bget {} u.dict.info (Obj.AUX_REF_CORR + k.val)).stamp ≤ x then u.objF (Obj.AUX_REF_CORR + k.val) else corr) :=
  ⟨{ wReady with aux := [(1, { conv := some { chan := 3, trigger := 3, start := 3999990000, cold := true, pended := false, host := true, sampled := some (3999992600, 700, 0x3F800000#32) } })] }, State.elapse ({ wReady with aux := [(1, { conv := some { chan := 3, trigger := 3, start := 3999990000, cold := true, pended := false, host := true, sampled := some (3999992600, 700, 0x3F800000#32) } })] }) 0, 0, 1, { chan := 3, trigger := 3, start := 3999990000, cold := true, pended := false, host := true, sampled := some (3999992600, 700, 0x3F800000#32) }, 3999992600, 700, 0x3F800000#32, State.objF wReady (Obj.AUX_REF_CORR + 1), rfl, by decide +kernel⟩

theorem witness_auxPowerDown : ∃ (s u : State) (dt : Nat) (k : Fin 4) (x : Stamp), (u = s.elapse dt) ∧ ((u.auxU k.val).ended = some x) ∧ (x < u.now) :=
  ⟨{ wReady with aux := [(1, { ended := some 5 })] }, State.elapse ({ wReady with aux := [(1, { ended := some 5 })] }) 0, 0, 1, 5, rfl, by decide +kernel⟩

theorem witness_hkSlot : ∃ (s u : State) (dt : Nat) (x : F32), (u = s.elapse dt) ∧ (u.mu.booted = true) ∧ (u.mu.restarting = false) ∧ (u.hk.slot < 64) :=
  ⟨{ wReady with hk := { slot := 12 } }, State.elapse ({ wReady with hk := { slot := 12 } }) 0, 0, 0x3F4CCCCD#32, rfl, by decide +kernel⟩

theorem witness_hkRoundEnd : ∃ (s u : State) (dt : Nat), (u = s.elapse dt) ∧ (u.mu.booted = true) ∧ (u.mu.restarting = false) ∧ (u.hk.slot = 64) ∧ (u.hk.hot = false) :=
  ⟨{ wReady with hk := { slot := 64, roundDeadline := 500000000, vals := [(0, 0x41A00000#32), (12, 0x3F4CCCCD#32)] } }, State.elapse ({ wReady with hk := { slot := 64, roundDeadline := 500000000, vals := [(0, 0x41A00000#32), (12, 0x3F4CCCCD#32)] } }) 0, 0, rfl, by decide +kernel⟩

theorem witness_hkRoundLate : ∃ (s u : State) (dt : Nat), (u = s.elapse dt) ∧ (u.mu.booted = true) ∧ (u.hk.roundDeadline < u.muNow) :=
  ⟨{ wReady with hk := { late := 2 } }, State.elapse ({ wReady with hk := { late := 2 } }) 0, 0, rfl, by decide +kernel⟩

theorem witness_throttleEnforce : ∃ (s u : State) (dt : Nat) (x : Nat), (u = s.elapse dt) ∧ (u.hk.graceDeadline = some x) ∧ (u.isReady = true) ∧ (x ≤ u.clk) ∧ (bit (u.obj Obj.MGT_THERM_STAT) 3 = true) ∧ (u.inFlask = false) :=
  ⟨{ wReady with hk := { graceDeadline := some 9 }, dict := { vals := [(Obj.MGT_THERM_STAT, 8)] } }, State.elapse ({ wReady with hk := { graceDeadline := some 9 }, dict := { vals := [(Obj.MGT_THERM_STAT, 8)] } }) 0, 0, 9, rfl, by decide +kernel⟩

theorem witness_thermalStopDeadline : ∃ (s u : State) (dt : Nat) (x : Stamp), (u = s.elapse dt) ∧ (u.isReady = true) ∧ (u.hk.stopAt = some x) ∧ (u.hk.stopDeadline ≤ u.clk) ∧ (u.hk.holdDue ≠ some u.hk.stopDeadline) ∧ ((∀ k < 6, (u.rs k).forced = none)) :=
  ⟨{ wDrive { st := .running } with hk := { stopAt := some 9, stopDeadline := 99, holdDue := some 999 } }, State.elapse ({ wDrive { st := .running } with hk := { stopAt := some 9, stopDeadline := 99, holdDue := some 999 } }) 0, 0, 9, rfl, by decide +kernel⟩

theorem witness_thermalHoldEntry : ∃ (s u : State) (dt : Nat) (x : Nat) (y : Stamp), (u = s.elapse dt) ∧ (u.hk.holdDue = some x) ∧ (u.isReady = true) ∧ (u.hk.stopAt = some y) ∧ (x ≤ u.clk) :=
  ⟨{ wReady with hk := { stopAt := some 9, stopDeadline := 99, holdDue := some 999 } }, State.elapse ({ wReady with hk := { stopAt := some 9, stopDeadline := 99, holdDue := some 999 } }) 0, 0, 999, 9, rfl, by decide +kernel⟩

/-! ### EncoderEventsComplete -/

theorem witness_encQuadTransition : ∃ (s u : State) (dt : Nat) (n : Fin 8) (a b : Bool) (e : Enc), (u = s.elapse dt) ∧ (u.encOn n.val = true) ∧ (u.encMode n.val = 0) ∧ (e = u.encU n.val) ∧ ((e.a ≠ a ∧ e.b = b) ∨ (e.a = a ∧ e.b ≠ b)) :=
  ⟨{ wCmd 2 with dict := { vals := [(Obj.ENC_CFG + 1, 2 ^ 127 + 6 * 2 ^ 122)] }, enc := [(1, { raw := 7 })] }, State.elapse ({ wCmd 2 with dict := { vals := [(Obj.ENC_CFG + 1, 2 ^ 127 + 6 * 2 ^ 122)] }, enc := [(1, { raw := 7 })] }) 0, 0, 1, false, true, { raw := 7 }, rfl, by decide +kernel⟩

theorem witness_encQuadTransitionIllegal : ∃ (s u : State) (dt : Nat) (n : Fin 8) (a b : Bool) (e : Enc), (u = s.elapse dt) ∧ (u.encOn n.val = true) ∧ (u.encMode n.val = 0) ∧ (e = u.encU n.val) ∧ (e.a ≠ a) ∧ (e.b ≠ b) :=
  ⟨{ wCmd 2 with dict := { vals := [(Obj.ENC_CFG + 1, 2 ^ 127 + 6 * 2 ^ 122)] }, enc := [(1, { raw := 7 })] }, State.elapse ({ wCmd 2 with dict := { vals := [(Obj.ENC_CFG + 1, 2 ^ 127 + 6 * 2 ^ 122)] }, enc := [(1, { raw := 7 })] }) 0, 0, 1, false, false, { raw := 7 }, rfl, by decide +kernel⟩

theorem witness_encHallTransition : ∃ (s u : State) (dt : Nat) (n : Fin 8) (h : Fin 8) (e : Enc) (i j : Nat) (d : Int), (u = s.elapse dt) ∧ (u.encOn n.val = true) ∧ (u.encMode n.val = 1) ∧ (e = u.encU n.val) ∧ (h.val ≠ e.hall) ∧ (hallSector h.val = some i) ∧ (popcount3 (h.val ^^^ e.hall) < 2) ∧ (e.sector = some j) ∧ (i = (j + 1) % 6) ∧ (d = if (u.encPar n.val).dirInv then -1 else 1) :=
  ⟨{ wCmd 2 with dict := { vals := [(Obj.ENC_CFG + 1, 2 ^ 127 + 2 ^ 125 + 6 * 2 ^ 122)] }, enc := [(1, { raw := 7, hall := 1, sector := some 0 })] }, State.elapse ({ wCmd 2 with dict := { vals := [(Obj.ENC_CFG + 1, 2 ^ 127 + 2 ^ 125 + 6 * 2 ^ 122)] }, enc := [(1, { raw := 7, hall := 1, sector := some 0 })] }) 0, 0, 1, 3, { raw := 7, hall := 1, sector := some 0 }, 1, 0, 1, rfl, by decide +kernel⟩

theorem witness_encIndex : ∃ (s u : State) (dt : Nat) (n : Fin 8) (rising : Bool) (e c : Enc), (u = s.elapse dt) ∧ (u.encOn n.val = true) ∧ (u.encMode n.val = 0) ∧ (e = u.encU n.val) ∧ (c = u.encWith n.val (u.encPar n.val) e (u.filtStamp n.val)) ∧ ((u.encPar n.val).indexEn = true) ∧ ((rising = true ∧ 0 ≤ e.d) ∨ (rising = false ∧ e.d = -1)) :=
  ⟨{ wCmd 2 with dict := { vals := [(Obj.ENC_CFG + 1, 2 ^ 127 + 2 ^ 120 + 6 * 2 ^ 122)] }, enc := [(1, { raw := 7, rep := 6 })] }, State.elapse ({ wCmd 2 with dict := { vals := [(Obj.ENC_CFG + 1, 2 ^ 127 + 2 ^ 120 + 6 * 2 ^ 122)] }, enc := [(1, { raw := 7, rep := 6 })] }) 0, 0, 1, true, { raw := 7, rep := 6 }, { raw := 7, rep := 6 }, rfl, by decide +kernel⟩

theorem witness_encProbeEdge : ∃ (s u : State) (dt : Nat) (n : Fin 8), (u = s.elapse dt) ∧ (u.encOn n.val = true) ∧ (bit (u.encCfg n.val) 64 = true) ∧ (u.inFlask = false) :=
  ⟨{ wCmd 2 with dict := { vals := [(Obj.ENC_CFG + 1, 2 ^ 127 + 2 ^ 64)] }, enc := [(1, { raw := 7 })] }, State.elapse ({ wCmd 2 with dict := { vals := [(Obj.ENC_CFG + 1, 2 ^ 127 + 2 ^ 64)] }, enc := [(1, { raw := 7 })] }) 0, 0, 1, rfl, by decide +kernel⟩

theorem witness_encProbeEdgeFalling : ∃ (s u : State) (dt : Nat) (n : Fin 8), (u = s.elapse dt) ∧ (u.encOn n.val = true) ∧ (bit (u.encCfg n.val) 65 = true) ∧ (u.inFlask = false) :=
  ⟨{ wCmd 2 with dict := { vals := [(Obj.ENC_CFG + 1, 2 ^ 127 + 2 ^ 65)] }, enc := [(1, { raw := 7 })] }, State.elapse ({ wCmd 2 with dict := { vals := [(Obj.ENC_CFG + 1, 2 ^ 127 + 2 ^ 65)] }, enc := [(1, { raw := 7 })] }) 0, 0, 1, rfl, by decide +kernel⟩

theorem witness_encStandstill : ∃ (s u : State) (dt : Nat) (n : Fin 8), (u = s.elapse dt) ∧ (u.encOn n.val = true) ∧ (u.stillNow n.val (u.encPar n.val) (u.encU n.val) (u.filtStamp n.val) = true) :=
  ⟨{ wCmd 2 with dict := { vals := [(Obj.ENC_CFG + 1, 2 ^ 127 + 100 * 2 ^ 96)] }, enc := [(1, { raw := 7, lastTrans := some 9, speed := 5 })] }, State.elapse ({ wCmd 2 with dict := { vals := [(Obj.ENC_CFG + 1, 2 ^ 127 + 100 * 2 ^ 96)] }, enc := [(1, { raw := 7, lastTrans := some 9, speed := 5 })] }) 0, 0, 1, rfl, by decide +kernel⟩

theorem witness_encSpeedEval : ∃ (s u : State) (dt : Nat) (n : Fin 8) (x : Stamp), (u = s.elapse dt) ∧ (u.encOn n.val = true) ∧ (u.gridNow 400000 = some x) ∧ (6 ≤ u.encOwner n.val) ∧ (u.encMode n.val ≠ 2) :=
  ⟨{ wCmd 2 with dict := { vals := [(Obj.ENC_CFG + 1, 2 ^ 127 + 6 * 2 ^ 122 + 1000 * 2 ^ 80)] }, enc := [(1, { raw := 7, valid := true, hist := [(3999999000, 7), (3999998000, 6)] })] }, State.elapse ({ wCmd 2 with dict := { vals := [(Obj.ENC_CFG + 1, 2 ^ 127 + 6 * 2 ^ 122 + 1000 * 2 ^ 80)] }, enc := [(1, { raw := 7, valid := true, hist := [(3999999000, 7), (3999998000, 6)] })] }) 0, 0, 1, 4000000000, rfl, by decide +kernel⟩

theorem witness_ssiFrameEnd : ∃ (s u : State) (dt : Nat) (n : Fin 8) (w : Nat) (par : Bool) (e : Enc) (x : Stamp) (v : Nat), (u = s.elapse dt) ∧ (u.encOn n.val = true) ∧ (u.encMode n.val = 2) ∧ (e = u.encU n.val) ∧ (e.frameStart = some x) ∧ (e.frameTick + ssiTicks (u.ssiCfg n.val) ≤ u.tick) ∧ (e.frameBHigh = true) ∧ (e.frameCut = false) ∧ (bits (u.ssiCfg n.val) 51 50 = 0) ∧ (bit (u.ssiCfg n.val) 49 = false) ∧ (e.ssiPos = none) ∧ (v = w % 2 ^ bits (u.ssiCfg n.val) 63 58) :=
  ⟨{ wCmd 2 with dict := { vals := [(Obj.ENC_CFG + 1, 2 ^ 127 + 2 ^ 126), (Obj.ENC_SSI_CFG + 1, 12 * 2 ^ 58 + 12 * 2 ^ 52 + 100 * 2 ^ 40)] }, enc := [(1, { frameStart := some 9, frameTick := 9 })] }, State.elapse ({ wCmd 2 with dict := { vals := [(Obj.ENC_CFG + 1, 2 ^ 127 + 2 ^ 126), (Obj.ENC_SSI_CFG + 1, 12 * 2 ^ 58 + 12 * 2 ^ 52 + 100 * 2 ^ 40)] }, enc := [(1, { frameStart := some 9, frameTick := 9 })] }) 0, 0, 1, 0x1234, false, { frameStart := some 9, frameTick := 9 }, 9, 0x234, rfl, by decide +kernel⟩

/-! ### RallyAndTioEventsComplete -/

theorem witness_rallyTimeOccurrence : ∃ (s u : State) (dt : Nat) (k : Fin 6) (e : Fin 64) (w : State) (x : Stamp), (u = s.elapse dt) ∧ (w = u.fireBefore k.val e.val) ∧ (w.timeDue k.val e.val = some x) :=
  ⟨{ wDrive { rally := [(3, { next := 3999999990, committed := some 3999999991 })] } with dict := { vals := (0x8103, 2 ^ 127 + 2 ^ 121 + 6 * 2 ^ 118 + 4000 * 2 ^ 32) :: wDriveObjs } }, State.elapse ({ wDrive { rally := [(3, { next := 3999999990, committed := some 3999999991 })] } with dict := { vals := (0x8103, 2 ^ 127 + 2 ^ 121 + 6 * 2 ^ 118 + 4000 * 2 ^ 32) :: wDriveObjs } }) 0, 0, 0, 3, (State.elapse ({ wDrive { rally := [(3, { next := 3999999990, committed := some 3999999991 })] } with dict := { vals := (0x8103, 2 ^ 127 + 2 ^ 121 + 6 * 2 ^ 118 + 4000 * 2 ^ 32) :: wDriveObjs } }) 0).fireBefore 0 3, 3999999990, rfl, by decide +kernel⟩

theorem witness_rallyPwmPhaseOccurrence : ∃ (s u : State) (dt : Nat) (k : Fin 6) (e : Fin 64) (w : State) (x : Stamp), (u = s.elapse dt) ∧ (w = u.fireBefore k.val e.val) ∧ (w.pwmDue k.val e.val = some x) :=
  ⟨{ wDrive { rally := [(3, { next := 3999900000 })], modu := { running := true, e0 := 399990000, period := 10000 } } with dict := { vals := (0x8103, 2 ^ 127 + 2 * 2 ^ 125 + 6 * 2 ^ 118) :: wDriveObjs } }, State.elapse ({ wDrive { rally := [(3, { next := 3999900000 })], modu := { running := true, e0 := 399990000, period := 10000 } } with dict := { vals := (0x8103, 2 ^ 127 + 2 * 2 ^ 125 + 6 * 2 ^ 118) :: wDriveObjs } }) 0, 0, 0, 3, (State.elapse ({ wDrive { rally := [(3, { next := 3999900000 })], modu := { running := true, e0 := 399990000, period := 10000 } } with dict := { vals := (0x8103, 2 ^ 127 + 2 * 2 ^ 125 + 6 * 2 ^ 118) :: wDriveObjs } }) 0).fireBefore 0 3, 3999950000, rfl, by decide +kernel⟩

theorem witness_rallyAngleOccurrence : ∃ (s u : State) (dt : Nat) (k : Fin 6) (e : Fin 64) (w : State) (x : Stamp), (u = s.elapse dt) ∧ (w = u.fireBefore k.val e.val) ∧ (w.angleDue k.val e.val = some x) :=
  ⟨{ wDrive { rally := [(3, { next := 3999999990, committed := some 3999999991 })] } with dict := { vals := (0x8103, 2 ^ 127 + 2 ^ 125 + 2 ^ 121 + 6 * 2 ^ 118) :: wDriveObjs } }, State.elapse ({ wDrive { rally := [(3, { next := 3999999990, committed := some 3999999991 })] } with dict := { vals := (0x8103, 2 ^ 127 + 2 ^ 125 + 2 ^ 121 + 6 * 2 ^ 118) :: wDriveObjs } }) 0, 0, 0, 3, (State.elapse ({ wDrive { rally := [(3, { next := 3999999990, committed := some 3999999991 })] } with dict := { vals := (0x8103, 2 ^ 127 + 2 ^ 125 + 2 ^ 121 + 6 * 2 ^ 118) :: wDriveObjs } }) 0).fireBefore 0 3, 3999999991, rfl, by decide +kernel⟩

theorem witness_tioPulseTrailingEdge : ∃ (s u : State) (dt : Nat) (n : Fin 8) (x : Stamp) (l : Bool), (u = s.elapse dt) ∧ ((u.tioU n.val).trailing = some (x, l)) ∧ (x ≤ u.now) :=
  ⟨{ wReady with tio := [(2, { level := true, trailing := some (9, false) })] }, State.elapse ({ wReady with tio := [(2, { level := true, trailing := some (9, false) })] }) 0, 0, 2, 9, false, rfl, by decide +kernel⟩

theorem witness_tioCaptureEdge : ∃ (s u : State) (dt : Nat) (n : Fin 8) (l : Bool), (u = s.elapse dt) ∧ (u.isReady = true) ∧ (u.tioMode n.val = 1) ∧ (bit (u.tioCfg n.val) (if l then 16 else 17) = true) ∧ (u.inFlask = false) ∧ ((u.tioU n.val).capts.length < 8) :=
  ⟨{ wCmd 2 with dict := { vals := [(Obj.TIM_TIO_CFG + 2, 2 ^ 16 + 2 ^ 8 + 9 * 2 ^ 64)] } }, State.elapse ({ wCmd 2 with dict := { vals := [(Obj.TIM_TIO_CFG + 2, 2 ^ 16 + 2 ^ 8 + 9 * 2 ^ 64)] } }) 0, 0, 2, true, rfl, by decide +kernel⟩

/-! ### SliceEventsComplete -/

theorem witness_controlSample : ∃ (s u : State) (dt : Nat) (k : Fin 6) (x : Stamp), (u = s.elapse dt) ∧ (u.isReady = true) ∧ (u.enabled k.val = true) ∧ (u.fenced k.val = false) ∧ (u.sampleDue k.val = some x) :=
  ⟨wDrive { st := .armed, modu := { running := true, e0 := 399990000, period := 10000 } }, State.elapse (wDrive { st := .armed, modu := { running := true, e0 := 399990000, period := 10000 } }) 0, 0, 0, 3999950000, rfl, by decide +kernel⟩

theorem witness_zeroSpeedHoldDone : ∃ (s u : State) (dt : Nat) (k : Fin 6) (z : Stamp), (u = s.elapse dt) ∧ ((u.sl k.val).st = .stopping ∨ (u.sl k.val).st = .heldShort) ∧ ((u.sl k.val).zeroSince = some z) ∧ (z + u.slo k.val Obj.SLC_ZERO_TIME * msUnits ≤ (u.sl k.val).lastSample) ∧ ((u.rs k.val).forced = none) ∧ ((u.sl k.val).actAt ≠ some u.now) :=
  ⟨wDrive { st := .stopping, zeroSince := some 9, lastSample := 3999950000 }, State.elapse (wDrive { st := .stopping, zeroSince := some 9, lastSample := 3999950000 }) 0, 0, 0, 9, rfl, by decide +kernel⟩

theorem witness_catchPulse : ∃ (s u : State) (dt : Nat) (k : Fin 6) (c : CatchRun), (u = s.elapse dt) ∧ ((u.sl k.val).st = .catching) ∧ ((u.sl k.val).catchRun = some c) ∧ (c.method = .pulses) ∧ (c.begun = true) ∧ (c.pulseNo < 8) ∧ (c.pulse0 + c.pulseNo * 200 * usUnits ≤ u.now) :=
  ⟨wDrive { st := .catching, catchRun := some { method := .pulses, begun := true, pulse0 := 9 } }, State.elapse (wDrive { st := .catching, catchRun := some { method := .pulses, begun := true, pulse0 := 9 } }) 0, 0, 0, { method := .pulses, begun := true, pulse0 := 9 }, rfl, by decide +kernel⟩

theorem witness_catchTimeout : ∃ (s u : State) (dt : Nat) (k : Fin 6) (c : CatchRun), (u = s.elapse dt) ∧ ((u.sl k.val).st = .catching) ∧ ((u.sl k.val).catchRun = some c) ∧ (c.method = .asc ∨ (c.method = .backEmf ∧ c.magAny = true)) ∧ (c.limit ≤ u.now) ∧ (u.awaitsSample k.val = false) ∧ (c.method = .asc ∨ u.lineWaits k.val c.limit = false) ∧ (c.begun = false ∨ c.magOk = false ∨ c.turn.natAbs < 2 ^ 30) ∧ ((u.rs k.val).forced = none) ∧ ((u.sl k.val).actAt ≠ some u.now) :=
  ⟨wDrive { st := .catching, catchRun := some { method := .asc, begun := true } }, State.elapse (wDrive { st := .catching, catchRun := some { method := .asc, begun := true } }) 0, 0, 0, { method := .asc, begun := true }, rfl, by decide +kernel⟩

theorem witness_polarityTestPhaseEnd : ∃ (s u : State) (dt : Nat) (k : Fin 6) (c : CatchRun) (b1 b2 b3 b4 : Stamp), (u = s.elapse dt) ∧ ((u.sl k.val).st = .catching) ∧ ((u.sl k.val).catchRun = some c) ∧ (c.method = .hfStart) ∧ (u.polEnds k.val c.polFrom = (b1, b2, b3, b4)) ∧ ((c.polPhase = 1 ∧ b1 ≤ u.now) ∨ (c.polPhase = 2 ∧ b2 ≤ u.now) ∨ (c.polPhase = 3 ∧ b3 ≤ u.now)) :=
  ⟨wDrive { st := .catching, catchRun := some { method := .hfStart, begun := true, polPhase := 1, polFrom := 9 } }, State.elapse (wDrive { st := .catching, catchRun := some { method := .hfStart, begun := true, polPhase := 1, polFrom := 9 } }) 0, 0, 0, { method := .hfStart, begun := true, polPhase := 1, polFrom := 9 }, ((wDrive { st := .catching, catchRun := some { method := .hfStart, begun := true, polPhase := 1, polFrom := 9 } }).polEnds 0 9).1, ((wDrive { st := .catching, catchRun := some { method := .hfStart, begun := true, polPhase := 1, polFrom := 9 } }).polEnds 0 9).2.1, ((wDrive { st := .catching, catchRun := some { method := .hfStart, begun := true, polPhase := 1, polFrom := 9 } }).polEnds 0 9).2.2.1, ((wDrive { st := .catching, catchRun := some { method := .hfStart, begun := true, polPhase := 1, polFrom := 9 } }).polEnds 0 9).2.2.2, rfl, by decide +kernel⟩

theorem witness_recatchDelayExpire : ∃ (s u : State) (dt : Nat) (k : Fin 6) (x : Stamp), (u = s.elapse dt) ∧ ((u.sl k.val).loss.recatchAt = some x) ∧ ((u.sl k.val).st = .heldBlock ∨ (u.sl k.val).st = .heldShort) ∧ (x ≤ (u.sl k.val).lastSample) ∧ ((u.sl k.val).loss.lockout = false) ∧ ((u.rs k.val).forced = none) :=
  ⟨wDrive { st := .heldBlock, lastSample := 3999950000, loss := { recatchAt := some 9 } }, State.elapse (wDrive { st := .heldBlock, lastSample := 3999950000, loss := { recatchAt := some 9 } }) 0, 0, 0, 9, rfl, by decide +kernel⟩

theorem witness_recatchWindowExpire : ∃ (s u : State) (dt : Nat) (k : Fin 6) (x : Stamp), (u = s.elapse dt) ∧ ((u.sl k.val).loss.windowEnd = some x) ∧ (x < u.now) :=
  ⟨wDrive { st := .running, loss := { windowEnd := some 9 } }, State.elapse (wDrive { st := .running, loss := { windowEnd := some 9 } }) 0, 0, 0, 9, rfl, by decide +kernel⟩

theorem witness_dischargeTimeout : ∃ (s u : State) (dt : Nat) (k : Fin 6) (d : Discharge), (u = s.elapse dt) ∧ ((u.sl k.val).st = .discharging) ∧ ((u.sl k.val).dis = some d) ∧ (d.start + 5 * sUnits ≤ u.now) ∧ (u.awaitsSample k.val = false) ∧ ((u.rs k.val).forced = none) ∧ ((u.sl k.val).actAt ≠ some u.now) :=
  ⟨{ wDrive { st := .discharging, dis := some ⟨true, 9, 50, 0⟩ } with time := { ctr := 24000000000, running := true } }, State.elapse ({ wDrive { st := .discharging, dis := some ⟨true, 9, 50, 0⟩ } with time := { ctr := 24000000000, running := true } }) 0, 0, 0, ⟨true, 9, 50, 0⟩, rfl, by decide +kernel⟩

theorem witness_setpointRefresh : ∃ (s u : State) (dt : Nat), (u = s.elapse dt) ∧ (u.isReady = true) ∧ (u.cp.restarting = false) ∧ (u.cp.halted = false) :=
  ⟨wDrive { st := .running, cpLost := true }, State.elapse (wDrive { st := .running, cpLost := true }) 0, 0, rfl, by decide +kernel⟩

theorem witness_setpointTimeout : ∃ (s u : State) (dt : Nat) (k : Fin 6), (u = s.elapse dt) ∧ (u.isReady = true) ∧ ((u.sl k.val).st = .running) ∧ ((u.sl k.val).cpLost = false) ∧ ((u.sl k.val).refresh + u.slo k.val Obj.SLC_SETPOINT_TIMEOUT * msUnits ≤ u.clk) ∧ (u.refreshComes = false) ∧ (u.inFlask = false) ∧ ((u.rs k.val).forced = none) ∧ ((u.sl k.val).actAt ≠ some u.now) :=
  ⟨wDrive { st := .running }, State.elapse (wDrive { st := .running }) 0, 0, 0, rfl, by decide +kernel⟩

/-! ### ModulatorEventsComplete -/

theorem witness_updateIntervalStart : ∃ (s u : State) (dt : Nat) (k : Fin 6) (p : Plan), (u = s.elapse dt) ∧ (u.isReady = true) ∧ (u.enabled k.val = true) ∧ (((u.sl k.val).modu.plans.filter fun q => q.start ≤ u.now).getLast? = some p) :=
  ⟨wDrive { st := .running, modu := { plans := [⟨3999990000, 4000030000, .vectors, 1, 2, 3, 4, 5⟩] } }, State.elapse (wDrive { st := .running, modu := { plans := [⟨3999990000, 4000030000, .vectors, 1, 2, 3, 4, 5⟩] } }) 0, 0, 0, ⟨3999990000, 4000030000, .vectors, 1, 2, 3, 4, 5⟩, rfl, by decide +kernel⟩

theorem witness_modulatorComputeDone : ∃ (s u : State) (dt : Nat) (k : Fin 6) (a b : Stamp), (u = s.elapse dt) ∧ (u.isReady = true) ∧ (u.enabled k.val = true) ∧ (u.nextStart k.val (u.now + u.lead k.val) = some (a, b)) ∧ ((u.sl k.val).modu.doneTo ≤ a) ∧ ((u.sl k.val).modu.patternAt a = .shortCircuit ∨ (u.sl k.val).modu.patternAt a = .block) :=
  ⟨wDrive { st := .armed, modu := { running := true, e0 := 399990000, period := 10000, pend := some .block } }, State.elapse (wDrive { st := .armed, modu := { running := true, e0 := 399990000, period := 10000, pend := some .block } }) 0, 0, 0, 4000100000, 4000200000, rfl, by decide +kernel⟩

theorem witness_modulatorComputeDoneVectors : ∃ (s u : State) (dt : Nat) (k : Fin 6) (a b : Stamp), (u = s.elapse dt) ∧ (u.isReady = true) ∧ (u.enabled k.val = true) ∧ (u.nextStart k.val (u.now + u.lead k.val) = some (a, b)) ∧ ((u.sl k.val).modu.doneTo ≤ a) ∧ ((u.sl k.val).modu.patternAt a = .vectors) ∧ ((u.sl k.val).modu.target = none) ∧ ((u.sl k.val).modu.nextMode = none) :=
  ⟨wDrive { st := .running, modu := { running := true, e0 := 399990000, period := 10000, active := .vectors } }, State.elapse (wDrive { st := .running, modu := { running := true, e0 := 399990000, period := 10000, active := .vectors } }) 0, 0, 0, 4000100000, 4000200000, rfl, by decide +kernel⟩

theorem witness_modulationModeBoundary : ∃ (s u : State) (dt : Nat) (k : Fin 6) (sy : Bool) (n : Nat) (x : Stamp), (u = s.elapse dt) ∧ ((u.sl k.val).modu.nextMode = some (sy, n, x)) ∧ (x ≤ u.now) :=
  ⟨wDrive { st := .running, modu := { nextMode := some (true, 7, 9) } }, State.elapse (wDrive { st := .running, modu := { nextMode := some (true, 7, 9) } }) 0, 0, 0, true, 7, 9, rfl, by decide +kernel⟩

theorem witness_pwmPeriodApply : ∃ (s u : State) (dt : Nat) (k : Fin 6) (p h : Nat) (x : Stamp) (more : List (Nat × Stamp)), (u = s.elapse dt) ∧ ((u.sl k.val).modu.pendPeriod = (p, x) :: more) ∧ (u.extBefore k.val u.tick = some h) ∧ (x ≤ u.extStamp k.val (h - h % 2)) :=
  ⟨wDrive { st := .running, modu := { running := true, e0 := 399990000, period := 10000, pendPeriod := [(8000, 9)] } }, State.elapse (wDrive { st := .running, modu := { running := true, e0 := 399990000, period := 10000, pendPeriod := [(8000, 9)] } }) 0, 0, 0, 8000, 2, 9, [], rfl, by decide +kernel⟩

theorem witness_edgeSend : ∃ (s u : State) (dt : Nat) (l : Fin 24) (e d : Edge) (rest : List Edge) (k : Nat), (u = s.elapse dt) ∧ (k = u.linkSlice l.val) ∧ (k < 6) ∧ (u.isReady = true) ∧ (u.enabled k = true) ∧ ((u.glU l.val).queue = e :: rest) ∧ (u.inFlask = false) ∧ (copyAt u.now + u.lead k ≤ e.stamp) ∧ (u.syncDue l.val = false) ∧ (((u.glU l.val).sent.filter fun x => u.now < x.stamp).length < 32) ∧ (u.now % 8000 ≤ 6000) ∧ (d = { e with seq := (u.glU l.val).nextSeq }) :=
  ⟨{ wDrive { st := .running } with gl := [(0, { queue := [{ stamp := 4000800000, high := true, on := true }], nextSeq := 5, lastSync := 4000000000 })] }, State.elapse ({ wDrive { st := .running } with gl := [(0, { queue := [{ stamp := 4000800000, high := true, on := true }], nextSeq := 5, lastSync := 4000000000 })] }) 0, 0, 0, { stamp := 4000800000, high := true, on := true }, { stamp := 4000800000, high := true, on := true, seq := 5 }, [], 0, rfl, by decide +kernel⟩

theorem witness_edgeSendLate : ∃ (s u : State) (dt : Nat) (l : Fin 24) (e : Edge) (rest : List Edge) (k : Nat), (u = s.elapse dt) ∧ (k = u.linkSlice l.val) ∧ (k < 6) ∧ (u.isReady = true) ∧ (u.enabled k = true) ∧ ((u.glU l.val).queue = e :: rest) ∧ (u.inFlask = false) ∧ (e.stamp < copyAt u.now + u.lead k) ∧ (bit (u.obj (Obj.GL_STAT + l.val)) 15 = false) ∧ ((u.sl k).catchRun = none) :=
  ⟨{ wDrive { st := .running } with gl := [(0, { queue := [{ stamp := 9, high := true, on := true }] })] }, State.elapse ({ wDrive { st := .running } with gl := [(0, { queue := [{ stamp := 9, high := true, on := true }] })] }) 0, 0, 0, { stamp := 9, high := true, on := true }, [], 0, rfl, by decide +kernel⟩

/-! ### GateLinkEventsComplete -/

theorem witness_glSyncSend : ∃ (s u : State) (dt : Nat) (l : Fin 24), (u = s.elapse dt) ∧ (u.linksSpeak = true) ∧ ((u.glU l.val).lastSync / 8000 < u.now / 8000) ∧ (u.flk.handover = none) :=
  ⟨wDrive { st := .running }, State.elapse (wDrive { st := .running }) 0, 0, 0, rfl, by decide +kernel⟩

theorem witness_glModeSend : ∃ (s u : State) (dt : Nat) (l : Fin 24), (u = s.elapse dt) ∧ (u.linksSpeak = true) ∧ ((u.glU l.val).modeDue.isSome = true) ∧ (u.now % 8000 ≤ 6000) ∧ (u.syncDue l.val = false) ∧ (u.edgeWaits l.val = false) :=
  ⟨{ wDrive { st := .running } with gl := [(0, { modeDue := some 9, restart := true, lastSync := 4000000000 })] }, State.elapse ({ wDrive { st := .running } with gl := [(0, { modeDue := some 9, restart := true, lastSync := 4000000000 })] }) 0, 0, 0, rfl, by decide +kernel⟩

theorem witness_glStatusRx : ∃ (s u : State) (dt : Nat) (l : Fin 24) (body : BitVec 64) (crc : Byte), (u = s.elapse dt) ∧ (u.linksSpeak = true) ∧ (crc = crc8 (0xBC#8 :: (toLE 8 body.toNat).reverse)) :=
  ⟨wDrive { st := .running }, State.elapse (wDrive { st := .running }) 0, 0, 0, 0x0000100000000000, crc8 (0xBC#8 :: (toLE 8 0x0000100000000000).reverse), rfl, by decide +kernel⟩

theorem witness_glStatusRxBadCrc : ∃ (s u : State) (dt : Nat) (l : Fin 24) (body : BitVec 64) (crc : Byte), (u = s.elapse dt) ∧ (u.linksSpeak = true) ∧ (crc ≠ crc8 (0xBC#8 :: (toLE 8 body.toNat).reverse)) :=
  ⟨wDrive { st := .running }, State.elapse (wDrive { st := .running }) 0, 0, 0, 0x0000100000000000, crc8 (0xBC#8 :: (toLE 8 0x0000100000000000).reverse) + 1, rfl, by decide +kernel⟩

theorem witness_glExecRx : ∃ (s u : State) (dt : Nat) (l : Fin 24) (body : BitVec 64) (crc : Byte) (d : Edge), (u = s.elapse dt) ∧ (u.linksSpeak = true) ∧ (crc = crc8 (0x3C#8 :: (toLE 8 body.toNat).reverse)) ∧ ((u.glU l.val).await.find? (fun e => e.seq = bits body.toNat 31 16) = some d) ∧ (bit (u.obj (Obj.GL_STAT + l.val)) 17 = true) ∧ (bits body.toNat 63 32 = d.stamp % 2 ^ 32) ∧ (d.high = bit body.toNat 15) ∧ (d.on = bit body.toNat 14) ∧ (bit body.toNat 12 = false) ∧ (d.stamp < 2 ^ 64) :=
  ⟨{ wDrive { st := .running } with gl := [(0, { await := [{ stamp := 3999960000, high := true, on := true, seq := 5 }] })], dict := { vals := (Obj.GL_STAT, 2 ^ 17 + 2 ^ 18) :: wDriveObjs } }, State.elapse ({ wDrive { st := .running } with gl := [(0, { await := [{ stamp := 3999960000, high := true, on := true, seq := 5 }] })], dict := { vals := (Obj.GL_STAT, 2 ^ 17 + 2 ^ 18) :: wDriveObjs } }) 0, 0, 0, 17179697385308536832, crc8 (0x3C#8 :: (toLE 8 17179697385308536832).reverse), { stamp := 3999960000, high := true, on := true, seq := 5 }, rfl, by decide +kernel⟩

theorem witness_glEchoTimeout : ∃ (s u : State) (dt : Nat) (l : Fin 24), (u = s.elapse dt) ∧ (u.linksSpeak = true) ∧ (u.linkFrameComes true l.val = false) :=
  ⟨{ wDrive { st := .running } with gl := [(0, { await := [{ stamp := 3999960000, high := true, on := true, seq := 5 }] })], dict := { vals := (Obj.GL_STAT, 2 ^ 17 + 2 ^ 18) :: wDriveObjs } }, State.elapse ({ wDrive { st := .running } with gl := [(0, { await := [{ stamp := 3999960000, high := true, on := true, seq := 5 }] })], dict := { vals := (Obj.GL_STAT, 2 ^ 17 + 2 ^ 18) :: wDriveObjs } }) 0, 0, 0, rfl, by decide +kernel⟩

theorem witness_glStatusTimeout : ∃ (s u : State) (dt : Nat) (l : Fin 24) (x : Nat), (u = s.elapse dt) ∧ (u.linksSpeak = true) ∧ ((u.glU l.val).lastStatus = some x) ∧ (bit (u.glCfg l.val) 63 = true) ∧ (x + 10000 ≤ u.clk) ∧ (u.linkFrameComes false l.val = false) :=
  ⟨{ wDrive { st := .running } with gl := [(0, { lastStatus := some 9 })] }, State.elapse ({ wDrive { st := .running } with gl := [(0, { lastStatus := some 9 })] }) 0, 0, 0, 9, rfl, by decide +kernel⟩

/-! ### SafetyQueueTakesOnlyItsOpcodes -/

/-- READY with one command in SQ0. -/
def wSq0 : State :=
  { wReady with host := { spiMask := 0, sessions := [(0, some { level := 2, link := .pcie 4 })], pairs := [(0, { en := true, depth := 4, owned := 1, rbuf := 4096 })] } }

/-- A packet on SQ0. -/
def wPkt0 (op : Nat) (b : List Byte) (target : Nat) (flags : Nat) : Pkt := Pkt.sealed { wPkt op b target flags with link := .pcie 0 }

theorem witness_sq0Denied : ∃ (s u v w x : State) (c : Instr) (dt : Nat) (q : Pkt) (e : Nat), Safety.packetOf c = some (dt, q) ∧ u = s.elapse dt ∧
    u.cpTakes = true ∧ u.takeEntry q = some (v, e) ∧ checkHead q = none ∧ v.sessionOk q = true ∧ w = v.noteAccepted q ∧
    ((w.sessOf q).bind fun x => x.replyOf q.seq.toNat) = none ∧
    (w.host.deferred.find? fun d =>
      d.live && (w.sessOf q).isSome && d.pkt.session = q.session && d.pkt.seq = q.seq && d.pkt.crc = q.crc) = none ∧
    x = w.remember q ∧ x.pairOf q.link = some 0 ∧ q.opcode.toNat ∉ [0x0000, 0x2001, 0x2020, 0x2030, 0x6000, 0x6001, 0x6002] ∧
    (opInfo q.opcode.toNat).isSome = true :=
  ⟨wSq0, _, (wTake wSq0 (wPkt0 0x2000 [] 0 0)).1, _, _, .drvEnable 0 (wPkt0 0x2000 [] 0 0), 0, wPkt0 0x2000 [] 0 0, _, rfl, rfl, by decide +kernel,
    wTake_spec (by decide +kernel), by decide +kernel, by decide +kernel, rfl, by decide +kernel, by decide +kernel, rfl, by decide +kernel, by decide +kernel, by decide +kernel⟩

theorem witness_sq0Unknown : ∃ (s u v w x : State) (c : Instr) (dt : Nat) (q : Pkt) (e : Nat), Safety.packetOf c = some (dt, q) ∧ u = s.elapse dt ∧
    u.cpTakes = true ∧ u.takeEntry q = some (v, e) ∧ checkHead q = none ∧ v.sessionOk q = true ∧ w = v.noteAccepted q ∧
    ((w.sessOf q).bind fun x => x.replyOf q.seq.toNat) = none ∧
    (w.host.deferred.find? fun d =>
      d.live && (w.sessOf q).isSome && d.pkt.session = q.session && d.pkt.seq = q.seq && d.pkt.crc = q.crc) = none ∧
    x = w.remember q ∧ x.pairOf q.link = some 0 ∧ opInfo q.opcode.toNat = none :=
  ⟨wSq0, _, (wTake wSq0 (wPkt0 0x7777 [] 0 0)).1, _, _, .sysNop 0 (wPkt0 0x7777 [] 0 0), 0, wPkt0 0x7777 [] 0 0, _, rfl, rfl, by decide +kernel,
    wTake_spec (by decide +kernel), by decide +kernel, by decide +kernel, rfl, by decide +kernel, by decide +kernel, rfl, by decide +kernel, by decide +kernel⟩

theorem witness_sq0Listed : ∃ (s u v w x : State) (c : Instr) (dt : Nat) (q : Pkt) (e : Nat), Safety.packetOf c = some (dt, q) ∧ u = s.elapse dt ∧
    u.cpTakes = true ∧ u.takeEntry q = some (v, e) ∧ checkHead q = none ∧ v.sessionOk q = true ∧ w = v.noteAccepted q ∧
    ((w.sessOf q).bind fun x => x.replyOf q.seq.toNat) = none ∧
    (w.host.deferred.find? fun d =>
      d.live && (w.sessOf q).isSome && d.pkt.session = q.session && d.pkt.seq = q.seq && d.pkt.crc = q.crc) = none ∧
    x = w.remember q ∧ x.pairOf q.link = some 0 ∧ q.opcode.toNat ∈ [0x0000, 0x2001, 0x2020, 0x2030, 0x6000, 0x6001, 0x6002] ∧ x.checkOp q = some stDenied :=
  ⟨wSq0, _, (wTake wSq0 (wPkt0 0 [] 0x0E 8)).1, _, _, .sysNop 0 (wPkt0 0 [] 0x0E 8), 0, wPkt0 0 [] 0x0E 8, _, rfl, rfl, by decide +kernel,
    wTake_spec (by decide +kernel), by decide +kernel, by decide +kernel, rfl, by decide +kernel, by decide +kernel, rfl, by decide +kernel, by decide +kernel, by decide +kernel⟩

/-! ### RepeatedCommandGetsItsStoredReply -/

/-- A reply that session 0 has stored. -/
def wStored (q : Pkt) : Stored := { seq := 0, crc := q.crc.toNat, reply := some (mkReply q 0 false 5 6 stOk []) }

/-- The same session with that reply, or with a command that still runs. -/
def wReplay (q : Pkt) (still : Bool) : State :=
  { wReady with host := {
      sessions := [(0, some { level := 2, link := .pcie 4, stored := if still then [] else [wStored q] })]
      deferred := if still then [{ pkt := q, accepted := 5, entry := 0 }] else []
      pairs := [(4, { en := true, depth := 4, owned := 1, rbuf := 4096 })] } }

theorem witness_storedReply : ∃ (s u v w : State) (c : Instr) (dt : Nat) (q : Pkt) (e : Nat) (r : Nat × Reply), Safety.packetOf c = some (dt, q) ∧
    u = s.elapse dt ∧ u.cpTakes = true ∧ u.takeEntry q = some (v, e) ∧ checkHead q = none ∧ v.sessionOk q = true ∧ w = v.noteAccepted q ∧
    ((w.sessOf q).bind fun x => x.replyOf q.seq.toNat) = some r :=
  ⟨wReplay (wPkt 0 []) false, _, (wTake (wReplay (wPkt 0 []) false) (wPkt 0 [])).1, _, .sysNop 0 (wPkt 0 []), 0, wPkt 0 [], _, ((wPkt 0 []).crc.toNat, mkReply (wPkt 0 []) 0 false 5 6 stOk []), rfl, rfl,
    by decide +kernel, wTake_spec (by decide +kernel), by decide +kernel, by decide +kernel, rfl, by decide +kernel⟩

theorem witness_stillExecuting : ∃ (s u v w : State) (c : Instr) (dt : Nat) (q : Pkt) (e : Nat) (d : Deferred), Safety.packetOf c = some (dt, q) ∧
    u = s.elapse dt ∧ u.cpTakes = true ∧ u.takeEntry q = some (v, e) ∧ checkHead q = none ∧ v.sessionOk q = true ∧ w = v.noteAccepted q ∧
    ((w.sessOf q).bind fun x => x.replyOf q.seq.toNat) = none ∧
    (w.host.deferred.find? fun d =>
      d.live && (w.sessOf q).isSome && d.pkt.session = q.session && d.pkt.seq = q.seq && d.pkt.crc = q.crc) = some d :=
  ⟨wReplay (wPkt 0x4001 []) true, _, (wTake (wReplay (wPkt 0x4001 []) true) (wPkt 0x4001 [])).1, _, .timStep 0 (wPkt 0x4001 []), 0, wPkt 0x4001 [], _,
    { pkt := wPkt 0x4001 [], accepted := 5, entry := 0 }, rfl, rfl,
    by decide +kernel, wTake_spec (by decide +kernel), by decide +kernel, by decide +kernel, rfl, by decide +kernel, by decide +kernel⟩

/-! ### OpcodeRejectionsChangeNothing -/

/-- The same packet with one byte too many. -/
def wLong (p : Pkt) : Pkt := Pkt.sealed { p with payload := p.payload ++ [0#8], len := p.len + 1#16 }

theorem witness_reject_timSetIncrement : ∃ (s u w : State) (dt : Nat) (p q : Pkt) (d : Deferred), u = s.elapse dt ∧ q = (p.asRow 0x4000) ∧
    Safety.admitted u q = some (w, d) ∧ (opSetIncrement q w).status ≠ stOk ∧ (opSetIncrement q w).status ≠ stAccepted :=
  ⟨(wTim 1), _, (wGot (wTim 1) (((wLong (wPkt 0x4000 (toLE 5 0xA00000000 ++ toLE 11 0))).asRow 0x4000))).1, 0, (wLong (wPkt 0x4000 (toLE 5 0xA00000000 ++ toLE 11 0))), _, (wGot (wTim 1) (((wLong (wPkt 0x4000 (toLE 5 0xA00000000 ++ toLE 11 0))).asRow 0x4000))).2, rfl, rfl, wGot_spec (by decide +kernel), by decide +kernel, by decide +kernel⟩

theorem witness_reject_timStep : ∃ (s u w : State) (dt : Nat) (p q : Pkt) (d : Deferred), u = s.elapse dt ∧ q = (p.asRow 0x4001) ∧
    Safety.admitted u q = some (w, d) ∧ (opStep q w).status ≠ stOk ∧ (opStep q w).status ≠ stAccepted :=
  ⟨(wTim 2), _, (wGot (wTim 2) (((wLong (wPkt 0x4001 (toLE 8 4000 ++ toLE 8 0))).asRow 0x4001))).1, 0, (wLong (wPkt 0x4001 (toLE 8 4000 ++ toLE 8 0))), _, (wGot (wTim 2) (((wLong (wPkt 0x4001 (toLE 8 4000 ++ toLE 8 0))).asRow 0x4001))).2, rfl, rfl, wGot_spec (by decide +kernel), by decide +kernel, by decide +kernel⟩

theorem witness_reject_timServoMode : ∃ (s u w : State) (dt : Nat) (p q : Pkt) (d : Deferred), u = s.elapse dt ∧ q = (p.asRow 0x4002) ∧
    Safety.admitted u q = some (w, d) ∧ (opServoMode q w).status ≠ stOk ∧ (opServoMode q w).status ≠ stAccepted :=
  ⟨(wCmd 2), _, (wGot (wCmd 2) (((wLong (wPkt 0x4002 [1,0,0,0,0,0,0,0])).asRow 0x4002))).1, 0, (wLong (wPkt 0x4002 [1,0,0,0,0,0,0,0])), _, (wGot (wCmd 2) (((wLong (wPkt 0x4002 [1,0,0,0,0,0,0,0])).asRow 0x4002))).2, rfl, rfl, wGot_spec (by decide +kernel), by decide +kernel, by decide +kernel⟩

theorem witness_reject_timRallyWrite : ∃ (s u w : State) (dt : Nat) (p q : Pkt) (d : Deferred), u = s.elapse dt ∧ q = (p.asRow 0x4010) ∧
    Safety.admitted u q = some (w, d) ∧ (opRallyWrite q w).status ≠ stOk ∧ (opRallyWrite q w).status ≠ stAccepted :=
  ⟨(wCmd 2), _, (wGot (wCmd 2) (((wLong (wPkt 0x4010 ([0,0,1,0,0,0,0,0] ++ toLE 16 0))).asRow 0x4010))).1, 0, (wLong (wPkt 0x4010 ([0,0,1,0,0,0,0,0] ++ toLE 16 0))), _, (wGot (wCmd 2) (((wLong (wPkt 0x4010 ([0,0,1,0,0,0,0,0] ++ toLE 16 0))).asRow 0x4010))).2, rfl, rfl, wGot_spec (by decide +kernel), by decide +kernel, by decide +kernel⟩

theorem witness_reject_timTioConfig : ∃ (s u w : State) (dt : Nat) (p q : Pkt) (d : Deferred), u = s.elapse dt ∧ q = (p.asRow 0x4020) ∧
    Safety.admitted u q = some (w, d) ∧ (opTioConfig q w).status ≠ stOk ∧ (opTioConfig q w).status ≠ stAccepted :=
  ⟨(wCmd 2), _, (wGot (wCmd 2) (((wLong (wPkt 0x4020 (toLE 12 0))).asRow 0x4020))).1, 0, (wLong (wPkt 0x4020 (toLE 12 0))), _, (wGot (wCmd 2) (((wLong (wPkt 0x4020 (toLE 12 0))).asRow 0x4020))).2, rfl, rfl, wGot_spec (by decide +kernel), by decide +kernel, by decide +kernel⟩

theorem witness_reject_sysOpenSession : ∃ (s u w : State) (dt : Nat) (p q : Pkt) (d : Deferred), u = s.elapse dt ∧ q = (p.asRow 0x0001) ∧
    Safety.admitted u q = some (w, d) ∧ (opOpenSession q w).status ≠ stOk ∧ (opOpenSession q w).status ≠ stAccepted :=
  ⟨(wCmd 0), _, (wGot (wCmd 0) (((wLong (wPkt 1 (1#8 :: List.replicate 131 0#8))).asRow 0x0001))).1, 0, (wLong (wPkt 1 (1#8 :: List.replicate 131 0#8))), _, (wGot (wCmd 0) (((wLong (wPkt 1 (1#8 :: List.replicate 131 0#8))).asRow 0x0001))).2, rfl, rfl, wGot_spec (by decide +kernel), by decide +kernel, by decide +kernel⟩

theorem witness_reject_sysGetInfo : ∃ (s u w : State) (dt : Nat) (p q : Pkt) (d : Deferred), u = s.elapse dt ∧ q = (p.asRow 0x0003) ∧
    Safety.admitted u q = some (w, d) ∧ (opGetInfo q w).status ≠ stOk ∧ (opGetInfo q w).status ≠ stAccepted :=
  ⟨(wCmd 0), _, (wGot (wCmd 0) (((wLong (wPkt 3 [])).asRow 0x0003))).1, 0, (wLong (wPkt 3 [])), _, (wGot (wCmd 0) (((wLong (wPkt 3 [])).asRow 0x0003))).2, rfl, rfl, wGot_spec (by decide +kernel), by decide +kernel, by decide +kernel⟩

theorem witness_reject_sysReset : ∃ (s u w : State) (dt : Nat) (p q : Pkt) (d : Deferred), u = s.elapse dt ∧ q = ((p.asRow 0x0010).withSel 0 0) ∧
    Safety.admitted u q = some (w, d) ∧ (opReset q w).status ≠ stOk ∧ (opReset q w).status ≠ stAccepted :=
  ⟨(wCmd 2), _, (wGot (wCmd 2) ((((wLong (wPkt 0x10 [0, 0, 0, 0])).asRow 0x0010).withSel 0 0))).1, 0, (wLong (wPkt 0x10 [0, 0, 0, 0])), _, (wGot (wCmd 2) ((((wLong (wPkt 0x10 [0, 0, 0, 0])).asRow 0x0010).withSel 0 0))).2, rfl, rfl, wGot_spec (by decide +kernel), by decide +kernel, by decide +kernel⟩

theorem witness_reject_sysResetActivate : ∃ (s u w : State) (dt : Nat) (p q : Pkt) (d : Deferred), u = s.elapse dt ∧ q = ((p.asRow 0x0010).withSel 0 1) ∧
    Safety.admitted u q = some (w, d) ∧ (opReset q w).status ≠ stOk ∧ (opReset q w).status ≠ stAccepted :=
  ⟨({ wCmd 2 with mu := { wMu with banks := [{}, { state := 3 }] } }), _, (wGot ({ wCmd 2 with mu := { wMu with banks := [{}, { state := 3 }] } }) ((((wLong (wPkt 0x10 [1, 0, 0, 0])).asRow 0x0010).withSel 0 1))).1, 0, (wLong (wPkt 0x10 [1, 0, 0, 0])), _, (wGot ({ wCmd 2 with mu := { wMu with banks := [{}, { state := 3 }] } }) ((((wLong (wPkt 0x10 [1, 0, 0, 0])).asRow 0x0010).withSel 0 1))).2, rfl, rfl, wGot_spec (by decide +kernel), by decide +kernel, by decide +kernel⟩

theorem witness_reject_sysPwrcycleReq : ∃ (s u w : State) (dt : Nat) (p q : Pkt) (d : Deferred), u = s.elapse dt ∧ q = (p.asRow 0x0012) ∧
    Safety.admitted u q = some (w, d) ∧ (opPwrCycle q w).status ≠ stOk ∧ (opPwrCycle q w).status ≠ stAccepted :=
  ⟨(wCmd 4), _, (wGot (wCmd 4) (((wLong (wPkt 0x12 [0, 0, 0, 0] 0x0F)).asRow 0x0012))).1, 0, (wLong (wPkt 0x12 [0, 0, 0, 0] 0x0F)), _, (wGot (wCmd 4) (((wLong (wPkt 0x12 [0, 0, 0, 0] 0x0F)).asRow 0x0012))).2, rfl, rfl, wGot_spec (by decide +kernel), by decide +kernel, by decide +kernel⟩

theorem witness_reject_objReadBlock : ∃ (s u w : State) (dt : Nat) (p q : Pkt) (d : Deferred), u = s.elapse dt ∧ q = (p.asRow 0x1002) ∧
    Safety.admitted u q = some (w, d) ∧ (opObjReadBlock q w).status ≠ stOk ∧ (opObjReadBlock q w).status ≠ stAccepted :=
  ⟨(wCmd 0), _, (wGot (wCmd 0) (((wLong (wPkt 0x1002 (toLE 4 Obj.TIM_SERVO_SEL ++ [2, 0, 0, 0]))).asRow 0x1002))).1, 0, (wLong (wPkt 0x1002 (toLE 4 Obj.TIM_SERVO_SEL ++ [2, 0, 0, 0]))), _, (wGot (wCmd 0) (((wLong (wPkt 0x1002 (toLE 4 Obj.TIM_SERVO_SEL ++ [2, 0, 0, 0]))).asRow 0x1002))).2, rfl, rfl, wGot_spec (by decide +kernel), by decide +kernel, by decide +kernel⟩

theorem witness_reject_objSubscribe : ∃ (s u w : State) (dt : Nat) (p q : Pkt) (d : Deferred), u = s.elapse dt ∧ q = (p.asRow 0x1010) ∧
    Safety.admitted u q = some (w, d) ∧ (opObjSubscribe q w).status ≠ stOk ∧ (opObjSubscribe q w).status ≠ stAccepted :=
  ⟨(wCmd 0), _, (wGot (wCmd 0) (((wLong (wPkt 0x1010 (toLE 4 Obj.TIM_SERVO_SEL ++ [1, 0, 0, 0] ++ toLE 4 1000))).asRow 0x1010))).1, 0, (wLong (wPkt 0x1010 (toLE 4 Obj.TIM_SERVO_SEL ++ [1, 0, 0, 0] ++ toLE 4 1000))), _, (wGot (wCmd 0) (((wLong (wPkt 0x1010 (toLE 4 Obj.TIM_SERVO_SEL ++ [1, 0, 0, 0] ++ toLE 4 1000))).asRow 0x1010))).2, rfl, rfl, wGot_spec (by decide +kernel), by decide +kernel, by decide +kernel⟩

theorem witness_reject_objSubscribeCancel : ∃ (s u w : State) (dt : Nat) (p q : Pkt) (d : Deferred), u = s.elapse dt ∧ q = ((p.asRow 0x1010).withSel 4 0) ∧
    Safety.admitted u q = some (w, d) ∧ (opObjSubscribe q w).status ≠ stOk ∧ (opObjSubscribe q w).status ≠ stAccepted :=
  ⟨(wCmd 0), _, (wGot (wCmd 0) ((((wLong (wPkt 0x1010 (toLE 4 Obj.TIM_SERVO_SEL ++ toLE 8 0))).asRow 0x1010).withSel 4 0))).1, 0, (wLong (wPkt 0x1010 (toLE 4 Obj.TIM_SERVO_SEL ++ toLE 8 0))), _, (wGot (wCmd 0) ((((wLong (wPkt 0x1010 (toLE 4 Obj.TIM_SERVO_SEL ++ toLE 8 0))).asRow 0x1010).withSel 4 0))).2, rfl, rfl, wGot_spec (by decide +kernel), by decide +kernel, by decide +kernel⟩

theorem witness_reject_drvDisable : ∃ (s u w : State) (dt : Nat) (p q : Pkt) (d : Deferred), u = s.elapse dt ∧ q = (p.asRow 0x2001) ∧
    Safety.admitted u q = some (w, d) ∧ (opDrvDisable q w).status ≠ stOk ∧ (opDrvDisable q w).status ≠ stAccepted :=
  ⟨(wDrive { st := .armed }), _, (wGot (wDrive { st := .armed }) (((wLong (wPkt 0x2001 (toLE 8 0) 0)).asRow 0x2001))).1, 0, (wLong (wPkt 0x2001 (toLE 8 0) 0)), _, (wGot (wDrive { st := .armed }) (((wLong (wPkt 0x2001 (toLE 8 0) 0)).asRow 0x2001))).2, rfl, rfl, wGot_spec (by decide +kernel), by decide +kernel, by decide +kernel⟩

theorem witness_reject_drvStart : ∃ (s u w : State) (dt : Nat) (p q : Pkt) (d : Deferred), u = s.elapse dt ∧ q = (p.asRow 0x2021) ∧
    Safety.admitted u q = some (w, d) ∧ (opDrvStart q w).status ≠ stOk ∧ (opDrvStart q w).status ≠ stAccepted :=
  ⟨(wDrive { st := .heldShort }), _, (wGot (wDrive { st := .heldShort }) (((wLong (wPkt 0x2021 (toLE 8 0) 0)).asRow 0x2021))).1, 0, (wLong (wPkt 0x2021 (toLE 8 0) 0)), _, (wGot (wDrive { st := .heldShort }) (((wLong (wPkt 0x2021 (toLE 8 0) 0)).asRow 0x2021))).2, rfl, rfl, wGot_spec (by decide +kernel), by decide +kernel, by decide +kernel⟩

theorem witness_reject_drvDischargeWinding : ∃ (s u w : State) (dt : Nat) (p q : Pkt) (d : Deferred), u = s.elapse dt ∧ q = ((p.asRow 0x2030).withSel 0 0) ∧
    Safety.admitted u q = some (w, d) ∧ (opDischarge q w).status ≠ stOk ∧ (opDischarge q w).status ≠ stAccepted :=
  ⟨(wDrive { st := .armed, pred := { valid := true } }), _, (wGot (wDrive { st := .armed, pred := { valid := true } }) ((((wLong (wPkt 0x2030 (toLE 8 0) 0)).asRow 0x2030).withSel 0 0))).1, 0, (wLong (wPkt 0x2030 (toLE 8 0) 0)), _, (wGot (wDrive { st := .armed, pred := { valid := true } }) ((((wLong (wPkt 0x2030 (toLE 8 0) 0)).asRow 0x2030).withSel 0 0))).2, rfl, rfl, wGot_spec (by decide +kernel), by decide +kernel, by decide +kernel⟩

theorem witness_reject_drvDischargeSwitch : ∃ (s u w : State) (dt : Nat) (p q : Pkt) (d : Deferred), u = s.elapse dt ∧ q = ((p.asRow 0x2030).withSel 0 1) ∧
    Safety.admitted u q = some (w, d) ∧ (opDischarge q w).status ≠ stOk ∧ (opDischarge q w).status ≠ stAccepted :=
  ⟨({ wDrive { st := .armed } with dict := { vals := bset (bset wDriveObjs Obj.SLC_DIS_LINK 3) 0x8903 (wLink 6) } }), _, (wGot ({ wDrive { st := .armed } with dict := { vals := bset (bset wDriveObjs Obj.SLC_DIS_LINK 3) 0x8903 (wLink 6) } }) ((((wLong (wPkt 0x2030 (toLE 8 0x320001) 0)).asRow 0x2030).withSel 0 1))).1, 0, (wLong (wPkt 0x2030 (toLE 8 0x320001) 0)), _, (wGot ({ wDrive { st := .armed } with dict := { vals := bset (bset wDriveObjs Obj.SLC_DIS_LINK 3) 0x8903 (wLink 6) } }) ((((wLong (wPkt 0x2030 (toLE 8 0x320001) 0)).asRow 0x2030).withSel 0 1))).2, rfl, rfl, wGot_spec (by decide +kernel), by decide +kernel, by decide +kernel⟩

theorem witness_reject_engDefineContext : ∃ (s u w : State) (dt : Nat) (p q : Pkt) (d : Deferred), u = s.elapse dt ∧ q = (p.asRow 0x3000) ∧
    Safety.admitted u q = some (w, d) ∧ (opDefineContext q w).status ≠ stOk ∧ (opDefineContext q w).status ≠ stAccepted :=
  ⟨(wCmd 2), _, (wGot (wCmd 2) (((wLong (wPkt 0x3000 (toLE 8 5 ++ toLE 32 wHdr ++ toLE 1104 0))).asRow 0x3000))).1, 0, (wLong (wPkt 0x3000 (toLE 8 5 ++ toLE 32 wHdr ++ toLE 1104 0))), _, (wGot (wCmd 2) (((wLong (wPkt 0x3000 (toLE 8 5 ++ toLE 32 wHdr ++ toLE 1104 0))).asRow 0x3000))).2, rfl, rfl, wGot_spec (by decide +kernel), by decide +kernel, by decide +kernel⟩

theorem witness_reject_engDeleteContext : ∃ (s u w : State) (dt : Nat) (p q : Pkt) (d : Deferred), u = s.elapse dt ∧ q = ((p.asRow 0x3000).withSel 1 1) ∧
    Safety.admitted u q = some (w, d) ∧ (opDefineContext q w).status ≠ stOk ∧ (opDefineContext q w).status ≠ stAccepted :=
  ⟨({ wCmd 2 with eng := { ctxs := [(3, { hdr := wHdr })] } }), _, (wGot ({ wCmd 2 with eng := { ctxs := [(3, { hdr := wHdr })] } }) ((((wLong (wPkt 0x3000 (toLE 8 0x103))).asRow 0x3000).withSel 1 1))).1, 0, (wLong (wPkt 0x3000 (toLE 8 0x103))), _, (wGot ({ wCmd 2 with eng := { ctxs := [(3, { hdr := wHdr })] } }) ((((wLong (wPkt 0x3000 (toLE 8 0x103))).asRow 0x3000).withSel 1 1))).2, rfl, rfl, wGot_spec (by decide +kernel), by decide +kernel, by decide +kernel⟩

theorem witness_reject_engWriteCoef : ∃ (s u w : State) (dt : Nat) (p q : Pkt) (d : Deferred), u = s.elapse dt ∧ q = (p.asRow 0x3001) ∧
    Safety.admitted u q = some (w, d) ∧ (opWriteCoef q w).status ≠ stOk ∧ (opWriteCoef q w).status ≠ stAccepted :=
  ⟨({ wCmd 2 with eng := { ctxs := [(3, { hdr := wHdr })] } }), _, (wGot ({ wCmd 2 with eng := { ctxs := [(3, { hdr := wHdr })] } }) (((wLong (wPkt 0x3001 (toLE 8 0xC03))).asRow 0x3001))).1, 0, (wLong (wPkt 0x3001 (toLE 8 0xC03))), _, (wGot ({ wCmd 2 with eng := { ctxs := [(3, { hdr := wHdr })] } }) (((wLong (wPkt 0x3001 (toLE 8 0xC03))).asRow 0x3001))).2, rfl, rfl, wGot_spec (by decide +kernel), by decide +kernel, by decide +kernel⟩

theorem witness_reject_engFreeze : ∃ (s u w : State) (dt : Nat) (p q : Pkt) (d : Deferred), u = s.elapse dt ∧ q = (p.asRow 0x3002) ∧
    Safety.admitted u q = some (w, d) ∧ (opFreeze q w).status ≠ stOk ∧ (opFreeze q w).status ≠ stAccepted :=
  ⟨({ wCmd 2 with eng := { ctxs := [(3, { hdr := wHdr })] } }), _, (wGot ({ wCmd 2 with eng := { ctxs := [(3, { hdr := wHdr })] } }) (((wLong (wPkt 0x3002 (toLE 8 3))).asRow 0x3002))).1, 0, (wLong (wPkt 0x3002 (toLE 8 3))), _, (wGot ({ wCmd 2 with eng := { ctxs := [(3, { hdr := wHdr })] } }) (((wLong (wPkt 0x3002 (toLE 8 3))).asRow 0x3002))).2, rfl, rfl, wGot_spec (by decide +kernel), by decide +kernel, by decide +kernel⟩

theorem witness_reject_engRelease : ∃ (s u w : State) (dt : Nat) (p q : Pkt) (d : Deferred), u = s.elapse dt ∧ q = (p.asRow 0x3003) ∧
    Safety.admitted u q = some (w, d) ∧ (opRelease q w).status ≠ stOk ∧ (opRelease q w).status ≠ stAccepted :=
  ⟨({ wCmd 2 with eng := { ctxs := [(3, { hdr := wHdr, pendCoef := some [] })] } }), _, (wGot ({ wCmd 2 with eng := { ctxs := [(3, { hdr := wHdr, pendCoef := some [] })] } }) (((wLong (wPkt 0x3003 (toLE 16 3))).asRow 0x3003))).1, 0, (wLong (wPkt 0x3003 (toLE 16 3))), _, (wGot ({ wCmd 2 with eng := { ctxs := [(3, { hdr := wHdr, pendCoef := some [] })] } }) (((wLong (wPkt 0x3003 (toLE 16 3))).asRow 0x3003))).2, rfl, rfl, wGot_spec (by decide +kernel), by decide +kernel, by decide +kernel⟩

theorem witness_reject_engSeedState : ∃ (s u w : State) (dt : Nat) (p q : Pkt) (d : Deferred), u = s.elapse dt ∧ q = (p.asRow 0x3004) ∧
    Safety.admitted u q = some (w, d) ∧ (opSeedState q w).status ≠ stOk ∧ (opSeedState q w).status ≠ stAccepted :=
  ⟨({ wCmd 2 with eng := { ctxs := [(3, { hdr := wHdr })] } }), _, (wGot ({ wCmd 2 with eng := { ctxs := [(3, { hdr := wHdr })] } }) (((wLong (wPkt 0x3004 (toLE 40 3))).asRow 0x3004))).1, 0, (wLong (wPkt 0x3004 (toLE 40 3))), _, (wGot ({ wCmd 2 with eng := { ctxs := [(3, { hdr := wHdr })] } }) (((wLong (wPkt 0x3004 (toLE 40 3))).asRow 0x3004))).2, rfl, rfl, wGot_spec (by decide +kernel), by decide +kernel, by decide +kernel⟩

theorem witness_reject_netCanConfig : ∃ (s u w : State) (dt : Nat) (p q : Pkt) (d : Deferred), u = s.elapse dt ∧ q = (p.asRow 0x5000) ∧
    Safety.admitted u q = some (w, d) ∧ (opCanConfig q w).status ≠ stOk ∧ (opCanConfig q w).status ≠ stAccepted :=
  ⟨(wCmd 2), _, (wGot (wCmd 2) (((wLong (wPkt 0x5000 wCanCfg 0x11)).asRow 0x5000))).1, 0, (wLong (wPkt 0x5000 wCanCfg 0x11)), _, (wGot (wCmd 2) (((wLong (wPkt 0x5000 wCanCfg 0x11)).asRow 0x5000))).2, rfl, rfl, wGot_spec (by decide +kernel), by decide +kernel, by decide +kernel⟩

theorem witness_reject_netCanFilter : ∃ (s u w : State) (dt : Nat) (p q : Pkt) (d : Deferred), u = s.elapse dt ∧ q = ((p.asRow 0x5001).withSel 6 0) ∧
    Safety.admitted u q = some (w, d) ∧ (opCanFilter q w).status ≠ stOk ∧ (opCanFilter q w).status ≠ stAccepted :=
  ⟨(wCmd 2), _, (wGot (wCmd 2) ((((wLong (wPkt 0x5001 ([0, 0, 1, 0, 1, 0, 0, 0] ++ toLE 16 (2 ^ 127 + 0x7FF)) 0x11)).asRow 0x5001).withSel 6 0))).1, 0, (wLong (wPkt 0x5001 ([0, 0, 1, 0, 1, 0, 0, 0] ++ toLE 16 (2 ^ 127 + 0x7FF)) 0x11)), _, (wGot (wCmd 2) ((((wLong (wPkt 0x5001 ([0, 0, 1, 0, 1, 0, 0, 0] ++ toLE 16 (2 ^ 127 + 0x7FF)) 0x11)).asRow 0x5001).withSel 6 0))).2, rfl, rfl, wGot_spec (by decide +kernel), by decide +kernel, by decide +kernel⟩

theorem witness_reject_netCanFilterRead : ∃ (s u w : State) (dt : Nat) (p q : Pkt) (d : Deferred), u = s.elapse dt ∧ q = ((p.asRow 0x5001).withSel 6 1) ∧
    Safety.admitted u q = some (w, d) ∧ (opCanFilter q w).status ≠ stOk ∧ (opCanFilter q w).status ≠ stAccepted :=
  ⟨(wCmd 2), _, (wGot (wCmd 2) ((((wLong (wPkt 0x5001 [0, 0, 1, 0, 1, 0, 1, 0] 0x11)).asRow 0x5001).withSel 6 1))).1, 0, (wLong (wPkt 0x5001 [0, 0, 1, 0, 1, 0, 1, 0] 0x11)), _, (wGot (wCmd 2) ((((wLong (wPkt 0x5001 [0, 0, 1, 0, 1, 0, 1, 0] 0x11)).asRow 0x5001).withSel 6 1))).2, rfl, rfl, wGot_spec (by decide +kernel), by decide +kernel, by decide +kernel⟩

theorem witness_reject_netCanTx : ∃ (s u w : State) (dt : Nat) (p q : Pkt) (d : Deferred), u = s.elapse dt ∧ q = (p.asRow 0x5002) ∧
    Safety.admitted u q = some (w, d) ∧ (opCanTx q w).status ≠ stOk ∧ (opCanTx q w).status ≠ stAccepted :=
  ⟨(wCan {}), _, (wGot (wCan {}) (((wLong (wPkt 0x5002 (toLE 88 0) 0x11)).asRow 0x5002))).1, 0, (wLong (wPkt 0x5002 (toLE 88 0) 0x11)), _, (wGot (wCan {}) (((wLong (wPkt 0x5002 (toLE 88 0) 0x11)).asRow 0x5002))).2, rfl, rfl, wGot_spec (by decide +kernel), by decide +kernel, by decide +kernel⟩

theorem witness_reject_netCanCancel : ∃ (s u w : State) (dt : Nat) (p q : Pkt) (d : Deferred), u = s.elapse dt ∧ q = (p.asRow 0x5003) ∧
    Safety.admitted u q = some (w, d) ∧ (opCanCancel q w).status ≠ stOk ∧ (opCanCancel q w).status ≠ stAccepted :=
  ⟨(wCan { tx := [(0, [wTx])] }), _, (wGot (wCan { tx := [(0, [wTx])] }) (((wLong (wPkt 0x5003 (toLE 8 0x50000) 0x11)).asRow 0x5003))).1, 0, (wLong (wPkt 0x5003 (toLE 8 0x50000) 0x11)), _, (wGot (wCan { tx := [(0, [wTx])] }) (((wLong (wPkt 0x5003 (toLE 8 0x50000) 0x11)).asRow 0x5003))).2, rfl, rfl, wGot_spec (by decide +kernel), by decide +kernel, by decide +kernel⟩

theorem witness_reject_netCanAck : ∃ (s u w : State) (dt : Nat) (p q : Pkt) (d : Deferred), u = s.elapse dt ∧ q = (p.asRow 0x5004) ∧
    Safety.admitted u q = some (w, d) ∧ (opCanAck q w).status ≠ stOk ∧ (opCanAck q w).status ≠ stAccepted :=
  ⟨(wCan { rx := [(0, [{ rcd := ⟨5, 0, 0, 0x56, 0, []⟩, frame := { id := 7 }, mirror := false, filt := 0, eof := 9 }])] }), _, (wGot (wCan { rx := [(0, [{ rcd := ⟨5, 0, 0, 0x56, 0, []⟩, frame := { id := 7 }, mirror := false, filt := 0, eof := 9 }])] }) (((wLong (wPkt 0x5004 [0, 0, 1, 0, 2, 0, 0, 0] 0x11)).asRow 0x5004))).1, 0, (wLong (wPkt 0x5004 [0, 0, 1, 0, 2, 0, 0, 0] 0x11)), _, (wGot (wCan { rx := [(0, [{ rcd := ⟨5, 0, 0, 0x56, 0, []⟩, frame := { id := 7 }, mirror := false, filt := 0, eof := 9 }])] }) (((wLong (wPkt 0x5004 [0, 0, 1, 0, 2, 0, 0, 0] 0x11)).asRow 0x5004))).2, rfl, rfl, wGot_spec (by decide +kernel), by decide +kernel, by decide +kernel⟩

theorem witness_reject_netEthConfig : ∃ (s u w : State) (dt : Nat) (p q : Pkt) (d : Deferred), u = s.elapse dt ∧ q = (p.asRow 0x5010) ∧
    Safety.admitted u q = some (w, d) ∧ (opEthConfig q w).status ≠ stOk ∧ (opEthConfig q w).status ≠ stAccepted :=
  ⟨(wCmd 2), _, (wGot (wCmd 2) (((wLong (wPkt 0x5010 wEthCfg 0x19)).asRow 0x5010))).1, 0, (wLong (wPkt 0x5010 wEthCfg 0x19)), _, (wGot (wCmd 2) (((wLong (wPkt 0x5010 wEthCfg 0x19)).asRow 0x5010))).2, rfl, rfl, wGot_spec (by decide +kernel), by decide +kernel, by decide +kernel⟩

theorem witness_reject_safLogRead : ∃ (s u w : State) (dt : Nat) (p q : Pkt) (d : Deferred), u = s.elapse dt ∧ q = (p.asRow 0x6002) ∧
    Safety.admitted u q = some (w, d) ∧ (opSafLogRead q w).status ≠ stOk ∧ (opSafLogRead q w).status ≠ stAccepted :=
  ⟨(wCmd 2), _, (wGot (wCmd 2) (((wLong (wPkt 0x6002 [0, 0, 0, 0, 2, 0, 0, 0])).asRow 0x6002))).1, 0, (wLong (wPkt 0x6002 [0, 0, 0, 0, 2, 0, 0, 0])), _, (wGot (wCmd 2) (((wLong (wPkt 0x6002 [0, 0, 0, 0, 2, 0, 0, 0])).asRow 0x6002))).2, rfl, rfl, wGot_spec (by decide +kernel), by decide +kernel, by decide +kernel⟩

theorem witness_reject_mgtIngotBegin : ∃ (s u w : State) (dt : Nat) (p q : Pkt) (d : Deferred), u = s.elapse dt ∧ q = ((p.asRow 0x7000).withSel 0 0) ∧
    Safety.admitted u q = some (w, d) ∧ (opIngotBegin q w).status ≠ stOk ∧ (opIngotBegin q w).status ≠ stAccepted :=
  ⟨(wCmd 4), _, (wGot (wCmd 4) ((((wLong (wPkt 0x7000 ([0, 0, 0, 0, 16, 0, 0, 0] ++ toLE 8 0) 0x0F)).asRow 0x7000).withSel 0 0))).1, 0, (wLong (wPkt 0x7000 ([0, 0, 0, 0, 16, 0, 0, 0] ++ toLE 8 0) 0x0F)), _, (wGot (wCmd 4) ((((wLong (wPkt 0x7000 ([0, 0, 0, 0, 16, 0, 0, 0] ++ toLE 8 0) 0x0F)).asRow 0x7000).withSel 0 0))).2, rfl, rfl, wGot_spec (by decide +kernel), by decide +kernel, by decide +kernel⟩

theorem witness_reject_mgtIngotBeginConfig : ∃ (s u w : State) (dt : Nat) (p q : Pkt) (d : Deferred), u = s.elapse dt ∧ q = ((p.asRow 0x7000).withSel 0 1) ∧
    Safety.admitted u q = some (w, d) ∧ (opIngotBegin q w).status ≠ stOk ∧ (opIngotBegin q w).status ≠ stAccepted :=
  ⟨(wCmd 4), _, (wGot (wCmd 4) ((((wLong (wPkt 0x7000 ([1, 0, 0, 0, 16, 0, 0, 0] ++ toLE 8 0) 0x0F)).asRow 0x7000).withSel 0 1))).1, 0, (wLong (wPkt 0x7000 ([1, 0, 0, 0, 16, 0, 0, 0] ++ toLE 8 0) 0x0F)), _, (wGot (wCmd 4) ((((wLong (wPkt 0x7000 ([1, 0, 0, 0, 16, 0, 0, 0] ++ toLE 8 0) 0x0F)).asRow 0x7000).withSel 0 1))).2, rfl, rfl, wGot_spec (by decide +kernel), by decide +kernel, by decide +kernel⟩

theorem witness_reject_mgtIngotData : ∃ (s u w : State) (dt : Nat) (p q : Pkt) (d : Deferred), u = s.elapse dt ∧ q = (p.asRow 0x7001) ∧
    Safety.admitted u q = some (w, d) ∧ (opIngotData q w).status ≠ stOk ∧ (opIngotData q w).status ≠ stAccepted :=
  ⟨({ wCmd 4 with mu := { wMu with transfer := some { target := 1, total := 4, session := some 0 } } }), _, (wGot ({ wCmd 4 with mu := { wMu with transfer := some { target := 1, total := 4, session := some 0 } } }) (((wLong (wPkt 0x7001 (toLE 4 0 ++ toLE 4 4 ++ toLE 4 9) 0x0F)).asRow 0x7001))).1, 0, (wLong (wPkt 0x7001 (toLE 4 0 ++ toLE 4 4 ++ toLE 4 9) 0x0F)), _, (wGot ({ wCmd 4 with mu := { wMu with transfer := some { target := 1, total := 4, session := some 0 } } }) (((wLong (wPkt 0x7001 (toLE 4 0 ++ toLE 4 4 ++ toLE 4 9) 0x0F)).asRow 0x7001))).2, rfl, rfl, wGot_spec (by decide +kernel), by decide +kernel, by decide +kernel⟩

theorem witness_reject_mgtActivate : ∃ (s u w : State) (dt : Nat) (p q : Pkt) (d : Deferred), u = s.elapse dt ∧ q = (p.asRow 0x7003) ∧
    Safety.admitted u q = some (w, d) ∧ (opActivate q w).status ≠ stOk ∧ (opActivate q w).status ≠ stAccepted :=
  ⟨({ wCmd 4 with mu := { wMu with banks := [{}, { state := 3 }] } }), _, (wGot ({ wCmd 4 with mu := { wMu with banks := [{}, { state := 3 }] } }) (((wLong (wPkt 0x7003 (toLE 16 1) 0x0F)).asRow 0x7003))).1, 0, (wLong (wPkt 0x7003 (toLE 16 1) 0x0F)), _, (wGot ({ wCmd 4 with mu := { wMu with banks := [{}, { state := 3 }] } }) (((wLong (wPkt 0x7003 (toLE 16 1) 0x0F)).asRow 0x7003))).2, rfl, rfl, wGot_spec (by decide +kernel), by decide +kernel, by decide +kernel⟩

theorem witness_reject_mgtAttest : ∃ (s u w : State) (dt : Nat) (p q : Pkt) (d : Deferred), u = s.elapse dt ∧ q = (p.asRow 0x7010) ∧
    Safety.admitted u q = some (w, d) ∧ (opAttest q w).status ≠ stOk ∧ (opAttest q w).status ≠ stAccepted :=
  ⟨(wCmd 0), _, (wGot (wCmd 0) (((wLong (wPkt 0x7010 (toLE 40 0) 0x0F)).asRow 0x7010))).1, 0, (wLong (wPkt 0x7010 (toLE 40 0) 0x0F)), _, (wGot (wCmd 0) (((wLong (wPkt 0x7010 (toLE 40 0) 0x0F)).asRow 0x7010))).2, rfl, rfl, wGot_spec (by decide +kernel), by decide +kernel, by decide +kernel⟩

theorem witness_reject_mgtLogRead : ∃ (s u w : State) (dt : Nat) (p q : Pkt) (d : Deferred), u = s.elapse dt ∧ q = (p.asRow 0x7020) ∧
    Safety.admitted u q = some (w, d) ∧ (opLogRead q w).status ≠ stOk ∧ (opLogRead q w).status ≠ stAccepted :=
  ⟨(wCmd 0), _, (wGot (wCmd 0) (((wLong (wPkt 0x7020 [0, 0, 5, 0, 0, 0, 0, 0] 0x0F)).asRow 0x7020))).1, 0, (wLong (wPkt 0x7020 [0, 0, 5, 0, 0, 0, 0, 0] 0x0F)), _, (wGot (wCmd 0) (((wLong (wPkt 0x7020 [0, 0, 5, 0, 0, 0, 0, 0] 0x0F)).asRow 0x7020))).2, rfl, rfl, wGot_spec (by decide +kernel), by decide +kernel, by decide +kernel⟩

theorem witness_reject_diaBistRun : ∃ (s u w : State) (dt : Nat) (p q : Pkt) (d : Deferred), u = s.elapse dt ∧ q = (p.asRow 0x8000) ∧
    Safety.admitted u q = some (w, d) ∧ (opBistRun q w).status ≠ stOk ∧ (opBistRun q w).status ≠ stAccepted :=
  ⟨(wCmd 2), _, (wGot (wCmd 2) (((wLong (wPkt 0x8000 [3, 1, 4, 0, 2, 0, 0, 0])).asRow 0x8000))).1, 0, (wLong (wPkt 0x8000 [3, 1, 4, 0, 2, 0, 0, 0])), _, (wGot (wCmd 2) (((wLong (wPkt 0x8000 [3, 1, 4, 0, 2, 0, 0, 0])).asRow 0x8000))).2, rfl, rfl, wGot_spec (by decide +kernel), by decide +kernel, by decide +kernel⟩

theorem witness_reject_diaBistResult : ∃ (s u w : State) (dt : Nat) (p q : Pkt) (d : Deferred), u = s.elapse dt ∧ q = (p.asRow 0x8001) ∧
    Safety.admitted u q = some (w, d) ∧ (opBistResult q w).status ≠ stOk ∧ (opBistResult q w).status ≠ stAccepted :=
  ⟨(wCmd 2), _, (wGot (wCmd 2) (((wLong (wPkt 0x8001 [31, 2, 0, 0, 0, 0, 0, 0])).asRow 0x8001))).1, 0, (wLong (wPkt 0x8001 [31, 2, 0, 0, 0, 0, 0, 0])), _, (wGot (wCmd 2) (((wLong (wPkt 0x8001 [31, 2, 0, 0, 0, 0, 0, 0])).asRow 0x8001))).2, rfl, rfl, wGot_spec (by decide +kernel), by decide +kernel, by decide +kernel⟩

theorem witness_reject_diaTraceStop : ∃ (s u w : State) (dt : Nat) (p q : Pkt) (d : Deferred), u = s.elapse dt ∧ q = ((p.asRow 0x8010).withSel 0 0) ∧
    Safety.admitted u q = some (w, d) ∧ (opTrace q w).status ≠ stOk ∧ (opTrace q w).status ≠ stAccepted :=
  ⟨({ wCmd 2 with dia := { traceOn := true, traceCount := 9 } }), _, (wGot ({ wCmd 2 with dia := { traceOn := true, traceCount := 9 } }) ((((wLong (wPkt 0x8010 (toLE 40 0))).asRow 0x8010).withSel 0 0))).1, 0, (wLong (wPkt 0x8010 (toLE 40 0))), _, (wGot ({ wCmd 2 with dia := { traceOn := true, traceCount := 9 } }) ((((wLong (wPkt 0x8010 (toLE 40 0))).asRow 0x8010).withSel 0 0))).2, rfl, rfl, wGot_spec (by decide +kernel), by decide +kernel, by decide +kernel⟩

theorem witness_reject_diaTraceStartRing : ∃ (s u w : State) (dt : Nat) (p q : Pkt) (d : Deferred), u = s.elapse dt ∧ q = ((p.asRow 0x8010).withSel 0 1) ∧
    Safety.admitted u q = some (w, d) ∧ (opTrace q w).status ≠ stOk ∧ (opTrace q w).status ≠ stAccepted :=
  ⟨({ wCmd 2 with dia := { traceCount := 9 } }), _, (wGot ({ wCmd 2 with dia := { traceCount := 9 } }) ((((wLong (wPkt 0x8010 (toLE 8 1 ++ toLE 32 7))).asRow 0x8010).withSel 0 1))).1, 0, (wLong (wPkt 0x8010 (toLE 8 1 ++ toLE 32 7))), _, (wGot ({ wCmd 2 with dia := { traceCount := 9 } }) ((((wLong (wPkt 0x8010 (toLE 8 1 ++ toLE 32 7))).asRow 0x8010).withSel 0 1))).2, rfl, rfl, wGot_spec (by decide +kernel), by decide +kernel, by decide +kernel⟩

theorem witness_reject_diaTraceStartOnce : ∃ (s u w : State) (dt : Nat) (p q : Pkt) (d : Deferred), u = s.elapse dt ∧ q = ((p.asRow 0x8010).withSel 0 2) ∧
    Safety.admitted u q = some (w, d) ∧ (opTrace q w).status ≠ stOk ∧ (opTrace q w).status ≠ stAccepted :=
  ⟨({ wCmd 2 with dia := { traceCount := 9 } }), _, (wGot ({ wCmd 2 with dia := { traceCount := 9 } }) ((((wLong (wPkt 0x8010 (toLE 8 2 ++ toLE 32 7))).asRow 0x8010).withSel 0 2))).1, 0, (wLong (wPkt 0x8010 (toLE 8 2 ++ toLE 32 7))), _, (wGot ({ wCmd 2 with dia := { traceCount := 9 } }) ((((wLong (wPkt 0x8010 (toLE 8 2 ++ toLE 32 7))).asRow 0x8010).withSel 0 2))).2, rfl, rfl, wGot_spec (by decide +kernel), by decide +kernel, by decide +kernel⟩

theorem witness_reject_flkConfig : ∃ (s u w : State) (dt : Nat) (p q : Pkt) (d : Deferred), u = s.elapse dt ∧ q = (p.asRow 0x9000) ∧
    Safety.admitted u q = some (w, d) ∧ (opFlkConfig q w).status ≠ stOk ∧ (opFlkConfig q w).status ≠ stAccepted :=
  ⟨(wCmd 4), _, (wGot (wCmd 4) (((wLong (wPkt 0x9000 (toLE 16 (2 ^ 127 + 2 * 2 ^ 100 + 100 * 2 ^ 80 + 100 * 2 ^ 64 + 100 * 2 ^ 48)))).asRow 0x9000))).1, 0, (wLong (wPkt 0x9000 (toLE 16 (2 ^ 127 + 2 * 2 ^ 100 + 100 * 2 ^ 80 + 100 * 2 ^ 64 + 100 * 2 ^ 48)))), _, (wGot (wCmd 4) (((wLong (wPkt 0x9000 (toLE 16 (2 ^ 127 + 2 * 2 ^ 100 + 100 * 2 ^ 80 + 100 * 2 ^ 64 + 100 * 2 ^ 48)))).asRow 0x9000))).2, rfl, rfl, wGot_spec (by decide +kernel), by decide +kernel, by decide +kernel⟩

theorem witness_reject_flkHandover : ∃ (s u w : State) (dt : Nat) (p q : Pkt) (d : Deferred), u = s.elapse dt ∧ q = (p.asRow 0x9001) ∧
    Safety.admitted u q = some (w, d) ∧ (opHandover q w).status ≠ stOk ∧ (opHandover q w).status ≠ stAccepted :=
  ⟨(wCmd 2), _, (wGot (wCmd 2) (((wLong (wPkt 0x9001 [] 0x0E)).asRow 0x9001))).1, 0, (wLong (wPkt 0x9001 [] 0x0E)), _, (wGot (wCmd 2) (((wLong (wPkt 0x9001 [] 0x0E)).asRow 0x9001))).2, rfl, rfl, wGot_spec (by decide +kernel), by decide +kernel, by decide +kernel⟩

/-! ### AuxResultsAtTheEndsOfTheRange -/

/-- A conversion that sampled a level. -/
def wConvC (level : Int) : AuxConv :=
  { chan := 3, trigger := 3, start := 3999990000, cold := true, pended := false, host := true, sampled := some (3999992600, level, 0x3F800000#32) }

/-- Unit 1 with it. -/
def wConv (level : Int) : State := { wReady with aux := [(1, { conv := some (wConvC level) })] }

theorem witness_auxAbove : ∃ (s u : State) (dt : Nat) (k : Fin 4) (c : AuxConv) (x : Stamp) (level : Int) (corr own : F32) (code : Nat) (ovr : Bool), u = s.elapse dt ∧
    (u.auxU k.val).conv = some c ∧ c.sampled = some (x, level, corr) ∧ c.start + c.fullLen ≤ u.clk ∧
    own = (if (bget {} u.dict.info (Obj.AUX_REF_CORR + k.val)).stamp ≤ x then u.objF (Obj.AUX_REF_CORR + k.val) else corr) ∧
    (code, ovr) = (if level > 0xFFF then (0xFFF, true) else if level < 0 then (0x000, true) else (level.toNat, false)) ∧
    u.inFlask = false ∧ c.chan < 8 :=
  ⟨wConv (0x1000), _, 0, 1, wConvC (0x1000), 3999992600, 0x1000, 0x3F800000#32, _, 0xFFF, true, rfl, rfl, rfl, by decide +kernel, rfl, rfl, by decide +kernel, by decide +kernel⟩

theorem witness_auxFull : ∃ (s u : State) (dt : Nat) (k : Fin 4) (c : AuxConv) (x : Stamp) (level : Int) (corr own : F32) (code : Nat) (ovr : Bool), u = s.elapse dt ∧
    (u.auxU k.val).conv = some c ∧ c.sampled = some (x, level, corr) ∧ c.start + c.fullLen ≤ u.clk ∧
    own = (if (bget {} u.dict.info (Obj.AUX_REF_CORR + k.val)).stamp ≤ x then u.objF (Obj.AUX_REF_CORR + k.val) else corr) ∧
    (code, ovr) = (if level > 0xFFF then (0xFFF, true) else if level < 0 then (0x000, true) else (level.toNat, false)) ∧
    u.inFlask = false ∧ c.chan < 8 :=
  ⟨wConv (0xFFF), _, 0, 1, wConvC (0xFFF), 3999992600, 0xFFF, 0x3F800000#32, _, 0xFFF, false, rfl, rfl, rfl, by decide +kernel, rfl, rfl, by decide +kernel, by decide +kernel⟩

theorem witness_auxZero : ∃ (s u : State) (dt : Nat) (k : Fin 4) (c : AuxConv) (x : Stamp) (level : Int) (corr own : F32) (code : Nat) (ovr : Bool), u = s.elapse dt ∧
    (u.auxU k.val).conv = some c ∧ c.sampled = some (x, level, corr) ∧ c.start + c.fullLen ≤ u.clk ∧
    own = (if (bget {} u.dict.info (Obj.AUX_REF_CORR + k.val)).stamp ≤ x then u.objF (Obj.AUX_REF_CORR + k.val) else corr) ∧
    (code, ovr) = (if level > 0xFFF then (0xFFF, true) else if level < 0 then (0x000, true) else (level.toNat, false)) ∧
    u.inFlask = false ∧ c.chan < 8 :=
  ⟨wConv (0), _, 0, 1, wConvC (0), 3999992600, 0, 0x3F800000#32, _, 0, false, rfl, rfl, rfl, by decide +kernel, rfl, rfl, by decide +kernel, by decide +kernel⟩

theorem witness_auxBelow : ∃ (s u : State) (dt : Nat) (k : Fin 4) (c : AuxConv) (x : Stamp) (level : Int) (corr own : F32) (code : Nat) (ovr : Bool), u = s.elapse dt ∧
    (u.auxU k.val).conv = some c ∧ c.sampled = some (x, level, corr) ∧ c.start + c.fullLen ≤ u.clk ∧
    own = (if (bget {} u.dict.info (Obj.AUX_REF_CORR + k.val)).stamp ≤ x then u.objF (Obj.AUX_REF_CORR + k.val) else corr) ∧
    (code, ovr) = (if level > 0xFFF then (0xFFF, true) else if level < 0 then (0x000, true) else (level.toNat, false)) ∧
    u.inFlask = false ∧ c.chan < 8 :=
  ⟨wConv (-1), _, 0, 1, wConvC (-1), 3999992600, -1, 0x3F800000#32, _, 0, true, rfl, rfl, rfl, by decide +kernel, rfl, rfl, by decide +kernel, by decide +kernel⟩

/-! ### EncoderLatchAction -/

/-- Entry 3 of slice 0 latches interface 1, which is in a mode. -/
def wLatch (mode : Nat) (e : Enc) : State :=
  { wReady with dict := { vals := [(0x8103, 2 ^ 127 + 2 ^ 121 + 2 * 2 ^ 118 + 2 ^ 80), (Obj.ENC_CFG + 1, 2 ^ 127 + mode * 2 ^ 125)] }, enc := [(1, e)] }

theorem witness_latchQuad : ∃ (s t : State) (k e n : Nat) (x : Stamp) (waits : Bool), rAction (s.rallyV k e) = 2 ∧ n = rArg (s.rallyV k e) ∧ n < 8 ∧ s.encOn n = true ∧
    s.fenced (16 + n) = false ∧ s.encOwner n = k ∧
    waits = ((s.encU n).frameStart.isSome || match (s.encU n).monoEnd with
      | some m => !(s.encU n).b || decide (x - s.tl.steps ≤ m)
      | none => false) ∧ t = s.rallyAct k e x ∧ s.encMode n ≠ 2 :=
  ⟨wLatch 0 {}, _, 0, 3, 1, 5, false, by decide +kernel, by decide +kernel, by decide, by decide +kernel, by decide +kernel, by decide +kernel, by decide +kernel, rfl, by decide +kernel⟩

theorem witness_latchSsi : ∃ (s t : State) (k e n : Nat) (x : Stamp) (waits : Bool), rAction (s.rallyV k e) = 2 ∧ n = rArg (s.rallyV k e) ∧ n < 8 ∧ s.encOn n = true ∧
    s.fenced (16 + n) = false ∧ s.encOwner n = k ∧
    waits = ((s.encU n).frameStart.isSome || match (s.encU n).monoEnd with
      | some m => !(s.encU n).b || decide (x - s.tl.steps ≤ m)
      | none => false) ∧ t = s.rallyAct k e x ∧ s.encMode n = 2 ∧ waits = false :=
  ⟨wLatch 2 {}, _, 0, 3, 1, 5, false, by decide +kernel, by decide +kernel, by decide, by decide +kernel, by decide +kernel, by decide +kernel, by decide +kernel, rfl, by decide +kernel⟩

theorem witness_latchBusy : ∃ (s t : State) (k e n : Nat) (x : Stamp) (waits : Bool), rAction (s.rallyV k e) = 2 ∧ n = rArg (s.rallyV k e) ∧ n < 8 ∧ s.encOn n = true ∧
    s.fenced (16 + n) = false ∧ s.encOwner n = k ∧
    waits = ((s.encU n).frameStart.isSome || match (s.encU n).monoEnd with
      | some m => !(s.encU n).b || decide (x - s.tl.steps ≤ m)
      | none => false) ∧ t = s.rallyAct k e x ∧ s.encMode n = 2 ∧ waits = true :=
  ⟨wLatch 2 { frameStart := some 7 }, _, 0, 3, 1, 5, true, by decide +kernel, by decide +kernel, by decide, by decide +kernel, by decide +kernel, by decide +kernel, by decide +kernel, rfl, by decide +kernel⟩

/-! ### SixteenthIllegalTransitionFaults -/

/-- Interface 1 in a mode with a decoder. -/
def wEnc (mode : Nat) (e : Enc) : State := { wReady with dict := { vals := [(Obj.ENC_CFG + 1, 2 ^ 127 + mode * 2 ^ 125 + 6 * 2 ^ 122)] }, enc := [(1, e)] }

theorem witness_illegalQuad : ∃ (s u : State) (dt : Nat) (c : Instr) (n : Fin 8) (e : Enc) (l : List Stamp), u = s.elapse dt ∧ e = u.encU n.val ∧ u.encOn n.val = true ∧
    ((∃ a b, c = .encQuadTransition dt n a b ∧ u.encMode n.val = 0 ∧ e.a ≠ a ∧ e.b ≠ b) ∨
      (∃ h, c = .encHallTransition dt n h ∧ u.encMode n.val = 1 ∧ h.val ≠ e.hall ∧
        (hallSector h.val = none ∨ 2 ≤ popcount3 (h.val ^^^ e.hall)))) ∧
    l = u.filtStamp n.val :: e.illegal :=
  ⟨wEnc 0 { illegal := List.replicate 15 3999999000 }, _, 0, .encQuadTransition 0 1 false false, 1, _, _, rfl, rfl, by decide +kernel, .inl ⟨false, false, rfl, by decide +kernel, by decide +kernel, by decide +kernel⟩, rfl⟩

theorem witness_illegalHall : ∃ (s u : State) (dt : Nat) (c : Instr) (n : Fin 8) (e : Enc) (l : List Stamp), u = s.elapse dt ∧ e = u.encU n.val ∧ u.encOn n.val = true ∧
    ((∃ a b, c = .encQuadTransition dt n a b ∧ u.encMode n.val = 0 ∧ e.a ≠ a ∧ e.b ≠ b) ∨
      (∃ h, c = .encHallTransition dt n h ∧ u.encMode n.val = 1 ∧ h.val ≠ e.hall ∧
        (hallSector h.val = none ∨ 2 ≤ popcount3 (h.val ^^^ e.hall)))) ∧
    l = u.filtStamp n.val :: e.illegal :=
  ⟨wEnc 1 { hall := 1 }, _, 0, .encHallTransition 0 1 0, 1, _, _, rfl, rfl, by decide +kernel, .inr ⟨0, rfl, by decide +kernel, by decide +kernel, by decide +kernel⟩, rfl⟩

/-! ### ASupplyFaultPutsTheBallsInReset -/

theorem witness_supplyFaultBalls : ∃ (s u : State) (dt : Nat) (rail : Fin 5) (high : Bool), u = s.elapse dt ∧ u.mu.phase.up = true :=
  ⟨wReady, _, 0, 1, true, rfl, by decide⟩

/-! ### Frames -/

theorem witness_frame_vstbyInRange : ∃ (s t : State) (dt : Nat) (c : Instr), (c = .vstbyInRange dt) ∧ exec c s = .next t :=
  ⟨wReady, _, 0, .vstbyInRange 0, rfl, rfl⟩

theorem witness_frame_standbyBootDone : ∃ (s t : State) (dt : Nat) (c : Instr), (c = .standbyBootDone dt) ∧ exec c s = .next t :=
  ⟨wReady, _, 0, .standbyBootDone 0, rfl, rfl⟩

theorem witness_frame_vstbyTrip : ∃ (s t : State) (dt : Nat) (c : Instr), (c = .vstbyTrip dt) ∧ exec c s = .next t :=
  ⟨wReady, _, 0, .vstbyTrip 0, rfl, rfl⟩

theorem witness_frame_mainRailInRange : ∃ (s t : State) (dt : Nat) (c : Instr), ((∃ x0, c = .mainRailInRange dt x0)) ∧ exec c s = .next t :=
  ⟨wReady, _, 0, .mainRailInRange 0 0, ⟨_, rfl⟩, rfl⟩

theorem witness_frame_supplyFault : ∃ (s t : State) (dt : Nat) (c : Instr), ((∃ x0 x1, c = .supplyFault dt x0 x1) ∨ (∃ x0, c = .deviceReset dt x0)) ∧ exec c s = .next t :=
  ⟨wReady, _, 0, .supplyFault 0 0 false, .inl ⟨_, _, rfl⟩, rfl⟩

theorem witness_frame_supplyRestart : ∃ (s t : State) (dt : Nat) (c : Instr), (c = .supplyRestart dt ∨ c = .resetNRelease dt) ∧ exec c s = .next t :=
  ⟨wReady, _, 0, .supplyRestart 0, .inl rfl, rfl⟩

theorem witness_frame_resetNLow : ∃ (s t : State) (dt : Nat) (c : Instr), (c = .resetNLow dt) ∧ exec c s = .next t :=
  ⟨wReady, _, 0, .resetNLow 0, rfl, rfl⟩

theorem witness_frame_bypassOpen : ∃ (s t : State) (dt : Nat) (c : Instr), (c = .bypassOpen dt) ∧ exec c s = .next t :=
  ⟨wReady, _, 0, .bypassOpen 0, rfl, rfl⟩

theorem witness_frame_xtalDetect : ∃ (s t : State) (dt : Nat) (c : Instr), ((∃ x0, c = .xtalDetect dt x0)) ∧ exec c s = .next t :=
  ⟨wReady, _, 0, .xtalDetect 0 0, ⟨_, rfl⟩, rfl⟩

theorem witness_frame_clockMonitorWindow : ∃ (s t : State) (dt : Nat) (c : Instr), ((∃ x0 x1, c = .clockMonitorWindow dt x0 x1) ∨ (∃ x0, c = .clockEdgeTimeout dt x0) ∨ c = .pwrcycNoResponse dt) ∧ exec c s = .next t :=
  ⟨wReady, _, 0, .clockMonitorWindow 0 0 0, .inl ⟨_, _, rfl⟩, rfl⟩

theorem witness_frame_clockStable : ∃ (s t : State) (dt : Nat) (c : Instr), (c = .clockStable dt ∨ c = .pwrcycRelease dt) ∧ exec c s = .next t :=
  ⟨wReady, _, 0, .clockStable 0, .inl rfl, rfl⟩

theorem witness_frame_clockHoldTimeout : ∃ (s t : State) (dt : Nat) (c : Instr), (c = .clockHoldTimeout dt ∨ c = .startFailTimeout dt ∨ c = .pwrcycAssert dt) ∧ exec c s = .next t :=
  ⟨wReady, _, 0, .clockHoldTimeout 0, .inl rfl, rfl⟩

theorem witness_frame_deviceStart : ∃ (s t : State) (dt : Nat) (c : Instr), (c = .deviceStart dt) ∧ exec c s = .next t :=
  ⟨wReady, _, 0, .deviceStart 0, rfl, rfl⟩

theorem witness_frame_romStartDone : ∃ (s t : State) (dt : Nat) (c : Instr), ((∃ x0 x1, c = .romStartDone dt x0 x1) ∨ (∃ x0 x1, c = .bootIngotVerified dt x0 x1)) ∧ exec c s = .next t :=
  ⟨wReady, _, 0, .romStartDone 0 false 0, .inl ⟨_, _, rfl⟩, rfl⟩

theorem witness_frame_startupBistDone : ∃ (s t : State) (dt : Nat) (c : Instr), ((∃ x0, c = .startupBistDone dt x0)) ∧ exec c s = .next t :=
  ⟨wReady, _, 0, .startupBistDone 0 (⟨false, false, false, 0, []⟩), ⟨_, rfl⟩, rfl⟩

theorem witness_frame_configLoaded : ∃ (s t : State) (dt : Nat) (c : Instr), ((∃ x0 x1 x2, c = .configLoaded dt x0 x1 x2)) ∧ exec c s = .next t :=
  ⟨wReady, _, 0, .configLoaded 0 none none none, ⟨_, _, _, rfl⟩, rfl⟩

theorem witness_frame_ready : ∃ (s t : State) (dt : Nat) (c : Instr), (c = .ready dt) ∧ exec c s = .next t :=
  ⟨wReady, _, 0, .ready 0, rfl, rfl⟩

theorem witness_frame_timSetIncrement : ∃ (s t : State) (dt : Nat) (c : Instr), ((∃ x0, c = .timSetIncrement dt x0) ∨ (∃ x0, c = .timStep dt x0) ∨ (∃ x0, c = .timServoMode dt x0)) ∧ exec c s = .next t :=
  ⟨wReady, _, 0, .timSetIncrement 0 (wPkt 0 []), .inl ⟨_, rfl⟩, rfl⟩

theorem witness_frame_timRallyWrite : ∃ (s t : State) (dt : Nat) (c : Instr), ((∃ x0, c = .timRallyWrite dt x0)) ∧ exec c s = .next t :=
  ⟨wReady, _, 0, .timRallyWrite 0 (wPkt 0 []), ⟨_, rfl⟩, rfl⟩

theorem witness_frame_timTioConfig : ∃ (s t : State) (dt : Nat) (c : Instr), ((∃ x0, c = .timTioConfig dt x0)) ∧ exec c s = .next t :=
  ⟨wReady, _, 0, .timTioConfig 0 (wPkt 0 []), ⟨_, rfl⟩, rfl⟩

theorem witness_frame_incrementApply : ∃ (s t : State) (dt : Nat) (c : Instr), (c = .incrementApply dt) ∧ exec c s = .next t :=
  ⟨wReady, _, 0, .incrementApply 0, rfl, rfl⟩

theorem witness_frame_timeStepApply : ∃ (s t : State) (dt : Nat) (c : Instr), (c = .timeStepApply dt) ∧ exec c s = .next t :=
  ⟨wReady, _, 0, .timeStepApply 0, rfl, rfl⟩

theorem witness_frame_servoModeApply : ∃ (s t : State) (dt : Nat) (c : Instr), (c = .servoModeApply dt) ∧ exec c s = .next t :=
  ⟨wReady, _, 0, .servoModeApply 0, rfl, rfl⟩

theorem witness_frame_ptpSyncRx : ∃ (s t : State) (dt : Nat) (c : Instr), ((∃ x0 x1 x2 x3 x4, c = .ptpSyncRx dt x0 x1 x2 x3 x4)) ∧ exec c s = .next t :=
  ⟨wReady, _, 0, .ptpSyncRx 0 0 0 {} 0 false, ⟨_, _, _, _, _, rfl⟩, rfl⟩

theorem witness_frame_gmTimeout : ∃ (s t : State) (dt : Nat) (c : Instr), (c = .gmTimeout dt ∨ c = .ringAlignTimeout dt) ∧ exec c s = .next t :=
  ⟨wReady, _, 0, .gmTimeout 0, .inl rfl, rfl⟩

theorem witness_frame_holdoverMaxExpire : ∃ (s t : State) (dt : Nat) (c : Instr), (c = .holdoverMaxExpire dt) ∧ exec c s = .next t :=
  ⟨wReady, _, 0, .holdoverMaxExpire 0, rfl, rfl⟩

theorem witness_frame_hostWatchdogExpire : ∃ (s t : State) (dt : Nat) (c : Instr), (c = .hostWatchdogExpire dt) ∧ exec c s = .next t :=
  ⟨wReady, _, 0, .hostWatchdogExpire 0, rfl, rfl⟩

theorem witness_frame_sqTailDoorbell : ∃ (s t : State) (dt : Nat) (c : Instr), ((∃ x0 x1, c = .sqTailDoorbell dt x0 x1) ∨ (∃ x0 x1, c = .cqHeadDoorbell dt x0 x1) ∨ (∃ x0 x1, c = .qcfgEnable dt x0 x1) ∨ (∃ x0 x1, c = .qcfgDisable dt x0 x1) ∨ (∃ x0, c = .completionPost dt x0) ∨ (∃ x0 x1, c = .pcieHostMemoryError dt x0 x1)) ∧ exec c s = .next t :=
  ⟨wReady, _, 0, .sqTailDoorbell 0 0 0, .inl ⟨_, _, rfl⟩, rfl⟩

theorem witness_frame_mbxGo : ∃ (s t : State) (dt : Nat) (c : Instr), (c = .mbxGo dt ∨ (∃ x0 x1 x2, c = .registerWrite dt x0 x1 x2)) ∧ exec c s = .next t :=
  ⟨wReady, _, 0, .mbxGo 0, .inl rfl, rfl⟩

theorem witness_frame_perstAssert : ∃ (s t : State) (dt : Nat) (c : Instr), (c = .perstAssert dt ∨ c = .pcieLinkDownTimeout dt ∨ (∃ x0, c = .pcieLinkChange dt x0)) ∧ exec c s = .next t :=
  ⟨wReady, _, 0, .perstAssert 0, .inl rfl, rfl⟩

theorem witness_frame_spiSubmit : ∃ (s t : State) (dt : Nat) (c : Instr), ((∃ x0 x1 x2, c = .spiSubmit dt x0 x1 x2)) ∧ exec c s = .next t :=
  ⟨wReady, _, 0, .spiSubmit 0 0 (wPkt 0 []) 0, ⟨_, _, _, rfl⟩, rfl⟩

theorem witness_frame_spiFetch : ∃ (s t : State) (dt : Nat) (c : Instr), ((∃ x0 x1, c = .spiFetch dt x0 x1) ∨ c = .spiStatus dt ∨ (∃ x0, c = .spiUnknownInstruction dt x0) ∨ (∃ x0, c = .ipv4ReassemblyTimeout dt x0)) ∧ exec c s = .next t :=
  ⟨wReady, _, 0, .spiFetch 0 0 0, .inl ⟨_, _, rfl⟩, rfl⟩

theorem witness_frame_cmdDatagramRx : ∃ (s t : State) (dt : Nat) (c : Instr), ((∃ x0 x1, c = .cmdDatagramRx dt x0 x1)) ∧ exec c s = .next t :=
  ⟨wReady, _, 0, .cmdDatagramRx 0 0 ({ version := 1, session := 0, counter := 0, tagOk := true, pkt := wPkt 0 [] }), ⟨_, _, rfl⟩, rfl⟩

theorem witness_frame_canTunnelFrameRx : ∃ (s t : State) (dt : Nat) (c : Instr), ((∃ x0 x1, c = .canTunnelFrameRx dt x0 x1)) ∧ exec c s = .next t :=
  ⟨wReady, _, 0, .canTunnelFrameRx 0 0 [], ⟨_, _, rfl⟩, rfl⟩

theorem witness_frame_canTunnelTimeout : ∃ (s t : State) (dt : Nat) (c : Instr), ((∃ x0, c = .canTunnelTimeout dt x0)) ∧ exec c s = .next t :=
  ⟨wReady, _, 0, .canTunnelTimeout 0 0, ⟨_, rfl⟩, rfl⟩

theorem witness_frame_subscriptionNotify : ∃ (s t : State) (dt : Nat) (c : Instr), ((∃ x0, c = .subscriptionNotify dt x0)) ∧ exec c s = .next t :=
  ⟨wReady, _, 0, .subscriptionNotify 0 0, ⟨_, rfl⟩, rfl⟩

theorem witness_frame_sessionIdleTimeout : ∃ (s t : State) (dt : Nat) (c : Instr), ((∃ x0, c = .sessionIdleTimeout dt x0)) ∧ exec c s = .next t :=
  ⟨wReady, _, 0, .sessionIdleTimeout 0 0, ⟨_, rfl⟩, rfl⟩

theorem witness_other_pair : ∃ (s t : State) (dt : Nat) (c : Instr) (n : Fin 16) (m : Nat), ((∃ x1, c = .sqTailDoorbell dt n x1) ∨ (∃ x1, c = .cqHeadDoorbell dt n x1) ∨ (∃ x1, c = .qcfgEnable dt n x1) ∨ (∃ x1, c = .qcfgDisable dt n x1) ∨ c = .completionPost dt n) ∧ exec c s = .next t ∧ m ≠ n.val :=
  ⟨wReady, _, 0, .sqTailDoorbell 0 0 0, 0, 1, .inl ⟨_, rfl⟩, rfl, by decide⟩

theorem witness_frame_sysNop : ∃ (s t : State) (dt : Nat) (c : Instr), ((∃ x0, c = .sysNop dt x0) ∨ (∃ x0, c = .sysOpenSession dt x0) ∨ (∃ x0, c = .sysGetInfo dt x0)) ∧ exec c s = .next t :=
  ⟨wReady, _, 0, .sysNop 0 (wPkt 0 []), .inl ⟨_, rfl⟩, rfl⟩

theorem witness_frame_sysCloseSession : ∃ (s t : State) (dt : Nat) (c : Instr), ((∃ x0, c = .sysCloseSession dt x0)) ∧ exec c s = .next t :=
  ⟨wReady, _, 0, .sysCloseSession 0 (wPkt 0 []), ⟨_, rfl⟩, rfl⟩

theorem witness_frame_sysReset : ∃ (s t : State) (dt : Nat) (c : Instr), ((∃ x0, c = .sysReset dt x0) ∨ (∃ x0, c = .sysResetActivate dt x0) ∨ (∃ x0, c = .sysPwrcycleReq dt x0)) ∧ exec c s = .next t :=
  ⟨wReady, _, 0, .sysReset 0 (wPkt 0 []), .inl ⟨_, rfl⟩, rfl⟩

theorem witness_frame_sysFuncReinitUnit : ∃ (s t : State) (dt : Nat) (c : Instr), ((∃ x0, c = .sysFuncReinitUnit dt x0) ∨ (∃ x0, c = .sysFuncReinitPair dt x0) ∨ (∃ x0, c = .sysFuncReinitContext dt x0) ∨ (∃ x0, c = .sysFuncReinitAux dt x0) ∨ (∃ x0, c = .sysFuncReinitEncoder dt x0)) ∧ exec c s = .next t :=
  ⟨wReady, _, 0, .sysFuncReinitUnit 0 (wPkt 0 []), .inl ⟨_, rfl⟩, rfl⟩

theorem witness_frame_objRead : ∃ (s t : State) (dt : Nat) (c : Instr), ((∃ x0, c = .objRead dt x0) ∨ (∃ x0 x1, c = .ethTxtsPop dt x0 x1) ∨ (∃ x0, c = .objReadBlock dt x0)) ∧ exec c s = .next t :=
  ⟨wReady, _, 0, .objRead 0 (wPkt 0 []), .inl ⟨_, rfl⟩, rfl⟩

theorem witness_frame_objWrite : ∃ (s t : State) (dt : Nat) (c : Instr), ((∃ x0, c = .objWrite dt x0) ∨ (∃ x0, c = .objWriteBlock dt x0) ∨ (∃ x0, c = .auxHostTrig dt x0) ∨ (∃ x0, c = .encSsiTrig dt x0) ∨ (∃ x0, c = .mgtLifecycleReq dt x0) ∨ (∃ x0, c = .mgtFeatureGate dt x0) ∨ (∃ x0 x1, c = .encCfgWrite dt x0 x1)) ∧ exec c s = .next t :=
  ⟨wReady, _, 0, .objWrite 0 (wPkt 0 []), .inl ⟨_, rfl⟩, rfl⟩

theorem witness_frame_objSubscribe : ∃ (s t : State) (dt : Nat) (c : Instr), ((∃ x0, c = .objSubscribe dt x0) ∨ (∃ x0, c = .objSubscribeCancel dt x0)) ∧ exec c s = .next t :=
  ⟨wReady, _, 0, .objSubscribe 0 (wPkt 0 []), .inl ⟨_, rfl⟩, rfl⟩

theorem witness_frame_drvEnable : ∃ (s t : State) (dt : Nat) (c : Instr), ((∃ x0, c = .drvEnable dt x0)) ∧ exec c s = .next t :=
  ⟨wReady, _, 0, .drvEnable 0 (wPkt 0 []), ⟨_, rfl⟩, rfl⟩

theorem witness_frame_drvDisable : ∃ (s t : State) (dt : Nat) (c : Instr), ((∃ x0, c = .drvDisable dt x0)) ∧ exec c s = .next t :=
  ⟨wReady, _, 0, .drvDisable 0 (wPkt 0 []), ⟨_, rfl⟩, rfl⟩

theorem witness_frame_drvSetSpeed : ∃ (s t : State) (dt : Nat) (c : Instr), ((∃ x0, c = .drvSetSpeed dt x0) ∨ (∃ x0, c = .drvSetTorque dt x0)) ∧ exec c s = .next t :=
  ⟨wReady, _, 0, .drvSetSpeed 0 (wPkt 0 []), .inl ⟨_, rfl⟩, rfl⟩

theorem witness_frame_drvStopRamp : ∃ (s t : State) (dt : Nat) (c : Instr), ((∃ x0, c = .drvStopRamp dt x0) ∨ (∃ x0, c = .drvStopCoast dt x0) ∨ (∃ x0, c = .drvStopShort dt x0)) ∧ exec c s = .next t :=
  ⟨wReady, _, 0, .drvStopRamp 0 (wPkt 0 []), .inl ⟨_, rfl⟩, rfl⟩

theorem witness_frame_drvStart : ∃ (s t : State) (dt : Nat) (c : Instr), ((∃ x0, c = .drvStart dt x0)) ∧ exec c s = .next t :=
  ⟨wReady, _, 0, .drvStart 0 (wPkt 0 []), ⟨_, rfl⟩, rfl⟩

theorem witness_frame_drvDischargeWinding : ∃ (s t : State) (dt : Nat) (c : Instr), ((∃ x0, c = .drvDischargeWinding dt x0) ∨ (∃ x0, c = .drvDischargeSwitch dt x0)) ∧ exec c s = .next t :=
  ⟨wReady, _, 0, .drvDischargeWinding 0 (wPkt 0 []), .inl ⟨_, rfl⟩, rfl⟩

theorem witness_frame_controlSample : ∃ (s t : State) (dt : Nat) (c : Instr), ((∃ x0, c = .controlSample dt x0)) ∧ exec c s = .next t :=
  ⟨wReady, _, 0, .controlSample 0 0, ⟨_, rfl⟩, rfl⟩

theorem witness_frame_zeroSpeedHoldDone : ∃ (s t : State) (dt : Nat) (c : Instr), ((∃ x0, c = .zeroSpeedHoldDone dt x0)) ∧ exec c s = .next t :=
  ⟨wReady, _, 0, .zeroSpeedHoldDone 0 0, ⟨_, rfl⟩, rfl⟩

theorem witness_frame_catchPulse : ∃ (s t : State) (dt : Nat) (c : Instr), ((∃ x0, c = .catchPulse dt x0)) ∧ exec c s = .next t :=
  ⟨wReady, _, 0, .catchPulse 0 0, ⟨_, rfl⟩, rfl⟩

theorem witness_frame_catchTimeout : ∃ (s t : State) (dt : Nat) (c : Instr), ((∃ x0, c = .catchTimeout dt x0)) ∧ exec c s = .next t :=
  ⟨wReady, _, 0, .catchTimeout 0 0, ⟨_, rfl⟩, rfl⟩

theorem witness_frame_polarityTestPhaseEnd : ∃ (s t : State) (dt : Nat) (c : Instr), ((∃ x0, c = .polarityTestPhaseEnd dt x0)) ∧ exec c s = .next t :=
  ⟨wReady, _, 0, .polarityTestPhaseEnd 0 0, ⟨_, rfl⟩, rfl⟩

theorem witness_frame_recatchDelayExpire : ∃ (s t : State) (dt : Nat) (c : Instr), ((∃ x0, c = .recatchDelayExpire dt x0)) ∧ exec c s = .next t :=
  ⟨wReady, _, 0, .recatchDelayExpire 0 0, ⟨_, rfl⟩, rfl⟩

theorem witness_frame_recatchWindowExpire : ∃ (s t : State) (dt : Nat) (c : Instr), ((∃ x0, c = .recatchWindowExpire dt x0) ∨ c = .setpointRefresh dt) ∧ exec c s = .next t :=
  ⟨wReady, _, 0, .recatchWindowExpire 0 0, .inl ⟨_, rfl⟩, rfl⟩

theorem witness_frame_dischargeTimeout : ∃ (s t : State) (dt : Nat) (c : Instr), ((∃ x0, c = .dischargeTimeout dt x0)) ∧ exec c s = .next t :=
  ⟨wReady, _, 0, .dischargeTimeout 0 0, ⟨_, rfl⟩, rfl⟩

theorem witness_frame_setpointTimeout : ∃ (s t : State) (dt : Nat) (c : Instr), ((∃ x0, c = .setpointTimeout dt x0)) ∧ exec c s = .next t :=
  ⟨wReady, _, 0, .setpointTimeout 0 0, ⟨_, rfl⟩, rfl⟩

theorem witness_other_drive : ∃ (s t : State) (dt : Nat) (c : Instr) (p : Pkt) (m : Nat), (c = .drvSetSpeed dt p ∨ c = .drvSetTorque dt p ∨ c = .drvStart dt p ∨ c = .drvStopRamp dt p ∨ c = .drvStopCoast dt p ∨ c = .drvStopShort dt p ∨ c = .drvDisable dt p ∨ c = .drvEnable dt p ∨ c = .drvDischargeWinding dt p ∨ c = .drvDischargeSwitch dt p) ∧ exec c s = .next t ∧ m ≠ p.target.toNat :=
  ⟨wReady, _, 0, .drvSetSpeed 0 (wPkt 0 []), wPkt 0 [], 0, .inl rfl, rfl, by decide⟩

theorem witness_other_slice : ∃ (s t : State) (dt : Nat) (c : Instr) (n : Fin 6) (m : Nat), (c = .zeroSpeedHoldDone dt n ∨ c = .catchPulse dt n ∨ c = .catchTimeout dt n ∨ c = .polarityTestPhaseEnd dt n ∨ c = .recatchDelayExpire dt n ∨ c = .recatchWindowExpire dt n ∨ c = .dischargeTimeout dt n) ∧ exec c s = .next t ∧ m ≠ n.val :=
  ⟨wReady, _, 0, .zeroSpeedHoldDone 0 0, 0, 1, .inl rfl, rfl, by decide⟩

theorem witness_other_setpoint : ∃ (s u t : State) (dt : Nat) (n : Fin 6) (m : Nat), u = s.elapse dt ∧ (u.inFlask && u.isActive) = false ∧
    exec (.setpointTimeout dt n) s = .next t ∧ m ≠ n.val := ⟨wReady, _, _, 0, 0, 1, rfl, by decide +kernel, rfl, by decide⟩

theorem witness_frame_engDefineContext : ∃ (s t : State) (dt : Nat) (c : Instr), ((∃ x0, c = .engDefineContext dt x0) ∨ (∃ x0, c = .engDeleteContext dt x0) ∨ (∃ x0, c = .engWriteCoef dt x0) ∨ (∃ x0, c = .engFreeze dt x0) ∨ (∃ x0, c = .engRelease dt x0) ∨ (∃ x0, c = .engSeedState dt x0) ∨ (∃ x0, c = .engLink dt x0) ∨ (∃ x0, c = .engGroup dt x0) ∨ (∃ x0, c = .engCommit dt x0) ∨ (∃ x0, c = .engCommitDiscard dt x0)) ∧ exec c s = .next t :=
  ⟨wReady, _, 0, .engDefineContext 0 (wPkt 0 []), .inl ⟨_, rfl⟩, rfl⟩

theorem witness_frame_engReleaseSwap : ∃ (s t : State) (dt : Nat) (c : Instr), ((∃ x0, c = .engReleaseSwap dt x0)) ∧ exec c s = .next t :=
  ⟨wReady, _, 0, .engReleaseSwap 0 0, ⟨_, rfl⟩, rfl⟩

theorem witness_frame_engEvalStart : ∃ (s t : State) (dt : Nat) (c : Instr), ((∃ x0, c = .engEvalStart dt x0) ∨ (∃ x0, c = .engEvalDone dt x0) ∨ (∃ x0, c = .engOutputWrite dt x0)) ∧ exec c s = .next t :=
  ⟨wReady, _, 0, .engEvalStart 0 0, .inl ⟨_, rfl⟩, rfl⟩

theorem witness_frame_netCanConfig : ∃ (s t : State) (dt : Nat) (c : Instr), ((∃ x0, c = .netCanConfig dt x0) ∨ (∃ x0, c = .netCanConfigRead dt x0)) ∧ exec c s = .next t :=
  ⟨wReady, _, 0, .netCanConfig 0 (wPkt 0 []), .inl ⟨_, rfl⟩, rfl⟩

theorem witness_frame_netCanFilter : ∃ (s t : State) (dt : Nat) (c : Instr), ((∃ x0, c = .netCanFilter dt x0) ∨ (∃ x0, c = .netCanFilterRead dt x0) ∨ (∃ x0, c = .netCanTx dt x0) ∨ (∃ x0, c = .netCanAck dt x0)) ∧ exec c s = .next t :=
  ⟨wReady, _, 0, .netCanFilter 0 (wPkt 0 []), .inl ⟨_, rfl⟩, rfl⟩

theorem witness_frame_netCanCancel : ∃ (s t : State) (dt : Nat) (c : Instr), ((∃ x0, c = .netCanCancel dt x0)) ∧ exec c s = .next t :=
  ⟨wReady, _, 0, .netCanCancel 0 (wPkt 0 []), ⟨_, rfl⟩, rfl⟩

theorem witness_frame_canFrameRx : ∃ (s t : State) (dt : Nat) (c : Instr), ((∃ x0 x1 x2 x3, c = .canFrameRx dt x0 x1 x2 x3)) ∧ exec c s = .next t :=
  ⟨wReady, _, 0, .canFrameRx 0 0 ({ id := 7 }) 0 0, ⟨_, _, _, _, rfl⟩, rfl⟩

theorem witness_frame_canTxSof : ∃ (s t : State) (dt : Nat) (c : Instr), ((∃ x0, c = .canTxSof dt x0) ∨ (∃ x0, c = .canBusOffRecovery dt x0) ∨ (∃ x0, c = .canRateTimeout dt x0) ∨ (∃ x0 x1 x2, c = .canQackDoorbell dt x0 x1 x2)) ∧ exec c s = .next t :=
  ⟨wReady, _, 0, .canTxSof 0 0, .inl ⟨_, rfl⟩, rfl⟩

theorem witness_frame_canTxDone : ∃ (s t : State) (dt : Nat) (c : Instr), ((∃ x0, c = .canTxDone dt x0) ∨ (∃ x0 x1, c = .canTxExpire dt x0 x1)) ∧ exec c s = .next t :=
  ⟨wReady, _, 0, .canTxDone 0 0, .inl ⟨_, rfl⟩, rfl⟩

theorem witness_frame_canArbitrationLost : ∃ (s t : State) (dt : Nat) (c : Instr), ((∃ x0, c = .canArbitrationLost dt x0)) ∧ exec c s = .next t :=
  ⟨wReady, _, 0, .canArbitrationLost 0 0, ⟨_, rfl⟩, rfl⟩

theorem witness_frame_canBusError : ∃ (s t : State) (dt : Nat) (c : Instr), ((∃ x0 x1 x2 x3 x4, c = .canBusError dt x0 x1 x2 x3 x4)) ∧ exec c s = .next t :=
  ⟨wReady, _, 0, .canBusError 0 0 .stuff false false false, ⟨_, _, _, _, _, rfl⟩, rfl⟩

theorem witness_frame_canPublish : ∃ (s t : State) (dt : Nat) (c : Instr), ((∃ x0, c = .canPublish dt x0)) ∧ exec c s = .next t :=
  ⟨wReady, _, 0, .canPublish 0 0, ⟨_, rfl⟩, rfl⟩

theorem witness_other_can : ∃ (s t : State) (dt : Nat) (c : Instr) (n : Fin 4) (m : Nat), (c = .canTxSof dt n ∨ c = .canTxDone dt n ∨ c = .canArbitrationLost dt n ∨ (∃ x1 x2 x3 x4, c = .canBusError dt n x1 x2 x3 x4) ∨ c = .canBusOffRecovery dt n ∨ c = .canRateTimeout dt n ∨ (∃ x1, c = .canTxExpire dt n x1) ∨ (∃ x1 x2, c = .canQackDoorbell dt n x1 x2)) ∧ exec c s = .next t ∧ m ≠ n.val :=
  ⟨wReady, _, 0, .canTxSof 0 0, 0, 1, .inl rfl, rfl, by decide⟩

theorem witness_frame_netEthConfig : ∃ (s t : State) (dt : Nat) (c : Instr), ((∃ x0, c = .netEthConfig dt x0)) ∧ exec c s = .next t :=
  ⟨wReady, _, 0, .netEthConfig 0 (wPkt 0 []), ⟨_, rfl⟩, rfl⟩

theorem witness_frame_netEthConfigRead : ∃ (s t : State) (dt : Nat) (c : Instr), ((∃ x0, c = .netEthConfigRead dt x0)) ∧ exec c s = .next t :=
  ⟨wReady, _, 0, .netEthConfigRead 0 (wPkt 0 []), ⟨_, rfl⟩, rfl⟩

theorem witness_frame_ethFrameRx : ∃ (s t : State) (dt : Nat) (c : Instr), ((∃ x0 x1 x2 x3 x4, c = .ethFrameRx dt x0 x1 x2 x3 x4)) ∧ exec c s = .next t :=
  ⟨wReady, _, 0, .ethFrameRx 0 0 0 0 false [], ⟨_, _, _, _, _, rfl⟩, rfl⟩

theorem witness_frame_ethFrameTx : ∃ (s t : State) (dt : Nat) (c : Instr), ((∃ x0, c = .ethFrameTx dt x0)) ∧ exec c s = .next t :=
  ⟨wReady, _, 0, .ethFrameTx 0 0, ⟨_, rfl⟩, rfl⟩

theorem witness_frame_ethLinkChange : ∃ (s t : State) (dt : Nat) (c : Instr), ((∃ x0 x1 x2, c = .ethLinkChange dt x0 x1 x2) ∨ (∃ x0 x1, c = .ptpPdelayExchange dt x0 x1)) ∧ exec c s = .next t :=
  ⟨wReady, _, 0, .ethLinkChange 0 0 false 0, .inl ⟨_, _, _, rfl⟩, rfl⟩

theorem witness_frame_ptpAnnounceRx : ∃ (s t : State) (dt : Nat) (c : Instr), ((∃ x0 x1 x2 x3 x4 x5, c = .ptpAnnounceRx dt x0 x1 x2 x3 x4 x5)) ∧ exec c s = .next t :=
  ⟨wReady, _, 0, .ptpAnnounceRx 0 0 0 0 0 0 0, ⟨_, _, _, _, _, _, rfl⟩, rfl⟩

theorem witness_frame_ptpSyncTx : ∃ (s t : State) (dt : Nat) (c : Instr), ((∃ x0, c = .ptpSyncTx dt x0)) ∧ exec c s = .next t :=
  ⟨wReady, _, 0, .ptpSyncTx 0 0, ⟨_, rfl⟩, rfl⟩

theorem witness_frame_ethPublish : ∃ (s t : State) (dt : Nat) (c : Instr), ((∃ x0, c = .ethPublish dt x0)) ∧ exec c s = .next t :=
  ⟨wReady, _, 0, .ethPublish 0 0, ⟨_, rfl⟩, rfl⟩

theorem witness_frame_ethPublishRx : ∃ (s t : State) (dt : Nat) (c : Instr), ((∃ x0 x1 x2 x3 x4 x5 x6, c = .ethPublishRx dt x0 x1 x2 x3 x4 x5 x6)) ∧ exec c s = .next t :=
  ⟨wReady, _, 0, .ethPublishRx 0 0 0 0 0 0 0 [], ⟨_, _, _, _, _, _, _, rfl⟩, rfl⟩

theorem witness_other_eth : ∃ (s t : State) (dt : Nat) (c : Instr) (n : Fin 2) (m : Nat), (c = .ethFrameTx dt n ∨ c = .ptpSyncTx dt n) ∧ exec c s = .next t ∧ m ≠ n.val :=
  ⟨wReady, _, 0, .ethFrameTx 0 0, 0, 1, .inl rfl, rfl, by decide⟩

theorem witness_frame_safLogin : ∃ (s t : State) (dt : Nat) (c : Instr), ((∃ x0, c = .safLogin dt x0) ∨ (∃ x0, c = .safSetPassword dt x0)) ∧ exec c s = .next t :=
  ⟨wReady, _, 0, .safLogin 0 (wPkt 0 []), .inl ⟨_, rfl⟩, rfl⟩

theorem witness_frame_safCommit : ∃ (s t : State) (dt : Nat) (c : Instr), ((∃ x0, c = .safCommit dt x0)) ∧ exec c s = .next t :=
  ⟨wReady, _, 0, .safCommit 0 (wPkt 0 []), ⟨_, rfl⟩, rfl⟩

theorem witness_frame_safLogRead : ∃ (s t : State) (dt : Nat) (c : Instr), ((∃ x0, c = .safLogRead dt x0)) ∧ exec c s = .next t :=
  ⟨wReady, _, 0, .safLogRead 0 (wPkt 0 []), ⟨_, rfl⟩, rfl⟩

theorem witness_frame_stoInputChange : ∃ (s t : State) (dt : Nat) (c : Instr), ((∃ x0 x1, c = .stoInputChange dt x0 x1) ∨ c = .stoDiscrepancy dt ∨ (∃ x0, c = .ss1TmaxExpire dt x0) ∨ (∃ x0, c = .degradedTimeExpire dt x0)) ∧ exec c s = .next t :=
  ⟨wReady, _, 0, .stoInputChange 0 false false, .inl ⟨_, _, rfl⟩, rfl⟩

theorem witness_frame_refereeEvaluation : ∃ (s t : State) (dt : Nat) (c : Instr), (c = .refereeEvaluation dt) ∧ exec c s = .next t :=
  ⟨wReady, _, 0, .refereeEvaluation 0, rfl, rfl⟩

theorem witness_frame_refereeHeartbeat : ∃ (s t : State) (dt : Nat) (c : Instr), ((∃ x0, c = .refereeHeartbeat dt x0) ∨ c = .refereeHeartbeatTimeout dt ∨ (∃ x0 x1, c = .refereeInjection dt x0 x1) ∨ c = .refereeLockstepMismatch dt) ∧ exec c s = .next t :=
  ⟨wReady, _, 0, .refereeHeartbeat 0 false, .inl ⟨_, rfl⟩, rfl⟩

theorem witness_frame_dischargeMonitorDeadline : ∃ (s t : State) (dt : Nat) (c : Instr), ((∃ x0, c = .dischargeMonitorDeadline dt x0)) ∧ exec c s = .next t :=
  ⟨wReady, _, 0, .dischargeMonitorDeadline 0 0, ⟨_, rfl⟩, rfl⟩

theorem witness_frame_safLoginLockExpire : ∃ (s t : State) (dt : Nat) (c : Instr), (c = .safLoginLockExpire dt) ∧ exec c s = .next t :=
  ⟨wReady, _, 0, .safLoginLockExpire 0, rfl, rfl⟩

theorem witness_frame_cpLockstepMismatch : ∃ (s t : State) (dt : Nat) (c : Instr), (c = .cpLockstepMismatch dt ∨ (∃ x0 x1 x2, c = .debugWrite dt x0 x1 x2)) ∧ exec c s = .next t :=
  ⟨wReady, _, 0, .cpLockstepMismatch 0, .inl rfl, rfl⟩

theorem witness_frame_cpRestartDone : ∃ (s t : State) (dt : Nat) (c : Instr), ((∃ x0, c = .cpRestartDone dt x0)) ∧ exec c s = .next t :=
  ⟨wReady, _, 0, .cpRestartDone 0 false, ⟨_, rfl⟩, rfl⟩

theorem witness_frame_cpCheckpoint : ∃ (s t : State) (dt : Nat) (c : Instr), (c = .cpCheckpoint dt ∨ c = .debugHalt dt) ∧ exec c s = .next t :=
  ⟨wReady, _, 0, .cpCheckpoint 0, .inl rfl, rfl⟩

theorem witness_frame_eccCorrectable : ∃ (s t : State) (dt : Nat) (c : Instr), ((∃ x0, c = .eccCorrectable dt x0)) ∧ exec c s = .next t :=
  ⟨wReady, _, 0, .eccCorrectable 0 .cp, ⟨_, rfl⟩, rfl⟩

theorem witness_frame_eccUncorrectable : ∃ (s t : State) (dt : Nat) (c : Instr), ((∃ x0 x1, c = .eccUncorrectable dt x0 x1)) ∧ exec c s = .next t :=
  ⟨wReady, _, 0, .eccUncorrectable 0 .cp 0, ⟨_, _, rfl⟩, rfl⟩

theorem witness_frame_muRestartDone : ∃ (s t : State) (dt : Nat) (c : Instr), (c = .muRestartDone dt) ∧ exec c s = .next t :=
  ⟨wReady, _, 0, .muRestartDone 0, rfl, rfl⟩

theorem witness_frame_debugResume : ∃ (s t : State) (dt : Nat) (c : Instr), (c = .debugResume dt) ∧ exec c s = .next t :=
  ⟨wReady, _, 0, .debugResume 0, rfl, rfl⟩

theorem witness_frame_diaBistRun : ∃ (s t : State) (dt : Nat) (c : Instr), ((∃ x0, c = .diaBistRun dt x0) ∨ (∃ x0, c = .diaRemapRow dt x0) ∨ (∃ x0, c = .diaTraceStop dt x0) ∨ (∃ x0, c = .diaTraceStartRing dt x0) ∨ (∃ x0, c = .diaTraceStartOnce dt x0)) ∧ exec c s = .next t :=
  ⟨wReady, _, 0, .diaBistRun 0 (wPkt 0 []), .inl ⟨_, rfl⟩, rfl⟩

theorem witness_frame_diaBistResult : ∃ (s t : State) (dt : Nat) (c : Instr), ((∃ x0, c = .diaBistResult dt x0)) ∧ exec c s = .next t :=
  ⟨wReady, _, 0, .diaBistResult 0 (wPkt 0 []), ⟨_, rfl⟩, rfl⟩

theorem witness_frame_bistWindowStart : ∃ (s t : State) (dt : Nat) (c : Instr), (c = .bistWindowStart dt ∨ c = .bistSliceStart dt ∨ c = .bistCopyInDone dt ∨ c = .traceCapture dt) ∧ exec c s = .next t :=
  ⟨wReady, _, 0, .bistWindowStart 0, .inl rfl, rfl⟩

theorem witness_frame_bistMarchDone : ∃ (s t : State) (dt : Nat) (c : Instr), ((∃ x0, c = .bistMarchDone dt x0) ∨ (∃ x0, c = .bistPreempt dt x0) ∨ (∃ x0, c = .bistBudgetExpire dt x0)) ∧ exec c s = .next t :=
  ⟨wReady, _, 0, .bistMarchDone 0 [], .inl ⟨_, rfl⟩, rfl⟩

theorem witness_frame_bistSliceEnd : ∃ (s t : State) (dt : Nat) (c : Instr), (c = .bistSliceEnd dt) ∧ exec c s = .next t :=
  ⟨wReady, _, 0, .bistSliceEnd 0, rfl, rfl⟩

theorem witness_frame_refereeBistSlice : ∃ (s t : State) (dt : Nat) (c : Instr), ((∃ x0, c = .refereeBistSlice dt x0)) ∧ exec c s = .next t :=
  ⟨wReady, _, 0, .refereeBistSlice 0 false, ⟨_, rfl⟩, rfl⟩

theorem witness_frame_sdPatternCheck : ∃ (s t : State) (dt : Nat) (c : Instr), ((∃ x0 x1, c = .sdPatternCheck dt x0 x1) ∨ (∃ x0 x1, c = .glLoopbackCheck dt x0 x1) ∨ (∃ x0 x1, c = .ringLoopbackCheck dt x0 x1) ∨ (∃ x0 x1, c = .canLoopbackCheck dt x0 x1) ∨ (∃ x0, c = .matrixDatapathError dt x0)) ∧ exec c s = .next t :=
  ⟨wReady, _, 0, .sdPatternCheck 0 0 false, .inl ⟨_, _, rfl⟩, rfl⟩

theorem witness_frame_mgtIngotBegin : ∃ (s t : State) (dt : Nat) (c : Instr), ((∃ x0, c = .mgtIngotBegin dt x0) ∨ (∃ x0, c = .mgtIngotBeginConfig dt x0) ∨ (∃ x0, c = .mgtIngotData dt x0) ∨ (∃ x0, c = .mgtIngotEnd dt x0) ∨ (∃ x0, c = .mgtActivate dt x0)) ∧ exec c s = .next t :=
  ⟨wReady, _, 0, .mgtIngotBegin 0 (wPkt 0 []), .inl ⟨_, rfl⟩, rfl⟩

theorem witness_frame_mgtBind : ∃ (s t : State) (dt : Nat) (c : Instr), ((∃ x0 x1, c = .mgtBind dt x0 x1) ∨ (∃ x0, c = .mgtInstallAnchor dt x0) ∨ (∃ x0, c = .mgtRemoveBinding dt x0)) ∧ exec c s = .next t :=
  ⟨wReady, _, 0, .mgtBind 0 (wPkt 0 []) 0, .inl ⟨_, _, rfl⟩, rfl⟩

theorem witness_frame_mgtAttest : ∃ (s t : State) (dt : Nat) (c : Instr), ((∃ x0, c = .mgtAttest dt x0) ∨ (∃ x0, c = .mgtLogRead dt x0)) ∧ exec c s = .next t :=
  ⟨wReady, _, 0, .mgtAttest 0 (wPkt 0 []), .inl ⟨_, rfl⟩, rfl⟩

theorem witness_frame_ingotCheckDone : ∃ (s t : State) (dt : Nat) (c : Instr), ((∃ x0, c = .ingotCheckDone dt x0)) ∧ exec c s = .next t :=
  ⟨wReady, _, 0, .ingotCheckDone 0 (⟨0, 0, 0, 0, none⟩), ⟨_, rfl⟩, rfl⟩

theorem witness_frame_ingotTransferTimeout : ∃ (s t : State) (dt : Nat) (c : Instr), (c = .ingotTransferTimeout dt) ∧ exec c s = .next t :=
  ⟨wReady, _, 0, .ingotTransferTimeout 0, rfl, rfl⟩

theorem witness_frame_mgtActivateApply : ∃ (s t : State) (dt : Nat) (c : Instr), (c = .mgtActivateApply dt) ∧ exec c s = .next t :=
  ⟨wReady, _, 0, .mgtActivateApply 0, rfl, rfl⟩

theorem witness_frame_norPersistWrite : ∃ (s t : State) (dt : Nat) (c : Instr), ((∃ x0 x1, c = .norPersistWrite dt x0 x1)) ∧ exec c s = .next t :=
  ⟨wReady, _, 0, .norPersistWrite 0 0 false, ⟨_, _, rfl⟩, rfl⟩

theorem witness_frame_logNorCopy : ∃ (s t : State) (dt : Nat) (c : Instr), (c = .logNorCopy dt) ∧ exec c s = .next t :=
  ⟨wReady, _, 0, .logNorCopy 0, rfl, rfl⟩

theorem witness_frame_flkConfig : ∃ (s t : State) (dt : Nat) (c : Instr), ((∃ x0, c = .flkConfig dt x0)) ∧ exec c s = .next t :=
  ⟨wReady, _, 0, .flkConfig 0 (wPkt 0 []), ⟨_, rfl⟩, rfl⟩

theorem witness_frame_flkResync : ∃ (s t : State) (dt : Nat) (c : Instr), ((∃ x0, c = .flkResync dt x0)) ∧ exec c s = .next t :=
  ⟨wReady, _, 0, .flkResync 0 (wPkt 0 []), ⟨_, rfl⟩, rfl⟩

theorem witness_frame_flkHandover : ∃ (s t : State) (dt : Nat) (c : Instr), ((∃ x0, c = .flkHandover dt x0)) ∧ exec c s = .next t :=
  ⟨wReady, _, 0, .flkHandover 0 (wPkt 0 []), ⟨_, rfl⟩, rfl⟩

theorem witness_frame_mirrorApply : ∃ (s t : State) (dt : Nat) (c : Instr), (c = .mirrorApply dt) ∧ exec c s = .next t :=
  ⟨wReady, _, 0, .mirrorApply 0, rfl, rfl⟩

theorem witness_frame_mirrorHoldExpire : ∃ (s t : State) (dt : Nat) (c : Instr), (c = .mirrorHoldExpire dt ∨ c = .ringMirrorResetRx dt) ∧ exec c s = .next t :=
  ⟨wReady, _, 0, .mirrorHoldExpire 0, .inl rfl, rfl⟩

theorem witness_frame_ringHeartbeatSend : ∃ (s t : State) (dt : Nat) (c : Instr), (c = .ringHeartbeatSend dt ∨ c = .ringClaimSend dt) ∧ exec c s = .next t :=
  ⟨wReady, _, 0, .ringHeartbeatSend 0, .inl rfl, rfl⟩

theorem witness_frame_ringHeartbeatRx : ∃ (s t : State) (dt : Nat) (c : Instr), ((∃ x0 x1, c = .ringHeartbeatRx dt x0 x1)) ∧ exec c s = .next t :=
  ⟨wReady, _, 0, .ringHeartbeatRx 0 0 {}, ⟨_, _, rfl⟩, rfl⟩

theorem witness_frame_heartbeatFailure : ∃ (s t : State) (dt : Nat) (c : Instr), (c = .heartbeatFailure dt) ∧ exec c s = .next t :=
  ⟨wReady, _, 0, .heartbeatFailure 0, rfl, rfl⟩

theorem witness_frame_joinWaitExpire : ∃ (s t : State) (dt : Nat) (c : Instr), (c = .joinWaitExpire dt ∨ c = .handoverBoundary dt) ∧ exec c s = .next t :=
  ⟨wReady, _, 0, .joinWaitExpire 0, .inl rfl, rfl⟩

theorem witness_frame_ringClaimRx : ∃ (s t : State) (dt : Nat) (c : Instr), ((∃ x0 x1 x2, c = .ringClaimRx dt x0 x1 x2)) ∧ exec c s = .next t :=
  ⟨wReady, _, 0, .ringClaimRx 0 0 0 0, ⟨_, _, _, rfl⟩, rfl⟩

theorem witness_frame_ringMirrorRx : ∃ (s t : State) (dt : Nat) (c : Instr), ((∃ x0 x1, c = .ringMirrorRx dt x0 x1)) ∧ exec c s = .next t :=
  ⟨wReady, _, 0, .ringMirrorRx 0 0 [], ⟨_, _, rfl⟩, rfl⟩

theorem witness_frame_ringNakRx : ∃ (s t : State) (dt : Nat) (c : Instr), ((∃ x0 x1, c = .ringNakRx dt x0 x1)) ∧ exec c s = .next t :=
  ⟨wReady, _, 0, .ringNakRx 0 0 0, ⟨_, _, rfl⟩, rfl⟩

theorem witness_frame_ringDigestRx : ∃ (s t : State) (dt : Nat) (c : Instr), ((∃ x0 x1 x2, c = .ringDigestRx dt x0 x1 x2)) ∧ exec c s = .next t :=
  ⟨wReady, _, 0, .ringDigestRx 0 0 0 0, ⟨_, _, _, rfl⟩, rfl⟩

theorem witness_frame_ringAlignExchange : ∃ (s t : State) (dt : Nat) (c : Instr), (c = .ringAlignExchange dt) ∧ exec c s = .next t :=
  ⟨wReady, _, 0, .ringAlignExchange 0, rfl, rfl⟩

theorem witness_frame_ringAlignRx : ∃ (s t : State) (dt : Nat) (c : Instr), ((∃ x0 x1 x2 x3 x4, c = .ringAlignRx dt x0 x1 x2 x3 x4)) ∧ exec c s = .next t :=
  ⟨wReady, _, 0, .ringAlignRx 0 0 false 0 0 0, ⟨_, _, _, _, _, rfl⟩, rfl⟩

theorem witness_frame_ringObjxRx : ∃ (s t : State) (dt : Nat) (c : Instr), ((∃ x0 x1, c = .ringObjxRx dt x0 x1)) ∧ exec c s = .next t :=
  ⟨wReady, _, 0, .ringObjxRx 0 0 (wPkt 0 []), ⟨_, _, rfl⟩, rfl⟩

theorem witness_frame_ringResyncRx : ∃ (s t : State) (dt : Nat) (c : Instr), ((∃ x0 x1 x2, c = .ringResyncRx dt x0 x1 x2)) ∧ exec c s = .next t :=
  ⟨wReady, _, 0, .ringResyncRx 0 0 [] 0, ⟨_, _, _, rfl⟩, rfl⟩

theorem witness_frame_ringPortLock : ∃ (s t : State) (dt : Nat) (c : Instr), ((∃ x0, c = .ringPortLock dt x0) ∨ (∃ x0, c = .ringPortUnlock dt x0)) ∧ exec c s = .next t :=
  ⟨wReady, _, 0, .ringPortLock 0 0, .inl ⟨_, rfl⟩, rfl⟩

theorem witness_frame_resyncTimeAligned : ∃ (s t : State) (dt : Nat) (c : Instr), ((∃ x0 x1 x2, c = .resyncTimeAligned dt x0 x1 x2)) ∧ exec c s = .next t :=
  ⟨wReady, _, 0, .resyncTimeAligned 0 0 0 false, ⟨_, _, _, rfl⟩, rfl⟩

theorem witness_frame_resyncImageDone : ∃ (s t : State) (dt : Nat) (c : Instr), (c = .resyncImageDone dt) ∧ exec c s = .next t :=
  ⟨wReady, _, 0, .resyncImageDone 0, rfl, rfl⟩

theorem witness_frame_resyncSnapshot : ∃ (s t : State) (dt : Nat) (c : Instr), (c = .resyncSnapshot dt) ∧ exec c s = .next t :=
  ⟨wReady, _, 0, .resyncSnapshot 0, rfl, rfl⟩

theorem witness_frame_resyncSnapshotDone : ∃ (s t : State) (dt : Nat) (c : Instr), ((∃ x0, c = .resyncSnapshotDone dt x0)) ∧ exec c s = .next t :=
  ⟨wReady, _, 0, .resyncSnapshotDone 0 (⟨[], [], [], [], 0⟩), ⟨_, rfl⟩, rfl⟩

theorem witness_frame_resyncLive : ∃ (s t : State) (dt : Nat) (c : Instr), (c = .resyncLive dt) ∧ exec c s = .next t :=
  ⟨wReady, _, 0, .resyncLive 0, rfl, rfl⟩

theorem witness_frame_resyncLiveDeadline : ∃ (s t : State) (dt : Nat) (c : Instr), (c = .resyncLiveDeadline dt) ∧ exec c s = .next t :=
  ⟨wReady, _, 0, .resyncLiveDeadline 0, rfl, rfl⟩

theorem witness_frame_resyncRetry : ∃ (s t : State) (dt : Nat) (c : Instr), (c = .resyncRetry dt) ∧ exec c s = .next t :=
  ⟨wReady, _, 0, .resyncRetry 0, rfl, rfl⟩

theorem witness_frame_sdMainResult : ∃ (s t : State) (dt : Nat) (c : Instr), ((∃ x0 x1 x2, c = .sdMainResult dt x0 x1 x2)) ∧ exec c s = .next t :=
  ⟨wReady, _, 0, .sdMainResult 0 0 none [], ⟨_, _, _, rfl⟩, rfl⟩

theorem witness_frame_sdInterpResult : ∃ (s t : State) (dt : Nat) (c : Instr), ((∃ x0, c = .sdInterpResult dt x0)) ∧ exec c s = .next t :=
  ⟨wReady, _, 0, .sdInterpResult 0 0, ⟨_, rfl⟩, rfl⟩

theorem witness_frame_sdFastTrip : ∃ (s t : State) (dt : Nat) (c : Instr), ((∃ x0 x1 x2, c = .sdFastTrip dt x0 x1 x2) ∨ (∃ x0, c = .sdStuck dt x0)) ∧ exec c s = .next t :=
  ⟨wReady, _, 0, .sdFastTrip 0 0 [] false, .inl ⟨_, _, _, rfl⟩, rfl⟩

theorem witness_frame_mclkInLost : ∃ (s t : State) (dt : Nat) (c : Instr), (c = .mclkInLost dt) ∧ exec c s = .next t :=
  ⟨wReady, _, 0, .mclkInLost 0, rfl, rfl⟩

theorem witness_frame_mclkInFreqWindow : ∃ (s t : State) (dt : Nat) (c : Instr), ((∃ x0 x1, c = .mclkInFreqWindow dt x0 x1)) ∧ exec c s = .next t :=
  ⟨wReady, _, 0, .mclkInFreqWindow 0 0 false, ⟨_, _, rfl⟩, rfl⟩

theorem witness_frame_mclkInReturn : ∃ (s t : State) (dt : Nat) (c : Instr), (c = .mclkInReturn dt) ∧ exec c s = .next t :=
  ⟨wReady, _, 0, .mclkInReturn 0, rfl, rfl⟩

theorem witness_frame_sdMonitorRecover : ∃ (s t : State) (dt : Nat) (c : Instr), ((∃ x0, c = .sdMonitorRecover dt x0)) ∧ exec c s = .next t :=
  ⟨wReady, _, 0, .sdMonitorRecover 0 0, ⟨_, rfl⟩, rfl⟩

theorem witness_frame_sdMclkDivApply : ∃ (s t : State) (dt : Nat) (c : Instr), ((∃ x0, c = .sdMclkDivApply dt x0)) ∧ exec c s = .next t :=
  ⟨wReady, _, 0, .sdMclkDivApply 0 0, ⟨_, rfl⟩, rfl⟩

theorem witness_frame_auxSampleEnd : ∃ (s t : State) (dt : Nat) (c : Instr), ((∃ x0 x1, c = .auxSampleEnd dt x0 x1) ∨ (∃ x0, c = .auxPowerDown dt x0)) ∧ exec c s = .next t :=
  ⟨wReady, _, 0, .auxSampleEnd 0 0 0, .inl ⟨_, _, rfl⟩, rfl⟩

theorem witness_frame_auxConversionEnd : ∃ (s t : State) (dt : Nat) (c : Instr), ((∃ x0, c = .auxConversionEnd dt x0)) ∧ exec c s = .next t :=
  ⟨wReady, _, 0, .auxConversionEnd 0 0, ⟨_, rfl⟩, rfl⟩

theorem witness_frame_hkSlot : ∃ (s t : State) (dt : Nat) (c : Instr), ((∃ x0, c = .hkSlot dt x0)) ∧ exec c s = .next t :=
  ⟨wReady, _, 0, .hkSlot 0 0, ⟨_, rfl⟩, rfl⟩

theorem witness_frame_hkRoundEnd : ∃ (s t : State) (dt : Nat) (c : Instr), (c = .hkRoundEnd dt) ∧ exec c s = .next t :=
  ⟨wReady, _, 0, .hkRoundEnd 0, rfl, rfl⟩

theorem witness_frame_hkRoundLate : ∃ (s t : State) (dt : Nat) (c : Instr), (c = .hkRoundLate dt) ∧ exec c s = .next t :=
  ⟨wReady, _, 0, .hkRoundLate 0, rfl, rfl⟩

theorem witness_frame_throttleEnforce : ∃ (s t : State) (dt : Nat) (c : Instr), (c = .throttleEnforce dt) ∧ exec c s = .next t :=
  ⟨wReady, _, 0, .throttleEnforce 0, rfl, rfl⟩

theorem witness_frame_thermalStopDeadline : ∃ (s t : State) (dt : Nat) (c : Instr), (c = .thermalStopDeadline dt) ∧ exec c s = .next t :=
  ⟨wReady, _, 0, .thermalStopDeadline 0, rfl, rfl⟩

theorem witness_frame_thermalHoldEntry : ∃ (s t : State) (dt : Nat) (c : Instr), (c = .thermalHoldEntry dt) ∧ exec c s = .next t :=
  ⟨wReady, _, 0, .thermalHoldEntry 0, rfl, rfl⟩

theorem witness_other_sd : ∃ (s t : State) (dt : Nat) (c : Instr) (n : Fin 64) (m : Nat), ((∃ x1 x2, c = .sdFastTrip dt n x1 x2) ∨ (∃ x1 x2, c = .sdMainResult dt n x1 x2) ∨ c = .sdMonitorRecover dt n) ∧ exec c s = .next t ∧ m ≠ n.val :=
  ⟨wReady, _, 0, .sdFastTrip 0 0 [] false, 0, 1, .inl ⟨_, _, rfl⟩, rfl, by decide⟩

theorem witness_other_stuck : ∃ (s t : State) (dt : Nat) (c : SdBits) (m : Nat), exec (.sdStuck dt c) s = .next t ∧ m ≠ c.ch.val :=
  ⟨wReady, _, 0, { ch := 0, stream := [] }, 1, rfl, by decide⟩

theorem witness_other_aux : ∃ (s t : State) (dt : Nat) (c : Instr) (n : Fin 4) (m : Nat), ((∃ x1, c = .auxSampleEnd dt n x1) ∨ c = .auxConversionEnd dt n ∨ c = .auxPowerDown dt n) ∧ exec c s = .next t ∧ m ≠ n.val :=
  ⟨wReady, _, 0, .auxSampleEnd 0 0 0, 0, 1, .inl ⟨_, rfl⟩, rfl, by decide⟩

theorem witness_frame_auxValue : ∃ (s u t : State) (dt : Nat) (k : Fin 4) (c : AuxConv), u = s.elapse dt ∧ (u.auxU k.val).conv = some c ∧
    exec (.auxConversionEnd dt k) s = .next t := ⟨wConv 7, _, _, 0, 1, wConvC 7, rfl, rfl, rfl⟩

theorem witness_frame_encQuadTransition : ∃ (s t : State) (dt : Nat) (c : Instr), ((∃ x0 x1 x2, c = .encQuadTransition dt x0 x1 x2) ∨ (∃ x0 x1, c = .encHallTransition dt x0 x1) ∨ (∃ x0 x1, c = .encIndex dt x0 x1) ∨ (∃ x0 x1 x2, c = .ssiFrameEnd dt x0 x1 x2)) ∧ exec c s = .next t :=
  ⟨wReady, _, 0, .encQuadTransition 0 0 false false, .inl ⟨_, _, _, rfl⟩, rfl⟩

theorem witness_frame_encProbeEdge : ∃ (s t : State) (dt : Nat) (c : Instr), ((∃ x0 x1, c = .encProbeEdge dt x0 x1)) ∧ exec c s = .next t :=
  ⟨wReady, _, 0, .encProbeEdge 0 0 false, ⟨_, _, rfl⟩, rfl⟩

theorem witness_frame_encStandstill : ∃ (s t : State) (dt : Nat) (c : Instr), ((∃ x0, c = .encStandstill dt x0)) ∧ exec c s = .next t :=
  ⟨wReady, _, 0, .encStandstill 0 0, ⟨_, rfl⟩, rfl⟩

theorem witness_frame_encSpeedEval : ∃ (s t : State) (dt : Nat) (c : Instr), ((∃ x0, c = .encSpeedEval dt x0)) ∧ exec c s = .next t :=
  ⟨wReady, _, 0, .encSpeedEval 0 0, ⟨_, rfl⟩, rfl⟩

theorem witness_frame_rallyTimeOccurrence : ∃ (s t : State) (dt : Nat) (c : Instr), ((∃ x0 x1, c = .rallyTimeOccurrence dt x0 x1) ∨ (∃ x0 x1, c = .rallyPwmPhaseOccurrence dt x0 x1) ∨ (∃ x0 x1, c = .rallyAngleOccurrence dt x0 x1)) ∧ exec c s = .next t :=
  ⟨wReady, _, 0, .rallyTimeOccurrence 0 0 0, .inl ⟨_, _, rfl⟩, rfl⟩

theorem witness_frame_tioPulseTrailingEdge : ∃ (s t : State) (dt : Nat) (c : Instr), ((∃ x0, c = .tioPulseTrailingEdge dt x0)) ∧ exec c s = .next t :=
  ⟨wReady, _, 0, .tioPulseTrailingEdge 0 0, ⟨_, rfl⟩, rfl⟩

theorem witness_frame_tioCaptureEdge : ∃ (s t : State) (dt : Nat) (c : Instr), ((∃ x0 x1, c = .tioCaptureEdge dt x0 x1)) ∧ exec c s = .next t :=
  ⟨wReady, _, 0, .tioCaptureEdge 0 0 false, ⟨_, _, rfl⟩, rfl⟩

theorem witness_other_enc : ∃ (s t : State) (dt : Nat) (c : Instr) (n : Fin 8) (m : Nat), ((∃ x1 x2, c = .encQuadTransition dt n x1 x2) ∨ (∃ x1, c = .encHallTransition dt n x1) ∨ (∃ x1, c = .encIndex dt n x1) ∨ (∃ x1 x2, c = .ssiFrameEnd dt n x1 x2) ∨ c = .encStandstill dt n ∨ (∃ x1, c = .encProbeEdge dt n x1) ∨ c = .encSpeedEval dt n) ∧ exec c s = .next t ∧ m ≠ n.val :=
  ⟨wReady, _, 0, .encQuadTransition 0 0 false false, 0, 1, .inl ⟨_, _, rfl⟩, rfl, by decide⟩

theorem witness_other_tio : ∃ (s t : State) (dt : Nat) (c : Instr) (n : Fin 8) (m : Nat), (c = .tioPulseTrailingEdge dt n ∨ (∃ x1, c = .tioCaptureEdge dt n x1)) ∧ exec c s = .next t ∧ m ≠ n.val :=
  ⟨wReady, _, 0, .tioPulseTrailingEdge 0 0, 0, 1, .inl rfl, rfl, by decide⟩

theorem witness_frame_updateIntervalStart : ∃ (s t : State) (dt : Nat) (c : Instr), ((∃ x0, c = .updateIntervalStart dt x0)) ∧ exec c s = .next t :=
  ⟨wReady, _, 0, .updateIntervalStart 0 0, ⟨_, rfl⟩, rfl⟩

theorem witness_frame_modulatorComputeDone : ∃ (s t : State) (dt : Nat) (c : Instr), ((∃ x0, c = .modulatorComputeDone dt x0)) ∧ exec c s = .next t :=
  ⟨wReady, _, 0, .modulatorComputeDone 0 0, ⟨_, rfl⟩, rfl⟩

theorem witness_frame_modulationModeBoundary : ∃ (s t : State) (dt : Nat) (c : Instr), ((∃ x0, c = .modulationModeBoundary dt x0) ∨ (∃ x0, c = .pwmPeriodApply dt x0)) ∧ exec c s = .next t :=
  ⟨wReady, _, 0, .modulationModeBoundary 0 0, .inl ⟨_, rfl⟩, rfl⟩

theorem witness_frame_edgeSend : ∃ (s t : State) (dt : Nat) (c : Instr), ((∃ x0, c = .edgeSend dt x0)) ∧ exec c s = .next t :=
  ⟨wReady, _, 0, .edgeSend 0 0, ⟨_, rfl⟩, rfl⟩

theorem witness_frame_glSyncSend : ∃ (s t : State) (dt : Nat) (c : Instr), ((∃ x0, c = .glSyncSend dt x0)) ∧ exec c s = .next t :=
  ⟨wReady, _, 0, .glSyncSend 0 0, ⟨_, rfl⟩, rfl⟩

theorem witness_frame_glModeSend : ∃ (s t : State) (dt : Nat) (c : Instr), ((∃ x0, c = .glModeSend dt x0)) ∧ exec c s = .next t :=
  ⟨wReady, _, 0, .glModeSend 0 0, ⟨_, rfl⟩, rfl⟩

theorem witness_frame_glStatusRx : ∃ (s t : State) (dt : Nat) (c : Instr), ((∃ x0 x1 x2, c = .glStatusRx dt x0 x1 x2)) ∧ exec c s = .next t :=
  ⟨wReady, _, 0, .glStatusRx 0 0 0 0, ⟨_, _, _, rfl⟩, rfl⟩

theorem witness_frame_glExecRx : ∃ (s t : State) (dt : Nat) (c : Instr), ((∃ x0 x1 x2, c = .glExecRx dt x0 x1 x2) ∨ (∃ x0, c = .glEchoTimeout dt x0)) ∧ exec c s = .next t :=
  ⟨wReady, _, 0, .glExecRx 0 0 0 0, .inl ⟨_, _, _, rfl⟩, rfl⟩

theorem witness_frame_glStatusTimeout : ∃ (s t : State) (dt : Nat) (c : Instr), ((∃ x0, c = .glStatusTimeout dt x0)) ∧ exec c s = .next t :=
  ⟨wReady, _, 0, .glStatusTimeout 0 0, ⟨_, rfl⟩, rfl⟩

theorem witness_other_pwm : ∃ (s t : State) (dt : Nat) (c : Instr) (n : Fin 6) (m : Nat), (c = .updateIntervalStart dt n ∨ c = .modulationModeBoundary dt n ∨ c = .pwmPeriodApply dt n ∨ c = .modulatorComputeDone dt n) ∧ exec c s = .next t ∧ m ≠ n.val :=
  ⟨wReady, _, 0, .updateIntervalStart 0 0, 0, 1, .inl rfl, rfl, by decide⟩

theorem witness_other_gl : ∃ (s t : State) (dt : Nat) (c : Instr) (n : Fin 24) (m : Nat), (c = .glModeSend dt n) ∧ exec c s = .next t ∧ m ≠ n.val :=
  ⟨wReady, _, 0, .glModeSend 0 0, 0, 1, rfl, rfl, by decide⟩

end Sys2Proof.Machine
end

section
/-!
The state after reset. A table of units that lists nothing gives each unit its own reset value, so every unit that is read
through its table is at rest; the registers of the counter lie inside the bounds of R61, R63 and R64.
-/

namespace Sys2Proof.Machine

/-! ## Reading a unit of the device after reset -/

@[simp] theorem State.reset_obj (i : Nat) : State.reset.obj i = objDefault i := bget_nil _ i
@[simp] theorem State.reset_sl (k : Nat) : State.reset.sl k = {} := bget_nil _ k
@[simp] theorem State.reset_ctx (c : Nat) : State.reset.ctx c = {} := bget_nil _ c
@[simp] theorem State.reset_canU (c : Nat) : State.reset.canU c = {} := bget_nil _ c
@[simp] theorem State.reset_ethU (p : Nat) : State.reset.ethU p = {} := bget_nil _ p
@[simp] theorem State.reset_pair (n : Nat) : State.reset.pair n = {} := bget_nil _ n
@[simp] theorem State.reset_sess (n : Nat) : State.reset.sess n = none := bget_nil _ n

/-! ## The invariants -/

/-- INCREMENT 10.0 lies inside the wide band of R64, 9.00 to 11.00. -/
theorem State.incOk_of_inc_eq_ten {s : State} (h : s.time.inc = 10 * 2 ^ 32) : Safety.incOk s := by
  unfold Safety.incOk
  rw [h]
  decide

theorem State.reset_timeOk : Safety.timeOk State.reset :=
  ⟨Nat.two_pow_pos 64, Nat.two_pow_pos 32, State.incOk_of_inc_eq_ten rfl⟩

@[simp] theorem Memory.wf_nil : Memory.wf [] = true := (rfl)

/-- Settles O3: the tables read as their units' reset values, the registers hold the values that reset gives them, and the
invariants follow from these. -/
theorem resetState : Obligations.ResetState := by
  unfold Obligations.ResetState
  have hslices : ∀ k, (State.reset.sl k).st = .disabled := fun k => by rw [State.reset_sl]
  have hpairs : ∀ n, (State.reset.pair n).en = false := fun n => by rw [State.reset_pair]
  have hctxs : ∀ c, (State.reset.ctx c).hdr = 0 := fun c => by rw [State.reset_ctx]
  have hcans : ∀ c, (State.reset.canU c).mode = 0 := fun c => by rw [State.reset_canU]
  have heths : ∀ p, (State.reset.ethU p).on = false := fun p => by rw [State.reset_ethU]
  refine ⟨rfl, rfl, rfl, rfl, rfl, State.reset_obj, hslices, State.reset_sess, hpairs, hctxs, hcans, heths, ?_⟩
  exact ⟨rfl, rfl, rfl, rfl, rfl, rfl, rfl, rfl, rfl, rfl, State.reset_timeOk, Memory.wf_nil, Memory.wf_nil⟩

end Sys2Proof.Machine
end

section
/-!
The clock monitor and the power-cycle request (R13, R38 to R40, R172, R430): what CLOCK_HOLD and a held reset leave, what each
event of the two decides, and O9 put together from them.
-/

namespace Sys2Proof.Machine

open Sys2Proof

section Rules

variable (s : State)

/-! ## What a reset of the main domains keeps and what is gone -/

@[simp] theorem State.domainReset_slices : s.domainReset.slices = [] := (rfl)
@[simp] theorem State.domainReset_time_running : s.domainReset.time.running = false := (rfl)
@[simp] theorem State.domainReset_mu_bypass : s.domainReset.mu.bypass = true := (rfl)

/-- The MU's timer clock runs through a reset of the main domains (R65). -/
@[simp] theorem State.domainReset_muNow : s.domainReset.muNow = s.muNow := by
  change s.lcAbort.time.mu = s.time.mu
  simp only [State.lcAbort_frame]

@[simp] theorem State.domainReset_mu_cause : s.domainReset.mu.cause = s.mu.cause := by
  change s.lcAbort.mu.cause = _
  rw [State.lcAbort_mu]
@[simp] theorem State.domainReset_mu_clkFreq : s.domainReset.mu.clkFreq = s.mu.clkFreq := by
  change s.lcAbort.mu.clkFreq = _
  rw [State.lcAbort_mu]
@[simp] theorem State.domainReset_mu_clkBad : s.domainReset.mu.clkBad = s.mu.clkBad := by
  change s.lcAbort.mu.clkBad = _
  rw [State.lcAbort_mu]

@[simp] theorem State.post_mu (src code unit data : Nat) : (s.post src code unit data).mu = s.mu := by
  simp [State.post_frame]

@[simp] theorem State.post_muNow (src code unit data : Nat) : (s.post src code unit data).muNow = s.muNow := by
  simp [State.muNow, State.post_frame]

/-! ## CLOCK_HOLD (R13) -/

/-- CLOCK_HOLD holds the main domains in reset and keeps what the monitor has measured. -/
theorem State.clockFault_enters (clk : Nat) (stopped : Bool) :
    (s.clockFault clk stopped).mu.phase = .clockHold ∧
    (s.clockFault clk stopped).mu.cause = higherCause s.mu.cause .clockFault ∧
    (s.clockFault clk stopped).mu.clkHoldAt = s.muNow ∧
    (s.clockFault clk stopped).mu.clkFreq = s.mu.clkFreq ∧
    (s.clockFault clk stopped).mu.clkBad = s.mu.clkBad ∧
    (s.clockFault clk stopped).slices = [] ∧
    (s.clockFault clk stopped).time.running = false := by
  unfold State.clockFault
  dsimp only
  simp only [State.setPhase_mu, State.setPhase_frame, State.domainReset_mu_cause, State.domainReset_muNow,
    State.domainReset_mu_clkFreq, State.domainReset_mu_clkBad, State.domainReset_slices, State.domainReset_time_running,
    State.post_mu, State.post_muNow, and_self]

/-- A clock found inside its limits changes the MU's record of it and no phase. -/
theorem State.clkJudge_good (clk : Nat) (stopped : Bool) :
    (s.clkJudge clk false stopped).mu.clkFreq = s.mu.clkFreq ∧
    (s.clkJudge clk false stopped).mu.clkBad = s.mu.clkBad.set clk false ∧
    (s.clkJudge clk false stopped).mu.phase = s.mu.phase := by
  simp [State.clkJudge]

/-- A clock found outside its limits in READY brings CLOCK_HOLD. -/
theorem State.clkJudge_bad (clk : Nat) (stopped : Bool) (h : s.mu.phase = .ready) :
    (s.clkJudge clk true stopped).mu.clkFreq = s.mu.clkFreq ∧
    (s.clkJudge clk true stopped).mu.clkBad = s.mu.clkBad.set clk true ∧
    (s.clkJudge clk true stopped).mu.phase = .clockHold ∧
    (s.clkJudge clk true stopped).mu.cause = higherCause s.mu.cause .clockFault ∧
    (s.clkJudge clk true stopped).mu.clkHoldAt = s.muNow ∧
    (s.clkJudge clk true stopped).slices = [] ∧
    (s.clkJudge clk true stopped).time.running = false := by
  simp [State.clkJudge, h, Phase.up, State.clockFault_enters, State.muNow]

/-- A window whose count differs from nominal by at most 5 % leaves the phase (R172). -/
theorem effClockMonitorWindow_inside (clk : Fin 4) (edges : Nat) (hb : s.mu.booted = true)
    (hw : 20 * (if edges ≤ s.clkNominal clk.val then s.clkNominal clk.val - edges else edges - s.clkNominal clk.val)
      ≤ s.clkNominal clk.val) :
    (effClockMonitorWindow clk edges s).mu.clkFreq = s.mu.clkFreq.set clk.val (f32OfRatio edges 10) ∧
    (effClockMonitorWindow clk edges s).mu.clkBad = s.mu.clkBad.set clk.val false ∧
    (effClockMonitorWindow clk edges s).mu.phase = s.mu.phase := by
  simp only [effClockMonitorWindow, hb, if_true, decide_eq_false (Nat.not_lt.mpr hw), gt_iff_lt]
  exact State.clkJudge_good _ clk.val false

/-- A window whose count differs by more brings CLOCK_HOLD out of READY (R13, R172). -/
theorem effClockMonitorWindow_outside (clk : Fin 4) (edges : Nat) (hb : s.mu.booted = true) (hr : s.mu.phase = .ready)
    (hw : s.clkNominal clk.val
      < 20 * (if edges ≤ s.clkNominal clk.val then s.clkNominal clk.val - edges else edges - s.clkNominal clk.val)) :
    (effClockMonitorWindow clk edges s).mu.clkFreq = s.mu.clkFreq.set clk.val (f32OfRatio edges 10) ∧
    (effClockMonitorWindow clk edges s).mu.clkBad = s.mu.clkBad.set clk.val true ∧
    (effClockMonitorWindow clk edges s).mu.phase = .clockHold ∧
    (effClockMonitorWindow clk edges s).mu.cause = higherCause s.mu.cause .clockFault ∧
    (effClockMonitorWindow clk edges s).mu.clkHoldAt = s.muNow ∧
    (effClockMonitorWindow clk edges s).slices = [] ∧
    (effClockMonitorWindow clk edges s).time.running = false := by
  simp only [effClockMonitorWindow, hb, if_true, decide_eq_true hw, gt_iff_lt]
  exact State.clkJudge_bad _ clk.val false hr

/-- No edge within 1 µs brings CLOCK_HOLD out of READY too. -/
theorem effClockEdgeTimeout_stops (clk : Fin 4) (hb : s.mu.booted = true) (hr : s.mu.phase = .ready) :
    (effClockEdgeTimeout clk s).mu.clkBad = s.mu.clkBad.set clk.val true ∧
    (effClockEdgeTimeout clk s).mu.phase = .clockHold ∧
    (effClockEdgeTimeout clk s).mu.cause = higherCause s.mu.cause .clockFault ∧
    (effClockEdgeTimeout clk s).mu.clkHoldAt = s.muNow ∧
    (effClockEdgeTimeout clk s).slices = [] ∧
    (effClockEdgeTimeout clk s).time.running = false := by
  simp only [effClockEdgeTimeout, hb, if_true]
  exact (State.clkJudge_bad _ clk.val true hr).2

/-- Clocks that have stayed inside their limits for 10 ms are stable from the start of these (R13). -/
theorem effClockStable_notes (hp : s.mu.phase = .clockHold) (hg : s.mu.clkBad.all (fun b => !b) = true)
    (hn : s.mu.clkGoodAt = none) :
    effClockStable s = { s with mu := { s.mu with clkGoodAt := some (s.muNow - 10 * msUnits) } } := by
  simp only [effClockStable, hp, hg, hn, decide_true, Option.isNone_none, Bool.and_self, if_true]

/-! ## Power cycles that the MU decides (R430) -/

/-- Of an hour's decisions the first three request a power cycle. -/
theorem State.decidePwr_requests (h : (s.mu.pwrDecisions.filter fun d => s.muNow ≤ d + 3600 * sUnits).length < 3) :
    s.decidePwr.mu = { s.mu with
      pwrDecisions := s.muNow :: s.mu.pwrDecisions.filter fun d => s.muNow ≤ d + 3600 * sUnits
      pwrcycDue := some s.muNow, pwrcycHost := false } := by
  simp only [State.decidePwr, if_pos h]

/-- CLOCK_HOLD of 100 ms makes the MU decide. -/
theorem effClockHoldTimeout_decides (hp : s.mu.phase = .clockHold) (ht : s.mu.clkHoldAt + 100 * msUnits ≤ s.muNow)
    (hd : s.mu.pwrcycDue = none) (hn : s.mu.pwrcyc = none) : effClockHoldTimeout s = s.decidePwr := by
  simp only [effClockHoldTimeout, hp, hd, hn, ge_iff_le, ht, decide_true, Option.isNone_none, Bool.and_self, if_true]

/-- The running start is counted as failed, with `n` failed starts in a row. -/
def State.failNoted (n : Nat) : State := { s with mu := { s.mu with failSeen := true, failedStarts := n } }

/-- A start in step `n` that has not reached READY by t0 + 2 s is counted once; the second in a row makes the MU decide. -/
theorem effStartFailTimeout_counts (n : Nat) (hp : s.mu.phase = .starting n) (hr : s.mu.reached = false)
    (hf : s.mu.failSeen = false) (ht : s.mu.t0At + 2 * sUnits ≤ s.muNow) (hc : s.readyComes = false) :
    effStartFailTimeout s =
      if s.mu.failedStarts + 1 ≥ 2 then (s.failNoted 0).decidePwr else s.failNoted (s.mu.failedStarts + 1) := by
  unfold effStartFailTimeout
  dsimp only
  refine (if_pos (by simp [hp, hr, hf, hc, ht])).trans ?_
  by_cases h2 : s.mu.failedStarts + 1 ≥ 2
  · simp only [if_pos h2, State.failNoted]
  · simp only [if_neg h2, State.failNoted]

/-! ## The power-cycle request (R38 to R40) -/

/-- PWRCYC_REQ_N goes low at its time, unless a command alone has asked for it and an ASC state is latched (R10). -/
theorem effPwrcycAssert_asserts (at_ : Nat) (hd : s.mu.pwrcycDue = some at_) (ht : at_ ≤ s.muNow)
    (hn : s.mu.pwrcyc = none) (hl : s.mu.pwrcycHost = false ∨ s.resetLocked = false) :
    effPwrcycAssert s = { s.domainReset with
      mu := { s.domainReset.mu with
        pwrcyc := some s.muNow, pwrcycDue := none, pwrcycHost := false, norPwr := true, cause := none, phase := .held }
      hk := { s.domainReset.hk with holdKept := false } } := by
  have hlock : (s.mu.pwrcycHost && s.resetLocked) = false := by
    rcases hl with h | h <;> simp [h]
  simp only [effPwrcycAssert, hd, ht, hn, Bool.and_assoc, hlock, decide_true, Option.isNone_none, Bool.and_false,
    Bool.false_eq_true, if_false, Bool.and_true, if_true, State.domainReset_muNow]

/-- The line is released when every rail has been below its trip for 10 ms (R38). -/
theorem effPwrcycRelease_releases (hp : s.mu.pwrcyc.isSome = true)
    (hr : s.mu.rails.all (fun r => match r.below with | some b => decide (s.muNow ≥ b + 10 * msUnits) | none => false) = true) :
    effPwrcycRelease s = { s with mu := { s.mu with
      pwrcyc := none, norPwr := false, supplyFault := false, cause := higherCause s.mu.cause .powerCycle } } :=
  if_pos (by rw [hp]; exact hr)

/-- A request that the rails have not answered within 1 s ends in a device reset (R40). -/
theorem effPwrcycNoResponse_resets (from_ : Nat) (hp : s.mu.pwrcyc = some from_) (ht : from_ + sUnits ≤ s.muNow)
    (hr : s.mu.rails.all (fun r => r.below.isSome) = false) :
    effPwrcycNoResponse s =
      (({ s with mu := { s.mu with pwrcyc := none, norPwr := false } } : State).post srcMu 0x010B 0xFF 0).devReset .muDecision := by
  simp only [effPwrcycNoResponse, hp, hr, ge_iff_le, ht, decide_true, Bool.not_false, Bool.and_self, if_true]

end Rules

/-- Settles O9: each event of the clock monitor and of the power-cycle request through the lemma that says what it does. -/
theorem clockAndPowerCycleEventsComplete : Obligations.ClockAndPowerCycleEventsComplete := by
  unfold Obligations.ClockAndPowerCycleEventsComplete
  refine ⟨?window, ?windowBad, ?edge, ?stable, ?hold, ?start, ?assert, ?release, ?noResponse⟩
  case window =>
    rintro s _ dt clk edges rfl hb hw
    exact ⟨_, rfl, effClockMonitorWindow_inside _ clk edges hb hw⟩
  case windowBad =>
    rintro s _ dt clk edges rfl hb hr hw
    exact ⟨_, rfl, effClockMonitorWindow_outside _ clk edges hb hr hw⟩
  case edge =>
    rintro s _ dt clk rfl hb hr
    exact ⟨_, rfl, effClockEdgeTimeout_stops _ clk hb hr⟩
  case stable =>
    rintro s _ dt rfl hp hg hn
    refine ⟨_, rfl, ?_⟩
    rw [State.run_mu, effClockStable_notes _ hp hg hn]
    exact ⟨rfl, hp⟩
  case hold =>
    rintro s _ dt rfl hp ht hd hn hl
    refine ⟨_, rfl, ?_⟩
    rw [State.runT_mu, effClockHoldTimeout_decides _ hp ht hd hn, State.decidePwr_requests _ hl]
    exact ⟨rfl, List.mem_cons_self ..⟩
  case start =>
    rintro s _ dt n rfl hp hr hf ht hc
    refine ⟨_, rfl, ?_⟩
    rw [State.runT_mu, effStartFailTimeout_counts _ n hp hr hf ht hc]
    refine ⟨fun h0 => ?_, fun h1 hl => ?_⟩
    · rw [h0]
      exact ⟨rfl, rfl⟩
    · rw [if_pos (Nat.succ_le_succ h1), State.decidePwr_requests ((s.elapse dt).failNoted 0) hl]
      exact ⟨rfl, rfl⟩
  case assert =>
    rintro s _ dt at_ rfl hd ht hn hl
    refine ⟨_, rfl, ?_⟩
    rw [State.runT_mu, State.runT_slices, State.runT_time, effPwrcycAssert_asserts _ at_ hd ht hn hl]
    exact ⟨rfl, rfl, rfl, rfl, rfl, rfl, rfl, rfl⟩
  case release =>
    rintro s _ dt rfl hp hr
    refine ⟨_, rfl, ?_⟩
    rw [State.run_mu, effPwrcycRelease_releases _ hp hr]
    exact ⟨rfl, rfl, rfl⟩
  case noResponse =>
    rintro s _ dt from_ rfl hp ht hr
    refine ⟨_, rfl, ?_⟩
    rw [State.runT_mu, effPwrcycNoResponse_resets _ from_ hp ht hr, State.devReset_mu_pwrcyc, State.devReset_phase,
      State.devReset_mu_cause, State.post_mu]
    exact ⟨rfl, rfl, rfl⟩

end Sys2Proof.Machine
end

section
/-!
What happens to the slices when the Referee faults (R310): the forced states are latched slice by slice, and forcing one slice
keeps what the others' fail-safe states depend on.
-/

namespace Sys2Proof.Machine

open Sys2Proof

/-! ## One unit of a table after a write to it or to another -/

variable (s : State)

@[simp] theorem State.rs_modRs_same (k : Nat) (f : RefSlice → RefSlice) : (s.modRs k f).rs k = f (s.rs k) :=
  bget_bset_same _ _ _ _

theorem State.rs_modRs_other {j k : Nat} (f : RefSlice → RefSlice) (h : j ≠ k) : (s.modRs k f).rs j = s.rs j :=
  bget_bset_other _ _ _ h

theorem State.sl_modSl_other {j k : Nat} (f : Slice → Slice) (h : j ≠ k) : (s.modSl k f).sl j = s.sl j :=
  bget_bset_other _ _ _ h

@[simp] theorem State.obj_setObj_same (i v : Nat) : (s.setObj i v).obj i = v := bget_bset_same _ _ _ _

theorem State.obj_setObj_other {i j : Nat} (v : Nat) (h : j ≠ i) : (s.setObj i v).obj j = s.obj j := bget_bset_other _ _ _ h

theorem State.obj_of_dict {s t : State} (h : t.dict = s.dict) (i : Nat) : t.obj i = s.obj i := by
  simp only [State.obj, h]

theorem State.obj_setField_other {i j : Nat} (hi lo x : Nat) (h : j ≠ i) : (s.setField i hi lo x).obj j = s.obj j :=
  State.obj_setObj_other s _ h

theorem State.obj_putFlag_other {i j : Nat} (k : Nat) (on : Bool) (h : j ≠ i) : (s.putFlag i k on).obj j = s.obj j := by
  cases on
  · exact State.obj_setField_other s _ _ _ h
  · exact State.obj_setField_other (s.noteSet i (2 ^ k)) _ _ _ h

theorem State.obj_logAppend_other (r : LogRec) {j : Nat} (h : j ≠ Obj.MGT_LOG_STAT) : (s.logAppend r).obj j = s.obj j := by
  unfold State.logAppend
  extract_lets r' lost t
  have ht : t.obj j = s.obj j := by
    subst t
    split
    · exact State.obj_setField_other s _ _ _ h
    · rfl
  exact ht

/-- A log record changes no object but MGT_LOG_STAT (R390). -/
theorem State.obj_post_other (src code unit data : Nat) {j : Nat} (h : j ≠ Obj.MGT_LOG_STAT) :
    (s.post src code unit data).obj j = s.obj j := by
  unfold State.post State.postAt
  dsimp only
  have hd : ∀ r : Rec, (((s.trace r).bumpSeq src).obj j) = s.obj j := fun r =>
    State.obj_of_dict (by simp [State.bumpSeq, State.trace_frame]) j
  split
  · split
    · exact hd _
    · exact (State.obj_setField_other _ _ _ _ h).trans (hd _)
  · exact (State.obj_logAppend_other _ _ h).trans (hd _)

/-! ## What a force on one slice keeps of another -/

/-- Slice `j` stands in `t` as in `s`, the Referee's view of it too, and so does every object of the safety range. -/
structure State.SliceKept (j : Nat) (s t : State) : Prop where
  sl : t.sl j = s.sl j
  rs : t.rs j = s.rs j
  safety : ∀ i, 0x10000 ≤ i → i < 0x14000 → t.obj i = s.obj i

namespace State.SliceKept

variable {s} {t v : State} {j k : Nat}

theorem refl : SliceKept j s s := ⟨rfl, rfl, fun _ _ _ => rfl⟩

theorem trans (h : SliceKept j s t) (h' : SliceKept j t v) : SliceKept j s v :=
  ⟨h'.sl.trans h.sl, h'.rs.trans h.rs, fun i a b => (h'.safety i a b).trans (h.safety i a b)⟩

theorem of_parts (hs : t.slices = s.slices) (hr : t.ref.sl = s.ref.sl) (hd : t.dict = s.dict) : SliceKept j s t :=
  ⟨by simp only [State.sl, hs], by simp only [State.rs, hr], fun i _ _ => State.obj_of_dict hd i⟩

theorem ite {c : Prop} [Decidable c] (ht : SliceKept j s t) (hv : SliceKept j s v) : SliceKept j s (if c then t else v) := by
  split
  · exact ht
  · exact hv

theorem modSl (f : Slice → Slice) (h : j ≠ k) : SliceKept j s (s.modSl k f) :=
  ⟨State.sl_modSl_other s f h, rfl, fun _ _ _ => rfl⟩

theorem modRs (f : RefSlice → RefSlice) (h : j ≠ k) : SliceKept j s (s.modRs k f) :=
  ⟨rfl, State.rs_modRs_other s f h, fun _ _ _ => rfl⟩

theorem modGl (l : Nat) (f : Gl → Gl) : SliceKept j s (s.modGl l f) := of_parts rfl rfl rfl

theorem setObj {i : Nat} (x : Nat) (h : i < 0x10000) : SliceKept j s (s.setObj i x) :=
  ⟨rfl, rfl, fun _ ha _ => State.obj_setObj_other s x (by omega)⟩

theorem putFlag {i : Nat} (b : Nat) (on : Bool) (h : i < 0x10000) : SliceKept j s (s.putFlag i b on) :=
  ⟨by simp [State.sl], by simp [State.rs], fun _ ha _ => State.obj_putFlag_other s b on (by omega)⟩

theorem post (src code unit data : Nat) : SliceKept j s (s.post src code unit data) :=
  ⟨by simp [State.sl, State.post_frame], by simp [State.rs, State.post_frame],
    fun i _ hb => State.obj_post_other s src code unit data (by simp only [Obj.MGT_LOG_STAT]; omega)⟩

theorem glSafe (l body : Nat) : SliceKept j s (s.glSafe l body) :=
  of_parts (by simp [State.glSafe_frame]) (by simp [State.glSafe_frame]) (by simp [State.glSafe_frame])

theorem foldl {α : Type} (g : State → α → State) (l : List α) (h : ∀ a ∈ l, ∀ x, SliceKept j x (g x a)) :
    SliceKept j s (l.foldl g s) := by
  induction l generalizing s with
  | nil => exact refl
  | cons a l ih =>
    exact (h a (List.mem_cons_self ..) s).trans (ih fun b hb => h b (List.mem_cons_of_mem _ hb))

theorem linkRefresh {l : Nat} (hl : l < 24) : SliceKept j s (s.linkRefresh l) := by
  have hobj : Obj.GL_STAT + l < 0x10000 := by simp only [Obj.GL_STAT]; omega
  unfold State.linkRefresh
  dsimp only
  split
  · split
    · exact modGl l _
    · exact (((modGl l _).trans (modGl l _)).trans (putFlag 16 true hobj)).trans (glSafe l _)
  · split
    · exact ((modGl l _).trans (modGl l _)).trans (putFlag 16 false hobj)
    · exact modGl l _

theorem linksRefresh (n : Nat) : SliceKept j s (s.linksRefresh n) :=
  foldl _ _ fun _ hl _ => linkRefresh (List.mem_range.mp (List.mem_filter.mp hl).1)

theorem endDischarge (result : Nat) (h : j ≠ k) (hk : k < 6) : SliceKept j s (s.endDischarge k result) := by
  have hobj : slc k Obj.SLC_DIS_RESULT < 0x10000 := by simp only [slc, Obj.SLC_DIS_RESULT]; omega
  unfold State.endDischarge
  split
  · exact ((modSl _ h).trans (setObj _ hobj)).trans (post ..)
  · exact refl

theorem modSl_post_if (c : Prop) [Decidable c] (f : Slice → Slice) (src code unit data : Nat) (h : j ≠ k)
    (ht : SliceKept j s t) : SliceKept j s (if c then (t.modSl k f).post src code unit data else t) :=
  ite (ht.trans ((modSl f h).trans (post ..))) ht

theorem enter (st : SliceState) (h : j ≠ k) : SliceKept j s (s.enter k st) := by
  unfold State.enter
  refine modSl_post_if _ _ _ _ _ _ h ?_
  split
  · exact refl
  · dsimp only
    split
    · exact (modSl _ h).trans (modSl _ h)
    · exact modSl _ h

theorem go (rank : Nat) (st : SliceState) (stop : Option (Nat × Nat)) (h : j ≠ k) : SliceKept j s (s.go k rank st stop) := by
  unfold State.go
  exact ite refl ((modSl _ h).trans (enter st h))

theorem latch (f : Forced) (cause : Nat) (h : j ≠ k) (hk : k < 6) : SliceKept j s (s.latch k f cause) := by
  have hlatched : SliceKept j s (((s.modRs k _).post srcRef 0x0600 k (f.rank + cause * 2 ^ 8)).linksRefresh k) :=
    ((modRs (fun r => { r with forced := some (f, cause), atRest := false, tripAt := some s.clk }) h).trans (post ..)).trans
      (linksRefresh k)
  unfold State.latch
  dsimp only
  split
  · exact hlatched
  · refine trans ?_ (go _ _ _ h)
    split
    · exact hlatched.trans (endDischarge 2 h hk)
    · exact hlatched

theorem request (f : Forced) (cause : Nat) (h : j ≠ k) (hk : k < 6) : SliceKept j s (s.request k f cause) := by
  unfold State.request
  split
  · exact latch f cause h hk
  · split
    · exact (modRs _ h).trans (latch f cause h hk)
    · split
      · exact modRs _ h
      · exact modRs _ h

theorem safeOutDrop : SliceKept j s s.safeOutDrop :=
  of_parts (by simp [State.safeOutDrop_frame]) (by unfold State.safeOutDrop; split <;> rfl) (by simp [State.safeOutDrop_frame])

theorem abortHandover (cause : Nat) : SliceKept j s (s.abortHandover cause) := by
  unfold State.abortHandover
  refine ite (trans ?_ (post ..)) refl
  exact of_parts rfl rfl rfl

end State.SliceKept

/-! ## What a force sets -/

/-- A latched force enters the Referee's record of its slice and nothing else that the Referee holds (R299). -/
theorem State.latch_ref (k : Nat) (f : Forced) (cause : Nat) :
    (s.latch k f cause).ref
      = (s.modRs k fun r => { r with forced := some (f, cause), atRest := false, tripAt := some s.clk }).ref := by
  unfold State.latch
  dsimp only
  split
  · simp [State.linksRefresh_frame, State.post_frame]
  · split <;> simp [State.go_frame, State.endDischarge_frame, State.linksRefresh_frame, State.post_frame]

/-- A request changes the Referee's record of the slices only. -/
theorem State.request_ref (k : Nat) (f : Forced) (cause : Nat) :
    (s.request k f cause).ref = { s.ref with sl := (s.request k f cause).ref.sl } := by
  unfold State.request
  split
  · rw [State.latch_ref]; rfl
  · split
    · rw [State.latch_ref]; rfl
    · split <;> rfl

/-- No slice asks for ASC_HOLD by a force on itself alone: any other force is a request of the one slice (R298). -/
theorem State.force_eq_request (k : Nat) {f : Forced} (cause : Nat) (hf : f ≠ .ascHold) :
    s.force k f cause = (s.request k f cause).safeOutDrop := by
  cases f with
  | pulseBlock => rfl
  | ascFrame => rfl
  | ascHold => exact absurd rfl hf

/-- SAFE_OUT_N can only fall outside an evaluation (R301). -/
theorem State.safeOutDrop_ref : s.safeOutDrop.ref = { s.ref with safeOut := s.ref.safeOut && s.safeOutWant } := by
  unfold State.safeOutDrop
  cases s.safeOutWant <;> simp

theorem State.force_ref (k : Nat) {f : Forced} (cause : Nat) (hf : f ≠ .ascHold) :
    ∃ l b, (s.force k f cause).ref = { s.ref with sl := l, safeOut := s.ref.safeOut && b } := by
  rw [State.force_eq_request s k cause hf, State.safeOutDrop_ref, State.request_ref]
  exact ⟨_, _, rfl⟩

/-- A slice that nothing forces takes the force asked of it. -/
theorem State.force_forced (k : Nat) {f : Forced} (cause : Nat) (hf : f ≠ .ascHold) (hn : (s.rs k).forced = none) :
    ((s.force k f cause).rs k).forced = some (f, cause) := by
  have hr : (s.force k f cause).rs k = (s.latch k f cause).rs k := by
    rw [State.force_eq_request s k cause hf, State.request, hn]
    simp only [State.rs, State.safeOutDrop_ref]
  rw [hr, State.rs, State.latch_ref]
  exact congrArg RefSlice.forced (State.rs_modRs_same s k _)

theorem State.SliceKept.force {s : State} {j k : Nat} {f : Forced} (cause : Nat) (hf : f ≠ .ascHold) (h : j ≠ k) (hk : k < 6) :
    SliceKept j s (s.force k f cause) := by
  rw [State.force_eq_request s k cause hf]
  exact (State.SliceKept.request f cause h hk).trans State.SliceKept.safeOutDrop

/-! ## A Referee fault (R310) -/

/-- The forced state that SAF_REF_FAIL_STATE names for a slice. -/
def State.failState (k : Nat) : Forced := if s.obj (safo k Obj.SAF_REF_FAIL_STATE) = 2 then .ascFrame else .pulseBlock

/-- What a Referee fault asks of one slice. -/
def State.failSafe (k : Nat) : State := if s.enabled k then s.force k (s.failState k) 0x0B else s

theorem State.failState_ne_ascHold (k : Nat) : s.failState k ≠ .ascHold := by
  unfold State.failState
  split <;> simp

/-- The Referee's own record as a fault leaves it, before it forces the slices. -/
def State.refFaulted (cause : Nat) : State :=
  let t := s.abortHandover 2
  let v : State := { t with ref := { t.ref with fault := true, srcLo := false, srcHi := false, safeOut := false } }
  v.post srcRef 0x0602 0xFF cause

/-- A first Referee fault is its own record, then the fail-safe state of each slice. -/
theorem State.refereeFault_eq (cause : Nat) (h : s.ref.fault = false) :
    s.refereeFault cause = (List.range 6).foldl State.failSafe (s.refFaulted cause) := by
  simp only [State.refereeFault, h, Bool.false_eq_true, if_false]
  rfl

theorem State.SliceKept.failSafe {s : State} {j k : Nat} (h : j ≠ k) (hk : k < 6) : SliceKept j s (s.failSafe k) := by
  unfold State.failSafe
  split
  · exact State.SliceKept.force _ (s.failState_ne_ascHold k) h hk
  · exact State.SliceKept.refl

theorem State.SliceKept.refFaulted {s : State} {j : Nat} (cause : Nat) : SliceKept j s (s.refFaulted cause) := by
  refine (State.SliceKept.abortHandover 2).trans (.trans ?_ (.post ..))
  exact .of_parts rfl rfl rfl

/-- The fail-safe states leave the fault, the release sources and SAFE_OUT_N as the fault has set them. -/
theorem State.foldl_failSafe_ref (l : List Nat) :
    ∃ r b, (l.foldl State.failSafe s).ref = { s.ref with sl := r, safeOut := s.ref.safeOut && b } := by
  induction l generalizing s with
  | nil => exact ⟨s.ref.sl, true, by simp⟩
  | cons k l ih =>
    obtain ⟨r, b, h⟩ := ih (s.failSafe k)
    rw [List.foldl_cons, h]
    unfold State.failSafe
    split
    · obtain ⟨r', b', h'⟩ := State.force_ref s k 0x0B (s.failState_ne_ascHold k)
      rw [h']
      exact ⟨r, b' && b, by simp [Bool.and_assoc]⟩
    · exact ⟨r, b, rfl⟩

theorem State.SliceKept.failState {s t : State} {j : Nat} (h : SliceKept j s t) (hj : j < 6) : t.failState j = s.failState j := by
  unfold State.failState
  rw [h.safety _ (by simp only [safo, Obj.SAF_REF_FAIL_STATE]; omega) (by simp only [safo, Obj.SAF_REF_FAIL_STATE]; omega)]

/-- Each enabled slice that nothing forces takes its fail-safe state, whatever the slices before it have taken. -/
theorem State.foldl_failSafe_forced (l : List Nat) (hl : l.Nodup) (h6 : ∀ k ∈ l, k < 6) {j : Nat} (hj : j ∈ l)
    (he : s.enabled j = true) (hn : (s.rs j).forced = none) :
    ((l.foldl State.failSafe s).rs j).forced = some (s.failState j, 0x0B) := by
  induction l generalizing s with
  | nil => cases hj
  | cons k l ih =>
    obtain ⟨hk, hl⟩ := List.nodup_cons.mp hl
    have hk6 : k < 6 := h6 k (List.mem_cons_self ..)
    have hl6 : ∀ k ∈ l, k < 6 := fun k hk => h6 k (List.mem_cons_of_mem _ hk)
    rw [List.foldl_cons]
    by_cases hjk : j = k
    · subst hjk
      have hrest : SliceKept j (s.failSafe j) (l.foldl State.failSafe (s.failSafe j)) :=
        .foldl _ _ fun a ha x => .failSafe (fun e => hk (e ▸ ha)) (hl6 a ha)
      rw [hrest.rs, State.failSafe, if_pos he]
      exact State.force_forced s j 0x0B (s.failState_ne_ascHold j) hn
    · have hkeep : SliceKept j s (s.failSafe k) := .failSafe hjk hk6
      have hjl : j ∈ l := (List.mem_cons.mp hj).resolve_left hjk
      rw [ih (s.failSafe k) hl hl6 hjl (by simpa [State.enabled, hkeep.sl] using he) (by rw [hkeep.rs]; exact hn),
        hkeep.failState (hl6 j hjl)]

/-- What a first fault of the Referee leaves: its own record, and the fail-safe state on every enabled slice (R310). -/
theorem State.refereeFault_failsSafe (cause : Nat) (h : s.ref.fault = false) :
    (s.refereeFault cause).ref.fault = true ∧
    (s.refereeFault cause).ref.srcLo = false ∧
    (s.refereeFault cause).ref.srcHi = false ∧
    (s.refereeFault cause).ref.safeOut = false ∧
    ∀ k < 6, s.enabled k = true → (s.rs k).forced = none →
      ((s.refereeFault cause).rs k).forced = some (s.failState k, 0x0B) := by
  rw [State.refereeFault_eq s cause h]
  have hbase : (s.refFaulted cause).ref = { s.ref with fault := true, srcLo := false, srcHi := false, safeOut := false } := by
    simp [State.refFaulted, State.post_frame, State.abortHandover_frame]
  obtain ⟨r, b, hr⟩ := State.foldl_failSafe_ref (s.refFaulted cause) (List.range 6)
  refine ⟨by rw [hr, hbase], by rw [hr, hbase], by rw [hr, hbase], by rw [hr, hbase]; rfl, fun k hk he hn => ?_⟩
  have hkeep : SliceKept k s (s.refFaulted cause) := .refFaulted cause
  rw [State.foldl_failSafe_forced _ _ List.nodup_range (fun _ => List.mem_range.mp) (List.mem_range.mpr hk)
    (by simpa [State.enabled, hkeep.sl] using he) (by rw [hkeep.rs]; exact hn), hkeep.failState hk]

end Sys2Proof.Machine
end

section
/-!
Lockstep, memory errors and the debug port (R14, R315 to R320, R390): what a mismatch, the end of a restart, an uncorrectable
error of each memory, the MU's return and the debugger do, and O25 put together from them.
-/

namespace Sys2Proof.Machine

open Sys2Proof

section Rules

variable (s : State)

/-! ## A lockstep mismatch (R316, R317) -/

/-- The third mismatch within 1 s escalates, any other restarts the CP. -/
theorem State.cpMismatch_eq :
    s.cpMismatch =
      let t : State := { s.bumpField Obj.SAF_REF_STATUS 31 24 with
        cp := { s.cp with mismatches := (s.now :: s.cp.mismatches).take 3 } }
      if (s.cp.mismatches[1]?).any (fun e => s.now ≤ e + sUnits) then { t with cp := { t.cp with escalate := true } }
      else t.cpRestart := by
  have hthird : ((s.now :: s.cp.mismatches).take 3)[2]? = s.cp.mismatches[1]? := by simp
  unfold State.cpMismatch
  simp only [State.now, State.bumpField_time, State.bumpField_cp] at hthird ⊢
  rw [hthird]
  cases s.cp.mismatches[1]? with
  | none => rfl
  | some e => by_cases he : s.time.ctr ≤ e + sUnits <;> simp [he]

/-- A stamp that lies more than `u` back does not lie within `u`. -/
theorem any_within_of_all_before {o : Option Stamp} {u n : Nat} (h : o.all (fun e => e + u < n) = true) :
    o.any (fun e => n ≤ e + u) = false := by
  cases o with
  | none => rfl
  | some e => simpa using h

theorem State.cpMismatch_restarts (h : (s.cp.mismatches[1]?).all (fun e => e + sUnits < s.now) = true) :
    s.cpMismatch.cp.restarting = true ∧
    s.cpMismatch.cp.restarts = s.cp.restarts + 1 ∧
    s.cpMismatch.cp.mismatches.head? = some s.now ∧
    s.cpMismatch.cp.halted = false := by
  have hlate := any_within_of_all_before h
  rw [State.cpMismatch_eq]
  simp only [hlate, Bool.false_eq_true, if_false, State.cpRestart, List.take_succ_cons, List.head?_cons, and_self]

theorem State.cpMismatch_escalates {e : Stamp} (hm : s.cp.mismatches[1]? = some e) (h : s.now ≤ e + sUnits) :
    s.cpMismatch.cp.escalate = true := by
  rw [State.cpMismatch_eq, hm]
  simp [h]

/-! ## Device events that stay (R111) -/

/-- A choice between two states that agree on a part. -/
theorem ite_agree {β : Type} (f : State → β) {c : Prop} [Decidable c] {a b : State} {v : β} (ha : f a = v) (hb : f b = v) :
    f (if c then a else b) = v := by
  split
  · exact ha
  · exact hb

theorem bit_eq_testBit (v k : Nat) : bit v k = v.testBit k := (Nat.testBit_eq_decide_div_mod_eq ..).symm

theorem bit_or (v w k : Nat) : bit (v ||| w) k = (bit v k || bit w k) := by
  simp only [bit_eq_testBit, Nat.testBit_or]

theorem bit_two_pow (k : Nat) : bit (2 ^ k) k = true := by
  rw [bit_eq_testBit, Nat.testBit_two_pow_self]

/-- Every device event that `s` shows, `t` shows too. -/
def State.EventsKept (s t : State) : Prop := ∀ k, bit s.host.devEvent k = true → bit t.host.devEvent k = true

theorem State.EventsKept.of_eq {s t : State} (h : t.host.devEvent = s.host.devEvent) : EventsKept s t := fun k hk => by
  rw [h]; exact hk

theorem State.EventsKept.refl {s : State} : EventsKept s s := fun _ h => h

theorem State.EventsKept.trans {s t v : State} (h : EventsKept s t) (h' : EventsKept t v) : EventsKept s v :=
  fun k hk => h' k (h k hk)

theorem State.EventsKept.ite {s a b : State} {c : Prop} [Decidable c] (ha : EventsKept s a) (hb : EventsKept s b) :
    EventsKept s (if c then a else b) := by
  split
  · exact ha
  · exact hb

theorem State.EventsKept.foldl {α : Type} (g : State → α → State) (h : ∀ t a, EventsKept t (g t a)) (l : List α) {s : State} :
    EventsKept s (l.foldl g s) := by
  induction l generalizing s with
  | nil => exact .refl
  | cons a l ih => exact (h s a).trans ih

@[simp] theorem State.msix_devEvent (v : Nat) : (s.msix v).host.devEvent = s.host.devEvent := by
  unfold State.msix
  split <;> rfl

theorem State.devEvent_devEvent (k : Nat) : (s.devEvent k).host.devEvent = s.host.devEvent ||| 2 ^ k := by
  simp [State.devEvent]

theorem State.devEvent_shows (k : Nat) : bit (s.devEvent k).host.devEvent k = true := by
  rw [State.devEvent_devEvent, bit_or, bit_two_pow, Bool.or_true]

theorem State.EventsKept.devEvent {s : State} (k : Nat) : EventsKept s (s.devEvent k) := fun j hj => by
  rw [State.devEvent_devEvent, bit_or, hj, Bool.true_or]

@[simp] theorem State.postCq_devEvent (n : Nat) (r : Reply) : (s.postCq n r).host.devEvent = s.host.devEvent :=
  ite_agree (fun t => t.host.devEvent) rfl (State.msix_devEvent _ _)

@[simp] theorem State.toPair_devEvent (n : Nat) (r : Reply) : (s.toPair n r).host.devEvent = s.host.devEvent := by
  unfold State.toPair
  dsimp only
  split
  · rfl
  · split <;> simp [State.setPair]

@[simp] theorem State.ethReply_devEvent (p : Nat) (r : Reply) : (s.ethReply p r).host.devEvent = s.host.devEvent := by
  unfold State.ethReply
  dsimp only
  split
  · rfl
  · split
    · split <;> rfl
    · rfl

@[simp] theorem State.objxReply_devEvent (n : Nat) (r : Reply) : (s.objxReply n r).host.devEvent = s.host.devEvent := by
  simp [State.objxReply, State.ringTx_frame]

/-- A reply adds at most the mailbox's own device event. -/
theorem State.EventsKept.deliver {s : State} (r : Reply) : EventsKept s (s.deliver r) := by
  unfold State.deliver
  cases r.link with
  | pcie n => exact .of_eq (State.toPair_devEvent ..)
  | spi k =>
    dsimp only
    split
    · exact .of_eq (State.toPair_devEvent ..)
    · exact .refl
  | eth p => exact .of_eq (State.ethReply_devEvent ..)
  | can c => exact .of_eq (by simp [State.canReply_frame])
  | mailbox =>
    refine .trans ?_ (.devEvent 4)
    exact .of_eq rfl
  | ring n => exact .of_eq (State.objxReply_devEvent ..)

@[simp] theorem State.storeLive_devEvent (d : Deferred) (r : Reply) : (s.storeLive d r).host.devEvent = s.host.devEvent := by
  unfold State.storeLive State.store
  split
  · split <;> rfl
  · rfl

theorem State.EventsKept.record_if {s t : State} (c : Prop) [Decidable c] (src : Nat) (stamp : Stamp) (body : List Byte)
    (h : EventsKept s t) : EventsKept s (if c then t.record src stamp body else t) :=
  .ite (h.trans (.of_eq (by simp [State.record_frame]))) h

theorem State.EventsKept.completeNow {s : State} (d : Deferred) (status : Nat) (extra : List Byte) :
    EventsKept s (s.completeNow d status extra) := by
  unfold State.completeNow
  change EventsKept s (List.foldl _ _ _)
  refine .trans (.trans (.record_if _ _ _ _ (.trans ?_ (.of_eq (State.storeLive_devEvent ..)))) (.deliver _))
    (.foldl _ (fun _ _ => .deliver _) _)
  refine .ite ?_ .refl
  split <;> exact .of_eq rfl

theorem State.EventsKept.finish {s : State} (d : Deferred) (status : Nat) (extra : List Byte) :
    EventsKept s (s.finish d status extra) := by
  unfold State.finish State.complete
  split
  · exact .of_eq rfl
  · exact .completeNow _ _ _

theorem State.EventsKept.flushHeld {s : State} : EventsKept s s.flushHeld := by
  unfold State.flushHeld
  refine .trans ?_ (.foldl _ (fun _ _ => .finish _ _ _) _)
  exact .of_eq rfl

/-! ## The end of a restart (R318) -/

theorem State.post_ref (src code unit data : Nat) : (s.post src code unit data).ref = s.ref := by
  simp [State.post_frame]

theorem State.ss1Request_compareFault (k cause : Nat) : (s.ss1Request k cause).ref.compareFault = s.ref.compareFault := by
  obtain ⟨l, b, hforce⟩ := State.force_ref s k (f := .pulseBlock) cause (by simp)
  have hblock : (s.force k .pulseBlock cause).ref.compareFault = s.ref.compareFault := by rw [hforce]
  have hramp : (if (s.rs k).forced.isSome then s
      else (s.modRs k fun r => { r with ss1 := some (s.clk, s.ss1Speed k) }).stop k 0 4).ref.compareFault
      = s.ref.compareFault :=
    ite_agree (fun t => t.ref.compareFault) rfl (by simp only [State.stop_frame]; rfl)
  unfold State.ss1Request
  refine ite_agree (fun t => t.ref.compareFault) rfl ?_
  cases (s.sl k).st with
  | running | engaging | stopping => exact hramp
  | _ => exact hblock

theorem State.degrade_compareFault (k row unit : Nat) : (s.degrade k row unit).ref.compareFault = s.ref.compareFault := by
  unfold State.degrade State.degradeBy
  dsimp only
  refine ite_agree (fun t => t.ref.compareFault) rfl (ite_agree (fun t => t.ref.compareFault) ?first ?further)
  case first =>
    have hpost : ∀ (f : RefSlice → RefSlice) (data : Nat),
        ((s.modRs k f).post srcRef 0x0601 k data).ref.compareFault = s.ref.compareFault := fun f data => by
      rw [State.post_ref]; rfl
    exact ite_agree (fun t => t.ref.compareFault) ((State.ss1Request_compareFault ..).trans (hpost _ _)) (hpost _ _)
  case further =>
    exact ite_agree (fun t => t.ref.compareFault) rfl (State.ss1Request_compareFault ..)

/-- The CP as its restart's end leaves it: it runs, CP_RESTARTED is shown, and the replies that waited are formed. -/
def State.cpResumed : State :=
  (({ s with cp := { s.cp with restarting := false, stoppedAt := none } } : State).devEvent 1).flushHeld

theorem State.cpResumed_cp : s.cpResumed.cp = { s.cp with restarting := false, stoppedAt := none } := by
  simp [State.cpResumed, State.flushHeld_frame, State.devEvent_frame]

theorem State.cpResumed_ref : s.cpResumed.ref = s.ref := by
  simp [State.cpResumed, State.flushHeld_frame, State.devEvent_frame]

theorem State.cpResumed_shows : bit s.cpResumed.host.devEvent 1 = true :=
  State.EventsKept.flushHeld 1 (State.devEvent_shows _ 1)

/-- A missed injection degrades an enabled slice (Table 12.6). -/
def State.degradeEnabled (k : Nat) : State := if s.enabled k then s.degrade k 3 0xFF else s

theorem State.degradeEnabled_frame (k : Nat) :
    (s.degradeEnabled k).cp = s.cp ∧ (s.degradeEnabled k).host = s.host ∧
    (s.degradeEnabled k).ref.compareFault = s.ref.compareFault := by
  unfold State.degradeEnabled
  split
  · exact ⟨by simp [State.degrade_frame], by simp [State.degrade_frame], State.degrade_compareFault ..⟩
  · exact ⟨rfl, rfl, rfl⟩

/-- What the end of a restart does, with the comparators' injection found and with it missed. -/
theorem effCpRestartDone_eq (ok : Bool) (h : s.cp.restarting = true) :
    effCpRestartDone ok s = if ok then s.cpResumed else
      (List.range 6).foldl State.degradeEnabled { s.cpResumed with ref := { s.cpResumed.ref with compareFault := true } } := by
  simp only [effCpRestartDone, h, if_true]
  rfl

/-- The CP runs again; an injection that its comparators have missed is the Referee's to show. -/
theorem effCpRestartDone_runs (ok : Bool) (h : s.cp.restarting = true) :
    (effCpRestartDone ok s).cp.restarting = false ∧
    bit (effCpRestartDone ok s).host.devEvent 1 = true ∧
    (effCpRestartDone ok s).ref.compareFault = (s.ref.compareFault || !ok) := by
  rw [effCpRestartDone_eq s ok h]
  cases ok with
  | true =>
    simp only [if_true]
    exact ⟨by rw [State.cpResumed_cp], s.cpResumed_shows, by rw [State.cpResumed_ref]; simp⟩
  | false =>
    simp only [Bool.false_eq_true, if_false]
    have hcp := foldl_keep State.cp State.degradeEnabled fun t k => (t.degradeEnabled_frame k).1
    have hhost := foldl_keep State.host State.degradeEnabled fun t k => (t.degradeEnabled_frame k).2.1
    have hfault := foldl_keep (fun t : State => t.ref.compareFault) State.degradeEnabled fun t k =>
      (t.degradeEnabled_frame k).2.2
    refine ⟨?_, ?_, (hfault _ _).trans (by simp)⟩
    · rw [hcp, State.cpResumed_cp]
    · rw [hhost]
      exact s.cpResumed_shows

/-! ## Uncorrectable errors (R14, Table 1.4) -/

theorem State.ctx_setCtx_same (c : Nat) (v : Ctx) : (s.setCtx c v).ctx c = v := bget_bset_same _ _ _ _

theorem State.canU_setCan_same (c : Nat) (v : Can) : (s.setCan c v).canU c = v := bget_bset_same _ _ _ _

/-- A context whose memory fails drops its evaluations and its repeats (R205, R211). -/
theorem State.ctxFault_memory (c : Nat) (hh : (s.ctx c).hdr ≠ 0) (hf : (s.ctx c).fault = false) :
    ((s.ctxFault c 2).ctx c).fault = true ∧ ((s.ctxFault c 2).ctx c).evals = [] ∧ ((s.ctxFault c 2).ctx c).repeats = [] := by
  have hctx : (s.ctxFault c 2).ctx c
      = { (s.ctx c).settled s.now with fault := true, evals := [], repeats := [] } := by
    simp only [State.ctxFault, hf, hh, Bool.false_or, decide_false, Bool.false_eq_true, if_false]
    unfold State.ctx
    simp only [State.ctxReact_frame, State.post_frame]
    exact State.ctx_setCtx_same _ c _
  rw [hctx]
  exact ⟨rfl, rfl, rfl⟩

theorem eraseIdx_between {α : Type} {l r : List α} {x : α} {n : Nat} (h : l.length = n) :
    (l ++ x :: r).eraseIdx n = l ++ r := by
  rw [← h, List.eraseIdx_append_of_length_le (Nat.le_refl _), Nat.sub_self, List.eraseIdx_cons_zero]

/-- A receive queue loses the entry that fails, and counts it as a drop. -/
theorem State.canMemError_rx (detail : Nat) {l r : List CanRx} {x : CanRx} (h2 : bit detail 2 = false) (h3 : bit detail 3 = false)
    (hq : bget [] (s.canU (bits detail 1 0)).rx (bits detail 6 4) = l ++ x :: r) (hl : l.length = detail / 256) :
    bget [] ((s.canMemError detail).canU (bits detail 1 0)).rx (bits detail 6 4) = l ++ r ∧
    (s.canMemError detail).obj (Obj.CAN_RX_DROPS + bits detail 1 0)
      = min 0xFFFFFFFF (s.obj (Obj.CAN_RX_DROPS + bits detail 1 0) + 1) := by
  have hlen : ¬ (l ++ x :: r).length ≤ detail / 256 := by simp [hl]
  simp only [State.canMemError, h2, h3, hq, hlen, Bool.false_eq_true, if_false]
  constructor
  · simp only [State.canU, State.bump_can]
    rw [eraseIdx_between hl]
    exact (congrArg (fun u : Can => bget [] u.rx _) (State.canU_setCan_same s _ _)).trans (bget_bset_same ..)
  · exact State.obj_setObj_same _ _ _

/-- A transmit queue loses the entry that fails; the diagnostics count it. -/
theorem State.canMemError_tx (detail : Nat) {l r : List CanTx} {x : CanTx} (h2 : bit detail 2 = false) (h3 : bit detail 3 = true)
    (h7 : bit detail 7 = false) (hq : bget [] (s.canU (bits detail 1 0)).tx (bits detail 5 4) = l ++ x :: r)
    (hl : l.length = detail / 256) :
    bget [] ((s.canMemError detail).canU (bits detail 1 0)).tx (bits detail 5 4) = l ++ r ∧
    bget 0 (s.canMemError detail).dia.canLost (bits detail 1 0) = bget 0 s.dia.canLost (bits detail 1 0) + 1 := by
  have hlen : ¬ (l ++ x :: r).length ≤ detail / 256 := by simp [hl]
  simp only [State.canMemError, h2, h3, h7, hq, hlen, Bool.false_eq_true, if_false, if_true]
  rw [eraseIdx_between hl]
  exact ⟨(congrArg (fun u : Can => bget [] u.tx _) (State.canU_setCan_same s _ _)).trans (bget_bset_same ..), bget_bset_same ..⟩

/-- A fence sets its bit of DIA_FENCE, and pre-emption keeps it (R425). -/
theorem State.fence_fenced (k : Nat) : (s.fence k).fenced k = true := by
  have hf : (s.fence k).dia.fence = s.dia.fence ||| 2 ^ k := by
    unfold State.fence
    dsimp only
    split <;> rfl
  rw [State.fenced, hf, bit_or, bit_two_pow, Bool.or_true]

theorem State.canMemError_filter (detail : Nat) (h2 : bit detail 2 = true) :
    (s.canMemError detail).fenced (8 + bits detail 1 0) = true := by
  simp only [State.canMemError, h2, if_true]
  exact State.fence_fenced s _

/-- A trace slot whose memory fails is among those marked corrupt. -/
theorem State.traceBad_marks (detail : Nat) :
    (effEccUncorrectable .trace detail s).dia.traceBad.contains (detail % 16384) = true := by
  by_cases h : s.dia.traceBad.contains (detail % 16384) = true
  · simp only [effEccUncorrectable, h, if_true]
  · simp only [effEccUncorrectable, h, Bool.false_eq_true, if_false]
    simp

theorem bfind_bdel_same {α : Type} (m : Bank α) (k : Nat) : bfind (bdel m k) k = none := by
  induction m with
  | nil => rfl
  | cons e m ih =>
    obtain ⟨j, v⟩ := e
    by_cases h : j = k
    · simpa [bdel, h] using ih
    · simpa [bdel, bfind, h, Ne.symm h] using ih

/-- A VOLATILE object has no persistent copy (Table 1.4). -/
theorem State.persisted_volatile {x : Desc} (i : Nat) (hper : x.per = 0) : s.persisted x i = none := by
  simp [State.persisted, hper]

/-- A cache entry without a persistent copy returns to its default, which the dictionary does not list. -/
theorem State.cacheError_volatile (i : Nat) {x : Desc} (hd : descOf i = some x) (hp : s.persisted x i = none) :
    bfind (s.cacheError i).dict.vals i = none := by
  have hp' : ∀ l, State.persisted (({ s with dict := { s.dict with dirty := l } } : State).jot 14 i) x i = none := fun _ => hp
  simp only [State.cacheError, hd, hp']
  exact bfind_bdel_same _ i

/-- A cache entry with a persistent copy is reloaded from it. -/
theorem State.cacheError_reloads (i : Nat) {x : Desc} {y : Nat} (hd : descOf i = some x) (hp : s.persisted x i = some y) :
    (s.cacheError i).obj i = maskVal i y := by
  have hp' : ∀ l, State.persisted (({ s with dict := { s.dict with dirty := l } } : State).jot 14 i) x i = some y := fun _ => hp
  simp only [State.cacheError, hd, hp']
  exact State.obj_setObj_same _ _ _

/-! ## The MU is back (R390) -/

theorem State.logAppend_log (r : LogRec) :
    (s.logAppend r).log = { s.log with
      next := (s.log.next + 1) % 2 ^ 32, ring := ({ r with num := s.log.next } :: s.log.ring).take 8192 } := by
  unfold State.logAppend
  simp [State.ite_frame]

/-- A record posted while the MU runs is appended to the log. -/
theorem State.post_log (src code unit data : Nat) (h : s.mu.restarting = false) :
    (s.post src code unit data).log.next = (s.log.next + 1) % 2 ^ 32 ∧
    (s.post src code unit data).log.cpBuf = s.log.cpBuf ∧
    (s.post src code unit data).log.cpDrops = s.log.cpDrops := by
  simp [State.post, State.postAt, State.trace_frame, h, State.logAppend_log]

/-- Records that are handed over one after the other: each takes the next number, and what the CP holds is as before. -/
theorem State.foldl_logAppend_log (l : List LogRec) :
    (s.log.next < 2 ^ 32 → (l.foldl State.logAppend s).log.next = (s.log.next + l.length) % 2 ^ 32) ∧
    (l.foldl State.logAppend s).log.cpBuf = s.log.cpBuf ∧
    (l.foldl State.logAppend s).log.cpDrops = s.log.cpDrops := by
  induction l generalizing s with
  | nil => exact ⟨fun h => (Nat.mod_eq_of_lt h).symm, rfl, rfl⟩
  | cons r l ih =>
    obtain ⟨hn, hb, hd⟩ := ih (s.logAppend r)
    rw [State.logAppend_log] at hn hb hd
    refine ⟨fun _ => ?_, hb, hd⟩
    rw [List.foldl_cons, hn (Nat.mod_lt _ (by decide)), List.length_cons]
    dsimp only
    omega

/-- The MU runs again and its housekeeping round begins anew; the CP's records are still to be appended. -/
def State.muFresh : State :=
  { s with
    mu := { s.mu with restarting := false }
    log := { s.log with cpBuf := [] }
    hk := { s.hk with slot := 0, vals := [], lateSeen := false, roundDeadline := s.muNow + msUnits } }

/-- The MU with the records that the CP has held, oldest first. -/
def State.muHanded : State := s.log.cpBuf.reverse.foldl State.logAppend s.muFresh

theorem State.muHanded_mu : s.muHanded.mu = { s.mu with restarting := false } :=
  foldl_keep State.mu _ (fun t r => by simp [State.logAppend_frame]) _ _

theorem State.muHanded_hk :
    s.muHanded.hk = { s.hk with slot := 0, vals := [], lateSeen := false, roundDeadline := s.muNow + msUnits } :=
  foldl_keep State.hk _ (fun t r => by simp [State.logAppend_frame]) _ _

theorem State.muHanded_log :
    (s.log.next < 2 ^ 32 → s.muHanded.log.next = (s.log.next + s.log.cpBuf.length) % 2 ^ 32) ∧
    s.muHanded.log.cpBuf = [] ∧ s.muHanded.log.cpDrops = s.log.cpDrops := by
  have h := State.foldl_logAppend_log s.muFresh s.log.cpBuf.reverse
  rw [List.length_reverse] at h
  exact h

/-- The records that the CP could not hold are counted in one of the MU's own (R390). -/
theorem effMuRestartDone_eq (h : s.mu.restarting = true) :
    effMuRestartDone s =
      if s.log.cpDrops = 0 then s.muHanded
      else ({ s.muHanded with log := { s.muHanded.log with cpDrops := 0 } } : State).post srcMu 0x0930 0xFF
        (min 0xFFFFFFFF s.log.cpDrops) := by
  obtain ⟨-, -, hd⟩ := s.muHanded_log
  rw [← hd]
  simp only [effMuRestartDone, h, if_true]
  rfl

/-- The MU runs, and the CP has handed over what it held. -/
theorem effMuRestartDone_runs (h : s.mu.restarting = true) :
    (effMuRestartDone s).mu.restarting = false ∧
    (effMuRestartDone s).log.cpBuf = [] ∧
    (effMuRestartDone s).log.cpDrops = 0 ∧
    (effMuRestartDone s).hk.slot = 0 ∧
    (effMuRestartDone s).hk.roundDeadline = s.muNow + msUnits ∧
    (s.log.next < 2 ^ 32 → (effMuRestartDone s).log.next
      = (s.log.next + s.log.cpBuf.length + (if s.log.cpDrops = 0 then 0 else 1)) % 2 ^ 32) := by
  obtain ⟨hn, hb, hd⟩ := s.muHanded_log
  rw [effMuRestartDone_eq s h]
  by_cases h0 : s.log.cpDrops = 0
  · rw [if_pos h0, if_pos h0, s.muHanded_mu, s.muHanded_hk]
    exact ⟨rfl, hb, hd.trans h0, rfl, rfl, hn⟩
  · rw [if_neg h0, if_neg h0]
    obtain ⟨pn, pb, pd⟩ := State.post_log { s.muHanded with log := { s.muHanded.log with cpDrops := 0 } }
      srcMu 0x0930 0xFF (min 0xFFFFFFFF s.log.cpDrops) (by rw [s.muHanded_mu])
    refine ⟨by simp [s.muHanded_mu], pb.trans hb, pd, by simp [State.post_frame, s.muHanded_hk],
      by simp [State.post_frame, s.muHanded_hk], fun hlt => ?_⟩
    rw [pn, hn hlt]
    omega

theorem State.mbxPkt_of_host {s t : State} (h : t.host = s.host) : t.mbxPkt = s.mbxPkt := by
  simp only [State.mbxPkt, h]

/-- A request that waits in the mailbox is served when the MU is back (R114). -/
theorem effMuBack_eq :
    effMuBack s = if s.mu.restarting && s.host.mbxBusy then (effMuRestartDone s).muRun (effMuRestartDone s).mbxPkt
      else effMuRestartDone s := (rfl)

/-- A resumed CP forms the replies that have waited, which changes nothing of its own state (R320). -/
theorem effDebugResume_cp (h : s.debugOk = true) :
    (effDebugResume s).cp = { s.cp with halted := false, stoppedAt := none } := by
  simp only [effDebugResume, h, if_true, State.flushHeld_frame]

end Rules

/-- Settles O25: each event of lockstep, of a memory error and of the debug port through the lemma that says what it does. -/
theorem lockstepMemoryAndDebugEventsComplete : Obligations.LockstepMemoryAndDebugEventsComplete := by
  unfold Obligations.LockstepMemoryAndDebugEventsComplete
  refine ⟨?mismatch, ?third, ?restartDone, ?checkpoint, ?corrected, ?cp, ?crucible, ?canRx, ?canTx, ?canFilter, ?trace, ?mu,
    ?referee, ?volatileObject, ?keptObject, ?muBack, ?muBackBusy, ?halt, ?resume, ?write⟩
  case mismatch =>
    rintro s _ dt rfl hup hm
    have he : effCpLockstepMismatch (s.elapse dt) = (s.elapse dt).cpMismatch := if_pos hup
    refine ⟨_, rfl, ?_⟩
    rw [State.run_cp, he]
    exact State.cpMismatch_restarts _ hm
  case third =>
    rintro s _ dt e rfl hup hm hle
    have he : effCpLockstepMismatch (s.elapse dt) = (s.elapse dt).cpMismatch := if_pos hup
    refine ⟨_, rfl, ?_⟩
    rw [State.run_cp, he]
    exact State.cpMismatch_escalates _ hm hle
  case restartDone =>
    rintro s _ dt ok rfl h
    exact ⟨_, rfl, effCpRestartDone_runs _ ok h⟩
  case checkpoint =>
    rintro s _ dt rfl hup hr
    exact ⟨_, rfl, congrArg State.cp (if_pos (by rw [hup, hr]; rfl) : effCpCheckpoint (s.elapse dt) = _)⟩
  case corrected =>
    rintro s _ dt o rfl
    exact ⟨_, rfl, bget_bset_same ..⟩
  case cp =>
    rintro s _ dt detail rfl hup hm
    have he : effEccUncorrectable .cp detail (s.elapse dt) = (s.elapse dt).cpMismatch := if_pos hup
    obtain ⟨hr, hn, -, -⟩ := State.cpMismatch_restarts _ hm
    refine ⟨_, rfl, ?_⟩
    rw [State.run_cp, he]
    exact ⟨hr, hn⟩
  case crucible =>
    rintro s _ dt detail rfl hlt hh hf
    refine ⟨_, rfl, ?_⟩
    have h := State.ctxFault_memory _ detail hh hf
    have he : effEccUncorrectable .crucible detail (s.elapse dt) = (s.elapse dt).ctxFault detail 2 := by
      simp only [effEccUncorrectable, Nat.mod_eq_of_lt hlt]
    rw [← he] at h
    exact h
  case canRx =>
    rintro s _ dt detail l r x rfl h2 h3 hq hl
    exact ⟨_, rfl, State.canMemError_rx _ detail h2 h3 hq hl⟩
  case canTx =>
    rintro s _ dt detail l r x rfl h2 h3 h7 hq hl
    exact ⟨_, rfl, State.canMemError_tx _ detail h2 h3 h7 hq hl⟩
  case canFilter =>
    rintro s _ dt detail rfl h2 -
    exact ⟨_, rfl, State.canMemError_filter _ detail h2⟩
  case trace =>
    rintro s _ dt detail rfl
    exact ⟨_, rfl, State.traceBad_marks _ _⟩
  case mu =>
    rintro s _ dt detail rfl
    exact ⟨_, rfl, rfl⟩
  case referee =>
    rintro s _ dt detail rfl hr hf
    refine ⟨_, rfl, ?_⟩
    have h := State.refereeFault_failsSafe _ 4 hf
    have he : effEccUncorrectable .referee detail (s.elapse dt) = (s.elapse dt).refereeFault 4 := if_pos hr
    rw [← he] at h
    exact h
  case volatileObject =>
    rintro s _ dt detail x rfl hd hper
    exact ⟨_, rfl, State.cacheError_volatile _ detail hd (State.persisted_volatile _ detail hper)⟩
  case keptObject =>
    rintro s _ dt detail y x rfl hd hp
    exact ⟨_, rfl, State.cacheError_reloads _ detail hd hp⟩
  case muBack =>
    rintro s _ dt rfl hr hb
    have he : effMuBack (s.elapse dt) = effMuRestartDone (s.elapse dt) := by
      simp only [effMuBack_eq, hb, Bool.and_false, Bool.false_eq_true, if_false]
    refine ⟨_, rfl, ?_⟩
    rw [State.run_mu, State.run_log, State.run_hk, he]
    exact effMuRestartDone_runs _ hr
  case muBackBusy =>
    rintro s _ dt rfl hr hb
    refine ⟨_, rfl, effMuRestartDone (s.elapse dt), ?_⟩
    obtain ⟨hmu, hbuf, hdrops, -, -, -⟩ := effMuRestartDone_runs _ hr
    have hhost : (effMuRestartDone (s.elapse dt)).host = (s.elapse dt).host := by simp [effMuRestartDone_frame]
    have he : effMuBack (s.elapse dt) = (effMuRestartDone (s.elapse dt)).muRun (effMuRestartDone (s.elapse dt)).mbxPkt := by
      simp only [effMuBack_eq, hr, hb, Bool.and_self, if_true]
    exact ⟨hmu, hbuf, hdrops, State.mbxPkt_of_host hhost, by rw [← he]; rfl⟩
  case halt =>
    rintro s _ dt rfl h
    exact ⟨_, rfl, congrArg State.cp (if_pos h : effDebugHalt (s.elapse dt) = _)⟩
  case resume =>
    rintro s _ dt rfl h
    exact ⟨_, rfl, effDebugResume_cp _ h⟩
  case write =>
    rintro s _ dt addr x rfl h hh
    have he : effDebugWrite addr x true (s.elapse dt) = _ := (if_pos (by rw [h, hh]; rfl)).trans (if_pos rfl)
    exact ⟨_, rfl, congrArg State.cp he⟩

end Sys2Proof.Machine
end

section
/-!
Supplies, reset and by-pass (R20 to R23, R31, R32, R37, R42, R47, R49, R50): what each event does where it has an effect, and
what the balls show once the main domains are held in reset (R24).
-/

namespace Sys2Proof.Machine

open Sys2Proof

section SupplyRules

variable (s : State)

/-! ## What a reset of the main domains keeps of the non-volatile contents (R49) -/

@[simp] theorem State.domainReset_mu_cfgA : s.domainReset.mu.cfgA = s.mu.cfgA := by
  change s.lcAbort.mu.cfgA = _
  rw [State.lcAbort_mu]
@[simp] theorem State.domainReset_mu_cfgB : s.domainReset.mu.cfgB = s.mu.cfgB := by
  change s.lcAbort.mu.cfgB = _
  rw [State.lcAbort_mu]
@[simp] theorem State.domainReset_mu_otpRollback : s.domainReset.mu.otpRollback = s.mu.otpRollback := by
  change s.lcAbort.mu.otpRollback = _
  rw [State.lcAbort_mu]
@[simp] theorem State.domainReset_mu_lcWords : s.domainReset.mu.lcWords = s.lcAbort.mu.lcWords := (rfl)

@[simp] theorem State.domainReset_dict_nor : s.domainReset.dict.nor = s.dict.nor := by
  simp [State.domainReset, State.lcAbort_frame]
@[simp] theorem State.domainReset_dict_safe : s.domainReset.dict.safe = s.dict.safe := by
  simp [State.domainReset, State.lcAbort_frame]

@[simp] theorem State.domainReset_log_nor : s.domainReset.log.nor = s.log.nor := by
  simp [State.domainReset, State.lcAbort_frame]

/-! ## VSTBY (R23, R42, R49) -/

/-- COLD_START outranks every other cause (R50). -/
theorem higherCause_coldStart (a : Option ResetCause) : higherCause a .coldStart = some .coldStart := by
  cases a with
  | none => rfl
  | some x => cases x <;> rfl

theorem effVstbyInRange_boots (h : s.mu.vstby = false) :
    effVstbyInRange s = { s with mu := { s.mu with
      vstby := true, vstbyAt := s.muNow, booted := false, cold := true, cause := some .coldStart } } := by
  rw [← higherCause_coldStart s.mu.cause]
  exact if_neg (ne_true_of_eq_false h)

/-- The standby boot rebuilds the log and the state of PWRCYC_REQ_N from the NOR. -/
theorem effStandbyBootDone_rebuilds (hv : s.mu.vstby = true) (hb : s.mu.booted = false) :
    (effStandbyBootDone s).mu = { s.mu with
      booted := true, phase := .held, bootKept := false, pwrStop := false
      pwrcyc := if s.mu.norPwr then some s.muNow else none } ∧
    (effStandbyBootDone s).log.ring = s.log.nor.take 8192 ∧
    (effStandbyBootDone s).log.norDone = (effStandbyBootDone s).log.next := by
  simp only [effStandbyBootDone, hv, hb, Bool.not_false, Bool.and_self, if_true, and_self]

/-- With VSTBY out the device is unpowered: the SRAM's log is lost, what NOR and OTP hold stays. -/
theorem effVstbyTrip_unpowers (h : s.mu.vstby = true) :
    (effVstbyTrip s).mu.vstby = false ∧ (effVstbyTrip s).mu.phase = .unpowered ∧
    (effVstbyTrip s).log.ring = [] ∧ (effVstbyTrip s).log.nor = s.log.nor ∧
    (effVstbyTrip s).slices = [] ∧ (effVstbyTrip s).eng = {} ∧ (effVstbyTrip s).host.sessions = [] ∧
    (effVstbyTrip s).time.running = false ∧
    (effVstbyTrip s).mu.cfgA = s.mu.cfgA ∧ (effVstbyTrip s).mu.cfgB = s.mu.cfgB ∧
    (effVstbyTrip s).mu.lcWords = s.lcAbort.mu.lcWords ∧ (effVstbyTrip s).mu.otpRollback = s.mu.otpRollback ∧
    (effVstbyTrip s).dict.nor = s.dict.nor ∧ (effVstbyTrip s).dict.safe = s.dict.safe := by
  have he : effVstbyTrip s = _ := if_pos h
  rw [he]
  exact ⟨rfl, rfl, rfl, s.domainReset_log_nor, rfl, rfl, rfl, rfl, s.domainReset_mu_cfgA, s.domainReset_mu_cfgB, rfl,
    s.domainReset_mu_otpRollback, s.domainReset_dict_nor, s.domainReset_dict_safe⟩

/-! ## The main rails (R21 to R23) -/

/-- Whatever else a rail that reaches its range brings (a log record, its place among the early rails), it counts as in range
from now on. -/
theorem effMainRailInRange_notes (rail : Fin 5) :
    (effMainRailInRange rail s).mu.rails = s.mu.rails.set rail.val { inRange := true, below := none } ∧
    (effMainRailInRange rail s).mu.railsAt = s.muNow := by
  unfold effMainRailInRange
  dsimp only
  split
  · exact ⟨rfl, rfl⟩
  · split
    · rw [State.post_mu]
      exact ⟨rfl, rfl⟩
    · exact ⟨rfl, rfl⟩

/-- The MU's record of a main rail that crosses a trip, the upper one where `high`. -/
def State.railTripped (rail : Fin 5) (high : Bool) : State := { s with mu := { s.mu with
  rails := s.mu.rails.set rail.val
    { inRange := false, below := if high then (s.mu.rails[rail.val]?.getD {}).below else some s.muNow }
  extClock := if high then s.mu.extClock else none } }

/-- The device reset of a trip, after the record of it (R23). -/
def State.tripReset (rail : Fin 5) (high : Bool) : State :=
  ((s.railTripped rail high).post srcMu 0x0108 rail.val (if high then 1 else 0)).devReset .supplyFault

/-- A trip in a running device is that device reset, and SUPPLY_FAULT stands. -/
theorem effSupplyFault_resets (rail : Fin 5) (high : Bool) (h : s.mu.phase.up = true) :
    effSupplyFault rail high s =
      { s.tripReset rail high with mu := { (s.tripReset rail high).mu with supplyFault := true } } := by
  cases high <;> exact if_pos h

theorem State.tripReset_mu_rails (rail : Fin 5) (high : Bool) : (s.tripReset rail high).mu.rails =
    s.mu.rails.set rail.val
      { inRange := false, below := if high then (s.mu.rails[rail.val]?.getD {}).below else some s.muNow } := by
  rw [State.tripReset, State.devReset_mu_rails, State.post_mu, State.railTripped]

theorem State.tripReset_mu_cause (rail : Fin 5) (high : Bool) :
    (s.tripReset rail high).mu.cause = higherCause s.mu.cause .supplyFault := by
  rw [State.tripReset, State.devReset_mu_cause, State.post_mu, State.railTripped]

theorem effSupplyRestart_clears (hf : s.mu.supplyFault = true) (hr : s.railsOk = true) (hn : s.mu.resetN = true)
    (ht : s.mu.railsAt + msUnits ≤ s.muNow) :
    effSupplyRestart s = { s with mu := { s.mu with supplyFault := false } } := by
  simp only [effSupplyRestart, hf, hr, hn, ge_iff_le, ht, decide_true, Bool.and_self, if_true]

/-! ## RESET_N and the device reset (R47, R49) -/

theorem effResetNLow_resets (hu : s.mu.phase.up = true) (hc : s.mu.phase ≠ .clockHold) :
    effResetNLow s = ({ s with mu := { s.mu with resetN := false } } : State).devReset .resetN :=
  if_pos (by simp [hu, hc])

/-- The bank of the next start, changed where SYS_RESET was asked to change it (R406). -/
def State.bankChosen (act : Bool) : State := if act then s.selectBank (1 - s.mu.active) else s

theorem State.bankChosen_mu (act : Bool) :
    (s.bankChosen act).mu = { s.mu with active := if act then 1 - s.mu.active else s.mu.active } := by
  cases act with
  | false => rfl
  | true => exact State.post_mu ..

/-- What SYS_RESET does before the reset itself: the bank, the end of a stop of power cycles (R430), and the record of a
THERMAL_HOLD that it meets. -/
def State.beforeSysReset (act : Bool) : State :=
  let v : State := { s.bankChosen act with mu := { (s.bankChosen act).mu with pwrStop := false } }
  if v.mu.phase = .thermalHold then v.post srcMu 0x0904 0xFF 0 else v

theorem State.beforeSysReset_mu (act : Bool) : (s.beforeSysReset act).mu =
    { s.mu with active := if act then 1 - s.mu.active else s.mu.active, pwrStop := false } := by
  rw [State.beforeSysReset, apply_ite State.mu, State.post_mu, ite_self, State.bankChosen_mu]

/-- SYS_RESET that falls due with no ASC state latched resets the device. -/
theorem effDeviceReset_sysReset (at_ : Nat) (act : Bool) (hd : s.mu.resetDue = some (at_, act)) (ht : at_ ≤ s.muNow)
    (hp : s.mu.phase ≠ .unpowered) (hl : s.resetLocked = false) :
    effDeviceReset .sysReset s = (s.beforeSysReset act).devReset .sysReset := by
  simp only [effDeviceReset, hd]
  rw [if_neg (by simp [hl]), if_pos (by simp [ht, hp])]
  rfl

theorem effDeviceReset_cpEscalation (h : s.cp.escalate = true) :
    effDeviceReset .cpEscalation s = s.devReset .cpEscalation := if_pos h

theorem effDeviceReset_muDecision (hb : s.mu.booted = true) (hc : s.mu.phase ≠ .clockHold) :
    effDeviceReset .muDecision s = s.devReset .muDecision := if_pos (by simp [hb, hc])

/-! ## The by-pass and the reference clock (R32, R37) -/

theorem effBypassOpen_opens (hr : s.mu.phase = .ready) (hb : s.mu.bypass = true) (hla : s.ring.lockA = true)
    (hlb : s.ring.lockB = true) (hf : s.fenced 48 = false) (hm : s.mu.restarting = false)
    (ht : s.mu.readyAt + 50 * usUnits ≤ s.muNow) :
    effBypassOpen s = { s with
      mu := { s.mu with bypass := false }
      flk := { s.flk with joinDeadline := some (s.clk + bits (s.obj Obj.FLK_CFG) 79 64 * msUnits) } } :=
  if_pos (by simp [State.isReady, hr, hb, hla, hlb, hf, hm, ht])

theorem effXtalDetect_chooses (edges : Nat) (hb : s.mu.booted = true) (hr : s.railsOk = true)
    (hx : s.mu.extClock = none) :
    (effXtalDetect edges s).mu = { s.mu with extClock := some (decide (2475 ≤ edges ∧ edges ≤ 2525)) } := by
  simp only [effXtalDetect, hb, hr, hx, Option.isNone_none, Bool.and_self, if_true, State.jot_frame]

/-! ## The balls while the main domains are held (R24, Table 2.3) -/

/-- A device that is held in reset has every ball of the main domains in reset, or unpowered with its rail. -/
theorem State.column_held {s : State} (h : s.mu.phase = .held) {b : Ball} (hp : b ≠ .pwrcycReq) (ho : b ≠ .ospi) :
    s.column b = if s.railOff b.rail = true then .unpowered else .inReset := by
  have hheld : s.ballsHeld b = true := by simp [State.ballsHeld, h, Phase.up]
  simp [State.column, hp, ho, hheld]

/-- Outside the column before configuration Table 2.3 says all of a ball. -/
theorem State.ball_eq_table23 {s : State} {b : Ball} (h : s.column b ≠ .beforeConfig) :
    s.ball b = table23 b (s.column b) := by
  unfold State.ball
  split
  · rename_i hc
    exact absurd hc h
  · rfl

theorem State.ball_held {s : State} (h : s.mu.phase = .held) {b : Ball} (hp : b ≠ .pwrcycReq) (ho : b ≠ .ospi) :
    s.ball b = table23 b (if s.railOff b.rail = true then .unpowered else .inReset) := by
  rw [← State.column_held h hp ho]
  refine State.ball_eq_table23 ?_
  rw [State.column_held h hp ho]
  split <;> decide

/-- One state in reset and another without supply: a held ball shows the one, or the other with its rail off. -/
theorem State.ball_held_or {s : State} (h : s.mu.phase = .held) {b : Ball} (hp : b ≠ .pwrcycReq) (ho : b ≠ .ospi) :
    s.ball b = table23 b .inReset ∨ (s.railOff b.rail = true ∧ s.ball b = table23 b .unpowered) := by
  rw [State.ball_held h hp ho]
  cases hr : s.railOff b.rail with
  | false => exact .inl rfl
  | true => exact .inr ⟨rfl, rfl⟩

/-- A ball that Table 2.3 gives one state in reset and without supply shows that state while the device is held. -/
theorem State.ball_held_same {s : State} (h : s.mu.phase = .held) {b : Ball} {x : BallState} (hp : b ≠ .pwrcycReq)
    (ho : b ≠ .ospi) (hi : table23 b .inReset = x) (hu : table23 b .unpowered = x) : s.ball b = x := by
  obtain hb | ⟨-, hb⟩ := State.ball_held_or h hp ho
  · rw [hb, hi]
  · rw [hb, hu]

end SupplyRules

/-- Settles O8: each event of the supplies, of reset and of the by-pass through the lemma that says what it does. Causes of
several MU cycles combine as log entry 12 has it, and a life-cycle word in programming ends as entry 49 has it. -/
theorem supplyAndResetEventsComplete : Obligations.SupplyAndResetEventsComplete := by
  unfold Obligations.SupplyAndResetEventsComplete
  refine ⟨?vstbyIn, ?boot, ?vstbyTrip, ?railIn, ?fault, ?restart, ?resetLow, ?resetRelease, ?sysReset, ?escalation,
    ?muDecision, ?bypass, ?xtal⟩
  case vstbyIn =>
    rintro s _ dt rfl h
    refine ⟨_, rfl, ?_⟩
    rw [State.runT_mu, effVstbyInRange_boots _ h]
    exact ⟨rfl, rfl, rfl, rfl, rfl⟩
  case boot =>
    rintro s _ dt rfl hv hb
    refine ⟨_, rfl, ?_⟩
    obtain ⟨hmu, hring, hdone⟩ := effStandbyBootDone_rebuilds _ hv hb
    rw [State.run_mu, State.run_log, hmu]
    exact ⟨rfl, rfl, rfl, hring, hdone, rfl⟩
  case vstbyTrip =>
    rintro s _ dt rfl h
    exact ⟨_, rfl, effVstbyTrip_unpowers _ h⟩
  case railIn =>
    rintro s _ dt rail rfl
    exact ⟨_, rfl, effMainRailInRange_notes _ rail⟩
  case fault =>
    rintro s _ dt rail high rfl h
    refine ⟨_, rfl, ?_⟩
    rw [State.runT_mu, State.runT_slices, State.runT_host, State.runT_time, effSupplyFault_resets _ rail high h]
    exact ⟨rfl, State.tripReset_mu_rails _ rail high, State.tripReset_mu_cause _ rail high, rfl, rfl, rfl, rfl, rfl⟩
  case restart =>
    rintro s _ dt rfl hf hr hn ht
    refine ⟨_, rfl, ?_⟩
    rw [State.run_mu, effSupplyRestart_clears _ hf hr hn ht]
  case resetLow =>
    rintro s _ dt rfl hu hc
    refine ⟨_, rfl, ?_⟩
    rw [State.runT_mu, State.runT_slices, State.runT_time, effResetNLow_resets _ hu hc]
    exact ⟨State.devReset_mu_resetN _ _, State.devReset_mu_cause _ _, rfl, rfl, rfl⟩
  case resetRelease =>
    rintro s _ dt rfl
    exact ⟨_, rfl, rfl⟩
  case sysReset =>
    rintro s _ dt at_ act rfl hd ht hp hl
    refine ⟨_, rfl, ?_⟩
    rw [State.runT_mu, State.runT_slices, State.runT_host, effDeviceReset_sysReset _ at_ act hd ht hp hl,
      State.devReset_mu_cause, State.devReset_mu_active, State.devReset_mu_pwrStop, State.beforeSysReset_mu]
    exact ⟨rfl, rfl, rfl, rfl, rfl, rfl, rfl⟩
  case escalation =>
    rintro s _ dt rfl h
    refine ⟨_, rfl, ?_⟩
    rw [State.runT_mu, State.runT_cp, State.runT_slices, effDeviceReset_cpEscalation _ h]
    exact ⟨rfl, rfl, rfl, rfl⟩
  case muDecision =>
    rintro s _ dt rfl hb hc
    refine ⟨_, rfl, ?_⟩
    rw [State.runT_mu, State.runT_slices, effDeviceReset_muDecision _ hb hc]
    exact ⟨rfl, rfl, rfl⟩
  case bypass =>
    rintro s _ dt rfl hr hb hla hlb hf hm ht
    refine ⟨_, rfl, ?_⟩
    rw [State.run_mu, State.run_flk, effBypassOpen_opens _ hr hb hla hlb hf hm ht]
    exact ⟨rfl, rfl⟩
  case xtal =>
    rintro s _ dt edges rfl hb hr hx
    refine ⟨_, rfl, ?_⟩
    rw [State.run_mu, effXtalDetect_chooses _ edges hb hr hx]

/-- Settles O60: the trip leaves the device held in reset, and Table 2.3 says what each ball shows then. -/
theorem aSupplyFaultPutsTheBallsInReset : Obligations.ASupplyFaultPutsTheBallsInReset := by
  unfold Obligations.ASupplyFaultPutsTheBallsInReset
  rintro s _ dt rail high rfl h
  refine ⟨_, rfl, ?_⟩
  have hheld : (s.runT dt (effSupplyFault rail high)).mu.phase = .held := by
    rw [State.runT_mu, effSupplyFault_resets _ rail high h]
    rfl
  refine ⟨fun b => State.ball_held hheld, ?glTx, ?hold, ?spiMiso, ?dbgTdo, ?canTx, ?mclkOut, ?safeOut, ?ringPort, ?pcie⟩
  case glTx => exact fun l => State.ball_held_same hheld nofun nofun rfl rfl
  case hold => exact fun g => State.ball_held_same hheld nofun nofun rfl rfl
  case spiMiso => exact State.ball_held_same hheld nofun nofun rfl rfl
  case dbgTdo => exact State.ball_held_same hheld nofun nofun rfl rfl
  case canTx => exact fun c => State.ball_held_or hheld (b := .canTx c) nofun nofun
  case mclkOut => exact fun g => State.ball_held_or hheld (b := .mclkOut g) nofun nofun
  case safeOut => exact State.ball_held_or hheld (b := .safeOut) nofun nofun
  case ringPort => exact State.ball_held_same hheld nofun nofun rfl rfl
  case pcie => exact State.ball_held_or hheld (b := .pcie) nofun nofun

end Sys2Proof.Machine
end

section
/-!
The start from t0 to READY (R42 to R46, R51, R52, R400, R402, R407): where each event that ends a step of Table 3.1 leads, and
O10 put together from these.
-/

namespace Sys2Proof.Machine

open Sys2Proof

section StartRules

variable (s : State)

/-! ## t0 (R42, R51, R52) -/

/-- A start raises the retained boot counter by one (R51); of the rest of the MU it writes the counter's slots only. -/
theorem State.countBoot_counts : ∃ n a b,
    s.countBoot.mu = { s.mu with boot := n, bootKept := true, slotA := a, slotB := b } ∧
    (s.mu.bootKept = true → n = min 0xFFFFFFFF (s.mu.boot + 1)) := by
  unfold State.countBoot
  cases hk : s.mu.bootKept with
  | true => exact ⟨_, _, _, rfl, fun _ => rfl⟩
  | false =>
    dsimp only
    split
    · exact ⟨_, _, _, rfl, nofun⟩
    · exact ⟨_, _, _, rfl, nofun⟩

/-- t0 of a device that no escalation and no thermal hold keeps back (R42, R51, R52): step 1 begins, the counter runs from its
seed, and the cause of the start is the one that had led to the reset. -/
theorem effDeviceStart_begins {c : ResetCause} (hp : s.mu.phase = .held) (hb : s.mu.booted = true)
    (hv : s.mu.vstby = true) (hr : s.railsOk = true) (hn : s.mu.resetN = true) (hf : s.mu.refOk = true)
    (hs : s.mu.supplyFault = false) (hy : s.mu.pwrcyc = none) (hc : s.mu.cause = some c) (he : c ≠ .cpEscalation)
    (ht : s.mu.pwrStop = false) (hh : s.hk.holdKept = false) :
    (effDeviceStart s).mu = { s.countBoot.mu with
      t0 := s.tick, t0At := s.muNow, startCause := some c, cause := none, cold := false, prevEsc := false, reached := false
      failSeen := false, lc := lcOf s.mu.lcWords, anchorUse := anchorOf s.mu.anchors, earlyRails := [], phase := .starting 1 } ∧
    (effDeviceStart s).time = {
      ctr := (effDeviceStart s).time.ctr, running := true, mu := s.time.mu } ∧
    (s.mu.cold = false →
      (effDeviceStart s).time.ctr = (s.tl.lastLatch + (s.muNow - s.tl.latchAt) + 2 ^ 32) % 2 ^ 64) := by
  obtain ⟨n, a, b, hm, -⟩ := s.countBoot_counts
  unfold effDeviceStart
  rw [if_pos (by simp [hp, hb, hv, hr, hn, hf, hs, hy, hc])]
  dsimp only
  refine ⟨?mu, ?time, ?seed⟩
  case mu =>
    simp [hm, hc, he, ht, hh, State.ite_frame, State.setPhase_mu, State.post_frame, State.muNow, State.countBoot_frame]
  case time =>
    simp [hm, hc, he, ht, hh, State.ite_frame, State.setPhase_frame, State.post_frame, State.countBoot_frame]
  case seed =>
    intro hcold
    simp [hm, hc, he, ht, hh, hcold, State.ite_frame, State.setPhase_frame, State.post_frame, State.muNow, State.countBoot_frame]

/-! ## Steps 1 to 4 (R45, R46, R396, R400, R402, R407) -/

/-- A step that ends with its last act a change of phase leaves the device in that phase. -/
theorem State.setPhase_phase (p : Phase) : (s.setPhase p).mu.phase = p := by
  rw [State.setPhase_mu]

/-- Step 1 fails on a NOR too small, on an OTP that fails its check, and at end of life (R45, R53, R400). -/
theorem effRomStartDone_phase (otpOk : Bool) (norKiB : Nat) (h : s.mu.phase = .starting 1) :
    (effRomStartDone otpOk norKiB s).mu.phase =
      if norKiB < 155648 ∨ otpOk = false ∨ s.mu.lc = 4 then .recovery else .starting 2 := by
  by_cases hn : norKiB < 155648
  · simp [effRomStartDone, h, hn, State.toRecovery, State.setPhase_phase]
  · cases otpOk with
    | false => simp [effRomStartDone, h, hn, State.toRecovery, State.setPhase_phase]
    | true =>
      by_cases hl : s.mu.lc = 4
      · simp [effRomStartDone, h, hn, hl, State.toRecovery, State.setPhase_phase]
      · simp [effRomStartDone, h, hn, hl, State.toStep, State.setPhase_phase]

/-- The ingot of a bank runs: step 3 begins, the bank is the active one, and its generations are the device's own. -/
theorem State.runBank_mu (b : Nat) : (s.runBank b).mu =
    { s.mu with active := b, ownGens := (s.mu.banks.getD b {}).gens, phase := .starting 3 } :=
  State.setPhase_mu _ _

/-- The selected bank passes its checks and runs. -/
theorem effBootIngotVerified_selected (bankA bankB : BankRead) (hp : s.mu.phase = .starting 2)
    (h : s.bankCheck s.mu.active (if s.mu.active = 0 then bankA else bankB) = 0) :
    effBootIngotVerified bankA bankB s =
      (s.bankSeen s.mu.active (if s.mu.active = 0 then bankA else bankB)).runBank s.mu.active := by
  simp only [effBootIngotVerified, hp, h, ne_eq, not_true_eq_false, if_false, if_true]

/-- What one bank has shown does not count for another. -/
theorem State.bankCheck_bankSeen_other {b o : Nat} (r x : BankRead) (h : o ≠ b) :
    (s.bankSeen b r).bankCheck o x = s.bankCheck o x := by
  simp [State.bankCheck, State.bankSeen, State.setBank, List.getD_eq_getElem?_getD, List.getElem?_set_ne h.symm]

/-- The selected bank fails and the other one passes: it runs in its place (R407). -/
theorem effBootIngotVerified_other (bankA bankB : BankRead) (hp : s.mu.phase = .starting 2) (hb : s.mu.active < 2)
    (h : s.bankCheck s.mu.active (if s.mu.active = 0 then bankA else bankB) ≠ 0)
    (ho : s.bankCheck (1 - s.mu.active) (if 1 - s.mu.active = 0 then bankA else bankB) = 0) :
    ∃ t : State, effBootIngotVerified bankA bankB s = t.runBank (1 - s.mu.active) := by
  have hne : 1 - s.mu.active ≠ s.mu.active := by omega
  simp only [effBootIngotVerified, hp, h, State.bankCheck_bankSeen_other s _ _ hne, ho, ne_eq, not_true_eq_false, if_false,
    if_true]
  exact ⟨_, rfl⟩

/-- Step 3 ends in RECOVERY where the CP failed, else in step 4 (R45, R46). -/
theorem effStartupBistDone_phase (r : BistResult) (h : s.mu.phase = .starting 3) :
    (effStartupBistDone r s).mu.phase = if r.cpFail = true then .recovery else .starting 4 := by
  cases hc : r.cpFail with
  | true => simp [effStartupBistDone, h, hc, State.toRecovery, State.setPhase_phase]
  | false => simp [effStartupBistDone, h, hc, State.toStep, State.setPhase_phase]

/-- Step 4 ends with the configuration applied. -/
theorem effConfigLoaded_applies (a b : Option CfgImage) (bind : Option Binding) (h : s.mu.phase = .starting 4) :
    (effConfigLoaded a b bind s).mu.phase = .starting 5 ∧ (effConfigLoaded a b bind s).mu.cfgApplied = true := by
  simp [effConfigLoaded, h, State.toStep, State.setPhase_mu]

/-! ## READY (R44) -/

/-- The first READY of an ingot raises the anti-rollback counter (R407); the MU's record of the start stays as it was. -/
theorem State.rollbackAdvance_start :
    s.rollbackAdvance.mu.phase = s.mu.phase ∧ s.rollbackAdvance.mu.reached = s.mu.reached ∧
    s.rollbackAdvance.mu.readyAt = s.mu.readyAt ∧ s.rollbackAdvance.mu.failedStarts = s.mu.failedStarts := by
  unfold State.rollbackAdvance
  dsimp only
  split
  · rw [State.post_mu]
    exact ⟨rfl, rfl, rfl, rfl⟩
  · exact ⟨rfl, rfl, rfl, rfl⟩

/-- READY counts the start as one that succeeded, from this tick on. -/
theorem effReady_enters (hp : s.mu.phase = .starting 5) (hr : s.cp.restarting = false) :
    (effReady s).mu.phase = .ready ∧ (effReady s).mu.reached = true ∧ (effReady s).mu.readyAt = s.muNow ∧
    (effReady s).mu.failedStarts = 0 := by
  unfold effReady
  rw [if_neg (by simp [hp, hr])]
  dsimp only
  simp only [State.ite_frame, State.thermRequest_frame, ite_self, State.rollbackAdvance_start, State.post_mu,
    State.startUnits_frame, State.startReferee_frame, State.setPhase_mu, State.setObj_mu, State.loadNets_frame,
    State.loadReject_frame, and_self]

end StartRules

/-- Settles O10: each event of the start through the lemma that says where it leads. -/
theorem startReachesReadyStepByStep : Obligations.StartReachesReadyStepByStep := by
  unfold Obligations.StartReachesReadyStepByStep
  refine ⟨?start, ?rom, ?selected, ?other, ?bist, ?config, ?ready⟩
  case start =>
    rintro s _ dt c rfl hp hb hv hr hn hf hs hy hc he ht hh
    refine ⟨_, rfl, ?_⟩
    obtain ⟨hmu, htime, hseed⟩ := effDeviceStart_begins (s.elapse dt) hp hb hv hr hn hf hs hy hc he ht hh
    obtain ⟨n, a, b, hboot, hcount⟩ := (s.elapse dt).countBoot_counts
    rw [State.runT_mu, State.runT_time, hmu, hboot, htime]
    refine ⟨rfl, rfl, rfl, rfl, rfl, rfl, rfl, rfl, rfl, fun hcold => ?_, hcount, rfl⟩
    exact (congrArg (· % 2 ^ 64) (hseed hcold)).trans (Nat.mod_mod _ _)
  case rom =>
    rintro s _ dt otpOk norKiB rfl hp
    refine ⟨_, rfl, ?_⟩
    rw [State.run_mu, effRomStartDone_phase _ otpOk norKiB hp]
    refine ⟨fun hs => if_pos (.inl hs), fun hs ho hl => if_neg ?_, fun hs hf => if_pos (.inr hf)⟩
    rintro (h | h | h)
    · omega
    · exact absurd (ho.symm.trans h) nofun
    · exact hl h
  case selected =>
    rintro s _ dt bankA bankB rfl hp h
    refine ⟨_, rfl, ?_⟩
    rw [State.run_mu, effBootIngotVerified_selected _ bankA bankB hp h, State.runBank_mu]
    exact ⟨rfl, rfl, rfl⟩
  case other =>
    rintro s _ dt bankA bankB rfl hp hb h ho
    refine ⟨_, rfl, ?_⟩
    obtain ⟨t, ht⟩ := effBootIngotVerified_other _ bankA bankB hp hb h ho
    rw [State.run_mu, ht, State.runBank_mu]
    exact ⟨rfl, rfl⟩
  case bist =>
    rintro s _ dt r rfl hp
    refine ⟨_, rfl, ?_⟩
    rw [State.run_mu, effStartupBistDone_phase _ r hp]
    exact ⟨fun h => if_pos h, fun h => if_neg (ne_true_of_eq_false h)⟩
  case config =>
    rintro s _ dt a b bind rfl hp
    exact ⟨_, rfl, effConfigLoaded_applies _ a b bind hp⟩
  case ready =>
    rintro s _ dt rfl hp hr
    exact ⟨_, rfl, effReady_enters _ hp hr⟩

end Sys2Proof.Machine
end

section
/-!
A fresh start of an interface keeps the FILT that was in force before its latest change, for a transition that is still in the
filter (R177). Re-initialising the interface and enabling it by a write are such starts; the clauses of O15 and O16 on them
have a decoder that has forgotten that FILT, so both fail.
-/

namespace Sys2Proof.Machine

open Sys2Proof

/-! ## What a command leaves of an interface's filter -/

/-- FILT of interface `n` before its latest change, with the tick of that change, after a command. -/
def filtAfter (c : Instr) (s : State) (n : Nat) : Option (Nat × Nat) :=
  match exec c s with
  | .next t => some (t.encU n).filtOld
  | _ => none

/-- A completion leaves the interfaces as the opcode has left them. -/
theorem filtAfter_done {c : Instr} {s u v : State} {d : Deferred} {st : Nat} {ex : List Byte} (n : Nat)
    (h : exec c s = .next (Safety.done s u v d st ex)) : filtAfter c s n = some (v.encU n).filtOld := by
  simp only [filtAfter, h, State.encU, Safety.done, State.complete_frame]

/-- The state in which the opcode of an admitted packet begins, with a test that this state passes. -/
theorem admitted_of_any (u : State) (p : Pkt) (f : State → Bool)
    (h : (Safety.admitted u p).any (fun e => f e.1) = true) : ∃ w d, Safety.admitted u p = some (w, d) ∧ f w = true := by
  obtain ⟨⟨w, d⟩, he, hf⟩ := Option.any_eq_true _ _ |>.mp h
  exact ⟨w, d, he, hf⟩

/-! ## Two packets for interface 1 -/

/-- READY, with a CONFIGURE session on PCIe, one entry of queue pair 4 to take, and interface 1 as given. -/
def filtDevice (e : Enc) : State :=
  { mu := { phase := .ready }
    host := { sessions := [(0, some { level := 2, link := .pcie 4 })], pairs := [(4, { en := true, depth := 4, owned := 1 })] }
    enc := [(1, e)] }

/-- A sealed packet of that session. -/
def filtPkt (op : BitVec 16) (b : List Byte) : Pkt :=
  Pkt.sealed { opcode := op, session := 0, len := BitVec.ofNat 16 b.length, payload := b }

/-- SYS_FUNC_REINIT of interface 1. -/
def filtReinit : Pkt := filtPkt 0x0011 [4, 1, 0, 0]

/-- ENC_CFG_1 with EN set and FILT 5, every other field as its default, whose FILT is 4. -/
def filtRec : ObjRec := { idx := Obj.ENC_CFG + 1, ty := 0x50, len := 16, data := 0x9C14001403E800000000040000000000 }

/-- OBJ_WRITE of that value. -/
def filtWrite : Pkt := filtPkt 0x1001 (recBytes filtRec.idx filtRec.ty filtRec.len 0 filtRec.data)

/-! ## The two statements -/

/-- Refutes O15, by its clause on class 4: interface 1 had FILT 7 up to tick 3, and the re-initialisation keeps that. -/
theorem not_systemOpcodesComplete : ¬ Obligations.SystemOpcodesComplete := by
  unfold Obligations.SystemOpcodesComplete
  rintro ⟨-, -, -, -, -, -, -, -, -, -, -, -, -, -, hreinit, -⟩
  obtain ⟨w, d, hw, hfree⟩ := admitted_of_any ((filtDevice { filtOld := (7, 3) }).elapse 0)
    ((filtReinit.asRow 0x0011).withSel 0 4) (fun w => !w.fenced 17 && decide (6 ≤ w.encOwner 1)) (by decide +kernel)
  simp only [Bool.and_eq_true, Bool.not_eq_true', decide_eq_true_eq] at hfree
  obtain ⟨hfence, howner⟩ := hfree
  obtain ⟨v, hv, hfresh⟩ := hreinit (filtDevice { filtOld := (7, 3) }) _ w 0 filtReinit _ d 1 rfl rfl hw
    (by decide +kernel) (by decide +kernel) (by decide +kernel) (by decide) hfence (.inl howner)
  have hkept : filtAfter (.sysFuncReinitEncoder 0 filtReinit) (filtDevice { filtOld := (7, 3) }) 1 = some (7, 3) := by
    decide +kernel
  have hlost : (v.encU 1).filtOld = (0, 0) := congrArg Enc.filtOld hfresh
  rw [filtAfter_done 1 hv, hlost] at hkept
  exact absurd hkept (by decide)

/-- Refutes O16, by its clause on ENC_CFG_n: the write that enables interface 1 on tick 0 changes FILT from 4 to 5, and the
start keeps the 4. -/
theorem not_objectOpcodesComplete : ¬ Obligations.ObjectOpcodesComplete := by
  unfold Obligations.ObjectOpcodesComplete
  rintro ⟨-, -, -, -, -, -, -, -, -, hwrite, -⟩
  obtain ⟨w, d, hw, hcheck⟩ := admitted_of_any ((filtDevice {}).elapse 0)
    ((filtWrite.asRow 0x1001).withIdx (Obj.ENC_CFG + 1))
    (fun w => w.recCheck ((filtWrite.asRow 0x1001).withIdx (Obj.ENC_CFG + 1)) filtWrite.payload 0 = stOk
      && !bit (w.obj (Obj.ENC_CFG + 1)) 127) (by decide +kernel)
  simp only [Bool.and_eq_true, Bool.not_eq_true', decide_eq_true_eq] at hcheck
  obtain ⟨hok, hoff⟩ := hcheck
  obtain ⟨v, hv, -, hfresh⟩ := hwrite (filtDevice {}) _ w 0 filtWrite _ d 1 filtRec rfl rfl hw
    (by decide +kernel) hok (by decide +kernel) rfl
  have hkept : filtAfter (.encCfgWrite 0 1 filtWrite) (filtDevice {}) 1 = some (4, 0) := by decide +kernel
  have hlost : (v.encU 1).filtOld = (0, 0) := congrArg Enc.filtOld (hfresh (by decide +kernel) hoff)
  rw [filtAfter_done 1 hv, hlost] at hkept
  exact absurd hkept (by decide)

end Sys2Proof.Machine
end

section
/-!
What a command row does before its opcode's own effect: the checks of Table 5.2 in their order, the replay window (R97 to R100)
and the rule of SQ0 (R109). O7, O55 and O54 are put together from these.
-/

namespace Sys2Proof.Machine

open Sys2Proof

/-! ## The packet of a row reaches the CP -/

/-- Every packet row runs `effCmd` on its packet: the counter stands, or its registers keep their widths, or the row may
enable a slice. -/
theorem exec_packet {c : Instr} {dt : Nat} {q : Pkt} (h : Safety.packetOf c = some (dt, q)) :
    ∃ op, (∀ s, exec c s = .next (s.run dt (effCmd q op))) ∨ (∀ s, exec c s = .next (s.runT dt (effCmd q op))) ∨
      (∀ s, exec c s = .next (s.runT dt (State.enabling dt (effCmd q op)))) := by
  cases c with
  | drvEnable =>
    cases h
    exact ⟨_, .inr (.inr fun _ => rfl)⟩
  | netEthConfig =>
    cases h
    exact ⟨_, .inr (.inl fun _ => rfl)⟩
  | _ => cases h <;> exact ⟨_, .inl fun _ => rfl⟩

/-- An effect that leaves INCREMENT enables no slice outside the narrow band (R64). -/
theorem State.enabling_of_time_eq {s : State} {f : State → State} (dt : Nat) (h : (f s).time = s.time) :
    s.enabling dt f = f s :=
  if_pos (congrArg Time.inc h)

/-- A packet that leads to `t` whatever its opcode does: what `exec` answers on its row. -/
theorem exec_of_effCmd {s t : State} {c : Instr} {dt : Nat} {q : Pkt} (h : Safety.packetOf c = some (dt, q))
    (he : ∀ op, effCmd q op (s.elapse dt) = t) (ht : t.time = (s.elapse dt).time) :
    ∃ t', exec c s = .next t' ∧ t' = { t with time := t'.time, pending := s.pending } ∧
      (t'.time = (s.elapse dt).time ∨ t'.time = (s.elapse dt).time.held) := by
  obtain ⟨op, hx⟩ := exec_packet h
  have hop := he op
  have henabling : (s.elapse dt).enabling dt (effCmd q op) = t := by
    rw [State.enabling_of_time_eq dt (by rw [hop, ht]), hop]
  rcases hx with hx | hx | hx
  · refine ⟨_, hx s, ?_, .inl rfl⟩
    rw [State.run, hop]
  · refine ⟨_, hx s, ?_, .inr ?_⟩
    · rw [State.runT, hop]
    · rw [State.runT_time, hop, ht]
  · refine ⟨_, hx s, ?_, .inr ?_⟩
    · rw [State.runT, henabling]
    · rw [State.runT_time, henabling, ht]

theorem takeEntry_time {u v : State} {q : Pkt} {e : Nat} (h : u.takeEntry q = some (v, e)) : v.time = u.time := by
  obtain ⟨-, ht, -⟩ := takeEntry_frame h
  exact ht

/-- A command that the CP does not take, or for which no entry stands, has no effect. -/
theorem effCmd_not_taken {u : State} {q : Pkt} (op : Pkt → State → Res) (h : u.cpTakes = false ∨ u.takeEntry q = none) :
    effCmd q op u = u := by
  unfold effCmd
  split
  · next hc =>
    rw [h.resolve_left (by simp [hc])]
  · rfl

/-- The entry that the CP takes is judged by Table 5.2. -/
theorem effCmd_taken {u v : State} {q : Pkt} {e : Nat} (op : Pkt → State → Res) (hc : u.cpTakes = true)
    (ht : u.takeEntry q = some (v, e)) : effCmd q op u = v.submit q e op := by
  simp only [effCmd, hc, if_true, ht]

/-! ## Table 5.2 in its order -/

section Checks

variable {v : State} {q : Pkt} (e : Nat) (op : Pkt → State → Res)

theorem State.submit_of_checkHead {st : Nat} (h : checkHead q = some st) : v.submit q e op = v.answer q e st := by
  simp only [State.submit, h]

theorem State.submit_of_no_session (h : checkHead q = none) (hs : v.sessionOk q = false) :
    v.submit q e op = v.answer q e stNoSession := by
  simp only [State.submit, h, hs, Bool.not_false, if_true]

theorem State.submit_of_stored {r : Nat × Reply} (h : checkHead q = none) (hs : v.sessionOk q = true)
    (hr : (((v.noteAccepted q).sessOf q).bind fun x => x.replyOf q.seq.toNat) = some r) :
    v.submit q e op =
      if r.1 = q.crc.toNat then ((v.noteAccepted q).touch q).deliver { r.2 with link := q.link, entry := e }
      else ((v.noteAccepted q).touch q).answer q e stSeqConflict := by
  simp only [State.submit, h, hs, hr, Bool.not_true, Bool.false_eq_true, if_false]

/-- The command still executing that a packet repeats (R100). -/
def State.executing (w : State) (q : Pkt) : Option Deferred :=
  w.host.deferred.find? fun d =>
    d.live && (w.sessOf q).isSome && d.pkt.session = q.session && d.pkt.seq = q.seq && d.pkt.crc = q.crc

theorem State.submit_of_executing {d : Deferred} (h : checkHead q = none) (hs : v.sessionOk q = true)
    (hr : (((v.noteAccepted q).sessOf q).bind fun x => x.replyOf q.seq.toNat) = none)
    (hd : (v.noteAccepted q).executing q = some d) :
    v.submit q e op =
      { (v.noteAccepted q).touch q with host := { ((v.noteAccepted q).touch q).host with
          deferred := ((v.noteAccepted q).touch q).host.deferred.map fun x =>
            if x.pkt = d.pkt && x.accepted = d.accepted then { x with repeats := x.repeats ++ [(q, e)] } else x } } := by
  unfold State.executing at hd
  simp only [State.submit, h, hs, hr, hd, Bool.not_true, Bool.false_eq_true, if_false]

theorem State.submit_of_checkOp {st : Nat} (h : checkHead q = none) (hs : v.sessionOk q = true)
    (hr : (((v.noteAccepted q).sessOf q).bind fun x => x.replyOf q.seq.toNat) = none)
    (hd : (v.noteAccepted q).executing q = none) (hk : ((v.noteAccepted q).remember q).checkOp q = some st) :
    v.submit q e op =
      ((v.noteAccepted q).remember q).complete { pkt := q, accepted := (v.noteAccepted q).now, entry := e } st [] := by
  unfold State.executing at hd
  simp only [State.submit, h, hs, hr, hd, hk, Bool.not_true, Bool.false_eq_true, if_false]

end Checks

/-- Settles O7: a packet that fails a check is answered by the check, whatever the row's opcode would do. A row without an entry to
take changes nothing but the time, as log entry 10 has it. -/
theorem packetsThatFailTheirChecksExecuteNothing : Obligations.PacketsThatFailTheirChecksExecuteNothing := by
  unfold Obligations.PacketsThatFailTheirChecksExecuteNothing
  refine ⟨?notTaken, ?head, ?session, ?opcode⟩
  case notTaken =>
    rintro s _ c dt q hc rfl h
    exact exec_of_effCmd hc (fun op => effCmd_not_taken op h) rfl
  case head =>
    rintro s _ v c dt q e st hc rfl hu he hh
    exact exec_of_effCmd hc (fun op => (effCmd_taken op hu he).trans (State.submit_of_checkHead e op hh))
      (by simp [State.answer_frame, takeEntry_time he])
  case session =>
    rintro s _ v c dt q e hc rfl hu he hh hs
    exact exec_of_effCmd hc (fun op => (effCmd_taken op hu he).trans (State.submit_of_no_session e op hh hs))
      (by simp [State.answer_frame, takeEntry_time he])
  case opcode =>
    rintro s _ v _ _ c dt q e st hc rfl hu he hh hs rfl hr hd rfl hk
    exact exec_of_effCmd hc (fun op => (effCmd_taken op hu he).trans (State.submit_of_checkOp e op hh hs hr hd hk))
      (by simp [State.complete_frame, State.remember_frame, State.noteAccepted_frame, takeEntry_time he])

/-- Settles O55: the replay window answers a repeat, and a repeat of a command that still executes joins it. -/
theorem repeatedCommandGetsItsStoredReply : Obligations.RepeatedCommandGetsItsStoredReply := by
  unfold Obligations.RepeatedCommandGetsItsStoredReply
  refine ⟨?stored, ?executing⟩
  case stored =>
    rintro s _ v _ c dt q e r hc rfl hu he hh hs rfl hr
    obtain ⟨t, hx, heq, htime⟩ := exec_of_effCmd hc
      (fun op => (effCmd_taken op hu he).trans (State.submit_of_stored e op hh hs hr))
      (by split <;> simp [State.deliver_frame, State.answer_frame, State.touch_frame, State.noteAccepted_frame, takeEntry_time he])
    exact ⟨t, hx, htime, heq⟩
  case executing =>
    rintro s _ v _ c dt q e d hc rfl hu he hh hs rfl hr hd
    obtain ⟨t, hx, heq, htime⟩ := exec_of_effCmd hc
      (fun op => (effCmd_taken op hu he).trans (State.submit_of_executing e op hh hs hr hd))
      (by simp [State.touch_frame, State.noteAccepted_frame, takeEntry_time he])
    exact ⟨t, hx, htime, heq⟩

/-! ## The safety queue (R109) -/

/-- An opcode that does not exist fails at step 7, whatever queue it stands in (R98). -/
theorem State.checkOp_of_no_opcode {x : State} {q : Pkt} (h : opInfo q.opcode.toNat = none) :
    x.checkOp q = some stBadOpcode := by
  simp only [State.checkOp, h]

theorem sq0Op_iff (c : Nat) : sq0Op c = true ↔ c ∈ [0x0000, 0x2001, 0x2020, 0x2030, 0x6000, 0x6001, 0x6002] := by
  simp only [sq0Op, Bool.or_eq_true, Bool.and_eq_true, decide_eq_true_eq, List.mem_cons, List.not_mem_nil, or_false]
  omega

/-- SQ0 denies an opcode that is not its own: at step 8 or before (R109). -/
theorem State.checkOp_of_sq0 {x : State} {q : Pkt} {o : OpInfo} (ho : opInfo q.opcode.toNat = some o)
    (hp : x.pairOf q.link = some 0) (hq : sq0Op q.opcode.toNat = false) : x.checkOp q = some stDenied := by
  simp only [State.checkOp, ho, hp, hq, Bool.not_false, Bool.and_true, decide_true, if_true, ite_self]

/-- No other status that steps 7 to 9 answer is ST_DENIED (R125). -/
theorem checkStatus_ne_stDenied : stBadOpcode ≠ stDenied ∧ stBadTarget ≠ stDenied ∧ stBadLength ≠ stDenied := by decide

/-- ST_DENIED of an opcode that its queue allows is for want of a privilege. -/
theorem State.privilege_of_denied {x : State} {q : Pkt} (hq : sq0Op q.opcode.toNat = true)
    (h : x.checkOp q = some stDenied) :
    ∃ o, opInfo q.opcode.toNat = some o ∧
      (x.holds q o.priv = false ∨ (q.flags.getLsbD 3 = true ∧ x.holds q 3 = false) ∨ x.opDenied q = true) := by
  obtain ⟨hopcode, htarget, hlength⟩ := checkStatus_ne_stDenied
  unfold State.checkOp at h
  cases ho : opInfo q.opcode.toNat with
  | none =>
    simp only [ho] at h
    exact absurd (Option.some.inj h) hopcode
  | some o =>
    refine ⟨o, rfl, Classical.byContradiction fun hno => ?_⟩
    simp only [not_or, not_and, Bool.not_eq_false, Bool.not_eq_true] at hno
    obtain ⟨hpriv, hauth, hop⟩ := hno
    have hsafety : (q.flags.getLsbD 3 && !x.holds q 3) = false := by
      cases hf : q.flags.getLsbD 3 with
      | false => rfl
      | true => simp [hauth hf]
    simp only [ho, hpriv, hsafety, hop, hq, Bool.not_true, Bool.and_false, Bool.false_eq_true, if_false] at h
    split at h
    · exact absurd (Option.some.inj h) htarget
    · split at h
      · split at h
        · exact absurd (Option.some.inj h) hlength
        · cases h
      · cases h

/-- Settles O54: the check of SQ0 stands between the privileges and the target, and speaks for every opcode but its own. -/
theorem safetyQueueTakesOnlyItsOpcodes : Obligations.SafetyQueueTakesOnlyItsOpcodes := by
  unfold Obligations.SafetyQueueTakesOnlyItsOpcodes
  rintro s u v w x c dt q e hc hu ht he hh hs hw hr hd hx hp
  obtain ⟨-, -, -, hfails⟩ := packetsThatFailTheirChecksExecuteNothing
  refine ⟨fun ho => ?_, fun hq ho => ?_, fun hq hk => State.privilege_of_denied ((sq0Op_iff _).mpr hq) hk⟩
  · exact hfails s u v w x c dt q e _ hc hu ht he hh hs hw hr hd hx (State.checkOp_of_no_opcode ho)
  · obtain ⟨o, ho⟩ := Option.isSome_iff_exists.mp ho
    have hsq0 : sq0Op q.opcode.toNat = false := eq_false_of_ne_true fun h => hq ((sq0Op_iff _).mp h)
    exact hfails s u v w x c dt q e _ hc hu ht he hh hs hw hr hd hx (State.checkOp_of_sq0 ho hp hsq0)

end Sys2Proof.Machine
end

section
/-!
Rejections of an opcode's own chapter (step 10 of Table 5.2): each opcode named in O56 either carries its command out or answers
from the state in which it began.
-/

namespace Sys2Proof.Machine

open Sys2Proof

/-! ## Results that are all or nothing -/

/-- A result in state `s` that is ST_OK, ST_ACCEPTED, or a bare status with nothing changed. -/
def Res.AllOrNothing (s : State) (r : Res) : Prop :=
  r.status ≠ stOk → r.status ≠ stAccepted → r = s.fail r.status

namespace Res

variable (s t : State) (x : List Byte)

@[simp] theorem allOrNothing_fail (st : Nat) : (s.fail st).AllOrNothing s := fun _ _ => rfl
@[simp] theorem allOrNothing_okay : t.okay.AllOrNothing s := fun h _ => absurd rfl h
@[simp] theorem allOrNothing_okWith : (t.okWith x).AllOrNothing s := fun h _ => absurd rfl h
@[simp] theorem allOrNothing_accept : t.accept.AllOrNothing s := fun _ h => absurd rfl h
@[simp] theorem allOrNothing_later : ({ st := t, later := true } : Res).AllOrNothing s := fun h _ => absurd rfl h
@[simp] theorem allOrNothing_accepted : ({ st := t, status := stAccepted, extra := x } : Res).AllOrNothing s :=
  fun _ h => absurd rfl h

/-- A check between two results. -/
@[simp] theorem allOrNothing_ite {s : State} {c : Prop} [Decidable c] {a b : Res} :
    (if c then a else b).AllOrNothing s ↔ (c → a.AllOrNothing s) ∧ (¬ c → b.AllOrNothing s) := by
  split <;> simp_all

end Res

/-! ## The opcodes -/

section Opcodes

variable (p : Pkt) (s : State)

theorem opSetIncrement_allOrNothing : (opSetIncrement p s).AllOrNothing s := by simp [opSetIncrement]
theorem opStep_allOrNothing : (opStep p s).AllOrNothing s := by simp [opStep]
theorem opServoMode_allOrNothing : (opServoMode p s).AllOrNothing s := by simp [opServoMode]
theorem opRallyWrite_allOrNothing : (opRallyWrite p s).AllOrNothing s := by simp [opRallyWrite]
theorem opTioConfig_allOrNothing : (opTioConfig p s).AllOrNothing s := by simp [opTioConfig]
theorem opGetInfo_allOrNothing : (opGetInfo p s).AllOrNothing s := by simp [opGetInfo]
theorem opReset_allOrNothing : (opReset p s).AllOrNothing s := by simp [opReset]
theorem opPwrCycle_allOrNothing : (opPwrCycle p s).AllOrNothing s := by simp [opPwrCycle]
theorem opObjReadBlock_allOrNothing : (opObjReadBlock p s).AllOrNothing s := by simp [opObjReadBlock]
theorem opDischarge_allOrNothing : (opDischarge p s).AllOrNothing s := by simp [opDischarge]
theorem opWriteCoef_allOrNothing : (opWriteCoef p s).AllOrNothing s := by simp [opWriteCoef]
theorem opFreeze_allOrNothing : (opFreeze p s).AllOrNothing s := by simp [opFreeze]
theorem opRelease_allOrNothing : (opRelease p s).AllOrNothing s := by simp [opRelease]
theorem opSeedState_allOrNothing : (opSeedState p s).AllOrNothing s := by simp [opSeedState]
theorem opCanConfig_allOrNothing : (opCanConfig p s).AllOrNothing s := by simp [opCanConfig]
theorem opCanFilter_allOrNothing : (opCanFilter p s).AllOrNothing s := by simp [opCanFilter]
theorem opCanTx_allOrNothing : (opCanTx p s).AllOrNothing s := by simp [opCanTx]
theorem opCanAck_allOrNothing : (opCanAck p s).AllOrNothing s := by simp [opCanAck]
theorem opEthConfig_allOrNothing : (opEthConfig p s).AllOrNothing s := by simp [opEthConfig]
theorem opSafLogRead_allOrNothing : (opSafLogRead p s).AllOrNothing s := by simp [opSafLogRead]
theorem opIngotBegin_allOrNothing : (opIngotBegin p s).AllOrNothing s := by simp [opIngotBegin]
theorem opActivate_allOrNothing : (opActivate p s).AllOrNothing s := by simp [opActivate]
theorem opAttest_allOrNothing : (opAttest p s).AllOrNothing s := by simp [opAttest]
theorem opLogRead_allOrNothing : (opLogRead p s).AllOrNothing s := by simp [opLogRead]
theorem opBistRun_allOrNothing : (opBistRun p s).AllOrNothing s := by simp [opBistRun]
theorem opBistResult_allOrNothing : (opBistResult p s).AllOrNothing s := by simp [opBistResult]
theorem opTrace_allOrNothing : (opTrace p s).AllOrNothing s := by simp [opTrace]
theorem opFlkConfig_allOrNothing : (opFlkConfig p s).AllOrNothing s := by simp [opFlkConfig]
theorem opHandover_allOrNothing : (opHandover p s).AllOrNothing s := by simp [opHandover, opHandoverAt]

theorem opDrvDisable_allOrNothing : (opDrvDisable p s).AllOrNothing s := by
  unfold opDrvDisable
  cases h : (s.sl p.target.toNat).st <;> simp [h]

theorem opDrvStart_allOrNothing : (opDrvStart p s).AllOrNothing s := by
  unfold opDrvStart
  cases h : (s.sl p.target.toNat).st <;> simp [h]

theorem opIngotData_allOrNothing : (opIngotData p s).AllOrNothing s := by
  unfold opIngotData
  cases h : s.mu.transfer <;> simp

/-- Every free session number found, the nonce and the method are checked before the session is opened (R123). -/
theorem opOpenSession_allOrNothing : (opOpenSession p s).AllOrNothing s := by
  unfold opOpenSession
  dsimp only
  generalize hfree : (List.range 64).find? (fun n => (s.sess n).isNone) = free
  cases free with
  | none => simp
  | some n =>
    simp only [Res.allOrNothing_ite, Res.allOrNothing_fail, Res.allOrNothing_okWith, implies_true, true_and]
    intros
    split <;> simp

theorem opObjSubscribe_allOrNothing : (opObjSubscribe p s).AllOrNothing s := by
  unfold opObjSubscribe
  cases s.freeSub <;> simp

theorem opDefineContext_allOrNothing : (opDefineContext p s).AllOrNothing s := by
  unfold opDefineContext
  simp only [Res.allOrNothing_ite, Res.allOrNothing_fail, Res.allOrNothing_okWith, implies_true, true_and]
  intros
  split <;> simp

theorem opCanCancel_allOrNothing : (opCanCancel p s).AllOrNothing s := by
  unfold opCanCancel
  simp only [Res.allOrNothing_ite, Res.allOrNothing_fail, implies_true, true_and]
  intros
  split
  · simp
  · split <;> simp

end Opcodes

/-! ## The rows -/

section Rows

variable {op : Pkt → State → Res} {row : Nat → Pkt → Instr} {f : Pkt → Pkt}

/-- An opcode that is all or nothing, on its row: what stands after a rejection. -/
theorem answers_rejected (hop : ∀ p s, (op p s).AllOrNothing s)
    (hrow : ∀ s dt p, exec (row dt p) s = .next (s.run dt (effCmd (f p) op))) :
    ∀ (s u w : State) (dt : Nat) (p q : Pkt) (d : Deferred), u = s.elapse dt → q = f p →
      Safety.admitted u q = some (w, d) → (op q w).status ≠ stOk → (op q w).status ≠ stAccepted →
      exec (row dt p) s = .next (Safety.done s u (w.setCur none) d (op q w).status []) := by
  rintro s _ w dt p _ d rfl rfl h hok hacc
  have hr : op (f p) w = w.fail (op (f p) w).status := hop _ _ hok hacc
  have hdone := row_done op h rfl (congrArg Res.extra hr) (congrArg Res.later hr)
  rw [hrow, hdone, congrArg Res.st hr]
  rfl

/-- The same for a row that may steer the counter. -/
theorem answersT_rejected (hop : ∀ p s, (op p s).AllOrNothing s)
    (hrow : ∀ s dt p, exec (row dt p) s = .next (s.runT dt (effCmd (f p) op))) :
    ∀ (s u w : State) (dt : Nat) (p q : Pkt) (d : Deferred), u = s.elapse dt → q = f p →
      Safety.admitted u q = some (w, d) → (op q w).status ≠ stOk → (op q w).status ≠ stAccepted →
      exec (row dt p) s = .next (Safety.doneT s (w.setCur none) d (op q w).status []) := by
  rintro s _ w dt p _ d rfl rfl h hok hacc
  have hr : op (f p) w = w.fail (op (f p) w).status := hop _ _ hok hacc
  have hdone := row_doneT op h rfl (congrArg Res.extra hr) (congrArg Res.later hr)
  rw [hrow, hdone, congrArg Res.st hr]
  rfl

end Rows

/-- Settles O56: each row's opcode is all or nothing, so a rejection leaves the state in which it began. -/
theorem opcodeRejectionsChangeNothing : Obligations.OpcodeRejectionsChangeNothing := by
  unfold Obligations.OpcodeRejectionsChangeNothing
  exact ⟨
    answers_rejected opSetIncrement_allOrNothing fun _ _ _ => rfl,
    answers_rejected opStep_allOrNothing fun _ _ _ => rfl,
    answers_rejected opServoMode_allOrNothing fun _ _ _ => rfl,
    answers_rejected opRallyWrite_allOrNothing fun _ _ _ => rfl,
    answers_rejected opTioConfig_allOrNothing fun _ _ _ => rfl,
    answers_rejected opOpenSession_allOrNothing fun _ _ _ => rfl,
    answers_rejected opGetInfo_allOrNothing fun _ _ _ => rfl,
    answers_rejected opReset_allOrNothing fun _ _ _ => rfl,
    answers_rejected opReset_allOrNothing fun _ _ _ => rfl,
    answers_rejected opPwrCycle_allOrNothing fun _ _ _ => rfl,
    answers_rejected opObjReadBlock_allOrNothing fun _ _ _ => rfl,
    answers_rejected opObjSubscribe_allOrNothing fun _ _ _ => rfl,
    answers_rejected opObjSubscribe_allOrNothing fun _ _ _ => rfl,
    answers_rejected opDrvDisable_allOrNothing fun _ _ _ => rfl,
    answers_rejected opDrvStart_allOrNothing fun _ _ _ => rfl,
    answers_rejected opDischarge_allOrNothing fun _ _ _ => rfl,
    answers_rejected opDischarge_allOrNothing fun _ _ _ => rfl,
    answers_rejected opDefineContext_allOrNothing fun _ _ _ => rfl,
    answers_rejected opDefineContext_allOrNothing fun _ _ _ => rfl,
    answers_rejected opWriteCoef_allOrNothing fun _ _ _ => rfl,
    answers_rejected opFreeze_allOrNothing fun _ _ _ => rfl,
    answers_rejected opRelease_allOrNothing fun _ _ _ => rfl,
    answers_rejected opSeedState_allOrNothing fun _ _ _ => rfl,
    answers_rejected opCanConfig_allOrNothing fun _ _ _ => rfl,
    answers_rejected opCanFilter_allOrNothing fun _ _ _ => rfl,
    answers_rejected opCanFilter_allOrNothing fun _ _ _ => rfl,
    answers_rejected opCanTx_allOrNothing fun _ _ _ => rfl,
    answers_rejected opCanCancel_allOrNothing fun _ _ _ => rfl,
    answers_rejected opCanAck_allOrNothing fun _ _ _ => rfl,
    answersT_rejected opEthConfig_allOrNothing fun _ _ _ => rfl,
    answers_rejected opSafLogRead_allOrNothing fun _ _ _ => rfl,
    answers_rejected opIngotBegin_allOrNothing fun _ _ _ => rfl,
    answers_rejected opIngotBegin_allOrNothing fun _ _ _ => rfl,
    answers_rejected opIngotData_allOrNothing fun _ _ _ => rfl,
    answers_rejected opActivate_allOrNothing fun _ _ _ => rfl,
    answers_rejected opAttest_allOrNothing fun _ _ _ => rfl,
    answers_rejected opLogRead_allOrNothing fun _ _ _ => rfl,
    answers_rejected opBistRun_allOrNothing fun _ _ _ => rfl,
    answers_rejected opBistResult_allOrNothing fun _ _ _ => rfl,
    answers_rejected opTrace_allOrNothing fun _ _ _ => rfl,
    answers_rejected opTrace_allOrNothing fun _ _ _ => rfl,
    answers_rejected opTrace_allOrNothing fun _ _ _ => rfl,
    answers_rejected opFlkConfig_allOrNothing fun _ _ _ => rfl,
    answers_rejected opHandover_allOrNothing fun _ _ _ => rfl⟩

end Sys2Proof.Machine
end

section
/-!
The Management Unit's own events (R132, R390, R404 to R406): the end of an ingot's checks, a transfer that times out, an
activation at its apply stamp, and the writes to the NOR. O27 is put together from these.
-/

namespace Sys2Proof.Machine

open Sys2Proof

section StorageRules

variable (s : State)

/-! ## Banks and copies (R403, R405) -/

theorem State.setBank_getD {b : Nat} (v : FwBank) (h : b < s.mu.banks.length) : (s.setBank b v).mu.banks.getD b {} = v := by
  simp [State.setBank, List.getD_eq_getElem?_getD, h]

/-- A cleared target is a bank in the state given, or a copy that holds nothing. -/
theorem State.clearTarget_clears (t st : Nat) :
    (t < 2 → t < s.mu.banks.length → ((s.clearTarget t st).mu.banks.getD t {}).state = st) ∧
    (t = 2 → (s.clearTarget t st).mu.cfgA = none) ∧ (t = 3 → (s.clearTarget t st).mu.cfgB = none) := by
  unfold State.clearTarget
  refine ⟨fun ht hl => ?_, fun ht => ?_, fun ht => ?_⟩
  · rw [if_pos ht, State.setBank_getD s _ hl]
  · subst ht; rfl
  · subst ht; rfl

theorem State.clearTarget_transfer (t st : Nat) : (s.clearTarget t st).mu.transfer = s.mu.transfer := by
  unfold State.clearTarget
  split
  · rfl
  · split <;> rfl

/-! ## The end of the checks (R404, Table 15.14) -/

/-- The transfer is over, whatever its checks have found. -/
def State.transferOver : State := { s with mu := { s.mu with transfer := none } }

/-- An ingot that passes its checks makes its bank VALID. -/
theorem effIngotCheckDone_ingot (r : IngotResult) {x : Transfer} (hx : s.mu.transfer = some x) (hc : x.checking = true)
    (hall : x.received = x.total) (hr : r.failing = 0) (ht : x.target < 2) (hroll : s.mu.otpRollback ≤ r.rollback) :
    effIngotCheckDone r s = (s.transferOver.setBank x.target
      { version := r.version, rollback := r.rollback, gens := r.gens, state := 3 }).post srcMu 0x0910 x.target r.version := by
  have hnot : ¬ 2 ≤ x.target := by omega
  have hup : ¬ r.rollback < s.mu.otpRollback := by omega
  simp [effIngotCheckDone, hx, hc, hall, hr, ht, hnot, hup, State.transferOver]

/-- A configuration image that passes them stands in its copy. -/
theorem effIngotCheckDone_image (r : IngotResult) {x : Transfer} {i : CfgImage} (hx : s.mu.transfer = some x)
    (hc : x.checking = true) (hall : x.received = x.total) (hr : r.failing = 0) (ht : 2 ≤ x.target) (hi : r.image = some i)
    (hsign : x.session.isSome = true ∨ i.signedOk = true) :
    effIngotCheckDone r s =
      (if x.target = 2 then { s.transferOver with mu := { s.transferOver.mu with cfgA := some i } }
        else { s.transferOver with mu := { s.transferOver.mu with cfgB := some i } } : State).post srcMu 0x0910 x.target
          (le x.head 12 4) := by
  have hnot : ¬ x.target < 2 := by omega
  have hunsigned : (x.session.isNone && !i.signedOk) = false := by
    rcases hsign with h | h
    · simp [Option.isNone_eq_false_iff.mpr h]
    · simp [h]
  simp [effIngotCheckDone, hx, hc, hall, hr, ht, hnot, hi, hunsigned, State.transferOver]

/-- Fewer bytes than announced fail the first check, and the bank is REJECTED. -/
theorem effIngotCheckDone_short (r : IngotResult) {x : Transfer} (hx : s.mu.transfer = some x) (hc : x.checking = true)
    (hshort : x.received ≠ x.total) (ht : x.target < 2) :
    effIngotCheckDone r s = (s.transferOver.clearTarget x.target 4).post srcMu 0x0911 x.target (1 + stBadLength * 2 ^ 16) := by
  simp [effIngotCheckDone, hx, hc, hshort, ht, State.transferOver, ingotStatus]

/-! ## A transfer that times out (R405) -/

theorem effIngotTransferTimeout_abandons {x : Transfer} {e : Nat} (hx : s.mu.transfer = some x) (hd : x.deadline = some e)
    (he : e ≤ s.muNow) (hn : s.transferComes = false) : effIngotTransferTimeout s = s.abandon := by
  simp [effIngotTransferTimeout, hx, hd, he, hn]

theorem State.abandon_clears {x : Transfer} (hx : s.mu.transfer = some x) :
    s.abandon = (s.clearTarget x.target 0).transferOver := by
  simp only [State.abandon, hx, State.transferOver]

/-! ## Activation (R406) -/

/-- The request is over, whatever becomes of it. -/
def State.activateOver : State := { s with mu := { s.mu with activate := none } }

/-- At its apply stamp an activation resets the device into the bank, or ends in a record where it may not. -/
theorem effMgtActivateApply_eq {n : Nat} {a : Stamp} (ha : s.mu.activate = some (n, a)) (hr : s.isReady = true)
    (hle : a ≤ s.now) :
    effMgtActivateApply s =
      if s.slicesRest && !s.resetLocked && (s.mu.banks.getD n {}).state = 3 then (s.activateOver.selectBank n).devReset .sysReset
      else s.activateOver.post srcMu 0x0912 n 1 := by
  have hnow : ¬ s.now < a := Nat.not_lt.mpr hle
  simp only [effMgtActivateApply, ha, hr, hnow, Bool.not_true, decide_false, Bool.or_self, Bool.false_eq_true, if_false]
  rfl

theorem State.selectBank_mu (b : Nat) : (s.selectBank b).mu = { s.mu with active := b } := State.post_mu ..

/-! ## The NOR (R132, R390) -/

theorem bfind_bset_same {α : Type} (m : Bank α) (k : Nat) (v : α) : bfind (bset m k v) k = some v := by
  induction m with
  | nil => simp [bset, bfind]
  | cons e m ih =>
    obtain ⟨j, w⟩ := e
    unfold bset
    split
    · simp [bfind]
    · split
      · simp [bfind]
      · next hne => simp only [bfind, if_neg hne, ih]

/-- What the NOR holds of the dictionary, and what waits to be written there. -/
def State.persistence : Bank Nat × List Nat := (s.dict.nor, s.dict.dirty)

theorem State.logAppend_persistence (r : LogRec) : (s.logAppend r).persistence = s.persistence :=
  ite_agree State.persistence (rfl : (s.bumpField Obj.MGT_LOG_STAT 15 0).persistence = _) rfl

/-- A log record changes nothing of object persistence. -/
theorem State.post_persistence (src code unit data : Nat) : (s.post src code unit data).persistence = s.persistence := by
  have hrec : ∀ r : Rec, ((s.trace r).bumpSeq src).persistence = s.persistence := fun r => by
    simp [State.persistence, State.bumpSeq, State.trace_frame]
  unfold State.post State.postAt
  dsimp only
  split
  · split
    · exact hrec _
    · exact hrec _
  · exact (State.logAppend_persistence _ _).trans (hrec _)

/-- A write that fails marks the NOR unreadable, and what was to be written still waits. -/
theorem State.norFail_marks (reading : Bool) (h : s.mu.norBad = false) :
    (s.norFail reading).mu.norBad = true ∧ (s.norFail reading).persistence = s.persistence := by
  simp only [State.norFail, h, Bool.false_eq_true, if_false]
  exact ⟨by rw [State.post_mu], State.post_persistence _ _ _ _ _⟩

/-- What a write to the NOR needs: READY, a NOR that answers, an MU that runs, a value that waits. -/
theorem effNorPersistWrite_eq {idx : Nat} (ok : Bool) (hr : s.isReady = true) (hb : s.mu.norBad = false)
    (hm : s.mu.restarting = false) (hd : s.dict.dirty.contains idx = true) :
    effNorPersistWrite idx ok s =
      if ok then { s with dict := { s.dict with nor := bset s.dict.nor idx (s.keptVal idx), dirty := s.dict.dirty.erase idx } }
      else s.norFail false := by
  simp only [effNorPersistWrite, hr, hb, hm, hd, Bool.not_true, Bool.or_self, Bool.false_eq_true, if_false]

/-- Records that all still stand when a newer one is written are put before the NOR log as they are (R390). -/
theorem foldl_norPut_reverse (l m : List LogRec) (h : (l ++ m).Pairwise fun r x => norKeeps r x = true) :
    l.reverse.foldl norPut m = l ++ m := by
  induction l with
  | nil => rfl
  | cons r l ih =>
    obtain ⟨hr, hl⟩ := List.pairwise_cons.mp h
    rw [List.reverse_cons, List.foldl_append, ih hl]
    exact congrArg (List.cons r) (List.filter_eq_self.mpr hr)

theorem effLogNorCopy_copies (hm : s.mu.restarting = false) (hb : s.mu.norBad = false) (hv : s.mu.booted = true) {l : List LogRec}
    (hl : l = s.log.ring.filter fun r => decide (s.log.norDone ≤ r.num) && decide (s.obj Obj.MGT_LOG_NOR_SEV ≤ r.sev))
    (hp : (l ++ s.log.nor).Pairwise fun r x => norKeeps r x = true) :
    effLogNorCopy s = { s with log := { s.log with nor := l ++ s.log.nor, norDone := s.log.next } } := by
  simp only [effLogNorCopy, hm, hb, hv, Bool.not_true, Bool.or_self, Bool.false_eq_true, if_false, ← hl,
    foldl_norPut_reverse l _ hp]

end StorageRules

/-- Settles O27: each event of the Management Unit's storage through the lemma that says what it does. -/
theorem storageEventsComplete : Obligations.StorageEventsComplete := by
  unfold Obligations.StorageEventsComplete
  refine ⟨?ingot, ?image, ?short, ?timeout, ?activate, ?refuse, ?write, ?writeFails, ?logCopy⟩
  case ingot =>
    rintro s _ dt r x rfl hx hc hall hr ht hlen hroll
    refine ⟨_, rfl, ?_⟩
    rw [State.run_mu, effIngotCheckDone_ingot _ r hx hc hall hr ht hroll, State.post_mu]
    exact ⟨rfl, State.setBank_getD _ _ (hlen ▸ ht)⟩
  case image =>
    rintro s _ dt r x i rfl hx hc hall hr ht hi hsign
    refine ⟨_, rfl, ?_⟩
    rw [State.run_mu, effIngotCheckDone_image _ r hx hc hall hr ht hi hsign, State.post_mu]
    split
    · exact ⟨rfl, rfl⟩
    · exact ⟨rfl, rfl⟩
  case short =>
    rintro s _ dt r x rfl hx hc hshort ht hlen
    refine ⟨_, rfl, ?_⟩
    rw [State.run_mu, effIngotCheckDone_short _ r hx hc hshort ht, State.post_mu]
    obtain ⟨hstate, -, -⟩ := (s.elapse dt).transferOver.clearTarget_clears x.target 4
    exact ⟨State.clearTarget_transfer _ _ _, hstate ht (hlen ▸ ht)⟩
  case timeout =>
    rintro s _ dt x e rfl hx hd he hn hlen
    refine ⟨_, rfl, ?_⟩
    rw [State.run_mu, effIngotTransferTimeout_abandons _ hx hd he hn, State.abandon_clears _ hx]
    obtain ⟨hstate, hA, hB⟩ := (s.elapse dt).clearTarget_clears x.target 0
    exact ⟨rfl, fun ht => hstate ht (hlen ▸ ht), hA, hB⟩
  case activate =>
    rintro s _ dt n a rfl ha hr hle hs hl hb
    have he : effMgtActivateApply (s.elapse dt) = _ :=
      (effMgtActivateApply_eq _ ha hr hle).trans (if_pos (by rw [hs, hl, hb]; rfl))
    refine ⟨_, rfl, ?_⟩
    rw [State.runT_mu, State.runT_slices, State.runT_host, he, State.devReset_mu_activate, State.devReset_mu_active,
      State.devReset_mu_cause, State.devReset_phase, State.devReset_slices, State.devReset_host_sessions, State.selectBank_mu]
    exact ⟨rfl, rfl, rfl, rfl, rfl, rfl⟩
  case refuse =>
    rintro s _ dt n a rfl ha hr hle hno
    have he : effMgtActivateApply (s.elapse dt) = _ :=
      (effMgtActivateApply_eq _ ha hr hle).trans (if_neg (by
        rcases hno with h | h | h <;>
          simp only [h, Bool.not_true, Bool.false_and, Bool.and_false, decide_false, Bool.false_eq_true, not_false_eq_true]))
    refine ⟨_, rfl, ?_⟩
    rw [State.runT_mu, he, State.post_mu]
    exact ⟨rfl, rfl, of_decide_eq_true hr⟩
  case write =>
    rintro s _ dt idx rfl hr hb hm hd
    refine ⟨_, rfl, ?_⟩
    rw [State.run_dict, effNorPersistWrite_eq _ true hr hb hm hd]
    exact ⟨bfind_bset_same .., rfl, rfl⟩
  case writeFails =>
    rintro s _ dt idx rfl hr hb hm hd
    obtain ⟨hmark, hkept⟩ := (s.elapse dt).norFail_marks false hb
    obtain ⟨hnor, hdirty⟩ := Prod.mk.inj hkept
    refine ⟨_, rfl, ?_⟩
    rw [State.run_mu, State.run_dict, effNorPersistWrite_eq _ false hr hb hm hd]
    exact ⟨hmark, hnor, hdirty⟩
  case logCopy =>
    rintro s _ dt l rfl hm hb hv hl hp
    refine ⟨_, rfl, ?_⟩
    rw [State.run_log, effLogNorCopy_copies _ hm hb hv hl hp]
    exact ⟨rfl, rfl, rfl⟩

end Sys2Proof.Machine
end

section
/-!
Queue pairs, the mailbox and the ends of the PCIe link (R104 to R107, R110 to R114): what each operation on a pair leaves of that
pair and of the others, and O13 put together from these.
-/

namespace Sys2Proof.Machine

open Sys2Proof

section PairRules

variable (s : State)

/-! ## One pair after a write to it or to another -/

@[simp] theorem State.pair_setPair_same (n : Nat) (q : Pair) : (s.setPair n q).pair n = q := bget_bset_same _ _ _ _

theorem State.pair_setPair_other {m n : Nat} (q : Pair) (h : m ≠ n) : (s.setPair n q).pair m = s.pair m :=
  bget_bset_other _ _ _ h

@[simp] theorem State.pair_modPair_same (n : Nat) (f : Pair → Pair) : (s.modPair n f).pair n = f (s.pair n) :=
  bget_bset_same _ _ _ _

theorem State.pair_modPair_other {m n : Nat} (f : Pair → Pair) (h : m ≠ n) : (s.modPair n f).pair m = s.pair m :=
  bget_bset_other _ _ _ h

/-- An interrupt changes what the MSI-X table has sent and what is pending. -/
theorem State.msix_host (v : Nat) :
    ∃ p m, (s.msix v).host = { s.host with msixPend := p, msixSent := m } := by
  unfold State.msix
  split
  · exact ⟨_, _, rfl⟩
  · exact ⟨_, _, rfl⟩

@[simp] theorem State.pair_msix (v m : Nat) : (s.msix v).pair m = s.pair m := by
  obtain ⟨p, x, h⟩ := s.msix_host v
  simp only [State.pair, h]

@[simp] theorem State.pair_devEvent (k m : Nat) : (s.devEvent k).pair m = s.pair m := State.pair_msix ..

@[simp] theorem State.isSpi_msix (v n : Nat) : (s.msix v).isSpi n = s.isSpi n := by
  obtain ⟨p, x, h⟩ := s.msix_host v
  simp only [State.isSpi, h]

@[simp] theorem State.isSpi_devEvent (k n : Nat) : (s.devEvent k).isSpi n = s.isSpi n := State.isSpi_msix ..

/-! ## Disabled pairs (R112) -/

@[simp] theorem State.pair_discardOwned_same (n : Nat) : (s.discardOwned n).pair n = (s.pair n).emptied :=
  bget_bset_same _ _ _ _

theorem State.pair_discardOwned_other {m n : Nat} (h : m ≠ n) : (s.discardOwned n).pair m = s.pair m :=
  bget_bset_other _ _ _ h

@[simp] theorem State.pair_disablePair_same (n : Nat) : (s.disablePair n).pair n = { (s.pair n).emptied with en := false } := by
  simp [State.disablePair]

theorem State.pair_disablePair_other {m n : Nat} (h : m ≠ n) : (s.disablePair n).pair m = s.pair m := by
  rw [State.disablePair, State.pair_modPair_other _ _ h, State.pair_discardOwned_other _ h]

@[simp] theorem State.pair_pairError_same (n code : Nat) : (s.pairError n code).pair n =
    { (s.pair n).emptied with en := false, qerr := code, qerrAt := s.tick } := by
  simp [State.pairError]

theorem State.pair_pairError_other {m n : Nat} (code : Nat) (h : m ≠ n) : (s.pairError n code).pair m = s.pair m := by
  rw [State.pairError, State.pair_devEvent, State.pair_modPair_other _ _ h, State.pair_disablePair_other _ h]

@[simp] theorem State.isSpi_pairError (m n code : Nat) : (s.pairError n code).isSpi m = s.isSpi m := by
  rw [State.pairError, State.isSpi_devEvent]
  rfl

/-! ## A completion posted (R106, R111) -/

theorem State.pair_postCq_same (n : Nat) (r : Reply) :
    ((s.postCq n r).pair n).posted =
      (s.pair n).posted ++ [(r, (s.pair n).phase, !s.isSpi n && decide (44 < r.payload.length))] ∧
    ((s.postCq n r).pair n).waiting = (s.pair n).waiting :=
  ⟨ite_agree (fun t => (t.pair n).posted) (by simp) (by simp), ite_agree (fun t => (t.pair n).waiting) (by simp) (by simp)⟩

theorem State.pair_postCq_other {m n : Nat} (r : Reply) (h : m ≠ n) : (s.postCq n r).pair m = s.pair m :=
  ite_agree (fun t => t.pair m) (State.pair_setPair_other _ _ h) ((State.pair_msix ..).trans (State.pair_setPair_other _ _ h))

/-- Giving an SQ entry back leaves the completions of a pair as they are. -/
theorem Pair.release_completions (q : Pair) (r : Reply) :
    (q.release r).posted = q.posted ∧ (q.release r).waiting = q.waiting ∧ (q.release r).phase = q.phase := by
  unfold Pair.release
  split <;> exact ⟨rfl, rfl, rfl⟩

/-! ## Doorbells and QCFG (R104, R107) -/

theorem effSqTailDoorbell_tail (n : Fin 16) (v : Word) (h : s.pciePair n.val = true) (hlt : bits v.toNat 9 0 < s.pairCap n.val) :
    effSqTailDoorbell n v s = s.setPair n.val { s.pair n.val with
      owned := (s.pair n.val).owned + (bits v.toNat 9 0 + s.pairCap n.val - (s.pair n.val).sqTail) % s.pairCap n.val
      sqTail := bits v.toNat 9 0 } := by
  simp only [effSqTailDoorbell, h, Nat.not_le.mpr hlt, Bool.not_true, Bool.false_eq_true, if_false]

theorem effSqTailDoorbell_beyond (n : Fin 16) (v : Word) (h : s.pciePair n.val = true)
    (hle : s.pairCap n.val ≤ bits v.toNat 9 0) : effSqTailDoorbell n v s = s.pairError n.val 1 := by
  simp only [effSqTailDoorbell, h, hle, Bool.not_true, Bool.false_eq_true, if_false, if_true]

theorem effCqHeadDoorbell_head (n : Fin 16) (v : Word) (h : s.pciePair n.val = true) (hlt : bits v.toNat 9 0 < s.pairCap n.val) :
    effCqHeadDoorbell n v s = s.setPair n.val { s.pair n.val with
      posted := (s.pair n.val).posted.drop ((bits v.toNat 9 0 + s.pairCap n.val - (s.pair n.val).cqHead) % s.pairCap n.val)
      cqHead := bits v.toNat 9 0 } := by
  simp only [effCqHeadDoorbell, h, Nat.not_le.mpr hlt, Bool.not_true, Bool.false_eq_true, if_false]

theorem effCqHeadDoorbell_beyond (n : Fin 16) (v : Word) (h : s.pciePair n.val = true)
    (hle : s.pairCap n.val ≤ bits v.toNat 9 0) : effCqHeadDoorbell n v s = s.pairError n.val 1 := by
  simp only [effCqHeadDoorbell, h, hle, Bool.not_true, Bool.false_eq_true, if_false, if_true]

/-- EN of a disabled PCIe pair opens it, or ends in QERR 4 where its configuration is not one of Table 5.9. -/
theorem effQcfgEnable_eq (n : Fin 16) (v : Word) (hr : s.isReady = true) (he : (s.pair n.val).en = false)
    (hs : s.isSpi n.val = false) :
    effQcfgEnable n v s =
      if ((s.pair n.val).cfgFrom v.toNat).cfgOk then s.setPair n.val ((s.pair n.val).cfgFrom v.toNat).opened
      else (s.setPair n.val ((s.pair n.val).cfgFrom v.toNat)).pairError n.val 4 := by
  simp only [effQcfgEnable, hr, he, hs, Bool.not_true, Bool.false_eq_true, if_false]
  cases ((s.pair n.val).cfgFrom v.toNat).cfgOk <;> rfl

theorem effQcfgDisable_disables (n : Fin 16) (v : Word) (he : (s.pair n.val).en = true) :
    (effQcfgDisable n v s).pair n.val = { (s.pair n.val).emptied with en := false, weight := bits v.toNat 21 18 } := by
  simp [effQcfgDisable, he]

/-- The oldest completion that waits is posted once there is room and the CP runs (R110). -/
theorem effCompletionPost_posts (n : Fin 16) {r : Reply} {rest : List Reply} (hw : (s.pair n.val).waiting = r :: rest)
    (he : (s.pair n.val).en = true ∨ s.isSpi n.val = true) (hroom : (s.pair n.val).posted.length < s.pairCap n.val)
    (hc : s.cpStands = false) :
    effCompletionPost n s = (s.setPair n.val ({ s.pair n.val with waiting := rest }.release r)).postCq n.val r := by
  have hen : ((s.pair n.val).en || s.isSpi n.val) = true := by simpa using he
  simp only [effCompletionPost, hw, hc, hen, hroom, decide_true, Bool.not_false, Bool.and_self, if_true]

/-! ## The mailbox (R114) -/

/-- A reply to the mailbox ends BUSY and stands in the reply memory. -/
theorem State.deliver_mailbox {r : Reply} (h : r.link = .mailbox) :
    (s.deliver r).host.mbxBusy = false ∧ (s.deliver r).host.mbxReply = some r := by
  simp only [State.deliver, h, State.devEvent]
  obtain ⟨p, m, hm⟩ := State.msix_host
    { s with host := { s.host with mbxReply := some r, mbxBusy := false, devEvent := s.host.devEvent ||| 2 ^ 4
                                   evSet := (s.tick, s.evNow ||| 2 ^ 4) } } 0
  exact ⟨congrArg HostIf.mbxBusy hm, congrArg HostIf.mbxReply hm⟩

/-- Whatever becomes of a mailbox command, its last act is a reply to the mailbox. -/
theorem State.muRun_mailbox {p : Pkt} (h : p.link = .mailbox) :
    ∃ (t : State) (r : Reply), s.muRun p = t.deliver r ∧ r.link = .mailbox := by
  unfold State.muRun
  cases checkHead p with
  | some e =>
    simp only [h, if_true]
    exact ⟨_, _, rfl, h⟩
  | none =>
    simp only [h, Bool.false_eq_true, if_false]
    exact ⟨_, _, rfl, h⟩

theorem effMbxGo_serves (hb : s.mu.booted = true) (hf : s.host.mbxBusy = false) (hm : s.mu.restarting = false) :
    (effMbxGo s).host.mbxBusy = false ∧ (effMbxGo s).host.mbxReply.isSome = true := by
  obtain ⟨t, r, ht, hr⟩ :=
    State.muRun_mailbox { s with host := { s.host with mbxBusy := true } } (p := s.mbxPkt) rfl
  have he : effMbxGo s = t.deliver r := by
    rw [← ht]
    simp only [effMbxGo, hb, hf, hm, Bool.not_true, Bool.or_self, Bool.false_eq_true, if_false]
    rfl
  obtain ⟨hbusy, hreply⟩ := t.deliver_mailbox hr
  exact ⟨by rw [he, hbusy], by rw [he, hreply]; rfl⟩

/-! ## The windows (R113) -/

theorem effRegisterWrite_devEvent (v : Word) :
    effRegisterWrite false 8 v s =
      { s with host := { s.host with devEvent := s.host.devEvent &&& ((0x3F ^^^ bits v.toNat 5 0) ||| s.evNow) } } := (rfl)

/-- From 0x2000 on BAR0 has the request memory of the mailbox and nothing that is written. -/
theorem State.writeBar0_from_request {o : Nat} (v : Word) (h : 0x2000 ≤ o) :
    s.writeBar0 o v =
      if o < 0x3000 then { s with host := { s.host with mbxReq := bset s.host.mbxReq ((o - 0x2000) / 4) v } } else s := by
  have h8 : o ≠ 8 := by omega
  have hpair : ¬ (0x0400 ≤ o ∧ o < 0x0800) := by omega
  have hbell : ¬ (0x1000 ≤ o ∧ o < 0x1080) := by omega
  have hmsix : ¬ (0x1800 ≤ o ∧ o < 0x1A00) := by omega
  have hgo : o ≠ 0x1F00 := by omega
  simp only [State.writeBar0, h8, hpair, hbell, hmsix, hgo, h, if_false, true_and]

theorem effRegisterWrite_mbxReq {o : Nat} (v : Word) (ha : o % 4 = 0) (hlo : 0x2000 ≤ o) (hhi : o < 0x3000) :
    effRegisterWrite false o v s = { s with host := { s.host with mbxReq := bset s.host.mbxReq ((o - 0x2000) / 4) v } } :=
  ((if_neg (not_not_intro ha)).trans (s.writeBar0_from_request v hlo)).trans (if_pos hhi)

/-- A write beside the registers changes nothing. -/
theorem effRegisterWrite_unmapped (bar2 : Bool) {o : Nat} (v : Word) (h : o % 4 ≠ 0 ∨ 0x100000 ≤ o) :
    effRegisterWrite bar2 o v s = s := by
  by_cases ha : o % 4 = 0
  · have hhi : 0x100000 ≤ o := h.resolve_left (not_not_intro ha)
    refine (if_neg (not_not_intro ha)).trans ?_
    cases bar2 with
    | false => exact (s.writeBar0_from_request v (by omega)).trans (if_neg (by omega))
    | true =>
      have hout : 0xF0400 ≤ o := by omega
      simp only [State.writeBar2, hout, if_true, decide_true, Bool.or_true, Bool.true_or]
  · exact if_pos ha

/-! ## The ends of the PCIe link (R112) -/

theorem State.pciePair_of_disabled {n : Nat} (h : (s.pair n).en = false) : s.pciePair n = false := by
  simp only [State.pciePair, h, Bool.false_and]

/-- What each pass of a loop brings about for its own element, and no pass undoes, holds for every element in the end. -/
theorem foldl_establishes {α β : Type} {P : β → α → Prop} {g : β → α → β} (hset : ∀ b a, P (g b a) a)
    (hkeep : ∀ b a x, P b x → P (g b a) x) {l : List α} {b : β} {a : α} (ha : a ∈ l) : P (l.foldl g b) a := by
  have hstays : ∀ (l : List α) (b : β) (x : α), P b x → P (l.foldl g b) x := fun l => by
    induction l with
    | nil => exact fun _ _ h => h
    | cons c l ih => exact fun b x h => ih _ x (hkeep b c x h)
  induction l generalizing b with
  | nil => cases ha
  | cons c l ih =>
    rcases List.mem_cons.mp ha with rfl | h
    · exact hstays l _ _ (hset b a)
    · exact ih h

/-- The end of the link disables one pair. -/
def State.losePair (n : Nat) : State :=
  if s.pciePair n then s.drawNat.2.pairError n (1 + s.drawNat.1 % 255) else s

/-- The end of the link closes one session, where PCIe is its link. -/
def State.losePcieSession (n : Nat) : State :=
  match s.sess n with
  | some x => match x.link with
    | .pcie _ => s.endSession n
    | _ => s
  | none => s

theorem State.pcieLost_eq :
    s.pcieLost = (List.range 64).foldl State.losePcieSession ((List.range 16).foldl State.losePair s) := (rfl)

theorem State.losePair_same (n : Nat) : (s.losePair n).pciePair n = false := by
  unfold State.losePair
  split
  · exact State.pciePair_of_disabled _ (by rw [State.pair_pairError_same])
  · next h => exact eq_false_of_ne_true h

theorem State.losePair_keeps (n m : Nat) (h : s.pciePair m = false) : (s.losePair n).pciePair m = false := by
  by_cases hmn : m = n
  · rw [hmn]
    exact State.losePair_same s n
  · unfold State.losePair
    split
    · rw [State.pciePair, State.pair_pairError_other _ _ hmn, State.isSpi_pairError]
      exact h
    · exact h

theorem State.abandon_host : s.abandon.host = s.host := by
  simp [State.abandon_frame]

/-- The end of a session takes it from the table of sessions; the pairs stand. -/
theorem State.endSession_links (n : Nat) :
    (s.endSession n).host.sessions = bset s.host.sessions n none ∧ (s.endSession n).host.pairs = s.host.pairs ∧
    (s.endSession n).host.spiMask = s.host.spiMask := by
  unfold State.endSession
  extract_lets a b _ _ _ c
  have hb : b.host = a.host := ite_agree State.host rfl rfl
  have hc : c.host.sessions = bset s.host.sessions n none ∧ c.host.pairs = s.host.pairs ∧ c.host.spiMask = s.host.spiMask :=
    ⟨(congrArg HostIf.sessions hb :), (congrArg HostIf.pairs hb :), (congrArg HostIf.spiMask hb :)⟩
  split
  · split
    · rw [State.abandon_host]
      exact hc
    · exact hc
  · exact hc

theorem State.pciePair_of_links {s t : State} (hp : t.host.pairs = s.host.pairs) (hm : t.host.spiMask = s.host.spiMask)
    (n : Nat) : t.pciePair n = s.pciePair n := by
  simp only [State.pciePair, State.pair, State.isSpi, hp, hm]

theorem State.losePcieSession_pciePair (n m : Nat) : (s.losePcieSession n).pciePair m = s.pciePair m := by
  obtain ⟨-, hp, hm⟩ := s.endSession_links n
  unfold State.losePcieSession
  split
  · split
    · exact State.pciePair_of_links hp hm m
    · rfl
  · rfl

/-- With the link lost no PCIe pair takes doorbells. -/
theorem State.pcieLost_pciePair (n : Nat) (h : n < 16) : s.pcieLost.pciePair n = false := by
  rw [State.pcieLost_eq, foldl_keep (fun t : State => t.pciePair n) State.losePcieSession fun (t : State) k =>
    t.losePcieSession_pciePair k n]
  exact foldl_establishes (P := fun (t : State) n => t.pciePair n = false) State.losePair_same State.losePair_keeps
    (List.mem_range.mpr h)

/-- So it is in any state with the pairs that the end of the link leaves. -/
theorem State.pciePair_of_lost {t : State} (hp : t.host.pairs = s.pcieLost.host.pairs)
    (hm : t.host.spiMask = s.pcieLost.host.spiMask) (k : Fin 16) : t.pciePair k.val = false :=
  (State.pciePair_of_links hp hm _).trans (s.pcieLost_pciePair _ k.isLt)

theorem effPcieLinkDownTimeout_loses {e : Nat} (hd : s.host.pcieDown = some e) (he : e < s.clk) :
    effPcieLinkDownTimeout s = { s.pcieLost with host := { s.pcieLost.host with pcieDown := none } } := by
  simp only [effPcieLinkDownTimeout, hd, he, if_true]

theorem effPcieLinkDownTimeout_none (hd : s.host.pcieDown = none) : effPcieLinkDownTimeout s = s := by
  simp only [effPcieLinkDownTimeout, hd]

/-- A change of the link while no deadline runs; a link that goes down starts the 100 ms of R112. -/
theorem effPcieLinkChange_host (up : Bool) (hd : s.host.pcieDown = none) :
    (effPcieLinkChange up s).host =
      if up then { s.host with perst := false, pcieUp := true, pcieDown := none }
      else { s.host with pcieUp := false, pcieDown := if s.host.pcieUp then some (s.clk + 100 * msUnits) else none } := by
  cases up <;> simp [effPcieLinkChange, effPcieLinkDownTimeout_none s hd, hd]

end PairRules

/-- Settles O13: each command of a pair, of the windows and of the link through the lemma that says what it does. Table 5.9 is
applied as log entry 14 has it. -/
theorem queuePairAndPcieCommandsComplete : Obligations.QueuePairAndPcieCommandsComplete := by
  unfold Obligations.QueuePairAndPcieCommandsComplete
  refine ⟨?tail, ?head, ?enable, ?disable, ?post, ?mailbox, ?events, ?request, ?unmapped, ?perst, ?down, ?memory, ?link⟩
  case tail =>
    rintro s _ dt n v rfl h
    refine ⟨_, rfl, fun hlt => ?_, fun hle => ?_⟩
    · have hp := congrArg (State.pair · n.val) (effSqTailDoorbell_tail _ n v h hlt)
      rw [State.pair_setPair_same] at hp
      exact ⟨congrArg Pair.sqTail hp, congrArg Pair.owned hp⟩
    · have hp := congrArg (State.pair · n.val) (effSqTailDoorbell_beyond _ n v h hle)
      rw [State.pair_pairError_same] at hp
      exact ⟨congrArg Pair.en hp, congrArg Pair.qerr hp⟩
  case head =>
    rintro s _ dt n v rfl h
    refine ⟨_, rfl, fun hlt => ?_, fun hle => ?_⟩
    · have hp := congrArg (State.pair · n.val) (effCqHeadDoorbell_head _ n v h hlt)
      rw [State.pair_setPair_same] at hp
      exact ⟨congrArg Pair.cqHead hp, congrArg Pair.posted hp⟩
    · have hp := congrArg (State.pair · n.val) (effCqHeadDoorbell_beyond _ n v h hle)
      rw [State.pair_pairError_same] at hp
      exact ⟨congrArg Pair.en hp, congrArg Pair.qerr hp⟩
  case enable =>
    rintro s _ dt n v rfl hr he hs
    refine ⟨_, rfl, fun hok => ?_, fun hbad => ?_⟩
    · exact (congrArg (State.pair · n.val) ((effQcfgEnable_eq _ n v hr he hs).trans (if_pos hok))).trans
        (State.pair_setPair_same ..)
    · have hp := congrArg (State.pair · n.val) ((effQcfgEnable_eq _ n v hr he hs).trans (if_neg (ne_true_of_eq_false hbad)))
      rw [State.pair_pairError_same] at hp
      exact ⟨congrArg Pair.en hp, congrArg Pair.qerr hp⟩
  case disable =>
    rintro s _ dt n v rfl he
    have hp := effQcfgDisable_disables _ n v he
    exact ⟨_, rfl, congrArg Pair.en hp, congrArg Pair.owned hp, congrArg Pair.waiting hp, congrArg Pair.weight hp⟩
  case post =>
    rintro s _ dt n r rest rfl hw he hroom hc
    have hp := congrArg (State.pair · n.val) (effCompletionPost_posts _ n hw he hroom hc)
    obtain ⟨hposted, hwaiting⟩ := State.pair_postCq_same
      ((s.elapse dt).setPair n.val ({ (s.elapse dt).pair n.val with waiting := rest }.release r)) n.val r
    obtain ⟨hrp, hrw, hrph⟩ := Pair.release_completions { (s.elapse dt).pair n.val with waiting := rest } r
    rw [State.pair_setPair_same, hrp, hrph] at hposted
    rw [State.pair_setPair_same, hrw] at hwaiting
    exact ⟨_, rfl, (congrArg Pair.waiting hp).trans hwaiting, (congrArg Pair.posted hp).trans hposted⟩
  case mailbox =>
    rintro s _ dt rfl hb hf hm
    exact ⟨_, rfl, effMbxGo_serves _ hb hf hm⟩
  case events =>
    rintro s _ dt v rfl
    exact ⟨_, rfl, congrArg (fun t : State => t.host.devEvent) (effRegisterWrite_devEvent _ v)⟩
  case request =>
    rintro s _ dt o v rfl ha hlo hhi
    exact ⟨_, rfl, (congrArg (fun t : State => bget 0#32 t.host.mbxReq ((o - 0x2000) / 4))
      (effRegisterWrite_mbxReq _ v ha hlo hhi)).trans (bget_bset_same ..)⟩
  case unmapped =>
    rintro s _ dt bar2 o v rfl h
    refine ⟨_, rfl, ?_⟩
    rw [State.run_host, State.run_can, effRegisterWrite_unmapped _ bar2 v h]
    exact ⟨rfl, rfl⟩
  case perst =>
    rintro s _ dt rfl
    refine ⟨_, rfl, rfl, rfl, rfl, State.pciePair_of_lost (s.elapse dt) ?_ ?_⟩
    · rw [State.run_host, effPerstAssert]
    · rw [State.run_host, effPerstAssert]
  case down =>
    rintro s _ dt e rfl hd he
    have ht := effPcieLinkDownTimeout_loses _ hd he
    refine ⟨_, rfl, ?_, State.pciePair_of_lost (s.elapse dt) ?_ ?_⟩
    · rw [State.run_host, ht]
    · rw [State.run_host, ht]
    · rw [State.run_host, ht]
  case memory =>
    rintro s _ dt n write rfl h
    have he : effPcieHostMemoryError n write (s.elapse dt) = _ := if_pos h
    have hp := congrArg (State.pair · n.val) he
    rw [State.pair_pairError_same] at hp
    exact ⟨_, rfl, congrArg Pair.en hp, congrArg Pair.qerr hp,
      (congrArg (fun t : State => bit t.host.devEvent 3) he).trans (State.devEvent_shows _ 3)⟩
  case link =>
    rintro s _ dt up rfl hd
    refine ⟨_, rfl, ?_⟩
    rw [State.run_host, effPcieLinkChange_host _ up hd]
    cases up with
    | true => exact ⟨rfl, fun _ => rfl, nofun⟩
    | false => exact ⟨rfl, nofun, fun _ hup => congrArg (fun b : Bool => if b then _ else none) hup⟩

end Sys2Proof.Machine
end

section
/-!
SPI transactions, command datagrams, CAN tunnels, notifications and idle sessions (R110, R115 to R120, R123, R127): what each of
them does where it has an effect, and O14 put together from these.
-/

namespace Sys2Proof.Machine

open Sys2Proof

section TunnelRules

variable (s : State)

/-! ## SPI (R115 to R117) -/

/-- A transaction changes what stands on SPI_MISO, and nothing without VSTBY. -/
theorem State.shiftOut_eq (l : List Byte) : s.shiftOut l = { s with host := { s.host with
    spiOut := if s.mu.vstby then toLE 1 s.spiByte ++ l else s.host.spiOut } } := by
  unfold State.shiftOut
  split <;> rfl

/-- A whole packet with room in its pair's SQ is taken. -/
theorem State.takeSubmit_queues {k n c : Nat} {p : Pkt} (hn : s.spiPairs[k]? = some n) (hb : s.mu.booted = true)
    (hr : s.isReady = true) (hc : c = 16 + p.len.toNat) (ho : (s.pair n).owned < 8) :
    s.takeSubmit k p c = s.setPair n { s.pair n with
      sq := (s.pair n).sq ++ [{ p with link := .spi k }], owned := (s.pair n).owned + 1
      sqTail := ((s.pair n).sqTail + 1) % 8 } := by
  simp only [State.takeSubmit, hn, hb, hr, hc, Nat.not_le.mpr ho, Bool.not_true, Bool.false_eq_true, ne_eq, not_true_eq_false,
    if_false, if_true]

/-- A packet that was not clocked whole is rejected. -/
theorem State.takeSubmit_rejects {k n c : Nat} {p : Pkt} (hn : s.spiPairs[k]? = some n) (hb : s.mu.booted = true)
    (hc : c ≠ 16 + p.len.toNat) : s.takeSubmit k p c = s.subReject := by
  simp only [State.takeSubmit, hn, hb, hc, Bool.not_true, Bool.false_eq_true, ne_eq, not_false_eq_true, if_false, if_true]

/-- A completion clocked whole goes. -/
theorem State.takeFetch_takes {k c n : Nat} {x : Reply × Bool × Bool} {rest : List (Reply × Bool × Bool)}
    (hn : s.spiPairs[k]? = some n) (hp : (s.pair n).posted = x :: rest) (hc : 6 + x.1.bytes.length ≤ c) :
    s.takeFetch k c = s.setPair n { s.pair n with posted := rest, cqHead := ((s.pair n).cqHead + 1) % 8 } := by
  simp only [State.takeFetch, hn, hp, hc, if_true]

/-! ## Command datagrams (R118, R119) -/

@[simp] theorem State.sess_setSess_same (n : Nat) (x : Option Session) : (s.setSess n x).sess n = x := bget_bset_same _ _ _ _

/-- A datagram of an open session is authentic with a tag that holds and a counter that has not come before; any other is
dropped and counted. -/
theorem effCmdDatagramRx_session (k : Fin 2) {x : Datagram} {y : Session} (hr : s.isReady = true) (hon : (s.ethU k.val).on = true)
    (hl : (s.ethU k.val).link = true) (hv : x.version = 1) (hf : x.frag = none) (hs : x.session < 64)
    (hy : s.sess x.session = some y) :
    effCmdDatagramRx k x s =
      if y.link = .eth k.val ∧ x.tagOk = true ∧ y.rx < x.counter then
        (s.setSess x.session (some { y with rx := x.counter })).intoInbox { x.pkt with link := .eth k.val }
      else ethDrop s := by
  have hff : x.session ≠ 0xFF := by omega
  simp only [effCmdDatagramRx, hr, hon, hl, hv, hf, hff, hy, hs, State.whole, Bool.not_true, ne_eq, not_true_eq_false, decide_false,
    decide_true, Bool.or_self, Bool.false_eq_true, if_false, Bool.true_and, Bool.and_eq_true, decide_eq_true_eq, and_assoc]

/-- A reassembly that runs out of time is given up. -/
theorem effIpv4ReassemblyTimeout_drops (k : Fin 4) {i e n : Nat} (h : bfind s.host.reasm k.val = some (i, e, n)) (he : e ≤ s.clk)
    (hc : s.fragmentComes i = false) :
    effIpv4ReassemblyTimeout k s = { s with host := { s.host with reasm := bdel s.host.reasm k.val } } := by
  simp only [effIpv4ReassemblyTimeout, h, he, hc, decide_true, Bool.not_false, Bool.and_self, if_true]

/-! ## CAN tunnels (R120) -/

/-- A FIRST frame with index 0 begins a packet, which is whole where it is the LAST too. -/
theorem effCanTunnelFrameRx_first (c : Fin 4) {b : List Byte} (hon : s.canOn c.val = true) (hb : (s.canU c.val).busOff = false)
    (ht : bit (le (s.canU c.val).cfg 28 4) 31 = true) (hl : b.length = 64) (hf : bit (byteAt b 0) 7 = true)
    (hi : bits (byteAt b 0) 5 0 = 0) :
    effCanTunnelFrameRx c b s =
      if bit (byteAt b 0) 6 = true then
        (s.setCan c.val (s.canU c.val).noTunnel).intoInbox (pktOf (.can c.val) (b.drop 1))
      else s.setCan c.val { s.canU c.val with tunnel := b.drop 1, tunnelNext := some 1, tunnelStart := s.clk } := by
  simp only [effCanTunnelFrameRx, hon, hb, ht, hl, hf, hi, Bool.not_true, ne_eq, not_true_eq_false, decide_false, Bool.or_self,
    Bool.false_eq_true, if_false, if_true, List.nil_append, Nat.zero_add, Nat.one_mod]

/-- A tunnel without its next frame for 50 ms is given up. -/
theorem effCanTunnelTimeout_drops (c : Fin 4) (hn : (s.canU c.val).tunnelNext.isSome = true)
    (ht : (s.canU c.val).tunnelStart + 50 * msUnits ≤ s.clk) (hc : s.segmentComes c = false) :
    effCanTunnelTimeout c s = s.setCan c.val (s.canU c.val).noTunnel := by
  simp only [effCanTunnelTimeout, hn, ht, hc, decide_true, Bool.not_false, Bool.and_self, if_true]

/-! ## Notifications (R110, R127) -/

@[simp] theorem State.msix_subs (v : Nat) : (s.msix v).host.subs = s.host.subs := by
  obtain ⟨p, m, h⟩ := s.msix_host v
  rw [h]

theorem State.postCq_subs (n : Nat) (r : Reply) : (s.postCq n r).host.subs = s.host.subs :=
  ite_agree (fun t => t.host.subs) rfl (State.msix_subs ..)

theorem State.toPair_subs (n : Nat) (r : Reply) : (s.toPair n r).host.subs = s.host.subs :=
  ite_agree (fun t => t.host.subs) rfl (ite_agree (fun t => t.host.subs) (State.postCq_subs ..) rfl)

theorem State.ethReply_subs (p : Nat) (r : Reply) : (s.ethReply p r).host.subs = s.host.subs := by
  unfold State.ethReply
  dsimp only
  split
  · rfl
  · split
    · split <;> rfl
    · rfl

/-- A reply on its way leaves the subscriptions as they are. -/
theorem State.deliver_subs (r : Reply) : (s.deliver r).host.subs = s.host.subs := by
  unfold State.deliver
  cases r.link with
  | pcie n => exact State.toPair_subs ..
  | spi k =>
    dsimp only
    split
    · exact State.toPair_subs ..
    · rfl
  | eth p => exact State.ethReply_subs ..
  | can c => simp [State.canReply_frame]
  | mailbox => simp [State.devEvent]
  | ring n => simp [State.objxReply, State.ringTx_frame]

theorem State.notify_subs (r : Reply) : (s.notify r).host.subs = s.host.subs := by
  unfold State.notify
  split
  · exact ite_agree (fun t => t.host.subs) rfl (ite_agree (fun t => t.host.subs) rfl (State.postCq_subs ..))
  · exact State.deliver_subs ..

/-- A subscription that is due and has something to tell takes its next due time and the value it tells. -/
theorem effSubscriptionNotify_subs (i : Fin 256) {x : Sub} (hx : bget none s.host.subs i.val = some x) (hc : s.cpTakes = true)
    (hd : x.due ≤ s.clk) (hm : x.mode ≠ 2 ∨ s.readObj x.idx ≠ x.lastVal) :
    (effSubscriptionNotify i s).host.subs = bset s.host.subs i.val (some { x with
      due := if x.mode = 1 then x.due + x.period * usUnits else s.clk + x.period * usUnits, lastVal := s.readObj x.idx }) := by
  have hnew : (x.mode = 2 && s.readObj x.idx = x.lastVal : Bool) = false := by
    rcases hm with h | h <;> simp [h]
  simp only [effSubscriptionNotify, hx, hc, hnew, Nat.not_lt.mpr hd, Bool.not_true, decide_false, Bool.or_self,
    Bool.false_eq_true, if_false]
  exact State.notify_subs ..

/-! ## Idle sessions (R123) -/

/-- A session of an Ethernet port or a CAN tunnel ends when no command has come for the idle time. -/
theorem effSessionIdleTimeout_ends (k : Fin 64) {x : Session} {m : Nat} (hx : s.sess k.val = some x)
    (hl : x.link = .eth m ∨ x.link = .can m) (hi : x.idle + s.obj Obj.HOST_ETH_IDLE * sUnits ≤ s.clk)
    (hc : s.commandComes k.val = false) : effSessionIdleTimeout k s = s.endSession k.val := by
  rcases hl with h | h <;>
    simp only [effSessionIdleTimeout, hx, h, hi, hc, decide_true, Bool.not_false, Bool.and_self, if_true]

end TunnelRules

/-- Settles O14: each transaction, frame and timeout through the lemma that says what it does. What SPI_MISO shows beside the
bytes of Table 5.14, the spacing of notifications and the byte of the session are as log entries 16 and 52 have them. -/
theorem spiTunnelAndNotifyCommandsComplete : Obligations.SpiTunnelAndNotifyCommandsComplete := by
  unfold Obligations.SpiTunnelAndNotifyCommandsComplete
  refine ⟨?submit, ?reject, ?fetch, ?status, ?unknown, ?datagram, ?drop, ?reassembly, ?first, ?tunnel, ?notify, ?idle⟩
  case submit =>
    rintro s _ dt k p c n rfl hn hb hr hc ho
    refine ⟨_, rfl, ?_⟩
    have hq := State.takeSubmit_queues (p := p) ((s.elapse dt).shiftOut (List.replicate (min 4097 (1 + c)) 0xFF#8))
      (by rw [State.shiftOut_eq]; exact hn) (by rw [State.shiftOut_eq]; exact hb) (by rw [State.shiftOut_eq]; exact hr) hc
      (by rw [State.shiftOut_eq]; exact ho)
    have hp : (s.run dt (effSpiSubmit k p c)).pair n = _ := (congrArg (State.pair · n) hq).trans (State.pair_setPair_same ..)
    rw [hp, State.run_host, effSpiSubmit, hq, State.shiftOut_eq]
    exact ⟨rfl, rfl, rfl⟩
  case reject =>
    rintro s _ dt k p c n rfl hn hb hc
    refine ⟨_, rfl, ?_⟩
    have hq := State.takeSubmit_rejects (p := p) ((s.elapse dt).shiftOut (List.replicate (min 4097 (1 + c)) 0xFF#8))
      (by rw [State.shiftOut_eq]; exact hn) (by rw [State.shiftOut_eq]; exact hb) hc
    rw [State.run_host, effSpiSubmit, hq, State.shiftOut_eq]
    exact ⟨rfl, rfl⟩
  case fetch =>
    rintro s _ dt k c n x rest rfl hn hp hc
    refine ⟨_, rfl, ?_⟩
    have hq := State.takeFetch_takes ((s.elapse dt).shiftOut (((s.elapse dt).fetchOut k.val).take (c - 1)))
      (by rw [State.shiftOut_eq]; exact hn) (by rw [State.shiftOut_eq]; exact hp) hc
    have hpair := congrArg (State.pair · n) hq
    rw [State.pair_setPair_same] at hpair
    refine ⟨congrArg Pair.posted hpair, fun hv => ?_⟩
    rw [State.run_host, effSpiFetch, hq, State.shiftOut_eq]
    exact if_pos hv
  case status =>
    rintro s _ dt rfl
    refine ⟨_, rfl, rfl, fun hv => ?_⟩
    rw [State.run_host, effSpiStatus, State.shiftOut_eq]
    exact if_pos hv
  case unknown =>
    rintro s _ dt b rfl
    refine ⟨_, rfl, ?_⟩
    rw [State.run_host, State.run_dict, State.run_log, effSpiUnknown, State.shiftOut_eq]
    exact ⟨fun hv => if_pos hv, rfl, rfl, rfl, rfl⟩
  case datagram =>
    rintro s _ dt k x y rfl hr hon hl hv hf hs hy hlink htag hrx
    have he := (effCmdDatagramRx_session _ k hr hon hl hv hf hs hy).trans (if_pos ⟨hlink, htag, hrx⟩)
    refine ⟨_, rfl, ?_⟩
    rw [State.run_host, State.sess, State.run_host, he]
    exact ⟨rfl, State.sess_setSess_same ..⟩
  case drop =>
    rintro s _ dt k x y rfl hr hon hl hv hf hs hy hno
    have he := (effCmdDatagramRx_session _ k hr hon hl hv hf hs hy).trans (if_neg fun ⟨_, htag, hrx⟩ =>
      hno.elim (fun h => absurd (h.symm.trans htag) nofun) (fun h => absurd hrx (Nat.not_lt.mpr h)))
    refine ⟨_, rfl, ?_⟩
    rw [State.run_host, State.sess, State.run_host, State.obj, State.run_dict, he]
    exact ⟨rfl, hy, State.obj_setObj_same ..⟩
  case reassembly =>
    rintro s _ dt k i e n rfl h he hc
    exact ⟨_, rfl, congrArg (fun t : State => t.host.reasm) (effIpv4ReassemblyTimeout_drops _ k h he hc)⟩
  case first =>
    rintro s _ dt c b rfl hon hb ht hl hf hi
    have he := effCanTunnelFrameRx_first _ c hon hb ht hl hf hi
    refine ⟨_, rfl, fun hlast => ?_, fun hlast => ?_⟩
    · rw [if_pos hlast] at he
      rw [State.run_host, State.canU, State.run_can, he]
      exact ⟨rfl, congrArg Can.tunnelNext (State.canU_setCan_same (s.elapse dt) c.val _)⟩
    · rw [if_neg (ne_true_of_eq_false hlast)] at he
      have hu := (congrArg (State.canU · c.val) he).trans (State.canU_setCan_same ..)
      exact ⟨congrArg Can.tunnel hu, congrArg Can.tunnelNext hu⟩
  case tunnel =>
    rintro s _ dt c rfl hn ht hc
    have hu := (congrArg (State.canU · c.val) (effCanTunnelTimeout_drops _ c hn ht hc)).trans (State.canU_setCan_same ..)
    exact ⟨_, rfl, congrArg Can.tunnelNext hu, congrArg Can.tunnel hu⟩
  case notify =>
    rintro s _ dt i x rfl hx hc hd hm
    refine ⟨_, rfl, ?_⟩
    rw [State.run_host, effSubscriptionNotify_subs _ i hx hc hd hm, bget_bset_same]
  case idle =>
    rintro s _ dt k x m rfl hx hl hi hc
    obtain ⟨hsess, -, -⟩ := (s.elapse dt).endSession_links k.val
    refine ⟨_, rfl, ?_⟩
    rw [State.sess, State.run_host, effSessionIdleTimeout_ends _ k hx hl hi hc, hsess, bget_bset_same]

end Sys2Proof.Machine
end

section
/-!
What the commands of the host links leave unchanged (R105, R106, R109 to R112, R116, R119, R120): the parts of the state that a
command cannot reach, the objects it does not name, and the pairs beside its own. O42 is put together from these.
-/

namespace Sys2Proof.Machine

open Sys2Proof

section FrameRules

variable (s : State)

/-- Two states with the same parts are the same. -/
theorem State.eq_of_parts {s t : State}
    (h : s.pending = t.pending ∧ s.time = t.time ∧ s.tick = t.tick ∧ s.free = t.free ∧ s.tl = t.tl ∧ s.mu = t.mu ∧
      s.hk = t.hk ∧ s.log = t.log ∧ s.seqs = t.seqs ∧ s.host = t.host ∧ s.dict = t.dict ∧ s.mclk = t.mclk ∧
      s.sd = t.sd ∧ s.aux = t.aux ∧ s.enc = t.enc ∧ s.eng = t.eng ∧ s.slices = t.slices ∧ s.gl = t.gl ∧
      s.ref = t.ref ∧ s.cp = t.cp ∧ s.flk = t.flk ∧ s.ring = t.ring ∧ s.can = t.can ∧ s.canPub = t.canPub ∧
      s.eth = t.eth ∧ s.tio = t.tio ∧ s.dia = t.dia) : s = t := by
  cases s
  cases t
  simpa only [State.mk.injEq] using h

/-! ## Objects -/

theorem State.obj_bump_other {i j : Nat} (m : Nat) (h : j ≠ i) : (s.bump i m).obj j = s.obj j :=
  State.obj_setObj_other s _ h

theorem State.obj_with_host (h : HostIf) (i : Nat) : ({ s with host := h } : State).obj i = s.obj i := (rfl)

/-- The end of a session writes the count of staged objects alone. -/
theorem State.obj_endSession_other (n : Nat) {i : Nat} (h : i ≠ Obj.SAF_STAGED_COUNT) : (s.endSession n).obj i = s.obj i := by
  unfold State.endSession
  extract_lets a b _ _ _ c
  have hc : c.obj i = s.obj i := ite_agree (fun t => t.obj i) rfl (State.obj_setObj_other a _ h)
  split
  · split
    · rw [← hc]
      exact State.obj_of_dict (by simp [State.abandon_frame]) i
    · exact hc
  · exact hc

theorem State.obj_pcieLost_other {i : Nat} (h : i ≠ Obj.SAF_STAGED_COUNT) : s.pcieLost.obj i = s.obj i := by
  have hsession : ∀ (t : State) (n : Nat), (t.losePcieSession n).obj i = t.obj i := fun t n => by
    unfold State.losePcieSession
    split
    · split
      · exact t.obj_endSession_other n h
      · rfl
    · rfl
  have hpair : ∀ (t : State) (n : Nat), (t.losePair n).obj i = t.obj i := fun t n =>
    ite_agree (fun v => v.obj i) (State.obj_of_dict (by simp [State.pairError_frame]) i) rfl
  rw [State.pcieLost_eq, foldl_keep (fun t : State => t.obj i) _ hsession, foldl_keep (fun t : State => t.obj i) _ hpair]

theorem effPerstAssert_obj {i : Nat} (h : i ≠ Obj.SAF_STAGED_COUNT) : (effPerstAssert s).obj i = s.obj i :=
  (State.obj_with_host ..).trans (s.obj_pcieLost_other h)

theorem effPcieLinkDownTimeout_obj {i : Nat} (h : i ≠ Obj.SAF_STAGED_COUNT) : (effPcieLinkDownTimeout s).obj i = s.obj i := by
  unfold effPcieLinkDownTimeout
  split
  · exact ite_agree (fun t => t.obj i) ((State.obj_with_host ..).trans (s.obj_pcieLost_other h)) rfl
  · rfl

theorem effPcieLinkChange_obj (up : Bool) {i : Nat} (h : i ≠ Obj.SAF_STAGED_COUNT) :
    (effPcieLinkChange up s).obj i = s.obj i := by
  rw [← effPcieLinkDownTimeout_obj s h]
  exact ite_agree (fun t => t.obj i) rfl rfl

theorem effSessionIdleTimeout_obj (k : Fin 64) {i : Nat} (h : i ≠ Obj.SAF_STAGED_COUNT) :
    (effSessionIdleTimeout k s).obj i = s.obj i := by
  unfold effSessionIdleTimeout
  split
  · split
    · exact ite_agree (fun t => t.obj i) (s.obj_endSession_other _ h) rfl
    · exact ite_agree (fun t => t.obj i) (s.obj_endSession_other _ h) rfl
    · rfl
  · rfl

/-- A notification changes one object, the count of those that were dropped. -/
theorem State.obj_notify_other (r : Reply) {i : Nat} (h : i ≠ Obj.HOST_NOTIFY_DROPS) : (s.notify r).obj i = s.obj i := by
  unfold State.notify
  split
  · exact ite_agree (fun t => t.obj i) rfl (ite_agree (fun t => t.obj i) (State.obj_bump_other _ _ h)
      (State.obj_of_dict (by simp [State.postCq_frame]) i))
  · exact State.obj_of_dict (by simp [State.deliver_frame]) i

theorem effSubscriptionNotify_obj (k : Fin 256) {i : Nat} (h : i ≠ Obj.HOST_NOTIFY_DROPS) :
    (effSubscriptionNotify k s).obj i = s.obj i := by
  unfold effSubscriptionNotify
  split
  · exact ite_agree (fun t => t.obj i) rfl (State.obj_notify_other _ _ h)
  · rfl

/-! ## Datagrams (R119) -/

theorem State.whole_frame {s t : State} {frag : Option Nat} (h : s.whole frag = some t) :
    t = { s with host := t.host } := by
  unfold State.whole at h
  split at h
  · cases h
    rfl
  · split at h
    · cases h
      rfl
    · cases h

/-- What a datagram may change: the host links, and in the dictionary the count of datagrams that were dropped. -/
structure State.DatagramReach (s t : State) : Prop where
  parts : t = { s with host := t.host, dict := t.dict }
  objects : ∀ i, i ≠ Obj.HOST_ETH_DROPS → t.obj i = s.obj i

theorem State.DatagramReach.of_host {s t : State} (h : t = { s with host := t.host }) : DatagramReach s t :=
  ⟨by rw [h], fun i _ => State.obj_of_dict (by rw [h]) i⟩

theorem State.DatagramReach.ethDrop {s t : State} (h : t = { s with host := t.host }) : DatagramReach s (ethDrop t) :=
  ⟨by rw [h]; rfl, fun i hi => (State.obj_bump_other t _ hi).trans (State.obj_of_dict (by rw [h]) i)⟩

theorem effCmdDatagramRx_reach (k : Fin 2) (x : Datagram) : State.DatagramReach s (effCmdDatagramRx k x s) := by
  unfold effCmdDatagramRx
  dsimp only
  split
  · exact .of_host rfl
  · cases hw : s.whole x.frag with
    | none => exact .of_host rfl
    | some t =>
      have ht := State.whole_frame hw
      have hinbox : ∀ p : Pkt, State.DatagramReach s (t.intoInbox p) := fun p => .of_host (by rw [ht]; rfl)
      dsimp only
      split
      · split
        · exact hinbox _
        · exact .of_host ht
      · split
        · split
          · exact .of_host (by rw [ht]; rfl)
          · exact .ethDrop ht
        · exact .ethDrop ht

/-! ## Commands that the MU runs (R114, R117) -/

/-- The opcodes that the MU takes reach neither the real-time count, nor housekeeping, nor the CP. -/
theorem opOf_muTakes_keeps {s : State} {c : Nat} {op : Pkt → State → Res} (h : s.muTakes c = true) (ho : opOf c = some op)
    (p : Pkt) (t : State) :
    (op p t).st.tick = t.tick ∧ (op p t).st.hk = t.hk ∧ (op p t).st.cp = t.cp := by
  have hc : c = 0x0003 ∨ c = 0x7010 ∨ c = 0x7020 ∨ c = 0x7000 ∨ c = 0x7001 ∨ c = 0x7002 ∨ c = 0x0010 := by
    refine Classical.byContradiction fun hno => ?_
    simp only [not_or] at hno
    obtain ⟨h1, h2, h3, h4, h5, h6, h7⟩ := hno
    have hrange : ¬ (0x7000 ≤ c ∧ c ≤ 0x7002) := by omega
    simp [State.muTakes, h1, h2, h3, h7, ← Bool.decide_and, hrange] at h
  rcases hc with rfl | rfl | rfl | rfl | rfl | rfl | rfl
  all_goals
    cases ho
    simp [opGetInfo_frame, opAttest_frame, opLogRead_frame, opIngotBegin_frame, opIngotData_frame, opIngotEnd_frame,
      opReset_frame]

/-- The parts that no command of the MU reaches: the real-time count, housekeeping and the CP. -/
def State.aside : Nat × Hk × Cp := (s.tick, s.hk, s.cp)

theorem State.muExec_aside (p : Pkt) : (s.muExec p).aside = s.aside := by
  unfold State.muExec
  dsimp only
  generalize hv : s.record (srcAccept p.link) s.now [] = v
  have hs : v.aside = s.aside := by
    rw [← hv]
    simp [State.aside, State.record_frame]
  have hdeliver : ∀ (t : State) (r : Reply) (src : Nat) (st : Stamp), ((t.record src st []).deliver r).aside = t.aside :=
    fun t r src st => by simp [State.aside, State.record_frame, State.deliver_frame]
  rw [hdeliver, ← hs]
  split
  · rfl
  · split
    · rfl
    · split
      · rfl
      · next htakes =>
        split
        · rfl
        · split
          · next op ho =>
            obtain ⟨htick, hhk, hcp⟩ := opOf_muTakes_keeps (by simpa using htakes) ho p v
            exact Prod.ext htick (Prod.ext hhk hcp)
          · rfl

theorem State.muRun_aside (p : Pkt) : (s.muRun p).aside = s.aside := by
  have hanswer : ∀ (t : State) (e st : Nat), (t.answer p e st).aside = t.aside := fun t e st => by
    simp [State.aside, State.answer_frame]
  have hrecord : ∀ (t : State) (src : Nat) (st : Stamp), (t.record src st []).aside = t.aside := fun t src st => by
    simp [State.aside, State.record_frame]
  unfold State.muRun
  split
  · refine ite_agree State.aside ?_ (hanswer ..)
    rw [hanswer, hrecord, hrecord]
  · exact ite_agree State.aside (hanswer ..) (s.muExec_aside p)

theorem effMbxGo_aside : (effMbxGo s).aside = s.aside :=
  ite_agree State.aside rfl (ite_agree State.aside rfl ((State.muRun_aside _ _).trans rfl))

theorem State.takeSubmit_aside (k c : Nat) (p : Pkt) : (s.takeSubmit k p c).aside = s.aside := by
  unfold State.takeSubmit
  dsimp only
  split
  · rfl
  · refine ite_agree State.aside rfl (ite_agree State.aside rfl (ite_agree State.aside ?_ ?_))
    · exact ite_agree State.aside rfl rfl
    · exact ite_agree State.aside rfl (s.muRun_aside _)

theorem effSpiSubmit_aside (k c : Nat) (p : Pkt) : (effSpiSubmit k p c s).aside = s.aside := by
  rw [effSpiSubmit, State.takeSubmit_aside, State.shiftOut_eq]
  rfl

theorem State.writeBar0_aside (o : Nat) (v : Word) : (s.writeBar0 o v).aside = s.aside := by
  have hpair : ∀ n o, (s.writePair n o v).aside = s.aside := fun n o => by simp [State.aside, State.writePair_frame]
  have htail : ∀ n, (effSqTailDoorbell n v s).aside = s.aside := fun n => by simp [State.aside, effSqTailDoorbell_frame]
  have hhead : ∀ n, (effCqHeadDoorbell n v s).aside = s.aside := fun n => by simp [State.aside, effCqHeadDoorbell_frame]
  have hmsix : ∀ i, (s.writeMsix i v).aside = s.aside := fun i => by simp [State.aside, State.writeMsix_frame]
  unfold State.writeBar0
  refine ite_agree State.aside rfl (ite_agree State.aside (hpair _ _) (ite_agree State.aside ?bells
    (ite_agree State.aside (hmsix _) (ite_agree State.aside ?go (ite_agree State.aside rfl rfl)))))
  case bells => exact ite_agree State.aside (htail _) (hhead _)
  case go => exact ite_agree State.aside (effMbxGo_aside s) rfl

theorem effRegisterWrite_aside (bar2 : Bool) (o : Nat) (v : Word) : (effRegisterWrite bar2 o v s).aside = s.aside := by
  refine ite_agree State.aside rfl (ite_agree State.aside ?_ (s.writeBar0_aside o v))
  simp [State.aside, State.writeBar2_frame]

/-- A command that leaves these parts aside keeps them, the counter and the queue. -/
theorem State.run_of_aside {dt : Nat} {f : State → State} (h : (f (s.elapse dt)).aside = (s.elapse dt).aside) :
    (s.run dt f).pending = s.pending ∧ (s.run dt f).time = (s.elapse dt).time ∧ (s.run dt f).tick = s.tick + dt ∧
    (s.run dt f).hk = s.hk ∧ (s.run dt f).cp = s.cp := by
  obtain ⟨htick, hrest⟩ := Prod.mk.inj h
  obtain ⟨hhk, hcp⟩ := Prod.mk.inj hrest
  exact ⟨rfl, rfl, htick, hhk, hcp⟩

/-! ## The other pairs (R105) -/

theorem effSqTailDoorbell_other (n : Fin 16) (v : Word) {m : Nat} (h : m ≠ n.val) :
    (effSqTailDoorbell n v s).pair m = s.pair m :=
  ite_agree (State.pair · m) rfl (ite_agree (State.pair · m) (s.pair_pairError_other 1 h) (s.pair_setPair_other _ h))

theorem effCqHeadDoorbell_other (n : Fin 16) (v : Word) {m : Nat} (h : m ≠ n.val) :
    (effCqHeadDoorbell n v s).pair m = s.pair m :=
  ite_agree (State.pair · m) rfl (ite_agree (State.pair · m) (s.pair_pairError_other 1 h) (s.pair_setPair_other _ h))

theorem effQcfgEnable_other (n : Fin 16) (v : Word) {m : Nat} (h : m ≠ n.val) : (effQcfgEnable n v s).pair m = s.pair m := by
  refine ite_agree (State.pair · m) rfl (ite_agree (State.pair · m) (s.pair_setPair_other _ h) (ite_agree (State.pair · m) ?spi
    (ite_agree (State.pair · m) ?bad (s.pair_setPair_other _ h))))
  case spi => rw [State.pair_devEvent, State.pair_setPair_other _ _ h]
  case bad => rw [State.pair_pairError_other _ _ h, State.pair_setPair_other _ _ h]

theorem effQcfgDisable_other (n : Fin 16) (v : Word) {m : Nat} (h : m ≠ n.val) : (effQcfgDisable n v s).pair m = s.pair m := by
  refine ite_agree (State.pair · m) ?_ (s.pair_setPair_other _ h)
  rw [State.pair_modPair_other _ _ h, State.pair_disablePair_other _ h]

theorem effCompletionPost_other (n : Fin 16) {m : Nat} (h : m ≠ n.val) : (effCompletionPost n s).pair m = s.pair m := by
  unfold effCompletionPost
  dsimp only
  split
  · refine ite_agree (State.pair · m) ?_ rfl
    rw [State.pair_postCq_other _ _ h, State.pair_setPair_other _ _ h]
  · rfl

end FrameRules

/-- Settles O42: what each command leaves comes from what its effect leaves, and its own pair is the only one it writes. -/
theorem hostLinkFrames : Obligations.HostLinkFrames := by
  unfold Obligations.HostLinkFrames
  refine ⟨?pairs, ?mbx, ?pcie, ?submit, ?spi, ?datagram, ?tunnel, ?tunnelTimeout, ?notify, ?idle, ?others⟩
  case pairs =>
    rintro s t dt c (⟨n, v, rfl⟩ | ⟨n, v, rfl⟩ | ⟨n, v, rfl⟩ | ⟨n, v, rfl⟩ | ⟨n, rfl⟩ | ⟨n, w, rfl⟩) ht <;>
      obtain rfl := Host.Outcome.next.inj ht
    · exact State.eq_of_parts (by simp [effSqTailDoorbell_frame])
    · exact State.eq_of_parts (by simp [effCqHeadDoorbell_frame])
    · exact State.eq_of_parts (by simp [effQcfgEnable_frame])
    · exact State.eq_of_parts (by simp [effQcfgDisable_frame])
    · exact State.eq_of_parts (by simp [effCompletionPost_frame])
    · exact State.eq_of_parts (by simp [effPcieHostMemoryError_frame])
  case mbx =>
    rintro s t dt c (rfl | ⟨bar2, o, v, rfl⟩) ht <;> obtain rfl := Host.Outcome.next.inj ht
    · exact s.run_of_aside (effMbxGo_aside _)
    · exact s.run_of_aside (effRegisterWrite_aside _ bar2 o v)
  case pcie =>
    rintro s t dt c (rfl | rfl | ⟨up, rfl⟩) ht <;> obtain rfl := Host.Outcome.next.inj ht
    · exact ⟨State.eq_of_parts (by simp [effPerstAssert_frame]), fun i hi =>
        (State.obj_of_dict (s.run_dict dt effPerstAssert) i).trans (effPerstAssert_obj _ hi)⟩
    · exact ⟨State.eq_of_parts (by simp [effPcieLinkDownTimeout_frame]), fun i hi => effPcieLinkDownTimeout_obj _ hi⟩
    · exact ⟨State.eq_of_parts (by simp [effPcieLinkChange_frame]), fun i hi => effPcieLinkChange_obj _ up hi⟩
  case submit =>
    rintro s t dt c ⟨k, p, n, rfl⟩ ht
    obtain rfl := Host.Outcome.next.inj ht
    exact s.run_of_aside (effSpiSubmit_aside _ k n p)
  case spi =>
    rintro s t dt c (⟨k, n, rfl⟩ | rfl | ⟨b, rfl⟩ | ⟨k, rfl⟩) ht <;> obtain rfl := Host.Outcome.next.inj ht
    · exact State.eq_of_parts (by simp [effSpiFetch_frame])
    · exact State.eq_of_parts (by simp [effSpiStatus_frame])
    · exact State.eq_of_parts (by simp [effSpiUnknown_frame])
    · exact State.eq_of_parts (by simp [effIpv4ReassemblyTimeout_frame])
  case datagram =>
    rintro s t dt c ⟨k, x, rfl⟩ ht
    obtain rfl := Host.Outcome.next.inj ht
    obtain ⟨hparts, hobj⟩ := effCmdDatagramRx_reach (s.elapse dt) k x
    refine ⟨?_, hobj⟩
    rw [State.run, hparts]
    rfl
  case tunnel =>
    rintro s t dt c ⟨k, b, rfl⟩ ht
    obtain rfl := Host.Outcome.next.inj ht
    exact State.eq_of_parts (by simp [effCanTunnelFrameRx_frame])
  case tunnelTimeout =>
    rintro s t dt c ⟨k, rfl⟩ ht
    obtain rfl := Host.Outcome.next.inj ht
    exact State.eq_of_parts (by simp [effCanTunnelTimeout_frame])
  case notify =>
    rintro s t dt c ⟨k, rfl⟩ ht
    obtain rfl := Host.Outcome.next.inj ht
    exact ⟨State.eq_of_parts (by simp [effSubscriptionNotify_frame]), fun i hi => effSubscriptionNotify_obj _ k hi⟩
  case idle =>
    rintro s t dt c ⟨k, rfl⟩ ht
    obtain rfl := Host.Outcome.next.inj ht
    exact ⟨State.eq_of_parts (by simp [effSessionIdleTimeout_frame]), fun i hi => effSessionIdleTimeout_obj _ k hi⟩
  case others =>
    rintro s t dt c n (⟨v, rfl⟩ | ⟨v, rfl⟩ | ⟨v, rfl⟩ | ⟨v, rfl⟩ | rfl) ht m hm <;>
      obtain rfl := Host.Outcome.next.inj ht
    · exact effSqTailDoorbell_other _ n v hm
    · exact effCqHeadDoorbell_other _ n v hm
    · exact effQcfgEnable_other _ n v hm
    · exact effQcfgDisable_other _ n v hm
    · exact effCompletionPost_other _ n hm

end Sys2Proof.Machine
end

section
/-!
The auxiliary converters (R158 to R168): what a result does to its unit, to the unit's status word and to the channel's value, and
what a pending trigger that follows it leaves of these. O57 is put together from these.
-/

namespace Sys2Proof.Machine

open Sys2Proof

/-! ## Fields of a status word -/

theorem bits_mul_le (v hi lo : Nat) : 2 ^ lo * bits v hi lo ≤ v :=
  Nat.le_trans (Nat.mul_le_mul_left _ (Nat.mod_le _ _)) (Nat.mul_div_le v (2 ^ lo))

/-- A field that is replaced leaves every bit below it. -/
theorem bit_putBits_below (v hi x : Nat) {lo k : Nat} (h : k < lo) : bit (putBits v hi lo x) k = bit v k := by
  have hmod : putBits v hi lo x % 2 ^ lo = v % 2 ^ lo := by
    rw [putBits, Nat.add_mul_mod_self_right, Nat.mul_comm, Nat.sub_mul_mod (bits_mul_le v hi lo)]
  have hlow : ∀ n : Nat, bit n k = (n % 2 ^ lo).testBit k := fun n => by
    rw [bit_eq_testBit, Nat.testBit_mod_two_pow, decide_eq_true h, Bool.true_and]
  rw [hlow, hlow, hmod]

/-- A flag that is set stands. -/
theorem bit_putBits_flag (v k : Nat) : bit (putBits v k k 1) k = true := by
  have hdiv : putBits v k k 1 / 2 ^ k = v / 2 ^ k - v / 2 ^ k % 2 + 1 := by
    rw [putBits, Nat.add_mul_div_right _ _ (Nat.two_pow_pos k), Nat.mul_comm, Nat.sub_mul_div, bits,
      Nat.sub_self, Nat.zero_add, Nat.pow_one]
  rw [bit, hdiv]
  exact decide_eq_true (by omega)

section AuxRules

variable (s : State)

/-! ## Objects and units after a write -/

@[simp] theorem State.auxU_setAux_same (u : Nat) (v : Aux) : (s.setAux u v).auxU u = v := bget_bset_same _ _ _ _

@[simp] theorem State.auxU_modAux_same (u : Nat) (f : Aux → Aux) : (s.modAux u f).auxU u = f (s.auxU u) :=
  s.auxU_setAux_same u _

theorem State.auxU_of_aux {s t : State} (h : t.aux = s.aux) (u : Nat) : t.auxU u = s.auxU u := by
  simp only [State.auxU, h]

theorem State.inFlask_of_dict {s t : State} (h : t.dict = s.dict) : t.inFlask = s.inFlask := by
  simp only [State.inFlask, State.obj, h]

theorem State.obj_setFlag_same (i mask : Nat) : (s.setFlag i mask).obj i = s.obj i ||| mask :=
  State.obj_setObj_same _ _ _

theorem State.obj_setFlag_other {i j : Nat} (mask : Nat) (h : j ≠ i) : (s.setFlag i mask).obj j = s.obj j :=
  State.obj_setObj_other (s.noteSet i mask) _ h

theorem State.obj_bumpField_same (i hi lo : Nat) :
    (s.bumpField i hi lo).obj i = putBits (s.obj i) hi lo (min (2 ^ (hi - lo + 1) - 1) (bits (s.obj i) hi lo + 1)) :=
  State.obj_setObj_same _ _ _

theorem State.obj_bumpField_other {i j : Nat} (hi lo : Nat) (h : j ≠ i) : (s.bumpField i hi lo).obj j = s.obj j :=
  State.obj_setField_other s _ _ _ h

theorem State.record_dict (src : Nat) (x : Stamp) (b : List Byte) : (s.record src x b).dict = s.dict := by
  simp [State.record_frame]

theorem State.obj_record (src : Nat) (x : Stamp) (b : List Byte) (i : Nat) : (s.record src x b).obj i = s.obj i :=
  State.obj_of_dict (s.record_dict src x b) i

theorem State.obj_ringTx (type dst : Nat) (b : List Byte) (i : Nat) : (s.ringTx type dst b).obj i = s.obj i :=
  State.obj_of_dict (by simp [State.ringTx_frame]) i

/-- A mirror item changes no object but RING_STAT, where it overflows (R330). -/
theorem State.obj_mirrorPut_other (x : Stamp) (b : MirrorBody) {i : Nat} (h : i ≠ Obj.RING_STAT) :
    (s.mirrorPut x b).obj i = s.obj i := by
  have hsend : ∀ (t : State) (m : MirrorItem), (t.sendItem m).obj i = t.obj i := fun t m =>
    foldl_keep (fun v : State => v.obj i) _ (fun v c => v.obj_ringTx 3 v.partnerId c i) _ t
  unfold State.mirrorPut
  exact ite_agree (fun t => t.obj i) (hsend _ _) ((State.obj_ringTx ..).trans (State.obj_setFlag_other _ _ h))

theorem State.obj_auxValue_same (k : Nat) (x : Stamp) (v : F32) : (s.auxValue k x v).obj (Obj.AUX_VALUE + k) = v.toNat :=
  bget_bset_same _ _ _ _

theorem State.obj_auxValue_other {i k : Nat} (x : Stamp) (v : F32) (h : i ≠ Obj.AUX_VALUE + k) :
    (s.auxValue k x v).obj i = s.obj i := bget_bset_other _ _ _ h

theorem State.run_auxU (dt : Nat) (f : State → State) (u : Nat) : (s.run dt f).auxU u = (f (s.elapse dt)).auxU u := (rfl)

theorem State.run_obj (dt : Nat) (f : State → State) (i : Nat) : (s.run dt f).obj i = (f (s.elapse dt)).obj i := (rfl)

/-! ## A result (R164 to R168) -/

/-- The order in which the two ends of the range are looked at is of no account: no level lies beyond both. -/
theorem auxCode_eq (level : Int) :
    auxCode level = if level > 0xFFF then (0xFFF, true) else if level < 0 then (0x000, true) else (level.toNat, false) := by
  unfold auxCode
  split
  · rw [if_neg (by omega)]
  · rfl

/-- The value of a channel's code: with the correction, then the gain in the upper and the offset in the lower half of the
channel's AUX_CH_SCALE (R165). -/
def State.auxScaled (i code : Nat) (corr : F32) : F32 :=
  fAddS (fMulS (BitVec.ofNat 32 (bits (s.obj (Obj.AUX_CH_SCALE + i)) 63 32)) (fMulS (f32OfInt code) corr))
    (BitVec.ofNat 32 (bits (s.obj (Obj.AUX_CH_SCALE + i)) 31 0))

/-- A unit with the settle mark and the sticky flag that a result with this OVR leaves (R167, R168). -/
def State.auxMarked (u : Nat) (ovr : Bool) : State :=
  let t := s.modAux u fun a => { a with settle := ovr }
  if ovr then t.setFlag (Obj.AUX_STAT + u) 2 else t

theorem State.auxMarked_auxU (u : Nat) (ovr : Bool) : (s.auxMarked u ovr).auxU u = { s.auxU u with settle := ovr } := by
  have hmod := s.auxU_modAux_same u fun a => { a with settle := ovr }
  unfold State.auxMarked
  exact ite_agree (fun t => t.auxU u) hmod hmod

theorem State.auxMarked_stat (u : Nat) (ovr : Bool) :
    bit ((s.auxMarked u ovr).obj (Obj.AUX_STAT + u)) 1 = (ovr || bit (s.obj (Obj.AUX_STAT + u)) 1) := by
  cases ovr with
  | false => rfl
  | true =>
    have hset : (s.auxMarked u true).obj (Obj.AUX_STAT + u) = s.obj (Obj.AUX_STAT + u) ||| 2 ^ 1 := State.obj_setFlag_same _ _ _
    rw [hset, bit_or, bit_two_pow, Bool.or_true, Bool.true_or]

theorem State.auxMarked_obj_other {u i : Nat} (ovr : Bool) (h : i ≠ Obj.AUX_STAT + u) : (s.auxMarked u ovr).obj i = s.obj i :=
  ite_agree (fun t => t.obj i) (State.obj_setFlag_other _ _ h) rfl

/-- Where a result goes: the active mirrors it, a device that follows one keeps it to itself, any other writes the value (R166). -/
def State.auxPublished (k code flags : Nat) (x : Stamp) (v : F32) : State :=
  if s.inFlask && s.isActive then s.mirrorPut s.now (.aux k code flags x v) else if s.follows then s else s.auxValue k x v

theorem State.auxPublished_auxU (k code flags : Nat) (x : Stamp) (v : F32) (u : Nat) :
    (s.auxPublished k code flags x v).auxU u = s.auxU u :=
  ite_agree (fun t => t.auxU u) (State.auxU_of_aux (by simp [State.mirrorPut_frame]) u) (ite_agree (fun t => t.auxU u) rfl rfl)

theorem State.auxPublished_obj_other (k code flags : Nat) (x : Stamp) (v : F32) {i : Nat} (hr : i ≠ Obj.RING_STAT)
    (hv : i ≠ Obj.AUX_VALUE + k) : (s.auxPublished k code flags x v).obj i = s.obj i :=
  ite_agree (fun t => t.obj i) (State.obj_mirrorPut_other _ _ _ hr)
    (ite_agree (fun t => t.obj i) rfl (State.obj_auxValue_other _ _ _ hv))

theorem State.auxPublished_alone (k code flags : Nat) (x : Stamp) (v : F32) (h : s.inFlask = false) :
    s.auxPublished k code flags x v = s.auxValue k x v := by
  simp only [State.auxPublished, State.follows, h, Bool.false_and, Bool.false_eq_true, if_false]

/-- A result is marked and recorded, then it goes where the device's role sends it. -/
theorem State.auxDeliver_eq (u : Nat) (c : AuxConv) (x : Stamp) (level : Int) (corr : F32) :
    ∃ (n : Nat) (b : List Byte), s.auxDeliver u c x level corr =
      ((s.auxMarked u (auxCode level).2).record (0x41 + u) x b).auxPublished (8 * u + c.chan) (auxCode level).1 n x
        (s.auxScaled (8 * u + c.chan) (auxCode level).1 corr) := ⟨_, _, rfl⟩

theorem State.auxDeliver_auxU (u : Nat) (c : AuxConv) (x : Stamp) (level : Int) (corr : F32) :
    (s.auxDeliver u c x level corr).auxU u = { s.auxU u with settle := (auxCode level).2 } := by
  obtain ⟨n, b, h⟩ := s.auxDeliver_eq u c x level corr
  rw [h, State.auxPublished_auxU, ← s.auxMarked_auxU]
  exact State.auxU_of_aux (by simp [State.record_frame]) u

/-- An OVR result sets the sticky flag, any other leaves it (R167). -/
theorem State.auxDeliver_stat {u : Nat} (hu : u < 4) (c : AuxConv) (x : Stamp) (level : Int) (corr : F32) :
    bit ((s.auxDeliver u c x level corr).obj (Obj.AUX_STAT + u)) 1
      = ((auxCode level).2 || bit (s.obj (Obj.AUX_STAT + u)) 1) := by
  obtain ⟨n, b, h⟩ := s.auxDeliver_eq u c x level corr
  have hring : Obj.AUX_STAT + u ≠ Obj.RING_STAT := by simp only [Obj.AUX_STAT, Obj.RING_STAT]; omega
  have hval : Obj.AUX_STAT + u ≠ Obj.AUX_VALUE + (8 * u + c.chan) := by simp only [Obj.AUX_STAT, Obj.AUX_VALUE]; omega
  rw [h, State.auxPublished_obj_other _ _ _ _ _ _ hring hval, State.obj_record, s.auxMarked_stat]

/-- Outside a Flask the result is the channel's value (R165, R166). -/
theorem State.auxDeliver_value {u : Nat} (hu : u < 4) (c : AuxConv) (x : Stamp) (level : Int) (corr : F32) (h : s.inFlask = false) :
    (s.auxDeliver u c x level corr).obj (Obj.AUX_VALUE + (8 * u + c.chan))
      = (s.auxScaled (8 * u + c.chan) (auxCode level).1 corr).toNat := by
  obtain ⟨n, b, he⟩ := s.auxDeliver_eq u c x level corr
  have hcfg : Obj.FLK_CFG ≠ Obj.AUX_STAT + u := by simp only [Obj.FLK_CFG, Obj.AUX_STAT]; omega
  have hflask : ((s.auxMarked u (auxCode level).2).record (0x41 + u) x b).inFlask = false := by
    rw [State.inFlask_of_dict (State.record_dict ..), State.inFlask, State.auxMarked_obj_other s _ hcfg]
    exact h
  rw [he, State.auxPublished_alone _ _ _ _ _ _ hflask]
  exact State.obj_auxValue_same _ _ _ _

/-! ## The end of a conversion (R161, R162) -/

/-- The correction of a result: the one in force where it has stood since the sample, else the one sampled (R165). -/
def State.auxCorr (u : Nat) (x : Stamp) (corr : F32) : F32 :=
  if (bget {} s.dict.info (Obj.AUX_REF_CORR + u)).stamp ≤ x then s.objF (Obj.AUX_REF_CORR + u) else corr

/-- The unit has delivered its result and is free. -/
def State.auxDone (u : Nat) (c : AuxConv) (x : Stamp) (level : Int) (corr : F32) : State :=
  let t := s.auxDeliver u c x level (s.auxCorr u x corr)
  t.modAux u fun a => { a with conv := none, ended := some t.now }

/-- A unit that is free takes the trigger that waits, or drops it as stale. -/
def State.auxNext (u : Nat) : State :=
  match (s.auxU u).pend with
  | none => s
  | some p =>
    let t := s.modAux u fun a => { a with pend := none }
    if t.clk ≤ p.deadline then t.auxStart u p.chan p.trigger true p.host
    else (t.bumpField (Obj.AUX_STAT + u) 15 8).post (srcOwner (t.auxOwner u)) 0x0311 (8 * u + p.chan) p.trigger

theorem effAuxConversionEnd_eq (u : Fin 4) {c : AuxConv} {x : Stamp} {level : Int} {corr : F32}
    (hc : (s.auxU u.val).conv = some c) (hs : c.sampled = some (x, level, corr)) (hd : c.start + c.fullLen ≤ s.clk) :
    effAuxConversionEnd u s = (s.auxDone u.val c x level corr).auxNext u.val := by
  simp only [effAuxConversionEnd, State.auxEnd, hc, hs, if_pos hd]
  rfl

theorem State.auxDone_auxU (u : Nat) (c : AuxConv) (x : Stamp) (level : Int) (corr : F32) :
    (s.auxDone u c x level corr).auxU u
      = { s.auxU u with conv := none, ended := some s.now, settle := (auxCode level).2 } := by
  have hnow : (s.auxDeliver u c x level (s.auxCorr u x corr)).now = s.now := by simp [State.now, State.auxDeliver_frame]
  rw [State.auxDone, State.auxU_modAux_same, s.auxDeliver_auxU, hnow]

theorem State.auxDone_obj (u : Nat) (c : AuxConv) (x : Stamp) (level : Int) (corr : F32) (i : Nat) :
    (s.auxDone u c x level corr).obj i = (s.auxDeliver u c x level (s.auxCorr u x corr)).obj i := (rfl)

theorem State.auxNext_none {u : Nat} (h : (s.auxU u).pend = none) : s.auxNext u = s := by
  rw [State.auxNext, h]

/-- Neither the next conversion nor a stale trigger touches the settle mark, the sticky flag or a channel's value. -/
theorem State.auxNext_keeps {u : Nat} (hu : u < 4) :
    ((s.auxNext u).auxU u).settle = (s.auxU u).settle ∧
    bit ((s.auxNext u).obj (Obj.AUX_STAT + u)) 1 = bit (s.obj (Obj.AUX_STAT + u)) 1 ∧
    ∀ i, i ≠ Obj.AUX_STAT + u → i ≠ Obj.MGT_LOG_STAT → (s.auxNext u).obj i = s.obj i := by
  have hlog : Obj.AUX_STAT + u ≠ Obj.MGT_LOG_STAT := by simp only [Obj.AUX_STAT, Obj.MGT_LOG_STAT]; omega
  unfold State.auxNext
  split
  · exact ⟨rfl, rfl, fun _ _ _ => rfl⟩
  · dsimp only
    split
    case isTrue => exact ⟨by simp [State.auxStart], rfl, fun _ _ _ => rfl⟩
    case isFalse =>
      refine ⟨?_, ?_, fun i hi hl => (State.obj_post_other _ _ _ _ _ hl).trans (State.obj_bumpField_other _ _ _ hi)⟩
      · rw [State.auxU_of_aux (s := s.modAux u fun a => { a with pend := none }) (by simp [State.post_frame])]
        simp
      · rw [State.obj_post_other _ _ _ _ _ hlog, State.obj_bumpField_same, bit_putBits_below _ _ _ (by decide)]
        rfl

/-! ## The end of sampling, and the tick after the last conversion (R158, R159) -/

/-- The end of sampling takes the level and the correction of this tick (R158, R165). -/
theorem effAuxSampleEnd_samples (k : Fin 4) (level : Int) {c : AuxConv} (hc : (s.auxU k.val).conv = some c) (hs : c.sampled = none)
    (hd : c.start + c.sampleLen ≤ s.clk) :
    (effAuxSampleEnd k level s).auxU k.val =
      { s.auxU k.val with conv := some { c with sampled := some (s.now, level, s.objF (Obj.AUX_REF_CORR + k.val)) } } := by
  simp only [effAuxSampleEnd, State.auxU_modAux_same, hc, hs, decide_eq_true hd, Option.map_some, Option.isNone_none, Bool.and_self,
    if_true]

/-- On the tick after its last conversion a unit is cold again (R159). -/
theorem effAuxPowerDown_cools (k : Fin 4) {x : Stamp} (he : (s.auxU k.val).ended = some x) (hx : x < s.now) :
    (effAuxPowerDown k s).auxU k.val = { s.auxU k.val with ended := none } := by
  simp only [effAuxPowerDown, State.auxU_modAux_same, he, if_pos hx]

end AuxRules

/-- Settles O57: the result is delivered with the code and OVR of its level, and a trigger that waits for the unit leaves what
the result has written. -/
theorem auxResultsAtTheEndsOfTheRange : Obligations.AuxResultsAtTheEndsOfTheRange := by
  unfold Obligations.AuxResultsAtTheEndsOfTheRange
  rintro s _ dt k c x level corr _ code ovr rfl hconv hsampled hdue rfl hcode
  have hcode : auxCode level = (code, ovr) := (auxCode_eq level).trans hcode.symm
  obtain ⟨hsettle, hflag, hkeep⟩ := ((s.elapse dt).auxDone k.val c x level corr).auxNext_keeps k.isLt
  have heff := effAuxConversionEnd_eq (s.elapse dt) k hconv hsampled hdue
  refine ⟨_, rfl, ?settle, ?flag, fun hflask hchan => ?value⟩
  case settle =>
    rw [State.run_auxU, heff, hsettle, State.auxDone_auxU, hcode]
  case flag =>
    rw [State.run_obj, heff, hflag, State.auxDone_obj, State.auxDeliver_stat _ k.isLt, hcode]
  case value =>
    have hk := k.isLt
    have hstat : Obj.AUX_VALUE + (8 * k.val + c.chan) ≠ Obj.AUX_STAT + k.val := by simp only [Obj.AUX_VALUE, Obj.AUX_STAT]; omega
    have hlog : Obj.AUX_VALUE + (8 * k.val + c.chan) ≠ Obj.MGT_LOG_STAT := by simp only [Obj.AUX_VALUE, Obj.MGT_LOG_STAT]; omega
    rw [State.run_obj, heff, hkeep _ hstat hlog, State.auxDone_obj, State.auxDeliver_value _ k.isLt c x level _ hflask, hcode]
    rfl

end Sys2Proof.Machine
end

section
/-!
The housekeeping round and the thermal rules (R169 to R175, R379 to R386): what the round's end and a late round do to the
housekeeping state, what the thermal rules leave of the values measured, and what throttle, thermal stop and THERMAL_HOLD do. O34
is put together from these and from the rules of the auxiliary converters.
-/

namespace Sys2Proof.Machine

open Sys2Proof

section HkRules

variable (s : State)

/-! ## Late and on-time rounds (R175) -/

/-- The third late round in a row is an absence (R175). -/
theorem State.lateRound_hk : s.lateRound.hk =
    { s.hk with late := s.hk.late + 1, good := 0, absent := s.hk.absent || decide (2 ≤ s.hk.late) } := by
  have hthree : 3 ≤ s.hk.late + 1 ↔ 2 ≤ s.hk.late := by omega
  unfold State.lateRound
  dsimp only
  simp only [State.bumpField_hk, hthree, Bool.and_eq_true, decide_eq_true_eq, Bool.not_eq_true']
  split
  case isTrue h =>
    rw [foldl_hk _ _ _ fun t k => ite_agree State.hk (by simp [State.degrade_frame]) rfl, h.2, decide_eq_true h.1]
    rfl
  case isFalse h =>
    have habsent : (s.hk.absent || decide (2 ≤ s.hk.late)) = s.hk.absent := by
      by_cases hl : 2 ≤ s.hk.late
      · rw [eq_true_of_ne_false fun ha => h ⟨hl, ha⟩, Bool.true_or]
      · rw [decide_eq_false hl, Bool.or_false]
    rw [habsent]

theorem effHkRoundLate_hk (hb : s.mu.booted = true) (hd : s.hk.roundDeadline < s.muNow) :
    (effHkRoundLate s).hk = { s.hk with
      late := s.hk.late + 1, good := 0, absent := s.hk.absent || decide (2 ≤ s.hk.late)
      lateSeen := true, roundDeadline := s.hk.roundDeadline + msUnits } := by
  simp [effHkRoundLate, hb, hd, State.lateRound_hk]

/-- A round that ends is judged, unless it has already been counted as late. -/
def State.hkCounted : State :=
  if s.hk.lateSeen then s else if s.muNow ≤ s.hk.roundDeadline then s.goodRound else s.lateRound

theorem State.goodRound_hk : s.goodRound.hk = { s.hk with
    late := s.goodRound.hk.late, good := s.goodRound.hk.good, absent := s.goodRound.hk.absent } := by
  unfold State.goodRound
  dsimp only
  split
  · rw [foldl_hk _ _ _ fun t k => by simp [State.undegrade_frame]]
  · rfl

/-- The count of rounds leaves the time, the values taken and the mark of a hot round. -/
theorem State.hkCounted_keeps :
    s.hkCounted.time = s.time ∧ s.hkCounted.hk.vals = s.hk.vals ∧ s.hkCounted.hk.hot = s.hk.hot := by
  unfold State.hkCounted
  split
  · exact ⟨rfl, rfl, rfl⟩
  · split
    · rw [State.goodRound_hk]
      exact ⟨by simp [State.goodRound_frame], rfl, rfl⟩
    · rw [State.lateRound_hk]
      exact ⟨by simp [State.lateRound_frame], rfl, rfl⟩

/-! ## The values of a round (R169, R170) -/

/-- A slot takes its value; a channel beyond HK36, and a value that is not finite, read 0.0 (R170). -/
theorem effHkSlot_takes (v : F32) (hb : s.mu.booted = true) (hr : s.mu.restarting = false) (h : s.hk.slot < 64) :
    (effHkSlot v s).hk.slot = s.hk.slot + 1 ∧
    bget 0#32 (effHkSlot v s).hk.vals s.hk.slot = if s.hk.slot ≤ 36 ∧ fFin v = true then v else 0#32 := by
  simp [effHkSlot, hb, hr, h, bget_bset_same]

/-- One value of a round is shown. -/
def State.hkStore (k : Nat) : State := s.setObjF (Obj.HK_VALUE + k) (s.hkVal k)

/-- Each value shown is the one taken. -/
theorem State.foldl_hkStore (l : List Nat) {k : Nat} (hk : k ∈ l) :
    (l.foldl State.hkStore s).obj (Obj.HK_VALUE + k) = (s.hkVal k).toNat := by
  have hset : ∀ (t : State) (j : Nat), (t.hkStore j).obj (Obj.HK_VALUE + j) = (t.hkVal j).toNat := fun t j =>
    t.obj_setObj_same _ _
  have hval : ∀ (t : State) (j i : Nat), (t.hkStore j).hkVal i = t.hkVal i := fun _ _ _ => rfl
  refine (foldl_establishes (P := fun t j => t.obj (Obj.HK_VALUE + j) = (t.hkVal j).toNat) (g := State.hkStore)
    hset (fun t j i hi => ?_) hk).trans ?_
  · rw [hval]
    by_cases h : i = j
    · rw [h]
      exact hset t j
    · exact (State.obj_setObj_other t _ (by omega)).trans hi
  · rw [foldl_keep (fun t : State => t.hkVal k) State.hkStore fun t j => hval t j k]

/-! ## What the rules at a round's end leave -/

/-- The time, the values shown and the mark of a hot round stand in `t` as in `s`. -/
structure State.RoundKept (s t : State) : Prop where
  time : t.time = s.time
  hot : t.hk.hot = s.hk.hot
  shown : ∀ k < 64, t.obj (Obj.HK_VALUE + k) = s.obj (Obj.HK_VALUE + k)

namespace State.RoundKept

variable {s} {t v : State}

theorem refl : RoundKept s s := ⟨rfl, rfl, fun _ _ => rfl⟩

theorem trans (h : RoundKept s t) (h' : RoundKept t v) : RoundKept s v :=
  ⟨h'.time.trans h.time, h'.hot.trans h.hot, fun k hk => (h'.shown k hk).trans (h.shown k hk)⟩

theorem of_parts (ht : t.time = s.time) (hh : t.hk.hot = s.hk.hot) (hd : t.dict = s.dict) : RoundKept s t :=
  ⟨ht, hh, fun _ _ => State.obj_of_dict hd _⟩

theorem ite {c : Prop} [Decidable c] (ht : RoundKept s t) (hv : RoundKept s v) : RoundKept s (if c then t else v) := by
  split
  · exact ht
  · exact hv

theorem foldl {α : Type} (g : State → α → State) (l : List α) (h : ∀ x, ∀ a ∈ l, RoundKept x (g x a)) :
    RoundKept s (l.foldl g s) := by
  induction l generalizing s with
  | nil => exact refl
  | cons a l ih => exact (h s a (List.mem_cons_self ..)).trans (ih fun x b hb => h x b (List.mem_cons_of_mem _ hb))

/-- An object outside the values of the round. -/
theorem setObj {i : Nat} (x : Nat) (h : i < Obj.HK_VALUE ∨ Obj.HK_VALUE + 64 ≤ i) : RoundKept s (s.setObj i x) :=
  ⟨rfl, rfl, fun _ _ => State.obj_setObj_other s x (by omega)⟩

theorem setFlag {i : Nat} (m : Nat) (h : i < Obj.HK_VALUE ∨ Obj.HK_VALUE + 64 ≤ i) : RoundKept s (s.setFlag i m) :=
  ⟨by simp, by simp, fun _ _ => State.obj_setFlag_other s m (by omega)⟩

theorem putFlag {i : Nat} (b : Nat) (on : Bool) (h : i < Obj.HK_VALUE ∨ Obj.HK_VALUE + 64 ≤ i) :
    RoundKept s (s.putFlag i b on) :=
  ⟨by simp, by simp, fun _ _ => State.obj_putFlag_other s b on (by omega)⟩

theorem withHk (h : Hk) (hh : h.hot = s.hk.hot) : RoundKept s { s with hk := h } := ⟨rfl, hh, fun _ _ => rfl⟩

theorem post (src code unit data : Nat) : RoundKept s (s.post src code unit data) :=
  ⟨by simp [State.post_frame], by simp [State.post_frame],
    fun k hk => State.obj_post_other s src code unit data (by simp only [Obj.HK_VALUE, Obj.MGT_LOG_STAT]; omega)⟩

theorem withHk_post (h : Hk) (hh : h.hot = s.hk.hot) (src code unit data : Nat) :
    RoundKept s (({ s with hk := h } : State).post src code unit data) := (withHk h hh).trans (post ..)

theorem devEvent (k : Nat) : RoundKept s (s.devEvent k) :=
  of_parts (by simp [State.devEvent_frame]) (by simp [State.devEvent_frame]) (by simp [State.devEvent_frame])

theorem fence (k : Nat) : RoundKept s (s.fence k) :=
  of_parts (by simp [State.fence_frame]) (by simp [State.fence_frame]) (by simp [State.fence_frame])

theorem mirrorPut (x : Stamp) (b : MirrorBody) : RoundKept s (s.mirrorPut x b) :=
  ⟨by simp [State.mirrorPut_frame], by simp [State.mirrorPut_frame],
    fun k _ => State.obj_mirrorPut_other s x b (by simp only [Obj.HK_VALUE, Obj.RING_STAT]; omega)⟩

theorem throttleMirror : RoundKept s s.throttleMirror := by
  unfold State.throttleMirror
  extract_lets want
  refine ite ?_ refl
  exact trans (t := { s with flk := { s.flk with throttleSent := want } }) ⟨rfl, rfl, fun _ _ => rfl⟩ (mirrorPut ..)

/-- MGT_THERM_STAT lies outside the values of the round. -/
theorem stat_outside : Obj.MGT_THERM_STAT < Obj.HK_VALUE ∨ Obj.HK_VALUE + 64 ≤ Obj.MGT_THERM_STAT := .inl (by decide)

theorem setEnforced (on : Bool) : RoundKept s (s.setEnforced on) := by
  unfold State.setEnforced
  refine ite refl (ite ?_ ?_)
  · extract_lets a _ _ _ b c
    have ha : RoundKept s a := (putFlag 4 true stat_outside).trans (setFlag 4 stat_outside)
    have hb : RoundKept s b := ha.trans ⟨rfl, rfl, fun _ _ => rfl⟩
    exact (hb.trans (post ..)).trans (devEvent 2)
  · extract_lets a _ _ b
    have hb : RoundKept s b := (putFlag 4 false stat_outside).trans ⟨rfl, rfl, fun _ _ => rfl⟩
    exact hb.trans (devEvent 2)

theorem enforceOwn (on : Bool) : RoundKept s (s.enforceOwn on) := by
  unfold State.enforceOwn
  extract_lets _ t
  have ht : RoundKept s t := withHk _ rfl
  exact ite (ht.trans throttleMirror) (ht.trans (setEnforced on))

theorem thermRequest : RoundKept s s.thermRequest := by
  unfold State.thermRequest
  refine ite refl ?_
  extract_lets a _ b
  have ha : RoundKept s a := (putFlag 3 true stat_outside).trans (setFlag 2 stat_outside)
  have hb : RoundKept s b := ha.trans (withHk _ rfl)
  exact (hb.trans (post ..)).trans (devEvent 2)

theorem thermClear : RoundKept s s.thermClear := by
  unfold State.thermClear
  refine ite ?_ refl
  extract_lets a _ b c
  have hb : RoundKept s b := (putFlag 3 false stat_outside).trans (withHk _ rfl)
  have hc : RoundKept s c := (hb.trans (post ..)).trans (devEvent 2)
  exact ite hc (hc.trans (enforceOwn false))

/-- The rails are judged by their readings alone, and warned about (R173). -/
theorem hkRails : RoundKept s s.hkRails := by
  unfold State.hkRails
  refine foldl _ _ fun t r _ => ?_
  dsimp only
  exact ite (withHk _ rfl) (ite refl (withHk_post { t.hk with warned := r :: t.hk.warned } rfl ..))

theorem hkTrim : RoundKept s s.hkTrim := withHk _ rfl

theorem hkRefs : RoundKept s s.hkRefs := by
  unfold State.hkRefs
  refine foldl _ _ fun t u hu => ?_
  have hobj : Obj.AUX_REF_CORR + u < Obj.HK_VALUE ∨ Obj.HK_VALUE + 64 ≤ Obj.AUX_REF_CORR + u := by
    have := List.mem_range.mp hu
    simp only [Obj.AUX_REF_CORR, Obj.HK_VALUE]
    omega
  extract_lets c lo hi a was new _ b d
  have ha : RoundKept t a := setObj _ hobj
  have hb : RoundKept t b := ite ha (ha.trans (withHk _ rfl))
  have hd : RoundKept t d := ite hb (hb.trans (fence _))
  exact ite (ite (hd.trans (post ..)) hd) (ite (ha.trans (withHk _ rfl)) ha)

theorem hkSensors : RoundKept s s.hkSensors.1 := by
  unfold State.hkSensors
  extract_lets bad valid old a b _ c _ d
  have hstat : Obj.HK_ROUND_STAT < Obj.HK_VALUE ∨ Obj.HK_VALUE + 64 ≤ Obj.HK_ROUND_STAT := .inr (by decide)
  have ha : RoundKept s a := foldl _ _ fun t k _ => ite refl (post ..)
  have hb : RoundKept s b := ha.trans (setObj _ hstat)
  have hc : RoundKept s c := by
    subst c
    split
    · exact hb.trans (withHk _ rfl)
    · exact hb
  have hd : RoundKept s d := hc.trans (withHk _ rfl)
  exact ite ((hd.trans (post ..)).trans (enforceOwn true)) hc

theorem hkThrottle (known : Bool) : RoundKept s (s.hkThrottle known) := by
  unfold State.hkThrottle
  extract_lets thr served t cool n _ v
  have ht : RoundKept s t := ite thermRequest refl
  have hv : RoundKept s v := ht.trans (.of_parts rfl rfl rfl)
  exact hv.trans (ite thermClear refl)

end State.RoundKept

/-- Where no round before this one was hot, a shutdown waits for the next: this round's end changes the housekeeping state alone
(R383). -/
theorem State.hkShutdown_of_not_hot (known : Bool) (h : s.hk.hot = false) :
    s.hkShutdown known = { s with hk := (s.hkShutdown known).hk } := by
  unfold State.hkShutdown
  simp only [h, Bool.and_false, Bool.false_and, Bool.false_eq_true, if_false]

/-- The rules at a round's end leave the time and the values shown, where the round before was not hot. -/
theorem State.hkThermal_keeps (h : s.hk.hot = false) :
    s.hkThermal.time = s.time ∧ ∀ k < 64, s.hkThermal.obj (Obj.HK_VALUE + k) = s.obj (Obj.HK_VALUE + k) := by
  have hkept : RoundKept s (s.hkSensors.1.hkThrottle s.hkSensors.2) := .trans .hkSensors (.hkThrottle _)
  have hlast : s.hkThermal = { s.hkSensors.1.hkThrottle s.hkSensors.2 with hk := s.hkThermal.hk } :=
    State.hkShutdown_of_not_hot _ _ (hkept.hot.trans h)
  rw [hlast]
  exact ⟨hkept.time, hkept.shown⟩

/-! ## The end of a round (R169 to R175, R379 to R383) -/

/-- The values of the round are shown. -/
def State.hkShown : State := (List.range 64).foldl State.hkStore s

/-- The rails, the trim of the MU's oscillator and the reference corrections follow the values (R171, R173). -/
def State.hkApplied : State :=
  (s.setObj Obj.HK_MU_OSC_ERR (unsgn 32 (max (-10000) (min 10000 (fDy (s.hkVal 34)).rne)))).hkRails.hkTrim.hkRefs

/-- The next round begins. -/
def State.hkBegun : State :=
  { s with hk := { s.hk with
      prev := s.hk.vals.filter fun e => e.1 < 12
      vals := [], slot := 0, lateSeen := false, roundDeadline := s.muNow + msUnits } }

theorem effHkRoundEnd_eq (hb : s.mu.booted = true) (hr : s.mu.restarting = false) (h : s.hk.slot = 64) :
    effHkRoundEnd s = s.hkCounted.hkShown.hkApplied.hkThermal.hkBegun := by
  simp only [effHkRoundEnd, hb, hr, h, Bool.not_false, Bool.and_self, decide_true, if_true]
  rfl

theorem State.hkApplied_keeps : RoundKept s s.hkApplied :=
  .trans (.trans (.trans (.setObj _ (.inr (by decide))) .hkRails) .hkTrim) .hkRefs

theorem State.hkShown_keeps : s.hkShown.time = s.time ∧ s.hkShown.hk = s.hk :=
  ⟨foldl_time _ _ _ fun _ _ => rfl, foldl_hk _ _ _ fun _ _ => rfl⟩

theorem effHkRoundEnd_ends (hb : s.mu.booted = true) (hr : s.mu.restarting = false) (h : s.hk.slot = 64) (hh : s.hk.hot = false) :
    (effHkRoundEnd s).hk.slot = 0 ∧
    (effHkRoundEnd s).hk.vals = [] ∧
    (effHkRoundEnd s).hk.lateSeen = false ∧
    (effHkRoundEnd s).hk.roundDeadline = s.muNow + msUnits ∧
    ∀ k ∈ List.range 64, (effHkRoundEnd s).obj (Obj.HK_VALUE + k) = (s.hkVal k).toNat := by
  obtain ⟨hctime, hcvals, hchot⟩ := s.hkCounted_keeps
  obtain ⟨hstime, hshk⟩ := s.hkCounted.hkShown_keeps
  have ha := s.hkCounted.hkShown.hkApplied_keeps
  obtain ⟨htime, hshown⟩ := State.hkThermal_keeps _ (ha.hot.trans ((congrArg Hk.hot hshk).trans (hchot.trans hh)))
  rw [effHkRoundEnd_eq s hb hr h]
  refine ⟨rfl, rfl, rfl, ?_, fun k hk => ?_⟩
  · have hnow : s.hkCounted.hkShown.hkApplied.hkThermal.muNow = s.muNow :=
      congrArg Time.mu (htime.trans (ha.time.trans (hstime.trans hctime)))
    exact congrArg (· + msUnits) hnow
  · have hk64 := List.mem_range.mp hk
    have hval : s.hkCounted.hkVal k = s.hkVal k := by simp only [State.hkVal, hcvals]
    calc s.hkCounted.hkShown.hkApplied.hkThermal.obj (Obj.HK_VALUE + k)
        = s.hkCounted.hkShown.obj (Obj.HK_VALUE + k) := (hshown k hk64).trans (ha.shown k hk64)
      _ = (s.hkCounted.hkVal k).toNat := State.foldl_hkStore _ _ hk
      _ = (s.hkVal k).toNat := by rw [hval]

/-! ## Enforced throttle (R380 to R382) -/

/-- Enforced throttle shows in MGT_THERM_STAT. -/
theorem State.setEnforced_shows : bit ((s.setEnforced true).obj Obj.MGT_THERM_STAT) 4 = true := by
  unfold State.setEnforced
  by_cases h : s.throttled = true
  · rw [if_pos h]
    exact h
  · rw [if_neg h, if_pos rfl]
    extract_lets a _ _ _ b c
    have ha : a.obj Obj.MGT_THERM_STAT = putBits (s.obj Obj.MGT_THERM_STAT) 4 4 1 ||| 4 := by
      have hput : (s.putFlag Obj.MGT_THERM_STAT 4 true).obj Obj.MGT_THERM_STAT = putBits (s.obj Obj.MGT_THERM_STAT) 4 4 1 :=
        State.obj_setObj_same _ _ _
      rw [← hput]
      exact State.obj_setFlag_same _ _ _
    have hc : c.obj Obj.MGT_THERM_STAT = a.obj Obj.MGT_THERM_STAT := b.obj_post_other _ _ _ _ (by decide)
    rw [State.obj_of_dict (s := c) (by simp [State.devEvent_frame]), hc, ha, bit_or, bit_putBits_flag, Bool.true_or]

/-- A device alone enforces its own throttle. -/
theorem State.enforceOwn_alone (on : Bool) (h : s.inFlask = false) :
    s.enforceOwn on = ({ s with hk := { s.hk with enfOwn := on } } : State).setEnforced on := by
  have hflask : ({ s with hk := { s.hk with enfOwn := on } } : State).inFlask = false := h
  simp only [State.enforceOwn, hflask, Bool.false_and, Bool.false_eq_true, if_false]

theorem effThrottleEnforce_enforces {x : Nat} (hx : s.hk.graceDeadline = some x) (hr : s.isReady = true) (hd : x ≤ s.clk)
    (hreq : bit (s.obj Obj.MGT_THERM_STAT) 3 = true) (hf : s.inFlask = false) :
    (effThrottleEnforce s).hk.graceDeadline = none ∧
    (effThrottleEnforce s).hk.enfOwn = true ∧
    bit ((effThrottleEnforce s).obj Obj.MGT_THERM_STAT) 4 = true := by
  have heff : effThrottleEnforce s =
      ({ s with hk := { s.hk with graceDeadline := none, enfOwn := true } } : State).setEnforced true := by
    simp only [effThrottleEnforce, hx, hr, decide_eq_true hd, hreq, Bool.and_self, if_true]
    exact State.enforceOwn_alone _ true hf
  rw [heff]
  exact ⟨by simp [State.setEnforced_frame], by simp [State.setEnforced_frame], State.setEnforced_shows _⟩

/-! ## The thermal stop (R384) -/

/-- What the stop deadline does to one slice. -/
def State.stopRest (k : Nat) : State :=
  match (s.sl k).st with
  | .disabled | .heldBlock => s
  | .discharging => (s.endDischarge k 2).go k 0 .heldBlock none
  | _ => s.go k 0 .heldBlock none

theorem effThermalStopDeadline_eq {x : Stamp} (hr : s.isReady = true) (hx : s.hk.stopAt = some x) (hd : s.hk.stopDeadline ≤ s.clk)
    (hh : s.hk.holdDue ≠ some s.hk.stopDeadline) : effThermalStopDeadline s = (List.range 6).foldl State.stopRest s := by
  simp only [effThermalStopDeadline, hr, hx, decide_eq_true hd, decide_eq_true hh, Option.isSome_some, Bool.and_self, if_true]
  rfl

theorem State.SliceKept.stopRest {s : State} {j k : Nat} (h : j ≠ k) (hk : k < 6) : SliceKept j s (s.stopRest k) := by
  unfold State.stopRest
  split
  · exact .refl
  · exact .refl
  · exact (State.SliceKept.endDischarge 2 h hk).trans (.go 0 _ _ h)
  · exact .go 0 _ _ h

theorem State.run_sl (dt : Nat) (f : State → State) (k : Nat) : (s.run dt f).sl k = (f (s.elapse dt)).sl k := (rfl)

theorem State.sl_of_slices {s t : State} (h : t.slices = s.slices) (k : Nat) : t.sl k = s.sl k := by
  simp only [State.sl, h]

@[simp] theorem State.sl_modSl_same (k : Nat) (f : Slice → Slice) : (s.modSl k f).sl k = f (s.sl k) := bget_bset_same _ _ _ _

/-- A slice that enters a state is in it. -/
theorem State.enter_st (k : Nat) (st : SliceState) : ((s.enter k st).sl k).st = st := by
  unfold State.enter
  extract_lets old rest a t _
  have ha : (a.sl k).st = st := congrArg Slice.st (s.sl_modSl_same k _)
  have ht : (t.sl k).st = st := by
    subst t
    split
    case isTrue h => exact h
    case isFalse =>
      split
      · exact (congrArg Slice.st (a.sl_modSl_same k _)).trans ha
      · exact ha
  refine ite_agree (fun v => (v.sl k).st) ?_ ht
  rw [State.sl_of_slices (s := t.modSl k fun x => { x with stopOpen := false }) (by simp [State.post_frame]),
    State.sl_modSl_same]
  exact ht

/-- Nothing outranks an event of rank 0, so a slice that no force holds follows it (R236). -/
theorem State.go_first_st (k : Nat) (st : SliceState) (stop : Option (Nat × Nat)) (h : (s.rs k).forced = none) :
    ((s.go k 0 st stop).sl k).st = st := by
  simp only [State.go, h, Nat.not_lt_zero, decide_false, Bool.and_false, Bool.or_self, Bool.false_eq_true, if_false]
  exact State.enter_st _ k st

theorem State.stopRest_same {k : Nat} (h : (s.rs k).forced = none) :
    ((s.stopRest k).sl k).st = if (s.sl k).st = .disabled then .disabled else .heldBlock := by
  unfold State.stopRest
  split
  next hst => rw [if_pos hst, hst]
  next hst => rw [hst]; rfl
  next hst =>
    rw [hst]
    exact State.go_first_st _ k _ _ (by simpa [State.rs, State.endDischarge_frame] using h)
  next hne _ _ =>
    rw [if_neg hne]
    exact State.go_first_st s k _ _ h

/-- Each slice that no force holds comes to rest, whatever the slices before it have done. -/
theorem State.foldl_stopRest (l : List Nat) (hl : l.Nodup) (h6 : ∀ k ∈ l, k < 6) {j : Nat} (hj : j ∈ l)
    (h : (s.rs j).forced = none) :
    ((l.foldl State.stopRest s).sl j).st = if (s.sl j).st = .disabled then .disabled else .heldBlock := by
  induction l generalizing s with
  | nil => cases hj
  | cons k l ih =>
    obtain ⟨hk, hl⟩ := List.nodup_cons.mp hl
    have hl6 : ∀ k ∈ l, k < 6 := fun k hk => h6 k (List.mem_cons_of_mem _ hk)
    rw [List.foldl_cons]
    by_cases hjk : j = k
    · subst hjk
      have hrest : SliceKept j (s.stopRest j) (l.foldl State.stopRest (s.stopRest j)) :=
        .foldl _ _ fun a ha x => .stopRest (fun e => hk (e ▸ ha)) (hl6 a ha)
      rw [hrest.sl]
      exact s.stopRest_same h
    · have hkeep : SliceKept j s (s.stopRest k) := .stopRest hjk (h6 k (List.mem_cons_self ..))
      rw [ih (s.stopRest k) hl hl6 ((List.mem_cons.mp hj).resolve_left hjk) (by rw [hkeep.rs]; exact h), hkeep.sl]

/-! ## THERMAL_HOLD (R386) -/

theorem State.thermalHold_enters : s.thermalHold.mu.phase = .thermalHold ∧ s.thermalHold.hk.leave = 0 := by
  unfold State.thermalHold
  exact ⟨State.setPhase_phase _ _, by simp [State.setPhase_frame]⟩

theorem effThermalHoldEntry_due {x : Nat} {y : Stamp} (hx : s.hk.holdDue = some x) (hr : s.isReady = true)
    (hy : s.hk.stopAt = some y) (hd : x ≤ s.clk) : effThermalHoldEntry s = s.thermalHold := by
  simp only [effThermalHoldEntry, hx, hr, hy, decide_eq_true hd, Option.isSome_some, Bool.and_self, Bool.true_or, if_true]

end HkRules

/-- Settles O34: each event through the lemma that says what it does. -/
theorem auxAndHousekeepingEventsComplete : Obligations.AuxAndHousekeepingEventsComplete := by
  unfold Obligations.AuxAndHousekeepingEventsComplete
  refine ⟨?sample, ?conversion, ?powerDown, ?slot, ?roundEnd, ?roundLate, ?throttle, ?stop, ?hold⟩
  case sample =>
    rintro s _ dt k level c rfl hc hs hd
    exact ⟨_, rfl, effAuxSampleEnd_samples _ k level hc hs hd⟩
  case conversion =>
    rintro s _ dt k c x level corr _ rfl hc hs hd hp hf hlo hhi rfl
    refine ⟨_, rfl, ?_⟩
    have hcode : auxCode level = (level.toNat, false) := by
      rw [auxCode_eq, if_neg (by omega), if_neg (by omega)]
    have hunit := (s.elapse dt).auxDone_auxU k.val c x level corr
    have heff : effAuxConversionEnd k (s.elapse dt) = (s.elapse dt).auxDone k.val c x level corr :=
      (effAuxConversionEnd_eq _ k hc hs hd).trans (State.auxNext_none _ (by rw [hunit]; exact hp))
    rw [State.run_auxU, State.run_obj, heff, hunit, State.auxDone_obj,
      State.auxDeliver_value _ k.isLt c x level _ hf, hcode, State.auxScaled, Int.toNat_of_nonneg hlo]
    exact ⟨rfl, rfl, rfl⟩
  case powerDown =>
    rintro s _ dt k x rfl he hx
    exact ⟨_, rfl, effAuxPowerDown_cools _ k he hx⟩
  case slot =>
    rintro s _ dt x rfl hb hr h
    exact ⟨_, rfl, effHkSlot_takes _ x hb hr h⟩
  case roundEnd =>
    rintro s _ dt rfl hb hr h hh
    exact ⟨_, rfl, effHkRoundEnd_ends _ hb hr h hh⟩
  case roundLate =>
    rintro s _ dt rfl hb hd
    refine ⟨_, rfl, ?_⟩
    rw [State.run_hk, effHkRoundLate_hk _ hb hd]
    exact ⟨rfl, rfl, rfl, rfl, rfl⟩
  case throttle =>
    rintro s _ dt x rfl hx hr hd hreq hf
    exact ⟨_, rfl, effThrottleEnforce_enforces _ hx hr hd hreq hf⟩
  case stop =>
    rintro s _ dt x rfl hr hx hd hh hforced
    refine ⟨_, rfl, fun k hk => ?_⟩
    rw [State.run_sl, effThermalStopDeadline_eq _ hr hx hd hh]
    exact State.foldl_stopRest _ _ List.nodup_range (fun _ => List.mem_range.mp) (List.mem_range.mpr hk) (hforced k hk)
  case hold =>
    rintro s _ dt x y rfl hx hr hy hd
    refine ⟨_, rfl, ?_⟩
    rw [State.runT_mu, State.runT_hk, effThermalHoldEntry_due _ hx hr hy hd]
    exact State.thermalHold_enters _

end Sys2Proof.Machine
end

section
/-!
What the reactions of a slice (R232 to R237, R254, R257, R298 to R309) leave of the object dictionary: a loss of the observer and a
cause of degraded mode write the log's status, the status of gate links and the result of a discharge, and no other object. The
encoders' status words stand through them.
-/

namespace Sys2Proof.Machine

open Sys2Proof

/-- An object that no reaction of a slice writes. -/
structure OutsideReactions (i : Nat) : Prop where
  log : i ≠ Obj.MGT_LOG_STAT
  link : ∀ l, i ≠ Obj.GL_STAT + l
  discharge : ∀ k, i ≠ slc k Obj.SLC_DIS_RESULT

/-- A log record under a stamp of its own changes no object but MGT_LOG_STAT (R390). -/
theorem State.obj_postAt_other (s : State) (src : Nat) (x : Stamp) (code unit data : Nat) {i : Nat} (h : i ≠ Obj.MGT_LOG_STAT) :
    (s.postAt src x code unit data).obj i = s.obj i := by
  have htraced : ∀ r : Rec, ((s.trace r).bumpSeq src).obj i = s.obj i := fun r =>
    State.obj_of_dict (by simp [State.bumpSeq, State.trace_frame]) i
  unfold State.postAt
  refine ite_agree (fun t => t.obj i) (ite_agree (fun t => t.obj i) (htraced _) ?held)
    ((State.obj_logAppend_other _ _ h).trans (htraced _))
  exact (State.obj_bumpField_other _ _ _ h).trans (htraced _)

section ReactionRules

variable (s : State) {i : Nat} (hi : OutsideReactions i)

include hi

theorem State.obj_linkRefresh_other (l : Nat) : (s.linkRefresh l).obj i = s.obj i := by
  have hput : ∀ (t : State) (on : Bool), (t.putFlag (Obj.GL_STAT + l) 16 on).obj i = t.obj i := fun t on =>
    State.obj_putFlag_other t 16 on (hi.link l)
  have hsafe : ∀ (t : State) (body : Nat), (t.glSafe l body).obj i = t.obj i := fun t body =>
    State.obj_of_dict (by simp [State.glSafe_frame]) i
  unfold State.linkRefresh
  dsimp only
  split
  · refine ite_agree (fun t => t.obj i) rfl ?_
    exact (hsafe _ _).trans (hput _ true)
  · exact ite_agree (fun t => t.obj i) (hput _ false) rfl

theorem State.obj_linksRefresh_other (k : Nat) : (s.linksRefresh k).obj i = s.obj i :=
  foldl_keep (fun t : State => t.obj i) _ (fun t l => t.obj_linkRefresh_other hi l) _ s

theorem State.obj_enter_other (k : Nat) (st : SliceState) : (s.enter k st).obj i = s.obj i := by
  unfold State.enter
  extract_lets old rest f t x
  have ht : t.obj i = s.obj i := by
    subst t
    refine ite_agree (fun t => t.obj i) rfl ?_
    split <;> rfl
  exact ite_agree (fun t => t.obj i) ((State.obj_post_other _ _ _ _ _ hi.log).trans ht) ht

theorem State.obj_go_other (k rank : Nat) (st : SliceState) (stop : Option (Nat × Nat)) :
    (s.go k rank st stop).obj i = s.obj i :=
  ite_agree (fun t => t.obj i) rfl (State.obj_enter_other _ hi k st)

theorem State.obj_endDischarge_other (k result : Nat) : (s.endDischarge k result).obj i = s.obj i := by
  unfold State.endDischarge
  split
  · exact (State.obj_post_other _ _ _ _ _ hi.log).trans (State.obj_setObj_other _ _ (hi.discharge k))
  · rfl

theorem State.obj_stop_other (k mode cause : Nat) : (s.stop k mode cause).obj i = s.obj i := by
  have hgo : ∀ (t : State) (rank : Nat) (st : SliceState) (p : Option (Nat × Nat)), (t.go k rank st p).obj i = t.obj i :=
    fun t => t.obj_go_other hi k
  have hend : ∀ t : State, (t.endDischarge k 2).obj i = t.obj i := fun t => t.obj_endDischarge_other hi k 2
  unfold State.stop
  extract_lets t m
  cases (t.sl k).st with
  | disabled | heldShort => rfl
  | armed | heldBlock => exact ite_agree (fun t => t.obj i) (hgo ..) rfl
  | stopping => exact ite_agree (fun t => t.obj i) rfl (hgo ..)
  | running =>
    have hramp : (t.go k 3 .stopping (some (0, cause))).obj i = s.obj i := hgo t _ _ _
    exact ite_agree (fun t => t.obj i) (ite_agree (fun t => t.obj i) hramp hramp) (hgo ..)
  | catching | engaging => exact ite_agree (fun t => t.obj i) (hgo ..) (hgo ..)
  | discharging => exact ite_agree (fun t => t.obj i) ((hgo ..).trans (hend _)) ((hgo ..).trans (hend _))

/-- The reaction to a loss of the observer (R257). -/
theorem State.obj_lossReact_other (k : Nat) : (s.lossReact k).obj i = s.obj i := by
  unfold State.lossReact
  refine ite_agree (fun t => t.obj i) rfl ?_
  extract_lets t v
  have hv : v.obj i = s.obj i := ite_agree (fun t => t.obj i) (s.obj_endDischarge_other hi k 2) rfl
  refine ite_agree (fun t => t.obj i) ((State.obj_go_other _ hi ..).trans hv) ?_
  cases (v.sl k).st with
  | catching | engaging | running | stopping | discharging => exact (State.obj_go_other _ hi ..).trans hv
  | disabled | armed | heldBlock | heldShort => exact hv

theorem State.obj_latch_other (k : Nat) (f : Forced) (cause : Nat) : (s.latch k f cause).obj i = s.obj i := by
  unfold State.latch
  extract_lets t v w
  have hw : w.obj i = s.obj i := (State.obj_linksRefresh_other _ hi k).trans (State.obj_post_other _ _ _ _ _ hi.log)
  split
  · exact hw
  · refine (State.obj_go_other _ hi ..).trans ?_
    exact ite_agree (fun t => t.obj i) ((State.obj_endDischarge_other _ hi k 2).trans hw) hw

theorem State.obj_request_other (k : Nat) (f : Forced) (cause : Nat) : (s.request k f cause).obj i = s.obj i := by
  unfold State.request
  split
  · exact s.obj_latch_other hi k f cause
  · exact ite_agree (fun t => t.obj i) (State.obj_latch_other _ hi k f cause) (ite_agree (fun t => t.obj i) rfl rfl)

theorem State.obj_force_other (k : Nat) {f : Forced} (cause : Nat) (hf : f ≠ .ascHold) : (s.force k f cause).obj i = s.obj i := by
  have hdrop : (s.request k f cause).safeOutDrop.obj i = (s.request k f cause).obj i :=
    State.obj_of_dict (by simp [State.safeOutDrop_frame]) i
  rw [State.force_eq_request s k cause hf, hdrop, s.obj_request_other hi]

theorem State.obj_ss1Request_other (k cause : Nat) : (s.ss1Request k cause).obj i = s.obj i := by
  have hramp : ∀ f : RefSlice → RefSlice, ((s.modRs k f).stop k 0 4).obj i = s.obj i := fun f =>
    State.obj_stop_other (s.modRs k f) hi k 0 4
  have hblock := s.obj_force_other hi k (f := .pulseBlock) cause (by simp)
  unfold State.ss1Request
  refine ite_agree (fun t => t.obj i) rfl ?_
  cases (s.sl k).st with
  | running | engaging | stopping => exact ite_agree (fun t => t.obj i) rfl (hramp _)
  | _ => exact hblock

/-- A cause of degraded mode, with the SS1 that may follow (R307 to R309). -/
theorem State.obj_degrade_other (k row unit : Nat) : (s.degrade k row unit).obj i = s.obj i := by
  have hpost : ∀ (f : RefSlice → RefSlice) (data : Nat), ((s.modRs k f).post srcRef 0x0601 k data).obj i = s.obj i := fun f data =>
    State.obj_post_other (s.modRs k f) _ _ _ _ hi.log
  unfold State.degrade State.degradeBy
  dsimp only
  refine ite_agree (fun t => t.obj i) rfl (ite_agree (fun t => t.obj i) ?first ?further)
  case first => exact ite_agree (fun t => t.obj i) ((State.obj_ss1Request_other _ hi k 3).trans (hpost _ _)) (hpost _ _)
  case further => exact ite_agree (fun t => t.obj i) rfl (State.obj_ss1Request_other _ hi k 3)

end ReactionRules

end Sys2Proof.Machine
end

section
/-!
One decoder (R176 to R200): what a transition, an index edge and the end of an SSI frame make of it. The device's own decoder and
the Referee's both work by these.
-/

namespace Sys2Proof.Machine

open Sys2Proof

section DecoderRules

variable (e : Enc) (p : EncPar) (t : Stamp) (tc : Nat)

/-! ## Steps of the count (R179, R182, R195) -/

/-- A step moves the raw count and is an arrival, whether the reported count follows it or a reversal absorbs it. -/
theorem Enc.step_counts (win : Nat) (sg : Int) :
    (e.step win sg t tc).raw = wrap32 (e.raw + sg) ∧
    (e.step win sg t tc).standstill = false ∧
    (e.step win sg t tc).lastTrans = some tc := by
  unfold Enc.step
  dsimp only
  split
  · split <;> exact ⟨rfl, rfl, rfl⟩
  · exact ⟨rfl, rfl, rfl⟩

/-- A step leaves the levels, the sector and the angle of the Hall signals. -/
theorem Enc.step_levels (win : Nat) (sg : Int) :
    (e.step win sg t tc).a = e.a ∧
    (e.step win sg t tc).b = e.b ∧
    (e.step win sg t tc).hall = e.hall ∧
    (e.step win sg t tc).sector = e.sector ∧
    (e.step win sg t tc).hallAng = e.hallAng := by
  unfold Enc.step
  dsimp only
  split
  · split <;> exact ⟨rfl, rfl, rfl, rfl, rfl⟩
  · exact ⟨rfl, rfl, rfl, rfl, rfl⟩

/-! ## Faults and illegal transitions (R180, R181, R198) -/

/-- A fault marks the decoder and nothing that it has decoded; one that stands keeps its stamp. -/
theorem Enc.fail_eq (cause : Nat) (evs : List EncEv) :
    (e.fail t cause evs).1 = { e with
      fault := true, faultAt := (e.fail t cause evs).1.faultAt, valid := (e.fail t cause evs).1.valid } := by
  unfold Enc.fail
  split
  case isTrue h => rw [← h]
  case isFalse => rfl

/-- An illegal transition at stamp `t` is the 16th, with the one 15 before it at most 10 ms older (R181, R66). -/
def Enc.sixteenth : Bool :=
  match (t :: e.illegal)[15]? with
  | some f => decide (t ≤ f + 10 * msUnits)
  | none => false

theorem Enc.bad_eq : e.bad t =
    if e.sixteenth t then ({ e with illegal := (t :: e.illegal).take 16 } : Enc).fail t 0 [.illegal]
    else ({ e with illegal := (t :: e.illegal).take 16 }, [.illegal]) := by
  have hget : ((t :: e.illegal).take 16)[15]? = (t :: e.illegal)[15]? := List.getElem?_take_of_lt (by decide)
  unfold Enc.bad Enc.sixteenth
  dsimp only
  rw [hget]
  cases (t :: e.illegal)[15]? with
  | none => rfl
  | some f => simp

/-- An illegal transition enters the 16 latest ones; the decoder stands but for the fault it may bring. -/
theorem Enc.bad_keeps :
    (e.bad t).1 = { e with
      illegal := (t :: e.illegal).take 16, fault := e.fault || e.sixteenth t
      faultAt := (e.bad t).1.faultAt, valid := (e.bad t).1.valid } := by
  rw [Enc.bad_eq]
  split
  case isTrue h =>
    rw [h, Bool.or_true]
    exact Enc.fail_eq _ t 0 _
  case isFalse h => simp [h]

theorem Enc.bad_reports : .illegal ∈ (e.bad t).2 := by
  rw [Enc.bad_eq]
  unfold Enc.fail
  split
  · split <;> simp
  · simp

/-! ## QUAD mode (R179, R180) -/

/-- One level that changes is a step. -/
theorem Enc.quad_eq_step {a b : Bool} (h : (e.a ≠ a ∧ e.b = b) ∨ (e.a = a ∧ e.b ≠ b)) :
    e.quad p a b t tc = ((e.pinAB a b).step p.speedWin
      (if decide ((quadPos a b - quadPos e.a e.b) % 4 = 1) = p.dirInv then -1 else 1) t tc, []) := by
  have hboth : ¬ (e.a ≠ a ∧ e.b ≠ b) := by rcases h with h | h <;> simp [h]
  have hnone : ¬ (e.a = a ∧ e.b = b) := by rcases h with h | h <;> simp [h]
  have hdir : (decide ((quadPos a b - quadPos e.a e.b) % 4 = 1) = p.dirInv) ↔
      ((quadPos a b - quadPos e.a e.b) % 4 = 1 ↔ p.dirInv = true) := by
    cases p.dirInv <;> simp
  simp only [hdir]
  simp [Enc.quad, hboth, hnone]

theorem Enc.quad_counts {a b : Bool} (h : (e.a ≠ a ∧ e.b = b) ∨ (e.a = a ∧ e.b ≠ b)) :
    (e.quad p a b t tc).1.a = a ∧
    (e.quad p a b t tc).1.b = b ∧
    (e.quad p a b t tc).1.raw =
      wrap32 (e.raw + if decide ((quadPos a b - quadPos e.a e.b) % 4 = 1) = p.dirInv then -1 else 1) ∧
    (e.quad p a b t tc).1.standstill = false ∧
    (e.quad p a b t tc).1.lastTrans = some tc := by
  rw [e.quad_eq_step p t tc h]
  obtain ⟨ha, hb, -⟩ := (e.pinAB a b).step_levels t tc p.speedWin _
  exact ⟨ha, hb, (e.pinAB a b).step_counts t tc p.speedWin _⟩

/-- Both levels changed: an illegal transition. -/
theorem Enc.quad_illegal {a b : Bool} (ha : e.a ≠ a) (hb : e.b ≠ b) : e.quad p a b t tc = (e.pinAB a b).bad t := by
  simp [Enc.quad, ha, hb]

/-! ## HALL mode (R186) -/

/-- An illegal transition, whose levels, and sector where they have one, the decoder takes all the same. -/
theorem Enc.hallTo_illegal {h : Nat} (hne : h ≠ e.hall) (hbad : hallSector h = none ∨ 2 ≤ popcount3 (h ^^^ e.hall)) :
    (e.hallTo p h t tc).1.illegal = (t :: e.illegal).take 16 ∧
    (e.hallTo p h t tc).1.fault = (e.fault || e.sixteenth t) := by
  unfold Enc.hallTo
  simp only [if_neg hne]
  cases hs : hallSector h with
  | none =>
    dsimp only
    rw [Enc.bad_keeps]
    exact ⟨rfl, rfl⟩
  | some i =>
    have hpop : 2 ≤ popcount3 (h ^^^ e.hall) := hbad.resolve_left (by simp [hs])
    dsimp only
    rw [if_pos hpop, Enc.bad_keeps]
    exact ⟨rfl, rfl⟩

/-- The start of sector `i`, where a transition into it forwards lies. -/
def EncPar.sectorAngle (i : Nat) : Ang32 := BitVec.ofNat 32 (p.offset + (roundHalfAway (i * 2 ^ 32 : Nat) 6).toNat)

/-- A transition to the next sector. -/
theorem Enc.hallTo_next {h i j : Nat} (hne : h ≠ e.hall) (hs : hallSector h = some i) (hpop : popcount3 (h ^^^ e.hall) < 2)
    (hj : e.sector = some j) (hij : i = (j + 1) % 6) :
    e.hallTo p h t tc =
      (({ e.pinHall h with sector := some i } : Enc).hallStep p (p.sectorAngle i) (if p.dirInv then -1 else 1) t tc, []) := by
  have hfew : ¬ popcount3 (h ^^^ e.hall) ≥ 2 := by omega
  simp only [Enc.hallTo, if_neg hne, hs, if_neg hfew, hj, if_pos hij]
  rfl

/-- The count moves by a Hall step, and the angle with it unless COMM_HYST absorbs a reversal (R183, R186). -/
theorem Enc.hallStep_places (x : Ang32) (sg : Int) :
    (e.hallStep p x sg t tc).hall = e.hall ∧
    (e.hallStep p x sg t tc).sector = e.sector ∧
    (e.hallStep p x sg t tc).hallAng = (if p.commHyst = true ∧ e.d ≠ 0 ∧ e.d ≠ sg then e.hallAng else some x) ∧
    (e.hallStep p x sg t tc).raw = wrap32 (e.raw + sg) := by
  have hcond : (p.commHyst && e.d ≠ 0 && e.d ≠ sg) = true ↔ p.commHyst = true ∧ e.d ≠ 0 ∧ e.d ≠ sg := by
    simp [and_assoc]
  unfold Enc.hallStep
  extract_lets moved
  obtain ⟨-, -, hhall, hsector, hang⟩ := moved.step_levels t tc p.speedWin sg
  rw [hhall, hsector, hang, (moved.step_counts t tc p.speedWin sg).1]
  subst moved
  by_cases h : p.commHyst = true ∧ e.d ≠ 0 ∧ e.d ≠ sg
  · rw [if_pos (hcond.mpr h), if_pos h]
    exact ⟨rfl, rfl, rfl, rfl⟩
  · rw [if_neg (mt hcond.mp h), if_neg h]
    exact ⟨rfl, rfl, rfl, rfl⟩

/-! ## Index edges (R184, R185) -/

/-- An edge of Z that d admits takes a reference at the count of `c`; a wrong line count, and the fault that the third of them
brings, leave the reference. -/
theorem Enc.indexEdge_takes (c : Enc) {rising : Bool} (hen : p.indexEn = true)
    (hd : (rising = true ∧ 0 ≤ e.d) ∨ (rising = false ∧ e.d = -1)) :
    (e.indexEdge c p rising t).1.m0 = some (c.comm p) ∧
    (e.indexEdge c p rising t).1.refs = e.refs + 1 ∧
    (e.indexEdge c p rising t).1.refRaw = c.raw ∧
    (e.indexEdge c p rising t).1.raw = e.raw := by
  have hgo : (p.indexEn && (if rising then decide ((e.pinZ rising).d ≥ 0) else decide ((e.pinZ rising).d = -1))) = true := by
    rcases hd with ⟨rfl, h⟩ | ⟨rfl, h⟩ <;> simp [hen, Enc.pinZ, h]
  unfold Enc.indexEdge
  extract_lets z diff checked off bad consec taken r
  rw [hgo]
  simp only [Bool.not_true, Bool.false_eq_true, if_false]
  have htaken : taken.m0 = some (c.comm p) ∧ taken.refs = e.refs + 1 ∧ taken.refRaw = c.raw ∧ taken.raw = e.raw :=
    ⟨rfl, rfl, rfl, rfl⟩
  have hr : r.1.m0 = some (c.comm p) ∧ r.1.refs = e.refs + 1 ∧ r.1.refRaw = c.raw ∧ r.1.raw = e.raw := by
    subst r
    split
    · rw [Enc.fail_eq]
      exact htaken
    · exact htaken
  split
  · exact hr
  · exact htaken

/-! ## SSI frames (R187, R188) -/

/-- The first good frame after a start, in binary code and without parity, gives the position of its word. -/
theorem Enc.ssiFrame_first {cfg raw : Nat} (par : Bool) (t0 now : Stamp) (mono : Nat) (hb : e.frameBHigh = true)
    (hcut : e.frameCut = false) (hpar : bits cfg 51 50 = 0) (hgray : bit cfg 49 = false) (hpos : e.ssiPos = none) :
    e.ssiFrame cfg raw par t0 now mono =
      ({ e with
          frameStart := none, monoEnd := some mono
          ssiPos := some (raw % 2 ^ bits cfg 63 58 % 2 ^ bits cfg 57 52, raw % 2 ^ bits cfg 63 58 / 2 ^ bits cfg 57 52, t0)
          raw := sgn 32 (raw % 2 ^ bits cfg 63 58), rep := sgn 32 (raw % 2 ^ bits cfg 63 58), ssiBad := 0
          ssiGood := min 2 (e.ssiGood + 1), valid := decide (2 ≤ min 2 (e.ssiGood + 1)) && !e.fault
          speed := 0#32, edgeAt := now, speedAt := now }, [], true) := by
  simp [Enc.ssiFrame, hb, hcut, hpar, hgray, hpos]

end DecoderRules

end Sys2Proof.Machine
end

section
/-!
Position feedback (R176 to R200): what the device does with its decoders. A transition, an index edge and a frame reach the decoder
of their interface and no report of theirs changes it; probes and latches take the count with what the tick still brings. O35, O58
and O59 are put together from these.
-/

namespace Sys2Proof.Machine

open Sys2Proof

section EncoderRules

variable (s : State)

/-! ## An interface after a write -/

@[simp] theorem State.encU_setEnc_same (n : Nat) (v : Enc) : (s.setEnc n v).encU n = v := bget_bset_same _ _ _ _

@[simp] theorem State.encU_modEnc_same (n : Nat) (f : Enc → Enc) : (s.modEnc n f).encU n = f (s.encU n) :=
  s.encU_setEnc_same n _

theorem State.encU_of_enc {s t : State} (h : t.enc = s.enc) (n : Nat) : t.encU n = s.encU n := by
  simp only [State.encU, h]

theorem State.run_encU (dt : Nat) (f : State → State) (n : Nat) : (s.run dt f).encU n = (f (s.elapse dt)).encU n := (rfl)

theorem State.encU_encRecordOf (n : Nat) (t : Stamp) (e : Enc) (kind flags m : Nat) :
    (s.encRecordOf n t e kind flags).encU m = s.encU m := State.encU_of_enc (by simp [State.encRecordOf_frame]) m

theorem State.obj_encRecordOf (n : Nat) (t : Stamp) (e : Enc) (kind flags i : Nat) :
    (s.encRecordOf n t e kind flags).obj i = s.obj i := State.obj_of_dict (by simp [State.encRecordOf_frame]) i

/-! ## Reports (R180, R185, R198) -/

theorem encStat_outsideReactions {n : Nat} (hn : n < 8) : OutsideReactions (Obj.ENC_STAT + n) where
  log := by simp only [Obj.ENC_STAT, Obj.MGT_LOG_STAT]; omega
  link l := by simp only [Obj.ENC_STAT, Obj.GL_STAT]; omega
  discharge k := by simp only [Obj.ENC_STAT, slc, Obj.SLC_DIS_RESULT]; omega

theorem State.encU_encEvent (n : Nat) (t : Stamp) (ev : EncEv) (m : Nat) : (s.encEvent n t ev).encU m = s.encU m :=
  State.encU_of_enc (by simp [State.encEvent_frame]) m

theorem State.encU_refEvent (k n : Nat) (t : Stamp) (ev : EncEv) (m : Nat) : (s.refEvent k n t ev).encU m = s.encU m :=
  State.encU_of_enc (by simp [State.refEvent_frame]) m

theorem State.obj_refEvent_other {i : Nat} (hi : OutsideReactions i) (k n : Nat) (t : Stamp) (ev : EncEv) :
    (s.refEvent k n t ev).obj i = s.obj i := by
  cases ev with
  | illegal | index => rfl
  | lineCount => exact s.obj_postAt_other _ _ _ _ _ hi.log
  | fault => exact (State.obj_degrade_other _ hi k 2 n).trans (s.obj_post_other _ _ _ _ hi.log)

theorem State.obj_encReact_other {i : Nat} (hi : OutsideReactions i) (n : Nat) : (s.encReact n).obj i = s.obj i :=
  ite_agree (fun t => t.obj i) (s.obj_lossReact_other hi _) rfl

/-- An illegal transition is shown (R180): the count beside the flag leaves it. -/
theorem State.encEvent_illegal_shows (n : Nat) (t : Stamp) :
    bit ((s.encEvent n t .illegal).obj (Obj.ENC_STAT + n)) 0 = true := by
  have hflag : (s.setFlag (Obj.ENC_STAT + n) 1).obj (Obj.ENC_STAT + n) = s.obj (Obj.ENC_STAT + n) ||| 2 ^ 0 :=
    State.obj_setFlag_same _ _ _
  change bit ((State.encRecordOf _ _ _ _ _ _).obj _) 0 = true
  rw [State.obj_encRecordOf, State.obj_bumpField_same, bit_putBits_below _ _ _ (by decide), hflag, bit_or, bit_two_pow,
    Bool.or_true]

/-- No report takes the flag of illegal transitions back. -/
theorem State.encEvent_keeps_illegal {n : Nat} (hn : n < 8) (t : Stamp) (ev : EncEv)
    (h : bit (s.obj (Obj.ENC_STAT + n)) 0 = true) : bit ((s.encEvent n t ev).obj (Obj.ENC_STAT + n)) 0 = true := by
  have hi := encStat_outsideReactions hn
  cases ev with
  | illegal => exact s.encEvent_illegal_shows n t
  | lineCount =>
    change bit ((State.postAt _ _ _ _ _ _).obj _) 0 = true
    rw [State.obj_postAt_other _ _ _ _ _ _ hi.log, State.obj_setFlag_same, bit_or, h, Bool.true_or]
  | index =>
    change bit ((State.encRecordOf _ _ _ _ _ _).obj _) 0 = true
    rwa [State.obj_encRecordOf]
  | fault =>
    change bit ((State.encReact (State.encRecordOf _ _ _ _ _ _) n).obj _) 0 = true
    rwa [State.obj_encReact_other _ hi, State.obj_encRecordOf, State.obj_postAt_other _ _ _ _ _ _ hi.log]

/-! ## An input to the decoders of an interface -/

/-- The device's decoder takes the input, and neither its reports nor the Referee's decoders touch it. -/
theorem State.decodeAll_encU (n : Nat) (t : Stamp) (f : EncPar → Enc → Enc × List EncEv) :
    (s.decodeAll n t f).encU n = (f (s.encPar n) (s.encU n)).1 := by
  unfold State.decodeAll
  refine (foldl_keep (fun v : State => v.encU n) _ (fun v k => ?referee) _ _).trans ?device
  case referee => exact foldl_keep (fun v : State => v.encU n) _ (fun v ev => v.encU_refEvent k n t ev n) _ _
  case device =>
    exact (foldl_keep (fun v : State => v.encU n) _ (fun v ev => v.encU_encEvent n t ev n) _ _).trans (s.encU_setEnc_same n _)

/-- An illegal transition that the device's decoder reports is shown in the interface's status. -/
theorem State.decodeAll_shows_illegal {n : Nat} (hn : n < 8) (t : Stamp) (f : EncPar → Enc → Enc × List EncEv)
    (h : .illegal ∈ (f (s.encPar n) (s.encU n)).2) : bit ((s.decodeAll n t f).obj (Obj.ENC_STAT + n)) 0 = true := by
  unfold State.decodeAll
  extract_lets r u
  have hu : bit (u.obj (Obj.ENC_STAT + n)) 0 = true :=
    foldl_establishes (P := fun (v : State) ev => ev = EncEv.illegal → bit (v.obj (Obj.ENC_STAT + n)) 0 = true)
      (fun v ev hev => by rw [hev]; exact v.encEvent_illegal_shows n t)
      (fun v ev _ hv hx => v.encEvent_keeps_illegal hn t ev (hv hx)) h rfl
  have hreferee : ∀ (v : State) (k : Nat) (f : RefSlice → RefSlice) (l : List EncEv),
      (l.foldl (fun (v : State) ev => v.refEvent k n t ev) (v.modRs k f)).obj (Obj.ENC_STAT + n) = v.obj (Obj.ENC_STAT + n) :=
    fun v k _ _ => foldl_keep (fun v : State => v.obj (Obj.ENC_STAT + n)) _
      (fun v ev => v.obj_refEvent_other (encStat_outsideReactions hn) k n t ev) _ _
  rw [foldl_keep (fun v : State => v.obj (Obj.ENC_STAT + n)) _ (fun v k => hreferee v k _ _) _ u]
  exact hu

theorem effEncQuadTransition_eq {n : Fin 8} (a b : Bool) (hon : s.encOn n.val = true) (hm : s.encMode n.val = 0) :
    effEncQuadTransition n a b s = s.decodeAll n.val (s.filtStamp n.val) fun p e =>
      e.quad p a b (s.filtStamp n.val) (s.filtStamp n.val - s.tl.steps) := by
  simp only [effEncQuadTransition, hon, hm, decide_true, Bool.and_self, if_true]

theorem effEncHallTransition_eq {n : Fin 8} (h : Fin 8) (hon : s.encOn n.val = true) (hm : s.encMode n.val = 1) :
    effEncHallTransition n h s = s.decodeAll n.val (s.filtStamp n.val) fun p e =>
      e.hallTo p h.val (s.filtStamp n.val) (s.filtStamp n.val - s.tl.steps) := by
  simp only [effEncHallTransition, hon, hm, decide_true, Bool.and_self, if_true]

theorem effEncIndex_eq {n : Fin 8} (rising : Bool) (hon : s.encOn n.val = true) (hm : s.encMode n.val = 0) :
    effEncIndex n rising s = s.decodeAll n.val (s.filtStamp n.val) fun p e =>
      e.indexEdge (s.encWith n.val p e (s.filtStamp n.val)) p rising (s.filtStamp n.val) := by
  simp only [effEncIndex, hon, hm, decide_true, Bool.and_self, if_true]

/-! ## Standstill and speed (R193, R195) -/

/-- A loop of which each pass changes what the Referee holds and nothing else. -/
theorem foldl_changes_ref {α : Type} (g : State → α → State) (h : ∀ t a, ∃ r, g t a = { t with ref := r }) (l : List α) :
    ∃ r, l.foldl g s = { s with ref := r } := by
  induction l generalizing s with
  | nil => exact ⟨s.ref, rfl⟩
  | cons a l ih =>
    obtain ⟨r, hr⟩ := h s a
    obtain ⟨r', hr'⟩ := ih (g s a)
    exact ⟨r', by rw [List.foldl_cons, hr', hr]⟩

theorem effEncStandstill_still {n : Fin 8} (hon : s.encOn n.val = true)
    (h : s.stillNow n.val (s.encPar n.val) (s.encU n.val) (s.filtStamp n.val) = true) :
    (effEncStandstill n s).encU n.val = (s.encU n.val).still (s.filtStamp n.val) := by
  unfold effEncStandstill
  extract_lets m t u
  have hu : ∃ r, u = { s with ref := r } := foldl_changes_ref s _ (fun v k => by split <;> exact ⟨_, rfl⟩) _
  obtain ⟨r, hr⟩ := hu
  have hstill : u.stillNow m (u.encPar m) (u.encU m) t = true := by
    rw [hr]
    exact h
  rw [if_pos hon, if_pos hstill, State.encRecord, State.encU_encRecordOf, State.encU_modEnc_same, hr]
  rfl

/-- An interface that no slice owns is evaluated on the device's own grid. -/
theorem effEncSpeedEval_evaluates {n : Fin 8} {x : Stamp} (hon : s.encOn n.val = true) (hx : s.gridNow 400000 = some x)
    (ho : 6 ≤ s.encOwner n.val) (hm : s.encMode n.val ≠ 2) :
    (effEncSpeedEval n s).encU n.val =
      { s.encU n.val with speed := (s.encLatched n.val x).speedEst (s.encPar n.val).speedWin x, speedAt := x } := by
  simp only [effEncSpeedEval, hx, hon, ho, decide_true, Bool.and_self, if_true, State.encEval, hm, if_false,
    State.encU_modEnc_same]

/-! ## The end of an SSI frame (R187, R188) -/

theorem effSsiFrameEnd_encU {n : Fin 8} (raw : Nat) (par : Bool) {x : Stamp} (hon : s.encOn n.val = true)
    (hm : s.encMode n.val = 2) (hx : (s.encU n.val).frameStart = some x)
    (hd : (s.encU n.val).frameTick + ssiTicks (s.ssiCfg n.val) ≤ s.tick) :
    (effSsiFrameEnd n raw par s).encU n.val =
      ((s.encU n.val).ssiFrame (s.ssiCfg n.val) raw par x s.now (s.clk + bits (s.ssiCfg n.val) 31 24 * usUnits)).1 := by
  unfold effSsiFrameEnd
  simp only [hx, hon, hm, hd, decide_true, Bool.and_self, if_true]
  refine (foldl_keep (fun v : State => v.encU n.val) _ (fun v k => ?referee) _ _).trans ?device
  case referee => exact foldl_keep (fun v : State => v.encU n.val) _ (fun v ev => v.encU_refEvent k n.val v.now ev n.val) _ _
  case device =>
    refine (foldl_keep (fun v : State => v.encU n.val) _ (fun v ev => v.encU_encEvent n.val v.now ev n.val) _ _).trans ?_
    rw [State.encRecord, State.encU_encRecordOf]
    exact ite_agree (fun v => v.encU n.val) (s.encU_setEnc_same _ _) (s.encU_setEnc_same _ _)

/-! ## Probes (R191) -/

/-- What an interface decodes by does not read its status. -/
theorem State.encPar_of_stat {s t : State} {n : Nat} (hn : n < 8) (hs : t.slices = s.slices)
    (ho : ∀ i, i ≠ Obj.ENC_STAT + n → t.obj i = s.obj i) : t.encPar n = s.encPar n := by
  have hcfg : t.encCfg n = s.encCfg n := ho _ (by simp only [Obj.ENC_CFG, Obj.ENC_STAT]; omega)
  have hpoles : ∀ k, t.slo k Obj.SLC_POLE_PAIRS = s.slo k Obj.SLC_POLE_PAIRS := fun k => by
    have hobj := ho (slc k Obj.SLC_POLE_PAIRS) (by simp only [slc, Obj.SLC_POLE_PAIRS, Obj.ENC_STAT]; omega)
    simp only [State.slo, State.sl, hs, hobj]
  unfold State.encPar State.encOwner
  rw [hcfg]
  simp only [hpoles]

theorem State.encWith_of_parts {s t : State} (hp : t.pending = s.pending) (htl : t.tl = s.tl) (n : Nat) (p : EncPar) (e : Enc)
    (x : Stamp) : t.encWith n p e x = s.encWith n p e x := by
  simp only [State.encWith, hp, htl]

theorem State.putProbe_alone (i v : Nat) (h : s.inFlask = false) : s.putProbe i v = s.setObj i v := by
  simp only [State.putProbe, State.follows, h, Bool.false_and, Bool.false_eq_true, if_false]

/-- A decoder whose probe has latched once more, and not been read. -/
def Enc.probed (e : Enc) (rising : Bool) : Enc :=
  if rising then { e with riseUnread := true, riseSeq := e.riseSeq + 1 } else { e with fallUnread := true, fallSeq := e.fallSeq + 1 }

/-- An enabled probe edge latches the count with every transition of its stamp, and its own next sequence. -/
theorem effEncProbeEdge_latches {n : Fin 8} (rising : Bool) (hon : s.encOn n.val = true)
    (hbit : bit (s.encCfg n.val) (if rising then 64 else 65) = true) (hf : s.inFlask = false) :
    (effEncProbeEdge n rising s).obj ((if rising then Obj.ENC_PROBE_RISE else Obj.ENC_PROBE_FALL) + n.val) =
      latchVal (s.filtStamp n.val) (s.encWith n.val (s.encPar n.val) (s.encU n.val) (s.filtStamp n.val)).raw
        ((if rising then (s.encU n.val).riseSeq else (s.encU n.val).fallSeq) + 1) ∧
    (effEncProbeEdge n rising s).encU n.val = (s.encU n.val).probed rising := by
  unfold effEncProbeEdge
  extract_lets m t e unread seq u v c
  rw [if_pos (by rw [hon, hbit]; rfl)]
  have hobj : ∀ i, i ≠ Obj.ENC_STAT + m → v.obj i = s.obj i := fun i hi =>
    ite_agree (fun t => t.obj i) (s.obj_setFlag_other _ hi) rfl
  have hunit : v.encU m = (s.encU m).probed rising := by
    subst v
    rw [State.encU_setEnc_same]
    cases rising <;> rfl
  have hpar : v.encPar m = s.encPar m := State.encPar_of_stat n.isLt (ite_agree State.slices rfl rfl) hobj
  have hflask : v.inFlask = false := by
    rw [State.inFlask, hobj _ (by simp only [Obj.FLK_CFG, Obj.ENC_STAT]; omega)]
    exact hf
  have hpending : v.pending = s.pending := ite_agree State.pending rfl rfl
  have htl : v.tl = s.tl := ite_agree State.tl rfl rfl
  have hc : c = s.encWith m (s.encPar m) e t := (State.encWith_of_parts hpending htl m _ e t).trans (by rw [hpar])
  rw [State.obj_encRecordOf, State.encU_encRecordOf, State.putProbe_alone _ _ _ hflask, hc]
  exact ⟨State.obj_setObj_same .., (State.encU_of_enc (s := v) rfl m).trans hunit⟩

/-! ## ENC_LATCH of a rally list (R192) -/

/-- A frame that runs, or the monoflop time of the last one, keeps a trigger from starting a frame (R189). -/
def State.ssiWaits (n : Nat) (x : Stamp) : Bool :=
  (s.encU n).frameStart.isSome || match (s.encU n).monoEnd with
    | some m => !(s.encU n).b || decide (x - s.tl.steps ≤ m)
    | none => false

theorem State.ssiTrigger_busy {n : Nat} {x : Stamp} (hon : s.encOn n = true) (hm : s.encMode n = 2) (h : s.ssiWaits n x = true) :
    s.ssiTrigger n x = s.setFlag (Obj.ENC_STAT + n) 0x400 := by
  unfold State.ssiTrigger
  dsimp only
  rw [if_neg (by simp [hon, hm])]
  exact if_pos h

/-- A decoder whose frame begins with sample stamp `x` on tick `now`. -/
def Enc.frameBegun (e : Enc) (x : Stamp) (now : Nat) : Enc :=
  { e with frameStart := some x, frameTick := now, frameBHigh := e.b, frameCut := false }

/-- A trigger that nothing keeps starts a frame in the device's decoder; beside it, only the Referee's decoders change. -/
theorem State.ssiTrigger_starts {n : Nat} {x : Stamp} (hon : s.encOn n = true) (hm : s.encMode n = 2)
    (h : s.ssiWaits n x = false) :
    ∃ r, s.ssiTrigger n x = { s.modEnc n fun e => e.frameBegun x s.tick with ref := r } := by
  have hgo : s.ssiTrigger n x = (s.refSlices n).foldl
      (fun v k => v.modRs k fun y => { y with enc := y.enc.frameBegun x s.tick }) (s.modEnc n fun e => e.frameBegun x s.tick) := by
    unfold State.ssiTrigger
    dsimp only
    rw [if_neg (by simp [hon, hm])]
    exact if_neg (ne_true_of_eq_false h)
  rw [hgo]
  exact foldl_changes_ref _ _ (fun _ _ => ⟨_, rfl⟩) _

/-- The latch itself: the sequence, the object and the record. -/
def State.latchPut (n : Nat) (x : Stamp) : State :=
  ((s.setEnc n { s.encU n with latchSeq := (s.encU n).latchSeq + 1 }).setObj (Obj.ENC_LATCH + n)
    (latchVal x (s.encLatched n x).raw ((s.encU n).latchSeq + 1))).encRecordOf n x (s.encLatched n x) 3 0

theorem State.encLatch_eq (n : Nat) (x : Stamp) :
    s.encLatch n x = if (s.latchPut n x).encMode n = 2 then (s.latchPut n x).ssiTrigger n x else s.latchPut n x := (rfl)

theorem State.latchPut_encU (n : Nat) (x : Stamp) :
    (s.latchPut n x).encU n = { s.encU n with latchSeq := (s.encU n).latchSeq + 1 } :=
  (State.encU_encRecordOf ..).trans (s.encU_setEnc_same n _)

theorem State.latchPut_latch (n : Nat) (x : Stamp) : (s.latchPut n x).obj (Obj.ENC_LATCH + n) =
    latchVal x (s.encLatched n x).raw ((s.encU n).latchSeq + 1) :=
  (State.obj_encRecordOf ..).trans (State.obj_setObj_same ..)

/-- The latch leaves the interface's configuration, its mode and what would keep a frame from starting. -/
theorem State.latchPut_keeps (n : Nat) (x : Stamp) :
    (s.latchPut n x).encOn n = s.encOn n ∧ (s.latchPut n x).encMode n = s.encMode n ∧
    (s.latchPut n x).ssiWaits n x = s.ssiWaits n x ∧ (s.latchPut n x).tick = s.tick := by
  have hcfg : (s.latchPut n x).encCfg n = s.encCfg n := (State.obj_encRecordOf ..).trans
    (State.obj_setObj_other (s.setEnc n _) _ (by simp only [Obj.ENC_CFG, Obj.ENC_LATCH]; omega))
  have hparts : (s.latchPut n x).mu = s.mu ∧ (s.latchPut n x).tl = s.tl ∧ (s.latchPut n x).tick = s.tick := by
    simp [State.latchPut, State.encRecordOf_frame]
  obtain ⟨hmu, htl, htick⟩ := hparts
  refine ⟨?_, ?_, ?_, htick⟩
  · rw [State.encOn, State.isReady, hcfg, hmu]
    rfl
  · rw [State.encMode, hcfg]
    rfl
  · rw [State.ssiWaits, s.latchPut_encU, htl]
    rfl

theorem State.rallyAct_latch {k e n : Nat} (x : Stamp) (ha : rAction (s.rallyV k e) = 2) (hn : n = rArg (s.rallyV k e))
    (hon : s.encOn n = true) (hf : s.fenced (16 + n) = false) (ho : s.encOwner n = k) : s.rallyAct k e x = s.encLatch n x := by
  subst hn
  simp only [State.rallyAct, ha, hon, hf, ho, Bool.not_false, decide_true, Bool.and_self, if_true]

end EncoderRules

/-- Settles O58: the latch is put, and in SSI mode the trigger that follows starts a frame or shows that it could not. -/
theorem encoderLatchAction : Obligations.EncoderLatchAction := by
  unfold Obligations.EncoderLatchAction
  rintro s _ k e n x waits haction hn - hon hfence howner hwaits rfl
  obtain ⟨hon', hmode', hwaits', htick'⟩ := s.latchPut_keeps n x
  have hunit := s.latchPut_encU n x
  have hlatch := s.latchPut_latch n x
  have hwaits : (s.latchPut n x).ssiWaits n x = waits := hwaits'.trans hwaits.symm
  rw [s.rallyAct_latch x haction hn hon hfence howner, s.encLatch_eq, hmode']
  by_cases hm : s.encMode n = 2
  case neg =>
    rw [if_neg hm, hunit, hlatch]
    exact ⟨rfl, rfl, rfl, fun _ => rfl, fun h => absurd h hm, fun h => absurd h hm⟩
  case pos =>
    have hon' : (s.latchPut n x).encOn n = true := hon'.trans hon
    have hm' : (s.latchPut n x).encMode n = 2 := hmode'.trans hm
    rw [if_pos hm]
    cases waits with
    | true =>
      have hbusy : (s.latchPut n x).ssiTrigger n x = (s.latchPut n x).setFlag (Obj.ENC_STAT + n) (2 ^ 10) :=
        State.ssiTrigger_busy _ hon' hm' hwaits
      have hlatch : ((s.latchPut n x).setFlag (Obj.ENC_STAT + n) (2 ^ 10)).obj (Obj.ENC_LATCH + n) = _ :=
        (State.obj_setFlag_other _ _ (by simp only [Obj.ENC_LATCH, Obj.ENC_STAT]; omega)).trans hlatch
      have hunit : ((s.latchPut n x).setFlag (Obj.ENC_STAT + n) (2 ^ 10)).encU n = _ :=
        (State.encU_of_enc (State.setFlag_enc ..) n).trans hunit
      rw [hbusy, hlatch, hunit, State.obj_setFlag_same, bit_or, bit_two_pow, Bool.or_true]
      exact ⟨rfl, rfl, rfl, fun _ => rfl, fun _ h => absurd h (by simp), fun _ _ => ⟨rfl, rfl⟩⟩
    | false =>
      obtain ⟨r, hr⟩ := State.ssiTrigger_starts _ hon' hm' hwaits
      have hlatch : ((s.latchPut n x).ssiTrigger n x).obj (Obj.ENC_LATCH + n) = _ :=
        (State.obj_of_dict (by rw [hr]; rfl) _).trans hlatch
      have hunit : ((s.latchPut n x).ssiTrigger n x).encU n = ((s.latchPut n x).encU n).frameBegun x (s.latchPut n x).tick :=
        (State.encU_of_enc (s := (s.latchPut n x).modEnc n _) (by rw [hr]) n).trans (State.encU_modEnc_same ..)
      rw [hlatch, hunit, s.latchPut_encU, htick']
      exact ⟨rfl, rfl, rfl, fun h => absurd hm h, fun _ _ => ⟨rfl, rfl⟩, fun _ h => absurd h (by simp)⟩

/-- Settles O59: either transition enters the 16 latest, and the decoder faults as `Enc.sixteenth` says. -/
theorem sixteenthIllegalTransitionFaults : Obligations.SixteenthIllegalTransitionFaults := by
  unfold Obligations.SixteenthIllegalTransitionFaults
  rintro s _ dt c n _ _ rfl rfl hon hc rfl
  rcases hc with ⟨a, b, rfl, hm, ha, hb⟩ | ⟨h, rfl, hm, hne, hbad⟩
  case inl =>
    refine ⟨_, rfl, ?_⟩
    rw [State.run_encU, effEncQuadTransition_eq _ a b hon hm, State.decodeAll_encU, Enc.quad_illegal _ _ _ _ ha hb,
      Enc.bad_keeps]
    exact ⟨rfl, rfl⟩
  case inr =>
    refine ⟨_, rfl, ?_⟩
    rw [State.run_encU, effEncHallTransition_eq _ h hon hm, State.decodeAll_encU]
    exact Enc.hallTo_illegal _ _ _ _ hne hbad

/-- Settles O35: each event through the lemma that says what it makes of its interface's decoder. -/
theorem encoderEventsComplete : Obligations.EncoderEventsComplete := by
  unfold Obligations.EncoderEventsComplete
  refine ⟨?quad, ?illegal, ?hall, ?index, ?rise, ?fall, ?standstill, ?speed, ?frame⟩
  case quad =>
    rintro s _ dt n a b _ rfl hon hm rfl h
    refine ⟨_, rfl, ?_⟩
    rw [State.run_encU, effEncQuadTransition_eq _ a b hon hm, State.decodeAll_encU]
    exact Enc.quad_counts _ _ _ _ h
  case illegal =>
    rintro s _ dt n a b _ rfl hon hm rfl ha hb
    refine ⟨_, rfl, ?_⟩
    have hshown := State.decodeAll_shows_illegal (s.elapse dt) n.isLt ((s.elapse dt).filtStamp n.val) (fun p e =>
      e.quad p a b ((s.elapse dt).filtStamp n.val) ((s.elapse dt).filtStamp n.val - (s.elapse dt).tl.steps))
      (by rw [Enc.quad_illegal _ _ _ _ ha hb]; exact Enc.bad_reports _ _)
    rw [State.run_encU, State.run_obj, effEncQuadTransition_eq _ a b hon hm, State.decodeAll_encU,
      Enc.quad_illegal _ _ _ _ ha hb, Enc.bad_keeps]
    exact ⟨rfl, rfl, rfl, hshown⟩
  case hall =>
    rintro s _ dt n h _ i j _ rfl hon hm rfl hne hs hpop hj hij rfl
    refine ⟨_, rfl, ?_⟩
    rw [State.run_encU, effEncHallTransition_eq _ h hon hm, State.decodeAll_encU, Enc.hallTo_next _ _ _ _ hne hs hpop hj hij]
    exact Enc.hallStep_places _ _ _ _ _ _
  case index =>
    rintro s _ dt n rising _ _ rfl hon hm rfl rfl hen hd
    refine ⟨_, rfl, ?_⟩
    rw [State.run_encU, effEncIndex_eq _ rising hon hm, State.decodeAll_encU]
    exact Enc.indexEdge_takes _ _ _ _ hen hd
  case rise =>
    rintro s _ dt n rfl hon hbit hf
    exact ⟨_, rfl, effEncProbeEdge_latches _ true hon hbit hf⟩
  case fall =>
    rintro s _ dt n rfl hon hbit hf
    exact ⟨_, rfl, effEncProbeEdge_latches _ false hon hbit hf⟩
  case standstill =>
    rintro s _ dt n rfl hon h
    refine ⟨_, rfl, ?_⟩
    rw [State.run_encU, effEncStandstill_still _ hon h]
    exact ⟨rfl, rfl, rfl, rfl⟩
  case speed =>
    rintro s _ dt n x rfl hon hx ho hm
    exact ⟨_, rfl, effEncSpeedEval_evaluates _ hon hx ho hm⟩
  case frame =>
    rintro s _ dt n w par _ x _ rfl hon hm rfl hx hd hb hcut hpar hgray hpos rfl
    refine ⟨_, rfl, ?_⟩
    rw [State.run_encU, effSsiFrameEnd_encU _ w par hon hm hx hd, Enc.ssiFrame_first _ par x _ _ hb hcut hpar hgray hpos]
    exact ⟨rfl, rfl, rfl, rfl, rfl⟩

end Sys2Proof.Machine
end

section
/-!
A commit leaves a context as it is where its staged definition says the same (R213, R219): the running image then keeps its own
list of entries. O18 asks for the staged list, so its clause on ENG_COMMIT fails on an image that lists a zero.
-/

namespace Sys2Proof.Machine

open Sys2Proof

/-- The running image of context `c` after a command, as it is listed. -/
def imageAfter (i : Instr) (s : State) (c : Nat) : Option (Bank F32) :=
  match exec i s with
  | .next t => some (t.ctx c).coef
  | _ => none

/-- A completion leaves the contexts as the opcode has left them. -/
theorem imageAfter_done {i : Instr} {s u v : State} {d : Deferred} {st : Nat} {ex : List Byte} (c : Nat)
    (h : exec i s = .next (Safety.done s u v d st ex)) : imageAfter i s c = some (v.ctx c).coef := by
  simp only [imageAfter, h, State.ctx, Safety.done, State.complete_frame]

/-- A header that passes the checks of R202 and R215: one output, D of 640 cycles, 10,000 evaluations a second. -/
def plainHdr : Nat := 2 ^ 246 + 640 * 2 ^ 215 + 10000 * 2 ^ 160

/-- READY, with a CONFIGURE session and one entry to take. Context 3 runs with an image whose entry 0 is listed as zero, as
ENG_WRITE_COEF of 0.0 leaves it; the same definition is staged once more, as ENG_DEFINE_CONTEXT lists it. -/
def recommitDevice : State :=
  { filtDevice {} with eng := {
      ctxs := [(3, { hdr := plainHdr, coef := bset [] 0 0#32 })]
      staged := [(0, [(3, { hdr := plainHdr, coef := [], deleted := false })])] } }

/-- ENG_COMMIT of the staged set. -/
def commitPkt : Pkt := filtPkt 0x3020 (toLE 8 0)

/-- What ENG_COMMIT's clause asks of the state in which the opcode begins, with context 3 the only one defined. -/
abbrev State.commitsThree (w : State) (q : Pkt) : Prop :=
  w.stageBusy q = false ∧ (w.stagedSet.map Prod.fst).Nodup ∧ w.throttled = false ∧ w.mu.norBad = false ∧
  w.stagedSet.all (fun e => ((w.ctx e.1).hdr = 0 || !w.enabled (hSlice (w.ctx e.1).hdr))
    && (e.2.deleted || !w.enabled (hSlice e.2.hdr))) = true ∧
  [3] = (List.range 64).filter (fun c => (w.wouldBe c).1 ≠ 0) ∧ w.wouldBe 3 = (plainHdr, []) ∧
  commitCheck (fun c => (w.wouldBe c).1) [3] 10000 10000 = (stOk, 0, 0xFF)

/-- Refutes O18, by its clause on ENG_COMMIT: the commit changes nothing and keeps the image that lists a zero, while the staged
image lists none. -/
theorem not_engineOpcodesComplete : ¬ Obligations.EngineOpcodesComplete := by
  unfold Obligations.EngineOpcodesComplete
  rintro ⟨-, -, -, -, -, -, -, -, -, -, -, hcommit, -⟩
  obtain ⟨w, d, hw, hmeets⟩ := admitted_of_any (recommitDevice.elapse 0) ((commitPkt.asRow 0x3020).withSel 0 0)
    (fun w => decide (w.commitsThree ((commitPkt.asRow 0x3020).withSel 0 0))) (by decide +kernel)
  obtain ⟨hbusy, hnodup, hthrottled, hnor, hrest, hdefined, hthree, hcheck⟩ := of_decide_eq_true hmeets
  have hhdr : (w.wouldBe 3).1 = plainHdr := congrArg Prod.fst hthree
  have hunit : hUnit plainHdr = 0 := by decide +kernel
  have hrate : hdrRate plainHdr = 10000 := by decide +kernel
  obtain ⟨v, hv, hall, -⟩ := hcommit recommitDevice _ w 0 commitPkt _ d [3] 10000 0 false rfl rfl hw (by decide +kernel)
    (by decide +kernel) hbusy (by decide +kernel) hnodup hthrottled hnor hrest hdefined (by simp [hhdr, hunit, hrate])
    (by simp [hhdr, hunit]) rfl (by simpa [hhdr, hrate] using hcheck)
  have hkept : imageAfter (.engCommit 0 commitPkt) recommitDevice 3 = some (bset [] 0 0#32) := by decide +kernel
  have hstaged : (v.ctx 3).coef = [] := (hall 3 (by decide)).2.trans (congrArg Prod.snd hthree)
  rw [imageAfter_done 3 hv, hstaged] at hkept
  exact absurd hkept (by decide)

end Sys2Proof.Machine
end

section
/-!
What the engine leaves unchanged (R207 to R212, R219, R222 to R228): an opcode writes no object, judging and answering it may set
the mirror's overflow in RING_STAT; an evaluation and its output write the status and overrun words of contexts, the group's
output and the slice's status, and what the reaction to a faulted context writes. O45 is put together from these.
-/

namespace Sys2Proof.Machine

open Sys2Proof

section CommandRules

variable {i : Nat} (op : Pkt → State → Res) (s : State)

/-! ## Objects through a command row -/

theorem State.obj_ite {c : Prop} [Decidable c] {a b : State} {v : Nat} (ha : a.obj i = v) (hb : b.obj i = v) :
    (if c then a else b).obj i = v :=
  ite_agree (State.obj · i) ha hb

theorem State.obj_perform (d : Deferred) (h : ∀ q v, (op q v).st.obj i = v.obj i) : (s.perform d op).obj i = s.obj i := by
  have hop : ((op d.pkt (s.setCur (some (d.pkt, d.accepted, d.entry)))).st.setCur none).obj i = s.obj i := (h _ _).trans rfl
  have hcomplete : ∀ (t : State) (d : Deferred) (st : Nat) (ex : List Byte), (t.complete d st ex).obj i = t.obj i :=
    fun t d st ex => State.obj_of_dict (by simp [State.complete_frame]) i
  exact State.obj_ite hop ((hcomplete ..).trans hop)

/-- Judging a command writes no object but RING_STAT, where its mirror item overflows (R329, R330). -/
theorem State.obj_submit_other (p : Pkt) (e : Nat) (hi : i ≠ Obj.RING_STAT) (h : ∀ q v, (op q v).st.obj i = v.obj i) :
    (s.submit p e op).obj i = s.obj i := by
  have hanswer : ∀ (t : State) (st : Nat), (t.answer p e st).obj i = t.obj i := fun t st =>
    State.obj_of_dict (by simp [State.answer_frame]) i
  have hdeliver : ∀ (t : State) (r : Reply), (t.deliver r).obj i = t.obj i := fun t r =>
    State.obj_of_dict (by simp [State.deliver_frame]) i
  have hcomplete : ∀ (t : State) (d : Deferred) (st : Nat), (t.complete d st []).obj i = t.obj i := fun t d st =>
    State.obj_of_dict (by simp [State.complete_frame]) i
  have hperform : ∀ (t : State) (d : Deferred), (t.perform d op).obj i = t.obj i := fun t d => t.obj_perform op d h
  have hnoted : (s.noteAccepted p).obj i = s.obj i := State.obj_of_dict (by simp [State.noteAccepted_frame]) i
  have htouched : ((s.noteAccepted p).touch p).obj i = s.obj i :=
    (State.obj_of_dict (by simp [State.touch_frame]) i).trans hnoted
  have hkept : ((s.noteAccepted p).remember p).obj i = s.obj i :=
    (State.obj_of_dict (by simp [State.remember_frame]) i).trans hnoted
  have hwatched : ∀ b, (((s.noteAccepted p).remember p).watchFrom p b).obj i = s.obj i := fun b =>
    (State.obj_of_dict (by simp [State.watchFrom_frame]) i).trans hkept
  unfold State.submit
  split
  · exact hanswer _ _
  · refine State.obj_ite (hanswer _ _) ?_
    dsimp only
    split
    · exact State.obj_ite ((hdeliver _ _).trans htouched) ((hanswer _ _).trans htouched)
    · split
      · exact htouched
      · split
        · exact (hcomplete _ _ _).trans hkept
        · refine State.obj_ite (State.obj_ite ?denied (State.obj_ite ?mirrored ?standby)) ?own
          case denied | own => exact (hperform _ _).trans hkept
          case mirrored => exact (State.obj_mirrorPut_other _ _ _ hi).trans (hwatched _)
          case standby => exact (hcomplete _ _ _).trans hkept

theorem effCmd_obj_other (p : Pkt) (hi : i ≠ Obj.RING_STAT) (h : ∀ q v, (op q v).st.obj i = v.obj i) :
    (effCmd p op s).obj i = s.obj i := by
  unfold effCmd
  split
  · cases he : s.takeEntry p with
    | none => rfl
    | some x =>
      exact (x.1.obj_submit_other op p x.2 hi h).trans (State.obj_of_dict (by simp [takeEntry_frame he]) i)
  · rfl

end CommandRules

section EngineObjects

variable (s : State) {i : Nat}

/-! ## Updates of contexts and units -/

theorem State.obj_holdSignals (k : Nat) : (s.holdSignals k).obj i = s.obj i := (rfl)

theorem State.obj_started (c u : Nat) (f : Ctx → Ctx) (b : Option (Nat × Stamp)) :
    ((s.modCtx c f).setBusy u b).obj i = s.obj i := (rfl)

/-! ## The opcodes: what is marked for the NOR keeps its value (R132) -/

theorem State.obj_keep (j : Nat) : (s.keep j).obj i = s.obj i := by
  unfold State.keep
  split
  · exact State.obj_ite rfl rfl
  · rfl

theorem State.obj_foldl_keep {α : Type} (f : α → Nat) (l : List α) : (l.foldl (fun t a => t.keep (f a)) s).obj i = s.obj i :=
  foldl_keep (fun t : State => t.obj i) _ (fun t a => t.obj_keep (f a)) l s

theorem State.obj_keepCtx (c : Nat) : (s.keepCtx c).obj i = s.obj i := by
  unfold State.keepCtx
  rw [State.obj_foldl_keep, State.obj_keep, State.obj_keep]

theorem State.obj_applyStaged (sess c : Nat) (g : Staged) : (s.applyStaged sess c g).obj i = s.obj i :=
  State.obj_ite rfl ((State.obj_keepCtx _ c).trans rfl)

theorem Res.obj_ite {c : Prop} [Decidable c] {a b : Res} {v : Nat} (ha : a.st.obj i = v) (hb : b.st.obj i = v) :
    (if c then a else b).st.obj i = v := by
  split
  · exact ha
  · exact hb

theorem opEngCommit_obj (p : Pkt) : (opEngCommit p s).st.obj i = s.obj i := by
  have happlied : (s.stagedSet.foldl (fun (t : State) e => t.applyStaged p.session.toNat e.1 e.2) s).obj i = s.obj i :=
    foldl_keep (fun t : State => t.obj i) _ (fun t (e : Nat × Staged) => t.obj_applyStaged _ e.1 e.2) _ s
  refine Res.obj_ite rfl (Res.obj_ite rfl (Res.obj_ite rfl (Res.obj_ite rfl
    (Res.obj_ite rfl (Res.obj_ite rfl (Res.obj_ite rfl ?_))))))
  split
  · rfl
  · exact Res.obj_ite rfl happlied

theorem opWriteCoef_obj (p : Pkt) : (opWriteCoef p s).st.obj i = s.obj i := by
  refine Res.obj_ite rfl (Res.obj_ite rfl (Res.obj_ite rfl (Res.obj_ite rfl ?_)))
  exact (State.obj_keep ..).trans (State.obj_ite rfl (State.obj_of_dict (by simp [State.refetch_frame]) i))

/-! ## The swap of a released image (R224) -/

theorem State.obj_swapDue (c : Nat) (hlog : i ≠ Obj.MGT_LOG_STAT) : (s.swapDue c).obj i = s.obj i := by
  unfold State.swapDue
  dsimp only
  split
  · exact State.obj_ite
      ((State.obj_post_other _ _ _ _ _ hlog).trans ((State.obj_foldl_keep _ _ _).trans rfl)) rfl
  · rfl

theorem effEngReleaseSwap_obj (c : Fin 64) (hlog : i ≠ Obj.MGT_LOG_STAT) : (effEngReleaseSwap c s).obj i = s.obj i :=
  State.obj_ite (s.obj_swapDue _ hlog) rfl

/-!
## A slice's reaction to a faulted context (R254, R257)

The rules on `OutsideReactions` leave the status words of gate links open, since a force writes them. No reaction here forces a
slice, so these words stand as well, and the reactions have rules of their own under `OutsideEngine`.
-/

/-- An object that no evaluation and no output write can reach. -/
structure OutsideEngine (i : Nat) : Prop where
  overruns : ∀ c, i ≠ ctxo c Obj.ENG_OVERRUN_CNT
  contexts : ∀ c, i ≠ ctxo c Obj.ENG_STAT
  log : i ≠ Obj.MGT_LOG_STAT
  discharge : ∀ k, i ≠ slc k Obj.SLC_DIS_RESULT
  group : ∀ k, i ≠ slc k Obj.SLC_GROUP_OUT
  status : ∀ k, i ≠ slc k Obj.SLC_STATUS

variable (hi : OutsideEngine i)

include hi

theorem State.obj_enter_outside (k : Nat) (st : SliceState) : (s.enter k st).obj i = s.obj i := by
  unfold State.enter
  extract_lets old rest f t x
  have ht : t.obj i = s.obj i := State.obj_ite rfl (by split <;> rfl)
  exact State.obj_ite ((State.obj_post_other _ _ _ _ _ hi.log).trans ht) ht

theorem State.obj_go_outside (k rank : Nat) (st : SliceState) (stop : Option (Nat × Nat)) :
    (s.go k rank st stop).obj i = s.obj i :=
  State.obj_ite rfl ((State.obj_enter_outside _ hi k st).trans rfl)

theorem State.obj_endDischarge_outside (k result : Nat) : (s.endDischarge k result).obj i = s.obj i := by
  unfold State.endDischarge
  split
  · exact (State.obj_post_other _ _ _ _ _ hi.log).trans (State.obj_setObj_other _ _ (hi.discharge k))
  · rfl

theorem State.obj_stop_outside (k mode cause : Nat) : (s.stop k mode cause).obj i = s.obj i := by
  have hgo : ∀ (t : State) (rank : Nat) (st : SliceState) (p : Option (Nat × Nat)), (t.go k rank st p).obj i = t.obj i :=
    fun t => t.obj_go_outside hi k
  have hend : ∀ t : State, (t.endDischarge k 2).obj i = t.obj i := fun t => t.obj_endDischarge_outside hi k 2
  unfold State.stop
  extract_lets t m
  have hrest : ∀ v : State, v.obj i = s.obj i →
      (if m = 2 then v.go k 1 .heldShort (some (2, cause)) else v.go k 2 .heldBlock (some (1, cause))).obj i = s.obj i :=
    fun v hv => State.obj_ite ((hgo ..).trans hv) ((hgo ..).trans hv)
  cases (t.sl k).st with
  | disabled | heldShort => rfl
  | armed | heldBlock => exact State.obj_ite (hgo ..) rfl
  | stopping => exact State.obj_ite rfl (hgo ..)
  | running =>
    have hramp : (t.go k 3 .stopping (some (0, cause))).obj i = s.obj i := hgo ..
    exact State.obj_ite (State.obj_ite hramp hramp) (hgo ..)
  | catching | engaging => exact hrest t rfl
  | discharging => exact hrest _ (hend t)

theorem State.obj_lossReact_outside (k : Nat) : (s.lossReact k).obj i = s.obj i := by
  unfold State.lossReact
  refine State.obj_ite rfl ?_
  extract_lets t v
  have hv : v.obj i = s.obj i := State.obj_ite (s.obj_endDischarge_outside hi k 2) rfl
  refine State.obj_ite ((State.obj_go_outside _ hi ..).trans hv) ?_
  cases (v.sl k).st with
  | catching | engaging | running | stopping | discharging => exact (State.obj_go_outside _ hi ..).trans hv
  | disabled | armed | heldBlock | heldShort => exact hv

theorem State.obj_ctxReact_outside (c : Nat) : (s.ctxReact c).obj i = s.obj i :=
  State.obj_ite rfl (State.obj_ite (s.obj_lossReact_outside hi _)
    (State.obj_ite (s.obj_lossReact_outside hi _) (State.obj_ite (s.obj_stop_outside hi ..) rfl)))

/-! ## Faults of a context, overruns and results (R205, R208, R211, R212) -/

theorem State.obj_ctxFault_outside (c cause : Nat) : (s.ctxFault c cause).obj i = s.obj i := by
  refine State.obj_ite rfl ((State.obj_ctxReact_outside _ hi c).trans ?_)
  exact (State.obj_post_other _ _ _ _ _ hi.log).trans
    (State.obj_ite (State.obj_setFlag_other _ _ (hi.contexts c)) rfl)

theorem State.obj_overrun_outside (c : Nat) (last : Stamp) : (s.overrun c last).obj i = s.obj i := by
  have hcounted : ((s.setFlag (ctxo c Obj.ENG_STAT) 1).bump (ctxo c Obj.ENG_OVERRUN_CNT) 0xFFFFFFFF).obj i = s.obj i :=
    (State.obj_bump_other _ _ (hi.overruns c)).trans (State.obj_setFlag_other _ _ (hi.contexts c))
  exact State.obj_ite ((State.obj_ctxFault_outside _ hi c 0).trans hcounted) hcounted

theorem State.obj_evalHeld_outside (c : Nat) (e : Eval) : (s.evalHeld c e).obj i = s.obj i := by
  unfold State.evalHeld
  dsimp only
  split
  · exact s.obj_ctxFault_outside hi c 1
  · exact (State.obj_putFlag_other _ _ _ (hi.contexts c)).trans (State.obj_putFlag_other _ _ _ (hi.contexts c))

theorem State.obj_takeReady_outside (c : Nat) : (s.takeReady c).obj i = s.obj i := by
  refine State.obj_ite rfl ?_
  split
  · exact s.obj_evalHeld_outside hi c _
  · rfl

/-! ## The group and the torque (R227, R228, R242) -/

theorem State.obj_torqueToCurrent_outside (k : Nat) : (s.torqueToCurrent k).obj i = s.obj i :=
  State.obj_putFlag_other _ _ _ (hi.status k)

theorem State.obj_groupDecide_outside (k : Nat) : (s.groupDecide k).obj i = s.obj i := by
  unfold State.groupDecide
  extract_lets members x neg sg val low low' flo
  split
  · rfl
  · extract_lets win tr t1 t2 t3
    have ht1 : t1.obj i = s.obj i := State.obj_of_dict (foldl_dict _ _ _ (by intros; rfl)) i
    have ht3 : t3.obj i = s.obj i := (State.obj_setObj_other _ _ (hi.group k)).trans ht1
    exact State.obj_ite ht3 ((State.obj_holdSignals ..).trans
      ((State.obj_torqueToCurrent_outside _ hi k).trans ht3))

/-! ## Triggers and output writes (R208, R209, R215, R230) -/

theorem State.obj_trigger_outside (c : Nat) (x : Stamp) : (s.trigger c x).obj i = s.obj i := by
  unfold State.trigger
  extract_lets t y h k t1 t2 shed kept t3 fast busy
  have ht : t.obj i = s.obj i := s.obj_takeReady_outside hi c
  have ht1 : t1.obj i = s.obj i := State.obj_ite ht ht
  have ht3 : t3.obj i = s.obj i := State.obj_ite ht1 ht1
  have hlate : (t3.setFlag (ctxo c Obj.ENG_STAT) 2).obj i = s.obj i :=
    (State.obj_setFlag_other _ _ (hi.contexts c)).trans ht3
  exact State.obj_ite hlate (State.obj_ite ((State.obj_overrun_outside _ hi ..).trans hlate) ht3)

theorem State.obj_engageCheck_outside (k : Nat) : (s.engageCheck k).obj i = s.obj i := by
  have hgo : (s.go k 5 .running none).obj i = s.obj i := s.obj_go_outside hi ..
  exact State.obj_ite
    (State.obj_ite ((State.obj_post_other _ _ _ _ _ hi.log).trans hgo) hgo) rfl

theorem State.obj_writeAll_outside (k : Nat) (ws : List Write) : (s.writeAll k ws).obj i = s.obj i := by
  unfold State.writeAll
  extract_lets t1 t2 t3 t4
  have ht1 : t1.obj i = s.obj i := State.obj_of_dict (foldl_dict _ _ _ (by intros; rfl)) i
  have ht2 : t2.obj i = s.obj i := State.obj_ite ((t1.obj_groupDecide_outside hi k).trans ht1) ht1
  have ht3 : t3.obj i = t2.obj i := foldl_keep (fun t : State => t.obj i) _
    (fun t w => State.obj_of_dict (by simp [State.evalRecord_frame]) i) ws t2
  have hchain : ∀ (t : State) (w : Write), (t.chainFrom w.ctx).obj i = t.obj i := fun t w =>
    foldl_keep (fun t : State => t.obj i) _ (fun t d => State.obj_ite (t.obj_trigger_outside hi d _) rfl) _ t
  have ht4 : t4.obj i = t3.obj i := foldl_keep (fun t : State => t.obj i) _ hchain ws t3
  rw [State.obj_engageCheck_outside _ hi, ht4, ht3, ht2]

theorem State.obj_takeOutput_outside (c : Nat) : (s.takeOutput c).1.obj i = s.obj i := by
  unfold State.takeOutput
  extract_lets t x
  have ht : t.obj i = s.obj i := s.obj_takeReady_outside hi c
  split
  · exact ht
  · next e _ =>
    have hheld : (t.evalHeld c e).obj i = s.obj i := (t.obj_evalHeld_outside hi c e).trans ht
    split
    · split
      · exact hheld
      · exact hheld
    · split
      · exact ht
      · exact (State.obj_overrun_outside _ hi ..).trans ((State.obj_setFlag_other _ _ (hi.contexts c)).trans ht)

theorem State.obj_takeWrites_outside (c : Nat) : (s.takeWrites c).1.obj i = s.obj i := s.obj_takeOutput_outside hi c

theorem State.obj_takeAll_outside (l : List Nat) : (State.takeAll l s).1.obj i = s.obj i := by
  induction l generalizing s with
  | nil => rfl
  | cons c l ih => exact (ih _).trans (s.obj_takeWrites_outside hi c)

theorem State.obj_outputsWith_outside (c : Nat) : (s.outputsWith c).obj i = s.obj i :=
  State.obj_ite ((State.obj_writeAll_outside _ hi ..).trans (s.obj_takeAll_outside hi _)) rfl

/-! ## The events of a matrix unit (R206 to R210) -/

theorem State.obj_takeResults_outside (u : Nat) : (s.takeResults u).obj i = s.obj i :=
  foldl_keep (fun t : State => t.obj i) _ (fun t c => by
    split
    · exact State.obj_ite (t.obj_outputsWith_outside hi c) (t.obj_evalHeld_outside hi c _)
    · rfl) _ s

theorem State.obj_writesFirst_outside : s.writesFirst.obj i = s.obj i :=
  (foldl_keep (fun t : State => t.obj i) _ (fun t c => t.obj_outputsWith_outside hi c) _ _).trans
    ((State.obj_takeResults_outside _ hi 1).trans (s.obj_takeResults_outside hi 0))

theorem effEngEvalStart_obj (unit : Fin 2) : (effEngEvalStart unit s).obj i = s.obj i := by
  have hswap : ∀ c, (s.writesFirst.swapDue c).obj i = s.obj i := fun c =>
    (State.obj_swapDue _ c hi.log).trans (s.obj_writesFirst_outside hi)
  unfold effEngEvalStart
  refine State.obj_ite ?_ rfl
  dsimp only
  split
  · exact s.obj_writesFirst_outside hi
  · exact (State.obj_started ..).trans (hswap _)

theorem effEngEvalDone_obj (unit : Fin 2) : (effEngEvalDone unit s).obj i = s.obj i := by
  refine (State.obj_takeResults_outside _ hi _).trans ?_
  split
  · exact State.obj_ite rfl rfl
  · rfl

theorem effEngOutputWrite_obj (c : Fin 64) : (effEngOutputWrite c s).obj i = s.obj i := s.obj_outputsWith_outside hi c.val

end EngineObjects

/-- Settles O45: the parts from what each effect leaves, the objects from the lemmas above. -/
theorem engineFrames : Obligations.EngineFrames := by
  unfold Obligations.EngineFrames
  refine ⟨?opcodes, ?swap, ?unit⟩
  case opcodes =>
    rintro s t dt c (⟨p, rfl⟩ | ⟨p, rfl⟩ | ⟨p, rfl⟩ | ⟨p, rfl⟩ | ⟨p, rfl⟩ | ⟨p, rfl⟩ | ⟨p, rfl⟩ | ⟨p, rfl⟩ | ⟨p, rfl⟩ |
      ⟨p, rfl⟩) ht <;> obtain rfl := Host.Outcome.next.inj ht
    case inl | inr.inl =>
      exact ⟨State.eq_of_parts (by simp [opDefineContext_frame]), fun i hi =>
        effCmd_obj_other _ _ _ hi fun q v => State.obj_of_dict (by simp [opDefineContext_frame]) i⟩
    · exact ⟨State.eq_of_parts (by simp [opWriteCoef_frame]), fun i hi =>
        effCmd_obj_other _ _ _ hi fun q v => opWriteCoef_obj v q⟩
    · exact ⟨State.eq_of_parts (by simp [opFreeze_frame]), fun i hi =>
        effCmd_obj_other _ _ _ hi fun q v => State.obj_of_dict (by simp [opFreeze_frame]) i⟩
    · exact ⟨State.eq_of_parts (by simp [opRelease_frame]), fun i hi =>
        effCmd_obj_other _ _ _ hi fun q v => State.obj_of_dict (by simp [opRelease_frame]) i⟩
    · exact ⟨State.eq_of_parts (by simp [opSeedState_frame]), fun i hi =>
        effCmd_obj_other _ _ _ hi fun q v => State.obj_of_dict (by simp [opSeedState_frame]) i⟩
    · exact ⟨State.eq_of_parts (by simp [opEngLink_frame]), fun i hi =>
        effCmd_obj_other _ _ _ hi fun q v => State.obj_of_dict (by simp [opEngLink_frame]) i⟩
    · exact ⟨State.eq_of_parts (by simp [opEngGroup_frame]), fun i hi =>
        effCmd_obj_other _ _ _ hi fun q v => State.obj_of_dict (by simp [opEngGroup_frame]) i⟩
    · exact ⟨State.eq_of_parts (by simp [opEngCommit_frame]), fun i hi =>
        effCmd_obj_other _ _ _ hi fun q v => opEngCommit_obj v q⟩
    · exact ⟨State.eq_of_parts (by simp [opEngCommit_frame]), fun i hi =>
        effCmd_obj_other _ _ _ hi fun q v => opEngCommit_obj v q⟩
  case swap =>
    rintro s t dt c ⟨n, rfl⟩ ht
    obtain rfl := Host.Outcome.next.inj ht
    exact ⟨State.eq_of_parts (by simp [effEngReleaseSwap_frame]), fun i hi => effEngReleaseSwap_obj _ n hi⟩
  case unit =>
    rintro s t dt c (⟨n, rfl⟩ | ⟨n, rfl⟩ | ⟨n, rfl⟩) ht <;> obtain rfl := Host.Outcome.next.inj ht
    · exact ⟨State.eq_of_parts (by simp [effEngEvalStart_frame]), fun i ho hs hl hd hg hst =>
        (s.run_obj dt _ i).trans (effEngEvalStart_obj _ ⟨ho, hs, hl, hd, hg, hst⟩ n)⟩
    · exact ⟨State.eq_of_parts (by simp [effEngEvalDone_frame]), fun i ho hs hl hd hg hst =>
        (s.run_obj dt _ i).trans (effEngEvalDone_obj _ ⟨ho, hs, hl, hd, hg, hst⟩ n)⟩
    · exact ⟨State.eq_of_parts (by simp [effEngOutputWrite_frame]), fun i ho hs hl hd hg hst =>
        (s.run_obj dt _ i).trans (effEngOutputWrite_obj _ ⟨ho, hs, hl, hd, hg, hst⟩ n)⟩

end Sys2Proof.Machine
end

section
/-!
The engine's events on one context (R205 to R210, R224): a released image is swapped in, a free unit starts the ready evaluation,
an ended one advances the context's state, and its output is written at the output stamp. O19 is put together from these.
-/

namespace Sys2Proof.Machine

open Sys2Proof

section EventRules

variable (s : State)

/-! ## One context after a write to it or to another -/

@[simp] theorem State.ctx_modCtx_same (c : Nat) (f : Ctx → Ctx) : (s.modCtx c f).ctx c = f (s.ctx c) := bget_bset_same _ _ _ _

theorem State.ctx_modCtx_other {c d : Nat} (f : Ctx → Ctx) (h : d ≠ c) : (s.modCtx c f).ctx d = s.ctx d :=
  bget_bset_other _ _ _ h

theorem State.ctx_of_eng {s t : State} (h : t.eng = s.eng) (c : Nat) : t.ctx c = s.ctx c := by
  simp only [State.ctx, h]

theorem State.run_ctx (dt : Nat) (f : State → State) (c : Nat) : (s.run dt f).ctx c = (f (s.elapse dt)).ctx c := (rfl)

/-! ## The swap of a released image (R224) -/

theorem State.swapDue_swaps {c : Nat} {a : Stamp} {img : Bank F32} (hr : (s.ctx c).release = some a)
    (hp : (s.ctx c).pendCoef = some img) (ha : a ≤ s.now) :
    ((s.swapDue c).ctx c).coef = img ∧ ((s.swapDue c).ctx c).pendCoef = none ∧ ((s.swapDue c).ctx c).release = none ∧
      ((s.swapDue c).ctx c).freezeSess = 0xFF := by
  have heng : ∀ (t : State) (l : List Nat) (src code unit data : Nat),
      ((l.foldl (fun (v : State) w => v.keep (ctxo c (Obj.ENG_COEF + w))) t).post src code unit data).ctx c = t.ctx c :=
    fun t l src code unit data => State.ctx_of_eng (by simp [State.post_frame, State.keep_frame]) c
  simp only [State.swapDue, hr, hp, if_pos ha, heng, State.ctx_modCtx_same, and_self]

theorem State.swapDue_of_not_released {c : Nat} (hr : (s.ctx c).release = none) : s.swapDue c = s := by
  simp only [State.swapDue, hr]

theorem effEngReleaseSwap_eq {c : Fin 64} {unit : Fin 2} {e : Eval} (ho : s.unitOpen unit.val = true)
    (hn : s.nextEval unit.val = some (c.val, e)) : effEngReleaseSwap c s = s.swapDue c.val :=
  if_pos (List.any_eq_true.mpr ⟨unit.val, List.mem_range.mpr unit.isLt, by simp [ho, hn]⟩)

/-! ## The start of an evaluation (R206, R207, R209) -/

theorem State.unitOpen_of_free {u : Nat} (hr : s.isReady = true) (hb : s.eng.busy.getD u none = none)
    (hf : s.fenced (6 + u) = false) (ht : s.throttled = false) : s.unitOpen u = true := by
  simp only [State.unitOpen, hr, hb, hf, ht, Option.isNone_none, Bool.and_false, Bool.false_and, Bool.or_self, Bool.not_false,
    Bool.and_self]

theorem State.writesFirst_now : s.writesFirst.now = s.now := by
  obtain ⟨-, htime, -⟩ := s.writesFirst_frame
  exact congrArg Time.ctr htime

/-- The evaluation that a unit takes, with its fetch made now. -/
def State.startEval (c u : Nat) (e : Eval) : State :=
  (s.modCtx c fun x => { x with evals := x.evals.map fun a => if a = e then s.fetched c e else a }).setBusy u
    (some (c, s.now + 10 * hCycles (s.ctx c).hdr))

theorem effEngEvalStart_eq {w : State} {unit : Fin 2} {c : Nat} {e : Eval} (ho : s.unitOpen unit.val = true)
    (hw : w = s.writesFirst) (hn : w.nextEval unit.val = some (c, e)) (hr : (w.ctx c).release = none) :
    effEngEvalStart unit s = w.startEval c unit.val e := by
  rw [hw] at hn hr ⊢
  simp only [effEngEvalStart, ho, if_true, hn, State.swapDue_of_not_released _ hr, State.startEval]

theorem State.startEval_starts {c u : Nat} {e : Eval} (hu : u < s.eng.busy.length) (he : (s.ctx c).evals = [e]) :
    (s.startEval c u e).eng.busy.getD u none = some (c, s.now + 10 * hCycles (s.ctx c).hdr) ∧
    ((s.startEval c u e).ctx c).evals = [s.fetched c e] ∧ ((s.startEval c u e).ctx c).xhat = (s.ctx c).xhat := by
  have hctx : (s.startEval c u e).ctx c =
      { s.ctx c with evals := (s.ctx c).evals.map fun a => if a = e then s.fetched c e else a } := bget_bset_same _ _ _ _
  refine ⟨?_, ?_, ?_⟩
  · simp [State.startEval, State.setBusy, State.modCtx, State.setCtx, List.getD_eq_getElem?_getD, hu]
  · simp [hctx, he]
  · rw [hctx]

/-! ## The end of an evaluation (R205, R208) -/

/-- A finite result of a FIXED_PHASE context advances its state and is held until its output stamp. -/
theorem State.evalHeld_advances {c : Nat} {e : Eval} {ul xn zn : List F32} {lim stp : Bool} (he : (s.ctx c).evals = [e])
    (hr : e.result = some (ul, xn, zn, lim, stp)) (hf : hEarly (s.ctx c).hdr = false) (hs : (s.ctx c).waitSeed = none) :
    ((s.evalHeld c e).ctx c).evals = [{ e with done := true }] ∧ ((s.evalHeld c e).ctx c).xhat = padTo 8 xn ∧
    ((s.evalHeld c e).ctx c).z = padTo 4 zn ∧ ((s.evalHeld c e).ctx c).consec = 0 ∧
    ((s.evalHeld c e).ctx c).out = (s.ctx c).out := by
  have hflags : ∀ (t : State) (i : Nat), ((t.putFlag i 4 lim).putFlag i 5 stp).ctx c = t.ctx c := fun t i =>
    State.ctx_of_eng (by simp) c
  simp [State.evalHeld, hr, hflags, hf, hs, he, Ctx.settled]

theorem State.evalHeld_other {c d : Nat} {e : Eval} (hr : e.result.isSome = true) (h : d ≠ c) :
    (s.evalHeld c e).ctx d = s.ctx d := by
  obtain ⟨⟨ul, xn, zn, lim, stp⟩, hr⟩ := Option.isSome_iff_exists.mp hr
  have hflags : ∀ (t : State) (i : Nat), ((t.putFlag i 4 lim).putFlag i 5 stp).ctx d = t.ctx d := fun t i =>
    State.ctx_of_eng (by simp) d
  simp only [State.evalHeld, hr, hflags, State.ctx_modCtx_other _ _ h]

theorem State.evalHeld_busy {c : Nat} {e : Eval} (hr : e.result.isSome = true) :
    (s.evalHeld c e).eng.busy = s.eng.busy := by
  obtain ⟨⟨ul, xn, zn, lim, stp⟩, hr⟩ := Option.isSome_iff_exists.mp hr
  simp only [State.evalHeld, hr, State.putFlag_eng]
  rfl

theorem State.setBusy_none (u : Nat) : (s.setBusy u none).eng.busy.getD u none = none := by
  by_cases h : u < s.eng.busy.length
  · simp [State.setBusy, List.getD_eq_getElem?_getD, h]
  · simp [State.setBusy, List.getD_eq_getElem?_getD, h]

/-- A loop in which no element changes anything. -/
theorem foldl_of_fixed {α β : Type} {g : β → α → β} {b : β} : ∀ {l : List α}, (∀ a ∈ l, g b a = b) → l.foldl g b = b
  | [], _ => rfl
  | a :: l, h => by
    rw [List.foldl_cons, h a List.mem_cons_self]
    exact foldl_of_fixed fun x hx => h x (List.mem_cons_of_mem a hx)

/-- A loop over distinct elements of which one alone changes something. -/
theorem foldl_of_single {α β : Type} {g : β → α → β} {b : β} {l : List α} {a : α} (hl : l.Nodup) (ha : a ∈ l)
    (hb : ∀ x ∈ l, x ≠ a → g b x = b) (hg : ∀ x ∈ l, x ≠ a → g (g b a) x = g b a) : l.foldl g b = g b a := by
  obtain ⟨l, r, rfl⟩ := List.append_of_mem ha
  obtain ⟨-, hr, hdisjoint⟩ := List.nodup_append.mp hl
  have hleft : ∀ x ∈ l, g b x = b := fun x hx => hb x (by simp [hx]) (hdisjoint x hx a List.mem_cons_self)
  have hright : ∀ x ∈ r, g (g b a) x = g b a := fun x hx =>
    hg x (by simp [hx]) fun h => (List.nodup_cons.mp hr).1 (h ▸ hx)
  rw [List.foldl_append, foldl_of_fixed hleft, List.foldl_cons, foldl_of_fixed hright]

theorem State.readyOn_of_no_evals {c : Nat} (u : Nat) (h : (s.ctx c).evals = []) : s.readyOn u c = none := by
  simp only [State.readyOn, h, List.find?_nil]

theorem State.readyOn_ready {c u : Nat} {e : Eval} {f r : Stamp} (he : (s.ctx c).evals = [e]) (hu : e.unit = u)
    (hd : e.done = false) (hst : e.started = some (f, r)) (hf : hEarly (s.ctx c).hdr = false)
    (ho : r ≤ s.outAt (outStamp (s.ctx c).hdr e.sample)) : s.readyOn u c = some e := by
  simp [State.readyOn, he, hu, hd, hf, Eval.readyBy, hst, ho]

/-- The one result that is ready on a unit is taken. -/
theorem State.takeResults_single {c u : Nat} {e : Eval} (hc : c < 64) (hr : s.readyOn u c = some e)
    (hf : hEarly (s.ctx c).hdr = false) (hres : e.result.isSome = true) (hother : ∀ d < 64, d ≠ c → (s.ctx d).evals = []) :
    s.takeResults u = s.evalHeld c e := by
  have hheld : ∀ d < 64, d ≠ c → ((s.evalHeld c e).ctx d).evals = [] := fun d hd h => by
    rw [s.evalHeld_other hres h, hother d hd h]
  have hloop : s.takeResults u = _ := foldl_of_single List.nodup_range (List.mem_range.mpr hc)
    (fun d hd h => by rw [s.readyOn_of_no_evals u (hother d (List.mem_range.mp hd) h)])
    (fun d hd h => by
      simp only [hr, hf, Bool.false_eq_true, if_false]
      rw [State.readyOn_of_no_evals _ u (hheld d (List.mem_range.mp hd) h)])
  rw [hloop]
  simp only [hr, hf, Bool.false_eq_true, if_false]

/-- The end of a unit's evaluation: the unit is free, and its results are taken. -/
theorem effEngEvalDone_eq {unit : Fin 2} {c : Nat} {r : Stamp} (hb : s.eng.busy.getD unit.val none = some (c, r))
    (hr : r ≤ s.now) : effEngEvalDone unit s = (s.setBusy unit.val none).takeResults unit.val := by
  simp only [effEngEvalDone, hb, if_pos hr]

/-! ## Output writes (R208, R209, R215) -/

/-- A context whose output alone is due in its slice is written alone. -/
theorem State.outputsWith_single {c : Nat}
    (h : (s.ctxWith fun x => hSlice x = hSlice (s.ctx c).hdr).filter s.hasWrite = [c]) :
    s.outputsWith c = (s.takeWrites c).1.writeAll (hSlice (s.ctx c).hdr) (s.takeWrites c).2 := by
  have hc : s.hasWrite c = true := (List.mem_filter.mp (h ▸ List.mem_cons_self : c ∈ List.filter s.hasWrite _)).2
  simp only [State.outputsWith, hc, if_true, h, State.takeAll, List.append_nil]

/-- Context `c` has one write to deliver, `w`, and stands as `x` once it is taken; the other contexts stand as before. -/
structure State.TakesOne (s : State) (c : Nat) (w : Write) (x : Ctx) : Prop where
  writes : (s.takeWrites c).2 = [w]
  own : w.ctx = c
  now : (s.takeWrites c).1.now = s.now
  taken : (s.takeWrites c).1.ctx c = x
  hdr : x.hdr = (s.ctx c).hdr
  others : ∀ d ≠ c, (s.takeWrites c).1.ctx d = s.ctx d

theorem State.takeReady_of_all_done {c : Nat} (h : ∀ e ∈ (s.ctx c).evals, e.done = true) : s.takeReady c = s := by
  have hnone : ∀ t : Eval → Stamp, (s.ctx c).evals.find? (fun e => !e.done && e.readyBy (t e)) = none := fun t =>
    List.find?_eq_none.mpr fun e he => by simp [h e he]
  simp only [State.takeReady, hnone, ite_self]

/-- The write of a held result. -/
def heldWrite (c : Nat) (e : Eval) (ul : List F32) (lim stp : Bool) : Write :=
  { ctx := c, sample := e.sample, u := ul, fetch := e.started.map (·.1), unit := e.unit,
    flags := b2n e.priming + 8 * b2n lim + 16 * b2n stp }

/-- The result that a context holds is its one write at the output stamp, and is held no longer. -/
theorem State.takeWrites_held {c : Nat} {e : Eval} {ul xn zn : List F32} {lim stp : Bool} (he : (s.ctx c).evals = [e])
    (hrep : (s.ctx c).repeats = []) (hd : e.done = true) (hr : e.result = some (ul, xn, zn, lim, stp))
    (hf : hEarly (s.ctx c).hdr = false) (ho : outStamp (s.ctx c).hdr e.sample ≤ s.now) :
    s.TakesOne c (heldWrite c e ul lim stp) { s.ctx c with evals := [], repeats := [] } := by
  have hready : s.takeReady c = s := s.takeReady_of_all_done (by simp [he, hd])
  have hout : s.takeOutput c =
      (s.modCtx c fun x => { x with evals := x.evals.erase e }, [heldWrite c e ul lim stp]) := by
    simp [State.takeOutput, hready, he, State.writesNow, hf, ho, hd, hr, heldWrite]
  refine ⟨?writes, rfl, ?now, ?taken, rfl, fun d hne => ?others⟩ <;> simp only [State.takeWrites, hout, State.takeRepeats]
  case writes => simp [hrep]
  case now => rfl
  case taken => simp [he, hrep]
  case others => rw [State.ctx_modCtx_other _ _ hne, State.ctx_modCtx_other _ _ hne]

/-- The write of a repeat. -/
def repeatWrite (c unit : Nat) (x : Ctx) (b : Stamp) (late shed : Bool) : Write :=
  { ctx := c, sample := b, u := x.out, fetch := none, unit := unit, flags := repFlags late shed x.fault }

/-- A repeat that is due is the one write of a context without evaluations, and is due no longer. -/
theorem State.takeWrites_repeat {c : Nat} {a b : Stamp} {late shed : Bool} (he : (s.ctx c).evals = [])
    (hrep : (s.ctx c).repeats = [(a, b, late, shed)]) (ha : a ≤ s.now) :
    s.TakesOne c (repeatWrite c (s.unitFor (s.ctx c).hdr) (s.ctx c) b late shed) { s.ctx c with repeats := [] } := by
  have hready : s.takeReady c = s := s.takeReady_of_all_done (by simp [he])
  have hout : s.takeOutput c = (s, []) := by simp [State.takeOutput, hready, he]
  have hlater : ¬ s.now < a := Nat.not_lt.mpr ha
  refine ⟨?writes, rfl, ?now, ?taken, rfl, fun d hne => ?others⟩ <;> simp only [State.takeWrites, hout, State.takeRepeats]
  case writes => simp [hrep, ha, repeatWrite]
  case now => rfl
  case taken => simp [hrep, hlater]
  case others => exact State.ctx_modCtx_other _ _ hne

theorem State.deliverOut_ctx_same (w : Write) : (s.deliverOut w).ctx w.ctx =
    { s.ctx w.ctx with out := padTo 4 w.u, lastSample := w.sample, lastOutput := s.now, outAt := s.now } :=
  bget_bset_same _ _ _ _

theorem State.deliverOut_hdr (w : Write) (d : Nat) : ((s.deliverOut w).ctx d).hdr = (s.ctx d).hdr := by
  by_cases h : d = w.ctx
  · rw [h, State.deliverOut_ctx_same]
  · exact congrArg Ctx.hdr (bget_bset_other _ _ _ h)

/-- Chains follow the headers alone. -/
theorem State.chained_of_hdr {s t : State} (h : ∀ d, (t.ctx d).hdr = (s.ctx d).hdr) (c : Nat) : t.chained c = s.chained c := by
  simp only [State.chained, State.ctxWith, h]

/-- One write of a context that is in no group and starts no other leaves the contexts as its delivery has left them. -/
theorem State.writeAll_ctx {w : Write} (k : Nat) (hm : hMember (s.ctx w.ctx).hdr = false) (hc : s.chained w.ctx = []) (d : Nat) :
    (s.writeAll k [w]).ctx d = (s.deliverOut w).ctx d := by
  have hrecord : ((s.deliverOut w).evalRecord w).eng = (s.deliverOut w).eng := by simp [State.evalRecord_frame]
  have hchain : ((s.deliverOut w).evalRecord w).chainFrom w.ctx = (s.deliverOut w).evalRecord w := by
    have hnone : ((s.deliverOut w).evalRecord w).chained w.ctx = [] := (State.chained_of_hdr (fun d => by
      rw [State.ctx_of_eng hrecord, State.deliverOut_hdr]) w.ctx).trans hc
    simp only [State.chainFrom, hnone, List.foldl_nil]
  refine State.ctx_of_eng ?_ d
  simp [State.writeAll, State.deliverOut_hdr, hm, hchain, State.engageCheck_frame, hrecord]

/-- What an output write leaves of its context: the outputs and the stamps of the write that it had to deliver (R208). -/
theorem State.outputsWith_ctx {c : Nat} {w : Write} {x : Ctx} (h : s.TakesOne c w x) (hm : hMember (s.ctx c).hdr = false)
    (hc : s.chained c = []) (hd : (s.ctxWith fun x => hSlice x = hSlice (s.ctx c).hdr).filter s.hasWrite = [c]) :
    (s.outputsWith c).ctx c = { x with out := padTo 4 w.u, lastSample := w.sample, lastOutput := s.now, outAt := s.now } := by
  obtain ⟨hwrites, rfl, hnow, htaken, hhdr, hothers⟩ := h
  have hheaders : ∀ d, ((s.takeWrites w.ctx).1.ctx d).hdr = (s.ctx d).hdr := fun d => by
    by_cases hne : d = w.ctx
    · rw [hne, htaken, hhdr]
    · rw [hothers d hne]
  rw [s.outputsWith_single hd, hwrites, State.writeAll_ctx _ _ (by rw [hheaders, hm]) (by rw [State.chained_of_hdr hheaders, hc]),
    State.deliverOut_ctx_same, htaken, hnow]

end EventRules

/-- Settles O19: each event through the lemma that says which step of the engine it is on one context. -/
theorem engineEventsComplete : Obligations.EngineEventsComplete := by
  unfold Obligations.EngineEventsComplete
  refine ⟨?swap, ?start, ?done, ?write, ?rep⟩
  case swap =>
    rintro s _ dt c a img unit e rfl hr ha hp ho hn
    refine ⟨_, rfl, ?_⟩
    rw [State.run_ctx, effEngReleaseSwap_eq _ ho hn]
    exact State.swapDue_swaps _ hr hp ha
  case start =>
    rintro s _ dt unit c e w rfl hr hb hf ht hw hlen hn he hrel
    have hnow : w.now = (s.elapse dt).now := by rw [hw, State.writesFirst_now]
    obtain ⟨hbusy, hevals, hxhat⟩ := State.startEval_starts _ (by rw [hlen]; exact unit.isLt) he
    refine ⟨_, rfl, ?_⟩
    rw [State.run_eng, State.run_ctx, effEngEvalStart_eq _ (State.unitOpen_of_free _ hr hb hf ht) hw hn hrel, hbusy, hevals, hnow]
    refine ⟨rfl, ?_, hxhat⟩
    simp [State.fetched, hnow]
  case done =>
    rintro s _ dt unit c e f r ul xn zn lim stp rfl - hb hr hc he hu hd hst hres hearly hout hseed - hother
    have hnone : ∀ d < 64, d ≠ c → ((s.elapse dt).ctx d).evals = [] := fun d hd hne => by
      simpa [hne] using List.all_eq_true.mp hother d (List.mem_range.mpr hd)
    have hready : ((s.elapse dt).setBusy unit.val none).readyOn unit.val c = some e :=
      State.readyOn_ready _ he hu hd hst hearly hout
    have htaken := effEngEvalDone_eq _ hb hr
    rw [State.takeResults_single _ hc hready hearly (by simp [hres]) hnone] at htaken
    obtain ⟨hevals, hxhat, hz, hconsec, hkept⟩ := ((s.elapse dt).setBusy unit.val none).evalHeld_advances he hres hearly hseed
    refine ⟨_, rfl, ?_⟩
    rw [State.run_eng, State.run_ctx, htaken]
    refine ⟨?_, hevals, hxhat, hz, hconsec, hkept⟩
    rw [State.evalHeld_busy _ (by simp [hres])]
    exact State.setBusy_none _ _
  case write =>
    rintro s _ dt c e ul xn zn lim stp rfl - he hrep hd hr hf ho hm hch hdue
    refine ⟨_, rfl, ?_⟩
    rw [State.run_ctx, effEngOutputWrite, State.outputsWith_ctx _ (State.takeWrites_held _ he hrep hd hr hf ho) hm hch hdue]
    exact ⟨rfl, rfl, rfl, rfl⟩
  case rep =>
    rintro s _ dt c a b late shed rfl - he hrep ha hm hch hdue
    refine ⟨_, rfl, ?_⟩
    rw [State.run_ctx, effEngOutputWrite, State.outputsWith_ctx _ (State.takeWrites_repeat _ he hrep ha) hm hch hdue]
    exact ⟨rfl, rfl, rfl, rfl⟩

end Sys2Proof.Machine
end
